-- ==== Sys2Proof/Word.lean ====
section
/-! DEFINITION. The word types of the PSL-2432: 32-bit register words (R27), bytes, and half words, with their plainest readings. -/

namespace Sys2Proof

/-- A 32-bit register word (R27). -/
abbrev Word := BitVec 32

/-- One byte of an engine memory, a frame or a transaction. -/
abbrev Byte := BitVec 8

/-- A 16-bit half word: cell voltages, temperatures, epochs and CRC-16 values. -/
abbrev Half := BitVec 16

end Sys2Proof
end

