-- ==== Sys2Proof/Syntax.lean ====
section
/-! DEFINITION. The commands of the block: one constructor of `Instr` for each row of spec/opcode_table.json, with the data the command brings from outside (a pin's event, a bus value, the words of a transaction). The table gives its rows no bits, so a command's operands are named here from the rule its row cites. -/

namespace Sys2Proof

/-- The regions whose brown-out is a device reset (Table 3-7, bit 4). -/
inductive CoreRegion where
  | core | est | nv
  deriving DecidableEq, Repr

/-- The regions that reset alone when their own supply leaves its window (Table 3-11, R552). -/
inductive OwnRegion where
  | porta | portb | link | rail | hv
  deriving DecidableEq, Repr

/-- The PLLs of Table 3-10, in the bit order of CLKPWR.PLL_STAT. -/
inductive Pll where
  | cpll | ppll | lpll | epll
  deriving DecidableEq, Repr

/-- Who asks for a page transaction: the ports of R52 and Table 2-8. `src` is the CAN source byte or the PLCA node ID. -/
inductive Requester where
  | spi
  | can (n : Fin 4) (src : Byte)
  | t1s (src : Byte)
  | firmware
  deriving DecidableEq, Repr

/-- A port that carries messages (Table 17-4). -/
inductive MsgPort where
  | can (n : Fin 4)
  | t1s
  deriving DecidableEq, Repr

/-- The message identifier's DST, SRC and TAG (chapter 17, Message identifiers), the sender's PLCA node ID (T1S only, R512), and the body's CRC-16 (R509). -/
structure MsgHead where
  port : MsgPort
  dst : Byte
  src : Byte
  tag : Byte
  node : Byte
  crc : Half
  deriving DecidableEq, Repr

/-- A page whose counters PORT_CNT_CLR clears (R525, R526, R528). -/
inductive PortPage where
  | can (n : Fin 4)
  | t1s
  | spi
  deriving DecidableEq, Repr

/-- One ECHO exchange (R131): departure of the request SOF and arrival of the reply SOF, in counts of 6.67 ns (150 MHz), and TURN of the reply in ns (Table 4-9). -/
structure EchoTrip where
  t1 : Nat
  t4 : Nat
  turn : Word
  deriving DecidableEq, Repr

/-- A node found by an enumeration walk (Table 4-8 reply fields as the node had them before the walk, with the position from the port's end). -/
structure FoundNode where
  pos : Nat
  uid : BitVec 64
  typ : Byte
  proto : Byte
  addr : Fin 32
  addrValid : Bool
  maxCells : Fin 17
  maxTemps : Fin 5
  survey : Bool
  /-- the request arrived on the node's assignment side (FLAGS[2]) -/
  assignSide : Bool
  /-- the ECHO exchanges that the node answered, in their order (R131) -/
  echo : List EchoTrip
  deriving DecidableEq, Repr

/-- What a walk of one chain brought back (R129): the nodes in order of position from this end, and whether the partner's port answered with TYPE 0x80 (R125). -/
structure WalkResult where
  nodes : List FoundNode
  farPort : Bool
  deriving DecidableEq, Repr

/-- What a scan finds in the arrays of the parameter store beside the records (R475, R482): how many µs it took, how many words it corrected, and the copies with an uncorrectable word, by record id and copy (true for B). -/
structure StoreScan where
  us : Half
  corrected : Half
  bad : List (Half × Bool)
  deriving DecidableEq, Repr

/-- What the outside and the device's own arrays and references give an ascent (Table 3-4, R441, R482): the scan of step 2, the chains' walks, the decimator channels and error ADCs whose self-test fails, and whether each chain's receive link came up. -/
structure AscentEnv where
  scan : StoreScan
  walks : List (Fin 24 × WalkResult)
  linksUp : BitVec 24
  badSdm : BitVec 4
  badAdc : BitVec 8
  deriving DecidableEq, Repr

/-- The four cycle results of one boundary (Table 5-5): signed 16-bit fractions, x = code / 2^15; and the slots 0 to 31 whose evaluation does not complete by D_R in this cycle (R225). -/
structure CycleIn where
  x0 : BitVec 16
  x1 : BitVec 16
  x2 : BitVec 16
  x3 : BitVec 16
  late : BitVec 32
  deriving DecidableEq, Repr

/-- The four set results of one sample instant (Table 5-5): signed 24-bit fractions, x = code / 2^23. -/
structure SetIn where
  x0 : BitVec 24
  x1 : BitVec 24
  x2 : BitVec 24
  x3 : BitVec 24
  deriving DecidableEq, Repr

/-- A SAMPLE_DATA frame (Table 4-7). -/
inductive SampleFrame where
  | monitor (node : Fin 32) (seq nstat : Byte) (first : Nat) (v t : List Half)
  | conv (seq nstat : Byte) (iStr vStr : Word) (t : List Half)
  deriving DecidableEq, Repr

/-- A STATUS payload with its header SEQ (Table 4-6). -/
structure StatusFrame where
  seq : Byte
  iMeas : Word
  vStr : Word
  iApplied : Word
  iLimDis : Word
  iLimChg : Word
  epoch : Half
  state : Byte
  temp : Byte
  deriving DecidableEq, Repr

/-- An EVENT frame (Table 4-7). -/
structure EventFrame where
  node : Fin 32
  seq : Byte
  cls : Byte
  code : Byte
  index : Byte
  value : Word
  deriving DecidableEq, Repr

/-- A NACK frame (Table 4-5). -/
structure NackFrame where
  node : Fin 32
  seq : Byte
  epoch : BitVec 4
  refType : Byte
  refSeq : Byte
  reason : Byte
  deriving DecidableEq, Repr

/-- Any other received frame that goes to the frame ring (R185): its header bytes and payload (Table 4-3), with the arrival time of R186. -/
structure RingFrame where
  h0 : Byte
  h1 : Byte
  seq : Byte
  payload : List Byte
  arrival : Word
  deriving DecidableEq, Repr

/-- A SETPOINT heard at the far port of a ring (Table 4-6). -/
structure FarSetpoint where
  iSet : Word
  epoch : Half
  flags : Byte
  vBus : Word
  cycle : Word
  deriving DecidableEq, Repr

/-- Why a received Yorid frame is discarded (R104, Table 4-10). -/
inductive FrameError where
  | crc | malformed | abort | symbol | slip
  deriving DecidableEq, Repr

/-- The ENUM requests a controller port answers (R125). -/
inductive EnumCmd where
  | discover | locate
  deriving DecidableEq, Repr

/-- One switching period of a rail as its converters saw it: the remote and local sense in 100 µV (R356, R358), the phase currents of the period as signed 12-bit CS codes over ±60 mV (R362), the per-phase action of the zero-current and cycle-by-cycle comparators (R363, R365). -/
structure RailSample where
  vSense : Nat
  vLoc : Nat
  cs : List (BitVec 12)
  zc : BitVec 16
  pk : BitVec 16
  deriving DecidableEq, Repr

/-- Why a phase's sense has failed (R370). -/
inductive SenseFail where
  | stuck | range | disagree
  deriving DecidableEq, Repr

/-- One 10 µs conversion of an e-fuse channel (R382): shunt code, V_IN and V_OUT codes, V_GS in binary32 V, and whether the gate regulation is limiting (R385). -/
structure EfuseSample where
  shunt : BitVec 14
  vIn : BitVec 12
  vOut : BitVec 12
  vGs : Word
  limiting : Bool
  deriving DecidableEq, Repr

/-- The 12-bit SQn_MON codes of one 10 µs evaluation (R397). -/
structure SeqSample where
  mon : List (BitVec 12)
  deriving DecidableEq, Repr

/-- A received COPY frame's content (Table 15-2), as far as it changes this controller's state. -/
structure SlotCopy where
  out : Word
  int : BitVec 48
  s11 : Word
  s12 : Word
  s21 : Word
  s22 : Word
  refUsed : Word
  y : Word
  mode : BitVec 2
  bank : Bool
  trk : Fin 64
  divCount : Byte
  deriving DecidableEq, Repr

/-- The string words of a COPY frame (Table 15-2). -/
structure StrCopy where
  alloc : Word
  gate : Word
  wdis : Word
  wchg : Word
  iMeas : Word
  seq : Byte
  stale : Bool
  limited : Bool
  dLim : Word
  cLim : Word
  deriving DecidableEq, Repr

/-- The selected-data chunk of a COPY frame (R452). -/
structure SelChunk where
  kind : Byte
  string : Byte
  ofs : Half
  data : List Byte
  deriving DecidableEq, Repr

/-- A state copy (Table 15-2). `beacon` marks the BEACON of R451, which carries the header only. -/
structure StateCopy where
  beacon : Bool
  handover : Bool
  corniceOpen : Bool
  inhibit : Bool
  degraded : Bool
  cycle : Word
  ssn : Word
  epoch : Half
  mode : BitVec 3
  regMode : Bool
  actSlot : Fin 8
  huState : BitVec 2
  huRelease : Bool
  huCause : BitVec 3
  huTime : Word
  demand : Word
  pRef : Word
  startRef : Word
  startRamp : Bool
  /-- the shelf hold of the active regulation slot (Table 8-2): its row, 0 for none, and H -/
  holdRow : BitVec 4
  holdOut : Word
  bucketDis : Word
  bucketChg : Word
  pLimDis : Word
  pLimChg : Word
  vBus : Word
  iShelf : Word
  wssn : Word
  /-- the cornice state: CN_STAT (log entry 31) -/
  cnStat : Word
  isn : Half
  miss : BitVec 4
  backoffLeft : Half
  slots : List SlotCopy
  strs : List StrCopy
  chunk : SelChunk
  gridErrNs : Int
  deriving DecidableEq, Repr

/-- How a copy was missed (R456, Table 15-6). -/
inductive CopyMiss where
  | notStarted | crc | cutOff
  deriving DecidableEq, Repr

/-- What a HELLO control frame carries (R467): the other controller's hash, mode, health and whether it drives BELAY_N. -/
structure Hello where
  hash : Word
  mode : BitVec 3
  healthy : Bool
  active : Bool
  drivesBelay : Bool
  revertSusp : Bool
  deriving DecidableEq, Repr

/-- What triggers a takeover (R457). -/
inductive TakeTrigger where
  | missedCopies | yield | tokenRelease
  deriving DecidableEq, Repr

/-- Where an epoch newer than the controller's own was seen (R461). -/
structure NewerEpoch where
  port : Fin 24
  epoch : Half
  deriving DecidableEq, Repr

/-- A relayed Yorid frame's direction and its delay class (R468). -/
structure RelayFrame where
  port : Fin 24
  toNode : Bool
  late : Bool
  sample : Option SampleFrame
  frame : List Byte
  deriving DecidableEq, Repr

/-- How a PMBus poll failed (R524). -/
inductive PmbFail where
  | noAck | pec | timeout
  deriving DecidableEq, Repr

/-- The words of one successful PMBus poll (Table 17-7): STATUS_WORD and the raw data words of POLL bits 1 to 7, with the device's VOUT_MODE. -/
structure PmbData where
  statusWord : Half
  vals : List Half
  voutMode : Byte
  deriving DecidableEq, Repr

/-- A supervised input of Table 13-7. -/
inductive SupInput where
  | rackflt | holdN | stepHint | wake | belayN | syncIn
  deriving DecidableEq, Repr

/-- A page of Table 2-1 by its page number. -/
abbrev PageNo := Fin 256

/-- The commands of the block. -/
inductive Instr where
  -- resets and supplies
  | deviceResetPor
  | rstNLow
  | coreBrownout (r : CoreRegion)
  | regionBrownout (r : OwnRegion)
  | vinPorRising (mv : Half) (e : AscentEnv)
  | ascentComplete (time : Half) (e : AscentEnv)
  | ascentStepTimeout (step : Fin 8)
  | wakePinQualified (e : AscentEnv)
  | rtcAlarm (e : AscentEnv)
  | can0WakePattern (e : AscentEnv)
  | t1sActivityWake (e : AscentEnv)
  -- mode requests (R60)
  | modeCtrlDormant (r : Requester) (key : Byte)
  | modeCtrlShip (r : Requester) (key : Byte)
  | serviceEnter (r : Requester) (key : Byte)
  | serviceExit (r : Requester) (key : Byte)
  | inhibitClr (r : Requester) (key : Byte)
  | modeCtrlReset (r : Requester) (key : Byte)
  | modeCtrlBadReq (r : Requester) (key : Byte) (req : BitVec 4)
  | descentStart
  | descentRampEnd
  | descentGroupsAllOff (ms : Word)
  | descentTmaxExpiry (ms : Word)
  | vinWarnFalling (mv : Half)
  | vinWarnRising (mv : Half)
  | vholdReady (mv : Half)
  | vholdBelowMin (mv : Half)
  | aonSupplyLoss
  | watchdogExpiry
  | mpuRestartComplete
  | refclkLoss
  | xt32StartTimeout
  | pllLock (p : Pll)
  | regionTempLimit (r : Fin 9) (temp : BitVec 16)
  -- the shelf cycle and the sample set
  | shelfCycleBoundary (c : CycleIn)
  | setpointStart
  | syncEmission
  | sampleInstant (c : SetIn)
  | setClose
  | setGatherComplete
  | estimatorSetUpdate (us : Half)
  | restReqRepeat
  | surveyBatch (k : Fin 24)
  | surveyWindowEnd (k : Fin 24)
  | surveyPrerollStart (k : Fin 24)
  | surveyBlocked (k : Fin 24)
  | surveyGapEnd (k : Fin 24)
  | capacityWriteBack (k : Fin 24)
  | eststrReinit (r : Requester) (k : Fin 24) (module : Fin 32)
  | eststrResetCap (r : Requester) (k : Fin 24) (module : Fin 32)
  | moduleUidChanged (p : Fin 24) (node : Fin 32) (uid : BitVec 64)
  | estwinSelect (r : Requester) (w : Word)
  -- pages (chapter 2)
  | pgCtrlRun (r : Requester) (p : PageNo)
  | pgCtrlStopReq (r : Requester) (p : PageNo)
  | pgCtrlFenceClr (r : Requester) (p : PageNo)
  | pageStartBoundary (p : PageNo)
  | pageStopBoundary (p : PageNo)
  | pgOwnerWrite (r : Requester) (p : PageNo) (token : Half)
  | ownershipTimeout (p : PageNo)
  | registerWrite (r : Requester) (addr : BitVec 24) (value : Word)
  | spiRead (addr : BitVec 24) (len crc8 : Byte)
  | spiWrite (addr : BitVec 24) (len crc8 : Byte) (data : List Word) (crc : Half)
  | spiStatus (addr : BitVec 24) (len crc8 : Byte)
  | spiUnknownCmd (cmd : Byte) (addr : BitVec 24) (len crc8 : Byte)
  | spiCsAbandon (cmd : Byte)
  | pageReq (h : MsgHead) (cmd : Byte) (addr : BitVec 24) (len crc8 : Byte) (data : List Word) (dataCrc : Half)
  -- Yorid ports (chapter 4)
  | yoridLinkUp (p : Fin 24)
  | yoridLinkDown (p : Fin 24)
  | sampleDataRx (p : Fin 24) (f : SampleFrame)
  | statusRx (p : Fin 24) (f : StatusFrame)
  | eventRx (p : Fin 24) (f : EventFrame)
  | nackRx (p : Fin 24) (f : NackFrame)
  | replyRx (p : Fin 24) (f : RingFrame)
  | farSetpointRx (p : Fin 24) (f : FarSetpoint)
  | responseTimeout (p : Fin 24) (seq : Byte)
  | enumerationWalk (p : Fin 24) (w : WalkResult)
  | remeasTimer (p : Fin 24) (w : WalkResult)
  | holdTimeWrite (p : Fin 24)
  | mbxGo (r : Requester) (p : Fin 24) (write : Bool) (node : Fin 32) (count : Byte) (addr : Half)
  | yportCntClr (r : Requester) (p : Fin 24)
  | ringBreak (p : Fin 24) (w : WalkResult)
  | ringClose (p : Fin 24) (w : WalkResult)
  -- sample sets (chapter 5)
  | samplePageStart
  | sampleCntClr (r : Requester)
  | sdmStuck (ch : Fin 4)
  | sdmStuckEnd (ch : Fin 4)
  | plausFailCount
  -- engines (chapter 6)
  | fmoverBusError (addr : Option Word) (unit : BitVec 4) (write : Bool)
  | fmoverRestart
  | sdmaDescriptorComplete (ch : Fin 16)
  | sdmaStart (ch : Fin 16)
  | sdmaStop (ch : Fin 16)
  | sdmaResume (ch : Fin 16)
  | sdmaSkip (ch : Fin 16)
  | sdmaAbort (ch : Fin 16)
  | sdmaBusError (ch : Fin 16) (addr : Word) (write : Bool)
  -- Vermet control engine (chapter 7)
  | vceSlotEvaluation (s : Fin 64) (upset : Bool)
  | remoteDeadlineMiss (s : Fin 32)
  | gapOverrun (s : Fin 64)
  | swapReq (r : Requester) (s : Fin 8) (preset : Bool)
  | bankCopy (r : Requester) (s : Fin 8)
  | stateClr (r : Requester) (s : Fin 64)
  | slotModeWrite (r : Requester) (s : Fin 64) (mode : BitVec 2) (trk : Fin 64)
  | handoverGo (r : Requester) (src dst : Fin 64)
  | handoverExecute
  | vceCtrlClr (r : Requester)
  | scheduleBuild
  | scheduleSwap
  -- shelf power (chapter 8)
  | regModeWrite (r : Requester) (pcmd : Bool)
  | regulationStart
  | startRampEnd
  | shortfallCount
  | capExceedTimer
  | statusTimeout (k : Fin 24)
  | applyMismatchCount (k : Fin 24)
  | busOvCount
  | busUvCount
  | holdupVoltageEntry
  | holdNEntry
  | holdupReleaseWrite (r : Requester)
  | holdupAutoRelease
  | holdupHandBackStart
  | hbRampEnd
  | holdupTmaxExpiry
  | plantTimeout
  | regulationSlotFenced (s : Fin 8)
  -- cornice (chapter 9)
  | intentMessage (h : MsgHead) (amp lead : Word) (isn : Half) (hint : BitVec 3) (atUs : Nat)
  | stepHintEdge (rising : Bool) (atUs : Nat)
  | cnCancel (r : Requester)
  | cnBackoffClr (r : Requester)
  | corniceCntClr (r : Requester)
  | corniceOpen
  | corniceWindowEnd
  | corniceCollapseEnd
  | corniceBackoffEnd
  -- local rails (chapter 11)
  | railPeriod (n : Fin 8) (x : RailSample)
  | railOnRequest (n : Fin 8)
  | railPrebiasDone (n : Fin 8) (vPre : Nat)
  | railOnWithdrawn (n : Fin 8)
  | softStartEnd (n : Fin 8)
  | softStopEnd (n : Fin 8)
  | railPowerGood (n : Fin 8)
  | railUvTimer (n : Fin 8)
  | railOv (n : Fin 8)
  | cycleLimitPersist (n : Fin 8)
  | railLimitPersist (n : Fin 8)
  | phaseShedStart (n : Fin 8)
  | phaseShedComplete (n : Fin 8)
  | phaseOpen (p : Fin 16)
  | phaseSenseFail (p : Fin 16) (why : SenseFail)
  | senseOpenDetect (n : Fin 8) (vLoc : Nat)
  | ovReportHoldExpiry (n : Fin 8)
  | railPrepGo (r : Requester) (n : Fin 8) (nph : BitVec 5) (winUs : Half)
  | railCorniceWindowEnd (n : Fin 8)
  | syncInEdge (periodNs : Nat) (errNs : Int)
  | syncInLoss
  | glideEnd
  | ntcMeasurement (codes : List (BitVec 12))
  -- e-fuse channels (chapter 12)
  | efuseConversion (c : Fin 8) (x : EfuseSample)
  | efuseOnRequest (c : Fin 8)
  | efuseOnWithdrawn (c : Fin 8)
  | efuseShortCircuit (c : Fin 8)
  | efuseHvRefLost
  | efuseBreaker (c : Fin 8)
  | gateCheckTimer (c : Fin 8)
  | gateLowInOn (c : Fin 8)
  | inrushTlimExpiry (c : Fin 8)
  | inrushTmaxExpiry (c : Fin 8)
  | efuseOnReached (c : Fin 8)
  | efuseOnOneSecond (c : Fin 8)
  | efuseGateDischarged (c : Fin 8)
  | retryDelayExpiry (c : Fin 8)
  | latchClr (r : Requester) (c : Fin 8)
  | gfClr (r : Requester) (c : Fin 8)
  | outputPresentWhileOff (c : Fin 8)
  | counterCheckpoint
  -- sequencer (chapter 13)
  | seqEvaluation (x : SeqSample)
  | grpCmdUp (r : Requester) (g : Fin 4)
  | grpCmdDown (r : Requester) (g : Fin 4)
  | onDlyExpiry (s : Fin 32)
  | offDlyExpiry (s : Fin 32)
  | slotPowerGood (s : Fin 32)
  | pgTmoExpiry (s : Fin 32)
  | slotOff (s : Fin 32)
  | tDisMaxExpiry (s : Fin 32)
  | tRestExpiry (g : Fin 4)
  | slotRetryClear (s : Fin 32)
  | rstOutRelease
  | rackfltLowSeen
  | rackfltHigh100ms
  | rackfltPullRelease
  | inputFilterChange (i : SupInput) (active : Bool) (chatter : Bool)
  | inputStuckTimer (i : SupInput)
  | inputStuckRelease (i : SupInput)
  | seqCntClr (r : Requester)
  -- fault collector (chapter 14)
  | sourceRaise (i : BitVec 8) (data : List Byte)
  | takeoverReset
  | fcolActClear (r : Requester) (k : Fin 8) (mask : Word)
  | fcolAck (r : Requester)
  | unfence (r : Requester) (unit : BitVec 4) (index : BitVec 6)
  | injStart (r : Requester) (mode : Bool) (checker : BitVec 4) (inst : BitVec 5) (count : Byte)
  | injCancel (r : Requester)
  | injectedAccess (detected : Bool) (info : List Byte)
  -- redundant pair (chapter 15)
  | ridgeLinkUp (rttNs : Half)
  | ridgeLinkDown
  | ridgeRelock
  | copyRx (c : StateCopy)
  | copyMissed (why : CopyMiss)
  | gridLockLost
  | helloExchange (h : Hello)
  | yieldRx
  | shadowReportRx (reason slot : Byte)
  | relayRx (f : RelayFrame)
  | takeover (t : TakeTrigger)
  | firstSetpointAfterTakeover
  | pairCmdYield (r : Requester)
  | plannedHandoverBoundary
  | pairCmdProof (r : Requester)
  | proofTestEnd (failStep : BitVec 4) (failIndex : Byte)
  | epochDemote (n : NewerEpoch)
  | demoteHoldExpiry
  | partnerWaitExpiry
  | roleSettle
  | belayClaim (lineHigh : Bool)
  | belayRelease
  | revertHoldoffExpiry
  | revertReqRx
  | ridgeCntClr (r : Requester)
  -- parameter store and Cairn (chapter 16)
  | psSave (r : Requester) (id : Half)
  | psSaveAll (r : Requester)
  | psResetCfg (r : Requester) (id : Half)
  | psVerify (r : Requester)
  | verifyScanEnd (f : StoreScan)
  | recordWriteStart
  | pageProgramDone
  | cairnFlush
  | cairnRdSeq (r : Requester) (seq : Word)
  | tcCmdGo (r : Requester)
  | cairnClear (r : Requester) (key : Byte)
  | cairnClearComplete
  -- host and plant ports (chapter 17)
  | holdMessage (h : MsgHead)
  | releaseMessage (h : MsgHead)
  | capMessage (h : MsgHead) (dis chg : Word) (valid : BitVec 2)
  | pcmdMessage (h : MsgHead) (p : Word)
  | messageCrcFail (p : MsgPort)
  | reportTimer
  | t1sPublication
  | rackMessageRx (h : MsgHead) (flags mode : Byte)
  | rackSendTimer
  | peerTimeout (k : Fin 24)
  | canErrorState (n : Fin 4) (busOff : Bool) (tec rec : Byte)
  | canBusOffRecovery (n : Fin 4)
  | canTxDrop (n : Fin 4)
  | t1sLinkLoss (phy : Bool)
  | portCntClr (r : Requester) (p : PortPage)
  | pmbusPoll (d : Fin 32) (x : PmbData)
  | pmbusPollFail (d : Fin 32) (why : PmbFail)
  | pmbusAlert (addr : BitVec 7) (statusWord : Half)
  | pmbusMailboxGo (r : Requester) (write : Bool) (dev : Fin 32) (cmd : Byte) (data : Half)
  -- firmware update (chapter 18)
  | imageBegin (r : Requester)
  | imageAbort (r : Requester)
  | imgDataWrite (r : Requester) (addr : BitVec 24) (data : List Word)
  | imageHeaderChecked
  | imageVerified (uncorrectable : Bool)
  | imageStreamInterrupt
  | activate (r : Requester) (key : Byte)
  | activationPauseEnd
  | confirm (r : Requester) (key : Byte)
  | autoConfirm
  | trialExpiry
  -- rows that follow the others in the table
  | rstNRelease (e : AscentEnv)
  | slotRetryEnable (s : Fin 32)
  | regionRestartComplete (r : OwnRegion)
  | t1sLinkReturn (phy beacon : Bool)
  | canErrorActiveReturn (n : Fin 4) (tec rec : Byte)
  | yoridFrameDiscarded (p : Fin 24) (why : FrameError)
  | enumRequestAtPort (p : Fin 24) (cmd : EnumCmd) (seq hop : Byte)
  | syncRx (p : Fin 24) (tag : Byte)
  deriving DecidableEq, Repr

end Sys2Proof
end

