-- ==== Sys2Proof/Decode.lean ====
section
/-! DEFINITION. The command that a word spells. spec/opcode_table.json gives none of its rows any bits (every row's fields are empty), so no word spells a command. -/

namespace Sys2Proof

/-- The command whose table bits are `w`: the table gives no row bits, so none. -/
def decodeTableWord (_nbits _w : Nat) : Option Instr := none

end Sys2Proof
end

