-- ==== Sys2Proof/Machine/Bits.lean ====
section
/-! DEFINITION. Bit fields of register words, little-endian bytes, CRC-8, CRC-16 and CRC-32. -/

namespace Sys2Proof.Machine

/-- The field of width `w` from bit `lo` on, as a number. -/
def bitsOf (x : Word) (lo w : Nat) : Nat := (x.extractLsb' lo w).toNat

/-- The word with that field replaced by `v` (its low `w` bits). -/
def withBits (x : Word) (lo w v : Nat) : Word :=
  (x &&& ~~~(((BitVec.allOnes w).setWidth 32) <<< lo)) ||| (((BitVec.ofNat w v).setWidth 32) <<< lo)

/-- The `n` low bytes of a number, least significant first. -/
def leBytes : Nat → Nat → List Nat
  | 0, _ => []
  | n + 1, x => x % 256 :: leBytes n (x / 256)

/-- The number a list of bytes spells, least significant first. -/
def leNat : List Nat → Nat
  | [] => 0
  | b :: bs => b + 256 * leNat bs

/-- The two's complement reading of the low `w` bits. -/
def signedOf (w x : Nat) : Int :=
  if 2 ^ (w - 1) ≤ x % 2 ^ w then (x % 2 ^ w : Nat) - (2 ^ w : Nat) else (x % 2 ^ w : Nat)

/-- The low `w` bits of a signed number. -/
def toBits (w : Nat) (x : Int) : Nat := (x % (2 ^ w : Nat)).toNat

/-- `n` steps of a CRC register of width `w` with polynomial `poly`, most significant bit first. -/
def crcShift (w poly : Nat) : Nat → Nat → Nat
  | 0, c => c
  | n + 1, c => crcShift w poly n (if c.testBit (w - 1) then ((2 * c) % 2 ^ w) ^^^ poly else (2 * c) % 2 ^ w)

/-- CRC-8 of the SPI header: polynomial 0x07, initial value 0 (R503). -/
def crc8 (bs : List Nat) : Nat := bs.foldl (fun c b => crcShift 8 0x07 8 (c ^^^ b)) 0

/-- CRC-16/CCITT-FALSE (R488): polynomial 0x1021, initial value 0xFFFF. -/
def crc16 (bs : List Nat) : Nat := bs.foldl (fun c b => crcShift 16 0x1021 8 (c ^^^ (b * 256))) 0xFFFF

/-- `n` reflected steps of the CRC-32 register. -/
def crc32Shift : Nat → Nat → Nat
  | 0, c => c
  | n + 1, c => crc32Shift n (if c % 2 = 1 then (c / 2) ^^^ 0xEDB88320 else c / 2)

/-- CRC-32 of R103. -/
def crc32 (bs : List Nat) : Nat := (bs.foldl (fun c b => crc32Shift 8 (c ^^^ b)) 0xFFFFFFFF) ^^^ 0xFFFFFFFF

end Sys2Proof.Machine
end

