-- ==== Sys2Proof/Config.lean ====
section
/-! DEFINITION. What the spec leaves to an implementation or leaves open: constants and functions without a body, so that no proof can lean on a value (notes/assumptions). -/

namespace Sys2Proof.Config

/-- The sign and payload of a NaN that binary32 arithmetic produces (R209, R210 name no bits), by a counter of the state. Only bits 31 and 22 to 0 are used (log entry 10). -/
opaque nanBits : Nat → BitVec 32

/-- How the last bit of exp, sin and cos (R309, R335, R337) is rounded, of which the spec says nothing: by function and nearest result (log entry 11). Only its value modulo 3 is used. -/
opaque lastBit : Nat → BitVec 32 → Nat

/-- A profile table's value at a state of charge outside 0 to 1, and a ZT ratio outside its temperatures (R307, R339 state none), by table and argument (log entry 18). -/
opaque beyond : Nat → BitVec 32 → BitVec 32

/-- A value for which the spec states no result, because its operands fall outside the number format or the field, or because there is nothing to take it from: by its place in the model and an operand (log entry 88). -/
opaque unstated : Nat → BitVec 32 → BitVec 32

/-- A value that the spec leaves open after a step, by the counter `free` of the state (log entry 13). -/
opaque freeWord : Nat → BitVec 32

/-- FW_VER of the image that the device was delivered with (chapter 18), which the spec does not give (log entry 21). -/
opaque factoryVer : BitVec 32

/-- The payload that an image writes for a record of an older schema (R539): the images define later schemas (log entry 22). -/
opaque migrate : Nat → Nat → List (BitVec 8) → List (BitVec 8)

/-- VIO and VCORE in mV as measured at a µs of operating time (Table 3-19); only their place in the windows of Table 3-8 is given (log entry 99). -/
opaque supplyMv : Nat → BitVec 32

/-- Bits [11:1] of the IDCODE of the test port, the maker's code, which R567 does not give (log entry 100). -/
opaque tapMaker : BitVec 11

/-- The CRC-32 of the hashed configuration (R467): the spec names the pages and no order of their words (log entry 30). -/
opaque cfgHash : List (Nat × BitVec 32) → BitVec 32

end Sys2Proof.Config
end

