-- ==== Sys2Proof/Machine/Regs.lean ====
section
/-! DEFINITION. The registers of the block by name: their host byte addresses (R26, R30, Table 2-1 and the register tables of the chapters) and their fields. `n` is a page's instance, `s` a slot of Table 7-1, `k` an array's index. The window of ESTPROF shows one profile of eight (R342) and PMB_VAL one device of 32 (R527): the words behind them have keys above the 24-bit address space, `p` the profile and `d` the device. -/

namespace Sys2Proof.Machine

/-- A field of a register: the register's address, its lowest bit and its width. -/
structure Fld where
  addr : Nat
  lo : Nat
  w : Nat
  deriving DecidableEq, Repr

/-- The header registers of the page at byte base `b` (Table 2-2). -/
abbrev pgId (p : Nat) : Nat := 0x1000 * p
abbrev pgCtrl (p : Nat) : Nat := 0x1000 * p + 0x004
abbrev pgStat (p : Nat) : Nat := 0x1000 * p + 0x008
abbrev pgFsum (p : Nat) : Nat := 0x1000 * p + 0x00C
abbrev pgChg (p : Nat) : Nat := 0x1000 * p + 0x010
abbrev pgOwner (p : Nat) : Nat := 0x1000 * p + 0x014
abbrev pgCtrlRun (p : Nat) : Fld := ⟨pgCtrl p, 0, 1⟩
abbrev pgStatWrejOfs (p : Nat) : Fld := ⟨pgStat p, 16, 12⟩
abbrev pgStatWrejCause (p : Nat) : Fld := ⟨pgStat p, 12, 4⟩
abbrev pgStatBusy (p : Nat) : Fld := ⟨pgStat p, 9, 1⟩
abbrev pgStatWrej (p : Nat) : Fld := ⟨pgStat p, 8, 1⟩
abbrev pgStatState (p : Nat) : Fld := ⟨pgStat p, 0, 3⟩
abbrev pgChgCount (p : Nat) : Fld := ⟨pgChg p, 0, 16⟩
abbrev pgOwnerToken (p : Nat) : Fld := ⟨pgOwner p, 16, 16⟩
abbrev pgOwnerSource (p : Nat) : Fld := ⟨pgOwner p, 8, 8⟩
abbrev pgOwnerPort (p : Nat) : Fld := ⟨pgOwner p, 4, 4⟩
abbrev pgOwnerHeld (p : Nat) : Fld := ⟨pgOwner p, 0, 1⟩

/-! Page DEV -/

namespace DEV

abbrev DEV_ID : Nat := 0x00020
abbrev DEV_ID_PART : Fld := ⟨DEV_ID, 16, 16⟩
abbrev DEV_ID_STEP : Fld := ⟨DEV_ID, 8, 8⟩
abbrev DEV_ID_GRADE : Fld := ⟨DEV_ID, 0, 1⟩
abbrev MODE_CTRL : Nat := 0x00024
abbrev MODE_CTRL_KEY : Fld := ⟨MODE_CTRL, 8, 8⟩
abbrev MODE_CTRL_REQ : Fld := ⟨MODE_CTRL, 0, 4⟩
abbrev MODE_STAT : Nat := 0x00028
abbrev MODE_STAT_RESULT : Fld := ⟨MODE_STAT, 20, 4⟩
abbrev MODE_STAT_LAST_REQ : Fld := ⟨MODE_STAT, 16, 4⟩
abbrev MODE_STAT_DESCENT : Fld := ⟨MODE_STAT, 11, 1⟩
abbrev MODE_STAT_SHELF_INHIBIT : Fld := ⟨MODE_STAT, 10, 1⟩
abbrev MODE_STAT_FORM : Fld := ⟨MODE_STAT, 8, 2⟩
abbrev MODE_STAT_PREV_MODE : Fld := ⟨MODE_STAT, 4, 3⟩
abbrev MODE_STAT_MODE : Fld := ⟨MODE_STAT, 0, 3⟩
abbrev RST_CAUSE : Nat := 0x0002C
abbrev RST_CAUSE_LAST : Fld := ⟨RST_CAUSE, 28, 4⟩
abbrev RST_CAUSE_CAUSE : Fld := ⟨RST_CAUSE, 0, 7⟩
abbrev WAKE_CTRL : Nat := 0x00030
abbrev WAKE_CTRL_CAUSE : Fld := ⟨WAKE_CTRL, 16, 4⟩
abbrev WAKE_CTRL_T1S_EN : Fld := ⟨WAKE_CTRL, 3, 1⟩
abbrev WAKE_CTRL_CAN0_EN : Fld := ⟨WAKE_CTRL, 2, 1⟩
abbrev WAKE_CTRL_RTC_EN : Fld := ⟨WAKE_CTRL, 1, 1⟩
abbrev WAKE_CTRL_WAKE_EN : Fld := ⟨WAKE_CTRL, 0, 1⟩
abbrev DESCENT_CFG : Nat := 0x00034
abbrev DESCENT_CFG_TMAX : Fld := ⟨DESCENT_CFG, 16, 16⟩
abbrev DESCENT_CFG_RAMP : Fld := ⟨DESCENT_CFG, 4, 12⟩
abbrev DESCENT_CFG_YIELD_FIRST : Fld := ⟨DESCENT_CFG, 0, 1⟩
abbrev ASCENT_STAT : Nat := 0x00038
abbrev ASCENT_STAT_TIME : Fld := ⟨ASCENT_STAT, 16, 16⟩
abbrev ASCENT_STAT_FAIL_STEP : Fld := ⟨ASCENT_STAT, 12, 4⟩
abbrev ASCENT_STAT_FAILS : Fld := ⟨ASCENT_STAT, 0, 4⟩
abbrev RTC_ALARM : Nat := 0x0003C
abbrev OWN_TIMEOUT : Nat := 0x00040
abbrev SVC_IZERO : Nat := 0x00044
abbrev TJ_HOT : Nat := 0x00048
abbrev TJ_HOT_TJ_HOT : Fld := ⟨TJ_HOT, 0, 16⟩
abbrev OPSEC_LO : Nat := 0x0004C
abbrev OPSEC_HI : Nat := 0x00050
abbrev ASCENT_COUNT : Nat := 0x00054
abbrev MPU_RESTARTS : Nat := 0x00058

end DEV

/-! Page CLKPWR -/

namespace CLKPWR

abbrev CLK_STAT : Nat := 0x01020
abbrev CLK_STAT_REFCLK_OK : Fld := ⟨CLK_STAT, 7, 1⟩
abbrev CLK_STAT_XT32_OK : Fld := ⟨CLK_STAT, 6, 1⟩
abbrev CLK_STAT_HFO_SRC : Fld := ⟨CLK_STAT, 5, 1⟩
abbrev CLK_STAT_LFO_SRC : Fld := ⟨CLK_STAT, 4, 1⟩
abbrev PLL_STAT : Nat := 0x01024
abbrev PLL_STAT_HOLDOVER : Fld := ⟨PLL_STAT, 4, 4⟩
abbrev PLL_STAT_LOCK : Fld := ⟨PLL_STAT, 0, 4⟩
abbrev REGION_PWR : Nat := 0x01028
abbrev REGION_PWR_STATE : Fld := ⟨REGION_PWR, 0, 18⟩
abbrev REGION_BO : Nat := 0x0102C
abbrev REGION_BO_BO : Fld := ⟨REGION_BO, 0, 9⟩
abbrev VIN_MV : Nat := 0x01030
abbrev VIN_MV_WARN : Fld := ⟨VIN_MV, 16, 1⟩
abbrev VIN_MV_VIN : Fld := ⟨VIN_MV, 0, 16⟩
abbrev VHOLD_MV : Nat := 0x01034
abbrev VHOLD_MV_VHOLD_RDY : Fld := ⟨VHOLD_MV, 16, 1⟩
abbrev VHOLD_MV_VHOLD : Fld := ⟨VHOLD_MV, 0, 16⟩
abbrev CORE_MV : Nat := 0x01038
abbrev CORE_MV_VIO : Fld := ⟨CORE_MV, 16, 16⟩
abbrev CORE_MV_VCORE : Fld := ⟨CORE_MV, 0, 16⟩
abbrev TEMP (k : Nat) : Nat := 0x01040 + 0x4 * k
abbrev TEMP_TEMP (k : Nat) : Fld := ⟨TEMP k, 0, 16⟩
abbrev TGRAD : Nat := 0x01064
abbrev TGRAD_COOL : Fld := ⟨TGRAD, 20, 4⟩
abbrev TGRAD_HOT : Fld := ⟨TGRAD, 16, 4⟩
abbrev TGRAD_DIFF : Fld := ⟨TGRAD, 0, 16⟩
abbrev NTC (k : Nat) : Nat := 0x01080 + 0x4 * k
abbrev NTC_SHORT (k : Nat) : Fld := ⟨NTC k, 18, 1⟩
abbrev NTC_OPEN (k : Nat) : Fld := ⟨NTC k, 17, 1⟩
abbrev NTC_VALID (k : Nat) : Fld := ⟨NTC k, 16, 1⟩
abbrev NTC_RATIO (k : Nat) : Fld := ⟨NTC k, 0, 12⟩

end CLKPWR

/-! Page FCOL -/

namespace FCOL

abbrev FCOL_CTRL : Nat := 0x02020
abbrev FCOL_CTRL_ACK : Fld := ⟨FCOL_CTRL, 0, 1⟩
abbrev FCOL_STAT : Nat := 0x02024
abbrev FCOL_STAT_NEST_COUNT : Fld := ⟨FCOL_STAT, 16, 16⟩
abbrev FCOL_STAT_HANDLING : Fld := ⟨FCOL_STAT, 4, 1⟩
abbrev FCOL_STAT_SEV_MAX : Fld := ⟨FCOL_STAT, 0, 3⟩
abbrev FCOL_FIRST : Nat := 0x02028
abbrev FCOL_FIRST_SEV : Fld := ⟨FCOL_FIRST, 8, 3⟩
abbrev FCOL_FIRST_SRC : Fld := ⟨FCOL_FIRST, 0, 8⟩
abbrev SAFE_CFG : Nat := 0x0202C
abbrev SAFE_CFG_GRP : Fld := ⟨SAFE_CFG, 0, 4⟩
abbrev ACT (k : Nat) : Nat := 0x02040 + 0x4 * k
abbrev COND (k : Nat) : Nat := 0x02060 + 0x4 * k
abbrev EVT (k : Nat) : Nat := 0x02080 + 0x4 * k
abbrev EVT_MASK (k : Nat) : Nat := 0x02090 + 0x4 * k
abbrev UNFENCE : Nat := 0x020A0
abbrev UNFENCE_GO : Fld := ⟨UNFENCE, 31, 1⟩
abbrev UNFENCE_RESULT : Fld := ⟨UNFENCE, 28, 2⟩
abbrev UNFENCE_UNIT : Fld := ⟨UNFENCE, 16, 4⟩
abbrev UNFENCE_INDEX : Fld := ⟨UNFENCE, 0, 6⟩
abbrev INJ : Nat := 0x020B0
abbrev INJ_GO : Fld := ⟨INJ, 31, 1⟩
abbrev INJ_MODE : Fld := ⟨INJ, 24, 1⟩
abbrev INJ_CHECKER : Fld := ⟨INJ, 16, 4⟩
abbrev INJ_INST : Fld := ⟨INJ, 8, 5⟩
abbrev INJ_COUNT : Fld := ⟨INJ, 0, 8⟩
abbrev INJ_STAT : Nat := 0x020B4
abbrev INJ_STAT_BUSY : Fld := ⟨INJ_STAT, 31, 1⟩
abbrev INJ_STAT_RESULT : Fld := ⟨INJ_STAT, 28, 2⟩
abbrev INJ_STAT_DETECT : Fld := ⟨INJ_STAT, 8, 8⟩
abbrev INJ_STAT_LEFT : Fld := ⟨INJ_STAT, 0, 8⟩

end FCOL

/-! Page FCOL_SEV -/

namespace FCOL_SEV

abbrev SEV (k : Nat) : Nat := 0x03020 + 0x4 * k
abbrev SEV_EVT_EN (k : Nat) : Fld := ⟨SEV k, 23, 1⟩
abbrev SEV_EVT (k : Nat) : Fld := ⟨SEV k, 16, 7⟩
abbrev SEV_SEV (k : Nat) : Fld := ⟨SEV k, 0, 3⟩

end FCOL_SEV

/-! Page CAIRN -/

namespace CAIRN

abbrev LAST_SEQ : Nat := 0x04020
abbrev WRITTEN_SEQ : Nat := 0x04024
abbrev FIRST_SEQ : Nat := 0x04028
abbrev COUNT : Nat := 0x0402C
abbrev COUNT_STAGED : Fld := ⟨COUNT, 16, 16⟩
abbrev COUNT_RECORDS : Fld := ⟨COUNT, 0, 16⟩
abbrev CAIRN_STAT : Nat := 0x04030
abbrev CAIRN_STAT_CLEARING : Fld := ⟨CAIRN_STAT, 3, 1⟩
abbrev CAIRN_STAT_TIMECOR : Fld := ⟨CAIRN_STAT, 2, 1⟩
abbrev CAIRN_STAT_FULL : Fld := ⟨CAIRN_STAT, 1, 1⟩
abbrev CAIRN_STAT_RESERVE : Fld := ⟨CAIRN_STAT, 0, 1⟩
abbrev LOST : Nat := 0x04034
abbrev LAST_REPEAT : Nat := 0x04038
abbrev LAST_REPEAT_REPEAT : Fld := ⟨LAST_REPEAT, 0, 16⟩
abbrev CLEARS : Nat := 0x0403C
abbrev TC_LO : Nat := 0x04040
abbrev TC_HI : Nat := 0x04044
abbrev TC_ERR : Nat := 0x04048
abbrev TC_ERR_ERR : Fld := ⟨TC_ERR, 0, 16⟩
abbrev TC_CMD : Nat := 0x0404C
abbrev TC_CMD_GO : Fld := ⟨TC_CMD, 31, 1⟩
abbrev TC_CMD_RESULT : Fld := ⟨TC_CMD, 28, 2⟩
abbrev ARCHIVE_ACK : Nat := 0x04050
abbrev CLR_CMD : Nat := 0x04054
abbrev CLR_CMD_GO : Fld := ⟨CLR_CMD, 31, 1⟩
abbrev CLR_CMD_RESULT : Fld := ⟨CLR_CMD, 28, 2⟩
abbrev CLR_CMD_CAUSE : Fld := ⟨CLR_CMD, 24, 4⟩
abbrev CLR_CMD_KEY : Fld := ⟨CLR_CMD, 8, 8⟩
abbrev RD_SEQ : Nat := 0x04060
abbrev TRACE_HEAD : Nat := 0x04064
abbrev TRACE_HEAD_SIZE : Fld := ⟨TRACE_HEAD, 16, 16⟩
abbrev TRACE_HEAD_HEAD : Fld := ⟨TRACE_HEAD, 0, 16⟩
abbrev TRACE_SEL : Nat := 0x04068
abbrev TRACE_SEL_IDX : Fld := ⟨TRACE_SEL, 0, 16⟩
abbrev CMPMASK (k : Nat) : Nat := 0x04200 + 0x4 * k
abbrev CMPMASK_MASK1 (k : Nat) : Fld := ⟨CMPMASK k, 16, 10⟩
abbrev CMPMASK_MASK0 (k : Nat) : Fld := ⟨CMPMASK k, 0, 10⟩
abbrev REC (k : Nat) : Nat := 0x04400 + 0x4 * k
abbrev TRACE (k : Nat) : Nat := 0x04800 + 0x4 * k

end CAIRN

/-! Page PSTORE -/

namespace PSTORE

abbrev PS_CMD : Nat := 0x05020
abbrev PS_CMD_GO : Fld := ⟨PS_CMD, 31, 1⟩
abbrev PS_CMD_OP : Fld := ⟨PS_CMD, 24, 3⟩
abbrev PS_CMD_ID : Fld := ⟨PS_CMD, 0, 16⟩
abbrev PS_STAT : Nat := 0x05024
abbrev PS_STAT_BUSY : Fld := ⟨PS_STAT, 31, 1⟩
abbrev PS_STAT_RESULT : Fld := ⟨PS_STAT, 28, 2⟩
abbrev PS_STAT_CAUSE : Fld := ⟨PS_STAT, 24, 4⟩
abbrev PS_STAT_QUEUED : Fld := ⟨PS_STAT, 0, 16⟩
abbrev PS_SEL : Nat := 0x05028
abbrev PS_SEL_COPY : Fld := ⟨PS_SEL, 16, 1⟩
abbrev PS_SEL_ID : Fld := ⟨PS_SEL, 0, 16⟩
abbrev REC_STAT : Nat := 0x0502C
abbrev REC_STAT_VALID : Fld := ⟨REC_STAT, 31, 1⟩
abbrev REC_STAT_NEWEST : Fld := ⟨REC_STAT, 30, 1⟩
abbrev REC_STAT_BLANK : Fld := ⟨REC_STAT, 29, 1⟩
abbrev REC_STAT_INVALID : Fld := ⟨REC_STAT, 24, 4⟩
abbrev REC_STAT_SCHEMA : Fld := ⟨REC_STAT, 0, 16⟩
abbrev REC_SEQ : Nat := 0x05030
abbrev REC_LEN : Nat := 0x05034
abbrev REC_LEN_LEN : Fld := ⟨REC_LEN, 0, 16⟩
abbrev CNT : Nat := 0x05038
abbrev CNT_CE : Fld := ⟨CNT, 16, 16⟩
abbrev CNT_INVALID : Fld := ⟨CNT, 0, 16⟩
abbrev SCAN_STAT : Nat := 0x0503C
abbrev SCAN_STAT_SCAN_US : Fld := ⟨SCAN_STAT, 0, 16⟩
abbrev PROGS : Nat := 0x05040
abbrev WIN (k : Nat) : Nat := 0x05100 + 0x4 * k

end PSTORE

/-! Page IMAGE -/

namespace IMAGE

abbrev IMG_CMD : Nat := 0x06020
abbrev IMG_CMD_GO : Fld := ⟨IMG_CMD, 31, 1⟩
abbrev IMG_CMD_OP : Fld := ⟨IMG_CMD, 24, 3⟩
abbrev IMG_CMD_KEY : Fld := ⟨IMG_CMD, 8, 8⟩
abbrev IMG_STAT : Nat := 0x06024
abbrev IMG_STAT_BUSY : Fld := ⟨IMG_STAT, 31, 1⟩
abbrev IMG_STAT_STATE : Fld := ⟨IMG_STAT, 28, 3⟩
abbrev IMG_STAT_RESULT : Fld := ⟨IMG_STAT, 26, 2⟩
abbrev IMG_STAT_CMD_CAUSE : Fld := ⟨IMG_STAT, 23, 3⟩
abbrev IMG_STAT_REFUSE : Fld := ⟨IMG_STAT, 19, 4⟩
abbrev IMG_STAT_SEQ_ERR : Fld := ⟨IMG_STAT, 0, 1⟩
abbrev WR_OFS : Nat := 0x06028
abbrev RUN_STAT : Nat := 0x0602C
abbrev RUN_STAT_TRIAL : Fld := ⟨RUN_STAT, 31, 1⟩
abbrev RUN_STAT_RUN_BANK : Fld := ⟨RUN_STAT, 30, 1⟩
abbrev RUN_STAT_ACTIVE_BANK : Fld := ⟨RUN_STAT, 29, 1⟩
abbrev RUN_STAT_TRIAL_LEFT : Fld := ⟨RUN_STAT, 0, 16⟩
abbrev TRIAL_CFG : Nat := 0x06030
abbrev TRIAL_CFG_AUTO_CONFIRM : Fld := ⟨TRIAL_CFG, 31, 1⟩
abbrev TRIAL_CFG_QUIET_S : Fld := ⟨TRIAL_CFG, 0, 8⟩
abbrev FW_VER_RUN : Nat := 0x06034
abbrev FW_VER_TGT : Nat := 0x06038
abbrev ROLLBACK : Nat := 0x0603C
abbrev ROLLBACK_IMAGE : Fld := ⟨ROLLBACK, 16, 16⟩
abbrev ROLLBACK_OTP : Fld := ⟨ROLLBACK, 0, 7⟩
abbrev MIGRATE : Nat := 0x06040
abbrev MIGRATE_COUNT : Fld := ⟨MIGRATE, 16, 16⟩
abbrev MIGRATE_HELD : Fld := ⟨MIGRATE, 0, 16⟩
abbrev IMG_DATA (k : Nat) : Nat := 0x06100 + 0x4 * k
abbrev TGT_HDR (k : Nat) : Nat := 0x06200 + 0x4 * k

end IMAGE

/-! Page RIDGE -/

namespace RIDGE

abbrev PAIR_CFG : Nat := 0x07020
abbrev PAIR_CFG_REVERT_HOLDOFF : Fld := ⟨PAIR_CFG, 16, 16⟩
abbrev PAIR_CFG_REVERT_SUSP : Fld := ⟨PAIR_CFG, 8, 1⟩
abbrev PAIR_CFG_ACT_GRP : Fld := ⟨PAIR_CFG, 4, 4⟩
abbrev PAIR_CFG_BELAY_EN : Fld := ⟨PAIR_CFG, 0, 1⟩
abbrev PAIR_TMO : Nat := 0x07024
abbrev PAIR_TMO_PARTNER_WAIT : Fld := ⟨PAIR_TMO, 16, 16⟩
abbrev PAIR_TMO_SHADOW_N : Fld := ⟨PAIR_TMO, 8, 8⟩
abbrev PAIR_TMO_DEMOTE_HOLD : Fld := ⟨PAIR_TMO, 0, 8⟩
abbrev PAIR_CMD : Nat := 0x07028
abbrev PAIR_CMD_YIELD : Fld := ⟨PAIR_CMD, 1, 1⟩
abbrev PAIR_CMD_PROOF : Fld := ⟨PAIR_CMD, 0, 1⟩
abbrev PAIR_STAT : Nat := 0x0702C
abbrev PAIR_STAT_LAST_TAKE : Fld := ⟨PAIR_STAT, 28, 4⟩
abbrev PAIR_STAT_PARTNER_MODE : Fld := ⟨PAIR_STAT, 16, 3⟩
abbrev PAIR_STAT_REVERT_PEND : Fld := ⟨PAIR_STAT, 11, 1⟩
abbrev PAIR_STAT_DEMOTED : Fld := ⟨PAIR_STAT, 10, 1⟩
abbrev PAIR_STAT_BELAY_LOW : Fld := ⟨PAIR_STAT, 9, 1⟩
abbrev PAIR_STAT_BELAY_OWN : Fld := ⟨PAIR_STAT, 8, 1⟩
abbrev PAIR_STAT_GRID_LOCK : Fld := ⟨PAIR_STAT, 7, 1⟩
abbrev PAIR_STAT_CFG_MATCH : Fld := ⟨PAIR_STAT, 6, 1⟩
abbrev PAIR_STAT_PARTNER_HEALTHY : Fld := ⟨PAIR_STAT, 5, 1⟩
abbrev PAIR_STAT_SELF_HEALTHY : Fld := ⟨PAIR_STAT, 4, 1⟩
abbrev PAIR_STAT_LINK : Fld := ⟨PAIR_STAT, 3, 1⟩
abbrev PAIR_STAT_BROKEN_ANY : Fld := ⟨PAIR_STAT, 2, 1⟩
abbrev PAIR_STAT_ACTIVE : Fld := ⟨PAIR_STAT, 1, 1⟩
abbrev PAIR_STAT_PAIR : Fld := ⟨PAIR_STAT, 0, 1⟩
abbrev EPOCH : Nat := 0x07030
abbrev EPOCH_EPOCH : Fld := ⟨EPOCH, 0, 16⟩
abbrev TAKEOVERS : Nat := 0x07034
abbrev TAKEOVERS_TAKEN : Fld := ⟨TAKEOVERS, 16, 16⟩
abbrev TAKEOVERS_YIELDED : Fld := ⟨TAKEOVERS, 0, 16⟩
abbrev CFG_HASH : Nat := 0x07038
abbrev PARTNER_HASH : Nat := 0x0703C
abbrev REVERT_LEFT : Nat := 0x07040
abbrev REVERT_LEFT_S : Fld := ⟨REVERT_LEFT, 0, 16⟩
abbrev LINK_STAT : Nat := 0x07044
abbrev LINK_STAT_RTT : Fld := ⟨LINK_STAT, 16, 16⟩
abbrev LINK_STAT_GRID_ERR : Fld := ⟨LINK_STAT, 0, 16⟩
abbrev CNT_COPY : Nat := 0x07048
abbrev CNT_COPY_MISSED : Fld := ⟨CNT_COPY, 16, 16⟩
abbrev CNT_COPY_CRC : Fld := ⟨CNT_COPY, 0, 16⟩
abbrev CNT_RELAY : Nat := 0x0704C
abbrev CNT_RELAY_FAILED : Fld := ⟨CNT_RELAY, 16, 16⟩
abbrev CNT_RELAY_LATE : Fld := ⟨CNT_RELAY, 0, 16⟩
abbrev CNT_SHADOW : Nat := 0x07050
abbrev CNT_SHADOW_MISMATCH : Fld := ⟨CNT_SHADOW, 16, 16⟩
abbrev CNT_SHADOW_INPUT : Fld := ⟨CNT_SHADOW, 0, 16⟩
abbrev CNT_BELAY : Nat := 0x07054
abbrev CNT_BELAY_ARB_LOST : Fld := ⟨CNT_BELAY, 16, 16⟩
abbrev CNT_BELAY_CLAIMS : Fld := ⟨CNT_BELAY, 0, 16⟩
abbrev PARTNER_SEQ : Nat := 0x07058
abbrev PROOF_STAT : Nat := 0x07060
abbrev PROOF_STAT_BUSY : Fld := ⟨PROOF_STAT, 31, 1⟩
abbrev PROOF_STAT_RESULT : Fld := ⟨PROOF_STAT, 28, 2⟩
abbrev PROOF_STAT_FAIL_INDEX : Fld := ⟨PROOF_STAT, 8, 8⟩
abbrev PROOF_STAT_FAIL_STEP : Fld := ⟨PROOF_STAT, 0, 4⟩
abbrev CNT_CTRL : Nat := 0x07070
abbrev CNT_CTRL_CLR : Fld := ⟨CNT_CTRL, 0, 1⟩

end RIDGE

/-! Page SDMA -/

namespace SDMA

abbrev BERR_CFG : Nat := 0x08020
abbrev BERR_CFG_RETRIES : Fld := ⟨BERR_CFG, 4, 2⟩
abbrev BERR_CFG_FINAL : Fld := ⟨BERR_CFG, 0, 1⟩
abbrev CH_CMD (k : Nat) : Nat := 0x08040 + 0x20 * k
abbrev CH_CMD_CMD (k : Nat) : Fld := ⟨CH_CMD k, 0, 3⟩
abbrev CH_STAT (k : Nat) : Nat := 0x08044 + 0x20 * k
abbrev CH_STAT_ERR_CAUSE (k : Nat) : Fld := ⟨CH_STAT k, 16, 4⟩
abbrev CH_STAT_DIR (k : Nat) : Fld := ⟨CH_STAT k, 8, 1⟩
abbrev CH_STAT_STATE (k : Nat) : Fld := ⟨CH_STAT k, 0, 3⟩
abbrev CH_NEXT (k : Nat) : Nat := 0x08048 + 0x20 * k
abbrev CH_ERR_ADDR (k : Nat) : Nat := 0x0804C + 0x20 * k
abbrev CH_ERR_DESC (k : Nat) : Nat := 0x08050 + 0x20 * k
abbrev CH_DONE (k : Nat) : Nat := 0x08054 + 0x20 * k

end SDMA

/-! Page FMOVER -/

namespace FMOVER

abbrev FM_CTRL : Nat := 0x09020
abbrev FM_CTRL_AUTO_RESTART : Fld := ⟨FM_CTRL, 0, 1⟩
abbrev FM_STAT : Nat := 0x09024
abbrev FM_STAT_BERR_COUNT : Fld := ⟨FM_STAT, 16, 16⟩
abbrev FM_STAT_RESTARTING : Fld := ⟨FM_STAT, 1, 1⟩
abbrev FM_STAT_HALTED : Fld := ⟨FM_STAT, 0, 1⟩
abbrev BERR_ADDR : Nat := 0x09028
abbrev BERR_INFO : Nat := 0x0902C
abbrev BERR_INFO_DIR : Fld := ⟨BERR_INFO, 8, 1⟩
abbrev BERR_INFO_UNIT : Fld := ⟨BERR_INFO, 0, 4⟩
abbrev RX (k : Nat) : Nat := 0x09040 + 0x4 * k
abbrev RX_HIWATER (k : Nat) : Fld := ⟨RX k, 16, 8⟩
abbrev RX_DROP (k : Nat) : Fld := ⟨RX k, 0, 16⟩

end FMOVER

/-! Page YPORT -/

namespace YPORT

abbrev PORT_CFG (n : Nat) : Nat := 0x10020 + 0x1000 * n
abbrev PORT_CFG_TEMPS (n : Nat) : Fld := ⟨PORT_CFG n, 16, 3⟩
abbrev PORT_CFG_CELLS (n : Nat) : Fld := ⟨PORT_CFG n, 8, 5⟩
abbrev PORT_CFG_RING (n : Nat) : Fld := ⟨PORT_CFG n, 7, 1⟩
abbrev PORT_CFG_MONITOR_ONLY (n : Nat) : Fld := ⟨PORT_CFG n, 6, 1⟩
abbrev PORT_CFG_MONITORS (n : Nat) : Fld := ⟨PORT_CFG n, 0, 5⟩
abbrev PORT_TMO (n : Nat) : Nat := 0x10024 + 0x1000 * n
abbrev PORT_TMO_RESP_TO (n : Nat) : Fld := ⟨PORT_TMO n, 16, 16⟩
abbrev PORT_TMO_CRC_LIMIT (n : Nat) : Fld := ⟨PORT_TMO n, 8, 8⟩
abbrev PORT_TMO_RETRIES (n : Nat) : Fld := ⟨PORT_TMO n, 0, 3⟩
abbrev DLY_CFG (n : Nat) : Nat := 0x10028 + 0x1000 * n
abbrev DLY_CFG_REMEAS (n : Nat) : Fld := ⟨DLY_CFG n, 16, 16⟩
abbrev DLY_CFG_ECHO_N (n : Nat) : Fld := ⟨DLY_CFG n, 0, 8⟩
abbrev PORT_STAT (n : Nat) : Nat := 0x1002C + 0x1000 * n
abbrev PORT_STAT_HERE (n : Nat) : Fld := ⟨PORT_STAT n, 16, 6⟩
abbrev PORT_STAT_FAR_PORT (n : Nat) : Fld := ⟨PORT_STAT n, 13, 1⟩
abbrev PORT_STAT_BROKEN (n : Nat) : Fld := ⟨PORT_STAT n, 12, 1⟩
abbrev PORT_STAT_CONV (n : Nat) : Fld := ⟨PORT_STAT n, 11, 1⟩
abbrev PORT_STAT_UNADDR (n : Nat) : Fld := ⟨PORT_STAT n, 10, 1⟩
abbrev PORT_STAT_ENUM_BUSY (n : Nat) : Fld := ⟨PORT_STAT n, 9, 1⟩
abbrev PORT_STAT_DLY_BUSY (n : Nat) : Fld := ⟨PORT_STAT n, 8, 1⟩
abbrev PORT_STAT_LINK (n : Nat) : Fld := ⟨PORT_STAT n, 0, 1⟩
abbrev EPOCH (n : Nat) : Nat := 0x10048 + 0x1000 * n
abbrev EPOCH_NODE0_SEEN (n : Nat) : Fld := ⟨EPOCH n, 16, 16⟩
abbrev EPOCH_TX_EPOCH (n : Nat) : Fld := ⟨EPOCH n, 0, 16⟩
abbrev BREAK (n : Nat) : Nat := 0x1004C + 0x1000 * n
abbrev BREAK_NEAR (n : Nat) : Fld := ⟨BREAK n, 0, 5⟩
abbrev HOLD_CFG (n : Nat) : Nat := 0x10058 + 0x1000 * n
abbrev HOLD_CFG_RAMP (n : Nat) : Fld := ⟨HOLD_CFG n, 16, 16⟩
abbrev HOLD_CFG_HOLD (n : Nat) : Fld := ⟨HOLD_CFG n, 0, 16⟩
abbrev CNT_ERR (n : Nat) : Nat := 0x10030 + 0x1000 * n
abbrev CNT_ERR_SYM (n : Nat) : Fld := ⟨CNT_ERR n, 16, 16⟩
abbrev CNT_ERR_CRC (n : Nat) : Fld := ⟨CNT_ERR n, 0, 16⟩
abbrev CNT_FRM (n : Nat) : Nat := 0x10034 + 0x1000 * n
abbrev CNT_FRM_ABORT (n : Nat) : Fld := ⟨CNT_FRM n, 16, 16⟩
abbrev CNT_FRM_MALF (n : Nat) : Fld := ⟨CNT_FRM n, 0, 16⟩
abbrev CNT_LINK (n : Nat) : Nat := 0x10038 + 0x1000 * n
abbrev CNT_LINK_REENUM (n : Nat) : Fld := ⟨CNT_LINK n, 16, 16⟩
abbrev CNT_LINK_DOWN (n : Nat) : Fld := ⟨CNT_LINK n, 0, 16⟩
abbrev CNT_XACT (n : Nat) : Nat := 0x1003C + 0x1000 * n
abbrev CNT_XACT_NACK (n : Nat) : Fld := ⟨CNT_XACT n, 16, 16⟩
abbrev CNT_XACT_TIMEOUT (n : Nat) : Fld := ⟨CNT_XACT n, 0, 16⟩
abbrev CNT_MISC (n : Nat) : Nat := 0x10040 + 0x1000 * n
abbrev CNT_MISC_STALE (n : Nat) : Fld := ⟨CNT_MISC n, 16, 16⟩
abbrev CNT_MISC_SLIP (n : Nat) : Fld := ⟨CNT_MISC n, 0, 16⟩
abbrev CNT_CTRL (n : Nat) : Nat := 0x10044 + 0x1000 * n
abbrev CNT_CTRL_CLR (n : Nat) : Fld := ⟨CNT_CTRL n, 0, 1⟩
abbrev MBX_CMD (n : Nat) : Nat := 0x10050 + 0x1000 * n
abbrev MBX_CMD_GO (n : Nat) : Fld := ⟨MBX_CMD n, 31, 1⟩
abbrev MBX_CMD_OP (n : Nat) : Fld := ⟨MBX_CMD n, 30, 1⟩
abbrev MBX_CMD_NODE (n : Nat) : Fld := ⟨MBX_CMD n, 24, 5⟩
abbrev MBX_CMD_COUNT (n : Nat) : Fld := ⟨MBX_CMD n, 16, 8⟩
abbrev MBX_CMD_ADDR (n : Nat) : Fld := ⟨MBX_CMD n, 0, 16⟩
abbrev MBX_STAT (n : Nat) : Nat := 0x10054 + 0x1000 * n
abbrev MBX_STAT_BUSY (n : Nat) : Fld := ⟨MBX_STAT n, 31, 1⟩
abbrev MBX_STAT_RESULT (n : Nat) : Fld := ⟨MBX_STAT n, 24, 4⟩
abbrev MBX_STAT_REASON (n : Nat) : Fld := ⟨MBX_STAT n, 16, 8⟩
abbrev MBX_DATA (n k : Nat) : Nat := 0x10060 + 0x1000 * n + 0x4 * k
abbrev NODE_POS (n k : Nat) : Nat := 0x10100 + 0x1000 * n + 0x4 * k
abbrev NODE_POS_PRESENT (n k : Nat) : Fld := ⟨NODE_POS n k, 31, 1⟩
abbrev NODE_POS_REACH (n k : Nat) : Fld := ⟨NODE_POS n k, 30, 1⟩
abbrev NODE_POS_POS (n k : Nat) : Fld := ⟨NODE_POS n k, 24, 6⟩
abbrev NODE_POS_ALIGNED (n k : Nat) : Fld := ⟨NODE_POS n k, 23, 1⟩
abbrev NODE_POS_DELAY (n k : Nat) : Fld := ⟨NODE_POS n k, 0, 16⟩
abbrev NODE_UID_LO (n k : Nat) : Nat := 0x10180 + 0x1000 * n + 0x8 * k
abbrev NODE_UID_HI (n k : Nat) : Nat := 0x10184 + 0x1000 * n + 0x8 * k
abbrev NODE_ERR (n k : Nat) : Nat := 0x10280 + 0x1000 * n + 0x4 * k
abbrev NODE_ERR_NACK (n k : Nat) : Fld := ⟨NODE_ERR n k, 8, 8⟩
abbrev NODE_ERR_TIMEOUT (n k : Nat) : Fld := ⟨NODE_ERR n k, 0, 8⟩

end YPORT

/-! Page SAMPLE -/

namespace SAMPLE

abbrev SET_CFG : Nat := 0x28020
abbrev SET_CFG_PERIOD : Fld := ⟨SET_CFG, 16, 16⟩
abbrev SET_CFG_LEAD : Fld := ⟨SET_CFG, 8, 8⟩
abbrev SET_CFG_CLOSE : Fld := ⟨SET_CFG, 0, 8⟩
abbrev SDM_CFG : Nat := 0x28024
abbrev SDM_CFG_PLAUS_N : Fld := ⟨SDM_CFG, 12, 4⟩
abbrev SDM_CFG_CLK_EN : Fld := ⟨SDM_CFG, 8, 1⟩
abbrev SDM_CFG_EDGE : Fld := ⟨SDM_CFG, 4, 4⟩
abbrev SDM_CFG_EN : Fld := ⟨SDM_CFG, 0, 4⟩
abbrev PLAUS_TOL : Nat := 0x28028
abbrev SDM_TRIM : Nat := 0x2802C
abbrev SDM_TRIM_TRIM3 : Fld := ⟨SDM_TRIM, 24, 8⟩
abbrev SDM_TRIM_TRIM2 : Fld := ⟨SDM_TRIM, 16, 8⟩
abbrev SDM_TRIM_TRIM1 : Fld := ⟨SDM_TRIM, 8, 8⟩
abbrev SDM_TRIM_TRIM0 : Fld := ⟨SDM_TRIM, 0, 8⟩
abbrev GAIN (k : Nat) : Nat := 0x28030 + 0x8 * k
abbrev OFS (k : Nat) : Nat := 0x28034 + 0x8 * k
abbrev V_BUS : Nat := 0x28050
abbrev I_SHELF : Nat := 0x28054
abbrev V_BUS2 : Nat := 0x28058
abbrev AUX : Nat := 0x2805C
abbrev SDM_STAT : Nat := 0x28060
abbrev SDM_STAT_CLK_DRIVE : Fld := ⟨SDM_STAT, 10, 1⟩
abbrev SDM_STAT_HANDOVER : Fld := ⟨SDM_STAT, 9, 1⟩
abbrev SDM_STAT_PLAUS_FAIL : Fld := ⟨SDM_STAT, 8, 1⟩
abbrev SDM_STAT_STUCK : Fld := ⟨SDM_STAT, 4, 4⟩
abbrev SDM_STAT_CLIP : Fld := ⟨SDM_STAT, 0, 4⟩
abbrev SUM_TOL : Nat := 0x28064
abbrev NEXT_SSN : Nat := 0x28068
abbrev SSN : Nat := 0x28080
abbrev OPSEC : Nat := 0x28084
abbrev OPUS : Nat := 0x28088
abbrev VALID : Nat := 0x2808C
abbrev VALID_MASK : Fld := ⟨VALID, 0, 24⟩
abbrev V_BUS_SET : Nat := 0x28090
abbrev I_SHELF_SET : Nat := 0x28094
abbrev V_BUS2_SET : Nat := 0x28098
abbrev AUX_SET : Nat := 0x2809C
abbrev I_SUM : Nat := 0x280A0
abbrev SET_FLAGS : Nat := 0x280A4
abbrev SET_FLAGS_SDM_STUCK : Fld := ⟨SET_FLAGS, 4, 1⟩
abbrev SET_FLAGS_CLIP : Fld := ⟨SET_FLAGS, 3, 1⟩
abbrev SET_FLAGS_HANDOVER : Fld := ⟨SET_FLAGS, 2, 1⟩
abbrev SET_FLAGS_SUM_ERR : Fld := ⟨SET_FLAGS, 1, 1⟩
abbrev SET_FLAGS_ALL_VALID : Fld := ⟨SET_FLAGS, 0, 1⟩
abbrev CAUSE (k : Nat) : Nat := 0x280A8 + 0x4 * k
abbrev CNT_SET : Nat := 0x280C0
abbrev CNT_SET_PARTIAL : Fld := ⟨CNT_SET, 16, 16⟩
abbrev CNT_SET_EMPTY : Fld := ⟨CNT_SET, 0, 16⟩
abbrev CNT_FRM : Nat := 0x280C4
abbrev CNT_FRM_LATE : Fld := ⟨CNT_FRM, 16, 16⟩
abbrev CNT_FRM_TAG_MISS : Fld := ⟨CNT_FRM, 0, 16⟩
abbrev CNT_CTRL : Nat := 0x280C8
abbrev CNT_CTRL_CLR : Fld := ⟨CNT_CTRL, 0, 1⟩

end SAMPLE

/-! Page VCE -/

namespace VCE

abbrev HANDOVER : Nat := 0x30020
abbrev HANDOVER_GO : Fld := ⟨HANDOVER, 31, 1⟩
abbrev HANDOVER_RESULT : Fld := ⟨HANDOVER, 26, 2⟩
abbrev HANDOVER_TO : Fld := ⟨HANDOVER, 8, 6⟩
abbrev HANDOVER_FROM : Fld := ⟨HANDOVER, 0, 6⟩
abbrev SCHED_STAT : Nat := 0x30024
abbrev SCHED_STAT_REBUILDS : Fld := ⟨SCHED_STAT, 16, 16⟩
abbrev SCHED_STAT_PENDING : Fld := ⟨SCHED_STAT, 1, 1⟩
abbrev SCHED_STAT_VALID : Fld := ⟨SCHED_STAT, 0, 1⟩
abbrev LANE_LOAD (k : Nat) : Nat := 0x30028 + 0x4 * k
abbrev LANE_LOAD_LOCAL (k : Nat) : Fld := ⟨LANE_LOAD k, 16, 16⟩
abbrev LANE_LOAD_TOTAL (k : Nat) : Fld := ⟨LANE_LOAD k, 0, 16⟩
abbrev REMOTE_END : Nat := 0x30038
abbrev REMOTE_END_DEADLINE : Fld := ⟨REMOTE_END, 16, 16⟩
abbrev REMOTE_END_WORST : Fld := ⟨REMOTE_END, 0, 16⟩
abbrev WRAP_FLAG_LO : Nat := 0x3003C
abbrev WRAP_FLAG_HI : Nat := 0x30040
abbrev NAN_FLAG_LO : Nat := 0x30044
abbrev NAN_FLAG_HI : Nat := 0x30048
abbrev CMP_FLAG : Nat := 0x3004C
abbrev CMP_FLAG_SLOTS : Fld := ⟨CMP_FLAG, 0, 8⟩
abbrev VCE_CTRL : Nat := 0x30050
abbrev VCE_CTRL_CLR : Fld := ⟨VCE_CTRL, 0, 1⟩
abbrev TIMING : Nat := 0x30054
abbrev TIMING_CYCLE : Fld := ⟨TIMING, 16, 2⟩
abbrev TIMING_SP_PHASE : Fld := ⟨TIMING, 0, 9⟩

end VCE

/-! Page VSLOT -/

namespace VSLOT

abbrev SLOT_CFG (s : Nat) : Nat := 0x31020 + 0x200 * s
abbrev SLOT_CFG_EN (s : Nat) : Fld := ⟨SLOT_CFG s, 31, 1⟩
abbrev SLOT_CFG_PAIR (s : Nat) : Fld := ⟨SLOT_CFG s, 30, 1⟩
abbrev SLOT_CFG_FENCE_ACT (s : Nat) : Fld := ⟨SLOT_CFG s, 28, 2⟩
abbrev SLOT_CFG_YSRC (s : Nat) : Fld := ⟨SLOT_CFG s, 24, 4⟩
abbrev SLOT_CFG_RSRC (s : Nat) : Fld := ⟨SLOT_CFG s, 22, 2⟩
abbrev SLOT_CFG_IDX (s : Nat) : Fld := ⟨SLOT_CFG s, 16, 6⟩
abbrev SLOT_CFG_INT_SHIFT (s : Nat) : Fld := ⟨SLOT_CFG s, 8, 6⟩
abbrev SLOT_CFG_DIV (s : Nat) : Fld := ⟨SLOT_CFG s, 0, 8⟩
abbrev SLOT_CTRL (s : Nat) : Nat := 0x31024 + 0x200 * s
abbrev SLOT_CTRL_SWAP_REQ (s : Nat) : Fld := ⟨SLOT_CTRL s, 31, 1⟩
abbrev SLOT_CTRL_SWAP_PRESET (s : Nat) : Fld := ⟨SLOT_CTRL s, 30, 1⟩
abbrev SLOT_CTRL_BANK_COPY (s : Nat) : Fld := ⟨SLOT_CTRL s, 29, 1⟩
abbrev SLOT_CTRL_STATE_CLR (s : Nat) : Fld := ⟨SLOT_CTRL s, 28, 1⟩
abbrev SLOT_CTRL_TRK_SLOT (s : Nat) : Fld := ⟨SLOT_CTRL s, 16, 6⟩
abbrev SLOT_CTRL_MODE (s : Nat) : Fld := ⟨SLOT_CTRL s, 0, 2⟩
abbrev REF (s : Nat) : Nat := 0x31028 + 0x200 * s
abbrev FF (s : Nat) : Nat := 0x3102C + 0x200 * s
abbrev UMAN (s : Nat) : Nat := 0x31030 + 0x200 * s
abbrev Y_VAL (s : Nat) : Nat := 0x31034 + 0x200 * s
abbrev CA_W (s : Nat) : Nat := 0x31040 + 0x200 * s
abbrev CB_W (s : Nat) : Nat := 0x31080 + 0x200 * s
abbrev CA_KP (s : Nat) : Nat := 0x31044 + 0x200 * s
abbrev CB_KP (s : Nat) : Nat := 0x31084 + 0x200 * s
abbrev CA_KI (s : Nat) : Nat := 0x31048 + 0x200 * s
abbrev CB_KI (s : Nat) : Nat := 0x31088 + 0x200 * s
abbrev CA_B10 (s : Nat) : Nat := 0x3104C + 0x200 * s
abbrev CB_B10 (s : Nat) : Nat := 0x3108C + 0x200 * s
abbrev CA_B11 (s : Nat) : Nat := 0x31050 + 0x200 * s
abbrev CB_B11 (s : Nat) : Nat := 0x31090 + 0x200 * s
abbrev CA_B12 (s : Nat) : Nat := 0x31054 + 0x200 * s
abbrev CB_B12 (s : Nat) : Nat := 0x31094 + 0x200 * s
abbrev CA_A11 (s : Nat) : Nat := 0x31058 + 0x200 * s
abbrev CB_A11 (s : Nat) : Nat := 0x31098 + 0x200 * s
abbrev CA_A12 (s : Nat) : Nat := 0x3105C + 0x200 * s
abbrev CB_A12 (s : Nat) : Nat := 0x3109C + 0x200 * s
abbrev CA_B20 (s : Nat) : Nat := 0x31060 + 0x200 * s
abbrev CB_B20 (s : Nat) : Nat := 0x310A0 + 0x200 * s
abbrev CA_B21 (s : Nat) : Nat := 0x31064 + 0x200 * s
abbrev CB_B21 (s : Nat) : Nat := 0x310A4 + 0x200 * s
abbrev CA_B22 (s : Nat) : Nat := 0x31068 + 0x200 * s
abbrev CB_B22 (s : Nat) : Nat := 0x310A8 + 0x200 * s
abbrev CA_A21 (s : Nat) : Nat := 0x3106C + 0x200 * s
abbrev CB_A21 (s : Nat) : Nat := 0x310AC + 0x200 * s
abbrev CA_A22 (s : Nat) : Nat := 0x31070 + 0x200 * s
abbrev CB_A22 (s : Nat) : Nat := 0x310B0 + 0x200 * s
abbrev CA_UMIN (s : Nat) : Nat := 0x31074 + 0x200 * s
abbrev CB_UMIN (s : Nat) : Nat := 0x310B4 + 0x200 * s
abbrev CA_UMAX (s : Nat) : Nat := 0x31078 + 0x200 * s
abbrev CB_UMAX (s : Nat) : Nat := 0x310B8 + 0x200 * s
abbrev CA_DUMAX (s : Nat) : Nat := 0x3107C + 0x200 * s
abbrev CB_DUMAX (s : Nat) : Nat := 0x310BC + 0x200 * s
abbrev SLOT_STAT (s : Nat) : Nat := 0x310C0 + 0x200 * s
abbrev SLOT_STAT_ACT_BANK (s : Nat) : Fld := ⟨SLOT_STAT s, 31, 1⟩
abbrev SLOT_STAT_SWAP_PEND (s : Nat) : Fld := ⟨SLOT_STAT s, 30, 1⟩
abbrev SLOT_STAT_CLAMPED (s : Nat) : Fld := ⟨SLOT_STAT s, 29, 1⟩
abbrev SLOT_STAT_RATE_LIM (s : Nat) : Fld := ⟨SLOT_STAT s, 28, 1⟩
abbrev SLOT_STAT_HELD (s : Nat) : Fld := ⟨SLOT_STAT s, 27, 1⟩
abbrev SLOT_STAT_CMP_FAIL (s : Nat) : Fld := ⟨SLOT_STAT s, 26, 1⟩
abbrev SLOT_STAT_FENCED (s : Nat) : Fld := ⟨SLOT_STAT s, 25, 1⟩
abbrev SLOT_STAT_MODE_ACT (s : Nat) : Fld := ⟨SLOT_STAT s, 22, 2⟩
abbrev SLOT_STAT_LANE (s : Nat) : Fld := ⟨SLOT_STAT s, 20, 2⟩
abbrev SLOT_STAT_LANE2 (s : Nat) : Fld := ⟨SLOT_STAT s, 18, 2⟩
abbrev SLOT_CNT (s : Nat) : Nat := 0x310C4 + 0x200 * s
abbrev SLOT_CNT_NAN (s : Nat) : Fld := ⟨SLOT_CNT s, 16, 16⟩
abbrev SLOT_CNT_OVERRUN (s : Nat) : Fld := ⟨SLOT_CNT s, 0, 16⟩
abbrev WRAP_CNT (s : Nat) : Nat := 0x310C8 + 0x200 * s
abbrev WRAP_CNT_BUMP (s : Nat) : Fld := ⟨WRAP_CNT s, 16, 16⟩
abbrev WRAP_CNT_WRAP (s : Nat) : Fld := ⟨WRAP_CNT s, 0, 16⟩
abbrev OUT (s : Nat) : Nat := 0x310D0 + 0x200 * s
abbrev E (s : Nat) : Nat := 0x310D4 + 0x200 * s
abbrev Y (s : Nat) : Nat := 0x310D8 + 0x200 * s
abbrev REF_USED (s : Nat) : Nat := 0x310DC + 0x200 * s
abbrev INT_LO (s : Nat) : Nat := 0x310E0 + 0x200 * s
abbrev INT_HI (s : Nat) : Nat := 0x310E4 + 0x200 * s
abbrev INT_HI_SIGN (s : Nat) : Fld := ⟨INT_HI s, 16, 16⟩
abbrev INT_HI_INT (s : Nat) : Fld := ⟨INT_HI s, 0, 16⟩
abbrev S11 (s : Nat) : Nat := 0x310E8 + 0x200 * s
abbrev S12 (s : Nat) : Nat := 0x310EC + 0x200 * s
abbrev S21 (s : Nat) : Nat := 0x310F0 + 0x200 * s
abbrev S22 (s : Nat) : Nat := 0x310F4 + 0x200 * s
abbrev EVALS (s : Nat) : Nat := 0x310F8 + 0x200 * s

end VSLOT

/-! Page SHELF -/

namespace SHELF

abbrev SHELF_CFG : Nat := 0x40020
abbrev SHELF_CFG_PLANT_EN : Fld := ⟨SHELF_CFG, 5, 1⟩
abbrev SHELF_CFG_CMD_SRC : Fld := ⟨SHELF_CFG, 4, 1⟩
abbrev SHELF_CFG_LOSS_ACT : Fld := ⟨SHELF_CFG, 2, 2⟩
abbrev SHELF_CFG_D2_FALLBACK : Fld := ⟨SHELF_CFG, 1, 1⟩
abbrev SHELF_CFG_REG_MODE : Fld := ⟨SHELF_CFG, 0, 1⟩
abbrev ROLE : Nat := 0x40024
abbrev ROLE_SPARE_EN : Fld := ⟨ROLE, 23, 1⟩
abbrev ROLE_SPARE : Fld := ⟨ROLE, 20, 3⟩
abbrev ROLE_PCMD : Fld := ⟨ROLE, 16, 3⟩
abbrev ROLE_CREST_CHG : Fld := ⟨ROLE, 12, 3⟩
abbrev ROLE_CREST_DIS : Fld := ⟨ROLE, 8, 3⟩
abbrev ROLE_HOLD : Fld := ⟨ROLE, 4, 3⟩
abbrev ROLE_BUSV : Fld := ⟨ROLE, 0, 3⟩
abbrev V_REF : Nat := 0x40028
abbrev R_DROOP : Nat := 0x4002C
abbrev P_REF_HOST : Nat := 0x40030
abbrev P_SLEW : Nat := 0x40034
abbrev START_SLEW : Nat := 0x40038
abbrev V_OV : Nat := 0x4003C
abbrev V_UV : Nat := 0x40040
abbrev BUS_N : Nat := 0x40044
abbrev BUS_N_OV_N : Fld := ⟨BUS_N, 8, 8⟩
abbrev BUS_N_UV_N : Fld := ⟨BUS_N, 0, 8⟩
abbrev V_FLOOR : Nat := 0x40048
abbrev SAFE_RAMP : Nat := 0x4004C
abbrev SAFE_RAMP_MS : Fld := ⟨SAFE_RAMP, 0, 16⟩
abbrev PLANT_TMO : Nat := 0x40050
abbrev PLANT_TMO_T : Fld := ⟨PLANT_TMO, 0, 16⟩
abbrev CYCLE : Nat := 0x40060
abbrev REG_STAT : Nat := 0x40064
abbrev REG_STAT_MODE_CHG : Fld := ⟨REG_STAT, 16, 2⟩
abbrev REG_STAT_INHIBIT_RAMP : Fld := ⟨REG_STAT, 13, 1⟩
abbrev REG_STAT_V_SRC_D2 : Fld := ⟨REG_STAT, 12, 1⟩
abbrev REG_STAT_PLANT_LOST : Fld := ⟨REG_STAT, 11, 1⟩
abbrev REG_STAT_SPARE_IN_USE : Fld := ⟨REG_STAT, 10, 1⟩
abbrev REG_STAT_REG_LOST : Fld := ⟨REG_STAT, 9, 1⟩
abbrev REG_STAT_START_RAMP : Fld := ⟨REG_STAT, 8, 1⟩
abbrev REG_STAT_HOLD : Fld := ⟨REG_STAT, 4, 2⟩
abbrev REG_STAT_MODE_ACT : Fld := ⟨REG_STAT, 3, 1⟩
abbrev REG_STAT_ACT_SLOT : Fld := ⟨REG_STAT, 0, 3⟩
abbrev P_REF : Nat := 0x40068
abbrev REF_USED : Nat := 0x4006C
abbrev DEMAND : Nat := 0x40070
abbrev DEMAND_LIM : Nat := 0x40074
abbrev P_SHELF : Nat := 0x40078
abbrev V_BUS_USED : Nat := 0x4007C
abbrev P_CMD_PLANT : Nat := 0x40090

end SHELF

/-! Page ALLOC -/

namespace ALLOC

abbrev ALLOC_CFG : Nat := 0x41020
abbrev ALLOC_CFG_DRAIN_MS : Fld := ⟨ALLOC_CFG, 16, 16⟩
abbrev ALLOC_CFG_STATUS_TMO : Fld := ⟨ALLOC_CFG, 8, 8⟩
abbrev ALLOC_CFG_SHORT_N : Fld := ⟨ALLOC_CFG, 0, 8⟩
abbrev AVAIL : Nat := 0x41024
abbrev AVAIL_MASK : Fld := ⟨AVAIL, 0, 24⟩
abbrev K_SOC : Nat := 0x41028
abbrev S_MIN : Nat := 0x4102C
abbrev S_MAX : Nat := 0x41030
abbrev T_W_START : Nat := 0x41034
abbrev T_W_END : Nat := 0x41038
abbrev G_MIN : Nat := 0x4103C
abbrev SHORT_TOL : Nat := 0x41040
abbrev APPLY_TOL : Nat := 0x41044
abbrev ILIM_DIS (k : Nat) : Nat := 0x41080 + 0x4 * k
abbrev ILIM_CHG (k : Nat) : Nat := 0x410E0 + 0x4 * k
abbrev CYCLE : Nat := 0x41140
abbrev ALLOC_STAT : Nat := 0x41144
abbrev ALLOC_STAT_N_GATED : Fld := ⟨ALLOC_STAT, 8, 5⟩
abbrev ALLOC_STAT_DIR : Fld := ⟨ALLOC_STAT, 2, 1⟩
abbrev ALLOC_STAT_NO_STRING : Fld := ⟨ALLOC_STAT, 1, 1⟩
abbrev ALLOC_STAT_SHORTFALL : Fld := ⟨ALLOC_STAT, 0, 1⟩
abbrev SHORT : Nat := 0x41148
abbrev SCALE : Nat := 0x4114C
abbrev A (k : Nat) : Nat := 0x41150 + 0x4 * k
abbrev STR (k : Nat) : Nat := 0x411B0 + 0x4 * k
abbrev STR_OFF_CAUSE (k : Nat) : Fld := ⟨STR k, 12, 4⟩
abbrev STR_SURVEY (k : Nat) : Fld := ⟨STR k, 9, 1⟩
abbrev STR_ENABLE (k : Nat) : Fld := ⟨STR k, 8, 1⟩
abbrev STR_EOC (k : Nat) : Fld := ⟨STR k, 7, 1⟩
abbrev STR_EOD (k : Nat) : Fld := ⟨STR k, 6, 1⟩
abbrev STR_LIMITED (k : Nat) : Fld := ⟨STR k, 5, 1⟩
abbrev STR_STALE (k : Nat) : Fld := ⟨STR k, 4, 1⟩
abbrev STR_TRIM_HELD (k : Nat) : Fld := ⟨STR k, 3, 1⟩
abbrev STR_CAPPED (k : Nat) : Fld := ⟨STR k, 2, 1⟩
abbrev STR_DRAINING (k : Nat) : Fld := ⟨STR k, 1, 1⟩
abbrev STR_GATE (k : Nat) : Fld := ⟨STR k, 0, 1⟩
abbrev WSSN : Nat := 0x41220
abbrev WDIS (k : Nat) : Nat := 0x41224 + 0x4 * k
abbrev WCHG (k : Nat) : Nat := 0x41284 + 0x4 * k

end ALLOC

/-! Page CREST -/

namespace CREST

abbrev CAP_HOST_DIS : Nat := 0x42020
abbrev CAP_HOST_CHG : Nat := 0x42024
abbrev CAP_PLANT_DIS : Nat := 0x42028
abbrev CAP_PLANT_CHG : Nat := 0x4202C
abbrev LOSS_CAP_DIS : Nat := 0x42030
abbrev LOSS_CAP_CHG : Nat := 0x42034
abbrev P_RATED_DIS : Nat := 0x42038
abbrev P_RATED_CHG : Nat := 0x4203C
abbrev T_DER_START : Nat := 0x42040
abbrev T_DER_END : Nat := 0x42044
abbrev OVER : Nat := 0x42048
abbrev OVER_OVER_PCT : Fld := ⟨OVER, 0, 16⟩
abbrev BUCKET_MAX : Nat := 0x4204C
abbrev SLEW : Nat := 0x42050
abbrev EXCEED : Nat := 0x42054
abbrev EXCEED_TOL_PCT : Fld := ⟨EXCEED, 16, 16⟩
abbrev EXCEED_TIME : Fld := ⟨EXCEED, 0, 16⟩
abbrev CYCLE : Nat := 0x42080
abbrev CAP_DIS : Nat := 0x42084
abbrev CAP_CHG : Nat := 0x42088
abbrev CAP_SRC : Nat := 0x4208C
abbrev CAP_SRC_CHG : Fld := ⟨CAP_SRC, 4, 3⟩
abbrev CAP_SRC_DIS : Fld := ⟨CAP_SRC, 0, 3⟩
abbrev P_LIM_DIS : Nat := 0x42090
abbrev P_LIM_CHG : Nat := 0x42094
abbrev BUCKET_DIS : Nat := 0x42098
abbrev BUCKET_CHG : Nat := 0x4209C
abbrev I_LIM_DIS : Nat := 0x420A0
abbrev I_LIM_CHG : Nat := 0x420A4
abbrev CREST_STAT : Nat := 0x420A8
abbrev CREST_STAT_EXCEED : Fld := ⟨CREST_STAT, 4, 1⟩
abbrev CREST_STAT_OVER_CHG : Fld := ⟨CREST_STAT, 3, 1⟩
abbrev CREST_STAT_OVER_DIS : Fld := ⟨CREST_STAT, 2, 1⟩
abbrev CREST_STAT_BIND_CHG : Fld := ⟨CREST_STAT, 1, 1⟩
abbrev CREST_STAT_BIND_DIS : Fld := ⟨CREST_STAT, 0, 1⟩
abbrev T_HOT : Nat := 0x420AC

end CREST

/-! Page CORNICE -/

namespace CORNICE

abbrev CN_CFG : Nat := 0x43020
abbrev CN_CFG_EN : Fld := ⟨CN_CFG, 31, 1⟩
abbrev CN_CFG_INTENT_EN : Fld := ⟨CN_CFG, 30, 1⟩
abbrev CN_CFG_HINT_EN : Fld := ⟨CN_CFG, 29, 1⟩
abbrev CN_CFG_HINT_SRC : Fld := ⟨CN_CFG, 28, 1⟩
abbrev CN_CFG_HINT_EDGE : Fld := ⟨CN_CFG, 26, 2⟩
abbrev CN_CFG_HU_EN : Fld := ⟨CN_CFG, 25, 1⟩
abbrev CN_CFG_CONF_N : Fld := ⟨CN_CFG, 20, 4⟩
abbrev CN_CFG_MISS_LIMIT : Fld := ⟨CN_CFG, 16, 4⟩
abbrev CN_CFG_HINT_SEL : Fld := ⟨CN_CFG, 0, 3⟩
abbrev MAX_AMP : Nat := 0x43024
abbrev ADVANCE : Nat := 0x43028
abbrev ADVANCE_US : Fld := ⟨ADVANCE, 0, 16⟩
abbrev WINDOW : Nat := 0x4302C
abbrev WINDOW_US : Fld := ⟨WINDOW, 0, 16⟩
abbrev RAMP : Nat := 0x43030
abbrev RAMP_US : Fld := ⟨RAMP, 0, 16⟩
abbrev BACKOFF : Nat := 0x43034
abbrev BACKOFF_MS : Fld := ⟨BACKOFF, 0, 16⟩
abbrev LEAD_MAX : Nat := 0x43038
abbrev C_BUS : Nat := 0x4303C
abbrev HINT_AGE : Nat := 0x43040
abbrev HINT_AGE_MS : Fld := ⟨HINT_AGE, 0, 16⟩
abbrev HINT_AMP (k : Nat) : Nat := 0x43048 + 0x8 * k
abbrev HINT_LEAD (k : Nat) : Nat := 0x4304C + 0x8 * k
abbrev CN_CMD : Nat := 0x43090
abbrev CN_CMD_BACKOFF_CLR : Fld := ⟨CN_CMD, 1, 1⟩
abbrev CN_CMD_CANCEL : Fld := ⟨CN_CMD, 0, 1⟩
abbrev CYCLE : Nat := 0x430A0
abbrev CN_STAT : Nat := 0x430A4
abbrev CN_STAT_ISN : Fld := ⟨CN_STAT, 16, 16⟩
abbrev CN_STAT_OUTCOME : Fld := ⟨CN_STAT, 12, 4⟩
abbrev CN_STAT_SRC : Fld := ⟨CN_STAT, 5, 1⟩
abbrev CN_STAT_OPEN : Fld := ⟨CN_STAT, 4, 1⟩
abbrev CN_STAT_STATE : Fld := ⟨CN_STAT, 0, 3⟩
abbrev PRED : Nat := 0x430A8
abbrev PHI_REQ : Nat := 0x430AC
abbrev PHI_APP : Nat := 0x430B0
abbrev OBS : Nat := 0x430B4
abbrev RATIO : Nat := 0x430B8
abbrev T_OPEN : Nat := 0x430BC
abbrev WIN_END : Nat := 0x430C0
abbrev BASE : Nat := 0x430C4
abbrev F (k : Nat) : Nat := 0x430D0 + 0x4 * k
abbrev CNT_A : Nat := 0x43140
abbrev CNT_A_CONFIRM : Fld := ⟨CNT_A, 16, 16⟩
abbrev CNT_A_PARTIAL : Fld := ⟨CNT_A, 0, 16⟩
abbrev CNT_B : Nat := 0x43144
abbrev CNT_B_COLLAPSE : Fld := ⟨CNT_B, 16, 16⟩
abbrev CNT_B_REFUSED : Fld := ⟨CNT_B, 0, 16⟩
abbrev CNT_C : Nat := 0x43148
abbrev CNT_C_BACKOFFS : Fld := ⟨CNT_C, 16, 16⟩
abbrev CNT_C_MISS : Fld := ⟨CNT_C, 0, 4⟩
abbrev CN_REFUSE : Nat := 0x4314C
abbrev CN_REFUSE_REASON : Fld := ⟨CN_REFUSE, 0, 4⟩
abbrev CNT_CTRL : Nat := 0x43150
abbrev CNT_CTRL_CLR : Fld := ⟨CNT_CTRL, 0, 1⟩

end CORNICE

/-! Page HOLDUP -/

namespace HOLDUP

abbrev HU_CFG : Nat := 0x44020
abbrev HU_CFG_AUTO_REL_MS : Fld := ⟨HU_CFG, 16, 16⟩
abbrev HU_CFG_ENTER_N : Fld := ⟨HU_CFG, 8, 8⟩
abbrev HU_CFG_AUTO_REL : Fld := ⟨HU_CFG, 3, 1⟩
abbrev HU_CFG_PLANT_EN : Fld := ⟨HU_CFG, 2, 1⟩
abbrev HU_CFG_PIN_EN : Fld := ⟨HU_CFG, 1, 1⟩
abbrev HU_CFG_V_EN : Fld := ⟨HU_CFG, 0, 1⟩
abbrev V_ENTER : Nat := 0x44024
abbrev V_EXIT : Nat := 0x44028
abbrev V_REF : Nat := 0x4402C
abbrev R_DROOP : Nat := 0x44030
abbrev HB_RAMP : Nat := 0x44034
abbrev HB_RAMP_MS : Fld := ⟨HB_RAMP, 0, 16⟩
abbrev TMAX : Nat := 0x44038
abbrev TMAX_S : Fld := ⟨TMAX, 0, 16⟩
abbrev CAP_DIS : Nat := 0x4403C
abbrev CAP_CHG : Nat := 0x44040
abbrev RELEASE : Nat := 0x44044
abbrev RELEASE_REL : Fld := ⟨RELEASE, 0, 1⟩
abbrev HU_STAT : Nat := 0x44060
abbrev HU_STAT_ENTRIES : Fld := ⟨HU_STAT, 16, 16⟩
abbrev HU_STAT_CAUSE : Fld := ⟨HU_STAT, 4, 3⟩
abbrev HU_STAT_REL_LATCHED : Fld := ⟨HU_STAT, 2, 1⟩
abbrev HU_STAT_STATE : Fld := ⟨HU_STAT, 0, 2⟩
abbrev HU_TIME : Nat := 0x44064

end HOLDUP

/-! Page RAIL -/

namespace RAIL

abbrev RAIL_CFG (n : Nat) : Nat := 0x48020 + 0x1000 * n
abbrev RAIL_CFG_VLOC_EN (n : Nat) : Fld := ⟨RAIL_CFG n, 31, 1⟩
abbrev RAIL_CFG_TBSEL (n : Nat) : Fld := ⟨RAIL_CFG n, 30, 1⟩
abbrev RAIL_CFG_OV_ACT (n : Nat) : Fld := ⟨RAIL_CFG n, 29, 1⟩
abbrev RAIL_CFG_OFF_FAST (n : Nat) : Fld := ⟨RAIL_CFG n, 28, 1⟩
abbrev RAIL_CFG_DIV (n : Nat) : Fld := ⟨RAIL_CFG n, 24, 4⟩
abbrev RAIL_CFG_SAMPLE_PH (n : Nat) : Fld := ⟨RAIL_CFG n, 16, 8⟩
abbrev RAIL_CFG_FSW_KHZ (n : Nat) : Fld := ⟨RAIL_CFG n, 0, 16⟩
abbrev RAIL_CTRL (n : Nat) : Nat := 0x48024 + 0x1000 * n
abbrev RAIL_CTRL_ON (n : Nat) : Fld := ⟨RAIL_CTRL n, 0, 1⟩
abbrev VREF (n : Nat) : Nat := 0x48028 + 0x1000 * n
abbrev VREF_V (n : Nat) : Fld := ⟨VREF n, 0, 16⟩
abbrev SS (n : Nat) : Nat := 0x4802C + 0x1000 * n
abbrev SS_VSLEW (n : Nat) : Fld := ⟨SS n, 16, 16⟩
abbrev SS_SS_RATE (n : Nat) : Fld := ⟨SS n, 0, 16⟩
abbrev DEAD (n : Nat) : Nat := 0x48030 + 0x1000 * n
abbrev DEAD_TON_MIN (n : Nat) : Fld := ⟨DEAD n, 16, 8⟩
abbrev DEAD_DEAD_HL (n : Nat) : Fld := ⟨DEAD n, 8, 8⟩
abbrev DEAD_DEAD_LH (n : Nat) : Fld := ⟨DEAD n, 0, 8⟩
abbrev PROT (n : Nat) : Nat := 0x48034 + 0x1000 * n
abbrev PROT_OV_PCT (n : Nat) : Fld := ⟨PROT n, 24, 8⟩
abbrev PROT_UV_PCT (n : Nat) : Fld := ⟨PROT n, 16, 8⟩
abbrev PROT_PG_PCT (n : Nat) : Fld := ⟨PROT n, 8, 8⟩
abbrev PROT_UV_US (n : Nat) : Fld := ⟨PROT n, 0, 8⟩
abbrev ILIM_PK (n : Nat) : Nat := 0x48038 + 0x1000 * n
abbrev PH_IMAX (n : Nat) : Nat := 0x4803C + 0x1000 * n
abbrev OC (n : Nat) : Nat := 0x48040 + 0x1000 * n
abbrev OC_OC_N (n : Nat) : Fld := ⟨OC n, 16, 16⟩
abbrev OC_OVL_US (n : Nat) : Fld := ⟨OC n, 0, 16⟩
abbrev SHED_CFG (n : Nat) : Nat := 0x48044 + 0x1000 * n
abbrev SHED_CFG_SHED_EN (n : Nat) : Fld := ⟨SHED_CFG n, 31, 1⟩
abbrev SHED_CFG_DE_EN (n : Nat) : Fld := ⟨SHED_CFG n, 30, 1⟩
abbrev SHED_CFG_NPH_MIN (n : Nat) : Fld := ⟨SHED_CFG n, 24, 5⟩
abbrev SHED_CFG_HOLDOFF_MS (n : Nat) : Fld := ⟨SHED_CFG n, 16, 8⟩
abbrev SHED_CFG_SHED_ABORT (n : Nat) : Fld := ⟨SHED_CFG n, 0, 8⟩
abbrev I_ADD (n : Nat) : Nat := 0x48048 + 0x1000 * n
abbrev I_SHED (n : Nat) : Nat := 0x4804C + 0x1000 * n
abbrev PREP (n : Nat) : Nat := 0x48050 + 0x1000 * n
abbrev PREP_GO (n : Nat) : Fld := ⟨PREP n, 31, 1⟩
abbrev PREP_NPH (n : Nat) : Fld := ⟨PREP n, 16, 5⟩
abbrev PREP_WIN_US (n : Nat) : Fld := ⟨PREP n, 0, 16⟩
abbrev PREP_FF (n : Nat) : Nat := 0x48054 + 0x1000 * n
abbrev PREP_I (n : Nat) : Nat := 0x48058 + 0x1000 * n
abbrev V_OUT (n : Nat) : Nat := 0x48060 + 0x1000 * n
abbrev RAIL_STAT (n : Nat) : Nat := 0x48064 + 0x1000 * n
abbrev RAIL_STAT_N_ACT (n : Nat) : Fld := ⟨RAIL_STAT n, 27, 5⟩
abbrev RAIL_STAT_N_PART (n : Nat) : Fld := ⟨RAIL_STAT n, 22, 5⟩
abbrev RAIL_STAT_CN_OPEN (n : Nat) : Fld := ⟨RAIL_STAT n, 21, 1⟩
abbrev RAIL_STAT_CN_REFUSED (n : Nat) : Fld := ⟨RAIL_STAT n, 20, 1⟩
abbrev RAIL_STAT_SHEDDING (n : Nat) : Fld := ⟨RAIL_STAT n, 19, 1⟩
abbrev RAIL_STAT_VLOC_IN_USE (n : Nat) : Fld := ⟨RAIL_STAT n, 18, 1⟩
abbrev RAIL_STAT_CUR_LIMIT (n : Nat) : Fld := ⟨RAIL_STAT n, 17, 1⟩
abbrev RAIL_STAT_PG (n : Nat) : Fld := ⟨RAIL_STAT n, 16, 1⟩
abbrev RAIL_STAT_ERR_SAT (n : Nat) : Fld := ⟨RAIL_STAT n, 15, 1⟩
abbrev RAIL_STAT_LAST_REASON (n : Nat) : Fld := ⟨RAIL_STAT n, 4, 4⟩
abbrev RAIL_STAT_STATE (n : Nat) : Fld := ⟨RAIL_STAT n, 0, 3⟩
abbrev I_RAIL (n : Nat) : Nat := 0x48068 + 0x1000 * n
abbrev DUTY (n : Nat) : Nat := 0x4806C + 0x1000 * n
abbrev VREF_EFF (n : Nat) : Nat := 0x48070 + 0x1000 * n
abbrev CN_STAT (n : Nat) : Nat := 0x48074 + 0x1000 * n
abbrev CN_STAT_CONFIRM (n : Nat) : Fld := ⟨CN_STAT n, 24, 8⟩
abbrev CN_STAT_MISS (n : Nat) : Fld := ⟨CN_STAT n, 16, 8⟩
abbrev CN_STAT_OUTCOME (n : Nat) : Fld := ⟨CN_STAT n, 12, 4⟩
abbrev CN_STAT_NPH_LIVE (n : Nat) : Fld := ⟨CN_STAT n, 0, 5⟩
abbrev CN_FF (n : Nat) : Nat := 0x48078 + 0x1000 * n
abbrev CNT (n : Nat) : Nat := 0x4807C + 0x1000 * n
abbrev CNT_SHEDS (n : Nat) : Fld := ⟨CNT n, 16, 16⟩
abbrev CNT_ABORTS (n : Nat) : Fld := ⟨CNT n, 0, 16⟩

end RAIL

/-! Page PHASE -/

namespace PHASE

abbrev GRP (k : Nat) : Nat := 0x50020 + 0x4 * k
abbrev GRP_NPH (k : Nat) : Fld := ⟨GRP k, 8, 5⟩
abbrev GRP_FIRST (k : Nat) : Fld := ⟨GRP k, 0, 4⟩
abbrev CS_GAIN (k : Nat) : Nat := 0x50040 + 0x4 * k
abbrev OPEN_CFG : Nat := 0x50080
abbrev OPEN_CFG_OPEN_DUTY : Fld := ⟨OPEN_CFG, 16, 16⟩
abbrev OPEN_CFG_OPEN_I : Fld := ⟨OPEN_CFG, 0, 16⟩
abbrev SENSE_CFG : Nat := 0x50084
abbrev SENSE_CFG_SENSE_TOL : Fld := ⟨SENSE_CFG, 16, 16⟩
abbrev SENSE_CFG_SENSE_N : Fld := ⟨SENSE_CFG, 0, 16⟩
abbrev PH_STAT (k : Nat) : Nat := 0x500C0 + 0x4 * k
abbrev PH_STAT_DE (k : Nat) : Fld := ⟨PH_STAT k, 7, 1⟩
abbrev PH_STAT_STATE (k : Nat) : Fld := ⟨PH_STAT k, 4, 3⟩
abbrev PH_STAT_REASON (k : Nat) : Fld := ⟨PH_STAT k, 0, 4⟩
abbrev I_PH (k : Nat) : Nat := 0x50100 + 0x4 * k

end PHASE

/-! Page RSYNC -/

namespace RSYNC

abbrev TB_CFG : Nat := 0x51020
abbrev TB_CFG_SYNC_EN : Fld := ⟨TB_CFG, 31, 1⟩
abbrev TB_CFG_TB_KHZ : Fld := ⟨TB_CFG, 0, 16⟩
abbrev SYNC_OUT : Nat := 0x51024
abbrev SYNC_OUT_OUT_EN : Fld := ⟨SYNC_OUT, 31, 1⟩
abbrev SYNC_OUT_PHASE : Fld := ⟨SYNC_OUT, 0, 8⟩
abbrev TB_STAT : Nat := 0x51028
abbrev TB_STAT_FREQ_KHZ : Fld := ⟨TB_STAT, 16, 16⟩
abbrev TB_STAT_STATE : Fld := ⟨TB_STAT, 0, 3⟩
abbrev SYNC_CNT : Nat := 0x5102C
abbrev SYNC_CNT_LOSSES : Fld := ⟨SYNC_CNT, 16, 16⟩
abbrev SYNC_CNT_LOCKS : Fld := ⟨SYNC_CNT, 0, 16⟩

end RSYNC

/-! Page EFUSE -/

namespace EFUSE

abbrev EF_CFG (n : Nat) : Nat := 0x58020 + 0x1000 * n
abbrev EF_CFG_SC_MULT (n : Nat) : Fld := ⟨EF_CFG n, 26, 2⟩
abbrev EF_CFG_RETRY_MAX (n : Nat) : Fld := ⟨EF_CFG n, 21, 3⟩
abbrev EF_CFG_IG (n : Nat) : Fld := ⟨EF_CFG n, 8, 6⟩
abbrev EF_CTRL (n : Nat) : Nat := 0x58024 + 0x1000 * n
abbrev EF_CTRL_GF_CLR (n : Nat) : Fld := ⟨EF_CTRL n, 2, 1⟩
abbrev EF_CTRL_LATCH_CLR (n : Nat) : Fld := ⟨EF_CTRL n, 1, 1⟩
abbrev EF_CTRL_ON (n : Nat) : Fld := ⟨EF_CTRL n, 0, 1⟩
abbrev R_SENSE (n : Nat) : Nat := 0x58028 + 0x1000 * n
abbrev ILIM (n : Nat) : Nat := 0x5802C + 0x1000 * n
abbrev ILIM_DLY (n : Nat) : Nat := 0x58030 + 0x1000 * n
abbrev ILIM_DLY_US (n : Nat) : Fld := ⟨ILIM_DLY n, 0, 16⟩
abbrev PLIM (n : Nat) : Nat := 0x58034 + 0x1000 * n
abbrev TLIM (n : Nat) : Nat := 0x58038 + 0x1000 * n
abbrev TLIM_T (n : Nat) : Fld := ⟨TLIM n, 0, 16⟩
abbrev TIMES (n : Nat) : Nat := 0x5803C + 0x1000 * n
abbrev TIMES_T_GATE_CHK (n : Nat) : Fld := ⟨TIMES n, 16, 16⟩
abbrev TIMES_RETRY_DELAY (n : Nat) : Fld := ⟨TIMES n, 0, 16⟩
abbrev INRUSH_TMAX (n : Nat) : Nat := 0x58040 + 0x1000 * n
abbrev INRUSH_TMAX_MS (n : Nat) : Fld := ⟨INRUSH_TMAX n, 0, 16⟩
abbrev I (n : Nat) : Nat := 0x58060 + 0x1000 * n
abbrev V_IN (n : Nat) : Nat := 0x58064 + 0x1000 * n
abbrev V_OUT (n : Nat) : Nat := 0x58068 + 0x1000 * n
abbrev P_OUT (n : Nat) : Nat := 0x5806C + 0x1000 * n
abbrev V_GS (n : Nat) : Nat := 0x58070 + 0x1000 * n
abbrev EF_STAT (n : Nat) : Nat := 0x58074 + 0x1000 * n
abbrev EF_STAT_LAST_REASON (n : Nat) : Fld := ⟨EF_STAT n, 8, 4⟩
abbrev EF_STAT_RETRIES (n : Nat) : Fld := ⟨EF_STAT n, 5, 3⟩
abbrev EF_STAT_PG (n : Nat) : Fld := ⟨EF_STAT n, 4, 1⟩
abbrev EF_STAT_LIMITING (n : Nat) : Fld := ⟨EF_STAT n, 3, 1⟩
abbrev EF_STAT_STATE (n : Nat) : Fld := ⟨EF_STAT n, 0, 3⟩
abbrev ENERGY_LO (n : Nat) : Nat := 0x58078 + 0x1000 * n
abbrev ENERGY_HI (n : Nat) : Nat := 0x5807C + 0x1000 * n
abbrev EF_CNT (n : Nat) : Nat := 0x58080 + 0x1000 * n
abbrev EF_CNT_TRIPS (n : Nat) : Fld := ⟨EF_CNT n, 16, 16⟩
abbrev EF_CNT_SC_TRIPS (n : Nat) : Fld := ⟨EF_CNT n, 0, 16⟩

end EFUSE

/-! Page SEQ -/

namespace SEQ

abbrev SEQ_CFG : Nat := 0x60020
abbrev SEQ_CFG_RST_MIN_MS : Fld := ⟨SEQ_CFG, 16, 16⟩
abbrev SEQ_CFG_RACK_MIN_MS : Fld := ⟨SEQ_CFG, 0, 16⟩
abbrev SEQ_STAT : Nat := 0x60024
abbrev SEQ_STAT_SYS_RESET : Fld := ⟨SEQ_STAT, 5, 1⟩
abbrev SEQ_STAT_RST_OUT : Fld := ⟨SEQ_STAT, 4, 1⟩
abbrev SEQ_STAT_RACK_STUCK : Fld := ⟨SEQ_STAT, 3, 1⟩
abbrev SEQ_STAT_RACK_LOW : Fld := ⟨SEQ_STAT, 2, 1⟩
abbrev SEQ_STAT_RACK_EXT : Fld := ⟨SEQ_STAT, 1, 1⟩
abbrev SEQ_STAT_RACK_SELF : Fld := ⟨SEQ_STAT, 0, 1⟩
abbrev INP_CFG (k : Nat) : Nat := 0x60040 + 0x4 * k
abbrev INP_CFG_STUCK (k : Nat) : Fld := ⟨INP_CFG k, 16, 16⟩
abbrev INP_CFG_DG (k : Nat) : Fld := ⟨INP_CFG k, 8, 8⟩
abbrev INP_STAT (k : Nat) : Nat := 0x60060 + 0x4 * k
abbrev INP_STAT_ACT (k : Nat) : Fld := ⟨INP_STAT k, 16, 16⟩
abbrev INP_STAT_CHAT (k : Nat) : Fld := ⟨INP_STAT k, 8, 8⟩
abbrev INP_STAT_STUCK (k : Nat) : Fld := ⟨INP_STAT k, 2, 1⟩
abbrev INP_STAT_FILT (k : Nat) : Fld := ⟨INP_STAT k, 1, 1⟩
abbrev INP_STAT_RAW (k : Nat) : Fld := ⟨INP_STAT k, 0, 1⟩
abbrev CNT_CTRL : Nat := 0x60080
abbrev CNT_CTRL_CLR : Fld := ⟨CNT_CTRL, 0, 1⟩

end SEQ

/-! Page SEQGRP -/

namespace SEQGRP

abbrev GRP_CFG (n : Nat) : Nat := 0x61020 + 0x1000 * n
abbrev GRP_CFG_T_REST (n : Nat) : Fld := ⟨GRP_CFG n, 16, 16⟩
abbrev GRP_CFG_RACK_ACT (n : Nat) : Fld := ⟨GRP_CFG n, 2, 2⟩
abbrev GRP_CFG_AUTO_UP (n : Nat) : Fld := ⟨GRP_CFG n, 0, 1⟩
abbrev GRP_CMD (n : Nat) : Nat := 0x61024 + 0x1000 * n
abbrev GRP_CMD_DOWN (n : Nat) : Fld := ⟨GRP_CMD n, 1, 1⟩
abbrev GRP_CMD_UP (n : Nat) : Fld := ⟨GRP_CMD n, 0, 1⟩
abbrev GRP_STAT (n : Nat) : Nat := 0x61028 + 0x1000 * n
abbrev GRP_STAT_FAULT_SLOT (n : Nat) : Fld := ⟨GRP_STAT n, 24, 8⟩
abbrev GRP_STAT_POS (n : Nat) : Fld := ⟨GRP_STAT n, 16, 5⟩
abbrev GRP_STAT_FAULTED (n : Nat) : Fld := ⟨GRP_STAT n, 7, 1⟩
abbrev GRP_STAT_BLOCKED (n : Nat) : Fld := ⟨GRP_STAT n, 6, 1⟩
abbrev GRP_STAT_VIN_HELD (n : Nat) : Fld := ⟨GRP_STAT n, 5, 1⟩
abbrev GRP_STAT_UP_PEND (n : Nat) : Fld := ⟨GRP_STAT n, 4, 1⟩
abbrev GRP_STAT_RACK_HELD (n : Nat) : Fld := ⟨GRP_STAT n, 3, 1⟩
abbrev GRP_STAT_STATE (n : Nat) : Fld := ⟨GRP_STAT n, 0, 3⟩
abbrev GRP_CNT (n : Nat) : Nat := 0x6102C + 0x1000 * n
abbrev GRP_CNT_ASCENTS (n : Nat) : Fld := ⟨GRP_CNT n, 16, 16⟩
abbrev GRP_CNT_FAULT_OFFS (n : Nat) : Fld := ⟨GRP_CNT n, 0, 16⟩

end SEQGRP

/-! Page SEQSLOT -/

namespace SEQSLOT

abbrev SL_CFG (k : Nat) : Nat := 0x65040 + 0x20 * k
abbrev SL_CFG_EN (k : Nat) : Fld := ⟨SL_CFG k, 31, 1⟩
abbrev SL_CFG_RACK_PROP (k : Nat) : Fld := ⟨SL_CFG k, 30, 1⟩
abbrev SL_CFG_WIN_EN (k : Nat) : Fld := ⟨SL_CFG k, 29, 1⟩
abbrev SL_CFG_GROUP (k : Nat) : Fld := ⟨SL_CFG k, 26, 2⟩
abbrev SL_CFG_REACT (k : Nat) : Fld := ⟨SL_CFG k, 24, 2⟩
abbrev SL_CFG_RETRY_N (k : Nat) : Fld := ⟨SL_CFG k, 21, 3⟩
abbrev SL_CFG_UP_POS (k : Nat) : Fld := ⟨SL_CFG k, 16, 5⟩
abbrev SL_CFG_DN_POS (k : Nat) : Fld := ⟨SL_CFG k, 11, 5⟩
abbrev SL_CFG_FLT (k : Nat) : Fld := ⟨SL_CFG k, 0, 8⟩
abbrev SL_TIME0 (k : Nat) : Nat := 0x65044 + 0x20 * k
abbrev SL_TIME0_ON_DLY (k : Nat) : Fld := ⟨SL_TIME0 k, 16, 16⟩
abbrev SL_TIME0_OFF_DLY (k : Nat) : Fld := ⟨SL_TIME0 k, 0, 16⟩
abbrev SL_TIME1 (k : Nat) : Nat := 0x65048 + 0x20 * k
abbrev SL_TIME1_PG_TMO (k : Nat) : Fld := ⟨SL_TIME1 k, 16, 16⟩
abbrev SL_TIME1_T_DIS_MAX (k : Nat) : Fld := ⟨SL_TIME1 k, 0, 16⟩
abbrev SL_OV (k : Nat) : Nat := 0x6504C + 0x20 * k
abbrev SL_UV (k : Nat) : Nat := 0x65050 + 0x20 * k
abbrev SL_OFF (k : Nat) : Nat := 0x65054 + 0x20 * k
abbrev SL_GAIN (k : Nat) : Nat := 0x65058 + 0x20 * k
abbrev SL_STAT (k : Nat) : Nat := 0x6505C + 0x20 * k
abbrev SL_STAT_LAST_REASON (k : Nat) : Fld := ⟨SL_STAT k, 24, 4⟩
abbrev SL_STAT_RETRIES (k : Nat) : Fld := ⟨SL_STAT k, 16, 3⟩
abbrev SL_STAT_HOST_STOP (k : Nat) : Fld := ⟨SL_STAT k, 7, 1⟩
abbrev SL_STAT_EN_OUT (k : Nat) : Fld := ⟨SL_STAT k, 6, 1⟩
abbrev SL_STAT_PG (k : Nat) : Fld := ⟨SL_STAT k, 5, 1⟩
abbrev SL_STAT_STATE (k : Nat) : Fld := ⟨SL_STAT k, 0, 4⟩
abbrev V (k : Nat) : Nat := 0x65440 + 0x4 * k

end SEQSLOT

/-! Page EST -/

namespace EST

abbrev EST_CFG : Nat := 0x68020
abbrev EST_CFG_REST_REQ_S : Fld := ⟨EST_CFG, 16, 16⟩
abbrev EST_CFG_INNOV_N : Fld := ⟨EST_CFG, 8, 8⟩
abbrev EST_CFG_REST_REQ_EN : Fld := ⟨EST_CFG, 1, 1⟩
abbrev EST_CFG_LEARN_EN : Fld := ⟨EST_CFG, 0, 1⟩
abbrev SIGMA : Nat := 0x68024
abbrev SIGMA_SIGMA_MAX : Fld := ⟨SIGMA, 16, 16⟩
abbrev SIGMA_SIGMA_CLR : Fld := ⟨SIGMA, 0, 16⟩
abbrev SIGMA_INIT : Nat := 0x68028
abbrev SIGMA_INIT_INIT : Fld := ⟨SIGMA_INIT, 0, 16⟩
abbrev I_GAIN_ERR : Nat := 0x6802C
abbrev I_OFS_ERR : Nat := 0x68030
abbrev MEAS_SIG : Nat := 0x68034
abbrev MEAS_SIG_SIG_REST : Fld := ⟨MEAS_SIG, 16, 8⟩
abbrev MEAS_SIG_SIG_PSEUDO : Fld := ⟨MEAS_SIG, 8, 8⟩
abbrev MEAS_SIG_SIG_LOAD : Fld := ⟨MEAS_SIG, 0, 8⟩
abbrev QV : Nat := 0x68038
abbrev INNOV : Nat := 0x6803C
abbrev INNOV_GATE : Fld := ⟨INNOV, 0, 16⟩
abbrev ROHM_CFG : Nat := 0x68040
abbrev ROHM_CFG_ROHM_DI : Fld := ⟨ROHM_CFG, 8, 8⟩
abbrev ROHM_CFG_ROHM_SHIFT : Fld := ⟨ROHM_CFG, 0, 4⟩
abbrev REST : Nat := 0x68044
abbrev REST_REST_MIN : Fld := ⟨REST, 16, 16⟩
abbrev REST_PSEUDO_MIN : Fld := ⟨REST, 8, 8⟩
abbrev REST_PSEUDO_DVDT : Fld := ⟨REST, 0, 8⟩
abbrev LIMIT : Nat := 0x68048
abbrev LIMIT_EOX_HYST : Fld := ⟨LIMIT, 0, 16⟩
abbrev WB : Nat := 0x6804C
abbrev WB_WB_MIN_S : Fld := ⟨WB, 16, 16⟩
abbrev TINT : Nat := 0x68050
abbrev TINT_TINT_AGE : Fld := ⟨TINT, 16, 16⟩
abbrev TINT_TINT_HOT : Fld := ⟨TINT, 0, 16⟩
abbrev SSN_DONE : Nat := 0x68060
abbrev EST_STAT : Nat := 0x68064
abbrev EST_STAT_UPD_US : Fld := ⟨EST_STAT, 16, 16⟩
abbrev EST_STAT_HELD : Fld := ⟨EST_STAT, 1, 1⟩
abbrev EST_STAT_UNANCHORED : Fld := ⟨EST_STAT, 0, 1⟩
abbrev GAP_CNT : Nat := 0x68068
abbrev GAP_CNT_SKIPPED : Fld := ⟨GAP_CNT, 16, 16⟩
abbrev GAP_CNT_RANGE : Fld := ⟨GAP_CNT, 0, 16⟩
abbrev UNANCH : Nat := 0x6806C
abbrev UNANCH_MASK : Fld := ⟨UNANCH, 0, 24⟩

end EST

/-! Page ESTSTR -/

namespace ESTSTR

abbrev STR_CFG (n : Nat) : Nat := 0x69020 + 0x1000 * n
abbrev STR_CFG_PROFILE (n : Nat) : Fld := ⟨STR_CFG n, 24, 3⟩
abbrev STR_CFG_ORDER (n : Nat) : Fld := ⟨STR_CFG n, 20, 1⟩
abbrev STR_CFG_ISRC (n : Nat) : Fld := ⟨STR_CFG n, 16, 2⟩
abbrev STR_CFG_LEARN (n : Nat) : Fld := ⟨STR_CFG n, 0, 1⟩
abbrev ISCALE (n : Nat) : Nat := 0x69024 + 0x1000 * n
abbrev CMD (n : Nat) : Nat := 0x69028 + 0x1000 * n
abbrev CMD_REINIT (n : Nat) : Fld := ⟨CMD n, 31, 1⟩
abbrev CMD_RESET_CAP (n : Nat) : Fld := ⟨CMD n, 30, 1⟩
abbrev CMD_MODULE (n : Nat) : Fld := ⟨CMD n, 0, 5⟩
abbrev SSN (n : Nat) : Nat := 0x69040 + 0x1000 * n
abbrev RES_STAT (n : Nat) : Nat := 0x69044 + 0x1000 * n
abbrev RES_STAT_N_CELLS (n : Nat) : Fld := ⟨RES_STAT n, 16, 16⟩
abbrev RES_STAT_UNANCHORED (n : Nat) : Fld := ⟨RES_STAT n, 4, 1⟩
abbrev RES_STAT_EOC (n : Nat) : Fld := ⟨RES_STAT n, 3, 1⟩
abbrev RES_STAT_EOD (n : Nat) : Fld := ⟨RES_STAT n, 2, 1⟩
abbrev RES_STAT_T_INT_USED (n : Nat) : Fld := ⟨RES_STAT n, 1, 1⟩
abbrev RES_STAT_VALID (n : Nat) : Fld := ⟨RES_STAT n, 0, 1⟩
abbrev SOC_MIN (n : Nat) : Nat := 0x69048 + 0x1000 * n
abbrev SOC_MAX (n : Nat) : Nat := 0x6904C + 0x1000 * n
abbrev SOC_MEAN (n : Nat) : Nat := 0x69050 + 0x1000 * n
abbrev SIGMA_MAX (n : Nat) : Nat := 0x69054 + 0x1000 * n
abbrev Q (n : Nat) : Nat := 0x69058 + 0x1000 * n
abbrev A_DIS (n : Nat) : Nat := 0x6905C + 0x1000 * n
abbrev A_CHG (n : Nat) : Nat := 0x69060 + 0x1000 * n
abbrev E_DIS (n : Nat) : Nat := 0x69064 + 0x1000 * n
abbrev E_CHG (n : Nat) : Nat := 0x69068 + 0x1000 * n
abbrev T_HOT (n : Nat) : Nat := 0x6906C + 0x1000 * n
abbrev WDIS (n : Nat) : Nat := 0x69070 + 0x1000 * n
abbrev WCHG (n : Nat) : Nat := 0x69074 + 0x1000 * n
abbrev MINMAX (n : Nat) : Nat := 0x69078 + 0x1000 * n
abbrev MINMAX_MAX_CELL (n : Nat) : Fld := ⟨MINMAX n, 16, 16⟩
abbrev MINMAX_MIN_CELL (n : Nat) : Fld := ⟨MINMAX n, 0, 16⟩
abbrev HOT_CELL (n : Nat) : Nat := 0x6907C + 0x1000 * n
abbrev HOT_CELL_CELL (n : Nat) : Fld := ⟨HOT_CELL n, 0, 16⟩
abbrev LRN_STAT (n : Nat) : Nat := 0x690A0 + 0x1000 * n
abbrev LRN_STAT_LAST_DISQ (n : Nat) : Fld := ⟨LRN_STAT n, 24, 4⟩
abbrev LRN_STAT_STATE (n : Nat) : Fld := ⟨LRN_STAT n, 0, 2⟩
abbrev LRN_AH (n : Nat) : Nat := 0x690A4 + 0x1000 * n
abbrev LRN_THRU (n : Nat) : Nat := 0x690A8 + 0x1000 * n
abbrev LRN_CHG (n : Nat) : Nat := 0x690AC + 0x1000 * n
abbrev LRN_T0 (n : Nat) : Nat := 0x690B0 + 0x1000 * n
abbrev LRN_COUNT (n : Nat) : Nat := 0x690B4 + 0x1000 * n
abbrev LRN_COUNT_LEARNED (n : Nat) : Fld := ⟨LRN_COUNT n, 16, 16⟩
abbrev LRN_COUNT_REJECTED (n : Nat) : Fld := ⟨LRN_COUNT n, 0, 16⟩
abbrev DISQ0 (n : Nat) : Nat := 0x690B8 + 0x1000 * n
abbrev DISQ0_TEMP (n : Nat) : Fld := ⟨DISQ0 n, 24, 8⟩
abbrev DISQ0_RATE_AVG (n : Nat) : Fld := ⟨DISQ0 n, 16, 8⟩
abbrev DISQ0_RATE_PEAK (n : Nat) : Fld := ⟨DISQ0 n, 8, 8⟩
abbrev DISQ0_POWER (n : Nat) : Fld := ⟨DISQ0 n, 0, 8⟩
abbrev DISQ1 (n : Nat) : Nat := 0x690BC + 0x1000 * n
abbrev DISQ1_SET_LOSS (n : Nat) : Fld := ⟨DISQ1 n, 24, 8⟩
abbrev DISQ1_CHARGE (n : Nat) : Fld := ⟨DISQ1 n, 16, 8⟩
abbrev DISQ1_UNANCHORED (n : Nat) : Fld := ⟨DISQ1 n, 8, 8⟩
abbrev DISQ1_STOPPED (n : Nat) : Fld := ⟨DISQ1 n, 0, 8⟩
abbrev LAST_LEARN (n : Nat) : Nat := 0x690C0 + 0x1000 * n
abbrev WB_STAT (n : Nat) : Nat := 0x690C4 + 0x1000 * n
abbrev WB_STAT_WRITES (n : Nat) : Fld := ⟨WB_STAT n, 16, 16⟩
abbrev WB_STAT_PENDING (n : Nat) : Fld := ⟨WB_STAT n, 1, 1⟩
abbrev WB_STAT_NO_RECORD (n : Nat) : Fld := ⟨WB_STAT n, 0, 1⟩

end ESTSTR

/-! Page ESTPROF -/

namespace ESTPROF

abbrev PROF_SEL : Nat := 0x81020
abbrev PROF_SEL_SEL : Fld := ⟨PROF_SEL, 0, 3⟩
abbrev PROF_STAT : Nat := 0x81024
abbrev PROF_STAT_ERR_OFS : Fld := ⟨PROF_STAT, 16, 10⟩
abbrev PROF_STAT_ERR_PROF : Fld := ⟨PROF_STAT, 8, 3⟩
abbrev PROF_STAT_VALID : Fld := ⟨PROF_STAT, 0, 8⟩
abbrev HDR0 (p : Nat) : Nat := 0x1000000 + 0x300 * p
abbrev HDR0_CLASS (p : Nat) : Fld := ⟨HDR0 p, 0, 1⟩
abbrev Q_NOM (p : Nat) : Nat := 0x1000004 + 0x300 * p
abbrev RESERVE (p : Nat) : Nat := 0x1000008 + 0x300 * p
abbrev RESERVE_FULL_RES (p : Nat) : Fld := ⟨RESERVE p, 16, 16⟩
abbrev RESERVE_EMPTY_RES (p : Nat) : Fld := ⟨RESERVE p, 0, 16⟩
abbrev TPOINT0 (p : Nat) : Nat := 0x100000C + 0x300 * p
abbrev TPOINT0_T1 (p : Nat) : Fld := ⟨TPOINT0 p, 16, 16⟩
abbrev TPOINT0_T0 (p : Nat) : Fld := ⟨TPOINT0 p, 0, 16⟩
abbrev TPOINT1 (p : Nat) : Nat := 0x1000010 + 0x300 * p
abbrev TPOINT1_T3 (p : Nat) : Fld := ⟨TPOINT1 p, 16, 16⟩
abbrev TPOINT1_T2 (p : Nat) : Fld := ⟨TPOINT1 p, 0, 16⟩
abbrev LEARN0 (p : Nat) : Nat := 0x1000014 + 0x300 * p
abbrev LEARN0_LT_MAX (p : Nat) : Fld := ⟨LEARN0 p, 16, 16⟩
abbrev LEARN0_LT_MIN (p : Nat) : Fld := ⟨LEARN0 p, 0, 16⟩
abbrev LEARN1 (p : Nat) : Nat := 0x1000018 + 0x300 * p
abbrev LEARN1_RATE_PEAK (p : Nat) : Fld := ⟨LEARN1 p, 16, 16⟩
abbrev LEARN1_RATE_AVG (p : Nat) : Fld := ⟨LEARN1 p, 0, 16⟩
abbrev LEARN2 (p : Nat) : Nat := 0x100001C + 0x300 * p
abbrev LEARN2_CAP_MAX (p : Nat) : Fld := ⟨LEARN2 p, 16, 16⟩
abbrev LEARN2_CAP_MIN (p : Nat) : Fld := ⟨LEARN2 p, 0, 16⟩
abbrev LEARN3 (p : Nat) : Nat := 0x1000020 + 0x300 * p
abbrev LEARN3_DSOC_MIN (p : Nat) : Fld := ⟨LEARN3 p, 16, 16⟩
abbrev LEARN3_EMPTY_SOC (p : Nat) : Fld := ⟨LEARN3 p, 0, 16⟩
abbrev LEARN4 (p : Nat) : Nat := 0x1000024 + 0x300 * p
abbrev LEARN4_CHG_MAX (p : Nat) : Fld := ⟨LEARN4 p, 16, 16⟩
abbrev LEARN4_TAPER (p : Nat) : Fld := ⟨LEARN4 p, 0, 16⟩
abbrev ZT (p k : Nat) : Nat := 0x1000028 + 0x300 * p + 4 * k
abbrev ZT_ZT_TEMP (p k : Nat) : Fld := ⟨ZT p k, 16, 16⟩
abbrev ZT_ZT_RATIO (p k : Nat) : Fld := ⟨ZT p k, 0, 16⟩
abbrev RSV_138 (p : Nat) : Nat := 0x1000038 + 0x300 * p
abbrev RSV_13C (p : Nat) : Nat := 0x100003C + 0x300 * p
abbrev OCV (p k : Nat) : Nat := 0x1000040 + 0x300 * p + 4 * k
abbrev ROHM (p k : Nat) : Nat := 0x1000240 + 0x300 * p + 4 * k
abbrev PRES (p k : Nat) : Nat := 0x1000280 + 0x300 * p + 4 * k
abbrev PTAU (p k : Nat) : Nat := 0x10002C0 + 0x300 * p + 4 * k

end ESTPROF

/-! Page SURVEY -/

namespace SURVEY

abbrev SV_CFG : Nat := 0x82020
abbrev SV_CFG_TEMP_IDX : Fld := ⟨SV_CFG, 24, 2⟩
abbrev SV_CFG_MISS_MAX : Fld := ⟨SV_CFG, 16, 8⟩
abbrev SV_CFG_GAP_S : Fld := ⟨SV_CFG, 0, 16⟩
abbrev FREQ (k : Nat) : Nat := 0x82024 + 0x4 * k
abbrev FREQ_AMP (k : Nat) : Fld := ⟨FREQ k, 16, 16⟩
abbrev FREQ_F (k : Nat) : Fld := ⟨FREQ k, 0, 16⟩
abbrev I_RATED : Nat := 0x82034
abbrev PREROLL : Nat := 0x82038
abbrev PREROLL_MS : Fld := ⟨PREROLL, 0, 16⟩
abbrev SV_MASK : Nat := 0x8203C
abbrev SV_MASK_MASK : Fld := ⟨SV_MASK, 0, 24⟩
abbrev SV_IMAX : Nat := 0x82040
abbrev SV_IMAX_I : Fld := ⟨SV_IMAX, 0, 16⟩
abbrev SV_STR (k : Nat) : Nat := 0x82080 + 0x4 * k
abbrev SV_STR_WINDOWS (k : Nat) : Fld := ⟨SV_STR k, 16, 16⟩
abbrev SV_STR_DISCARDS (k : Nat) : Fld := ⟨SV_STR k, 8, 8⟩
abbrev SV_STR_STATE (k : Nat) : Fld := ⟨SV_STR k, 5, 3⟩
abbrev SV_STR_MODULE (k : Nat) : Fld := ⟨SV_STR k, 0, 5⟩
abbrev SV_LAST : Nat := 0x820E0
abbrev SV_LAST_STRING : Fld := ⟨SV_LAST, 8, 5⟩
abbrev SV_LAST_REASON : Fld := ⟨SV_LAST, 0, 3⟩

end SURVEY

/-! Page ESTWIN -/

namespace ESTWIN

abbrev WIN_SEL : Nat := 0x84020
abbrev WIN_SEL_STRING : Fld := ⟨WIN_SEL, 24, 5⟩
abbrev WIN_SEL_MODULE : Fld := ⟨WIN_SEL, 16, 5⟩
abbrev WIN_SEL_FREQ : Fld := ⟨WIN_SEL, 8, 2⟩
abbrev A_SSN : Nat := 0x84100
abbrev A_SEL : Nat := 0x84104
abbrev A_PRESENT : Nat := 0x84108
abbrev A_PRESENT_CELLS : Fld := ⟨A_PRESENT, 0, 16⟩
abbrev A_SOC (k : Nat) : Nat := 0x84110 + 0x4 * k
abbrev A_SIGMA (k : Nat) : Nat := 0x84150 + 0x4 * k
abbrev A_Q (k : Nat) : Nat := 0x84190 + 0x4 * k
abbrev B_SSN : Nat := 0x84200
abbrev B_SEL : Nat := 0x84204
abbrev B_MEAS : Nat := 0x84208
abbrev B_MEAS_CELLS : Fld := ⟨B_MEAS, 0, 16⟩
abbrev B_ROHM (k : Nat) : Nat := 0x84210 + 0x4 * k
abbrev B_TEMP (k : Nat) : Nat := 0x84250 + 0x4 * k
abbrev B_TEMP_T_INT (k : Nat) : Fld := ⟨B_TEMP k, 16, 16⟩
abbrev B_TEMP_T_USED (k : Nat) : Fld := ⟨B_TEMP k, 0, 16⟩
abbrev B_HEALTH (k : Nat) : Nat := 0x84290 + 0x4 * k
abbrev B_HEALTH_FLAGS (k : Nat) : Fld := ⟨B_HEALTH k, 16, 16⟩
abbrev B_HEALTH_HEALTH (k : Nat) : Fld := ⟨B_HEALTH k, 0, 16⟩
abbrev C_SSN : Nat := 0x84300
abbrev C_INFO : Nat := 0x84304
abbrev C_INFO_STRING : Fld := ⟨C_INFO, 24, 5⟩
abbrev C_INFO_MODULE : Fld := ⟨C_INFO, 16, 5⟩
abbrev C_INFO_FREQ : Fld := ⟨C_INFO, 8, 2⟩
abbrev C_T_WIN : Nat := 0x84308
abbrev C_I_AMP : Nat := 0x8430C
abbrev C_ZRE (k : Nat) : Nat := 0x84310 + 0x4 * k
abbrev C_ZIM (k : Nat) : Nat := 0x84350 + 0x4 * k

end ESTWIN

/-! Page CAN -/

namespace CAN

abbrev CAN_CFG (n : Nat) : Nat := 0x90020 + 0x1000 * n
abbrev CAN_CFG_NODE_ADDR (n : Nat) : Fld := ⟨CAN_CFG n, 24, 8⟩
abbrev CAN_CFG_SHELF_ADDR (n : Nat) : Fld := ⟨CAN_CFG n, 16, 8⟩
abbrev CAN_CFG_PLANT_ADDR (n : Nat) : Fld := ⟨CAN_CFG n, 8, 8⟩
abbrev CAN_CFG_PLINK (n : Nat) : Fld := ⟨CAN_CFG n, 7, 1⟩
abbrev CAN_CFG_AUTO_RECOV (n : Nat) : Fld := ⟨CAN_CFG n, 6, 1⟩
abbrev CAN_CFG_NBR (n : Nat) : Fld := ⟨CAN_CFG n, 4, 2⟩
abbrev CAN_CFG_DBR (n : Nat) : Fld := ⟨CAN_CFG n, 2, 2⟩
abbrev REPORT (n : Nat) : Nat := 0x90024 + 0x1000 * n
abbrev REPORT_REPORT_MS (n : Nat) : Fld := ⟨REPORT n, 16, 16⟩
abbrev CAN_STAT (n : Nat) : Nat := 0x90028 + 0x1000 * n
abbrev CAN_STAT_TEC (n : Nat) : Fld := ⟨CAN_STAT n, 24, 8⟩
abbrev CAN_STAT_REC (n : Nat) : Fld := ⟨CAN_STAT n, 16, 8⟩
abbrev CAN_STAT_STATE (n : Nat) : Fld := ⟨CAN_STAT n, 0, 2⟩
abbrev CNT_RX (n : Nat) : Nat := 0x9002C + 0x1000 * n
abbrev CNT_RX_FRAMES (n : Nat) : Fld := ⟨CNT_RX n, 16, 16⟩
abbrev CNT_RX_CRC_FAIL (n : Nat) : Fld := ⟨CNT_RX n, 0, 16⟩
abbrev CNT_TX (n : Nat) : Nat := 0x90030 + 0x1000 * n
abbrev CNT_TX_FRAMES (n : Nat) : Fld := ⟨CNT_TX n, 16, 16⟩
abbrev CNT_TX_DROPPED (n : Nat) : Fld := ⟨CNT_TX n, 0, 16⟩
abbrev CNT_MISC (n : Nat) : Nat := 0x90034 + 0x1000 * n
abbrev CNT_MISC_BUS_OFF (n : Nat) : Fld := ⟨CNT_MISC n, 16, 16⟩
abbrev CNT_MISC_IGNORED (n : Nat) : Fld := ⟨CNT_MISC n, 0, 16⟩
abbrev CNT_CTRL (n : Nat) : Nat := 0x90038 + 0x1000 * n
abbrev CNT_CTRL_CLR (n : Nat) : Fld := ⟨CNT_CTRL n, 0, 1⟩
abbrev PEER (n k : Nat) : Nat := 0x90080 + 0x1000 * n + 0x4 * k
abbrev PEER_ADDR (n k : Nat) : Fld := ⟨PEER n k, 24, 8⟩
abbrev PEER_AGE (n k : Nat) : Fld := ⟨PEER n k, 16, 8⟩
abbrev PEER_FLAGS (n k : Nat) : Fld := ⟨PEER n k, 0, 3⟩

end CAN

/-! Page T1S -/

namespace T1S

abbrev T1S_CFG : Nat := 0x94020
abbrev T1S_CFG_PLCA_ID : Fld := ⟨T1S_CFG, 24, 8⟩
abbrev T1S_CFG_NODE_CNT : Fld := ⟨T1S_CFG, 16, 8⟩
abbrev T1S_CFG_TO_TMR : Fld := ⟨T1S_CFG, 8, 8⟩
abbrev T1S_CFG_BURST_CNT : Fld := ⟨T1S_CFG, 0, 8⟩
abbrev T1S_ADDR : Nat := 0x94024
abbrev T1S_ADDR_NODE_ADDR : Fld := ⟨T1S_ADDR, 24, 8⟩
abbrev T1S_ADDR_SHELF_ADDR : Fld := ⟨T1S_ADDR, 16, 8⟩
abbrev T1S_ADDR_PLANT_ADDR : Fld := ⟨T1S_ADDR, 8, 8⟩
abbrev ETYPE : Nat := 0x94028
abbrev ETYPE_ETYPE : Fld := ⟨ETYPE, 0, 16⟩
abbrev MAC_LO : Nat := 0x9402C
abbrev MAC_HI : Nat := 0x94030
abbrev MAC_HI_MAC : Fld := ⟨MAC_HI, 0, 16⟩
abbrev PUB : Nat := 0x94034
abbrev PUB_PUB_MS : Fld := ⟨PUB, 16, 16⟩
abbrev PUB_REPORT_MS : Fld := ⟨PUB, 0, 16⟩
abbrev T1S_STAT : Nat := 0x94038
abbrev T1S_STAT_BEACON : Fld := ⟨T1S_STAT, 2, 1⟩
abbrev T1S_STAT_LINK : Fld := ⟨T1S_STAT, 1, 1⟩
abbrev T1S_STAT_COORD : Fld := ⟨T1S_STAT, 0, 1⟩
abbrev CNT_RX : Nat := 0x9403C
abbrev CNT_RX_FRAMES : Fld := ⟨CNT_RX, 16, 16⟩
abbrev CNT_RX_CRC_FAIL : Fld := ⟨CNT_RX, 0, 16⟩
abbrev CNT_TX : Nat := 0x94040
abbrev CNT_TX_FRAMES : Fld := ⟨CNT_TX, 16, 16⟩
abbrev CNT_TX_DROPPED : Fld := ⟨CNT_TX, 0, 16⟩
abbrev CNT_MISC : Nat := 0x94044
abbrev CNT_MISC_BEACON_LOSS : Fld := ⟨CNT_MISC, 16, 16⟩
abbrev CNT_MISC_IGNORED : Fld := ⟨CNT_MISC, 0, 16⟩
abbrev CNT_CTRL : Nat := 0x94048
abbrev CNT_CTRL_CLR : Fld := ⟨CNT_CTRL, 0, 1⟩

end T1S

/-! Page PMBUS -/

namespace PMBUS

abbrev PMB_CFG : Nat := 0x95020
abbrev PMB_CFG_SPEED : Fld := ⟨PMB_CFG, 30, 2⟩
abbrev PMB_CFG_PEC : Fld := ⟨PMB_CFG, 29, 1⟩
abbrev PMB_CFG_ALERT_EN : Fld := ⟨PMB_CFG, 28, 1⟩
abbrev DEV_A (k : Nat) : Nat := 0x95040 + 0x8 * k
abbrev DEV_A_EN (k : Nat) : Fld := ⟨DEV_A k, 31, 1⟩
abbrev DEV_A_ADDR (k : Nat) : Fld := ⟨DEV_A k, 24, 7⟩
abbrev DEV_A_PAGE (k : Nat) : Fld := ⟨DEV_A k, 16, 8⟩
abbrev DEV_A_POLL (k : Nat) : Fld := ⟨DEV_A k, 0, 8⟩
abbrev DEV_B (k : Nat) : Nat := 0x95044 + 0x8 * k
abbrev DEV_B_PERIOD_MS (k : Nat) : Fld := ⟨DEV_B k, 16, 16⟩
abbrev DEV_B_FAIL_N (k : Nat) : Fld := ⟨DEV_B k, 8, 8⟩
abbrev PMB_STAT (k : Nat) : Nat := 0x95200 + 0x4 * k
abbrev PMB_STAT_STATUS_WORD (k : Nat) : Fld := ⟨PMB_STAT k, 16, 16⟩
abbrev PMB_STAT_FAILS (k : Nat) : Fld := ⟨PMB_STAT k, 8, 8⟩
abbrev PMB_STAT_ALERT (k : Nat) : Fld := ⟨PMB_STAT k, 2, 1⟩
abbrev PMB_STAT_FAILED (k : Nat) : Fld := ⟨PMB_STAT k, 1, 1⟩
abbrev PMB_STAT_PRESENT (k : Nat) : Fld := ⟨PMB_STAT k, 0, 1⟩
abbrev PMB_SEL : Nat := 0x95300
abbrev PMB_SEL_DEV : Fld := ⟨PMB_SEL, 0, 5⟩
abbrev PMB_VAL (d k : Nat) : Nat := 0x1100000 + 0x20 * d + 4 * k
abbrev PMB_MBX : Nat := 0x95340
abbrev PMB_MBX_GO : Fld := ⟨PMB_MBX, 31, 1⟩
abbrev PMB_MBX_OP : Fld := ⟨PMB_MBX, 30, 1⟩
abbrev PMB_MBX_DEV : Fld := ⟨PMB_MBX, 24, 5⟩
abbrev PMB_MBX_CMD : Fld := ⟨PMB_MBX, 16, 8⟩
abbrev PMB_MBX_DATA : Fld := ⟨PMB_MBX, 0, 16⟩
abbrev PMB_MBX_STAT : Nat := 0x95344
abbrev PMB_MBX_STAT_BUSY : Fld := ⟨PMB_MBX_STAT, 31, 1⟩
abbrev PMB_MBX_STAT_RESULT : Fld := ⟨PMB_MBX_STAT, 0, 3⟩

end PMBUS

/-! Page SPI -/

namespace SPI

abbrev SPI_STAT : Nat := 0x96020
abbrev SPI_STAT_LAST_WIDX : Fld := ⟨SPI_STAT, 8, 8⟩
abbrev SPI_STAT_LAST_STATUS : Fld := ⟨SPI_STAT, 0, 8⟩
abbrev CNT_XACT : Nat := 0x96024
abbrev CNT_XACT_OK : Fld := ⟨CNT_XACT, 16, 16⟩
abbrev CNT_XACT_REFUSED : Fld := ⟨CNT_XACT, 0, 16⟩
abbrev CNT_ERR : Nat := 0x96028
abbrev CNT_ERR_CRC : Fld := ⟨CNT_ERR, 16, 16⟩
abbrev CNT_ERR_ABANDONED : Fld := ⟨CNT_ERR, 0, 16⟩
abbrev CNT_CTRL : Nat := 0x9602C
abbrev CNT_CTRL_CLR : Fld := ⟨CNT_CTRL, 0, 1⟩

end SPI

end Sys2Proof.Machine
end

