-- ==== Sys2Proof/Machine/RegTable.lean ====
section
/-! DEFINITION. The field tables of the register pages: for every register its fields' bits, access codes (Table 2-10), Reset values (R56) and the ranges of R568. -/

namespace Sys2Proof.Machine

/-- The access codes of Table 2-10; `sb` carries the coefficient bank that the word belongs to. -/
inductive Acc where
  | rw | ro | w1c | wo | rs | fw
  | sb (bankB : Bool)
  deriving DecidableEq, Repr

/-- The range that a field's description states (R568): none, a range, a range with one special value, the bound LEAD_MAX of HINT_LEADi, 1 to NPH of SHED_CFG.NPH_MIN, and −127 to 127 of a signed byte (R173). -/
inductive Clamp where
  | none
  | rng (lo hi : Nat)
  | rngOr (lo hi special : Nat)
  | hintLead
  | nphMin
  | sym8
  deriving DecidableEq, Repr

/-- One field: lowest bit, width, access and Reset by page instance and array index, and its range. -/
structure FieldDef where
  lo : Nat
  w : Nat
  acc : Nat → Nat → Acc
  rst : Nat → Nat → Nat
  clamp : Clamp

/-- One register or array of registers: offset in its page (in its slot's region on VSLOT), stride, count and fields. -/
structure RegDef where
  off : Nat
  stride : Nat
  count : Nat
  fields : List FieldDef

/-- A field of access RW with Reset 0 and no range. -/
abbrev FieldDef.mkRW (lo w : Nat) : FieldDef := ⟨lo, w, fun _ _ => .rw, fun _ _ => 0, .none⟩
/-- A field of access RO with Reset 0 and no range. -/
abbrev FieldDef.mkRO (lo w : Nat) : FieldDef := ⟨lo, w, fun _ _ => .ro, fun _ _ => 0, .none⟩
/-- A field of access RS with Reset 0 and no range. -/
abbrev FieldDef.mkRS (lo w : Nat) : FieldDef := ⟨lo, w, fun _ _ => .rs, fun _ _ => 0, .none⟩
/-- A field of access W1C with Reset 0 and no range. -/
abbrev FieldDef.mkW1C (lo w : Nat) : FieldDef := ⟨lo, w, fun _ _ => .w1c, fun _ _ => 0, .none⟩
/-- A field of access WO with Reset 0 and no range. -/
abbrev FieldDef.mkWO (lo w : Nat) : FieldDef := ⟨lo, w, fun _ _ => .wo, fun _ _ => 0, .none⟩
/-- A field of access FW with Reset 0 and no range. -/
abbrev FieldDef.mkFW (lo w : Nat) : FieldDef := ⟨lo, w, fun _ _ => .fw, fun _ _ => 0, .none⟩

/-- Default y source of a slot (Table 7-1, codes of Table 7-3). -/
def ysrcReset (s : Nat) : Nat :=
  if s ≤ 1 then 1 else if s ≤ 4 then 3 else if s ≤ 7 then 0 else if s ≤ 31 then 4
  else if s ≤ 39 then 5 else if s ≤ 55 then 6 else 0

/-- Default reference source of a slot (Table 7-1, codes of Table 7-3); the rails' "—" is code 0. -/
def rsrcReset (s : Nat) : Nat :=
  if s ≤ 4 then 3 else if s ≤ 7 then 0 else if s ≤ 31 then 1 else if s ≤ 39 then 0 else if s ≤ 55 then 2 else 0

/-- Default IDX of a slot: its string, rail or phase (Table 7-1), 0 where unused. -/
def idxReset (s : Nat) : Nat :=
  if s ≤ 7 then 0 else if s ≤ 31 then s - 8 else if s ≤ 39 then s - 32 else if s ≤ 55 then s - 40 else 0

/-- Default severity of source `i` (Tables 14-2, 7-11 and 10-7; R444: reserved indexes 0). -/
def sevReset (i : Nat) : Nat :=
  if i = 0 then 5 else if i = 1 then 3 else if i = 2 then 1 else if i ≤ 7 then 2 else if i = 8 then 4
  else if i = 9 then 1 else if i ≤ 10 then 2 else if i = 11 then 2 else if i ≤ 15 then 0
  else if i ≤ 63 then 2 else if i ≤ 87 then 3
  else if i = 88 then 2 else if i = 89 then 3 else if i = 90 then 2 else if i = 91 then 3 else if i ≤ 93 then 2
  else if i = 94 then 3 else if i ≤ 96 then 2 else if i = 97 then 1 else if i = 98 then 3 else if i = 99 then 4
  else if i ≤ 103 then 0 else if i = 104 then 4 else if i ≤ 187 then 2 else if i ≤ 191 then 0
  else if i ≤ 194 then 2 else if i = 195 then 3 else if i = 196 then 2 else if i ≤ 199 then 1 else if i ≤ 202 then 2
  else if i ≤ 207 then 0 else if i = 208 then 2 else if i = 209 then 1 else if i ≤ 217 then 2 else if i ≤ 223 then 0
  else if i ≤ 232 then 2 else if i ≤ 239 then 0 else if i = 240 then 4 else if i ≤ 247 then 2 else if i = 248 then 1 else 0

/-- Reset of CMPMASK for source `i` (Table 16-7). -/
def cmpMaskReset (i : Nat) : Nat :=
  if i = 104 ∨ i = 105 then 0x000 else if i = 107 then 0x010 else if 112 ≤ i ∧ i ≤ 151 then 0x001
  else if 152 ≤ i ∧ i ≤ 183 then 0x003 else if i = 209 then 0x001 else 0x3FF

def regsDEV : List RegDef := [
  ⟨0x20, 0, 1, [⟨16, 16, fun _ _ => .ro, fun _ _ => 9266, .none⟩, ⟨8, 8, fun _ _ => .ro, fun _ _ => 176, .none⟩, .mkRO 0 1]⟩,
  ⟨0x24, 0, 1, [.mkWO 8 8, .mkWO 0 4]⟩,
  ⟨0x28, 0, 1, [.mkRO 20 4, .mkRO 16 4, .mkRO 11 1, .mkRO 10 1, .mkRO 8 2, .mkRO 4 3, ⟨0, 3, fun _ _ => .ro, fun _ _ => 2, .none⟩]⟩,
  ⟨0x2C, 0, 1, [.mkRO 28 4, .mkW1C 0 7]⟩,
  ⟨0x30, 0, 1, [.mkRO 16 4, .mkRW 3 1, ⟨2, 1, fun _ _ => .rw, fun _ _ => 1, .none⟩, .mkRW 1 1, ⟨0, 1, fun _ _ => .ro, fun _ _ => 1, .none⟩]⟩,
  ⟨0x34, 0, 1, [⟨16, 16, fun _ _ => .rw, fun _ _ => 1000, .rng 10 6000⟩, ⟨4, 12, fun _ _ => .rw, fun _ _ => 100, .rng 1 1000⟩, ⟨0, 1, fun _ _ => .rw, fun _ _ => 1, .none⟩]⟩,
  ⟨0x38, 0, 1, [.mkRO 16 16, .mkRO 12 4, .mkRO 0 4]⟩,
  ⟨0x3C, 0, 1, [.mkRW 0 32]⟩,
  ⟨0x40, 0, 1, [⟨0, 32, fun _ _ => .rw, fun _ _ => 30, .rngOr 1 3600 0⟩]⟩,
  ⟨0x44, 0, 1, [⟨0, 32, fun _ _ => .rw, fun _ _ => 0x40000000, .none⟩]⟩,
  ⟨0x48, 0, 1, [⟨0, 16, fun _ _ => .rw, fun _ _ => 1920, .none⟩]⟩,
  ⟨0x4C, 0, 1, [.mkRO 0 32]⟩,
  ⟨0x50, 0, 1, [.mkRO 0 32]⟩,
  ⟨0x54, 0, 1, [.mkRO 0 32]⟩,
  ⟨0x58, 0, 1, [.mkW1C 0 32]⟩]

def regsCLKPWR : List RegDef := [
  ⟨0x20, 0, 1, [.mkRO 7 1, .mkRO 6 1, .mkRO 5 1, .mkRO 4 1]⟩,
  ⟨0x24, 0, 1, [.mkRO 4 4, .mkRO 0 4]⟩,
  ⟨0x28, 0, 1, [.mkRO 0 18]⟩,
  ⟨0x2C, 0, 1, [.mkW1C 0 9]⟩,
  ⟨0x30, 0, 1, [.mkRO 16 1, .mkRO 0 16]⟩,
  ⟨0x34, 0, 1, [.mkRO 16 1, .mkRO 0 16]⟩,
  ⟨0x38, 0, 1, [.mkRO 16 16, .mkRO 0 16]⟩,
  ⟨0x40, 4, 9, [.mkRO 0 16]⟩,
  ⟨0x64, 0, 1, [.mkRO 20 4, .mkRO 16 4, .mkRO 0 16]⟩,
  ⟨0x80, 4, 8, [.mkRO 18 1, .mkRO 17 1, .mkRO 16 1, .mkRO 0 12]⟩]

def regsFCOL : List RegDef := [
  ⟨0x20, 0, 1, [.mkWO 0 1]⟩,
  ⟨0x24, 0, 1, [.mkRO 16 16, .mkRO 4 1, .mkRO 0 3]⟩,
  ⟨0x28, 0, 1, [.mkRO 8 3, .mkRO 0 8]⟩,
  ⟨0x2C, 0, 1, [.mkRW 0 4]⟩,
  ⟨0x40, 4, 8, [.mkW1C 0 32]⟩,
  ⟨0x60, 4, 8, [.mkRO 0 32]⟩,
  ⟨0x80, 4, 4, [.mkW1C 0 32]⟩,
  ⟨0x90, 4, 4, [⟨0, 32, fun _ _ => .rw, fun _ _ => 0xffffffff, .none⟩]⟩,
  ⟨0xA0, 0, 1, [.mkWO 31 1, .mkRO 28 2, .mkRW 16 4, .mkRW 0 6]⟩,
  ⟨0xB0, 0, 1, [.mkWO 31 1, .mkRW 24 1, .mkRW 16 4, .mkRW 8 5, ⟨0, 8, fun _ _ => .rw, fun _ _ => 1, .none⟩]⟩,
  ⟨0xB4, 0, 1, [.mkRO 31 1, .mkRO 28 2, .mkRO 8 8, .mkRO 0 8]⟩]

def regsFCOLSEV : List RegDef := [
  ⟨0x20, 4, 256, [⟨23, 1, fun _ _ => .rw, fun _ _ => 1, .none⟩, ⟨16, 7, fun _ _ => .rw, fun _ i => i / 2, .none⟩, ⟨0, 3, fun _ _ => .rw, fun _ i => sevReset i, .rng 0 5⟩]⟩]

def regsCAIRN : List RegDef := [
  ⟨0x20, 0, 1, [.mkRO 0 32]⟩,
  ⟨0x24, 0, 1, [.mkRO 0 32]⟩,
  ⟨0x28, 0, 1, [.mkRO 0 32]⟩,
  ⟨0x2C, 0, 1, [.mkRO 16 16, .mkRO 0 16]⟩,
  ⟨0x30, 0, 1, [.mkRO 3 1, .mkRO 2 1, .mkRO 1 1, .mkRO 0 1]⟩,
  ⟨0x34, 0, 1, [.mkRO 0 32]⟩,
  ⟨0x38, 0, 1, [.mkRO 0 16]⟩,
  ⟨0x3C, 0, 1, [.mkRO 0 32]⟩,
  ⟨0x40, 0, 1, [.mkRW 0 32]⟩,
  ⟨0x44, 0, 1, [.mkRW 0 32]⟩,
  ⟨0x48, 0, 1, [.mkRW 0 16]⟩,
  ⟨0x4C, 0, 1, [.mkWO 31 1, .mkRO 28 2]⟩,
  ⟨0x50, 0, 1, [.mkRW 0 32]⟩,
  ⟨0x54, 0, 1, [.mkWO 31 1, .mkRO 28 2, .mkRO 24 4, .mkWO 8 8]⟩,
  ⟨0x60, 0, 1, [.mkRW 0 32]⟩,
  ⟨0x64, 0, 1, [⟨16, 16, fun _ _ => .ro, fun _ _ => 4096, .none⟩, .mkRO 0 16]⟩,
  ⟨0x68, 0, 1, [.mkRW 0 16]⟩,
  ⟨0x200, 4, 128, [⟨16, 10, fun _ _ => .rw, fun _ j => cmpMaskReset (2 * j + 1), .none⟩, ⟨0, 10, fun _ _ => .rw, fun _ j => cmpMaskReset (2 * j), .none⟩]⟩,
  ⟨0x400, 4, 256, [.mkRO 0 32]⟩,
  ⟨0x800, 4, 256, [.mkRO 0 32]⟩]

def regsPSTORE : List RegDef := [
  ⟨0x20, 0, 1, [.mkWO 31 1, .mkRW 24 3, .mkRW 0 16]⟩,
  ⟨0x24, 0, 1, [.mkRO 31 1, .mkRO 28 2, .mkRO 24 4, .mkRO 0 16]⟩,
  ⟨0x28, 0, 1, [.mkRW 16 1, .mkRW 0 16]⟩,
  ⟨0x2C, 0, 1, [.mkRO 31 1, .mkRO 30 1, .mkRO 29 1, .mkRO 24 4, .mkRO 0 16]⟩,
  ⟨0x30, 0, 1, [.mkRO 0 32]⟩,
  ⟨0x34, 0, 1, [.mkRO 0 16]⟩,
  ⟨0x38, 0, 1, [.mkRO 16 16, .mkRO 0 16]⟩,
  ⟨0x3C, 0, 1, [.mkRO 0 16]⟩,
  ⟨0x40, 0, 1, [.mkRO 0 32]⟩,
  ⟨0x100, 4, 960, [.mkRO 0 32]⟩]

def regsIMAGE : List RegDef := [
  ⟨0x20, 0, 1, [.mkWO 31 1, .mkRW 24 3, .mkWO 8 8]⟩,
  ⟨0x24, 0, 1, [.mkRO 31 1, .mkRO 28 3, .mkRO 26 2, .mkRO 23 3, .mkRO 19 4, .mkW1C 0 1]⟩,
  ⟨0x28, 0, 1, [.mkRO 0 32]⟩,
  ⟨0x2C, 0, 1, [.mkRO 31 1, .mkRO 30 1, .mkRO 29 1, .mkRO 0 16]⟩,
  ⟨0x30, 0, 1, [⟨31, 1, fun _ _ => .rw, fun _ _ => 1, .none⟩, ⟨0, 8, fun _ _ => .rw, fun _ _ => 10, .rng 1 25⟩]⟩,
  ⟨0x34, 0, 1, [.mkRO 0 32]⟩,
  ⟨0x38, 0, 1, [.mkRO 0 32]⟩,
  ⟨0x3C, 0, 1, [.mkRO 16 16, .mkRO 0 7]⟩,
  ⟨0x40, 0, 1, [.mkRO 16 16, .mkRO 0 16]⟩,
  ⟨0x100, 4, 64, [.mkWO 0 32]⟩,
  ⟨0x200, 4, 128, [.mkRO 0 32]⟩]

def regsRIDGE : List RegDef := [
  ⟨0x20, 0, 1, [⟨16, 16, fun _ _ => .rw, fun _ _ => 600, .none⟩, .mkRW 8 1, .mkRW 4 4, .mkRS 0 1]⟩,
  ⟨0x24, 0, 1, [⟨16, 16, fun _ _ => .rw, fun _ _ => 500, .rng 100 10000⟩, ⟨8, 8, fun _ _ => .rw, fun _ _ => 2, .rng 1 255⟩, ⟨0, 8, fun _ _ => .rw, fun _ _ => 100, .rng 1 255⟩]⟩,
  ⟨0x28, 0, 1, [.mkWO 1 1, .mkWO 0 1]⟩,
  ⟨0x2C, 0, 1, [.mkRO 28 4, .mkRO 16 3, .mkRO 11 1, .mkRO 10 1, .mkRO 9 1, .mkRO 8 1, .mkRO 7 1, .mkRO 6 1, .mkRO 5 1, .mkRO 4 1, .mkRO 3 1, .mkRO 2 1, .mkRO 1 1, .mkRO 0 1]⟩,
  ⟨0x30, 0, 1, [.mkRO 0 16]⟩,
  ⟨0x34, 0, 1, [.mkRO 16 16, .mkRO 0 16]⟩,
  ⟨0x38, 0, 1, [.mkRO 0 32]⟩,
  ⟨0x3C, 0, 1, [.mkRO 0 32]⟩,
  ⟨0x40, 0, 1, [.mkRO 0 16]⟩,
  ⟨0x44, 0, 1, [.mkRO 16 16, .mkRO 0 16]⟩,
  ⟨0x48, 0, 1, [.mkRO 16 16, .mkRO 0 16]⟩,
  ⟨0x4C, 0, 1, [.mkRO 16 16, .mkRO 0 16]⟩,
  ⟨0x50, 0, 1, [.mkRO 16 16, .mkRO 0 16]⟩,
  ⟨0x54, 0, 1, [.mkRO 16 16, .mkRO 0 16]⟩,
  ⟨0x58, 0, 1, [.mkRO 0 32]⟩,
  ⟨0x60, 0, 1, [.mkRO 31 1, .mkRO 28 2, .mkRO 8 8, .mkRO 0 4]⟩,
  ⟨0x70, 0, 1, [.mkWO 0 1]⟩]

def regsSDMA : List RegDef := [
  ⟨0x20, 0, 1, [⟨4, 2, fun _ _ => .rw, fun _ _ => 1, .none⟩, .mkRW 0 1]⟩,
  ⟨0x40, 32, 16, [.mkFW 0 3]⟩,
  ⟨0x44, 32, 16, [.mkRO 16 4, .mkRO 8 1, .mkRO 0 3]⟩,
  ⟨0x48, 32, 16, [.mkRO 0 32]⟩,
  ⟨0x4C, 32, 16, [.mkRO 0 32]⟩,
  ⟨0x50, 32, 16, [.mkRO 0 32]⟩,
  ⟨0x54, 32, 16, [.mkRO 0 32]⟩]

def regsFMOVER : List RegDef := [
  ⟨0x20, 0, 1, [⟨0, 1, fun _ _ => .rw, fun _ _ => 1, .none⟩]⟩,
  ⟨0x24, 0, 1, [.mkRO 16 16, .mkRO 1 1, .mkRO 0 1]⟩,
  ⟨0x28, 0, 1, [.mkRO 0 32]⟩,
  ⟨0x2C, 0, 1, [.mkRO 8 1, .mkRO 0 4]⟩,
  ⟨0x40, 4, 24, [.mkRO 16 8, .mkRO 0 16]⟩]

def regsYPORT : List RegDef := [
  ⟨0x20, 0, 1, [⟨16, 3, fun _ _ => .rs, fun _ _ => 4, .rng 0 4⟩, ⟨8, 5, fun _ _ => .rs, fun _ _ => 16, .rng 1 31⟩, .mkRS 7 1, .mkRS 6 1, .mkRS 0 5]⟩,
  ⟨0x24, 0, 1, [⟨16, 16, fun _ _ => .rw, fun _ _ => 200, .rng 20 2000⟩, ⟨8, 8, fun _ _ => .rw, fun _ _ => 16, .none⟩, ⟨0, 3, fun _ _ => .rw, fun _ _ => 2, .none⟩]⟩,
  ⟨0x28, 0, 1, [⟨16, 16, fun _ _ => .rw, fun _ _ => 10, .rng 1 3600⟩, ⟨0, 8, fun _ _ => .rw, fun _ _ => 32, .rng 4 64⟩]⟩,
  ⟨0x2C, 0, 1, [.mkRO 16 6, .mkRO 13 1, .mkRO 12 1, .mkRO 11 1, .mkRO 10 1, .mkRO 9 1, .mkRO 8 1, .mkRO 0 1]⟩,
  ⟨0x48, 0, 1, [.mkRO 16 16, .mkFW 0 16]⟩,
  ⟨0x4C, 0, 1, [.mkRO 0 5]⟩,
  ⟨0x58, 0, 1, [⟨16, 16, fun _ _ => .rw, fun _ _ => 20, .rng 1 1000⟩, ⟨0, 16, fun _ _ => .rw, fun _ _ => 100, .rng 10 10000⟩]⟩,
  ⟨0x30, 0, 1, [.mkRO 16 16, .mkRO 0 16]⟩,
  ⟨0x34, 0, 1, [.mkRO 16 16, .mkRO 0 16]⟩,
  ⟨0x38, 0, 1, [.mkRO 16 16, .mkRO 0 16]⟩,
  ⟨0x3C, 0, 1, [.mkRO 16 16, .mkRO 0 16]⟩,
  ⟨0x40, 0, 1, [.mkRO 16 16, .mkRO 0 16]⟩,
  ⟨0x44, 0, 1, [.mkWO 0 1]⟩,
  ⟨0x50, 0, 1, [.mkWO 31 1, .mkRW 30 1, .mkRW 24 5, ⟨16, 8, fun _ _ => .rw, fun _ _ => 1, .none⟩, .mkRW 0 16]⟩,
  ⟨0x54, 0, 1, [.mkRO 31 1, .mkRO 24 4, .mkRO 16 8]⟩,
  ⟨0x60, 4, 23, [.mkRW 0 32]⟩,
  ⟨0x100, 4, 32, [.mkRO 31 1, .mkRO 30 1, .mkRO 24 6, .mkRO 23 1, .mkRO 0 16]⟩,
  ⟨0x180, 8, 32, [.mkRO 0 32]⟩,
  ⟨0x184, 8, 32, [.mkRO 0 32]⟩,
  ⟨0x280, 4, 32, [.mkRO 8 8, .mkRO 0 8]⟩]

def regsSAMPLE0 : List RegDef := [
  ⟨0x20, 0, 1, [⟨16, 16, fun _ _ => .rs, fun _ _ => 100, .rng 20 1000⟩, ⟨8, 8, fun _ _ => .rs, fun _ _ => 60, .rng 36 180⟩, ⟨0, 8, fun _ _ => .rs, fun _ _ => 25, .rng 10 100⟩]⟩,
  ⟨0x24, 0, 1, [⟨12, 4, fun _ _ => .rw, fun _ _ => 4, .rng 1 15⟩, ⟨8, 1, fun _ _ => .rs, fun _ _ => 1, .none⟩, .mkRS 4 4, ⟨0, 4, fun _ _ => .rs, fun _ _ => 3, .none⟩]⟩,
  ⟨0x28, 0, 1, [⟨0, 32, fun _ _ => .rw, fun _ _ => 0x41700000, .none⟩]⟩,
  ⟨0x2C, 0, 1, [⟨24, 8, fun _ _ => .rs, fun _ _ => 0, .sym8⟩, ⟨16, 8, fun _ _ => .rs, fun _ _ => 0, .sym8⟩, ⟨8, 8, fun _ _ => .rs, fun _ _ => 0, .sym8⟩, ⟨0, 8, fun _ _ => .rs, fun _ _ => 0, .sym8⟩]⟩,
  ⟨0x30, 8, 4, [⟨0, 32, fun _ _ => .rs, fun _ _ => 0x3f800000, .none⟩]⟩,
  ⟨0x34, 8, 4, [.mkRS 0 32]⟩,
  ⟨0x50, 0, 1, [.mkRO 0 32]⟩,
  ⟨0x54, 0, 1, [.mkRO 0 32]⟩,
  ⟨0x58, 0, 1, [.mkRO 0 32]⟩,
  ⟨0x5C, 0, 1, [.mkRO 0 32]⟩,
  ⟨0x60, 0, 1, [.mkRO 10 1, .mkRO 9 1, .mkRO 8 1, .mkRO 4 4, .mkRO 0 4]⟩,
  ⟨0x64, 0, 1, [⟨0, 32, fun _ _ => .rw, fun _ _ => 0x41a00000, .none⟩]⟩,
  ⟨0x68, 0, 1, [.mkRO 0 32]⟩,
  ⟨0x80, 0, 1, [.mkRO 0 32]⟩,
  ⟨0x84, 0, 1, [.mkRO 0 32]⟩,
  ⟨0x88, 0, 1, [.mkRO 0 32]⟩,
  ⟨0x8C, 0, 1, [.mkRO 0 24]⟩,
  ⟨0x90, 0, 1, [.mkRO 0 32]⟩,
  ⟨0x94, 0, 1, [.mkRO 0 32]⟩,
  ⟨0x98, 0, 1, [.mkRO 0 32]⟩,
  ⟨0x9C, 0, 1, [.mkRO 0 32]⟩,
  ⟨0xA0, 0, 1, [.mkRO 0 32]⟩,
  ⟨0xA4, 0, 1, [.mkRO 4 1, .mkRO 3 1, .mkRO 2 1, .mkRO 1 1, .mkRO 0 1]⟩,
  ⟨0xA8, 4, 3, [.mkRO 0 32]⟩]

def regsSAMPLE1 : List RegDef := [
  ⟨0xC0, 0, 1, [.mkRO 16 16, .mkRO 0 16]⟩,
  ⟨0xC4, 0, 1, [.mkRO 16 16, .mkRO 0 16]⟩,
  ⟨0xC8, 0, 1, [.mkWO 0 1]⟩]

def regsSAMPLE : List RegDef := regsSAMPLE0 ++ regsSAMPLE1

def regsVCE : List RegDef := [
  ⟨0x20, 0, 1, [.mkWO 31 1, .mkRO 26 2, .mkRW 8 6, .mkRW 0 6]⟩,
  ⟨0x24, 0, 1, [.mkRO 16 16, .mkRO 1 1, .mkRO 0 1]⟩,
  ⟨0x28, 4, 4, [.mkFW 16 16, .mkFW 0 16]⟩,
  ⟨0x38, 0, 1, [⟨16, 16, fun _ _ => .ro, fun _ _ => 700, .none⟩, .mkRO 0 16]⟩,
  ⟨0x3C, 0, 1, [.mkW1C 0 32]⟩,
  ⟨0x40, 0, 1, [.mkW1C 0 32]⟩,
  ⟨0x44, 0, 1, [.mkW1C 0 32]⟩,
  ⟨0x48, 0, 1, [.mkW1C 0 32]⟩,
  ⟨0x4C, 0, 1, [.mkW1C 0 8]⟩,
  ⟨0x50, 0, 1, [.mkWO 0 1]⟩,
  ⟨0x54, 0, 1, [.mkRS 16 2, ⟨0, 9, fun _ _ => .rs, fun _ _ => 100, .rng 50 400⟩]⟩]

def regsVSLOT0 : List RegDef := [
  ⟨0x20, 0, 1, [.mkRS 31 1, ⟨30, 1, fun s _ => if s < 8 then .rs else .ro, fun _ _ => 0, .none⟩, ⟨28, 2, fun _ _ => .rw, fun _ _ => 2, .none⟩, ⟨24, 4, fun _ _ => .rs, fun s _ => ysrcReset s, .none⟩, ⟨22, 2, fun _ _ => .rs, fun s _ => rsrcReset s, .none⟩, ⟨16, 6, fun _ _ => .rs, fun s _ => idxReset s, .none⟩, ⟨8, 6, fun _ _ => .rs, fun _ _ => 24, .rng 0 40⟩, ⟨0, 8, fun s _ => if 32 ≤ s ∧ s ≤ 55 then .ro else .rs, fun s _ => if 32 ≤ s ∧ s ≤ 55 then 0 else 1, .rng 1 255⟩]⟩,
  ⟨0x24, 0, 1, [.mkWO 31 1, .mkWO 30 1, .mkWO 29 1, .mkWO 28 1, .mkRW 16 6, .mkRW 0 2]⟩,
  ⟨0x28, 0, 1, [.mkRW 0 32]⟩,
  ⟨0x2C, 0, 1, [.mkRW 0 32]⟩,
  ⟨0x30, 0, 1, [.mkRW 0 32]⟩,
  ⟨0x34, 0, 1, [.mkRW 0 32]⟩,
  ⟨0x40, 0, 1, [⟨0, 32, fun s _ => if s < 8 then .sb false else .rw, fun _ _ => 0x3f800000, .none⟩]⟩,
  ⟨0x44, 0, 1, [⟨0, 32, fun s _ => if s < 8 then .sb false else .rw, fun _ _ => 0, .none⟩]⟩,
  ⟨0x48, 0, 1, [⟨0, 32, fun s _ => if s < 8 then .sb false else .rw, fun _ _ => 0, .none⟩]⟩,
  ⟨0x4C, 0, 1, [⟨0, 32, fun s _ => if s < 8 then .sb false else .rw, fun _ _ => 0, .none⟩]⟩,
  ⟨0x50, 0, 1, [⟨0, 32, fun s _ => if s < 8 then .sb false else .rw, fun _ _ => 0, .none⟩]⟩,
  ⟨0x54, 0, 1, [⟨0, 32, fun s _ => if s < 8 then .sb false else .rw, fun _ _ => 0, .none⟩]⟩,
  ⟨0x58, 0, 1, [⟨0, 32, fun s _ => if s < 8 then .sb false else .rw, fun _ _ => 0, .none⟩]⟩,
  ⟨0x5C, 0, 1, [⟨0, 32, fun s _ => if s < 8 then .sb false else .rw, fun _ _ => 0, .none⟩]⟩,
  ⟨0x60, 0, 1, [⟨0, 32, fun s _ => if s < 8 then .sb false else .rw, fun _ _ => 0, .none⟩]⟩,
  ⟨0x64, 0, 1, [⟨0, 32, fun s _ => if s < 8 then .sb false else .rw, fun _ _ => 0, .none⟩]⟩,
  ⟨0x68, 0, 1, [⟨0, 32, fun s _ => if s < 8 then .sb false else .rw, fun _ _ => 0, .none⟩]⟩,
  ⟨0x6C, 0, 1, [⟨0, 32, fun s _ => if s < 8 then .sb false else .rw, fun _ _ => 0, .none⟩]⟩,
  ⟨0x70, 0, 1, [⟨0, 32, fun s _ => if s < 8 then .sb false else .rw, fun _ _ => 0, .none⟩]⟩,
  ⟨0x74, 0, 1, [⟨0, 32, fun s _ => if s < 8 then .sb false else .rw, fun _ _ => 0xff7fffff, .none⟩]⟩,
  ⟨0x78, 0, 1, [⟨0, 32, fun s _ => if s < 8 then .sb false else .rw, fun _ _ => 0x7f7fffff, .none⟩]⟩,
  ⟨0x7C, 0, 1, [⟨0, 32, fun s _ => if s < 8 then .sb false else .rw, fun _ _ => 0, .none⟩]⟩,
  ⟨0xC0, 0, 1, [.mkRO 31 1, .mkRO 30 1, .mkRO 29 1, .mkRO 28 1, .mkRO 27 1, .mkRO 26 1, .mkRO 25 1, .mkRO 22 2, .mkRO 20 2, .mkRO 18 2]⟩,
  ⟨0xC4, 0, 1, [.mkRO 16 16, .mkRO 0 16]⟩]

def regsVSLOT1 : List RegDef := [
  ⟨0xC8, 0, 1, [.mkRO 16 16, .mkRO 0 16]⟩,
  ⟨0xD0, 0, 1, [.mkRO 0 32]⟩,
  ⟨0xD4, 0, 1, [.mkRO 0 32]⟩,
  ⟨0xD8, 0, 1, [.mkRO 0 32]⟩,
  ⟨0xDC, 0, 1, [.mkRO 0 32]⟩,
  ⟨0xE0, 0, 1, [.mkRO 0 32]⟩,
  ⟨0xE4, 0, 1, [.mkRO 16 16, .mkRO 0 16]⟩,
  ⟨0xE8, 0, 1, [.mkRO 0 32]⟩,
  ⟨0xEC, 0, 1, [.mkRO 0 32]⟩,
  ⟨0xF0, 0, 1, [.mkRO 0 32]⟩,
  ⟨0xF4, 0, 1, [.mkRO 0 32]⟩,
  ⟨0xF8, 0, 1, [.mkRO 0 32]⟩]

def regsVSLOT : List RegDef := regsVSLOT0 ++ regsVSLOT1

def regsVSLOTB : List RegDef := [
  ⟨0x80, 0, 1, [⟨0, 32, fun _ _ => .sb true, fun _ _ => 0x3f800000, .none⟩]⟩,
  ⟨0x84, 0, 1, [⟨0, 32, fun _ _ => .sb true, fun _ _ => 0, .none⟩]⟩,
  ⟨0x88, 0, 1, [⟨0, 32, fun _ _ => .sb true, fun _ _ => 0, .none⟩]⟩,
  ⟨0x8C, 0, 1, [⟨0, 32, fun _ _ => .sb true, fun _ _ => 0, .none⟩]⟩,
  ⟨0x90, 0, 1, [⟨0, 32, fun _ _ => .sb true, fun _ _ => 0, .none⟩]⟩,
  ⟨0x94, 0, 1, [⟨0, 32, fun _ _ => .sb true, fun _ _ => 0, .none⟩]⟩,
  ⟨0x98, 0, 1, [⟨0, 32, fun _ _ => .sb true, fun _ _ => 0, .none⟩]⟩,
  ⟨0x9C, 0, 1, [⟨0, 32, fun _ _ => .sb true, fun _ _ => 0, .none⟩]⟩,
  ⟨0xA0, 0, 1, [⟨0, 32, fun _ _ => .sb true, fun _ _ => 0, .none⟩]⟩,
  ⟨0xA4, 0, 1, [⟨0, 32, fun _ _ => .sb true, fun _ _ => 0, .none⟩]⟩,
  ⟨0xA8, 0, 1, [⟨0, 32, fun _ _ => .sb true, fun _ _ => 0, .none⟩]⟩,
  ⟨0xAC, 0, 1, [⟨0, 32, fun _ _ => .sb true, fun _ _ => 0, .none⟩]⟩,
  ⟨0xB0, 0, 1, [⟨0, 32, fun _ _ => .sb true, fun _ _ => 0, .none⟩]⟩,
  ⟨0xB4, 0, 1, [⟨0, 32, fun _ _ => .sb true, fun _ _ => 0xff7fffff, .none⟩]⟩,
  ⟨0xB8, 0, 1, [⟨0, 32, fun _ _ => .sb true, fun _ _ => 0x7f7fffff, .none⟩]⟩,
  ⟨0xBC, 0, 1, [⟨0, 32, fun _ _ => .sb true, fun _ _ => 0, .none⟩]⟩]

def regsSHELF : List RegDef := [
  ⟨0x20, 0, 1, [.mkRW 5 1, .mkRW 4 1, .mkRW 2 2, ⟨1, 1, fun _ _ => .rw, fun _ _ => 1, .none⟩, .mkRW 0 1]⟩,
  ⟨0x24, 0, 1, [.mkRS 23 1, ⟨20, 3, fun _ _ => .rs, fun _ _ => 5, .none⟩, ⟨16, 3, fun _ _ => .rs, fun _ _ => 4, .none⟩, ⟨12, 3, fun _ _ => .rs, fun _ _ => 3, .none⟩, ⟨8, 3, fun _ _ => .rs, fun _ _ => 2, .none⟩, ⟨4, 3, fun _ _ => .rs, fun _ _ => 1, .none⟩, .mkRS 0 3]⟩,
  ⟨0x28, 0, 1, [.mkRW 0 32]⟩,
  ⟨0x2C, 0, 1, [.mkRW 0 32]⟩,
  ⟨0x30, 0, 1, [.mkRW 0 32]⟩,
  ⟨0x34, 0, 1, [⟨0, 32, fun _ _ => .rw, fun _ _ => 0x44fa0000, .none⟩]⟩,
  ⟨0x38, 0, 1, [⟨0, 32, fun _ _ => .rw, fun _ _ => 0x41200000, .none⟩]⟩,
  ⟨0x3C, 0, 1, [⟨0, 32, fun _ _ => .rw, fun _ _ => 0x44c80000, .none⟩]⟩,
  ⟨0x40, 0, 1, [⟨0, 32, fun _ _ => .rw, fun _ _ => 0x44610000, .none⟩]⟩,
  ⟨0x44, 0, 1, [⟨8, 8, fun _ _ => .rw, fun _ _ => 2, .rng 1 255⟩, ⟨0, 8, fun _ _ => .rw, fun _ _ => 20, .rng 1 255⟩]⟩,
  ⟨0x48, 0, 1, [⟨0, 32, fun _ _ => .rw, fun _ _ => 0x42c80000, .none⟩]⟩,
  ⟨0x4C, 0, 1, [⟨0, 16, fun _ _ => .rw, fun _ _ => 20, .rng 1 1000⟩]⟩,
  ⟨0x50, 0, 1, [⟨0, 16, fun _ _ => .rw, fun _ _ => 100, .rng 10 6000⟩]⟩,
  ⟨0x60, 0, 1, [.mkRO 0 32]⟩,
  ⟨0x64, 0, 1, [.mkRO 16 2, .mkRO 13 1, .mkRO 12 1, .mkRO 11 1, .mkRO 10 1, .mkRO 9 1, .mkRO 8 1, .mkRO 4 2, .mkRO 3 1, .mkRO 0 3]⟩,
  ⟨0x68, 0, 1, [.mkRO 0 32]⟩,
  ⟨0x6C, 0, 1, [.mkRO 0 32]⟩,
  ⟨0x70, 0, 1, [.mkRO 0 32]⟩,
  ⟨0x74, 0, 1, [.mkRO 0 32]⟩,
  ⟨0x78, 0, 1, [.mkRO 0 32]⟩,
  ⟨0x7C, 0, 1, [.mkRO 0 32]⟩,
  ⟨0x90, 0, 1, [.mkFW 0 32]⟩]

def regsALLOC : List RegDef := [
  ⟨0x20, 0, 1, [⟨16, 16, fun _ _ => .rw, fun _ _ => 100, .rng 1 10000⟩, ⟨8, 8, fun _ _ => .rw, fun _ _ => 20, .rng 2 255⟩, ⟨0, 8, fun _ _ => .rw, fun _ _ => 20, .rng 1 255⟩]⟩,
  ⟨0x24, 0, 1, [⟨0, 24, fun _ _ => .rw, fun _ _ => 0xffffff, .none⟩]⟩,
  ⟨0x28, 0, 1, [⟨0, 32, fun _ _ => .rw, fun _ _ => 0x40a00000, .none⟩]⟩,
  ⟨0x2C, 0, 1, [⟨0, 32, fun _ _ => .rw, fun _ _ => 0x3e800000, .none⟩]⟩,
  ⟨0x30, 0, 1, [⟨0, 32, fun _ _ => .rw, fun _ _ => 0x40000000, .none⟩]⟩,
  ⟨0x34, 0, 1, [⟨0, 32, fun _ _ => .rw, fun _ _ => 0x42340000, .none⟩]⟩,
  ⟨0x38, 0, 1, [⟨0, 32, fun _ _ => .rw, fun _ _ => 0x425c0000, .none⟩]⟩,
  ⟨0x3C, 0, 1, [⟨0, 32, fun _ _ => .rw, fun _ _ => 0x3e4ccccd, .none⟩]⟩,
  ⟨0x40, 0, 1, [⟨0, 32, fun _ _ => .rw, fun _ _ => 0x40a00000, .none⟩]⟩,
  ⟨0x44, 0, 1, [⟨0, 32, fun _ _ => .rw, fun _ _ => 0x3c23d70a, .none⟩]⟩,
  ⟨0x80, 4, 24, [⟨0, 32, fun _ _ => .rw, fun _ _ => 0x7f7fffff, .none⟩]⟩,
  ⟨0xE0, 4, 24, [⟨0, 32, fun _ _ => .rw, fun _ _ => 0x7f7fffff, .none⟩]⟩,
  ⟨0x140, 0, 1, [.mkRO 0 32]⟩,
  ⟨0x144, 0, 1, [.mkRO 8 5, .mkRO 2 1, .mkRO 1 1, .mkRO 0 1]⟩,
  ⟨0x148, 0, 1, [.mkRO 0 32]⟩,
  ⟨0x14C, 0, 1, [⟨0, 32, fun _ _ => .ro, fun _ _ => 0x3f800000, .none⟩]⟩,
  ⟨0x150, 4, 24, [.mkRO 0 32]⟩,
  ⟨0x1B0, 4, 24, [.mkRO 12 4, .mkRO 9 1, .mkRO 8 1, .mkRO 7 1, .mkRO 6 1, .mkRO 5 1, .mkRO 4 1, .mkRO 3 1, .mkRO 2 1, .mkRO 1 1, .mkRO 0 1]⟩,
  ⟨0x220, 0, 1, [.mkRO 0 32]⟩,
  ⟨0x224, 4, 24, [.mkRO 0 32]⟩,
  ⟨0x284, 4, 24, [.mkRO 0 32]⟩]

def regsCREST0 : List RegDef := [
  ⟨0x20, 0, 1, [⟨0, 32, fun _ _ => .rw, fun _ _ => 0x7f7fffff, .none⟩]⟩,
  ⟨0x24, 0, 1, [⟨0, 32, fun _ _ => .rw, fun _ _ => 0x7f7fffff, .none⟩]⟩,
  ⟨0x28, 0, 1, [⟨0, 32, fun _ _ => .fw, fun _ _ => 0x7f7fffff, .none⟩]⟩,
  ⟨0x2C, 0, 1, [⟨0, 32, fun _ _ => .fw, fun _ _ => 0x7f7fffff, .none⟩]⟩,
  ⟨0x30, 0, 1, [⟨0, 32, fun _ _ => .rw, fun _ _ => 0x7f7fffff, .none⟩]⟩,
  ⟨0x34, 0, 1, [⟨0, 32, fun _ _ => .rw, fun _ _ => 0x7f7fffff, .none⟩]⟩,
  ⟨0x38, 0, 1, [⟨0, 32, fun _ _ => .rw, fun _ _ => 0x7f7fffff, .none⟩]⟩,
  ⟨0x3C, 0, 1, [⟨0, 32, fun _ _ => .rw, fun _ _ => 0x7f7fffff, .none⟩]⟩,
  ⟨0x40, 0, 1, [⟨0, 32, fun _ _ => .rw, fun _ _ => 0x42480000, .none⟩]⟩,
  ⟨0x44, 0, 1, [⟨0, 32, fun _ _ => .rw, fun _ _ => 0x42700000, .none⟩]⟩,
  ⟨0x48, 0, 1, [⟨0, 16, fun _ _ => .rw, fun _ _ => 100, .rng 100 150⟩]⟩,
  ⟨0x4C, 0, 1, [.mkRW 0 32]⟩,
  ⟨0x50, 0, 1, [.mkRW 0 32]⟩,
  ⟨0x54, 0, 1, [⟨16, 16, fun _ _ => .rw, fun _ _ => 5, .rng 1 50⟩, ⟨0, 16, fun _ _ => .rw, fun _ _ => 100, .rng 1 60000⟩]⟩,
  ⟨0x80, 0, 1, [.mkRO 0 32]⟩,
  ⟨0x84, 0, 1, [.mkRO 0 32]⟩,
  ⟨0x88, 0, 1, [.mkRO 0 32]⟩,
  ⟨0x8C, 0, 1, [.mkRO 4 3, .mkRO 0 3]⟩,
  ⟨0x90, 0, 1, [.mkRO 0 32]⟩,
  ⟨0x94, 0, 1, [.mkRO 0 32]⟩,
  ⟨0x98, 0, 1, [.mkRO 0 32]⟩,
  ⟨0x9C, 0, 1, [.mkRO 0 32]⟩,
  ⟨0xA0, 0, 1, [.mkRO 0 32]⟩,
  ⟨0xA4, 0, 1, [.mkRO 0 32]⟩]

def regsCREST1 : List RegDef := [
  ⟨0xA8, 0, 1, [.mkRO 4 1, .mkRO 3 1, .mkRO 2 1, .mkRO 1 1, .mkRO 0 1]⟩,
  ⟨0xAC, 0, 1, [.mkRO 0 32]⟩]

def regsCREST : List RegDef := regsCREST0 ++ regsCREST1

def regsCORNICE0 : List RegDef := [
  ⟨0x20, 0, 1, [.mkRW 31 1, ⟨30, 1, fun _ _ => .rw, fun _ _ => 1, .none⟩, .mkRW 29 1, .mkRW 28 1, .mkRW 26 2, ⟨25, 1, fun _ _ => .rw, fun _ _ => 1, .none⟩, ⟨20, 4, fun _ _ => .rw, fun _ _ => 2, .rng 1 8⟩, ⟨16, 4, fun _ _ => .rw, fun _ _ => 3, .none⟩, .mkRW 0 3]⟩,
  ⟨0x24, 0, 1, [.mkRW 0 32]⟩,
  ⟨0x28, 0, 1, [⟨0, 16, fun _ _ => .rw, fun _ _ => 100, .rng 0 10000⟩]⟩,
  ⟨0x2C, 0, 1, [⟨0, 16, fun _ _ => .rw, fun _ _ => 1000, .rng 20 5000⟩]⟩,
  ⟨0x30, 0, 1, [⟨0, 16, fun _ _ => .rw, fun _ _ => 2000, .rng 50 60000⟩]⟩,
  ⟨0x34, 0, 1, [⟨0, 16, fun _ _ => .rw, fun _ _ => 10000, .rng 1 60000⟩]⟩,
  ⟨0x38, 0, 1, [⟨0, 32, fun _ _ => .rw, fun _ _ => 0xf4240, .rng 0 10000000⟩]⟩,
  ⟨0x3C, 0, 1, [.mkRW 0 32]⟩,
  ⟨0x40, 0, 1, [⟨0, 16, fun _ _ => .rw, fun _ _ => 1000, .rng 1 60000⟩]⟩,
  ⟨0x48, 8, 8, [.mkRW 0 32]⟩,
  ⟨0x4C, 8, 8, [⟨0, 32, fun _ _ => .rw, fun _ _ => 0, .hintLead⟩]⟩,
  ⟨0x90, 0, 1, [.mkWO 1 1, .mkWO 0 1]⟩,
  ⟨0xA0, 0, 1, [.mkRO 0 32]⟩,
  ⟨0xA4, 0, 1, [.mkRO 16 16, .mkRO 12 4, .mkRO 5 1, .mkRO 4 1, .mkRO 0 3]⟩,
  ⟨0xA8, 0, 1, [.mkRO 0 32]⟩,
  ⟨0xAC, 0, 1, [.mkRO 0 32]⟩,
  ⟨0xB0, 0, 1, [.mkRO 0 32]⟩,
  ⟨0xB4, 0, 1, [.mkRO 0 32]⟩,
  ⟨0xB8, 0, 1, [.mkRO 0 32]⟩,
  ⟨0xBC, 0, 1, [.mkRO 0 32]⟩,
  ⟨0xC0, 0, 1, [.mkRO 0 32]⟩,
  ⟨0xC4, 0, 1, [.mkRO 0 32]⟩,
  ⟨0xD0, 4, 24, [.mkRO 0 32]⟩,
  ⟨0x140, 0, 1, [.mkRO 16 16, .mkRO 0 16]⟩]

def regsCORNICE1 : List RegDef := [
  ⟨0x144, 0, 1, [.mkRO 16 16, .mkRO 0 16]⟩,
  ⟨0x148, 0, 1, [.mkRO 16 16, .mkRO 0 4]⟩,
  ⟨0x14C, 0, 1, [.mkRO 0 4]⟩,
  ⟨0x150, 0, 1, [.mkWO 0 1]⟩]

def regsCORNICE : List RegDef := regsCORNICE0 ++ regsCORNICE1

def regsHOLDUP : List RegDef := [
  ⟨0x20, 0, 1, [⟨16, 16, fun _ _ => .rw, fun _ _ => 1000, .rng 1 60000⟩, ⟨8, 8, fun _ _ => .rw, fun _ _ => 2, .rng 1 255⟩, .mkRW 3 1, ⟨2, 1, fun _ _ => .rw, fun _ _ => 1, .none⟩, ⟨1, 1, fun _ _ => .rw, fun _ _ => 1, .none⟩, ⟨0, 1, fun _ _ => .rw, fun _ _ => 1, .none⟩]⟩,
  ⟨0x24, 0, 1, [⟨0, 32, fun _ _ => .rw, fun _ _ => 0x447a0000, .none⟩]⟩,
  ⟨0x28, 0, 1, [⟨0, 32, fun _ _ => .rw, fun _ _ => 0x44834000, .none⟩]⟩,
  ⟨0x2C, 0, 1, [⟨0, 32, fun _ _ => .rw, fun _ _ => 0x44898000, .none⟩]⟩,
  ⟨0x30, 0, 1, [.mkRW 0 32]⟩,
  ⟨0x34, 0, 1, [⟨0, 16, fun _ _ => .rw, fun _ _ => 200, .rng 1 10000⟩]⟩,
  ⟨0x38, 0, 1, [⟨0, 16, fun _ _ => .rw, fun _ _ => 0, .rng 0 3600⟩]⟩,
  ⟨0x3C, 0, 1, [⟨0, 32, fun _ _ => .rw, fun _ _ => 0x7f7fffff, .none⟩]⟩,
  ⟨0x40, 0, 1, [⟨0, 32, fun _ _ => .rw, fun _ _ => 0x7f7fffff, .none⟩]⟩,
  ⟨0x44, 0, 1, [.mkWO 0 1]⟩,
  ⟨0x60, 0, 1, [.mkRO 16 16, .mkRO 4 3, .mkRO 2 1, .mkRO 0 2]⟩,
  ⟨0x64, 0, 1, [.mkRO 0 32]⟩]

def regsRAIL : List RegDef := [
  ⟨0x20, 0, 1, [.mkRS 31 1, .mkRS 30 1, .mkRW 29 1, .mkRW 28 1, ⟨24, 4, fun _ _ => .rs, fun _ _ => 1, .rng 1 15⟩, ⟨16, 8, fun _ _ => .rs, fun _ _ => 64, .none⟩, ⟨0, 16, fun _ _ => .rs, fun _ _ => 500, .none⟩]⟩,
  ⟨0x24, 0, 1, [.mkRW 0 1]⟩,
  ⟨0x28, 0, 1, [⟨0, 16, fun _ _ => .rw, fun _ _ => 10000, .rng 3000 55000⟩]⟩,
  ⟨0x2C, 0, 1, [⟨16, 16, fun _ _ => .rw, fun _ _ => 1000, .rng 1 65535⟩, ⟨0, 16, fun _ _ => .rw, fun _ _ => 1000, .rng 1 65535⟩]⟩,
  ⟨0x30, 0, 1, [⟨16, 8, fun _ _ => .rw, fun _ _ => 16, .none⟩, ⟨8, 8, fun _ _ => .rw, fun _ _ => 64, .none⟩, ⟨0, 8, fun _ _ => .rw, fun _ _ => 64, .none⟩]⟩,
  ⟨0x34, 0, 1, [⟨24, 8, fun _ _ => .rw, fun _ _ => 100, .none⟩, ⟨16, 8, fun _ _ => .rw, fun _ _ => 100, .none⟩, ⟨8, 8, fun _ _ => .rw, fun _ _ => 50, .none⟩, ⟨0, 8, fun _ _ => .rw, fun _ _ => 10, .none⟩]⟩,
  ⟨0x38, 0, 1, [⟨0, 32, fun _ _ => .rw, fun _ _ => 0x42200000, .none⟩]⟩,
  ⟨0x3C, 0, 1, [⟨0, 32, fun _ _ => .rs, fun _ _ => 0x41f00000, .none⟩]⟩,
  ⟨0x40, 0, 1, [⟨16, 16, fun _ _ => .rw, fun _ _ => 64, .none⟩, ⟨0, 16, fun _ _ => .rw, fun _ _ => 1000, .none⟩]⟩,
  ⟨0x44, 0, 1, [.mkRW 31 1, ⟨30, 1, fun _ _ => .rw, fun _ _ => 1, .none⟩, ⟨24, 5, fun _ _ => .rw, fun _ _ => 1, .nphMin⟩, ⟨16, 8, fun _ _ => .rw, fun _ _ => 10, .rng 1 255⟩, ⟨0, 8, fun _ _ => .rw, fun _ _ => 20, .rng 1 255⟩]⟩,
  ⟨0x48, 0, 1, [⟨0, 32, fun _ _ => .rs, fun _ _ => 0x41c80000, .none⟩]⟩,
  ⟨0x4C, 0, 1, [⟨0, 32, fun _ _ => .rs, fun _ _ => 0x41700000, .none⟩]⟩,
  ⟨0x50, 0, 1, [.mkWO 31 1, .mkRW 16 5, ⟨0, 16, fun _ _ => .rw, fun _ _ => 200, .rng 20 5000⟩]⟩,
  ⟨0x54, 0, 1, [.mkRW 0 32]⟩,
  ⟨0x58, 0, 1, [.mkRW 0 32]⟩,
  ⟨0x60, 0, 1, [.mkRO 0 32]⟩,
  ⟨0x64, 0, 1, [.mkRO 27 5, .mkRO 22 5, .mkRO 21 1, .mkRO 20 1, .mkRO 19 1, .mkRO 18 1, .mkRO 17 1, .mkRO 16 1, .mkRO 15 1, .mkRO 4 4, .mkRO 0 3]⟩,
  ⟨0x68, 0, 1, [.mkRO 0 32]⟩,
  ⟨0x6C, 0, 1, [.mkRO 0 32]⟩,
  ⟨0x70, 0, 1, [.mkRO 0 32]⟩,
  ⟨0x74, 0, 1, [.mkRO 24 8, .mkRO 16 8, .mkRO 12 4, .mkRO 0 5]⟩,
  ⟨0x78, 0, 1, [.mkRO 0 32]⟩,
  ⟨0x7C, 0, 1, [.mkRO 16 16, .mkRO 0 16]⟩]

def regsPHASE : List RegDef := [
  ⟨0x20, 4, 8, [⟨8, 5, fun _ _ => .rs, fun _ _ => 0, .rng 0 16⟩, .mkRS 0 4]⟩,
  ⟨0x40, 4, 16, [⟨0, 32, fun _ _ => .rs, fun _ _ => 0x447a0000, .none⟩]⟩,
  ⟨0x80, 0, 1, [⟨16, 16, fun _ _ => .rw, fun _ _ => 50, .none⟩, ⟨0, 16, fun _ _ => .rw, fun _ _ => 100, .none⟩]⟩,
  ⟨0x84, 0, 1, [⟨16, 16, fun _ _ => .rw, fun _ _ => 100, .none⟩, ⟨0, 16, fun _ _ => .rw, fun _ _ => 256, .rng 16 65535⟩]⟩,
  ⟨0xC0, 4, 16, [.mkRO 7 1, .mkRO 4 3, .mkRO 0 4]⟩,
  ⟨0x100, 4, 16, [.mkRO 0 32]⟩]

def regsRSYNC : List RegDef := [
  ⟨0x20, 0, 1, [.mkRS 31 1, ⟨0, 16, fun _ _ => .rs, fun _ _ => 500, .rng 100 2000⟩]⟩,
  ⟨0x24, 0, 1, [.mkRW 31 1, .mkRW 0 8]⟩,
  ⟨0x28, 0, 1, [.mkRO 16 16, .mkRO 0 3]⟩,
  ⟨0x2C, 0, 1, [.mkRO 16 16, .mkRO 0 16]⟩]

def regsEFUSE : List RegDef := [
  ⟨0x20, 0, 1, [⟨26, 2, fun _ _ => .rs, fun _ _ => 1, .none⟩, ⟨21, 3, fun _ _ => .rw, fun _ _ => 3, .none⟩, ⟨8, 6, fun _ _ => .rs, fun _ _ => 10, .none⟩]⟩,
  ⟨0x24, 0, 1, [.mkWO 2 1, .mkWO 1 1, .mkRW 0 1]⟩,
  ⟨0x28, 0, 1, [⟨0, 32, fun _ _ => .rs, fun _ _ => 0x3a83126f, .none⟩]⟩,
  ⟨0x2C, 0, 1, [⟨0, 32, fun _ _ => .rs, fun _ _ => 0x41200000, .none⟩]⟩,
  ⟨0x30, 0, 1, [⟨0, 16, fun _ _ => .rw, fun _ _ => 1000, .rng 10 65535⟩]⟩,
  ⟨0x34, 0, 1, [⟨0, 32, fun _ _ => .rw, fun _ _ => 0x42480000, .none⟩]⟩,
  ⟨0x38, 0, 1, [⟨0, 16, fun _ _ => .rw, fun _ _ => 100, .rng 1 10000⟩]⟩,
  ⟨0x3C, 0, 1, [⟨16, 16, fun _ _ => .rw, fun _ _ => 50, .rng 5 200⟩, ⟨0, 16, fun _ _ => .rw, fun _ _ => 1000, .rng 10 10000⟩]⟩,
  ⟨0x40, 0, 1, [⟨0, 16, fun _ _ => .rw, fun _ _ => 500, .rng 1 10000⟩]⟩,
  ⟨0x60, 0, 1, [.mkRO 0 32]⟩,
  ⟨0x64, 0, 1, [.mkRO 0 32]⟩,
  ⟨0x68, 0, 1, [.mkRO 0 32]⟩,
  ⟨0x6C, 0, 1, [.mkRO 0 32]⟩,
  ⟨0x70, 0, 1, [.mkRO 0 32]⟩,
  ⟨0x74, 0, 1, [.mkRO 8 4, .mkRO 5 3, .mkRO 4 1, .mkRO 3 1, .mkRO 0 3]⟩,
  ⟨0x78, 0, 1, [.mkRO 0 32]⟩,
  ⟨0x7C, 0, 1, [.mkRO 0 32]⟩,
  ⟨0x80, 0, 1, [.mkRO 16 16, .mkRO 0 16]⟩]

def regsSEQ : List RegDef := [
  ⟨0x20, 0, 1, [⟨16, 16, fun _ _ => .rw, fun _ _ => 10, .rng 1 65535⟩, ⟨0, 16, fun _ _ => .rw, fun _ _ => 10, .rng 1 65535⟩]⟩,
  ⟨0x24, 0, 1, [.mkRO 5 1, .mkRO 4 1, .mkRO 3 1, .mkRO 2 1, .mkRO 1 1, .mkRO 0 1]⟩,
  ⟨0x40, 4, 6, [⟨16, 16, fun _ _ => .rw, fun _ i => [500, 60000, 100, 0, 100, 1].getD i 0, .none⟩, ⟨8, 8, fun _ i => if i = 2 then .rw else .ro, fun _ _ => 10, .rng 1 255⟩]⟩,
  ⟨0x60, 4, 6, [.mkRO 16 16, .mkRO 8 8, .mkRO 2 1, .mkRO 1 1, .mkRO 0 1]⟩,
  ⟨0x80, 0, 1, [.mkWO 0 1]⟩]

def regsSEQGRP : List RegDef := [
  ⟨0x20, 0, 1, [⟨16, 16, fun _ _ => .rw, fun _ _ => 10, .rng 1 1000⟩, .mkRW 2 2, .mkRW 0 1]⟩,
  ⟨0x24, 0, 1, [.mkWO 1 1, .mkWO 0 1]⟩,
  ⟨0x28, 0, 1, [⟨24, 8, fun _ _ => .ro, fun _ _ => 255, .none⟩, .mkRO 16 5, .mkRO 7 1, .mkRO 6 1, .mkRO 5 1, .mkRO 4 1, .mkRO 3 1, .mkRO 0 3]⟩,
  ⟨0x2C, 0, 1, [.mkRO 16 16, .mkRO 0 16]⟩]

def regsSEQSLOT : List RegDef := [
  ⟨0x40, 32, 32, [.mkRS 31 1, .mkRW 30 1, ⟨29, 1, fun _ s => if s < 16 then .ro else .rw, fun _ _ => 1, .none⟩, .mkRS 26 2, ⟨24, 2, fun _ _ => .rw, fun _ _ => 2, .none⟩, ⟨21, 3, fun _ _ => .rw, fun _ _ => 3, .none⟩, .mkRS 16 5, .mkRS 11 5, ⟨0, 8, fun _ _ => .rw, fun _ _ => 10, .rng 1 255⟩]⟩,
  ⟨0x44, 32, 32, [.mkRW 16 16, .mkRW 0 16]⟩,
  ⟨0x48, 32, 32, [⟨16, 16, fun _ _ => .rw, fun _ _ => 100, .rng 1 65535⟩, ⟨0, 16, fun _ _ => .rw, fun _ _ => 100, .rng 1 65535⟩]⟩,
  ⟨0x4C, 32, 32, [⟨0, 32, fun _ _ => .rw, fun _ _ => 0x7f7fffff, .none⟩]⟩,
  ⟨0x50, 32, 32, [.mkRW 0 32]⟩,
  ⟨0x54, 32, 32, [⟨0, 32, fun _ _ => .rw, fun _ _ => 0x3dcccccd, .none⟩]⟩,
  ⟨0x58, 32, 32, [⟨0, 32, fun _ s => if s < 16 then .rw else .ro, fun _ _ => 0x3f800000, .none⟩]⟩,
  ⟨0x5C, 32, 32, [.mkRO 24 4, .mkRO 16 3, .mkRO 7 1, .mkRO 6 1, .mkRO 5 1, .mkRO 0 4]⟩,
  ⟨0x440, 4, 32, [.mkRO 0 32]⟩]

def regsEST : List RegDef := [
  ⟨0x20, 0, 1, [⟨16, 16, fun _ _ => .rw, fun _ _ => 3600, .rng 60 65535⟩, ⟨8, 8, fun _ _ => .rw, fun _ _ => 10, .rng 1 255⟩, ⟨1, 1, fun _ _ => .rw, fun _ _ => 1, .none⟩, ⟨0, 1, fun _ _ => .rw, fun _ _ => 1, .none⟩]⟩,
  ⟨0x24, 0, 1, [⟨16, 16, fun _ _ => .rw, fun _ _ => 600, .none⟩, ⟨0, 16, fun _ _ => .rw, fun _ _ => 300, .none⟩]⟩,
  ⟨0x28, 0, 1, [⟨0, 16, fun _ _ => .rw, fun _ _ => 3000, .none⟩]⟩,
  ⟨0x2C, 0, 1, [⟨0, 32, fun _ _ => .rw, fun _ _ => 0x3ba3d70a, .none⟩]⟩,
  ⟨0x30, 0, 1, [⟨0, 32, fun _ _ => .rw, fun _ _ => 0x3e4ccccd, .none⟩]⟩,
  ⟨0x34, 0, 1, [⟨16, 8, fun _ _ => .rw, fun _ _ => 5, .none⟩, ⟨8, 8, fun _ _ => .rw, fun _ _ => 20, .none⟩, ⟨0, 8, fun _ _ => .rw, fun _ _ => 50, .none⟩]⟩,
  ⟨0x38, 0, 1, [⟨0, 32, fun _ _ => .rw, fun _ _ => 0x322bcc77, .none⟩]⟩,
  ⟨0x3C, 0, 1, [⟨0, 16, fun _ _ => .rw, fun _ _ => 50, .none⟩]⟩,
  ⟨0x40, 0, 1, [⟨8, 8, fun _ _ => .rw, fun _ _ => 20, .none⟩, ⟨0, 4, fun _ _ => .rw, fun _ _ => 8, .none⟩]⟩,
  ⟨0x44, 0, 1, [⟨16, 16, fun _ _ => .rw, fun _ _ => 30, .rng 5 240⟩, ⟨8, 8, fun _ _ => .rw, fun _ _ => 20, .rng 5 240⟩, ⟨0, 8, fun _ _ => .rw, fun _ _ => 20, .none⟩]⟩,
  ⟨0x48, 0, 1, [⟨0, 16, fun _ _ => .rw, fun _ _ => 50, .none⟩]⟩,
  ⟨0x4C, 0, 1, [.mkRW 16 16]⟩,
  ⟨0x50, 0, 1, [⟨16, 16, fun _ _ => .rw, fun _ _ => 600, .none⟩, ⟨0, 16, fun _ _ => .rw, fun _ _ => 6000, .none⟩]⟩,
  ⟨0x60, 0, 1, [.mkRO 0 32]⟩,
  ⟨0x64, 0, 1, [.mkRO 16 16, .mkRO 1 1, .mkRO 0 1]⟩,
  ⟨0x68, 0, 1, [.mkRO 16 16, .mkRO 0 16]⟩,
  ⟨0x6C, 0, 1, [.mkRO 0 24]⟩]

def regsESTSTR0 : List RegDef := [
  ⟨0x20, 0, 1, [.mkRS 24 3, .mkRS 20 1, .mkRS 16 2, ⟨0, 1, fun _ _ => .rw, fun _ _ => 1, .none⟩]⟩,
  ⟨0x24, 0, 1, [⟨0, 32, fun _ _ => .rs, fun _ _ => 0x3f800000, .none⟩]⟩,
  ⟨0x28, 0, 1, [.mkWO 31 1, .mkWO 30 1, .mkRW 0 5]⟩,
  ⟨0x40, 0, 1, [.mkRO 0 32]⟩,
  ⟨0x44, 0, 1, [.mkRO 16 16, .mkRO 4 1, .mkRO 3 1, .mkRO 2 1, .mkRO 1 1, .mkRO 0 1]⟩,
  ⟨0x48, 0, 1, [.mkRO 0 32]⟩,
  ⟨0x4C, 0, 1, [.mkRO 0 32]⟩,
  ⟨0x50, 0, 1, [.mkRO 0 32]⟩,
  ⟨0x54, 0, 1, [.mkRO 0 32]⟩,
  ⟨0x58, 0, 1, [.mkRO 0 32]⟩,
  ⟨0x5C, 0, 1, [.mkRO 0 32]⟩,
  ⟨0x60, 0, 1, [.mkRO 0 32]⟩,
  ⟨0x64, 0, 1, [.mkRO 0 32]⟩,
  ⟨0x68, 0, 1, [.mkRO 0 32]⟩,
  ⟨0x6C, 0, 1, [.mkRO 0 32]⟩,
  ⟨0x70, 0, 1, [.mkRO 0 32]⟩,
  ⟨0x74, 0, 1, [.mkRO 0 32]⟩,
  ⟨0x78, 0, 1, [.mkRO 16 16, .mkRO 0 16]⟩,
  ⟨0x7C, 0, 1, [.mkRO 0 16]⟩,
  ⟨0xA0, 0, 1, [.mkRO 24 4, .mkRO 0 2]⟩,
  ⟨0xA4, 0, 1, [.mkRO 0 32]⟩,
  ⟨0xA8, 0, 1, [.mkRO 0 32]⟩,
  ⟨0xAC, 0, 1, [.mkRO 0 32]⟩,
  ⟨0xB0, 0, 1, [.mkRO 0 32]⟩]

def regsESTSTR1 : List RegDef := [
  ⟨0xB4, 0, 1, [.mkRO 16 16, .mkRO 0 16]⟩,
  ⟨0xB8, 0, 1, [.mkRO 24 8, .mkRO 16 8, .mkRO 8 8, .mkRO 0 8]⟩,
  ⟨0xBC, 0, 1, [.mkRO 24 8, .mkRO 16 8, .mkRO 8 8, .mkRO 0 8]⟩,
  ⟨0xC0, 0, 1, [.mkRO 0 32]⟩,
  ⟨0xC4, 0, 1, [.mkRO 16 16, .mkRO 1 1, .mkRO 0 1]⟩]

def regsESTSTR : List RegDef := regsESTSTR0 ++ regsESTSTR1

def regsESTPROF : List RegDef := [
  ⟨0x20, 0, 1, [.mkRW 0 3]⟩,
  ⟨0x24, 0, 1, [.mkRO 16 10, .mkRO 8 3, .mkRO 0 8]⟩,
  ⟨0x100, 0, 1, [.mkRS 0 1]⟩,
  ⟨0x104, 0, 1, [.mkRS 0 32]⟩,
  ⟨0x108, 0, 1, [⟨16, 16, fun _ _ => .rs, fun _ _ => 200, .none⟩, ⟨0, 16, fun _ _ => .rs, fun _ _ => 500, .none⟩]⟩,
  ⟨0x10C, 0, 1, [⟨16, 16, fun _ _ => .rs, fun _ _ => 1500, .none⟩, .mkRS 0 16]⟩,
  ⟨0x110, 0, 1, [⟨16, 16, fun _ _ => .rs, fun _ _ => 4000, .none⟩, ⟨0, 16, fun _ _ => .rs, fun _ _ => 2500, .none⟩]⟩,
  ⟨0x114, 0, 1, [⟨16, 16, fun _ _ => .rs, fun _ _ => 3500, .none⟩, ⟨0, 16, fun _ _ => .rs, fun _ _ => 1500, .none⟩]⟩,
  ⟨0x118, 0, 1, [⟨16, 16, fun _ _ => .rs, fun _ _ => 1000, .none⟩, ⟨0, 16, fun _ _ => .rs, fun _ _ => 500, .none⟩]⟩,
  ⟨0x11C, 0, 1, [⟨16, 16, fun _ _ => .rs, fun _ _ => 12000, .none⟩, ⟨0, 16, fun _ _ => .rs, fun _ _ => 5000, .none⟩]⟩,
  ⟨0x120, 0, 1, [⟨16, 16, fun _ _ => .rs, fun _ _ => 4000, .none⟩, ⟨0, 16, fun _ _ => .rs, fun _ _ => 1500, .none⟩]⟩,
  ⟨0x124, 0, 1, [⟨16, 16, fun _ _ => .rs, fun _ _ => 500, .none⟩, ⟨0, 16, fun _ _ => .rs, fun _ _ => 50, .none⟩]⟩,
  ⟨0x128, 4, 4, [⟨16, 16, fun _ _ => .rs, fun _ i => [0, 1500, 2500, 4500].getD i 0, .none⟩, ⟨0, 16, fun _ _ => .rs, fun _ i => [26000, 14500, 10000, 6200].getD i 0, .none⟩]⟩,
  ⟨0x138, 0, 1, []⟩,
  ⟨0x13C, 0, 1, []⟩,
  ⟨0x140, 4, 128, [.mkRS 0 32]⟩,
  ⟨0x340, 4, 16, [.mkRS 0 32]⟩,
  ⟨0x380, 4, 16, [.mkRS 0 32]⟩,
  ⟨0x3C0, 4, 16, [.mkRS 0 32]⟩]

def regsSURVEY : List RegDef := [
  ⟨0x20, 0, 1, [⟨24, 2, fun _ _ => .rs, fun _ _ => 3, .none⟩, ⟨16, 8, fun _ _ => .rs, fun _ _ => 16, .none⟩, ⟨0, 16, fun _ _ => .rs, fun _ _ => 60, .none⟩]⟩,
  ⟨0x24, 4, 4, [⟨16, 16, fun _ _ => .rs, fun _ _ => 500, .none⟩, ⟨0, 16, fun _ _ => .rs, fun _ i => [2, 40, 400, 2000].getD i 0, .none⟩]⟩,
  ⟨0x34, 0, 1, [.mkRS 0 32]⟩,
  ⟨0x38, 0, 1, [⟨0, 16, fun _ _ => .rs, fun _ _ => 2000, .rng 100 10000⟩]⟩,
  ⟨0x3C, 0, 1, [⟨0, 24, fun _ _ => .rw, fun _ _ => 0xffffff, .none⟩]⟩,
  ⟨0x40, 0, 1, [⟨0, 16, fun _ _ => .rs, fun _ _ => 50, .none⟩]⟩,
  ⟨0x80, 4, 24, [.mkRO 16 16, .mkRO 8 8, .mkRO 5 3, .mkRO 0 5]⟩,
  ⟨0xE0, 0, 1, [.mkRO 8 5, .mkRO 0 3]⟩]

def regsESTWIN : List RegDef := [
  ⟨0x20, 0, 1, [⟨24, 5, fun _ _ => .rw, fun _ _ => 0, .rng 0 23⟩, ⟨16, 5, fun _ _ => .rw, fun _ _ => 1, .rng 1 31⟩, ⟨8, 2, fun _ _ => .rw, fun _ _ => 3, .none⟩]⟩,
  ⟨0x100, 0, 1, [.mkRO 0 32]⟩,
  ⟨0x104, 0, 1, [.mkRO 0 32]⟩,
  ⟨0x108, 0, 1, [.mkRO 0 16]⟩,
  ⟨0x110, 4, 16, [.mkRO 0 32]⟩,
  ⟨0x150, 4, 16, [.mkRO 0 32]⟩,
  ⟨0x190, 4, 16, [.mkRO 0 32]⟩,
  ⟨0x200, 0, 1, [.mkRO 0 32]⟩,
  ⟨0x204, 0, 1, [.mkRO 0 32]⟩,
  ⟨0x208, 0, 1, [.mkRO 0 16]⟩,
  ⟨0x210, 4, 16, [.mkRO 0 32]⟩,
  ⟨0x250, 4, 16, [⟨16, 16, fun _ _ => .ro, fun _ _ => 32768, .none⟩, .mkRO 0 16]⟩,
  ⟨0x290, 4, 16, [.mkRO 16 16, .mkRO 0 16]⟩,
  ⟨0x300, 0, 1, [.mkRO 0 32]⟩,
  ⟨0x304, 0, 1, [.mkRO 24 5, .mkRO 16 5, .mkRO 8 2]⟩,
  ⟨0x308, 0, 1, [.mkRO 0 32]⟩,
  ⟨0x30C, 0, 1, [.mkRO 0 32]⟩,
  ⟨0x310, 4, 16, [.mkRO 0 32]⟩,
  ⟨0x350, 4, 16, [.mkRO 0 32]⟩]

def regsCAN : List RegDef := [
  ⟨0x20, 0, 1, [⟨24, 8, fun _ _ => .rs, fun n _ => 0x10 + n, .rng 1 254⟩, ⟨16, 8, fun _ _ => .rs, fun _ _ => 128, .none⟩, ⟨8, 8, fun _ _ => .rs, fun _ _ => 1, .none⟩, ⟨7, 1, fun n _ => if n = 0 then .rs else .ro, fun n _ => if n = 0 then 1 else 0, .none⟩, ⟨6, 1, fun _ _ => .rw, fun _ _ => 1, .none⟩, .mkRS 4 2, .mkRS 2 2]⟩,
  ⟨0x24, 0, 1, [⟨16, 16, fun _ _ => .rw, fun _ _ => 100, .none⟩]⟩,
  ⟨0x28, 0, 1, [.mkRO 24 8, .mkRO 16 8, .mkRO 0 2]⟩,
  ⟨0x2C, 0, 1, [.mkRO 16 16, .mkRO 0 16]⟩,
  ⟨0x30, 0, 1, [.mkRO 16 16, .mkRO 0 16]⟩,
  ⟨0x34, 0, 1, [.mkRO 16 16, .mkRO 0 16]⟩,
  ⟨0x38, 0, 1, [.mkWO 0 1]⟩,
  ⟨0x80, 4, 24, [.mkRO 24 8, .mkRO 16 8, .mkRO 0 3]⟩]

def regsT1S : List RegDef := [
  ⟨0x20, 0, 1, [⟨24, 8, fun _ _ => .rs, fun _ _ => 1, .rngOr 0 31 255⟩, ⟨16, 8, fun _ _ => .rs, fun _ _ => 8, .rng 1 32⟩, ⟨8, 8, fun _ _ => .rs, fun _ _ => 32, .none⟩, .mkRS 0 8]⟩,
  ⟨0x24, 0, 1, [⟨24, 8, fun _ _ => .rs, fun _ _ => 20, .rng 1 254⟩, ⟨16, 8, fun _ _ => .rs, fun _ _ => 128, .none⟩, .mkRS 8 8]⟩,
  ⟨0x28, 0, 1, [⟨0, 16, fun _ _ => .rs, fun _ _ => 34997, .none⟩]⟩,
  ⟨0x2C, 0, 1, [.mkRS 0 32]⟩,
  ⟨0x30, 0, 1, [.mkRS 0 16]⟩,
  ⟨0x34, 0, 1, [⟨16, 16, fun _ _ => .rw, fun _ _ => 100, .none⟩, ⟨0, 16, fun _ _ => .rw, fun _ _ => 100, .none⟩]⟩,
  ⟨0x38, 0, 1, [.mkRO 2 1, .mkRO 1 1, .mkRO 0 1]⟩,
  ⟨0x3C, 0, 1, [.mkRO 16 16, .mkRO 0 16]⟩,
  ⟨0x40, 0, 1, [.mkRO 16 16, .mkRO 0 16]⟩,
  ⟨0x44, 0, 1, [.mkRO 16 16, .mkRO 0 16]⟩,
  ⟨0x48, 0, 1, [.mkWO 0 1]⟩]

def regsPMBUS : List RegDef := [
  ⟨0x20, 0, 1, [.mkRS 30 2, ⟨29, 1, fun _ _ => .rs, fun _ _ => 1, .none⟩, ⟨28, 1, fun _ _ => .rw, fun _ _ => 1, .none⟩]⟩,
  ⟨0x40, 8, 32, [.mkRS 31 1, .mkRS 24 7, ⟨16, 8, fun _ _ => .rs, fun _ _ => 255, .none⟩, ⟨0, 8, fun _ _ => .rs, fun _ _ => 1, .none⟩]⟩,
  ⟨0x44, 8, 32, [⟨16, 16, fun _ _ => .rs, fun _ _ => 100, .rng 10 60000⟩, ⟨8, 8, fun _ _ => .rw, fun _ _ => 3, .rng 1 255⟩]⟩,
  ⟨0x200, 4, 32, [.mkRO 16 16, .mkRO 8 8, .mkRO 2 1, .mkRO 1 1, .mkRO 0 1]⟩,
  ⟨0x300, 0, 1, [.mkRW 0 5]⟩,
  ⟨0x310, 4, 7, [.mkRO 0 32]⟩,
  ⟨0x340, 0, 1, [.mkWO 31 1, .mkRW 30 1, .mkRW 24 5, .mkRW 16 8, .mkRW 0 16]⟩,
  ⟨0x344, 0, 1, [.mkRO 31 1, .mkRO 0 3]⟩]

def regsSPI : List RegDef := [
  ⟨0x20, 0, 1, [.mkRO 8 8, .mkRO 0 8]⟩,
  ⟨0x24, 0, 1, [.mkRO 16 16, .mkRO 0 16]⟩,
  ⟨0x28, 0, 1, [.mkRO 16 16, .mkRO 0 16]⟩,
  ⟨0x2C, 0, 1, [.mkWO 0 1]⟩]

end Sys2Proof.Machine
end

