-- ==== Sys2Proof/Machine/PageMap.lean ====
section
/-! DEFINITION. The page map (Table 2-1): a page number's block, instance and type code, the register an offset names, and every register's Reset value. -/

namespace Sys2Proof.Machine

/-- The blocks of Table 2-1. -/
inductive PageKind where
  | dev
  | clkpwr
  | fcol
  | fcolSev
  | cairn
  | pstore
  | image
  | ridge
  | sdma
  | fmover
  | yport
  | sample
  | vce
  | vslot
  | shelf
  | alloc
  | crest
  | cornice
  | holdup
  | rail
  | phase
  | rsync
  | efuse
  | seq
  | seqgrp
  | seqslot
  | est
  | eststr
  | estprof
  | survey
  | estwin
  | can
  | t1s
  | pmbus
  | spi
  deriving DecidableEq, Repr

/-- The block and instance of a page number, none where Table 2-1 lists no page (R30). -/
def pageKind (p : Nat) : Option (PageKind × Nat) :=
  if p = 0x000 then some (.dev, 0)
  else if p = 0x001 then some (.clkpwr, 0)
  else if p = 0x002 then some (.fcol, 0)
  else if p = 0x003 then some (.fcolSev, 0)
  else if p = 0x004 then some (.cairn, 0)
  else if p = 0x005 then some (.pstore, 0)
  else if p = 0x006 then some (.image, 0)
  else if p = 0x007 then some (.ridge, 0)
  else if p = 0x008 then some (.sdma, 0)
  else if p = 0x009 then some (.fmover, 0)
  else if 0x010 ≤ p ∧ p ≤ 0x027 then some (.yport, p - 0x010)
  else if p = 0x028 then some (.sample, 0)
  else if p = 0x030 then some (.vce, 0)
  else if 0x031 ≤ p ∧ p ≤ 0x038 then some (.vslot, p - 0x031)
  else if p = 0x040 then some (.shelf, 0)
  else if p = 0x041 then some (.alloc, 0)
  else if p = 0x042 then some (.crest, 0)
  else if p = 0x043 then some (.cornice, 0)
  else if p = 0x044 then some (.holdup, 0)
  else if 0x048 ≤ p ∧ p ≤ 0x04F then some (.rail, p - 0x048)
  else if p = 0x050 then some (.phase, 0)
  else if p = 0x051 then some (.rsync, 0)
  else if 0x058 ≤ p ∧ p ≤ 0x05F then some (.efuse, p - 0x058)
  else if p = 0x060 then some (.seq, 0)
  else if 0x061 ≤ p ∧ p ≤ 0x064 then some (.seqgrp, p - 0x061)
  else if p = 0x065 then some (.seqslot, 0)
  else if p = 0x068 then some (.est, 0)
  else if 0x069 ≤ p ∧ p ≤ 0x080 then some (.eststr, p - 0x069)
  else if p = 0x081 then some (.estprof, 0)
  else if p = 0x082 then some (.survey, 0)
  else if p = 0x084 then some (.estwin, 0)
  else if 0x090 ≤ p ∧ p ≤ 0x093 then some (.can, p - 0x090)
  else if p = 0x094 then some (.t1s, 0)
  else if p = 0x095 then some (.pmbus, 0)
  else if p = 0x096 then some (.spi, 0)
  else none

/-- PG_ID.TYPE of a block (Table 2-1). -/
def PageKind.typeCode : PageKind → Nat
  | .dev => 0x001
  | .clkpwr => 0x002
  | .fcol => 0x003
  | .fcolSev => 0x004
  | .cairn => 0x005
  | .pstore => 0x006
  | .image => 0x007
  | .ridge => 0x008
  | .sdma => 0x009
  | .fmover => 0x00A
  | .yport => 0x010
  | .sample => 0x011
  | .vce => 0x018
  | .vslot => 0x019
  | .shelf => 0x020
  | .alloc => 0x021
  | .crest => 0x022
  | .cornice => 0x023
  | .holdup => 0x024
  | .rail => 0x028
  | .phase => 0x029
  | .rsync => 0x02A
  | .efuse => 0x02C
  | .seq => 0x030
  | .seqgrp => 0x031
  | .seqslot => 0x032
  | .est => 0x038
  | .eststr => 0x039
  | .estprof => 0x03A
  | .survey => 0x03B
  | .estwin => 0x03C
  | .can => 0x040
  | .t1s => 0x041
  | .pmbus => 0x042
  | .spi => 0x043

/-- The block registers of a page (VSLOT: of one slot's region; bank B apart). -/
def PageKind.regs : PageKind → List RegDef
  | .dev => regsDEV
  | .clkpwr => regsCLKPWR
  | .fcol => regsFCOL
  | .fcolSev => regsFCOLSEV
  | .cairn => regsCAIRN
  | .pstore => regsPSTORE
  | .image => regsIMAGE
  | .ridge => regsRIDGE
  | .sdma => regsSDMA
  | .fmover => regsFMOVER
  | .yport => regsYPORT
  | .sample => regsSAMPLE
  | .vce => regsVCE
  | .vslot => regsVSLOT
  | .shelf => regsSHELF
  | .alloc => regsALLOC
  | .crest => regsCREST
  | .cornice => regsCORNICE
  | .holdup => regsHOLDUP
  | .rail => regsRAIL
  | .phase => regsPHASE
  | .rsync => regsRSYNC
  | .efuse => regsEFUSE
  | .seq => regsSEQ
  | .seqgrp => regsSEQGRP
  | .seqslot => regsSEQSLOT
  | .est => regsEST
  | .eststr => regsESTSTR
  | .estprof => regsESTPROF
  | .survey => regsSURVEY
  | .estwin => regsESTWIN
  | .can => regsCAN
  | .t1s => regsT1S
  | .pmbus => regsPMBUS
  | .spi => regsSPI

/-- The pages that never stop (Table 2-12, R57). -/
def alwaysRunning (p : Nat) : Bool := p ≤ 6 || p == 0x084

/-- Does the register array cover offset `o`, and at which index? -/
def RegDef.index (r : RegDef) (o : Nat) : Option Nat :=
  if o < r.off then none
  else if r.stride = 0 then (if o = r.off then some 0 else none)
  else if (o - r.off) % r.stride = 0 ∧ (o - r.off) / r.stride < r.count then some ((o - r.off) / r.stride)
  else none

/-- The first register of the list that covers offset `o`. -/
def findIn : List RegDef → Nat → Option (RegDef × Nat)
  | [], _ => none
  | r :: rs, o =>
    match r.index o with
    | some i => some (r, i)
    | none => findIn rs o

/-- The block register at offset `o` of page `p`: its definition, its instance (the slot number on VSLOT pages, R31) and its array index; none where the offset holds no register (R29). -/
def findReg (p o : Nat) : Option (RegDef × Nat × Nat) :=
  match pageKind p with
  | none => none
  | some (.vslot, n) =>
    let s := 8 * n + o / 0x200
    let f := if s < 8 then findIn (regsVSLOT ++ regsVSLOTB) (o % 0x200) else findIn regsVSLOT (o % 0x200)
    match f with
    | some (r, i) => some (r, s, i)
    | none => none
  | some (k, n) =>
    if o < 0x020 then none
    else match findIn k.regs o with
      | some (r, i) => some (r, n, i)
      | none => none

/-- A register's Reset word: each field's Reset at its place. -/
def RegDef.resetNat (r : RegDef) (n i : Nat) : Nat :=
  r.fields.foldl (fun w f => w + (f.rst n i % 2 ^ f.w) * 2 ^ f.lo) 0

/-- Reset of a page header register (Tables 2-3 to 2-8, R57). -/
def headerReset (p o : Nat) (k : PageKind) (n : Nat) : Nat :=
  if o = 0x000 then k.typeCode * 0x100000 + n * 0x1000 + 0x100
  else if o = 0x004 then (if alwaysRunning p then 1 else 0)
  else if o = 0x008 then (if alwaysRunning p then 2 else 0)
  else 0

/-- What an unlisted register reads: its Reset value (R56). Keys from 0x1000000 on are the words behind the ESTPROF window (R342), from 0x1100000 on those behind PMB_VALi (R527). -/
def resetNat (a : Nat) : Nat :=
  if 0x1100000 ≤ a then 0
  else if 0x1000000 ≤ a then
    match findIn regsESTPROF ((a - 0x1000000) % 0x300 + 0x100) with
    | some (r, i) => r.resetNat 0 i
    | none => 0
  else
    let p := a / 0x1000
    let o := a % 0x1000
    match pageKind p with
    | none => 0
    | some (k, n) =>
      if o < 0x020 then headerReset p o k n
      else match findReg p o with
        | some (r, n, i) => r.resetNat n i
        | none => 0

end Sys2Proof.Machine
end

