-- ==== Sys2Proof/Machine/State.lean ====
section
/-! DEFINITION. The state of the block as plain data: the register file (every register of the pages by its host address), the engine memory, and the state that the spec gives the block beside its registers, one record per chapter; the queue of waiting commands; faults and refusals; the state after reset. -/

namespace Sys2Proof.Machine

/-- Why a step stops the machine. -/
inductive Fault where
  /-- An access to engine memory outside the map of R180 made by a command that names the address itself. Safe: the machine stops. No meaning of this model raises it (R188 and R199 give such an access an effect). -/
  | engineAddress (addr : Nat)
  deriving DecidableEq, Repr

/-- Why the model refuses a command. -/
inductive Refusal where
  /-- The command has no meaning in this model. Raised by `exec` only. Safe: no run goes past it. -/
  | notModelled (mnemonic : String)
  deriving DecidableEq, Repr

/-- A Cairn record or trace entry (Table 16-5) without its CRC, which is computed when it is read. -/
structure CairnRec where
  /-- SEQ, 32 bits -/
  seq : Nat
  /-- OPSEC of the acceptance, 32 bits -/
  opsec : Nat
  /-- PCYC -/
  pcyc : Nat
  /-- the source's index, 8 bits -/
  src : Nat
  /-- severity, 3 bits -/
  sev : Nat
  /-- KIND -/
  kind : Nat
  /-- mode code at the acceptance -/
  mode : Nat
  /-- FLAGS -/
  flags : Nat
  /-- REPEAT, 16 bits, saturating (R490) -/
  rep : Nat
  /-- OPMS -/
  opms : Nat
  /-- the ten DATA bytes -/
  data : List Nat
  deriving DecidableEq, Repr

/-- How far an ascent is (Table 3-4). -/
inductive AscPhase where
  /-- a device reset waits for VIN above VIN_POR and RST_N high (Table 3-2) -/
  | waiting
  /-- the steps run and have not reached step 6's end -/
  | started
  /-- steps 1 to 6 are done -/
  | applied
  /-- no ascent: an operating mode, DORMANT or SHIP -/
  | none
  deriving DecidableEq, Repr

/-- Settings of a register written since the last update boundary of its page (R42): its address, the bits of its RW fields, and the word whose bits are still in force. -/
structure LateWord where
  /-- the register's host byte address -/
  addr : Nat
  /-- the bits of its RW fields -/
  mask : BitVec 32
  /-- the word whose bits are still in force -/
  old : BitVec 32
  deriving DecidableEq, Repr

/-- Pins, straps, fuses and device-level state of chapters 2, 3 and 14 that no register shows. -/
structure DevSt where
  /-- operating time in µs (DEV.OPSEC is its seconds, R161) -/
  nowUs : Nat
  /-- 1: the AON supply is up -/
  aonUp : Bool
  /-- VIN above VIN_POR (R80) -/
  vinPor : Bool
  /-- RST_N high -/
  rstN : Bool
  /-- the WAKE pin is active (R61) -/
  wakePin : Bool
  /-- DEV_ID.GRADE fuse (R2) -/
  grade : Nat
  /-- FORM strap (Table 3-14): 0 SOLO, 1 PAIR home chip, 2 PAIR partner -/
  form : Nat
  /-- the BOOTSEL0 pin (R84) -/
  bootsel0 : Bool
  /-- the BOOTSEL1 pin (R84) -/
  bootsel1 : Bool
  /-- OTP: the MAC address -/
  mac : Nat
  /-- OTP: INJ_IN_RUN (R436) -/
  injInRun : Bool
  /-- OTP: the rollback counter (chapter 18) -/
  otpRollback : Nat
  /-- how far a running ascent is (Table 3-2, Table 3-4) -/
  ascPhase : AscPhase
  /-- device reset causes to be recorded at the end of the ascent are in RST_CAUSE; this ascent came from the DORMANT of R70 -/
  singleAttempt : Bool
  /-- only the WAKE pin is enabled in this DORMANT (R70) -/
  wakeOnly : Bool
  /-- FS_DEV_ASCENT_FAIL is still to be recorded: the failed step, or 0 (Table 14-2, index 9) -/
  ascFailPending : Nat
  /-- a configuration record was refused, or a unit fenced, in this ascent (R69) -/
  cfgRefused : Bool
  /-- an MPU restart runs: the controller is not ready (R79) -/
  mpuRestart : Bool
  /-- the pause of management service runs (R537) -/
  updatePause : Bool
  /-- the TAKEOVER reaction holds the MPU in reset until the controller resets itself (R425) -/
  takeoverHeld : Bool
  /-- FCOL_CTRL.ACK written since the last SAFE fault (R63) -/
  ackSinceSafe : Bool
  /-- µs for which the measured shelf current has stayed below SVC_IZERO (R62) -/
  svcQuietUs : Nat
  /-- descent: its target (0 SHIP, 1 DORMANT) -/
  descTarget : Nat
  /-- descent: its current step of R72 (0 none) -/
  descStep : Nat
  /-- descent: R73 has acted -/
  descByLimit : Bool
  /-- wake sources latched during descent (R74): bit 3 T1S, 2 CAN0, 1 RTC, 0 WAKE -/
  wakeLatch : Nat
  /-- the SRAM bank halves out of use (R571): numbers 22 to 25 trace ring, 28 to 31 telemetry -/
  sramFenced : List Nat
  /-- regions whose supply is in brown-out and not yet restarted (Table 3-11) -/
  regionDown : List OwnRegion
  /-- XT32 crystal has failed to start, or REFCLK was lost since device reset (R86) -/
  hfoFellBack : Bool
  /-- µs of operating time until the next 900 s checkpoint (R486) -/
  ckptLeftUs : Nat
  /-- RST_OUT_N is held low by the reset state (R66) -/
  rstOutHeld : Bool
  /-- µs of operating time at which a device reset last released the sequencer's outputs (Table 13-6) -/
  relUs : Option Nat
  /-- the regions whose temperature has been measured since the device reset: index and µs of the last measurement (Table 3-19) -/
  tempSeen : List (Nat × Nat)
  /-- owned pages: µs of the holder's last accepted access (R48) -/
  ownAt : List (Nat × Nat)
  /-- settings that wait for their update boundary (R42) -/
  late : List LateWord
  /-- the test port: OTP enables the challenge-response unlock (R567) -/
  tapEnable : Bool
  /-- the test port: an unlock has succeeded (R567) -/
  tapOpen : Bool
  deriving DecidableEq, Repr

/-- The Cairn recorder beside its registers (chapter 16). -/
structure CairnSt where
  /-- the written records, from index 0 -/
  nv : List CairnRec
  /-- staged unwritten records, oldest first -/
  staged : List CairnRec
  /-- SEQ of the next record (R489) -/
  nextSeq : Nat
  /-- a clear is running: SEQ of the last record cleared (R498) -/
  clearSeq : Option Nat
  /-- the records that the running clear is to overwrite (R498) -/
  clearOld : List CairnRec
  /-- the trace ring, newest first (R499) -/
  trace : List CairnRec
  /-- trace entries ever (R499) -/
  traceCount : Nat
  /-- REPEAT that the rewrite of a written record still has to store: its SEQ and REPEAT (R491) -/
  rewrite : Option (Nat × Nat)
  deriving DecidableEq, Repr

/-- One copy slot of the parameter store: its bytes from the header on, and whether a word of it is uncorrectable (R475). -/
structure PsCopy where
  /-- the copy's bytes from its header on -/
  bytes : List Byte
  /-- a word of it is uncorrectable (R475) -/
  badWord : Bool
  deriving DecidableEq, Repr

/-- A queued record write (R479 to R481); `mig`: a migration's own (R539). -/
structure PsWrite where
  /-- the record's id -/
  id : Nat
  /-- FORM of its FLAGS: 0 entry list, 1 raw image -/
  form : Nat
  /-- its payload -/
  payload : List Byte
  /-- a migration's own write (R539) -/
  mig : Bool
  deriving DecidableEq, Repr

/-- A record write in flight: its target copy, the whole record's bytes and the pages programmed so far. -/
structure PsFlight where
  /-- the record's id -/
  id : Nat
  /-- the target is copy B (R479) -/
  copyB : Bool
  /-- FORM of its FLAGS: 0 entry list, 1 raw image -/
  form : Nat
  /-- its payload -/
  payload : List Byte
  /-- the whole record with header and CRC -/
  bytes : List Byte
  /-- pages programmed so far (R480) -/
  pages : Nat
  deriving DecidableEq, Repr

/-- The parameter store beside its registers (chapter 16). -/
structure PsSt where
  /-- copy slots that are not blank: (id, copy B) and content -/
  slots : List ((Nat × Bool) × PsCopy)
  /-- record writes that wait, oldest first (R481) -/
  queue : List PsWrite
  /-- the record write in flight (R480) -/
  flight : Option PsFlight
  /-- a scan or verify scan runs (R482) -/
  scanning : Bool
  /-- records that the running PS_CMD still waits for (R478) -/
  cmd : List Nat
  deriving DecidableEq, Repr

/-- A sequencer slot's counters of 10 µs evaluations (R398, R400), the deferred PG_TMO of R401 and the renewal of R402. -/
structure SeqSlotSt where
  /-- 10 µs evaluations in a row with the output inside its window (R398) -/
  okTicks : Nat
  /-- evaluations in a row above the window (R400) -/
  ovTicks : Nat
  /-- evaluations in a row below the window (R400) -/
  uvTicks : Nat
  /-- evaluations in a row without the supply's good signal (R400) -/
  lossTicks : Nat
  /-- PG_TMO has elapsed while VIN_WARN defers its fault (R401) -/
  pgTmoDeferred : Bool
  /-- the supply's fault (reason 0x05) has been seen since the slot was enabled -/
  faultSeen : Bool
  /-- the slot under RETRY is off (R407) -/
  offSeen : Bool
  /-- the slot waits to be enabled while VIN_WARN holds it (Table 13-6) -/
  onDlyHeld : Bool
  /-- evaluations since the slot's state began: its timers count them -/
  ticks : Nat
  /-- evaluations since the slot is off under RETRY -/
  offTicks : Nat
  deriving DecidableEq, Repr

/-- The sequencer beside its registers (chapter 13). -/
structure SeqSt where
  /-- the slots 0 to 31 -/
  slots : List SeqSlotSt
  /-- slots enabled in the present ascent of each group, oldest first (R405) -/
  order : List (List Nat)
  /-- groups that descend from an interrupted ascent (R405) -/
  interrupted : List Bool
  /-- groups that RACKFLT_N high for 100 ms ascends again (R412) -/
  rackAgain : List Bool
  /-- groups whose GROUP_OFF or SYSTEM_RESET pulls RACKFLT_N (R411) -/
  rackPull : List Bool
  /-- groups that the re-ascent of R408 still has to ascend -/
  sysGroups : List Bool
  /-- groups that RST_OUT_N waits for (R408) -/
  sysWait : List Bool
  /-- evaluations in REST of each group -/
  restTicks : List Nat
  /-- evaluations since the SYSTEM_RESET (R408) -/
  rstTicks : Nat
  /-- evaluations since the pull of RACKFLT_N (R411) -/
  rackTicks : Nat
  deriving DecidableEq, Repr

/-- The pull-down in use on a gate (R381). -/
inductive Pull where
  | none | fast | normal | hold
  deriving DecidableEq, Repr

/-- An e-fuse channel beside its registers (chapter 12). -/
structure EfuseSt where
  /-- delivered energy below 1 mJ, in 2^-149 W × 10 µs (R383) -/
  frac : Nat
  /-- 10 µs conversions for which the channel has been limiting -/
  limTicks : Nat
  /-- conversions for which the current has been above ILIM -/
  ilimTicks : Nat
  /-- conversions with V_GS below 3.5 V -/
  lowTicks : Nat
  /-- conversions with an output present while OFF -/
  presTicks : Nat
  /-- reason 0x08 was raised since the entry into OFF -/
  presSeen : Bool
  /-- I_G raised to 50 µA (R386) -/
  ig50 : Bool
  /-- conversions since the entry into the state -/
  ticks : Nat
  /-- the gate check of this INRUSH is done (R387) -/
  checked : Bool
  /-- the bound that INRUSH regulates the current to, as last computed (R385) -/
  bound : Word
  /-- what pulls the gate down -/
  pull : Pull
  /-- the GATE_FAULT flag of the record (R384) -/
  gateFault : Bool
  deriving DecidableEq, Repr

/-- A VCE slot beside its registers (chapter 7). -/
structure VSlotSt where
  /-- the next AUTO evaluation presets INT (R219) -/
  needPreset : Bool
  /-- the output that a handover's target reproduces: the source's OUT at the boundary (R220) -/
  target : Option Word
  /-- SWAP_PRESET was written with the pending swap (R233) -/
  swapPreset : Bool
  /-- STATE_CLR: the biquad states are 0 at the next evaluation -/
  stateClr : Bool
  /-- shelf cycles since the last due boundary (DIV) -/
  divCount : Nat
  /-- released and not yet evaluated (R223, R225) -/
  released : Bool
  /-- a bank swap is due at the coming evaluation (R233) -/
  swapDue : Bool
  /-- the state is to be cleared when the fence is cleared (FS_VCE_RAM_UE, chapter 7) -/
  ramUe : Bool
  /-- H of a shelf hold that has ended and from which the next evaluation in AUTO presets (R250) -/
  preH : Option Word
  deriving DecidableEq, Repr

/-- The VCE beside its registers. -/
structure VceSt where
  /-- the slots 0 to 63 -/
  slots : List VSlotSt
  /-- lanes of a pending schedule (R227): (slot, lane, second lane) -/
  shadow : List (Nat × Nat × Nat)
  /-- balance slots released and not yet evaluated, in order of release (R222) -/
  balQ : List Nat
  deriving DecidableEq, Repr

/-- The shelf blocks beside their registers: SHELF, ALLOC, CREST and HOLDUP (chapter 8), the setpoints sent and the STATUS values latched. -/
structure ShelfSt where
  /-- shelf-cycle count, modulo 2^32 -/
  cycle : Nat
  /-- gates g_k in 10^-9 (R253) -/
  gate : List Nat
  /-- whether each gate was 1 at the last set's instant (R257) -/
  gateAtSet : List Bool
  /-- strings fenced by FS_STRING_n -/
  strFence : List Bool
  /-- estimator string slices fenced (Table 14-3) -/
  estFence : List Bool
  /-- profiles whose fence has not been cleared yet (R341) -/
  profUe : List Bool
  /-- T_HOT of each string as last delivered (R304) -/
  tHot : List (Option Word)
  /-- the newest STATUS of each string received and not yet latched -/
  statNew : List (Option StatusFrame)
  /-- the STATUS latched at the boundary, since the YPORT page started (R254) -/
  stat : List (Option StatusFrame)
  /-- cycles since the last STATUS of each string -/
  statAge : List Nat
  /-- I_MEAS latched since device reset (Table 7-3) -/
  iMeas : List Word
  /-- A'_k as sent in this cycle -/
  sentA : List Word
  /-- A'_k as sent in the cycle before, which the slots of this cycle are given (R215) -/
  refA : List Word
  /-- V_BUS is taken from D2 (R249) -/
  srcD2 : Bool
  /-- a fault of severity SAFE since the last boundary (Table 3-3) -/
  safeNow : Bool
  /-- a boundary has passed since the release of hold-up was latched: hbTo is its V_BUS (R268) -/
  hbSeen : Bool
  /-- SETPOINTs sent, newest first: cycle count and I_SET of every string (R270) -/
  sent : List (Nat × List Word)
  /-- I_SET_k was clamped in the previous cycle (Table 8-2) -/
  clamped : List Bool
  /-- consecutive STATUS with an I_APPLIED mismatch (R270) -/
  misApply : List Nat
  /-- cycles with the converter stopped (R270) -/
  stopRun : List Nat
  /-- STATUS_TMO of the string is reported (R270) -/
  tmoSeen : List Bool
  /-- shelf hold per slot 0 to 31: governing row of Table 8-2 (0 none) and H -/
  hold : List (Nat × Word)
  /-- limit hold: direction (0 none, 1 discharge, 2 charge) -/
  limDir : Nat
  /-- limit hold: caused by string limits -/
  limByStr : Bool
  /-- limit hold: cycles -/
  limRun : Nat
  /-- limit hold: the shortfall at its start -/
  limShort : Word
  /-- ramp of the first row of Table 8-2: OUT at the hold's start -/
  rampFrom : Word
  /-- ramp of the first row of Table 8-2: µs since the hold's start -/
  rampUs : Nat
  /-- descent step 2 runs -/
  descRamp : Bool
  /-- regulation starts at the next boundary (R248) -/
  startReg : Bool
  /-- a REG_MODE handover is requested (R247) -/
  regPend : Bool
  /-- references that SHELF supplies to slots 0 to 7 (Table 8-1) -/
  roleRef : List (Option Word)
  /-- the BUSV start ramp's value (R248) -/
  startRef : Word
  /-- the start ramp begins at the coming boundary from its V_BUS (R248) -/
  startNew : Bool
  /-- the role that the spare slot holds: 0 none, 1 BUSV, 2 HOLD, 3 PCMD (R274) -/
  spareRole : Nat
  /-- consecutive cycle results above V_OV (R271) -/
  ovRun : Nat
  /-- consecutive cycle results below V_UV (R271) -/
  uvRun : Nat
  /-- consecutive disagreeing results of R175 -/
  plausBad : Nat
  /-- consecutive agreeing results of R175 -/
  plausOk : Nat
  /-- µs of cap exceedance (R264) -/
  capUs : Nat
  /-- direction of the exceedance: 0 none, 1 discharge, 2 charge (R264) -/
  capDir : Nat
  /-- the plant timer runs (R272) -/
  plantOn : Bool
  /-- µs since the last valid plant message (R272) -/
  plantUs : Nat
  /-- the discharge loss cap stays in use until a cap message (R273) -/
  lossDis : Bool
  /-- the charge loss cap stays in use until a cap message (R273) -/
  lossChg : Bool
  /-- TO_BUSV made its handover (R272, R273) -/
  toBusv : Bool
  /-- HOLD_LAST acts (R272) -/
  cmdHold : Bool
  /-- RAMP_ZERO acts (R272) -/
  cmdZero : Bool
  /-- hold-up: consecutive results below V_ENTER (R265) -/
  huV : Nat
  /-- hold-up by voltage is announced for the next boundary (R265) -/
  huReqV : Bool
  /-- hold-up by the pin is announced for the next boundary (R265) -/
  huReqPin : Bool
  /-- hold-up by the plant is announced for the next boundary (R265) -/
  huReqPlant : Bool
  /-- a plant RELEASE for the next boundary (R515) -/
  huReqRel : Bool
  /-- the refusal of the present entry conditions is reported (Table 8-4) -/
  huTold : Bool
  /-- µs without an entry condition (AUTO_REL_MS) -/
  huQuietUs : Nat
  /-- µs in HOLDING (TMAX) -/
  huUs : Nat
  /-- code 0x03 of this hold-up has been raised -/
  huTmaxSeen : Bool
  /-- µs of the hand-back ramp (R268) -/
  hbUs : Nat
  /-- the hand-back ramp's start (R268) -/
  hbFrom : Word
  /-- the hand-back ramp's target (R268) -/
  hbTo : Word
  /-- registers that change together at the next shelf-cycle boundary: the set block (R179), weights and estimator results (R21, R55) -/
  pendRegs : List (Nat × Word)
  /-- survey excitation per string (R335): µs of its start t_p, and of its end -/
  exc : List (Option (Nat × Option Nat))
  /-- I_SET_k computed in this cycle (R243) -/
  iSet : List Word
  /-- ENABLE of each string in this cycle (R269) -/
  en : List Bool
  deriving DecidableEq, Repr

/-- The cornice beside its registers (chapter 9). -/
structure CorniceSt where
  /-- T_step of the pending or live cornice, in µs of operating time -/
  tStep : Nat
  /-- AMP of the pending or live cornice -/
  amp : Word
  /-- the boundary before its acceptance, in µs (R286) -/
  accUs : Nat
  /-- the last ISN accepted (R281) -/
  lastIsn : Option Half
  /-- the hint selection (R283) -/
  hintSel : Nat
  /-- µs of arrival of the newest accepted intent message (R283) -/
  intentAt : Option Nat
  /-- I_OBS of the last boundaries, newest first -/
  obs : List Word
  /-- V_BUS of the previous boundary (R289) -/
  vPrev : Word
  /-- consecutive tests with r inside 0.75 to 1.25 -/
  confRun : Nat
  /-- I_OBS now -/
  iObs : Word
  /-- the collapse ramp's start amount (R292) -/
  rampFrom : Word
  /-- µs of the collapse ramp (R292) -/
  rampUs : Nat
  /-- the resolution record is out already (R297) -/
  recorded : Bool
  /-- the amount folded at this boundary (R291) -/
  fold : Option Word
  /-- µs of back-off left (R295) -/
  backoffUs : Nat
  /-- F_k that a takeover estimated, for its first setpoints (R299) -/
  first : Option (List Word)
  deriving DecidableEq, Repr

/-- A rail beside its registers (chapter 11). Voltages in pV where they ramp, in 100 µV where they are samples. -/
structure RailSt where
  /-- the reference ramp in pV (R359) -/
  ramp : Nat
  /-- the fall of VREF_EFF by the current limit, in pV (R364) -/
  drop : Nat
  /-- the sense chosen at the last sample, in 100 µV -/
  vSense : Nat
  /-- VLOC at the last sample, in 100 µV -/
  vLoc : Nat
  /-- consecutive periods inside the power-good window -/
  pgRun : Nat
  /-- consecutive periods below UV -/
  uvRun : Nat
  /-- consecutive periods with the current limit acting -/
  clRun : Nat
  /-- consecutive periods with the cycle-by-cycle comparator acting -/
  cycRun : Nat
  /-- consecutive periods with the shed condition -/
  shedRun : Nat
  /-- the phase in its shed ramp and k of R366 -/
  shed : Option (Nat × Nat)
  /-- last I_RAIL values, newest first -/
  hist : List Word
  /-- switching periods modulo 16 (R223) -/
  period : Nat
  /-- rail cornice: an accepted request waits -/
  cnPend : Bool
  /-- rail cornice: periods open -/
  cnAge : Nat
  /-- rail cornice: its base -/
  cnBase : Word
  /-- rail cornice: steps left of the collapse ramp -/
  cnDown : Nat
  /-- rail cornice: start of the collapse ramp -/
  cnFrom : Word
  /-- an OV whose report is held for 25 µs (R372) -/
  ovHeld : Bool
  /-- the error ADC failed its self-test (R441) -/
  adcBad : Bool
  /-- the error of the last sample in V (R358) -/
  err : Word
  /-- the UV that persists has been reported (R360) -/
  uvTold : Bool
  /-- the current limit that persists has been reported (R364) -/
  clTold : Bool
  deriving DecidableEq, Repr

/-- What a PWM pin does (R353, R548): floating while unpowered, mid, low, or switching: high for `on` DPWM steps, mid for `hl`, low, and mid for `lh` before the next high. -/
inductive Pwm where
  | float
  | mid
  | low
  | run (on hl lh : Nat)
  deriving DecidableEq, Repr

/-- A phase beside its registers (chapter 11). -/
structure PhaseSt where
  /-- consecutive periods with the condition of R369 -/
  openRun : Nat
  /-- consecutive samples with the same code (R370) -/
  stuckRun : Nat
  /-- the last code of the current sense (R370) -/
  lastCs : Option (BitVec 12)
  /-- the least duty of the samples counted in stuckRun -/
  dutyLo : Word
  /-- the greatest duty of the samples counted in stuckRun -/
  dutyHi : Word
  /-- consecutive periods with the third condition of R370 -/
  disRun : Nat
  /-- H of the phase hold (R368) -/
  hold : Word
  /-- what the pin does now -/
  pwm : Pwm
  /-- the shadow register, which the pin follows from the phase's period boundary on (R355) -/
  shadow : Pwm
  /-- the start of the phase's period after the rail's period boundary in DPWM steps (R348) -/
  start : Nat
  deriving DecidableEq, Repr

/-- The common timebase beside its registers (R350, R351): consecutive accepted periods, consecutive edges within 2 %, F_TB in force in Hz. -/
structure TbSt where
  /-- consecutive accepted periods -/
  accepted : Nat
  /-- consecutive edges within 2 % -/
  inLock : Nat
  /-- F_TB in force in Hz -/
  freqHz : Nat
  deriving DecidableEq, Repr

/-- The running injection's checker, instance and mode (R437). -/
structure InjSt where
  /-- the checker's number -/
  checker : Nat
  /-- the instance -/
  inst : Nat
  /-- MODE: two bits -/
  twoBits : Bool
  deriving DecidableEq, Repr

/-- The pair beside its registers (chapter 15). -/
structure PairSt where
  /-- the epoch written into TX_EPOCH last (R447) -/
  epoch : Nat
  /-- the role of Table 15-1 has settled since the ascent -/
  settled : Bool
  /-- the newest good copy (R454) -/
  copy : Option StateCopy
  /-- this controller's own cycle results at the last two setpoint starts with their cycle count (R454) -/
  inAt : List (Nat × Word × Word)
  /-- copies missed in a row -/
  missRun : Nat
  /-- consecutive mismatching copies per slot (R454) -/
  shadowRun : List Nat
  /-- µs of operating time of the last FS_RDG_SHADOW (R467) -/
  shadowAt : Option Nat
  /-- the copy captured at the last setpoint start (R451) -/
  sent : Option StateCopy
  /-- a planned handover is requested and waits (R460) -/
  yieldReq : Bool
  /-- the planned handover's last SETPOINTs are sent with HANDOVER (R460) -/
  handover : Bool
  /-- this controller takes the role in the planned handover, and does not yield it -/
  taking : Bool
  /-- YIELD of R425 is sent: no further SETPOINT -/
  yielded : Bool
  /-- a YIELD frame of the other controller was seen -/
  yieldSeen : Bool
  /-- the other controller, from HELLO: drives BELAY_N -/
  partnerDrives : Bool
  /-- the other controller, from HELLO: is active -/
  partnerActive : Bool
  /-- the other controller, from HELLO: suspends revert -/
  partnerSusp : Bool
  /-- the line was held by the other controller (R457) -/
  partnerHeld : Bool
  /-- µs of operating time at which a SETPOINT of a newer epoch arrived (R457) -/
  newerAt : Option Nat
  /-- µs of operating time at the end of the ascent (Table 15-1) -/
  watchAt : Nat
  /-- µs of operating time at the last demotion (R461) -/
  demotedAt : Nat
  /-- µs of the last re-locks (Table 3-11) -/
  relocks : List Nat
  /-- frames in a row with a grid error above 10 ns (R450) -/
  gridBad : Nat
  /-- I_SET heard at the far ports: shelf-cycle count and value (R299) -/
  heard : List (Option (Nat × Word))
  /-- A'_k + T_k of a standby at its last setpoint starts, newest first, with their cycle count (R299) -/
  ownAt : List (Nat × List Word)
  /-- selected data received: the bytes of a capacity record per string (R452) -/
  rxCap : List (Nat × List Byte)
  /-- selected data received: the bytes of learning progress per string (R452) -/
  rxLearn : List (Nat × List Byte)
  /-- REVERT_REQ was sent -/
  revertSent : Bool
  /-- the active role before a proof test -/
  proofActive : Bool
  /-- reason and slot of the last SHADOW_REPORT sent (R454) -/
  shadowSent : Option (Nat × Nat)
  /-- a takeover's first SETPOINTs are due: µs of the takeover (R459) -/
  firstAt : Option Nat
  /-- µs since which the revert conditions hold (R467) -/
  revertFrom : Option Nat
  /-- selected data that wait for a copy, oldest first (R452) -/
  selQ : List SelChunk
  /-- the RELAY frames that this controller has sent since the last setpoint start, oldest first (R142, R468) -/
  relayed : List RelayFrame
  deriving DecidableEq, Repr

/-- An SDMA channel beside its registers (chapter 6): the descriptor in hand; what it has moved of it, in the unit of XFER; RESUMEs of R201 so far; the command that firmware is to give to the HALTED channel under R201 (0 none); completion events given to firmware (IRQ of Table 6-5). -/
structure SdmaSt where
  /-- the address of the descriptor in hand -/
  desc : Option Nat
  /-- what the channel has moved of it, in the unit of XFER -/
  moved : Nat
  /-- RESUMEs of R201 so far -/
  tries : Nat
  /-- the command that firmware is to give to the HALTED channel (R201), 0 none -/
  due : Nat
  /-- completion events given to firmware (IRQ of Table 6-5) -/
  events : Nat
  deriving DecidableEq, Repr

/-- The set that is open (R162): its SSN, whether its sample instant has come, the time tag, the scaled results, CLIP, STUCK and HANDOVER in the window, per string a port not RUNNING or down since the emission, and ENUM_BUSY at the emission. -/
structure OpenSet where
  /-- its SSN -/
  ssn : Word
  /-- the sample instant in µs of operating time -/
  atUs : Nat
  /-- its sample instant has come -/
  taken : Bool
  /-- its time tag's seconds (R161) -/
  opsec : Nat
  /-- its time tag's µs (R161) -/
  opus : Nat
  /-- the scaled results at the sample instant -/
  xs : List Word
  /-- a channel was CLIPPED in the set's window -/
  clip : Bool
  /-- a channel was STUCK in the set's window -/
  stuck : Bool
  /-- HANDOVER in the set's window -/
  hand : Bool
  /-- per string: a port not RUNNING or down since the emission -/
  down : List Bool
  /-- per string: ENUM_BUSY at the emission -/
  enumB : List Bool
  deriving DecidableEq, Repr

/-- A closed set on its way to the estimator (R203, R314): SSN, time tag in µs, validity causes, the strings with gate 1 at the sample instant, and whether its gather is complete, and whether the estimator has processed it. -/
structure ClosedSet where
  /-- its SSN -/
  ssn : Word
  /-- its time tag in µs -/
  atUs : Nat
  /-- validity cause of each string (R164) -/
  causes : List Nat
  /-- the strings with gate 1 at the sample instant -/
  gate : List Bool
  /-- its gather is complete (R203) -/
  gathered : Bool
  /-- the estimator has processed it (R314) -/
  done : Bool
  deriving DecidableEq, Repr

/-- The sample sets beside the registers (chapter 5). -/
structure SampleSt where
  /-- the driver of SDM_CLK has changed: the next cycle results are replaced (R171) -/
  sdmNew : Bool
  /-- SSN of the last set emitted (R157, R160) -/
  ssn : Word
  /-- µs of operating time of the next sample instant (R150) -/
  nextUs : Option Nat
  /-- the open set -/
  set_ : Option OpenSet
  /-- the last closed set -/
  closed : Option ClosedSet
  /-- µs of the page's start boundary (R150) -/
  startUs : Nat
  /-- the last set results (R174) -/
  lastSet : List Word
  /-- SDM_CFG as the page's last start took it: it stays in force while the page is stopped (Table 2-12) -/
  cfg : Word
  /-- GAINn in force -/
  gain : List Word
  /-- OFSn in force -/
  ofs : List Word
  /-- a state copy has been received since the device reset (R160) -/
  copySeen : Bool
  /-- gathers of the closed set that were skipped: channel 0 to 2 and string (R201) -/
  skips : List (Nat × Nat)
  deriving DecidableEq, Repr

/-- A mailbox transaction on its way (R114): request SEQ, TYPE, node, the frame, and how often it was sent again. -/
structure Xact where
  /-- the request's SEQ -/
  seq : Nat
  /-- its TYPE -/
  typ : Nat
  /-- its destination -/
  node : Nat
  /-- the frame as sent -/
  frame : List Byte
  /-- how often it was sent again -/
  tries : Nat
  deriving DecidableEq, Repr

/-- What a port's own request is for: HOLD_TIME with the word written, its read-back (R118); SYNC_DELAY with the value written (R132); EPOCH_SEEN (R140); node settings (R145, R153); SURVEY_CFG (Table 10-6). -/
inductive ReqUse where
  | hold (w : Word)
  | holdBack (w : Word)
  | delay (d : Nat)
  | seen
  | config
  | survey
  deriving DecidableEq, Repr

/-- A request of the port itself (R114): what for, destination, TYPE, payload, the request number once it is sent, and how often it was sent again. -/
structure OwnReq where
  /-- what the request is for -/
  use : ReqUse
  /-- its destination -/
  node : Nat
  /-- its TYPE -/
  typ : Nat
  /-- its payload -/
  payload : List Nat
  /-- the request number, once it is sent -/
  seq : Option Nat
  /-- how often it was sent again -/
  tries : Nat
  deriving DecidableEq, Repr

/-- A Yorid port beside its registers (chapter 4). -/
structure PortSt where
  /-- entries 2 to 15 of the transmit queue (R187): the lengths of the waiting frames, oldest first; the bytes stand in engine memory (Table 6-2) -/
  tx : List Nat
  /-- the entry, 0 to 13 from entry 2 on, that the next frame takes (R187) -/
  txNext : Fin 14
  /-- the port's own requests, waiting and sent, oldest first -/
  own : List OwnReq
  /-- the frame ring entry that the next frame takes (R186) -/
  rxNext : Nat
  /-- the next request number -/
  reqSeq : Nat
  /-- the mailbox transaction -/
  xact : Option Xact
  /-- the EVENT frames acted on lately: node, SEQ, µs of the copy acted on (R121) -/
  evts : List (Nat × Nat × Nat)
  /-- µs of the CRC errors of the last second (Table 4-10) -/
  crcAt : List Nat
  /-- µs of the last report of node 0's EPOCH_SEEN, by STATUS or READ, since the page's start (R140) -/
  statusAt : Option Nat
  /-- per node: cells landed for the open set, as bit masks (R183, R184) -/
  cellsIn : List Nat
  /-- per node: temperatures landed for the open set, as bit masks (R183, R184) -/
  tempsIn : List Nat
  /-- per node: SYNC_DELAY as last written by this port (R133) -/
  sdelay : List Nat
  /-- monitors found by the last walk (Table 5-2) -/
  found : Nat
  /-- per node whether it does survey sampling (NODE_CAPS.SURVEY) -/
  caps : List Bool
  /-- a HOLD_TIME write is due (R118) -/
  holdDue : Bool
  /-- the last HOLD_TIME write failed and is tried again at the next REMEAS (R118) -/
  holdBad : Bool
  deriving DecidableEq, Repr

/-- The frame mover beside its registers: µs of the last bus error; a restart has emptied the SETPOINT entries since the last boundary (R189). -/
structure FmSt where
  /-- µs of operating time of the last bus error (R188) -/
  berrAt : Option Nat
  /-- a restart has emptied the SETPOINT entries since the last boundary (R189) -/
  flushed : Bool
  deriving DecidableEq, Repr

/-- The state of a cell (Table 10-2), with whether it takes part in the learning cycle (R324) and whether its voltage was usable in the set before (R312). -/
structure CellSt where
  /-- state of charge, binary32 -/
  soc : Word
  /-- polarisation voltage, binary32 -/
  vp : Word
  /-- covariance P11, binary32 -/
  p11 : Word
  /-- covariance P12, binary32 -/
  p12 : Word
  /-- covariance P22, binary32 -/
  p22 : Word
  /-- the resistance factor, binary32 -/
  rho : Word
  /-- capacity in Ah, binary32 -/
  q : Word
  /-- the cell's voltage code in the set before -/
  vPrev : Half
  /-- the temperature used, in the set's unit -/
  tUsed : Half
  /-- T_INT of the survey (R339); 0x8000 none -/
  tInt : Half
  /-- ZREF (R339) -/
  zref : Half
  /-- ZRE (R339) -/
  zre : Half
  /-- the voltage at the last pseudo-rest mark (R318) -/
  vMark : Half
  /-- the SOC at the anchor (R324) -/
  anchor : Half
  /-- the flags of Table 10-2 -/
  flags : Half
  /-- OPSEC of T_INT -/
  tIntAt : Word
  /-- sets in a row with a large innovation -/
  innov : Nat
  /-- the cell takes part in the learning cycle (R324) -/
  part : Bool
  /-- its voltage was usable in the set before (R312) -/
  vOk : Bool
  deriving DecidableEq, Repr

/-- The last valid survey window of a module (R339, block C of Table 10-12): SSN, OPSEC, current amplitude per frequency, and Re Z, Im Z per cell and frequency. -/
structure WinRes where
  /-- SSN of the window -/
  ssn : Word
  /-- OPSEC of the window -/
  at_ : Word
  /-- current amplitude per frequency -/
  iAmp : List Word
  /-- Re Z and Im Z per cell and frequency -/
  z : List (List (Word × Word))
  deriving DecidableEq, Repr

/-- A survey sample as channel 3 stages it (R337): the node's address, the index, and a module's cell values or node 0's current. -/
structure SurveySample where
  /-- the node's address -/
  node : Nat
  /-- the sample's index in the window -/
  idx : Nat
  /-- a module's cell values -/
  cells : List Half
  /-- node 0's current -/
  current : Option Word
  deriving DecidableEq, Repr

/-- A string slice of the estimator (chapter 10). -/
structure EstStr where
  /-- the cells of the string, in index order -/
  cells : List CellSt
  /-- the stored capacities of the string's record, by cell (R333) -/
  stored : Option (List Word)
  /-- the string's current at the last prediction -/
  iPrev : Word
  /-- µs of operating time of the last prediction -/
  lastUs : Option Nat
  /-- a gap runs since the last prediction (R305) -/
  gap : Bool
  /-- rest (R317): µs of its start -/
  restFrom : Option Nat
  /-- rest (R317): the current before it -/
  restI : Word
  /-- rest (R317): its rest point was reached -/
  restPoint : Bool
  /-- pseudo-rest (R318): µs of the start of |I| < C/50 -/
  lowFrom : Option Nat
  /-- pseudo-rest (R318): µs of the last mark -/
  markAt : Nat
  /-- pseudo-rest (R318): the last mark's outcome -/
  markOk : Bool
  /-- the rest that runs is the anchor's own (R324) -/
  anchorRest : Bool
  /-- µs with |I| ≥ C/100 since the anchor (R327) -/
  rateUs : Nat
  /-- µs of the last rest request (R319) -/
  restReqAt : Nat
  /-- µs of the last write-back (R331) -/
  wbAt : Option Nat
  /-- sets without a valid estimate in a row (R336) -/
  noEst : Nat
  /-- survey: samples staged by channel 3 (R337) -/
  staged : List SurveySample
  /-- survey: the samples of the window (R337) -/
  win : List SurveySample
  /-- survey: |I| reached C/10 in the window (R338) -/
  winBigI : Bool
  /-- survey: I_SET was clamped in the window (R338) -/
  clamped : Bool
  /-- survey: reason 4 of R338 came up in the window -/
  disturbed : Bool
  /-- survey: the sensors of the module were steady before the window (R339) -/
  steady : Bool
  /-- survey: the window is open -/
  opened : Bool
  /-- survey: µs of the window's sample instant -/
  openAt : Nat
  /-- survey: the gate at the last boundary in the window -/
  winGate : Nat
  /-- survey: the module whose SURVEY_CFG has been written for the next window (Table 10-6) with the µs of its instant -/
  armed : Option (Nat × Nat)
  /-- survey: the last module that the pass reached in its order -/
  passAt : Nat
  /-- survey: modules to be retried in the pass (R338) -/
  retry : List Nat
  /-- a batch waits for the estimator (R12, R23) -/
  batchDue : Bool
  /-- a window's end waits for the estimator (R12, R23) -/
  endDue : Bool
  /-- usable sensor temperatures by module and sensor at the sets of the last 10 min, newest first, with their µs (R339) -/
  temps : List (Nat × List (List (Option Int)))
  /-- survey: µs of operating time at which the gap between passes ends (SV_CFG.GAP_S) -/
  gapUntil : Nat
  /-- survey: the last valid window of each module (R339) -/
  wins : List (Nat × WinRes)
  /-- FS_EST_TINT_HOT holds for the string (R340) -/
  hot : Bool
  deriving DecidableEq, Repr

/-- A message of the controller's own (chapter 17): the identifier's fields, the body with its CRC (R509), µs of its queueing. -/
structure OutMsg where
  /-- TYPE -/
  typ : Nat
  /-- DST -/
  dst : Nat
  /-- SRC -/
  src : Nat
  /-- TAG -/
  tag : Nat
  /-- the body with its CRC (R509) -/
  body : List Byte
  /-- µs of its queueing -/
  atUs : Nat
  deriving DecidableEq, Repr

/-- The WRITE that a message port applied last (R512): SRC, TAG, µs, and the response's body. -/
structure AppliedWrite where
  /-- SRC of the WRITE -/
  src : Nat
  /-- TAG of the WRITE -/
  tag : Nat
  /-- µs of its application -/
  atUs : Nat
  /-- the response's body -/
  resp : List Byte
  deriving DecidableEq, Repr

/-- A message port beside its registers (chapter 17), CAN0 to CAN3 and T1S: messages that wait while the port is off its bus, the message sent last, the snapshot latch (R52), the WRITE applied last; of the plant link: µs of the last periodic REPORT and of the last one at a change, its flags; of CAN1: the flags of the last RACK. -/
structure MsgSt where
  /-- messages that wait while the port is off its bus -/
  waiting : List OutMsg
  /-- the message sent last -/
  last : Option OutMsg
  /-- the snapshot latch (R52) -/
  latch : List (Nat × Word)
  /-- the WRITE applied last (R512) -/
  applied : Option AppliedWrite
  /-- plant link: µs of the last periodic REPORT -/
  repAt : Nat
  /-- plant link: µs of the last REPORT at a change -/
  chgAt : Nat
  /-- plant link: the flags of the last REPORT -/
  repFlags : Nat
  /-- CAN1: the flags of the last RACK (R519) -/
  rackFlags : Nat
  deriving DecidableEq, Repr

/-- The SPI port beside its registers: the bytes of the last response, the snapshot latch. -/
structure SpiSt where
  /-- the bytes of the last response -/
  resp : List Byte
  /-- the snapshot latch (R52) -/
  latch : List (Nat × Word)
  deriving DecidableEq, Repr

/-- A code bank (chapter 18): its bytes from the header on; whether it holds the image that the device was delivered with; its header marked invalid (Table 18-3). -/
structure ImgBank where
  /-- its bytes from the header on -/
  bytes : List Byte
  /-- it holds the image that the device was delivered with -/
  factory : Bool
  /-- its header is marked invalid (Table 18-3) -/
  bad : Bool
  deriving DecidableEq, Repr

/-- An OTP key slot (R530): the hash of a public key, empty where blank, and the revocation fuse. -/
structure KeySlot where
  /-- the SHA-256 hash of a public key, empty where blank -/
  hash : List Byte
  /-- the revocation fuse -/
  revoked : Bool
  deriving DecidableEq, Repr

/-- What a pause of management service restarts the MPU on (R537, R542): the target, or bank ACTIVE. -/
inductive ImgPause where
  | none | activate | fallback
  deriving DecidableEq, Repr

/-- The code banks and images beside the IMAGE registers (chapter 18): banks A and B, OTP key slots, the running pause, µs of operating time at which the last pause ended, a source of severity FENCE or higher since then (R541), records migrated at the last start (R539). -/
structure ImgSt where
  /-- banks A and B -/
  banks : List ImgBank
  /-- the four OTP key slots (R530) -/
  keys : List KeySlot
  /-- the running pause (R537, R542) -/
  pause : ImgPause
  /-- µs of operating time at which the last pause ended -/
  pauseEndUs : Nat
  /-- a source of severity FENCE or higher was raised since then (R541) -/
  sevSeen : Bool
  /-- records migrated at the last start (R539) -/
  migrated : List Nat
  deriving DecidableEq, Repr


/-- The state of the block. -/
structure State where
  /-- registers that differ from their Reset: (host address, word), addresses strictly rising -/
  regs : List (Nat × Word)
  /-- engine memory (R180): bytes that differ from 0, addresses strictly rising -/
  mem : List Host.Cell
  /-- the commands waiting, first in, first out -/
  pending : List Instr
  /-- counter of free values taken (model's own) -/
  free : Nat
  /-- device, supplies, pins and straps (chapters 2 and 3) -/
  dev : DevSt
  /-- the Cairn recorder (chapter 16) -/
  cairn : CairnSt
  /-- the parameter store (chapter 16) -/
  ps : PsSt
  /-- the sequencer (chapter 13) -/
  seq : SeqSt
  /-- the e-fuse channels 0 to 7 (chapter 12) -/
  ef : List EfuseSt
  /-- the control engine (chapter 7) -/
  vce : VceSt
  /-- SHELF, ALLOC, CREST and HOLDUP (chapter 8) -/
  shelf : ShelfSt
  /-- the cornice (chapter 9) -/
  cn : CorniceSt
  /-- the rails 0 to 7 (chapter 11) -/
  rail : List RailSt
  /-- the phases 0 to 15 (chapter 11) -/
  phase : List PhaseSt
  /-- the common timebase (chapter 11) -/
  tb : TbSt
  /-- the running injection (chapter 14) -/
  inj : InjSt
  /-- the pair and the Ridge link (chapter 15) -/
  pair : PairSt
  /-- the SDMA channels 0 to 15 (chapter 6) -/
  sdma : List SdmaSt
  /-- the sample sets (chapter 5) -/
  sample : SampleSt
  /-- the Yorid ports 0 to 23 (chapter 4) -/
  port : List PortSt
  /-- the frame mover (chapter 6) -/
  fm : FmSt
  /-- the string slices 0 to 23 of the estimator (chapter 10) -/
  est : List EstStr
  /-- the message ports CAN0 to CAN3 and T1S (chapter 17) -/
  msg : List MsgSt
  /-- the SPI port (chapter 17) -/
  spi : SpiSt
  /-- VOUT_MODE of each PMBus device, once read since the page start (R522) -/
  vout : List (Option Byte)
  /-- the snapshot latch of firmware's own reads (R52) -/
  fwLatch : List (Nat × Word)
  /-- the code banks and images (chapter 18) -/
  img : ImgSt
  deriving DecidableEq, Repr

/-- A sequencer slot's counters, all at rest. -/
def SeqSlotSt.rest : SeqSlotSt := ⟨0, 0, 0, 0, false, false, false, false, 0, 0⟩

/-- A channel at device reset: OFF on the hold pull-down. -/
def EfuseSt.rest : EfuseSt := ⟨0, 0, 0, 0, 0, false, false, 0, false, 0, .hold, false⟩

/-- A slot at its page's start. -/
def VSlotSt.rest : VSlotSt := ⟨true, none, false, false, 0, false, false, false, none⟩

/-- A rail and a phase at rest. -/
def RailSt.rest : RailSt := ⟨0, 0, 0, 0, 0, 0, 0, 0, 0, none, [], 0, false, 0, 0, 0, 0, false, false, 0, false, false⟩
def PhaseSt.rest : PhaseSt := ⟨0, 0, none, 0, 0, 0, 0, .mid, .mid, 0⟩

def ShelfSt.rest : ShelfSt where
  cycle := 0
  gate := List.replicate 24 0
  gateAtSet := List.replicate 24 false
  strFence := List.replicate 24 false
  estFence := List.replicate 24 false
  profUe := List.replicate 8 false
  tHot := List.replicate 24 none
  statNew := List.replicate 24 none
  stat := List.replicate 24 none
  statAge := List.replicate 24 0
  iMeas := List.replicate 24 0
  sentA := List.replicate 24 0
  refA := List.replicate 24 0
  srcD2 := false
  safeNow := false
  hbSeen := false
  sent := []
  clamped := List.replicate 24 false
  misApply := List.replicate 24 0
  stopRun := List.replicate 24 0
  tmoSeen := List.replicate 24 false
  hold := List.replicate 32 (0, 0)
  limDir := 0
  limByStr := false
  limRun := 0
  limShort := 0
  rampFrom := 0
  rampUs := 0
  descRamp := false
  startReg := false
  regPend := false
  roleRef := List.replicate 8 none
  startRef := 0
  startNew := false
  spareRole := 0
  ovRun := 0
  uvRun := 0
  plausBad := 0
  plausOk := 0
  capUs := 0
  capDir := 0
  plantOn := false
  plantUs := 0
  lossDis := false
  lossChg := false
  toBusv := false
  cmdHold := false
  cmdZero := false
  huV := 0
  huReqV := false
  huReqPin := false
  huReqPlant := false
  huReqRel := false
  huTold := false
  huQuietUs := 0
  huUs := 0
  huTmaxSeen := false
  hbUs := 0
  hbFrom := 0
  hbTo := 0
  pendRegs := []
  exc := List.replicate 24 none
  iSet := List.replicate 24 0
  en := List.replicate 24 false

def CorniceSt.rest : CorniceSt where
  tStep := 0
  amp := 0
  accUs := 0
  lastIsn := none
  hintSel := 0
  intentAt := none
  obs := []
  vPrev := 0
  confRun := 0
  iObs := 0
  rampFrom := 0
  rampUs := 0
  recorded := false
  fold := none
  backoffUs := 0
  first := none

def PairSt.rest : PairSt where
  epoch := 0
  settled := false
  copy := none
  inAt := []
  missRun := 0
  shadowRun := List.replicate 32 0
  shadowAt := none
  sent := none
  yieldReq := false
  handover := false
  taking := false
  yielded := false
  yieldSeen := false
  partnerDrives := false
  partnerActive := false
  partnerSusp := false
  partnerHeld := false
  newerAt := none
  watchAt := 0
  demotedAt := 0
  relocks := []
  gridBad := 0
  heard := List.replicate 24 none
  ownAt := []
  rxCap := []
  rxLearn := []
  revertSent := false
  proofActive := false
  shadowSent := none
  firstAt := none
  revertFrom := none
  selQ := []
  relayed := []

def SeqSt.rest : SeqSt where
  slots := List.replicate 32 SeqSlotSt.rest
  order := List.replicate 4 []
  interrupted := List.replicate 4 false
  rackAgain := List.replicate 4 false
  rackPull := List.replicate 4 false
  sysGroups := List.replicate 4 false
  sysWait := List.replicate 4 false
  restTicks := List.replicate 4 0
  rstTicks := 0
  rackTicks := 0

/-- The state of the device outside the registers, before the first application of VIN: SOLO form, grade 0, blank OTP (log entry 2), an ascent that waits for VIN (Table 3-2). -/
def DevSt.rest : DevSt where
  nowUs := 0
  aonUp := true
  vinPor := false
  rstN := true
  wakePin := false
  grade := 0
  form := 0
  bootsel0 := false
  bootsel1 := false
  mac := 0
  injInRun := false
  otpRollback := 0
  ascPhase := .waiting
  singleAttempt := false
  wakeOnly := false
  ascFailPending := 0
  cfgRefused := false
  mpuRestart := false
  updatePause := false
  takeoverHeld := false
  ackSinceSafe := true
  svcQuietUs := 0
  descTarget := 0
  descStep := 0
  descByLimit := false
  wakeLatch := 0
  sramFenced := []
  regionDown := []
  hfoFellBack := false
  ckptLeftUs := 900000000
  rstOutHeld := true
  relUs := none
  tempSeen := []
  ownAt := []
  late := []
  tapEnable := false
  tapOpen := false

def SampleSt.rest : SampleSt :=
  ⟨false, 0, none, none, none, 0, List.replicate 4 0, 0x00004103, List.replicate 4 0x3F800000, List.replicate 4 0, false, []⟩

def PortSt.rest : PortSt where
  tx := []
  txNext := 0
  own := []
  rxNext := 0
  reqSeq := 0
  xact := none
  evts := []
  crcAt := []
  statusAt := none
  cellsIn := List.replicate 32 0
  tempsIn := List.replicate 32 0
  sdelay := List.replicate 32 0
  found := 0
  caps := List.replicate 32 false
  holdDue := false
  holdBad := false

def SdmaSt.rest : SdmaSt := ⟨none, 0, 0, 0, 0⟩

def CellSt.rest : CellSt := ⟨0, 0, 0, 0, 0, 0x3F800000, 0, 0, 0, 0x8000, 0, 0, 0, 0, 0, 0, 0, false, false⟩

def EstStr.rest : EstStr :=
  ⟨[], none, 0, none, false, none, 0, false, none, 0, false, false, 0, 0, none, 0, [], [], false, false, false, false, false, 0, 0, none, 0, [], false, false, [], 0, [], false⟩

def MsgSt.rest : MsgSt := ⟨[], none, [], none, 0, 0, 0, 0⟩

/-- The machine right after the device reset of the first application of VIN (R56, R57, R77, R80): every register at its Reset, RST_CAUSE reading POR only, engine memory listing nothing, pages OFF but the always RUNNING ones, nothing waiting; the ascent waits for VIN above VIN_POR. -/
def State.reset : State where
  regs := [(DEV.RST_CAUSE, 1)]
  mem := []
  pending := []
  free := 0
  dev := DevSt.rest
  cairn := ⟨[], [], 1, none, [], [], 0, none⟩
  ps := ⟨[], [], none, false, []⟩
  seq := SeqSt.rest
  ef := List.replicate 8 EfuseSt.rest
  vce := ⟨List.replicate 64 VSlotSt.rest, [], []⟩
  shelf := ShelfSt.rest
  cn := CorniceSt.rest
  rail := List.replicate 8 RailSt.rest
  phase := List.replicate 16 PhaseSt.rest
  tb := ⟨0, 0, 0⟩
  inj := ⟨0, 0, false⟩
  pair := PairSt.rest
  sdma := List.replicate 16 SdmaSt.rest
  sample := SampleSt.rest
  port := List.replicate 24 PortSt.rest
  fm := ⟨none, false⟩
  est := List.replicate 24 EstStr.rest
  msg := List.replicate 5 MsgSt.rest
  spi := ⟨[], []⟩
  vout := List.replicate 32 none
  fwLatch := []
  img := ⟨[⟨[], true, false⟩, ⟨[], false, false⟩], List.replicate 4 ⟨[], false⟩, .none, 0, false, []⟩
end Sys2Proof.Machine
end

