-- ==== Sys2Proof/Machine/Ops.lean ====
section
/-! DEFINITION. The named operations on the state: registers and their fields, engine memory, page states, the mode bits, free values. -/

namespace Sys2Proof.Machine

/-- The entry of key `a`, if the list holds one. -/
def lookupKey {β : Type} (a : Nat) : List (Nat × β) → Option β
  | [] => none
  | (k, v) :: l => if k = a then some v else lookupKey a l

/-- The list without key `a`. -/
def eraseKey {β : Type} (a : Nat) (l : List (Nat × β)) : List (Nat × β) := l.filter (fun e => e.1 ≠ a)

/-- Insert before the first larger key. -/
def insertKey {β : Type} (a : Nat) (v : β) : List (Nat × β) → List (Nat × β)
  | [] => [(a, v)]
  | (k, w) :: l => if a < k then (a, v) :: (k, w) :: l else (k, w) :: insertKey a v l

/-- Set key `a` of a sparse list whose unlisted keys read `d`: the entry goes where its value is `d`. -/
def putKey {β : Type} [DecidableEq β] (a : Nat) (v d : β) (l : List (Nat × β)) : List (Nat × β) :=
  if v = d then eraseKey a l else insertKey a v (eraseKey a l)

/-- The bytes that are not 0, with their addresses from `a` on. -/
def cellsFrom (a : Nat) : List Byte → List Host.Cell
  | [] => []
  | b :: bs => if b = 0 then cellsFrom (a + 1) bs else (a, b) :: cellsFrom (a + 1) bs

/-- A memory with the bytes from address `a` on replaced. -/
def spliceMem (m : List Host.Cell) (a : Nat) (bs : List Byte) : List Host.Cell :=
  m.filter (fun e => e.1 < a) ++ (cellsFrom a bs ++ m.filter (fun e => a + bs.length ≤ e.1))

/-- Reset of a register as a word (R56). -/
def resetWord (a : Nat) : Word := BitVec.ofNat 32 (resetNat a)

namespace State

/-- The word a register holds. -/
def getReg (s : State) (a : Nat) : Word := (lookupKey a s.regs).getD (resetWord a)

/-- The state with a register set. -/
def setReg (s : State) (a : Nat) (w : Word) : State := { s with regs := putKey a w (resetWord a) s.regs }

/-- The value of a field. -/
def getF (s : State) (f : Fld) : Nat := bitsOf (s.getReg f.addr) f.lo f.w

/-- The state with a field set. -/
def setF (s : State) (f : Fld) (v : Nat) : State := s.setReg f.addr (withBits (s.getReg f.addr) f.lo f.w v)

/-- A one-bit field, as a Bool. -/
def getB (s : State) (f : Fld) : Bool := s.getF f = 1

/-- Set a one-bit field. -/
def setB (s : State) (f : Fld) (b : Bool) : State := s.setF f b.toNat

/-- A register set to a number. -/
def setN (s : State) (a v : Nat) : State := s.setReg a (BitVec.ofNat 32 v)

/-- A register read as a number. -/
def getN (s : State) (a : Nat) : Nat := (s.getReg a).toNat

/-- A saturating counter field one further. -/
def incSat (s : State) (f : Fld) : State := s.setF f (min (s.getF f + 1) (2 ^ f.w - 1))

/-- A counter field or register one further, modulo its width. -/
def incWrap (s : State) (f : Fld) : State := s.setF f (s.getF f + 1)

/-- PG_CHG counts an accepted word write of the host or of firmware (R34). -/
def countChg (s : State) (p : Nat) : State := s.incWrap (pgChgCount p)

/-- `w` with the bits of `mask` taken from `v`. -/
def takeBits (mask w v : Word) : Word := (w &&& ~~~mask) ||| (v &&& mask)

/-- The word of a register as it is in force (R42, R568). -/
def inForceReg (s : State) (a : Nat) : Word :=
  s.dev.late.foldl (fun w e => if e.addr = a then takeBits e.mask w e.old else w) (s.getReg a)

/-- The state with the settings in force in its registers (R42). -/
def inForce (s : State) : State := s.dev.late.foldl (fun t e => t.setReg e.addr (takeBits e.mask (t.getReg e.addr) e.old)) s

/-- The settings that still wait read again as they were written. -/
def putBack (t s : State) : State :=
  t.dev.late.foldl (fun t e => t.setReg e.addr (takeBits e.mask (t.getReg e.addr) (s.getReg e.addr))) t

/-- A command between two update boundaries runs on the settings in force (R42). -/
def heldRun (s : State) (f : State → Host.Outcome State Fault Refusal) : Host.Outcome State Fault Refusal :=
  if s.dev.late = [] then f s
  else match f s.inForce with
    | .next t => .next (t.putBack s)
    | o => o

/-- The MPU runs firmware: no restart and no activation pause (R12, R79, R537). -/
def mpuRuns (s : State) : Bool := !s.dev.mpuRestart && !s.dev.updatePause

def prt (s : State) (n : Nat) : PortSt := s.port.getD n PortSt.rest

/-- The settings at the addresses named take effect (R42). -/
def settle (s : State) (p : Nat → Bool) : State := { s with dev := { s.dev with late := s.dev.late.filter (fun e => !p e.addr) } }

/-- The addresses whose update boundary is the sample-set boundary (R42): pages EST, ESTSTR and SURVEY. -/
def setBoundary (a : Nat) : Bool := 0x68 ≤ a / 0x1000 && a / 0x1000 ≤ 0x82

/-- A bit of a mask register. -/
def getBit (s : State) (a i : Nat) : Bool := (s.getReg a).getLsbD i

/-- Set or clear a bit of a mask register. -/
def putBit (s : State) (a i : Nat) (b : Bool) : State := s.setF ⟨a, i, 1⟩ b.toNat

/-- FCOL.CONDk's bit of a source (R428). -/
def setCond (s : State) (src : Nat) (b : Bool) : State := s.putBit (FCOL.COND (src / 32)) (src % 32) b
def getCond (s : State) (src : Nat) : Bool := s.getBit (FCOL.COND (src / 32)) (src % 32)

/-- FCOL.ACTk's bit of a source. -/
def setAct (s : State) (src : Nat) (b : Bool) : State := s.putBit (FCOL.ACT (src / 32)) (src % 32) b
def getAct (s : State) (src : Nat) : Bool := s.getBit (FCOL.ACT (src / 32)) (src % 32)

/-- A byte of engine memory; a byte that nothing has written reads 0 (log entry 3). -/
def readByte (s : State) (a : Nat) : Byte := (lookupKey a s.mem).getD 0

/-- Write bytes from address `a` on. -/
def writeBytes (s : State) (a : Nat) (bs : List Byte) : State := { s with mem := spliceMem s.mem a bs }

/-- The `n` bytes from address `a` on. -/
def readBytes (s : State) (a : Nat) : Nat → List Byte
  | 0 => []
  | n + 1 => s.readByte a :: s.readBytes (a + 1) n

/-- A little-endian number of `n` bytes. -/
def readLe (s : State) (a n : Nat) : Nat := leNat ((s.readBytes a n).map BitVec.toNat)

/-- Write a number as `n` little-endian bytes. -/
def writeLe (s : State) (a n v : Nat) : State := s.writeBytes a ((leBytes n v).map (BitVec.ofNat 8))

/-- Take a free value of the step. -/
def takeFree (s : State) : Word × State := (Config.freeWord s.free, { s with free := s.free + 1 })

/-- DEV.MODE_STAT.MODE (Table 3-1). -/
def mode (s : State) : Nat := s.getF DEV.MODE_STAT_MODE

/-- Operating seconds (R161) and the microseconds within them. -/
def opsec (s : State) : Nat := s.dev.nowUs / 1000000
def opus (s : State) : Nat := s.dev.nowUs % 1000000

/-- A page's state (Table 2-5). -/
def pgState (s : State) (p : Nat) : Nat := s.getF (pgStatState p)

/-- The page is RUNNING. -/
def pgRunning (s : State) (p : Nat) : Bool := s.pgState p = 2

/-- PAIR form (Table 3-14). -/
def isPair (s : State) : Bool := s.dev.form ≠ 0

/-- The BELAY_N token does not close the gates of this controller (R463). -/
def tokenOk (s : State) : Bool := !s.isPair || !s.getB RIDGE.PAIR_CFG_BELAY_EN || s.getB RIDGE.PAIR_STAT_BELAY_OWN

/-- A sequencer slot drives its output: it is enabled, and the gate of a BELAY-gated group is open (R463, R469): the token is held, or without BELAY_EN the role is active. -/
def slotDrives (s : State) (i : Nat) : Bool :=
  s.getB (SEQSLOT.SL_STAT_EN_OUT i) &&
    (!s.isPair || !(s.getF RIDGE.PAIR_CFG_ACT_GRP).testBit (s.getF (SEQSLOT.SL_CFG_GROUP i)) ||
      (if s.getB RIDGE.PAIR_CFG_BELAY_EN then s.getB RIDGE.PAIR_STAT_BELAY_OWN else s.getB RIDGE.PAIR_STAT_ACTIVE))

/-- Reset of DEV.TJ_HOT, which the grade fuse selects (R2, Table 3-18). -/
def tjHotReset (s : State) : Nat := if s.dev.grade = 1 then 0x0910 else 0x0780

/-- SHELF_INHIBIT. -/
def inhibit (s : State) : Bool := s.getB DEV.MODE_STAT_SHELF_INHIBIT

end State

/-- Mode codes (Table 3-1). -/
abbrev mSHIP : Nat := 0
abbrev mDORMANT : Nat := 1
abbrev mASCENT : Nat := 2
abbrev mWATCH : Nat := 3
abbrev mRUN : Nat := 4
abbrev mHOLDUP : Nat := 5
abbrev mDEGRADED : Nat := 6
abbrev mSERVICE : Nat := 7

/-- Page states (Table 2-5). -/
abbrev psOFF : Nat := 0
abbrev psSTARTING : Nat := 1
abbrev psRUNNING : Nat := 2
abbrev psSTOPPING : Nat := 3
abbrev psSTOPPED : Nat := 4
abbrev psFENCED : Nat := 5

/-- The controller's regions other than AON are powered: every mode but SHIP and DORMANT (Table 1-2). -/
def State.powered (s : State) : Bool := s.mode ≠ mSHIP ∧ s.mode ≠ mDORMANT

/-- An operating mode: WATCH to SERVICE (R59). -/
def State.operating (s : State) : Bool := mWATCH ≤ s.mode

/-- The controller is active: in SOLO form from the end of its ascent (R127, R118). -/
def State.isActive (s : State) : Bool := if s.isPair then s.getB RIDGE.PAIR_STAT_ACTIVE else s.operating

/-- The frame mover works: its page is RUNNING and it is not HALTED (R188). -/
def State.fmOk (s : State) : Bool := s.pgRunning 0x009 && !s.getB FMOVER.FM_STAT_HALTED

/-- Page numbers of the blocks that meanings name (Table 2-1). -/
abbrev pFCOL : Nat := 0x002
abbrev pCAIRN : Nat := 0x004
abbrev pPSTORE : Nat := 0x005
abbrev pIMAGE : Nat := 0x006
abbrev pRIDGE : Nat := 0x007
abbrev pSDMA : Nat := 0x008
abbrev pFMOVER : Nat := 0x009
abbrev pYPORT (n : Nat) : Nat := 0x010 + n
abbrev pSAMPLE : Nat := 0x028
abbrev pVCE : Nat := 0x030
abbrev pVSLOT (s : Nat) : Nat := 0x031 + s / 8
abbrev pSHELF : Nat := 0x040
abbrev pALLOC : Nat := 0x041
abbrev pCREST : Nat := 0x042
abbrev pCORNICE : Nat := 0x043
abbrev pHOLDUP : Nat := 0x044
abbrev pRAIL (n : Nat) : Nat := 0x048 + n
abbrev pPHASE : Nat := 0x050
abbrev pRSYNC : Nat := 0x051
abbrev pEFUSE (c : Nat) : Nat := 0x058 + c
abbrev pSEQ : Nat := 0x060
abbrev pSEQGRP (g : Nat) : Nat := 0x061 + g
abbrev pSEQSLOT : Nat := 0x065
abbrev pEST : Nat := 0x068
abbrev pESTSTR (k : Nat) : Nat := 0x069 + k
abbrev pESTPROF : Nat := 0x081
abbrev pSURVEY : Nat := 0x082
abbrev pESTWIN : Nat := 0x084
abbrev pCAN (n : Nat) : Nat := 0x090 + n
abbrev pT1S : Nat := 0x094
abbrev pPMBUS : Nat := 0x095
abbrev pSPI : Nat := 0x096

/-- Every page number of Table 2-1, in ascending order. -/
def allPages : List Nat := (List.range 256).filter (fun p => (pageKind p).isSome)

/-- Fold a state update over the numbers below `n`, in ascending order. -/
def forAll (n : Nat) (f : State → Nat → State) (s : State) : State := (List.range n).foldl f s

end Sys2Proof.Machine
end

