-- ==== Sys2Proof/Machine/PsBase.lean ====
section
/-! DEFINITION. Parameter-store records (chapter 16): the store map, validity of copies, the newest copy, queued writes. None of it raises a source. -/

namespace Sys2Proof.Machine

/-- Pages of a record's slot (Table 16-2); 0 where the id names no record. -/
def psPages (id : Nat) : Nat :=
  if id = 0x0200 then 1
  else if 0x0300 ≤ id ∧ id ≤ 0x0307 then 1
  else if id = 0x0100 then 1
  else if 0x0400 ≤ id ∧ id ≤ 0x0417 then 32
  else if 0x1000 ≤ id ∧ id ≤ 0x10FF then
    (match pageKind (id - 0x1000) with
     | none => 0
     | some (.vslot, _) => 0
     | some (.seqslot, _) => 0
     | some (.estprof, _) => 0
     | some (.fcolSev, _) => 0
     | some _ => 7)
  else if 0x1100 ≤ id ∧ id ≤ 0x113F then 4
  else if 0x1200 ≤ id ∧ id ≤ 0x121F then 1
  else if 0x1300 ≤ id ∧ id ≤ 0x1307 then 13
  else if id = 0x1400 then 17
  else 0

/-- A configuration record (Table 16-2): stored settings of a page, slot, profile or the severities. -/
def psIsConfig (id : Nat) : Bool := 0x1000 ≤ id && psPages id ≠ 0

/-- The FORM bit of a record: entry list 0, raw image 1 (Table 16-2). -/
def psForm (id : Nat) : Nat := if 0x1000 ≤ id ∧ id < 0x1300 then 0 else 1

/-- Every record id, in ascending order. -/
def psIds : List Nat :=
  [0x0100, 0x0200] ++ (List.range 8).map (0x0300 + ·) ++ (List.range 24).map (0x0400 + ·)
    ++ ((List.range 256).map (0x1000 + ·)).filter (fun id => psPages id ≠ 0)
    ++ (List.range 64).map (0x1100 + ·) ++ (List.range 32).map (0x1200 + ·) ++ (List.range 8).map (0x1300 + ·) ++ [0x1400]

/-- Every configuration record id. -/
def psConfigIds : List Nat := psIds.filter psIsConfig

/-- The request class of a record (R481). -/
def psClass (id : Nat) : Nat := if 0x0200 ≤ id ∧ id < 0x0400 then 1 else if 0x0400 ≤ id ∧ id < 0x0500 then 2 else 3

def bytesNat (l : List Byte) : List Nat := l.map BitVec.toNat

/-- The bytes of a record (Table 16-1) of a SCHEMA. -/
def psEncodeS (id form seq schema : Nat) (payload : List Byte) : List Byte :=
  let h := [0xC7, form] ++ leBytes 2 id ++ leBytes 2 schema ++ leBytes 2 payload.length ++ leBytes 4 seq
  let crc := crc32 (h ++ bytesNat payload)
  (h ++ leBytes 4 crc).map (BitVec.ofNat 8) ++ payload

namespace PsCopy

def field (c : PsCopy) (ofs n : Nat) : Nat := leNat (bytesNat ((c.bytes.drop ofs).take n))
def seq (c : PsCopy) : Nat := c.field 8 4
def schema (c : PsCopy) : Nat := c.field 4 2
def len (c : PsCopy) : Nat := c.field 6 2
def payload (c : PsCopy) : List Byte := (c.bytes.drop 16).take c.len

/-- All 16 header bytes are zero (R475). -/
def blank (c : PsCopy) : Bool := (c.bytes.take 16).all (· = 0)

/-- The cause for which a copy is invalid, the lowest code of Table 16-11; 0 when it is valid (R475). -/
def invalidCause (c : PsCopy) (id : Nat) : Nat :=
  if c.field 0 1 ≠ 0xC7 ∨ c.field 2 2 ≠ id then 1
  else if c.badWord then 2
  else if c.field 12 4 ≠ crc32 (bytesNat (c.bytes.take 12) ++ bytesNat c.payload) ∨ c.payload.length ≠ c.len then 3
  else if 64 * psPages id - 16 < c.len then 4
  else if c.seq = 0 then 5
  else 0

end PsCopy

/-- `a` is newer than `b` (R483). -/
def seqNewer (a b : Nat) : Bool := 1 ≤ (a + 2 ^ 32 - b) % 2 ^ 32 && (a + 2 ^ 32 - b) % 2 ^ 32 < 2 ^ 31

namespace State

/-- The copy slot's content; a slot that was never written is blank. -/
def psCopy (s : State) (id : Nat) (b : Bool) : PsCopy :=
  match s.ps.slots.find? (fun e => e.1 = (id, b)) with
  | some e => e.2
  | none => ⟨List.replicate 16 0, false⟩

def psValid (s : State) (id : Nat) (b : Bool) : Bool := !(s.psCopy id b).blank && (s.psCopy id b).invalidCause id = 0

/-- Does a reader of the running image take copy B? (R483 to R485; none when no copy is valid and supported.) -/
def psReadCopy (s : State) (id : Nat) (schemaOk : Nat → Bool) : Option Bool :=
  let okA := s.psValid id false && schemaOk (s.psCopy id false).schema
  let okB := s.psValid id true && schemaOk (s.psCopy id true).schema
  if okA ∧ okB then some (seqNewer (s.psCopy id true).seq (s.psCopy id false).seq)
  else if okA then some false
  else if okB then some true
  else none

/-- The newest valid copy whatever its schema. -/
def psNewest (s : State) (id : Nat) : Option Bool := s.psReadCopy id (fun _ => true)

/-- The target copy and SEQ of the next write (R479, R485). -/
def psNext (s : State) (id : Nat) : Bool × Nat :=
  match s.psNewest id with
  | none => (false, 1)
  | some b =>
    let q := (s.psCopy id b).seq
    (!b, if q = 0xFFFFFFFF then 1 else q + 1)

/-- Set a copy slot's content. -/
def psPut (s : State) (id : Nat) (b : Bool) (c : PsCopy) : State :=
  { s with ps := { s.ps with slots := s.ps.slots.filter (fun e => e.1 ≠ (id, b)) ++ [((id, b), c)] } }

/-- Program the next page of the write in flight (R480): the target slot holds the new bytes up to it and its old ones after. -/
def psProgram (s : State) : State :=
  match s.ps.flight with
  | some f =>
    let n := 64 * (f.pages + 1)
    let old := (s.psCopy f.id f.copyB).bytes
    let s := s.psPut f.id f.copyB ⟨f.bytes.take n ++ old.drop (min n f.bytes.length), false⟩
    ({ s with ps := { s.ps with flight := some { f with pages := f.pages + 1 } } }).setN PSTORE.PROGS (s.getN PSTORE.PROGS + 1)
  | none => s

/-- Queue a record write: a request for a queued id replaces the queued content and keeps its place (R481). -/
def psQueue (s : State) (id : Nat) (payload : List Byte) : State :=
  let w : PsWrite := ⟨id, psForm id, payload, false⟩
  let q := if s.ps.queue.any (fun x => x.id = id) then s.ps.queue.map (fun x => if x.id = id then w else x)
    else s.ps.queue ++ [w]
  ({ s with ps := { s.ps with queue := q } }).setF PSTORE.PS_STAT_QUEUED q.length

/-- NV writes are permitted (R67, R80). -/
def nvOk (s : State) : Bool := s.getB CLKPWR.VHOLD_MV_VHOLD_RDY && !s.getB CLKPWR.VIN_MV_WARN

def estOf (s : State) (k : Nat) : EstStr := s.est.getD k EstStr.rest

/-- The payload of a capacity record (R330). -/
def capPayload (e : EstStr) : List Byte :=
  (((List.range 496).map (fun j => leBytes 4 (match e.cells[j]? with
    | some c => c.q.toNat
    | none => 0))).flatten).map (BitVec.ofNat 8)

/-- A capacity record (Table 16-2). -/
def isCapRecord (id : Nat) : Bool := 0x0400 ≤ id && id < 0x0418

/-- The payload that a write takes at its start: a capacity record holds what has been learned while it waited (R331). -/
def psNow (s : State) (w : PsWrite) : List Byte := if isCapRecord w.id then capPayload (s.estOf (w.id - 0x0400)) else w.payload

/-- The energy record of a channel (R384). -/
def efRecord (s : State) (c : Nat) : List Byte :=
  (leBytes 4 (s.getN (EFUSE.ENERGY_LO c)) ++ leBytes 4 (s.getN (EFUSE.ENERGY_HI c))
    ++ leBytes 4 (if (s.ef.getD c EfuseSt.rest).gateFault then 1 else 0)
    ++ leBytes 4 (s.getF (EFUSE.EF_CNT_TRIPS c))).map (BitVec.ofNat 8)

/-- Queue the energy record of a channel. -/
def efCheckpoint (s : State) (c : Nat) : State := s.psQueue (0x0300 + c) (s.efRecord c)

end State

end Sys2Proof.Machine
end

