-- ==== Sys2Proof/Machine/ImgBase.lean ====
section
/-! DEFINITION. Claura images (chapter 18): a bank's header fields, the checks of Table 18-2 and the body digest, the schemas that the running image supports. None of it raises a source. -/

namespace Sys2Proof.Machine

namespace ImgBank

def part (b : ImgBank) (ofs n : Nat) : List Byte := (b.bytes.drop ofs).take n
def field (b : ImgBank) (ofs n : Nat) : Nat := leNat (bytesNat (b.part ofs n))

/-- FW_VER, SCHEMA_MIN, SCHEMA_MAX and ROLLBACK; those of the delivered image are its own (log entry 21). -/
def fwVer (b : ImgBank) : Word := if b.factory then Config.factoryVer else BitVec.ofNat 32 (b.field 12 4)
def schemaMin (b : ImgBank) : Nat := if b.factory then 1 else b.field 16 2
def schemaMax (b : ImgBank) : Nat := if b.factory then 1 else b.field 18 2
def rollback (b : ImgBank) : Nat := if b.factory then 0 else b.field 20 4
def bodyLen (b : ImgBank) : Nat := b.field 24 4

/-- The bytes that Table 18-1 reserves are 0. -/
def reservedOk (b : ImgBank) : Bool := (b.part 28 4 ++ b.part 65 3 ++ b.part 132 316).all (· = 0)

end ImgBank

namespace State

def bank (s : State) (b : Bool) : ImgBank := s.img.banks.getD b.toNat ⟨[], false, false⟩
def putBank (s : State) (b : Bool) (x : ImgBank) : State := { s with img := { s.img with banks := s.img.banks.set b.toNat x } }

/-- The running bank, and the target (R531). -/
def runBank (s : State) : Bool := s.getB IMAGE.RUN_STAT_RUN_BANK
def target (s : State) : Bool := !s.runBank

/-- Some stored record other than 0x0100 has its newest valid copy below a schema (Table 18-2, check 7). -/
def schemaBelow (s : State) (least : Nat) : Bool :=
  psIds.any (fun id => id ≠ 0x0100 && (match s.psNewest id with
    | some b => (s.psCopy id b).schema < least
    | none => false))

/-- The code of the first header check of Table 18-2 that a bank fails; 0 where it passes all. -/
def headerFail (s : State) (b : ImgBank) : Nat :=
  if b.factory then
    (if b.bad then 1 else if b.rollback < s.dev.otpRollback then 5 else if s.schemaBelow b.schemaMin then 7 else 0)
  else
    let k := s.img.keys.getD (b.field 64 1) ⟨[], true⟩
    if b.bad ∨ b.part 0 4 ≠ [0x43, 0x4C, 0x49, 0x4D] ∨ b.field 4 2 ≠ 1 ∨ b.field 6 2 ≠ 1 ∨ b.reservedOk = false then 1
    else if b.field 8 2 ≠ 0x2432 then 2
    else if (b.field 10 2).testBit 1 = false then 3
    else if 3 < b.field 64 1 ∨ k.revoked ∨ k.hash = [] ∨ sha256 (b.part 68 64) ≠ k.hash then 4
    else if b.rollback < s.dev.otpRollback ∨ 64 < b.rollback then 5
    else if b.bodyLen = 0 ∨ b.bodyLen % 64 ≠ 0 ∨ 0x3FFE00 < b.bodyLen then 6
    else if b.schemaMax < b.schemaMin ∨ s.schemaBelow b.schemaMin then 7
    else if ecdsaOk (b.part 68 64) (b.part 0 448) (b.part 448 64) = false then 8
    else 0

/-- The body's digest is BODY_DIGEST. -/
def bodyOk (b : ImgBank) : Bool := b.factory || sha256 (b.part 512 b.bodyLen) = b.part 32 32

/-- The whole check of a bank (R535, Table 18-6): 0 passes, a code of Table 18-2, or 0x10 for the body. -/
def bankFail (s : State) (b : ImgBank) : Nat :=
  let c := s.headerFail b
  if c ≠ 0 then c else if bodyOk b then 0 else 0x10

/-- The running image supports a schema (R484). -/
def schemaOk (s : State) (x : Nat) : Bool := (s.bank s.runBank).schemaMin ≤ x && x ≤ (s.bank s.runBank).schemaMax

/-- The payload of the record that a reader of the running image takes (R484); none where the record is absent for it. -/
def psRead (s : State) (id : Nat) : Option (List Byte) := (s.psReadCopy id s.schemaOk).map (fun b => (s.psCopy id b).payload)

/-- The image state record 0x0100 (R534). -/
def imgRecord (active trial : Bool) (confirmed : Word) (opsec confirms : Nat) : List Byte :=
  ([active.toNat, trial.toNat, 0, 0] ++ leBytes 4 confirmed.toNat ++ leBytes 4 opsec ++ leBytes 4 confirms).map (BitVec.ofNat 8)

/-- A field of the stored image state record, 0 where there is none. -/
def imgField (s : State) (ofs n : Nat) : Nat :=
  match s.psNewest 0x0100 with
  | some b => leNat (bytesNat (((s.psCopy 0x0100 b).payload.drop ofs).take n))
  | none => 0

/-- ACTIVE of the stored record: the confirmed bank (bank A without a record). -/
def activeBank (s : State) : Bool := s.imgField 0 1 = 1

/-- RUN_STAT, FW_VER_RUN and ROLLBACK show the running bank (Table 18-7). -/
def showBank (s : State) (b : Bool) : State :=
  let x := s.bank b
  (((s.setB IMAGE.RUN_STAT_RUN_BANK b).setReg IMAGE.FW_VER_RUN x.fwVer).setF IMAGE.ROLLBACK_IMAGE x.rollback).setF IMAGE.ROLLBACK_OTP s.dev.otpRollback

end State

end Sys2Proof.Machine
end

