-- ==== Sys2Proof/Machine/Binary32.lean ====
section
/-! DEFINITION. IEEE 754 binary32 (R209, R210) on words: every operation computes its exact result as a fraction and rounds it once, to nearest with ties to even. `F32.fl` is the flush of R210. -/

namespace Sys2Proof.Machine.F32

/-- The value in units of 2^-149, exact; infinities get the value just above the largest finite one, so that comparisons order them. -/
def scaledMag (x : Word) : Nat :=
  let e := (x.toNat / 2 ^ 23) % 256
  let m := x.toNat % 2 ^ 23
  if e = 0 then m else (m + 2 ^ 23) * 2 ^ (e - 1)

def isNeg (x : Word) : Bool := x.getLsbD 31
def isNaN (x : Word) : Bool := 0x7F800000 < x.toNat % 2 ^ 31
def isInf (x : Word) : Bool := x.toNat % 2 ^ 31 = 0x7F800000
def isFinite (x : Word) : Bool := x.toNat % 2 ^ 31 < 0x7F800000
def isZero (x : Word) : Bool := x.toNat % 2 ^ 31 = 0

def scaled (x : Word) : Int := if isNeg x then -(scaledMag x : Int) else scaledMag x

/-- A NaN whose sign and payload the spec leaves open (log entry 10). -/
def nan (k : Nat) : Word := (Config.nanBits k &&& 0x807FFFFF#32) ||| 0x7F800001#32

def signBit (neg : Bool) : Word := if neg then 0x80000000#32 else 0#32
def zero (neg : Bool) : Word := signBit neg
def inf (neg : Bool) : Word := signBit neg ||| 0x7F800000#32

/-- The quotient rounded to nearest, ties to even. -/
def roundEven (n d : Nat) : Nat :=
  let q := n / d
  let r := n % d
  if d < 2 * r ∨ (2 * r = d ∧ q % 2 = 1) then q + 1 else q

/-- num/den rounded to binary32 (den > 0), with the given sign; overflow gives an infinity. -/
def ofQ (neg : Bool) (num den : Nat) : Word :=
  let u := num * 2 ^ 149 / den
  let k := if u < 2 ^ 24 then 0 else Nat.log2 u - 23
  let q := roundEven (num * 2 ^ 149) (den * 2 ^ k)
  let b := k * 2 ^ 23 + q
  if 0x7F800000 ≤ b then inf neg else signBit neg ||| BitVec.ofNat 32 b

/-- A signed number of units 2^-149 / den, rounded; an exact zero takes the sign `z`. -/
def ofScaled (v : Int) (den : Nat) (z : Bool) : Word :=
  if v = 0 then zero z else ofQ (v < 0) v.natAbs (2 ^ 149 * den)

def neg (x : Word) : Word := x ^^^ 0x80000000#32
def abs (x : Word) : Word := x &&& 0x7FFFFFFF#32

def add (a b : Word) : Word :=
  if isNaN a ∨ isNaN b then nan (a.toNat + b.toNat)
  else if isInf a then (if isInf b ∧ isNeg a ≠ isNeg b then nan (a.toNat + b.toNat) else a)
  else if isInf b then b
  else ofScaled (scaled a + scaled b) 1 (isNeg a && isNeg b)

def sub (a b : Word) : Word := add a (neg b)

def mul (a b : Word) : Word :=
  let sg := isNeg a != isNeg b
  if isNaN a ∨ isNaN b then nan (a.toNat + b.toNat)
  else if isInf a ∨ isInf b then (if isZero a ∨ isZero b then nan (a.toNat + b.toNat) else inf sg)
  else ofScaled (scaled a * scaled b) (2 ^ 149) sg

/-- Fused multiply-add a·b + c with one rounding. -/
def fma (a b c : Word) : Word :=
  let sg := isNeg a != isNeg b
  if isNaN a ∨ isNaN b ∨ isNaN c then nan (a.toNat + b.toNat + c.toNat)
  else if isInf a ∨ isInf b then
    (if isZero a ∨ isZero b ∨ (isInf c ∧ isNeg c ≠ sg) then nan (a.toNat + b.toNat + c.toNat) else inf sg)
  else if isInf c then c
  else ofScaled (scaled a * scaled b + scaled c * 2 ^ 149) (2 ^ 149) (sg && isNeg c)

def div (a b : Word) : Word :=
  let sg := isNeg a != isNeg b
  if isNaN a ∨ isNaN b then nan (a.toNat + b.toNat)
  else if isInf a then (if isInf b then nan (a.toNat + b.toNat) else inf sg)
  else if isInf b then zero sg
  else if isZero b then (if isZero a then nan (a.toNat + b.toNat) else inf sg)
  else if isZero a then zero sg
  else ofQ sg (scaledMag a) (scaledMag b)

/-- Bit by bit, the largest r with r² ≤ x below 2^n. -/
def isqrt (x : Nat) : Nat → Nat → Nat
  | 0, r => r
  | n + 1, r => isqrt x n (if (r + 2 ^ n) * (r + 2 ^ n) ≤ x then r + 2 ^ n else r)

def sqrt (a : Word) : Word :=
  if isNaN a then nan a.toNat
  else if isZero a then a
  else if isNeg a then nan a.toNat
  else if isInf a then a
  else
    let x := scaledMag a * 2 ^ 149
    let r := isqrt x 220 0
    let k := if r < 2 ^ 24 then 0 else Nat.log2 r - 23
    let q := isqrt (x / 4 ^ k) 26 0
    let h := (2 * q + 1) * (2 * q + 1) * 4 ^ k
    let q := if h < 4 * x ∨ (h = 4 * x ∧ q % 2 = 1) then q + 1 else q
    BitVec.ofNat 32 (k * 2 ^ 23 + q)

/-- Comparisons; false where an operand is a NaN. -/
def lt (a b : Word) : Bool := !isNaN a && !isNaN b && scaled a < scaled b
def le (a b : Word) : Bool := !isNaN a && !isNaN b && scaled a ≤ scaled b
def eqv (a b : Word) : Bool := !isNaN a && !isNaN b && scaled a = scaled b

/-- The lesser and the greater of two numbers; the first where they are equal. -/
def min (a b : Word) : Word := if lt b a then b else a
def max (a b : Word) : Word := if lt a b then b else a

/-- c held within ±limit. -/
def clampAbs (lim c : Word) : Word := min lim (max (neg lim) c)

def ofNat (n : Nat) : Word := ofQ false n 1
def ofInt (i : Int) : Word := if i = 0 then 0#32 else ofQ (i < 0) i.natAbs 1

/-- x × 2^k rounded to an integer, ties to even (x finite). -/
def toIntShift (x : Word) (k : Nat) : Int :=
  let m := roundEven (scaledMag x * 2 ^ k) (2 ^ 149)
  if isNeg x then -(m : Int) else m

/-- x × n rounded to an integer, ties to even (x finite). -/
def toIntMul (x : Word) (n : Nat) : Int :=
  let m := roundEven (scaledMag x * n) (2 ^ 149)
  if isNeg x then -(m : Int) else m

/-- x × n without its fraction, 0 for a negative or non-finite x. -/
def floorMul (x : Word) (n : Nat) : Nat := if isNeg x ∨ !isFinite x then 0 else scaledMag x * n / 2 ^ 149

/-- The sum of a list, in order. -/
def sum (l : List Word) : Word := l.foldl add 0

/-- The exact sum of finite numbers, rounded once. -/
def sumX (l : List Word) : Word := ofScaled ((l.map scaled).sum) 1 false

/-- x as it is, or 0 where it is negative or a NaN (R260). -/
def pos0 (x : Word) : Word := if isNaN x || isNeg x then 0 else x

/-- A step from `x` toward `t` of at most `d`; at once where `d` is 0, negative or not finite. -/
def toward (d x t : Word) : Word :=
  if isFinite d && lt 0 d then add x (min d (max (neg d) (sub t x))) else t

/-- The flush of R210: a subnormal becomes zero of the same sign. -/
def fl (x : Word) : Word := if x.toNat % 2 ^ 31 < 2 ^ 23 then x &&& 0x80000000#32 else x

def addF (a b : Word) : Word := fl (add (fl a) (fl b))
def subF (a b : Word) : Word := fl (sub (fl a) (fl b))
def mulF (a b : Word) : Word := fl (mul (fl a) (fl b))
def fmaF (a b c : Word) : Word := fl (fma (fl a) (fl b) (fl c))

end Sys2Proof.Machine.F32
end

