-- ==== Sys2Proof/Machine/VceLaw.lean ====
section
/-! DEFINITION. The law template of the Vermet control engine (R209 to R219): one evaluation of a slot as a function of its coefficients, inputs and state. -/

namespace Sys2Proof.Machine

/-- The 16 coefficient words (Table 7-14). -/
structure Coefs where
  w : Word
  kp : Word
  ki : Word
  b10 : Word
  b11 : Word
  b12 : Word
  a11 : Word
  a12 : Word
  b20 : Word
  b21 : Word
  b22 : Word
  a21 : Word
  a22 : Word
  umin : Word
  umax : Word
  dumax : Word
  deriving DecidableEq, Repr

/-- The state of a slot that an evaluation commits (Table 7-2 step 12). -/
structure LawState where
  int : Int
  s11 : Word
  s12 : Word
  s21 : Word
  s22 : Word
  out : Word
  deriving DecidableEq, Repr

/-- What an evaluation does (R209, R211, R219): the full law, the preset to a target, MANUAL with a value, TRACK of an output. -/
inductive LawMode where
  | auto
  | preset (target : Word)
  | manual (v : Word)
  | track (u : Word)
  deriving DecidableEq, Repr

/-- The inputs of an evaluation: the error ADC's result for YSRC = RAIL_ERR, else none; y, the reference, the FF word and, for a slot serving a cornice, the term added to it (step 9). -/
structure LawIn where
  d : Option Word
  y : Word
  ref : Word
  ff : Word
  cn : Option Word
  shift : Nat
  deriving DecidableEq, Repr

/-- FF of step 9: the FF word plus the cornice feed-forward of the slot that serves it. -/
def LawIn.ffTerm (x : LawIn) : Word :=
  match x.cn with
  | some c => F32.addF x.ff c
  | none => F32.fl x.ff

/-- The result: held with the step of R211, or the committed state with e, the wrap's direction (R213), a saturated preset (R219), CLAMPED and RATE_LIM, and the part v − c that the clamp of step 10 removed. -/
inductive LawRes where
  | held (step : Nat)
  | done (st : LawState) (e : Word) (wrap : Option Bool) (bump : Bool) (clamped rateLim : Bool) (cut : Word)
  deriving DecidableEq, Repr

/-- The first step at which a value is not finite. -/
def firstBad : List (Nat × Word) → Option Nat
  | [] => none
  | (k, x) :: l => if F32.isFinite x then firstBad l else some k

/-- The least signed 48-bit number congruent to `x`. -/
def wrap48 (x : Int) : Int := (x + 2 ^ 47) % 2 ^ 48 - 2 ^ 47

/-- Saturate to 48 bits. -/
def sat48 (x : Int) : Int := if 2 ^ 47 ≤ x then 2 ^ 47 - 1 else if x < -(2 ^ 47) then -(2 ^ 47) else x

/-- INT × 2^−shift as binary32 (step 8). -/
def intToF32 (i : Int) (shift : Nat) : Word := if i = 0 then 0 else F32.fl (F32.ofQ (i < 0) i.natAbs (2 ^ shift))

open F32 in
/-- One evaluation of the template (Table 7-2; MANUAL, TRACK and preset under R211, R218 and R219). -/
def lawEval (c : Coefs) (x : LawIn) (m : LawMode) (st : LawState) : LawRes :=
  -- steps 1 to 5, in every mode
  let d := match x.d with
    | some d => fl d
    | none => subF x.ref x.y
  let e := mulF c.w d
  let q1 := fmaF c.b10 e st.s11
  let t11 := fmaF (neg c.a11) q1 st.s12
  let s11 := fmaF c.b11 e t11
  let t12 := mulF c.a12 q1
  let s12 := fmaF c.b12 e (neg t12)
  let q2 := fmaF c.b20 q1 st.s21
  let t21 := fmaF (neg c.a21) q2 st.s22
  let s21 := fmaF c.b21 q1 t21
  let t22 := mulF c.a22 q2
  let s22 := fmaF c.b22 q1 (neg t22)
  let src := match x.d with
    | some d => [(0, d)]
    | none => [(0, x.ref), (0, x.y)]
  let in15 := src ++ [(0, c.w), (0, c.b10), (0, c.b11), (0, c.b12), (0, c.a11), (0, c.a12), (0, c.b20), (0, c.b21),
    (0, c.b22), (0, c.a21), (0, c.a22), (0, st.s11), (0, st.s12), (0, st.s21), (0, st.s22)]
  let op15 := [(1, d), (2, e), (3, q1), (4, t11), (4, s11), (4, t12), (4, s12), (5, q2), (5, t21), (5, s21), (5, t22), (5, s22)]
  match m with
  | .track u =>
    match firstBad (in15 ++ [(0, u)] ++ op15) with
    | some k => .held k
    | none => .done ⟨st.int, s11, s12, s21, s22, fl u⟩ e none false false false 0
  | .manual v =>
    let v := fl v
    let cc := F32.min (fl c.umax) (F32.max (fl c.umin) v)
    let du := subF cc st.out
    let u := if isZero (fl c.dumax) then cc else addF st.out (clampAbs (fl c.dumax) du)
    let rate := if isZero (fl c.dumax) then [] else [(11, du), (11, u)]
    match firstBad (in15 ++ [(0, v), (0, c.umin), (0, c.umax), (0, c.dumax)] ++ op15 ++ rate) with
    | some k => .held k
    | none => .done ⟨st.int, s11, s12, s21, s22, u⟩ e none false (cc ≠ v) (u ≠ cc) (subF v cc)
  | .preset target =>
    let p := mulF c.kp e
    let r1 := addF p q2
    let ff := x.ffTerm
    let rest := addF r1 ff
    let t := subF target rest
    match firstBad (in15 ++ [(0, c.kp), (0, x.ff), (0, x.cn.getD 0), (0, target)] ++ op15
        ++ [(6, p), (13, r1), (13, ff), (13, rest), (13, t)]) with
    | some k => .held k
    | none =>
      let n := toIntShift t x.shift
      let u := F32.min (fl c.umax) (F32.max (fl c.umin) (fl target))
      if !isFinite u then .held 0 else .done ⟨sat48 n, s11, s12, s21, s22, u⟩ e none (sat48 n ≠ n) (u ≠ fl target) false 0
  | .auto =>
    let p := mulF c.kp e
    let k := mulF c.ki e
    let n := sat48 (toIntShift k x.shift)
    let sum := st.int + n
    let int := wrap48 sum
    let i := intToF32 int x.shift
    let v1 := addF p i
    let v2 := addF v1 q2
    let ff := x.ffTerm
    let v := addF v2 ff
    let cc := F32.min (fl c.umax) (F32.max (fl c.umin) v)
    let du := subF cc st.out
    let u := if isZero (fl c.dumax) then cc else addF st.out (clampAbs (fl c.dumax) du)
    let rate := if isZero (fl c.dumax) then [] else [(11, du), (11, u)]
    match firstBad (in15 ++ [(0, c.kp), (0, c.ki), (0, x.ff), (0, x.cn.getD 0), (0, c.umin), (0, c.umax), (0, c.dumax)] ++ op15
        ++ [(6, p), (7, k), (9, v1), (9, v2), (9, ff), (9, v)] ++ rate) with
    | some k => .held k
    | none =>
      .done ⟨int, s11, s12, s21, s22, u⟩ e (if int = sum then none else some (0 < sum)) false (cc ≠ v) (u ≠ cc) (subF v cc)

end Sys2Proof.Machine
end

