-- ==== Sys2Proof/Machine/VceBase.lean ====
section
/-! DEFINITION. The VCE's shared moves (chapter 7): a slot's coefficients and state in its registers, fencing and clearing a slot. None of them raises a source. -/

namespace Sys2Proof.Machine

namespace State

def vslot (s : State) (i : Nat) : VSlotSt := s.vce.slots.getD i VSlotSt.rest
def updVs (s : State) (i : Nat) (f : VSlotSt → VSlotSt) : State := { s with vce := { s.vce with slots := s.vce.slots.modify i f } }

def slotFenced (s : State) (i : Nat) : Bool := s.getB (VSLOT.SLOT_STAT_FENCED i)
def slotOn (s : State) (i : Nat) : Bool := s.getB (VSLOT.SLOT_CFG_EN i) && s.pgRunning (pVSLOT i)

/-- The active bank of a slot (bank A in slots 8 to 63). -/
def slotBankB (s : State) (i : Nat) : Bool := i < 8 && s.getB (VSLOT.SLOT_STAT_ACT_BANK i)

/-- The k-th coefficient word of a bank (Table 7-14). -/
def coef (s : State) (i : Nat) (bankB : Bool) (k : Nat) : Word :=
  s.getReg ((if bankB then VSLOT.CB_W i else VSLOT.CA_W i) + 4 * k)

def coefs (s : State) (i : Nat) (b : Bool) : Coefs :=
  ⟨s.coef i b 0, s.coef i b 1, s.coef i b 2, s.coef i b 3, s.coef i b 4, s.coef i b 5, s.coef i b 6, s.coef i b 7,
   s.coef i b 8, s.coef i b 9, s.coef i b 10, s.coef i b 11, s.coef i b 12, s.coef i b 13, s.coef i b 14, s.coef i b 15⟩

/-- INT as a signed 48-bit number. -/
def slotInt (s : State) (i : Nat) : Int :=
  signedOf 48 (s.getN (VSLOT.INT_LO i) + 2 ^ 32 * s.getF (VSLOT.INT_HI_INT i))

/-- Store INT in INT_LO and INT_HI, whose upper half copies INT[47]. -/
def setInt (s : State) (i : Nat) (v : Int) : State :=
  let b := toBits 64 v
  (s.setN (VSLOT.INT_LO i) b).setN (VSLOT.INT_HI i) (b / 2 ^ 32)

def lawState (s : State) (i : Nat) : LawState :=
  ⟨s.slotInt i, s.getReg (VSLOT.S11 i), s.getReg (VSLOT.S12 i), s.getReg (VSLOT.S21 i), s.getReg (VSLOT.S22 i), s.getReg (VSLOT.OUT i)⟩

def putLawState (s : State) (i : Nat) (x : LawState) : State :=
  (((((s.setInt i x.int).setReg (VSLOT.S11 i) x.s11).setReg (VSLOT.S12 i) x.s12).setReg (VSLOT.S21 i) x.s21).setReg
    (VSLOT.S22 i) x.s22).setReg (VSLOT.OUT i) x.out

/-- Gap work that waits for its lane. -/
def gapWaits (s : State) (i : Nat) : Bool := s.slotOn i && (s.vslot i).released

/-- Place of a slot among the released gap work of a lane (R222): slots 0 to 31 in order, balance slots in order of release, general slots. -/
def gapRank (s : State) (i : Nat) : Nat :=
  if i < 32 then i else if i < 56 then 64 + (s.vce.balQ.findIdx? (· = i)).getD i else 256 + i

/-- The lane starts this slot next (R222): it waits, and no slot of the lane that waits comes before it. -/
def gapFirst (s : State) (i : Nat) : Bool :=
  s.gapWaits i && (List.range 64).all (fun j =>
    !s.gapWaits j || s.getF (VSLOT.SLOT_STAT_LANE j) ≠ s.getF (VSLOT.SLOT_STAT_LANE i) || s.gapRank i ≤ s.gapRank j)

/-- A slot is released (R223), and its evaluation is taken. -/
def gapRelease (s : State) (i : Nat) : State :=
  { s with vce := { s.vce with
    slots := s.vce.slots.modify i (fun v => { v with released := true })
    balQ := if 40 ≤ i ∧ i < 56 then s.vce.balQ.filter (· ≠ i) ++ [i] else s.vce.balQ } }
def gapTaken (s : State) (i : Nat) : State :=
  { s with vce := { s.vce with
    slots := s.vce.slots.modify i (fun v => { v with released := false }), balQ := s.vce.balQ.filter (· ≠ i) } }

/-- A fence of a slot in 0 to 31 or 56 to 63 (R217): FENCED, and a pending swap is cancelled. -/
def fenceSlot (s : State) (i : Nat) : State :=
  let s := s.updVs i (fun v => { v with needPreset := true, target := none, preH := none, swapPreset := false, swapDue := false })
  (s.setF (VSLOT.SLOT_STAT_SWAP_PEND i) 0).setF (VSLOT.SLOT_STAT_FENCED i) 1

/-- When the fence of a slot, or of the rail or phase that it drives, is cleared after FS_VCE_RAM_UE, INT and the biquad states are 0. -/
def ramClear (s : State) (i : Nat) : State :=
  if (s.vslot i).ramUe then
    (s.putLawState i ⟨0, 0, 0, 0, 0, s.getReg (VSLOT.OUT i)⟩).updVs i (fun v => { v with ramUe := false })
  else s

/-- The fence of a slot is cleared (Table 7-4): the mode as written, with preset from the held OUT. -/
def unfenceSlot (s : State) (i : Nat) : State :=
  ((s.ramClear i).updVs i (fun v => { v with needPreset := true, target := none, preH := none })).setF (VSLOT.SLOT_STAT_FENCED i) 0

/-- A page start puts its slots at output 0 with a preset at the first AUTO evaluation (Table 7-4). -/
def startSlot (s : State) (i : Nat) : State :=
  (s.updVs i (fun v => { VSlotSt.rest with ramUe := v.ramUe })).setReg (VSLOT.OUT i) 0

end State

end Sys2Proof.Machine
end

