-- ==== Sys2Proof/Machine/Fabric.lean ====
section
/-! DEFINITION. The register fabric's words (chapters 2 and 16): what a write makes of a word by its fields' access codes and ranges (R40, R41, R568), which bits are settings, the records of settings (R477) and their application (R56). None of it raises a source. -/

namespace Sys2Proof.Machine

namespace FieldDef

/-- RW, RS and SB fields are settings. -/
def setting (f : FieldDef) (n i : Nat) : Bool :=
  match f.acc n i with
  | .rw => true
  | .rs => true
  | .sb _ => true
  | _ => false

end FieldDef

/-- The settings' bits of a word; the rest 0 (R477). -/
def RegDef.settings (r : RegDef) (n i : Nat) (w : Word) : Word :=
  (r.fields.filter (fun f => f.setting n i)).foldl (fun acc f => withBits acc f.lo f.w (bitsOf w f.lo f.w)) 0

/-- The bits of a register's RW fields. -/
def RegDef.rwMask (r : RegDef) (n i : Nat) : Word :=
  (r.fields.filter (fun f => f.acc n i == .rw)).foldl (fun acc f => withBits acc f.lo f.w (2 ^ f.w - 1)) 0

/-- The pages whose RW fields take effect at a boundary of their own (R42); the slot words of VSLOT follow R231. -/
def lateKind : PageKind → Bool
  | .vce => true
  | .shelf => true
  | .alloc => true
  | .crest => true
  | .cornice => true
  | .holdup => true
  | .est => true
  | .eststr => true
  | .survey => true
  | _ => false

/-- Words of an entry-list record (R477): offset in the record, definition, instance, index, and the register's address. -/
structure CfgWord where
  ofs : Nat
  reg : RegDef
  n : Nat
  i : Nat
  addr : Nat

/-- The words of a list of registers from base address `b`, each at its offset. -/
def wordsOf (l : List RegDef) (n b : Nat) : List CfgWord :=
  (l.map (fun r => (List.range r.count).map (fun i => (⟨r.off + r.stride * i, r, n, i, b + r.off + r.stride * i⟩ : CfgWord)))).flatten

/-- The window words of profile `q`, and the severity words, as raw images (Table 16-2). -/
def profWords (q : Nat) : List CfgWord :=
  (wordsOf (regsESTPROF.filter (fun r => 0x100 ≤ r.off)) 0 (0x1000000 + 0x300 * q - 0x100)).map (fun w => { w with ofs := w.ofs - 0x100 })
def sevWords : List CfgWord := (wordsOf regsFCOLSEV 0 0x03000).map (fun w => { w with ofs := w.ofs - 0x20 })

/-- Words that are never stored (R477), as offsets of a page. -/
def neverStored : PageKind → List Nat
  | .pstore => [0x020, 0x028]
  | .cairn => [0x040, 0x044, 0x048, 0x050, 0x060, 0x068]
  | .eststr => [0x028]
  | .estwin => [0x020]
  | .estprof => [0x020]
  | .vce => [0x020]
  | _ => []

/-- Is the word at this address never stored: by its offset, or a mailbox word, UNFENCE or INJ. -/
def neverStoredAt (k : PageKind) (n : Nat) (w : CfgWord) : Bool :=
  (neverStored k).contains w.ofs
    || (k = .yport && (w.addr = YPORT.MBX_CMD n || (List.range 8).any (fun i => w.addr = YPORT.MBX_DATA n i)))
    || (k = .fcol && (w.addr = FCOL.UNFENCE || w.addr = FCOL.INJ))

/-- The words of an entry-list record. -/
def cfgWords (id : Nat) : List CfgWord :=
  if 0x1200 ≤ id then
    let k := id - 0x1200
    ((wordsOf regsSEQSLOT 0 0x65000).filter (fun w => w.i = k && w.reg.stride = 32)).map (fun w => { w with ofs := w.ofs - (0x40 + 32 * k) })
  else if 0x1100 ≤ id then
    let k := id - 0x1100
    wordsOf (if k < 8 then regsVSLOT ++ regsVSLOTB else regsVSLOT) k (0x31000 + 0x200 * k)
  else
    match pageKind (id - 0x1000) with
    | some (k, n) => (wordsOf k.regs n (0x1000 * (id - 0x1000))).filter (fun w => !neverStoredAt k n w)
    | none => []

/-- A summit slot's coefficient word in the other bank (R477). -/
def otherBank (o : Nat) : Nat := if 0x040 ≤ o ∧ o < 0x080 then o + 0x40 else if 0x080 ≤ o ∧ o < 0x0C0 then o - 0x40 else o

/-- Entries that an entry-list slot holds (R477). -/
def cfgMax (id : Nat) : Nat := if psPages id = 7 then 72 else if psPages id = 4 then 40 else 8

namespace State

/-- The value that a field takes for `v` (R568). -/
def clampField (s : State) (f : FieldDef) (n : Nat) (v : Nat) : Nat :=
  match f.clamp with
  | .none => v
  | .rng lo hi => max lo (min hi v)
  | .rngOr lo hi x => if v = x then v else max lo (min hi v)
  | .hintLead => min v (s.inForceReg CORNICE.LEAD_MAX).toNat
  | .nphMin => max 1 (min (s.getF (PHASE.GRP_NPH n)) v)
  | .sym8 => if v % 256 = 0x80 then 0x81 else v

/-- RW fields that a write has changed wait for their page's update boundary (R42). -/
def noteLate (s : State) (k : PageKind) (r : RegDef) (n i h : Nat) (old : Word) : State :=
  let m := r.rwMask n i
  if lateKind k ∧ (s.getReg h &&& m) ≠ (old &&& m) ∧ s.dev.late.all (fun e => e.addr ≠ h) then
    { s with dev := { s.dev with late := s.dev.late ++ [⟨h, m, old⟩] } }
  else s

/-- The word after a write of `v`: settings take their fields of `v`, a 1 clears a W1C bit, the rest stays (R40, R41). -/
def mergeWord (s : State) (r : RegDef) (n i : Nat) (old v : Word) : Word :=
  r.fields.foldl (fun w f =>
    match f.acc n i with
    | .w1c => withBits w f.lo f.w (bitsOf (old &&& ~~~v) f.lo f.w)
    | .ro => w
    | .wo => w
    | .fw => w
    | _ => withBits w f.lo f.w (s.clampField f n (bitsOf v f.lo f.w))) old

/-- The address whose value an entry at offset `o` of a record stores: a summit slot's active bank lies at the bank A offsets. -/
def storeAddr (s : State) (id : Nat) (w : CfgWord) : Nat :=
  if 0x1100 ≤ id ∧ id < 0x1108 ∧ s.slotBankB (id - 0x1100) then w.addr - w.ofs + otherBank w.ofs else w.addr

/-- The Reset of a stored word: that of DEV.TJ_HOT follows the grade fuse (R2). -/
def cfgReset (s : State) (w : CfgWord) : Nat :=
  if w.addr = DEV.TJ_HOT then s.tjHotReset else w.reg.resetNat w.n w.i

/-- The entries of a record from the present settings (R477), in ascending offset. -/
def cfgEntries (s : State) (id : Nat) : List (Nat × Word) :=
  ((cfgWords id).filterMap (fun w =>
    let v := w.reg.settings w.n w.i (s.getReg (s.storeAddr id w))
    if v = w.reg.settings w.n w.i (BitVec.ofNat 32 (s.cfgReset w)) then none else some (w.ofs, v))).foldl
    (fun acc e => insertKey e.1 e.2 acc) []

/-- The payload of a configuration record from the present settings; none where it does not fit (R478). -/
def cfgBuild (s : State) (id : Nat) : Option (List Byte) :=
  let raw (l : List CfgWord) : List Byte := ((l.map (fun w => leBytes 4 (s.getN w.addr))).flatten).map (BitVec.ofNat 8)
  if 0x1300 ≤ id ∧ id < 0x1308 then some (raw (profWords (id - 0x1300)))
  else if id = 0x1400 then some (raw sevWords)
  else
    let es := s.cfgEntries id
    if cfgMax id < es.length then none
    else some (((es.map (fun e => leBytes 2 e.1 ++ leBytes 4 e.2.toNat)).flatten).map (BitVec.ofNat 8))

/-- Entries of a stored payload. -/
def entriesOf : Nat → List Nat → List (Nat × Word)
  | 0, _ => []
  | n + 1, l => if l.length < 6 then [] else (leNat (l.take 2), BitVec.ofNat 32 (leNat ((l.drop 2).take 4))) :: entriesOf n (l.drop 6)

/-- Firmware writes a stored word over a register's settings, with the ranges of R568; PG_CHG counts it (R34). -/
def applyWord (s : State) (w : CfgWord) (v : Word) : State :=
  let old := s.getReg w.addr
  (s.setReg w.addr (w.reg.fields.foldl (fun x f =>
    if f.setting w.n w.i then withBits x f.lo f.w (s.clampField f w.n (bitsOf v f.lo f.w)) else x) old)).countChg
    (if 0x1000000 ≤ w.addr then pESTPROF else w.addr / 0x1000)

/-- Configuration apply of one record (R56, R477): a word without an entry keeps its Reset value. -/
def cfgApply (s : State) (id : Nat) (payload : List Byte) : State :=
  let put (s : State) (l : List CfgWord) : State :=
    l.foldl (fun s w => if w.ofs + 4 ≤ payload.length then s.applyWord w (BitVec.ofNat 32 (leNat (bytesNat ((payload.drop w.ofs).take 4)))) else s) s
  if 0x1300 ≤ id ∧ id < 0x1308 then put s (profWords (id - 0x1300))
  else if id = 0x1400 then put s sevWords
  else
    let ws := cfgWords id
    (entriesOf payload.length (bytesNat payload)).foldl (fun s e =>
      match ws.find? (fun w => w.ofs = e.1) with
      | some w => s.applyWord w e.2
      | none => s) s

/-- A page's block registers at their Reset values (Table 2-9); the header stays. -/
def resetPage (s : State) (p : Nat) : State :=
  let keep (a : Nat) : Bool := a / 0x1000 ≠ p || a % 0x1000 < 0x020
  let s := s.settle (fun a => a / 0x1000 = p)
  let s := { s with regs := s.regs.filter (fun e => keep e.1) }
  if p = pESTPROF then { s with regs := s.regs.filter (fun e => e.1 < 0x1000000 || 0x1100000 ≤ e.1) }
  else if p = pPMBUS then { s with regs := s.regs.filter (fun e => e.1 < 0x1100000) }
  else if p = pT1S then (s.setN T1S.MAC_LO (s.dev.mac % 2 ^ 32)).setF T1S.MAC_HI_MAC (s.dev.mac / 2 ^ 32)
  else s

end State

end Sys2Proof.Machine
end

