-- ==== Sys2Proof/Machine/Elementary.lean ====
section
/-! DEFINITION. exp, sin and cos (R309, R335, R337): each is computed in fixed point far below binary32's last bit, brought to the nearest word, and then off by at most one unit of its last place, which the spec leaves open (log entry 11). -/

namespace Sys2Proof.Machine.F32

/-- 1 in fixed point. -/
abbrev fxOne : Nat := 2 ^ 320

/-- A result near `w`: off by at most one unit in the last place; `f` names the function. -/
def nearOf (f : Nat) (w : Word) : Word :=
  if isZero w ∨ !isFinite w then w
  else match Config.lastBit f w % 3 with
    | 0 => w
    | 1 => w + 1
    | _ => w - 1

/-- Terms of e^-x from the term `t` of index `i` on. -/
def expTerms (x : Nat) : Nat → Nat → Int → Int
  | 0, _, _ => 0
  | n + 1, i, t => t + expTerms x n (i + 1) (-(t * x) / (fxOne * (i + 1) : Nat))

/-- y squared `n` times. -/
def squares : Nat → Nat → Nat
  | 0, y => y
  | n + 1, y => squares n (y * y / fxOne)

/-- e^-(n/d) in fixed point, for n/d below 200. -/
def expFx (n d : Nat) : Nat := squares 9 (expTerms (n * fxOne / (512 * d)) 64 0 fxOne).toNat

/-- exp. -/
def exp (x : Word) : Word :=
  let m := scaledMag x
  if isNaN x then nan x.toNat
  else if isZero x then 0x3F800000
  else if isNeg x then (if 104 * 2 ^ 149 ≤ m then 0 else nearOf 0 (ofQ false (expFx m (2 ^ 149)) fxOne))
  else if 104 * 2 ^ 149 ≤ m then inf false
  else nearOf 0 (ofQ false fxOne (expFx m (2 ^ 149)))

/-- arctan (1/k) in fixed point, from the power `p` of 1/k and the odd number `i` on. -/
def atanTerms (k : Nat) : Nat → Nat → Int → Int
  | 0, _, _ => 0
  | n + 1, i, p => p / (i : Int) + atanTerms k n (i + 2) (-(p / (k * k : Nat)))

/-- 2π in fixed point, by Machin's formula. -/
def twoPiFx : Int := 8 * (4 * atanTerms 5 80 1 (fxOne / 5 : Nat) - atanTerms 239 30 1 (fxOne / 239 : Nat))

/-- Terms of sin x from the term `t` of index `i` on. -/
def sinTerms (x : Int) : Nat → Nat → Int → Int
  | 0, _, _ => 0
  | n + 1, i, t => t + sinTerms x n (i + 2) (-(t * x / fxOne * x) / (fxOne * ((i + 1) * (i + 2)) : Nat))

/-- sin of n/d turns in fixed point. -/
def sinFx (n d : Nat) : Int :=
  let x := twoPiFx * n / d
  sinTerms x 56 1 x

/-- sin of n/d turns; at a multiple of a twelfth it may be exact. -/
def sinTurns (n d : Nat) : Word :=
  let m := n % d
  let y := sinFx m d
  let w := nearOf 1 (ofQ (y < 0) y.natAbs fxOne)
  if 12 * m % d ≠ 0 then w
  else match 12 * m / d with
    | 0 => 0
    | 6 => 0
    | 3 => 0x3F800000
    | 9 => 0xBF800000
    | 1 => 0x3F000000
    | 5 => 0x3F000000
    | 7 => 0xBF000000
    | 11 => 0xBF000000
    | _ => w

/-- cos of n/d turns. -/
def cosTurns (n d : Nat) : Word := sinTurns (4 * n + d) (4 * d)

end Sys2Proof.Machine.F32
end

