-- ==== Sys2Proof/Machine/EfuseBase.lean ====
section
/-! DEFINITION. The e-fuse channels' shared moves (chapter 12): entering OFF, TRIPPED, INRUSH and GATE_FAULT, and the on request. None of them raises a source. -/

namespace Sys2Proof.Machine

/-- Channel states (Table 12-4). -/
abbrev efOFF : Nat := 0
abbrev efINRUSH : Nat := 1
abbrev efON : Nat := 2
abbrev efTRIPPED : Nat := 3
abbrev efRETRY_WAIT : Nat := 4
abbrev efLATCHED : Nat := 5
abbrev efGATE_FAULT : Nat := 6

namespace State

def efState (s : State) (c : Nat) : Nat := s.getF (EFUSE.EF_STAT_STATE c)
def efSt (s : State) (c : Nat) : EfuseSt := s.ef.getD c EfuseSt.rest
def updEf (s : State) (c : Nat) (f : EfuseSt → EfuseSt) : State := { s with ef := s.ef.modify c f }

/-- The gate is driven (R388): INRUSH or ON. -/
def efDriven (s : State) (c : Nat) : Bool := s.efState c == efINRUSH || s.efState c == efON

/-- Set a channel's state (the condition of FS_EFUSE_c is present while it is tripped, R428) with its gate's pull-down (R381), its run counters at rest. -/
def efGo (s : State) (c st : Nat) (p : Pull) : State :=
  ((s.updEf c (fun x => { x with limTicks := 0, ilimTicks := 0, lowTicks := 0, presTicks := 0, presSeen := false, ig50 := false, ticks := 0, checked := false, pull := p })).setF
    (EFUSE.EF_STAT_LIMITING c) 0 |>.setCond (144 + c) (efTRIPPED ≤ st) |>.setF (EFUSE.EF_STAT_PG c) (if st = efON then 1 else 0)).setF (EFUSE.EF_STAT_STATE c) st

/-- The hold pull-down is active beside the one that turned the gate off (R381). -/
def efHold (s : State) (c : Nat) : Bool := s.efState c != efINRUSH && s.efState c != efON

/-- The gate current in µA (R385, R386); none where the gate is not driven, and from ON on, where it is driven to EFn_SRC + 12 V. -/
def efIg (s : State) (c : Nat) : Option Nat :=
  if s.efState c = efINRUSH then some (if (s.efSt c).ig50 then 50 else s.getF (EFUSE.EF_CFG_IG c)) else none

/-- To OFF on the normal pull-down with RETRIES 0 (Table 12-1, R391). -/
def efToOff (s : State) (c : Nat) : State :=
  (s.setF (EFUSE.EF_STAT_RETRIES c) 0).efGo c efOFF .normal

/-- The on request of channel `c` (R397 and the chapter's section Inrush): from its sequencer slot when that is enabled, else EF_CTRL.ON. -/
def efOnReq (s : State) (c : Nat) : Bool :=
  if s.getB (SEQSLOT.SL_CFG_EN (24 + c)) then s.slotDrives (24 + c) else s.getB (EFUSE.EF_CTRL_ON c)

/-- A stop or fence of the channel (R391): OFF on the normal pull-down, RETRIES 0, LATCHED cleared. -/
def fenceEfuse (s : State) (c : Nat) : State := s.efToOff c

/-- The DATA bytes of FS_EFUSE_c for a reason (R393). -/
def efData (s : State) (c reason : Nat) : List Nat :=
  reason :: leBytes 4 (s.getN (EFUSE.I c)) ++ leBytes 4 (s.getN (EFUSE.V_OUT c)) ++ [s.getF (EFUSE.EF_STAT_RETRIES c)]

end State

end Sys2Proof.Machine
end

