-- ==== Sys2Proof/Machine/Cairn.lean ====
section
/-! DEFINITION. The Cairn recorder's acceptance of an event, the trace ring and the host event bits (R429, R488 to R494, R499). None of it raises a source. -/

namespace Sys2Proof.Machine

/-- Records of KIND (Table 16-6). -/
abbrev kFAULT : Nat := 0
abbrev kINJECTED : Nat := 1
abbrev kCORNICE : Nat := 2
abbrev kASCENT : Nat := 3
abbrev kDESCENT : Nat := 4
abbrev kTIME_CORR : Nat := 5
abbrev kCLEARED : Nat := 6

/-- Ten DATA bytes. -/
def data10 (l : List Nat) : List Nat := (l.map (· % 256) ++ List.replicate 10 0).take 10

/-- The bytes of a record without its CRC (Table 16-5). -/
def CairnRec.body (r : CairnRec) : List Nat :=
  leBytes 4 r.seq ++ leBytes 4 r.opsec ++ leBytes 4 r.pcyc ++ [r.src, r.sev + 8 * r.kind, r.mode, r.flags] ++ leBytes 2 r.rep
    ++ leBytes 2 r.opms ++ r.data

/-- The 32 bytes of a record (R488), and of a trace entry, whose CRC is 0 (R499). -/
def CairnRec.bytes (r : CairnRec) : List Nat := r.body ++ leBytes 2 (crc16 r.body)
def CairnRec.traceBytes (r : CairnRec) : List Nat := r.body ++ [0, 0]

/-- DATA bytes selected by a CMPMASK are equal (R490). -/
def sameData (mask : Nat) (a b : List Nat) : Bool :=
  (List.range 10).all (fun i => !mask.testBit i || a.getD i 0 == b.getD i 0)

namespace State

/-- N of R494: records accepted, written or staged. -/
def cairnN (s : State) : Nat := s.cairn.nv.length + s.cairn.staged.length

/-- The last accepted record (R490). -/
def cairnLast (s : State) : Option CairnRec :=
  match s.cairn.staged.getLast? with
  | some r => some r
  | none => s.cairn.nv.getLast?

/-- CMPMASK of a source (Table 16-7). -/
def cmpMask (s : State) (src : Nat) : Nat :=
  if src % 2 = 0 then s.getF (CAIRN.CMPMASK_MASK0 (src / 2)) else s.getF (CAIRN.CMPMASK_MASK1 (src / 2))

/-- FLAGS of a record (Table 16-5) but RESERVE. -/
def cairnFlags (s : State) (nested : Bool) : Nat :=
  nested.toNat + 2 * s.getF CORNICE.CN_STAT_OPEN + 4 * (s.isPair && s.pair.partnerActive).toNat
    + 8 * s.getF CAIRN.CAIRN_STAT_TIMECOR

/-- DEV.ASCENT_COUNT at the event, plus 1 in ASCENT (R489). -/
def pcyc (s : State) : Nat := s.getN DEV.ASCENT_COUNT + (if s.mode = mASCENT then 1 else 0)

/-- A record of the event now. -/
def mkRec (s : State) (seq src sev kind flags : Nat) (data : List Nat) : CairnRec :=
  ⟨seq % 2 ^ 32, s.opsec % 2 ^ 32, s.pcyc % 2 ^ 32, src, sev, kind, s.mode, flags, 0, s.opus / 1000, data10 data⟩

/-- COUNT, FIRST_SEQ and CAIRN_STAT show the recorder's fill (Table 16-10). -/
def cairnShow (s : State) : State :=
  let n := s.cairnN
  let first := match s.cairn.nv ++ s.cairn.staged with
    | [] => 0
    | r :: _ => r.seq
  ((((s.setF CAIRN.COUNT_STAGED s.cairn.staged.length).setF CAIRN.COUNT_RECORDS n).setN CAIRN.FIRST_SEQ first).setB
    CAIRN.CAIRN_STAT_RESERVE (32704 ≤ n)).setB CAIRN.CAIRN_STAT_FULL (32768 ≤ n)

/-- Accept a record into staging with the next SEQ (R489). The REPEAT of the record before it, if that is written, is rewritten when this one is (R491). -/
def cairnAccept (s : State) (src sev kind flags : Nat) (data : List Nat) : State :=
  let r := s.mkRec s.cairn.nextSeq src sev kind flags data
  let rw := match s.cairn.staged.isEmpty, s.cairn.nv.getLast? with
    | true, some l => some (l.seq, s.getF CAIRN.LAST_REPEAT_REPEAT)
    | _, _ => s.cairn.rewrite
  let s := { s with cairn := { s.cairn with
    staged := s.cairn.staged ++ [r], nextSeq := (s.cairn.nextSeq + 1) % 2 ^ 32, rewrite := rw } }
  ((s.setN CAIRN.LAST_SEQ r.seq).setF CAIRN.LAST_REPEAT_REPEAT 0).cairnShow

/-- A lost event (R493). -/
def cairnLose (s : State) : State := s.setN CAIRN.LOST (s.getN CAIRN.LOST + 1)

/-- An event is accepted, counted as a repeat, or lost (R490 to R494). -/
def cairnStage (s : State) (src sev kind : Nat) (nested : Bool) (data : List Nat) : State :=
  let d := data10 data
  let n := s.cairnN
  let rep := match s.cairnLast with
    | some l => kind ≤ 2 && l.src == src && l.kind == kind && l.sev == sev && sameData (s.cmpMask src) l.data d
    | none => false
  if rep then
    let r := min (s.getF CAIRN.LAST_REPEAT_REPEAT + 1) 65535
    let st := match s.cairn.staged.getLast? with
      | some l => s.cairn.staged.dropLast ++ [{ l with rep := r }]
      | none => s.cairn.staged
    ({ s with cairn := { s.cairn with staged := st } }).setF CAIRN.LAST_REPEAT_REPEAT r
  else if 256 ≤ s.cairn.staged.length then s.cairnLose
  else if n < 32704 then s.cairnAccept src sev kind (s.cairnFlags nested) d
  else if n < 32768 ∧ (4 ≤ sev ∨ (n = 32704 ∧ src = 227 ∧ kind = kFAULT)) then
    s.cairnAccept src sev kind (s.cairnFlags nested + 16) d
  else s.cairnLose

/-- The trace ring's size: 4096 entries less 1024 for each fenced half of its banks (R499). -/
def traceSize (s : State) : Nat := 4096 - 1024 * (s.dev.sramFenced.filter (fun h => 22 ≤ h && h ≤ 25)).length

/-- Write a trace ring entry (R499). -/
def traceAdd (s : State) (src sev kind : Nat) (nested : Bool) (data : List Nat) : State :=
  let n := s.traceSize
  let e := s.mkRec s.cairn.traceCount src sev kind (s.cairnFlags nested) data
  let s := { s with cairn := { s.cairn with trace := (e :: s.cairn.trace).take n, traceCount := s.cairn.traceCount + 1 } }
  (s.setF CAIRN.TRACE_HEAD_SIZE n).setF CAIRN.TRACE_HEAD_HEAD (if n = 0 then 0 else s.cairn.traceCount % n)

/-- Set the host event bit of a source (R429). -/
def setEvt (s : State) (src : Nat) : State :=
  if s.getB (FCOL_SEV.SEV_EVT_EN src) then
    let e := s.getF (FCOL_SEV.SEV_EVT src)
    s.putBit (FCOL.EVT (e / 32)) (e % 32) true
  else s

/-- The record, host event and trace entry of a cornice or rail-cornice resolution (R297, R375). -/
def cnRecord (s : State) (src : Nat) (data : List Nat) : State :=
  ((s.traceAdd src 1 kCORNICE false data).cairnStage src 1 kCORNICE false data).setEvt src

/-- IRQ_N is low (R429). -/
def irqLow (s : State) : Bool :=
  (List.range 4).any (fun k => (s.getReg (FCOL.EVT k) &&& s.getReg (FCOL.EVT_MASK k)) ≠ 0)

end State

end Sys2Proof.Machine
end

