-- ==== Sys2Proof/Machine/CorniceBase.lean ====
section
/-! DEFINITION. The cornice's shared moves (chapter 9): states, the start of a collapse, the T_cycle of VCE.TIMING. None of them raises a source. -/

namespace Sys2Proof.Machine

/-- CN_STAT.STATE codes (Table 9-7). -/
abbrev cnIDLE : Nat := 0
abbrev cnPENDING : Nat := 1
abbrev cnOPEN : Nat := 2
abbrev cnCOLLAPSING : Nat := 3
abbrev cnBACKOFF : Nat := 4

/-- Outcome codes of R297. -/
abbrev ocCONFIRM : Nat := 1
abbrev ocPARTIAL : Nat := 2
abbrev ocMISS : Nat := 3
abbrev ocCANCELLED : Nat := 4
abbrev ocFAULT : Nat := 5
abbrev ocTAKEOVER : Nat := 6

namespace State

/-- The shelf cycle in µs (Table 7-12). -/
def cycleUs (s : State) : Nat :=
  match s.getF VCE.TIMING_CYCLE with
  | 0 => 50
  | 1 => 100
  | _ => 200

/-- T_cycle in seconds, binary32. -/
def cycleSec (s : State) : Word := F32.ofQ false s.cycleUs 1000000

def cnState (s : State) : Nat := s.getF CORNICE.CN_STAT_STATE
def cnLive (s : State) : Bool := s.getB CORNICE.CN_STAT_OPEN
def updCn (s : State) (f : CorniceSt → CorniceSt) : State := { s with cn := f s.cn }

/-- A collapse (R292, Table 9-3): a pending cornice is discarded without a record, an open one starts its ramp from the applied amount with the outcome. -/
def cnCollapse (s : State) (outcome : Nat) : State :=
  let st := s.cnState
  if st = cnPENDING then s.setF CORNICE.CN_STAT_STATE cnIDLE
  else if st = cnOPEN then
    let s := s.updCn (fun c => { c with rampFrom := s.getReg CORNICE.PHI_APP, rampUs := 0, recorded := false, fold := none })
    let s := (s.setReg CORNICE.PHI_REQ (s.getReg CORNICE.PHI_APP)).incSat CORNICE.CNT_B_COLLAPSE
    let s := if outcome = ocMISS then s.incSat CORNICE.CNT_C_MISS else s
    (s.setF CORNICE.CN_STAT_OUTCOME outcome).setF CORNICE.CN_STAT_STATE cnCOLLAPSING
  else s

/-- DATA of a resolution record (R297). -/
def cnData (s : State) (outcome : Nat) (fold : Word) : List Nat :=
  let hint := s.getF CORNICE.CN_STAT_SRC
  let r := s.getReg CORNICE.RATIO
  let m := if F32.isNaN r then signedOf 16 ((Config.unstated 5 r).toNat % 65536) else if F32.isInf r then (if F32.isNeg r then -32767 else 32767) else F32.toIntMul r 1000
  let m := if 32767 < m then 32767 else if m < -32767 then -32767 else m
  [outcome, hint] ++ leBytes 2 (if hint = 1 then 0 else s.getF CORNICE.CN_STAT_ISN) ++ leBytes 4 fold.toNat ++ leBytes 2 (toBits 16 m)

/-- The resolution record, now (R297). -/
def cnResolve (s : State) (outcome : Nat) (fold : Word) : State :=
  (s.updCn (fun c => { c with recorded := true })).cnRecord 110 (s.cnData outcome fold)

end State

end Sys2Proof.Machine
end

