-- ==== Sys2Proof/Machine/RailBase.lean ====
section
/-! DEFINITION. The local rails' shared moves (chapter 11): the phases of a rail, their counts and holds, FAULT_OFF, the end of a rail cornice with outcome FAULT. None of them raises a source. -/

namespace Sys2Proof.Machine

/-- Rail states (Table 11-4). -/
abbrev rlOFF : Nat := 0
abbrev rlPREBIAS : Nat := 1
abbrev rlSOFT_START : Nat := 2
abbrev rlREGULATING : Nat := 3
abbrev rlSOFT_STOP : Nat := 4
abbrev rlFAULT_OFF : Nat := 5

/-- Phase states (Table 11-5). -/
abbrev phUNASSIGNED : Nat := 0
abbrev phACTIVE : Nat := 1
abbrev phSHEDDING : Nat := 2
abbrev phSHED : Nat := 3
abbrev phSENSE_FAILED : Nat := 4
abbrev phFENCED : Nat := 5

namespace State

def rail_ (s : State) (r : Nat) : RailSt := s.rail.getD r RailSt.rest
def updRail (s : State) (r : Nat) (f : RailSt → RailSt) : State := { s with rail := s.rail.modify r f }
def phase_ (s : State) (p : Nat) : PhaseSt := s.phase.getD p PhaseSt.rest
def updPhase (s : State) (p : Nat) (f : PhaseSt → PhaseSt) : State := { s with phase := s.phase.modify p f }

def railState (s : State) (r : Nat) : Nat := s.getF (RAIL.RAIL_STAT_STATE r)
def phState (s : State) (p : Nat) : Nat := s.getF (PHASE.PH_STAT_STATE p)

/-- The rail switches: SOFT_START, REGULATING or SOFT_STOP. -/
def railSwitching (s : State) (r : Nat) : Bool :=
  let x := s.railState r
  x == rlSOFT_START || x == rlREGULATING || x == rlSOFT_STOP

/-- The phases of a rail (R347). -/
def railPhases (s : State) (r : Nat) : List Nat :=
  (List.range (s.getF (PHASE.GRP_NPH r))).map (s.getF (PHASE.GRP_FIRST r) + ·) |>.filter (· < 16)

/-- The rail that owns a phase. -/
def railOf (s : State) (p : Nat) : Option Nat := (List.range 8).find? (fun r => (s.railPhases r).contains p)

/-- Phases of a rail in a state. -/
def phIn (s : State) (r : Nat) (st : Nat) : List Nat := (s.railPhases r).filter (fun p => s.phState p = st)

/-- N_act: ACTIVE and SHEDDING phases (R366). -/
def nAct (s : State) (r : Nat) : Nat := (s.phIn r phACTIVE).length + (s.phIn r phSHEDDING).length

/-- N_part: phases that are not fenced (R364). -/
def nPart (s : State) (r : Nat) : Nat := ((s.railPhases r).filter (fun p => s.phState p ≠ phFENCED)).length

/-- RAIL_STAT shows the counts; while a rail cornice is live N_ACT keeps its committed value and the live count is in CN_STAT (R375). -/
def railCounts (s : State) (r : Nat) : State :=
  let s := s.setF (RAIL.RAIL_STAT_N_PART r) (s.nPart r)
  let s := s.setB (RAIL.RAIL_STAT_SHEDDING r) ((s.phIn r phSHEDDING) ≠ [])
  if s.getB (RAIL.RAIL_STAT_CN_OPEN r) then s.setF (RAIL.CN_STAT_NPH_LIVE r) (s.nAct r)
  else (s.setF (RAIL.CN_STAT_NPH_LIVE r) 0).setF (RAIL.RAIL_STAT_N_ACT r) (s.nAct r)

/-- Set a phase's state; a phase that leaves ACTIVE starts its hold with H (R368): 0 for SHED, else the balance slot's OUT. -/
def setPhase (s : State) (p st : Nat) : State :=
  let h := if st = phSHED then 0 else s.getReg (VSLOT.OUT (40 + p))
  let s := if st = phACTIVE then s
    else if s.phState p = phACTIVE ∨ st = phSHED then s.updPhase p (fun x => { x with hold := h }) else s
  let s := s.updPhase p (fun x => { x with openRun := 0, stuckRun := 0, disRun := 0, lastCs := none })
  s.setF (PHASE.PH_STAT_STATE p) st

/-- Every phase of the rail at one level; a fenced one stays at mid (R353). -/
def railLevel (s : State) (r : Nat) (l : Pwm) : State :=
  (s.railPhases r).foldl (fun s p =>
    let l := if s.phState p = phFENCED then .mid else l
    s.updPhase p (fun x => { x with pwm := l, shadow := l })) s

/-- A live rail cornice ends at once: with outcome FAULT (R374), or with its outcome when it was collapsing already; its record is written then (R375). A waiting request is dropped. -/
def railCnFault (s : State) (r : Nat) : State :=
  let down := (s.rail_ r).cnDown
  let s := s.updRail r (fun x => { x with cnPend := false, cnDown := 0 })
  if s.getB (RAIL.RAIL_STAT_CN_OPEN r) then
    let oc := if 0 < down then s.getF (RAIL.CN_STAT_OUTCOME r) else ocFAULT
    let s := if 0 < down then s else s.incSat (RAIL.CN_STAT_MISS r)
    let s := ((s.setF (RAIL.RAIL_STAT_CN_OPEN r) 0).setReg (RAIL.CN_FF r) 0).setF (RAIL.CN_STAT_OUTCOME r) oc
    (s.railCounts r).cnRecord (128 + r) [oc]
  else s.setReg (RAIL.CN_FF r) 0

/-- The rail slot's duty and balance hold at a stop of switching: counters at rest, no shed, PG and CUR_LIMIT clear. -/
def railRest (s : State) (r : Nat) : State :=
  let s := s.updRail r (fun x => { x with
    ramp := x.ramp - x.drop, drop := 0, pgRun := 0, uvRun := 0, clRun := 0, cycRun := 0, shedRun := 0, shed := none, uvTold := false, clTold := false })
  let s := (s.phIn r phSHEDDING).foldl (fun s p => s.setPhase p phACTIVE) s
  ((s.setF (RAIL.RAIL_STAT_PG r) 0).setF (RAIL.RAIL_STAT_CUR_LIMIT r) 0).setF (RAIL.RAIL_STAT_ERR_SAT r) 0

/-- To FAULT_OFF with the phases at a level (Table 11-1). -/
def railFaultOff (s : State) (r : Nat) (l : Pwm) : State :=
  let s := ((s.railCnFault r).railRest r).railLevel r l
  let s := if l = .mid then s.setReg (RAIL.VREF_EFF r) 0 else s
  (s.railCounts r).setF (RAIL.RAIL_STAT_STATE r) rlFAULT_OFF

/-- To OFF with the phases at mid. -/
def railToOff (s : State) (r : Nat) : State :=
  let s := ((s.railCnFault r).railRest r).railLevel r .mid
  ((s.railCounts r).setReg (RAIL.VREF_EFF r) 0).setF (RAIL.RAIL_STAT_STATE r) rlOFF

/-- What the timebase's frequency may change by in some µs: 1 % per ms (R350, R351). -/
def glideStep (s : State) (us : Nat) : Nat := s.tb.freqHz * us / 100000

/-- The glide of R351 over some µs, at its full rate, toward TB_KHZ. -/
def tbGlide (s : State) (us : Nat) : State :=
  if s.getF RSYNC.TB_STAT_STATE = 3 then
    let f := s.tb.freqHz
    let t := 1000 * s.getF RSYNC.TB_CFG_TB_KHZ
    let d := s.glideStep us
    let f := if f < t then min t (f + d) else max t (f - d)
    ({ s with tb := { s.tb with freqHz := f } }).setF RSYNC.TB_STAT_FREQ_KHZ (f / 1000)
  else s

/-- The fence of a phase (R369): mid, its balance slot held. -/
def fencePhase (s : State) (p : Nat) : State :=
  if s.phState p = phFENCED then s
  else
    let s := (s.setPhase p phFENCED).updPhase p (fun x => { x with pwm := .mid, shadow := .mid })
    match s.railOf p with
    | some r => (s.updRail r (fun x => { x with shed := if (x.shed.map Prod.fst) = some p then none else x.shed })).railCounts r
    | none => s

end State

end Sys2Proof.Machine
end

