-- ==== Sys2Proof/Machine/Reset.lean ====
section
/-! DEFINITION. The device reset (R57, R77, Table 3-7): what AON, the hold domain, the non-volatile memories and the pins keep, and every other region at its reset state. -/

namespace Sys2Proof.Machine

/-- Reset cause bits (Table 3-7). -/
abbrev rcPOR : Nat := 0
abbrev rcRST_N : Nat := 1
abbrev rcSEVERITY : Nat := 2
abbrev rcHOST : Nat := 3
abbrev rcBROWNOUT : Nat := 4
abbrev rcASCENT_FAIL : Nat := 5
abbrev rcWAKE : Nat := 6

namespace State

/-- The registers that straps, fuses and AON give (Reset columns of chapter 3, 15 and 18): taken from `o`. -/
def keepAon (s o : State) : State :=
  let s := s.setF DEV.MODE_STAT_FORM s.dev.form
  let s := s.setF DEV.DEV_ID_GRADE s.dev.grade
  let s := s.setF DEV.TJ_HOT_TJ_HOT s.tjHotReset
  let s := s.setB CLKPWR.CLK_STAT_HFO_SRC s.dev.bootsel0
  let s := s.setB RIDGE.PAIR_STAT_PAIR s.isPair
  let s := s.setF IMAGE.ROLLBACK_OTP s.dev.otpRollback
  let s := (s.setN T1S.MAC_LO (s.dev.mac % 2 ^ 32)).setF T1S.MAC_HI_MAC (s.dev.mac / 2 ^ 32)
  let s := [DEV.RST_CAUSE, DEV.WAKE_CTRL, DEV.ASCENT_COUNT, CLKPWR.VIN_MV, CLKPWR.VHOLD_MV].foldl
    (fun s a => s.setReg a (o.getReg a)) s
  s.setF DEV.ASCENT_STAT_FAILS (o.getF DEV.ASCENT_STAT_FAILS)

/-- Non-volatile and hold-domain state across a device reset (R77): Cairn records written and staged, parameter-store copies with the page program in flight completed (R480), code banks and key slots. The trace ring is cleared (R499); a clear that was running leaves the records below a point that the spec does not give (R498, log entry 14). -/
def keepNv (s o : State) : State :=
  let w := Config.freeWord o.free
  let nv := if o.cairn.clearSeq.isSome then o.cairn.clearOld.take (w.toNat % (o.cairn.clearOld.length + 1)) else o.cairn.nv
  let s := if o.cairn.clearSeq.isSome then (s.setF CAIRN.CLR_CMD_RESULT 3).setF CAIRN.CLR_CMD_CAUSE 4 else s
  { s with
    cairn := { o.cairn with nv := nv, clearSeq := none, clearOld := [], trace := [], traceCount := 0 }
    ps := { s.ps with slots := (if o.ps.flight.isSome then o.psProgram else o).ps.slots }
    img := { s.img with banks := o.img.banks, keys := o.img.keys }
    free := o.free + 1 }

/-- The pins, straps, fuses and time that no reset changes; the ascent waits for VIN and RST_N, or starts (Table 3-2). -/
def resetDev (d : DevSt) : DevSt :=
  { DevSt.rest with
    nowUs := d.nowUs, aonUp := d.aonUp, vinPor := d.vinPor, rstN := d.rstN, wakePin := d.wakePin, grade := d.grade,
    form := d.form, bootsel0 := d.bootsel0, bootsel1 := d.bootsel1, mac := d.mac, injInRun := d.injInRun,
    otpRollback := d.otpRollback, tapEnable := d.tapEnable, ckptLeftUs := d.ckptLeftUs, singleAttempt := d.singleAttempt || d.wakeOnly,
    ascFailPending := d.ascFailPending, relUs := some d.nowUs,
    ascPhase := if d.vinPor && d.rstN then .started else .waiting }

/-- Every gate turned off by a device reset (R391): on the fast pull-down where VIN has fallen below VIN_POR, else on the normal one. -/
def efReset (vin : Bool) : List EfuseSt := List.replicate 8 { EfuseSt.rest with pull := if vin then .normal else .fast }

/-- A device reset without a new cause bit: the start of an ascent from SHIP or DORMANT and every device reset go through it. -/
def resetAll (o : State) : State :=
  (({ State.reset with regs := [], pending := o.pending, dev := resetDev o.dev, ef := efReset o.dev.vinPor }).keepNv o).keepAon o

/-- Record a cause in RST_CAUSE (R78). -/
def causeBit (s : State) (bit : Nat) : State :=
  (s.setF ⟨DEV.RST_CAUSE, bit, 1⟩ 1).setF DEV.RST_CAUSE_LAST bit

/-- The operating time that has passed in DORMANT, which the LFO counts (Table 3-18): up to the RTC alarm where it is enabled, else a free value in ms (log entry 101). -/
def aged (s : State) : State :=
  if s.mode ≠ mDORMANT then s
  else
    let (w, s) := s.takeFree
    let alarm := 1000 * s.getN DEV.RTC_ALARM
    let ms := if s.getB DEV.WAKE_CTRL_RTC_EN ∧ alarm ≠ 0 ∧ s.dev.wakeOnly = false then w.toNat % alarm else w.toNat
    { s with dev := { s.dev with nowUs := s.dev.nowUs + 1000 * ms } }

/-- A device reset with its cause (R77, R78). -/
def deviceReset (s : State) (bit : Nat) : State := s.aged.resetAll.causeBit bit

/-- SHIP and DORMANT leave the PWM pins unpowered: they float (R548, Table 19-3). -/
def pwmFloat (s : State) : State := { s with phase := s.phase.map (fun x => { x with pwm := .float, shadow := .float }) }

end State

end Sys2Proof.Machine
end

