-- ==== Sys2Proof/Machine/SdmaBase.lean ====
section
/-! DEFINITION. The engine address space and SDMA descriptors (chapter 6): the words of a descriptor, its checks, its end. None of it raises a source. -/

namespace Sys2Proof.Machine

/-- CHn_STAT.STATE (Table 6-10). -/
abbrev dmIDLE : Nat := 0
abbrev dmACTIVE : Nat := 1
abbrev dmSTOPPING : Nat := 2
abbrev dmSTOPPED : Nat := 3
abbrev dmHALTED : Nat := 4
abbrev dmFENCED : Nat := 5

/-- The `n` bytes from engine address `a` on lie in one range of Table 6-1 (R180). -/
def engOk (a n : Nat) : Bool :=
  (0x20000000 ≤ a && a + n ≤ 0x20100000) || (0x21000000 ≤ a && a + n ≤ 0x210C0000)
    || (0x22000000 ≤ a && a + n ≤ 0x22030000) || (0x23000000 ≤ a && a + n ≤ 0x23004000)

/-- The address of port `n`'s link buffer (Table 6-1). -/
def linkBuf (n : Nat) : Nat := 0x22000000 + n * 0x2000

/-- A descriptor (Table 6-5). -/
structure Desc where
  own : Bool
  mode : Nat
  irq : Bool
  last : Bool
  src : Nat
  dst : Nat
  len : Nat
  idx : Nat
  esize : Nat
  ow : Nat
  count : Nat
  next : Nat
  /-- a reserved bit is not 0 -/
  resv : Bool

namespace State

def updSdma (s : State) (c : Nat) (f : SdmaSt → SdmaSt) : State := { s with sdma := s.sdma.modify c f }
def sdmaCh (s : State) (c : Nat) : SdmaSt := s.sdma.getD c SdmaSt.rest
def dmState (s : State) (c : Nat) : Nat := s.getF (SDMA.CH_STAT_STATE c)

/-- A channel can do its work of Table 6-6: its page is RUNNING, and it is neither HALTED nor FENCED (R200 to R202). -/
def dmUsable (s : State) (c : Nat) : Bool := s.pgRunning pSDMA && s.dmState c != dmHALTED && s.dmState c != dmFENCED

/-- A channel of a linear use of Table 6-6 moves: it is neither HALTED nor FENCED (R200, R201; log entry 119). -/
def dmMoves (s : State) (c : Nat) : Bool := s.dmState c != dmHALTED && s.dmState c != dmFENCED

def word (s : State) (a : Nat) : Nat := s.readLe a 4

/-- The descriptor at an engine address. -/
def desc (s : State) (a : Nat) : Desc :=
  let c := s.word a
  let w3 := s.word (a + 12)
  let w5 := s.word (a + 20)
  let w6 := s.word (a + 24)
  let w7 := s.word (a + 28)
  ⟨c.testBit 31, c / 2 ^ 26 % 4, c.testBit 25, c.testBit 24, s.word (a + 4), s.word (a + 8), w3 % 2 ^ 17, s.word (a + 16),
    2 ^ (w5 / 2 ^ 30 % 4), if w5.testBit 29 then 4 else 2, w5 % 2 ^ 16, w7 / 32 * 32,
    c / 2 ^ 28 % 8 ≠ 0 || c / 2 ^ 16 % 256 ≠ 0 || w3 / 2 ^ 17 ≠ 0 || w5 / 2 ^ 16 % 2 ^ 13 ≠ 0 || w6 / 2 ^ 17 % 2 ^ 10 ≠ 0 || w7 % 32 ≠ 0⟩

/-- The checks of R192 before any data moves: of the bases and of NEXT too; COUNT 0 in every mode. Linear mode moves LEN bytes (log entry 15). -/
def descOk (d : Desc) : Bool :=
  let tab := d.len == d.count * d.esize && engOk d.idx (d.count * d.ow) && d.idx % d.ow == 0
  !d.resv && d.count ≠ 0 && d.len ≠ 0 && d.len ≤ 65536 && (d.last || engOk d.next 32) &&
    (match d.mode with
     | 0 => engOk d.src d.len && engOk d.dst d.len
     | 1 => tab && engOk d.src 1 && engOk d.dst d.len && d.dst % d.esize == 0
     | 2 => tab && engOk d.dst 1 && engOk d.src d.len && d.src % d.esize == 0
     | _ => false)

/-- STATUS, then word 0 with OWN = 0 and the rest of CTRL unchanged (R194). -/
def descWrite (s : State) (a result xfer : Nat) : State :=
  let c := s.word a
  (s.writeLe (a + 24) 4 (2 ^ 31 + result * 2 ^ 28 + xfer)).writeLe a 4 (c % 2 ^ 31)

/-- The end of a descriptor: STATUS and word 0 written, the completion event of IRQ, CHn_NEXT at the next one, 0 after a LAST (R194, R197). -/
def descEnd (s : State) (c a result xfer : Nat) : State :=
  let d := s.desc a
  ((s.descWrite a result xfer).updSdma c (fun x => { x with desc := none, moved := 0, due := 0, events := x.events + d.irq.toNat })).setN (SDMA.CH_NEXT c) (if d.last then 0 else d.next)

/-- The condition of FS_SDMA_BUSERR is present while a channel stays HALTED (R428). -/
def sdmaCond (s : State) : State := s.setCond 241 ((List.range 16).any (fun c => s.dmState c == dmHALTED))

/-- The fence of a channel (R201): the descriptor in hand ends as under ABORT. -/
def fenceSdma (s : State) (c : Nat) : State :=
  if s.dmState c = dmFENCED then s
  else
    let s := match (s.sdmaCh c).desc with
      | some a => s.descEnd c a 2 (s.sdmaCh c).moved
      | none => s
    (s.setF (SDMA.CH_STAT_STATE c) dmFENCED).sdmaCond

end State

end Sys2Proof.Machine
end

