-- ==== Sys2Proof/Machine/SeqBase.lean ====
section
/-! DEFINITION. The sequencer's shared moves (chapter 13): the slots of a group, withdrawing an output, entering and advancing an ascent or a descent. None of them raises a source. -/

namespace Sys2Proof.Machine

/-- Slot states (Table 13-13). -/
abbrev slOFF : Nat := 0
abbrev slON_WAIT : Nat := 1
abbrev slENABLED : Nat := 2
abbrev slPG : Nat := 3
abbrev slOFF_WAIT : Nat := 4
abbrev slDISCHARGE : Nat := 5
abbrev slRETRY_WAIT : Nat := 6
abbrev slFENCED : Nat := 7

/-- Group states (Table 13-12). -/
abbrev grOFF : Nat := 0
abbrev grASCENDING : Nat := 1
abbrev grON : Nat := 2
abbrev grDESCENDING : Nat := 3
abbrev grREST : Nat := 4

namespace State

def slotSt (s : State) (i : Nat) : Nat := s.getF (SEQSLOT.SL_STAT_STATE i)
def grpSt (s : State) (g : Nat) : Nat := s.getF (SEQGRP.GRP_STAT_STATE g)
def slotEn (s : State) (i : Nat) : Bool := s.getB (SEQSLOT.SL_CFG_EN i)
def slotGrp (s : State) (i : Nat) : Nat := s.getF (SEQSLOT.SL_CFG_GROUP i)

/-- The enabled slots of a group (R397). -/
def grpSlots (s : State) (g : Nat) : List Nat := (List.range 32).filter (fun i => s.slotEn i && s.slotGrp i == g)

/-- The block sequences this group: SEQ, SEQSLOT and SEQGRPg are RUNNING (Table 2-12). -/
def grpLive (s : State) (g : Nat) : Bool := s.pgRunning pSEQ && s.pgRunning pSEQSLOT && s.pgRunning (pSEQGRP g)

/-- Change a slot's counters. -/
def updSlot (s : State) (i : Nat) (f : SeqSlotSt → SeqSlotSt) : State :=
  { s with seq := { s.seq with slots := s.seq.slots.modify i f } }

def seqSlot (s : State) (i : Nat) : SeqSlotSt := s.seq.slots.getD i SeqSlotSt.rest

/-- VIN_WARN is asserted (R80). -/
def vinWarn (s : State) : Bool := s.getB CLKPWR.VIN_MV_WARN

/-- A slot counts as off in a descent: OFF, or fenced with its output withdrawn (R406; log entry 40). -/
def slotIsOff (s : State) (i : Nat) : Bool := s.slotSt i == slOFF || s.slotSt i == slFENCED

/-- Withdraw a slot's output; it discharges until it is off (R399). -/
def withdraw (s : State) (i : Nat) : State :=
  ((s.updSlot i (fun _ => SeqSlotSt.rest)).setF (SEQSLOT.SL_STAT_EN_OUT i) 0
    |>.setF (SEQSLOT.SL_STAT_PG i) 0).setF (SEQSLOT.SL_STAT_STATE i) slDISCHARGE

/-- Enable a slot's output; its PG_TMO starts (R404). A slot enabled in its group's ascent joins the order of R405. -/
def enableSlot (s : State) (i : Nat) : State :=
  let g := s.slotGrp i
  let s := { s with seq := { s.seq with order := s.seq.order.modify g (fun l => l.filter (· ≠ i) ++ [i]) } }
  ((s.updSlot i (fun _ => SeqSlotSt.rest)).setF (SEQSLOT.SL_STAT_EN_OUT i) 1).setF (SEQSLOT.SL_STAT_STATE i) slENABLED

/-- Enable a slot whose turn has come; under VIN_WARN no further slot of an ascending group is enabled, and it waits (Table 13-6). -/
def enableNow (s : State) (i : Nat) : State :=
  if s.vinWarn ∧ s.grpSt (s.slotGrp i) = grASCENDING then
    (s.updSlot i (fun _ => { SeqSlotSt.rest with onDlyHeld := true })).setF (SEQSLOT.SL_STAT_STATE i) slON_WAIT
  else s.enableSlot i

/-- The slots of a list at up position `p`. -/
def atUp (s : State) (l : List Nat) (p : Nat) : List Nat := l.filter (fun i => s.getF (SEQSLOT.SL_CFG_UP_POS i) = p)
def atDn (s : State) (l : List Nat) (p : Nat) : List Nat := l.filter (fun i => s.getF (SEQSLOT.SL_CFG_DN_POS i) = p)

/-- The lowest position from `p` on that holds an enabled slot of the group (R397). -/
def nextUp (s : State) (g p : Nat) : Option Nat :=
  (List.range 32).find? (fun q => p ≤ q && !(s.atUp (s.grpSlots g) q).isEmpty)
def nextDn (s : State) (g p : Nat) : Option Nat :=
  (List.range 32).find? (fun q => p ≤ q && !(s.atDn (s.grpSlots g) q).isEmpty)

/-- Start the ON_DLY timers of the slots of a position; a fenced slot blocks the group (R406). -/
def startOnDly (s : State) (g : Nat) (l : List Nat) : State :=
  l.foldl (fun s i =>
    if s.slotSt i = slFENCED then s.setF (SEQGRP.GRP_STAT_BLOCKED g) 1
    else (s.updSlot i (fun _ => SeqSlotSt.rest)).setF (SEQSLOT.SL_STAT_STATE i) slON_WAIT) s

/-- Enter ASCENDING: the first position's ON_DLY timers start (Table 13-3). A group without an enabled slot is ON at once. -/
def enterAscend (s : State) (g : Nat) : State :=
  let s := { s with seq := { s.seq with
    order := s.seq.order.set g [], interrupted := s.seq.interrupted.set g false,
    rackAgain := s.seq.rackAgain.set g false } }
  let s := (s.setF (SEQGRP.GRP_STAT_UP_PEND g) 0).setF (SEQGRP.GRP_STAT_VIN_HELD g) 0
    |>.setF (SEQGRP.GRP_STAT_RACK_HELD g) 0 |>.setF (SEQGRP.GRP_STAT_BLOCKED g) 0
    |>.setF (SEQGRP.GRP_STAT_FAULTED g) 0
  match s.nextUp g 0 with
  | none => (s.incSat (SEQGRP.GRP_CNT_ASCENTS g)).setF (SEQGRP.GRP_STAT_STATE g) grON
  | some p =>
    (s.startOnDly g (s.atUp (s.grpSlots g) p)).setF (SEQGRP.GRP_STAT_POS g) p
      |>.setF (SEQGRP.GRP_STAT_STATE g) grASCENDING

/-- The group holds its up requests because RACKFLT_N is low or stuck (R412, R413). -/
def rackHolds (s : State) (g : Nat) : Bool :=
  s.getF (SEQGRP.GRP_CFG_RACK_ACT g) ≠ 0 && (s.getB SEQ.SEQ_STAT_RACK_LOW || s.getB SEQ.SEQ_STAT_RACK_STUCK)

/-- An up request of a group that is sequenced (R403, Table 13-3, R412, Table 13-6). -/
def upRequest (s : State) (g : Nat) : State :=
  let st := s.grpSt g
  if !s.grpLive g ∨ st = grASCENDING ∨ st = grON then s
  else
    let s := s.setF (SEQGRP.GRP_STAT_FAULTED g) 0
    if st = grDESCENDING ∨ st = grREST then
      (if st = grREST ∧ s.vinWarn then s.setF (SEQGRP.GRP_STAT_VIN_HELD g) 1 else s).setF (SEQGRP.GRP_STAT_UP_PEND g) 1
    else if s.rackHolds g then (s.setF (SEQGRP.GRP_STAT_RACK_HELD g) 1).setF (SEQGRP.GRP_STAT_UP_PEND g) 1
    else if s.vinWarn then (s.setF (SEQGRP.GRP_STAT_VIN_HELD g) 1).setF (SEQGRP.GRP_STAT_UP_PEND g) 1
    else s.enterAscend g

/-- A slot's turn to be withdrawn has come: its OFF_DLY timer starts. A slot in OFF_WAIT already waits, one discharging needs no more. -/
def startOffDly (s : State) (i : Nat) : State :=
  let st := s.slotSt i
  if st = slPG ∨ st = slENABLED then (s.updSlot i (fun x => { x with ticks := 0 })).setF (SEQSLOT.SL_STAT_STATE i) slOFF_WAIT
  else if st = slRETRY_WAIT then s.setF (SEQSLOT.SL_STAT_STATE i) slDISCHARGE
  else if st = slON_WAIT then s.setF (SEQSLOT.SL_STAT_STATE i) slOFF
  else s

/-- The newest enabled slot of an interrupted ascent that is not yet off, given the slots newest first (R405). -/
def newestOn (s : State) : List Nat → Option Nat
  | [] => none
  | i :: l => if s.slotIsOff i then s.newestOn l else some i

/-- The turn of the slots at down position `p` of a group (R404). -/
def descTurn (s : State) (g p : Nat) : State :=
  ((s.atDn (s.grpSlots g) p).foldl startOffDly s).setF (SEQGRP.GRP_STAT_POS g) p

/-- Enter REST, whose T_REST starts, or stay DESCENDING with the next slots' turn; a turn that needs no withdrawal passes on at once (R404, R405). -/
def descSteps : Nat → Nat → State → State
  | 0, _, s => s
  | n + 1, g, s =>
    if s.grpSt g ≠ grDESCENDING then s
    else if (s.grpSlots g).all s.slotIsOff then
      { s.setF (SEQGRP.GRP_STAT_STATE g) grREST with seq := { s.seq with restTicks := s.seq.restTicks.set g 0 } }
    else if s.seq.interrupted.getD g false then
      match s.newestOn (s.seq.order.getD g []).reverse with
      | some i => if (s.startOffDly i).slotIsOff i then descSteps n g (s.startOffDly i) else s.startOffDly i
      | none => s
    else if (s.atDn (s.grpSlots g) (s.getF (SEQGRP.GRP_STAT_POS g))).all s.slotIsOff then
      match s.nextDn g (s.getF (SEQGRP.GRP_STAT_POS g) + 1) with
      | some p => descSteps n g (s.descTurn g p)
      | none => s
    else s

/-- A descending group goes as far as it can: at most 32 slots or positions, then REST. -/
def descAdvance (s : State) (g : Nat) : State := descSteps 34 g s

/-- Enter DESCENDING from ASCENDING (R405) or ON (R404). -/
def enterDescend (s : State) (g : Nat) : State :=
  let st := s.grpSt g
  if st = grASCENDING then
    let s := { s with seq := { s.seq with interrupted := s.seq.interrupted.set g true } }
    let s := (s.grpSlots g).foldl (fun s i =>
      if s.slotSt i = slON_WAIT then s.setF (SEQSLOT.SL_STAT_STATE i) slOFF
      else if s.slotSt i = slENABLED ∨ s.slotSt i = slRETRY_WAIT then s.withdraw i else s) s
    (s.setF (SEQGRP.GRP_STAT_BLOCKED g) 0).setF (SEQGRP.GRP_STAT_STATE g) grDESCENDING |>.descAdvance g
  else if st = grON then
    let s := { s with seq := { s.seq with interrupted := s.seq.interrupted.set g false } }
    let s := s.setF (SEQGRP.GRP_STAT_STATE g) grDESCENDING
    match s.nextDn g 0 with
    | some p => (s.descTurn g p).descAdvance g
    | none => s.descAdvance g
  else s

/-- A down request (R403, Table 13-3): REST drops the latched up request. -/
def downRequest (s : State) (g : Nat) : State :=
  let st := s.grpSt g
  if st = grREST then s.setF (SEQGRP.GRP_STAT_UP_PEND g) 0
  else if st = grOFF then ((s.setF (SEQGRP.GRP_STAT_UP_PEND g) 0).setF (SEQGRP.GRP_STAT_VIN_HELD g) 0).setF (SEQGRP.GRP_STAT_RACK_HELD g) 0
  else s.enterDescend g

/-- GROUP_OFF of a group, for a slot (0xFF none): FAULTED and FAULT_SLOT are set, and the group descends (Table 13-4, R410). -/
def groupOff (s : State) (g slot : Nat) : State :=
  let was := s.grpSt g
  let s := s.enterDescend g
  let s := if was = grASCENDING ∨ was = grON then s.incSat (SEQGRP.GRP_CNT_FAULT_OFFS g) else s
  (s.setF (SEQGRP.GRP_STAT_FAULT_SLOT g) slot).setF (SEQGRP.GRP_STAT_FAULTED g) 1

/-- The fence of a sequencer slot: its output is withdrawn at once and it reads FENCED (R406). -/
def fenceSeqSlot (s : State) (i : Nat) : State :=
  let g := s.slotGrp i
  let st := s.slotSt i
  let s := s.withdraw i
  let s := if s.slotEn i ∧ s.grpSt g = grASCENDING ∧ (st = slON_WAIT ∨ st = slENABLED ∨ st = slRETRY_WAIT ∨
      s.getF (SEQSLOT.SL_CFG_UP_POS i) = s.getF (SEQGRP.GRP_STAT_POS g))
    then s.setF (SEQGRP.GRP_STAT_BLOCKED g) 1 else s
  (s.setF (SEQSLOT.SL_STAT_STATE i) slFENCED).descAdvance g

/-- The fence of a sequencer slot is cleared (R406): OFF, and enabled at once where its group is BLOCKED on it. -/
def unfenceSeqSlot (s : State) (i : Nat) : State :=
  let g := s.slotGrp i
  let s := (s.updSlot i (fun _ => SeqSlotSt.rest)).setF (SEQSLOT.SL_STAT_STATE i) slOFF
  if s.slotEn i ∧ s.grpSt g = grASCENDING ∧ s.getB (SEQGRP.GRP_STAT_BLOCKED g) ∧
      s.getF (SEQSLOT.SL_CFG_UP_POS i) = s.getF (SEQGRP.GRP_STAT_POS g) then
    let s := s.setB (SEQGRP.GRP_STAT_BLOCKED g)
      ((s.atUp (s.grpSlots g) (s.getF (SEQGRP.GRP_STAT_POS g))).any (fun j => s.slotSt j == slFENCED))
    s.enableNow i
  else s

/-- The slot behind a RAIL or EFUSE page that stops records a host stop and leaves PG without a reaction (R402). -/
def hostStop (s : State) (i : Nat) : State :=
  if s.slotEn i then
    let s := if s.slotSt i = slPG then
        ((s.updSlot i (fun _ => SeqSlotSt.rest)).setF (SEQSLOT.SL_STAT_EN_OUT i) 0 |>.setF (SEQSLOT.SL_STAT_PG i) 0).setF (SEQSLOT.SL_STAT_STATE i) slOFF
      else s
    s.setF (SEQSLOT.SL_STAT_HOST_STOP i) 1
  else s

/-- The page behind the slot runs again: an on request that the slot's group still makes is renewed, with a new PG_TMO (R402). -/
def hostRenew (s : State) (i : Nat) : State :=
  let g := s.slotGrp i
  let again := s.slotSt i = slENABLED ∨
    (s.slotSt i = slOFF ∧ (s.grpSt g = grASCENDING ∨ s.grpSt g = grON) ∧ (s.seq.order.getD g []).contains i)
  if s.slotEn i ∧ s.getB (SEQSLOT.SL_STAT_HOST_STOP i) then
    let s := s.setF (SEQSLOT.SL_STAT_HOST_STOP i) 0
    if again then s.enableNow i else s
  else s

/-- SEQ_STAT.RACK_EXT: the line is low while this controller does not pull. -/
def rackExt (s : State) : State :=
  s.setB SEQ.SEQ_STAT_RACK_EXT (s.getB SEQ.SEQ_STAT_RACK_LOW && !s.getB SEQ.SEQ_STAT_RACK_SELF)

end State

end Sys2Proof.Machine
end

