-- ==== Sys2Proof/Machine/Fault.lean ====
section
/-! DEFINITION. The fault collector (chapter 14): the raise of a source with the reaction of its severity, fences, the safe and the takeover reaction, mode transitions, which raise source 11 themselves. -/

namespace Sys2Proof.Machine

/-- The fence units of Table 14-3. -/
inductive FenceUnit where
  | none
  | string (k : Nat)
  | port (n : Nat)
  | slot (i : Nat)
  | rail (r : Nat)
  | phase (p : Nat)
  | efuse (c : Nat)
  | seqSlot (i : Nat)
  | estSlice (k : Nat)
  | estProfile (p : Nat)
  | sdma (c : Nat)
  | sram (half : Nat)
  deriving DecidableEq, Repr

/-- How a source is raised: by itself, by an injected access (R438), or without a Cairn record of its own (R78, R493). -/
inductive RaiseHow where
  | plain
  | injected
  | noRecord
  deriving DecidableEq, Repr

/-- The little-endian number of DATA bytes from `ofs` on. -/
def dataLe (d : List Nat) (ofs n : Nat) : Nat := leNat ((d.drop ofs).take n)

/-- The SRAM bank half of an engine address (R571). -/
def sramHalf (a : Nat) : Nat := (a - 0x20000000) / 0x8000

/-- The halves that can be fenced (Table 14-11). -/
def halfFenceable (h : Nat) : Bool := (22 ≤ h && h ≤ 25) || (28 ≤ h && h ≤ 31)

/-- The unit that a raise names (Table 14-2). FS_EST_SLICE_UE names its string, or 0x80 + p for a profile, in byte 0 (log entry 16). -/
def unitOf (src : Nat) (d : List Nat) : FenceUnit :=
  let b := d.getD 0 0
  if src = 1 then (if b = 0 ∧ halfFenceable (sramHalf (dataLe d 1 4)) then .sram (sramHalf (dataLe d 1 4)) else .none)
  else if 16 ≤ src ∧ src < 64 then .port ((src - 16) / 2)
  else if 64 ≤ src ∧ src < 88 then .string (src - 64)
  else if src ∈ [88, 89, 90, 91, 92, 94, 98] then .slot (b % 64)
  else if 112 ≤ src ∧ src < 128 then .phase (src - 112)
  else if 128 ≤ src ∧ src < 136 then .rail (src - 128)
  else if 144 ≤ src ∧ src < 152 then .efuse (src - 144)
  else if 152 ≤ src ∧ src < 184 then .seqSlot (src - 152)
  else if src = 195 then (if 0x80 ≤ b then .estProfile (b % 8) else .estSlice (b % 24))
  else if src = 241 then .sdma (b % 16)
  else .none

/-- The severity at which a raise reacts (R426, R427, R438, R571). -/
def effSev (cfg src : Nat) (d : List Nat) (how : RaiseHow) : Nat :=
  let cfg := min cfg 5
  if how = .injected then min cfg 2
  else if src = 1 ∧ cfg = 3 then
    (if d.getD 0 0 ≠ 0 then 2 else if halfFenceable (sramHalf (dataLe d 1 4)) then 3 else 5)
  else if 16 ≤ src ∧ src < 64 ∧ src % 2 = 0 ∧ d.getD 0 0 = 3 then max cfg 2
  else if cfg = 3 ∧ unitOf src d = .none then 2
  else cfg

namespace State

/-- A port that leaves RUNNING, or loses its link, spoils the open set of its string (Table 5-2, cause 2). -/
def markDown (s : State) (n : Nat) : State :=
  { s with sample := { s.sample with set_ := s.sample.set_.map (fun o => { o with down := o.down.set n true }) } }

/-- A page's unit is fenced (Table 2-9): FENCED from any state but OFF. -/
def pgFence (s : State) (p : Nat) : State :=
  if s.pgState p = psOFF then s
  else (((if 0x010 ≤ p ∧ p ≤ 0x027 then s.markDown (p - 0x010) else s).setF (pgCtrlRun p) 0).setF (pgStatBusy p) 0).setF (pgStatState p) psFENCED

/-- The fence of a rail (Table 11-1). -/
def fenceRail (s : State) (r : Nat) : State :=
  if s.pgState (pRAIL r) = psFENCED then s
  else (s.railFaultOff r .mid).pgFence (pRAIL r)

/-- DATA of FS_PHASE_p and FS_RAIL_r (R376). -/
def phaseData (s : State) (p reason : Nat) : List Nat := reason :: leBytes 4 (s.getN (PHASE.I_PH p))
def railData (s : State) (r reason : Nat) : List Nat := reason :: leBytes 4 (s.getN (RAIL.I_RAIL r))

/-- A unit is fenced already. -/
def isFenced (s : State) : FenceUnit → Bool
  | .none => false
  | .string k => s.shelf.strFence.getD k false
  | .port n => s.pgState (pYPORT n) = psFENCED
  | .slot i =>
    if 32 ≤ i ∧ i < 40 then s.pgState (pRAIL (i - 32)) = psFENCED
    else if 40 ≤ i ∧ i < 56 then s.phState (i - 40) = phFENCED
    else s.slotFenced i
  | .rail r => s.pgState (pRAIL r) = psFENCED
  | .phase p => s.phState p = phFENCED
  | .efuse c => s.pgState (pEFUSE c) = psFENCED
  | .seqSlot i => s.slotSt i = slFENCED
  | .estSlice k => s.shelf.estFence.getD k false
  | .estProfile p => (List.range 24).all (fun k => s.getF (ESTSTR.STR_CFG_PROFILE k) ≠ p || s.shelf.estFence.getD k false)
  | .sdma c => s.dmState c = dmFENCED
  | .sram h => s.dev.sramFenced.contains h

/-- A string's gate goes to 0 at once (Table 8-3), and its part of a cornice with it (Table 9-5). -/
def gateZero (s : State) (k : Nat) : State :=
  ({ s with shelf := { s.shelf with gate := s.shelf.gate.set k 0 } }).setReg (CORNICE.F k) 0

/-- The effect of a fence on its unit (Table 14-3); rail and balance slots pass theirs on in `raiseN`. -/
def fenceUnit (s : State) : FenceUnit → State
  | .none => s
  | .string k => ({ s with shelf := { s.shelf with strFence := s.shelf.strFence.set k true } }).gateZero k
  | .port n => s.pgFence (pYPORT n)
  | .slot i =>
    if 32 ≤ i ∧ i < 40 then (s.setF (RAIL.RAIL_STAT_LAST_REASON (i - 32)) 5).fenceRail (i - 32)
    else if 40 ≤ i ∧ i < 56 then (s.setF (PHASE.PH_STAT_REASON (i - 40)) 5).fencePhase (i - 40)
    else
      let s := s.fenceSlot i
      if i < 8 ∧ i = s.getF SHELF.REG_STAT_ACT_SLOT then s.cnCollapse ocFAULT else s
  | .rail r => s.fenceRail r
  | .phase p => s.fencePhase p
  | .efuse c => (s.fenceEfuse c).pgFence (pEFUSE c)
  | .seqSlot i => s.fenceSeqSlot i
  | .estSlice k => ({ s with shelf := { s.shelf with estFence := s.shelf.estFence.set k true } }).gateZero k
  | .estProfile p => forAll 24 (fun s k =>
      if s.getF (ESTSTR.STR_CFG_PROFILE k) = p then
        ({ s with shelf := { s.shelf with estFence := s.shelf.estFence.set k true } }).gateZero k
      else s) { s with shelf := { s.shelf with profUe := s.shelf.profUe.set p true } }
  | .sdma c => s.fenceSdma c
  | .sram h => { s with dev := { s.dev with sramFenced := s.dev.sramFenced ++ [h] } }

/-- Follow-up raises of a fence (R371): a fenced rail slot raises FS_RAIL_r, a fenced balance slot FS_PHASE_p, with reason 0x05. -/
def fenceRaises (s : State) : FenceUnit → List (Nat × List Nat)
  | .slot i =>
    if 32 ≤ i ∧ i < 40 then [(128 + (i - 32), s.railData (i - 32) 5)]
    else if 40 ≤ i ∧ i < 56 then [(112 + (i - 40), s.phaseData (i - 40) 5)]
    else []
  | _ => []

/-- The causes of hold-up as DATA byte 1 of FS_HOLDUP (Table 8-6). -/
def huCauses (s : State) : Nat := s.getF HOLDUP.HU_STAT_CAUSE

/-- FCOL_STAT and FCOL_FIRST at a raise that reacts at `sev` (R433, R434). -/
def collect (s : State) (src sev : Nat) : State :=
  let s :=
    if s.getB FCOL.FCOL_STAT_HANDLING then s.incSat FCOL.FCOL_STAT_NEST_COUNT
    else if 3 ≤ sev then
      ((s.setF FCOL.FCOL_FIRST_SRC src).setF FCOL.FCOL_FIRST_SEV sev).setF FCOL.FCOL_STAT_HANDLING 1
    else s
  let s := if 3 ≤ sev then { s with img := { s.img with sevSeen := true } } else s
  s.setF FCOL.FCOL_STAT_SEV_MAX (max (s.getF FCOL.FCOL_STAT_SEV_MAX) sev)

/-- The safe reaction without its mode transition (R424). -/
def safeReact (s : State) : State :=
  let s := { s with dev := { s.dev with ackSinceSafe := false }, shelf := { s.shelf with safeNow := true } }
  let s := (s.setF DEV.MODE_STAT_SHELF_INHIBIT 1).cnCollapse ocFAULT
  forAll 4 (fun s g => if s.getBit FCOL.SAFE_CFG g then s.groupOff g 0xFF else s) s

/-- This controller's partner can take over (R425). -/
def partnerTakes (s : State) : Bool :=
  s.isPair && s.getB RIDGE.PAIR_STAT_PARTNER_HEALTHY && s.getF RIDGE.PAIR_STAT_PARTNER_MODE == mWATCH

/-- Record, host event and trace entry of a raise (R422, R429, R499). -/
def logRaise (s : State) (src sev : Nat) (data : List Nat) (how : RaiseHow) : State :=
  let nested := s.getB FCOL.FCOL_STAT_HANDLING
  let kind := if how = .injected then kINJECTED else kFAULT
  let s := s.traceAdd src sev kind nested data
  if sev = 0 then s
  else
    let s := s.collect src sev
    let s := if how = .noRecord then s else s.cairnStage src sev kind nested data
    if 2 ≤ sev then s.setEvt src else s

/-- The raise of a source with its reaction (R421 to R438). `fuel` bounds the raises that a reaction makes itself. -/
def raiseN : Nat → State → Nat → List Nat → RaiseHow → State
  | 0, s, src, _, _ => s.setAct src true
  | n + 1, s, src, data, how =>
    let s := s.setAct src true
    let u := unitOf src data
    let sev := effSev (s.getF (FCOL_SEV.SEV_SEV src)) src data how
    let forced := how ≠ .injected ∧ 16 ≤ src ∧ src < 64 ∧ src % 2 = 0 ∧ data.getD 0 0 = 3
    let s := s.logRaise src sev data how
    -- FENCE, which SAFE and TAKEOVER include (R422, R430), and the fence of R124 whatever the severity
    let s :=
      if (3 ≤ sev ∧ u ≠ .none) ∨ forced then
        let s := if s.isFenced u then s
          else
            let s := s.fenceUnit u
            (s.fenceRaises u).foldl (fun s r => raiseN n s r.1 r.2 .plain) s
        if s.mode = mRUN then
          raiseN n ((s.setF DEV.MODE_STAT_PREV_MODE mRUN).setF DEV.MODE_STAT_MODE mDEGRADED) 11 [mDEGRADED, mRUN, 0] .plain
        else s
      else s
    -- TAKEOVER (R425); a later one restarts nothing (R434)
    let again := s.dev.takeoverHeld
    let s := if sev = 5 then { s with dev := { s.dev with takeoverHeld := true } } else s
    if sev = 5 ∧ again then s
    else if sev = 5 ∧ s.isPair ∧ s.getB RIDGE.PAIR_STAT_ACTIVE = false then s.deviceReset rcSEVERITY
    else if sev = 5 ∧ s.partnerTakes then
      ({ s with pair := { s.pair with yielded := true } }).setF RIDGE.PAIR_STAT_BELAY_OWN 0
    else
      -- SAFE (R424)
      let s :=
        if 4 ≤ sev then
          let m := s.mode
          let s := s.safeReact
          let s :=
            if m = mHOLDUP then
              raiseN n (s.setF HOLDUP.HU_STAT_STATE 0) 109 [5, s.huCauses] .plain
            else s
          if m = mRUN ∨ m = mHOLDUP then
            raiseN n ((s.setF DEV.MODE_STAT_PREV_MODE m).setF DEV.MODE_STAT_MODE mDEGRADED) 11 [mDEGRADED, m, 0] .plain
          else s
        else s
      -- the recorder's fill (R494)
      let s :=
        if 32704 ≤ s.cairnN ∧ s.getCond 227 = false then
          raiseN n (s.setCond 227 true) 227 (leBytes 4 (s.getN CAIRN.LOST)) .plain
        else s
      if 32768 ≤ s.cairnN ∧ s.getCond 228 = false then
        raiseN n (s.setCond 228 true) 228 (leBytes 4 (s.getN CAIRN.LOST)) .noRecord
      else s

/-- Raise a source. -/
def raise (s : State) (src : Nat) (data : List Nat) : State := raiseN 8 s src data .plain

/-- Raise an L source: its condition is present now (R428). -/
def raiseL (s : State) (src : Nat) (data : List Nat) : State := (s.setCond src true).raise src data

/-- The condition of an L source ends: its ACT bit clears (R428). -/
def endL (s : State) (src : Nat) : State := (s.setCond src false).setAct src false

/-- The recorder's fill after a record that no raise makes (R494). -/
def checkFill (s : State) : State :=
  let s :=
    if 32704 ≤ s.cairnN ∧ s.getCond 227 = false then (s.setCond 227 true).raise 227 (leBytes 4 (s.getN CAIRN.LOST)) else s
  if 32768 ≤ s.cairnN ∧ s.getCond 228 = false then
    raiseN 8 (s.setCond 228 true) 228 (leBytes 4 (s.getN CAIRN.LOST)) .noRecord
  else s

/-- The plant timer starts at RUN entry (R272). -/
def runEntry (s : State) (m : Nat) : State :=
  if m = mRUN then { s with shelf := { s.shelf with plantOn := true, plantUs := 0 } } else s

/-- A mode transition (Table 3-2): PREV_MODE, MODE, and FS_DEV_MODE (Table 14-2, index 11). -/
def setMode (s : State) (m : Nat) : State :=
  let old := s.mode
  let s := s.runEntry m
  ((s.setF DEV.MODE_STAT_PREV_MODE old).setF DEV.MODE_STAT_MODE m).raise 11 [m, old, 0]

/-- A unit is fenced anywhere in the device (R432). -/
def anyFence (s : State) : Bool :=
  allPages.any (fun p => s.pgState p == psFENCED)
    || s.shelf.strFence.any id || s.shelf.estFence.any id
    || (List.range 64).any s.slotFenced
    || (List.range 16).any (fun p => s.phState p == phFENCED)
    || (List.range 32).any (fun i => s.slotSt i == slFENCED)
    || (List.range 16).any (fun c => s.dmState c == dmFENCED)
    || !s.dev.sramFenced.isEmpty

/-- RUN, or DEGRADED where Table 3-2 calls for it: a fence, or SHELF_INHIBIT. -/
def runOrDegraded (s : State) : Nat := if s.anyFence || s.inhibit then mDEGRADED else mRUN

end State

end Sys2Proof.Machine
end

