-- ==== Sys2Proof/Machine/VceEval.lean ====
section
/-! DEFINITION. One evaluation of a VCE slot with its faults (chapter 7): inputs, bank swap, preset, fences, the cornice fold. -/

namespace Sys2Proof.Machine

/-- What an evaluation is given beside the slot's own words (R215): the error ADC's result, y, the reference, FF, the cornice term, the amount to fold (R291), the held value of a shelf or phase hold, and a mismatch of the second copy (R237). -/
structure EvalIn where
  d : Option Word
  y : Word
  ref : Word
  ff : Word
  cn : Option Word
  fold : Option Word
  hold : Option Word
  upset : Bool

/-- The check of a bank before a swap (R233): the index of the first failing word of Table 7-14. -/
def bankBad (c : Coefs) : Option Nat :=
  let l := [c.w, c.kp, c.ki, c.b10, c.b11, c.b12, c.a11, c.a12, c.b20, c.b21, c.b22, c.a21, c.a22, c.umin, c.umax, c.dumax]
  let fin := (List.range 16).find? (fun k => !F32.isFinite (l.getD k 0))
  let ord := if F32.lt (F32.fl c.umax) (F32.fl c.umin) then some 13 else none
  let neg := if F32.lt (F32.fl c.dumax) 0 then some 15 else none
  match fin, ord with
  | some a, some b => some (min a b)
  | some a, none => some a
  | none, some b => some b
  | none, none => neg

namespace State

/-- V_BUS of R249: D0's cycle result, or D2's in the fallback. -/
def vBus (s : State) : Word := if s.shelf.srcD2 then s.getReg SAMPLE.V_BUS2 else s.getReg SAMPLE.V_BUS

/-- I_SHELF and P_SHELF (Table 7-3). -/
def iShelf (s : State) : Word := s.getReg SAMPLE.I_SHELF
def pShelf (s : State) : Word := F32.mul s.vBus s.iShelf

/-- The mean over a list, binary32; the spec states none of no element (log entry 88). -/
def meanOf (l : List Word) : Word := if l = [] then Config.unstated 0 0 else F32.div (F32.sum l) (F32.ofNat l.length)

/-- PHASE_MEAN: the mean of the rail's ACTIVE phases (R368). -/
def phaseMean (s : State) (p : Nat) : Word :=
  match s.railOf p with
  | some r => meanOf ((s.phIn r phACTIVE).map (fun q => s.getReg (PHASE.I_PH q)))
  | none => 0

/-- y of a slot (Table 7-3). -/
def slotY (s : State) (i : Nat) : Word :=
  let x := s.getF (VSLOT.SLOT_CFG_IDX i)
  match s.getF (VSLOT.SLOT_CFG_YSRC i) with
  | 1 => s.vBus
  | 2 => s.iShelf
  | 3 => s.pShelf
  | 4 => s.shelf.iMeas.getD x 0
  | 6 => s.getReg (PHASE.I_PH (x % 16))
  | 7 => s.getReg (VSLOT.OUT x)
  | _ => s.getReg (VSLOT.Y_VAL i)

/-- The reference of a slot (Table 7-3). -/
def slotRef (s : State) (i : Nat) : Word :=
  let x := s.getF (VSLOT.SLOT_CFG_IDX i)
  match s.getF (VSLOT.SLOT_CFG_RSRC i) with
  | 1 => s.shelf.refA.getD x 0
  | 2 => s.phaseMean (x % 16)
  | 3 => (s.shelf.roleRef.getD i none).getD (s.getReg (VSLOT.REF i))
  | _ => s.getReg (VSLOT.REF i)

/-- The inputs of a slot that is neither a rail's nor held. -/
def evalIn (s : State) (i : Nat) : EvalIn := ⟨none, s.slotY i, s.slotRef i, s.getReg (VSLOT.FF i), none, none, none, false⟩

/-- The written mode: code 3 acts as MANUAL. -/
def slotMode (s : State) (i : Nat) : Nat := if s.getF (VSLOT.SLOT_CTRL_MODE i) = 3 then 1 else s.getF (VSLOT.SLOT_CTRL_MODE i)

/-- The output of a fenced slot by FENCE_ACT (R217). -/
def fencedOut (s : State) (i : Nat) : Word :=
  let u := s.getReg (VSLOT.OUT i)
  let dm := F32.fl (s.coefs i (s.slotBankB i)).dumax
  match s.getF (VSLOT.SLOT_CFG_FENCE_ACT i) with
  | 0 => u
  | 1 => 0
  | _ =>
    if !F32.isFinite dm || F32.le dm 0 || !F32.lt dm (F32.abs (F32.fl u)) then 0
    else if F32.isNeg u then F32.addF u dm else F32.subF u dm

/-- A bit of WRAP_FLAG or NAN_FLAG. -/
def flagSlot (s : State) (lo hi i : Nat) : State := s.putBit (if i < 32 then lo else hi) (i % 32) true

/-- A slot's bank swap ends with its evaluation (R233). -/
def swapDone (s : State) (i : Nat) (swap : Bool) : State :=
  if swap then
    (s.setF (VSLOT.SLOT_STAT_ACT_BANK i) (1 - s.getF (VSLOT.SLOT_STAT_ACT_BANK i))).setF (VSLOT.SLOT_STAT_SWAP_PEND i) 0
  else s

/-- The output from which a slot goes on: that of a handover's source, H of a shelf hold that has ended, else its OUT (R219, R220, R250). -/
def outDue (s : State) (i : Nat) : Word := (s.vslot i).target.getD ((s.vslot i).preH.getD (s.getReg (VSLOT.OUT i)))

/-- The evaluation at the confirming boundary has met the fold of `f` (R291), of which the clamp of step 10 has removed `cut`: what is folded leaves Φ_req and every F_k, the rest and what the clamp removed collapse (R292). -/
def cnFold (s : State) (f cut : Word) : State :=
  let removed := if F32.isZero f || F32.isZero cut || F32.isNeg cut != F32.isNeg f then 0 else F32.clampAbs (F32.abs f) cut
  let rest := F32.add (F32.sub (s.getReg CORNICE.PHI_APP) f) removed
  let s := s.cnResolve (s.getF CORNICE.CN_STAT_OUTCOME) f
  let s := s.updCn (fun c => { c with fold := none, rampFrom := rest, rampUs := 0 })
  let s := s.setReg CORNICE.PHI_REQ rest
  if F32.isZero rest then (s.setF CORNICE.CN_STAT_OPEN 0).setF CORNICE.CN_STAT_STATE cnIDLE
  else s.setF CORNICE.CN_STAT_STATE cnCOLLAPSING

/-- An evaluation that commits nothing folds nothing (R291): the whole amount collapses. -/
def cnHeld (s : State) (fold : Option Word) : State := if fold.isSome then (s.cnFold 0 0).checkFill else s

/-- An evaluation of a slot (R209 to R219, R233, R237). -/
def evalSlot (s : State) (i : Nat) (x : EvalIn) : State :=
  if s.slotFenced i then s.setReg (VSLOT.OUT i) (s.fencedOut i)
  else
    let v := s.vslot i
    let pend := i < 8 && s.getB (VSLOT.SLOT_STAT_SWAP_PEND i) && v.swapDue
    let bad := if pend then bankBad (s.coefs i (!s.slotBankB i)) else none
    let s := match bad with
      | some k =>
        ((s.setF (VSLOT.SLOT_STAT_SWAP_PEND i) 0).updVs i (fun v => { v with swapPreset := false, swapDue := false })).raise 95 [i, k]
      | none => s
    let swap := pend && bad.isNone
    let c := s.coefs i (s.slotBankB i != swap)
    let s := if v.stateClr then
        (s.putLawState i { s.lawState i with s11 := 0, s12 := 0, s21 := 0, s22 := 0 }).updVs i (fun v => { v with stateClr := false })
      else s
    let m := s.slotMode i
    let auto := m = 0 ∧ x.hold = none
    let pre := v.needPreset ∨ v.preH.isSome ∨ s.getF (VSLOT.SLOT_STAT_MODE_ACT i) ≠ 0 ∨ (swap ∧ v.swapPreset)
    let st := s.lawState i
    let st := match x.fold with
      | some p => { st with out := F32.addF st.out p }
      | none => st
    let lm : LawMode := match x.hold with
      | some h => .manual h
      | none =>
        if m = 2 then .track (s.getReg (VSLOT.OUT (s.getF (VSLOT.SLOT_CTRL_TRK_SLOT i))))
        else if m = 1 then .manual (s.getReg (VSLOT.UMAN i))
        else if pre then .preset (s.outDue i)
        else .auto
    let shift := s.getF (VSLOT.SLOT_CFG_INT_SHIFT i)
    let act := if x.hold = none then m else 1
    let res := lawEval c ⟨x.d, x.y, x.ref, x.ff, match x.fold with
      | some p => some p
      | none => x.cn, shift⟩ lm st
    match res with
    | .held k =>
      let s := (s.updVs i (fun v => { v with needPreset := pre, swapPreset := false, swapDue := false })).incSat (VSLOT.SLOT_CNT_NAN i)
      let s := (s.flagSlot VCE.NAN_FLAG_LO VCE.NAN_FLAG_HI i).swapDone i swap
      let s := ((s.setF (VSLOT.SLOT_STAT_MODE_ACT i) act).setF (VSLOT.SLOT_STAT_HELD i) 1).cnHeld x.fold
      s.raise (if i < 8 then 91 else 90) [i, k]
    | .done st' e wrap bump clamped rl cut =>
      if x.upset ∧ i < 8 ∧ s.getB (VSLOT.SLOT_CFG_PAIR i) then
        let s := (s.updVs i (fun v => { v with needPreset := pre, swapPreset := false, swapDue := false })).swapDone i swap
        let s := (s.setF (VSLOT.SLOT_STAT_MODE_ACT i) act).setF (VSLOT.SLOT_STAT_HELD i) 1
        let s := ((s.setF (VSLOT.SLOT_STAT_CMP_FAIL i) 1).putBit VCE.CMP_FLAG i true).cnHeld x.fold
        s.raise 94 [i, s.getF (VSLOT.SLOT_STAT_LANE i) + 16 * s.getF (VSLOT.SLOT_STAT_LANE2 i)]
      else
        let sum := match x.fold with
          | some p => st'.int + F32.toIntShift p shift
          | none => st'.int
        let wrap := match wrap with
          | some w => some w
          | none => if wrap48 sum = sum then none else some (0 < sum)
        let s := (s.updVs i (fun v => { v with needPreset := !auto && v.needPreset, target := none, preH := none, swapPreset := false, swapDue := false })).swapDone i swap
        let s := s.putLawState i { st' with int := wrap48 sum }
        let s := ((s.setReg (VSLOT.E i) e).setReg (VSLOT.Y i) x.y).setReg (VSLOT.REF_USED i) x.ref
        let s := (s.setN (VSLOT.EVALS i) (s.getN (VSLOT.EVALS i) + 1)).setF (VSLOT.SLOT_STAT_CMP_FAIL i) 0
        let s := ((s.setB (VSLOT.SLOT_STAT_CLAMPED i) clamped).setB (VSLOT.SLOT_STAT_RATE_LIM i) rl).setF (VSLOT.SLOT_STAT_HELD i) 0
        let s := s.setF (VSLOT.SLOT_STAT_MODE_ACT i) act
        let s := match x.fold with
          | some p => (s.cnFold p cut).checkFill
          | none => s
        let s := if bump then (s.incSat (VSLOT.WRAP_CNT_BUMP i)).raise 96 [i] else s
        match wrap with
        | some up =>
          let s := (s.incSat (VSLOT.WRAP_CNT_WRAP i)).flagSlot VCE.WRAP_FLAG_LO VCE.WRAP_FLAG_HI i
          s.raise (if i < 8 then 89 else 88) [i, if up then 1 else 0xFF]
        | none => s

end State

end Sys2Proof.Machine
end

