-- ==== Sys2Proof/Machine/ShelfBase.lean ====
section
/-! DEFINITION. The shelf's shared moves (chapters 7 and 8): roles and the active regulation slot, supplied references, handovers, gates and limits of the strings, the water-filling division. None of them raises a source. -/

namespace Sys2Proof.Machine

/-- Roles (Table 8-1); 0 is no role. -/
abbrev roBUSV : Nat := 1
abbrev roHOLD : Nat := 2
abbrev roPCMD : Nat := 3

/-- A full gate, in 10^-9 (R253). -/
abbrev gateOne : Nat := 1000000000

/-- The division of R255: amounts λ·g·w bounded by the heads, all magnitudes. `gw` are g·w in any common unit, heads and amount in 2^-149. Each pass fixes the strings that their head bounds. -/
def fillPass : Nat → List (Nat × Nat) → Nat → List Bool → List Bool
  | 0, _, _, fixed => fixed
  | n + 1, l, amount, fixed =>
    let free := (l.zip fixed).filter (fun x => !x.2)
    let w := (free.map (fun x => x.1.1)).sum
    let used := (((l.zip fixed).filter (fun x => x.2)).map (fun x => x.1.2)).sum
    let rem := amount - used
    fillPass n l amount ((l.zip fixed).map (fun x => x.2 || x.1.2 * w ≤ rem * x.1.1))

/-- A_k of R255 for a positive amount; every head where their sum does not exceed the amount. -/
def waterFill (amount : Word) (gw : List Nat) (heads : List Word) : List Word :=
  let amt := F32.scaledMag amount
  let hs := heads.map F32.scaledMag
  if hs.sum ≤ amt then heads
  else
    let l := (gw.zip hs).map (fun x => (x.1, if x.1 = 0 then 0 else x.2))
    let fixed := fillPass 25 l amt (l.map (fun x => x.1 == 0))
    let lf : List ((Nat × Nat) × Bool) := l.zip fixed
    let w := ((lf.filter (fun x => !x.2)).map (fun x => x.1.1)).sum
    let used := ((lf.filter (fun x => x.2)).map (fun x => x.1.2)).sum
    (heads.zip lf).map (fun (x : Word × ((Nat × Nat) × Bool)) =>
      if x.2.1.1 = 0 then 0
      else if x.2.2 = true ∨ w = 0 then x.1
      else F32.ofQ false ((amt - used) * x.2.1.1) (w * 2 ^ 149))

namespace State

def updShelf (s : State) (f : ShelfSt → ShelfSt) : State := { s with shelf := f s.shelf }

/-- The slot that the ROLE register names for a role, and the one that holds it now (R274). -/
def ownSlot (s : State) (r : Nat) : Nat :=
  if r = roBUSV then s.getF SHELF.ROLE_BUSV else if r = roHOLD then s.getF SHELF.ROLE_HOLD else s.getF SHELF.ROLE_PCMD
def roleSlot (s : State) (r : Nat) : Nat := if s.shelf.spareRole = r then s.getF SHELF.ROLE_SPARE else s.ownSlot r

/-- The active regulation slot (R246). -/
def actSlot (s : State) : Nat := s.getF SHELF.REG_STAT_ACT_SLOT

/-- Hold-up states (Table 8-4): 0 IDLE, 1 HOLDING, 2 HAND_BACK. -/
def huState (s : State) : Nat := s.getF HOLDUP.HU_STAT_STATE

/-- The regulation mode that is asked for (R247, R272): 0 BUSV, 1 PCMD. -/
def wantMode (s : State) : Nat := if s.shelf.toBusv then 0 else s.getF SHELF.SHELF_CFG_REG_MODE
def modeRole (m : Nat) : Nat := if m = 1 then roPCMD else roBUSV

/-- A page whose stop takes the shelf's current away is not RUNNING (R569). -/
def shelfOff (s : State) : Bool := [pSHELF, pALLOC, pCREST, pCORNICE, pHOLDUP, pVSLOT 0].any (fun p => !s.pgRunning p)

/-- H of a slot under shelf hold (R250). -/
def holdOf (s : State) (i : Nat) : Option Word :=
  match s.shelf.hold.getD i (0, 0) with
  | (0, _) => none
  | (_, h) => some h

/-- OUT as R220, R244 and R252 take it: H under a shelf hold, and the output from which a slot goes on that has not been evaluated since its handover or hold (log entry 109). A fenced slot acts by its FENCE_ACT (R274), but for the ramp to zero of the first row of Table 8-2. -/
def outNow (s : State) (i : Nat) : Word :=
  if s.slotFenced i ∧ (s.shelf.hold.getD i (0, 0)).1 ≠ 1 then s.getReg (VSLOT.OUT i) else (s.holdOf i).getD (s.outDue i)

/-- PCMD regulation is in force (R246): the PCMD role slot is active, and no hold-up runs. -/
def pcmdActive (s : State) : Bool := s.actSlot = s.roleSlot roPCMD ∧ s.mode ≠ mHOLDUP

/-- The references of Table 8-1 for BUSV and HOLD. -/
def busvRef (s : State) : Word :=
  F32.min (s.getReg SHELF.V_OV) (F32.max (s.getReg SHELF.V_UV)
    (F32.sub (s.getReg SHELF.V_REF) (F32.mul (s.getReg SHELF.R_DROOP) s.iShelf)))
def holdRef (s : State) : Word := F32.sub (s.getReg HOLDUP.V_REF) (F32.mul (s.getReg HOLDUP.R_DROOP) s.iShelf)

/-- The value that P_REF moves toward (R246, R272). -/
def pTarget (s : State) : Word :=
  if s.getB SHELF.SHELF_CFG_CMD_SRC then s.getReg SHELF.P_REF_HOST
  else if s.shelf.cmdHold then s.getReg SHELF.P_REF
  else if s.shelf.cmdZero then 0
  else s.getReg SHELF.P_CMD_PLANT

/-- The slot may hand over or take over (R220). -/
def slotReady (s : State) (i : Nat) : Bool := s.slotOn i && !s.slotFenced i

/-- A slot is in AUTO for R220: as written and in force, or under a shelf hold (R252). -/
def inAuto (s : State) (i : Nat) : Bool :=
  (s.holdOf i).isSome || (s.slotMode i = 0 && s.getF (VSLOT.SLOT_STAT_MODE_ACT i) = 0)

/-- The conditions of R220. -/
def handoverOk (s : State) (a b : Nat) : Bool :=
  ((a < 8 && b < 8) || (56 ≤ a && a < 64 && 56 ≤ b && b < 64)) && a ≠ b && s.slotReady a && s.slotReady b
    && s.getF (VSLOT.SLOT_CFG_DIV a) = s.getF (VSLOT.SLOT_CFG_DIV b) && s.inAuto a

/-- The end of a limit hold: its shortfall source clears (R258). -/
def limitEnd (s : State) : State :=
  let s := s.endL 108
  let s := if s.pgRunning pALLOC then s.setF ALLOC.ALLOC_STAT_SHORTFALL 0 else s
  s.updShelf (fun x => { x with limDir := 0, limByStr := false, limRun := 0 })

/-- SHELF takes its demand from slot `b`. -/
def makeActive (s : State) (b : Nat) : State :=
  let s := (s.limitEnd.setF SHELF.REG_STAT_ACT_SLOT b)
  if b = s.roleSlot roBUSV then s.setF SHELF.REG_STAT_MODE_ACT 0
  else if b = s.roleSlot roPCMD then s.setF SHELF.REG_STAT_MODE_ACT 1
  else s

/-- The handover of R220, which `handoverOk` permits. A handover from the spare to a role's own slot returns the role (R274). -/
def handover (s : State) (a b : Nat) : State :=
  let u := s.outNow a
  let s := ((s.setF (VSLOT.SLOT_CTRL_MODE a) 2).setF (VSLOT.SLOT_CTRL_TRK_SLOT a) b).setF (VSLOT.SLOT_CTRL_MODE b) 0
  let s := s.updVs b (fun v => { v with needPreset := true, target := some u })
  let r := s.shelf.spareRole
  let s := if r ≠ 0 ∧ a = s.getF SHELF.ROLE_SPARE ∧ b = s.ownSlot r then
      (s.updShelf (fun x => { x with spareRole := 0 })).setF SHELF.REG_STAT_SPARE_IN_USE 0
    else s
  if a = s.actSlot then s.makeActive b else s

/-- Port k of the string is configured: its page is not OFF. -/
def portOn (s : State) (k : Nat) : Bool := s.pgState (pYPORT k) ≠ psOFF

/-- OFF_CAUSE of a string (Table 8-3, the first row that applies). -/
def offCause (s : State) (k : Nat) : Nat :=
  if !s.portOn k then 6
  else if s.getB (YPORT.PORT_CFG_MONITOR_ONLY k) then 4
  else if s.shelf.strFence.getD k false || s.shelf.estFence.getD k false then 2
  else if !s.pgRunning (pYPORT k) || !s.getB (YPORT.PORT_STAT_LINK k) then 3
  else if s.getF ALLOC.ALLOC_CFG_STATUS_TMO ≤ s.shelf.statAge.getD k 0 || (s.shelf.stat.getD k none).isNone then 5
  else if !s.getBit ALLOC.AVAIL k then 1
  else 0

def gateOf (s : State) (k : Nat) : Nat := s.shelf.gate.getD k 0

/-- The gate of a string one cycle further (R253, R569), in 10^-9. -/
def nextGate (s : State) (k : Nat) : Nat :=
  let step := s.cycleUs * 1000000 / max 1 (s.getF ALLOC.ALLOC_CFG_DRAIN_MS)
  if s.shelfOff then 0
  else match s.offCause k with
    | 0 => min gateOne (s.gateOf k + step)
    | 1 => s.gateOf k - step
    | _ => 0

/-- D_k and C_k (R254). -/
def dLim (s : State) (k : Nat) : Word :=
  match s.shelf.stat.getD k none with
  | some f =>
    if s.gateOf k = 0 ∨ s.getB (ESTSTR.RES_STAT_EOD k) then 0
    else F32.pos0 (F32.min f.iLimDis (s.getReg (ALLOC.ILIM_DIS k)))
  | none => 0
def cLim (s : State) (k : Nat) : Word :=
  match s.shelf.stat.getD k none with
  | some f =>
    if s.gateOf k = 0 ∨ s.getB (ESTSTR.RES_STAT_EOC k) then 0
    else F32.neg (F32.pos0 (F32.neg (F32.max f.iLimChg (F32.neg (s.getReg (ALLOC.ILIM_CHG k))))))
  | none => 0

/-- The strings with gate 1. -/
def gated (s : State) : List Nat := (List.range 24).filter (fun k => s.gateOf k = gateOne)

/-- g_k·w_k of the discharge or the charge weights, as exact numbers. -/
def gws (s : State) (dis : Bool) : List Nat :=
  (List.range 24).map (fun k => s.gateOf k * F32.scaledMag (s.getReg (if dis then ALLOC.WDIS k else ALLOC.WCHG k)))

/-- Table 7-3 and R288: what a slot of 0 to 31 or 56 to 63 is evaluated with. In PCMD the role slot takes y = V_BUS × I_OBS while a cornice is live; the active slot folds. -/
def shelfIn (s : State) (i : Nat) (upset : Bool) : EvalIn :=
  let x := s.evalIn i
  let h := s.holdOf i
  let y := if s.cnLive ∧ s.pcmdActive ∧ i = s.actSlot then F32.mul s.vBus s.cn.iObs else x.y
  { x with y := y, hold := h, upset := upset, fold := if i = s.actSlot ∧ h = none then s.cn.fold else none }

end State

end Sys2Proof.Machine
end

