-- ==== Sys2Proof/Machine/Vce.lean ====
section
/-! DEFINITION. The Vermet control engine (chapter 7): the meanings of its commands, and what writes of SLOT_CTRL, HANDOVER and VCE_CTRL do. -/

namespace Sys2Proof.Machine

namespace State

/-- Slot `i` is due at this boundary when DIV shelf cycles have passed (R223); its DIV counter moves on and a pending swap becomes due (R233). -/
def divStep (s : State) (i : Nat) : State × Bool :=
  if !s.slotOn i then (s, false)
  else
    let n := (s.vslot i).divCount + 1
    let due := decide (s.getF (VSLOT.SLOT_CFG_DIV i) ≤ n)
    let sw := s.getB (VSLOT.SLOT_STAT_SWAP_PEND i)
    (s.updVs i (fun v => { v with divCount := if due then 0 else n, swapDue := if due then sw else v.swapDue }), due)

/-- A slot of 0 to 31 at a boundary (R223, R225): evaluated when due, unless its evaluation comes too late for this cycle. -/
def boundarySlot (s : State) (late : BitVec 32) (i : Nat) : State :=
  let (s, due) := s.divStep i
  if !due then s
  else if late.getLsbD i then s.gapRelease i
  else (s.gapTaken i).evalSlot i (s.shelfIn i false)

/-- A general slot is released at a boundary (R223). -/
def releaseSlot (s : State) (i : Nat) : State :=
  let (s, due) := s.divStep i
  if due then s.gapRelease i else s

/-- H of a balance slot's phase hold (R368): while its phase is not ACTIVE. -/
def phaseHold (s : State) (p : Nat) : Option Word :=
  if s.phState p = phACTIVE then none else some (s.phase_ p).hold

/-- BANK_COPY (R232). -/
def bankCopy (s : State) (i : Nat) : State :=
  let a := s.slotBankB i
  (List.range 16).foldl (fun s k => s.setReg ((if a then VSLOT.CA_W i else VSLOT.CB_W i) + 4 * k) (s.coef i a k)) s

/-- SWAP_REQ (R233, R234): with a swap pending it has no effect; ignored in slots 8 to 63. -/
def swapReq (s : State) (i : Nat) (preset : Bool) : State :=
  if i < 8 ∧ s.getB (VSLOT.SLOT_STAT_SWAP_PEND i) = false then
    (s.updVs i (fun v => { v with swapPreset := preset, swapDue := false })).setF (VSLOT.SLOT_STAT_SWAP_PEND i) 1
  else s

/-- STATE_CLR: the biquad states are 0 at the next evaluation. -/
def stateClr (s : State) (i : Nat) : State := s.updVs i (fun v => { v with stateClr := true })

/-- VCE_CTRL.CLR. -/
def vceClr (s : State) : State :=
  forAll 64 (fun s i => (s.setReg (VSLOT.SLOT_CNT i) 0).setReg (VSLOT.WRAP_CNT i) 0) (s.setF VCE.REMOTE_END_WORST 0)

end State

open State

/-- VCE_SLOT_EVALUATION (R209 to R219, R237): a released slot is evaluated when it is the first of its lane (R222); a VCE that is not RUNNING evaluates none (Table 2-12). -/
def execVceSlotEvaluation (i : Nat) (upset : Bool) (s : State) : Host.Outcome State Fault Refusal :=
  if s.operating ∧ s.pgRunning pVCE ∧ s.gapFirst i then
    let s := s.gapTaken i
    if 40 ≤ i ∧ i < 56 then .next (s.evalSlot i { s.evalIn i with hold := s.phaseHold (i - 40) })
    else .next (s.evalSlot i (s.shelfIn i upset))
  else .next s

/-- REMOTE_DEADLINE_MISS (R225): the slot was still to be evaluated at D_R. -/
def execRemoteDeadlineMiss (i : Nat) (s : State) : Host.Outcome State Fault Refusal :=
  if s.operating ∧ s.slotOn i ∧ (s.vslot i).released then .next (s.raise 93 []) else .next s

/-- GAP_OVERRUN (R225): the slot was not evaluated before its next release. -/
def execGapOverrun (i : Nat) (s : State) : Host.Outcome State Fault Refusal :=
  if s.operating ∧ s.slotOn i ∧ (s.vslot i).released then
    .next ((s.incSat (VSLOT.SLOT_CNT_OVERRUN i)).raise 92 [i])
  else .next s

/-- HANDOVER_EXECUTE (R220, R247, R272): at a boundary, the handover that VCE.HANDOVER requests, then the one that brings the active slot to the mode asked for; a refused REG_MODE handover is tried again at the next execution. -/
def execHandoverExecute (s : State) : Host.Outcome State Fault Refusal :=
  if !s.operating then .next s
  else
    let s :=
      if s.getF VCE.HANDOVER_RESULT = 1 then
        let a := s.getF VCE.HANDOVER_FROM
        let b := s.getF VCE.HANDOVER_TO
        if s.handoverOk a b then (s.handover a b).setF VCE.HANDOVER_RESULT 2 else s.setF VCE.HANDOVER_RESULT 3
      else s
    let w := s.wantMode
    if s.huState = 0 ∧ s.shelf.startReg = false ∧ s.getF SHELF.REG_STAT_MODE_ACT ≠ w ∧ (s.mode = mRUN ∨ s.mode = mDEGRADED ∨ s.mode = mSERVICE) then
      let a := s.actSlot
      let b := s.roleSlot (modeRole w)
      if s.handoverOk a b then
        let s := (s.handover a b).setF SHELF.REG_STAT_MODE_ACT w
        let s := if s.shelf.regPend then s.setF SHELF.REG_STAT_MODE_CHG 2 else s
        .next (s.updShelf (fun x => { x with regPend := false }))
      else .next (if s.shelf.regPend then s.setF SHELF.REG_STAT_MODE_CHG 3 else s)
    else .next s

end Sys2Proof.Machine
end

