-- ==== Sys2Proof/Machine/CorniceStage.lean ====
section
/-! DEFINITION. The cornice inside a shelf cycle (chapter 9): the observed current, the test and the fold at a boundary, the collapse ramp, the division of step 6. -/

namespace Sys2Proof.Machine

namespace State

/-- Reason 2 of Table 9-1. -/
def cnModeBad (s : State) : Bool :=
  !(s.mode == mRUN || s.mode == mDEGRADED || s.mode == mHOLDUP) || s.inhibit || s.getB DEV.MODE_STAT_DESCENT
    || (s.mode == mHOLDUP && (s.huState ≠ 1 || !s.getB CORNICE.CN_CFG_HU_EN))
    || s.getB SHELF.REG_STAT_START_RAMP || s.getB SHELF.REG_STAT_REG_LOST

def stuckCh (s : State) (n : Nat) : Bool := (s.getF SAMPLE.SDM_STAT_STUCK).testBit n

/-- The settings that the page's last start took are in force, not those written since (Table 2-12, R178). -/
def sdmHeld (s : State) : Bool := s.pgState pSAMPLE == psSTOPPED || s.pgState pSAMPLE == psSTARTING

/-- SDM_CFG, GAINn and OFSn in force. -/
def sdmCfg (s : State) : Word := if s.sdmHeld then s.sample.cfg else s.getReg SAMPLE.SDM_CFG
def sdmEn (s : State) (n : Nat) : Bool := s.sdmCfg.getLsbD n
def sdmGain (s : State) (n : Nat) : Word := if s.sdmHeld then s.sample.gain.getD n 0x3F800000 else s.getReg (SAMPLE.GAIN n)
def sdmOfs (s : State) (n : Nat) : Word := if s.sdmHeld then s.sample.ofs.getD n 0 else s.getReg (SAMPLE.OFS n)

/-- A cycle result in use at this boundary is from a STUCK channel (R290). -/
def cnStuck (s : State) : Bool := s.stuckCh 1 || (s.stuckCh 0 && !s.shelf.srcD2)

/-- I_OBS at a boundary (Table 9-2): the PCMD row while the PCMD role slot is active, with ΣF_k as the previous cycle staged it, else the bus-forming row. -/
def cnObserve (s : State) : State :=
  let v := s.vBus
  let i :=
    if s.pcmdActive then F32.sub s.iShelf (s.getReg CORNICE.PHI_APP)
    else F32.sub s.iShelf (F32.div (F32.mul (s.getReg CORNICE.C_BUS) (F32.sub v s.cn.vPrev)) s.cycleSec)
  s.updCn (fun c => { c with iObs := i, vPrev := v, obs := (i :: c.obs).take 4 })

/-- The last instant of the confirm window (R290), in µs. -/
def cnEnd (s : State) : Nat := s.cn.tStep + s.getF CORNICE.WINDOW_US

/-- A boundary at or after the window's start, max(T_step, opening boundary), and not after its end. -/
def cnInWindow (s : State) : Bool := s.cn.tStep ≤ s.dev.nowUs && s.dev.nowUs ≤ s.cnEnd

/-- No further boundary lies inside the window. -/
def cnLastDone (s : State) : Bool := s.cnEnd < s.dev.nowUs + s.cycleUs

/-- A test at a boundary inside the window (R290): a full confirm, or a partial one at the last test, sets the amount to fold. -/
def cnTest (s : State) : State :=
  if s.cnState ≠ cnOPEN ∨ s.cn.fold.isSome ∨ !s.cnInWindow then s
  else
    let d := F32.sub s.cn.iObs (s.getReg CORNICE.BASE)
    let r := if s.cnStuck then 0 else F32.div d (s.getReg CORNICE.PRED)
    let r := if F32.isNaN r || F32.isNeg r then 0 else r
    let run := if F32.le 0x3F400000 r && F32.le r 0x3FA00000 then s.cn.confRun + 1 else 0
    let s := ((s.setReg CORNICE.OBS d).setReg CORNICE.RATIO r).updCn (fun c => { c with confRun := run })
    let app := s.getReg CORNICE.PHI_APP
    if s.getF CORNICE.CN_CFG_CONF_N ≤ run then
      let s := ((s.incSat CORNICE.CNT_A_CONFIRM).setF CORNICE.CNT_C_MISS 0).setF CORNICE.CN_STAT_OUTCOME ocCONFIRM
      s.updCn (fun c => { c with fold := some app })
    else if s.cnLastDone && F32.le 0x3E800000 r && F32.lt r 0x3F400000 then
      let f := F32.clampAbs (F32.abs app) d
      let s := (s.incSat CORNICE.CNT_A_PARTIAL).setF CORNICE.CN_STAT_OUTCOME ocPARTIAL
      s.updCn (fun c => { c with fold := some f })
    else s

/-- A confirm whose fold no evaluation took at its boundary, because the active slot is under a shelf hold or fenced (R291): nothing is folded, and the whole amount collapses. -/
def cnFolded (s : State) : State := if s.cn.fold.isSome then (s.cnFold 0 0).checkFill else s

/-- The collapse ramp at a boundary (R292): linear from the amount at its start to 0 over RAMP. -/
def cnRamp (s : State) : State :=
  if s.cnState ≠ cnCOLLAPSING then s
  else
    let t := s.cn.rampUs + s.cycleUs
    let n := max 1 (s.getF CORNICE.RAMP_US)
    let s := s.updCn (fun c => { c with rampUs := t })
    s.setReg CORNICE.PHI_REQ (if n ≤ t then 0 else F32.mul s.cn.rampFrom (F32.ofQ false (n - t) n))

/-- A pending cornice whose mode conditions have gone is discarded (Table 9-3); back-off time passes. -/
def cnTime (s : State) : State :=
  let s := if s.cnState = cnPENDING ∧ s.cnModeBad then s.setF CORNICE.CN_STAT_STATE cnIDLE else s
  s.updCn (fun c => { c with backoffUs := c.backoffUs - s.cycleUs })

/-- Step 6 of Table 1-3 (R287): Φ, its division over the strings' headroom, F_k and Φ_app, which a page that is not RUNNING keeps (R569). The first F_k after a takeover are those of R299. -/
def cnStage (s : State) : State :=
  let req := s.getReg CORNICE.PHI_REQ
  let a := (List.range 24).map (fun k => s.shelf.sentA.getD k 0)
  let sum := F32.sumX a
  let pos := !F32.isNeg req
  let phi :=
    if pos then F32.min req (F32.max 0 (F32.sub (s.getReg CREST.I_LIM_DIS) sum))
    else F32.max req (F32.min 0 (F32.sub (s.getReg CREST.I_LIM_CHG) sum))
  let f : List Word :=
    if !s.cnLive || s.shelfOff || F32.isZero phi || F32.isNaN phi then List.replicate 24 0
    else
      let head := (List.range 24).map (fun k =>
        let h := F32.sub (F32.sub (if pos then s.dLim k else s.cLim k) (a.getD k 0)) (s.getReg (VSLOT.OUT (8 + k)))
        if s.gateOf k = 0 then 0 else F32.pos0 (if pos then h else F32.neg h))
      let tot := F32.add sum phi
      let gw := s.gws (if F32.isZero tot then pos else !F32.isNeg tot)
      if gw.sum = 0 then List.replicate 24 0
      else (waterFill (F32.abs phi) gw head).map (fun x => if pos then x else F32.neg x)
  let f := s.cn.first.getD f
  let s := s.updCn (fun c => { c with first := none })
  if s.pgRunning pCORNICE then (forAll 24 (fun s k => s.setReg (CORNICE.F k) (f.getD k 0)) s).setReg CORNICE.PHI_APP (F32.sumX f) else s

end State

end Sys2Proof.Machine
end

