-- ==== Sys2Proof/Machine/Regions.lean ====
section
/-! DEFINITION. The power regions and the PLLs (chapters 1 and 3): what REGION_PWR, PLL_STAT and CORE_MV show. -/

namespace Sys2Proof.Machine

/-- The bit of a region in REGION_BO and REGION_PWR. -/
def regionIndex : OwnRegion → Nat
  | .porta => 3 | .portb => 4 | .link => 5 | .rail => 6 | .hv => 7

namespace State

/-- The non-volatile arrays are being accessed: a record write, a scan or a clear (Table 1-2). -/
def nvBusy (s : State) : Bool := s.ps.flight.isSome || s.ps.scanning || s.cairn.clearSeq.isSome

/-- The estimator has a set to process: its region is woken (Table 1-2). -/
def estBusy (s : State) : Bool := match s.sample.closed with
  | some c => !c.done
  | none => false

/-- A port of the region is configured (R15). -/
def portsLive (s : State) (first : Nat) : Bool := (List.range 12).any (fun i => s.pgState (pYPORT (first + i)) ≠ psOFF)

/-- State of region `i` as REGION_PWR shows it (R15, Table 1-2): 0 off, 1 starting, 2 live, 3 gated. -/
def regionState (s : State) (i : Nat) : Nat :=
  let live (b : Bool) : Nat := if b then 2 else 3
  if i = 0 then 2
  else if !s.powered || (s.mode == mASCENT && s.dev.ascPhase == .waiting) then 0
  else if s.dev.regionDown.any (fun r => regionIndex r == i) then 1
  else match i with
    | 2 => live s.estBusy
    | 3 => live (s.portsLive 0)
    | 4 => live (s.portsLive 12)
    | 6 | 7 => if s.mode = mASCENT then 0 else 2
    | 8 => live s.nvBusy
    | _ => 2

/-- REGION_PWR (Table 3-19). -/
def regionPwr (s : State) : Word := (List.range 9).foldl (fun w i => withBits w (2 * i) 2 (s.regionState i)) 0

/-- The PLLs with a user that is not gated (R85, Table 3-10), as a mask in the order of PLL_STAT: CPLL with CORE, PPLL with a port region, LPLL with the Ridge link, EPLL with EST. -/
def pllUsed (s : State) : Nat :=
  let on (b : Bool) (i : Nat) : Nat := if b then 2 ^ i else 0
  on (s.regionState 1 = 2) 0 + on (s.regionState 3 = 2 ∨ s.regionState 4 = 2) 1 + on (s.isPair ∧ s.regionState 5 = 2) 2 + on (s.regionState 2 = 2) 3

/-- PLL_STAT as read: a PLL without a user has stopped (R85). -/
def pllStat (s : State) : Word := s.getReg CLKPWR.PLL_STAT &&& BitVec.ofNat 32 (s.pllUsed * 17)

/-- At a shelf-cycle boundary the HFO's switch of R86 is over, and PLLs without a user have stopped (R85). -/
def pllStep (s : State) : State := s.setReg CLKPWR.PLL_STAT (s.pllStat &&& 0xF)

/-- CORE_MV (Table 3-19): VIO and VCORE as measured, inside the windows outside of which the core resets (Table 3-8). -/
def coreMv (s : State) : Word :=
  if s.regionState 1 ≠ 2 then 0
  else
    let w := (Config.supplyMv s.dev.nowUs).toNat
    BitVec.ofNat 32 ((3000 + w / 0x10000 % 601) * 0x10000 + (720 + w % 161))

end State

end Sys2Proof.Machine
end

