-- ==== Sys2Proof/Machine/SdmaMove.lean ====
section
/-! DEFINITION. The moves of an SDMA channel (chapter 6): halting, fetching, moving elements, going on, stopping, SKIP and ABORT, RESUME, and firmware's policy after a bus error (R201). -/

namespace Sys2Proof.Machine

namespace State

/-- The command that firmware is to give next to a channel that halts (R201): RESUME up to RETRIES times, then SKIP or ABORT. -/
def berrNext (s : State) (c : Nat) : Nat × Nat :=
  let n := (s.sdmaCh c).tries
  if n < s.getF SDMA.BERR_CFG_RETRIES then (3, n + 1) else (if s.getB SDMA.BERR_CFG_FINAL then 5 else 4, 0)

/-- A channel halts on an error with what it has moved (R192, R199); a descriptor error also stands in its STATUS (RESULT 3 of Table 6-5; log entry 114). -/
def sdmaHalt (s : State) (c cause addr desc : Nat) (write : Bool) (moved : Nat) : State :=
  let p := s.berrNext c
  let s := if cause = 2 ∧ engOk desc 32 then s.writeLe (desc + 24) 4 (3 * 2 ^ 28 + moved) else s
  let s := s.updSdma c (fun x => { x with desc := some desc, moved := moved, tries := p.2, due := p.1 })
  let s := ((s.setF (SDMA.CH_STAT_STATE c) dmHALTED).setF (SDMA.CH_STAT_ERR_CAUSE c) cause).setB (SDMA.CH_STAT_DIR c) write
  (((s.setN (SDMA.CH_ERR_ADDR c) addr).setN (SDMA.CH_ERR_DESC c) desc).sdmaCond).raise 241 [c]

/-- Run the descriptor at `a` (R192, R193): not owned, in error, or in hand. An error in the descriptor itself latches its address, as a read (log entry 125). -/
def sdmaTake (s : State) (c a : Nat) : State :=
  if !engOk a 32 ∨ a % 32 ≠ 0 then s.sdmaHalt c 2 a a false 0
  else if (s.desc a).own = false then
    (s.setF (SDMA.CH_STAT_STATE c) dmIDLE).setN (SDMA.CH_NEXT c) a
  else if descOk (s.desc a) then (s.updSdma c (fun x => { x with desc := some a, moved := 0, due := 0 })).setF (SDMA.CH_STAT_STATE c) dmACTIVE
  else s.sdmaHalt c 2 a a false 0

/-- Fetch the next descriptor (R193): at CHn_NEXT, which starts at its Reset of 0 (log entry 126). -/
def sdmaFetch (s : State) (c : Nat) : State := s.sdmaTake c (s.getN (SDMA.CH_NEXT c))

/-- Move the elements of a gather or a scatter from index `i` on (R191, R195); the element and the address that fail, or none (R192). -/
def moveElems (d : Desc) : Nat → Nat → State → State × Option (Nat × Nat)
  | 0, _, s => (s, none)
  | n + 1, i, s =>
    let ofs := s.readLe (d.idx + i * d.ow) d.ow
    let a := if d.mode = 1 then d.src + ofs else d.src + i * d.esize
    let b := if d.mode = 1 then d.dst + i * d.esize else d.dst + ofs
    let bad := if d.mode = 1 then a else b
    if engOk bad d.esize ∧ bad % d.esize = 0 then moveElems d n (i + 1) (s.writeBytes b (s.readBytes a d.esize))
    else (s, some (i, bad))

/-- A channel goes on after its descriptor (R194, R197): at NEXT, IDLE after a LAST, STOPPED where a stop waits. -/
def sdmaGoOn (s : State) (c : Nat) (last stop : Bool) : State :=
  if stop then s.setF (SDMA.CH_STAT_STATE c) dmSTOPPED
  else if last then s.setF (SDMA.CH_STAT_STATE c) dmIDLE
  else s.sdmaFetch c

/-- A STOP for a channel (R197, R200). -/
def sdmaStop (s : State) (c : Nat) : State :=
  if s.dmState c = dmIDLE then s.setF (SDMA.CH_STAT_STATE c) dmSTOPPED
  else if s.dmState c = dmACTIVE then s.setF (SDMA.CH_STAT_STATE c) dmSTOPPING
  else s

/-- The engine addresses that element `i` of a descriptor touches with their lengths: the index entry, the read and the write; in linear mode an element is a byte. -/
def elemAddrs (s : State) (d : Desc) (i : Nat) : List (Nat × Nat) :=
  let ofs := s.readLe (d.idx + i * d.ow) d.ow
  match d.mode with
  | 0 => [(d.src + i, 1), (d.dst + i, 1)]
  | 1 => [(d.idx + i * d.ow, d.ow), (d.src + ofs, d.esize), (d.dst + i * d.esize, d.esize)]
  | _ => [(d.idx + i * d.ow, d.ow), (d.src + i * d.esize, d.esize), (d.dst + ofs, d.esize)]

/-- How many elements, or bytes in linear mode, a descriptor has moved when the access to an address fails (R195): those before the first that touches it; all of them at a write to the descriptor itself, else none. -/
def movedBefore (s : State) (d : Desc) (a addr : Nat) (write : Bool) : Nat :=
  let n := if d.mode = 0 then d.len else d.count
  match (List.range n).find? (fun i => (s.elemAddrs d i).any (fun (e : Nat × Nat) => e.1 ≤ addr && addr < e.1 + e.2)) with
  | some i => i
  | none => if write && a ≤ addr && addr < a + 32 then n else 0

/-- Move the first `n` elements, or bytes in linear mode (R191). -/
def movePart (s : State) (d : Desc) (n : Nat) : State :=
  if d.mode = 0 then s.writeBytes d.dst (s.readBytes d.src n) else (moveElems d n 0 s).1

/-- The string whose link buffer an address lies in. -/
def linkString (a : Nat) : Option Nat := if linkBuf 0 ≤ a ∧ a < linkBuf 24 then some ((a - linkBuf 0) / 0x2000) else none

/-- A gather of the set that is skipped (R201): channel 0 to 2 and the string of its source. -/
def skipNote (s : State) (c : Nat) (d : Desc) : State :=
  match linkString d.src with
  | some k => if c < 3 ∧ d.mode = 1 then { s with sample := { s.sample with skips := (c, k) :: s.sample.skips } } else s
  | none => s

/-- SKIP or ABORT of a HALTED channel (R200): STATUS with what was moved, OWN, then NEXT; a failing write halts it again, at the STATUS word. -/
def sdmaDrop (s : State) (c : Nat) (abort : Bool) : State :=
  match (s.sdmaCh c).desc with
  | none => s
  | some a =>
    if !engOk a 32 then s.sdmaHalt c 1 (a + 24) a true 0
    else
      let d := s.desc a
      let last := d.last
      let s := if abort then s else s.skipNote c d
      let s := s.descEnd c a (if abort then 2 else 1) (s.sdmaCh c).moved
      let s := (s.setF (SDMA.CH_STAT_STATE c) dmSTOPPED).sdmaCond
      s.sdmaGoOn c last abort

/-- RESUME of a HALTED channel (R200): the descriptor again from its first element. -/
def sdmaResume (s : State) (c : Nat) : State :=
  match (s.sdmaCh c).desc with
  | some a => (s.sdmaTake c a).sdmaCond
  | none => s

/-- Firmware's reaction to the halt of a channel (R201), unless the MPU restarts. -/
def sdmaPolicy (s : State) : State :=
  if !s.mpuRuns || !s.pgRunning pSDMA then s
  else forAll 16 (fun s c =>
    let n := (s.sdmaCh c).due
    if s.dmState c ≠ dmHALTED ∨ n = 0 then s
    else
      let s := ((s.setF (SDMA.CH_CMD_CMD c) n).countChg pSDMA).updSdma c (fun x => { x with due := 0 })
      if n = 3 then s.sdmaResume c else s.sdmaDrop c (n == 5)) s

end State

end Sys2Proof.Machine
end

