-- ==== Sys2Proof/Machine/Boundary.lean ====
section
/-! DEFINITION. SHELF_CYCLE_BOUNDARY (Table 1-3): cycle results, latched STATUS, gates and limits, crest limits, references, shelf holds, slot evaluations, allocator, crest, cornice stage and setpoints. -/

namespace Sys2Proof.Machine

namespace State

/-- One cycle result (R172, R174, R176): CLIP, and the scaled value; a disabled channel reads 0, neither STUCK nor CLIPPED; a STUCK channel holds, and after a change of driver the previous result stands (R171). -/
def cycleResult (s : State) (n reg : Nat) (x : BitVec 16) : State :=
  if !s.sdmEn n then ((s.setReg reg 0).putBit SAMPLE.SDM_STAT n false).putBit SAMPLE.SDM_STAT (4 + n) false
  else
    let v := F32.ofQ (x.toInt < 0) x.toInt.natAbs 32768
    let t := s.putBit SAMPLE.SDM_STAT n (94 * 32768 ≤ 100 * x.toInt.natAbs)
    if s.stuckCh n || s.sample.sdmNew then t
    else t.setReg reg (F32.mul (s.sdmGain n) (F32.sub v (s.sdmOfs n)))

/-- PLAUS_FAIL's condition for FS_BUS_PLAUS (R175). -/
def plausCond (s : State) : State :=
  s.setCond 106 (s.getB SAMPLE.SDM_STAT_PLAUS_FAIL || s.stuckCh 0 || s.stuckCh 1 || s.stuckCh 2)

/-- CLK_DRIVE at this boundary (R170, R171, R463): the active controller drives SDM_CLK; in a pair the results of the boundary at which the driver changes are replaced (R171, Table 15-5 step 7). -/
def clkDrive (s : State) : State :=
  let d := s.isActive && s.tokenOk && s.sdmCfg.getLsbD 8
  let c := s.isPair && d != s.getB SAMPLE.SDM_STAT_CLK_DRIVE
  { s.setB SAMPLE.SDM_STAT_CLK_DRIVE d with sample := { s.sample with sdmNew := c } }

/-- What the open set's window has seen (Table 5-7, SET_FLAGS), from its SYNC to its close (log entry 123). -/
def setWatch (s : State) : State :=
  { s with sample := { s.sample with set_ := s.sample.set_.map (fun o => { o with
    clip := o.clip || s.getF SAMPLE.SDM_STAT_CLIP ≠ 0, stuck := o.stuck || s.getF SAMPLE.SDM_STAT_STUCK ≠ 0
    hand := o.hand || s.getB SAMPLE.SDM_STAT_HANDOVER }) } }

/-- Steps 1 and 2: the four cycle results, and the runs of R175. -/
def decimate (s : State) (c : CycleIn) : State :=
  let s := s.clkDrive
  let s := (((s.cycleResult 0 SAMPLE.V_BUS c.x0).cycleResult 1 SAMPLE.I_SHELF c.x1).cycleResult 2 SAMPLE.V_BUS2 c.x2).cycleResult
    3 SAMPLE.AUX c.x3
  let s := (s.setB SAMPLE.SDM_STAT_HANDOVER s.sample.sdmNew).setWatch
  if s.sdmEn 0 && s.sdmEn 2 && !s.stuckCh 0 && !s.stuckCh 2 then
    let bad := F32.lt (s.getReg SAMPLE.PLAUS_TOL) (F32.abs (F32.sub (s.getReg SAMPLE.V_BUS) (s.getReg SAMPLE.V_BUS2)))
    s.updShelf (fun x => { x with plausBad := if bad then x.plausBad + 1 else 0, plausOk := if bad then 0 else x.plausOk + 1 })
  else ((s.updShelf (fun x => { x with plausBad := 0, plausOk := 0 })).setF SAMPLE.SDM_STAT_PLAUS_FAIL 0).plausCond

/-- STATUS reports a fault or a stop (Table 4-6). -/
def stFault (f : StatusFrame) : Bool := f.state.getLsbD 3
def stLimited (f : StatusFrame) : Bool := f.state.getLsbD 2
def stStopped (f : StatusFrame) : Bool := f.state.toNat % 4 = 3

/-- STATUS is stale (R259): its SEQ trails the low byte of the cycle count by more than 2. -/
def staleStatus (s : State) (k : Nat) : Bool :=
  match s.shelf.stat.getD k none with
  | some f => 2 < (s.shelf.cycle + 256 - f.seq.toNat) % 256
  | none => false

/-- Latch the newest STATUS of string `k` (R254, R270) with the runs of Table 8-5; reasons 0x04 and 0x05 are raised here. -/
def latchStatus (s : State) (k : Nat) : State :=
  let tmo := s.getF ALLOC.ALLOC_CFG_STATUS_TMO
  let s := match s.shelf.statNew.getD k none with
    | none => s.updShelf (fun x => { x with statAge := x.statAge.modify k (fun n => min (n + 1) 255) })
    | some f =>
      let sent : Option (Nat × List Word) := s.shelf.sent.find? (fun e => e.1 % 256 = f.seq.toNat)
      let s := s.updShelf (fun x => { x with
        statNew := x.statNew.set k none, stat := x.stat.set k (some f), statAge := x.statAge.set k 0
        tmoSeen := x.tmoSeen.set k false, iMeas := x.iMeas.set k f.iMeas
        misApply := x.misApply.modify k (fun n => match sent with
          | some e => if F32.lt (s.getReg ALLOC.APPLY_TOL) (F32.abs (F32.sub f.iApplied (e.2.getD k 0))) then n + 1 else 0
          | none => n) })
      if stFault f then s.raise (64 + k) [4] else s
  let stopped : Bool := match s.shelf.stat.getD k none with
    | some f => stStopped f && s.shelf.en.getD k false && !F32.isZero (s.shelf.iSet.getD k 0)
    | none => false
  let n := if stopped then s.shelf.stopRun.getD k 0 + 1 else 0
  let s := s.updShelf (fun x => { x with stopRun := x.stopRun.set k n })
  if n = tmo ∧ stopped = true then s.raise (64 + k) [5] else s

/-- Bus supervision of one cycle result (R271, R265): runs, and the end of FS_BUS_OV and FS_BUS_UV. -/
def busRuns (s : State) : State :=
  let v := s.vBus
  let ov := F32.lt (s.getReg SHELF.V_OV) v
  let uv := F32.lt v (s.getReg SHELF.V_UV)
  let low := F32.lt v (s.getReg HOLDUP.V_ENTER)
  let s := s.updShelf (fun x => { x with
    ovRun := if ov then x.ovRun + 1 else 0, uvRun := if uv then x.uvRun + 1 else 0, huV := if low then x.huV + 1 else 0 })
  let s := if ov then s else s.endL 104
  if uv then s else s.endL 105

/-- STATUS of string `k` reports LIMITED. -/
def strLimited (s : State) (k : Nat) : Bool := match s.shelf.stat.getD k none with
  | some f => stLimited f
  | none => false

/-- The string registers STRk after its gate (Table 8-10). -/
def gateStep (s : State) (k : Nat) : State :=
  let g := s.nextGate k
  let s := s.updShelf (fun x => { x with gate := x.gate.set k g })
  let s := if g = 0 ∧ s.pgRunning pCORNICE then s.setReg (CORNICE.F k) 0 else s
  if !s.pgRunning pALLOC then s else
  let s := ((s.setF (ALLOC.STR_OFF_CAUSE k) (s.offCause k)).setB (ALLOC.STR_GATE k) (g = gateOne)).setB
    (ALLOC.STR_DRAINING k) (0 < g ∧ g < gateOne)
  let s := (s.setB (ALLOC.STR_EOD k) (s.getB (ESTSTR.RES_STAT_EOD k))).setB (ALLOC.STR_EOC k) (s.getB (ESTSTR.RES_STAT_EOC k))
  let s := s.setB (ALLOC.STR_STALE k) (s.staleStatus k)
  s.setB (ALLOC.STR_LIMITED k) (s.strLimited k)

/-- The hottest estimated temperature of the strings with gate 1, as their last valid estimates delivered it (R304); the spec states none without such a string (log entry 71). -/
def hotStrings (s : State) : Word :=
  match s.gated.filterMap (fun k => s.shelf.tHot.getD k none) with
  | [] => Config.unstated 2 (BitVec.ofNat 32 s.shelf.cycle)
  | t :: l => l.foldl F32.max t

/-- f of the thermal cap (R260). -/
def thermal (s : State) (t : Word) : Word :=
  let a := s.getReg CREST.T_DER_START
  let b := s.getReg CREST.T_DER_END
  if F32.le t a then 0x3F800000 else if F32.le b t then 0 else F32.div (F32.sub b t) (F32.sub b a)

/-- A cap in force and its source (R260): the lowest; with every cap at the largest finite value none governs. -/
def capOf (s : State) (chg : Bool) (f : Word) : Word × Nat :=
  let pick (d c : Nat) : Word := s.getReg (if chg then c else d)
  let th := (F32.pos0 (F32.mul (pick CREST.P_RATED_DIS CREST.P_RATED_CHG) f), 3)
  let lost := if chg then s.shelf.lossChg else s.shelf.lossDis
  let l := if s.mode = mHOLDUP then [(F32.pos0 (pick HOLDUP.CAP_DIS HOLDUP.CAP_CHG), 5)]
    else [if lost then (F32.pos0 (pick CREST.LOSS_CAP_DIS CREST.LOSS_CAP_CHG), 4)
      else (F32.pos0 (pick CREST.CAP_PLANT_DIS CREST.CAP_PLANT_CHG), 1), (F32.pos0 (pick CREST.CAP_HOST_DIS CREST.CAP_HOST_CHG), 2)]
  let m := l.foldr (fun x y => if F32.lt y.1 x.1 then y else x) th
  if F32.le 0x7F7FFFFF m.1 then (m.1, 0) else m

/-- One direction of the caps, the overdraw bucket and P_LIM (R260, R261); `start` at a CREST page start: a full bucket and P_LIM at its target. A target limit outside binary32 is unstated (log entry 88). -/
def crestDir (s : State) (chg start : Bool) : State :=
  let f := s.thermal (s.getReg CREST.T_HOT)
  let (cap, src) := s.capOf chg f
  let rB := if chg then CREST.BUCKET_CHG else CREST.BUCKET_DIS
  let rL := if chg then CREST.P_LIM_CHG else CREST.P_LIM_DIS
  let p := if chg then F32.neg s.pShelf else s.pShelf
  let p := F32.max 0 p
  let bm := F32.pos0 (s.getReg CREST.BUCKET_MAX)
  let b := if start then bm
    else F32.clampAbs bm (F32.add (s.getReg rB) (F32.mul (F32.sub cap p) s.cycleSec))
  let big := F32.ofQ false (F32.scaledMag cap * s.getF CREST.OVER_OVER_PCT) (100 * 2 ^ 149)
  let target := if F32.lt 0 b then (if F32.isFinite big then big else Config.unstated 1 cap) else cap
  let lim := if start then target else F32.toward (s.getReg CREST.SLEW) (s.getReg rL) target
  let s := ((s.setReg (if chg then CREST.CAP_CHG else CREST.CAP_DIS) cap).setReg rB b).setReg rL lim
  let s := s.setF (if chg then CREST.CAP_SRC_CHG else CREST.CAP_SRC_DIS) src
  s.setB (if chg then CREST.CREST_STAT_OVER_CHG else CREST.CREST_STAT_OVER_DIS) (F32.lt cap target)

/-- Caps, buckets and limits at a CREST page start (R261) and at a boundary. -/
def crestLimits (s : State) (start : Bool) : State :=
  ((s.setReg CREST.T_HOT s.hotStrings).crestDir false start).crestDir true start

/-- The run of R264: power above P_LIM of its direction by more than TOL_PCT. -/
def exceedRun (s : State) : State :=
  let p := s.pShelf
  let chg := F32.isNeg p
  let lim := s.getReg (if chg then CREST.P_LIM_CHG else CREST.P_LIM_DIS)
  let top := F32.ofQ false (F32.scaledMag lim * (100 + s.getF CREST.EXCEED_TOL_PCT)) (100 * 2 ^ 149)
  let dir := if chg then 2 else 1
  if F32.lt top (F32.abs p) then
    s.updShelf (fun x => { x with capUs := if x.capDir = dir then x.capUs + s.cycleUs else 0, capDir := dir })
  else ((s.updShelf (fun x => { x with capUs := 0, capDir := 0 })).setF CREST.CREST_STAT_EXCEED 0).setCond 107 false

/-- The references that SHELF supplies (Table 8-1, R246, R248, R268). -/
def references (s : State) : State :=
  let busv := s.busvRef
  let ramp := s.getB SHELF.REG_STAT_START_RAMP
  let perMs := s.getReg SHELF.START_SLEW
  let step := F32.div (F32.mul perMs (F32.ofNat s.cycleUs)) (F32.ofNat 1000)
  let start := if !(F32.isFinite perMs && F32.lt 0 perMs) then busv
    else if s.shelf.startNew then s.vBus
    else F32.toward step s.shelf.startRef busv
  let s := s.updShelf (fun x => { x with startRef := start, startNew := false })
  let s := s.setReg SHELF.P_REF (F32.toward (s.getReg SHELF.P_SLEW) (s.getReg SHELF.P_REF) s.pTarget)
  let n := max 1 (1000 * s.getF HOLDUP.HB_RAMP_MS)
  let t := min s.shelf.hbUs n
  let target := if s.wantMode = 0 then busv else s.shelf.hbTo
  let hold := if s.huState = 2 then
      F32.add s.shelf.hbFrom (F32.mul (F32.sub target s.shelf.hbFrom) (F32.ofQ false t n))
    else s.holdRef
  let l := (List.replicate 8 (none : Option Word)).set (s.roleSlot roBUSV) (some (if ramp ∧ s.actSlot = s.roleSlot roBUSV then start else busv))
  let l := (l.set (s.roleSlot roHOLD) (some hold)).set (s.roleSlot roPCMD) (some (s.getReg SHELF.P_REF))
  let l := (l.set (s.getF SHELF.ROLE_CREST_DIS) (some (s.getReg CREST.P_LIM_DIS))).set (s.getF SHELF.ROLE_CREST_CHG)
    (some (F32.neg (s.getReg CREST.P_LIM_CHG)))
  s.updShelf (fun x => { x with roleRef := l })

/-- A slot's shelf hold takes a governing row (R250): H as given, or the slot's OUT at the boundary at which the row began to govern. A hold that ends leaves its H for the preset of the next evaluation in AUTO. -/
def setHold (s : State) (i row : Nat) (h : Option Word) : State :=
  let old := s.shelf.hold.getD i (0, 0)
  let v := match h with
    | some w => w
    | none => if old.1 = row then old.2 else s.outDue i
  let s := s.updShelf (fun x => { x with hold := x.hold.set i (row, if row = 0 then 0 else v) })
  if row = 0 then (if old.1 = 0 then s else s.updVs i (fun x => { x with preH := some old.2 }))
  else s.updVs i (fun x => { x with preH := none })

/-- The demand ramps to zero, or stays there: SHELF_INHIBIT, descent step 2, SERVICE, or a start of regulation that waits (Table 8-2, R248, Table 3-1). -/
def zeroDemand (s : State) : Bool := s.inhibit || s.shelf.descRamp || s.mode == mSERVICE || s.shelf.startReg

/-- The limit hold of one boundary (Table 8-2, R251, R258): its direction, its start and end, its cause's run; L. -/
def limitStep (s : State) : State × Word :=
  let e := s.getReg (VSLOT.E s.actSlot)
  let dem := s.getReg SHELF.DEMAND
  let short := F32.sub dem (s.getReg SHELF.DEMAND_LIM)
  let tol := s.getReg ALLOC.SHORT_TOL
  let s :=
    if (s.shelf.limDir = 1 ∧ F32.le e 0) ∨ (s.shelf.limDir = 2 ∧ F32.le 0 e) then s.limitEnd
    else if s.shelf.limDir ≠ 0 then s
    else if F32.lt 0 dem && F32.lt tol short then s.updShelf (fun x => { x with limDir := 1, limShort := short, limRun := 0 })
    else if F32.lt dem 0 && F32.lt tol (F32.neg short) then s.updShelf (fun x => { x with limDir := 2, limShort := short, limRun := 0 })
    else s
  if s.shelf.limDir = 0 then (s, 0)
  else
    let dis := s.shelf.limDir = 1
    let sum := F32.sumX (s.gated.map (fun k => if dis then s.dLim k else s.cLim k))
    let crest := s.getReg (if dis then CREST.I_LIM_DIS else CREST.I_LIM_CHG)
    let byStr := if dis then F32.le sum crest else F32.le crest sum
    let s := s.updShelf (fun x => { x with limByStr := byStr, limRun := if byStr then x.limRun + 1 else 0 })
    (s, if dis then F32.min crest sum else F32.max crest sum)

/-- REG_STAT shows the active slot's hold; a stopped SHELF page keeps its last values (R569). -/
def showHold (s : State) (row : Nat) (ramp : Bool) : State :=
  if s.pgRunning pSHELF then (s.setB SHELF.REG_STAT_INHIBIT_RAMP ramp).setF SHELF.REG_STAT_HOLD row else s

/-- The hold of the active regulation slot. A slot whose preset from a handover is still due is not held by the lower rows (R252), and a fenced one follows its FENCE_ACT (R274). -/
def activeHold (s : State) : State :=
  let a := s.actSlot
  let stuck := if a = s.roleSlot roPCMD then s.stuckCh 1 else s.stuckCh 0 && !s.shelf.srcD2
  if s.zeroDemand then
    let s := s.limitEnd
    let first := (s.shelf.hold.getD a (0, 0)).1 ≠ 1
    let out := s.outDue a
    let s := s.updShelf (fun x => { x with
      rampFrom := if first then out else x.rampFrom, rampUs := if first then 0 else x.rampUs + s.cycleUs })
    let n := max 1 (1000 * (if s.shelf.descRamp ∧ !s.inhibit then s.getF DEV.DESCENT_CFG_RAMP else s.getF SHELF.SAFE_RAMP_MS))
    let t := s.shelf.rampUs
    let h := if n ≤ t ∨ s.mode = mSERVICE ∨ s.shelf.startReg then 0 else F32.mul s.shelf.rampFrom (F32.ofQ false (n - t) n)
    (s.setHold a 1 (some h)).showHold 1 (!F32.isZero h)
  else if s.slotFenced a ∨ s.shelfOff then ((if s.shelf.limDir = 0 then s else s.limitEnd).setHold a 0 none).showHold 0 false
  else
    let due := (s.vslot a).target.isSome
    let (s, l) := if due then (s, 0) else s.limitStep
    if s.shelf.limDir ≠ 0 ∧ !due then (s.setHold a 2 (some l)).showHold 2 false
    else if stuck ∧ !due then (s.setHold a 3 none).showHold 3 false
    else (s.setHold a 0 none).showHold 0 false

/-- The holds of the other summit slots: a STUCK source, a crest direction that did not bind (Table 8-2). -/
def summitHold (s : State) (i : Nat) : State :=
  if i = s.actSlot then s
  else
    let d0 := s.stuckCh 0
    let crest := (i = s.getF SHELF.ROLE_CREST_DIS ∧ (!s.getB CREST.CREST_STAT_BIND_DIS ∨ d0 ∨ s.stuckCh 1))
      ∨ (i = s.getF SHELF.ROLE_CREST_CHG ∧ (!s.getB CREST.CREST_STAT_BIND_CHG ∨ d0 ∨ s.stuckCh 1))
    let reg := ((i = s.roleSlot roBUSV ∨ i = s.roleSlot roHOLD) ∧ d0 ∧ !s.shelf.srcD2)
      ∨ (i = s.roleSlot roPCMD ∧ s.stuckCh 1)
    if reg ∧ (s.vslot i).target = none then s.setHold i 3 none
    else if crest then s.setHold i 5 none
    else s.setHold i 0 none

/-- A pending cornice opens at this boundary (R286). -/
def cnDue (s : State) : Bool := s.cnState == cnPENDING && s.cn.accUs < s.dev.nowUs && s.cn.tStep ≤ s.dev.nowUs + s.getF CORNICE.ADVANCE_US

/-- X_k is not 0 (R335). -/
def excited (s : State) (k : Nat) : Bool := (s.shelf.exc.getD k none).isSome

/-- The hold of the share-trim slot of string `k` (Table 8-2). -/
def trimHold (s : State) (k : Nat) : State :=
  let held := s.staleStatus k || s.strLimited k || s.shelf.clamped.getD k false
    || !F32.isZero (s.getReg (CORNICE.F k)) || s.excited k || s.cnLive || s.cnDue
  let s := if s.gateOf k ≠ gateOne then s.setHold (8 + k) 6 (some 0)
    else if held then s.setHold (8 + k) 7 none
    else s.setHold (8 + k) 0 none
  if s.pgRunning pALLOC then s.setB (ALLOC.STR_TRIM_HELD k) ((s.holdOf (8 + k)).isSome) else s

/-- The active slot has met an evaluation since the fold was set (R291). -/
def actEvaluated (s : State) : Bool :=
  let v := s.vslot s.actSlot
  !s.slotOn s.actSlot || (v.divCount = 0 && !v.released)

/-- Step 4 (R244, R255, R256, R569): I_dem and A_k. -/
def allocate (s : State) : State × List Word :=
  let dem := if s.shelfOff then 0 else s.outNow s.actSlot
  let pos := !F32.isNeg dem
  let gw := s.gws pos
  let none_ := gw.sum = 0 ∧ !F32.isZero dem
  let a :=
    if s.shelfOff ∨ F32.isZero dem ∨ gw.sum = 0 then List.replicate 24 0
    else if pos then waterFill dem gw ((List.range 24).map s.dLim)
    else (waterFill (F32.neg dem) gw ((List.range 24).map (fun k => F32.neg (s.cLim k)))).map (fun x => if F32.isZero x then x else F32.neg x)
  let s := if s.pgRunning pSHELF then s.setReg SHELF.DEMAND dem else s
  if !s.pgRunning pALLOC then (s, a)
  else
    let s := (s.setB ALLOC.ALLOC_STAT_NO_STRING none_).setB ALLOC.ALLOC_STAT_DIR (!pos)
    let s := (s.setF ALLOC.ALLOC_STAT_N_GATED s.gated.length).setReg ALLOC.SHORT (F32.sub dem (F32.sumX a))
    (forAll 24 (fun s k =>
      let lim := if pos then s.dLim k else s.cLim k
      s.setB (ALLOC.STR_CAPPED k) (!F32.isZero dem && F32.eqv (a.getD k 0) lim && s.gateOf k ≠ 0)) s, a)

/-- Step 5 (R262, R569): the current limits, the crest scale and A'_k. -/
def crestClamp (s : State) (a : List Word) : State :=
  let v := F32.max (s.getReg SHELF.V_FLOOR) s.vBus
  let dis := F32.max 0 (F32.add (F32.div (s.getReg CREST.P_LIM_DIS) v) (s.getReg (VSLOT.OUT (s.getF SHELF.ROLE_CREST_DIS))))
  let chg := F32.neg (F32.max 0 (F32.sub (F32.div (s.getReg CREST.P_LIM_CHG) v) (s.getReg (VSLOT.OUT (s.getF SHELF.ROLE_CREST_CHG)))))
  let sum := F32.sumX a
  let bd := !s.shelfOff && F32.lt dis sum
  let bc := !s.shelfOff && F32.lt sum chg
  let sc := if bd then F32.div dis sum else if bc then F32.div chg sum else 0x3F800000
  let a' := a.map (fun x => if F32.isZero x then 0 else F32.mul sc x)
  let s := if s.pgRunning pCREST then
      (((s.setReg CREST.I_LIM_DIS dis).setReg CREST.I_LIM_CHG chg).setB CREST.CREST_STAT_BIND_DIS bd).setB CREST.CREST_STAT_BIND_CHG bc
    else s
  let s := if s.pgRunning pSHELF then s.setReg SHELF.DEMAND_LIM (F32.sumX a') else s
  let s := if s.pgRunning pALLOC then forAll 24 (fun s k => s.setReg (ALLOC.A k) (a'.getD k 0)) (s.setReg ALLOC.SCALE sc) else s
  s.updShelf (fun x => { x with sentA := a' })

/-- X_k at a boundary (R335): the phases of the four sines are exact turns. -/
def excitation (s : State) (k : Nat) : Word :=
  match s.shelf.exc.getD k none with
  | none => 0
  | some (t0, stop) =>
    let t := s.dev.nowUs - t0
    let half := max 1 (500 * s.getF SURVEY.PREROLL_MS)
    let up (u : Nat) : Nat := min u half
    let env := match stop with
      | none => F32.ofQ false (up t) half
      | some e =>
        let d := s.dev.nowUs - e
        if half ≤ d then 0 else F32.mul (F32.ofQ false (up (e - t0)) half) (F32.ofQ false (half - d) half)
    let term (i : Nat) : Word :=
      let turns := (s.getF (SURVEY.FREQ_F i) * t * 24 + k * (2 * i + 1) * 4000000) % 96000000
      F32.mul (F32.ofQ false (s.getF (SURVEY.FREQ_AMP i)) 100000) (F32.sinTurns turns 96000000)
    F32.mul (F32.mul env (s.getReg SURVEY.I_RATED)) (F32.sum ((List.range 4).map term))

/-- An excitation whose fall is over is gone. -/
def excEnd (s : State) (k : Nat) : State :=
  match s.shelf.exc.getD k none with
  | some (_, some e) =>
    if 500 * s.getF SURVEY.PREROLL_MS ≤ s.dev.nowUs - e then s.updShelf (fun x => { x with exc := x.exc.set k none }) else s
  | _ => s

/-- The bytes of a SETPOINT frame without SOF and EOF (Tables 4-3 and 4-6, R269): header, payload, CRC-32. -/
def setpointBytes (s : State) (k : Nat) (i : Word) (en sv : Bool) : List Nat :=
  let ep := s.getF (YPORT.EPOCH_TX_EPOCH k)
  let b := [0, (ep % 16) * 16 + 4, 16, s.shelf.cycle % 256] ++ leBytes 4 i.toNat ++ leBytes 2 ep
    ++ [en.toNat + 2 * sv.toNat, 0] ++ leBytes 4 s.vBus.toNat ++ leBytes 4 s.shelf.cycle
  b ++ leBytes 4 (crc32 b)

/-- This controller sends SETPOINTs: it is active (R244), has not sent YIELD (R425) and passes the token gate (R463). -/
def sends (s : State) : Bool := s.isActive && !s.pair.yielded && s.tokenOk

/-- I_SET_k, ENABLE and the transmit queue entry of string `k` (R243, R269, R187, R569). A string with ENABLE = 0 receives 0. -/
def setpoint (s : State) (k : Nat) : State :=
  let x := if s.shelfOff then 0 else s.excitation k
  let d := s.dLim k
  let c := s.cLim k
  let sum := F32.add (F32.add (F32.add (s.shelf.sentA.getD k 0) (s.getReg (VSLOT.OUT (8 + k)))) (s.getReg (CORNICE.F k))) x
  let i := F32.min d (F32.max c sum)
  let en := decide (0 < s.gateOf k) && s.mode != mSERVICE && !s.shelfOff && !(s.getB DEV.MODE_STAT_DESCENT && 3 ≤ s.dev.descStep)
  let i := if en then i else 0
  let sv := en && !F32.isZero x
  let s := s.updShelf (fun z => { z with
    iSet := z.iSet.set k i, en := z.en.set k en, clamped := z.clamped.set k (en && !F32.eqv i sum) })
  let s := if s.pgRunning pALLOC then (s.setB (ALLOC.STR_ENABLE k) en).setB (ALLOC.STR_SURVEY k) sv else s
  if !s.fmOk ∨ !s.pgRunning (pYPORT k) ∨ s.getB (YPORT.PORT_CFG_MONITOR_ONLY k) ∨ !s.sends then s
  else s.writeBytes (linkBuf k + 0x1800 + 128 * (s.shelf.cycle % 2)) ((s.setpointBytes k i en sv).map (BitVec.ofNat 8))

/-- Steps 6 and 7, as a cornice that opens at this boundary repeats them. -/
def stageSet (s : State) : State := forAll 24 setpoint s.cnStage

/-- A word of a page's status at the end of step 7: a page that is not RUNNING keeps its last values (R569). -/
def showOn (s : State) (p a : Nat) (w : Word) : State := if s.pgRunning p then s.setReg a w else s

/-- Status registers of the shelf pages at the end of step 7 (R276 to R278, R300). -/
def showShelf (s : State) : State :=
  let c := BitVec.ofNat 32 s.shelf.cycle
  let s := (((s.showOn pSHELF SHELF.CYCLE c).showOn pALLOC ALLOC.CYCLE c).showOn pCREST CREST.CYCLE c).showOn pCORNICE CORNICE.CYCLE c
  let s := (s.showOn pSHELF SHELF.P_SHELF s.pShelf).showOn pSHELF SHELF.V_BUS_USED s.vBus
  s.showOn pSHELF SHELF.REF_USED ((s.shelf.roleRef.getD s.actSlot none).getD (s.getReg (VSLOT.REF s.actSlot)))

/-- AGE of the PEER entries of CAN1, in units of 100 ms of operating time (R519, Table 17-8). -/
def peerAges (s : State) : State :=
  forAll 24 (fun s k => if s.getF (CAN.PEER_ADDR 1 k) = 0 then s else s.incSat (CAN.PEER_AGE 1 k)) s

/-- Time of one shelf cycle (R161): operating time, the cycle count, the timers that count it; the settings of the shelf pages take effect (R42); PLLs without a user have stopped (R85). -/
def cycleTime (s : State) : State :=
  let dt := s.cycleUs
  let s := s.pllStep.tbGlide dt
  let s := if (s.dev.nowUs + dt) / 100000 = s.dev.nowUs / 100000 then s else s.peerAges
  let zero := s.mode != mASCENT && F32.lt (F32.abs (s.getReg SAMPLE.I_SHELF)) (s.getReg DEV.SVC_IZERO)
  let s := { s with fm := { s.fm with flushed := false }, dev := { s.dev with
    nowUs := s.dev.nowUs + dt, ckptLeftUs := s.dev.ckptLeftUs - dt, svcQuietUs := if zero then s.dev.svcQuietUs + dt else 0,
    late := s.dev.late.filter (fun e => setBoundary e.addr) } }
  s.updShelf (fun x => { x with
    cycle := (x.cycle + 1) % 2 ^ 32
    plantUs := if x.plantOn then x.plantUs + dt else 0 })

/-- HOLD_N is low after its filter and not stuck (R265, R416). -/
def holdNLow (s : State) : Bool := s.getB (SEQ.INP_STAT_FILT 1) && !s.getB (SEQ.INP_STAT_STUCK 1)

/-- The causes of hold-up that are present at this boundary: voltage, pin, plant (R265). -/
def huPresent (s : State) : Bool × Bool × Bool :=
  (s.getB HOLDUP.HU_CFG_V_EN && s.getF HOLDUP.HU_CFG_ENTER_N ≤ s.shelf.huV && 0 < s.shelf.huV,
   s.getB HOLDUP.HU_CFG_PIN_EN && s.holdNLow,
   s.getB HOLDUP.HU_CFG_PLANT_EN && s.shelf.huReqPlant)

/-- One cycle in HOLDING: its time. -/
def huHolding (s : State) (dt : Nat) : State :=
  let s := s.updShelf (fun x => { x with huUs := x.huUs + dt })
  s.setN HOLDUP.HU_TIME (min (s.shelf.huUs / 1000) (2 ^ 32 - 1))

/-- One cycle in HAND_BACK: an entry condition returns to HOLDING and clears the release. -/
def huHandBack (s : State) (any : Bool) (dt : Nat) : State :=
  if any then (s.setF HOLDUP.HU_STAT_STATE 1).setF HOLDUP.HU_STAT_REL_LATCHED 0
  else s.updShelf (fun x => { x with hbUs := x.hbUs + dt })

/-- An entry condition is refused with a code (Table 8-4), reported once while it holds. -/
def huRefuse (s : State) (code causes : Nat) : State :=
  if s.shelf.huTold then s else (s.updShelf (fun x => { x with huTold := true })).raise 109 [code, causes]

/-- Entry into HOLDING from IDLE (Table 8-4), or its refusal: in a descent (R75), at the boundary of a SAFE fault (Table 3-3), or where the handover is refused. -/
def huEnter (s : State) (causes : Nat) : State :=
  if !s.pgRunning pHOLDUP then s
  else if s.getB DEV.MODE_STAT_DESCENT then s.huRefuse 4 causes
  else if !(s.mode == mRUN || s.mode == mDEGRADED) then s
  else if s.shelf.safeNow then s.huRefuse 4 causes
  else if s.handoverOk s.actSlot (s.roleSlot roHOLD) then
    let s := (s.handover s.actSlot (s.roleSlot roHOLD)).updShelf (fun x => { x with huUs := 0, huTmaxSeen := false, huTold := false })
    let s := ((s.setF HOLDUP.HU_STAT_STATE 1).incSat HOLDUP.HU_STAT_ENTRIES).setF HOLDUP.HU_STAT_CAUSE causes
    let s := (s.setN HOLDUP.HU_TIME 0).setF HOLDUP.HU_STAT_REL_LATCHED 0
    (s.setMode mHOLDUP).raise 109 [1, causes]
  else s.huRefuse 2 causes

/-- A release is latched, in any state of hold-up (R266); a stopped HOLDUP page keeps its registers (R569). -/
def huRelease (s : State) : State := if s.pgRunning pHOLDUP then s.setF HOLDUP.HU_STAT_REL_LATCHED 1 else s

/-- V_BUS at the boundary of the release (R268). -/
def huReleased (s : State) : State :=
  let rel := s.getB HOLDUP.HU_STAT_REL_LATCHED
  s.updShelf (fun x => { x with hbTo := if rel && !x.hbSeen then s.vBus else x.hbTo, hbSeen := rel, safeNow := false })

/-- Hold-up at a boundary (R265 to R267): entry by the causes that were announced and are present, its refusal, the return from HAND_BACK, and the times. -/
def huStep (s : State) : State :=
  let dt := s.cycleUs
  let p := s.huPresent
  let v := p.1 && s.shelf.huReqV
  let pin := p.2.1 && s.shelf.huReqPin
  let plant := p.2.2
  let any := v || pin || plant
  let causes := v.toNat + 2 * pin.toNat + 4 * plant.toNat
  let present := p.1 || p.2.1 || p.2.2
  let rel := s.shelf.huReqRel
  let s := s.updShelf (fun x => { x with
    huReqV := v, huReqPin := pin, huReqPlant := false, huReqRel := false
    huQuietUs := if present then 0 else x.huQuietUs + dt, huTold := x.huTold && any })
  let s :=
    if s.huState = 1 then (s.huHolding dt).setF HOLDUP.HU_STAT_REL_LATCHED (if plant then 0 else s.getF HOLDUP.HU_STAT_REL_LATCHED)
    else if s.huState = 2 then s.huHandBack any dt
    else if any then s.huEnter causes
    else s
  (if rel then s.huRelease else s).huReleased

/-- The hold-up entry that the coming boundary makes (R265), where nothing intervenes. -/
def huComes (s : State) : Bool :=
  let p := s.huPresent
  s.huState = 0 && ((p.1 && s.shelf.huReqV) || (p.2.1 && s.shelf.huReqPin) || p.2.2) && s.pgRunning pHOLDUP
    && (s.mode == mRUN || s.mode == mDEGRADED) && !s.getB DEV.MODE_STAT_DESCENT && !s.shelf.safeNow
    && s.handoverOk s.actSlot (s.roleSlot roHOLD)

/-- T_HOT of the strings with a valid estimate, as the crest limiter takes it (R304). -/
def hotDeliver (s : State) : State :=
  s.updShelf (fun x => { x with tHot := (List.range 24).map (fun k =>
    if s.getB (ESTSTR.RES_STAT_VALID k) then some (s.getReg (ESTSTR.T_HOT k)) else x.tHot.getD k none) })

/-- The registers that change together at a boundary (R21, R55, R179), T_HOT with them. Firmware's words are counted; a stopped ALLOC page keeps its weights (R569). -/
def publish (s : State) : State :=
  hotDeliver <| (s.shelf.pendRegs.foldl (fun s e =>
    if e.1 / 0x1000 = pALLOC ∧ s.pgRunning pALLOC = false then s
    else
      let s := s.setReg e.1 e.2
      if [SHELF.P_CMD_PLANT, CREST.CAP_PLANT_DIS, CREST.CAP_PLANT_CHG].contains e.1 then s.countChg (e.1 / 0x1000) else s) s).updShelf (fun x => { x with pendRegs := [] })

/-- REG_LOST ends with the fence of the role slots (R274), PLANT_LOST with the loss (R273). -/
def regLost (s : State) : State :=
  if !s.pgRunning pSHELF then s else
  let s := s.setB SHELF.REG_STAT_PLANT_LOST (s.getCond 111)
  if [roBUSV, roHOLD, roPCMD].any (fun r => s.slotFenced (s.roleSlot r)) then s else s.setF SHELF.REG_STAT_REG_LOST 0

/-- Steps 1 to 7 of Table 1-3 in an operating mode. -/
def shelfCycle (s : State) (c : CycleIn) : State :=
  let s := (s.publish.updShelf (fun x => { x with refA := x.sentA })).decimate c
  let s := forAll 24 latchStatus s
  let fb := s.stuckCh 0 && s.sdmEn 2 && !s.stuckCh 2 && s.getB SHELF.SHELF_CFG_D2_FALLBACK
  let s := (s.updShelf (fun x => { x with srcD2 := fb })).busRuns
  let s := if s.pgRunning pSHELF then s.setB SHELF.REG_STAT_V_SRC_D2 fb else s
  let s := (forAll 24 gateStep s).regLost.huStep
  let s := if s.pgRunning pCREST then (s.crestLimits false).exceedRun else s
  let s := if s.pgRunning pSHELF then s.references else s
  let s := if s.pgRunning pCORNICE then s.cnObserve.cnTime else s
  let s := forAll 24 trimHold (forAll 8 summitHold s.activeHold)
  let s := if s.pgRunning pCORNICE then s.cnTest.cnRamp else s
  let s := if s.pgRunning pVCE then
      (List.range 8).foldl (fun s j => s.releaseSlot (56 + j)) (forAll 32 (fun s i => s.boundarySlot c.late i) s)
    else s
  let s := if s.actEvaluated then s.cnFolded else s
  let (s, a) := s.allocate
  let s := forAll 24 excEnd ((s.crestClamp a).stageSet)
  s.showShelf

end State

/-- SHELF_CYCLE_BOUNDARY (Table 1-3), with firmware's reaction to halted SDMA channels (R201, log entry 115). In ASCENT only the time passes; without power nothing does. -/
def execShelfCycleBoundary (c : CycleIn) (s : State) : Host.Outcome State Fault Refusal :=
  if s.operating then .next (s.cycleTime.sdmaPolicy.shelfCycle c)
  else if s.powered then .next s.cycleTime
  else .next s

end Sys2Proof.Machine
end

