-- ==== Sys2Proof/Machine/Shelf.lean ====
section
/-! DEFINITION. Shelf power control (chapter 8): the meanings of its commands beside the shelf-cycle boundary. A command whose run or time is not reached changes nothing. -/

namespace Sys2Proof.Machine

namespace State

/-- A write of SHELF_CFG.REG_MODE (R247): a request, kept during HOLDUP, or its withdrawal. It ends a TO_BUSV of R272: the mode written counts again (log entry 110). -/
def regModeSet (s : State) : State :=
  let s := s.updShelf (fun x => { x with toBusv := false })
  if s.getF SHELF.SHELF_CFG_REG_MODE ≠ s.getF SHELF.REG_STAT_MODE_ACT then
    (s.updShelf (fun x => { x with regPend := true })).setF SHELF.REG_STAT_MODE_CHG 1
  else if s.shelf.regPend then (s.updShelf (fun x => { x with regPend := false })).setF SHELF.REG_STAT_MODE_CHG 0
  else s

/-- A valid plant message (R272, R273): it restarts the timer and ends a loss. -/
def plantSeen (s : State) : State :=
  let s := s.updShelf (fun x => { x with plantOn := true, plantUs := 0 })
  let s := if s.getCond 111 then s.endL 111 else s
  if s.pgRunning pSHELF then s.setF SHELF.REG_STAT_PLANT_LOST 0 else s

end State

open State

/-- REGULATION_START (R248): the slot of REG_MODE is active and leaves its hold with a held value of 0; the start ramp begins. Where another slot was active it goes to TRACK of that slot, which goes to AUTO, as at a handover (R220, R247); a REG_MODE change that still waited is done with it. -/
def execRegulationStart (s : State) : Host.Outcome State Fault Refusal :=
  if s.shelf.startReg ∧ s.inhibit = false ∧ (s.mode = mRUN ∨ s.mode = mDEGRADED) then
    let m := s.wantMode
    let a := s.actSlot
    let b := s.roleSlot (modeRole m)
    let s := if a = b then s
      else ((s.setF (VSLOT.SLOT_CTRL_MODE a) 2).setF (VSLOT.SLOT_CTRL_TRK_SLOT a) b).setF (VSLOT.SLOT_CTRL_MODE b) 0
    let s := (s.makeActive b).setF SHELF.REG_STAT_MODE_ACT m
    let s := if s.shelf.regPend then (s.updShelf (fun x => { x with regPend := false })).setF SHELF.REG_STAT_MODE_CHG 2 else s
    let s := s.updVs b (fun v => { v with needPreset := true, target := some 0 })
    let s := s.updShelf (fun x => { x with startReg := false, startRef := s.vBus, startNew := true, hold := x.hold.set b (0, 0) })
    let s := (s.setF SHELF.REG_STAT_START_RAMP 1).setF SHELF.REG_STAT_INHIBIT_RAMP 0
    .next (if m = 1 then s.setReg SHELF.P_REF 0 else s)
  else .next s

/-- START_RAMP_END (R248): the supplied reference, or P_REF, is at its target. -/
def execStartRampEnd (s : State) : Host.Outcome State Fault Refusal := s.heldRun fun s =>
  let done := if s.getF SHELF.REG_STAT_MODE_ACT = 0 then F32.eqv s.shelf.startRef s.busvRef else F32.eqv (s.getReg SHELF.P_REF) s.pTarget
  if s.getB SHELF.REG_STAT_START_RAMP ∧ done = true then .next (s.setF SHELF.REG_STAT_START_RAMP 0) else .next s

/-- SHORTFALL_COUNT (R258). -/
def execShortfallCount (s : State) : Host.Outcome State Fault Refusal := s.heldRun fun s =>
  let x := s.shelf
  if x.limDir ≠ 0 ∧ x.limByStr ∧ s.getF ALLOC.ALLOC_CFG_SHORT_N ≤ x.limRun ∧ s.getCond 108 = false then
    .next ((s.setF ALLOC.ALLOC_STAT_SHORTFALL 1).raiseL 108 (leBytes 4 x.limShort.toNat))
  else .next s

/-- CAP_EXCEED_TIMER (R264). -/
def execCapExceedTimer (s : State) : Host.Outcome State Fault Refusal := s.heldRun fun s =>
  let x := s.shelf
  if x.capDir ≠ 0 ∧ 1000 * s.getF CREST.EXCEED_TIME ≤ x.capUs ∧ s.getB CREST.CREST_STAT_EXCEED = false then
    .next (((s.setF CREST.CREST_STAT_EXCEED 1).setCond 107 true).raise 107 (leBytes 4 s.pShelf.toNat ++ [x.capDir - 1]))
  else .next s

/-- STATUS_TIMEOUT (Table 8-3, Table 8-5 reason 0x02). -/
def execStatusTimeout (k : Nat) (s : State) : Host.Outcome State Fault Refusal := s.heldRun fun s =>
  if s.operating ∧ s.pgRunning (pYPORT k) ∧ s.getB (YPORT.PORT_CFG_MONITOR_ONLY k) = false
      ∧ s.getF ALLOC.ALLOC_CFG_STATUS_TMO ≤ s.shelf.statAge.getD k 0 ∧ s.shelf.tmoSeen.getD k false = false then
    let s := s.gateZero k
    .next ((s.updShelf (fun x => { x with tmoSeen := x.tmoSeen.set k true })).raise (64 + k) [2])
  else .next s

/-- APPLY_MISMATCH_COUNT (Table 8-5 reason 0x03). -/
def execApplyMismatchCount (k : Nat) (s : State) : Host.Outcome State Fault Refusal :=
  if s.operating ∧ 4 ≤ s.shelf.misApply.getD k 0 then
    .next ((s.updShelf (fun x => { x with misApply := x.misApply.set k 0 })).raise (64 + k) [3])
  else .next s

/-- BUS_OV_COUNT and BUS_UV_COUNT (R271). -/
def execBusOvCount (s : State) : Host.Outcome State Fault Refusal := s.heldRun fun s =>
  if s.operating ∧ 0 < s.shelf.ovRun ∧ s.getF SHELF.BUS_N_OV_N ≤ s.shelf.ovRun ∧ s.getCond 104 = false then
    .next (s.raiseL 104 (leBytes 4 s.vBus.toNat))
  else .next s

def execBusUvCount (s : State) : Host.Outcome State Fault Refusal := s.heldRun fun s =>
  if s.operating ∧ 0 < s.shelf.uvRun ∧ s.getF SHELF.BUS_N_UV_N ≤ s.shelf.uvRun ∧ s.getCond 105 = false then
    .next (s.raiseL 105 (leBytes 4 s.vBus.toNat))
  else .next s

/-- HOLDUP_VOLTAGE_ENTRY and HOLD_N_ENTRY (R265): the condition makes the entry at the next boundary. -/
def execHoldupVoltageEntry (s : State) : Host.Outcome State Fault Refusal :=
  if s.operating ∧ s.huPresent.1 = true then .next (s.updShelf (fun x => { x with huReqV := true })) else .next s

def execHoldNEntry (s : State) : Host.Outcome State Fault Refusal :=
  if s.operating ∧ s.huPresent.2.1 = true then .next (s.updShelf (fun x => { x with huReqPin := true })) else .next s

/-- HOLDUP_AUTO_RELEASE (R266). -/
def execHoldupAutoRelease (s : State) : Host.Outcome State Fault Refusal := s.heldRun fun s =>
  if s.operating ∧ s.getB HOLDUP.HU_CFG_AUTO_REL ∧ 1000 * s.getF HOLDUP.HU_CFG_AUTO_REL_MS ≤ s.shelf.huQuietUs then
    .next s.huRelease
  else .next s

/-- HOLDUP_HAND_BACK_START (Table 8-4, R268): the ramp starts from the HOLD reference in force; in PCMD it goes to V_BUS at the boundary of the release. -/
def execHoldupHandBackStart (s : State) : Host.Outcome State Fault Refusal := s.heldRun fun s =>
  let p := s.huPresent
  if s.huState = 1 ∧ s.getB HOLDUP.HU_STAT_REL_LATCHED ∧ p.1 = false ∧ p.2.1 = false ∧ p.2.2 = false
      ∧ F32.le (s.getReg HOLDUP.V_EXIT) s.vBus = true then
    .next ((s.updShelf (fun x => { x with hbUs := 0, hbFrom := s.holdRef, hbTo := if x.hbSeen then x.hbTo else s.vBus })).setF HOLDUP.HU_STAT_STATE 2)
  else .next s

/-- HB_RAMP_END (Table 8-4): the hand-back handover, or its refusal with code 0x02. A REG_MODE change kept during HOLDUP is done with it (R247). -/
def execHbRampEnd (s : State) : Host.Outcome State Fault Refusal := s.heldRun fun s =>
  if s.huState = 2 ∧ 1000 * s.getF HOLDUP.HB_RAMP_MS ≤ s.shelf.hbUs then
    let m := s.wantMode
    let a := s.actSlot
    let b := s.roleSlot (modeRole m)
    if s.handoverOk a b then
      let s := ((s.handover a b).setF SHELF.REG_STAT_MODE_ACT m).setF HOLDUP.HU_STAT_STATE 0
      let s := if s.shelf.regPend then (s.updShelf (fun x => { x with regPend := false })).setF SHELF.REG_STAT_MODE_CHG 2 else s
      .next (s.setMode s.runOrDegraded)
    else .next (s.raise 109 [2, s.huCauses])
  else .next s

/-- HOLDUP_TMAX_EXPIRY (Table 8-4): once per hold. -/
def execHoldupTmaxExpiry (s : State) : Host.Outcome State Fault Refusal := s.heldRun fun s =>
  let t := s.getF HOLDUP.TMAX_S
  if s.huState = 1 ∧ t ≠ 0 ∧ 1000000 * t < s.shelf.huUs ∧ s.shelf.huTmaxSeen = false then
    .next ((s.updShelf (fun x => { x with huTmaxSeen := true })).raise 109 [3, s.huCauses])
  else .next s

/-- PLANT_TIMEOUT (R272). -/
def execPlantTimeout (s : State) : Host.Outcome State Fault Refusal := s.heldRun fun s =>
  if s.operating ∧ s.pgRunning pSHELF ∧ s.getB SHELF.SHELF_CFG_PLANT_EN ∧ s.shelf.plantOn ∧ 10000 * s.getF SHELF.PLANT_TMO_T ≤ s.shelf.plantUs
      ∧ s.getCond 111 = false then
    let acts := s.getF SHELF.REG_STAT_MODE_ACT = 1 ∧ s.getB SHELF.SHELF_CFG_CMD_SRC = false
    let act := s.getF SHELF.SHELF_CFG_LOSS_ACT
    let s := s.updShelf (fun x => { x with
      lossDis := true, lossChg := true
      cmdHold := x.cmdHold || (decide acts && act == 0)
      toBusv := x.toBusv || (decide acts && act == 2)
      cmdZero := x.cmdZero || (decide acts && (act == 1 || act == 3)) })
    .next ((s.setF SHELF.REG_STAT_PLANT_LOST 1).raiseL 111 [])
  else .next s

/-- REGULATION_SLOT_FENCED (R274): the spare takes the role, or regulation is lost. -/
def execRegulationSlotFenced (i : Nat) (s : State) : Host.Outcome State Fault Refusal :=
  match [roBUSV, roHOLD, roPCMD].find? (fun r => s.pgRunning pSHELF && s.roleSlot r = i && s.slotFenced i) with
  | none => .next s
  | some r =>
    let sp := s.getF SHELF.ROLE_SPARE
    let y := if r = roPCMD then 3 else 1
    if s.getB SHELF.ROLE_SPARE_EN ∧ s.shelf.spareRole = 0 ∧ sp ≠ i ∧ s.slotReady sp ∧ s.getF (VSLOT.SLOT_CFG_YSRC sp) = y then
      let u := s.getReg (VSLOT.OUT i)
      let m := s.getF SHELF.REG_STAT_MODE_ACT
      let act := i = s.actSlot
      let s := (s.setF (VSLOT.SLOT_CTRL_MODE sp) 0).updVs sp (fun v => { v with needPreset := true, target := some u })
      let s := (s.updShelf (fun x => { x with spareRole := r })).setF SHELF.REG_STAT_SPARE_IN_USE 1
      .next (if act then (s.makeActive sp).setF SHELF.REG_STAT_MODE_ACT m else s)
    else .next (s.setF SHELF.REG_STAT_REG_LOST 1)

end Sys2Proof.Machine
end

