-- ==== Sys2Proof/Machine/Cornice.lean ====
section
/-! DEFINITION. The cornice (chapter 9): triggers and their refusals, and the meanings of its commands beside the shelf-cycle boundary. -/

namespace Sys2Proof.Machine

/-- ISN `a` is newer than `b`, modulo 2^16 (R281, R137). -/
def isnNewer (a b : Half) : Bool := 1 ≤ (a - b).toNat && (a - b).toNat < 2 ^ 15

namespace State

/-- The first reason of Table 9-1 that applies; 0 for none. `en` is the trigger's own enable. -/
def cnWhy (s : State) (en : Bool) (lead amp : Word) (hint : Bool) : Nat :=
  let st := s.cnState
  if !s.getB CORNICE.CN_CFG_EN || !en || !s.pgRunning pCORNICE then 1
  else if s.cnModeBad then 2
  else if st = cnPENDING ∨ s.cnLive then 3
  else if st = cnBACKOFF then 4
  else if (s.getReg CORNICE.LEAD_MAX).toNat < lead.toNat then 5
  else if !F32.isFinite amp then 6
  else if hint ∧ F32.isZero amp then 7
  else 0

/-- A trigger is refused (R285) or accepted into PENDING (Table 9-3). -/
def cnTrigger (s : State) (why src : Nat) (isn : Half) (amp lead : Word) (arrival : Nat) : State :=
  if why ≠ 0 then (s.setF CORNICE.CN_REFUSE_REASON why).incSat CORNICE.CNT_B_REFUSED
  else
    let s := s.updCn (fun c => { c with tStep := arrival + lead.toNat, amp := amp, accUs := s.dev.nowUs })
    ((s.setF CORNICE.CN_STAT_ISN isn.toNat).setF CORNICE.CN_STAT_SRC src).setF CORNICE.CN_STAT_STATE cnPENDING

/-- A cancel (R282): a pending cornice is discarded, an open one collapses. -/
def cnCancel (s : State) : State := s.cnCollapse ocCANCELLED

/-- A load-intent message (R281, R282, Table 9-1): in WATCH only its ISN is tracked. -/
def cnIntent (s : State) (amp lead : Word) (isn : Half) (hint arrival : Nat) : State :=
  let fresh := match s.cn.lastIsn with
    | some l => isnNewer isn l
    | none => true
  if !fresh then s
  else
    let s := s.updCn (fun c => { c with hintSel := hint })
    let take (s : State) : State := s.updCn (fun c => { c with lastIsn := some isn, intentAt := some arrival })
    if s.mode = mWATCH then take s
    else if F32.isZero amp then (take s).cnCancel
    else
      let why := s.cnWhy (s.getB CORNICE.CN_CFG_INTENT_EN) lead amp false
      let s := if why = 0 then take s else s
      s.cnTrigger why 0 isn amp lead arrival

/-- CN_CMD.BACKOFF_CLR (Table 9-3). -/
def cnBackoffClr (s : State) : State :=
  if s.cnState = cnBACKOFF then ((s.updCn (fun c => { c with backoffUs := 0 })).setF CORNICE.CNT_C_MISS 0).setF CORNICE.CN_STAT_STATE cnIDLE
  else s

/-- CNT_CTRL.CLR of the CORNICE page. -/
def cnCntClr (s : State) : State :=
  ((s.setReg CORNICE.CNT_A 0).setReg CORNICE.CNT_B 0).setF CORNICE.CNT_C_BACKOFFS 0

end State

open State

/-- STEP_HINT_EDGE (R283): a filtered edge, `atUs` after the last boundary. -/
def execStepHintEdge (rising : Bool) (atUs : Nat) (s : State) : Host.Outcome State Fault Refusal := s.heldRun fun s =>
  let e := s.getF CORNICE.CN_CFG_HINT_EDGE
  let pol := if e = 2 then true else if e = 1 then !rising else rising
  if s.operating ∧ s.mode ≠ mWATCH ∧ pol = true ∧ s.getB (SEQ.INP_STAT_STUCK 2) = false then
    let now := s.dev.nowUs + atUs
    let young := match s.cn.intentAt with
      | some t => decide (now - t < 1000 * s.getF CORNICE.HINT_AGE_MS)
      | none => false
    let i := if s.getB CORNICE.CN_CFG_HINT_SRC = false ∧ young = true then s.cn.hintSel else s.getF CORNICE.CN_CFG_HINT_SEL
    let amp := s.getReg (CORNICE.HINT_AMP i)
    let lead := s.getReg (CORNICE.HINT_LEAD i)
    .next (s.cnTrigger (s.cnWhy (s.getB CORNICE.CN_CFG_HINT_EN) lead amp true) 1 0 amp lead now)
  else .next s

/-- CORNICE_OPEN (R286, R289): at its boundary, after that boundary's I_OBS; F_k and the setpoints of the cycle are formed again with Φ. -/
def execCorniceOpen (s : State) : Host.Outcome State Fault Refusal := s.heldRun fun s =>
  if s.operating ∧ s.cnDue ∧ s.cnModeBad = false then
    let p := F32.div (F32.mul 0x447A0000 s.cn.amp) (F32.max (s.getReg SHELF.V_FLOOR) s.vBus)
    let req := if F32.isNaN p then Config.unstated 6 p else F32.clampAbs (F32.pos0 (s.getReg CORNICE.MAX_AMP)) p
    let base := meanOf s.cn.obs
    let s := s.updCn (fun c => { c with confRun := 0, recorded := false, fold := none })
    let s := (((s.setReg CORNICE.PRED p).setReg CORNICE.PHI_REQ req).setReg CORNICE.BASE base).setN CORNICE.T_OPEN s.shelf.cycle
    let s := s.setN CORNICE.WIN_END (s.shelf.cycle + (s.cnEnd - s.dev.nowUs) / s.cycleUs)
    let s := (s.setF CORNICE.CN_STAT_OPEN 1).setF CORNICE.CN_STAT_STATE cnOPEN
    let s := s.traceAdd 110 1 kCORNICE false []
    .next (s.cnTest.cnFolded.stageSet)
  else .next s

/-- CORNICE_WINDOW_END (R290): the last test has passed without a confirm. -/
def execCorniceWindowEnd (s : State) : Host.Outcome State Fault Refusal := s.heldRun fun s =>
  if s.cnState = cnOPEN ∧ s.cn.fold = none ∧ s.cnLastDone then .next (s.cnCollapse ocMISS) else .next s

/-- CORNICE_COLLAPSE_END (Table 9-3, R295). -/
def execCorniceCollapseEnd (s : State) : Host.Outcome State Fault Refusal := s.heldRun fun s =>
  if s.cnState = cnCOLLAPSING ∧ F32.isZero (s.getReg CORNICE.PHI_REQ) then
    let s := s.setF CORNICE.CN_STAT_OPEN 0
    let s := if s.cn.recorded then s else s.cnResolve (s.getF CORNICE.CN_STAT_OUTCOME) 0
    let lim := s.getF CORNICE.CN_CFG_MISS_LIMIT
    if lim ≠ 0 ∧ lim ≤ s.getF CORNICE.CNT_C_MISS then
      let s := s.updCn (fun c => { c with backoffUs := 1000 * s.getF CORNICE.BACKOFF_MS })
      let s := (s.incSat CORNICE.CNT_C_BACKOFFS).setF CORNICE.CN_STAT_STATE cnBACKOFF
      .next (s.checkFill.raise 110 (leBytes 2 (s.getF CORNICE.CN_STAT_ISN) ++ [lim] ++ leBytes 4 (s.getN CORNICE.PRED)))
    else .next (s.setF CORNICE.CN_STAT_STATE cnIDLE).checkFill
  else .next s

/-- CORNICE_BACKOFF_END (Table 9-3). -/
def execCorniceBackoffEnd (s : State) : Host.Outcome State Fault Refusal :=
  if s.cnState = cnBACKOFF ∧ s.cn.backoffUs = 0 then .next s.cnBackoffClr else .next s

end Sys2Proof.Machine
end

