-- ==== Sys2Proof/Machine/EstBase.lean ====
section
/-! DEFINITION. What other blocks do to the estimator's cells (chapter 10): cell flags, the addresses of cells, initialisation, the reset of a module's capacities, disqualified learning. -/

namespace Sys2Proof.Machine

/-- Cell flags (Table 10-2). -/
abbrev cfINIT : Nat := 0
abbrev cfMEAS : Nat := 1
abbrev cfGATED : Nat := 2
abbrev cfT_SUBST : Nat := 3
abbrev cfT_INT_VALID : Nat := 4
abbrev cfREINIT : Nat := 5
abbrev cfUNANCHORED : Nat := 6
abbrev cfLEARNED : Nat := 7
abbrev cfBOUNDED : Nat := 8

def CellSt.flag (c : CellSt) (b : Nat) : Bool := c.flags.getLsbD b
def CellSt.setFlag (c : CellSt) (b : Nat) (v : Bool) : CellSt :=
  { c with flags := if v then c.flags ||| BitVec.ofNat 16 (2 ^ b) else c.flags &&& ~~~(BitVec.ofNat 16 (2 ^ b)) }

namespace State

def updEst (s : State) (k : Nat) (f : EstStr → EstStr) : State := { s with est := s.est.set k (f (s.estOf k)) }

/-- A register as the next boundary will show it, and registers that change there (R21, R55). -/
def soon (s : State) (a : Nat) : Word := (lookupKey a s.shelf.pendRegs.reverse).getD (s.getReg a)
def later (s : State) (l : List (Nat × Word)) : State := s.updShelf (fun x => { x with pendRegs := x.pendRegs ++ l })

def strProf (s : State) (k : Nat) : Nat := s.getF (ESTSTR.STR_CFG_PROFILE k)

/-- A counter of Table 10-4. -/
def disqFld (k code : Nat) : Fld :=
  if code ≤ 4 then ⟨ESTSTR.DISQ0 k, 32 - 8 * code, 8⟩ else ⟨ESTSTR.DISQ1 k, 64 - 8 * code, 8⟩

/-- A running learning cycle is disqualified (R327). -/
def learnDisq (s : State) (k code : Nat) : State :=
  if s.getF (ESTSTR.LRN_STAT_STATE k) = 1 then
    let s := ((s.setF (ESTSTR.LRN_STAT_STATE k) 0).setF (ESTSTR.LRN_STAT_LAST_DISQ k) code).incSat (disqFld k code)
    (s.updEst k (fun e => { e with anchorRest := false })).raise 198 [k, 3, code]
  else s

/-- Cells that `sel` names are initialised at their next usable voltage (R311). -/
def estInit (s : State) (k : Nat) (sel : Nat → Bool) : State :=
  (s.updEst k (fun e => { e with cells := (List.range e.cells.length).zipWith (fun j c => if sel j then c.setFlag cfINIT false else c) e.cells })).learnDisq k 8

def qNom (s : State) (p : Nat) : Word := s.getReg (ESTPROF.Q_NOM p)

/-- The monitor address of the string's module `m` from the negative terminal (R301). -/
def moduleAddr (s : State) (k m : Nat) : Nat :=
  if s.getB (ESTSTR.STR_CFG_ORDER k) then (s.prt k).found - m else m + 1

/-- The monitor address of cell `j` of string `k` (R301). -/
def cellAddr (s : State) (k j : Nat) : Nat := s.moduleAddr k (j / max 1 (s.getF (YPORT.PORT_CFG_CELLS k)))

/-- R334 for the cells of a module (0: the whole string): capacity, RHO and ZREF anew, a write-back requested. -/
def resetCells (s : State) (k m : Nat) : State :=
  let sel (j : Nat) : Bool := m = 0 || s.cellAddr k j = m
  let q := s.qNom (s.strProf k)
  let s := s.updEst k (fun e => { e with cells := (List.range e.cells.length).zipWith (fun j (c : CellSt) => if sel j then { c with q := q, rho := 0x3F800000, zref := 0 } else c) e.cells })
  (s.estInit k sel).setF (ESTSTR.WB_STAT_PENDING k) 1

end State

end Sys2Proof.Machine
end

