-- ==== Sys2Proof/Machine/PairBase.lean ====
section
/-! DEFINITION. The redundant pair's shared moves (chapter 15): epochs, health, what blocks a takeover, the groups that follow the active role. -/

namespace Sys2Proof.Machine

/-- Epoch E is newer than S (R137). -/
def epochNewer (e s : Nat) : Bool := 1 ≤ (e + 65536 - s) % 65536 && (e + 65536 - s) % 65536 ≤ 32767

/-- The newest of a list of epochs (R137), from `e` on. -/
def newestEpoch (e : Nat) (l : List Nat) : Nat := l.foldl (fun a b => if epochNewer b a then b else a) e

namespace State

def updPair (s : State) (f : PairSt → PairSt) : State := { s with pair := f s.pair }

/-- A source of at least this severity is active. -/
def actSev (s : State) (n : Nat) : Bool := (List.range 256).any (fun i => s.getAct i && n ≤ min 5 (s.getF (FCOL_SEV.SEV_SEV i)))

/-- Healthy in the sense of R425, the mode aside: no active source of severity FENCE or higher, SHELF_INHIBIT clear. -/
def healthy (s : State) : Bool := !s.actSev 3 && !s.inhibit

/-- The token is held low by the other controller (R457). -/
def belayTaken (s : State) : Bool :=
  s.getB RIDGE.PAIR_CFG_BELAY_EN && s.getB RIDGE.PAIR_STAT_BELAY_LOW && !s.getB RIDGE.PAIR_STAT_BELAY_OWN

/-- The proof test runs (R471). -/
def proofBusy (s : State) : Bool := s.getB RIDGE.PROOF_STAT_BUSY

/-- The standby is blocked from taking over (R457). -/
def takeBlocked (s : State) : Bool :=
  let recent : Bool := match s.pair.newerAt with
    | some t => s.dev.nowUs - t ≤ 10000
    | none => false
  s.inhibit || (s.mode == mSERVICE && !s.proofBusy) || s.belayTaken || (s.getB RIDGE.PAIR_STAT_DEMOTED && recent)

/-- This controller is a standby: PAIR form, WATCH, or SERVICE of a proof test, without the active role. -/
def isStandby (s : State) : Bool := s.isPair && !s.getB RIDGE.PAIR_STAT_ACTIVE && (s.mode == mWATCH || s.mode == mSERVICE)

/-- A trigger of R457 meets a block: FS_RDG_PARTNER with reason 0x02. -/
def blockedRaise (s : State) : State := if s.isStandby ∧ s.takeBlocked then s.raise 212 [2] else s

/-- A token release that no YIELD preceded (R457). -/
def tokenGone (s : State) : Bool :=
  s.getB RIDGE.PAIR_CFG_BELAY_EN && s.pair.partnerHeld && !s.getB RIDGE.PAIR_STAT_BELAY_LOW && !s.pair.yieldSeen && !s.pair.taking

/-- The epoch of R447: 1 + the newest of the last TX_EPOCH, the last copy's epoch and every NODE0_SEEN of a configured port. -/
def newEpoch (s : State) : Nat :=
  let ports := (List.range 24).filter (fun n => s.pgState (pYPORT n) ≠ psOFF)
  let copy : List Nat := match s.pair.copy with
    | some c => [c.epoch.toNat]
    | none => []
  (newestEpoch s.pair.epoch (copy ++ ports.map (fun n => s.getF (YPORT.EPOCH_NODE0_SEEN n))) + 1) % 65536

/-- Firmware writes the epoch into TX_EPOCH of a port (R447, R34). -/
def txEpoch (s : State) (n e : Nat) : State :=
  let s := s.setF (YPORT.EPOCH_TX_EPOCH n) e
  if s.pgState (pYPORT n) = psOFF then s else s.countChg (pYPORT n)

/-- E into TX_EPOCH of every port and into RIDGE.EPOCH (R447); a port that starts later takes it then. -/
def setEpoch (s : State) (e : Nat) : State :=
  let s := { s with pair := { s.pair with epoch := e } }
  (forAll 24 (fun s n => s.txEpoch n e) s).setF RIDGE.EPOCH_EPOCH e

/-- The BELAY-gated groups follow the active role (R469): an up or a down request. -/
def actGroups (s : State) (up : Bool) : State :=
  forAll 4 (fun s g =>
    if (s.getF RIDGE.PAIR_CFG_ACT_GRP).testBit g && s.grpLive g then (if up then s.upRequest g else s.downRequest g) else s) s

end State

end Sys2Proof.Machine
end

