-- ==== Sys2Proof/Machine/Yorid.lean ====
section
/-! DEFINITION. The Yorid chain ports (chapter 4) and the landing of received frames (chapter 6): links, sample data, STATUS, EVENT, NACK and reply frames, the mailbox, enumeration with delay measurement, rings. -/

namespace Sys2Proof.Machine

/-- Types of Table 4-4 that the model names. -/
abbrev ftREAD : Nat := 0
abbrev ftWRITE : Nat := 1
abbrev ftWRITE_ACK : Nat := 2
abbrev ftBCAST : Nat := 3
abbrev ftEVENT : Nat := 7
abbrev ftENUM : Nat := 9
abbrev ftNACK : Nat := 11

/-- A controller's frame as bytes (Tables 4-2, 4-3): header, payload and CRC-32. -/
def ctlFrame (node epoch typ seq : Nat) (payload : List Nat) : List Byte :=
  let b := [node % 32, (epoch % 16) * 16 + typ % 16, payload.length, seq % 256] ++ payload.map (· % 256)
  (b ++ leBytes 4 (crc32 b)).map (BitVec.ofNat 8)

/-- The round trip of one exchange in thirds of a ns (R131): t4 − t1 − TURN. -/
def EchoTrip.rt (e : EchoTrip) : Nat := 20 * (e.t4 - e.t1) - 3 * e.turn.toNat

/-- The one-way delay of a node in ns, as a fraction (R131): half the mean of the exchanges within 100 ns of the smallest. -/
def delayOf (l : List EchoTrip) : Option (Nat × Nat) :=
  match l.map EchoTrip.rt with
  | [] => none
  | r :: rs =>
    let m := rs.foldl min r
    let near := (r :: rs).filter (fun x => x ≤ m + 300)
    some (near.sum, 6 * near.length)

/-- SYNC_DELAY of R132 for the delay `num/den` ns and a lead in code groups; none where the delay exceeds the lead. A tie goes to the even neighbour (log entry 80). -/
def syncDelay (lead num den : Nat) : Option Nat :=
  if 2000 * lead * den < 3 * num then none
  else some (F32.roundEven (2000 * lead * den - 3 * num) (15 * den))

/-- A number apart from another by 2 units or more (R133). -/
def farApart (a b : Nat) : Bool := a + 2 ≤ b || b + 2 ≤ a

namespace State

def updPort (s : State) (n : Nat) (f : PortSt → PortSt) : State := { s with port := s.port.modify n f }

/-- The port handles frames: its page is RUNNING and the frame mover works. -/
def portLive (s : State) (n : Nat) : Bool := s.pgRunning (pYPORT n) && s.fmOk

/-- Entry `2 + e` of a port's transmit queue (Table 6-2). -/
def txEntry (n e : Nat) : Nat := linkBuf n + 0x1900 + 128 * e

/-- A frame joins the queue of entries 2 to 15 (R187); one that finds 14 frames waiting is not queued (log entry 111). -/
def queueRaw (s : State) (n : Nat) (f : List Byte) : State :=
  let x := s.prt n
  if 14 ≤ x.tx.length then s
  else (s.writeBytes (txEntry n x.txNext) (f.take 128)).updPort n (fun x => { x with tx := x.tx ++ [f.length], txNext := x.txNext + 1 })

/-- Queue a frame for transmission, with the port's epoch. -/
def queueTx (s : State) (n node typ seq : Nat) (payload : List Nat) : State :=
  s.queueRaw n (ctlFrame node (s.getF (YPORT.EPOCH_TX_EPOCH n)) typ seq payload)

/-- The ring of the port is broken, and the Ridge link is up to relay (R142, R468). -/
def relays (s : State) (n : Nat) : Bool := s.isPair && s.getB (YPORT.PORT_STAT_BROKEN n) && s.getB RIDGE.PAIR_STAT_LINK

/-- A RELAY frame leaves (R468). -/
def relay (s : State) (f : RelayFrame) : State := s.updPair (fun x => { x with relayed := x.relayed ++ [f] })

/-- A controller's frame to a node, or to all: by the port, by relay to a node of the far segment, by both to all nodes of a broken ring (R142). -/
def sendTo (s : State) (n node typ : Nat) (f : List Byte) : State :=
  let away := s.relays n && s.isActive
  if away && typ == ftBCAST then (s.queueRaw n f).relay ⟨Fin.ofNat 24 n, true, false, none, f⟩
  else if away && !s.getB (YPORT.NODE_POS_REACH n node) then s.relay ⟨Fin.ofNat 24 n, true, false, none, f⟩
  else s.queueRaw n f

/-- A frame that a standby's port receives on a broken ring goes on to the active controller (R142). -/
def relayUp (s : State) (n : Nat) (x : Option SampleFrame) (f : List Byte) : State :=
  if s.relays n && s.isStandby then s.relay ⟨Fin.ofNat 24 n, false, false, x, f⟩ else s

/-- A node's frame as bytes (Tables 4-2, 4-3). -/
def nodeFrame (k epoch typ seq : Nat) (payload : List Nat) : List Byte :=
  let b := [32 + k % 32, (epoch % 16) * 16 + typ % 16, payload.length, seq % 256] ++ payload.map (· % 256)
  (b ++ leBytes 4 (crc32 b)).map (BitVec.ofNat 8)

/-- Send the port's own request at place `i`, if it waits, an entry is free, and the controller's mode lets the port originate it (R66, R128). -/
def ownStep (s : State) (n i : Nat) : State :=
  match (s.prt n).own[i]? with
  | some r =>
    let x := s.prt n
    if r.seq.isNone && decide (x.tx.length < 14) && s.operating && (r.typ == ftREAD || s.isActive) then
      let q := x.reqSeq
      (s.sendTo n r.node r.typ (ctlFrame r.node (s.getF (YPORT.EPOCH_TX_EPOCH n)) r.typ q r.payload)).updPort n (fun x => { x with
        reqSeq := (q + 1) % 256, own := x.own.set i { r with seq := some q } })
    else s
  | none => s

/-- Send the waiting requests in their order; a BCAST_WRITE has no answer to wait for (R112). -/
def ownSend (s : State) (n : Nat) : State :=
  if s.portLive n then
    ((List.range (s.prt n).own.length).foldl (fun s i => s.ownStep n i) s).updPort n (fun x => { x with
      own := x.own.filter (fun r => r.typ ≠ ftBCAST || r.seq.isNone) })
  else s

/-- A request of the port itself (R114), in place of one to the same word of the node. -/
def ask (s : State) (n : Nat) (use : ReqUse) (node typ : Nat) (payload : List Nat) : State :=
  (s.updPort n (fun x => { x with
    own := x.own.filter (fun r => !(r.node == node && r.typ == typ && r.payload.take 2 == payload.take 2)) ++ [⟨use, node, typ, payload, none, 0⟩]
    })).ownSend n

/-- Payloads of READ and WRITE (Table 4-5). -/
def readPl (addr count : Nat) : List Nat := leBytes 2 addr ++ [count, 0]
def writePl (addr : Nat) (ws : List Nat) : List Nat := leBytes 2 addr ++ [ws.length, 0] ++ (ws.map (leBytes 4)).flatten

/-- CELL_COUNT and TEMP_COUNT to a monitor (R145). -/
def askCounts (s : State) (n k : Nat) : State :=
  s.ask n .config k ftWRITE (writePl 0x01C [s.getF (YPORT.PORT_CFG_CELLS n), s.getF (YPORT.PORT_CFG_TEMPS n)])

/-- SAMPLE_CFG: PERIOD and EN = 1 (R153). -/
def samplePl (s : State) : List Nat := writePl 0x018 [s.getF SAMPLE.SET_CFG_PERIOD * 65536 + 1]

/-- EPOCH_SEEN of node 0 is read where nothing has reported it within the last 1 ms (R116, R140). -/
def askSeen (s : State) (n : Nat) : State :=
  let old : Bool := match (s.prt n).statusAt with
    | some t => decide (t + 1000 < s.dev.nowUs)
    | none => true
  if old && s.portLive n && s.getB (YPORT.PORT_STAT_LINK n) && s.getB (YPORT.PORT_STAT_CONV n)
      && !(s.prt n).own.any (fun r => r.use == .seen) then s.ask n .seen 0 ftREAD (readPl 0x024 1)
  else s

/-- A report of node 0's EPOCH_SEEN (R140): an active controller without a pair whose epoch is older than the first report after the page's start goes to a newer one on every port. -/
def seenIn (s : State) (n e : Nat) : State :=
  let first := (s.prt n).statusAt.isNone
  let s := (s.updPort n (fun x => { x with statusAt := some s.dev.nowUs })).setF (YPORT.EPOCH_NODE0_SEEN n) e
  if first && s.isActive && !s.isPair && epochNewer e (s.getF (YPORT.EPOCH_TX_EPOCH n)) then s.setEpoch s.newEpoch else s

/-- HOLD_TIME is not as HOLD_CFG says (R118): tried again at the next periodic LOCATE. -/
def holdFailed (s : State) (n : Nat) : State := (s.updPort n (fun x => { x with holdBad := true })).raise (17 + 2 * n) [0, 6]

/-- The answer to one of the port's own requests. -/
def ownDone (s : State) (n : Nat) (r : OwnReq) (data : List Nat) : State :=
  match r.use with
  | .hold w => s.ask n (.holdBack w) 0 ftREAD (readPl 0x028 1)
  | .holdBack w => if leNat (data.take 4) = w.toNat then s else s.holdFailed n
  | .delay d => (s.updPort n (fun x => { x with sdelay := x.sdelay.set r.node d })).setF (YPORT.NODE_POS_ALIGNED n r.node) 1
  | .seen => if (leNat (data.take 4)).testBit 16 then s.seenIn n (leNat (data.take 2)) else s.updPort n (fun x => { x with statusAt := some s.dev.nowUs })
  | .config => s
  | .survey => s

/-- One of the port's own requests is over. -/
def ownDrop (s : State) (n : Nat) (r : OwnReq) : State := s.updPort n (fun x => { x with own := x.own.filter (· ≠ r) })

/-- The port's own request with a number on its way to a node. -/
def ownFind (s : State) (n seq : Nat) (p : OwnReq → Bool) : Option OwnReq := (s.prt n).own.find? (fun r => r.seq == some seq && p r)

def ringAt (n e : Nat) : Nat := linkBuf n + 0xC00 + 128 * e

/-- An entry of the frame ring is VALID (R186). -/
def ringValid (s : State) (n e : Nat) : Bool := (s.readByte (ringAt n e + 3)).getLsbD 7

/-- The consumer clears VALID of an entry. -/
def ringClear (s : State) (n e : Nat) : State :=
  s.writeBytes (ringAt n e + 3) [s.readByte (ringAt n e + 3) &&& 0x7F]

/-- A received frame goes to the frame ring, or is dropped where the next entry is still VALID (R186). Firmware reads an entry that is no survey sample at once, unless it is restarting. -/
def ringPut (s : State) (n h0 h1 seq : Nat) (payload : List Nat) (arrival : Nat) : State :=
  let e := (s.prt n).rxNext
  if s.ringValid n e then s.incSat (FMOVER.RX_DROP n)
  else
    let len := payload.length
    let b := leBytes 4 (2 ^ 31 + len * 256 + h1 % 16) ++ leBytes 4 arrival ++ [h0, h1, len, seq] ++ payload
    let s := (s.writeBytes (ringAt n e) (b.map (BitVec.ofNat 8))).updPort n (fun x => { x with rxNext := (e + 1) % 24 })
    let used := ((List.range 24).filter (s.ringValid n)).length
    let s := s.setF (FMOVER.RX_HIWATER n) (max (s.getF (FMOVER.RX_HIWATER n)) used)
    if s.mpuRuns && h1 % 16 ≠ 10 then s.ringClear n e else s

/-- Re-enumeration starts (R130), unless a walk runs already. -/
def reEnum (s : State) (n : Nat) : State :=
  if s.getB (YPORT.PORT_STAT_ENUM_BUSY n) then s
  else ((s.incSat (YPORT.CNT_LINK_REENUM n)).setF (YPORT.PORT_STAT_ENUM_BUSY n) 1).setF (YPORT.PORT_STAT_DLY_BUSY n) 1

/-- A walk ends or is broken off. -/
def enumOver (s : State) (n : Nat) : State :=
  (s.setF (YPORT.PORT_STAT_ENUM_BUSY n) 0).setF (YPORT.PORT_STAT_DLY_BUSY n) 0

/-- The bank of the open set on port `n` (R182). -/
def bankAt (n : Nat) (ssn : Word) : Nat := linkBuf n + 0x600 * (ssn.toNat % 2)

/-- A bank as R182 fills it at the SYNC emission; I_STR and V_STR of node 0, which R182 does not name, are zero (log entry 124). -/
def bankFill (ssn : Word) : List Byte :=
  (leBytes 4 ssn.toNat ++ List.replicate 12 0 ++ List.replicate 8 0 ++ (List.replicate 4 [0, 0x80]).flatten
    ++ List.replicate 992 0xFF ++ (List.replicate 124 [0, 0x80]).flatten).map (BitVec.ofNat 8)

/-- Set bit `k` of a node mask in a bank. -/
def maskBit (s : State) (a k : Nat) : State :=
  s.writeBytes (a + k / 8) [s.readByte (a + k / 8) ||| BitVec.ofNat 8 (2 ^ (k % 8))]

/-- NSTAT of a frame and the node masks it drives (Table 6-3). -/
def landStat (s : State) (b k : Nat) (nstat : Byte) : State :=
  let s := s.writeBytes (b + 0x4F8 + k) [nstat]
  let s := if nstat.getLsbD 0 then s else s.maskBit (b + 8) k
  if nstat.getLsbD 2 || nstat.getLsbD 3 then s.maskBit (b + 12) k else s

/-- Values by index (R183), without those whose entry has landed already (R184): entries of `per` to a node, from index `first` on. -/
def landVals (s : State) (base per first seen : Nat) (vals : List Half) : State :=
  (List.range vals.length).foldl (fun s i =>
    let c := first + i
    if c < per ∧ seen.testBit c = false then s.writeLe (base + 2 * c) 2 (vals.getD i 0).toNat else s) s

/-- The bit mask of `n` indexes from `first` on, below `per`. -/
def idxMask (per first n : Nat) : Nat := (2 ^ min per (first + n)) - 2 ^ min per first

/-- Land a monitor's values (R183). -/
def landMonitor (s : State) (n b k first : Nat) (v t : List Half) : State :=
  let x := s.prt n
  let cin := x.cellsIn.getD k 0
  let tin := x.tempsIn.getD k 0
  let s := s.landVals (b + 0x020 + 32 * (k - 1)) 16 first cin v
  let s := s.landVals (b + 0x400 + 8 * (k - 1)) 4 0 tin t
  let cin := cin ||| idxMask 16 first v.length
  let tin := tin ||| idxMask 4 0 t.length
  let s := s.updPort n (fun x => { x with cellsIn := x.cellsIn.set k cin, tempsIn := x.tempsIn.set k tin })
  let full (m w : Nat) : Bool := (List.range w).all (fun i => m.testBit i)
  if full cin (s.getF (YPORT.PORT_CFG_CELLS n)) && full tin (s.getF (YPORT.PORT_CFG_TEMPS n)) then s.maskBit (b + 4) k else s

/-- Land node 0's values (R183), once (R184). -/
def landConv (s : State) (b : Nat) (i v : Word) (t : List Half) : State :=
  if (s.readByte (b + 4)).getLsbD 0 then s
  else
    let s := s.writeBytes (b + 0x010) ((leBytes 4 i.toNat ++ leBytes 4 v.toNat).map (BitVec.ofNat 8))
    (s.landVals (b + 0x018) 4 0 0 t).maskBit (b + 4) 0

/-- A SAMPLE_DATA frame that a port received or that came by relay (R142, R163, R183, R184). -/
def sampleIn (s : State) (n : Nat) (f : SampleFrame) : State :=
  let seq := match f with
    | .monitor _ q _ _ _ _ => q
    | .conv q _ _ _ _ => q
  match s.sample.set_ with
  | some o =>
    if seq.toNat ≠ o.ssn.toNat % 256 then s.incSat SAMPLE.CNT_FRM_TAG_MISS
    else
      let b := bankAt n o.ssn
      -- a bank that was not filled for this set takes nothing (R188)
      if s.readLe b 4 ≠ o.ssn.toNat then s
      else match f with
      | .monitor node _ st first v t =>
        if node.val = 0 then s else (s.landMonitor n b node.val first v t).landStat b node.val st
      | .conv _ st i v t => (s.landConv b i v t).landStat b 0 st
  | none =>
    match s.sample.closed with
    | some c => if seq.toNat = c.ssn.toNat % 256 then s.incSat SAMPLE.CNT_FRM_LATE else s.incSat SAMPLE.CNT_FRM_TAG_MISS
    | none => s.incSat SAMPLE.CNT_FRM_TAG_MISS

/-- The mailbox transaction ends with a RESULT and a REASON (Table 4-13). -/
def mbxEnd (s : State) (n result reason : Nat) : State :=
  let s := s.updPort n (fun x => { x with xact := none })
  ((s.setF (YPORT.MBX_STAT_BUSY n) 0).setF (YPORT.MBX_STAT_RESULT n) result).setF (YPORT.MBX_STAT_REASON n) reason

/-- A port in WATCH, and one in ascent, originates no WRITE (R128, R66). -/
def mayOriginate (s : State) (typ : Nat) : Bool := typ == ftREAD || s.isActive

/-- A transaction failed after its last retry (R114). -/
def xactFailed (s : State) (n node : Nat) : State :=
  ((s.incSat (YPORT.CNT_XACT_TIMEOUT n)).incSat (YPORT.NODE_ERR_TIMEOUT n node)).raise (17 + 2 * n) [node, 1]

/-- The mailbox transaction without an answer is sent again, or fails after the last retry (R114). -/
def xactRetry (s : State) (n : Nat) (t : Xact) : State :=
  if t.tries < s.getF (YPORT.PORT_TMO_RETRIES n) then
    let s := s.updPort n (fun x => { x with xact := some { t with tries := t.tries + 1 } })
    if s.mayOriginate t.typ then s.sendTo n t.node t.typ t.frame else s
  else (s.mbxEnd n 2 0).xactFailed n t.node

/-- The same for a request of the port itself; a HOLD_TIME that got no answer is tried again at the next LOCATE (R118). -/
def ownRetry (s : State) (n : Nat) (r : OwnReq) : State :=
  if r.tries < s.getF (YPORT.PORT_TMO_RETRIES n) then
    let s := s.updPort n (fun x => { x with own := x.own.map (fun q => if q = r then { r with tries := r.tries + 1 } else q) })
    if s.mayOriginate r.typ then
      s.sendTo n r.node r.typ (ctlFrame r.node (s.getF (YPORT.EPOCH_TX_EPOCH n)) r.typ (r.seq.getD 0) r.payload)
    else s
  else
    let hold : Bool := match r.use with
      | .hold _ => true
      | .holdBack _ => true
      | _ => false
    let s := (s.ownDrop n r).updPort n (fun x => { x with holdBad := x.holdBad || hold })
    s.xactFailed n r.node

/-- The largest COUNT of R111. -/
def maxCount (s : State) : Nat := if s.cycleUs = 50 then 8 else 23

/-- MBX_CMD.GO (R146): ignored while BUSY; refused with RESULT 3, or queued; a port that does not run keeps the frame until it does (log entry 122). -/
def mbxGo (s : State) (n : Nat) : State :=
  if s.getB (YPORT.MBX_STAT_BUSY n) then s
  else
    let wr := s.getB (YPORT.MBX_CMD_OP n)
    let node := s.getF (YPORT.MBX_CMD_NODE n)
    let cnt := s.getF (YPORT.MBX_CMD_COUNT n)
    let addr := s.getF (YPORT.MBX_CMD_ADDR n)
    if s.maxCount < cnt ∨ s.getB (YPORT.NODE_POS_PRESENT n node) = false ∨ (wr ∧ addr < 0x100) then
      (s.setF (YPORT.MBX_STAT_RESULT n) 3).setF (YPORT.MBX_STAT_REASON n) 0
    else
      let head := leBytes 2 addr ++ [cnt, 0]
      let data := ((List.range cnt).map (fun i => leBytes 4 (s.getN (YPORT.MBX_DATA n i)))).flatten
      let typ := if wr then ftWRITE else ftREAD
      let q := (s.prt n).reqSeq
      let fr := ctlFrame node (s.getF (YPORT.EPOCH_TX_EPOCH n)) typ q (if wr then head ++ data else head)
      let s := s.updPort n (fun x => { x with reqSeq := (q + 1) % 256, xact := some ⟨q, typ, node, fr, 0⟩ })
      let s := if s.mayOriginate typ then s.sendTo n node typ fr else s
      s.setF (YPORT.MBX_STAT_BUSY n) 1

/-- CNT_CTRL.CLR of a YPORT page (R135). -/
def yportCntClr (s : State) (n : Nat) : State :=
  let s := [YPORT.CNT_ERR n, YPORT.CNT_FRM n, YPORT.CNT_LINK n, YPORT.CNT_XACT n, YPORT.CNT_MISC n].foldl (fun s a => s.setReg a 0) s
  forAll 32 (fun s k => s.setReg (YPORT.NODE_ERR n k) 0) s

/-- The port may order the chain (R127): its controller is active, or the home chip in ascent. -/
def mayAssign (s : State) : Bool := s.isActive || (s.mode == mASCENT && s.dev.form ≠ 2)

/-- NODE_UID as recorded for an address. -/
def nodeUid (s : State) (n k : Nat) : Nat := s.getN (YPORT.NODE_UID_LO n k) + 2 ^ 32 * s.getN (YPORT.NODE_UID_HI n k)
def setUid (s : State) (n k v : Nat) : State := (s.setN (YPORT.NODE_UID_LO n k) v).setN (YPORT.NODE_UID_HI n k) (v / 2 ^ 32)

/-- The nodes in order from the home end with the addresses of R123, or as they are where the port may not order them or does not see the home end. -/
def addressed (s : State) (w : WalkResult) : List (Nat × FoundNode) :=
  if s.mayAssign && (s.dev.form ≠ 2 || w.farPort) then
    let l := if s.dev.form = 2 then w.nodes.reverse else w.nodes
    match l with
    | [] => []
    | f :: r =>
      if f.typ = 1 then (0, f) :: ((List.range r.length).map (· + 1)).zip r
      else ((List.range l.length).map (· + 1)).zip l
  else (w.nodes.filter (fun f => f.addrValid)).map (fun f => (f.addr.val, f))

/-- The composition that R124 refuses: a converter that is not first from the home end or on a monitor-only chain, a second converter, more than 31 monitors. -/
def badChain (s : State) (n : Nat) (w : WalkResult) : Bool :=
  let l := if s.dev.form = 2 then w.nodes.reverse else w.nodes
  let conv := (l.filter (fun f => f.typ = 1)).length
  let mon := l.length - conv
  let first := match l with
    | f :: _ => f.typ = 1
    | [] => false
  let seesHome := s.dev.form ≠ 2 || w.farPort
  1 < conv || 31 < mon || (conv = 1 && (s.getB (YPORT.PORT_CFG_MONITOR_ONLY n) || (seesHome && !first)))

/-- The WRITE of SYNC_DELAY (R132, R134): the half of the side on which it arrives; a node that this walk has addressed has its assignment side here. -/
def askDelay (s : State) (n k : Nat) (f : FoundNode) (d : Nat) : State :=
  let near := f.assignSide || !f.addrValid || f.addr.val ≠ k
  s.ask n (.delay d) k ftWRITE (writePl 0x014 [if near then d else d * 65536])

/-- One measured node (R131 to R133): DELAY, and the write of SYNC_DELAY where it is due; ALIGNED follows the completed write. A delay beyond the lead leaves the node unaligned. -/
def measureNode (s : State) (n k : Nat) (f : FoundNode) : State :=
  match delayOf (f.echo.take (s.getF (YPORT.DLY_CFG_ECHO_N n))) with
  | none => s
  | some (num, den) =>
    let s := s.setF (YPORT.NODE_POS_DELAY n k) (let d := F32.roundEven num (5 * den); if d ≤ 65535 then d else (Config.unstated 7 (BitVec.ofNat 32 d)).toNat % 2 ^ 16)
    match syncDelay (s.getF SAMPLE.SET_CFG_LEAD) num den with
    | none => (s.setF (YPORT.NODE_POS_ALIGNED n k) 0).raise (16 + 2 * n) [4, k]
    | some d =>
      if s.getB (YPORT.NODE_POS_ALIGNED n k) = false ∨ farApart d ((s.prt n).sdelay.getD k 0) then s.askDelay n k f d else s

/-- One address after a walk: the node found there, or none (R130, Table 4-10 reasons 2, 3 and 5). A newly addressed node, also one that lost its address, gets its settings (R145, R153) and a new SYNC_DELAY (R133). The cells of a module with another UID start anew (R334). -/
def placeNode (s : State) (n : Nat) (broken : Bool) (l : List (Nat × FoundNode)) (k : Nat) : State :=
  let known := s.getB (YPORT.NODE_POS_PRESENT n k)
  match l.find? (fun (e : Nat × FoundNode) => e.1 = k) with
  | some e =>
    let f := e.2
    let changed := known && s.nodeUid n k ≠ f.uid.toNat
    let fresh := changed || !known || !f.addrValid || f.addr.val ≠ k
    let s := if fresh then s.setReg (YPORT.NODE_POS n k) 0 else s
    let s := (((s.setF (YPORT.NODE_POS_PRESENT n k) 1).setF (YPORT.NODE_POS_REACH n k) 1).setF (YPORT.NODE_POS_POS n k) f.pos).setUid n k f.uid.toNat
    let s := if changed then s.raise (17 + 2 * n) [k, 3] else s
    let s := if changed ∧ k ≠ 0 then s.resetCells n k else s
    let s := if f.proto = 1 then s else s.raise (17 + 2 * n) [k, 5]
    let s := s.measureNode n k f
    let s := if fresh ∧ k ≠ 0 then s.askCounts n k else s
    if fresh ∧ s.pgRunning pSAMPLE then s.ask n .config k ftWRITE s.samplePl else s
  | none =>
    if !known then s
    else if broken then (s.setF (YPORT.NODE_POS_REACH n k) 0).setF (YPORT.NODE_POS_POS n k) 0
    else ((s.setReg (YPORT.NODE_POS n k) 0).setUid n k 0).raise (17 + 2 * n) [k, 2]

/-- The nodes that LOCATE reaches (R125): those before the first node without a valid address, by their addresses; the other port, past all of them. -/
def located (w : WalkResult) : List (Nat × FoundNode) × Bool :=
  let l := w.nodes.takeWhile (fun f => f.addrValid)
  (l.map (fun f => (f.addr.val, f)), w.farPort && l.length == w.nodes.length)

/-- A ring as this end finds it (R141, R143): broken while the other port is out of reach, with the last node reached in NEAR. -/
def ringFound (s : State) (n : Nat) (far : Bool) (near : Option Nat) : State :=
  if s.getB (YPORT.PORT_CFG_RING n) = false then s
  else
    let s := s.setB (YPORT.PORT_STAT_BROKEN n) (!far)
    match near with
    | some k => if far then s else s.setF (YPORT.BREAK_NEAR n) k
    | none => s

/-- The address of the last node of a list in order of position. -/
def lastNode (l : List (Nat × FoundNode)) (w : WalkResult) : Option Nat :=
  match w.nodes.getLast? with
  | some f => (l.find? (fun (e : Nat × FoundNode) => e.2.pos = f.pos)).map (fun e => e.1)
  | none => none

/-- A walk with delay measurement has ended (R123 to R133, R118). -/
def walkDone (s : State) (n : Nat) (w : WalkResult) : State :=
  let l := s.addressed w
  let conv := w.nodes.any (fun f => f.typ = 1)
  let s := (s.enumOver n).setF (YPORT.PORT_STAT_HERE n) w.nodes.length
  let s := (s.setB (YPORT.PORT_STAT_FAR_PORT n) w.farPort).setB (YPORT.PORT_STAT_UNADDR n) (l.length < w.nodes.length)
  let s := s.ringFound n w.farPort (lastNode l w)
  if s.badChain n w then (s.setF (YPORT.PORT_STAT_CONV n) 0).raise (16 + 2 * n) [3]
  else
    let broken := s.getB (YPORT.PORT_CFG_RING n) && !w.farPort
    let s := s.setB (YPORT.PORT_STAT_CONV n) conv
    let mon := (w.nodes.filter (fun f => f.typ ≠ 1)).length
    let caps := (List.range 32).map (fun k => l.any (fun (e : Nat × FoundNode) => e.1 = k && e.2.survey))
    let s := s.updPort n (fun x => { x with found := mon, caps := caps, holdDue := x.holdDue || conv })
    let s := forAll 32 (fun s k => s.placeNode n broken l k) s
    let want := s.getF (YPORT.PORT_CFG_MONITORS n)
    if want ≠ 0 ∧ mon ≠ want ∧ broken = false then s.raise (17 + 2 * n) [0xFF, 5] else s

/-- What LOCATE finds differs from what is known (R130). -/
def walkDiffers (s : State) (n : Nat) (w : WalkResult) : Bool :=
  let l := (located w).1
  (located w).2 != s.getB (YPORT.PORT_STAT_FAR_PORT n)
    || (List.range 32).any (fun k =>
      match l.find? (fun (e : Nat × FoundNode) => e.1 = k) with
      | some e => s.getB (YPORT.NODE_POS_REACH n k) = false || s.nodeUid n k ≠ e.2.uid.toNat || s.getF (YPORT.NODE_POS_POS n k) ≠ e.2.pos
      | none => s.getB (YPORT.NODE_POS_REACH n k))

/-- A STATUS of node 0 (R185). -/
def statusIn (s : State) (n : Nat) (f : StatusFrame) : State :=
  (s.updShelf (fun x => { x with statNew := x.statNew.set n (some f) })).seenIn n f.epoch.toNat

/-- The bytes of a STATUS frame (Table 4-6). -/
def statusBytes (f : StatusFrame) : List Byte :=
  nodeFrame 0 f.epoch.toNat 5 f.seq.toNat (leBytes 4 f.iMeas.toNat ++ leBytes 4 f.vStr.toNat ++ leBytes 4 f.iApplied.toNat
    ++ leBytes 4 f.iLimDis.toNat ++ leBytes 4 f.iLimChg.toNat ++ leBytes 2 f.epoch.toNat ++ [f.state.toNat, f.temp.toNat])

/-- A frame of node `k` other than SAMPLE_DATA and STATUS arrives (R142, R185, R186): the frame ring, and on a broken ring the relay. -/
def frameIn (s : State) (n k epoch typ seq : Nat) (body : List Nat) (arrival : Word) : State :=
  (s.ringPut n (0x20 + k) (epoch * 16 + typ) seq body arrival.toNat).relayUp n none (nodeFrame k epoch typ seq body)

/-- The copy of an EVENT on which the port has acted already (R121; log entry 112). -/
def evtSeen (s : State) (n k seq : Nat) : Bool :=
  (s.prt n).evts.any (fun (e : Nat × Nat × Nat) => e.1 == k && e.2.1 == seq && decide (s.dev.nowUs ≤ e.2.2 + 10000))

/-- An EVENT is acted on (R121). -/
def evtMark (s : State) (n k seq : Nat) : State :=
  let now := s.dev.nowUs
  s.updPort n (fun x => { x with evts := (k, seq, now) :: x.evts.filter (fun (e : Nat × Nat × Nat) => decide (now ≤ e.2.2 + 10000)) })

/-- A LINK event of a far-side loss on a ring (R141, R122): the node that reports it is the last one that the home end reaches. -/
def ringCut (s : State) (n k : Nat) : State :=
  if s.getB (YPORT.PORT_CFG_RING n) ∧ s.dev.form = 1 then (s.setF (YPORT.PORT_STAT_FAR_PORT n) 0).ringFound n false (some k) else s

end State

open State

/-- YORID_LINK_UP (R98, R130). -/
def execYoridLinkUp (n : Nat) (s : State) : Host.Outcome State Fault Refusal :=
  if !s.powered ∨ s.getB (YPORT.PORT_STAT_LINK n) then .next s
  else
    let s := s.setF (YPORT.PORT_STAT_LINK n) 1
    .next (if s.pgRunning (pYPORT n) then s.reEnum n else s)

/-- YORID_LINK_DOWN (R98, R141, Table 4-10): no node is reachable, and a ring is broken; counted in every page state but OFF; a fault while RUNNING. -/
def execYoridLinkDown (n : Nat) (s : State) : Host.Outcome State Fault Refusal :=
  if !s.powered ∨ s.getB (YPORT.PORT_STAT_LINK n) = false then .next s
  else
    let s := (((s.setF (YPORT.PORT_STAT_LINK n) 0).setF (YPORT.PORT_STAT_HERE n) 0).markDown n).enumOver n
    let s := forAll 32 (fun s k => s.setF (YPORT.NODE_POS_REACH n k) 0) ((s.setF (YPORT.PORT_STAT_FAR_PORT n) 0).ringFound n false none)
    let s := if s.pgState (pYPORT n) = psOFF then s else s.incSat (YPORT.CNT_LINK_DOWN n)
    .next (if s.pgRunning (pYPORT n) then s.raise (16 + 2 * n) [2] else s)

/-- SAMPLE_DATA_RX (R163, R183, R184; on a broken ring R142). -/
def execSampleDataRx (n : Nat) (f : SampleFrame) (s : State) : Host.Outcome State Fault Refusal :=
  if s.portLive n then .next ((s.sampleIn n f).relayUp n (some f) []) else .next s

/-- STATUS_RX (R185; on a broken ring R142): the STATUS latch; EPOCH.NODE0_SEEN. -/
def execStatusRx (n : Nat) (f : StatusFrame) (s : State) : Host.Outcome State Fault Refusal :=
  if s.portLive n then .next ((s.statusIn n f).relayUp n none (statusBytes f)) else .next s

/-- EVENT_RX (R121, R122): the ring, then the fault of its class; later copies are ignored. An INFO event goes to the trace (log entry 121). -/
def execEventRx (n : Nat) (f : EventFrame) (s : State) : Host.Outcome State Fault Refusal :=
  if !s.portLive n then .next s
  else
    let k := f.node.val
    let body := [f.cls.toNat, f.code.toNat, f.index.toNat, 0] ++ leBytes 4 f.value.toNat
    let ep := s.getF (YPORT.EPOCH_NODE0_SEEN n) % 16
    let (w, s) := s.takeFree
    let s := s.frameIn n k ep ftEVENT f.seq.toNat body w
    if s.evtSeen n k f.seq.toNat then .next s
    else
      let s := s.evtMark n k f.seq.toNat
      if f.cls = 1 then .next (s.raise (64 + n) [1])
      else if f.cls = 2 then .next (s.raise (17 + 2 * n) [k, 4])
      else if f.cls = 3 then
        let s := s.reEnum n
        .next (if f.code = 1 then (s.ringCut n k).raise (16 + 2 * n) [5, k] else s)
      else if f.cls = 4 then .next (s.traceAdd (17 + 2 * n) 0 kFAULT false (k :: body))
      else .next s

/-- A NACK to one of the port's own requests: BUSY is retried, any other ends it (R114); a refused HOLD_TIME write is reason 6 (R118). -/
def State.ownNack (s : State) (n : Nat) (r : OwnReq) (reason : Nat) : State :=
  if reason = 5 then s.ownRetry n r
  else
    let s := s.ownDrop n r
    match r.use with
    | .hold _ => s.holdFailed n
    | .holdBack _ => s.holdFailed n
    | _ => s

/-- NACK_RX (R114, Table 4-10). -/
def execNackRx (n : Nat) (f : NackFrame) (s : State) : Host.Outcome State Fault Refusal :=
  if !s.portLive n then .next s
  else
    let k := f.node.val
    let body := [f.refType.toNat, f.refSeq.toNat, f.reason.toNat, 0]
    let (w, s) := s.takeFree
    let s := s.frameIn n k f.epoch.toNat ftNACK f.seq.toNat body w
    let s := (s.incSat (YPORT.CNT_XACT_NACK n)).incSat (YPORT.NODE_ERR_NACK n k)
    if f.refType = 4 ∧ f.reason = 4 then .next (s.incSat (YPORT.CNT_MISC_STALE n))
    else
      let own : State := match s.ownFind n f.refSeq.toNat (fun r => r.node == k && r.typ == f.refType.toNat) with
        | some r => s.ownNack n r f.reason.toNat
        | none => s
      match (s.prt n).xact with
      | some t =>
        if t.node = k ∧ t.seq = f.refSeq.toNat ∧ t.typ = f.refType.toNat then
          .next (if f.reason = 5 then s.xactRetry n t else s.mbxEnd n 1 f.reason.toNat)
        else .next own
      | none => .next own

/-- The answer of TYPE `got` belongs to a request of TYPE `sent` (Table 4-4). -/
def answers (sent got : Nat) : Bool := (sent == ftREAD && got == ftREAD) || (sent == ftWRITE && got == ftWRITE_ACK)

/-- REPLY_RX (R104, R185, R186): the frame ring; the answer that the mailbox, or a request of the port itself, waits for. A frame with a reserved header bit, a reserved TYPE or a LEN above 96 is malformed. -/
def execReplyRx (n : Nat) (f : RingFrame) (s : State) : Host.Outcome State Fault Refusal :=
  let typ := f.h1.toNat % 16
  if !s.portLive n then .next s
  else if 64 ≤ f.h0.toNat ∨ 12 ≤ typ ∨ 96 < f.payload.length then .next (s.incSat (YPORT.CNT_FRM_MALF n))
  else if f.h0.getLsbD 5 = false ∨ !(typ = 0 ∨ typ = 2 ∨ typ = 8 ∨ typ = 9 ∨ typ = 10) then .next s
  else
    let pl := f.payload.map BitVec.toNat
    let k := f.h0.toNat % 32
    let s := s.frameIn n k (f.h1.toNat / 16) typ f.seq.toNat pl f.arrival
    let own : State := match s.ownFind n f.seq.toNat (fun r => r.node == k && answers r.typ typ) with
      | some r => (s.ownDrop n r).ownDone n r (pl.drop 4)
      | none => s
    match (s.prt n).xact with
    | some t =>
      if t.node = k ∧ t.seq = f.seq.toNat ∧ answers t.typ typ then
        let s := if typ = ftREAD then
            (List.range (min 23 (s.getF (YPORT.MBX_CMD_COUNT n)))).foldl (fun s i =>
              s.setN (YPORT.MBX_DATA n i) (leNat ((pl.drop (4 + 4 * i)).take 4))) s
          else s
        .next (s.mbxEnd n 0 0)
      else .next own
    | none => .next own

/-- FAR_SETPOINT_RX (R185, R299, R457): to the redundancy function. -/
def execFarSetpointRx (n : Nat) (f : FarSetpoint) (s : State) : Host.Outcome State Fault Refusal :=
  if s.portLive n ∧ s.isPair ∧ s.getB (YPORT.PORT_CFG_RING n) then
    let newer := epochNewer f.epoch.toNat (s.getF RIDGE.EPOCH_EPOCH)
    .next (s.updPair (fun x => { x with
      heard := x.heard.set n (some (f.cycle.toNat, f.iSet)), newerAt := if newer then some s.dev.nowUs else x.newerAt }))
  else .next s

/-- RESPONSE_TIMEOUT (R114): the request with this number, of the mailbox or of the port itself. -/
def execResponseTimeout (n : Nat) (seq : Byte) (s : State) : Host.Outcome State Fault Refusal :=
  let own : State := match s.ownFind n seq.toNat (fun _ => true) with
    | some r => s.ownRetry n r
    | none => s
  match (s.prt n).xact with
  | some t => .next (if t.seq = seq.toNat then s.xactRetry n t else own)
  | none => .next own

/-- ENUMERATION_WALK (R129): a walk of the chain, from its start or as it ends. -/
def execEnumerationWalk (n : Nat) (w : WalkResult) (s : State) : Host.Outcome State Fault Refusal :=
  if s.portLive n ∧ s.getB (YPORT.PORT_STAT_LINK n) then .next ((s.walkDone n w).askSeen n) else .next s

/-- REMEAS_TIMER (R130, R133, R118): LOCATE and delay measurement; a difference re-enumerates. -/
def execRemeasTimer (n : Nat) (w : WalkResult) (s : State) : Host.Outcome State Fault Refusal :=
  if s.portLive n ∧ s.getB (YPORT.PORT_STAT_LINK n) ∧ s.getB (YPORT.PORT_STAT_ENUM_BUSY n) = false then
    let s := s.updPort n (fun x => { x with holdDue := x.holdDue || x.holdBad, holdBad := false })
    if s.walkDiffers n w then .next ((s.reEnum n).walkDone n w)
    else
      let s := s.ringFound n w.farPort (lastNode (located w).1 w)
      .next ((located w).1.foldl (fun s (e : Nat × FoundNode) => s.measureNode n e.1 e.2) s)
  else .next s

/-- HOLD_TIME_WRITE (R118): HOLD_CFG into node 0's HOLD_TIME; the acknowledged word is read back. -/
def execHoldTimeWrite (n : Nat) (s : State) : Host.Outcome State Fault Refusal :=
  if s.portLive n ∧ s.isActive ∧ (s.prt n).holdDue ∧ s.getB (YPORT.PORT_STAT_CONV n) then
    let w := s.getReg (YPORT.HOLD_CFG n)
    .next ((s.updPort n (fun x => { x with holdDue := false, holdBad := false })).ask n (.hold w) 0 ftWRITE (writePl 0x028 [w.toNat]))
  else .next s

/-- What LOCATE found on a ring, for the nodes that are known: reach and position from this end (R141, R143). -/
def State.locateRing (s : State) (n : Nat) (w : WalkResult) : State :=
  let l := (located w).1
  let s := (s.setB (YPORT.PORT_STAT_FAR_PORT n) (located w).2).setF (YPORT.PORT_STAT_HERE n) l.length
  let s := s.ringFound n (located w).2 (lastNode l w)
  forAll 32 (fun s k => match l.find? (fun (e : Nat × FoundNode) => e.1 = k) with
    | some e =>
      if s.getB (YPORT.NODE_POS_PRESENT n k) then (s.setF (YPORT.NODE_POS_REACH n k) 1).setF (YPORT.NODE_POS_POS n k) e.2.pos else s
    | none => (s.setF (YPORT.NODE_POS_REACH n k) 0).setF (YPORT.NODE_POS_POS n k) 0) s

/-- RING_BREAK (R141): the ports cannot reach each other; LOCATE finds the nodes of this end's segment. -/
def execRingBreak (n : Nat) (w : WalkResult) (s : State) : Host.Outcome State Fault Refusal :=
  if s.portLive n ∧ s.getB (YPORT.PORT_CFG_RING n) ∧ w.farPort = false then .next (s.locateRing n w) else .next s

/-- RING_CLOSE (R143): LOCATE finds the other port; nodes that are new or changed re-enumerate (R130). -/
def execRingClose (n : Nat) (w : WalkResult) (s : State) : Host.Outcome State Fault Refusal :=
  if s.portLive n ∧ s.getB (YPORT.PORT_STAT_BROKEN n) ∧ w.farPort then
    let t := s.locateRing n w
    .next (if t.walkDiffers n w then t.reEnum n else t)
  else .next s

/-- A frame whose CRC fails (R135, Table 4-10): counted; more than CRC_LIMIT in one second raise FS_YLINK_n. -/
def State.crcError (s : State) (n : Nat) (how : RaiseHow) : State :=
  let now := s.dev.nowUs
  let l := now :: (s.prt n).crcAt.filter (fun t => now < t + 1000000)
  let lim := s.getF (YPORT.PORT_TMO_CRC_LIMIT n)
  let tooMany := lim ≠ 0 ∧ lim < l.length
  let s := (s.incSat (YPORT.CNT_ERR_CRC n)).updPort n (fun x => { x with crcAt := if tooMany then [] else l })
  if tooMany then raiseN 8 s (16 + 2 * n) [1] how else s

/-- YORID_FRAME_DISCARDED (R95, R97, R104, Table 4-10). -/
def execYoridFrameDiscarded (n : Nat) (why : FrameError) (s : State) : Host.Outcome State Fault Refusal :=
  if !s.powered ∨ s.pgState (pYPORT n) = psOFF then .next s
  else match why with
    | .symbol => .next (s.incSat (YPORT.CNT_ERR_SYM n))
    | .malformed => .next (s.incSat (YPORT.CNT_FRM_MALF n))
    | .abort => .next (s.incSat (YPORT.CNT_FRM_ABORT n))
    | .slip => .next (s.incSat (YPORT.CNT_MISC_SLIP n))
    | .crc => .next (s.crcError n .plain)

/-- ENUM_REQUEST_AT_PORT (R125): the reply's TYPE is 0x80 and FLAGS[7:4] are 0 (Table 4-8); what the spec does not state of it is free. -/
def execEnumRequestAtPort (n : Nat) (cmd : EnumCmd) (seq : Byte) (hop : Byte) (s : State) : Host.Outcome State Fault Refusal :=
  if s.portLive n then
    let (a, s) := s.takeFree
    let (b, s) := s.takeFree
    let (c, s) := s.takeFree
    let (d, s) := s.takeFree
    let code := match cmd with
      | .discover => 1
      | .locate => 4
    let f := c.toNat
    .next (s.queueTx n 0 ftENUM seq.toNat ([code, hop.toNat, f % 16, f / 256 % 256] ++ leBytes 4 a.toNat ++ leBytes 4 b.toNat ++ [0x80, f / 65536 % 256, f / 16777216 % 256, d.toNat % 256]))
  else .next s

end Sys2Proof.Machine
end

