-- ==== Sys2Proof/Machine/Sample.lean ====
section
/-! DEFINITION. Sample sets and shelf measurement (chapter 5): the series and its numbers, the sample instant, the close with the validity causes, the gather into the input region (R203), STUCK and plausibility. -/

namespace Sys2Proof.Machine

/-- The SSN after another (R157): 0 names no set. -/
def nextSsn (n : Word) : Word := if n = 0xFFFFFFFF then 1 else n + 1

namespace State

def updSample (s : State) (f : SampleSt → SampleSt) : State := { s with sample := f s.sample }

/-- The modes in which the active controller emits sample sets (R152), before step 3 of a descent. -/
def emitsSets (s : State) : Bool :=
  (s.mode == mRUN || s.mode == mHOLDUP || s.mode == mDEGRADED || s.mode == mSERVICE) && s.isActive
    && !(s.getB DEV.MODE_STAT_DESCENT && 3 ≤ s.dev.descStep)

/-- A standby in WATCH serves its own segment of a broken ring (R142, R152): its emission is aligned over the Ridge link. -/
def servesSegment (s : State) : Bool :=
  s.isStandby && s.mode == mWATCH && (List.range 24).any (fun n => s.relays n && s.pgRunning (pYPORT n))

/-- NEXT_SSN (Table 5-6): 0 where this controller emits no set. -/
def showNextSsn (s : State) : State :=
  s.setReg SAMPLE.NEXT_SSN (if s.pgRunning pSAMPLE && s.sample.nextUs.isSome && (s.emitsSets || s.servesSegment) then nextSsn s.sample.ssn else 0)

/-- The earliest boundary whose SYNC can still leave: the lead, in whole shelf cycles, from now (R151). -/
def leadAt (s : State) : Nat :=
  let t := s.cycleUs
  s.dev.nowUs + t * ((2 * s.getF SAMPLE.SET_CFG_LEAD + 3 * t - 1) / (3 * t))

/-- The first instant of a series of period `per`, from `at_` on, whose SYNC can still leave. -/
def reachable (s : State) (at_ per : Nat) : Nat :=
  let need := s.leadAt
  if need ≤ at_ then at_ else at_ + (need - at_ + per - 1) / max 1 per * per

/-- A set opens at its SYNC (R157, R162, R182): its number, the banks, the ports that are down or enumerate; the next instant is one period after this one's. The window of Table 5-7 begins here (log entry 123). -/
def openSet (s : State) (atUs : Nat) : State :=
  let ssn := nextSsn s.sample.ssn
  let o : OpenSet :=
    ⟨ssn, atUs, false, 0, 0, s.sample.lastSet, s.getF SAMPLE.SDM_STAT_CLIP ≠ 0, s.getF SAMPLE.SDM_STAT_STUCK ≠ 0,
      s.getB SAMPLE.SDM_STAT_HANDOVER,
      (List.range 24).map (fun n => !s.pgRunning (pYPORT n) || !s.getB (YPORT.PORT_STAT_LINK n)),
      (List.range 24).map (fun n => s.getB (YPORT.PORT_STAT_ENUM_BUSY n))⟩
  let s := s.updSample (fun x => { x with ssn := ssn, set_ := some o, nextUs := some (atUs + 1000 * s.getF SAMPLE.SET_CFG_PERIOD) })
  let s := forAll 24 (fun s n =>
    let s := s.updPort n (fun x => { x with cellsIn := List.replicate 32 0, tempsIn := List.replicate 32 0 })
    if s.fmOk then s.writeBytes (bankAt n ssn) (bankFill ssn) else s) s
  s.showNextSsn

/-- A set result (R172, R174, R176). -/
def setResult (s : State) (n : Nat) (x : BitVec 24) : Word :=
  if !s.sdmEn n then 0
  else if s.stuckCh n then s.sample.lastSet.getD n 0
  else F32.mul (s.sdmGain n) (F32.sub (F32.ofQ (x.toInt < 0) x.toInt.natAbs 8388608) (s.sdmOfs n))

/-- The monitors that a string needs (Table 5-2, cause 6). -/
def wantMonitors (s : State) (k : Nat) : Nat :=
  if s.getF (YPORT.PORT_CFG_MONITORS k) ≠ 0 then s.getF (YPORT.PORT_CFG_MONITORS k) else (s.prt k).found

/-- The validity cause of a string at the close (Table 5-2, the first row that applies). -/
def setCause (s : State) (o : OpenSet) (k : Nat) : Nat :=
  let b := bankAt k o.ssn
  -- in a bank that was not filled for this set nothing has landed (R188)
  let filled := s.readLe b 4 == o.ssn.toNat
  let arrived := if filled then s.readLe (b + 4) 4 else 0
  if !s.portOn k then 1
  else if o.down.getD k false || !s.pgRunning (pYPORT k) || !s.getB (YPORT.PORT_STAT_LINK k) then 2
  else if o.enumB.getD k false then 3
  else if filled ∧ s.readLe (b + 8) 4 ≠ 0 then 4
  else if !s.getB (YPORT.PORT_CFG_MONITOR_ONLY k) && !arrived.testBit 0 then 5
  else if ((List.range 32).filter (fun a => a ≠ 0 && arrived.testBit a)).length < s.wantMonitors k then 6
  else 0

/-- Eight causes as a CAUSEj word. -/
def causeWord (l : List Nat) (j : Nat) : Nat :=
  ((List.range 8).map (fun i => l.getD (8 * j + i) 0 * 16 ^ i)).sum

/-- The set block of R161 and R177, as it shows from the next boundary on (R179). -/
def setBlock (s : State) (o : OpenSet) (causes : List Nat) : List (Nat × Word) :=
  let valid (k : Nat) : Bool := causes.getD k 1 == 0
  let conf := (List.range 24).filter (fun k => causes.getD k 1 ≠ 1)
  let conv := conf.filter (fun k => !s.getB (YPORT.PORT_CFG_MONITOR_ONLY k))
  let sum := F32.sumX ((conv.filter valid).map (fun k => BitVec.ofNat 32 (s.readLe (bankAt k o.ssn + 0x10) 4)))
  let err := conv ≠ [] && conv.all valid && F32.lt (s.getReg SAMPLE.SUM_TOL) (F32.abs (F32.sub sum (o.xs.getD 1 0)))
  let mask := (((List.range 24).filter valid).map (2 ^ ·)).sum
  let flags := o.stuck.toNat * 16 + o.clip.toNat * 8 + o.hand.toNat * 4 + err.toNat * 2 + (conf.all valid).toNat
  [(SAMPLE.SSN, o.ssn), (SAMPLE.OPSEC, BitVec.ofNat 32 o.opsec), (SAMPLE.OPUS, BitVec.ofNat 32 o.opus), (SAMPLE.VALID, BitVec.ofNat 32 mask),
   (SAMPLE.V_BUS_SET, o.xs.getD 0 0), (SAMPLE.I_SHELF_SET, o.xs.getD 1 0), (SAMPLE.V_BUS2_SET, o.xs.getD 2 0), (SAMPLE.AUX_SET, o.xs.getD 3 0),
   (SAMPLE.I_SUM, sum), (SAMPLE.SET_FLAGS, BitVec.ofNat 32 flags)]
    ++ (List.range 3).map (fun j => (SAMPLE.CAUSE j, BitVec.ofNat 32 (causeWord causes j)))

/-- A set that the estimator does not process lies in every string's gap (R305). -/
def estGap (s : State) : State :=
  let l : List EstStr := s.est.map (fun (e : EstStr) => { e with gap := true })
  { s with est := l }

/-- CNT_CTRL.CLR of the SAMPLE page. -/
def sampleCntClr (s : State) : State := (s.setReg SAMPLE.CNT_SET 0).setReg SAMPLE.CNT_FRM 0

/-- Cells and temperatures of a string in the input region (R203, R301): those of the monitors found at its last enumeration. -/
def cellsOf (s : State) (k : Nat) : Nat := if s.portOn k then (s.prt k).found * s.getF (YPORT.PORT_CFG_CELLS k) else 0
def tempsOf (s : State) (k : Nat) : Nat := if s.portOn k then (s.prt k).found * s.getF (YPORT.PORT_CFG_TEMPS k) else 0

/-- The input buffer of a set (R203). -/
def inputBuf (ssn : Word) : Nat := 0x200A0000 + (ssn.toNat % 2) * 0x8000

/-- Move one string's values to its place in the input buffer (R203), in the order of R301: voltages by channel 0, temperatures by channel 1, the current by channel 2. A skipped gather leaves the entries of the set before (R201). -/
def gatherString (s : State) (ssn : Word) (k : Nat) : State :=
  let b := bankAt k ssn
  let c := s.getF (YPORT.PORT_CFG_CELLS k)
  let t := s.getF (YPORT.PORT_CFG_TEMPS k)
  let v0 := ((List.range k).map s.cellsOf).sum
  let t0 := ((List.range k).map s.tempsOf).sum
  let as := (List.range (s.prt k).found).map (s.moduleAddr k)
  let vs := (as.map (fun a => s.readBytes (b + 0x020 + 32 * (a - 1)) (2 * c))).flatten
  let ts := (as.map (fun a => s.readBytes (b + 0x400 + 8 * (a - 1)) (2 * t))).flatten
  let i := s.readBytes (b + 0x010) 4
  let put (c a : Nat) (l : List Byte) (s : State) : State := if s.sample.skips.contains (c, k) then s else s.writeBytes a l
  put 2 (inputBuf ssn + 29952 + 4 * k) i (put 1 (inputBuf ssn + 23808 + 2 * t0) ts (put 0 (inputBuf ssn + 2 * v0) vs s))

/-- The causes of a set for the estimator: a string of which a gather was skipped is invalid (R201). -/
def skipCauses (s : State) (causes : List Nat) : List Nat :=
  causes.zipIdx.map (fun (x : Nat × Nat) => if x.1 = 0 ∧ s.sample.skips.any (fun e => e.2 == x.2) then 15 else x.1)

end State

open State

/-- SAMPLE_PAGE_START (R150, R153): PERIOD and EN to the nodes of every running port; the first instant, at the first boundary one period after the start boundary and not nearer than the lead. -/
def execSamplePageStart (s : State) : Host.Outcome State Fault Refusal :=
  if s.pgRunning pSAMPLE ∧ s.emitsSets ∧ s.sample.nextUs = none then
    let per := s.getF SAMPLE.SET_CFG_PERIOD
    let s := forAll 24 (fun s n => if s.portLive n then s.ask n .config 0 ftBCAST s.samplePl else s) s
    let at_ := max (s.sample.startUs + 1000 * per) s.leadAt
    .next ((s.updSample (fun x => { x with nextUs := some at_ })).showNextSsn)
  else .next s

/-- SYNC_EMISSION (R150 to R152, R157, R162, R182); of a standby on its own segment of a broken ring (R142). -/
def execSyncEmission (s : State) : Host.Outcome State Fault Refusal :=
  match s.sample.nextUs with
  | some t =>
    if s.pgRunning pSAMPLE ∧ (s.emitsSets || s.servesSegment) ∧ s.sample.set_ = none
        ∧ 3 * t < 3 * (s.dev.nowUs + s.cycleUs) + 2 * s.getF SAMPLE.SET_CFG_LEAD then
      .next (s.openSet (max t s.dev.nowUs))
    else .next s
  | none => .next s

/-- SAMPLE_INSTANT (R150, R161, R172): the set results and the time tag; the strings with gate 1 (R257). -/
def execSampleInstant (c : SetIn) (s : State) : Host.Outcome State Fault Refusal :=
  match s.sample.set_ with
  | some o =>
    if s.operating ∧ o.taken = false ∧ o.atUs ≤ s.dev.nowUs then
      let xs := [s.setResult 0 c.x0, s.setResult 1 c.x1, s.setResult 2 c.x2, s.setResult 3 c.x3]
      let o := { o with taken := true, opsec := s.opsec % 2 ^ 32, opus := s.opus, xs := xs }
      let s := (s.settle setBoundary).updShelf (fun x => { x with gateAtSet := x.gate.map (fun g => g == gateOne) })
      .next (s.updSample (fun x => { x with set_ := some o, lastSet := xs }))
    else .next s
  | none => .next s

/-- SET_CLOSE (R162, R164, R167, R177, R179): causes, mask and counters; the set goes to the estimator. -/
def execSetClose (s : State) : Host.Outcome State Fault Refusal :=
  match s.sample.set_ with
  | some o =>
    if s.operating ∧ o.taken ∧ o.atUs + 100 * s.getF SAMPLE.SET_CFG_CLOSE < s.dev.nowUs + s.cycleUs then
      let causes := (List.range 24).map (s.setCause o)
      let part := causes.any (fun c => c ≠ 0 && c ≠ 1)
      let block := s.setBlock o causes
      let s := if part then s.incSat SAMPLE.CNT_SET_PARTIAL else s
      let s := if causes.all (· ≠ 0) then s.incSat SAMPLE.CNT_SET_EMPTY else s
      let s := s.updShelf (fun x => { x with pendRegs := x.pendRegs ++ block })
      -- no set is processed while the MPU restarts (R315)
      let s := if s.dev.mpuRestart || s.dev.updatePause then
          s.estGap.incSat EST.GAP_CNT_SKIPPED
        else s
      .next (s.updSample (fun x => { x with
        set_ := none, skips := [], closed := some ⟨o.ssn, o.atUs, causes, s.shelf.gateAtSet, false, s.dev.mpuRestart || s.dev.updatePause⟩ }))
    else .next s
  | none => .next s

/-- SET_GATHER_COMPLETE (R201, R203): channels 0 to 2 have moved the set into its input buffer, unless one of them stands still. -/
def execSetGatherComplete (s : State) : Host.Outcome State Fault Refusal :=
  match s.sample.closed with
  | some c =>
    if (List.range 3).all s.dmUsable ∧ c.gathered = false then
      let s := forAll 24 (fun s k => if s.portOn k then s.gatherString c.ssn k else s) s
      .next (s.updSample (fun x => { x with closed := some { c with gathered := true, causes := s.skipCauses c.causes } }))
    else .next s
  | none => .next s

/-- SDM_STUCK (R174, R175): the channel holds its value; D0, D1 and D2 raise FS_BUS_PLAUS. -/
def execSdmStuck (ch : Nat) (s : State) : Host.Outcome State Fault Refusal :=
  if s.operating ∧ s.sdmEn ch ∧ s.stuckCh ch = false then
    let s := s.putBit SAMPLE.SDM_STAT (4 + ch) true
    let s := if ch = 0 ∨ ch = 2 then
        (s.setF SAMPLE.SDM_STAT_PLAUS_FAIL 0).updShelf (fun x => { x with plausBad := 0, plausOk := 0 })
      else s
    let s := s.plausCond.setWatch
    .next (if ch < 3 then s.raise 106 [ch] else s)
  else .next s

/-- SDM_STUCK_END (R174). -/
def execSdmStuckEnd (ch : Nat) (s : State) : Host.Outcome State Fault Refusal :=
  if s.operating ∧ s.stuckCh ch then .next (s.putBit SAMPLE.SDM_STAT (4 + ch) false).plausCond else .next s

/-- PLAUS_FAIL_COUNT (R175). -/
def execPlausFailCount (s : State) : Host.Outcome State Fault Refusal :=
  let n := s.getF SAMPLE.SDM_CFG_PLAUS_N
  let fail := s.getB SAMPLE.SDM_STAT_PLAUS_FAIL
  if !s.operating then .next s
  else if fail = false ∧ 0 < s.shelf.plausBad ∧ n ≤ s.shelf.plausBad then
    .next ((s.setF SAMPLE.SDM_STAT_PLAUS_FAIL 1).plausCond.raise 106 [0xFF])
  else if fail = true ∧ 0 < s.shelf.plausOk ∧ n ≤ s.shelf.plausOk then .next (s.setF SAMPLE.SDM_STAT_PLAUS_FAIL 0).plausCond
  else .next s

/-- SYNC_RX (R160, R168): a standby's count advances with the set that its own ports assemble; the sample instant lies the lead later. -/
def execSyncRx (n : Nat) (tag : Byte) (s : State) : Host.Outcome State Fault Refusal :=
  if s.portLive n ∧ s.isPair ∧ s.getB RIDGE.PAIR_STAT_ACTIVE = false ∧ s.getB (YPORT.PORT_CFG_RING n)
      ∧ s.pgRunning pSAMPLE ∧ (s.sample.copySeen || s.sample.ssn != 0)
      ∧ tag.toNat = (nextSsn s.sample.ssn).toNat % 256 then
    .next (s.openSet s.leadAt)
  else .next s

end Sys2Proof.Machine
end

