-- ==== Sys2Proof/Machine/Engines.lean ====
section
/-! DEFINITION. The frame mover and the system DMA (chapter 6): the meanings of their commands. Data of a descriptor moves when its completion is announced. -/

namespace Sys2Proof.Machine

namespace State

/-- The frame mover runs again (Table 6-4 step 3): frame rings emptied, transmit queues flushed, entries 0 and 1 until the next boundary fills them, HALTED cleared. -/
def fmRelease (s : State) : State :=
  let s := forAll 24 (fun s n =>
    (forAll 24 (fun s e => if s.ringValid n e then s.ringClear n e else s) s).updPort n (fun x => { x with tx := [], txNext := 0, rxNext := 0 })) s
  (({ s with fm := { s.fm with flushed := true } }.setF FMOVER.FM_STAT_HALTED 0).setF FMOVER.FM_STAT_RESTARTING 0).setCond 240 false

/-- A command of Table 6-10 in CHn_CMD. -/
def sdmaCmd (s : State) (c code : Nat) : State := (s.setF (SDMA.CH_CMD_CMD c) code).countChg pSDMA

/-- What a command of Table 6-10 does to its channel (R193, R197, R198, R200), whoever wrote it. -/
def sdmaDo (s : State) (c code : Nat) : State :=
  if !s.pgRunning pSDMA then s
  else match code with
  | 1 => if s.dmState c = dmIDLE ∨ s.dmState c = dmSTOPPED then s.sdmaFetch c else s
  | 2 => s.sdmaStop c
  | 3 => if s.dmState c = dmHALTED then s.sdmaResume c else s
  | 4 => if s.dmState c = dmHALTED then s.sdmaDrop c false else s
  | 5 => if s.dmState c = dmHALTED then s.sdmaDrop c true else s
  | _ => s

end State

open State

/-- FMOVER_BUS_ERROR (R188, R189): all channels stop; firmware restarts the frame mover by itself unless this is the second error within 1 s. -/
def execFmoverBusError (addr : Option Word) (unit : BitVec 4) (write : Bool) (s : State) : Host.Outcome State Fault Refusal :=
  if !s.pgRunning pFMOVER then .next s
  else
    let now := s.dev.nowUs
    let young : Bool := match s.fm.berrAt with
      | some t => decide (now < t + 1000000)
      | none => false
    let s := ({ s with fm := { s.fm with berrAt := some now } }).incSat FMOVER.FM_STAT_BERR_COUNT
    let s := s.setReg FMOVER.BERR_ADDR (addr.getD 0xFFFFFFFF)
    let s := (s.setB FMOVER.BERR_INFO_DIR write).setF FMOVER.BERR_INFO_UNIT unit.toNat
    let s := (s.setF FMOVER.FM_STAT_HALTED 1).setB FMOVER.FM_STAT_RESTARTING (s.getB FMOVER.FM_CTRL_AUTO_RESTART && !young)
    .next (s.raiseL 240 [])

/-- FMOVER_RESTART (R189, Table 6-4). -/
def execFmoverRestart (s : State) : Host.Outcome State Fault Refusal :=
  if s.getB FMOVER.FM_STAT_HALTED ∧ s.getB FMOVER.FM_STAT_RESTARTING then .next s.fmRelease else .next s

/-- SDMA_DESCRIPTOR_COMPLETE (R191, R194, R195, R197). -/
def execSdmaDescriptorComplete (c : Nat) (s : State) : Host.Outcome State Fault Refusal :=
  let st := s.dmState c
  match (s.sdmaCh c).desc with
  | none => .next s
  | some a =>
    if !(st = dmACTIVE ∨ st = dmSTOPPING) then .next s
    else
      let d := s.desc a
      let r : State × Option (Nat × Nat) :=
        if d.mode = 0 then (s.writeBytes d.dst (s.readBytes d.src d.len), none) else moveElems d d.count 0 s
      match r.2 with
      | some (i, bad) => .next (r.1.sdmaHalt c 2 bad a (d.mode = 2) i)
      | none =>
        let s := r.1.descEnd c a 0 (if d.mode = 0 then d.len else d.count)
        let s := s.setN (SDMA.CH_DONE c) (s.getN (SDMA.CH_DONE c) + 1)
        .next (s.sdmaGoOn c d.last (st == dmSTOPPING))

/-- SDMA_START (R193, R198): an IDLE or STOPPED channel fetches from CHn_NEXT; a HALTED or FENCED one ignores it. -/
def execSdmaStart (c : Nat) (s : State) : Host.Outcome State Fault Refusal :=
  if !s.pgRunning pSDMA then .next s
  else
    let s := s.sdmaCmd c 1
    if s.dmState c = dmIDLE ∨ s.dmState c = dmSTOPPED then .next (s.sdmaFetch c) else .next s

/-- SDMA_STOP (R197). -/
def execSdmaStop (c : Nat) (s : State) : Host.Outcome State Fault Refusal :=
  if !s.pgRunning pSDMA then .next s else .next ((s.sdmaCmd c 2).sdmaStop c)

/-- SDMA_RESUME (R200): the descriptor again from its first element. -/
def execSdmaResume (c : Nat) (s : State) : Host.Outcome State Fault Refusal :=
  if !s.pgRunning pSDMA ∨ s.dmState c ≠ dmHALTED then .next s
  else
    .next ((s.sdmaCmd c 3).sdmaResume c)

/-- SDMA_SKIP (R200). -/
def execSdmaSkip (c : Nat) (s : State) : Host.Outcome State Fault Refusal :=
  if !s.pgRunning pSDMA ∨ s.dmState c ≠ dmHALTED then .next s else .next ((s.sdmaCmd c 4).sdmaDrop c false)

/-- SDMA_ABORT (R200). -/
def execSdmaAbort (c : Nat) (s : State) : Host.Outcome State Fault Refusal :=
  if !s.pgRunning pSDMA ∨ s.dmState c ≠ dmHALTED then .next s else .next ((s.sdmaCmd c 5).sdmaDrop c true)

/-- SDMA_BUS_ERROR (R199): the channel of a descriptor in hand halts; what lies before the failing access has moved (R195). -/
def execSdmaBusError (c : Nat) (addr : Word) (write : Bool) (s : State) : Host.Outcome State Fault Refusal :=
  match (s.sdmaCh c).desc with
  | some a =>
    if s.dmState c = dmACTIVE ∨ s.dmState c = dmSTOPPING then
      let d := s.desc a
      let n := s.movedBefore d a addr.toNat write
      .next ((s.movePart d n).sdmaHalt c 1 addr.toNat a write n)
    else .next s
  | none => .next s

end Sys2Proof.Machine
end

