-- ==== Sys2Proof/Machine/EstMath.lean ====
section
/-! DEFINITION. The cell model (chapter 10): profile tables (R306 to R308), the initialisation, prediction, measurement update and range check of one cell (R309 to R313). None of it raises a source. Each operation rounds once, in the order of the formulas (log entry 11). -/

namespace Sys2Proof.Machine

/-- σ(SoC) (R310). -/
def CellSt.sigma (c : CellSt) : Word := F32.sqrt c.p11

/-- The point a + f·(b − a). -/
def lerp (a b f : Word) : Word := F32.add a (F32.mul f (F32.sub b a))

/-- 100 µV units as volts, and 0.01 °C units as degrees. -/
def voltsOf (v : Half) : Word := F32.ofQ false v.toNat 10000
def degC (t : Half) : Word := F32.ofQ (t.toInt < 0) t.toInt.natAbs 100

/-- x × n as an unsigned 16-bit field, ties to even; outside the field the spec states none (log entry 88). -/
def field16 (place n : Nat) (x : Word) : Half :=
  let v := F32.toIntMul x n
  if F32.isFinite x ∧ 0 ≤ v ∧ v ≤ 65535 then BitVec.ofNat 16 v.toNat else (Config.unstated place x).truncate 16

/-- 0.01 % units, and 0.001 units, as fractions. -/
def pctOf (n : Nat) : Word := F32.ofQ false n 10000
def milliOf (n : Nat) : Word := F32.ofQ false n 1000

/-- Segment and fraction of `z` among `n` points at i/(n − 1) (R306). -/
def segOf (z : Word) (n : Nat) : Nat × Word :=
  let i := min (n - 2) (F32.floorMul z (n - 1))
  (i, F32.sub (F32.mul z (F32.ofNat (n - 1))) (F32.ofNat i))

/-- z lies in 0 to 1. -/
def socOk (z : Word) : Bool := F32.le 0 z && F32.le z 0x3F800000

/-- The inverse of a non-decreasing curve of 64 points (R307): 0 below the first, 1 above the last, the middle of a flat range. -/
def curveInv (l : List Word) (v : Word) : Word :=
  if F32.lt v (l.getD 0 0) then 0
  else if F32.lt (l.getD 63 0) v then 0x3F800000
  else
    let eq := (List.range 64).filter (fun i => F32.eqv (l.getD i 0) v)
    match eq, eq.getLast? with
    | a :: _, some b => F32.ofQ false (a + b) 126
    | _, _ =>
      match (List.range 63).find? (fun i => F32.lt (l.getD i 0) v && F32.lt v (l.getD (i + 1) 0)) with
      | some i =>
        let a := l.getD i 0
        F32.div (F32.add (F32.ofNat i) (F32.div (F32.sub v a) (F32.sub (l.getD (i + 1) 0) a))) (F32.ofNat 63)
      | none => 0x3F800000

/-- What one set gives a string's cells: profile, time since the last prediction in s, current now, at the last prediction, across a gap, σm, and the RHO tracking conditions of R312 that concern the string. -/
structure EstIn where
  p : Nat
  dt : Word
  i : Word
  iPrev : Word
  gap : Bool
  sigm : Word
  rhoOk : Bool

/-- What a cell's update came to: a range failure (R313), INNOV_CNT at its limit (R310). -/
structure CellEvents where
  range : Bool
  innov : Bool

namespace State

/-- Entry `k` of a table of 16-bit entries (R342). -/
def entry (s : State) (base k : Nat) : Nat := bitsOf (s.getReg (base + 4 * (k / 2))) (16 * (k % 2)) 16

/-- Temperature points of a profile in 0.01 °C. -/
def tPoint (s : State) (p t : Nat) : Int :=
  signedOf 16 (match t with
    | 0 => s.getF (ESTPROF.TPOINT0_T0 p)
    | 1 => s.getF (ESTPROF.TPOINT0_T1 p)
    | 2 => s.getF (ESTPROF.TPOINT1_T2 p)
    | _ => s.getF (ESTPROF.TPOINT1_T3 p))

/-- The columns that bracket a temperature, and the fraction between them (R307); outside, the nearest one. -/
def tCols (s : State) (p : Nat) (t : Int) : Nat × Nat × Word :=
  if t ≤ s.tPoint p 0 then (0, 0, 0)
  else if s.tPoint p 3 ≤ t then (3, 3, 0)
  else
    let i := if t < s.tPoint p 1 then 0 else if t < s.tPoint p 2 then 1 else 2
    (i, i + 1, F32.ofQ false (t - s.tPoint p i).toNat (max 1 (s.tPoint p (i + 1) - s.tPoint p i).toNat))

/-- A table's value at SoC `z` and temperature (R307): `n` points per column, entries in units of 1/den. -/
def tabVal (s : State) (base n den p : Nat) (z : Word) (t : Int) : Word :=
  if !socOk z then Config.beyond base z
  else
    let (i, f) := segOf z n
    let (a, b, g) := s.tCols p t
    let e (c k : Nat) : Word := F32.ofQ false (s.entry base (n * c + k)) den
    lerp (lerp (e a i) (e a (i + 1)) f) (lerp (e b i) (e b (i + 1)) f) g

def ocv (s : State) (p : Nat) (z : Word) (t : Int) : Word := s.tabVal (ESTPROF.OCV p 0) 64 10000 p z t
def rohm (s : State) (p : Nat) (z : Word) (t : Int) : Word := s.tabVal (ESTPROF.ROHM p 0) 8 1000000 p z t
def pres (s : State) (p : Nat) (z : Word) (t : Int) : Word := s.tabVal (ESTPROF.PRES p 0) 8 1000000 p z t
def ptau (s : State) (p : Nat) (z : Word) (t : Int) : Word := s.tabVal (ESTPROF.PTAU p 0) 8 10 p z t

/-- The OCV curve at a temperature, point by point. -/
def ocvCurve (s : State) (p : Nat) (t : Int) : List Word :=
  let (a, b, g) := s.tCols p t
  (List.range 64).map (fun i =>
    lerp (F32.ofQ false (s.entry (ESTPROF.OCV p 0) (64 * a + i)) 10000) (F32.ofQ false (s.entry (ESTPROF.OCV p 0) (64 * b + i)) 10000) g)

/-- The OCV inverse of a voltage (R307). -/
def ocvInv (s : State) (p : Nat) (v : Word) (t : Int) : Word := curveInv (s.ocvCurve p t) v

/-- The slope g of the OCV curve (R307); 0 at z = 1. -/
def ocvSlope (s : State) (p : Nat) (z : Word) (t : Int) : Word :=
  if F32.eqv z 0x3F800000 then 0
  else if !socOk z then Config.beyond (ESTPROF.OCV p 0 + 1) z
  else
    let l := s.ocvCurve p t
    let i := (segOf z 64).1
    F32.mul (F32.ofNat 63) (F32.sub (l.getD (i + 1) 0) (l.getD i 0))

/-- Q lies within CAP_MIN to CAP_MAX of Q_NOM (R313). -/
def capOk (s : State) (p : Nat) (q : Word) : Bool :=
  F32.le (F32.mul (pctOf (s.getF (ESTPROF.LEARN2_CAP_MIN p))) (s.qNom p)) q
    && F32.le q (F32.mul (pctOf (s.getF (ESTPROF.LEARN2_CAP_MAX p))) (s.qNom p))

/-- RHO lies within 0.25 to 8 (R313). -/
def rhoOk (r : Word) : Bool := F32.le 0x3E800000 r && F32.le r 0x41000000

/-- A cell starts at a usable voltage (R311); ROHM is taken at the OCV inverse of the voltage alone (log entry 20). -/
def initCell (s : State) (p : Nat) (i : Word) (v : Half) (c : CellSt) : CellSt :=
  let t := c.tUsed.toInt
  let w := voltsOf v
  let rho := if rhoOk c.rho then c.rho else 0x3F800000
  let q := if s.capOk p c.q then c.q else s.qNom p
  let z := s.ocvInv p (F32.add w (F32.mul (F32.mul rho (s.rohm p (s.ocvInv p w t) t)) i)) t
  let load := F32.ofQ false (s.getF EST.MEAS_SIG_SIG_LOAD) 10000
  let l3 := F32.mul 0x40400000 load
  let g := s.ocvSlope p z t
  let s0 := pctOf (s.getF EST.SIGMA_INIT_INIT)
  let s0 := if F32.isZero g then s0 else F32.min s0 (F32.div l3 (F32.abs g))
  { c with soc := z, vp := 0, p11 := F32.mul s0 s0, p12 := 0, p22 := F32.mul l3 l3, rho := rho, q := q, vPrev := v }.setFlag cfINIT true

/-- The prediction of R309, with the gap's share of R305. -/
def predict (s : State) (x : EstIn) (c : CellSt) : CellSt :=
  let t := c.tUsed.toInt
  let ia := if x.gap then F32.div (F32.add x.iPrev x.i) 0x40000000 else x.i
  let q36 := F32.mul (F32.ofNat 3600) c.q
  let z := F32.sub c.soc (F32.div (F32.mul ia x.dt) q36)
  let a := F32.exp (F32.neg (F32.div x.dt (s.ptau x.p c.soc t)))
  let vp := F32.add (F32.mul a c.vp) (F32.mul (F32.mul (F32.sub 0x3F800000 a) (s.pres x.p c.soc t)) ia)
  let p22 := F32.add (F32.mul (F32.mul a a) c.p22) (F32.mul (s.getReg EST.QV) x.dt)
  let d := F32.div (F32.mul (F32.add (F32.mul (s.getReg EST.I_GAIN_ERR) (F32.abs ia)) (s.getReg EST.I_OFS_ERR)) x.dt) q36
  let r := F32.add (F32.sqrt c.p11) d
  let p11 := F32.mul r r
  let e := F32.div (F32.mul (F32.abs (F32.sub x.i x.iPrev)) x.dt) (F32.mul (F32.ofNat 7200) c.q)
  let p11 := if x.gap then F32.add p11 (F32.mul e e) else p11
  { c with soc := z, vp := vp, p11 := p11, p12 := F32.mul a c.p12, p22 := p22 }

/-- The measurement update of R310; a voltage outside INNOV_GATE leaves the prediction. -/
def measure (s : State) (x : EstIn) (v : Half) (c : CellSt) : CellSt :=
  let t := c.tUsed.toInt
  let z := c.soc
  let h := F32.sub (F32.sub (s.ocv x.p z t) c.vp) (F32.mul (F32.mul c.rho (s.rohm x.p z t)) x.i)
  let nu := F32.sub (voltsOf v) h
  if F32.lt (milliOf (s.getF EST.INNOV_GATE)) (F32.abs nu) then
    { c with innov := min 255 (c.innov + 1) }.setFlag cfGATED true
  else
    let g := s.ocvSlope x.p z t
    let gp := F32.sub (F32.mul g c.p11) c.p12
    let gq := F32.sub (F32.mul g c.p12) c.p22
    let sv := F32.add (F32.add (F32.sub (F32.mul (F32.mul g g) c.p11) (F32.mul (F32.mul 0x40000000 g) c.p12)) c.p22) (F32.mul x.sigm x.sigm)
    let k1 := F32.div gp sv
    let k2 := F32.div gq sv
    { c with
      soc := F32.add z (F32.mul k1 nu), vp := F32.add c.vp (F32.mul k2 nu), innov := 0
      p11 := F32.sub c.p11 (F32.mul k1 gp), p12 := F32.sub c.p12 (F32.mul k1 gq), p22 := F32.sub c.p22 (F32.mul k2 gq) }.setFlag cfMEAS true

/-- z held in 0 to 1 (R310). -/
def clampSoc (c : CellSt) : CellSt := { c with soc := F32.min 0x3F800000 (F32.max 0 c.soc) }

/-- RHO tracking (R312). -/
def trackRho (s : State) (x : EstIn) (v : Half) (c : CellSt) : CellSt :=
  if x.rhoOk then
    let obs := F32.div (F32.neg (F32.sub (voltsOf v) (voltsOf c.vPrev))) (F32.mul (F32.sub x.i x.iPrev) (s.rohm x.p (clampSoc c).soc c.tUsed.toInt))
    if rhoOk obs then
      { c with rho := F32.add c.rho (F32.mul (F32.ofQ false 1 (2 ^ s.getF EST.ROHM_CFG_ROHM_SHIFT)) (F32.sub obs c.rho)) }
    else c
  else c

/-- The range check of R313, before z is clamped. -/
def rangeBad (s : State) (p : Nat) (c : CellSt) : Bool :=
  [c.soc, c.vp, c.p11, c.p12, c.p22, c.rho, c.q].any (fun w => !F32.isFinite w)
    || F32.lt c.soc 0xBD4CCCCD || F32.lt 0x3F866666 c.soc
    || F32.lt c.p11 0 || F32.lt c.p22 0 || F32.lt (F32.mul c.p11 c.p22) (F32.mul c.p12 c.p12)
    || F32.lt 0x3F800000 (F32.abs c.vp) || !rhoOk c.rho || !s.capOk p c.q

/-- One cell in one set (R309 to R313): `v` its voltage where usable, `prev` whether it was usable in the set before. -/
def cellStep (s : State) (x : EstIn) (v : Option Half) (prev : Bool) (c : CellSt) : CellSt × CellEvents :=
  let c := ((c.setFlag cfMEAS false).setFlag cfGATED false).setFlag cfREINIT false
  if !c.flag cfINIT then
    match v with
    | some w => (s.initCell x.p x.i w c, ⟨false, false⟩)
    | none => (c, ⟨false, false⟩)
  else
    let c := s.predict x c
    let n := c.innov
    let c := match v with
      | some w => (if prev then s.trackRho x w else id) (s.measure x w c)
      | none => c
    let inn := n < c.innov && c.innov == s.getF EST.EST_CFG_INNOV_N
    if s.rangeBad x.p c then
      let c := (c.setFlag cfREINIT true).setFlag cfINIT false
      match v with
      | some w => (s.initCell x.p x.i w c, ⟨true, inn⟩)
      | none => (c, ⟨true, inn⟩)
    else
      let c := clampSoc c
      (match v with
        | some w => { c with vPrev := w }
        | none => c, ⟨false, inn⟩)

/-- The first check of R308 that a profile fails, as its window offset. -/
def profBad (s : State) (p : Nat) : Option Nat :=
  let q := s.qNom p
  let base := ESTPROF.HDR0 p
  let col (tab n t : Nat) : List Nat := (List.range n).map (fun i => s.entry tab (n * t + i))
  let drop (l : List Nat) : Option Nat := (List.range (l.length - 1)).find? (fun i => l.getD (i + 1) 0 < l.getD i 0)
  let zero (tab : Nat) : Option Nat := ((List.range 32).find? (fun k => s.entry tab k = 0)).map (fun k => tab - base + 2 * k)
  let ocvBad (t : Nat) : Option Nat :=
    let l := col (ESTPROF.OCV p 0) 64 t
    match drop l with
    | some i => some (0x40 + 2 * (64 * t + i + 1))
    | none => if l.getD 63 0 ≤ l.getD 0 0 then some (0x40 + 2 * (64 * t + 63)) else none
  let zt (i : Nat) : Int × Nat := (signedOf 16 (s.getF (ESTPROF.ZT_ZT_TEMP p i)), s.getF (ESTPROF.ZT_ZT_RATIO p i))
  let checks : List (Option Nat) :=
    [if F32.isFinite q && F32.lt 0 q then none else some 0x04,
     if 5000 ≤ s.getF (ESTPROF.RESERVE_EMPTY_RES p) + s.getF (ESTPROF.RESERVE_FULL_RES p) then some 0x08 else none,
     if s.tPoint p 0 < s.tPoint p 1 then none else some 0x0C,
     if s.tPoint p 1 < s.tPoint p 2 ∧ s.tPoint p 2 < s.tPoint p 3 then none else some 0x10,
     if signedOf 16 (s.getF (ESTPROF.LEARN0_LT_MIN p)) < signedOf 16 (s.getF (ESTPROF.LEARN0_LT_MAX p)) then none else some 0x14,
     if s.getF (ESTPROF.LEARN2_CAP_MIN p) < s.getF (ESTPROF.LEARN2_CAP_MAX p) then none else some 0x1C,
     ((List.range 3).find? (fun i => (zt (i + 1)).1 ≤ (zt i).1 || (zt i).2 ≤ (zt (i + 1)).2)).map (fun i => 0x2C + 4 * i),
     ocvBad 0, ocvBad 1, ocvBad 2, ocvBad 3, zero (ESTPROF.ROHM p 0), zero (ESTPROF.PRES p 0), zero (ESTPROF.PTAU p 0)]
  (checks.find? Option.isSome).join

/-- A ZT ratio at a temperature (R339), in units of 1. -/
def ztRatio (s : State) (p : Nat) (t : Int) : Word :=
  let tp (i : Nat) : Int := signedOf 16 (s.getF (ESTPROF.ZT_ZT_TEMP p i))
  let rt (i : Nat) : Word := F32.ofQ false (s.getF (ESTPROF.ZT_ZT_RATIO p i)) 10000
  match (List.range 3).find? (fun i => tp i ≤ t && t ≤ tp (i + 1)) with
  | some i => lerp (rt i) (rt (i + 1)) (F32.ofQ false (t - tp i).toNat (max 1 (tp (i + 1) - tp i).toNat))
  | none => Config.beyond (ESTPROF.ZT p 0) (BitVec.ofInt 32 t)

/-- The temperature at which the ZT ratio has a value, clamped to the table's ends (R339), in 0.01 °C. -/
def ztTemp (s : State) (p : Nat) (r : Word) : Int :=
  let tp (i : Nat) : Int := signedOf 16 (s.getF (ESTPROF.ZT_ZT_TEMP p i))
  let rt (i : Nat) : Word := F32.ofQ false (s.getF (ESTPROF.ZT_ZT_RATIO p i)) 10000
  if F32.le (rt 0) r then tp 0
  else if F32.le r (rt 3) then tp 3
  else match (List.range 3).find? (fun i => F32.le (rt (i + 1)) r && F32.le r (rt i)) with
    | some i => tp i + F32.toIntMul (F32.div (F32.sub (rt i) r) (F32.sub (rt i) (rt (i + 1)))) (tp (i + 1) - tp i).toNat
    | none => tp 3

end State

end Sys2Proof.Machine
end

