-- ==== Sys2Proof/Machine/Msg.lean ====
section
/-! DEFINITION. Messages of the controller's own (chapter 17): addresses of the message ports, the plant link, sending. Message ports are numbered 0 to 3 for CAN0 to CAN3 and 4 for T1S. None of it raises a source. -/

namespace Sys2Proof.Machine

namespace State

def msgPort (s : State) (p : Nat) : MsgSt := s.msg.getD p MsgSt.rest
def updMsg (s : State) (p : Nat) (f : MsgSt → MsgSt) : State := { s with msg := s.msg.set p (f (s.msgPort p)) }

def msgPage (p : Nat) : Nat := if p = 4 then pT1S else pCAN p
def nodeAddr (s : State) (p : Nat) : Nat := if p = 4 then s.getF T1S.T1S_ADDR_NODE_ADDR else s.getF (CAN.CAN_CFG_NODE_ADDR p)
def shelfAddr (s : State) (p : Nat) : Nat := if p = 4 then s.getF T1S.T1S_ADDR_SHELF_ADDR else s.getF (CAN.CAN_CFG_SHELF_ADDR p)
def plantAddr (s : State) (p : Nat) : Nat := if p = 4 then s.getF T1S.T1S_ADDR_PLANT_ADDR else s.getF (CAN.CAN_CFG_PLANT_ADDR p)

/-- The plant link: CAN0 with PLINK = 1, T1S otherwise. -/
def plantLink (s : State) : Nat := if s.getB (CAN.CAN_CFG_PLINK 0) then 0 else 4

def cntTxFrames (p : Nat) : Fld := if p = 4 then T1S.CNT_TX_FRAMES else CAN.CNT_TX_FRAMES p
def cntRxFrames (p : Nat) : Fld := if p = 4 then T1S.CNT_RX_FRAMES else CAN.CNT_RX_FRAMES p
def cntRxCrc (p : Nat) : Fld := if p = 4 then T1S.CNT_RX_CRC_FAIL else CAN.CNT_RX_CRC_FAIL p
def cntIgnored (p : Nat) : Fld := if p = 4 then T1S.CNT_MISC_IGNORED else CAN.CNT_MISC_IGNORED p
def cntDropped (p : Nat) : Fld := if p = 4 then T1S.CNT_TX_DROPPED else CAN.CNT_TX_DROPPED p

/-- The port is off its bus: bus-off on CAN, no link on T1S. -/
def msgOff (s : State) (p : Nat) : Bool := if p = 4 then !s.getB T1S.T1S_STAT_LINK else s.getF (CAN.CAN_STAT_STATE p) = 2

/-- The 4 identifier bytes (chapter 17, Message identifiers). -/
def identBytes (typ dst src tag : Nat) : List Nat := leBytes 4 (typ * 2 ^ 24 + dst * 2 ^ 16 + src * 2 ^ 8 + tag)

/-- A body with its CRC-16 (R509). -/
def sealBody (typ dst src tag : Nat) (body : List Nat) : List Byte :=
  (body ++ leBytes 2 (crc16 (identBytes typ dst src tag ++ body))).map (BitVec.ofNat 8)

/-- Send a message with a TAG on a port whose page is RUNNING; it waits while the port is off its bus (R517). -/
def sendTagged (s : State) (p typ dst tag : Nat) (body : List Nat) : State :=
  let src := s.nodeAddr p
  let m : OutMsg := ⟨typ, dst, src, tag, sealBody typ dst src tag body, s.dev.nowUs⟩
  if !s.pgRunning (msgPage p) then s
  else if s.msgOff p then s.updMsg p (fun x => { x with waiting := x.waiting ++ [m] })
  else (s.updMsg p (fun x => { x with last := some m })).incSat (cntTxFrames p)

/-- Send a message of the controller's own; the spec names no TAG for it (a free value). -/
def sendMsg (s : State) (p typ dst : Nat) (body : List Nat) : State :=
  let (w, s) := s.takeFree
  s.sendTagged p typ dst (w.toNat % 256) body

/-- Send to the plant on the plant link (R516). -/
def sendPlant (s : State) (typ : Nat) (body : List Nat) : State := s.sendMsg s.plantLink typ (s.plantAddr s.plantLink) body

/-- The rest request (R319, Table 17-5): the mask of unanchored strings and REST_MIN. -/
def restRequest (s : State) : State :=
  if s.isActive then s.sendPlant 0x08 (leBytes 3 (s.getF EST.UNANCH_MASK) ++ [0] ++ leBytes 2 (s.getF EST.REST_REST_MIN)) else s

end State

end Sys2Proof.Machine
end

