-- ==== Sys2Proof/Machine/Est.lean ====
section
/-! DEFINITION. The estimator's set update (chapter 10): rest, predictions and updates (R301 to R318), unanchored strings (R319), outputs and limits (R320 to R323), capacity learning (R324 to R329), weights (R257), write-back, resets of cells, the ESTWIN page. -/

namespace Sys2Proof.Machine

/-- The mean of some numbers, to the nearest, ties to even. -/
def meanInt (l : List Int) : Int :=
  let n := l.sum
  let d : Int := l.length
  let q := n / d
  let r := n - q * d
  if 2 * r < d then q else if d < 2 * r then q + 1 else if q % 2 = 0 then q else q + 1

/-- What a set brought to a string (Table 10-1): 0 nothing, 1 no current, 2 predicted; whether its rest point was reached in it; the current; the µs since the set before it with the current. -/
structure StrNow where
  row : Nat
  reached : Bool
  i : Word
  dtUs : Nat

/-- The least of some words by their values, with its index (the first among equals). -/
def leastOf (lt : Word → Word → Bool) (l : List (Nat × Word)) : Nat × Word :=
  match l with
  | [] => (0, 0)
  | a :: r => r.foldl (fun m x => if lt x.2 m.2 then x else m) a

namespace State

/-- The cells of a string for its present N_k (R333, R334): a change initialises the whole string. -/
def estPrep (s : State) (k : Nat) : State :=
  let e := s.estOf k
  let n := s.cellsOf k
  if e.cells.length = n then s
  else
    let q := s.qNom (s.strProf k)
    let fresh (j : Nat) : CellSt := { CellSt.rest with q := (e.stored.bind (fun l => l[j]?)).getD q }
    let cells := (List.range n).map (fun j => ((e.cells[j]?).getD (fresh j)).setFlag cfINIT false)
    let odd : Bool := e.cells ≠ [] || (match e.stored with
      | some l => l.length ≠ n
      | none => false)
    let s := (s.updEst k (fun e => { e with cells := cells })).learnDisq k 8
    if odd then s.raise 201 [] else s

/-- The masks of a node in a set's landing bank (Table 6-3). -/
def nodeBit (s : State) (c : ClosedSet) (k ofs a : Nat) : Bool := (s.readLe (bankAt k c.ssn + ofs) 4).testBit a

/-- The voltage of cell `j` in the input buffer, where it is usable (R303). -/
def cellVolt (s : State) (c : ClosedSet) (k j : Nat) : Option Half :=
  let a := s.cellAddr k j
  let v0 := ((List.range k).map s.cellsOf).sum
  let v := s.readLe (inputBuf c.ssn + 2 * (v0 + j)) 2
  if v ≠ 0xFFFF ∧ s.nodeBit c k 4 a ∧ s.nodeBit c k 8 a = false ∧ s.nodeBit c k 12 a = false then some (BitVec.ofNat 16 v) else none

/-- The temperature of sensor `t` of module `m`, where it is usable (R302). -/
def modTemp (s : State) (c : ClosedSet) (k m t : Nat) : Option Int :=
  let a := s.moduleAddr k m
  let n := s.getF (YPORT.PORT_CFG_TEMPS k)
  let t0 := ((List.range k).map s.tempsOf).sum
  let v := s.readLe (inputBuf c.ssn + 23808 + 2 * (t0 + n * m + t)) 2
  if v ≠ 0x8000 ∧ s.nodeBit c k 12 a = false then some (signedOf 16 v) else none

/-- T_USED of cell `j` with its T_SUBST (R302). -/
def cellTemp (s : State) (c : ClosedSet) (k j : Nat) (x : CellSt) : CellSt :=
  let cells := max 1 (s.getF (YPORT.PORT_CFG_CELLS k))
  let n := s.getF (YPORT.PORT_CFG_TEMPS k)
  let m := j / cells
  let t := j % cells * n / cells
  let own := if t < n then s.modTemp c k m t else none
  match own with
  | some v => { x with tUsed := BitVec.ofInt 16 v }.setFlag cfT_SUBST false
  | none =>
    let x := x.setFlag cfT_SUBST true
    match (List.range n).filterMap (s.modTemp c k m) with
    | a :: l => { x with tUsed := BitVec.ofInt 16 (meanInt (a :: l)) }
    | [] =>
      match ((List.range (s.prt k).found).map (fun m => (List.range n).filterMap (s.modTemp c k m))).flatten with
      | a :: l => { x with tUsed := BitVec.ofInt 16 (meanInt (a :: l)) }
      | [] => x

/-- The string current of a set (R303). -/
def strCurrent (s : State) (c : ClosedSet) (k : Nat) : Option Word :=
  match s.getF (ESTSTR.STR_CFG_ISRC k) with
  | 1 => some (F32.mul (s.soon SAMPLE.I_SHELF_SET) (s.getReg (ESTSTR.ISCALE k)))
  | 2 => some 0
  | _ => if s.nodeBit c k 4 0 then some (BitVec.ofNat 32 (s.readLe (inputBuf c.ssn + 29952 + 4 * k) 4)) else none

/-- Minutes as µs. -/
def minUs (n : Nat) : Nat := 60000000 * n

/-- Rest and pseudo-rest at a set with the current (R317, R318): the string afterwards, and whether the rest point was reached in it. -/
def restStep (s : State) (k : Nat) (t : Nat) (i : Word) (vs : List (Option Half)) (e : EstStr) : EstStr × Bool :=
  let q := s.qNom (s.strProf k)
  let low : Bool := F32.lt (F32.abs i) (F32.div q (F32.ofNat 100))
  let low50 : Bool := F32.lt (F32.abs i) (F32.div q (F32.ofNat 50))
  let from_ := if low then some (e.restFrom.getD t) else none
  let restI := if e.restFrom.isNone then e.iPrev else e.restI
  let rp : Bool := match from_ with
    | some f => minUs (s.getF EST.REST_REST_MIN) ≤ t - f
    | none => false
  let lf := if low50 then some (e.lowFrom.getD t) else none
  let start : Bool := low50 && e.lowFrom.isNone
  let mark : Bool := low50 && !start && minUs 10 ≤ t - e.markAt
  let dv := s.getF EST.REST_PSEUDO_DVDT
  let ok : Bool := (vs.zip e.cells).all (fun (x : Option Half × CellSt) => match x.1 with
    | some v => (max v.toNat x.2.vMark.toNat - min v.toNat x.2.vMark.toNat) < dv
    | none => true)
  let cells := if start ∨ mark then
      (vs.zip e.cells).map (fun (x : Option Half × CellSt) => { x.2 with vMark := x.1.getD x.2.vMark })
    else e.cells
  let at_ := if start then t else if mark then t - (t - e.markAt) % minUs 10 else e.markAt
  ({ e with restFrom := from_, restI := restI, restPoint := rp, lowFrom := lf, markAt := at_, cells := cells
            markOk := if mark then ok else low50 && !start && e.markOk, anchorRest := e.anchorRest && low }, rp && !e.restPoint)

/-- σm: the σ of the string's rest state (R310, R318), in V. -/
def sigM (s : State) (t : Nat) (e : EstStr) : Word :=
  let pseudo : Bool := e.restFrom.isNone && e.markOk && (match e.lowFrom with
    | some f => minUs (s.getF EST.REST_PSEUDO_MIN) ≤ t - f
    | none => false)
  F32.ofQ false (if e.restPoint then s.getF EST.MEAS_SIG_SIG_REST else if pseudo then s.getF EST.MEAS_SIG_SIG_PSEUDO
    else s.getF EST.MEAS_SIG_SIG_LOAD) 10000

/-- The counters of R324 after a prediction. -/
def countCharge (s : State) (k : Nat) (ia i dt : Word) (dtUs : Nat) : State :=
  let q := F32.div (F32.mul ia dt) (F32.ofNat 3600)
  let s := s.setReg (ESTSTR.LRN_AH k) (F32.add (s.getReg (ESTSTR.LRN_AH k)) q)
  let s := s.setReg (ESTSTR.LRN_THRU k) (F32.add (s.getReg (ESTSTR.LRN_THRU k)) (F32.abs q))
  let s := if F32.lt q 0 then s.setReg (ESTSTR.LRN_CHG k) (F32.sub (s.getReg (ESTSTR.LRN_CHG k)) q) else s
  if F32.lt (F32.abs i) (F32.div (s.qNom (s.strProf k)) (F32.ofNat 100)) then s
  else s.updEst k (fun e => { e with rateUs := e.rateUs + dtUs })

/-- Cell `j`'s events as raises (R310, R313). -/
def cellRaises (s : State) (k : Nat) (evs : List (Nat × CellEvents)) : State :=
  evs.foldl (fun s x =>
    let s := if x.2.range then (s.incSat EST.GAP_CNT_RANGE).raise 193 (k :: leBytes 2 x.1) else s
    if x.2.innov then s.raise 196 [] else s) s

/-- A string without a valid estimate from the next boundary on; its other outputs are frozen (Table 10-1, R316). -/
def notValid (s : State) (k : Nat) : State := s.later [(ESTSTR.RES_STAT k, withBits (s.soon (ESTSTR.RES_STAT k)) 0 1 0)]

/-- The sensors of a string's modules at a set, kept for 10 min and one set before them (R339). -/
def tempNote (s : State) (c : ClosedSet) (k : Nat) : State :=
  let n := s.getF (YPORT.PORT_CFG_TEMPS k)
  let row := (List.range (s.prt k).found).map (fun m => (List.range n).map (s.modTemp c k m))
  s.updEst k (fun e =>
    let l := e.temps.span (fun x => c.atUs < x.1 + minUs 10)
    { e with temps := (c.atUs, row) :: l.1 ++ l.2.take 1 })

/-- The cells of one string in a set (Table 10-1, first phase). -/
def estCells (s : State) (c : ClosedSet) (k : Nat) : State × StrNow :=
  let cause := c.causes.getD k 1
  if s.shelf.estFence.getD k false ∨ s.pgRunning (pESTSTR k) = false ∨ s.pgRunning pEST = false then
    let s := (s.notValid k).updEst k (fun e => { e with gap := true, noEst := e.noEst + 1 })
    (if s.shelf.estFence.getD k false then s.learnDisq k 8 else s, ⟨0, false, 0, 0⟩)
  else if cause = 1 then
    let g : Bool := (s.strCurrent c k).isNone
    (s.updEst k (fun e => { e with gap := e.gap || g, noEst := e.noEst + 1 }), ⟨0, false, 0, 0⟩)
  else
    let s := s.estPrep k
    match s.strCurrent c k with
    | none =>
      (s.updEst k (fun e => { e with
        gap := true, restFrom := none, restPoint := false, lowFrom := none, markOk := false, anchorRest := false, noEst := e.noEst + 1
        cells := e.cells.map (fun x => (x.setFlag cfMEAS false).setFlag cfGATED false) }), ⟨1, false, 0, 0⟩)
    | some i =>
      let t := c.atUs
      let n := (s.estOf k).cells.length
      let vs := (List.range n).map (s.cellVolt c k)
      let (e, reached) := s.restStep k t i vs (s.estOf k)
      let lost : Bool := s.getReg EST.SSN_DONE ≠ 0 && c.ssn ≠ nextSsn (s.getReg EST.SSN_DONE)
      let gap := e.gap || lost
      let dtUs := match e.lastUs with
        | some u => t - u
        | none => 0
      let dt := F32.ofQ false dtUs 1000000
      let di := F32.mul (F32.ofQ false (s.getF EST.ROHM_CFG_ROHM_DI) 100) (s.qNom (s.strProf k))
      let x : EstIn := {
        p := s.strProf k, dt := dt, i := i, iPrev := e.iPrev, gap := gap, sigm := s.sigM t e
        rhoOk := e.lastUs.isSome && !gap && decide (dtUs ≤ 100000) && F32.le di (F32.abs (F32.sub i e.iPrev)) }
      let res : List (CellSt × CellEvents) := (List.range n).zipWith (fun j (y : CellSt) =>
        let v := (vs.getD j none)
        let r := s.cellStep x v y.vOk (s.cellTemp c k j y)
        ({ r.1 with vOk := v.isSome }, r.2)) e.cells
      let ia := if gap then F32.div (F32.add e.iPrev i) 0x40000000 else i
      let s := if e.lastUs.isSome then (s.updEst k (fun _ => e)).countCharge k ia i dt dtUs else s.updEst k (fun _ => e)
      let big : Bool := !F32.lt (F32.abs i) (F32.div (s.qNom (s.strProf k)) (F32.ofNat 10))
      let s := s.updEst k (fun e => { e with
        cells := res.map (·.1), iPrev := i, lastUs := some t, gap := false, winBigI := e.winBigI || big
        noEst := if cause = 0 then 0 else e.noEst + 1 })
      let s := s.cellRaises k ((List.range n).zip (res.map (·.2)))
      let s := if res.any (fun (r : CellSt × CellEvents) => r.2.range) then s.learnDisq k 8 else s
      (s.tempNote c k, ⟨2, reached, i, dtUs⟩)

/-- The initialised cells of a string with their indexes. -/
def initCells (s : State) (k : Nat) : List (Nat × CellSt) :=
  let e := s.estOf k
  ((List.range e.cells.length).zip e.cells).filter (fun (x : Nat × CellSt) => x.2.flag cfINIT)

/-- The check of R319 after the measurement update. -/
def unanchCheck (s : State) (k : Nat) : State :=
  let l := s.initCells k
  let sg := (l.map (fun x => x.2.sigma))
  let top := sg.foldl F32.max 0
  let mx := pctOf (s.getF EST.SIGMA_SIGMA_MAX)
  let was := s.getBit EST.UNANCH k
  if sg.any (fun w => F32.lt mx w) then
    let s := s.updEst k (fun e => { e with cells := e.cells.map (fun c => if c.flag cfINIT && F32.lt mx c.sigma then c.setFlag cfUNANCHORED true else c) })
    let s := (s.putBit EST.UNANCH k true).setF EST.EST_STAT_UNANCHORED 1
    if was then s
    else
      let s := s.raiseL 192 (k :: leBytes 4 top.toNat)
      let s := if s.getB EST.EST_CFG_REST_REQ_EN then (s.updEst k (fun e => { e with restReqAt := s.dev.nowUs })).restRequest else s
      s.learnDisq k 7
  else if was ∧ sg.all (fun w => F32.le w (pctOf (s.getF EST.SIGMA_SIGMA_CLR))) then
    let s := s.updEst k (fun e => { e with cells := e.cells.map (fun c => c.setFlag cfUNANCHORED false) })
    let s := s.putBit EST.UNANCH k false
    if s.getF EST.UNANCH_MASK = 0 then (s.setF EST.EST_STAT_UNANCHORED 0).endL 192 else s
  else s

/-- z_B: the OCV inverse of a cell's usable voltage (R324). -/
def cellZ (s : State) (c : ClosedSet) (k j : Nat) (x : CellSt) : Option Word :=
  (s.cellVolt c k j).map (fun v => s.ocvInv (s.strProf k) (voltsOf v) x.tUsed.toInt)

/-- An anchor at this set (R324). -/
def anchorNow (s : State) (c : ClosedSet) (k : Nat) : State :=
  let e := s.estOf k
  let cells : List CellSt := (List.range e.cells.length).zipWith (fun j (x : CellSt) =>
    match s.cellZ c k j x with
    | some z => { x with anchor := BitVec.ofNat 16 (F32.toIntMul z 65535).toNat, part := x.flag cfINIT }
    | none => { x with part := false }) e.cells
  let s := s.updEst k (fun e => { e with cells := cells, rateUs := 0, anchorRest := true })
  let s := ((s.setReg (ESTSTR.LRN_AH k) 0).setReg (ESTSTR.LRN_THRU k) 0).setReg (ESTSTR.LRN_CHG k) 0
  (s.setN (ESTSTR.LRN_T0 k) s.opsec).setF (ESTSTR.LRN_STAT_STATE k) 1

/-- Q_meas of a cell whose OCV inverse at the closing anchor is `z` (R325, R326). -/
def qMeas (s : State) (k : Nat) (x : CellSt) (z : Word) : Word :=
  F32.div (s.getReg (ESTSTR.LRN_AH k)) (F32.sub (F32.ofQ false x.anchor.toNat 65535) z)

/-- The update of R328. -/
def learnCell (x : CellSt) (qm : Word) : CellSt :=
  let d := F32.mul 0x3E800000 (F32.sub qm x.q)
  let b := F32.mul (F32.ofQ false 5 100) x.q
  let e := F32.clampAbs b d
  { x with q := F32.add x.q e }.setFlag cfLEARNED true |>.setFlag cfBOUNDED (!F32.le (F32.abs d) b)

/-- The cells that `meas` names measure their capacity (R328). -/
def learnCells (s : State) (c : ClosedSet) (k : Nat) (meas : CellSt → Word → Bool) : State :=
  let e := s.estOf k
  let p := s.strProf k
  let res : List (CellSt × Nat) := (List.range e.cells.length).zipWith (fun j (x : CellSt) =>
    match s.cellZ c k j x with
    | some z =>
      if x.part && meas x z then
        let qm := s.qMeas k x z
        if F32.isFinite qm && s.capOk p qm then (learnCell x qm, 1) else (x, 2)
      else (x, 0)
    | none => (x, 0)) e.cells
  let s := s.updEst k (fun e => { e with cells := res.map (·.1) })
  let s := (res.filter (fun (r : CellSt × Nat) => r.2 = 2)).foldl (fun s _ => (s.incSat (ESTSTR.LRN_COUNT_REJECTED k)).raise 198 [k, 2, 0]) s
  if res.any (fun (r : CellSt × Nat) => r.2 = 1) then
    let s := ((s.incSat (ESTSTR.LRN_COUNT_LEARNED k)).setN (ESTSTR.LAST_LEARN k) s.opsec).setF (ESTSTR.WB_STAT_PENDING k) 1
    s.raise 198 [k, 1, 0]
  else s

/-- THRU over the time above C/100 exceeds RATE_AVG × C (Table 10-4). -/
def rateAvgBad (s : State) (k : Nat) : Bool :=
  let p := s.strProf k
  let h := F32.ofQ false (s.estOf k).rateUs 3600000000
  F32.lt (F32.mul (milliOf (s.getF (ESTPROF.LEARN1_RATE_AVG p))) (s.qNom p)) (F32.div (s.getReg (ESTSTR.LRN_THRU k)) h)

/-- The first condition of Table 10-4 that arises at a set with the current, the closing anchor's own test aside; 0 none. The loss of the current for over 60 s arose before the set. -/
def disqNow (s : State) (k : Nat) (i : Word) (dtUs : Nat) : Nat :=
  let p := s.strProf k
  let q := s.qNom p
  let hot := (s.estOf k).cells.any (fun c => c.part &&
    (c.tUsed.toInt < signedOf 16 (s.getF (ESTPROF.LEARN0_LT_MIN p)) || signedOf 16 (s.getF (ESTPROF.LEARN0_LT_MAX p)) < c.tUsed.toInt))
  if 60000000 < dtUs then 5
  else if hot then 1
  else if F32.lt (F32.mul (milliOf (s.getF (ESTPROF.LEARN1_RATE_PEAK p))) q) (F32.abs i) then 3
  else if s.getB CLKPWR.VIN_MV_WARN then 4
  else if s.getB (ESTPROF.HDR0_CLASS p) = false && F32.lt (F32.mul (pctOf (s.getF (ESTPROF.LEARN4_CHG_MAX p))) q) (s.getReg (ESTSTR.LRN_CHG k)) then 6
  else 0

/-- Learning is enabled for a string (R329). -/
def learnOn (s : State) (k : Nat) : Bool := s.getB EST.EST_CFG_LEARN_EN && s.getB (ESTSTR.STR_CFG_LEARN k)

/-- A rest point that may anchor or close a cycle (R325, R326). -/
def restAnchor (s : State) (c : ClosedSet) (k : Nat) : State :=
  let p := s.strProf k
  let e := s.estOf k
  let running : Bool := s.getF (ESTSTR.LRN_STAT_STATE k) = 1
  if s.getB (ESTPROF.HDR0_CLASS p) then
    let meas (x : CellSt) (z : Word) : Bool :=
      let d := F32.sub (F32.ofQ false x.anchor.toNat 65535) z
      let ah := s.getReg (ESTSTR.LRN_AH k)
      F32.le (pctOf (s.getF (ESTPROF.LEARN3_DSOC_MIN p))) (F32.abs d) && ((F32.lt 0 d && F32.lt 0 ah) || (F32.lt d 0 && F32.lt ah 0))
    if !running then s.anchorNow c k
    else if ((List.range e.cells.length).zip e.cells).any (fun (x : Nat × CellSt) => match s.cellZ c k x.1 x.2 with
        | some z => x.2.part && meas x.2 z
        | none => false) then
      if s.rateAvgBad k then s.learnDisq k 2 else (s.learnCells c k meas).anchorNow c k
    else s
  else
    let full : Bool := F32.lt e.restI 0 && F32.lt (F32.abs e.restI) (F32.mul (milliOf (s.getF (ESTPROF.LEARN4_TAPER p))) (s.qNom p))
    let part := ((List.range e.cells.length).zip e.cells).filter (fun (x : Nat × CellSt) => x.2.part)
    let empty : Bool := part ≠ [] && part.all (fun x => match s.cellZ c k x.1 x.2 with
      | some z => F32.le z (pctOf (s.getF (ESTPROF.LEARN3_EMPTY_SOC p)))
      | none => false)
    if full then s.anchorNow c k
    else if running && empty then
      if s.rateAvgBad k then s.learnDisq k 2
      else (s.learnCells c k (fun _ _ => true)).setF (ESTSTR.LRN_STAT_STATE k) 0
    else s

/-- Learning of a string at a set (R324 to R329); a standby's is suspended (R453). -/
def learnStep (s : State) (c : ClosedSet) (k : Nat) (x : StrNow) : State :=
  if !s.isActive then s.setF (ESTSTR.LRN_STAT_STATE k) 2
  else
    let s := if s.getF (ESTSTR.LRN_STAT_STATE k) = 2 then s.setF (ESTSTR.LRN_STAT_STATE k) 0 else s
    if s.learnOn k = false then s.learnDisq k 8
    else if x.row = 1 then
      (match (s.estOf k).lastUs with
       | some u => if 60000000 < c.atUs - u then s.learnDisq k 5 else s
       | none => s)
    else
      let d := if s.getF (ESTSTR.LRN_STAT_STATE k) = 1 then s.disqNow k x.i x.dtUs else 0
      if d ≠ 0 then s.learnDisq k d
      else if s.getBit EST.UNANCH k then s
      else if x.reached then s.restAnchor c k
      else if (s.estOf k).anchorRest then s.anchorNow c k
      else s

/-- T_est of a cell in 0.01 °C, and whether it comes from T_INT (R323). -/
def tEst (s : State) (c : CellSt) : Int × Bool :=
  if c.flag cfT_INT_VALID && decide (s.opsec - c.tIntAt.toNat < s.getF EST.TINT_TINT_AGE) then (c.tInt.toInt, true) else (c.tUsed.toInt, false)

/-- E_dis or E_chg (R322): `a` the usable charge, on the side of `dis`. -/
def energy (s : State) (k : Nat) (a : Word) (dis : Bool) : Word :=
  let p := s.strProf k
  let v := F32.sum ((s.initCells k).map (fun x =>
    let h := F32.div a (F32.mul 0x40000000 x.2.q)
    s.ocv p (if dis then F32.sub x.2.soc h else F32.add x.2.soc h) x.2.tUsed.toInt))
  F32.div (F32.mul a v) (F32.ofNat 1000)

/-- A limit flag with its hysteresis (R321). -/
def limitFlag (s : State) (old : Bool) (least q : Word) : Bool :=
  if F32.le least 0 then true
  else if F32.lt (F32.mul (pctOf (s.getF EST.LIMIT_EOX_HYST)) q) least then false
  else old

/-- The string outputs of a set (R304, R320 to R323), which show from the next boundary on. -/
def estOutputs (s : State) (c : ClosedSet) (k : Nat) (x : StrNow) : State :=
  let stat := s.soon (ESTSTR.RES_STAT k)
  if x.row = 0 then s
  else
    let s := if x.row = 2 then s.unanchCheck k else s
    let s := s.learnStep c k x
    let n := (s.estOf k).cells.length
    let l := s.initCells k
    let base := withBits (withBits stat 16 16 n) 4 1 (s.getBit EST.UNANCH k).toNat
    if x.row = 1 then s.later [(ESTSTR.SSN k, c.ssn), (ESTSTR.RES_STAT k, withBits base 0 1 0)]
    else if l = [] then s.later [(ESTSTR.SSN k, c.ssn), (ESTSTR.RES_STAT k, withBits base 0 1 (c.causes.getD k 1 == 0).toNat)]
    else
      let p := s.strProf k
      let socs := l.map (fun y => (y.1, y.2.soc))
      let lo := leastOf F32.lt socs
      let hi := leastOf (fun a b => F32.lt b a) socs
      let mean := F32.div (F32.sum (socs.map (·.2))) (F32.ofNat socs.length)
      let sig := (l.map (fun y => y.2.sigma)).foldl F32.max 0
      let q := (leastOf F32.lt (l.map (fun y => (y.1, y.2.q)))).2
      let er := pctOf (s.getF (ESTPROF.RESERVE_EMPTY_RES p))
      let fr := pctOf (s.getF (ESTPROF.RESERVE_FULL_RES p))
      let minA := (leastOf F32.lt (l.map (fun y => (y.1, F32.mul (F32.sub y.2.soc er) y.2.q)))).2
      let minH := (leastOf F32.lt (l.map (fun y => (y.1, F32.mul (F32.sub (F32.sub 0x3F800000 fr) y.2.soc) y.2.q)))).2
      let ad := F32.max 0 minA
      let ac := F32.max 0 minH
      let eod := s.limitFlag (stat.getLsbD 2) minA q
      let eoc := s.limitFlag (stat.getLsbD 3) minH q
      let hot := l.foldl (fun (m : Nat × Int × Bool) y => let t := s.tEst y.2; if m.2.1 < t.1 then (y.1, t.1, t.2) else m)
        (match l with
         | y :: _ => (y.1, (s.tEst y.2).1, (s.tEst y.2).2)
         | [] => (0, 0, false))
      let st := withBits (withBits (withBits (withBits base 0 1 (c.causes.getD k 1 == 0).toNat) 1 1 hot.2.2.toNat) 2 1 eod.toNat) 3 1 eoc.toNat
      let s := s.later [(ESTSTR.SSN k, c.ssn), (ESTSTR.RES_STAT k, st), (ESTSTR.SOC_MIN k, lo.2), (ESTSTR.SOC_MAX k, hi.2), (ESTSTR.SOC_MEAN k, mean),
        (ESTSTR.SIGMA_MAX k, sig), (ESTSTR.Q k, q), (ESTSTR.A_DIS k, ad), (ESTSTR.A_CHG k, ac), (ESTSTR.E_DIS k, s.energy k ad true),
        (ESTSTR.E_CHG k, s.energy k ac false), (ESTSTR.T_HOT k, F32.ofQ (hot.2.1 < 0) hot.2.1.natAbs 100),
        (ESTSTR.MINMAX k, BitVec.ofNat 32 (65536 * hi.1 + lo.1)), (ESTSTR.HOT_CELL k, BitVec.ofNat 32 hot.1)]
      let s := if eod ≠ stat.getLsbD 2 then s.raise 197 [k, 0] else s
      if eoc ≠ stat.getLsbD 3 then s.raise 197 [k, 1] else s

/-- h_k of R257 at a temperature. -/
def weightTemp (s : State) (t : Word) : Word :=
  let a := s.getReg ALLOC.T_W_START
  let b := s.getReg ALLOC.T_W_END
  let g := s.getReg ALLOC.G_MIN
  if F32.le t a then 0x3F800000
  else if F32.le b t then g
  else F32.add 0x3F800000 (F32.mul (F32.div (F32.sub t a) (F32.sub b a)) (F32.sub g 0x3F800000))

/-- The weight pairs delivered from a set (R21, R257, R313). -/
def deliverWeights (s : State) (c : ClosedSet) : State :=
  let ok := (List.range 24).filter (fun k => c.gate.getD k false && (s.soon (ESTSTR.RES_STAT k)).getLsbD 0 && s.soon (ESTSTR.SSN k) == c.ssn)
  let n := F32.ofNat ok.length
  let mean (f : Nat → Nat) : Word := F32.div (F32.sum (ok.map (fun k => s.soon (f k)))) n
  let mq := mean ESTSTR.Q
  let mlo := mean ESTSTR.SOC_MIN
  let mhi := mean ESTSTR.SOC_MAX
  let ks := s.getReg ALLOC.K_SOC
  let cl (w : Word) : Word := F32.min (s.getReg ALLOC.S_MAX) (F32.max (s.getReg ALLOC.S_MIN) w)
  let good (w : Word) : Bool := F32.isFinite w && !F32.lt w 0
  ok.foldl (fun s k =>
    let ck := F32.div (s.soon (ESTSTR.Q k)) mq
    let h := s.weightTemp (s.soon (ESTSTR.T_HOT k))
    let sd := cl (F32.add 0x3F800000 (F32.mul ks (F32.sub (s.soon (ESTSTR.SOC_MIN k)) mlo)))
    let sc := cl (F32.sub 0x3F800000 (F32.mul ks (F32.sub (s.soon (ESTSTR.SOC_MAX k)) mhi)))
    let wd := F32.mul (F32.mul ck sd) h
    let wc := F32.mul (F32.mul ck sc) h
    if good wd && good wc then s.later [(ESTSTR.WDIS k, wd), (ESTSTR.WCHG k, wc), (ALLOC.WDIS k, wd), (ALLOC.WCHG k, wc)]
    else s.raise 193 [k, 0xFF, 0xFF]) (s.later [(ALLOC.WSSN, c.ssn)])

/-- The ESTWIN blocks of the selected module for the latest processed set (R346). -/
def winRegs (s : State) : List (Nat × Word) :=
  let k := s.getF ESTWIN.WIN_SEL_STRING
  let m := s.getF ESTWIN.WIN_SEL_MODULE
  let fq := s.getF ESTWIN.WIN_SEL_FREQ
  let e := s.estOf k
  let p := s.strProf k
  let n := s.getF (YPORT.PORT_CFG_CELLS k)
  let cs := ((List.range e.cells.length).zip e.cells).filter (fun (x : Nat × CellSt) => s.cellAddr k x.1 = m) |>.map (·.2)
  let mask (f : CellSt → Bool) : Word := BitVec.ofNat 32 ((List.range n).map (fun i => match cs[i]? with
    | some c => if f c then 2 ^ i else 0
    | none => 0)).sum
  let sel := s.getReg ESTWIN.WIN_SEL
  let ssn := s.getReg EST.SSN_DONE
  let at_ (f : CellSt → Word) (d : Word) (i : Nat) : Word := match cs[i]? with
    | some c => f c
    | none => d
  let w := lookupKey m e.wins
  let z (i : Nat) : Word × Word := match w with
    | some r => (r.z.getD i []).getD fq (0, 0)
    | none => (0, 0)
  [(ESTWIN.A_SSN, ssn), (ESTWIN.A_SEL, sel), (ESTWIN.A_PRESENT, mask (·.flag cfINIT)), (ESTWIN.B_SSN, ssn), (ESTWIN.B_SEL, sel),
   (ESTWIN.B_MEAS, mask (·.flag cfMEAS)), (ESTWIN.C_SSN, (w.map (·.ssn)).getD 0),
   (ESTWIN.C_INFO, BitVec.ofNat 32 (if w.isSome then k * 2 ^ 24 + m * 2 ^ 16 + fq * 2 ^ 8 else 0)),
   (ESTWIN.C_T_WIN, (w.map (·.at_)).getD 0), (ESTWIN.C_I_AMP, (w.map (fun r => r.iAmp.getD fq 0)).getD 0)]
  ++ ((List.range 16).map (fun i =>
    [(ESTWIN.A_SOC i, at_ (·.soc) 0 i), (ESTWIN.A_SIGMA i, at_ (·.sigma) 0 i), (ESTWIN.A_Q i, at_ (·.q) 0 i),
     (ESTWIN.B_ROHM i, at_ (fun c => F32.mul c.rho (s.rohm p c.soc c.tUsed.toInt)) 0 i),
     (ESTWIN.B_TEMP i, at_ (fun c => c.tInt ++ c.tUsed) 0x80000000 i),
     (ESTWIN.B_HEALTH i, at_ (fun c => c.flags ++ field16 4 10000 (F32.div c.q (s.qNom p))) 0 i),
     (ESTWIN.C_ZRE i, (z i).1), (ESTWIN.C_ZIM i, (z i).2)])).flatten

/-- A set's update (Table 10-3): cells of all strings, then their outputs, then the weights. -/
def estUpdate (s : State) (c : ClosedSet) (us : Nat) : State :=
  let (s, xs) := (List.range 24).foldl (fun (a : State × List StrNow) k => let r := a.1.estCells c k; (r.1, a.2 ++ [r.2])) (s, [])
  let s := forAll 24 (fun s k => s.estOutputs c k (xs.getD k ⟨0, false, 0, 0⟩)) s
  let s := s.deliverWeights c
  let s := ((s.setReg EST.SSN_DONE c.ssn).setF EST.EST_STAT_UPD_US us).updSample (fun x => { x with closed := some { c with done := true } })
  s.later s.winRegs

end State

open State

/-- REST_REQ_REPEAT (R319). -/
def execRestReqRepeat (s : State) : Host.Outcome State Fault Refusal := s.heldRun fun s =>
  let per := 1000000 * s.getF EST.EST_CFG_REST_REQ_S
  let due := (List.range 24).filter (fun k => s.getBit EST.UNANCH k && decide (per ≤ s.dev.nowUs - (s.estOf k).restReqAt))
  if s.operating ∧ s.pgRunning pEST ∧ s.getB EST.EST_CFG_REST_REQ_EN ∧ due ≠ [] then
    .next (due.foldl (fun s k => s.updEst k (fun e => { e with restReqAt := s.dev.nowUs })) s).restRequest
  else .next s

/-- MODULE_UID_CHANGED (R334). -/
def execModuleUidChanged (p node : Nat) (uid : BitVec 64) (s : State) : Host.Outcome State Fault Refusal :=
  if s.powered ∧ s.portOn p ∧ node ≠ 0 then .next ((s.setUid p node uid.toNat).resetCells p node) else .next s

/-- A capacity record as selected data of the copies to come (R452), 88 bytes each. -/
def selRecord (s : State) (k : Nat) (p : List Byte) : State :=
  if !s.isPair then s
  else { s with pair := { s.pair with selQ := s.pair.selQ ++ (List.range 23).map (fun i =>
    ⟨1, BitVec.ofNat 8 k, BitVec.ofNat 16 (88 * i), (p.drop (88 * i)).take 88⟩) } }

/-- CAPACITY_WRITE_BACK (R331, R452). -/
def execCapacityWriteBack (k : Nat) (s : State) : Host.Outcome State Fault Refusal := s.heldRun fun s =>
  let waited : Bool := match (s.estOf k).wbAt with
    | some t => 1000000 * s.getF EST.WB_WB_MIN_S ≤ s.dev.nowUs - t
    | none => true
  if s.operating ∧ s.getB (ESTSTR.WB_STAT_PENDING k) ∧ s.nvOk ∧ waited ∧ s.getB DEV.MODE_STAT_DESCENT = false then
    let p := capPayload (s.estOf k)
    .next (selRecord ((s.updEst k (fun e => { e with wbAt := some s.dev.nowUs })).psQueue (0x0400 + k) p) k p)
  else .next s

end Sys2Proof.Machine
end

