-- ==== Sys2Proof/Machine/Survey.lean ====
section
/-! DEFINITION. The impedance survey (R335 to R340): excitation and states of each string, samples, the window's impedances, internal temperatures; the set update with the survey work that waits for it (R23). -/

namespace Sys2Proof.Machine

/-- Survey states (Table 10-6). -/
abbrev svIDLE : Nat := 0
abbrev svPREROLL : Nat := 1
abbrev svWINDOW : Nat := 2
abbrev svGAP : Nat := 3
abbrev svBLOCKED : Nat := 4

/-- Samples of a window per series. -/
abbrev svSamples : Nat := 8000

/-- A series of 8 000 values with its missing ones filled from the sample before, or for sample 0 from the next (R337); none where it has no sample. -/
def fillSeries (l : List (Option Word)) : Option (List Word) :=
  match l.filterMap id with
  | [] => none
  | a :: _ => some ((l.foldl (fun (acc : Word × List Word) x => let v := x.getD acc.1; (v, v :: acc.2)) (a, [])).2.reverse)

/-- Σ x[n]·exp(−j·2π·F·n / 8000) as real and imaginary part (R337); each angle is in exact turns. -/
def dft (f : Nat) (xs : List Word) : Word × Word :=
  ((List.range xs.length).zip xs).foldl (fun (a : Word × Word) (x : Nat × Word) =>
    let n := f * x.1 % svSamples
    (F32.add a.1 (F32.mul x.2 (F32.cosTurns n svSamples)), F32.sub a.2 (F32.mul x.2 (F32.sinTurns n svSamples)))) (0, 0)

def cxAbs (a : Word × Word) : Word := F32.sqrt (F32.add (F32.mul a.1 a.1) (F32.mul a.2 a.2))

/-- −v / i (R337). -/
def cxNegDiv (v i : Word × Word) : Word × Word :=
  let d := F32.add (F32.mul i.1 i.1) (F32.mul i.2 i.2)
  (F32.neg (F32.div (F32.add (F32.mul v.1 i.1) (F32.mul v.2 i.2)) d), F32.neg (F32.div (F32.sub (F32.mul v.2 i.1) (F32.mul v.1 i.2)) d))

/-- A resistance in µΩ as a 16-bit field. -/
def microOf (r : Word) : Half := field16 3 1000000 r

namespace State

/-- A string is blocked (R336); a window that is open when SURVEY is to stop runs to its end (Table 2-12). A standby follows the windows of the active controller (R340): it looks at its own pages and mask only. -/
def svBlocked (s : State) (k : Nat) : Bool :=
  let q := s.qNom (s.strProf k)
  let lim := F32.mul (F32.ofQ false (s.getF SURVEY.SV_IMAX_I) 100) q
  let runs : Bool := s.pgRunning pSURVEY || (s.pgState pSURVEY == psSTOPPING && s.getF (SURVEY.SV_STR_STATE k) == svWINDOW)
  let pages : Bool := s.pgRunning pEST && s.pgRunning (pESTSTR k) && runs && s.getBit SURVEY.SV_MASK k
  if s.isPair && !s.isActive then !pages
  else !pages || s.gateOf k ≠ gateOne || s.getB (ESTSTR.RES_STAT_EOD k) || s.getB (ESTSTR.RES_STAT_EOC k)
    || F32.lt lim (F32.abs (s.estOf k).iPrev) || (s.mode ≠ mRUN && s.mode ≠ mDEGRADED) || s.inhibit || !s.isActive || 2 ≤ (s.estOf k).noEst

/-- The next module that does survey sampling, in address order (R336). -/
def svNext (s : State) (k m : Nat) : Option Nat :=
  (List.range 32).find? (fun a => m < a && (s.prt k).caps.getD a false)

/-- The module after those that the pass has reached: the next in address order, then those to be retried (R336, R338). -/
def svAfter (s : State) (k : Nat) : Option Nat :=
  match s.svNext k (s.estOf k).passAt with
  | some a => some a
  | none => (s.estOf k).retry.head?

/-- The tag of the first set whose instant lies at or after `t` (Table 10-6), and that instant. -/
def tagAfter (s : State) (t : Nat) : Nat × Nat :=
  let per := max 1 (1000 * s.getF SAMPLE.SET_CFG_PERIOD)
  let first := s.sample.nextUs.getD t
  let n := if t ≤ first then 0 else (t - first + per - 1) / per
  (((nextSsn s.sample.ssn).toNat + n) % 256, first + n * per)

/-- SURVEY_CFG to the module and to node 0, for the first instant at or after `t` (Table 10-6, R148); a standby sends nothing. -/
def svArm (s : State) (k m t : Nat) : State :=
  let g := s.tagAfter t
  let w := writePl 0x02C [g.1 * 256 + 1]
  let s := s.updEst k (fun e => { e with armed := some (m, g.2) })
  if s.isActive then (s.ask k .survey m ftWRITE w).ask k .survey 0 ftWRITE w else s

/-- The excitation of a string ends: it ramps out, or is gone at once where ENABLE is 0. -/
def svQuiet (s : State) (k : Nat) : State :=
  match s.shelf.exc.getD k none with
  | some (t0, none) => s.updShelf (fun x => { x with exc := x.exc.set k (if x.en.getD k false then some (t0, some s.dev.nowUs) else none) })
  | _ => s

/-- A discarded window (R338). -/
def svDiscard (s : State) (k reason : Nat) : State :=
  let m := s.getF (SURVEY.SV_STR_MODULE k)
  let s := ((s.incSat (SURVEY.SV_STR_DISCARDS k)).setF SURVEY.SV_LAST_STRING k).setF SURVEY.SV_LAST_REASON reason
  s.raise 199 [k, m, reason]

/-- The series of cell `c` of the open window, in V, and of the current; a value that is not available is missing (R337). -/
def svCell (s : State) (k c : Nat) : List (Option Word) :=
  let w := ((s.estOf k).win.filter (fun x => x.current.isNone))
  (List.range svSamples).map (fun n => ((w.find? (fun x => x.idx = n)).bind (fun x => x.cells[c]?)).bind (fun v =>
    if v = 0xFFFF then none else some (voltsOf v)))
def svCurrent (s : State) (k : Nat) : List (Option Word) :=
  let w := ((s.estOf k).win.filter (fun x => x.current.isSome))
  (List.range svSamples).map (fun n => (w.find? (fun x => x.idx = n)).bind (fun x => x.current))

/-- Frequencies in 0.25 Hz, which are the cycles of a window. -/
def svFreqs (s : State) : List Nat := (List.range 4).map (fun i => s.getF (SURVEY.FREQ_F i))

/-- The first reason of R338 for which the window is discarded; 0 none. A module of which no sample came has not opened its window. -/
def svReason (s : State) (k : Nat) : Nat :=
  let e := s.estOf k
  let cells := s.getF (YPORT.PORT_CFG_CELLS k)
  let series := s.svCurrent k :: (List.range cells).map (s.svCell k)
  let miss := series.any (fun l => s.getF SURVEY.SV_CFG_MISS_MAX < (l.filter (fun (x : Option Word) => x.isNone)).length)
  let cur := (fillSeries (s.svCurrent k)).getD []
  let weak := (List.range 4).any (fun i =>
    let need := F32.mul (F32.mul (F32.ofNat 2000) (F32.ofQ false (s.getF (SURVEY.FREQ_AMP i)) 100000)) (s.getReg SURVEY.I_RATED)
    F32.lt (cxAbs (dft (s.svFreqs.getD i 0) cur)) need)
  if e.win.all (fun x => x.current.isSome) then 5
  else if miss then 1
  else if weak then 2
  else if e.clamped then 3
  else if e.disturbed then 4
  else 0

/-- One cell after a valid window with Re Z at the temperature frequency (R339). -/
def svCellDone (s : State) (k : Nat) (ref : Bool) (z : Word) (c : CellSt) : CellSt :=
  let p := s.strProf k
  let zre := microOf z
  let base := F32.div (F32.ofNat zre.toNat) (s.ztRatio p c.tUsed.toInt)
  let zref := F32.ofNat c.zref.toNat
  let c := { c with zre := zre }
  let c := if ref then
      { c with zref := field16 3 1 (if c.zref = 0 then base else lerp zref base 0x3E800000) }
    else c
  if c.zref = 0 then c
  else
    { c with tInt := BitVec.ofInt 16 (s.ztTemp p (F32.div (F32.ofNat zre.toNat) (F32.ofNat c.zref.toNat))), tIntAt := BitVec.ofNat 32 s.opsec }.setFlag cfT_INT_VALID true

/-- FS_EST_TINT_HOT at a valid window (R340). -/
def svHot (s : State) (k : Nat) : State :=
  let lim := signedOf 16 (s.getF EST.TINT_TINT_HOT)
  let ts := ((s.estOf k).cells.filter (fun c => c.flag cfT_INT_VALID)).map (fun c => c.tInt.toInt)
  let was := (s.estOf k).hot
  if was = false ∧ ts.any (fun t => lim < t) then (s.updEst k (fun e => { e with hot := true })).raiseL 200 []
  else if was ∧ ts.all (fun t => t ≤ lim - 200) then
    let s := s.updEst k (fun e => { e with hot := false })
    if s.est.any (fun (e : EstStr) => e.hot) then s else s.endL 200
  else s

/-- A valid window is stored (R339). -/
def svStore (s : State) (k : Nat) : State :=
  let m := s.getF (SURVEY.SV_STR_MODULE k)
  let n := s.getF (YPORT.PORT_CFG_CELLS k)
  let cur := (fillSeries (s.svCurrent k)).getD []
  let is := s.svFreqs.map (fun f => dft f cur)
  let z : List (List (Word × Word)) := (List.range n).map (fun c =>
    let v := (fillSeries (s.svCell k c)).getD []
    (s.svFreqs.zip is).map (fun x => cxNegDiv (dft x.1 v) x.2))
  let r : WinRes := ⟨s.getReg EST.SSN_DONE, BitVec.ofNat 32 s.opsec, is.map (fun i => F32.div (F32.mul 0x40000000 (cxAbs i)) (F32.ofNat svSamples)), z⟩
  let ref := (s.estOf k).steady && !(s.estOf k).winBigI
  let ti := s.getF SURVEY.SV_CFG_TEMP_IDX
  let idx := (List.range (s.estOf k).cells.length).filter (fun j => s.cellAddr k j = m)
  let one (j : Nat) (c : CellSt) : CellSt :=
    match idx.findIdx? (· = j) with
    | some i => s.svCellDone k ref (((z.getD i []).getD ti (0, 0)).1) c
    | none => c
  let s := s.updEst k (fun e => { e with
    cells := (List.range e.cells.length).zipWith one e.cells, wins := insertKey m r (eraseKey m e.wins) })
  (s.incSat (SURVEY.SV_STR_WINDOWS k)).svHot k

/-- No window is open or armed, and none of its work waits. -/
def svReset (s : State) (k : Nat) : State :=
  s.updEst k (fun e => { e with win := [], staged := [], opened := false, armed := none, batchDue := false, endDue := false })

/-- A string is IDLE and its excitation ends, where SURVEY has stopped (Table 2-12). -/
def svIdle (s : State) (k : Nat) : State :=
  (((s.setF (SURVEY.SV_STR_STATE k) svIDLE).setF (SURVEY.SV_STR_MODULE k) 0).svQuiet k).svReset k

/-- SURVEY is stopped. -/
def svStop (s : State) : State := forAll 24 svIdle s

/-- The window of module `m` is the next, at the instant `t`: in address order, or as a retry. -/
def svGoTo (s : State) (k m t : Nat) : State :=
  (s.setF (SURVEY.SV_STR_MODULE k) m).updEst k (fun e => { e with
    openAt := t, armed := none, passAt := max e.passAt m, retry := if e.passAt < m then e.retry else e.retry.filter (· ≠ m) })

/-- The pass goes on: the module that is armed, else the one that comes next, else the pass is complete (Table 10-6). -/
def svAdvance (s : State) (k : Nat) : State :=
  let s := s.updEst k (fun e => { e with win := [], opened := false })
  if !s.pgRunning pSURVEY then s.svIdle k
  else
    let s := match (s.estOf k).armed, s.svAfter k with
      | none, some a => s.svArm k a s.dev.nowUs
      | _, _ => s
    match (s.estOf k).armed with
    | some (a, t) => s.svGoTo k a t
    | none =>
      let s := (s.setF (SURVEY.SV_STR_STATE k) svGAP).setF (SURVEY.SV_STR_MODULE k) 0
      (s.svQuiet k).updEst k (fun e => { e with staged := [], gapUntil := s.dev.nowUs + 1000000 * s.getF SURVEY.SV_CFG_GAP_S })

/-- The sensors of module `m` changed by less than 0.5 °C over the 10 min before now (R339): each of them has been read, and the readings reach back that far. -/
def sensorsSteady (s : State) (k m : Nat) : Bool :=
  let l := (s.estOf k).temps
  let now := s.dev.nowUs
  match (List.range (s.prt k).found).find? (fun i => s.moduleAddr k i = m), l.getLast? with
  | some i, some old =>
    decide (old.1 + minUs 10 ≤ now) && (List.range (s.getF (YPORT.PORT_CFG_TEMPS k))).all (fun t =>
      match l.filterMap (fun x => (x.2.getD i []).getD t none) with
      | [] => false
      | a :: r => r.foldl max a - r.foldl min a < 50)
  | _, _ => false

/-- A window opens (Table 10-6): what it watches starts anew, and the next module is armed for its end. -/
def svOpen (s : State) (k : Nat) : State :=
  let m := s.getF (SURVEY.SV_STR_MODULE k)
  let s := (s.setF (SURVEY.SV_STR_STATE k) svWINDOW).updEst k (fun e => { e with
    opened := true, winBigI := false, clamped := false, disturbed := false, steady := s.sensorsSteady k m, winGate := s.gateOf k })
  match s.svAfter k with
  | some a => s.svArm k a ((s.estOf k).openAt + 4000000)
  | none => s

/-- One survey batch of a string (R337): staged samples of its module and of node 0 join the window, which the first of them opens; those of the armed module and of its current wait. -/
def svBatch (s : State) (k : Nat) : State :=
  let s := s.updEst k (fun e => { e with batchDue := false })
  let m := s.getF (SURVEY.SV_STR_MODULE k)
  let e := s.estOf k
  let have_ (x : SurveySample) : Bool := e.win.any (fun y => y.node == x.node && y.idx == x.idx)
  let (now, rest) := e.staged.partition (fun x => (x.node == m || x.node == 0) && !have_ x)
  let keep := rest.filter (fun x => x.node == 0 || x.node == m || (e.armed.map (·.1)) == some x.node)
  if now = [] then s
  else
    let s := s.updEst k (fun e => { e with win := e.win ++ now, staged := keep })
    if e.opened then s else s.svOpen k

/-- The end of a window (R338, R339): it is stored, or discarded and its module retried in the same pass; then the pass goes on. -/
def svEnd (s : State) (k : Nat) : State :=
  let s := (s.setF (SURVEY.SV_STR_STATE k) svWINDOW).updEst k (fun e => { e with endDue := false })
  let r := s.svReason k
  if r = 0 then (s.svStore k).svAdvance k
  else
    let m := s.getF (SURVEY.SV_STR_MODULE k)
    ((s.svDiscard k r).updEst k (fun e => { e with retry := e.retry ++ [m] })).svAdvance k

/-- A sample set waits for the estimator, which takes it first (R23). -/
def setWaits (s : State) : Bool := match s.sample.closed with
  | some c => c.gathered && !c.done && s.pgRunning pEST
  | none => false

/-- The estimator has no set to process and the MPU runs: survey work is done at once (R12, R23). -/
def svFree (s : State) : Bool := s.mpuRuns && !s.setWaits

/-- The survey work that waited for a set (R23). -/
def svPending (s : State) : State :=
  forAll 24 (fun s k =>
    let s := if (s.estOf k).batchDue then s.svBatch k else s
    if (s.estOf k).endDue then s.svEnd k else s) s

/-- A survey sample in entry `e` of port `n`'s frame ring (Table 4-7, R186). -/
def ringSample (s : State) (n e : Nat) : SurveySample :=
  let a := ringAt n e + 8
  let node := s.readLe a 1 % 32
  let idx := s.readLe (a + 4) 2
  if node = 0 then ⟨0, idx, [], some (BitVec.ofNat 32 (s.readLe (a + 8) 4))⟩
  else ⟨node, idx, (List.range (min 16 (s.getF (YPORT.PORT_CFG_CELLS n)))).map (fun i => BitVec.ofNat 16 (s.readLe (a + 6 + 2 * i) 2)), none⟩

/-- Channel 3 moves the survey samples of a port's frame ring to the staging area, oldest first (R337); those of a string without a survey are dropped. -/
def svStage (s : State) (n : Nat) : State :=
  let es := ((List.range 24).map (fun i => ((s.prt n).rxNext + i) % 24)).filter (s.ringValid n)
  if es = [] then s
  else
    let st := s.getF (SURVEY.SV_STR_STATE n)
    let xs := (es.map (s.ringSample n)).filter (fun x => x.idx < svSamples && (st == svPREROLL || st == svWINDOW))
    (es.foldl (fun s e => s.ringClear n e) s).updEst n (fun x => { x with staged := x.staged ++ xs })

/-- What a window watches in every cycle (R338): a clamped setpoint; a live cornice, a shelf hold of the active slot, a change of the gate. -/
def svWatch (s : State) (k : Nat) : State :=
  if (s.estOf k).opened then
    let g := s.gateOf k
    let bad : Bool := s.cnLive || (s.shelf.hold.getD s.actSlot (0, 0)).1 ≠ 0
    s.updEst k (fun e => { e with
      clamped := e.clamped || s.shelf.clamped.getD k false, disturbed := e.disturbed || bad || g ≠ e.winGate, winGate := g })
  else s

/-- The survey's part of a cycle: channel 3 runs while firmware does and the channel is usable (R202). -/
def svCycle (s : State) : State :=
  let s := if s.mpuRuns && s.dmUsable 3 then forAll 24 svStage s else s
  forAll 24 svWatch s

/-- The start check of SURVEY (R335). -/
def svStartOk (s : State) : Bool :=
  let fs := s.svFreqs
  let amp := ((List.range 4).map (fun i => s.getF (SURVEY.FREQ_AMP i))).sum
  let r := s.getReg SURVEY.I_RATED
  amp ≤ 2000 && fs.all (fun f => 2 ≤ f && f ≤ 2000) && fs.eraseDups.length = 4 && F32.isFinite r && F32.lt 0 r

end State

open State

/-- ESTIMATOR_SET_UPDATE (R304, R314): the gathered set is processed while the MPU does not restart, and survey work that waited follows (R23). While EST does not run, the set leaves every string without a valid estimate (Table 10-1). -/
def execEstimatorSetUpdate (us : Half) (s : State) : Host.Outcome State Fault Refusal := s.heldRun fun s =>
  match s.sample.closed with
  | some c =>
    if s.operating ∧ c.gathered ∧ c.done = false ∧ s.mpuRuns then
      if s.pgRunning pEST then .next (s.estUpdate c us.toNat).svPending
      else .next ((forAll 24 (fun s k => (s.estCells c k).1) s).updSample (fun x => { x with closed := some { c with done := true } }))
    else .next s
  | none => .next s

/-- SURVEY_PREROLL_START (Table 10-6): X_k starts; from BLOCKED the discarded module comes again. -/
def execSurveyPrerollStart (k : Nat) (s : State) : Host.Outcome State Fault Refusal := s.heldRun fun s =>
  let st := s.getF (SURVEY.SV_STR_STATE k)
  let m := s.getF (SURVEY.SV_STR_MODULE k)
  let first := if st = svBLOCKED ∧ m ≠ 0 then some m else s.svNext k 0
  match first with
  | some a =>
    if s.operating ∧ (st = svIDLE ∨ st = svBLOCKED) ∧ s.svBlocked k = false then
      let s := (s.setF (SURVEY.SV_STR_STATE k) svPREROLL).svReset k
      let s := if st = svIDLE then s.updEst k (fun e => { e with passAt := 0, retry := [] }) else s
      let s := if s.isActive then s.updShelf (fun x => { x with exc := x.exc.set k (some (s.dev.nowUs, none)) }) else s
      let t := s.dev.nowUs + 1000 * s.getF SURVEY.PREROLL_MS
      .next ((s.svArm k a t).svGoTo k a (s.tagAfter t).2)
    else .next s
  | none => .next s

/-- SURVEY_BATCH (R337): the staged samples of a string are processed, after a set that waits (R23) and after an MPU restart (R12). No window opens once SURVEY is to stop. -/
def execSurveyBatch (k : Nat) (s : State) : Host.Outcome State Fault Refusal := s.heldRun fun s =>
  let st := s.getF (SURVEY.SV_STR_STATE k)
  if s.operating ∧ s.pgRunning pEST ∧ ((st = svPREROLL ∧ s.pgRunning pSURVEY) ∨ st = svWINDOW) then
    if s.svFree then
      let s := s.svBatch k
      .next (if (s.estOf k).endDue then s.svEnd k else s)
    else .next (s.updEst k (fun e => { e with batchDue := true }))
  else .next s

/-- SURVEY_WINDOW_END (R338, R339), 4 s after the window's instant: stored or discarded; then the next module, or the gap. It waits for a set (R23) and for the end of an MPU restart (R12). -/
def execSurveyWindowEnd (k : Nat) (s : State) : Host.Outcome State Fault Refusal := s.heldRun fun s =>
  let st := s.getF (SURVEY.SV_STR_STATE k)
  if s.operating ∧ s.pgRunning pEST ∧ (st = svWINDOW ∨ st = svPREROLL) ∧ (s.estOf k).openAt + 4000000 ≤ s.dev.nowUs then
    if s.svFree then .next (s.svEnd k) else .next (s.updEst k (fun e => { e with endDue := true }))
  else .next s

/-- SURVEY_BLOCKED (Table 10-6). -/
def execSurveyBlocked (k : Nat) (s : State) : Host.Outcome State Fault Refusal := s.heldRun fun s =>
  let st := s.getF (SURVEY.SV_STR_STATE k)
  if s.powered ∧ (st = svPREROLL ∨ st = svWINDOW) ∧ s.svBlocked k then
    .next ((((s.setF (SURVEY.SV_STR_STATE k) svBLOCKED).svQuiet k).svDiscard k 6).svReset k)
  else .next s

/-- SURVEY_GAP_END (Table 10-6). -/
def execSurveyGapEnd (k : Nat) (s : State) : Host.Outcome State Fault Refusal :=
  if s.powered ∧ s.getF (SURVEY.SV_STR_STATE k) = svGAP ∧ (s.estOf k).gapUntil ≤ s.dev.nowUs then
    .next (s.setF (SURVEY.SV_STR_STATE k) svIDLE)
  else .next s

end Sys2Proof.Machine
end

