-- ==== Sys2Proof/Machine/Sched.lean ====
section
/-! DEFINITION. The lane schedule (R221 to R227): placement of rail slots and gap work on the four lanes, its checks, the shadow store and the swap. The spec gives the checks and leaves the placement to firmware: rails go to the first lane that holds them, each primary of slots 0 to 31 and each second copy to the lane where the lane's work then ends first, other gap work to the lane with the least fixed load that takes it (log entry 68). -/

namespace Sys2Proof.Machine

/-- A fixed window in ps: its rail, timebase (0 common, 1 + r its own), period and start of the window within it. -/
structure LaneWin where
  rail : Nat
  base : Nat
  period : Nat
  start : Nat
  deriving DecidableEq, Repr

/-- Length of an evaluation in ps. -/
abbrev evalPs : Nat := 160000

/-- Two windows may share a lane (R221). -/
def winFits (a b : LaneWin) : Bool :=
  let p := min a.period b.period
  let x := a.start % p
  let y := b.start % p
  let d := if x ≤ y then y - x else y + p - x
  a.base = b.base && a.period % p = 0 && b.period % p = 0 && evalPs ≤ d && evalPs ≤ p - d

/-- Place a window on the first lane that takes it. -/
def placeWin (w : LaneWin) : List (List LaneWin) → Option (List (List LaneWin))
  | [] => none
  | l :: ls => if l.all (winFits w) then some ((l ++ [w]) :: ls) else (placeWin w ls).map (l :: ·)

/-- Insert a number in rising order. -/
def insertNat (a : Nat) : List Nat → List Nat
  | [] => [a]
  | b :: l => if a ≤ b then a :: b :: l else b :: insertNat a l

/-- The gaps of a lane with windows over its common period: the evaluations that each takes (R222) and its time in ps from its start to the start of the next. -/
def laneGaps (l : List LaneWin) : List (Nat × Nat) :=
  let p := l.foldl (fun m w => max m w.period) 0
  let st := (l.map (fun w => (List.range (p / max 1 w.period)).map (fun k => w.start % max 1 w.period + k * w.period))).flatten
  let st := st.foldl (fun acc x => insertNat x acc) []
  (st.zip (st.drop 1 ++ [st.headD 0 + p])).map (fun x => ((x.2 - x.1 - evalPs) / evalPs, x.2 - x.1))

/-- Time in ps from the start of the first gap to the end of the `n`th evaluation, over gaps that come again and again. -/
def gapsRun : Nat → List (Nat × Nat) → List (Nat × Nat) → Nat → Nat
  | 0, _, _, _ => 0
  | f + 1, all, [], n => if all = [] then 0 else gapsRun f all all n
  | f + 1, all, (k, d) :: l, n => if n ≤ k then n * evalPs else d + gapsRun f all l (n - k)

/-- The list from its `i`th element on, then the elements before it. -/
def turned (l : List (Nat × Nat)) (i : Nat) : List (Nat × Nat) := l.drop i ++ l.take i

/-- Worst completion in ps after the boundary of `n` evaluations that are released 0.4 µs after it (R223, R226): another evaluation, where the lane has any of lower priority, or the last one that a gap takes, has just begun at the release; none where no gap takes an evaluation. -/
def laneWorst (l : List LaneWin) (n : Nat) (low : Bool) : Option Nat :=
  if n = 0 then some 0
  else if l = [] then some (400000 + (if low then evalPs else 0) + n * evalPs)
  else
    let g := laneGaps l
    if g.all (fun x => x.1 = 0) then none
    else
      let ends := (List.range g.length).map (fun i =>
        let x := g.getD i (0, 0)
        if x.1 = 0 then 0
        else
          let r := turned g (i + 1)
          x.2 - evalPs * x.1 + gapsRun ((n + 1) * (g.length + 1)) r r n)
      some (400000 + ends.foldl max 0)

namespace State

/-- A page is RUNNING or about to be. -/
def pgComing (s : State) (p : Nat) : Bool := s.pgState p = psRUNNING || s.pgState p = psSTARTING

/-- A slot takes part in the schedule. -/
def slotPlanned (s : State) (i : Nat) : Bool := s.getB (VSLOT.SLOT_CFG_EN i) && s.pgComing (pVSLOT i)

/-- Shelf cycle in ps (R224). -/
def cyclePs (s : State) : Nat := 1000000 * (match s.getF VCE.TIMING_CYCLE with
  | 0 => 50
  | 1 => 100
  | _ => 200)

/-- A rail's switching period in ps at its highest frequency (R349). -/
def railPs (s : State) (r : Nat) : Nat :=
  if s.getB (RAIL.RAIL_CFG_TBSEL r) then 1000000000 / max 1 (s.getF (RAIL.RAIL_CFG_FSW_KHZ r))
  else
    let k := s.getF RSYNC.TB_CFG_TB_KHZ
    let k := if s.getB RSYNC.TB_CFG_SYNC_EN then min 2000 (k * 11 / 10) else k
    1000000000 / max 1 k * s.getF (RAIL.RAIL_CFG_DIV r)

def railWin (s : State) (r : Nat) : LaneWin :=
  let p := s.railPs r
  ⟨r, if s.getB (RAIL.RAIL_CFG_TBSEL r) then 1 + r else 0, p, (s.getF (RAIL.RAIL_CFG_SAMPLE_PH r) * p / 256 + 80000) % max 1 p⟩

end State

/-- A lane while the schedule is built: its windows, its evaluations of slots 0 to 31 and second copies, whether it has gap work of lower priority, its load in 10^-6. -/
structure LaneFill where
  wins : List LaneWin
  n : Nat
  low : Bool
  load : Nat

/-- The load of an evaluation with this period in ps, in 10^-6. -/
def loadOf (p : Nat) : Nat := evalPs * 1000000 / max 1 p

def LaneFill.worst (l : LaneFill) : Option Nat := laneWorst l.wins l.n l.low

/-- The best of the lanes but `but`, by a measure; none where no lane has one. -/
def bestLane (lanes : List LaneFill) (but : Nat) (f : LaneFill → Option Nat) : Option Nat :=
  ((List.range 4).foldl (fun (m : Option (Nat × Nat)) j =>
    if j = but then m
    else match lanes[j]?.bind f, m with
      | some x, some b => if x < b.1 then some (x, j) else m
      | some x, none => some (x, j)
      | none, _ => m) none).map Prod.snd

/-- One more evaluation of slots 0 to 31, or second copy, goes to the lane where the lane's work then ends first. -/
def placeRem (lanes : List LaneFill) (but p : Nat) : Option (Nat × List LaneFill) :=
  (bestLane lanes but (fun l => ({ l with n := l.n + 1 } : LaneFill).worst)).map (fun j =>
    (j, lanes.modify j (fun l => { l with n := l.n + 1, load := l.load + loadOf p })))

/-- Gap work of lower priority goes to the lane with gaps that has the least load of those that hold it, a lane with such work first. -/
def placeLow (lanes : List LaneFill) (p : Nat) : Option (Nat × List LaneFill) :=
  (bestLane lanes 4 (fun l => if (laneWorst l.wins 1 true).isSome ∧ l.load + loadOf p ≤ 1000000 then some (if l.low then 0 else l.load + 1) else none)).map (fun j =>
    (j, lanes.modify j (fun l => { l with low := true, load := l.load + loadOf p })))

/-- Place a list of slots, each with its period, by `f`. -/
def placeAll (f : List LaneFill → Nat → Option (Nat × List LaneFill)) : List (Nat × Nat) → List LaneFill → Option (List (Nat × Nat × Nat) × List LaneFill)
  | [], lanes => some ([], lanes)
  | (i, p) :: l, lanes =>
    match f lanes p with
    | none => none
    | some (j, lanes) => (placeAll f l lanes).map (fun r => ((i, j, 0) :: r.1, r.2))

/-- Place the paired summit slots: the primary, then its second copy on another lane (R226). -/
def placePairs : List (Nat × Nat) → List LaneFill → Option (List (Nat × Nat × Nat) × List LaneFill)
  | [], lanes => some ([], lanes)
  | (i, p) :: l, lanes =>
    match placeRem lanes 4 p with
    | none => none
    | some (j, lanes) =>
      match placeRem lanes j p with
      | none => none
      | some (k, lanes) => (placePairs l lanes).map (fun r => ((i, j, k) :: r.1, r.2))

namespace State

/-- The schedule of the present configuration (R226): its lane numbers and each lane's fixed and total load in 0.1 %; none where it is refused. -/
def schedule (s : State) : Option (List (Nat × Nat × Nat) × List (Nat × Nat)) :=
  let rails := (List.range 8).filter (fun r => s.pgComing (pRAIL r) && s.slotPlanned (32 + r))
  let fixed := rails.foldl (fun (a : Option (List (List LaneWin))) r => a.bind (placeWin (s.railWin r))) (some (List.replicate 4 []))
  let per (i : Nat) : Nat := s.cyclePs * max 1 (s.getF (VSLOT.SLOT_CFG_DIV i))
  let balPer (i : Nat) : Nat := match s.railOf (i - 40) with
    | some r => 16 * s.railPs r
    | none => 16 * 500000
  let low := (((List.range 16).map (· + 40)).filter s.slotPlanned).map (fun i => (i, balPer i))
    ++ (((List.range 8).map (· + 56)).filter s.slotPlanned).map (fun i => (i, per i))
  let paired (i : Nat) : Bool := i < 8 && s.getB (VSLOT.SLOT_CFG_PAIR i)
  let rem := (List.range 32).filter s.slotPlanned
  let dr := s.getF VCE.TIMING_SP_PHASE * 100000 - 3000000
  fixed.bind fun ws =>
    let lanes := ws.map (fun w => (⟨w, 0, false, (w.map (fun x => loadOf x.period)).sum⟩ : LaneFill))
    let local_ := lanes.map (fun l => l.load / 1000)
    (placeAll placeLow low lanes).bind fun a =>
      (placePairs ((rem.filter paired).map (fun i => (i, per i))) a.2).bind fun b =>
        (placeAll (fun l p => placeRem l 4 p) ((rem.filter (fun i => !paired i)).map (fun i => (i, per i))) b.2).bind fun c =>
          if c.2.all (fun l => l.load ≤ 1000000 && (match l.worst with
              | some t => t ≤ dr
              | none => false)) then
            let railLane (r : Nat) : Nat := ((List.range 4).find? (fun j => (ws.getD j []).any (fun w => w.rail = r))).getD 0
            some (rails.map (fun r => (32 + r, railLane r, 0)) ++ a.1 ++ b.1 ++ c.1, local_.zip (c.2.map (fun l => l.load / 1000)))
          else none

/-- The pages whose start builds a schedule (R226), and VCE (R224). -/
def schedPages : List Nat := (List.range 8).map pRAIL ++ [pPHASE, pRSYNC, pSHELF, pVCE] ++ (List.range 8).map (fun j => 0x031 + j)

/-- A page's start check fails (Table 2-9, cause 5). WREJ_OFS names PG_CTRL, whose RUN asked for the start (DEDUCED, log entry 51). -/
def startFails (s : State) (p : Nat) : State :=
  let s := ((s.setF (pgStatState p) psSTOPPED).setF (pgCtrlRun p) 0).setF (pgStatBusy p) 0
  ((s.setF (pgStatWrej p) 1).setF (pgStatWrejOfs p) 0x004).setF (pgStatWrejCause p) 5

/-- An accepted schedule goes to the shadow store (R227). -/
def schedAccept (s : State) (l : List (Nat × Nat × Nat)) (loads : List (Nat × Nat)) : State :=
  let s := { s with vce := { s.vce with shadow := l } }
  let s := ((s.setF VCE.SCHED_STAT_PENDING 1).incSat VCE.SCHED_STAT_REBUILDS).setF VCE.REMOTE_END_DEADLINE (s.getF VCE.TIMING_SP_PHASE * 10 - 300)
  forAll 4 (fun s j => ((s.setF (VCE.LANE_LOAD_LOCAL j) (loads.getD j (0, 0)).1).setF (VCE.LANE_LOAD_TOTAL j) (loads.getD j (0, 0)).2).countChg pVCE) s

/-- The swap at a shelf-cycle boundary (R227). -/
def schedSwap (s : State) : State :=
  let s := s.vce.shadow.foldl (fun s x => (s.setF (VSLOT.SLOT_STAT_LANE x.1) x.2.1).setF (VSLOT.SLOT_STAT_LANE2 x.1) x.2.2) s
  ({ s with vce := { s.vce with shadow := [] } }.setF VCE.SCHED_STAT_PENDING 0).setF VCE.SCHED_STAT_VALID 1

end State

open State

/-- SCHEDULE_BUILD (R226): an accepted schedule waits in the shadow store; a refused one fails the start check of the pages that are STARTING, and the schedule in force stays. -/
def execScheduleBuild (s : State) : Host.Outcome State Fault Refusal :=
  if !s.powered then .next s
  else match s.schedule with
    | some (l, loads) => .next (s.schedAccept l loads)
    | none => .next ((schedPages.filter (fun p => s.pgState p = psSTARTING)).foldl (fun s p => s.startFails p) s)

/-- SCHEDULE_SWAP (R227). -/
def execScheduleSwap (s : State) : Host.Outcome State Fault Refusal :=
  if s.powered ∧ s.getB VCE.SCHED_STAT_PENDING then .next s.schedSwap else .next s

end Sys2Proof.Machine
end

