-- ==== Sys2Proof/Machine/Ps.lean ====
section
/-! DEFINITION. Parameter store and Cairn recorder (chapter 16): PS_CMD, scans, record writes page by page, the device counters, the flush of staged records, time correlation and clearing. -/

namespace Sys2Proof.Machine

/-- Codes of PS_STAT.RESULT and of TC_CMD and CLR_CMD. -/
abbrev prNONE : Nat := 0
abbrev prDONE : Nat := 1
abbrev prREFUSED : Nat := 2
abbrev prUNCHANGED : Nat := 3

namespace State

/-- The payload of the device counter record (Table 16-3) with a SEQ_FLOOR. -/
def counterRecord (s : State) (floor : Nat) : List Byte :=
  (leBytes 8 s.opsec ++ leBytes 4 (s.getN DEV.ASCENT_COUNT) ++ leBytes 4 (s.getN CAIRN.LOST) ++ leBytes 4 (s.getN CAIRN.CLEARS)
    ++ leBytes 4 floor).map (BitVec.ofNat 8)

/-- A field of the newest valid device counter record; none without one. -/
def counterField (s : State) (ofs n : Nat) : Option Nat :=
  (s.psNewest 0x0200).map (fun b => leNat (bytesNat (((s.psCopy 0x0200 b).payload.drop ofs).take n)))

/-- A checkpoint of the device counters (R486). -/
def checkpoint (s : State) : State :=
  s.psQueue 0x0200 (s.counterRecord (max ((s.counterField 20 4).getD 0) (s.getN CAIRN.LAST_SEQ + 1)))

/-- What a scan finds of one copy (R475). -/
def scanCopy (s : State) (id : Nat) (b : Bool) : State :=
  let c := s.psCopy id b
  let cause := c.invalidCause id
  if c.blank ∨ cause = 0 then s
  else (s.incSat PSTORE.CNT_INVALID).raise (if c.badWord then 224 else 225) (leBytes 2 id ++ [b.toNat, cause])

/-- Two valid copies neither of which is newer (R485). -/
def scanTie (s : State) (id : Nat) : State :=
  if s.psValid id false ∧ s.psValid id true then
    let a := s.psCopy id false
    let b := s.psCopy id true
    if a.seq = b.seq then (if a.bytes = b.bytes then s else s.raise 226 (leBytes 2 id ++ [0]))
    else if seqNewer a.seq b.seq = false ∧ seqNewer b.seq a.seq = false then s.raise 226 (leBytes 2 id ++ [1])
    else s
  else s

/-- What a scan reads of the arrays (R475, R482): the copies with an uncorrectable word, CNT.CE and SCAN_US. -/
def psArrays (s : State) (f : StoreScan) : State :=
  let slots := s.ps.slots.map (fun e => (e.1, { e.2 with badWord := f.bad.contains (BitVec.ofNat 16 e.1.1, e.1.2) }))
  let s := { s with ps := { s.ps with slots := slots } }
  (s.setF PSTORE.CNT_CE (min (s.getF PSTORE.CNT_CE + f.corrected.toNat) 65535)).setF PSTORE.SCAN_STAT_SCAN_US f.us.toNat

/-- A scan of every slot (R482). -/
def psScan (s : State) (f : StoreScan) : State :=
  let s := s.psArrays f
  psIds.foldl (fun s id => ((s.scanCopy id false).scanCopy id true).scanTie id) s

def psResult (s : State) (r cause : Nat) : State := (s.setF PSTORE.PS_STAT_RESULT r).setF PSTORE.PS_STAT_CAUSE cause

/-- The newest valid copy holds this payload already (R478). -/
def psUnchanged (s : State) (id : Nat) (p : List Byte) : Bool :=
  match s.psNewest id with
  | some b => (s.psCopy id b).payload = p && (s.psCopy id b).schema = (s.bank s.runBank).schemaMax
  | none => false

/-- Queue the records of a PS_CMD (R478): those that differ from their newest valid copies. -/
def psStart (s : State) (l : List (Nat × List Byte)) : State :=
  let w := l.filter (fun (e : Nat × List Byte) => !s.psUnchanged e.1 e.2)
  if w = [] then s.psResult prUNCHANGED 0
  else
    let s := w.foldl (fun s (e : Nat × List Byte) => s.psQueue e.1 e.2) s
    (({ s with ps := { s.ps with cmd := w.map (fun (e : Nat × List Byte) => e.1) } }).setF PSTORE.PS_STAT_BUSY 1).psResult prNONE 0

/-- PS_CMD with GO (Table 16-9, R478, R482). -/
def psCommand (s : State) (op id : Nat) : State :=
  if s.getB PSTORE.PS_STAT_BUSY then s.psResult prREFUSED 6
  else match op with
  | 1 =>
    if psIsConfig id = false then s.psResult prREFUSED 3
    else match s.cfgBuild id with
      | some p => s.psStart [(id, p)]
      | none => s.psResult prREFUSED 4
  | 2 =>
    let l := psConfigIds.map (fun i => (i, s.cfgBuild i))
    if l.any (fun (e : Nat × Option (List Byte)) => e.2.isNone) then s.psResult prREFUSED 4
    else s.psStart (l.map (fun (e : Nat × Option (List Byte)) => (e.1, e.2.getD [])))
  | 3 =>
    if psIsConfig id = false then s.psResult prREFUSED 3
    else if s.mode ≠ mSERVICE then s.psResult prREFUSED 5
    else s.psStart [(id, [])]
  | 4 =>
    if s.mode ≠ mSERVICE then s.psResult prREFUSED 5
    else (({ s with ps := { s.ps with scanning := true } }).setF PSTORE.PS_STAT_BUSY 1).psResult prNONE 0
  | _ => s.psResult prREFUSED 3

/-- The queued write that is served next (R481); those of migrated records wait during a trial (R540); no write-back starts in a descent (R331); in the pause of an activation only the image state record is written (Table 18-4, step 2). -/
def psNextWrite (s : State) : Option PsWrite :=
  let q := s.ps.queue.filter (fun w => (!s.dev.updatePause || w.id = 0x0100) && (w.mig || !(s.getB IMAGE.RUN_STAT_TRIAL && s.img.migrated.contains w.id))
    && !(isCapRecord w.id && s.getB DEV.MODE_STAT_DESCENT))
  match q.find? (fun w => psClass w.id = 1) with
  | some w => some w
  | none => match q.find? (fun w => psClass w.id = 2) with
    | some w => some w
    | none => q.head?

/-- QUEUED and MIGRATE.HELD show the queue. -/
def psShow (s : State) : State :=
  let held := (s.ps.queue.filter (fun w => !w.mig && s.getB IMAGE.RUN_STAT_TRIAL && s.img.migrated.contains w.id)).length
  (s.setF PSTORE.PS_STAT_QUEUED s.ps.queue.length).setF IMAGE.MIGRATE_HELD held

/-- A record is written whole: what waited for it goes on. A capacity learned while it was in flight stays pending (R331). -/
def psWritten (s : State) (id : Nat) (p : List Byte) : State :=
  let s := if isCapRecord id then
      let k := id - 0x0400
      let s := s.incSat (ESTSTR.WB_STAT_WRITES k)
      if s.ps.queue.any (fun w => w.id = id) ∨ capPayload (s.estOf k) ≠ p then s else s.setF (ESTSTR.WB_STAT_PENDING k) 0
    else s
  if s.ps.cmd.contains id then
    let l := s.ps.cmd.filter (· ≠ id)
    let s := { s with ps := { s.ps with cmd := l } }
    if l = [] then (s.setF PSTORE.PS_STAT_BUSY 0).psResult prDONE 0 else s
  else s

/-- The live REPEAT of the record written last goes to NV (R491). -/
def cairnRewrite (s : State) : State :=
  let r := s.getF CAIRN.LAST_REPEAT_REPEAT
  if s.cairn.staged = [] then
    match s.cairn.nv.getLast? with
    | some l => { s with cairn := { s.cairn with nv := s.cairn.nv.dropLast ++ [{ l with rep := r }] } }
    | none => s
  else s

/-- The flush of staged records in SEQ order (R492); a record whose REPEAT still has to be stored is rewritten with the next one (R491). -/
def cairnFlush (s : State) : State :=
  match s.cairn.staged.getLast? with
  | some l =>
    let nv := match s.cairn.rewrite with
      | some (q, r) => s.cairn.nv.map (fun (x : CairnRec) => if x.seq = q then { x with rep := r } else x)
      | none => s.cairn.nv
    (({ s with cairn := { s.cairn with nv := nv ++ s.cairn.staged, staged := [], rewrite := none } }).setN CAIRN.WRITTEN_SEQ l.seq).cairnShow
  | none => s

/-- TC_CMD.GO (R497). -/
def tcGo (s : State) : State :=
  if 32704 ≤ s.cairnN ∨ 256 ≤ s.cairn.staged.length then s.setF CAIRN.TC_CMD_RESULT prREFUSED
  else
    let d := leBytes 4 (s.getN CAIRN.TC_LO) ++ leBytes 4 (s.getN CAIRN.TC_HI) ++ leBytes 2 (s.getF CAIRN.TC_ERR_ERR)
    let s := (s.setF CAIRN.CAIRN_STAT_TIMECOR 1).setF CAIRN.TC_CMD_RESULT prDONE
    (s.cairnStage 255 1 5 false d).checkFill

def clrResult (s : State) (r cause : Nat) : State := (s.setF CAIRN.CLR_CMD_RESULT r).setF CAIRN.CLR_CMD_CAUSE cause

/-- CLR_CMD with GO (R498). -/
def cairnClear (s : State) (key : Nat) : State :=
  if s.mode ≠ mSERVICE then s.clrResult prREFUSED 1
  else if key ≠ 0xA7 then s.clrResult prREFUSED 2
  else if s.cairn.clearSeq.isSome then s.clrResult prREFUSED 5
  else if s.getReg CAIRN.ARCHIVE_ACK ≠ s.getReg CAIRN.LAST_SEQ then s.clrResult prREFUSED 3
  else
    let l := s.getN CAIRN.LAST_SEQ
    let s := s.setN CAIRN.CLEARS (s.getN CAIRN.CLEARS + 1)
    let s := s.psQueue 0x0200 (s.counterRecord (l + 1))
    let r := s.mkRec (l + 1) 255 1 6 (s.cairnFlags false) (leBytes 4 l ++ leBytes 4 (s.getN CAIRN.CLEARS))
    let s := { s with cairn := { s.cairn with
      nv := [r], staged := [], clearSeq := some l, clearOld := s.cairn.nv, rewrite := none, nextSeq := (l + 2) % 2 ^ 32 } }
    let s := (s.setN CAIRN.LAST_SEQ (l + 1)).setF CAIRN.LAST_REPEAT_REPEAT 0
    ((s.setF CAIRN.CAIRN_STAT_CLEARING 1).clrResult prNONE 0).cairnShow

/-- VIN_WARN interrupts a clear (R498): the records below a point that the spec does not give stay (a free value). -/
def clearInterrupt (s : State) : State :=
  if s.cairn.clearSeq.isSome then
    let (w, s) := s.takeFree
    let nv := s.cairn.clearOld.take (w.toNat % (s.cairn.clearOld.length + 1))
    -- records go on from SEQ_FLOOR: the SEQ that CLEARED was to carry, where nothing has been accepted since
    let back := s.cairn.staged.isEmpty
    let floor := s.getN CAIRN.LAST_SEQ
    let s := { s with cairn := { s.cairn with nv := nv, clearSeq := none, clearOld := [], nextSeq := if back then floor else s.cairn.nextSeq } }
    let s := if back then s.setN CAIRN.LAST_SEQ (floor - 1) else s
    ((s.setF CAIRN.CAIRN_STAT_CLEARING 0).clrResult 3 4).cairnShow
  else s

end State

open State

/-- VERIFY_SCAN_END (R482). -/
def execVerifyScanEnd (f : StoreScan) (s : State) : Host.Outcome State Fault Refusal :=
  if s.powered ∧ s.ps.scanning then
    let s := { s with ps := { s.ps with scanning := false } }
    let s := (s.setF PSTORE.PS_STAT_BUSY 0).psResult prDONE 0
    .next (s.psScan f)
  else .next s

/-- RECORD_WRITE_START (R479 to R481): the next queued write starts while NV writes are permitted, no scan runs and SDMA channel 7 can stage it (Table 6-6; log entry 119). A capacity record takes what has been learned while it waited (R331). -/
def execRecordWriteStart (s : State) : Host.Outcome State Fault Refusal :=
  match s.psNextWrite with
  | some w =>
    if s.powered ∧ s.nvOk ∧ s.dev.mpuRestart = false ∧ s.dmMoves 7 ∧ s.ps.scanning = false ∧ s.ps.flight = none then
      let t := s.psNext w.id
      let l := s.psNow w
      let bytes := psEncodeS w.id w.form t.2 (s.bank s.runBank).schemaMax l
      .next ({ s with ps := { s.ps with
        queue := s.ps.queue.filter (fun x => x.id ≠ w.id), flight := some ⟨w.id, t.1, w.form, l, bytes, 0⟩ } }).psShow
    else .next s
  | none => .next s

/-- PAGE_PROGRAM_DONE (R480, Table 16-4): the page in flight completes; after the last one the copy is whole; a VIN_WARN before it sends the record back to the front of its queue. -/
def execPageProgramDone (s : State) : Host.Outcome State Fault Refusal :=
  match s.ps.flight with
  | some f =>
    if !s.powered then .next s
    else
      let s := s.psProgram
      if f.bytes.length ≤ 64 * (f.pages + 1) then
        .next ((({ s with ps := { s.ps with flight := none } }).psWritten f.id f.payload).psShow)
      else if s.getB CLKPWR.VIN_MV_WARN then
        let w := (s.ps.queue.find? (fun x => x.id = f.id)).getD ⟨f.id, f.form, f.payload, s.img.migrated.contains f.id⟩
        .next ({ s with ps := { s.ps with flight := none, queue := w :: s.ps.queue.filter (fun x => x.id ≠ f.id) } }).psShow
      else .next s
  | none => .next s

/-- COUNTER_CHECKPOINT (R384, R486): every 900 s of operating time. -/
def execCounterCheckpoint (s : State) : Host.Outcome State Fault Refusal :=
  if s.powered ∧ s.dev.ckptLeftUs = 0 then
    let s := { s with dev := { s.dev with ckptLeftUs := 900000000 } }
    .next (forAll 8 (fun s c => s.efCheckpoint c) s.checkpoint)
  else .next s

/-- CAIRN_FLUSH (R492): not while the MPU restarts (R423), nor while a clear runs, whose CLEARED record comes first (R498). -/
def execCairnFlush (s : State) : Host.Outcome State Fault Refusal :=
  if s.powered ∧ s.nvOk ∧ s.mpuRuns ∧ s.cairn.clearSeq = none then .next s.cairnFlush else .next s

/-- CAIRN_CLEAR_COMPLETE (R498, Table 16-8). -/
def execCairnClearComplete (s : State) : Host.Outcome State Fault Refusal :=
  match s.cairn.clearSeq with
  | some l =>
    if s.powered ∧ s.nvOk ∧ s.mpuRuns then
      let r := s.mkRec (l + 1) 255 1 6 (s.cairnFlags false) (leBytes 4 l ++ leBytes 4 (s.getN CAIRN.CLEARS))
      let s := { s with cairn := { s.cairn with nv := [r], clearSeq := none, clearOld := [] } }
      let s := (s.setN CAIRN.WRITTEN_SEQ (l + 1)).cairnShow
      .next ((((s.setF CAIRN.CAIRN_STAT_CLEARING 0).clrResult prDONE 0).endL 227).endL 228)
    else .next s
  | none => .next s

end Sys2Proof.Machine
end

