-- ==== Sys2Proof/Machine/Image.lean ====
section
/-! DEFINITION. Firmware update (chapter 18): the stream into the target bank, activation with its pause of management service, schema migration, trial, confirm and fallback. -/

namespace Sys2Proof.Machine

/-- Stream states (Table 18-3). -/
abbrev imIDLE : Nat := 0
abbrev imRECEIVING : Nat := 1
abbrev imCHECKING : Nat := 2
abbrev imSTREAMING : Nat := 3
abbrev imVERIFYING : Nat := 4
abbrev imREADY : Nat := 5
abbrev imFAILED : Nat := 6

namespace State

def imgState (s : State) : Nat := s.getF IMAGE.IMG_STAT_STATE

/-- The stream's state, with BUSY in CHECKING and VERIFYING. -/
def setImg (s : State) (x : Nat) : State :=
  (s.setF IMAGE.IMG_STAT_STATE x).setB IMAGE.IMG_STAT_BUSY (x = imCHECKING ∨ x = imVERIFYING)

def imgResult (s : State) (r cause : Nat) : State := (s.setF IMAGE.IMG_STAT_RESULT r).setF IMAGE.IMG_STAT_CMD_CAUSE cause

/-- The stream is between BEGIN and READY. -/
def imgStreams (s : State) : Bool := imRECEIVING ≤ s.imgState && s.imgState ≤ imVERIFYING

/-- A stream ends in IDLE; the target stays invalid (Table 18-3). -/
def imgStop (s : State) : State := if s.imgStreams then s.setImg imIDLE else s

/-- BEGIN (R531, R533); its write of the target waits for nothing, so it is refused while no NV write may start (R67, R80; log entry 118). -/
def imgBegin (s : State) : State :=
  if s.getB IMAGE.RUN_STAT_TRIAL ∨ s.imgStreams ∨ s.nvOk = false then s.imgResult 2 7
  else
    let s := s.putBank s.target ⟨[], false, true⟩
    (((s.setReg IMAGE.WR_OFS 0).setReg IMAGE.FW_VER_TGT 0).setF IMAGE.IMG_STAT_REFUSE 0).setImg imRECEIVING |>.imgResult 1 0

/-- ABORT (Table 18-3). -/
def imgAbort (s : State) : State := s.imgStop.imgResult 1 0

/-- A write of IMG_DATA that starts at offset `ofs` (R532): its words are appended in RECEIVING and STREAMING, up to the image's end. -/
def imgData (s : State) (ofs : Nat) (ws : List Word) : State :=
  let st := s.imgState
  let wr := s.getN IMAGE.WR_OFS
  let b := s.bank s.target
  let take_ : Bool := s.nvOk && ofs = 0x100 && ((st = imRECEIVING && decide (wr + 4 * ws.length ≤ 512)) || st = imSTREAMING)
  if !take_ then s.setF IMAGE.IMG_STAT_SEQ_ERR 1
  else
    let last := if st = imRECEIVING then 512 else 512 + b.bodyLen
    let bs := (((ws.map (fun w => leBytes 4 w.toNat)).flatten).map (BitVec.ofNat 8)).take (last - wr)
    let s := (s.putBank s.target { b with bytes := b.bytes ++ bs }).setN IMAGE.WR_OFS (wr + bs.length)
    if wr + bs.length < last then s else s.setImg (if st = imRECEIVING then imCHECKING else imVERIFYING)

/-- The record of bank state with another TRIAL (R534). -/
def queueTrial (s : State) (trial : Bool) : State :=
  s.psQueue 0x0100 (imgRecord s.activeBank trial (BitVec.ofNat 32 (s.imgField 4 4)) (s.imgField 8 4) (s.imgField 12 4))

/-- The pause of management service begins (R537). -/
def pauseStart (s : State) (p : ImgPause) : State :=
  let s := { s with img := { s.img with pause := p }, dev := { s.dev with updatePause := true } }
  (s.imgStop).setF EST.EST_STAT_HELD 1

/-- ACTIVATE (R536, R537). -/
def imgActivate (s : State) (key : Nat) : State :=
  let m := s.mode
  if (m ≠ mWATCH ∧ m ≠ mRUN ∧ m ≠ mDEGRADED ∧ m ≠ mSERVICE) ∨ s.getB DEV.MODE_STAT_DESCENT then s.imgResult 2 1
  else if s.imgState ≠ imREADY then s.imgResult 2 2
  else if key ≠ 0x5A then s.imgResult 2 3
  else if s.nvOk = false then s.imgResult 2 4
  else if s.getB IMAGE.RUN_STAT_TRIAL then s.imgResult 2 5
  else ((s.queueTrial true).pauseStart .activate).imgResult 1 0

/-- An accepted CONFIRM (R541). -/
def imgConfirmed (s : State) : State :=
  let b := s.bank s.runBank
  let otp := max s.dev.otpRollback b.rollback
  let n := s.imgField 12 4
  let s := ({ s with dev := { s.dev with otpRollback := otp }, img := { s.img with migrated := [] } }).setF IMAGE.ROLLBACK_OTP otp
  let s := s.psQueue 0x0100 (imgRecord s.runBank false b.fwVer s.opsec (n + 1))
  ((s.setF IMAGE.RUN_STAT_TRIAL 0).setB IMAGE.RUN_STAT_ACTIVE_BANK s.runBank).psShow

/-- CONFIRM (R541). -/
def imgConfirm (s : State) (key : Nat) : State :=
  if s.getB IMAGE.RUN_STAT_TRIAL ∧ key = 0x5A ∧ s.nvOk then s.imgConfirmed.imgResult 1 0 else s.imgResult 2 6

/-- IMG_CMD with GO. -/
def imgCommand (s : State) (op key : Nat) : State :=
  match op with
  | 1 => s.imgBegin
  | 2 => s.imgAbort
  | 3 => s.imgActivate key
  | 4 => s.imgConfirm key
  | _ => s

/-- Schema migration at a start (R539): records below the running image's SCHEMA_MAX are queued at it. A restart in a trial still holds the writes of records that it migrated before (R540). -/
def migrateAll (s : State) : State :=
  let b := s.bank s.runBank
  let ids := psIds.filter (fun id => match s.psNewest id with
    | some c => b.schemaMin ≤ (s.psCopy id c).schema && (s.psCopy id c).schema < b.schemaMax
    | none => false)
  let ws : List PsWrite := ids.map (fun id => ⟨id, psForm id, Config.migrate id b.schemaMax ((s.psRead id).getD []), true⟩)
  let q := s.ps.queue ++ ws.filter (fun w => !s.ps.queue.any (fun x => x.id = w.id))
  let s := { s with ps := { s.ps with queue := q }, img := { s.img with migrated := if s.getB IMAGE.RUN_STAT_TRIAL then s.img.migrated ++ ids else ids } }
  (s.setF IMAGE.MIGRATE_COUNT ids.length).psShow

/-- The MPU starts on a bank (R538, R539); the estimator's pause is over, and frames that nothing read during it are gone. -/
def mpuStart (s : State) (b : Bool) : State :=
  let s := (s.showBank b).migrateAll
  let s := s.setF EST.EST_STAT_HELD 0
  forAll 24 (fun s n => if s.pgRunning (pYPORT n) then forAll 24 (fun s e => s.ringClear n e) s else s) s

/-- A fallback discards the writes that the trial held (R540). -/
def dropHeld (s : State) : State :=
  ({ s with ps := { s.ps with queue := s.ps.queue.filter (fun w => !s.img.migrated.contains w.id) }, img := { s.img with migrated := [] } }).psShow

end State

open State

/-- IMAGE_HEADER_CHECKED (Tables 18-2 and 18-3). -/
def execImageHeaderChecked (s : State) : Host.Outcome State Fault Refusal :=
  if s.powered ∧ s.imgState = imCHECKING then
    let b := { s.bank s.target with bad := false }
    let c := s.headerFail b
    if c = 0 then .next ((s.setReg IMAGE.FW_VER_TGT b.fwVer).setImg imSTREAMING)
    else .next (((s.setF IMAGE.IMG_STAT_REFUSE c).setImg imFAILED).raise 229 (c :: leBytes 4 b.fwVer.toNat))
  else .next s

/-- IMAGE_VERIFIED (Table 18-3): the body's digest read back from the target, or an uncorrectable word in it. -/
def execImageVerified (uncorrectable : Bool) (s : State) : Host.Outcome State Fault Refusal :=
  if s.powered ∧ s.imgState = imVERIFYING then
    let b := s.bank s.target
    if uncorrectable then .next ((s.setImg imFAILED).raise 230 [2, s.target.toNat])
    else if bodyOk b then .next ((s.putBank s.target { b with bad := false }).setImg imREADY)
    else .next ((s.setImg imFAILED).raise 230 [1, s.target.toNat])
  else .next s

/-- IMAGE_STREAM_INTERRUPT (Table 18-3). -/
def execImageStreamInterrupt (s : State) : Host.Outcome State Fault Refusal :=
  if s.powered then .next s.imgStop else .next s

/-- ACTIVATION_PAUSE_END (Table 18-4, R542): the trial starts on the target, or bank ACTIVE runs again. -/
def execActivationPauseEnd (s : State) : Host.Outcome State Fault Refusal :=
  let go (s : State) : State :=
    { s with img := { s.img with pause := .none, pauseEndUs := s.dev.nowUs, sevSeen := false }, dev := { s.dev with updatePause := false } }
  match s.img.pause with
  | .none => .next s
  | .activate =>
    let t := s.target
    let c := s.bankFail (s.bank t)
    if c = 0 then .next ((go ((s.mpuStart t).setImg imIDLE)).setF IMAGE.RUN_STAT_TRIAL 1)
    else
      let a := s.activeBank
      .next ((go (((s.queueTrial false).mpuStart a).setImg imIDLE)).raise 232 [a.toNat, c])
  | .fallback => .next (go ((s.mpuStart s.activeBank).setImg imIDLE))

/-- AUTO_CONFIRM (R541). -/
def execAutoConfirm (s : State) : Host.Outcome State Fault Refusal :=
  if s.powered ∧ s.getB IMAGE.RUN_STAT_TRIAL ∧ s.getB IMAGE.TRIAL_CFG_AUTO_CONFIRM ∧ s.dev.updatePause = false ∧ s.nvOk
      ∧ s.img.sevSeen = false ∧ 1000000 * s.getF IMAGE.TRIAL_CFG_QUIET_S ≤ s.dev.nowUs - s.img.pauseEndUs then
    .next (s.imgConfirmed.imgResult 1 0)
  else .next s

/-- TRIAL_EXPIRY (R542). -/
def execTrialExpiry (s : State) : Host.Outcome State Fault Refusal :=
  if s.powered ∧ s.getB IMAGE.RUN_STAT_TRIAL ∧ s.dev.updatePause = false ∧ 30000000 ≤ s.dev.nowUs - s.img.pauseEndUs then
    let v := (s.bank s.runBank).fwVer
    let s := ((s.setF IMAGE.RUN_STAT_TRIAL 0).dropHeld.queueTrial false).pauseStart .fallback
    .next (s.raise 231 (1 :: leBytes 4 v.toNat))
  else .next s

end Sys2Proof.Machine
end

