-- ==== Sys2Proof/Machine/Efuse.lean ====
section
/-! DEFINITION. E-fuse and hot-swap channels (chapter 12): the meanings of their commands. -/

namespace Sys2Proof.Machine

namespace State

/-- A channel acts: its page is RUNNING and the HV region is live (R389, Table 1-2). -/
def efLive (s : State) (c : Nat) : Bool := s.operating && s.pgRunning (pEFUSE c)

/-- A trip (Table 12-1): TRIPPED on a pull-down, TRIPS counted, FS_EFUSE_c with the reason. -/
def efTrip (s : State) (c reason : Nat) (p : Pull) : State :=
  let d := s.efData c reason
  let s := (s.incSat (EFUSE.EF_CNT_TRIPS c)).setF (EFUSE.EF_STAT_LAST_REASON c) reason
  (s.efGo c efTRIPPED p).raise (144 + c) d

/-- A gate fault (Table 12-1, R384): GATE_FAULT, the record flag set and checkpointed. -/
def efGateFault (s : State) (c : Nat) : State :=
  let d := s.efData c 5
  let s := s.setF (EFUSE.EF_STAT_LAST_REASON c) 5
  let s := ((s.updEf c (fun x => { x with gateFault := true })).efGo c efGATE_FAULT .normal).efCheckpoint c
  s.raise (144 + c) d

end State

open State

/-- EFUSE_CONVERSION (R382, R383): the measured words, ENERGY, the bound of R385, and the run counters of the conditions of Table 12-1; conversions are the channel's clock of 10 µs. -/
def execEfuseConversion (c : Nat) (x : EfuseSample) (s : State) : Host.Outcome State Fault Refusal :=
  if s.efLive c then
    let sh := signedOf 14 x.shunt.toNat
    let i := F32.div (F32.ofQ (sh < 0) (sh.natAbs * 50) (8192 * 1000)) (s.getReg (EFUSE.R_SENSE c))
    let vin := F32.ofQ false (x.vIn.toNat * 80) 4096
    let vout := F32.ofQ false (x.vOut.toNat * 80) 4096
    let p := F32.mul vout i
    let st := s.efState c
    -- energy: exact P × 10 µs in 2^-149 W units, 100 × 2^149 of them per mJ (R383)
    let add := if F32.isFinite p ∧ F32.lt 0 p then (F32.scaled p).toNat else 0
    let tot := (s.efSt c).frac + add
    let e := s.getN (EFUSE.ENERGY_LO c) + 2 ^ 32 * s.getN (EFUSE.ENERGY_HI c) + tot / (100 * 2 ^ 149)
    let s := (s.setN (EFUSE.ENERGY_LO c) e).setN (EFUSE.ENERGY_HI c) (e / 2 ^ 32)
    let lim := st = efINRUSH ∧ x.limiting
    let s := s.updEf c (fun y => { y with
      frac := tot % (100 * 2 ^ 149)
      ticks := y.ticks + 1
      bound := F32.min (s.getReg (EFUSE.ILIM c)) (F32.div (s.getReg (EFUSE.PLIM c)) (F32.max 0x3F800000 (F32.sub vin vout)))
      limTicks := if lim then y.limTicks + 1 else 0
      ilimTicks := if st = efON ∧ F32.lt (s.getReg (EFUSE.ILIM c)) i then y.ilimTicks + 1 else 0
      lowTicks := if st = efON ∧ F32.lt x.vGs 0x40600000 then y.lowTicks + 1 else 0
      presTicks := if st = efOFF ∧ F32.le 0x41100000 vin ∧ F32.lt (F32.mul 0x3F000000 vin) vout then y.presTicks + 1 else 0 })
    .next ((((((s.setB (EFUSE.EF_STAT_LIMITING c) lim).setReg (EFUSE.V_IN c) vin).setReg (EFUSE.V_OUT c) vout).setReg
      (EFUSE.P_OUT c) p).setReg (EFUSE.V_GS c) x.vGs).setReg (EFUSE.I c) i)
  else .next s

/-- EFUSE_ON_REQUEST (R389): OFF to INRUSH with I_G on. -/
def execEfuseOnRequest (c : Nat) (s : State) : Host.Outcome State Fault Refusal :=
  if s.efLive c ∧ s.efState c = efOFF ∧ s.efOnReq c then .next (s.efGo c efINRUSH .none) else .next s

/-- EFUSE_ON_WITHDRAWN (R389): to OFF; a TRIPPED channel waits for V_GS below 1 V. -/
def execEfuseOnWithdrawn (c : Nat) (s : State) : Host.Outcome State Fault Refusal :=
  if s.efOnReq c then .next s
  else
    let st := s.efState c
    if st = efINRUSH ∨ st = efON ∨ st = efRETRY_WAIT ∨ st = efLATCHED then .next (s.efToOff c)
    else if st = efTRIPPED ∧ F32.lt (s.getReg (EFUSE.V_GS c)) 0x3F800000 then .next (s.efToOff c)
    else .next s

/-- EFUSE_SHORT_CIRCUIT (R388). -/
def execEfuseShortCircuit (c : Nat) (s : State) : Host.Outcome State Fault Refusal :=
  if s.efLive c ∧ s.efDriven c then .next ((s.incSat (EFUSE.EF_CNT_SC_TRIPS c)).efTrip c 2 .fast) else .next s

/-- EFUSE_HV_REF_LOST (R389, Table 3-11): every driven channel. -/
def execEfuseHvRefLost (s : State) : Host.Outcome State Fault Refusal :=
  .next (forAll 8 (fun s c => if s.efLive c ∧ s.efDriven c then s.efTrip c 7 .fast else s) s)

/-- EFUSE_BREAKER (R388): I above ILIM for ILIM_DLY in ON. -/
def execEfuseBreaker (c : Nat) (s : State) : Host.Outcome State Fault Refusal :=
  if s.efLive c ∧ s.efState c = efON ∧ s.getF (EFUSE.ILIM_DLY_US c) ≤ 10 * (s.efSt c).ilimTicks then
    .next (s.efTrip c 1 .normal) else .next s

/-- GATE_CHECK_TIMER (R387): once, T_GATE_CHK after INRUSH began. -/
def execGateCheckTimer (c : Nat) (s : State) : Host.Outcome State Fault Refusal :=
  if s.efLive c ∧ s.efState c = efINRUSH ∧ (s.efSt c).checked = false ∧ 10 * s.getF (EFUSE.TIMES_T_GATE_CHK c) ≤ (s.efSt c).ticks then
    if F32.lt (s.getReg (EFUSE.V_GS c)) 0x40600000 then .next (s.efGateFault c) else .next (s.updEf c (fun x => { x with checked := true }))
  else .next s

/-- GATE_LOW_IN_ON (R389): V_GS below 3.5 V for 100 µs. -/
def execGateLowInOn (c : Nat) (s : State) : Host.Outcome State Fault Refusal :=
  if s.efLive c ∧ s.efState c = efON ∧ 10 ≤ (s.efSt c).lowTicks then .next (s.efGateFault c) else .next s

/-- INRUSH_TLIM_EXPIRY (R389): limiting for TLIM (0.1 ms units). -/
def execInrushTlimExpiry (c : Nat) (s : State) : Host.Outcome State Fault Refusal :=
  if s.efLive c ∧ s.efState c = efINRUSH ∧ 10 * s.getF (EFUSE.TLIM_T c) ≤ (s.efSt c).limTicks then
    .next (s.efTrip c 3 .normal) else .next s

/-- INRUSH_TMAX_EXPIRY (R389). -/
def execInrushTmaxExpiry (c : Nat) (s : State) : Host.Outcome State Fault Refusal :=
  if s.efLive c ∧ s.efState c = efINRUSH ∧ 100 * s.getF (EFUSE.INRUSH_TMAX_MS c) ≤ (s.efSt c).ticks then .next (s.efTrip c 4 .normal) else .next s

/-- EFUSE_ON_REACHED (R386): V_DS at or below 0.25 V raises I_G to 50 µA; V_GS at 10 V or more then declares ON. -/
def execEfuseOnReached (c : Nat) (s : State) : Host.Outcome State Fault Refusal :=
  if s.efLive c ∧ s.efState c = efINRUSH then
    let vds := F32.sub (s.getReg (EFUSE.V_IN c)) (s.getReg (EFUSE.V_OUT c))
    let low := F32.le vds 0x3E800000
    if (low ∨ (s.efSt c).ig50) ∧ F32.le 0x41200000 (s.getReg (EFUSE.V_GS c)) then .next (s.efGo c efON .none)
    else if low then .next (s.updEf c (fun x => { x with ig50 := true }))
    else .next s
  else .next s

/-- EFUSE_ON_ONE_SECOND (R389). -/
def execEfuseOnOneSecond (c : Nat) (s : State) : Host.Outcome State Fault Refusal :=
  if s.efLive c ∧ s.efState c = efON ∧ 100000 ≤ (s.efSt c).ticks then .next (s.setF (EFUSE.EF_STAT_RETRIES c) 0) else .next s

/-- EFUSE_GATE_DISCHARGED (R389): a TRIPPED gate has fallen below 1 V. -/
def execEfuseGateDischarged (c : Nat) (s : State) : Host.Outcome State Fault Refusal :=
  if s.efLive c ∧ s.efState c = efTRIPPED then
    if !s.efOnReq c then .next (s.efToOff c)
    else if s.getF (EFUSE.EF_STAT_RETRIES c) < s.getF (EFUSE.EF_CFG_RETRY_MAX c) then
      .next ((s.setF (EFUSE.EF_STAT_RETRIES c) (s.getF (EFUSE.EF_STAT_RETRIES c) + 1)).efGo c efRETRY_WAIT .hold)
    else
      let d := s.efData c 6
      .next (((s.setF (EFUSE.EF_STAT_LAST_REASON c) 6).efGo c efLATCHED .hold).raise (144 + c) d)
  else .next s

/-- RETRY_DELAY_EXPIRY (R389). -/
def execRetryDelayExpiry (c : Nat) (s : State) : Host.Outcome State Fault Refusal :=
  if s.efLive c ∧ s.efState c = efRETRY_WAIT ∧ 100 * s.getF (EFUSE.TIMES_RETRY_DELAY c) ≤ (s.efSt c).ticks then .next (s.efGo c efINRUSH .none) else .next s

/-- EF_CTRL.LATCH_CLR (Table 12-1). -/
def latchClr (c : Nat) (s : State) : State := if s.efState c = efLATCHED then s.efToOff c else s

/-- EF_CTRL.GF_CLR (R390): in SERVICE only. -/
def gfClr (c : Nat) (s : State) : State :=
  if s.mode = mSERVICE ∧ s.efState c = efGATE_FAULT then
    let s := s.updEf c (fun x => { x with gateFault := false })
    (s.efCheckpoint c).efGo c efOFF .hold
  else s

/-- OUTPUT_PRESENT_WHILE_OFF (R389): once per entry into OFF; the channel's state is unchanged. -/
def execOutputPresentWhileOff (c : Nat) (s : State) : Host.Outcome State Fault Refusal :=
  if s.efLive c ∧ s.efState c = efOFF ∧ (s.efSt c).presSeen = false ∧ 1000 ≤ (s.efSt c).presTicks then
    let s := s.updEf c (fun x => { x with presSeen := true })
    let d := s.efData c 8
    .next ((s.setF (EFUSE.EF_STAT_LAST_REASON c) 8).raise (144 + c) d)
  else .next s

end Sys2Proof.Machine
end

