-- ==== Sys2Proof/Machine/Pair.lean ====
section
/-! DEFINITION. The redundant pair (chapter 15): the setpoint start with the state copy's capture, the Ridge link, copies with the shadow compare, takeover, planned handovers, the epoch, BELAY_N, revert, relayed frames, the proof test. In SOLO form every command of this chapter but SETPOINT_START changes nothing (R445). -/

namespace Sys2Proof.Machine

/-- A gate as the copy carries it, binary32, and back (log entry 31). -/
def gateWord (g : Nat) : Word := F32.ofQ false g gateOne
def wordGate (w : Word) : Nat := if F32.isFinite w && F32.lt 0 w then min gateOne (F32.toIntMul w gateOne).toNat else 0

/-- The pages whose settings CFG_HASH covers (R467), by their configuration records. -/
def hashedIds : List Nat :=
  [0x1030] ++ (List.range 32).map (0x1100 + ·) ++ [0x1040, 0x1041, 0x1042, 0x1043, 0x1044, 0x1028]
    ++ (List.range 24).map (0x1010 + ·) ++ [0x1068] ++ (List.range 24).map (0x1069 + ·) ++ [0x1082]

/-- A STATUS frame from the bytes of a Yorid frame (Tables 4-3 and 4-6). -/
def statusOf (l : List Byte) : StatusFrame :=
  let w (o : Nat) : Word := BitVec.ofNat 32 (leNat (bytesNat ((l.drop (4 + o)).take 4)))
  ⟨l.getD 3 0, w 0, w 4, w 8, w 12, w 16, BitVec.ofNat 16 (leNat (bytesNat ((l.drop 24).take 2))), l.getD 26 0, l.getD 27 0⟩

/-- A slot of copy k from the slot of copy k − 1 and the inputs latched in copy k (R454): a mismatch of OUT, INT or S11 to S22. A slot in MANUAL is compared with the held output that copy k shows. -/
def shadowBad (c : Coefs) (ff : Word) (trk : Word) (shift : Nat) (old new : SlotCopy) : Bool :=
  let st : LawState := ⟨old.int.toInt, old.s11, old.s12, old.s21, old.s22, old.out⟩
  let m : LawMode :=
    if new.mode = 2 then .track trk else if new.mode = 1 then .manual new.out
    else if old.mode ≠ 0 then .preset old.out else .auto
  if new.divCount ≠ 0 then new.out ≠ old.out
  else match lawEval c ⟨none, new.y, new.refUsed, ff, none, shift⟩ m st with
    | .held _ => new.out ≠ old.out
    | .done r _ _ _ _ _ _ =>
      r.out ≠ new.out || wrap48 r.int ≠ new.int.toInt || r.s11 ≠ new.s11 || r.s12 ≠ new.s12 || r.s21 ≠ new.s21 || r.s22 ≠ new.s22

namespace State

/-- The copy of the present cycle (Table 15-2). -/
def captureCopy (s : State) : StateCopy where
  beacon := false
  handover := s.pair.handover
  corniceOpen := s.cnLive
  inhibit := s.inhibit
  degraded := s.mode == mDEGRADED
  cycle := BitVec.ofNat 32 s.shelf.cycle
  ssn := s.sample.ssn
  epoch := BitVec.ofNat 16 (s.getF RIDGE.EPOCH_EPOCH)
  mode := BitVec.ofNat 3 s.mode
  regMode := s.getB SHELF.REG_STAT_MODE_ACT
  actSlot := Fin.ofNat 8 s.actSlot
  huState := BitVec.ofNat 2 s.huState
  huRelease := s.getB HOLDUP.HU_STAT_REL_LATCHED
  huCause := BitVec.ofNat 3 s.huCauses
  huTime := s.getReg HOLDUP.HU_TIME
  demand := s.getReg SHELF.DEMAND
  pRef := s.getReg SHELF.P_REF
  startRef := s.shelf.startRef
  startRamp := s.getB SHELF.REG_STAT_START_RAMP
  holdRow := BitVec.ofNat 4 (s.shelf.hold.getD s.actSlot (0, 0)).1
  holdOut := (s.shelf.hold.getD s.actSlot (0, 0)).2
  bucketDis := s.getReg CREST.BUCKET_DIS
  bucketChg := s.getReg CREST.BUCKET_CHG
  pLimDis := s.getReg CREST.P_LIM_DIS
  pLimChg := s.getReg CREST.P_LIM_CHG
  vBus := s.getReg SAMPLE.V_BUS
  iShelf := s.getReg SAMPLE.I_SHELF
  wssn := s.getReg ALLOC.WSSN
  cnStat := s.getReg CORNICE.CN_STAT
  isn := s.cn.lastIsn.getD 0
  miss := BitVec.ofNat 4 (s.getF CORNICE.CNT_C_MISS)
  backoffLeft := BitVec.ofNat 16 (s.cn.backoffUs / 1000)
  slots := (List.range 32).map (fun i => {
    out := s.getReg (VSLOT.OUT i), int := BitVec.ofInt 48 (s.slotInt i), s11 := s.getReg (VSLOT.S11 i), s12 := s.getReg (VSLOT.S12 i)
    s21 := s.getReg (VSLOT.S21 i), s22 := s.getReg (VSLOT.S22 i), refUsed := s.getReg (VSLOT.REF_USED i), y := s.getReg (VSLOT.Y i)
    mode := BitVec.ofNat 2 (s.getF (VSLOT.SLOT_STAT_MODE_ACT i)), bank := s.slotBankB i
    trk := Fin.ofNat 64 (s.getF (VSLOT.SLOT_CTRL_TRK_SLOT i)), divCount := BitVec.ofNat 8 (s.vslot i).divCount })
  strs := (List.range 24).map (fun k => {
    alloc := s.getReg (ALLOC.A k), gate := gateWord (s.gateOf k), wdis := s.getReg (ALLOC.WDIS k), wchg := s.getReg (ALLOC.WCHG k)
    iMeas := s.shelf.iMeas.getD k 0
    seq := match s.shelf.stat.getD k none with
      | some f => f.seq
      | none => 0
    stale := s.staleStatus k, limited := s.getB (ALLOC.STR_LIMITED k), dLim := s.dLim k, cLim := s.cLim k })
  chunk := (if s.dmMoves 5 then s.pair.selQ else []).headD ⟨3, 0, 0, (leBytes 4 (s.getN CAIRN.LAST_SEQ)).map (BitVec.ofNat 8)⟩
  gridErrNs := 0

/-- A handover by PAIR_CMD.YIELD or by revert waits while a cornice is pending or live and while hold-up is not IDLE; the yield of a descent does not (R460). -/
def mayHandOver (s : State) : Bool :=
  s.getB DEV.MODE_STAT_DESCENT || (s.cnState ≠ cnPENDING && !s.cnLive && s.huState = 0)

/-- The waiting frames, by their lengths, after those that leave in one cycle: a frame with its SOF and EOF fits into the room beside the SETPOINT, and at least one SKIP parts it from the next (R24, R96, R108; log entry 32). -/
def drainTx (room : Nat) : List Nat → List Nat
  | [] => []
  | n :: l => if n + 2 ≤ room then drainTx (room - (n + 3)) l else n :: l

/-- The slot state of a copy (R452, R455): OUT, INT, biquads, REF_USED, Y, mode, bank, TRK_SLOT and DIV count. -/
def loadSlot (s : State) (i : Nat) (x : SlotCopy) : State :=
  let s := s.putLawState i ⟨x.int.toInt, x.s11, x.s12, x.s21, x.s22, x.out⟩
  let s := (s.setReg (VSLOT.REF_USED i) x.refUsed).setReg (VSLOT.Y i) x.y
  let s := (s.setF (VSLOT.SLOT_STAT_MODE_ACT i) x.mode.toNat).setF (VSLOT.SLOT_CTRL_TRK_SLOT i) x.trk.val
  let s := if x.mode = 1 then s else s.setF (VSLOT.SLOT_CTRL_MODE i) x.mode.toNat
  let s := if i < 8 then s.setB (VSLOT.SLOT_STAT_ACT_BANK i) x.bank else s
  s.updVs i (fun v => { v with divCount := x.divCount.toNat, needPreset := false, target := none })

def loadSlots (s : State) (c : StateCopy) : State := forAll 32 (fun s i =>
  match c.slots[i]? with
  | some x => s.loadSlot i x
  | none => s) s

/-- Slots whose state does not follow from the copy before (R454). -/
def shadowSlots (s : State) (old c : StateCopy) : List Nat :=
  (List.range 32).filter (fun i =>
    match old.slots[i]?, c.slots[i]? with
    | some a, some b =>
      let t : Word := match c.slots[b.trk.val]? with
        | some x => x.out
        | none => s.getReg (VSLOT.OUT b.trk.val)
      s.slotOn i && !s.slotFenced i && shadowBad (s.coefs i b.bank) (s.getReg (VSLOT.FF i)) t (s.getF (VSLOT.SLOT_CFG_INT_SHIFT i)) a b
    | _, _ => false)

/-- A mismatch is raised and reported (R454). -/
def shadowRaise (s : State) (reason slot : Nat) : State :=
  (s.updPair (fun x => { x with shadowAt := some s.dev.nowUs, shadowSent := some (reason, slot) })).raise 210 [reason, 0, slot]

/-- The shadow compare of a copy that follows the one before (R454). -/
def shadowCompare (s : State) (c : StateCopy) : State :=
  let s : State := match s.pair.copy with
    | some old =>
      if old.cycle + 1 = c.cycle then
        let bad := s.shadowSlots old c
        let run := (List.range 32).map (fun i => if bad.contains i then s.pair.shadowRun.getD i 0 + 1 else 0)
        let s := bad.foldl (fun (s : State) _ => s.incSat RIDGE.CNT_SHADOW_MISMATCH) (s.updPair (fun x => { x with shadowRun := run }))
        (List.range 32).foldl (fun (s : State) i => if run.getD i 0 = s.getF RIDGE.PAIR_TMO_SHADOW_N then s.shadowRaise 1 i else s) s
      else s.updPair (fun x => { x with shadowRun := List.replicate 32 0 })
    | none => s
  match s.pair.inAt.find? (fun (e : Nat × Word × Word) => e.1 = c.cycle.toNat) with
  | some (_, v, i) => if v = c.vBus ∧ i = c.iShelf then s else (s.incSat RIDGE.CNT_SHADOW_INPUT).shadowRaise 2 0
  | none => s

/-- Bytes from `ofs` on replaced, the list grown with zeros as it needs. -/
def spliceBytes (l : List Byte) (ofs : Nat) (d : List Byte) : List Byte :=
  (l ++ List.replicate (ofs - l.length) 0).take ofs ++ d ++ l.drop (ofs + d.length)

/-- The selected-data chunk of a copy (R452, R453). -/
def selected (s : State) (c : SelChunk) : State :=
  let k := c.string.toNat % 24
  let put (l : List (Nat × List Byte)) : List (Nat × List Byte) :=
    insertKey k (spliceBytes ((lookupKey k l).getD []) c.ofs.toNat c.data) (eraseKey k l)
  if c.kind = 1 then
    let l := put s.pair.rxCap
    let s := s.updPair (fun x => { x with rxCap := l })
    let p := (lookupKey k l).getD []
    if 1984 ≤ c.ofs.toNat + c.data.length then s.psQueue (0x0400 + k) (p.take 1984) else s
  else if c.kind = 2 then s.updPair (fun x => { x with rxLearn := put x.rxLearn })
  else if c.kind = 3 then s.setN RIDGE.PARTNER_SEQ (leNat (bytesNat (c.data.take 4)))
  else s

/-- The grid error of a COPY or BEACON (R450): lock within ±10 ns; 16 frames outside are counted for GRID_LOCK_LOST. -/
def gridStep (s : State) (err : Int) : State :=
  let e := if 32767 < err then 32767 else if err < -32768 then -32768 else err
  let s := s.setF RIDGE.LINK_STAT_GRID_ERR (toBits 16 e)
  if e.natAbs ≤ 10 then (s.updPair (fun x => { x with gridBad := 0 })).setF RIDGE.PAIR_STAT_GRID_LOCK 1
  else s.updPair (fun x => { x with gridBad := x.gridBad + 1 })

/-- Learning progress of a string is taken over (R453). The selected data give its bytes no layout: state, counters and anchors are free (log entry 33). -/
def resumeLearn (s : State) (k : Nat) : State :=
  if (lookupKey k s.pair.rxLearn).isNone then s
  else
    let (a, s) := s.takeFree
    let (b, s) := s.takeFree
    let (c, s) := s.takeFree
    let (d, s) := s.takeFree
    let (t, s) := s.takeFree
    let s := (((s.setF (ESTSTR.LRN_STAT_STATE k) (a.toNat % 2)).setReg (ESTSTR.LRN_AH k) b).setReg (ESTSTR.LRN_THRU k) c).setReg
      (ESTSTR.LRN_CHG k) d
    let s := s.setReg (ESTSTR.LRN_T0 k) t
    let n := (s.estOf k).cells.length
    let f := s.free
    let s := { s with free := f + n }
    s.updEst k (fun e => { e with cells := e.cells.zipIdx.map (fun (x : CellSt × Nat) =>
      let w := Config.freeWord (f + x.2)
      { x.1 with anchor := w.extractLsb' 0 16, part := w.getLsbD 16 }) })

/-- A'_k + T_k of a cycle as the taker knows it (R299): from the copy of that cycle, else its own of that cycle. -/
def ownSum (s : State) (c : StateCopy) (k cyc : Nat) : Option Word :=
  if c.cycle.toNat = cyc then
    let a : Word := match c.strs[k]? with
      | some x => x.alloc
      | none => 0
    let t : Word := match c.slots[8 + k]? with
      | some x => x.out
      | none => 0
    some (F32.add a t)
  else (lookupKey cyc s.pair.ownAt).map (fun l => l.getD k 0)

/-- F_k that a takeover estimates while a cornice is open (R299): the I_SET heard on the ring less A'_k + T_k of the same cycle, clamped together to ±MAX_AMP; 0 where none was heard in the last two cycles before the copies failed (log entry 117). -/
def takeF (s : State) (c : StateCopy) : List Word :=
  let l := (List.range 24).map (fun k =>
    match s.pair.heard.getD k none with
    | some (cyc, i) =>
      if s.shelf.cycle < cyc + 2 + s.pair.missRun then
        match s.ownSum c k cyc with
        | some x => F32.sub i x
        | none => 0
      else 0
    | none => 0)
  let sum := F32.sumX l
  let m := F32.abs (s.getReg CORNICE.MAX_AMP)
  if F32.lt m (F32.abs sum) then l.map (fun x => F32.mul x (F32.div m (F32.abs sum))) else l

/-- An open cornice of the former active controller collapses with outcome TAKEOVER (R299, Table 9-5). -/
def takeCornice (s : State) (c : StateCopy) : State :=
  let isn : Half := match s.cn.lastIsn with
    | some i => if epochNewer i.toNat c.isn.toNat then i else c.isn
    | none => c.isn
  let s := (s.updCn (fun x => { x with lastIsn := some isn, backoffUs := 1000 * c.backoffLeft.toNat })).setF CORNICE.CNT_C_MISS c.miss.toNat
  if c.corniceOpen then
    let f := s.takeF c
    -- its trigger and ISN; the copy carries no r (R297, log entry 116)
    let (r, s) := s.takeFree
    let s := ((s.setF CORNICE.CN_STAT_ISN (c.cnStat.toNat / 2 ^ 16)).setB CORNICE.CN_STAT_SRC (c.cnStat.getLsbD 5)).setReg CORNICE.RATIO r
    let sum := F32.sumX f
    let s := s.updCn (fun x => { x with rampFrom := sum, rampUs := 0, recorded := false, fold := none, first := some f })
    let s := forAll 24 (fun s k => s.setReg (CORNICE.F k) (f.getD k 0)) s
    let s := ((s.setReg CORNICE.PHI_REQ sum).setReg CORNICE.PHI_APP sum).incSat CORNICE.CNT_B_COLLAPSE
    ((s.setF CORNICE.CN_STAT_OUTCOME ocTAKEOVER).setF CORNICE.CN_STAT_OPEN 1).setF CORNICE.CN_STAT_STATE cnCOLLAPSING
  else (s.setF CORNICE.CN_STAT_OPEN 0).setF CORNICE.CN_STAT_STATE (if c.backoffLeft = 0 then cnIDLE else cnBACKOFF)

/-- The allocator state, crest buckets, REG_MODE, references and the regulation slot's hold of a copy (R458 steps 2 and 5). -/
def restoreCopy (s : State) (c : StateCopy) : State :=
  let s := forAll 24 (fun s k =>
    match c.strs[k]? with
    | some x =>
      let s := ((s.setReg (ALLOC.A k) x.alloc).setReg (ALLOC.WDIS k) x.wdis).setReg (ALLOC.WCHG k) x.wchg
      s.updShelf (fun z => { z with gate := z.gate.set k (wordGate x.gate), iMeas := z.iMeas.set k x.iMeas, sentA := z.sentA.set k x.alloc, refA := z.refA.set k x.alloc })
    | none => s) s
  let s := s.setReg ALLOC.WSSN c.wssn
  let s := ((s.setReg CREST.BUCKET_DIS c.bucketDis).setReg CREST.BUCKET_CHG c.bucketChg)
  let s := (s.setReg CREST.P_LIM_DIS c.pLimDis).setReg CREST.P_LIM_CHG c.pLimChg
  let s := ((s.setReg SHELF.DEMAND c.demand).setReg SHELF.P_REF c.pRef).setB SHELF.REG_STAT_START_RAMP c.startRamp
  let s := s.updShelf (fun z => { z with startRef := c.startRef, hold := z.hold.set c.actSlot.val (c.holdRow.toNat, c.holdOut) })
  (s.setB SHELF.REG_STAT_MODE_ACT c.regMode).setF SHELF.REG_STAT_ACT_SLOT c.actSlot.val

/-- What every way into the active role has in common: the epoch, the plant timer, the groups of R469, the set numbers of R160. -/
def takeRole (s : State) (copied : Bool) : State :=
  let s := (s.setEpoch s.newEpoch).setF RIDGE.PAIR_STAT_ACTIVE 1
  let per := 1000 * s.getF SAMPLE.SET_CFG_PERIOD
  let last : Option Nat := match s.sample.set_, s.sample.closed with
    | some o, _ => some o.atUs
    | none, some c => some c.atUs
    | none, none => none
  let next : Option Nat := if copied then last.map (fun t => s.reachable (t + per) per) else none
  let s := s.updShelf (fun x => { x with plantOn := true, plantUs := 0, startReg := !copied })
  let s := s.updSample (fun x => { x with nextUs := next })
  let s := s.updPair (fun x => { x with
    settled := true, missRun := 0, yieldSeen := false, taking := false, handover := false, partnerHeld := false, copy := none
    yieldReq := false, yielded := false })
  s.showNextSsn.actGroups true

/-- Hold-up is entered at the same boundary where the copy shows HOLDING or HAND_BACK (R458 step 3). -/
def takeHoldup (s : State) (c : StateCopy) : State :=
  if c.huState = 1 ∨ c.huState = 2 then
    let s := s.updShelf (fun x => { x with huUs := 0, huTmaxSeen := false, huTold := false })
    let s := ((s.setF HOLDUP.HU_STAT_STATE 1).incSat HOLDUP.HU_STAT_ENTRIES).setF HOLDUP.HU_STAT_CAUSE c.huCause.toNat
    let s := (s.setN HOLDUP.HU_TIME 0).setF HOLDUP.HU_STAT_REL_LATCHED 0
    (s.setMode mHOLDUP).raise 109 [1, c.huCause.toNat]
  else s

/-- FS_RDG_TAKEOVER with its counters (R458 steps 8 and 9). -/
def takeTell (s : State) (code : Nat) : State :=
  let s := (s.incSat RIDGE.TAKEOVERS_TAKEN).setF RIDGE.PAIR_STAT_LAST_TAKE code
  s.raise 211 (code :: leBytes 2 (s.getF RIDGE.EPOCH_EPOCH))

/-- The new active controller's mode (Table 3-2), but for the handovers of a proof test (R471). -/
def takeMode (s : State) : State := if s.proofBusy then s else s.setMode s.runOrDegraded

/-- A takeover (R458). -/
def takeOver (s : State) (code : Nat) : State :=
  let c := s.pair.copy
  let s := (s.takeRole c.isSome).updPair (fun x => { x with firstAt := some s.dev.nowUs })
  let s := match c with
    | some c =>
      let s := (s.restoreCopy c).takeCornice c
      let a := s.actSlot
      let s := (s.setF (VSLOT.SLOT_CTRL_MODE a) 0).updVs a (fun v => { v with needPreset := true, target := none })
      -- in a hold-up that goes on, the HOLD slot keeps its restored state (R458 step 3)
      if c.huState = 1 ∨ c.huState = 2 then s.updVs (s.roleSlot roHOLD) (fun v => { v with needPreset := false }) else s
    | none => s
  let s := s.takeMode
  let s := match c with
    | some c => s.takeHoldup c
    | none => s
  (forAll 24 resumeLearn s).takeTell code

/-- The active role ends (R460, R461): no SETPOINT, SYNC or SDM_CLK; WATCH, but in a proof test. -/
def leaveRole (s : State) : State :=
  let s := (s.incSat RIDGE.TAKEOVERS_YIELDED).setF RIDGE.PAIR_STAT_ACTIVE 0
  let s := s.updPair (fun x => { x with yieldReq := false, handover := false, yielded := false, settled := true, missRun := 0, copy := none })
  let s := (s.updSample (fun x => { x with nextUs := none })).showNextSsn.actGroups false
  let s := s.updShelf (fun x => { x with startReg := false, plantOn := false })
  if s.proofBusy ∨ s.mode = mWATCH ∨ s.getB DEV.MODE_STAT_DESCENT then s else s.setMode mWATCH

/-- The role settles active after the ascent (Table 15-1): regulation starts from zero demand. With BELAY_EN the token comes first. -/
def settleActive (s : State) : State :=
  let s := s.takeRole false
  s.setMode s.runOrDegraded

/-- A write of PAIR_CMD (R460, R471). -/
def pairCmd (s : State) (yield_ proof : Bool) : State :=
  if !s.isPair then s
  else
    let act := s.getB RIDGE.PAIR_STAT_ACTIVE
    let s := if yield_ ∧ act ∧ s.getB RIDGE.PAIR_STAT_PARTNER_HEALTHY then s.updPair (fun x => { x with yieldReq := true }) else s
    if !proof then s
    else if !act ∧ s.mode = mSERVICE ∧ s.getF RIDGE.PAIR_STAT_PARTNER_MODE = mSERVICE ∧ !s.proofBusy then
      (s.setN RIDGE.PROOF_STAT (2 ^ 31)).updPair (fun x => { x with proofActive := act })
    else s.setF RIDGE.PROOF_STAT_RESULT 3

/-- CNT_CTRL.CLR of RIDGE (R473). -/
def ridgeCntClr (s : State) : State :=
  (((s.setReg RIDGE.CNT_COPY 0).setReg RIDGE.CNT_RELAY 0).setReg RIDGE.CNT_SHADOW 0).setReg RIDGE.CNT_BELAY 0

/-- The conditions of a revert (R467), but for the hold-off. -/
def revertOk (s : State) : Bool :=
  let quiet : Bool := match s.pair.shadowAt with
    | some t => 10000000 < s.dev.nowUs - t
    | none => true
  s.dev.form = 1 && s.isStandby && s.mode == mWATCH && s.healthy && s.getB RIDGE.PAIR_STAT_LINK && s.getB RIDGE.PAIR_STAT_CFG_MATCH
    && s.getB RIDGE.PAIR_STAT_GRID_LOCK && quiet && !s.getB RIDGE.PAIR_CFG_REVERT_SUSP && !s.pair.partnerSusp

/-- REVERT_PEND and REVERT_LEFT (R467). -/
def revertStep (s : State) : State :=
  let hold := s.getF RIDGE.PAIR_CFG_REVERT_HOLDOFF
  if s.revertOk then
    let from_ := s.pair.revertFrom.getD s.dev.nowUs
    let s := s.updPair (fun x => { x with revertFrom := some from_ })
    (s.setF RIDGE.PAIR_STAT_REVERT_PEND 1).setF RIDGE.REVERT_LEFT_S (hold - (s.dev.nowUs - from_) / 1000000)
  else ((s.updPair (fun x => { x with revertFrom := none })).setF RIDGE.PAIR_STAT_REVERT_PEND 0).setF RIDGE.REVERT_LEFT_S 0

/-- SETPOINTs to the far segments of broken rings (R142, R468), from the entry of this cycle. -/
def relaySetpoints (s : State) : State := forAll 24 (fun s n =>
  if s.relays n && s.portLive n && !s.getB (YPORT.PORT_CFG_MONITOR_ONLY n) then
    s.relay ⟨Fin.ofNat 24 n, true, false, none, s.readBytes (linkBuf n + 0x1800 + 128 * (s.shelf.cycle % 2)) 24⟩
  else s) s

/-- SETPOINTs leave in this cycle: the frame mover works, and no restart has emptied their entries since the boundary (R189). -/
def setpointsLeave (s : State) : Bool := s.sends && s.fmOk && !s.fm.flushed

/-- The SETPOINTs of a cycle start (R17, R24, R142, R270, R451): what was sent is kept for APPLY_TOL, requests of the ports' own and waiting frames leave, an active member captures its copy, a standby its inputs. -/
def setpointStart (s : State) : State :=
  let s := s.updPair (fun x => { x with relayed := [] })
  let s := if s.setpointsLeave then s.relaySetpoints else s
  let s := (forAll 24 (fun s n => (s.askSeen n).ownSend n) s).svCycle
  let s := if s.setpointsLeave then s.updShelf (fun x => { x with sent := ((x.cycle, x.iSet) :: x.sent).take 16 }) else s
  let room := (s.cycleUs - 19) * 3 / 2
  let s := forAll 24 (fun s n => if s.portLive n then s.updPort n (fun x => { x with tx := drainTx room x.tx }) else s) s
  if !s.isPair then s
  else if s.getB RIDGE.PAIR_STAT_ACTIVE then
    let s := if s.pair.yieldReq ∧ s.mayHandOver then s.updPair (fun x => { x with handover := true }) else s
    s.updPair (fun x => { x with sent := some s.captureCopy, selQ := if s.dmMoves 5 then x.selQ.tail else x.selQ })
  else
    let sums := (List.range 24).map (fun k => F32.add (s.shelf.sentA.getD k 0) (s.getReg (VSLOT.OUT (8 + k))))
    s.updPair (fun x => { x with
      inAt := ((s.shelf.cycle, s.getReg SAMPLE.V_BUS, s.getReg SAMPLE.I_SHELF) :: x.inAt).take 2
      ownAt := ((s.shelf.cycle, sums) :: x.ownAt).take 6 })

end State

open State

/-- SETPOINT_START (R17). -/
def execSetpointStart (s : State) : Host.Outcome State Fault Refusal := s.heldRun fun s =>
  if s.operating then .next s.setpointStart else .next s

/-- RIDGE_LINK_UP (R448, R450). -/
def execRidgeLinkUp (rttNs : Half) (s : State) : Host.Outcome State Fault Refusal :=
  if s.powered ∧ s.isPair ∧ s.getB RIDGE.PAIR_STAT_LINK = false then
    .next ((s.setF RIDGE.LINK_STAT_RTT rttNs.toNat).setF RIDGE.PAIR_STAT_LINK 1)
  else .next s

/-- The Ridge link is down (R448, R468, Table 15-6): the far segment of every broken ring is out of reach; a token that the other controller holds is reported. -/
def State.ridgeDown (s : State) : State :=
  let s := ((s.setF RIDGE.PAIR_STAT_LINK 0).setF RIDGE.PAIR_STAT_GRID_LOCK 0).setF RIDGE.PAIR_STAT_PARTNER_HEALTHY 0
  let s := s.revertStep.raise 208 [1]
  let s := if s.belayTaken then s.raise 214 [2] else s
  if s.isActive then
    forAll 24 (fun s n => if s.getB (YPORT.PORT_STAT_BROKEN n) then (s.incSat RIDGE.CNT_RELAY_FAILED).raise 215 [n, 1] else s) s
  else s

/-- RIDGE_LINK_DOWN. -/
def execRidgeLinkDown (s : State) : Host.Outcome State Fault Refusal :=
  if s.powered ∧ s.isPair ∧ s.getB RIDGE.PAIR_STAT_LINK then .next s.ridgeDown else .next s

/-- RIDGE_RELOCK (Table 3-11): the third within 1 s is reported. -/
def execRidgeRelock (s : State) : Host.Outcome State Fault Refusal :=
  if s.powered ∧ s.isPair then
    let l := (s.dev.nowUs :: s.pair.relocks).filter (fun t => s.dev.nowUs - t ≤ 1000000)
    if 3 ≤ l.length then .next ((s.updPair (fun x => { x with relocks := [] })).raise 208 [2])
    else .next (s.updPair (fun x => { x with relocks := l }))
  else .next s

/-- A copy with a new SSN shows an emission in the cycle before (R160): a standby that serves a segment and holds no series yet continues from its instant, the lead later (R142; log entry 113). -/
def State.copySsn (s : State) (ssn : Word) : State :=
  if s.servesSegment ∧ s.sample.nextUs = none ∧ s.sample.set_ = none ∧ ssn ≠ s.sample.ssn then
    let per := 1000 * s.getF SAMPLE.SET_CFG_PERIOD
    s.updSample (fun x => { x with nextUs := some (s.leadAt + per) })
  else s

/-- COPY_RX (R450, R452 to R456, R461, Table 15-1): a standby takes a COPY or BEACON. -/
def execCopyRx (c : StateCopy) (s : State) : Host.Outcome State Fault Refusal :=
  if s.operating ∧ s.isStandby ∧ s.getB RIDGE.PAIR_STAT_LINK then
    let s := (s.gridStep c.gridErrNs).setF RIDGE.PAIR_STAT_DEMOTED 0
    let s := s.updPair (fun x => { x with missRun := 0, settled := true })
    if c.beacon then .next s
    else
      let s := s.shadowCompare c
      let s := (s.loadSlots c).selected c.chunk
      let s := (s.copySsn c.ssn).updSample (fun x => { x with ssn := c.ssn, copySeen := true })
      let n := c.cycle.toNat
      let s := if s.shelf.cycle = n ∨ s.shelf.cycle = (n + 1) % 2 ^ 32 then s else s.updShelf (fun x => { x with cycle := n })
      .next (s.updPair (fun x => { x with copy := some c, taking := x.taking || c.handover }))
  else .next s

/-- A missed copy with its code (R455, Table 15-6); the third in a row with no takeover is reported. -/
def State.copyMiss (s : State) (code : Nat) (how : RaiseHow) : State :=
  let s := s.incSat RIDGE.CNT_COPY_MISSED
  let s := if code = 2 then s.incSat RIDGE.CNT_COPY_CRC else s
  let s := raiseN 8 (s.updPair (fun x => { x with missRun := x.missRun + 1 })) 209 (code :: leBytes 4 s.shelf.cycle) how
  if s.pair.missRun = 3 then s.blockedRaise else s

/-- COPY_MISSED (R455 to R457): the third in a row is a trigger; a block is reported. The boundary advances the slot state by itself. -/
def execCopyMissed (why : CopyMiss) (s : State) : Host.Outcome State Fault Refusal :=
  if s.operating ∧ s.isStandby ∧ s.pair.copy.isSome then
    let code := match why with
      | .notStarted => 1
      | .crc => 2
      | .cutOff => 3
    .next (s.copyMiss code .plain)
  else .next s

/-- GRID_LOCK_LOST (R450). -/
def execGridLockLost (s : State) : Host.Outcome State Fault Refusal :=
  if s.isStandby ∧ s.getB RIDGE.PAIR_STAT_GRID_LOCK ∧ 16 ≤ s.pair.gridBad then
    .next ((s.setF RIDGE.PAIR_STAT_GRID_LOCK 0).raise 208 [3])
  else .next s

/-- HELLO_EXCHANGE (R466, R467): hashes, mode and health of the other controller. -/
def execHelloExchange (h : Hello) (s : State) : Host.Outcome State Fault Refusal :=
  if s.powered ∧ s.isPair ∧ s.getB RIDGE.PAIR_STAT_LINK then
    let own := Config.cfgHash ((hashedIds.flatMap s.cfgEntries) ++ ((List.range 8).flatMap profWords).map (fun w => (w.addr, s.getReg w.addr)))
    let s := (s.setReg RIDGE.CFG_HASH own).setReg RIDGE.PARTNER_HASH h.hash
    let s := (s.setF RIDGE.PAIR_STAT_PARTNER_MODE h.mode.toNat).setB RIDGE.PAIR_STAT_PARTNER_HEALTHY h.healthy
    let s := (s.setB RIDGE.PAIR_STAT_CFG_MATCH (own = h.hash)).setB RIDGE.PAIR_STAT_SELF_HEALTHY s.healthy
    let s := s.updPair (fun x => { x with
      partnerDrives := h.drivesBelay, partnerActive := h.active, partnerSusp := h.revertSusp })
    let s := if own = h.hash then (if s.getCond 216 then s.endL 216 else s)
      else if s.getCond 216 then s else s.raiseL 216 (leBytes 4 own.toNat ++ leBytes 4 h.hash.toNat)
    let s := if h.healthy then (if s.getCond 212 then s.endL 212 else s) else if s.getCond 212 then s else s.raiseL 212 [3]
    .next s.revertStep
  else .next s

/-- YIELD_RX (R457). -/
def execYieldRx (s : State) : Host.Outcome State Fault Refusal :=
  if s.operating ∧ s.isStandby then .next (s.updPair (fun x => { x with yieldSeen := true })).blockedRaise else .next s

/-- SHADOW_REPORT_RX (R454): the active controller raises the same source. -/
def execShadowReportRx (reason : Byte) (slot : Byte) (s : State) : Host.Outcome State Fault Refusal :=
  if s.operating ∧ s.isPair ∧ s.isActive then
    .next ((s.updPair (fun x => { x with shadowAt := some s.dev.nowUs })).raise 210 [reason.toNat, 1, slot.toNat])
  else .next s

/-- RELAY_RX (R468, R142): a frame for the far segment leaves by the ring port, a SETPOINT from the entry of its cycle; one from it counts as received. -/
def execRelayRx (f : RelayFrame) (s : State) : Host.Outcome State Fault Refusal :=
  let n := f.port.val
  if s.operating ∧ s.isPair ∧ s.getB RIDGE.PAIR_STAT_LINK ∧ s.portLive n then
    let s :=
      if f.toNode then
        if (f.frame.getD 1 0).toNat % 16 = 4 then s.writeBytes (linkBuf n + 0x1800 + 128 * (s.shelf.cycle % 2)) f.frame else s.queueRaw n f.frame
      else match f.sample with
        | some x => s.sampleIn n x
        | none =>
          let h1 := (f.frame.getD 1 0).toNat
          if h1 % 16 = 5 then s.statusIn n (statusOf f.frame)
          else s.ringPut n (f.frame.getD 0 0).toNat h1 (f.frame.getD 3 0).toNat (bytesNat ((f.frame.drop 4).take (f.frame.getD 2 0).toNat)) 0
    .next (if f.late then (s.incSat RIDGE.CNT_RELAY_LATE).raise 215 [n, 2] else s)
  else .next s

/-- TAKEOVER (R457, R458). -/
def execTakeover (t : TakeTrigger) (s : State) : Host.Outcome State Fault Refusal := s.heldRun fun s =>
  let ready : Bool := match t with
    | .missedCopies => 3 ≤ s.pair.missRun
    | .yield => s.pair.yieldSeen
    | .tokenRelease => s.tokenGone
  let code := match t with
    | .missedCopies => 1
    | .yield => 2
    | .tokenRelease => 3
  if s.operating ∧ s.isStandby ∧ ready ∧ s.takeBlocked = false then .next (s.takeOver code) else .next s

/-- FIRST_SETPOINT_AFTER_TAKEOVER (R459, R299): off a shelf-cycle boundary the first SETPOINTs carry the restored A'_k + T_k, with F_k of a cornice that collapses. -/
def execFirstSetpointAfterTakeover (s : State) : Host.Outcome State Fault Refusal := s.heldRun fun s =>
  match s.pair.firstAt with
  | some t =>
    let s := s.updPair (fun x => { x with firstAt := none })
    if t = s.dev.nowUs then
      let s := forAll 24 (fun s k =>
        let f : Word := match s.cn.first with
          | some l => l.getD k 0
          | none => 0
        let i := F32.add (F32.add (s.shelf.sentA.getD k 0) (s.getReg (VSLOT.OUT (8 + k)))) f
        let s := s.updShelf (fun x => { x with iSet := x.iSet.set k i, en := x.en.set k (decide (0 < s.gateOf k)) })
        if !s.portLive k ∨ s.getB (YPORT.PORT_CFG_MONITOR_ONLY k) ∨ !s.sends then s
        else s.writeBytes (linkBuf k + 0x1800 + 128 * (s.shelf.cycle % 2)) ((s.setpointBytes k i (decide (0 < s.gateOf k)) false).map (BitVec.ofNat 8))) s
      .next s.setpointStart
    else .next s.setpointStart
  | none => .next s

/-- PLANNED_HANDOVER_BOUNDARY (Table 15-3, step 4): it comes before the evaluation of that boundary. The yielder leaves the active role; the taker, which got the copy with HANDOVER, continues from it without a preset. -/
def execPlannedHandoverBoundary (s : State) : Host.Outcome State Fault Refusal :=
  if s.operating ∧ s.isPair ∧ s.getB RIDGE.PAIR_STAT_ACTIVE ∧ s.pair.handover then .next s.leaveRole
  else match s.pair.copy with
    | some c =>
      if s.operating ∧ s.isStandby ∧ s.pair.taking then
        let revert := s.pair.revertSent
        let s := ((s.takeRole true).restoreCopy c).takeCornice c
        let s := (s.updPair (fun x => { x with revertSent := false })).takeMode
        .next ((forAll 24 resumeLearn s).takeTell (if revert then 4 else 2))
      else .next s
    | none => .next s

/-- PROOF_TEST_END (R471): the result, and the role and token back as they were. -/
def execProofTestEnd (step : BitVec 4) (index : Byte) (s : State) : Host.Outcome State Fault Refusal :=
  if s.proofBusy then
    let s := if s.getB RIDGE.PAIR_STAT_ACTIVE ∧ s.pair.proofActive = false then (s.leaveRole).setF RIDGE.PAIR_STAT_BELAY_OWN 0 else s
    let s := (s.setF RIDGE.PROOF_STAT_BUSY 0).setF RIDGE.PROOF_STAT_RESULT (if step.toNat = 0 then 1 else 2)
    let s := (s.setF RIDGE.PROOF_STAT_FAIL_STEP step.toNat).setF RIDGE.PROOF_STAT_FAIL_INDEX (if step.toNat = 0 then 0 else index.toNat)
    .next (if step.toNat = 0 then s else s.raise 217 [step.toNat, index.toNat])
  else .next s

/-- EPOCH_DEMOTE (R461). -/
def execEpochDemote (n : NewerEpoch) (s : State) : Host.Outcome State Fault Refusal :=
  if s.operating ∧ s.isPair ∧ s.isActive ∧ epochNewer n.epoch.toNat (s.getF RIDGE.EPOCH_EPOCH) then
    let s := (s.leaveRole.setF RIDGE.PAIR_STAT_DEMOTED 1).setF RIDGE.PAIR_STAT_BELAY_OWN 0
    let s := s.updPair (fun x => { x with demotedAt := s.dev.nowUs })
    .next (s.raise 213 (n.port.val :: leBytes 2 n.epoch.toNat))
  else .next s

/-- DEMOTE_HOLD_EXPIRY (R461). -/
def execDemoteHoldExpiry (s : State) : Host.Outcome State Fault Refusal :=
  if s.pair.demotedAt + 100000 * s.getF RIDGE.PAIR_TMO_DEMOTE_HOLD ≤ s.dev.nowUs then .next (s.setF RIDGE.PAIR_STAT_DEMOTED 0) else .next s

/-- PARTNER_WAIT_EXPIRY (Table 15-1, R462): no link, and for the partner no SETPOINT heard. A home chip whose RIDGE page did not start has no partner. -/
def execPartnerWaitExpiry (s : State) : Host.Outcome State Fault Refusal :=
  let alone := !s.getB RIDGE.PAIR_STAT_LINK && (s.dev.form = 1 || s.pair.heard.all (fun x => x.isNone))
  let alone := if s.pgRunning pRIDGE then alone else s.dev.form == 1
  let token := !s.getB RIDGE.PAIR_CFG_BELAY_EN || s.getB RIDGE.PAIR_STAT_BELAY_OWN
  if s.isPair ∧ s.mode = mWATCH ∧ s.isStandby ∧ s.pair.settled = false ∧ alone ∧ token ∧
      s.pair.watchAt + 1000 * s.getF RIDGE.PAIR_TMO_PARTNER_WAIT ≤ s.dev.nowUs then
    .next (s.settleActive.raise 212 [1])
  else .next s

/-- ROLE_SETTLE (Table 15-1, rows 2 and 5): the home chip becomes active, the partner standby. -/
def execRoleSettle (s : State) : Host.Outcome State Fault Refusal :=
  let token := !s.getB RIDGE.PAIR_CFG_BELAY_EN || s.getB RIDGE.PAIR_STAT_BELAY_OWN
  if s.isStandby ∧ s.mode = mWATCH ∧ s.pair.settled = false ∧ s.getB RIDGE.PAIR_STAT_LINK then
    if s.dev.form = 1 then
      if s.pair.copy.isNone ∧ token ∧ s.getF RIDGE.PAIR_STAT_PARTNER_MODE = mWATCH then .next s.settleActive else .next s
    else .next (s.updPair (fun x => { x with settled := true }))
  else .next s

/-- BELAY_CLAIM (R463): the line read high for T_FREE, pulsed and sampled. -/
def execBelayClaim (lineHigh : Bool) (s : State) : Host.Outcome State Fault Refusal :=
  if s.operating ∧ s.isPair ∧ s.getB RIDGE.PAIR_CFG_BELAY_EN ∧ s.getB RIDGE.PAIR_STAT_BELAY_OWN = false
      ∧ s.getB RIDGE.PAIR_STAT_BELAY_LOW = false ∧ s.getB (SEQ.INP_STAT_STUCK 4) = false then
    if lineHigh then .next ((s.setF RIDGE.PAIR_STAT_BELAY_OWN 1).incSat RIDGE.CNT_BELAY_CLAIMS)
    else .next (s.incSat RIDGE.CNT_BELAY_ARB_LOST)
  else .next s

/-- BELAY_RELEASE (R464): at the last SETPOINT of a yield, at a demotion, at descent step 3, at the YIELD of R425. -/
def execBelayRelease (s : State) : Host.Outcome State Fault Refusal :=
  let due := s.pair.handover || s.pair.yielded || s.getB RIDGE.PAIR_STAT_DEMOTED || !s.getB RIDGE.PAIR_STAT_ACTIVE
    || (s.getB DEV.MODE_STAT_DESCENT && 3 ≤ s.dev.descStep)
  if s.isPair ∧ s.getB RIDGE.PAIR_STAT_BELAY_OWN ∧ due then .next (s.setF RIDGE.PAIR_STAT_BELAY_OWN 0) else .next s

/-- REVERT_HOLDOFF_EXPIRY (R467): REVERT_REQ is sent. -/
def execRevertHoldoffExpiry (s : State) : Host.Outcome State Fault Refusal :=
  let s' := s.revertStep
  if s.revertOk ∧ s'.getF RIDGE.REVERT_LEFT_S = 0 then .next (s'.updPair (fun x => { x with revertSent := true })) else .next s'

/-- REVERT_REQ_RX (R467, R460): the active partner makes a planned handover. -/
def execRevertReqRx (s : State) : Host.Outcome State Fault Refusal :=
  if s.operating ∧ s.dev.form = 2 ∧ s.isActive ∧ s.getB RIDGE.PAIR_CFG_REVERT_SUSP = false then
    .next (s.updPair (fun x => { x with yieldReq := true }))
  else .next s

end Sys2Proof.Machine
end

