-- ==== Sys2Proof/Machine/Rail.lean ====
section
/-! DEFINITION. Local rails, phases and the common timebase (chapter 11): the meanings of their commands. RAIL_PERIOD samples, limits, evaluates and writes the duties and keeps the runs that the named events read. -/

namespace Sys2Proof.Machine

namespace State

/-- The on request of a rail: from its sequencer slot when that is enabled, else RAIL_CTRL.ON; a stop request of the page withdraws it. -/
def railOnReq (s : State) (r : Nat) : Bool :=
  s.pgRunning (pRAIL r) &&
    (if s.getB (SEQSLOT.SL_CFG_EN (16 + r)) then s.slotDrives (16 + r) else s.getB (RAIL.RAIL_CTRL_ON r))

/-- The rail is served: its region is live and its page RUNNING or stopping. -/
def railLive (s : State) (r : Nat) : Bool :=
  s.operating && !s.dev.regionDown.contains .rail && (s.pgRunning (pRAIL r) || s.pgState (pRAIL r) == psSTOPPING)

/-- The switching frequency (R349): so many Hz, over a divider. -/
def railHz (s : State) (r : Nat) : Nat × Nat :=
  if s.getB (RAIL.RAIL_CFG_TBSEL r) then (max 1 (1000 * s.getF (RAIL.RAIL_CFG_FSW_KHZ r)), 1)
  else (max 1 s.tb.freqHz, max 1 (s.getF (RAIL.RAIL_CFG_DIV r)))

/-- `n` switching periods last `us` µs or longer. -/
def railLasts (s : State) (r n us : Nat) : Bool :=
  let (f, d) := s.railHz r
  us * f ≤ n * d * 1000000

/-- DPWM steps of 156.25 ps in `d` seconds. -/
abbrev dpwmSteps (d : Nat) : Nat := 6400000000 * d

/-- Where phase number `i` of a rail starts, in DPWM steps after the rail's period boundary (R348). -/
def phStart (s : State) (r i : Nat) : Nat :=
  let (f, d) := s.railHz r
  i * dpwmSteps d / (f * max 1 (s.getF (PHASE.GRP_NPH r)))

/-- A phase that starts there takes a duty in the period of its sample (R355, Table 7-5): the duty is written 250 ns after the sample instant, and applies 20 ns later. -/
def phLate (s : State) (r start : Nat) : Bool :=
  let (f, d) := s.railHz r
  s.getF (RAIL.RAIL_CFG_SAMPLE_PH r) * dpwmSteps d + 1728 * 256 * f ≤ start * 256 * f

/-- SYNC_OUT (R352): low, or a square wave of 50 % duty at so many Hz, with its rising edge so many 256ths of a period after the timebase's. -/
def syncOut (s : State) : Option (Nat × Nat) :=
  if s.operating && !s.dev.regionDown.contains .rail && s.pgRunning pRSYNC && s.getB RSYNC.SYNC_OUT_OUT_EN then
    some (s.tb.freqHz, s.getF RSYNC.SYNC_OUT_PHASE)
  else none

/-- VREF in pV, VREF_EFF in pV and as a word. -/
def vrefPv (s : State) (r : Nat) : Nat := s.getF (RAIL.VREF_V r) * 10 ^ 8
def vrefEffPv (s : State) (r : Nat) : Nat := (s.rail_ r).ramp - (s.rail_ r).drop
def pvWord (pv : Nat) : Word := F32.ofQ false pv (10 ^ 12)

/-- The OV threshold in pV (R361) for a reference in pV. -/
def ovPv (s : State) (r ref : Nat) : Nat := min (ref * (1000 + s.getF (RAIL.PROT_OV_PCT r)) / 1000) (565 * 10 ^ 10)

/-- I_PH of each phase from its CS code over ±60 mV (R362). -/
def measurePhases (s : State) (l : List Nat) (cs : List (BitVec 12)) : State :=
  (l.zip cs).foldl (fun s (pc : Nat × BitVec 12) =>
    let v := signedOf 12 pc.2.toNat
    s.setReg (PHASE.I_PH pc.1) (F32.mul (F32.ofQ (v < 0) (v.natAbs * 60) (2048 * 1000)) (s.getReg (PHASE.CS_GAIN pc.1)))) s

/-- The mean current of a rail's ACTIVE phases other than `p`; with no other phase, 0, which exceeds no bound (R369). -/
def meanOthers (s : State) (r p : Nat) : Word :=
  match ((s.phIn r phACTIVE).filter (· ≠ p)).map (fun q => s.getReg (PHASE.I_PH q)) with
  | [] => 0
  | i :: l => meanOf (i :: l)

/-- I_RAIL: a phase with failed sense contributes the mean of the ACTIVE phases (R362). -/
def sumPhases (s : State) (r : Nat) : Word :=
  let m := meanOf ((s.phIn r phACTIVE).map (fun q => s.getReg (PHASE.I_PH q)))
  F32.sum ((s.railPhases r).map (fun p => if s.phState p = phSENSE_FAILED then m else s.getReg (PHASE.I_PH p)))

/-- The reference ramp of one period in pV (Table 11-1): a rate of mV/ms at a frequency. -/
def rampStep (rate : Nat) (k : Nat × Nat) : Nat := rate * 10 ^ 12 * k.2 / k.1

/-- The reference of one period (Table 11-1); one that starts above VREF waits for REGULATING. -/
def rampRef (s : State) (r : Nat) : State :=
  let k := s.railHz r
  let x := (s.rail_ r).ramp
  let v := s.vrefPv r
  let ss := rampStep (s.getF (RAIL.SS_SS_RATE r)) k
  let sl := rampStep (s.getF (RAIL.SS_VSLEW r)) k
  let y :=
    if s.railState r = rlSOFT_START then (if x < v then min v (x + ss) else x)
    else if s.railState r = rlREGULATING then (if x < v then min v (x + sl) else max v (x - sl))
    else max (5 * 10 ^ 10) (x - ss)
  s.updRail r (fun z => { z with ramp := y })

/-- The rail current limit of one period (R364). -/
def limitRail (s : State) (r : Nat) : State :=
  let i := s.getReg (RAIL.I_RAIL r)
  let lim := F32.mul (s.getReg (RAIL.PH_IMAX r)) (F32.ofNat (s.nPart r))
  let x := s.rail_ r
  let d :=
    if F32.lt lim i then min (x.drop + 10 ^ 9) (x.ramp - 5 * 10 ^ 10)
    else if F32.lt i (F32.mul 0x3F7AE148 lim) then x.drop - 10 ^ 9
    else x.drop
  (s.updRail r (fun z => { z with drop := d, clRun := if d = 0 then 0 else z.clRun + 1, clTold := z.clTold && 0 < d })).setB (RAIL.RAIL_STAT_CUR_LIMIT r) (0 < d)

/-- d of the error ADC in mV steps, saturating at ±0.255 V, and whether it saturates (R356). -/
def errMv (ref sense : Nat) : Int × Bool :=
  let x : Int := (ref : Int) - (sense * 10 ^ 8 : Nat)
  let m : Int := (F32.roundEven x.natAbs (10 ^ 9) : Nat)
  let m := if x < 0 then -m else m
  if 255 < m then (255, true) else if m < -255 then (-255, true) else (m, false)

/-- The duty that a phase applied: its rail slot's OUT plus its balance slot's (R354). -/
def phDuty (s : State) (r p : Nat) : Word :=
  F32.addF (s.getReg (VSLOT.OUT (32 + r))) (if s.slotOn (40 + p) then s.getReg (VSLOT.OUT (40 + p)) else 0)

/-- The runs of R369 and R370 of one phase in one period. -/
def phaseRuns (s : State) (r p : Nat) (code : BitVec 12) : State :=
  let i := s.getReg (PHASE.I_PH p)
  let m := s.meanOthers r p
  let openI := F32.ofQ false (s.getF PHASE.OPEN_CFG_OPEN_I) 100
  let duty := s.phDuty r p
  let rduty := s.getReg (VSLOT.OUT (32 + r))
  let act := s.phState p = phACTIVE
  let isOpen := act ∧ F32.lt (F32.abs i) openI ∧ F32.lt (F32.ofQ false (s.getF PHASE.OPEN_CFG_OPEN_DUTY) 1000) duty
    ∧ F32.lt (F32.mul 0x40800000 openI) m
  let dis := act ∧ s.getB (VSLOT.SLOT_STAT_CLAMPED (40 + p))
    ∧ F32.lt (F32.ofQ false (s.getF PHASE.SENSE_CFG_SENSE_TOL) 10) (F32.abs (F32.sub i m))
  s.updPhase p (fun x =>
    let same := x.lastCs = some code
    { x with
      openRun := if isOpen then x.openRun + 1 else 0
      disRun := if dis then x.disRun + 1 else 0
      stuckRun := if same then x.stuckRun + 1 else 0
      lastCs := some code
      dutyLo := if same then F32.min x.dutyLo rduty else rduty
      dutyHi := if same then F32.max x.dutyHi rduty else rduty })

/-- A shed is aborted (R367): the phase is ACTIVE again and the hold-off restarts. -/
def shedAbort (s : State) (r : Nat) : State :=
  match (s.rail_ r).shed with
  | some (p, _) =>
    let s := (s.setPhase p phACTIVE).updRail r (fun x => { x with shed := none, shedRun := 0 })
    (s.incSat (RAIL.CNT_ABORTS r)).railCounts r
  | none => s

/-- Add, shed condition and shed ramp of one period (R366, R367). -/
def addShed (s : State) (r : Nat) (dMv : Nat) : State :=
  let i := s.getReg (RAIL.I_RAIL r)
  let n := s.nAct r
  let en := s.getB (RAIL.SHED_CFG_SHED_EN r)
  let add := en ∧ F32.lt (F32.mul (F32.ofNat n) (s.getReg (RAIL.I_ADD r))) i
  let s := if (s.rail_ r).shed.isSome ∧ (add ∨ s.getF (RAIL.SHED_CFG_SHED_ABORT r) < dMv) then s.shedAbort r else s
  let s := s.updRail r (fun x => { x with shed := x.shed.map (fun pk => (pk.1, min 8 (pk.2 + 1))) })
  if add then
    match s.phIn r phSHED with
    | p :: _ => ((s.setPhase p phACTIVE).updRail r (fun x => { x with shedRun := 0 })).railCounts r
    | [] => s.updRail r (fun x => { x with shedRun := 0 })
  else
    let want := en ∧ F32.lt i (F32.mul (F32.ofNat (n - 1)) (s.getReg (RAIL.I_SHED r))) ∧ s.getF (RAIL.SHED_CFG_NPH_MIN r) < n
    s.updRail r (fun x => { x with shedRun := if want then x.shedRun + 1 else 0 })

/-- An accepted request opens a rail cornice at the period boundary (R373). -/
def railCnOpen (s : State) (r : Nat) : State :=
  let live := (s.railPhases r).take (s.getF (RAIL.PREP_NPH r))
  let base := meanOf ((s.rail_ r).hist.take 4)
  let s := s.shedAbort r
  let s := (s.setF (RAIL.RAIL_STAT_CN_OPEN r) 1).setReg (RAIL.CN_FF r) (s.getReg (RAIL.PREP_FF r))
  let s := live.foldl (fun s p => if s.phState p = phSHED ∨ s.phState p = phSHEDDING then s.setPhase p phACTIVE else s) s
  let s := s.updRail r (fun x => { x with cnPend := false, cnAge := 0, cnBase := base, cnDown := 0, shedRun := 0 })
  (s.railCounts r).traceAdd (128 + r) 1 kCORNICE false []

/-- The rail cornice of one period (R374): its opening, its confirm or a step of its collapse ramp; the amount to fold. -/
def railCn (s : State) (r : Nat) : State × Option Word :=
  let x := s.rail_ r
  if x.cnPend then (s.railCnOpen r, none)
  else if !s.getB (RAIL.RAIL_STAT_CN_OPEN r) then (s, none)
  else if 0 < x.cnDown then
    let n := x.cnDown - 1
    let s := s.updRail r (fun x => { x with cnDown := n })
    if n = 0 then
      let s := ((s.setReg (RAIL.CN_FF r) 0).setF (RAIL.RAIL_STAT_CN_OPEN r) 0).updRail r (fun x => { x with shedRun := 0 })
      ((s.railCounts r).cnRecord (128 + r) [s.getF (RAIL.CN_STAT_OUTCOME r)], none)
    else (s.setReg (RAIL.CN_FF r) (F32.mul x.cnFrom (F32.ofQ false n 8)), none)
  else
    let age := x.cnAge + 1
    let s := s.updRail r (fun x => { x with cnAge := age })
    let rise := F32.sub (s.getReg (RAIL.I_RAIL r)) x.cnBase
    if age * (s.railHz r).2 * 1000000 ≤ s.getF (RAIL.PREP_WIN_US r) * (s.railHz r).1 ∧ F32.le (F32.mul 0x3F000000 (s.getReg (RAIL.PREP_I r))) rise then
      let f := s.getReg (RAIL.CN_FF r)
      let s := ((s.setReg (RAIL.CN_FF r) 0).setF (RAIL.RAIL_STAT_CN_OPEN r) 0).incSat (RAIL.CN_STAT_CONFIRM r)
      let s := (s.setF (RAIL.CN_STAT_OUTCOME r) ocCONFIRM).railCounts r
      (s.cnRecord (128 + r) [ocCONFIRM], some f)
    else (s, none)

/-- The level of a phase in the coming period (R353, R354): the duty clamped, scaled in a shed (R366), then rounded to the DPWM step. -/
def phPwm (s : State) (r p : Nat) (de : Bool) : Pwm :=
  let st := s.phState p
  if st = phACTIVE ∨ st = phSHEDDING ∨ st = phSENSE_FAILED then
    let (f, d) := s.railHz r
    let u := s.phDuty r p
    let hl := s.getF (RAIL.DEAD_DEAD_HL r)
    let lh := s.getF (RAIL.DEAD_DEAD_LH r)
    let most := (dpwmSteps d - (hl + lh + 128) * f) * 2 ^ 149
    let want := if F32.isNeg u then 0 else min most (F32.scaledMag u * dpwmSteps d)
    let part := match (s.rail_ r).shed with
      | some (q, n) => if q = p then 8 - n else 8
      | none => 8
    let on := F32.roundEven (want * part) (8 * f * 2 ^ 149)
    if on < 8 * s.getF (RAIL.DEAD_TON_MIN r) then (if de then .mid else .low) else .run on hl lh
  else .mid

/-- A phase's shadow register takes its duty; a phase whose start lies late enough in the period loads it at once, the others load the one before (R355). Phase FIRST loads at the boundary that ends the period. -/
def phLoad (s : State) (r j p : Nat) (l : Pwm) : State :=
  let start := s.phStart r j
  let now : Bool := j = 0 || s.phLate r start || l = .mid
  s.updPhase p (fun z => { z with pwm := if now then l else z.shadow, shadow := l, start := start })

/-- The rail slot's evaluation on the error of the rail that its IDX names (R215), with FF scaled in SOFT_START (Table 11-1); no slot is evaluated while the VCE is stopped (Table 2-12). -/
def evalRail (s : State) (r : Nat) (fold : Option Word) : State :=
  let i := 32 + r
  if s.pgRunning pVCE && s.slotOn i then
    let d := (s.rail_ (s.getF (VSLOT.SLOT_CFG_IDX i))).err
    let ff := s.getReg (VSLOT.FF i)
    let ff := if s.railState r = rlSOFT_START then
        F32.mul ff (F32.div (pvWord (s.vrefEffPv r)) (pvWord (s.vrefPv r))) else ff
    let cn := if s.getB (RAIL.RAIL_STAT_CN_OPEN r) then some (s.getReg (RAIL.CN_FF r)) else none
    let fold := if s.slotMode i = 0 then fold else none
    s.evalSlot i ⟨some d, s.slotY i, s.slotRef i, ff, cn, fold, none, false⟩
  else s

/-- What one period measures: V_sense, the runs of power good, UV and the cycle limit, V_OUT, the phases' runs (R356, R361 to R363, R369, R370). -/
def railMeasure (s : State) (r : Nat) (x : RailSample) (ph : List Nat) (sense : Nat) (sat : Bool) : State :=
  let v := s.getF (RAIL.VREF_V r)
  let reg := s.railState r = rlREGULATING
  let inPg := reg ∧ (max v sense - min v sense) * 1000 ≤ s.getF (RAIL.PROT_PG_PCT r) * v
  let uv := reg ∧ sense * 1000 < v * (1000 - s.getF (RAIL.PROT_UV_PCT r))
  let pk := (List.range ph.length).any (fun j => x.pk.getLsbD j && s.phState (ph.getD j 0) ≠ phSHED && s.phState (ph.getD j 0) ≠ phFENCED)
  let s := s.updRail r (fun z => { z with
    vSense := sense, vLoc := x.vLoc
    pgRun := if inPg then z.pgRun + 1 else 0
    uvRun := if uv then z.uvRun + 1 else 0
    uvTold := z.uvTold && uv
    cycRun := if pk then z.cycRun + 1 else 0 })
  let s := if inPg then s else s.setF (RAIL.RAIL_STAT_PG r) 0
  let s := (s.setReg (RAIL.V_OUT r) (F32.ofQ false sense 10000)).setB (RAIL.RAIL_STAT_ERR_SAT r) sat
  (ph.zip x.cs).foldl (fun s (pc : Nat × BitVec 12) => s.phaseRuns r pc.1 pc.2) s

/-- The control of one period, after the rail cornice: the slot's evaluation and DUTY; `i` is the summed current, `dm` the error in mV (R359, R374). -/
def railControl (s : State) (r : Nat) (i : Word) (dm : Int) (fold : Option Word) : State :=
  let s := s.checkFill
  let s := s.updRail r (fun z => { z with hist := (i :: z.hist).take 4 })
  let s := s.setReg (RAIL.VREF_EFF r) (pvWord (s.vrefEffPv r))
  let s := (s.updRail r (fun z => { z with err := F32.ofQ (dm < 0) dm.natAbs 1000 })).evalRail r fold
  let u := s.getReg (VSLOT.OUT (32 + r))
  s.setReg (RAIL.DUTY r) (if s.getB (RAIL.RAIL_STAT_CN_OPEN r) then F32.subF u (s.getReg (RAIL.CN_FF r)) else u)

/-- Diode emulation, the levels of the phases and the balance slots' releases in the coming period (R353 to R355, R228). -/
def railDrive (s : State) (r : Nat) (x : RailSample) (ph : List Nat) : State :=
  let de := s.getB (RAIL.SHED_CFG_DE_EN r) || s.railState r == rlSOFT_START
  let n := ((s.rail_ r).period + 1) % 16
  let s := s.updRail r (fun z => { z with period := n })
  (List.range ph.length).foldl (fun s j =>
    let p := ph.getD j 0
    let dep := de && s.phState p ≠ phSENSE_FAILED
    let s := s.setB (PHASE.PH_STAT_DE p) (dep && x.zc.getLsbD j)
    let s := if n = 0 ∧ s.slotOn (40 + p) then s.gapRelease (40 + p) else s
    s.phLoad r j p (s.phPwm r p dep)) s

/-- One switching period of a switching rail. -/
def railPeriod (s : State) (r : Nat) (x : RailSample) : State :=
  let ph := s.railPhases r
  let sense := if s.getB (RAIL.RAIL_STAT_VLOC_IN_USE r) then x.vLoc else x.vSense
  let s := s.measurePhases ph x.cs
  let i := s.sumPhases r
  let s := ((s.setReg (RAIL.I_RAIL r) i).rampRef r).limitRail r
  let d := errMv (s.vrefEffPv r) sense
  let s := (s.railMeasure r x ph sense d.2).addShed r d.1.natAbs
  let c := s.railCn r
  (c.1.railControl r i d.1 c.2).railDrive r x ph

end State

open State

/-- RAIL_PERIOD (R228, R356, R359 to R368, R374): one switching period of a rail. In FAULT_OFF after an OV with OV_ACT = 1 the phases go from low to mid once V_sense is below VREF_EFF. -/
def execRailPeriod (r : Nat) (x : RailSample) (s : State) : Host.Outcome State Fault Refusal :=
  if !s.railLive r then .next s
  else if s.railState r = rlFAULT_OFF then
    if x.vSense * 10 ^ 8 < s.vrefEffPv r then .next (s.railLevel r .mid) else .next s
  else if !s.railSwitching r then .next s
  else .next (s.railPeriod r x)

/-- A rail fault with its reason (R376). -/
def State.railRaise (s : State) (r reason : Nat) : State :=
  let d := s.railData r reason
  (s.setF (RAIL.RAIL_STAT_LAST_REASON r) reason).raise (128 + r) d

/-- RAIL_ON_REQUEST (Table 11-1): OFF to PREBIAS, SOFT_STOP to SOFT_START. A rail on the common timebase needs RSYNC RUNNING (R379). -/
def execRailOnRequest (r : Nat) (s : State) : Host.Outcome State Fault Refusal :=
  if s.railLive r ∧ s.railOnReq r then
    if s.railState r = rlOFF ∧ (s.getB (RAIL.RAIL_CFG_TBSEL r) ∨ s.pgRunning pRSYNC) then
      .next ((s.railLevel r .mid).setF (RAIL.RAIL_STAT_STATE r) rlPREBIAS)
    else if s.railState r = rlSOFT_STOP then .next (s.setF (RAIL.RAIL_STAT_STATE r) rlSOFT_START)
    else .next s
  else .next s

/-- RAIL_PREBIAS_DONE (Table 11-1, R372): V_pre in 100 µV. -/
def execRailPrebiasDone (r vPre : Nat) (s : State) : Host.Outcome State Fault Refusal :=
  if s.railLive r ∧ s.railState r = rlPREBIAS then
    let lost := 57500 ≤ vPre
    let vloc := s.getB (RAIL.RAIL_CFG_VLOC_EN r)
    if lost ∧ !vloc then .next (((s.railFaultOff r .mid).raise (136 + r) []).railRaise r 6)
    else if !lost ∧ s.ovPv r (s.vrefPv r) < vPre * 10 ^ 8 then .next ((s.railFaultOff r .mid).railRaise r 1)
    else
      let v := if lost then (s.rail_ r).vLoc else vPre
      let s := s.updRail r (fun x => { RailSt.rest with ramp := max (v * 10 ^ 8) (5 * 10 ^ 10), vLoc := x.vLoc, vSense := v, adcBad := x.adcBad })
      let s := (s.railPhases r).foldl (fun s p => if s.phState p = phUNASSIGNED then s.setPhase p phACTIVE else s) s
      let s := (s.updVs (32 + r) (fun x => { x with needPreset := true })).railCounts r
      let s := (s.setB (RAIL.RAIL_STAT_VLOC_IN_USE r) lost).setReg (RAIL.VREF_EFF r) (pvWord (s.vrefEffPv r))
      let s := s.setF (RAIL.RAIL_STAT_STATE r) rlSOFT_START
      if lost then .next (s.raise (136 + r) []) else .next s
  else .next s

/-- RAIL_ON_WITHDRAWN (Table 11-1): to SOFT_STOP, or OFF where OFF_FAST, PREBIAS or FAULT_OFF leave nothing to ramp. -/
def execRailOnWithdrawn (r : Nat) (s : State) : Host.Outcome State Fault Refusal :=
  let st := s.railState r
  if s.railOnReq r then .next s
  else if st = rlSOFT_START ∨ st = rlREGULATING then
    if s.getB (RAIL.RAIL_CFG_OFF_FAST r) then .next (s.railToOff r).checkFill
    else .next (((s.railCnFault r).setF (RAIL.RAIL_STAT_PG r) 0).setF (RAIL.RAIL_STAT_STATE r) rlSOFT_STOP).checkFill
  else if st = rlPREBIAS ∨ st = rlFAULT_OFF then .next (s.railToOff r)
  else .next s

/-- SOFT_START_END (Table 11-1): VREF_EFF has reached VREF. -/
def execSoftStartEnd (r : Nat) (s : State) : Host.Outcome State Fault Refusal :=
  if s.railLive r ∧ s.railState r = rlSOFT_START ∧ s.vrefPv r ≤ s.vrefEffPv r then
    .next (s.setF (RAIL.RAIL_STAT_STATE r) rlREGULATING) else .next s

/-- SOFT_STOP_END (Table 11-1). -/
def execSoftStopEnd (r : Nat) (s : State) : Host.Outcome State Fault Refusal :=
  if s.railLive r ∧ s.railState r = rlSOFT_STOP ∧ (s.vrefEffPv r ≤ 5 * 10 ^ 10 ∨ s.getB (RAIL.RAIL_CFG_OFF_FAST r)) then
    .next (s.railToOff r) else .next s

/-- RAIL_POWER_GOOD (R360). -/
def execRailPowerGood (r : Nat) (s : State) : Host.Outcome State Fault Refusal :=
  if s.railState r = rlREGULATING ∧ 16 ≤ (s.rail_ r).pgRun then .next (s.setF (RAIL.RAIL_STAT_PG r) 1) else .next s

/-- RAIL_UV_TIMER (R360): UV for UV_US, in 10 µs units, reported once; the rail itself is unchanged. -/
def execRailUvTimer (r : Nat) (s : State) : Host.Outcome State Fault Refusal :=
  if s.railState r = rlREGULATING ∧ 0 < (s.rail_ r).uvRun ∧ (s.rail_ r).uvTold = false
      ∧ s.railLasts r (s.rail_ r).uvRun (s.getF (RAIL.PROT_UV_US r) * 10) then
    .next ((s.updRail r (fun x => { x with uvTold := true })).railRaise r 2)
  else .next s

/-- The level that OV_ACT selects (R361). -/
def State.ovLevel (s : State) (r : Nat) : Pwm := if s.getB (RAIL.RAIL_CFG_OV_ACT r) then .low else .mid

/-- RAIL_OV (R361, R372): FAULT_OFF under OV_ACT; without VLOC_EN the report waits 25 µs. -/
def execRailOv (r : Nat) (s : State) : Host.Outcome State Fault Refusal :=
  if s.railLive r ∧ s.railSwitching r then
    let s := s.railFaultOff r (s.ovLevel r)
    if s.getB (RAIL.RAIL_CFG_VLOC_EN r) then .next (s.railRaise r 1)
    else .next (s.updRail r (fun x => { x with ovHeld := true }))
  else .next s

/-- OV_REPORT_HOLD_EXPIRY (R372). -/
def execOvReportHoldExpiry (r : Nat) (s : State) : Host.Outcome State Fault Refusal :=
  if (s.rail_ r).ovHeld then .next ((s.updRail r (fun x => { x with ovHeld := false })).railRaise r 1) else .next s

/-- SENSE_OPEN_DETECT (R372): VLOC in 100 µV. -/
def execSenseOpenDetect (r vLoc : Nat) (s : State) : Host.Outcome State Fault Refusal :=
  if !s.railLive r then .next s
  else
    let s1 := s.raise (136 + r) []
    if s.railState r = rlFAULT_OFF ∧ (s.rail_ r).ovHeld then
      .next (((s1.updRail r (fun x => { x with ovHeld := false })).railLevel r .mid).railRaise r 6)
    else if s.railSwitching r then
      if s.getB (RAIL.RAIL_CFG_VLOC_EN r) then
        if s.ovPv r (s.vrefEffPv r) < vLoc * 10 ^ 8 then .next ((s1.railFaultOff r (s.ovLevel r)).railRaise r 1)
        else .next (s1.setF (RAIL.RAIL_STAT_VLOC_IN_USE r) 1)
      else .next ((s1.railFaultOff r .mid).railRaise r 6)
    else if s.railState r = rlPREBIAS ∧ s.getB (RAIL.RAIL_CFG_VLOC_EN r) = false then
      .next ((s1.railFaultOff r .mid).railRaise r 6)
    else .next s1

/-- CYCLE_LIMIT_PERSIST (R363): OC_N periods in a row; the count starts again. -/
def execCycleLimitPersist (r : Nat) (s : State) : Host.Outcome State Fault Refusal :=
  if s.railSwitching r ∧ 0 < (s.rail_ r).cycRun ∧ s.getF (RAIL.OC_OC_N r) ≤ (s.rail_ r).cycRun then
    .next ((s.updRail r (fun x => { x with cycRun := 0 })).railRaise r 3) else .next s

/-- RAIL_LIMIT_PERSIST (R364): the limit has acted for OVL_US; reported once. -/
def execRailLimitPersist (r : Nat) (s : State) : Host.Outcome State Fault Refusal :=
  if s.railSwitching r ∧ 0 < (s.rail_ r).clRun ∧ (s.rail_ r).clTold = false ∧ s.railLasts r (s.rail_ r).clRun (s.getF (RAIL.OC_OVL_US r)) then
    .next ((s.updRail r (fun x => { x with clTold := true })).railRaise r 4)
  else .next s

/-- PHASE_SHED_START (R366): the shed condition has held for HOLDOFF_MS. -/
def execPhaseShedStart (r : Nat) (s : State) : Host.Outcome State Fault Refusal :=
  let x := s.rail_ r
  if s.railSwitching r ∧ x.shed = none ∧ 0 < x.shedRun ∧ s.railLasts r x.shedRun (1000 * s.getF (RAIL.SHED_CFG_HOLDOFF_MS r)) then
    match (s.phIn r phACTIVE).getLast? with
    | some p => .next (((s.setPhase p phSHEDDING).updRail r (fun x => { x with shed := some (p, 0) })).railCounts r)
    | none => .next s
  else .next s

/-- PHASE_SHED_COMPLETE (R366): after the eighth period of the ramp. -/
def execPhaseShedComplete (r : Nat) (s : State) : Host.Outcome State Fault Refusal :=
  match (s.rail_ r).shed with
  | some (p, k) =>
    if 8 ≤ k then
      let s := ((s.setPhase p phSHED).updPhase p (fun z => { z with pwm := .mid, shadow := .mid })).updRail r (fun x => { x with shed := none, shedRun := 0 })
      .next ((s.incSat (RAIL.CNT_SHEDS r)).railCounts r)
    else .next s
  | none => .next s

/-- PHASE_OPEN (R369): the phase is fenced whatever the severity of FS_PHASE_p. -/
def execPhaseOpen (p : Nat) (s : State) : Host.Outcome State Fault Refusal :=
  if s.phState p = phACTIVE ∧ 16 ≤ (s.phase_ p).openRun then
    let d := s.phaseData p 1
    let s := ((s.fencePhase p).setF (PHASE.PH_STAT_REASON p) 1).raise (112 + p) d
    .next (if s.mode = mRUN then s.setMode mDEGRADED else s)
  else .next s

/-- PHASE_SENSE_FAIL (R370). The common mode of a range failure is the event itself. -/
def execPhaseSenseFail (p : Nat) (why : SenseFail) (s : State) : Host.Outcome State Fault Refusal :=
  let x := s.phase_ p
  let n := s.getF PHASE.SENSE_CFG_SENSE_N
  let go : Bool := match why with
    | .stuck => decide (n ≤ x.stuckRun) && F32.le 0x3C23D70A (F32.sub x.dutyHi x.dutyLo)
    | .range => true
    | .disagree => decide (n ≤ x.disRun)
  let code := match why with
    | .stuck => 2
    | .range => 3
    | .disagree => 4
  if (s.phState p = phACTIVE ∨ s.phState p = phSHEDDING) ∧ go then
    let d := s.phaseData p code
    let s := match s.railOf p with
      | some r => (s.setPhase p phSENSE_FAILED).updRail r (fun z => { z with shed := if (z.shed.map Prod.fst) = some p then none else z.shed }) |>.railCounts r
      | none => s.setPhase p phSENSE_FAILED
    .next ((s.setF (PHASE.PH_STAT_REASON p) code).raise (112 + p) d)
  else .next s

/-- RAILn.PREP with GO = 1 (R373). -/
def railPrepGo (r : Nat) (s : State) : State :=
  let ok := s.railState r = rlREGULATING ∧ s.getB (RAIL.RAIL_STAT_PG r) ∧ s.getB (RAIL.RAIL_STAT_CN_OPEN r) = false
    ∧ (s.rail_ r).cnPend = false ∧ F32.isFinite (s.getReg (RAIL.PREP_I r)) ∧ F32.lt 0 (s.getReg (RAIL.PREP_I r))
    ∧ F32.isFinite (s.getReg (RAIL.PREP_FF r))
  if ok then (s.updRail r (fun x => { x with cnPend := true })).setF (RAIL.RAIL_STAT_CN_REFUSED r) 0
  else s.setF (RAIL.RAIL_STAT_CN_REFUSED r) 1

/-- RAIL_CORNICE_WINDOW_END (R374): WIN_US has passed without a confirm. -/
def execRailCorniceWindowEnd (r : Nat) (s : State) : Host.Outcome State Fault Refusal :=
  let x := s.rail_ r
  if s.getB (RAIL.RAIL_STAT_CN_OPEN r) ∧ x.cnDown = 0 ∧ s.railLasts r x.cnAge (s.getF (RAIL.PREP_WIN_US r)) then
    let s := s.updRail r (fun x => { x with cnDown := 8, cnFrom := s.getReg (RAIL.CN_FF r), shedRun := 0 })
    .next ((s.incSat (RAIL.CN_STAT_MISS r)).setF (RAIL.CN_STAT_OUTCOME r) ocMISS)
  else .next s

/-- SYNC_IN_EDGE (R350): an edge `periodNs` after the one before it, `errNs` from the timebase's. -/
def execSyncInEdge (periodNs : Nat) (errNs : Int) (s : State) : Host.Outcome State Fault Refusal :=
  let tb := s.getF RSYNC.TB_CFG_TB_KHZ
  let dev := max (10 ^ 6) (tb * periodNs) - min (10 ^ 6) (tb * periodNs)
  if s.operating ∧ s.pgRunning pRSYNC ∧ s.getB RSYNC.TB_CFG_SYNC_EN then
    if 500 ≤ periodNs ∧ periodNs ≤ 10000 ∧ dev * 10 ≤ tb * periodNs then
      let n := min (s.tb.accepted + 1) 16
      let st := s.getF RSYNC.TB_STAT_STATE
      if n < 16 then .next { s with tb := { s.tb with accepted := n } }
      else
        let tgt := 10 ^ 9 / periodNs
        let step := s.tb.freqHz * periodNs / 10 ^ 8
        let f := if s.tb.freqHz < tgt then min tgt (s.tb.freqHz + step) else max tgt (s.tb.freqHz - step)
        let k := if errNs.natAbs * 50 ≤ periodNs then min (s.tb.inLock + 1) 64 else 0
        let s := { s with tb := ⟨n, k, f⟩ }
        let s := s.setF RSYNC.TB_STAT_FREQ_KHZ (f / 1000)
        if k = 64 ∧ st ≠ 2 then .next ((s.incSat RSYNC.SYNC_CNT_LOCKS).setF RSYNC.TB_STAT_STATE 2)
        else if st = 2 ∧ k = 64 then .next s
        else .next (s.setF RSYNC.TB_STAT_STATE 1)
    else .next { s with tb := { s.tb with accepted := 0 } }
  else .next s

/-- SYNC_IN_LOSS (R351). -/
def execSyncInLoss (s : State) : Host.Outcome State Fault Refusal :=
  let st := s.getF RSYNC.TB_STAT_STATE
  if s.operating ∧ s.pgRunning pRSYNC ∧ (st = 1 ∨ st = 2) then
    .next (({ s with tb := { s.tb with accepted := 0, inLock := 0 } }).incSat RSYNC.SYNC_CNT_LOSSES |>.setF RSYNC.TB_STAT_STATE 3)
  else .next s

/-- GLIDE_END (R351): the timebase is back at TB_KHZ, to within the glide of one shelf cycle. -/
def execGlideEnd (s : State) : Host.Outcome State Fault Refusal :=
  let f := s.tb.freqHz
  let t := 1000 * s.getF RSYNC.TB_CFG_TB_KHZ
  if s.getF RSYNC.TB_STAT_STATE = 3 ∧ max f t - min f t ≤ s.glideStep s.cycleUs then
    let k := s.getF RSYNC.TB_CFG_TB_KHZ
    .next ((({ s with tb := { s.tb with freqHz := 1000 * k } }).setF RSYNC.TB_STAT_FREQ_KHZ k).setF RSYNC.TB_STAT_STATE 0)
  else .next s

end Sys2Proof.Machine
end

