-- ==== Sys2Proof/Machine/Seq.lean ====
section
/-! DEFINITION. Sequencing and supervision (chapter 13): the meanings of its commands. A timer command acts where the timer it names runs; the 10 µs evaluation keeps the counters that SLOT_POWER_GOOD and the slot faults read. -/

namespace Sys2Proof.Machine

namespace State

/-- The slot's supply reports power good: none for regulators (true), the rail's PG, the channel's ON (Table 13-1, R392). -/
def supplyPg (s : State) (i : Nat) : Bool :=
  if i < 16 then true
  else if i < 24 then s.getB (RAIL.RAIL_STAT_PG (i - 16))
  else s.efState (i - 24) = efON

/-- The supply faulted: rail in FAULT_OFF, channel LATCHED or GATE_FAULT (reason 0x05). -/
def supplyFaulted (s : State) (i : Nat) : Bool :=
  if i < 16 then false
  else if i < 24 then s.getF (RAIL.RAIL_STAT_STATE (i - 16)) = 5
  else s.efState (i - 24) = efLATCHED || s.efState (i - 24) = efGATE_FAULT

/-- The channel reports retrying (R401). -/
def supplyRetrying (s : State) (i : Nat) : Bool :=
  if i < 24 then false else s.efState (i - 24) = efTRIPPED || s.efState (i - 24) = efRETRY_WAIT

/-- The window SL_UV to SL_OV is applied (R398). -/
def windowOn (s : State) (i : Nat) : Bool := i < 16 || s.getB (SEQSLOT.SL_CFG_WIN_EN i)

def vAbove (s : State) (i : Nat) : Bool := s.windowOn i && F32.lt (s.getReg (SEQSLOT.SL_OV i)) (s.getReg (SEQSLOT.V i))
def vBelow (s : State) (i : Nat) : Bool := s.windowOn i && F32.lt (s.getReg (SEQSLOT.V i)) (s.getReg (SEQSLOT.SL_UV i))

/-- V_s of a slot from a 12-bit SQs_MON code over 0 V to 5.5 V (R397, Table 13-1). -/
def monVoltage (s : State) (i code : Nat) : Word :=
  if i < 16 then F32.mul (F32.ofQ false (code * 55) (4096 * 10)) (s.getReg (SEQSLOT.SL_GAIN i))
  else if i < 24 then s.getReg (RAIL.V_OUT (i - 16))
  else s.getReg (EFUSE.V_OUT (i - 24))

/-- DATA of FS_SEQ_s (R417). -/
def seqData (s : State) (i reason : Nat) : List Nat :=
  [reason, s.slotGrp i] ++ leBytes 4 (s.getN (SEQSLOT.V i)) ++ [s.getF (SEQSLOT.SL_STAT_RETRIES i)]

/-- Pull RACKFLT_N until the groups of `l` are all-off (R411). -/
def rackPull (s : State) (l : List Nat) : State :=
  let s := { s with seq := { s.seq with
    rackPull := l.foldl (fun p g => p.set g true) s.seq.rackPull
    rackTicks := if s.getB SEQ.SEQ_STAT_RACK_SELF then s.seq.rackTicks else 0 } }
  (s.setF SEQ.SEQ_STAT_RACK_SELF 1).rackExt

/-- SYSTEM_RESET (R408): every group acts as under GROUP_OFF, RST_OUT_N is asserted, and the groups with AUTO_UP ascend after every REST. -/
def systemReset (s : State) (slot : Nat) : State :=
  let groups := (List.range 4).map (fun g => s.getB (SEQGRP.GRP_CFG_AUTO_UP g))
  let s := forAll 4 (fun s g => s.groupOff g slot) s
  let s := { s with seq := { s.seq with sysGroups := groups, sysWait := groups, rstTicks := 0 } }
  (s.setF SEQ.SEQ_STAT_SYS_RESET 1).setF SEQ.SEQ_STAT_RST_OUT 1

/-- Every group has completed REST under SYSTEM_RESET: the groups with AUTO_UP ascend (R408). -/
def sysReascend (s : State) : State :=
  if s.getB SEQ.SEQ_STAT_SYS_RESET && (List.range 4).all (fun g => s.grpSt g ≠ grDESCENDING && s.grpSt g ≠ grREST) then
    forAll 4 (fun s g => if s.seq.sysGroups.getD g false then
      ({ s with seq := { s.seq with sysGroups := s.seq.sysGroups.set g false } }).upRequest g else s) s
  else s

/-- A slot fault while its group descends (R409): FS_DESCENT_FAULT; an overvoltage withdraws the slot before its turn. -/
def descFault (s : State) (i reason : Nat) : State :=
  let s := (s.setF (SEQSLOT.SL_STAT_LAST_REASON i) reason).raise 186 [i, if reason = 2 then 2 else 1, reason]
  if reason = 2 ∧ s.slotSt i ≠ slFENCED then s.withdraw i else s

/-- A slot fault is raised (R400). -/
def tellFault (s : State) (i reason : Nat) : State :=
  (s.setF (SEQSLOT.SL_STAT_LAST_REASON i) reason).raise (152 + i) (s.seqData i reason)

/-- The row of Table 13-4 that a slot's fault comes to: RETRY with its retries used is GROUP_OFF. -/
def reaction (s : State) (i : Nat) : Nat :=
  let react := s.getF (SEQSLOT.SL_CFG_REACT i)
  if react = 1 ∧ max 1 (s.getF (SEQSLOT.SL_CFG_RETRY_N i)) ≤ s.getF (SEQSLOT.SL_STAT_RETRIES i) then 2 else react

/-- The faulted slot is withdrawn at once, a fenced one already is. -/
def withdrawn (s : State) (i : Nat) : State := if s.slotSt i = slFENCED then s else s.withdraw i

/-- A slot's reaction (Table 13-4): RETRY only where its group has not been taken down by a higher row of Table 13-5. -/
def react (s : State) (i : Nat) : State :=
  let g := s.slotGrp i
  let r := s.reaction i
  let s := if s.getF (SEQSLOT.SL_CFG_REACT i) = 1 ∧ r = 2 then s.tellFault i 6 else s
  let pull := s.getB (SEQSLOT.SL_CFG_RACK_PROP i)
  if r = 0 then s
  else if r = 1 then
    let s := s.withdrawn i
    if s.slotSt i = slFENCED ∨ s.grpSt g = grDESCENDING then s
    else (s.incSat (SEQSLOT.SL_STAT_RETRIES i)).setF (SEQSLOT.SL_STAT_STATE i) slRETRY_WAIT
  else if r = 2 then ((if pull then s.rackPull [g] else s).withdrawn i).groupOff g i
  else ((if pull then s.rackPull (List.range 4) else s).withdrawn i).systemReset i

/-- The severity at which a slot's fault reacts: FS_SEQ_s, or FS_DESCENT_FAULT in a descent. -/
def slotSev (s : State) (i : Nat) : Nat :=
  min 5 (s.getF (FCOL_SEV.SEV_SEV (if s.grpSt (s.slotGrp i) = grDESCENDING then 186 else 152 + i)))

/-- The slot faults of one evaluation (R400, R407, R409, R410): each is raised, in descending severity and then in ascending index (R433), then the reactions in the order of Table 13-5. -/
def slotFaults (s : State) (l : List (Nat × Nat)) : State :=
  let down (f : Nat × Nat) : Bool := s.grpSt (s.slotGrp f.1) == grDESCENDING
  let up := l.filter (fun f => !down f)
  let of (r : Nat) := up.filter (fun f => s.reaction f.1 == r)
  let bySev := [5, 4, 3, 2, 1, 0].flatMap (fun v => l.filter (fun f => s.slotSev f.1 == v))
  let s := bySev.foldl (fun t f => if down f then t.descFault f.1 f.2 else t.tellFault f.1 f.2) s
  (of 3 ++ of 2 ++ of 1).foldl (fun t f => t.react f.1) s

/-- The group advances when every enabled slot of the present position is power good (Table 13-3). -/
def ascAdvance (s : State) (g : Nat) : State :=
  if s.grpSt g ≠ grASCENDING then s
  else
    let p := s.getF (SEQGRP.GRP_STAT_POS g)
    if (s.atUp (s.grpSlots g) p).all (fun i => s.slotSt i = slPG) then
      match s.nextUp g (p + 1) with
      | some q => (s.startOnDly g (s.atUp (s.grpSlots g) q)).setF (SEQGRP.GRP_STAT_POS g) q
      | none => (s.incSat (SEQGRP.GRP_CNT_ASCENTS g)).setF (SEQGRP.GRP_STAT_STATE g) grON
    else s

/-- A slot's counters after one 10 µs evaluation (R397 to R401). -/
def slotCounts (s : State) (i : Nat) : SeqSlotSt :=
  let c := s.seqSlot i
  let pg := s.supplyPg i
  let up (b : Bool) (n : Nat) : Nat := if b then min (n + 1) 65535 else 0
  { c with
    okTicks := up (s.slotDrives i && !s.vAbove i && !s.vBelow i && pg) c.okTicks
    ovTicks := up (s.vAbove i) c.ovTicks
    uvTicks := up (s.vBelow i) c.uvTicks
    lossTicks := up (!pg) c.lossTicks
    faultSeen := s.supplyFaulted i
    ticks := c.ticks + 1
    offTicks := if c.offSeen then c.offTicks + 1 else c.offTicks }

/-- The fault that one evaluation finds in a slot (Table 13-2): the condition whose FLT passes in it, in the order of the table's reasons 2, 5, 3, 4. -/
def slotReason (s : State) (i : Nat) : Option Nat :=
  let st := s.slotSt i
  let flt := s.getF (SEQSLOT.SL_CFG_FLT i)
  let c := s.slotCounts i
  let quiet := s.supplyRetrying i
  if !s.slotEn i then none
  else if (st = slENABLED ∨ st = slPG ∨ st = slOFF_WAIT) ∧ c.ovTicks = flt then some 2
  else if (st = slENABLED ∨ st = slPG) ∧ c.faultSeen ∧ !(s.seqSlot i).faultSeen then some 5
  else if st = slPG ∧ !quiet ∧ c.uvTicks = flt then some 3
  else if st = slPG ∧ !quiet ∧ c.lossTicks = flt then some 4
  else none

/-- One evaluation of every slot (R397): the timers count, then the faults act. -/
def seqEval (s : State) : State :=
  let l := (List.range 32).filterMap (fun i => (s.slotReason i).map (fun r => (i, r)))
  let rest := (List.range 4).map (fun g => if s.grpSt g = grREST then s.seq.restTicks.getD g 0 + 1 else s.seq.restTicks.getD g 0)
  let t := { s with seq := { s.seq with
    slots := (List.range 32).map s.slotCounts, restTicks := rest, rstTicks := s.seq.rstTicks + 1, rackTicks := s.seq.rackTicks + 1 } }
  t.slotFaults l

end State

open State

/-- SEQ_EVALUATION (R397 to R401). -/
def execSeqEvaluation (x : SeqSample) (s : State) : Host.Outcome State Fault Refusal :=
  if s.operating && s.pgRunning pSEQ && s.pgRunning pSEQSLOT then
    let s := forAll 32 (fun s i => s.setReg (SEQSLOT.V i) (s.monVoltage i (x.mon.getD i 0).toNat)) s
    .next s.seqEval
  else .next s

/-- GRP_CMD_UP as seen by the sequencer: the up request of an accepted write (R403). With DOWN in the same write DOWN governs (R410). -/
def grpCmd (g : Nat) (up down : Bool) (s : State) : State :=
  if !s.grpLive g then s
  else if down then
    let s := s.downRequest g
    if up ∧ (s.grpSt g = grDESCENDING ∨ s.grpSt g = grREST) then s.setF (SEQGRP.GRP_STAT_UP_PEND g) 1 else s
  else if up then s.upRequest g else s

/-- ON_DLY_EXPIRY (R404, Table 13-6). -/
def execOnDlyExpiry (i : Nat) (s : State) : Host.Outcome State Fault Refusal :=
  let g := s.slotGrp i
  if s.grpLive g ∧ s.slotSt i = slON_WAIT ∧ s.grpSt g = grASCENDING ∧ 10 * s.getF (SEQSLOT.SL_TIME0_ON_DLY i) ≤ (s.seqSlot i).ticks then
    .next (s.enableNow i)
  else .next s

/-- OFF_DLY_EXPIRY (R404, R405). -/
def execOffDlyExpiry (i : Nat) (s : State) : Host.Outcome State Fault Refusal :=
  if s.slotSt i = slOFF_WAIT ∧ 10 * s.getF (SEQSLOT.SL_TIME0_OFF_DLY i) ≤ (s.seqSlot i).ticks then .next (s.withdraw i) else .next s

/-- SLOT_POWER_GOOD (R398, Table 13-3). -/
def execSlotPowerGood (i : Nat) (s : State) : Host.Outcome State Fault Refusal :=
  if s.slotSt i = slENABLED ∧ s.getF (SEQSLOT.SL_CFG_FLT i) ≤ (s.seqSlot i).okTicks then
    let s := s.updSlot i (fun c => { c with pgTmoDeferred := false, ticks := 0 })
    let s := (s.setF (SEQSLOT.SL_STAT_STATE i) slPG).ascAdvance (s.slotGrp i)
    .next (s.setF (SEQSLOT.SL_STAT_PG i) 1)
  else .next s

/-- PG_TMO_EXPIRY (R400, R401): once per enabling; deferred for good while the channel retries. -/
def execPgTmoExpiry (i : Nat) (s : State) : Host.Outcome State Fault Refusal :=
  if s.slotEn i ∧ s.slotSt i = slENABLED ∧ (s.seqSlot i).pgTmoDeferred = false ∧ 100 * s.getF (SEQSLOT.SL_TIME1_PG_TMO i) ≤ (s.seqSlot i).ticks then
    let t := s.updSlot i (fun c => { c with pgTmoDeferred := true })
    if s.supplyRetrying i then .next t else .next (t.slotFaults [(i, 1)])
  else .next s

/-- SLOT_OFF (R399): a withdrawn slot below SL_OFF is off. -/
def execSlotOff (i : Nat) (s : State) : Host.Outcome State Fault Refusal :=
  if F32.lt (s.getReg (SEQSLOT.V i)) (s.getReg (SEQSLOT.SL_OFF i)) then
    if s.slotSt i = slDISCHARGE then .next ((s.setF (SEQSLOT.SL_STAT_STATE i) slOFF).descAdvance (s.slotGrp i))
    else if s.slotSt i = slRETRY_WAIT then .next (s.updSlot i (fun c => { c with offSeen := true }))
    else .next s
  else .next s

/-- T_DIS_MAX_EXPIRY (R399): the slot counts as off, FS_DESCENT_FAULT reason 0x03. -/
def execTDisMaxExpiry (i : Nat) (s : State) : Host.Outcome State Fault Refusal :=
  if (s.seqSlot i).ticks < 100 * s.getF (SEQSLOT.SL_TIME1_T_DIS_MAX i) then .next s
  else if s.slotSt i = slDISCHARGE then
    let s := s.raise 186 [i, 3, 0]
    .next ((s.setF (SEQSLOT.SL_STAT_STATE i) slOFF).descAdvance (s.slotGrp i))
  else if s.slotSt i = slRETRY_WAIT ∧ (s.seqSlot i).offSeen = false then
    let s := s.raise 186 [i, 3, 0]
    .next (s.updSlot i (fun c => { c with offSeen := true }))
  else .next s

/-- T_REST_EXPIRY (Table 13-3): OFF, or ASCENDING on a latched up request unless RACKFLT_N or VIN_WARN holds it. -/
def execTRestExpiry (g : Nat) (s : State) : Host.Outcome State Fault Refusal :=
  if s.grpSt g = grREST ∧ 100 * s.getF (SEQGRP.GRP_CFG_T_REST g) ≤ s.seq.restTicks.getD g 0 then
    let pend := s.getB (SEQGRP.GRP_STAT_UP_PEND g)
    let s := (s.setF (SEQGRP.GRP_STAT_UP_PEND g) 0).setF (SEQGRP.GRP_STAT_STATE g) grOFF
    let s := { s with seq := { s.seq with sysGroups := if pend then s.seq.sysGroups.set g false else s.seq.sysGroups } }
    .next ((if pend then s.upRequest g else s).sysReascend)
  else .next s

/-- SLOT_RETRY_CLEAR (R407). -/
def execSlotRetryClear (i : Nat) (s : State) : Host.Outcome State Fault Refusal :=
  if s.slotSt i = slPG ∧ 100000 ≤ (s.seqSlot i).ticks then .next (s.setF (SEQSLOT.SL_STAT_RETRIES i) 0) else .next s

/-- SLOT_RETRY_ENABLE (R407): the slot under RETRY is off and T_REST has elapsed. -/
def execSlotRetryEnable (i : Nat) (s : State) : Host.Outcome State Fault Refusal :=
  if s.slotSt i = slRETRY_WAIT ∧ (s.seqSlot i).offSeen = true ∧
      100 * s.getF (SEQGRP.GRP_CFG_T_REST (s.slotGrp i)) ≤ (s.seqSlot i).offTicks then .next (s.enableNow i) else .next s

/-- RST_OUT_RELEASE (R408). -/
def execRstOutRelease (s : State) : Host.Outcome State Fault Refusal :=
  if s.getB SEQ.SEQ_STAT_SYS_RESET && (List.range 4).all (fun g => !s.seq.sysWait.getD g false || s.grpSt g = grON)
      && (List.range 4).all (fun g => s.grpSt g ≠ grDESCENDING && s.grpSt g ≠ grREST) && 100 * s.getF SEQ.SEQ_CFG_RST_MIN_MS ≤ s.seq.rstTicks then
    .next ((s.setF SEQ.SEQ_STAT_SYS_RESET 0).setF SEQ.SEQ_STAT_RST_OUT 0)
  else .next s

/-- A group that a low RACKFLT_N acts on (R412). -/
def rackActs (s : State) (g : Nat) : Bool :=
  s.grpLive g && s.getF (SEQGRP.GRP_CFG_RACK_ACT g) ≠ 0 && (s.grpSt g = grASCENDING || s.grpSt g = grON)

/-- RACKFLT_LOW_SEEN (R412): each group's RACK_ACT; FS_RACKFLT_IN at an edge that this controller does not cause. -/
def execRackfltLowSeen (s : State) : Host.Outcome State Fault Refusal :=
  if s.operating && s.pgRunning pSEQ then
    let own := s.getB SEQ.SEQ_STAT_RACK_SELF
    let s := s.setF SEQ.SEQ_STAT_RACK_LOW 1
    if s.getB SEQ.SEQ_STAT_RACK_STUCK then .next s.rackExt
    else
      let mask := (List.range 4).foldl (fun m g => if rackActs s g then m + 2 ^ g else m) 0
      let s := forAll 4 (fun s g =>
        if rackActs s g then
          let s := s.enterDescend g
          { s with seq := { s.seq with rackAgain := s.seq.rackAgain.set g (s.getF (SEQGRP.GRP_CFG_RACK_ACT g) = 1) } }
        else s) s
      let s := if own then s else s.raise 184 [mask]
      .next (s.setF SEQ.SEQ_STAT_RACK_LOW 1).rackExt
  else .next s

/-- The up requests of a group that the low line held ascend it (R412). -/
def rackFree (s : State) (g : Nat) : State :=
  if s.getB (SEQGRP.GRP_STAT_RACK_HELD g) then (s.setF (SEQGRP.GRP_STAT_RACK_HELD g) 0).upRequest g else s

/-- The filtered line is high: what it held goes on, unless the line was stuck (R412, R413). -/
def rackLineHigh (s : State) : State :=
  let s := (s.setF SEQ.SEQ_STAT_RACK_LOW 0).rackExt
  if s.getB SEQ.SEQ_STAT_RACK_STUCK then s else forAll 4 rackFree s

/-- The groups that RACKFLT_N high for 100 ms lets ascend (R412, R413). -/
def rackHigh (s : State) (g : Nat) : State :=
  let again := s.seq.rackAgain.getD g false
  let held := s.getB (SEQGRP.GRP_STAT_RACK_HELD g)
  let s := { s with seq := { s.seq with rackAgain := s.seq.rackAgain.set g false } }
  let s := s.setF (SEQGRP.GRP_STAT_RACK_HELD g) 0
  if again ∨ held then s.upRequest g else s

/-- RACKFLT_HIGH_100MS (R412, R413, R416). -/
def execRackfltHigh100ms (s : State) : Host.Outcome State Fault Refusal :=
  if s.operating ∧ s.getB SEQ.SEQ_STAT_RACK_SELF = false then
    let s := (s.setF SEQ.SEQ_STAT_RACK_LOW 0).setF SEQ.SEQ_STAT_RACK_STUCK 0
    let s := (s.endL 185).setF (SEQ.INP_STAT_STUCK 0) 0
    let s := forAll 4 rackHigh s
    .next (s.setF SEQ.SEQ_STAT_RACK_LOW 0).rackExt
  else .next s

/-- RACKFLT_PULL_RELEASE (R411). -/
def execRackfltPullRelease (s : State) : Host.Outcome State Fault Refusal :=
  if s.getB SEQ.SEQ_STAT_RACK_SELF && (List.range 4).all (fun g => !s.seq.rackPull.getD g false ||
      s.grpSt g = grOFF || s.grpSt g = grREST || s.grpSt g = grASCENDING || s.grpSt g = grON) &&
      100 * s.getF SEQ.SEQ_CFG_RACK_MIN_MS ≤ s.seq.rackTicks then
    let s := { s with seq := { s.seq with rackPull := List.replicate 4 false } }
    .next (s.setF SEQ.SEQ_STAT_RACK_SELF 0).rackExt
  else .next s

/-- The index of a supervised input (Table 13-7). -/
def supIndex : SupInput → Nat
  | .rackflt => 0 | .holdN => 1 | .stepHint => 2 | .wake => 3 | .belayN => 4 | .syncIn => 5

/-- INPUT_FILTER_CHANGE (R415): the filtered value and its counters; BELAY_N seen low by the other controller, and its release (R457). -/
def execInputFilterChange (i : SupInput) (active chatter : Bool) (s : State) : Host.Outcome State Fault Refusal :=
  if s.operating then
    let k := supIndex i
    let s := if s.pgRunning pSEQ ∧ active ∧ s.getB (SEQ.INP_STAT_FILT k) = false then s.incSat (SEQ.INP_STAT_ACT k) else s
    let s := if s.pgRunning pSEQ ∧ chatter then s.incSat (SEQ.INP_STAT_CHAT k) else s
    let s := match i with
      | .rackflt => if active then s else rackLineHigh s
      | .wake => { s with dev := { s.dev with wakePin := active } }
      | .belayN =>
        let s := s.setB RIDGE.PAIR_STAT_BELAY_LOW active
        if active then s.updPair (fun x => { x with partnerHeld := x.partnerHeld || !s.getB RIDGE.PAIR_STAT_BELAY_OWN })
        else if s.tokenGone then s.blockedRaise
        else s
      | _ => s
    .next ((s.setB (SEQ.INP_STAT_RAW k) (active || chatter)).setB (SEQ.INP_STAT_FILT k) active)
  else .next s

/-- The stuck timer of input `k` runs (Table 13-7). -/
def stuckTimerRuns (k : Nat) (s : State) : Bool :=
  if k = 0 then !s.getB SEQ.SEQ_STAT_RACK_SELF
  else if k = 1 then true
  else if k = 2 then s.getB CORNICE.CN_CFG_HINT_EN
  else if k = 3 then true
  else if k = 4 then s.isPair && s.getB RIDGE.PAIR_STAT_LINK && !s.getB RIDGE.PAIR_STAT_BELAY_OWN && !s.pair.partnerDrives
  else s.getB RSYNC.TB_CFG_SYNC_EN

/-- INPUT_STUCK_TIMER (R416, R413, R466): the input counts as inactive for its function. -/
def execInputStuckTimer (i : SupInput) (s : State) : Host.Outcome State Fault Refusal := s.heldRun fun s =>
  let k := supIndex i
  if s.operating ∧ s.pgRunning pSEQ ∧ s.getF (SEQ.INP_CFG_STUCK k) ≠ 0 ∧ s.getB (SEQ.INP_STAT_FILT k) ∧ s.getB (SEQ.INP_STAT_STUCK k) = false ∧
      stuckTimerRuns k s then
    let s := if k = 0 then (s.raiseL 185 [0]).setF SEQ.SEQ_STAT_RACK_STUCK 1
      else (s.setCond 187 false).raiseL 187 [k]
    let s := if k = 4 then s.raise 214 [1] else s
    .next (s.setF (SEQ.INP_STAT_STUCK k) 1)
  else .next s

/-- INPUT_STUCK_RELEASE (R416): the raw input inactive for 100 ms. FS_INPUT_STUCK ends with the last stuck input. -/
def execInputStuckRelease (i : SupInput) (s : State) : Host.Outcome State Fault Refusal :=
  let k := supIndex i
  if s.getB (SEQ.INP_STAT_STUCK k) then
    let s := s.setF (SEQ.INP_STAT_STUCK k) 0
    let s := if k = 0 then (forAll 4 rackHigh (((s.endL 185).setF SEQ.SEQ_STAT_RACK_LOW 0).setF SEQ.SEQ_STAT_RACK_STUCK 0)).rackExt
      else if (List.range 6).all (fun j => j = 0 || !s.getB (SEQ.INP_STAT_STUCK j)) then s.endL 187 else s
    .next (((s.setF (SEQ.INP_STAT_FILT k) 0).setF (SEQ.INP_STAT_RAW k) 0).setF (SEQ.INP_STAT_STUCK k) 0)
  else .next s

/-- CNT_CTRL.CLR of SEQ (R418). -/
def seqCntClr (s : State) : State :=
  forAll 6 (fun s k => (s.setF (SEQ.INP_STAT_ACT k) 0).setF (SEQ.INP_STAT_CHAT k) 0) s

/-- VIN_WARN rising lets waiting slots enable and held ascents start (Table 13-6). -/
def seqVinBack (s : State) : State :=
  let s := forAll 32 (fun s i => if (s.seqSlot i).onDlyHeld ∧ s.slotSt i = slON_WAIT then s.enableSlot i else s) s
  forAll 4 (fun s g => if s.getB (SEQGRP.GRP_STAT_VIN_HELD g) then
    (s.setF (SEQGRP.GRP_STAT_VIN_HELD g) 0).upRequest g else s) s

end Sys2Proof.Machine
end

