-- ==== Sys2Proof/Machine/Pages.lean ====
section
/-! DEFINITION. Page states (chapter 2): the sources of a page, writes of PG_CTRL, start checks and start boundaries, stop permission and stop boundaries, ownership. -/

namespace Sys2Proof.Machine

/-- The sources that Table 14-2 assigns to a page, ascending. -/
def pageSources (p : Nat) : List Nat :=
  let upTo (a n : Nat) : List Nat := (List.range n).map (a + ·)
  match pageKind p with
  | some (.dev, _) => upTo 0 12
  | some (.yport, n) => [16 + 2 * n, 17 + 2 * n, 64 + n]
  | some (.vce, _) => upTo 88 12
  | some (.shelf, _) => upTo 104 6 ++ [111]
  | some (.cornice, _) => [110]
  | some (.phase, _) => upTo 112 16
  | some (.rail, r) => [128 + r, 136 + r]
  | some (.efuse, c) => [144 + c]
  | some (.seqslot, _) => upTo 152 32
  | some (.seq, _) => upTo 184 4
  | some (.est, _) => upTo 192 11
  | some (.ridge, _) => upTo 208 10
  | some (.pstore, _) => upTo 224 3
  | some (.cairn, _) => [227, 228]
  | some (.image, _) => upTo 229 4
  | some (.fmover, _) => [240]
  | some (.sdma, _) => [241]
  | some (.can, n) => [242 + n]
  | some (.t1s, _) => [246]
  | some (.pmbus, _) => [247]
  | some (.spi, _) => [248]
  | _ => []

/-- PG_OWNER.PORT and SOURCE of a requester (Table 2-8); firmware has none. -/
def reqPort : Requester → Nat
  | .spi => 1
  | .can n _ => 2 + n.val
  | .t1s _ => 6
  | .firmware => 0
def reqSource : Requester → Nat
  | .can _ b => b.toNat
  | .t1s b => b.toNat
  | _ => 0

/-- The page of the port through which a requester asks (Table 2-12). -/
def reqPage : Requester → Option Nat
  | .spi => some pSPI
  | .can n _ => some (pCAN n.val)
  | .t1s _ => some pT1S
  | .firmware => none

namespace State

/-- PG_FSUM (Table 2-6): the severity of a source is the one in force (R426). -/
def fsum (s : State) (p : Nat) : Word :=
  let l := pageSources p
  let act := l.filter s.getAct
  let bits := ((List.range 16).filter (fun i => match l[i]? with
    | some x => s.getAct x
    | none => false)).foldl (fun b i => b + 2 ^ i) 0
  let sev := act.foldl (fun m x => max m (min 5 (s.getF (FCOL_SEV.SEV_SEV x)))) 0
  BitVec.ofNat 32 (sev * 2 ^ 29 + (if act = [] then 0 else 2 ^ 28) + bits)

/-- Every rail is STOPPED or OFF. -/
def railsStopped (s : State) : Bool := (List.range 8).all (fun r => s.pgState (pRAIL r) == psSTOPPED || s.pgState (pRAIL r) == psOFF)

/-- A rail page that runs, starts or stops. -/
def railRuns (s : State) (r : Nat) : Bool := s.pgState (pRAIL r) == psRUNNING || s.pgState (pRAIL r) == psSTARTING || s.pgState (pRAIL r) == psSTOPPING

/-- A group is all-off: OFF or REST (chapter 13). -/
def grpAllOff (s : State) (g : Nat) : Bool := s.grpSt g == grOFF || s.grpSt g == grREST

/-- SERVICE, or DEGRADED with SHELF_INHIBIT. -/
def quietMode (s : State) : Bool := s.mode == mSERVICE || (s.mode == mDEGRADED && s.inhibit)

/-- Stop permission (Table 2-12, R51) of a request through the port with page `via`. -/
def stopPermitted (s : State) (p : Nat) (via : Option Nat) : Bool :=
  match pageKind p with
  | none => false
  | some (k, n) =>
    match k with
    | .dev | .clkpwr | .fcol | .fcolSev | .cairn | .pstore | .image | .estwin => false
    | .ridge => !s.isPair || s.mode == mSERVICE
    | .sdma | .sample | .rail | .efuse | .est | .survey | .eststr => true
    | .fmover | .shelf | .alloc | .crest | .cornice | .holdup => s.quietMode
    | .yport => !s.getB (YPORT.PORT_STAT_CONV n) || s.getB (YPORT.PORT_CFG_MONITOR_ONLY n) || F32.isZero (s.getReg (ALLOC.A n))
    | .vce => s.mode == mSERVICE && s.railsStopped
    | .vslot =>
      if n = 0 then s.quietMode
      else if n = 4 then (List.range 8).all (fun r => !s.railRuns r)
      else if n = 5 ∨ n = 6 then (List.range 8).all (fun r => !s.railRuns r || (s.railPhases r).all (fun q => (40 + q) / 8 ≠ n))
      else true
    | .phase | .rsync => s.railsStopped
    | .seq | .seqslot => (List.range 4).all s.grpAllOff
    | .seqgrp => s.grpAllOff n
    | .estprof => s.pgState pEST == psSTOPPED
    | .can | .t1s | .pmbus | .spi => via ≠ some p

/-- What a stop request does at once (R402, R150, R197). -/
def stopAsked (s : State) (p : Nat) : State :=
  match pageKind p with
  | some (.rail, r) => s.hostStop (16 + r)
  | some (.efuse, c) => s.hostStop (24 + c)
  | some (.sdma, _) => forAll 16 sdmaStop s
  | some (.sample, _) => ({ s with sample := { s.sample with nextUs := none } }).setReg SAMPLE.NEXT_SSN 0
  | some (.yport, n) => s.markDown n
  | _ => s

/-- The stop boundary is reached (Table 2-12): a rail is off, every SDMA channel rests, no set is open, no survey window is open. -/
def stopReady (s : State) (p : Nat) : Bool :=
  match pageKind p with
  | some (.rail, r) => s.railState r == rlOFF || s.railState r == rlFAULT_OFF
  | some (.sdma, _) => (List.range 16).all (fun c => s.dmState c ≠ dmACTIVE && s.dmState c ≠ dmSTOPPING)
  | some (.sample, _) => s.sample.set_.isNone
  | some (.survey, _) => (List.range 24).all (fun k => s.getF (SURVEY.SV_STR_STATE k) ≠ svWINDOW)
  | _ => true

/-- A string's estimator pauses: no valid estimate, a gap, and learning disqualified (Table 10-1, R305, Table 10-4 code 8). -/
def estPause (s : State) (k : Nat) : State := ((s.notValid k).updEst k (fun e => { e with gap := true })).learnDisq k 8

/-- What the stop boundary does (Table 2-12). -/
def stopDone (s : State) (p : Nat) : State :=
  match pageKind p with
  | some (.rail, r) => if s.railState r = rlFAULT_OFF then s.railToOff r else s
  | some (.efuse, c) => s.efToOff c
  | some (.survey, _) => s.svStop
  | some (.est, _) => forAll 24 estPause s
  | some (.eststr, k) => s.estPause k
  | some (.t1s, _) => s.setF T1S.T1S_STAT_COORD 0
  | _ => s

/-- The page is STOPPED: RUN and BUSY clear (Table 2-9). -/
def pageStopped (s : State) (p : Nat) : State :=
  ((s.setF (pgCtrlRun p) 0).setF (pgStatBusy p) 0).setF (pgStatState p) psSTOPPED

/-- A start begins (Table 2-9). -/
def pageStarting (s : State) (p : Nat) : State :=
  ((s.setF (pgCtrlRun p) 1).setF (pgStatBusy p) 1).setF (pgStatState p) psSTARTING

/-- What a cleared page fence does beside: the slot of a rail whose RAM failed has its state cleared (chapter 7). -/
def fenceCleared (s : State) (p : Nat) : State :=
  match pageKind p with
  | some (.rail, r) => s.ramClear (32 + r)
  | _ => s

/-- A write of PG_CTRL (R35 to R37, Table 2-9): the new state, or the cause of its refusal. -/
def ctrlWrite (s : State) (p : Nat) (v : Word) (via : Option Nat) : Except Nat State :=
  let run := v.getLsbD 0
  let stop := v.getLsbD 1
  let clr := v.getLsbD 2
  let st := s.pgState p
  let rising := run && st ≠ psSTARTING && st ≠ psRUNNING
  if 1 < stop.toNat + clr.toNat + rising.toNat then .error 4
  else if !stop && !clr && !run then (if st = psSTARTING ∨ st = psRUNNING then .error 4 else .ok s)
  else if alwaysRunning p then (if stop then .error 6 else if clr then .error 4 else .ok s)
  else if st = psOFF then (if stop then .ok ((s.resetPage p).pageStopped p) else .error 4)
  else if st = psSTOPPED then (if rising then .ok (s.pageStarting p) else .error 4)
  else if st = psSTARTING then (if stop then .ok (s.pageStopped p) else if clr then .error 4 else .ok s)
  else if st = psRUNNING then
    (if stop then
      (if s.stopPermitted p via then .ok (((s.stopAsked p).setF (pgCtrlRun p) 0).setF (pgStatBusy p) 1 |>.setF (pgStatState p) psSTOPPING)
       else .error 6)
     else if clr then .error 4 else .ok s)
  else if st = psFENCED ∧ clr then
    (if (s.fsum p).getLsbD 28 then .error 7 else .ok ((s.fenceCleared p).pageStopped p))
  else .error 4

/-- The rules of R216 for a slot. -/
def slotRules (s : State) (i : Nat) : Bool :=
  let y := s.getF (VSLOT.SLOT_CFG_YSRC i)
  let r := s.getF (VSLOT.SLOT_CFG_RSRC i)
  let x := s.getF (VSLOT.SLOT_CFG_IDX i)
  let place : Bool :=
    if 32 ≤ i ∧ i < 40 then y = 5 && r ≠ 2 else if 40 ≤ i ∧ i < 56 then y = 6 && r = 2 else y ≠ 5 && y ≠ 6 && r ≠ 2
  !s.getB (VSLOT.SLOT_CFG_EN i)
    || (y < 8 && place && (y ≠ 4 || x < 24) && (r ≠ 1 || x < 24) && (y ≠ 5 || x < 8) && (y ≠ 6 || x < 16))

/-- The roles of the SHELF page with the YSRC codes that Table 8-1 permits; the spare where it is enabled. -/
def roleRules (s : State) : List (Nat × List Nat) :=
  [(s.getF SHELF.ROLE_BUSV, [1]), (s.getF SHELF.ROLE_HOLD, [1]), (s.getF SHELF.ROLE_CREST_DIS, [3]), (s.getF SHELF.ROLE_CREST_CHG, [3]),
   (s.getF SHELF.ROLE_PCMD, [3])] ++ (if s.getB SHELF.ROLE_SPARE_EN then [(s.getF SHELF.ROLE_SPARE, [1, 3])] else [])

/-- The start check of SHELF (R245). -/
def shelfOk (s : State) : Bool :=
  let l := s.roleRules
  let slots := l.map (fun (e : Nat × List Nat) => e.1)
  let divs := (slots.filter (fun i => i ≠ s.getF SHELF.ROLE_CREST_DIS && i ≠ s.getF SHELF.ROLE_CREST_CHG)).map (fun i => s.getF (VSLOT.SLOT_CFG_DIV i))
  slots.eraseDups.length = slots.length
    && l.all (fun (e : Nat × List Nat) => s.getB (VSLOT.SLOT_CFG_EN e.1) && s.getF (VSLOT.SLOT_CFG_RSRC e.1) = 3 && e.2.contains (s.getF (VSLOT.SLOT_CFG_YSRC e.1)))
    && divs.all (fun d => d = divs.headD d)
    && (s.getF SHELF.SHELF_CFG_REG_MODE = 1
      || (F32.le (s.getReg SHELF.V_UV) (s.getReg SHELF.V_REF) && F32.le (s.getReg SHELF.V_REF) (s.getReg SHELF.V_OV)))

/-- PROF_STAT after the check of every profile (R308). -/
def profShow (s : State) : State :=
  let bad := (List.range 8).map s.profBad
  let mask := (List.range 8).foldl (fun m p => if (bad.getD p none).isNone then m + 2 ^ p else m) 0
  let s := s.setF ESTPROF.PROF_STAT_VALID mask
  match (List.range 8).find? (fun p => (bad.getD p none).isSome) with
  | some p => (s.setF ESTPROF.PROF_STAT_ERR_PROF p).setF ESTPROF.PROF_STAT_ERR_OFS ((bad.getD p none).getD 0)
  | none => (s.setF ESTPROF.PROF_STAT_ERR_PROF 0).setF ESTPROF.PROF_STAT_ERR_OFS 0

/-- Every profile that a string with a configured port names passes (R308). -/
def profsOk (s : State) : Bool := (List.range 24).all (fun k => !s.portOn k || (s.profBad (s.strProf k)).isNone)

/-- The start check of PHASE (R347). -/
def phasesOk (s : State) : Bool :=
  let l := ((List.range 8).map (fun r => (List.range (s.getF (PHASE.GRP_NPH r))).map (s.getF (PHASE.GRP_FIRST r) + ·))).flatten
  l.all (· < 16) && l.eraseDups.length = l.length

/-- R349: the switching frequency at every F_TB that the timebase can take, in 0.1 kHz. -/
def railFreqOk (s : State) (r : Nat) : Bool :=
  if s.getB (RAIL.RAIL_CFG_TBSEL r) then 100 ≤ s.getF (RAIL.RAIL_CFG_FSW_KHZ r) && s.getF (RAIL.RAIL_CFG_FSW_KHZ r) ≤ 2000
  else
    let k := s.getF RSYNC.TB_CFG_TB_KHZ
    let d := s.getF (RAIL.RAIL_CFG_DIV r)
    let lo := if s.getB RSYNC.TB_CFG_SYNC_EN then max 1000 (9 * k) else 10 * k
    let hi := if s.getB RSYNC.TB_CFG_SYNC_EN then min 20000 (11 * k) else 10 * k
    1000 * d ≤ lo && hi ≤ 20000 * d

/-- The start check of RAILr (R347, R349, R357, R364, R441). -/
def railOk (s : State) (r : Nat) : Bool :=
  s.getF (PHASE.GRP_NPH r) ≠ 0 && s.railFreqOk r && 300000 * 256 ≤ (256 - s.getF (RAIL.RAIL_CFG_SAMPLE_PH r)) * s.railPs r
    && F32.lt (s.getReg (RAIL.I_SHED r)) (s.getReg (RAIL.I_ADD r)) && F32.le (s.getReg (RAIL.I_ADD r)) (s.getReg (RAIL.PH_IMAX r))
    && !(s.rail_ r).adcBad

/-- The start check of EFUSEc (R388, R395). -/
def efuseOk (s : State) (c : Nat) : Bool :=
  let pos (w : Word) : Bool := F32.isFinite w && F32.lt 0 w
  let k := min 4 (s.getF (EFUSE.EF_CFG_SC_MULT c) + 2)
  let v := F32.mul (F32.mul (F32.ofNat k) (s.getReg (EFUSE.ILIM c))) (s.getReg (EFUSE.R_SENSE c))
  pos (s.getReg (EFUSE.R_SENSE c)) && pos (s.getReg (EFUSE.ILIM c)) && pos (s.getReg (EFUSE.PLIM c)) && F32.le v 0x3D4CCCCD
    && 2 ≤ s.getF (EFUSE.EF_CFG_IG c) && s.getF (EFUSE.EF_CFG_IG c) ≤ 50
    && s.getF (EFUSE.TIMES_T_GATE_CHK c) < 10 * s.getF (EFUSE.INRUSH_TMAX_MS c)

/-- The start check of SEQSLOT for one slot (R420). -/
def seqSlotOk (s : State) (i : Nat) : Bool :=
  let g := s.getReg (SEQSLOT.SL_GAIN i)
  !s.slotEn i
    || ((!s.windowOn i || F32.lt (s.getReg (SEQSLOT.SL_UV i)) (s.getReg (SEQSLOT.SL_OV i)))
      && F32.lt (s.getReg (SEQSLOT.SL_OFF i)) (s.getReg (SEQSLOT.SL_UV i))
      && (16 ≤ i || (F32.isFinite g && F32.lt 0 g)))

/-- The start check of a page (R51 and the chapters' rules), but for the lane schedule. A port takes at most 16 cells for each monitor (R4, Table 0-2; log entry 97). A ring needs PAIR form (R2 of the chain ports); RIDGE without BELAY_N takes at most 8 rings (R462). -/
def startOk (s : State) (p : Nat) : Bool :=
  match pageKind p with
  | some (.vslot, n) => (List.range 8).all (fun i => s.slotRules (8 * n + i))
  | some (.shelf, _) => s.shelfOk
  | some (.est, _) => s.profsOk
  | some (.survey, _) => s.svStartOk
  | some (.phase, _) => s.phasesOk
  | some (.rail, r) => s.railOk r
  | some (.efuse, c) => s.efuseOk c
  | some (.seqslot, _) => (List.range 32).all s.seqSlotOk
  | some (.yport, n) => (s.isPair || !s.getB (YPORT.PORT_CFG_RING n)) && s.getF (YPORT.PORT_CFG_CELLS n) ≤ 16
  | some (.ridge, _) => !s.isPair || s.getB RIDGE.PAIR_CFG_BELAY_EN || ((List.range 24).filter (fun n => s.portOn n && s.getB (YPORT.PORT_CFG_RING n))).length ≤ 8
  | _ => true

/-- PHASE starts: owned phases that are not fenced are ACTIVE, the rest UNASSIGNED (R347). -/
def phaseStart (s : State) : State :=
  let s := forAll 16 (fun s q =>
    if s.phState q = phFENCED then s else s.setPhase q (if (s.railOf q).isSome then phACTIVE else phUNASSIGNED)) s
  forAll 8 railCounts s

/-- What a page's start boundary does once its check has passed. -/
def startDone (s : State) (p : Nat) : State :=
  match pageKind p with
  | some (.shelf, _) => (s.updShelf (fun x => { x with spareRole := 0 })).setF SHELF.REG_STAT_SPARE_IN_USE 0
  | some (.crest, _) => s.crestLimits true
  | some (.vslot, n) => forAll 8 (fun s i => s.startSlot (8 * n + i)) s
  | some (.yport, n) =>
    let known := (s.prt n).statusAt.isSome
    let s := (s.updShelf (fun x => { x with stat := x.stat.set n none, statNew := x.statNew.set n none })).updPort n (fun x => { x with
      holdDue := true, statusAt := none })
    let s := forAll 32 (fun s k => if k ≠ 0 ∧ s.getB (YPORT.NODE_POS_PRESENT n k) then s.askCounts n k else s) s
    let s := if !s.isActive then s
      else if known && epochNewer (s.getF (YPORT.EPOCH_NODE0_SEEN n)) s.pair.epoch then s.setEpoch s.newEpoch
      else s.txEpoch n s.pair.epoch
    if s.getB (YPORT.PORT_STAT_LINK n) then s else s.raise (16 + 2 * n) [2]
  | some (.sample, _) => { s with sample := { s.sample with
      startUs := s.dev.nowUs, nextUs := none, cfg := s.getReg SAMPLE.SDM_CFG
      gain := (List.range 4).map (fun i => s.getReg (SAMPLE.GAIN i)), ofs := (List.range 4).map (fun i => s.getReg (SAMPLE.OFS i)) } }
  | some (.fmover, _) => s.fmRelease
  | some (.phase, _) => s.phaseStart
  | some (.rsync, _) =>
    let k := s.getF RSYNC.TB_CFG_TB_KHZ
    (({ s with tb := ⟨0, 0, 1000 * k⟩ }).setF RSYNC.TB_STAT_FREQ_KHZ k).setF RSYNC.TB_STAT_STATE 0
  | some (.rail, r) => s.hostRenew (16 + r)
  | some (.efuse, c) => if (s.efSt c).gateFault then s.efGo c efGATE_FAULT .hold else s.hostRenew (24 + c)
  | some (.pmbus, _) => { s with vout := List.replicate 32 none }
  | some (.t1s, _) => s.setB T1S.T1S_STAT_COORD (s.getF T1S.T1S_CFG_PLCA_ID = 0)
  | some (.can, n) => if s.getF (CAN.CAN_STAT_STATE n) = 2 then (s.setReg (CAN.CAN_STAT n) 0).endL (242 + n) else s
  | _ => s

/-- A page whose check has passed is RUNNING (Table 2-9). -/
def pageRuns (s : State) (p : Nat) : State :=
  ((((s.settle (fun a => a / 0x1000 = p)).setF (pgCtrlRun p) 1).setF (pgStatBusy p) 0).setF (pgStatState p) psRUNNING).startDone p

/-- The start boundary of a STARTING page: its check with the lane schedule of R226, then RUNNING, or STOPPED with cause 5. -/
def startPage (s : State) (p : Nat) : State :=
  let s := if p = pEST then s.profShow else s
  if !s.startOk p then s.startFails p
  else if schedPages.contains p then
    match s.schedule with
    | some (l, loads) => (s.pageRuns p).schedAccept l loads
    | none => s.startFails p
  else s.pageRuns p

/-- PG_OWNER with nobody. -/
def ownerFree (s : State) (p : Nat) : State :=
  { s.setReg (pgOwner p) 0 with dev := { s.dev with ownAt := eraseKey p s.dev.ownAt } }

/-- The requester holds the page, or nobody does (R46); firmware ignores ownership (R49). -/
def mayWrite (s : State) (p : Nat) (r : Requester) : Bool :=
  !s.getB (pgOwnerHeld p) || r == .firmware || (s.getF (pgOwnerPort p) == reqPort r && s.getF (pgOwnerSource p) == reqSource r)

/-- The holder has made an accepted access (R48). -/
def ownerTouch (s : State) (p : Nat) (r : Requester) : State :=
  if s.getB (pgOwnerHeld p) && r != .firmware && s.mayWrite p r then
    { s with dev := { s.dev with ownAt := insertKey p s.dev.nowUs (eraseKey p s.dev.ownAt) } }
  else s

/-- An accepted write of PG_OWNER (R47): a claim, another token, or the release; TOKEN 0 of a page that nobody holds is accepted too (log entry 19). -/
def ownerWrite (s : State) (p : Nat) (r : Requester) (token : Nat) : State :=
  if token = 0 then s.ownerFree p
  else
    let s := s.setN (pgOwner p) (token * 2 ^ 16 + reqSource r * 2 ^ 8 + reqPort r * 2 ^ 4 + 1)
    { s with dev := { s.dev with ownAt := insertKey p s.dev.nowUs (eraseKey p s.dev.ownAt) } }

/-- Every page that a port holds is free (R48). -/
def ownersOf (s : State) (port : Nat) : State :=
  allPages.foldl (fun s p => if s.getB (pgOwnerHeld p) && s.getF (pgOwnerPort p) == port then s.ownerFree p else s) s

end State

open State

/-- PAGE_START_BOUNDARY (Table 2-9, R226). -/
def execPageStartBoundary (p : Nat) (s : State) : Host.Outcome State Fault Refusal :=
  if s.powered ∧ s.pgState p = psSTARTING then .next (s.startPage p) else .next s

/-- PAGE_STOP_BOUNDARY (Tables 2-9 and 2-12, R36). -/
def execPageStopBoundary (p : Nat) (s : State) : Host.Outcome State Fault Refusal :=
  if s.powered ∧ s.pgState p = psSTOPPING ∧ s.stopReady p then .next ((s.stopDone p).pageStopped p) else .next s

/-- OWNERSHIP_TIMEOUT (R48). -/
def execOwnershipTimeout (p : Nat) (s : State) : Host.Outcome State Fault Refusal :=
  let t := s.getN DEV.OWN_TIMEOUT
  if s.getB (pgOwnerHeld p) ∧ t ≠ 0 ∧ 1000000 * t ≤ s.dev.nowUs - (lookupKey p s.dev.ownAt).getD 0 then .next (s.ownerFree p) else .next s

end Sys2Proof.Machine
end

