-- ==== Sys2Proof/Machine/Ascent.lean ====
section
/-! DEFINITION. Ascent (chapter 3): the steps of Table 3-4, the failure of R70, the end of an ascent, and the resets, pins and wake sources that start one. -/

namespace Sys2Proof.Machine

namespace State

/-- The controller fails its ascent at a step (R70, Table 3-2): a device reset with cause ASCENT_FAIL, then another ascent, or DORMANT with only the WAKE pin enabled. -/
def ascentFail (s : State) (step : Nat) : State :=
  let n := min 3 (s.getF DEV.ASCENT_STAT_FAILS + 1)
  let rest := n = 3 ∨ s.dev.singleAttempt
  let s := { s with dev := { s.dev with ascFailPending := step } }
  let s := ((s.setF DEV.ASCENT_STAT_FAILS n).deviceReset rcASCENT_FAIL).setF DEV.ASCENT_STAT_FAIL_STEP step
  if rest then
    ({ s.pwmFloat with dev := { s.dev with ascPhase := .none, wakeOnly := true } }.setF DEV.MODE_STAT_PREV_MODE mASCENT).setF DEV.MODE_STAT_MODE mDORMANT
  else s

/-- Step 1: the clocks run from the sources that the BOOTSEL pins choose (R84, log entry 102); staged records of before the reset are flushed where VHOLD kept its charge (R492). -/
def ascPower (s : State) : State :=
  let s := s.setB CLKPWR.CLK_STAT_REFCLK_OK s.dev.bootsel0
  let s := (s.setB CLKPWR.CLK_STAT_XT32_OK s.dev.bootsel1).setB CLKPWR.CLK_STAT_LFO_SRC s.dev.bootsel1
  if s.nvOk then s.cairnFlush else s

/-- The newest Cairn record. -/
def cairnHead (s : State) : Option CairnRec := s.cairnLast

/-- Operating seconds as the counters hold them (R486): the device counter record, else the newest Cairn record, else 0. -/
def storedOpsec (s : State) : Nat :=
  (s.counterField 0 8).getD (match s.cairnHead with
    | some r => r.opsec
    | none => 0)

/-- Step 3: the Cairn head and the counters (R486, R489, R498). -/
def ascCairn (s : State) : State :=
  let head := s.cairnHead
  let seqOf : Nat := match head with
    | some r => (r.seq + 1) % 2 ^ 32
    | none => 1
  let floor := (s.counterField 20 4).getD seqOf
  let next := if seqNewer floor seqOf then floor else seqOf
  let s := s.setN DEV.ASCENT_COUNT ((s.counterField 8 4).getD (match head with
    | some r => r.pcyc
    | none => 0))
  let s := (s.setN CAIRN.LOST ((s.counterField 12 4).getD 0)).setN CAIRN.CLEARS ((s.counterField 16 4).getD 0)
  let s := { s with cairn := { s.cairn with nextSeq := next } }
  let s := match head with
    | some r => (s.setN CAIRN.LAST_SEQ r.seq).setF CAIRN.LAST_REPEAT_REPEAT r.rep
    | none => s
  let s := match s.cairn.nv.getLast? with
    | some r => s.setN CAIRN.WRITTEN_SEQ r.seq
    | none => s
  s.cairnShow

/-- The record of R534 is written anew with the bank that started. -/
def ascRecord (s : State) (b : Bool) : State :=
  s.psQueue 0x0100 (imgRecord b false (s.bank b).fwVer (s.imgField 8 4) (s.imgField 12 4))

/-- Step 4 (R68, R535): the bank that starts, or none. -/
def ascImage (s : State) : State × Option Bool :=
  let a := s.activeBank
  let c := s.bankFail (s.bank a)
  let trial := s.imgField 1 1 = 1
  let ver := (s.bank (!a)).fwVer
  let tell (s : State) : State := if trial then s.raise 231 (2 :: leBytes 4 ver.toNat) else s
  if c = 0 then (tell (s.ascRecord a), some a)
  else if s.bankFail (s.bank (!a)) = 0 then ((tell (s.ascRecord (!a))).raise 232 [(!a).toNat, c], some !a)
  else (s, none)

/-- Step 5: the image runs (R538, R539). -/
def ascLoad (s : State) (b : Bool) : State := ((s.showBank b).setB IMAGE.RUN_STAT_ACTIVE_BANK b).migrateAll

/-- Configuration apply sets this page: a valid record of it, of one of its slots, or of a profile exists (R56). -/
def pageSet (s : State) (p : Nat) : Bool :=
  let has (id : Nat) : Bool := (s.psRead id).isSome
  match pageKind p with
  | some (.vslot, n) => (List.range 8).any (fun i => has (0x1100 + 8 * n + i))
  | some (.seqslot, _) => (List.range 32).any (fun i => has (0x1200 + i))
  | some (.estprof, _) => (List.range 8).any (fun i => has (0x1300 + i))
  | some (.fcolSev, _) => has 0x1400
  | some _ => has (0x1000 + p)
  | none => false

/-- The device counters of the e-fuse channels (R384); a channel with the GATE_FAULT flag starts in GATE_FAULT (R390). -/
def ascEfuse (s : State) (c : Nat) : State :=
  match s.psRead (0x0300 + c) with
  | none => s
  | some l =>
    let f (o n : Nat) : Nat := leNat (bytesNat ((l.drop o).take n))
    let s := ((s.setN (EFUSE.ENERGY_LO c) (f 0 4)).setN (EFUSE.ENERGY_HI c) (f 4 4)).setF (EFUSE.EF_CNT_TRIPS c) (f 12 4)
    let bad := f 8 4 % 2 = 1
    let s := s.updEf c (fun x => { x with gateFault := bad })
    if bad then s.efGo c efGATE_FAULT .hold else s

/-- The stored capacities of a string (R333): the leading entries that are not 0. -/
def ascCapacity (s : State) (k : Nat) : State :=
  match s.psRead (0x0400 + k) with
  | some l =>
    let w (j : Nat) : Word := BitVec.ofNat 32 (leNat (bytesNat ((l.drop (4 * j)).take 4)))
    s.updEst k (fun e => { e with stored := some (((List.range 496).map w).takeWhile (· ≠ 0)) })
  | none => if s.portOn k then s.setF (ESTSTR.WB_STAT_NO_RECORD k) 1 else s

/-- A page whose start was refused at configuration apply (R69). -/
def ascRefuse (s : State) (p : Nat) : State := { s.startFails p with dev := { s.dev with cfgRefused := true } }

/-- Step 6: configuration apply (R56): stored values first, then every set page starts, one lane schedule for all (R18, R226). -/
def ascApply (s : State) : State :=
  let s := psConfigIds.foldl (fun s id => match s.psRead id with
    | some l => s.cfgApply id l
    | none => s) s
  let pages := allPages.filter (fun p => !alwaysRunning p && s.pageSet p)
  let s := pages.foldl pageStarting s
  let s := if pages.contains pEST then s.profShow else s
  let s := pages.foldl (fun s p => if s.startOk p then s else s.ascRefuse p) s
  let s := match s.schedule with
    | some (l, loads) => (s.schedAccept l loads).schedSwap
    | none => (schedPages.filter (fun p => s.pgState p = psSTARTING)).foldl ascRefuse s
  pages.foldl (fun s p => if s.pgState p = psSTARTING then s.pageRuns p else s) s

/-- Step 6: the self-tests of R441. -/
def ascTests (s : State) (e : AscentEnv) : State :=
  let s := s.setF SAMPLE.SDM_STAT_STUCK e.badSdm.toNat
  forAll 8 (fun s r => s.updRail r (fun x => { x with adcBad := e.badAdc.getLsbD r })) s

/-- Step 6: the chains (R69): links that came up, and the walks. -/
def ascChains (s : State) (e : AscentEnv) : State :=
  let s := e.walks.foldl (fun s (w : Fin 24 × WalkResult) => if s.pgRunning (pYPORT w.1.val) then s.walkDone w.1.val w.2 else s) s
  forAll 24 (fun s k => if s.portOn k then s.estPrep k else s) s

/-- A configured port that does not come up is fenced (R69, log entry 103); the ascent ends in DEGRADED for it. -/
def ascPorts (s : State) : State :=
  forAll 24 (fun s n => if s.pgRunning (pYPORT n) && !s.getB (YPORT.PORT_STAT_LINK n) then s.fenceUnit (.port n) else s) s

/-- The configuration is applied; the ascent waits for its end. -/
def ascApplied (s : State) : State := { s with dev := { s.dev with ascPhase := .applied } }

/-- Steps 5 and 6 once a bank is chosen: the image loads, the stored state returns, the configuration applies. -/
def ascConfigure (s : State) (e : AscentEnv) (b : Bool) : State :=
  let s := forAll 24 (fun s n => s.setB (YPORT.PORT_STAT_LINK n) (e.linksUp.getLsbD n)) ((s.ascLoad b).ascTests e)
  let s := forAll 24 ascCapacity (forAll 8 ascEfuse s).ascApply
  (s.ascChains e).ascPorts.ascApplied

/-- The ascent from step 4 on: without a bank it fails there. -/
def ascFrom (s : State) (e : AscentEnv) (bank : Option Bool) : State :=
  match bank with
  | none => s.ascentFail 4
  | some b => s.ascConfigure e b

/-- Steps 1 to 6 of Table 3-4. -/
def ascentSteps (s : State) (e : AscentEnv) : State :=
  let r := (s.ascPower.psScan e.scan).ascCairn.ascImage
  r.1.ascFrom e r.2

/-- The ascent starts once VIN is above VIN_POR and RST_N is high (Table 3-2). -/
def tryAscent (s : State) (e : AscentEnv) : State :=
  if s.mode ≠ mASCENT then s
  else match s.dev.ascPhase with
    | .started => s.ascentSteps e
    | .waiting => if s.dev.vinPor && s.dev.rstN then ({ s with dev := { s.dev with ascPhase := .started } }).ascentSteps e else s
    | _ => s

/-- The groups with AUTO_UP get their up request at the end of ascent, after T_REST since the release of the outputs at a reset (R403, Table 13-6); BELAY-gated groups of a pair wait for the active role (R469). -/
def ascGroups (s : State) : State :=
  forAll 4 (fun s g =>
    if s.grpLive g && s.getB (SEQGRP.GRP_CFG_AUTO_UP g) && !(s.isPair && (s.getF RIDGE.PAIR_CFG_ACT_GRP).testBit g) then
      let rest : Bool := match s.dev.relUs with
        | some t => s.dev.nowUs < t + 1000 * s.getF (SEQGRP.GRP_CFG_T_REST g)
        | none => false
      let past := (s.dev.nowUs - s.dev.relUs.getD 0) / 10
      if rest then { (s.setF (SEQGRP.GRP_STAT_STATE g) grREST).upRequest g with seq := { s.seq with restTicks := s.seq.restTicks.set g past } }
      else s.upRequest g
    else s) s

/-- Regulation at the end of an ascent: the slot of the configured REG_MODE is the active one (R246, log entry 142), and in RUN it starts at the next boundary (R248). -/
def ascRegulate (s : State) (m : Nat) : State :=
  let s := s.makeActive (s.roleSlot (modeRole s.wantMode))
  if m = mRUN then s.updShelf (fun x => { x with startReg := true }) else s

/-- Step 7 and the mode of Table 3-2 (R66, R70, R78, R248, R447, R494). -/
def ascentEnd (s : State) (time : Nat) : State :=
  let degraded := s.anyFence || s.dev.cfgRefused
  let m := if s.isPair then mWATCH else if degraded then mDEGRADED else mRUN
  let step := s.dev.ascFailPending
  let s := { s with dev := { s.dev with ascPhase := .none, singleAttempt := false, wakeOnly := false, ascFailPending := 0, rstOutHeld := false } }
  let s := ((s.setF DEV.ASCENT_STAT_TIME time).setF DEV.ASCENT_STAT_FAIL_STEP 0).setF DEV.ASCENT_STAT_FAILS 0
  let s := s.setN DEV.ASCENT_COUNT (s.getN DEV.ASCENT_COUNT + 1)
  let s := if m = mDEGRADED then s.setF DEV.MODE_STAT_SHELF_INHIBIT 1 else s
  let s := if s.isPair then s else s.setEpoch s.newEpoch
  let s := ((s.runEntry m).setF DEV.MODE_STAT_PREV_MODE mASCENT).setF DEV.MODE_STAT_MODE m
  let data := [m, mASCENT, s.getF DEV.RST_CAUSE_CAUSE]
  let s := (s.cairnStage 11 (min 5 (s.getF (FCOL_SEV.SEV_SEV 11))) kASCENT false data).checkFill
  let s := raiseN 8 s 11 data .noRecord
  let s := if step = 0 then s else s.raise 9 [step]
  let s := if 32704 ≤ s.cairnN then (s.setCond 227 true).setAct 227 true else s
  let s := if 32768 ≤ s.cairnN then (s.setCond 228 true).setAct 228 true else s
  let s := s.checkpoint.ascGroups.updPair (fun x => { x with watchAt := s.dev.nowUs })
  s.ascRegulate m

/-- A wake source acts in a mode and is enabled there (Table 3-6, R70): bit 3 T1S, 2 CAN0, 1 RTC, 0 WAKE. -/
def wakeActs (s : State) (bit m : Nat) : Bool :=
  if m = mSHIP then bit == 0
  else if m = mDORMANT then
    bit == 0 || (!s.dev.wakeOnly && ((bit == 1 && s.getB DEV.WAKE_CTRL_RTC_EN && s.getReg DEV.RTC_ALARM ≠ 0)
      || (bit == 2 && s.getB DEV.WAKE_CTRL_CAN0_EN) || (bit == 3 && s.getB DEV.WAKE_CTRL_T1S_EN)))
  else false

/-- A wake: a device reset with cause WAKE, and WAKE_CTRL.CAUSE (Table 3-2). -/
def wakeReset (s : State) (bit : Nat) : State := (s.resetAll.causeBit rcWAKE).setF DEV.WAKE_CTRL_CAUSE (2 ^ bit)

/-- The operating time at a wake: the alarm comes RTC_ALARM seconds after DORMANT entry (Table 3-6), the others when they come. -/
def wakeTime (s : State) (bit : Nat) : State :=
  if bit = 1 then { s with dev := { s.dev with nowUs := s.dev.nowUs + 1000000 * s.getN DEV.RTC_ALARM } } else s.aged

/-- A wake source qualifies (R74, R76): it is latched in a descent, or starts the ascent. -/
def wake (s : State) (bit : Nat) (e : AscentEnv) : State :=
  if s.getB DEV.MODE_STAT_DESCENT then
    if s.wakeActs bit s.dev.descTarget && s.dev.wakeLatch = 0 then { s with dev := { s.dev with wakeLatch := 2 ^ bit } } else s
  else if s.wakeActs bit s.mode then ((s.wakeTime bit).wakeReset bit).tryAscent e
  else s

/-- AON starts from its power-on state (Table 3-8): RST_CAUSE reads POR only, WAKE_CTRL and FAILS at Reset, operating time from the last checkpoint. -/
def aonStart (s : State) : State :=
  let s := ((s.setReg DEV.RST_CAUSE 1).setReg DEV.WAKE_CTRL (resetWord DEV.WAKE_CTRL)).setF DEV.ASCENT_STAT_FAILS 0
  { s with dev := { s.dev with aonUp := true, nowUs := 1000000 * s.storedOpsec, relUs := some (1000000 * s.storedOpsec), ckptLeftUs := 900000000,
                               singleAttempt := false, wakeOnly := false } }

end State

open State

/-- DEVICE_RESET_POR (R80, Table 3-7): VIN below VIN_POR, or the AON supply back. -/
def execDeviceResetPor (s : State) : Host.Outcome State Fault Refusal :=
  let up := s.dev.aonUp
  let s := ({ s with dev := { s.dev with vinPor := false } }).deviceReset rcPOR
  .next (if up then s else s.aonStart)

/-- RST_N_LOW (R78). -/
def execRstNLow (s : State) : Host.Outcome State Fault Refusal :=
  .next (({ s with dev := { s.dev with rstN := false } }).deviceReset rcRST_N)

/-- RST_N_RELEASE (Table 3-2). -/
def execRstNRelease (e : AscentEnv) (s : State) : Host.Outcome State Fault Refusal :=
  .next (({ s with dev := { s.dev with rstN := true } }).tryAscent e)

/-- CORE_BROWNOUT (Table 3-7): CORE, EST or NV. -/
def execCoreBrownout (_r : CoreRegion) (s : State) : Host.Outcome State Fault Refusal :=
  if s.powered then .next (s.deviceReset rcBROWNOUT) else .next s

/-- VIN_POR_RISING (R65): an AON supply that was lost has come back with VIN. -/
def execVinPorRising (mv : Half) (e : AscentEnv) (s : State) : Host.Outcome State Fault Refusal :=
  let s := if s.dev.aonUp then s else (s.deviceReset rcPOR).aonStart
  let s := ({ s with dev := { s.dev with vinPor := true } }).setF CLKPWR.VIN_MV_VIN mv.toNat
  .next (s.tryAscent e)

/-- ASCENT_COMPLETE (R65, R70): an ascent whose steps have not run yet runs them first. -/
def execAscentComplete (time : Half) (e : AscentEnv) (s : State) : Host.Outcome State Fault Refusal :=
  let s := s.tryAscent e
  if s.mode = mASCENT ∧ s.dev.ascPhase = .applied then .next (s.ascentEnd time.toNat) else .next s

/-- ASCENT_STEP_TIMEOUT (R70). -/
def execAscentStepTimeout (step : Nat) (s : State) : Host.Outcome State Fault Refusal :=
  if s.mode = mASCENT ∧ (s.dev.ascPhase = .started ∨ s.dev.ascPhase = .applied) then .next (s.ascentFail step) else .next s

/-- WAKE_PIN_QUALIFIED (R76): the pin is active from here on (R61). -/
def execWakePinQualified (e : AscentEnv) (s : State) : Host.Outcome State Fault Refusal :=
  .next (({ s with dev := { s.dev with wakePin := true } }).wake 0 e)

/-- RTC_ALARM (R76): RTC_ALARM seconds after DORMANT entry, so never in a descent. -/
def execRtcAlarm (e : AscentEnv) (s : State) : Host.Outcome State Fault Refusal :=
  if s.mode = mDORMANT then .next (s.wake 1 e) else .next s

/-- CAN0_WAKE_PATTERN and T1S_ACTIVITY_WAKE (R76). -/
def execCan0WakePattern (e : AscentEnv) (s : State) : Host.Outcome State Fault Refusal := .next (s.wake 2 e)
def execT1sActivityWake (e : AscentEnv) (s : State) : Host.Outcome State Fault Refusal := .next (s.wake 3 e)

end Sys2Proof.Machine
end

