-- ==== Sys2Proof/Machine/Collector.lean ====
section
/-! DEFINITION. Commands of the fault collector (chapter 14): raises, acknowledgement, unfencing, fault injection, the reset that ends a takeover reaction. -/

namespace Sys2Proof.Machine

/-- The reserved indexes of Table 14-2. -/
def srcReserved (i : Nat) : Bool :=
  (12 ≤ i && i ≤ 15) || (100 ≤ i && i ≤ 103) || (188 ≤ i && i ≤ 191) || (203 ≤ i && i ≤ 207) || (218 ≤ i && i ≤ 223)
    || (233 ≤ i && i ≤ 239) || 249 ≤ i

/-- The sources whose fence unit is the unit that UNFENCE names (R431). FS_VCE_* and FS_EST_SLICE_UE name their unit in DATA only. -/
def unfenceSources (unit i : Nat) : List Nat :=
  match unit with
  | 0 => [64 + i]
  | 1 => [88, 89, 90, 91, 92, 94, 98]
  | 2 => [112 + i]
  | 3 => [152 + i]
  | 4 => [195]
  | 5 => [241]
  | _ => []

/-- How many units of its kind UNFENCE can name; slots 32 to 55 are cleared through their rail or phase (Table 14-3). -/
def unfenceIndexOk (unit i : Nat) : Bool :=
  match unit with
  | 0 => i < 24
  | 1 => i < 32 || 56 ≤ i
  | 2 => i < 16
  | 3 => i < 32
  | 4 => i < 24
  | 5 => i < 16
  | _ => false

/-- The source that an injection's checker expects (Table 14-5). -/
def injSource (checker inst : Nat) (two : Bool) : Nat :=
  match checker with
  | 1 => if two then 194 else 2
  | 2 => if two then 98 else 97
  | 5 => 16 + 2 * inst
  | 6 => 209
  | 7 => 224
  | 8 => 8
  | 9 => 0
  | 10 => 94
  | _ => if two then 1 else 2

namespace State

/-- Is the unit that UNFENCE names fenced? -/
def unitFenced (s : State) (unit i : Nat) : Bool :=
  match unit with
  | 0 => s.shelf.strFence.getD i false
  | 1 => s.slotFenced i
  | 2 => s.phState i = phFENCED
  | 3 => s.slotSt i = slFENCED
  | 4 => s.shelf.estFence.getD i false
  | 5 => s.dmState i = dmFENCED
  | _ => false

/-- A profile that failed is loaded again from its stored record, or takes its Reset values where there is none (R341). -/
def profReload (s : State) (q : Nat) : State :=
  if s.shelf.profUe.getD q false then
    let s := s.updShelf (fun x => { x with profUe := x.profUe.set q false })
    match s.psRead (0x1300 + q) with
    | some l => s.cfgApply (0x1300 + q) l
    | none => (profWords q).foldl (fun s w => s.setN w.addr (s.cfgReset w)) s
  else s

/-- The unit returns (Table 14-3). -/
def unfenceUnit (s : State) (unit i : Nat) : State :=
  match unit with
  | 0 => s.updShelf (fun x => { x with strFence := x.strFence.set i false })
  | 1 => s.unfenceSlot i
  | 2 =>
    let s := s.ramClear (40 + i)
    match s.railOf i with
    | some r => (((s.setPhase i phSHED).setF (PHASE.PH_STAT_REASON i) 0).updPhase i (fun z => { z with pwm := .mid, shadow := .mid })).railCounts r
    | none => s.setPhase i phUNASSIGNED
  | 3 => s.unfenceSeqSlot i
  | 4 => ((s.updShelf (fun x => { x with estFence := x.estFence.set i false })).profReload (s.strProf i)).estInit i (fun _ => true)
  | 5 => (s.setF (SDMA.CH_STAT_STATE i) dmSTOPPED).sdmaCond
  | _ => s

/-- FCOL.UNFENCE with GO (R431). -/
def unfence (s : State) (unit i : Nat) : State :=
  if unfenceIndexOk unit i && s.unitFenced unit i && !(unfenceSources unit i).any s.getAct then
    (s.unfenceUnit unit i).setF FCOL.UNFENCE_RESULT 2
  else s.setF FCOL.UNFENCE_RESULT 3

/-- FCOL_CTRL.ACK (R435). -/
def fcolAck (s : State) : State :=
  let sev := ((List.range 256).filter s.getAct).foldl (fun m x => max m (min 5 (s.getF (FCOL_SEV.SEV_SEV x)))) 0
  let s := { s with dev := { s.dev with ackSinceSafe := true } }
  ((s.setReg FCOL.FCOL_FIRST 0).setReg FCOL.FCOL_STAT 0).setF FCOL.FCOL_STAT_SEV_MAX sev

/-- The word of FCOL.ACTk after a write of `v` (R428): a bit clears where its condition is not present. -/
def actWritten (s : State) (k : Nat) (old v : Word) : Word := old &&& ~~~(v &&& ~~~(s.getReg (FCOL.COND k)))

/-- May an injection of this checker start (R436)? -/
def injOk (s : State) (checker inst count : Nat) : Bool :=
  (s.mode == mSERVICE || (s.mode == mRUN && s.dev.injInRun)) && !s.getB FCOL.INJ_STAT_BUSY && count ≠ 0 && checker ≤ 10
    && (!(checker == 3 || checker == 5) || (inst < 24 && s.pgRunning (pYPORT inst)))
    && (checker ≠ 10 || (inst < 8 && s.getB (VSLOT.SLOT_CFG_PAIR inst)))
    && (checker ≠ 6 || (count ≤ 2 && s.isPair && s.getB RIDGE.PAIR_STAT_LINK))

/-- FCOL.INJ with GO (R436): a start, a cancel, or a refusal. -/
def injGo (s : State) (two : Bool) (checker inst count : Nat) : State :=
  if s.getB FCOL.INJ_STAT_BUSY ∧ count = 0 then (s.setF FCOL.INJ_STAT_BUSY 0).setF FCOL.INJ_STAT_RESULT 1
  else if s.injOk checker inst count then
    ({ s with inj := ⟨checker, inst, two⟩ }).setN FCOL.INJ_STAT (2 ^ 31 + count)
  else s.setF FCOL.INJ_STAT_RESULT 2

/-- An access of the injected checker (R437, R438): the link checkers treat the frame as a real failure, a slot's pair compare shows its mismatch in CMP_FLAG and SLOT_STAT, and every flagged access raises its source. -/
def injAccess (s : State) (detected : Bool) (info : List Nat) : State :=
  let left := s.getF FCOL.INJ_STAT_LEFT - 1
  let s := s.setF FCOL.INJ_STAT_LEFT left
  let s := if detected then s.incSat FCOL.INJ_STAT_DETECT else s
  let s := if left = 0 then (s.setF FCOL.INJ_STAT_BUSY 0).setF FCOL.INJ_STAT_RESULT 1 else s
  if s.inj.checker = 5 then s.crcError s.inj.inst .injected
  else if s.inj.checker = 6 then (if s.isStandby ∧ s.pair.copy.isSome then s.copyMiss 2 .injected else s)
  else if detected ∧ s.inj.checker = 10 then
    let i := s.inj.inst
    raiseN 8 ((s.setF (VSLOT.SLOT_STAT_CMP_FAIL i) 1).putBit VCE.CMP_FLAG i true) 94 info .injected
  else if detected then raiseN 8 s (injSource s.inj.checker s.inj.inst s.inj.twoBits) info .injected
  else s

/-- What a raise from outside does beside its reaction: a slot whose RAM failed clears its state when it returns (chapter 7), a cell whose state failed is initialised (Table 10-7; string in DATA byte 0, cell in bytes 1 and 2), learning of a fenced slice is disqualified (Table 10-4). -/
def raiseEffects (s : State) (src : Nat) (data : List Nat) : State :=
  if src = 98 then (if s.isFenced (.slot (data.getD 0 0 % 64)) then s.updVs (data.getD 0 0 % 64) (fun v => { v with ramUe := true }) else s)
  else if src = 195 then forAll 24 (fun s k => if s.shelf.estFence.getD k false then s.learnDisq k 8 else s) s
  else if src = 194 then s.estInit (data.getD 0 0 % 24) (fun j => j = dataLe data 1 2)
  else s

/-- The reset that ends a takeover reaction (R425): in SOLO form and with no healthy partner the staged records are flushed first. -/
def takeoverEnd (s : State) : State :=
  (if s.pair.yielded then s else s.cairnFlush).deviceReset rcSEVERITY

end State

open State

/-- SOURCE_RAISE (R421): a source of Table 14-2 with its DATA. -/
def execSourceRaise (i : BitVec 8) (data : List Byte) (s : State) : Host.Outcome State Fault Refusal :=
  let d := data10 (data.map BitVec.toNat)
  if s.powered ∧ srcReserved i.toNat = false then .next ((s.raise i.toNat d).raiseEffects i.toNat d) else .next s

/-- TAKEOVER_RESET (R425). -/
def execTakeoverReset (s : State) : Host.Outcome State Fault Refusal :=
  if s.powered ∧ s.dev.takeoverHeld then .next s.takeoverEnd else .next s

/-- INJECTED_ACCESS (R437). -/
def execInjectedAccess (detected : Bool) (info : List Byte) (s : State) : Host.Outcome State Fault Refusal :=
  if s.powered ∧ s.getB FCOL.INJ_STAT_BUSY then .next (s.injAccess detected (data10 (info.map BitVec.toNat))) else .next s

end Sys2Proof.Machine
end

