-- ==== Sys2Proof/Machine/HostRead.lean ====
section
/-! DEFINITION. Reads of the register fabric (chapters 2, 16 and 18): what an offset of a page reads, the registers computed at the read, multi-word values and the snapshot latch of each port (R52 to R54). -/

namespace Sys2Proof.Machine

/-- The multi-word value or SSN-tagged block that holds offset `o`: its lowest and highest offset (R52, R54 and the rules of the pages). -/
def multiWord (k : PageKind) (o : Nat) : Option (Nat × Nat) :=
  let pick (l : List (Nat × Nat)) : Option (Nat × Nat) := l.find? (fun e => e.1 ≤ o && o ≤ e.2)
  match k with
  | .dev => pick [(0x04C, 0x050)]
  | .fcol => pick [(0x024, 0x028)]
  | .yport => if 0x180 ≤ o ∧ o < 0x280 then some (o / 8 * 8, o / 8 * 8 + 4) else none
  | .sample => pick [(0x080, 0x0B0)]
  | .vslot => let b := o / 0x200 * 0x200; pick [(b + 0x0D0, b + 0x0F8)]
  | .shelf => pick [(0x060, 0x07C)]
  | .alloc => pick [(0x140, 0x20C), (0x220, 0x2E0)]
  | .crest => pick [(0x080, 0x0AC)]
  | .cornice => pick [(0x0A0, 0x12C)]
  | .eststr => pick [(0x040, 0x07C)]
  | .estwin => pick [(0x100, 0x1CC), (0x200, 0x2CC), (0x300, 0x38C)]
  | .rail => pick [(0x060, 0x078)]
  | .phase => pick [(0x100, 0x13C)]
  | .efuse => pick [(0x060, 0x074), (0x078, 0x07C)]
  | .pmbus => pick [(0x310, 0x328)]
  | _ => none

/-- The registers of the SAMPLE page that live on while it is OFF (R178). -/
def liveOff (k : PageKind) (o : Nat) : Bool := k = .sample && 0x050 ≤ o && o ≤ 0x060

/-- A 32-byte entry's word. -/
def entryWord (l : List Nat) (j : Nat) : Word := BitVec.ofNat 32 (leNat ((l.drop (4 * j)).take 4))

namespace State

/-- Where the word at page offset `o` is kept: behind the ESTPROF window and PMB_VALi the selected one (R342, R527). -/
def homeOf (s : State) (p o : Nat) : Nat :=
  if p = pESTPROF ∧ 0x100 ≤ o then 0x1000000 + 0x300 * s.getF ESTPROF.PROF_SEL_SEL + (o - 0x100)
  else if p = pPMBUS ∧ 0x310 ≤ o ∧ o ≤ 0x328 then PMBUS.PMB_VAL (s.getF PMBUS.PMB_SEL_DEV) ((o - 0x310) / 4)
  else 0x1000 * p + o

/-- PSTORE's view of the selected copy (R475, R484, R500). -/
def psView (s : State) (o : Nat) : Option Word :=
  let id := s.getF PSTORE.PS_SEL_ID
  let b := s.getB PSTORE.PS_SEL_COPY
  let c := if psPages id = 0 then ⟨[], false⟩ else s.psCopy id b
  let known : Bool := psPages id ≠ 0
  if o = 0x02C then
    let valid : Bool := known && s.psValid id b
    some (BitVec.ofNat 32 (valid.toNat * 2 ^ 31 + (decide (valid = true ∧ s.psNewest id = some b)).toNat * 2 ^ 30
      + (known && c.blank).toNat * 2 ^ 29 + (if known && !c.blank then c.invalidCause id else 0) * 2 ^ 24 + c.schema))
  else if o = 0x030 then some (BitVec.ofNat 32 c.seq)
  else if o = 0x034 then some (BitVec.ofNat 32 c.len)
  else if 0x100 ≤ o then
    let busy := match s.ps.flight with
      | some f => decide (f.id = id ∧ f.copyB = b)
      | none => false
    some (if busy then 0 else entryWord (bytesNat ((c.bytes.drop (o - 0x100)).take 4)) 0)
  else none

/-- CAIRN's records and trace entries (R495, R499). -/
def cairnView (s : State) (o : Nat) : Option Word :=
  if o = 0x064 then
    let n := s.traceSize
    some (BitVec.ofNat 32 (n * 2 ^ 16 + (if n = 0 then 0 else s.cairn.traceCount % n)))
  else if 0x400 ≤ o ∧ o < 0x800 then
    let q := (s.getN CAIRN.RD_SEQ + (o - 0x400) / 32) % 2 ^ 32
    some (match (s.cairn.nv ++ s.cairn.staged).find? (fun r => r.seq = q) with
      | some r => entryWord r.bytes ((o - 0x400) % 32 / 4)
      | none => 0)
  else if 0x800 ≤ o ∧ o < 0xC00 then
    let n := s.traceSize
    if n = 0 then some 0
    else
      let idx := (s.getF CAIRN.TRACE_SEL_IDX + (o - 0x800) / 32) % n
      let back := (s.cairn.traceCount + n - 1 - idx) % n
      some (match s.cairn.trace[back]? with
        | some r => entryWord r.traceBytes ((o - 0x800) % 32 / 4)
        | none => 0)
  else none

/-- IMAGE: the trial's time left in 0.1 s (R541), and the target's header once taken (R532). -/
def imageView (s : State) (o : Nat) : Option Word :=
  if o = 0x02C then
    let left := if s.getB IMAGE.RUN_STAT_TRIAL then (30000000 - (s.dev.nowUs - s.img.pauseEndUs)) / 100000 else 0
    some (withBits (s.getReg IMAGE.RUN_STAT) 0 16 left)
  else if 0x200 ≤ o ∧ o < 0x400 then
    let l := (s.bank s.target).bytes
    some (if l.length < 512 then 0 else entryWord (bytesNat ((l.drop (o - 0x200)).take 4)) 0)
  else none

/-- RIDGE.PAIR_STAT: health and broken rings as they are now (chapter 15). -/
def pairView (s : State) (o : Nat) : Option Word :=
  if o = RIDGE.PAIR_STAT % 0x1000 then
    let broken : Bool := (List.range 24).any (fun n => s.portOn n && s.getB (YPORT.PORT_STAT_BROKEN n))
    some (withBits (withBits (s.getReg RIDGE.PAIR_STAT) 4 1 s.healthy.toNat) 2 1 broken.toNat)
  else none

/-- Registers that are computed at the read. -/
def computed (s : State) (k : PageKind) (o : Nat) : Option Word :=
  match k with
  | .dev =>
    if o = 0x04C then some (BitVec.ofNat 32 s.opsec)
    else if o = 0x050 then some (BitVec.ofNat 32 (s.opsec / 2 ^ 32)) else none
  | .clkpwr =>
    if o = 0x024 then some s.pllStat else if o = 0x028 then some s.regionPwr else if o = 0x038 then some s.coreMv else none
  | .pstore => s.psView o
  | .cairn => s.cairnView o
  | .image => s.imageView o
  | .ridge => s.pairView o
  | _ => none

/-- The page's block completes an accepted write that takes time (PG_STAT.BUSY, Table 2-5; log entry 98). -/
def blockBusy (s : State) (k : PageKind) (n : Nat) : Bool :=
  match k with
  | .dev => s.getF DEV.MODE_STAT_RESULT = 1
  | .fcol => s.getB FCOL.INJ_STAT_BUSY
  | .cairn => s.cairn.clearSeq.isSome
  | .pstore => s.getB PSTORE.PS_STAT_BUSY || s.ps.scanning
  | .image => s.getB IMAGE.IMG_STAT_BUSY || s.img.pause ≠ .none
  | .ridge => s.getB RIDGE.PROOF_STAT_BUSY
  | .yport => s.getB (YPORT.MBX_STAT_BUSY n)
  | .vce => s.getF VCE.HANDOVER_RESULT = 1
  | .vslot => (List.range 8).any (fun i => s.getB (VSLOT.SLOT_STAT_SWAP_PEND (8 * n + i)))
  | .pmbus => s.getB PMBUS.PMB_MBX_STAT_BUSY
  | _ => false

/-- What an offset of a page reads now (R29, R32, R38). -/
def viewWord (s : State) (p o : Nat) : Word :=
  match pageKind p with
  | none => 0
  | some (k, n) =>
    if o = 0x008 ∧ s.blockBusy k n then withBits (s.getReg (0x1000 * p + o)) 9 1 1
    else if o = 0x00C then s.fsum p
    else if o < 0x020 then s.getReg (0x1000 * p + o)
    else if (findReg p o).isNone then 0
    else if s.pgState p = psOFF ∧ liveOff k o = false ∧ ¬ (p = pT1S ∧ (o = 0x02C ∨ o = 0x030)) then resetWord (0x1000 * p + o)
    else (s.computed k o).getD (s.getReg (s.homeOf p o))

/-- The snapshot latch of a requester's port (R52). -/
def latchOf (s : State) : Requester → List (Nat × Word)
  | .spi => s.spi.latch
  | .can n _ => (s.msg.getD n.val MsgSt.rest).latch
  | .t1s _ => (s.msg.getD 4 MsgSt.rest).latch
  | .firmware => s.fwLatch

/-- The latch captures. -/
def setLatch (s : State) (r : Requester) (l : List (Nat × Word)) : State :=
  match r with
  | .spi => { s with spi := { s.spi with latch := l } }
  | .can n _ => s.updMsg n.val (fun x => { x with latch := l })
  | .t1s _ => s.updMsg 4 (fun x => { x with latch := l })
  | .firmware => { s with fwLatch := l }

/-- A word read by a requester (R52 to R54): the lowest word of a multi-word value captures the higher ones; a higher word reads as captured. A higher word that the latch does not hold reads what the latch last captured there, which the spec does not give (a free value); it reads the same until the next capture (R53, log entry 13). -/
def readWord (s : State) (r : Requester) (p o : Nat) : Word × State :=
  match (pageKind p).bind (fun e => multiWord e.1 o) with
  | none => (s.viewWord p o, s)
  | some (lo, hi) =>
    if (findReg p o).isNone then (0, s)
    else if o = lo then
      let l := (List.range ((hi - lo) / 4)).map (fun i => (0x1000 * p + lo + 4 * (i + 1), s.viewWord p (lo + 4 * (i + 1))))
      (s.viewWord p o, s.setLatch r l)
    else match lookupKey (0x1000 * p + o) (s.latchOf r) with
      | some w => (w, s)
      | none =>
        let f := s.takeFree
        (f.1, f.2.setLatch r ((0x1000 * p + o, f.1) :: s.latchOf r))

/-- `n` words from offset `o` on, in ascending order. -/
def readWords (r : Requester) (p : Nat) : Nat → Nat → State → List Word × State
  | 0, _, s => ([], s)
  | n + 1, o, s =>
    let a := s.readWord r p o
    let b := readWords r p n (o + 4) a.2
    (a.1 :: b.1, b.2)

end State

end Sys2Proof.Machine
end

