-- ==== Sys2Proof/Machine/Ports.lean ====
section
/-! DEFINITION. Host and plant ports (chapter 17) but for page transactions: reception of messages, the plant link, REPORT, RACK, the states of the CAN FD and T1S ports, PMBus; the NTC measurement (chapter 19). -/

namespace Sys2Proof.Machine

/-- The number of a message port: 0 to 3 for CAN0 to CAN3, 4 for T1S. -/
def portNo : MsgPort → Nat
  | .can n => n.val
  | .t1s => 4

/-- LINEAR11 (Table 17-7): a signed 11-bit mantissa and a signed 5-bit exponent. -/
def linear11 (x : Half) : Word :=
  let m := (x.extractLsb' 0 11).toInt
  let e := (x.extractLsb' 11 5).toInt
  if m = 0 then 0 else F32.ofQ (m < 0) (m.natAbs * 2 ^ e.toNat) (2 ^ (-e).toNat)

/-- LINEAR16: an unsigned mantissa and the exponent of VOUT_MODE. -/
def linear16 (mode : Byte) (x : Half) : Word :=
  let e := (mode.extractLsb' 0 5).toInt
  F32.ofQ false (x.toNat * 2 ^ e.toNat) (2 ^ (-e).toNat)

/-- The commands of Table 17-7. -/
def pmbCmds : List Nat := [0x00, 0x01, 0x03, 0x20, 0x3B, 0x79, 0x88, 0x89, 0x8B, 0x8C, 0x8D, 0x90, 0x96, 0x98]

/-- DATA byte 1 of FS_PMBUS (R524). -/
def pmbFailCode : PmbFail → Nat
  | .noAck => 1
  | .pec => 2
  | .timeout => 3

/-- Body bytes of the plant messages before their CRC (Table 17-5). -/
def intentBody (amp lead : Word) (isn : Half) (hint : Nat) : List Nat :=
  leBytes 4 amp.toNat ++ leBytes 4 lead.toNat ++ leBytes 2 isn.toNat ++ [hint, 0]
def capBody (dis chg : Word) (valid : Nat) : List Nat := leBytes 4 dis.toNat ++ leBytes 4 chg.toNat ++ [valid, 0]

namespace State

/-- The port receives: an operating mode (R66), its page RUNNING, on its bus. -/
def portHears (s : State) (p : Nat) : Bool := s.operating && s.pgRunning (msgPage p) && !s.msgOff p

/-- Reception of a message of TYPE `typ` (R509): counted, and discarded where its CRC fails. -/
def receive (s : State) (h : MsgHead) (typ : Nat) (body : List Nat) (k : State → State) : State :=
  let p := portNo h.port
  if !s.portHears p then s
  else
    let s := s.incSat (cntRxFrames p)
    if crc16 (identBytes typ h.dst.toNat h.src.toNat h.tag.toNat ++ body) ≠ h.crc.toNat then s.incSat (cntRxCrc p)
    else k s

/-- DST names the controller (R510); `all`: 0xFF names it too. -/
def addressed_ (s : State) (p : Nat) (dst : Nat) (all : Bool) : Bool :=
  dst = s.nodeAddr p || dst = s.shelfAddr p || (all && dst = 0xFF)

/-- A plant message (R514): `k` where it is valid, IGNORED otherwise. -/
def plantMsg (s : State) (h : MsgHead) (typ : Nat) (body : List Nat) (all : Bool) (k : State → State) : State :=
  s.receive h typ body (fun s =>
    let p := portNo h.port
    if p = s.plantLink ∧ s.addressed_ p h.dst.toNat all ∧ h.src.toNat = s.plantAddr p then (k s).plantSeen
    else s.incSat (cntIgnored p))

/-- Flags of a REPORT (Table 17-6). -/
def reportFlags (s : State) : Nat :=
  s.cnLive.toNat + 2 * s.inhibit.toNat + 4 * s.getF SHELF.REG_STAT_PLANT_LOST + 8 * s.getF ALLOC.ALLOC_STAT_SHORTFALL
    + 16 * (decide (s.huState ≠ 0)).toNat + 32 * (decide (s.getF EST.UNANCH_MASK ≠ 0)).toNat + 64 * s.isActive.toNat

/-- The achievable limit of R251 in the present direction. -/
def reportLimit (s : State) : Word :=
  if F32.lt (s.getReg SHELF.DEMAND) 0 then F32.max (s.getReg CREST.I_LIM_CHG) (F32.sumX (s.gated.map s.cLim))
  else F32.min (s.getReg CREST.I_LIM_DIS) (F32.sumX (s.gated.map s.dLim))

/-- Body of a REPORT (Table 17-6). -/
def reportBody (s : State) : List Nat :=
  let valid := (List.range 24).filter (fun k => s.getB (ESTSTR.RES_STAT_VALID k))
  [s.mode, s.reportFlags, 0, 0]
    ++ ([s.getReg SHELF.P_SHELF, s.getReg SHELF.V_BUS_USED, s.getReg SHELF.DEMAND, s.reportLimit, s.getReg ALLOC.SHORT,
         F32.sumX (valid.map (fun k => s.getReg (ESTSTR.E_DIS k))), F32.sumX (valid.map (fun k => s.getReg (ESTSTR.E_CHG k))),
         s.getReg ALLOC.WSSN, s.getReg CREST.CAP_DIS, s.getReg CREST.CAP_CHG].map (fun w => leBytes 4 w.toNat)).flatten

/-- REPORT_MS of the plant link (R516). -/
def reportMs (s : State) : Nat := if s.plantLink = 4 then s.getF T1S.PUB_REPORT_MS else s.getF (CAN.REPORT_REPORT_MS 0)

/-- A REPORT that is due, periodic or at a change of a flag (R516). -/
def reportStep (s : State) : State :=
  let p := s.plantLink
  let m := s.msgPort p
  let f := s.reportFlags
  let per : Bool := s.reportMs ≠ 0 && 1000 * s.reportMs ≤ s.dev.nowUs - m.repAt
  let chg : Bool := f ≠ m.repFlags && 10000 ≤ s.dev.nowUs - m.chgAt
  if !(per || chg) then s
  else
    let now := s.dev.nowUs
    (s.updMsg p (fun x => { x with repAt := if per then now else x.repAt, chgAt := if chg then now else x.chgAt, repFlags := f })).sendPlant
      0x09 s.reportBody

/-- Byte 0 of a RACK (R519). -/
def rackFlags (s : State) : Nat :=
  s.getF SEQ.SEQ_STAT_RACK_SELF + 2 * s.getF SEQ.SEQ_STAT_RACK_STUCK + 4 * s.getF SEQ.SEQ_STAT_RACK_LOW

/-- The PEER entry of a sender, else the first empty one (R519). -/
def peerSlot (s : State) (src : Nat) : Option Nat :=
  match (List.range 24).find? (fun k => s.getF (CAN.PEER_ADDR 1 k) = src) with
  | some k => some k
  | none => (List.range 24).find? (fun k => s.getF (CAN.PEER_ADDR 1 k) = 0)

/-- A RACK of a peer (R519): its entry takes its flags. A sender beyond 24, or with address 0, has no entry. -/
def rackIn (s : State) (src flags : Nat) : State :=
  match if src = 0 then none else s.peerSlot src with
  | some k => s.setN (CAN.PEER 1 k) (src * 2 ^ 24 + flags % 8)
  | none => s

/-- Messages that waited for the bus: those older than 10 ms are dropped, the others sent (R517). -/
def flushWaiting (s : State) (p : Nat) : State :=
  let l := (s.msgPort p).waiting
  let old (m : OutMsg) : Bool := 10000 ≤ s.dev.nowUs - m.atUs
  l.foldl (fun (s : State) (m : OutMsg) =>
    if old m then s.incSat (cntDropped p)
    else (s.updMsg p (fun x => { x with last := some m })).incSat (cntTxFrames p))
    (s.updMsg p (fun x => { x with waiting := [] }))

/-- Frames not sent within 10 ms of queueing are dropped (R517). -/
def dropOld (s : State) (p : Nat) : State :=
  let old (m : OutMsg) : Bool := 10000 ≤ s.dev.nowUs - m.atUs
  let n := ((s.msgPort p).waiting.filter old).length
  (List.range n).foldl (fun (s : State) _ => s.incSat (cntDropped p))
    (s.updMsg p (fun x => { x with waiting := x.waiting.filter (fun m => !old m) }))

/-- The T1S port has what R521 asks for: link, and a beacon where PLCA is on. -/
def t1sWell (s : State) : Bool :=
  s.getB T1S.T1S_STAT_LINK && (s.getF T1S.T1S_CFG_PLCA_ID = 255 || s.getB T1S.T1S_STAT_BEACON)

/-- FS_T1S is raised when its condition begins (R521). -/
def t1sFail (s : State) : State := if s.getCond 246 then s else s.raiseL 246 []

/-- VOUT_MODE of a device: as read once since the page start (R522). -/
def voutMode (s : State) (d : Nat) (x : PmbData) : Byte := (s.vout.getD d none).getD x.voutMode

/-- A device's value of POLL bit `k + 1` (R522): LINEAR16 for READ_VOUT, LINEAR11 for the others; a VOUT_MODE that is not linear gives no stated value. -/
def pmbValue (s : State) (d : Nat) (x : PmbData) (k : Nat) : Word × State :=
  let v := x.vals.getD k 0
  let m := s.voutMode d x
  if k = 2 then
    if m.toNat < 32 then (linear16 m v, s) else s.takeFree
  else (linear11 v, s)

/-- Values of a successful poll (R522, R524). -/
def pmbPolled (s : State) (d : Nat) (x : PmbData) : State :=
  let poll := s.getF (PMBUS.DEV_A_POLL d)
  let s := if poll.testBit 0 then s.setF (PMBUS.PMB_STAT_STATUS_WORD d) x.statusWord.toNat else s
  let s := forAll 7 (fun s k =>
    if poll.testBit (k + 1) then
      let r := s.pmbValue d x k
      r.2.setReg (PMBUS.PMB_VAL d k) r.1
    else s) s
  let s := { s with vout := s.vout.set d (some (s.voutMode d x)) }
  ((s.setF (PMBUS.PMB_STAT_FAILS d) 0).setF (PMBUS.PMB_STAT_FAILED d) 0).setF (PMBUS.PMB_STAT_PRESENT d) 1

/-- A failed poll (R524). -/
def pmbFailed (s : State) (d code : Nat) : State :=
  let s := s.incSat (PMBUS.PMB_STAT_FAILS d)
  if s.getF (PMBUS.DEV_B_FAIL_N d) ≤ s.getF (PMBUS.PMB_STAT_FAILS d) ∧ s.getB (PMBUS.PMB_STAT_FAILED d) = false then
    (s.setF (PMBUS.PMB_STAT_FAILED d) 1).raise 247 [d, code]
  else s

/-- PMB_MBX.GO (R523): refused outside Table 17-7; else the transaction runs to its end. What the device answers, and the word it gives, come from outside: free values; a PEC failure needs PEC. A page that is not RUNNING leaves the port silent (Table 2-12). -/
def pmbMailbox (s : State) : State :=
  if s.getB PMBUS.PMB_MBX_STAT_BUSY ∨ !s.pgRunning pPMBUS then s
  else if !pmbCmds.contains (s.getF PMBUS.PMB_MBX_CMD) then s.setF PMBUS.PMB_MBX_STAT_RESULT 4
  else
    let (r, s) := s.takeFree
    let res := if r.toNat % 4 = 2 ∧ !s.getB PMBUS.PMB_CFG_PEC then 1 else r.toNat % 4
    let s := s.setF PMBUS.PMB_MBX_STAT_RESULT res
    if res = 0 ∧ s.getB PMBUS.PMB_MBX_OP = false then
      let (w, s) := s.takeFree
      s.setF PMBUS.PMB_MBX_DATA (w.toNat % 65536)
    else s

/-- NTCn of Table 19-16 from a code. -/
def ntcWord (c : Nat) : Nat :=
  2 ^ 16 + c + (if 99 * 4096 < 100 * c then 2 ^ 17 else 0) + (if 100 * c < 4096 then 2 ^ 18 else 0)

end State

open State

/-- HOLD_MESSAGE (R265, R515): an entry condition at the next boundary; it clears a release that waits. -/
def execHoldMessage (h : MsgHead) (s : State) : Host.Outcome State Fault Refusal :=
  .next (s.plantMsg h 0x01 [] true (fun s => s.updShelf (fun x => { x with huReqPlant := true, huReqRel := false })))

/-- RELEASE_MESSAGE (R266, R515): latched at the next boundary. -/
def execReleaseMessage (h : MsgHead) (s : State) : Host.Outcome State Fault Refusal :=
  .next (s.plantMsg h 0x03 [] true (fun s => s.updShelf (fun x => { x with huReqRel := true })))

/-- CAP_MESSAGE (R260, R273, Table 17-5): the caps of the valid fields at the next boundary. -/
def execCapMessage (h : MsgHead) (dis chg : Word) (valid : BitVec 2) (s : State) : Host.Outcome State Fault Refusal :=
  .next (s.plantMsg h 0x04 (capBody dis chg valid.toNat) false (fun s =>
    let s := if valid.getLsbD 0 then (s.later [(CREST.CAP_PLANT_DIS, dis)]).updShelf (fun x => { x with lossDis := false }) else s
    if valid.getLsbD 1 then (s.later [(CREST.CAP_PLANT_CHG, chg)]).updShelf (fun x => { x with lossChg := false }) else s))

/-- PCMD_MESSAGE (R246, R273): P_CMD_PLANT at the next boundary; it ends what the loss of the plant made (R272). -/
def execPcmdMessage (h : MsgHead) (p : Word) (s : State) : Host.Outcome State Fault Refusal :=
  .next (s.plantMsg h 0x05 (leBytes 4 p.toNat) false (fun s =>
    (s.later [(SHELF.P_CMD_PLANT, p)]).updShelf (fun x => { x with cmdHold := false, cmdZero := false, toBusv := false })))

/-- INTENT_MESSAGE (R281, R515): timed from its arrival, `atUs` after the last boundary. -/
def execIntentMessage (h : MsgHead) (amp lead : Word) (isn : Half) (hint : BitVec 3) (atUs : Nat) (s : State) : Host.Outcome State Fault Refusal := s.heldRun fun s =>
  .next (s.plantMsg h 0x02 (intentBody amp lead isn hint.toNat) false (fun s => s.cnIntent amp lead isn hint.toNat (s.dev.nowUs + atUs)))

/-- MESSAGE_CRC_FAIL (R509). -/
def execMessageCrcFail (p : MsgPort) (s : State) : Host.Outcome State Fault Refusal :=
  let n := portNo p
  if s.portHears n then .next ((s.incSat (cntRxFrames n)).incSat (cntRxCrc n)) else .next s

/-- REPORT_TIMER (R516). -/
def execReportTimer (s : State) : Host.Outcome State Fault Refusal := s.heldRun fun s =>
  if s.operating ∧ s.isActive ∧ s.pgRunning (msgPage s.plantLink) then .next s.reportStep else .next s

/-- T1S_PUBLICATION (R521): REPORT to the broadcast address, on SDMA channel 6. -/
def execT1sPublication (s : State) : Host.Outcome State Fault Refusal := s.heldRun fun s =>
  if s.operating ∧ s.pgRunning pT1S ∧ s.dmMoves 6 ∧ s.getF T1S.PUB_PUB_MS ≠ 0 then .next (s.sendMsg 4 0x09 0xFF s.reportBody) else .next s

/-- RACK_MESSAGE_RX (R519): RACK belongs to CAN1 (Table 17-4); elsewhere it is ignored and counted (R508). -/
def execRackMessageRx (h : MsgHead) (flags mode : Byte) (s : State) : Host.Outcome State Fault Refusal :=
  .next (s.receive h 0x0C [flags.toNat, mode.toNat] (fun s =>
    let p := portNo h.port
    if p ≠ 1 then s.incSat (cntIgnored p)
    else if s.addressed_ p h.dst.toNat true then s.rackIn h.src.toNat flags.toNat else s))

/-- RACK_SEND_TIMER (R519). -/
def execRackSendTimer (s : State) : Host.Outcome State Fault Refusal :=
  if s.operating ∧ s.pgRunning (pCAN 1) then
    .next ((s.updMsg 1 (fun x => { x with rackFlags := s.rackFlags })).sendMsg 1 0x0C 0xFF [s.rackFlags, s.mode])
  else .next s

/-- PEER_TIMEOUT (R519): an entry of 5 s without a RACK is removed. -/
def execPeerTimeout (k : Nat) (s : State) : Host.Outcome State Fault Refusal :=
  if s.getF (CAN.PEER_ADDR 1 k) ≠ 0 ∧ 50 ≤ s.getF (CAN.PEER_AGE 1 k) then .next (s.setReg (CAN.PEER 1 k) 0) else .next s

/-- CAN_ERROR_STATE (R518, R48): error passive or bus-off. -/
def execCanErrorState (n : Nat) (busOff : Bool) (tec rec : Byte) (s : State) : Host.Outcome State Fault Refusal :=
  if s.powered ∧ s.pgRunning (pCAN n) then
    let was := s.getF (CAN.CAN_STAT_STATE n) = 2
    let st := if busOff ∨ was then 2 else 1
    let s := s.setN (CAN.CAN_STAT n) (tec.toNat * 2 ^ 24 + rec.toNat * 2 ^ 16 + st)
    let s := if busOff ∧ ¬ was then (s.incSat (CAN.CNT_MISC_BUS_OFF n)).ownersOf (2 + n) else s
    .next (if s.getCond (242 + n) then s else s.raiseL (242 + n) [])
  else .next s

/-- CAN_BUS_OFF_RECOVERY (R518). -/
def execCanBusOffRecovery (n : Nat) (s : State) : Host.Outcome State Fault Refusal :=
  if s.getF (CAN.CAN_STAT_STATE n) = 2 ∧ s.getB (CAN.CAN_CFG_AUTO_RECOV n) then
    .next (((s.setReg (CAN.CAN_STAT n) 0).endL (242 + n)).flushWaiting n)
  else .next s

/-- CAN_TX_DROP (R517). -/
def execCanTxDrop (n : Nat) (s : State) : Host.Outcome State Fault Refusal := .next (s.dropOld n)

/-- CAN_ERROR_ACTIVE_RETURN (R518): from error passive. -/
def execCanErrorActiveReturn (n : Nat) (tec rec : Byte) (s : State) : Host.Outcome State Fault Refusal :=
  if s.getF (CAN.CAN_STAT_STATE n) = 1 then
    .next ((s.setN (CAN.CAN_STAT n) (tec.toNat * 2 ^ 24 + rec.toNat * 2 ^ 16)).endL (242 + n))
  else .next s

/-- T1S_LINK_LOSS (R521, R48): the PHY's link, or no beacon for 2 ms. -/
def execT1sLinkLoss (phy : Bool) (s : State) : Host.Outcome State Fault Refusal :=
  if s.powered ∧ s.pgRunning pT1S then
    if phy then .next ((s.setF T1S.T1S_STAT_LINK 0).ownersOf 6).t1sFail
    else
      let s := (s.setF T1S.T1S_STAT_BEACON 0).incSat T1S.CNT_MISC_BEACON_LOSS
      .next (if s.getF T1S.T1S_CFG_PLCA_ID = 255 then s else s.t1sFail)
  else .next s

/-- T1S_LINK_RETURN (R521): the link, or a beacon, or both; frames that waited are sent. -/
def execT1sLinkReturn (phy beacon : Bool) (s : State) : Host.Outcome State Fault Refusal :=
  if s.powered ∧ s.pgRunning pT1S then
    let s := if phy then s.setF T1S.T1S_STAT_LINK 1 else s
    let s := if beacon then s.setF T1S.T1S_STAT_BEACON 1 else s
    let s := if s.t1sWell then s.endL 246 else s
    .next (if s.msgOff 4 then s else s.flushWaiting 4)
  else .next s

/-- PMBUS_POLL (R522): a successful poll. -/
def execPmbusPoll (d : Nat) (x : PmbData) (s : State) : Host.Outcome State Fault Refusal :=
  if s.operating ∧ s.pgRunning pPMBUS ∧ s.getB (PMBUS.DEV_A_EN d) then .next (s.pmbPolled d x) else .next s

/-- PMBUS_POLL_FAIL (R524); a PEC error needs packet error checking (R522). -/
def execPmbusPollFail (d : Nat) (why : PmbFail) (s : State) : Host.Outcome State Fault Refusal :=
  if s.operating ∧ s.pgRunning pPMBUS ∧ s.getB (PMBUS.DEV_A_EN d) ∧ (why = .pec → s.getB PMBUS.PMB_CFG_PEC) then .next (s.pmbFailed d (pmbFailCode why)) else .next s

/-- PMBUS_ALERT (R524): STATUS_WORD of the first polled device with the address that the alert response names. -/
def execPmbusAlert (addr : BitVec 7) (statusWord : Half) (s : State) : Host.Outcome State Fault Refusal :=
  if s.operating ∧ s.pgRunning pPMBUS ∧ s.getB PMBUS.PMB_CFG_ALERT_EN then
    match (List.range 32).find? (fun d => s.getB (PMBUS.DEV_A_EN d) && s.getF (PMBUS.DEV_A_ADDR d) == addr.toNat) with
    | some d =>
      let s := forAll 32 (fun s i => s.setF (PMBUS.PMB_STAT_ALERT i) (decide (i = d)).toNat) s
      .next (s.setF (PMBUS.PMB_STAT_STATUS_WORD d) statusWord.toNat)
    | none => .next s
  else .next s

/-- NTC_MEASUREMENT (R562, Table 19-16): while the RAIL region is live. -/
def execNtcMeasurement (codes : List (BitVec 12)) (s : State) : Host.Outcome State Fault Refusal :=
  if s.powered ∧ !s.dev.regionDown.contains .rail then
    .next (forAll 8 (fun s n => s.setN (CLKPWR.NTC n) (ntcWord (codes.getD n 0).toNat)) s)
  else .next s

end Sys2Proof.Machine
end

