-- ==== Sys2Proof/Machine/Modes.lean ====
section
/-! DEFINITION. Modes, descent, supplies and clocks (chapter 3): the requests of MODE_CTRL, the descent of Table 3-5, the supply thresholds, the watchdog, clocks and region limits. -/

namespace Sys2Proof.Machine

/-- Codes of MODE_STAT.RESULT (Table 3-14). -/
abbrev mrNONE : Nat := 0
abbrev mrPENDING : Nat := 1
abbrev mrDONE : Nat := 2
abbrev mrCURRENT : Nat := 3
abbrev mrWAKE : Nat := 4
abbrev mrMODE : Nat := 5
abbrev mrKEY : Nat := 6
abbrev mrFAULT : Nat := 7
abbrev mrBAD_REQ : Nat := 8

namespace State

def modeResult (s : State) (r : Nat) : State := s.setF DEV.MODE_STAT_RESULT r

/-- An accepted request for DORMANT (1) or SHIP (0): descent runs (R72). -/
def reqDescent (s : State) (target : Nat) : State :=
  let m := s.mode
  if !(m = mWATCH ∨ m = mRUN ∨ m = mDEGRADED ∨ m = mSERVICE) then s.modeResult mrMODE
  else if target = mSHIP ∧ s.dev.wakePin then s.modeResult mrWAKE
  else
    let s := { s with dev := { s.dev with descTarget := target, descStep := 0, descByLimit := false, wakeLatch := 0 } }
    (s.setF DEV.MODE_STAT_DESCENT 1).modeResult mrPENDING

/-- SERVICE_ENTER (R62): zero allocations, and 100 ms below SVC_IZERO. -/
def reqService (s : State) : State :=
  let m := s.mode
  if !(m = mWATCH ∨ m = mRUN ∨ m = mDEGRADED) then s.modeResult mrMODE
  else if !(List.range 24).all (fun k => F32.isZero (s.getReg (ALLOC.A k))) ∨ s.dev.svcQuietUs < 100000 then s.modeResult mrCURRENT
  else ((allPages.foldl ownerFree s).setMode mSERVICE).modeResult mrDONE

/-- Regulation is to start from zero demand at the next boundary (R248). -/
def startDemand (s : State) : State := s.updShelf (fun x => { x with startReg := true })

/-- SERVICE_EXIT (Table 3-2): WATCH where the partner is active, else the active role. -/
def reqServiceExit (s : State) : State :=
  if s.mode ≠ mSERVICE then s.modeResult mrMODE
  else if s.isPair ∧ s.pair.partnerActive ∧ s.getB RIDGE.PAIR_STAT_ACTIVE = false then (s.setMode mWATCH).modeResult mrDONE
  else if s.isPair ∧ s.getB RIDGE.PAIR_STAT_ACTIVE = false then s.settleActive.modeResult mrDONE
  else (s.startDemand.setMode s.runOrDegraded).modeResult mrDONE

/-- INHIBIT_CLR (R63, R248, Table 3-2). -/
def reqInhibitClr (s : State) : State :=
  let m := s.mode
  if !(m = mDEGRADED ∨ m = mWATCH ∨ m = mSERVICE) then s.modeResult mrMODE
  else if s.dev.ackSinceSafe = false ∨ s.actSev 4 then s.modeResult mrFAULT
  else
    let was := s.inhibit
    let s := s.setF DEV.MODE_STAT_SHELF_INHIBIT 0
    let run : Bool := m = mDEGRADED && !s.anyFence
    let s := if m = mDEGRADED ∧ (was ∨ run) then s.startDemand else s
    (if run then s.setMode mRUN else s).modeResult mrDONE

/-- An accepted write of MODE_CTRL (R60, R61, R570, Table 3-13): the key is checked first, then the code: a code that Table 3-13 does not name answers BAD_REQ in descent too (log entry 104). A hold-up entry of the coming boundary comes before the request (Table 3-3), and HOLDUP takes none but RESET. -/
def modeCtrl (s : State) (key req : Nat) : State :=
  let s := s.setF DEV.MODE_STAT_LAST_REQ req
  if key ≠ 0xC5 then s.modeResult mrKEY
  else if req = 0 ∨ 6 < req then s.modeResult mrBAD_REQ
  else if req = 6 then s.deviceReset rcHOST
  else if s.getB DEV.MODE_STAT_DESCENT ∨ s.dev.takeoverHeld ∨ s.huComes then s.modeResult mrMODE
  else if req = 1 then s.reqDescent mDORMANT
  else if req = 2 then s.reqDescent mSHIP
  else if req = 3 then s.reqService
  else if req = 4 then s.reqServiceExit
  else s.reqInhibitClr

/-- The partner takes the shelf before a descent (R71). -/
def descYields (s : State) : Bool :=
  s.isPair && s.getB RIDGE.PAIR_STAT_ACTIVE && s.getB DEV.DESCENT_CFG_YIELD_FIRST && s.partnerTakes

/-- The plant is informed (Table 3-5, step 1): the active controller sends a REPORT on the plant link (log entry 105). -/
def tellPlant (s : State) : State :=
  if s.isActive && s.pgRunning (msgPage s.plantLink) then s.sendPlant 0x09 s.reportBody else s

/-- Steps 1 and 2 of Table 3-5. RESULT of the request reads DONE from here (log entry 106). -/
def descBegin (s : State) : State :=
  let yields := s.descYields
  let s := { s with dev := { s.dev with descStep := 2 } }
  let s := (s.modeResult mrDONE).cnCollapse ocFAULT
  let s := (s.raise 11 [s.dev.descTarget, s.mode, 0]).tellPlant
  if yields then s.updPair (fun x => { x with yieldReq := true })
  else s.updShelf (fun x => { x with descRamp := s.isActive, startReg := false })

/-- The zero setpoints of two shelf cycles in the transmit queue entries of both (step 3). -/
def descZero (s : State) : State :=
  let c := s.shelf.cycle
  let s := forAll 24 setpoint s
  let s := forAll 24 setpoint (s.updShelf (fun x => { x with cycle := (c + 1) % 2 ^ 32 }))
  s.updShelf (fun x => { x with cycle := c })

/-- Every Yorid port stops (step 3, R39). -/
def portsStop (s : State) : State :=
  forAll 24 (fun s n =>
    let p := pYPORT n
    if s.pgState p = psRUNNING ∨ s.pgState p = psSTARTING ∨ s.pgState p = psSTOPPING then (s.markDown n).pageStopped p else s) s

/-- Steps 3 and 4: zero setpoints twice, no SYNC, ports stop; the sequencer groups descend. -/
def descStop (s : State) : State :=
  let s := { s with dev := { s.dev with descStep := 3 }, sample := { s.sample with nextUs := none } }
  let s := s.showNextSsn.descZero.portsStop
  forAll 4 (fun s g => (s.downRequest g).setF (SEQGRP.GRP_STAT_UP_PEND g) 0) { s with dev := { s.dev with descStep := 4 } }

/-- Write a record at once (step 5): header, payload and pages. -/
def psWriteNow (s : State) (id : Nat) (payload : List Byte) : State :=
  let t := s.psNext id
  let bytes := psEncodeS id (psForm id) t.2 (s.bank s.runBank).schemaMax payload
  let s := { s with ps := { s.ps with queue := s.ps.queue.filter (fun w => w.id ≠ id) } }
  (s.psPut id t.1 ⟨bytes, false⟩).setN PSTORE.PROGS (s.getN PSTORE.PROGS + psPages id)

/-- Step 5: the checkpoints of R486 and R384 where NV writes are permitted, the DESCENT record, the flush (R491, R492). -/
def descRecord (s : State) (ms : Nat) : State :=
  let s := if s.nvOk then
      let s := s.psWriteNow 0x0200 (s.counterRecord (max ((s.counterField 20 4).getD 0) (s.getN CAIRN.LAST_SEQ + 1)))
      forAll 8 (fun s c => s.psWriteNow (0x0300 + c) (s.efRecord c)) s
    else s
  let data := [s.dev.descTarget, s.dev.descByLimit.toNat] ++ leBytes 4 ms
  let s := (s.cairnStage 11 (min 5 (s.getF (FCOL_SEV.SEV_SEV 11))) kDESCENT false data).checkFill
  if s.nvOk then s.cairnFlush.cairnRewrite else s

/-- Step 6: the target mode, its regions gated; AON counts to the RTC alarm in DORMANT (Table 3-6); a latched wake starts the ascent at once (R74). -/
def descentFinish (s : State) : State :=
  let m := s.dev.descTarget
  let wakes := s.dev.wakeLatch
  let old := s.mode
  let alarm := s.getReg DEV.RTC_ALARM
  let s := (s.setMode m).resetAll.pwmFloat
  let s := if m = mDORMANT then s.setReg DEV.RTC_ALARM alarm else s
  let s := ({ s with dev := { s.dev with ascPhase := .none } }.setF DEV.MODE_STAT_PREV_MODE old).setF DEV.MODE_STAT_MODE m
  if wakes = 0 then s else s.wakeReset wakes.log2

/-- R73: the outputs are released, FS_DESCENT_FAULT reason 0x04. -/
def descForce (s : State) : State :=
  let s := { s with dev := { s.dev with descByLimit := true, descStep := 5 }, sample := { s.sample with nextUs := none } }
  let s := forAll 32 (fun s i => (s.withdraw i).setF (SEQSLOT.SL_STAT_STATE i) slOFF) s.showNextSsn.portsStop
  (forAll 8 efToOff s).raise 186 [0xFF, 4, 0]

/-- TEMP of the regions that have been live within the last second: the hottest and the coolest (Table 3-19); of equal ones the lowest index (log entry 140). -/
def tempShow (s : State) : State :=
  let t (i : Nat) : Int := signedOf 16 (s.getF (CLKPWR.TEMP_TEMP i))
  match (List.range 9).filter (fun i => s.dev.tempSeen.any (fun e => e.1 = i ∧ s.dev.nowUs ≤ e.2 + 1000000)) with
  | [] => s
  | a :: l =>
    let hot := l.foldl (fun m i => if t m < t i then i else m) a
    let cool := l.foldl (fun m i => if t i < t m then i else m) a
    ((s.setF CLKPWR.TGRAD_HOT hot).setF CLKPWR.TGRAD_COOL cool).setF CLKPWR.TGRAD_DIFF (t hot - t cool).toNat

/-- An L source follows its condition. -/
def follow (s : State) (src : Nat) (c : Bool) (data : List Nat) : State :=
  if c then (if s.getCond src then s else s.raiseL src data) else s.endL src

/-- The units of a region are fenced (Table 3-11): its ports; rails and phases; e-fuse channels and the slots on SQ pins. -/
def regionFence (s : State) : OwnRegion → State
  | .porta => forAll 12 (fun s n => (s.setF (YPORT.PORT_STAT_LINK n) 0).fenceUnit (.port n)) s
  | .portb => forAll 12 (fun s n => (s.setF (YPORT.PORT_STAT_LINK (12 + n)) 0).fenceUnit (.port (12 + n))) s
  | .link => if s.isPair && s.getB RIDGE.PAIR_STAT_LINK then s.ridgeDown else s
  | .rail =>
    let s := forAll 8 (fun s r => if s.pgState (pRAIL r) = psOFF then s else s.fenceRail r) s
    forAll 16 (fun s p => if (s.railOf p).isSome then s.fencePhase p else s) s
  | .hv =>
    let s := forAll 8 (fun s c => if s.pgState (pEFUSE c) = psOFF then s else s.fenceUnit (.efuse c)) s
    forAll 16 (fun s i => if s.slotEn i then s.fenceUnit (.seqSlot i) else s) s

/-- A region that resets alone (Table 3-11, log entry 50): what its hardware holds beside the register pages, which lie in CORE, is at its reset state. -/
def regionReset (s : State) : OwnRegion → State
  | .porta => forAll 12 (fun s n => (s.updPort n (fun _ => PortSt.rest)).setF (YPORT.MBX_STAT_BUSY n) 0) s
  | .portb => forAll 12 (fun s n => (s.updPort (12 + n) (fun _ => PortSt.rest)).setF (YPORT.MBX_STAT_BUSY (12 + n)) 0) s
  | .link =>
    let s := forAll 5 (fun s p => s.updMsg p (fun x => { MsgSt.rest with latch := x.latch, repAt := x.repAt, chgAt := x.chgAt })) s
    let s := forAll 4 (fun s n => (s.setReg (CAN.CAN_STAT n) 0).endL (242 + n)) s
    let s := (s.setF PMBUS.PMB_MBX_STAT_BUSY 0).setF T1S.T1S_STAT_BEACON 0
    let s := ({ s with spi := { s.spi with resp := [] } }).setF T1S.T1S_STAT_LINK 0
    if s.pgRunning pT1S then (s.ownersOf 6).t1sFail else s
  | .rail =>
    let s := forAll 8 (fun s r => s.updRail r (fun x => { RailSt.rest with adcBad := x.adcBad })) s
    let s := forAll 16 (fun s p => s.updPhase p (fun _ => { PhaseSt.rest with pwm := .float })) s
    { s with tb := ⟨0, 0, 1000 * s.getF RSYNC.TB_CFG_TB_KHZ⟩ }
  | .hv => forAll 8 (fun s c => s.updEf c (fun x => { EfuseSt.rest with gateFault := x.gateFault })) s

/-- The MPU restarts (R79): nothing but what needs it changes. -/
def mpuDown (s : State) : State :=
  let s := ({ s with dev := { s.dev with mpuRestart := true } }).imgStop
  s.setF EST.EST_STAT_HELD 1

/-- The end of a restart (R79, Table 18-4): the running bank is checked again, and bank ACTIVE runs where it fails. -/
def mpuUp (s : State) : State :=
  let b := s.runBank
  let a := s.activeBank
  let c := s.bankFail (s.bank b)
  let s := { s with dev := { s.dev with mpuRestart := false } }
  if c = 0 ∨ a = b then s.mpuStart b
  else (((s.setF IMAGE.RUN_STAT_TRIAL 0).dropHeld.queueTrial false).mpuStart a).raise 232 [a.toNat, c]

end State

open State

/-- DESCENT_START (R71, R72). -/
def execDescentStart (s : State) : Host.Outcome State Fault Refusal :=
  if s.operating ∧ s.getB DEV.MODE_STAT_DESCENT ∧ s.dev.descStep = 0 then .next s.descBegin else .next s

/-- DESCENT_RAMP_END (R72): the demand is zero, or the partner has taken the shelf. -/
def execDescentRampEnd (s : State) : Host.Outcome State Fault Refusal :=
  if s.operating ∧ s.getB DEV.MODE_STAT_DESCENT ∧ s.dev.descStep = 2
      ∧ (if s.shelf.descRamp then F32.isZero (s.getReg SHELF.DEMAND) ∨ s.shelfOff else s.isActive = false) then
    .next s.descStop
  else .next s

/-- DESCENT_GROUPS_ALL_OFF (R72): steps 5 and 6, `ms` after the request. -/
def execDescentGroupsAllOff (ms : Word) (s : State) : Host.Outcome State Fault Refusal :=
  if s.operating ∧ s.getB DEV.MODE_STAT_DESCENT ∧ 4 ≤ s.dev.descStep ∧ (List.range 4).all s.grpAllOff then
    .next ((s.descRecord ms.toNat).descentFinish)
  else .next s

/-- DESCENT_TMAX_EXPIRY (R73). -/
def execDescentTmaxExpiry (ms : Word) (s : State) : Host.Outcome State Fault Refusal :=
  if s.operating ∧ s.getB DEV.MODE_STAT_DESCENT ∧ s.getF DEV.DESCENT_CFG_TMAX * 10 ≤ ms.toNat then
    .next ((s.descForce.descRecord ms.toNat).descentFinish)
  else .next s

/-- VIN_WARN_FALLING (R80, Table 3-9, R491, R498): no NV write starts any more; the flush runs from VHOLD. -/
def execVinWarnFalling (mv : Half) (s : State) : Host.Outcome State Fault Refusal :=
  if !s.powered then .next s
  else
    let ready := s.getB CLKPWR.VHOLD_MV_VHOLD_RDY
    let s := ((s.setF CLKPWR.VIN_MV_VIN mv.toNat).setF CLKPWR.VIN_MV_WARN 1).raiseL 4 []
    let s := (forAll 24 (fun s k => s.learnDisq k 4) s.clearInterrupt).imgStop
    let s := if ready then s.cairnFlush.cairnRewrite else s
    let s := forAll 4 (fun s g => if s.grpSt g = grREST ∧ s.getB (SEQGRP.GRP_STAT_UP_PEND g) then s.setF (SEQGRP.GRP_STAT_VIN_HELD g) 1 else s) s
    .next ((s.setF CLKPWR.VIN_MV_VIN mv.toNat).setF CLKPWR.VIN_MV_WARN 1)

/-- VIN_WARN_RISING (R80, Table 13-6): writes that wait go on by RECORD_WRITE_START. -/
def execVinWarnRising (mv : Half) (s : State) : Host.Outcome State Fault Refusal :=
  if s.powered then
    let s := ((s.setF CLKPWR.VIN_MV_VIN mv.toNat).setF CLKPWR.VIN_MV_WARN 0).endL 4
    .next (if s.operating then seqVinBack s else s)
  else .next s

/-- VHOLD_READY (R67, R492): staged records are written. -/
def execVholdReady (mv : Half) (s : State) : Host.Outcome State Fault Refusal :=
  if s.powered then
    let s := (s.setF CLKPWR.VHOLD_MV_VHOLD mv.toNat).setF CLKPWR.VHOLD_MV_VHOLD_RDY 1
    .next (if s.nvOk ∧ s.mpuRuns ∧ s.cairn.clearSeq = none then s.cairnFlush else s)
  else .next s

/-- VHOLD_BELOW_MIN (R80, R493): the hold domain stops; staged records and the write in flight are lost. -/
def execVholdBelowMin (mv : Half) (s : State) : Host.Outcome State Fault Refusal :=
  let s := (s.setF CLKPWR.VHOLD_MV_VHOLD mv.toNat).setF CLKPWR.VHOLD_MV_VHOLD_RDY 0
  let s := { s with cairn := { s.cairn with staged := [], rewrite := none }, ps := { s.ps with flight := none } }
  .next s.cairnShow

/-- AON_SUPPLY_LOSS (Table 3-8): AON starts anew when the supply is back. -/
def execAonSupplyLoss (s : State) : Host.Outcome State Fault Refusal :=
  .next { s with dev := { s.dev with aonUp := false, vinPor := false } }

/-- WATCHDOG_EXPIRY (R79). -/
def execWatchdogExpiry (s : State) : Host.Outcome State Fault Refusal :=
  if s.powered ∧ s.dev.takeoverHeld = false then
    let s := s.mpuDown.setN DEV.MPU_RESTARTS (min (s.getN DEV.MPU_RESTARTS + 1) (2 ^ 32 - 1))
    .next (s.raise 7 [])
  else .next s

/-- MPU_RESTART_COMPLETE (R79). -/
def execMpuRestartComplete (s : State) : Host.Outcome State Fault Refusal :=
  if s.powered ∧ s.dev.mpuRestart then .next s.mpuUp else .next s

/-- REFCLK_LOSS (R86): the HFO runs from the internal oscillator until the next device reset; every running PLL holds its frequency during the switch (HOLDOVER until the next shelf-cycle boundary, log entry 107). -/
def execRefclkLoss (s : State) : Host.Outcome State Fault Refusal :=
  if !s.powered then .next s
  else
    let s := s.setF CLKPWR.CLK_STAT_REFCLK_OK 0
    if s.getB CLKPWR.CLK_STAT_HFO_SRC then
      let s := s.setF CLKPWR.PLL_STAT_HOLDOVER (s.getF CLKPWR.PLL_STAT_LOCK)
      .next ((({ s with dev := { s.dev with hfoFellBack := true } }).setF CLKPWR.CLK_STAT_HFO_SRC 0).raiseL 3 [])
    else .next s

/-- XT32_START_TIMEOUT (R86). -/
def execXt32StartTimeout (s : State) : Host.Outcome State Fault Refusal :=
  if s.powered ∧ s.dev.bootsel1 then .next ((s.setF CLKPWR.CLK_STAT_XT32_OK 0).setF CLKPWR.CLK_STAT_LFO_SRC 0) else .next s

/-- PLL_LOCK (R85): only a PLL with a user runs. -/
def execPllLock (p : Pll) (s : State) : Host.Outcome State Fault Refusal :=
  let i := match p with
    | .cpll => 0 | .ppll => 1 | .lpll => 2 | .epll => 3
  if s.powered ∧ s.pllUsed.testBit i then .next (s.putBit CLKPWR.PLL_STAT i true) else .next s

/-- REGION_TEMP_LIMIT (R87): the temperature of a live region, in 1/16 °C; a gated one keeps its last (Table 3-19). -/
def execRegionTempLimit (r : Nat) (temp : BitVec 16) (s : State) : Host.Outcome State Fault Refusal :=
  if !s.powered ∨ s.regionState r ≠ 2 then .next s
  else
    let s := s.setF (CLKPWR.TEMP_TEMP r) temp.toNat
    let s := ({ s with dev := { s.dev with tempSeen := (r, s.dev.nowUs) :: eraseKey r s.dev.tempSeen } }).tempShow
    let lim := signedOf 16 (s.getF DEV.TJ_HOT_TJ_HOT)
    let hot := s.dev.tempSeen.any (fun e => lim < signedOf 16 (s.getF (CLKPWR.TEMP_TEMP e.1)))
    .next ((s.follow 5 hot []).follow 6 (320 < s.getF CLKPWR.TGRAD_DIFF) [])

/-- REGION_BROWNOUT (R552, Table 3-11): the region resets alone, its units are fenced, and it starts again. -/
def execRegionBrownout (r : OwnRegion) (s : State) : Host.Outcome State Fault Refusal :=
  let i := regionIndex r
  if !s.powered then .next s
  else
    let s := { s with dev := { s.dev with regionDown := r :: s.dev.regionDown.filter (· ≠ r) } }
    let s := ((s.regionFence r).regionReset r).putBit CLKPWR.REGION_BO i true
    let s := if r = .rail then forAll 8 (fun s n => s.setF (CLKPWR.NTC_VALID n) 0) s else s
    let s := if s.mode = mRUN ∧ s.anyFence then s.setMode mDEGRADED else s
    .next (s.raise 10 [i])

/-- REGION_RESTART_COMPLETE (Table 3-11): the region is live; its units stay fenced. -/
def execRegionRestartComplete (r : OwnRegion) (s : State) : Host.Outcome State Fault Refusal :=
  if s.powered ∧ s.dev.regionDown.contains r then
    let s := { s with dev := { s.dev with regionDown := s.dev.regionDown.filter (· ≠ r) } }
    .next (if r = .rail then { s with phase := s.phase.map (fun x => if x.pwm = .float then { x with pwm := .mid } else x) } else s)
  else .next s

end Sys2Proof.Machine
end

