-- ==== Sys2Proof/Machine/HostWrite.lean ====
section
/-! DEFINITION. Writes of the register fabric (chapter 2): the checks of Table 2-11 in their order, the access codes of a word (R40, R41, R568), and what a written word starts in its block. -/

namespace Sys2Proof.Machine

/-- Status codes of a transaction (Table 17-3). -/
abbrev stOK : Nat := 0
abbrev stNOT_READY : Nat := 1
abbrev stSTOP_REQUIRED : Nat := 2
abbrev stCRC_ERROR : Nat := 3
abbrev stBAD_ADDRESS : Nat := 4
abbrev stPSTORE_BUSY : Nat := 5
abbrev stOWNER_DENIED : Nat := 6

/-- The state that a meaning answers. -/
def nextOf (s : State) : Host.Outcome State Fault Refusal → State
  | .next t => t
  | _ => s

namespace State

/-- The controller is ready for the requester (R43 check 2, R66, R79, R537). The MPU's own accesses need the MPU. -/
def hostReady (s : State) (r : Requester) : Bool :=
  s.powered && !s.dev.mpuRestart && (r == .firmware || (s.mode ≠ mASCENT && !s.dev.updatePause))

/-- The requester's port takes transactions: CAN and T1S hear, SPI is not STOPPED (R507). -/
def portOpen (s : State) : Requester → Bool
  | .spi => s.powered && s.pgState pSPI ≠ psSTOPPED
  | .can n _ => s.portHears n.val
  | .t1s _ => s.portHears 4
  | .firmware => s.powered

/-- Checks 2 to 4 of Table 2-11 for `n` words from host address `a` on: the status of the first that fails. -/
def txCheck (s : State) (r : Requester) (a n : Nat) (write : Bool) : Option Nat :=
  if !s.hostReady r then some stNOT_READY
  else if a % 4 ≠ 0 ∨ n = 0 ∨ (pageKind (a / 0x1000)).isNone ∨ 0x1000 < a % 0x1000 + 4 * n then some stBAD_ADDRESS
  else if a / 0x1000 = pPSTORE ∧ s.ps.scanning ∧ (write ∨ 0x028 < a % 0x1000 + 4 * n) then some stPSTORE_BUSY
  else none

/-- A refused write in PG_STAT (Table 2-5): WREJ, its byte offset and cause. -/
def refuse (s : State) (p o cause : Nat) : State :=
  ((s.setF (pgStatWrej p) 1).setF (pgStatWrejOfs p) o).setF (pgStatWrejCause p) cause

/-- The RS rule (Table 2-10): the value taken by some RS field differs from the present one. -/
def rsDiffers (s : State) (d : RegDef) (n i : Nat) (old v : Word) : Bool :=
  d.fields.any (fun f => f.acc n i == .rs && s.clampField f n (bitsOf v f.lo f.w) % 2 ^ f.w ≠ bitsOf old f.lo f.w)

/-- The SB rule (R232): a word of the active bank, or any while a swap is pending. -/
def sbRefuses (s : State) (d : RegDef) (n i : Nat) : Bool :=
  d.fields.any (fun f => match f.acc n i with
    | .sb b => s.slotBankB n == b || s.getB (VSLOT.SLOT_STAT_SWAP_PEND n)
    | _ => false)

/-- BANK_COPY while a swap is pending (R232). -/
def copyRefuses (s : State) (k : PageKind) (n a : Nat) (v : Word) : Bool :=
  k == .vslot && n < 8 && a == VSLOT.SLOT_CTRL n && v.getLsbD 29 && s.getB (VSLOT.SLOT_STAT_SWAP_PEND n)

/-- What a word becomes (R40, R41): firmware also writes FW fields; a condition that is present keeps its ACT bit (R428). -/
def writtenWord (s : State) (r : Requester) (k : PageKind) (d : RegDef) (n i : Nat) (a : Nat) (old v : Word) : Word :=
  let w := s.mergeWord d n i old v
  if k = .fcol ∧ (a = FCOL.ACT i) then s.actWritten i old v
  else if r = .firmware then
    d.fields.foldl (fun w f => if f.acc n i == .fw then withBits w f.lo f.w (s.clampField f n (bitsOf v f.lo f.w)) else w) w
  else w

/-- Cells that an ESTSTR command selects: MODULE 0 is the whole string. -/
def estSelected (s : State) (k j : Nat) : Bool := s.getF (ESTSTR.CMD_MODULE k) = 0 || s.cellAddr k j = s.getF (ESTSTR.CMD_MODULE k)

/-- The counters that CNT_CTRL.CLR of a CAN, T1S or SPI page clears. -/
def portClr (s : State) (l : List Nat) : State := l.foldl (fun s a => s.setReg a 0) s

/-- The commands of a SLOT_CTRL word (R218, R232, R233, R235). -/
def slotCtrl (s : State) (n : Nat) (v : Word) : State :=
  let s := if v.getLsbD 29 ∧ n < 8 then s.bankCopy n else s
  let s := if v.getLsbD 31 then s.swapReq n (v.getLsbD 30) else s
  if v.getLsbD 28 then s.stateClr n else s

/-- What a written word does in its block beside its value (an FW field takes no write of a host, R40): `r` the requester, `n` the instance, `i` the array index, `a` the register, `v` the word written, `old` the word before. -/
def wordActs (s : State) (r : Requester) (k : PageKind) (n i a : Nat) (v old : Word) : State :=
  let go := v.getLsbD 31
  match k with
  | .dev => if a = DEV.MODE_CTRL then s.modeCtrl (bitsOf v 8 8) (bitsOf v 0 4) else s
  | .fcol =>
    if a = FCOL.FCOL_CTRL then (if v.getLsbD 0 then s.fcolAck else s)
    else if a = FCOL.UNFENCE then (if go then s.unfence (bitsOf v 16 4) (bitsOf v 0 6) else s)
    else if a = FCOL.INJ then (if go then s.injGo (v.getLsbD 24) (bitsOf v 16 4) (bitsOf v 8 5) (bitsOf v 0 8) else s)
    else s
  | .cairn =>
    if a = CAIRN.TC_CMD then (if go then s.tcGo else s)
    else if a = CAIRN.CLR_CMD then (if go then s.cairnClear (bitsOf v 8 8) else s)
    else s
  | .pstore => if a = PSTORE.PS_CMD ∧ go then s.psCommand (bitsOf v 24 3) (bitsOf v 0 16) else s
  | .image =>
    if a = IMAGE.IMG_CMD then (if go then s.imgCommand (bitsOf v 24 3) (bitsOf v 8 8) else s)
    else if IMAGE.IMG_DATA 0 ≤ a ∧ a ≤ IMAGE.IMG_DATA 63 then s.imgData 0 []
    else s
  | .ridge =>
    if a = RIDGE.PAIR_CMD then s.pairCmd (v.getLsbD 1) (v.getLsbD 0)
    else if a = RIDGE.CNT_CTRL then (if v.getLsbD 0 then s.ridgeCntClr else s)
    else s
  | .sdma => if a = SDMA.CH_CMD i ∧ r = .firmware then s.sdmaDo i (s.getF (SDMA.CH_CMD_CMD i)) else s
  | .yport =>
    if a = YPORT.CNT_CTRL n then (if v.getLsbD 0 then s.yportCntClr n else s)
    else if a = YPORT.MBX_CMD n then (if go then s.mbxGo n else s)
    else if a = YPORT.HOLD_CFG n then s.updPort n (fun x => { x with holdDue := true })
    else s
  | .sample => if a = SAMPLE.CNT_CTRL ∧ v.getLsbD 0 then s.sampleCntClr else s
  | .vce =>
    if a = VCE.HANDOVER then (if go then s.setF VCE.HANDOVER_RESULT 1 else s)
    else if a = VCE.VCE_CTRL then (if v.getLsbD 0 then s.vceClr else s)
    else s
  | .vslot => if a = VSLOT.SLOT_CTRL n then s.slotCtrl n v else s
  | .shelf => if a = SHELF.SHELF_CFG then s.regModeSet else s
  | .cornice =>
    if a = CORNICE.CN_CMD then
      let s := if v.getLsbD 0 then s.cnCancel else s
      if v.getLsbD 1 then s.cnBackoffClr else s
    else if a = CORNICE.CNT_CTRL then (if v.getLsbD 0 then s.cnCntClr else s)
    else s
  | .holdup => if a = HOLDUP.RELEASE ∧ v.getLsbD 0 then s.huRelease else s
  | .rail => if a = RAIL.PREP n ∧ go then railPrepGo n s else s
  | .efuse =>
    if a = EFUSE.EF_CTRL n then
      let s := if v.getLsbD 1 then latchClr n s else s
      if v.getLsbD 2 then gfClr n s else s
    else s
  | .seq => if a = SEQ.CNT_CTRL ∧ v.getLsbD 0 then seqCntClr s else s
  | .seqgrp => if a = SEQGRP.GRP_CMD n then grpCmd n (v.getLsbD 0) (v.getLsbD 1) s else s
  | .eststr =>
    if a = ESTSTR.CMD n then
      let s := if go then s.estInit n (s.estSelected n) else s
      if v.getLsbD 30 then s.resetCells n (s.getF (ESTSTR.CMD_MODULE n)) else s
    else if a = ESTSTR.STR_CFG n then
      (if bitsOf (s.getReg a) 24 3 = bitsOf old 24 3 ∧ bitsOf (s.getReg a) 20 1 = bitsOf old 20 1 then s else s.estInit n (fun _ => true))
    else s
  | .estprof =>
    if 0x81100 ≤ a ∧ s.getReg (s.homeOf pESTPROF (a - 0x81000)) ≠ old then
      forAll 24 (fun s k => if s.strProf k = s.getF ESTPROF.PROF_SEL_SEL then s.estInit k (fun _ => true) else s) s
    else s
  | .estwin => if a = ESTWIN.WIN_SEL then s.later s.winRegs else s
  | .can => if a = CAN.CNT_CTRL n ∧ v.getLsbD 0 then s.portClr [CAN.CNT_RX n, CAN.CNT_TX n, CAN.CNT_MISC n] else s
  | .t1s => if a = T1S.CNT_CTRL ∧ v.getLsbD 0 then s.portClr [T1S.CNT_RX, T1S.CNT_TX, T1S.CNT_MISC] else s
  | .spi => if a = SPI.CNT_CTRL ∧ v.getLsbD 0 then s.portClr [SPI.CNT_XACT, SPI.CNT_ERR] else s
  | .pmbus => if a = PMBUS.PMB_MBX ∧ go then s.pmbMailbox else s
  | _ => s

/-- One word at offset `o` of a listed page (checks 6 and 7 of Table 2-11, then R41): the state, or the cause of the refusal. A profile takes writes only while EST is STOPPED (R306; cause 1, log entry 120). Of firmware, PG_OWNER takes the release only (log entry 19). -/
def writeWord (s : State) (r : Requester) (p o : Nat) (v : Word) : Except Nat State :=
  match pageKind p with
  | none => .ok s
  | some (k, _) =>
    if o = 0x004 then (match s.ctrlWrite p v (reqPage r) with
      | .ok s => .ok (s.countChg p)
      | .error c => .error c)
    else if o = 0x008 then .ok (if v.getLsbD 8 then ((s.setF (pgStatWrej p) 0).setF (pgStatWrejOfs p) 0).setF (pgStatWrejCause p) 0 else s)
    else if o = 0x014 then .ok ((if r = .firmware ∧ bitsOf v 16 16 ≠ 0 then s else s.ownerWrite p r (bitsOf v 16 16)).countChg p)
    else match findReg p o with
      | none => .ok s
      | some (d, n, i) =>
        let a := 0x1000 * p + o
        let h := s.homeOf p o
        let old := s.getReg h
        if s.pgState p = psOFF then .error 8
        else if (s.pgState p ≠ psSTOPPED ∨ (k = .estprof ∧ s.pgState pEST ≠ psSTOPPED)) ∧ s.rsDiffers d n i old v then .error 1
        else if s.sbRefuses d n i ∨ s.copyRefuses k n a v then .error 2
        else .ok ((((s.setReg h (s.writtenWord r k d n i a old v)).noteLate k d n i h old).countChg p).wordActs r k n i a v old)

/-- The words of a write from offset `o` on (R44): how many were written, and the state. -/
def writeWords (r : Requester) (p : Nat) : Nat → List Word → State → Nat × Bool × State
  | _, [], s => (0, true, s)
  | o, v :: l, s =>
    match s.writeWord r p o v with
    | .error c => (0, false, s.refuse p o c)
    | .ok s =>
      let x := writeWords r p (o + 4) l s
      (x.1 + 1, x.2)

/-- The first word that ownership refuses (R46, R47): PG_CTRL, PG_OWNER or a block register of a page that another requester holds. -/
def ownerRefuses (s : State) (r : Requester) (p o n : Nat) : Option Nat :=
  if s.mayWrite p r then none
  else ((List.range n).map (fun i => o + 4 * i)).find? (fun o => o = 0x004 || o = 0x014 || (findReg p o).isSome)

/-- A write to IMG_DATA that starts inside it is one write of all its words there (R532); the words past its end are written like any others (R34). -/
def imgWrite (s : State) (r : Requester) (o : Nat) (ws : List Word) : State :=
  let n := (0x200 - o) / 4
  let l := ws.take n
  let s := (List.range l.length).foldl (fun s _ => s.countChg pIMAGE) s
  (writeWords r pIMAGE 0x200 (ws.drop n) (s.imgData o l)).2.2

/-- A write transaction (R43 to R45): status, words written, state. Only an access that is accepted, in its first words at least, counts for the holder (R48). -/
def writeTx (s : State) (r : Requester) (a : Nat) (ws : List Word) : Nat × Nat × State :=
  match s.txCheck r a ws.length true with
  | some st => (st, 0, s)
  | none =>
    let p := a / 0x1000
    let o := a % 0x1000
    match s.ownerRefuses r p o ws.length with
    | some x => (stOWNER_DENIED, 0, s.refuse p x 3)
    | none =>
      let at_ := s.dev.ownAt
      let s := s.ownerTouch p r
      if p = pIMAGE ∧ 0x100 ≤ o ∧ o < 0x200 then (stOK, ws.length, s.imgWrite r o ws)
      else
        let x := writeWords r p o ws s
        if x.1 = 0 ∧ !x.2.1 then (stSTOP_REQUIRED, 0, { x.2.2 with dev := { x.2.2.dev with ownAt := at_ } })
        else (if x.2.1 then stOK else stSTOP_REQUIRED, x.1, x.2.2)

/-- A read transaction (R43, R52): status, words read, the words, state. -/
def readTx (s : State) (r : Requester) (a n : Nat) : Nat × Nat × List Word × State :=
  match s.txCheck r a n false with
  | some st => (st, 0, [], s)
  | none =>
    let x := readWords r (a / 0x1000) n (a % 0x1000) (s.ownerTouch (a / 0x1000) r)
    (stOK, n, x.1, x.2)

/-- A word write of a requester through its port. -/
def hostWrite (s : State) (r : Requester) (a : Nat) (v : Word) : State :=
  if s.portOpen r then (s.writeTx r a [v]).2.2 else s

end State

end Sys2Proof.Machine
end

