-- ==== Sys2Proof/Machine/HostCmd.lean ====
section
/-! DEFINITION. The commands that are one word write of a requester (every row of the table that names a register's write): the register and the word each writes; the write goes through the fabric's checks and starts its block's action (HostWrite). -/

namespace Sys2Proof.Machine

/-- Bit 31: GO, REINIT or SWAP_REQ. -/
abbrev goWord : Nat := 2 ^ 31

/-- A MODE_CTRL word with its key (Table 3-13). -/
abbrev modeWord (key : Byte) (req : Nat) : Nat := key.toNat * 2 ^ 8 + req

/-- A register's word as it stands, for a write that changes one of its fields. -/
def keep (s : State) (a : Nat) : Nat := s.getN a

/-- One word write of a requester. -/
def wordWrite (r : Requester) (a v : Nat) (s : State) : Host.Outcome State Fault Refusal := .next (s.hostWrite r a (BitVec.ofNat 32 v))

/-- MODE_CTRL_DORMANT (R61). -/
def execModeCtrlDormant (r : Requester) (key : Byte) (s : State) : Host.Outcome State Fault Refusal :=
  wordWrite r DEV.MODE_CTRL (modeWord key 1) s

/-- MODE_CTRL_SHIP (R61). -/
def execModeCtrlShip (r : Requester) (key : Byte) (s : State) : Host.Outcome State Fault Refusal :=
  wordWrite r DEV.MODE_CTRL (modeWord key 2) s

/-- SERVICE_ENTER (R62). -/
def execServiceEnter (r : Requester) (key : Byte) (s : State) : Host.Outcome State Fault Refusal :=
  wordWrite r DEV.MODE_CTRL (modeWord key 3) s

/-- SERVICE_EXIT (R60). -/
def execServiceExit (r : Requester) (key : Byte) (s : State) : Host.Outcome State Fault Refusal :=
  wordWrite r DEV.MODE_CTRL (modeWord key 4) s

/-- INHIBIT_CLR (R63). -/
def execInhibitClr (r : Requester) (key : Byte) (s : State) : Host.Outcome State Fault Refusal :=
  wordWrite r DEV.MODE_CTRL (modeWord key 5) s

/-- MODE_CTRL_RESET (R78). -/
def execModeCtrlReset (r : Requester) (key : Byte) (s : State) : Host.Outcome State Fault Refusal :=
  wordWrite r DEV.MODE_CTRL (modeWord key 6) s

/-- ESTSTR_REINIT (R311): CMD with REINIT. -/
def execEststrReinit (r : Requester) (k : Fin 24) (module : Fin 32) (s : State) : Host.Outcome State Fault Refusal :=
  wordWrite r (ESTSTR.CMD k.val) (goWord + module.val) s

/-- ESTSTR_RESET_CAP (R334): CMD with RESET_CAP. -/
def execEststrResetCap (r : Requester) (k : Fin 24) (module : Fin 32) (s : State) : Host.Outcome State Fault Refusal :=
  wordWrite r (ESTSTR.CMD k.val) (2 ^ 30 + module.val) s

/-- ESTWIN_SELECT (R346). -/
def execEstwinSelect (r : Requester) (w : Word) (s : State) : Host.Outcome State Fault Refusal :=
  wordWrite r ESTWIN.WIN_SEL (w.toNat) s

/-- PG_CTRL_RUN (R35). -/
def execPgCtrlRun (r : Requester) (p : PageNo) (s : State) : Host.Outcome State Fault Refusal :=
  wordWrite r (pgCtrl p.val) (1) s

/-- PG_CTRL_STOP_REQ (R51). -/
def execPgCtrlStopReq (r : Requester) (p : PageNo) (s : State) : Host.Outcome State Fault Refusal :=
  wordWrite r (pgCtrl p.val) (2) s

/-- PG_CTRL_FENCE_CLR (R35). -/
def execPgCtrlFenceClr (r : Requester) (p : PageNo) (s : State) : Host.Outcome State Fault Refusal :=
  wordWrite r (pgCtrl p.val) (4) s

/-- PG_OWNER_WRITE (R47). -/
def execPgOwnerWrite (r : Requester) (p : PageNo) (token : Half) (s : State) : Host.Outcome State Fault Refusal :=
  wordWrite r (pgOwner p.val) (token.toNat * 2 ^ 16) s

/-- REGISTER_WRITE (R40). -/
def execRegisterWrite (r : Requester) (addr : BitVec 24) (value : Word) (s : State) : Host.Outcome State Fault Refusal :=
  wordWrite r addr.toNat (value.toNat) s

/-- MBX_GO (R146). -/
def execMbxGo (r : Requester) (p : Fin 24) (write : Bool) (node : Fin 32) (count : Byte) (addr : Half) (s : State) : Host.Outcome State Fault Refusal :=
  wordWrite r (YPORT.MBX_CMD p.val) (goWord + write.toNat * 2 ^ 30 + node.val * 2 ^ 24 + count.toNat * 2 ^ 16 + addr.toNat) s

/-- YPORT_CNT_CLR (R135). -/
def execYportCntClr (r : Requester) (p : Fin 24) (s : State) : Host.Outcome State Fault Refusal :=
  wordWrite r (YPORT.CNT_CTRL p.val) (1) s

/-- SAMPLE_CNT_CLR (R178). -/
def execSampleCntClr (r : Requester) (s : State) : Host.Outcome State Fault Refusal :=
  wordWrite r SAMPLE.CNT_CTRL (1) s

/-- SWAP_REQ (R233): SLOT_CTRL with its settings as they stand. -/
def execSwapReq (r : Requester) (i : Fin 8) (preset : Bool) (s : State) : Host.Outcome State Fault Refusal :=
  wordWrite r (VSLOT.SLOT_CTRL i.val) (keep s (VSLOT.SLOT_CTRL i.val) + goWord + preset.toNat * 2 ^ 30) s

/-- BANK_COPY (R232). -/
def execBankCopy (r : Requester) (i : Fin 8) (s : State) : Host.Outcome State Fault Refusal :=
  wordWrite r (VSLOT.SLOT_CTRL i.val) (keep s (VSLOT.SLOT_CTRL i.val) + 2 ^ 29) s

/-- STATE_CLR (R235). -/
def execStateClr (r : Requester) (i : Fin 64) (s : State) : Host.Outcome State Fault Refusal :=
  wordWrite r (VSLOT.SLOT_CTRL i.val) (keep s (VSLOT.SLOT_CTRL i.val) + 2 ^ 28) s

/-- SLOT_MODE_WRITE (R218). -/
def execSlotModeWrite (r : Requester) (i : Fin 64) (mode : BitVec 2) (trk : Fin 64) (s : State) : Host.Outcome State Fault Refusal :=
  wordWrite r (VSLOT.SLOT_CTRL i.val) (trk.val * 2 ^ 16 + mode.toNat) s

/-- HANDOVER_GO (R220). -/
def execHandoverGo (r : Requester) (src dst : Fin 64) (s : State) : Host.Outcome State Fault Refusal :=
  wordWrite r VCE.HANDOVER (goWord + dst.val * 2 ^ 8 + src.val) s

/-- VCE_CTRL_CLR (R240). -/
def execVceCtrlClr (r : Requester) (s : State) : Host.Outcome State Fault Refusal :=
  wordWrite r VCE.VCE_CTRL (1) s

/-- REG_MODE_WRITE (R247): SHELF_CFG with the other fields as they stand. -/
def execRegModeWrite (r : Requester) (pcmd : Bool) (s : State) : Host.Outcome State Fault Refusal :=
  wordWrite r SHELF.SHELF_CFG (keep s SHELF.SHELF_CFG / 2 * 2 + pcmd.toNat) s

/-- HOLDUP_RELEASE_WRITE (R266). -/
def execHoldupReleaseWrite (r : Requester) (s : State) : Host.Outcome State Fault Refusal :=
  wordWrite r HOLDUP.RELEASE (1) s

/-- CN_CANCEL (R282). -/
def execCnCancel (r : Requester) (s : State) : Host.Outcome State Fault Refusal :=
  wordWrite r CORNICE.CN_CMD (1) s

/-- CN_BACKOFF_CLR (R293). -/
def execCnBackoffClr (r : Requester) (s : State) : Host.Outcome State Fault Refusal :=
  wordWrite r CORNICE.CN_CMD (2) s

/-- CORNICE_CNT_CLR (R300). -/
def execCorniceCntClr (r : Requester) (s : State) : Host.Outcome State Fault Refusal :=
  wordWrite r CORNICE.CNT_CTRL (1) s

/-- RAIL_PREP_GO (R373). -/
def execRailPrepGo (r : Requester) (n : Fin 8) (nph : BitVec 5) (winUs : Half) (s : State) : Host.Outcome State Fault Refusal :=
  wordWrite r (RAIL.PREP n.val) (goWord + nph.toNat * 2 ^ 16 + winUs.toNat) s

/-- LATCH_CLR (R389). -/
def execLatchClr (r : Requester) (c : Fin 8) (s : State) : Host.Outcome State Fault Refusal :=
  wordWrite r (EFUSE.EF_CTRL c.val) (keep s (EFUSE.EF_CTRL c.val) % 2 + 2) s

/-- GF_CLR (R390). -/
def execGfClr (r : Requester) (c : Fin 8) (s : State) : Host.Outcome State Fault Refusal :=
  wordWrite r (EFUSE.EF_CTRL c.val) (keep s (EFUSE.EF_CTRL c.val) % 2 + 4) s

/-- GRP_CMD_UP (R403). -/
def execGrpCmdUp (r : Requester) (g : Fin 4) (s : State) : Host.Outcome State Fault Refusal :=
  wordWrite r (SEQGRP.GRP_CMD g.val) (1) s

/-- GRP_CMD_DOWN (R403). -/
def execGrpCmdDown (r : Requester) (g : Fin 4) (s : State) : Host.Outcome State Fault Refusal :=
  wordWrite r (SEQGRP.GRP_CMD g.val) (2) s

/-- SEQ_CNT_CLR (R418). -/
def execSeqCntClr (r : Requester) (s : State) : Host.Outcome State Fault Refusal :=
  wordWrite r SEQ.CNT_CTRL (1) s

/-- FCOL_ACT_CLEAR (R428). -/
def execFcolActClear (r : Requester) (k : Fin 8) (mask : Word) (s : State) : Host.Outcome State Fault Refusal :=
  wordWrite r (FCOL.ACT k.val) (mask.toNat) s

/-- FCOL_ACK (R435). -/
def execFcolAck (r : Requester) (s : State) : Host.Outcome State Fault Refusal :=
  wordWrite r FCOL.FCOL_CTRL (1) s

/-- UNFENCE (R431). -/
def execUnfence (r : Requester) (unit : BitVec 4) (index : BitVec 6) (s : State) : Host.Outcome State Fault Refusal :=
  wordWrite r FCOL.UNFENCE (goWord + unit.toNat * 2 ^ 16 + index.toNat) s

/-- INJ_START (R436). -/
def execInjStart (r : Requester) (mode : Bool) (checker : BitVec 4) (inst : BitVec 5) (count : Byte) (s : State) : Host.Outcome State Fault Refusal :=
  wordWrite r FCOL.INJ (goWord + mode.toNat * 2 ^ 24 + checker.toNat * 2 ^ 16 + inst.toNat * 2 ^ 8 + count.toNat) s

/-- INJ_CANCEL (R436): GO with COUNT 0, the other fields as they stand. -/
def execInjCancel (r : Requester) (s : State) : Host.Outcome State Fault Refusal :=
  wordWrite r FCOL.INJ (goWord + keep s FCOL.INJ / 2 ^ 8 * 2 ^ 8) s

/-- PAIR_CMD_YIELD (R460). -/
def execPairCmdYield (r : Requester) (s : State) : Host.Outcome State Fault Refusal :=
  wordWrite r RIDGE.PAIR_CMD (2) s

/-- PAIR_CMD_PROOF (R471). -/
def execPairCmdProof (r : Requester) (s : State) : Host.Outcome State Fault Refusal :=
  wordWrite r RIDGE.PAIR_CMD (1) s

/-- RIDGE_CNT_CLR (R473). -/
def execRidgeCntClr (r : Requester) (s : State) : Host.Outcome State Fault Refusal :=
  wordWrite r RIDGE.CNT_CTRL (1) s

/-- PS_SAVE (R478). -/
def execPsSave (r : Requester) (id : Half) (s : State) : Host.Outcome State Fault Refusal :=
  wordWrite r PSTORE.PS_CMD (goWord + 1 * 2 ^ 24 + id.toNat) s

/-- PS_SAVE_ALL (R478). -/
def execPsSaveAll (r : Requester) (s : State) : Host.Outcome State Fault Refusal :=
  wordWrite r PSTORE.PS_CMD (goWord + 2 * 2 ^ 24) s

/-- PS_RESET_CFG (R478). -/
def execPsResetCfg (r : Requester) (id : Half) (s : State) : Host.Outcome State Fault Refusal :=
  wordWrite r PSTORE.PS_CMD (goWord + 3 * 2 ^ 24 + id.toNat) s

/-- PS_VERIFY (R482). -/
def execPsVerify (r : Requester) (s : State) : Host.Outcome State Fault Refusal :=
  wordWrite r PSTORE.PS_CMD (goWord + 4 * 2 ^ 24) s

/-- CAIRN_RD_SEQ (R495). -/
def execCairnRdSeq (r : Requester) (seq : Word) (s : State) : Host.Outcome State Fault Refusal :=
  wordWrite r CAIRN.RD_SEQ (seq.toNat) s

/-- TC_CMD_GO (R497). -/
def execTcCmdGo (r : Requester) (s : State) : Host.Outcome State Fault Refusal :=
  wordWrite r CAIRN.TC_CMD (goWord) s

/-- CAIRN_CLEAR (R498). -/
def execCairnClear (r : Requester) (key : Byte) (s : State) : Host.Outcome State Fault Refusal :=
  wordWrite r CAIRN.CLR_CMD (goWord + key.toNat * 2 ^ 8) s

/-- PMBUS_MAILBOX_GO (R523). -/
def execPmbusMailboxGo (r : Requester) (write : Bool) (dev : Fin 32) (cmd : Byte) (data : Half) (s : State) : Host.Outcome State Fault Refusal :=
  wordWrite r PMBUS.PMB_MBX (goWord + write.toNat * 2 ^ 30 + dev.val * 2 ^ 24 + cmd.toNat * 2 ^ 16 + data.toNat) s

/-- IMAGE_BEGIN (R533). -/
def execImageBegin (r : Requester) (s : State) : Host.Outcome State Fault Refusal :=
  wordWrite r IMAGE.IMG_CMD (goWord + 1 * 2 ^ 24) s

/-- IMAGE_ABORT (R531). -/
def execImageAbort (r : Requester) (s : State) : Host.Outcome State Fault Refusal :=
  wordWrite r IMAGE.IMG_CMD (goWord + 2 * 2 ^ 24) s

/-- ACTIVATE (R536). -/
def execActivate (r : Requester) (key : Byte) (s : State) : Host.Outcome State Fault Refusal :=
  wordWrite r IMAGE.IMG_CMD (goWord + 3 * 2 ^ 24 + key.toNat * 2 ^ 8) s

/-- CONFIRM (R541). -/
def execConfirm (r : Requester) (key : Byte) (s : State) : Host.Outcome State Fault Refusal :=
  wordWrite r IMAGE.IMG_CMD (goWord + 4 * 2 ^ 24 + key.toNat * 2 ^ 8) s

/-- MODE_CTRL_BAD_REQ (R60): any REQ code with any key. -/
def execModeCtrlBadReq (r : Requester) (key : Byte) (req : BitVec 4) (s : State) : Host.Outcome State Fault Refusal :=
  wordWrite r DEV.MODE_CTRL (modeWord key req.toNat) s

/-- PORT_CNT_CLR (R525, R526, R528). -/
def execPortCntClr (r : Requester) (p : PortPage) (s : State) : Host.Outcome State Fault Refusal :=
  match p with
  | .can n => wordWrite r (CAN.CNT_CTRL n.val) 1 s
  | .t1s => wordWrite r T1S.CNT_CTRL 1 s
  | .spi => wordWrite r SPI.CNT_CTRL 1 s

/-- IMG_DATA_WRITE (R532): a write transaction of the image's words. -/
def execImgDataWrite (r : Requester) (addr : BitVec 24) (data : List Word) (s : State) : Host.Outcome State Fault Refusal :=
  if s.portOpen r then .next (s.writeTx r addr.toNat data).2.2 else .next s

end Sys2Proof.Machine
end

