-- ==== Sys2Proof/Machine/HostPort.lean ====
section
/-! DEFINITION. Page transactions on the ports (chapter 17): SPI READ, WRITE and STATUS, abandoned and unknown commands, PAGE_REQ with its PAGE_RESP. -/

namespace Sys2Proof.Machine

/-- Bytes 0 to 4 of a request header (Table 17-1). -/
def headBytes (cmd addr len : Nat) : List Nat := [cmd, addr % 256, addr / 256 % 256, addr / 65536, len]

/-- LEN + 1: the words of a transaction. -/
def lenWords (len : Nat) : Nat := len % 64 + 1

/-- Data words as bytes. -/
def wordBytes (l : List Word) : List Nat := (l.map (fun w => leBytes 4 w.toNat)).flatten

/-- Bytes with their CRC-16. -/
def withCrc (l : List Nat) : List Byte := (l ++ leBytes 2 (crc16 l)).map (BitVec.ofNat 8)

namespace State

/-- A STOPPED SPI page answers READ of its own page only (R507). -/
def spiShut (s : State) (read : Bool) (a : Nat) : Bool := s.pgState pSPI = psSTOPPED && !(read && a / 0x1000 == pSPI)

/-- What the SPI page counts of a transaction (R506, Table 17-11); `rw`: a READ or WRITE that reached its status byte. -/
def spiCount (s : State) (st widx : Nat) (rw : Bool) (resp : List Byte) : State :=
  let s := s.incSat (if st = stOK then SPI.CNT_XACT_OK else SPI.CNT_XACT_REFUSED)
  let s := if rw then (s.setF SPI.SPI_STAT_LAST_STATUS st).setF SPI.SPI_STAT_LAST_WIDX widx else s
  let s := { s with spi := { s.spi with resp := resp } }
  if st = stCRC_ERROR then (s.incSat SPI.CNT_ERR_CRC).raise 248 [] else s

/-- READ (R504, R506): a refused one answers words of zero. -/
def spiRead (s : State) (a len crc : Nat) : State :=
  let n := lenWords len
  let x : Nat × Nat × List Word × State :=
    if crc8 (headBytes 0xA1 a len) ≠ crc then (stCRC_ERROR, 0, [], s)
    else if !s.hostReady .spi || s.spiShut true a then (stNOT_READY, 0, [], s)
    else s.readTx .spi a n
  let ws := if x.1 = stOK then x.2.2.1 else List.replicate n 0
  x.2.2.2.spiCount x.1 x.2.1 true (withCrc ([x.1, x.2.1] ++ wordBytes ws))

/-- WRITE (R504, R506): applied only after its data CRC. Fewer words than LEN says is a transaction abandoned (R507). A write that resets the device ends the transaction. -/
def spiWrite (s : State) (a len crc : Nat) (data : List Word) (dcrc : Nat) : State :=
  let n := lenWords len
  if data.length < n then s.incSat SPI.CNT_ERR_ABANDONED
  else
    let ws := data.take n
    let x : Nat × Nat × State :=
      if crc8 (headBytes 0xB2 a len) ≠ crc ∨ crc16 (wordBytes ws) ≠ dcrc then (stCRC_ERROR, 0, s)
      else if !s.hostReady .spi || s.spiShut false a then (stNOT_READY, 0, s)
      else s.writeTx .spi a ws
    if x.2.2.mode = mASCENT ∧ s.mode ≠ mASCENT then x.2.2
    else x.2.2.spiCount x.1 x.2.1 true (withCrc [x.1, x.2.1])

/-- STATUS (R504). -/
def spiStatus (s : State) (a len crc : Nat) : State :=
  let st := if crc8 (headBytes 0xC3 a len) ≠ crc then stCRC_ERROR
    else if !s.hostReady .spi || s.spiShut false a then stNOT_READY else stOK
  let flags := s.irqLow.toNat + 2 * s.ps.scanning.toNat
  s.spiCount st 0 false (withCrc [st, 0, s.getF SPI.SPI_STAT_LAST_STATUS, s.getF SPI.SPI_STAT_LAST_WIDX, flags, 0])

/-- An unknown CMD (R505). -/
def spiUnknown (s : State) (cmd a len crc : Nat) : State :=
  let st := if crc8 (headBytes cmd a len) ≠ crc then stCRC_ERROR
    else if !s.hostReady .spi || s.spiShut false a then stNOT_READY else stBAD_ADDRESS
  s.spiCount st 0 false (withCrc [st, 0])

/-- What a PAGE_REQ of `r` on port `p` answers: status, WIDX, the words of a READ, state. On CAN FD, N is at most 13 (R511). -/
def pageServe (s : State) (p : Nat) (r : Requester) (cmd a len crc : Nat) (data : List Word) (dcrc : Nat) : Nat × Nat × List Word × State :=
  let n := lenWords len
  if crc8 (headBytes cmd a len) ≠ crc ∨ (cmd = 0xB2 ∧ (data.length ≠ n ∨ crc16 (wordBytes data) ≠ dcrc)) then (stCRC_ERROR, 0, [], s)
  else if !s.hostReady r then (stNOT_READY, 0, [], s)
  else if p ≠ 4 ∧ 13 < n then (stBAD_ADDRESS, 0, [], s)
  else if cmd = 0xA1 then s.readTx r a n
  else if cmd = 0xB2 then
    let x := s.writeTx r a data
    (x.1, x.2.1, [], x.2.2)
  else if cmd = 0xC3 then (stOK, 0, [], s)
  else (stBAD_ADDRESS, 0, [], s)

/-- Body of a PAGE_RESP before the CRC of R509: STATUS, WIDX, and for a READ the words (zeros where it is refused) with their CRC-16. -/
def pageAnswer (p cmd len st widx : Nat) (ws : List Word) : List Nat :=
  if cmd = 0xA1 ∧ (p = 4 ∨ lenWords len ≤ 13) then
    let l := [st, widx] ++ wordBytes (if st = stOK then ws else List.replicate (lenWords len) 0)
    l ++ leBytes 2 (crc16 l)
  else [st, widx]

/-- The requester that a message names (R512). -/
def msgRequester (h : MsgHead) : Requester :=
  match h.port with
  | .can n => .can n h.src
  | .t1s => .t1s h.src

/-- A PAGE_REQ that was received (R510 to R512): a WRITE with the SRC and TAG of the one applied last within 1 s is answered again, not applied again. -/
def pageServed (s : State) (h : MsgHead) (cmd a len crc : Nat) (data : List Word) (dcrc : Nat) : State :=
  let p := portNo h.port
  let again := match (s.msgPort p).applied with
    | some w => if cmd = 0xB2 ∧ w.src = h.src.toNat ∧ w.tag = h.tag.toNat ∧ s.dev.nowUs - w.atUs < 1000000 then some w.resp else none
    | none => none
  match again with
  | some resp => s.sendTagged p 0x11 h.src.toNat h.tag.toNat (bytesNat resp)
  | none =>
    let x := s.pageServe p (msgRequester h) cmd a len crc data dcrc
    let t := x.2.2.2
    if t.mode = mASCENT ∧ s.mode ≠ mASCENT then t
    else
      let body := pageAnswer p cmd len x.1 x.2.1 x.2.2.1
      let t := if cmd = 0xB2 ∧ (x.1 = stOK ∨ 0 < x.2.1) then
          t.updMsg p (fun m => { m with applied := some ⟨h.src.toNat, h.tag.toNat, s.dev.nowUs, body.map (BitVec.ofNat 8)⟩ })
        else t
      t.sendTagged p 0x11 h.src.toNat h.tag.toNat body

end State

open State

/-- SPI_READ (R503, R504, R506). -/
def execSpiRead (addr : BitVec 24) (len crc8 : Byte) (s : State) : Host.Outcome State Fault Refusal :=
  if s.powered then .next (s.spiRead addr.toNat len.toNat crc8.toNat) else .next s

/-- SPI_WRITE (R503, R504, R506). -/
def execSpiWrite (addr : BitVec 24) (len crc8 : Byte) (data : List Word) (crc : Half) (s : State) : Host.Outcome State Fault Refusal :=
  if s.powered then .next (s.spiWrite addr.toNat len.toNat crc8.toNat data crc.toNat) else .next s

/-- SPI_STATUS (R504). -/
def execSpiStatus (addr : BitVec 24) (len crc8 : Byte) (s : State) : Host.Outcome State Fault Refusal :=
  if s.powered then .next (s.spiStatus addr.toNat len.toNat crc8.toNat) else .next s

/-- SPI_UNKNOWN_CMD (R505): a CMD byte that Table 17-1 does not list. -/
def execSpiUnknownCmd (cmd : Byte) (addr : BitVec 24) (len crc8 : Byte) (s : State) : Host.Outcome State Fault Refusal :=
  if s.powered ∧ cmd.toNat ≠ 0xA1 ∧ cmd.toNat ≠ 0xB2 ∧ cmd.toNat ≠ 0xC3 then
    .next (s.spiUnknown cmd.toNat addr.toNat len.toNat crc8.toNat)
  else .next s

/-- SPI_CS_ABANDON (R507): a WRITE that ends before the last byte of its data CRC is counted; a READ has no effect. -/
def execSpiCsAbandon (cmd : Byte) (s : State) : Host.Outcome State Fault Refusal :=
  if s.powered ∧ cmd.toNat = 0xB2 then .next (s.incSat SPI.CNT_ERR_ABANDONED) else .next s

/-- PAGE_REQ (R510 to R512): on NODE_ADDR only, and on T1S only with the sender's PLCA node ID as SRC. -/
def execPageReq (h : MsgHead) (cmd : Byte) (addr : BitVec 24) (len crc8 : Byte) (data : List Word) (dataCrc : Half) (s : State) :
    Host.Outcome State Fault Refusal :=
  let head := headBytes cmd.toNat addr.toNat len.toNat ++ [crc8.toNat]
  let body := if cmd.toNat = 0xB2 then head ++ wordBytes data ++ leBytes 2 dataCrc.toNat else head
  .next (s.receive h 0x10 body (fun s =>
    let p := portNo h.port
    if h.dst.toNat = s.nodeAddr p ∧ (p ≠ 4 ∨ h.src = h.node) then
      s.pageServed h cmd.toNat addr.toNat len.toNat crc8.toNat data dataCrc.toNat
    else s))

end Sys2Proof.Machine
end

