-- ==== Sys2Proof/Machine/Dispatch.lean ====
section
/-! DEFINITION. The dispatch of a command to its meaning: one arm per constructor of `Instr`. -/

namespace Sys2Proof.Machine

open Sys2Proof

def exec (i : Instr) (s : State) : Host.Outcome State Fault Refusal :=
  match i with
  | .deviceResetPor => Sys2Proof.Machine.execDeviceResetPor s
  | .rstNLow => Sys2Proof.Machine.execRstNLow s
  | .coreBrownout r => Sys2Proof.Machine.execCoreBrownout r s
  | .regionBrownout r => Sys2Proof.Machine.execRegionBrownout r s
  | .vinPorRising mv e => Sys2Proof.Machine.execVinPorRising mv e s
  | .ascentComplete time e => Sys2Proof.Machine.execAscentComplete time e s
  | .ascentStepTimeout step => Sys2Proof.Machine.execAscentStepTimeout step s
  | .wakePinQualified e => Sys2Proof.Machine.execWakePinQualified e s
  | .rtcAlarm e => Sys2Proof.Machine.execRtcAlarm e s
  | .can0WakePattern e => Sys2Proof.Machine.execCan0WakePattern e s
  | .t1sActivityWake e => Sys2Proof.Machine.execT1sActivityWake e s
  | .modeCtrlDormant r key => Sys2Proof.Machine.execModeCtrlDormant r key s
  | .modeCtrlShip r key => Sys2Proof.Machine.execModeCtrlShip r key s
  | .serviceEnter r key => Sys2Proof.Machine.execServiceEnter r key s
  | .serviceExit r key => Sys2Proof.Machine.execServiceExit r key s
  | .inhibitClr r key => Sys2Proof.Machine.execInhibitClr r key s
  | .modeCtrlReset r key => Sys2Proof.Machine.execModeCtrlReset r key s
  | .modeCtrlBadReq r key req => Sys2Proof.Machine.execModeCtrlBadReq r key req s
  | .descentStart => Sys2Proof.Machine.execDescentStart s
  | .descentRampEnd => Sys2Proof.Machine.execDescentRampEnd s
  | .descentGroupsAllOff ms => Sys2Proof.Machine.execDescentGroupsAllOff ms s
  | .descentTmaxExpiry ms => Sys2Proof.Machine.execDescentTmaxExpiry ms s
  | .vinWarnFalling mv => Sys2Proof.Machine.execVinWarnFalling mv s
  | .vinWarnRising mv => Sys2Proof.Machine.execVinWarnRising mv s
  | .vholdReady mv => Sys2Proof.Machine.execVholdReady mv s
  | .vholdBelowMin mv => Sys2Proof.Machine.execVholdBelowMin mv s
  | .aonSupplyLoss => Sys2Proof.Machine.execAonSupplyLoss s
  | .watchdogExpiry => Sys2Proof.Machine.execWatchdogExpiry s
  | .mpuRestartComplete => Sys2Proof.Machine.execMpuRestartComplete s
  | .refclkLoss => Sys2Proof.Machine.execRefclkLoss s
  | .xt32StartTimeout => Sys2Proof.Machine.execXt32StartTimeout s
  | .pllLock p => Sys2Proof.Machine.execPllLock p s
  | .regionTempLimit r temp => Sys2Proof.Machine.execRegionTempLimit r temp s
  | .shelfCycleBoundary c => Sys2Proof.Machine.execShelfCycleBoundary c s
  | .setpointStart => Sys2Proof.Machine.execSetpointStart s
  | .syncEmission => Sys2Proof.Machine.execSyncEmission s
  | .sampleInstant c => Sys2Proof.Machine.execSampleInstant c s
  | .setClose => Sys2Proof.Machine.execSetClose s
  | .setGatherComplete => Sys2Proof.Machine.execSetGatherComplete s
  | .estimatorSetUpdate us => Sys2Proof.Machine.execEstimatorSetUpdate us s
  | .restReqRepeat => Sys2Proof.Machine.execRestReqRepeat s
  | .surveyBatch k => Sys2Proof.Machine.execSurveyBatch k s
  | .surveyWindowEnd k => Sys2Proof.Machine.execSurveyWindowEnd k s
  | .surveyPrerollStart k => Sys2Proof.Machine.execSurveyPrerollStart k s
  | .surveyBlocked k => Sys2Proof.Machine.execSurveyBlocked k s
  | .surveyGapEnd k => Sys2Proof.Machine.execSurveyGapEnd k s
  | .capacityWriteBack k => Sys2Proof.Machine.execCapacityWriteBack k s
  | .eststrReinit r k module => Sys2Proof.Machine.execEststrReinit r k module s
  | .eststrResetCap r k module => Sys2Proof.Machine.execEststrResetCap r k module s
  | .moduleUidChanged p node uid => Sys2Proof.Machine.execModuleUidChanged p node uid s
  | .estwinSelect r w => Sys2Proof.Machine.execEstwinSelect r w s
  | .pgCtrlRun r p => Sys2Proof.Machine.execPgCtrlRun r p s
  | .pgCtrlStopReq r p => Sys2Proof.Machine.execPgCtrlStopReq r p s
  | .pgCtrlFenceClr r p => Sys2Proof.Machine.execPgCtrlFenceClr r p s
  | .pageStartBoundary p => Sys2Proof.Machine.execPageStartBoundary p s
  | .pageStopBoundary p => Sys2Proof.Machine.execPageStopBoundary p s
  | .pgOwnerWrite r p token => Sys2Proof.Machine.execPgOwnerWrite r p token s
  | .ownershipTimeout p => Sys2Proof.Machine.execOwnershipTimeout p s
  | .registerWrite r addr value => Sys2Proof.Machine.execRegisterWrite r addr value s
  | .spiRead addr len crc8 => Sys2Proof.Machine.execSpiRead addr len crc8 s
  | .spiWrite addr len crc8 data crc => Sys2Proof.Machine.execSpiWrite addr len crc8 data crc s
  | .spiStatus addr len crc8 => Sys2Proof.Machine.execSpiStatus addr len crc8 s
  | .spiUnknownCmd cmd addr len crc8 => Sys2Proof.Machine.execSpiUnknownCmd cmd addr len crc8 s
  | .spiCsAbandon cmd => Sys2Proof.Machine.execSpiCsAbandon cmd s
  | .pageReq h cmd addr len crc8 data dataCrc => Sys2Proof.Machine.execPageReq h cmd addr len crc8 data dataCrc s
  | .yoridLinkUp p => Sys2Proof.Machine.execYoridLinkUp p s
  | .yoridLinkDown p => Sys2Proof.Machine.execYoridLinkDown p s
  | .sampleDataRx p f => Sys2Proof.Machine.execSampleDataRx p f s
  | .statusRx p f => Sys2Proof.Machine.execStatusRx p f s
  | .eventRx p f => Sys2Proof.Machine.execEventRx p f s
  | .nackRx p f => Sys2Proof.Machine.execNackRx p f s
  | .replyRx p f => Sys2Proof.Machine.execReplyRx p f s
  | .farSetpointRx p f => Sys2Proof.Machine.execFarSetpointRx p f s
  | .responseTimeout p seq => Sys2Proof.Machine.execResponseTimeout p seq s
  | .enumerationWalk p w => Sys2Proof.Machine.execEnumerationWalk p w s
  | .remeasTimer p w => Sys2Proof.Machine.execRemeasTimer p w s
  | .holdTimeWrite p => Sys2Proof.Machine.execHoldTimeWrite p s
  | .mbxGo r p write node count addr => Sys2Proof.Machine.execMbxGo r p write node count addr s
  | .yportCntClr r p => Sys2Proof.Machine.execYportCntClr r p s
  | .ringBreak p w => Sys2Proof.Machine.execRingBreak p w s
  | .ringClose p w => Sys2Proof.Machine.execRingClose p w s
  | .samplePageStart => Sys2Proof.Machine.execSamplePageStart s
  | .sampleCntClr r => Sys2Proof.Machine.execSampleCntClr r s
  | .sdmStuck ch => Sys2Proof.Machine.execSdmStuck ch s
  | .sdmStuckEnd ch => Sys2Proof.Machine.execSdmStuckEnd ch s
  | .plausFailCount => Sys2Proof.Machine.execPlausFailCount s
  | .fmoverBusError addr unit write => Sys2Proof.Machine.execFmoverBusError addr unit write s
  | .fmoverRestart => Sys2Proof.Machine.execFmoverRestart s
  | .sdmaDescriptorComplete ch => Sys2Proof.Machine.execSdmaDescriptorComplete ch s
  | .sdmaStart ch => Sys2Proof.Machine.execSdmaStart ch s
  | .sdmaStop ch => Sys2Proof.Machine.execSdmaStop ch s
  | .sdmaResume ch => Sys2Proof.Machine.execSdmaResume ch s
  | .sdmaSkip ch => Sys2Proof.Machine.execSdmaSkip ch s
  | .sdmaAbort ch => Sys2Proof.Machine.execSdmaAbort ch s
  | .sdmaBusError ch addr write => Sys2Proof.Machine.execSdmaBusError ch addr write s
  | .vceSlotEvaluation slot upset => Sys2Proof.Machine.execVceSlotEvaluation slot upset s
  | .remoteDeadlineMiss slot => Sys2Proof.Machine.execRemoteDeadlineMiss slot s
  | .gapOverrun slot => Sys2Proof.Machine.execGapOverrun slot s
  | .swapReq r slot preset => Sys2Proof.Machine.execSwapReq r slot preset s
  | .bankCopy r slot => Sys2Proof.Machine.execBankCopy r slot s
  | .stateClr r slot => Sys2Proof.Machine.execStateClr r slot s
  | .slotModeWrite r slot mode trk => Sys2Proof.Machine.execSlotModeWrite r slot mode trk s
  | .handoverGo r src dst => Sys2Proof.Machine.execHandoverGo r src dst s
  | .handoverExecute => Sys2Proof.Machine.execHandoverExecute s
  | .vceCtrlClr r => Sys2Proof.Machine.execVceCtrlClr r s
  | .scheduleBuild => Sys2Proof.Machine.execScheduleBuild s
  | .scheduleSwap => Sys2Proof.Machine.execScheduleSwap s
  | .regModeWrite r pcmd => Sys2Proof.Machine.execRegModeWrite r pcmd s
  | .regulationStart => Sys2Proof.Machine.execRegulationStart s
  | .startRampEnd => Sys2Proof.Machine.execStartRampEnd s
  | .shortfallCount => Sys2Proof.Machine.execShortfallCount s
  | .capExceedTimer => Sys2Proof.Machine.execCapExceedTimer s
  | .statusTimeout k => Sys2Proof.Machine.execStatusTimeout k s
  | .applyMismatchCount k => Sys2Proof.Machine.execApplyMismatchCount k s
  | .busOvCount => Sys2Proof.Machine.execBusOvCount s
  | .busUvCount => Sys2Proof.Machine.execBusUvCount s
  | .holdupVoltageEntry => Sys2Proof.Machine.execHoldupVoltageEntry s
  | .holdNEntry => Sys2Proof.Machine.execHoldNEntry s
  | .holdupReleaseWrite r => Sys2Proof.Machine.execHoldupReleaseWrite r s
  | .holdupAutoRelease => Sys2Proof.Machine.execHoldupAutoRelease s
  | .holdupHandBackStart => Sys2Proof.Machine.execHoldupHandBackStart s
  | .hbRampEnd => Sys2Proof.Machine.execHbRampEnd s
  | .holdupTmaxExpiry => Sys2Proof.Machine.execHoldupTmaxExpiry s
  | .plantTimeout => Sys2Proof.Machine.execPlantTimeout s
  | .regulationSlotFenced slot => Sys2Proof.Machine.execRegulationSlotFenced slot s
  | .intentMessage h amp lead isn hint atUs => Sys2Proof.Machine.execIntentMessage h amp lead isn hint atUs s
  | .stepHintEdge rising atUs => Sys2Proof.Machine.execStepHintEdge rising atUs s
  | .cnCancel r => Sys2Proof.Machine.execCnCancel r s
  | .cnBackoffClr r => Sys2Proof.Machine.execCnBackoffClr r s
  | .corniceCntClr r => Sys2Proof.Machine.execCorniceCntClr r s
  | .corniceOpen => Sys2Proof.Machine.execCorniceOpen s
  | .corniceWindowEnd => Sys2Proof.Machine.execCorniceWindowEnd s
  | .corniceCollapseEnd => Sys2Proof.Machine.execCorniceCollapseEnd s
  | .corniceBackoffEnd => Sys2Proof.Machine.execCorniceBackoffEnd s
  | .railPeriod n x => Sys2Proof.Machine.execRailPeriod n x s
  | .railOnRequest n => Sys2Proof.Machine.execRailOnRequest n s
  | .railPrebiasDone n vPre => Sys2Proof.Machine.execRailPrebiasDone n vPre s
  | .railOnWithdrawn n => Sys2Proof.Machine.execRailOnWithdrawn n s
  | .softStartEnd n => Sys2Proof.Machine.execSoftStartEnd n s
  | .softStopEnd n => Sys2Proof.Machine.execSoftStopEnd n s
  | .railPowerGood n => Sys2Proof.Machine.execRailPowerGood n s
  | .railUvTimer n => Sys2Proof.Machine.execRailUvTimer n s
  | .railOv n => Sys2Proof.Machine.execRailOv n s
  | .cycleLimitPersist n => Sys2Proof.Machine.execCycleLimitPersist n s
  | .railLimitPersist n => Sys2Proof.Machine.execRailLimitPersist n s
  | .phaseShedStart n => Sys2Proof.Machine.execPhaseShedStart n s
  | .phaseShedComplete n => Sys2Proof.Machine.execPhaseShedComplete n s
  | .phaseOpen p => Sys2Proof.Machine.execPhaseOpen p s
  | .phaseSenseFail p why => Sys2Proof.Machine.execPhaseSenseFail p why s
  | .senseOpenDetect n vLoc => Sys2Proof.Machine.execSenseOpenDetect n vLoc s
  | .ovReportHoldExpiry n => Sys2Proof.Machine.execOvReportHoldExpiry n s
  | .railPrepGo r n nph winUs => Sys2Proof.Machine.execRailPrepGo r n nph winUs s
  | .railCorniceWindowEnd n => Sys2Proof.Machine.execRailCorniceWindowEnd n s
  | .syncInEdge periodNs errNs => Sys2Proof.Machine.execSyncInEdge periodNs errNs s
  | .syncInLoss => Sys2Proof.Machine.execSyncInLoss s
  | .glideEnd => Sys2Proof.Machine.execGlideEnd s
  | .ntcMeasurement codes => Sys2Proof.Machine.execNtcMeasurement codes s
  | .efuseConversion c x => Sys2Proof.Machine.execEfuseConversion c x s
  | .efuseOnRequest c => Sys2Proof.Machine.execEfuseOnRequest c s
  | .efuseOnWithdrawn c => Sys2Proof.Machine.execEfuseOnWithdrawn c s
  | .efuseShortCircuit c => Sys2Proof.Machine.execEfuseShortCircuit c s
  | .efuseHvRefLost => Sys2Proof.Machine.execEfuseHvRefLost s
  | .efuseBreaker c => Sys2Proof.Machine.execEfuseBreaker c s
  | .gateCheckTimer c => Sys2Proof.Machine.execGateCheckTimer c s
  | .gateLowInOn c => Sys2Proof.Machine.execGateLowInOn c s
  | .inrushTlimExpiry c => Sys2Proof.Machine.execInrushTlimExpiry c s
  | .inrushTmaxExpiry c => Sys2Proof.Machine.execInrushTmaxExpiry c s
  | .efuseOnReached c => Sys2Proof.Machine.execEfuseOnReached c s
  | .efuseOnOneSecond c => Sys2Proof.Machine.execEfuseOnOneSecond c s
  | .efuseGateDischarged c => Sys2Proof.Machine.execEfuseGateDischarged c s
  | .retryDelayExpiry c => Sys2Proof.Machine.execRetryDelayExpiry c s
  | .latchClr r c => Sys2Proof.Machine.execLatchClr r c s
  | .gfClr r c => Sys2Proof.Machine.execGfClr r c s
  | .outputPresentWhileOff c => Sys2Proof.Machine.execOutputPresentWhileOff c s
  | .counterCheckpoint => Sys2Proof.Machine.execCounterCheckpoint s
  | .seqEvaluation x => Sys2Proof.Machine.execSeqEvaluation x s
  | .grpCmdUp r g => Sys2Proof.Machine.execGrpCmdUp r g s
  | .grpCmdDown r g => Sys2Proof.Machine.execGrpCmdDown r g s
  | .onDlyExpiry slot => Sys2Proof.Machine.execOnDlyExpiry slot s
  | .offDlyExpiry slot => Sys2Proof.Machine.execOffDlyExpiry slot s
  | .slotPowerGood slot => Sys2Proof.Machine.execSlotPowerGood slot s
  | .pgTmoExpiry slot => Sys2Proof.Machine.execPgTmoExpiry slot s
  | .slotOff slot => Sys2Proof.Machine.execSlotOff slot s
  | .tDisMaxExpiry slot => Sys2Proof.Machine.execTDisMaxExpiry slot s
  | .tRestExpiry g => Sys2Proof.Machine.execTRestExpiry g s
  | .slotRetryClear slot => Sys2Proof.Machine.execSlotRetryClear slot s
  | .rstOutRelease => Sys2Proof.Machine.execRstOutRelease s
  | .rackfltLowSeen => Sys2Proof.Machine.execRackfltLowSeen s
  | .rackfltHigh100ms => Sys2Proof.Machine.execRackfltHigh100ms s
  | .rackfltPullRelease => Sys2Proof.Machine.execRackfltPullRelease s
  | .inputFilterChange src active chatter => Sys2Proof.Machine.execInputFilterChange src active chatter s
  | .inputStuckTimer src => Sys2Proof.Machine.execInputStuckTimer src s
  | .inputStuckRelease src => Sys2Proof.Machine.execInputStuckRelease src s
  | .seqCntClr r => Sys2Proof.Machine.execSeqCntClr r s
  | .sourceRaise src data => Sys2Proof.Machine.execSourceRaise src data s
  | .takeoverReset => Sys2Proof.Machine.execTakeoverReset s
  | .fcolActClear r k mask => Sys2Proof.Machine.execFcolActClear r k mask s
  | .fcolAck r => Sys2Proof.Machine.execFcolAck r s
  | .unfence r unit index => Sys2Proof.Machine.execUnfence r unit index s
  | .injStart r mode checker inst count => Sys2Proof.Machine.execInjStart r mode checker inst count s
  | .injCancel r => Sys2Proof.Machine.execInjCancel r s
  | .injectedAccess detected info => Sys2Proof.Machine.execInjectedAccess detected info s
  | .ridgeLinkUp rttNs => Sys2Proof.Machine.execRidgeLinkUp rttNs s
  | .ridgeLinkDown => Sys2Proof.Machine.execRidgeLinkDown s
  | .ridgeRelock => Sys2Proof.Machine.execRidgeRelock s
  | .copyRx c => Sys2Proof.Machine.execCopyRx c s
  | .copyMissed why => Sys2Proof.Machine.execCopyMissed why s
  | .gridLockLost => Sys2Proof.Machine.execGridLockLost s
  | .helloExchange h => Sys2Proof.Machine.execHelloExchange h s
  | .yieldRx => Sys2Proof.Machine.execYieldRx s
  | .shadowReportRx reason slot => Sys2Proof.Machine.execShadowReportRx reason slot s
  | .relayRx f => Sys2Proof.Machine.execRelayRx f s
  | .takeover t => Sys2Proof.Machine.execTakeover t s
  | .firstSetpointAfterTakeover => Sys2Proof.Machine.execFirstSetpointAfterTakeover s
  | .pairCmdYield r => Sys2Proof.Machine.execPairCmdYield r s
  | .plannedHandoverBoundary => Sys2Proof.Machine.execPlannedHandoverBoundary s
  | .pairCmdProof r => Sys2Proof.Machine.execPairCmdProof r s
  | .proofTestEnd failStep failIndex => Sys2Proof.Machine.execProofTestEnd failStep failIndex s
  | .epochDemote n => Sys2Proof.Machine.execEpochDemote n s
  | .demoteHoldExpiry => Sys2Proof.Machine.execDemoteHoldExpiry s
  | .partnerWaitExpiry => Sys2Proof.Machine.execPartnerWaitExpiry s
  | .roleSettle => Sys2Proof.Machine.execRoleSettle s
  | .belayClaim lineHigh => Sys2Proof.Machine.execBelayClaim lineHigh s
  | .belayRelease => Sys2Proof.Machine.execBelayRelease s
  | .revertHoldoffExpiry => Sys2Proof.Machine.execRevertHoldoffExpiry s
  | .revertReqRx => Sys2Proof.Machine.execRevertReqRx s
  | .ridgeCntClr r => Sys2Proof.Machine.execRidgeCntClr r s
  | .psSave r id => Sys2Proof.Machine.execPsSave r id s
  | .psSaveAll r => Sys2Proof.Machine.execPsSaveAll r s
  | .psResetCfg r id => Sys2Proof.Machine.execPsResetCfg r id s
  | .psVerify r => Sys2Proof.Machine.execPsVerify r s
  | .verifyScanEnd f => Sys2Proof.Machine.execVerifyScanEnd f s
  | .recordWriteStart => Sys2Proof.Machine.execRecordWriteStart s
  | .pageProgramDone => Sys2Proof.Machine.execPageProgramDone s
  | .cairnFlush => Sys2Proof.Machine.execCairnFlush s
  | .cairnRdSeq r seq => Sys2Proof.Machine.execCairnRdSeq r seq s
  | .tcCmdGo r => Sys2Proof.Machine.execTcCmdGo r s
  | .cairnClear r key => Sys2Proof.Machine.execCairnClear r key s
  | .cairnClearComplete => Sys2Proof.Machine.execCairnClearComplete s
  | .holdMessage h => Sys2Proof.Machine.execHoldMessage h s
  | .releaseMessage h => Sys2Proof.Machine.execReleaseMessage h s
  | .capMessage h dis chg valid => Sys2Proof.Machine.execCapMessage h dis chg valid s
  | .pcmdMessage h p => Sys2Proof.Machine.execPcmdMessage h p s
  | .messageCrcFail p => Sys2Proof.Machine.execMessageCrcFail p s
  | .reportTimer => Sys2Proof.Machine.execReportTimer s
  | .t1sPublication => Sys2Proof.Machine.execT1sPublication s
  | .rackMessageRx h flags mode => Sys2Proof.Machine.execRackMessageRx h flags mode s
  | .rackSendTimer => Sys2Proof.Machine.execRackSendTimer s
  | .peerTimeout k => Sys2Proof.Machine.execPeerTimeout k s
  | .canErrorState n busOff tec rec => Sys2Proof.Machine.execCanErrorState n busOff tec rec s
  | .canBusOffRecovery n => Sys2Proof.Machine.execCanBusOffRecovery n s
  | .canTxDrop n => Sys2Proof.Machine.execCanTxDrop n s
  | .t1sLinkLoss phy => Sys2Proof.Machine.execT1sLinkLoss phy s
  | .portCntClr r p => Sys2Proof.Machine.execPortCntClr r p s
  | .pmbusPoll d x => Sys2Proof.Machine.execPmbusPoll d x s
  | .pmbusPollFail d why => Sys2Proof.Machine.execPmbusPollFail d why s
  | .pmbusAlert addr statusWord => Sys2Proof.Machine.execPmbusAlert addr statusWord s
  | .pmbusMailboxGo r write dev cmd data => Sys2Proof.Machine.execPmbusMailboxGo r write dev cmd data s
  | .imageBegin r => Sys2Proof.Machine.execImageBegin r s
  | .imageAbort r => Sys2Proof.Machine.execImageAbort r s
  | .imgDataWrite r addr data => Sys2Proof.Machine.execImgDataWrite r addr data s
  | .imageHeaderChecked => Sys2Proof.Machine.execImageHeaderChecked s
  | .imageVerified uncorrectable => Sys2Proof.Machine.execImageVerified uncorrectable s
  | .imageStreamInterrupt => Sys2Proof.Machine.execImageStreamInterrupt s
  | .activate r key => Sys2Proof.Machine.execActivate r key s
  | .activationPauseEnd => Sys2Proof.Machine.execActivationPauseEnd s
  | .confirm r key => Sys2Proof.Machine.execConfirm r key s
  | .autoConfirm => Sys2Proof.Machine.execAutoConfirm s
  | .trialExpiry => Sys2Proof.Machine.execTrialExpiry s
  | .rstNRelease e => Sys2Proof.Machine.execRstNRelease e s
  | .slotRetryEnable slot => Sys2Proof.Machine.execSlotRetryEnable slot s
  | .regionRestartComplete r => Sys2Proof.Machine.execRegionRestartComplete r s
  | .t1sLinkReturn phy beacon => Sys2Proof.Machine.execT1sLinkReturn phy beacon s
  | .canErrorActiveReturn n tec rec => Sys2Proof.Machine.execCanErrorActiveReturn n tec rec s
  | .yoridFrameDiscarded p why => Sys2Proof.Machine.execYoridFrameDiscarded p why s
  | .enumRequestAtPort p cmd seq hop => Sys2Proof.Machine.execEnumRequestAtPort p cmd seq hop s
  | .syncRx p tag => Sys2Proof.Machine.execSyncRx p tag s

end Sys2Proof.Machine
end

