-- ==== Sys2Proof/Machine/TestPort.lean ====
section
/-! DEFINITION. The test port (R567): which of its instructions the lock permits, IDCODE, and the unlock. No row of the opcode table reaches the port, so no command changes its part of the state (log entry 100). -/

namespace Sys2Proof.Machine

/-- The instructions of the test port: the four of IEEE 1149.1 that R567 names, and a debug access. -/
inductive TapInstr where
  | bypass
  | idcode
  | samplePreload
  | extest
  | debug
  deriving DecidableEq, Repr

/-- The instruction drives pins or reads memory: it is locked until the unlock. -/
def TapInstr.guarded : TapInstr → Bool
  | .extest => true
  | .debug => true
  | _ => false

/-- IDCODE (R567): version 0x1 for stepping B0 in [31:28], part 0x2432 in [27:12]; the manufacturer below them and bit 0, which IEEE 1149.1 holds at 1 (log entry 100). -/
def tapIdcode : BitVec 32 := (0x1 : BitVec 4) ++ (0x2432 : BitVec 16) ++ Config.tapMaker ++ (1 : BitVec 1)

namespace State

/-- What the lock permits (R567). -/
def tapPermits (s : State) (i : TapInstr) : Bool := !i.guarded || s.dev.tapOpen

/-- What the data register of an instruction captures, as far as R567 gives it: IDCODE its word, BYPASS a single 0 of IEEE 1149.1 (log entry 100); nothing of a locked instruction. -/
def tapCapture (s : State) (i : TapInstr) : Option (List Bool) :=
  match i with
  | .idcode => some ((List.range 32).map tapIdcode.getLsbD)
  | .bypass => some [false]
  | _ => if s.tapPermits i then none else some []

/-- A challenge-response answer reaches the port (R567): only a device whose OTP enables the unlock takes a right one. -/
def tapUnlock (s : State) (right : Bool) : State :=
  if s.dev.tapEnable && right then { s with dev := { s.dev with tapOpen := true } } else s

end State

end Sys2Proof.Machine
end

