-- ==== Sys2Proof/Safety.lean ====
section
/-! DEFINITION. What the statements call a safe state and a safe step. -/

namespace Sys2Proof

open Machine Machine.State

/-- Keys rise strictly. -/
def Rising {β : Type} (l : List (Nat × β)) : Prop := (l.map Prod.fst).Pairwise (· < ·)

/-- The register file and the engine memory are in canonical form: addresses strictly rising, and no entry that equals what an unlisted address reads. -/
def Canonical (s : State) : Prop :=
  Rising s.regs ∧ (∀ e ∈ s.regs, e.2 ≠ resetWord e.1) ∧ Rising s.mem ∧ ∀ e ∈ s.mem, e.2 ≠ 0

/-- Engine memory's canonical form: addresses strictly rising, and no byte that equals what an unlisted address reads. -/
abbrev Memory.wf (m : List Host.Cell) : Prop := (m.map Prod.fst).Pairwise (· < ·) ∧ ∀ e ∈ m, e.2 ≠ 0

/-- A step that goes on: it answers a next state. -/
def Runs (o : Host.Outcome State Fault Refusal) : Prop := ∃ t, o = .next t

/-- Two states read the same at every register outside `p`. -/
def RegsKept (p : Nat → Prop) (s t : State) : Prop := ∀ a, ¬ p a → t.getReg a = s.getReg a

/-- Two states read the same at every byte of engine memory. -/
def MemKept (s t : State) : Prop := ∀ a, t.readByte a = s.readByte a

/-- Two states read the same at every byte of engine memory outside entries 2 to 15 of the ports' transmit queues (Table 6-2, R187). -/
def TxKept (s t : State) : Prop := ∀ a, (∀ n : Fin 24, a < txEntry n 0 ∨ txEntry n 14 ≤ a) → t.readByte a = s.readByte a

/-- Two fields have no bit in common. -/
def Apart (f g : Fld) : Prop := f.addr ≠ g.addr ∨ f.lo + f.w ≤ g.lo ∨ g.lo + g.w ≤ f.lo

/-- `t` is `s` with the listed fields set to the values named, and nothing else changed: no other field of any register, and nothing beside the registers. -/
structure Sets (s t : State) (l : List (Fld × Nat)) : Prop where
  reads : ∀ x ∈ l, t.getF x.1 = x.2
  keeps : ∀ g : Fld, g.lo + g.w ≤ 32 → (∀ x ∈ l, Apart g x.1) → t.getF g = s.getF g
  rest : t = { s with regs := t.regs }

/-- A whole register as a field with its value. -/
def whole (a : Nat) (w : Word) : Fld × Nat := (⟨a, 0, 32⟩, w.toNat)

/-- A saturating counter one further. -/
def oneMore (s : State) (f : Fld) : Fld × Nat := (f, min (s.getF f + 1) (2 ^ f.w - 1))

/-- PG_CHG of a page one further (R34). -/
def pageChg (s : State) (p : Nat) : Fld × Nat := (pgChgCount p, (s.getF (pgChgCount p) + 1) % 2 ^ (pgChgCount p).w)

/-- The condition bit of an L source, set (R428). -/
def condOf (src : Nat) : Fld × Nat := (⟨FCOL.COND (src / 32), src % 32, 1⟩, 1)

/-- The condition and active bits of an L source whose condition ends (R428). -/
def condEnd (src : Nat) : List (Fld × Nat) := [(⟨FCOL.COND (src / 32), src % 32, 1⟩, 0), (⟨FCOL.ACT (src / 32), src % 32, 1⟩, 0)]

/-- A channel's run counters at rest with its gate's pull-down (R381): what every change of its state does beside the registers. -/
def efQuiet (s : State) (c : Nat) (p : Pull) : State :=
  s.updEf c (fun x => { x with limTicks := 0, ilimTicks := 0, lowTicks := 0, presTicks := 0, presSeen := false, ig50 := false, ticks := 0, checked := false, pull := p })

/-- The fields of a channel that goes to state `st`: its state, PG, LIMITING, and the condition of FS_EFUSE_c (Table 12-4, R428). -/
def efFields (c st : Nat) : List (Fld × Nat) :=
  [(EFUSE.EF_STAT_LIMITING c, 0), (⟨FCOL.COND ((144 + c) / 32), (144 + c) % 32, 1⟩, (decide (efTRIPPED ≤ st)).toNat),
   (EFUSE.EF_STAT_PG c, (decide (st = efON)).toNat), (EFUSE.EF_STAT_STATE c, st)]

/-- The commands between two update boundaries that read settings of the pages of R42: they run on the settings in force. -/
def readsSettings (c : Instr) : Bool :=
  match c with
  | .stepHintEdge _ _ => true
  | .intentMessage _ _ _ _ _ _ => true
  | .reportTimer => true
  | .t1sPublication => true
  | .setpointStart => true
  | .firstSetpointAfterTakeover => true
  | .takeover _ => true
  | .inputStuckTimer _ => true
  | .estimatorSetUpdate _ => true
  | .restReqRepeat => true
  | .capacityWriteBack _ => true
  | .surveyPrerollStart _ => true
  | .surveyBatch _ => true
  | .surveyWindowEnd _ => true
  | .surveyBlocked _ => true
  | .corniceOpen => true
  | .corniceWindowEnd => true
  | .corniceCollapseEnd => true
  | .startRampEnd => true
  | .shortfallCount => true
  | .capExceedTimer => true
  | .statusTimeout _ => true
  | .busOvCount => true
  | .busUvCount => true
  | .holdupAutoRelease => true
  | .holdupHandBackStart => true
  | .hbRampEnd => true
  | .holdupTmaxExpiry => true
  | .plantTimeout => true
  | _ => false

/-- The command goes on, to a state of which `P` holds. -/
def Goes (i : Instr) (s : State) (P : State → Prop) : Prop := ∃ t, exec i s = .next t ∧ P t

/-- The command goes on, to `u` (which says what becomes of the state beside the registers) with the listed fields set and no other. -/
def GoesSet (i : Instr) (s u : State) (l : List (Fld × Nat)) : Prop := Goes i s (fun t => Sets u t l)

/-- The command goes on: the listed fields are set and no other, and then source `src` is raised with `data`. -/
def GoesRaise (i : Instr) (s u : State) (l : List (Fld × Nat)) (src : Nat) (data : List Nat) : Prop :=
  Goes i s (fun t => ∃ v, Sets u v l ∧ t = v.raise src data)

/-- A plant message that passes every check of R514: its port hears it on the plant link, its CRC passes, it is addressed to this controller (`all`: or to every one) by the plant. -/
abbrev PlantHears (s : State) (h : MsgHead) (typ : Nat) (body : List Nat) (all : Bool) : Prop :=
  s.portHears (portNo h.port) = true ∧ crc16 (identBytes typ h.dst.toNat h.src.toNat h.tag.toNat ++ body) = h.crc.toNat ∧ portNo h.port = s.plantLink
    ∧ s.addressed_ (portNo h.port) h.dst.toNat all = true ∧ h.src.toNat = s.plantAddr (portNo h.port)

/-- What a valid plant message writes whatever it says: the port's frame count, and the end of a plant loss (R272, R514). -/
def plantFields (s : State) (h : MsgHead) : List (Fld × Nat) :=
  oneMore s (cntRxFrames (portNo h.port)) :: ((if s.pgRunning pSHELF then [(SHELF.REG_STAT_PLANT_LOST, 0)] else []) ++ if s.getCond 111 then condEnd 111 else [])

/-- The page's state permits a PG_CTRL word (R35 to R37, Tables 2-9 and 2-12): one command at most; a stop of a page that is OFF, STARTING, or RUNNING with its stop permitted; a fence cleared with no active source left; a start of a STOPPED page; no RUN withdrawn from a page that runs. -/
def ctrlTaken (s : State) (p : Nat) (v : Word) (via : Option Nat) : Bool :=
  let run := v.getLsbD 0
  let stop := v.getLsbD 1
  let clr := v.getLsbD 2
  let st := s.pgState p
  let rising := run && st ≠ psSTARTING && st ≠ psRUNNING
  stop.toNat + clr.toNat + rising.toNat ≤ 1
    && (!stop || (!alwaysRunning p && (st = psOFF || st = psSTARTING || (st = psRUNNING && s.stopPermitted p via))))
    && (!clr || (!alwaysRunning p && st = psFENCED && !(s.fsum p).getLsbD 28))
    && (!rising || alwaysRunning p || st = psSTOPPED)
    && (run || stop || clr || (st ≠ psSTARTING && st ≠ psRUNNING))

/-- The page takes the word (checks 6 and 7 of Table 2-11): PG_CTRL by its own rules; a block register while the page is not OFF, with every RS field left as it is unless the page is STOPPED (for a profile, EST too: R306), and no word of the active bank (R232). -/
def wordTaken (s : State) (r : Requester) (p o : Nat) (v : Word) : Bool :=
  if o = 0x004 then ctrlTaken s p v (reqPage r)
  else if o = 0x008 ∨ o = 0x014 then true
  else match pageKind p, findReg p o with
    | some (k, _), some (d, n, i) =>
      s.pgState p ≠ psOFF
        && ((s.pgState p = psSTOPPED && (k ≠ .estprof || s.pgState pEST = psSTOPPED)) || !s.rsDiffers d n i (s.getReg (s.homeOf p o)) v)
        && !s.sbRefuses d n i && !s.copyRefuses k n (0x1000 * p + o) v
    | _, _ => true

/-- The conditions of Table 2-11 under which a write of one word is carried out, in their order: the port hears the requester, the controller is ready for it (check 2), the address is a word of a listed page (3), the parameter store does not scan (4), nobody else holds the page (5, R46, R47), and the page takes the word (6, 7). They are about the state and the operands alone. -/
abbrev Accepts (s : State) (r : Requester) (a v : Nat) : Prop :=
  s.portOpen r = true ∧ s.hostReady r = true ∧ a % 4 = 0 ∧ (pageKind (a / 0x1000)).isSome = true ∧ ¬ (a / 0x1000 = pPSTORE ∧ s.ps.scanning = true)
    ∧ s.mayWrite (a / 0x1000) r = true ∧ wordTaken s r (a / 0x1000) (a % 0x1000) (BitVec.ofNat 32 v) = true

/-- An accepted word write up to what it starts in its block: the owner's access time (R48), the word with its access codes (R41), the settings that wait for their boundary (R42), PG_CHG (R34). -/
def Stored (s : State) (r : Requester) (a v : Nat) : State :=
  match pageKind (a / 0x1000), findReg (a / 0x1000) (a % 0x1000) with
  | some (k, _), some (d, n, i) =>
    let h := s.homeOf (a / 0x1000) (a % 0x1000)
    let u := s.ownerTouch (a / 0x1000) r
    ((u.setReg h (u.writtenWord r k d n i a (s.getReg h) (BitVec.ofNat 32 v))).noteLate k d n i h (s.getReg h)).countChg (a / 0x1000)
  | _, _ => s

end Sys2Proof
end

