-- ==== Sys2Proof/Certificates/Slice0/Obligations.lean ====
section
/-! DEFINITION. The statements for the provers. -/

open Sys2Proof Sys2Proof.Machine Sys2Proof.Machine.State

/-- A released slot that is first of its lane evaluates; a released slot misses its remote deadline, or overruns its gap (R209, R225, 07_vermet_control_engine.md). -/
def Obligations.VceEvaluationsAndBudgets : Prop :=
  (∀ (i : Fin 64) (u : Bool) (s : State), s.operating → s.pgRunning pVCE → s.gapFirst i → 40 ≤ i.val → i.val < 56 → 
      exec (.vceSlotEvaluation i u) s = .next ((s.gapTaken i).evalSlot i { (s.gapTaken i).evalIn i with hold := s.phaseHold (i - 40) }))
  ∧ (∀ (i : Fin 64) (u : Bool) (s : State), s.operating → s.pgRunning pVCE → s.gapFirst i → (i.val < 40 ∨ 56 ≤ i.val) → 
      exec (.vceSlotEvaluation i u) s = .next ((s.gapTaken i).evalSlot i ((s.gapTaken i).shelfIn i u)))
  ∧ (∀ (i : Fin 64) (u : Bool) (s : State), s.operating → s.pgRunning pVCE → s.gapFirst i → s.slotFenced i → 
      GoesSet (.vceSlotEvaluation i u) s (s.gapTaken i) [whole (VSLOT.OUT i) (s.fencedOut i)])
  ∧ (∀ (i : Fin 32) (s : State), s.operating → s.slotOn i → (s.vslot i).released → 
      GoesRaise (.remoteDeadlineMiss i) s s [] 93 [])
  ∧ (∀ (i : Fin 64) (s : State), s.operating → s.slotOn i → (s.vslot i).released → 
      GoesRaise (.gapOverrun i) s s [oneMore s (VSLOT.SLOT_CNT_OVERRUN i)] 92 [i.val])

/-- The lane schedule is built and swapped, and a handover executes at its boundary (R220, R226, R227, 07_vermet_control_engine.md). -/
def Obligations.VceSchedulesAndHandovers : Prop :=
  (∀ (s : State) (l : List (Nat × Nat × Nat)) (loads : List (Nat × Nat)), s.powered → s.schedule = some (l, loads) → 
      exec .scheduleBuild s = .next (s.schedAccept l loads))
  ∧ (∀ (s : State), s.powered → s.schedule = none → 
      exec .scheduleBuild s = .next ((schedPages.filter (fun p => s.pgState p = psSTARTING)).foldl (fun s p => s.startFails p) s))
  ∧ (∀ (s : State), s.powered → s.getB VCE.SCHED_STAT_PENDING → 
      Goes .scheduleSwap s (fun t => t.getF VCE.SCHED_STAT_PENDING = 0 ∧ t.getF VCE.SCHED_STAT_VALID = 1 ∧ t.vce.shadow = [] ∧ t.shelf = s.shelf ∧ t.mem = s.mem ∧
      ∀ a, a ≠ VCE.SCHED_STAT → (∀ x ∈ s.vce.shadow, a ≠ VSLOT.SLOT_STAT x.1) → t.getReg a = s.getReg a))
  ∧ (∀ (s : State), s.mode = mWATCH → s.getF VCE.HANDOVER_RESULT = 1 → s.handoverOk (s.getF VCE.HANDOVER_FROM) (s.getF VCE.HANDOVER_TO) → 
      exec .handoverExecute s = .next ((s.handover (s.getF VCE.HANDOVER_FROM) (s.getF VCE.HANDOVER_TO)).setF VCE.HANDOVER_RESULT 2))
  ∧ (∀ (s : State), s.mode = mWATCH → s.getF VCE.HANDOVER_RESULT = 1 → s.handoverOk (s.getF VCE.HANDOVER_FROM) (s.getF VCE.HANDOVER_TO) = false → 
      GoesSet .handoverExecute s s [(VCE.HANDOVER_RESULT, 3)])
  ∧ (∀ (s : State), (s.mode = mRUN ∨ s.mode = mDEGRADED) → s.getF VCE.HANDOVER_RESULT ≠ 1 → s.huState = 0 → s.shelf.startReg = false → s.getF SHELF.REG_STAT_MODE_ACT ≠ s.wantMode → s.handoverOk s.actSlot (s.roleSlot (modeRole s.wantMode)) → s.shelf.regPend → 
      exec .handoverExecute s = .next ((((s.handover s.actSlot (s.roleSlot (modeRole s.wantMode))).setF SHELF.REG_STAT_MODE_ACT s.wantMode).setF
      SHELF.REG_STAT_MODE_CHG 2).updShelf (fun x => { x with regPend := false })))

/-- The slot commands of an accepted SLOT_CTRL, HANDOVER or VCE_CTRL write act (R218, R220, R232, R233, R235, R240, Table 7-4, 07_vermet_control_engine.md). -/
def Obligations.VceSlotRequests : Prop :=
  (∀ (r : Requester) (i : Fin 8) (p : Bool) (s : State), Accepts s r (VSLOT.SLOT_CTRL i) (s.getN (VSLOT.SLOT_CTRL i) + 2 ^ 31 + p.toNat * 2 ^ 30) → s.getN (VSLOT.SLOT_CTRL i) < 2 ^ 28 → s.getB (VSLOT.SLOT_STAT_SWAP_PEND i) = false → 
      Goes (.swapReq r i p) s (fun t => Sets ((Stored s r (VSLOT.SLOT_CTRL i) (s.getN (VSLOT.SLOT_CTRL i) + 2 ^ 31 + p.toNat * 2 ^ 30)).updVs i
      (fun v => { v with swapPreset := p, swapDue := false })) t [(VSLOT.SLOT_STAT_SWAP_PEND i, 1)]))
  ∧ (∀ (r : Requester) (i : Fin 8) (s : State), Accepts s r (VSLOT.SLOT_CTRL i) (s.getN (VSLOT.SLOT_CTRL i) + 2 ^ 29) → s.getN (VSLOT.SLOT_CTRL i) < 2 ^ 28 → 
      exec (.bankCopy r i) s = .next ((Stored s r (VSLOT.SLOT_CTRL i) (s.getN (VSLOT.SLOT_CTRL i) + 2 ^ 29)).bankCopy i))
  ∧ (∀ (r : Requester) (i : Fin 64) (s : State), Accepts s r (VSLOT.SLOT_CTRL i) (s.getN (VSLOT.SLOT_CTRL i) + 2 ^ 28) → s.getN (VSLOT.SLOT_CTRL i) < 2 ^ 28 → 
      exec (.stateClr r i) s = .next ((Stored s r (VSLOT.SLOT_CTRL i) (s.getN (VSLOT.SLOT_CTRL i) + 2 ^ 28)).updVs i (fun v => { v with stateClr := true })))
  ∧ (∀ (r : Requester) (i : Fin 64) (m : BitVec 2) (k : Fin 64) (s : State), Accepts s r (VSLOT.SLOT_CTRL i) (k * 2 ^ 16 + m.toNat) → 
      exec (.slotModeWrite r i m k) s = .next (Stored s r (VSLOT.SLOT_CTRL i) (k * 2 ^ 16 + m.toNat)) ∧
    (Stored s r (VSLOT.SLOT_CTRL i) (k * 2 ^ 16 + m.toNat)).getF (VSLOT.SLOT_CTRL_MODE i) = m.toNat ∧
    (Stored s r (VSLOT.SLOT_CTRL i) (k * 2 ^ 16 + m.toNat)).getF (VSLOT.SLOT_CTRL_TRK_SLOT i) = k)
  ∧ (∀ (r : Requester) (a b : Fin 64) (s : State), Accepts s r VCE.HANDOVER (2 ^ 31 + b * 2 ^ 8 + a) → 
      Goes (.handoverGo r a b) s (fun t => Sets (Stored s r VCE.HANDOVER (2 ^ 31 + b * 2 ^ 8 + a)) t [(VCE.HANDOVER_RESULT, 1)] ∧
      t.getF VCE.HANDOVER_FROM = a ∧ t.getF VCE.HANDOVER_TO = b))
  ∧ (∀ (r : Requester) (s : State), Accepts s r VCE.VCE_CTRL 1 → 
      Goes (.vceCtrlClr r) s (fun t => (∀ i : Fin 64, t.getReg (VSLOT.SLOT_CNT i) = 0 ∧ t.getReg (VSLOT.WRAP_CNT i) = 0) ∧ t.getF VCE.REMOTE_END_WORST = 0 ∧
      t = { Stored s r VCE.VCE_CTRL 1 with regs := t.regs }))

/-- A shelf-cycle boundary advances time and runs the cycle; regulation starts; the start ramp ends (R16, R17, R248, Table 1-3, 08_shelf_power_control.md). -/
def Obligations.ShelfCycleAndRegulation : Prop :=
  (∀ (c : CycleIn) (s : State), s.operating → 
      exec (.shelfCycleBoundary c) s = .next (s.cycleTime.sdmaPolicy.shelfCycle c))
  ∧ (∀ (c : CycleIn) (s : State), s.mode = mASCENT → 
      Goes (.shelfCycleBoundary c) s (fun t => t.dev.nowUs = s.dev.nowUs + s.cycleUs ∧ t.shelf.cycle = (s.shelf.cycle + 1) % 2 ^ 32 ∧ t.mem = s.mem ∧ t.port = s.port))
  ∧ (∀ (s : State), s.operating → s.dev.late = [] → 
      exec .setpointStart s = .next s.setpointStart)
  ∧ (∀ (s : State), s.shelf.startReg → s.inhibit = false → (s.mode = mRUN ∨ s.mode = mDEGRADED) → 
      Goes .regulationStart s (fun t => t.shelf.startReg = false ∧ t.shelf.startNew = true ∧ t.shelf.plantOn = s.shelf.plantOn ∧ t.shelf.plantUs = s.shelf.plantUs ∧ t.shelf.startRef = s.vBus ∧
      t.actSlot = s.roleSlot (modeRole s.wantMode) ∧
      t.getF SHELF.REG_STAT_START_RAMP = 1 ∧ t.getF SHELF.REG_STAT_INHIBIT_RAMP = 0 ∧ t.getF SHELF.REG_STAT_MODE_ACT = s.wantMode ∧
      (s.wantMode = 1 → t.getReg SHELF.P_REF = 0) ∧ t.mode = s.mode ∧ t.mem = s.mem))
  ∧ (∀ (s : State), s.getB SHELF.REG_STAT_START_RAMP → s.getF SHELF.REG_STAT_MODE_ACT = 0 → F32.eqv s.shelf.startRef s.busvRef → s.dev.late = [] → 
      GoesSet .startRampEnd s s [(SHELF.REG_STAT_START_RAMP, 0)])
  ∧ (∀ (s : State), s.getB SHELF.REG_STAT_START_RAMP → s.getF SHELF.REG_STAT_MODE_ACT ≠ 0 → F32.eqv (s.getReg SHELF.P_REF) s.pTarget → s.dev.late = [] → 
      GoesSet .startRampEnd s s [(SHELF.REG_STAT_START_RAMP, 0)])

/-- The shelf's protections set their status, raise their source with its data, and change nothing else first (R253, R258, R264, R270, R271, R272, R274, 08_shelf_power_control.md). -/
def Obligations.ShelfProtectionsRaise : Prop :=
  (∀ (s : State), s.shelf.limDir ≠ 0 → s.shelf.limByStr → s.getF ALLOC.ALLOC_CFG_SHORT_N ≤ s.shelf.limRun → s.getCond 108 = false → s.dev.late = [] → 
      GoesRaise .shortfallCount s s [(ALLOC.ALLOC_STAT_SHORTFALL, 1), condOf 108] 108 (leBytes 4 s.shelf.limShort.toNat))
  ∧ (∀ (s : State), s.shelf.capDir ≠ 0 → 1000 * s.getF CREST.EXCEED_TIME ≤ s.shelf.capUs → s.getB CREST.CREST_STAT_EXCEED = false → s.dev.late = [] → 
      GoesRaise .capExceedTimer s s [(CREST.CREST_STAT_EXCEED, 1), condOf 107] 107 (leBytes 4 s.pShelf.toNat ++ [s.shelf.capDir - 1]))
  ∧ (∀ (k : Fin 24) (s : State), s.operating → s.pgRunning (pYPORT k) → s.getB (YPORT.PORT_CFG_MONITOR_ONLY k) = false → s.getF ALLOC.ALLOC_CFG_STATUS_TMO ≤ s.shelf.statAge.getD k 0 → s.shelf.tmoSeen.getD k false = false → s.dev.late = [] → 
      GoesRaise (.statusTimeout k) s (s.updShelf (fun x => { x with gate := x.gate.set k 0, tmoSeen := x.tmoSeen.set k true })) [whole (CORNICE.F k) 0] (64 + k) [2])
  ∧ (∀ (k : Fin 24) (s : State), s.operating → 4 ≤ s.shelf.misApply.getD k 0 → 
      GoesRaise (.applyMismatchCount k) s (s.updShelf (fun x => { x with misApply := x.misApply.set k 0 })) [] (64 + k) [3])
  ∧ (∀ (s : State), s.operating → 0 < s.shelf.ovRun → s.getF SHELF.BUS_N_OV_N ≤ s.shelf.ovRun → s.getCond 104 = false → s.dev.late = [] → 
      GoesRaise .busOvCount s s [condOf 104] 104 (leBytes 4 s.vBus.toNat))
  ∧ (∀ (s : State), s.operating → 0 < s.shelf.uvRun → s.getF SHELF.BUS_N_UV_N ≤ s.shelf.uvRun → s.getCond 105 = false → s.dev.late = [] → 
      GoesRaise .busUvCount s s [condOf 105] 105 (leBytes 4 s.vBus.toNat))
  ∧ (∀ (s : State), s.operating → s.pgRunning pSHELF → s.getB SHELF.SHELF_CFG_PLANT_EN → s.shelf.plantOn → 10000 * s.getF SHELF.PLANT_TMO_T ≤ s.shelf.plantUs → s.getCond 111 = false → s.getF SHELF.REG_STAT_MODE_ACT = 1 → s.getB SHELF.SHELF_CFG_CMD_SRC = false → s.dev.late = [] → 
      GoesRaise .plantTimeout s (s.updShelf (fun x => { x with lossDis := true, lossChg := true, cmdHold := x.cmdHold || s.getF SHELF.SHELF_CFG_LOSS_ACT == 0, toBusv := x.toBusv || s.getF SHELF.SHELF_CFG_LOSS_ACT == 2, cmdZero := x.cmdZero || (s.getF SHELF.SHELF_CFG_LOSS_ACT == 1 || s.getF SHELF.SHELF_CFG_LOSS_ACT == 3) }))
      [(SHELF.REG_STAT_PLANT_LOST, 1), condOf 111] 111 [])
  ∧ (∀ (s : State), s.operating → s.pgRunning pSHELF → s.getB SHELF.SHELF_CFG_PLANT_EN → s.shelf.plantOn → 10000 * s.getF SHELF.PLANT_TMO_T ≤ s.shelf.plantUs → s.getCond 111 = false → (s.getF SHELF.REG_STAT_MODE_ACT ≠ 1 ∨ s.getB SHELF.SHELF_CFG_CMD_SRC = true) → s.dev.late = [] → 
      GoesRaise .plantTimeout s (s.updShelf (fun x => { x with lossDis := true, lossChg := true })) [(SHELF.REG_STAT_PLANT_LOST, 1), condOf 111] 111 [])
  ∧ (∀ (i : Fin 8) (r : Nat) (s : State), [roBUSV, roHOLD, roPCMD].find? (fun r => s.pgRunning pSHELF && s.roleSlot r = i && s.slotFenced i) = some r → s.getB SHELF.ROLE_SPARE_EN → s.shelf.spareRole = 0 → s.getF SHELF.ROLE_SPARE ≠ i → s.slotReady (s.getF SHELF.ROLE_SPARE) → s.getF (VSLOT.SLOT_CFG_YSRC (s.getF SHELF.ROLE_SPARE)) = (if r = roPCMD then 3 else 1) → i.val ≠ s.actSlot → s.getF SHELF.ROLE_SPARE < 8 → 
      GoesSet (.regulationSlotFenced i) s ((s.updVs (s.getF SHELF.ROLE_SPARE) (fun v => { v with needPreset := true, target := some (s.getReg (VSLOT.OUT i)) })).updShelf (fun x => { x with spareRole := r }))
      [(SHELF.REG_STAT_SPARE_IN_USE, 1), (VSLOT.SLOT_CTRL_MODE (s.getF SHELF.ROLE_SPARE), 0)])
  ∧ (∀ (i : Fin 8) (r p : Nat) (v s : State), [roBUSV, roHOLD, roPCMD].find? (fun r => s.pgRunning pSHELF && s.roleSlot r = i && s.slotFenced i) = some r → p = s.getF SHELF.ROLE_SPARE → s.getB SHELF.ROLE_SPARE_EN → s.shelf.spareRole = 0 → p ≠ i → s.slotReady p → s.getF (VSLOT.SLOT_CFG_YSRC p) = (if r = roPCMD then 3 else 1) → i.val = s.actSlot → v = ((((s.setF (VSLOT.SLOT_CTRL_MODE p) 0).updVs p (fun v => { v with needPreset := true, target := some (s.getReg (VSLOT.OUT i)) })).updShelf (fun x => { x with spareRole := r })).setF SHELF.REG_STAT_SPARE_IN_USE 1) → 
      exec (.regulationSlotFenced i) s = .next ((v.makeActive p).setF SHELF.REG_STAT_MODE_ACT (s.getF SHELF.REG_STAT_MODE_ACT)))
  ∧ (∀ (i : Fin 8) (r : Nat) (s : State), [roBUSV, roHOLD, roPCMD].find? (fun r => s.pgRunning pSHELF && s.roleSlot r = i && s.slotFenced i) = some r → (s.getB SHELF.ROLE_SPARE_EN = false ∨ s.shelf.spareRole ≠ 0 ∨ s.getF SHELF.ROLE_SPARE = i ∨ s.slotReady (s.getF SHELF.ROLE_SPARE) = false ∨ s.getF (VSLOT.SLOT_CFG_YSRC (s.getF SHELF.ROLE_SPARE)) ≠ (if r = roPCMD then 3 else 1)) → 
      GoesSet (.regulationSlotFenced i) s s [(SHELF.REG_STAT_REG_LOST, 1)])

/-- Hold-up: entry conditions are announced, a release latches, the hand-back ramp starts and ends, the time limit raises (R247, R265, R266, R267, R268, 08_shelf_power_control.md). -/
def Obligations.HoldupMoves : Prop :=
  (∀ (s : State), s.operating → s.huPresent.1 → 
      GoesSet .holdupVoltageEntry s (s.updShelf (fun x => { x with huReqV := true })) [])
  ∧ (∀ (s : State), s.operating → s.huPresent.2.1 → 
      GoesSet .holdNEntry s (s.updShelf (fun x => { x with huReqPin := true })) [])
  ∧ (∀ (r : Requester) (s : State), Accepts s r HOLDUP.RELEASE 1 → s.pgRunning pHOLDUP → 
      Goes (.holdupReleaseWrite r) s (fun t => Sets (Stored s r HOLDUP.RELEASE 1) t [(HOLDUP.HU_STAT_REL_LATCHED, 1)]))
  ∧ (∀ (s : State), s.operating → s.pgRunning pHOLDUP → s.getB HOLDUP.HU_CFG_AUTO_REL → 1000 * s.getF HOLDUP.HU_CFG_AUTO_REL_MS ≤ s.shelf.huQuietUs → s.dev.late = [] → 
      GoesSet .holdupAutoRelease s s [(HOLDUP.HU_STAT_REL_LATCHED, 1)])
  ∧ (∀ (s : State), s.huState = 1 → s.getB HOLDUP.HU_STAT_REL_LATCHED → s.huPresent = (false, false, false) → F32.le (s.getReg HOLDUP.V_EXIT) s.vBus → s.dev.late = [] → 
      GoesSet .holdupHandBackStart s (s.updShelf (fun x => { x with hbUs := 0, hbFrom := s.holdRef, hbTo := if x.hbSeen then x.hbTo else s.vBus })) [(HOLDUP.HU_STAT_STATE, 2)])
  ∧ (∀ (s : State), s.huState = 2 → 1000 * s.getF HOLDUP.HB_RAMP_MS ≤ s.shelf.hbUs → s.handoverOk s.actSlot (s.roleSlot (modeRole s.wantMode)) → s.shelf.regPend = false → s.dev.late = [] → 
      exec .hbRampEnd s = .next ((((s.handover s.actSlot (s.roleSlot (modeRole s.wantMode))).setF SHELF.REG_STAT_MODE_ACT s.wantMode).setF HOLDUP.HU_STAT_STATE 0).setMode
      (((s.handover s.actSlot (s.roleSlot (modeRole s.wantMode))).setF SHELF.REG_STAT_MODE_ACT s.wantMode).setF HOLDUP.HU_STAT_STATE 0).runOrDegraded))
  ∧ (∀ (u v s : State), s.huState = 2 → 1000 * s.getF HOLDUP.HB_RAMP_MS ≤ s.shelf.hbUs → s.handoverOk s.actSlot (s.roleSlot (modeRole s.wantMode)) → s.shelf.regPend → u = ((s.handover s.actSlot (s.roleSlot (modeRole s.wantMode))).setF SHELF.REG_STAT_MODE_ACT s.wantMode).setF HOLDUP.HU_STAT_STATE 0 → v = (u.updShelf (fun x => { x with regPend := false })).setF SHELF.REG_STAT_MODE_CHG 2 → s.dev.late = [] → 
      exec .hbRampEnd s = .next (v.setMode v.runOrDegraded))
  ∧ (∀ (s : State), s.huState = 2 → 1000 * s.getF HOLDUP.HB_RAMP_MS ≤ s.shelf.hbUs → s.handoverOk s.actSlot (s.roleSlot (modeRole s.wantMode)) = false → s.dev.late = [] → 
      GoesRaise .hbRampEnd s s [] 109 [2, s.huCauses])
  ∧ (∀ (s : State), s.huState = 1 → s.getF HOLDUP.TMAX_S ≠ 0 → 1000000 * s.getF HOLDUP.TMAX_S < s.shelf.huUs → s.shelf.huTmaxSeen = false → s.dev.late = [] → 
      GoesRaise .holdupTmaxExpiry s (s.updShelf (fun x => { x with huTmaxSeen := true })) [] 109 [3, s.huCauses])
  ∧ (∀ (r : Requester) (p : Bool) (s : State), Accepts s r SHELF.SHELF_CFG (s.getN SHELF.SHELF_CFG / 2 * 2 + p.toNat) → s.getF SHELF.REG_STAT_MODE_ACT ≠ p.toNat → 
      Goes (.regModeWrite r p) s (fun t => t.getF SHELF.SHELF_CFG_REG_MODE = p.toNat ∧ t.getF SHELF.REG_STAT_MODE_CHG = 1 ∧ t.shelf.regPend = true ∧
      Sets ((Stored s r SHELF.SHELF_CFG (s.getN SHELF.SHELF_CFG / 2 * 2 + p.toNat)).updShelf (fun x => { x with toBusv := false, regPend := true })) t [(SHELF.REG_STAT_MODE_CHG, 1)]))
  ∧ (∀ (r : Requester) (p : Bool) (v : Nat) (s : State), v = s.getN SHELF.SHELF_CFG / 2 * 2 + p.toNat → Accepts s r SHELF.SHELF_CFG v → s.getF SHELF.REG_STAT_MODE_ACT = p.toNat → s.shelf.regPend = false → 
      exec (.regModeWrite r p) s = .next ((Stored s r SHELF.SHELF_CFG v).updShelf (fun x => { x with toBusv := false })))
  ∧ (∀ (r : Requester) (p : Bool) (v : Nat) (s : State), v = s.getN SHELF.SHELF_CFG / 2 * 2 + p.toNat → Accepts s r SHELF.SHELF_CFG v → s.getF SHELF.REG_STAT_MODE_ACT = p.toNat → s.shelf.regPend → 
      Goes (.regModeWrite r p) s (fun t => Sets ((Stored s r SHELF.SHELF_CFG v).updShelf (fun x => { x with toBusv := false, regPend := false })) t [(SHELF.REG_STAT_MODE_CHG, 0)]))

/-- A cornice is announced, refused, opened, missed, collapsed and backed off as its state machine says (R282, R283, R286, R290, R292, R293, R300, 09_cornice.md). -/
def Obligations.CorniceLife : Prop :=
  (∀ (up : Bool) (at_ i : Nat) (s : State), s.operating → s.mode ≠ mWATCH → (s.getF CORNICE.CN_CFG_HINT_EDGE = 2 ∨ (s.getF CORNICE.CN_CFG_HINT_EDGE = 1 ∧ up = false) ∨ (s.getF CORNICE.CN_CFG_HINT_EDGE ≠ 1 ∧ up = true)) → s.getB (SEQ.INP_STAT_STUCK 2) = false → (i = (if s.getB CORNICE.CN_CFG_HINT_SRC = false ∧ s.cn.intentAt.any (fun t => decide (s.dev.nowUs + at_ - t < 1000 * s.getF CORNICE.HINT_AGE_MS)) = true then s.cn.hintSel else s.getF CORNICE.CN_CFG_HINT_SEL)) → s.cnWhy (s.getB CORNICE.CN_CFG_HINT_EN) (s.getReg (CORNICE.HINT_LEAD i)) (s.getReg (CORNICE.HINT_AMP i)) true = 0 → s.dev.late = [] → 
      GoesSet (.stepHintEdge up at_) s (s.updCn (fun c => { c with tStep := s.dev.nowUs + at_ + (s.getReg (CORNICE.HINT_LEAD i)).toNat, amp := s.getReg (CORNICE.HINT_AMP i), accUs := s.dev.nowUs }))
      [(CORNICE.CN_STAT_STATE, cnPENDING), (CORNICE.CN_STAT_SRC, 1), (CORNICE.CN_STAT_ISN, 0)])
  ∧ (∀ (up : Bool) (at_ : Nat) (s : State), s.operating → s.mode ≠ mWATCH → (s.getF CORNICE.CN_CFG_HINT_EDGE = 2 ∨ (s.getF CORNICE.CN_CFG_HINT_EDGE = 1 ∧ up = false) ∨ (s.getF CORNICE.CN_CFG_HINT_EDGE ≠ 1 ∧ up = true)) → s.getB (SEQ.INP_STAT_STUCK 2) = false → s.getB CORNICE.CN_CFG_EN = false → s.dev.late = [] → 
      GoesSet (.stepHintEdge up at_) s s [oneMore s CORNICE.CNT_B_REFUSED, (CORNICE.CN_REFUSE_REASON, 1)])
  ∧ (∀ (s : State), s.operating → s.cnDue → s.cnModeBad = false → s.dev.late = [] → 
      Goes .corniceOpen s (fun t => t.getReg CORNICE.PRED = F32.div (F32.mul 0x447A0000 s.cn.amp) (F32.max (s.getReg SHELF.V_FLOOR) s.vBus) ∧
      t.getReg CORNICE.BASE = meanOf s.cn.obs ∧ t.getN CORNICE.T_OPEN = s.shelf.cycle % 2 ^ 32))
  ∧ (∀ (s : State), s.cnState = cnOPEN → s.cn.fold = none → s.cnLastDone → s.dev.late = [] → 
      GoesSet .corniceWindowEnd s (s.updCn (fun c => { c with rampFrom := s.getReg CORNICE.PHI_APP, rampUs := 0, recorded := false, fold := none }))
      [(CORNICE.CN_STAT_STATE, cnCOLLAPSING), (CORNICE.CN_STAT_OUTCOME, ocMISS), oneMore s CORNICE.CNT_C_MISS, oneMore s CORNICE.CNT_B_COLLAPSE, whole CORNICE.PHI_REQ (s.getReg CORNICE.PHI_APP)])
  ∧ (∀ (s : State), s.cnState = cnCOLLAPSING → F32.isZero (s.getReg CORNICE.PHI_REQ) → s.cn.recorded → (s.getF CORNICE.CN_CFG_MISS_LIMIT = 0 ∨ s.getF CORNICE.CNT_C_MISS < s.getF CORNICE.CN_CFG_MISS_LIMIT) → s.dev.late = [] → 
      Goes .corniceCollapseEnd s (fun t => ∃ v, Sets s v [(CORNICE.CN_STAT_STATE, cnIDLE), (CORNICE.CN_STAT_OPEN, 0)] ∧ t = v.checkFill))
  ∧ (∀ (s : State), s.cnState = cnCOLLAPSING → F32.isZero (s.getReg CORNICE.PHI_REQ) → s.cn.recorded → s.getF CORNICE.CN_CFG_MISS_LIMIT ≠ 0 → s.getF CORNICE.CN_CFG_MISS_LIMIT ≤ s.getF CORNICE.CNT_C_MISS → s.dev.late = [] → 
      Goes .corniceCollapseEnd s (fun t => ∃ v, Sets (s.updCn (fun c => { c with backoffUs := 1000 * s.getF CORNICE.BACKOFF_MS })) v
      [(CORNICE.CN_STAT_STATE, cnBACKOFF), oneMore s CORNICE.CNT_C_BACKOFFS, (CORNICE.CN_STAT_OPEN, 0)] ∧
      t = v.checkFill.raise 110 (leBytes 2 (s.getF CORNICE.CN_STAT_ISN) ++ [s.getF CORNICE.CN_CFG_MISS_LIMIT] ++ leBytes 4 (s.getN CORNICE.PRED))))
  ∧ (∀ (s : State), s.cnState = cnBACKOFF → s.cn.backoffUs = 0 → 
      GoesSet .corniceBackoffEnd s s [(CORNICE.CN_STAT_STATE, cnIDLE), (CORNICE.CNT_C_MISS, 0)])
  ∧ (∀ (r : Requester) (s : State), Accepts s r CORNICE.CN_CMD 1 → s.cnState = cnPENDING → 
      Goes (.cnCancel r) s (fun t => Sets (Stored s r CORNICE.CN_CMD 1) t [(CORNICE.CN_STAT_STATE, cnIDLE)]))
  ∧ (∀ (r : Requester) (s : State), Accepts s r CORNICE.CN_CMD 2 → s.cnState = cnBACKOFF → 
      Goes (.cnBackoffClr r) s (fun t => Sets ((Stored s r CORNICE.CN_CMD 2).updCn (fun c => { c with backoffUs := 0 })) t [(CORNICE.CN_STAT_STATE, cnIDLE), (CORNICE.CNT_C_MISS, 0)]))
  ∧ (∀ (r : Requester) (s : State), Accepts s r CORNICE.CNT_CTRL 1 → 
      Goes (.corniceCntClr r) s (fun t => Sets (Stored s r CORNICE.CNT_CTRL 1) t [(CORNICE.CNT_C_BACKOFFS, 0), whole CORNICE.CNT_B 0, whole CORNICE.CNT_A 0]))

/-- A valid plant message acts as its type says and counts as plant traffic (R246, R266, R281, R514, 17_host_and_plant_ports.md). -/
def Obligations.PlantMessagesAct : Prop :=
  (∀ (h : MsgHead) (s : State), PlantHears s h 0x01 [] true → 
      GoesSet (.holdMessage h) s (s.updShelf (fun x => { x with huReqPlant := true, huReqRel := false, plantOn := true, plantUs := 0 })) (plantFields s h))
  ∧ (∀ (h : MsgHead) (s : State), PlantHears s h 0x03 [] true → 
      GoesSet (.releaseMessage h) s (s.updShelf (fun x => { x with huReqRel := true, plantOn := true, plantUs := 0 })) (plantFields s h))
  ∧ (∀ (h : MsgHead) (d c : Word) (v : BitVec 2) (s : State), PlantHears s h 0x04 (capBody d c v.toNat) false → 
      GoesSet (.capMessage h d c v) s (s.updShelf (fun x => { x with plantOn := true, plantUs := 0, lossDis := x.lossDis && !v.getLsbD 0, lossChg := x.lossChg && !v.getLsbD 1, pendRegs := x.pendRegs ++ (if v.getLsbD 0 then [(CREST.CAP_PLANT_DIS, d)] else []) ++ (if v.getLsbD 1 then [(CREST.CAP_PLANT_CHG, c)] else []) })) (plantFields s h))
  ∧ (∀ (h : MsgHead) (p : Word) (s : State), PlantHears s h 0x05 (leBytes 4 p.toNat) false → 
      GoesSet (.pcmdMessage h p) s (s.updShelf (fun x => { x with plantOn := true, plantUs := 0, cmdHold := false, cmdZero := false, toBusv := false, pendRegs := x.pendRegs ++ [(SHELF.P_CMD_PLANT, p)] })) (plantFields s h))
  ∧ (∀ (h : MsgHead) (a l : Word) (n : Half) (hint : BitVec 3) (at_ : Nat) (s : State), PlantHears s h 0x02 (intentBody a l n hint.toNat) false → (s.cn.lastIsn = none ∨ (s.cn.lastIsn.map (isnNewer n)) = some true) → s.mode ≠ mWATCH → F32.isZero a = false → s.cnWhy (s.getB CORNICE.CN_CFG_INTENT_EN) l a false = 0 → s.dev.late = [] → 
      GoesSet (.intentMessage h a l n hint at_) s ((s.updShelf (fun x => { x with plantOn := true, plantUs := 0 })).updCn (fun c => { c with hintSel := hint.toNat, lastIsn := some n, intentAt := some (s.dev.nowUs + at_), tStep := s.dev.nowUs + at_ + l.toNat, amp := a, accUs := s.dev.nowUs }))
      ([(CORNICE.CN_STAT_STATE, cnPENDING), (CORNICE.CN_STAT_SRC, 0), (CORNICE.CN_STAT_ISN, n.toNat)] ++ plantFields s h))

/-- Link changes, walks, ring events and discarded frames of a Yorid port (R98, R104, R118, R125, R129, R133, R141, R143, 04_yorid_chains.md). -/
def Obligations.YoridLinkEvents : Prop :=
  (∀ (p : Fin 24) (s : State), s.powered → s.getB (YPORT.PORT_STAT_LINK p) = false → s.pgRunning (pYPORT p) = false → 
      GoesSet (.yoridLinkUp p) s s [(YPORT.PORT_STAT_LINK p, 1)])
  ∧ (∀ (p : Fin 24) (s : State), s.powered → s.getB (YPORT.PORT_STAT_LINK p) = false → s.pgRunning (pYPORT p) → s.getB (YPORT.PORT_STAT_ENUM_BUSY p) = false → 
      GoesSet (.yoridLinkUp p) s s [(YPORT.PORT_STAT_DLY_BUSY p, 1), (YPORT.PORT_STAT_ENUM_BUSY p, 1), oneMore s (YPORT.CNT_LINK_REENUM p), (YPORT.PORT_STAT_LINK p, 1)])
  ∧ (∀ (p : Fin 24) (s : State), s.powered → s.getB (YPORT.PORT_STAT_LINK p) → s.pgRunning (pYPORT p) → 
      GoesRaise (.yoridLinkDown p) s (s.markDown p) ([oneMore s (YPORT.CNT_LINK_DOWN p), (YPORT.PORT_STAT_DLY_BUSY p, 0), (YPORT.PORT_STAT_ENUM_BUSY p, 0), (YPORT.PORT_STAT_HERE p, 0),
      (YPORT.PORT_STAT_FAR_PORT p, 0), (YPORT.PORT_STAT_BROKEN p, if s.getB (YPORT.PORT_CFG_RING p) then 1 else s.getF (YPORT.PORT_STAT_BROKEN p)), (YPORT.PORT_STAT_LINK p, 0)] ++
      (List.range 32).map (fun k => (YPORT.NODE_POS_REACH p k, 0))) (16 + 2 * p) [2])
  ∧ (∀ (p : Fin 24) (w : WalkResult) (s : State), s.portLive p → s.getB (YPORT.PORT_STAT_LINK p) → 
      exec (.enumerationWalk p w) s = .next ((s.walkDone p w).askSeen p))
  ∧ (∀ (p : Fin 24) (w : WalkResult) (s : State), s.portLive p → s.getB (YPORT.PORT_STAT_LINK p) → s.badChain p w → w.nodes.length ≤ 32 → 
      Goes (.enumerationWalk p w) s (fun t => ∃ v, Sets (s.ringFound p w.farPort (lastNode (s.addressed w) w)) v [(YPORT.PORT_STAT_CONV p, 0), (YPORT.PORT_STAT_UNADDR p, (decide ((s.addressed w).length < w.nodes.length)).toNat),
      (YPORT.PORT_STAT_FAR_PORT p, w.farPort.toNat), (YPORT.PORT_STAT_HERE p, w.nodes.length), (YPORT.PORT_STAT_DLY_BUSY p, 0), (YPORT.PORT_STAT_ENUM_BUSY p, 0)] ∧ t = (v.raise (16 + 2 * p) [3]).askSeen p))
  ∧ (∀ (p : Fin 24) (w : WalkResult) (s : State), s.portLive p → s.getB (YPORT.PORT_STAT_LINK p) → s.getB (YPORT.PORT_STAT_ENUM_BUSY p) = false → s.walkDiffers p w = false → 
      exec (.remeasTimer p w) s = .next ((located w).1.foldl (fun s (e : Nat × FoundNode) => s.measureNode p e.1 e.2)
      ((s.updPort p (fun x => { x with holdDue := x.holdDue || x.holdBad, holdBad := false })).ringFound p w.farPort (lastNode (located w).1 w))))
  ∧ (∀ (p : Fin 24) (w : WalkResult) (s : State), s.portLive p → s.getB (YPORT.PORT_STAT_LINK p) → s.getB (YPORT.PORT_STAT_ENUM_BUSY p) = false → s.walkDiffers p w → 
      exec (.remeasTimer p w) s = .next (((s.updPort p (fun x => { x with holdDue := x.holdDue || x.holdBad, holdBad := false })).reEnum p).walkDone p w))
  ∧ (∀ (p : Fin 24) (s : State), s.portLive p → s.isActive → (s.prt p).holdDue → s.getB (YPORT.PORT_STAT_CONV p) → 
      exec (.holdTimeWrite p) s = .next ((s.updPort p (fun x => { x with holdDue := false, holdBad := false })).ask p (.hold (s.getReg (YPORT.HOLD_CFG p))) 0 ftWRITE
      (leBytes 2 0x028 ++ [1, 0] ++ leBytes 4 (s.getN (YPORT.HOLD_CFG p)))))
  ∧ (∀ (p : Fin 24) (w : WalkResult) (s : State), s.portLive p → s.getB (YPORT.PORT_CFG_RING p) → w.farPort = false → 
      Goes (.ringBreak p w) s (fun t => t = s.locateRing p w ∧ t.getB (YPORT.PORT_STAT_BROKEN p) = true ∧ t.getB (YPORT.PORT_STAT_FAR_PORT p) = false ∧
      t.getF (YPORT.PORT_STAT_HERE p) = (located w).1.length % 64 ∧ t = { s with regs := t.regs } ∧ (∀ n, lastNode (located w).1 w = some n → t.getF (YPORT.BREAK_NEAR p) = n % 32) ∧
      ∀ k : Fin 32, ((located w).1.find? (fun (e : Nat × FoundNode) => e.1 = k)) = none → t.getB (YPORT.NODE_POS_REACH p k) = false))
  ∧ (∀ (p : Fin 24) (w : WalkResult) (s : State), s.portLive p → s.getB (YPORT.PORT_STAT_BROKEN p) → w.farPort → (s.locateRing p w).walkDiffers p w = false → 
      exec (.ringClose p w) s = .next (s.locateRing p w))
  ∧ (∀ (p : Fin 24) (w : WalkResult) (s : State), s.portLive p → s.getB (YPORT.PORT_STAT_BROKEN p) → w.farPort → (s.locateRing p w).walkDiffers p w → 
      exec (.ringClose p w) s = .next ((s.locateRing p w).reEnum p))
  ∧ (∀ (p : Fin 24) (s : State), s.powered → s.pgState (pYPORT p) ≠ psOFF → 
      GoesSet (.yoridFrameDiscarded p .symbol) s s [oneMore s (YPORT.CNT_ERR_SYM p)] ∧ GoesSet (.yoridFrameDiscarded p .malformed) s s [oneMore s (YPORT.CNT_FRM_MALF p)] ∧
    GoesSet (.yoridFrameDiscarded p .abort) s s [oneMore s (YPORT.CNT_FRM_ABORT p)] ∧ GoesSet (.yoridFrameDiscarded p .slip) s s [oneMore s (YPORT.CNT_MISC_SLIP p)])
  ∧ (∀ (p : Fin 24) (s : State), s.powered → s.pgState (pYPORT p) ≠ psOFF → (s.getF (YPORT.PORT_TMO_CRC_LIMIT p) = 0 ∨ ((s.prt p).crcAt.filter (fun t => s.dev.nowUs < t + 1000000)).length < s.getF (YPORT.PORT_TMO_CRC_LIMIT p)) → 
      GoesSet (.yoridFrameDiscarded p .crc) s (s.updPort p (fun x => { x with crcAt := s.dev.nowUs :: (s.prt p).crcAt.filter (fun t => s.dev.nowUs < t + 1000000) })) [oneMore s (YPORT.CNT_ERR_CRC p)])
  ∧ (∀ (p : Fin 24) (c : EnumCmd) (q hop : Byte) (s : State), s.portLive p → p.val < s.port.length → (s.prt p).tx.length < 14 → 
      Goes (.enumRequestAtPort p c q hop) s (fun t => t.regs = s.regs ∧ (t.prt p).tx = (s.prt p).tx ++ [24] ∧
      ∀ a, a < txEntry p (s.prt p).txNext.val ∨ txEntry p (s.prt p).txNext.val + 24 ≤ a → t.readByte a = s.readByte a))
  ∧ (∀ (p : Fin 24) (c : EnumCmd) (q hop : Byte) (s : State), s.portLive p → 14 ≤ (s.prt p).tx.length → 
      Goes (.enumRequestAtPort p c q hop) s (fun t => t.regs = s.regs ∧ t.mem = s.mem ∧ t.port = s.port))

/-- Received Yorid frames land, answer their transaction, or raise what they report (R114, R122, R160, R183, R185, 04_yorid_chains.md). -/
def Obligations.YoridFrames : Prop :=
  (∀ (p : Fin 24) (q st : Byte) (i v : Word) (ts : List Half) (o : OpenSet) (s : State), s.portLive p → s.sample.set_ = some o → q.toNat = o.ssn.toNat % 256 → s.readLe (bankAt p o.ssn) 4 = o.ssn.toNat → 
      exec (.sampleDataRx p (.conv q st i v ts)) s = .next (((s.landConv (bankAt p o.ssn) i v ts).landStat (bankAt p o.ssn) 0 st).relayUp p (some (.conv q st i v ts)) []))
  ∧ (∀ (p : Fin 24) (k : Fin 32) (q st : Byte) (f : Nat) (vs ts : List Half) (o : OpenSet) (s : State), s.portLive p → s.sample.set_ = some o → q.toNat = o.ssn.toNat % 256 → s.readLe (bankAt p o.ssn) 4 = o.ssn.toNat → k.val ≠ 0 → 
      exec (.sampleDataRx p (.monitor k q st f vs ts)) s = .next (((s.landMonitor p (bankAt p o.ssn) k f vs ts).landStat (bankAt p o.ssn) k st).relayUp p (some (.monitor k q st f vs ts)) []))
  ∧ (∀ (p : Fin 24) (q st : Byte) (i v : Word) (ts : List Half) (o : OpenSet) (s : State), s.portLive p → s.sample.set_ = some o → q.toNat ≠ o.ssn.toNat % 256 → 
      GoesSet (.sampleDataRx p (.conv q st i v ts)) s (s.relayUp p (some (.conv q st i v ts)) []) [oneMore s SAMPLE.CNT_FRM_TAG_MISS])
  ∧ (∀ (p : Fin 24) (q st : Byte) (i v : Word) (ts : List Half) (c : ClosedSet) (s : State), s.portLive p → s.sample.set_ = none → s.sample.closed = some c → q.toNat = c.ssn.toNat % 256 → 
      GoesSet (.sampleDataRx p (.conv q st i v ts)) s (s.relayUp p (some (.conv q st i v ts)) []) [oneMore s SAMPLE.CNT_FRM_LATE])
  ∧ (∀ (p : Fin 24) (f : StatusFrame) (s : State), s.portLive p → ((s.prt p).statusAt.isSome ∨ s.isActive = false ∨ s.isPair ∨ epochNewer f.epoch.toNat (s.getF (YPORT.EPOCH_TX_EPOCH p)) = false) → 
      GoesSet (.statusRx p f) s (((s.updShelf (fun x => { x with statNew := x.statNew.set p (some f) })).updPort p (fun x => { x with statusAt := some s.dev.nowUs })).relayUp p none (statusBytes f))
      [(YPORT.EPOCH_NODE0_SEEN p, f.epoch.toNat)])
  ∧ (∀ (p : Fin 24) (f : EventFrame) (s : State), s.portLive p → s.evtSeen p f.node f.seq.toNat = false → f.cls = 1 → 
      exec (.eventRx p f) s = .next (((s.takeFree.2.frameIn p f.node (s.getF (YPORT.EPOCH_NODE0_SEEN p) % 16) ftEVENT f.seq.toNat ([f.cls.toNat, f.code.toNat, f.index.toNat, 0] ++ leBytes 4 f.value.toNat) s.takeFree.1).evtMark p f.node f.seq.toNat).raise (64 + p) [1]))
  ∧ (∀ (p : Fin 24) (f : EventFrame) (s : State), s.portLive p → s.evtSeen p f.node f.seq.toNat → 
      exec (.eventRx p f) s = .next (s.takeFree.2.frameIn p f.node (s.getF (YPORT.EPOCH_NODE0_SEEN p) % 16) ftEVENT f.seq.toNat ([f.cls.toNat, f.code.toNat, f.index.toNat, 0] ++ leBytes 4 f.value.toNat) s.takeFree.1))
  ∧ (∀ (p : Fin 24) (f : NackFrame) (s : State), s.portLive p → f.refType = 4 → f.reason = 4 → 
      exec (.nackRx p f) s = .next ((((s.takeFree.2.frameIn p f.node f.epoch.toNat ftNACK f.seq.toNat [f.refType.toNat, f.refSeq.toNat, f.reason.toNat, 0] s.takeFree.1).incSat
      (YPORT.CNT_XACT_NACK p)).incSat (YPORT.NODE_ERR_NACK p f.node)).incSat (YPORT.CNT_MISC_STALE p)))
  ∧ (∀ (p : Fin 24) (f : RingFrame) (x : Xact) (s : State), s.portLive p → f.h0.toNat < 64 → f.h0.getLsbD 5 → f.h1.toNat % 16 = ftREAD → f.payload.length ≤ 96 → (s.prt p).xact = some x → x.node = f.h0.toNat % 32 → x.seq = f.seq.toNat → x.typ = ftREAD → 
      Goes (.replyRx p f) s (fun t => t.getB (YPORT.MBX_STAT_BUSY p) = false ∧ t.getF (YPORT.MBX_STAT_RESULT p) = 0 ∧ t.getF (YPORT.MBX_STAT_REASON p) = 0 ∧ (t.prt p).xact = none ∧
      ∀ i < min 23 (s.getF (YPORT.MBX_CMD_COUNT p)), t.getN (YPORT.MBX_DATA p i) = leNat (((f.payload.map BitVec.toNat).drop (4 + 4 * i)).take 4)))
  ∧ (∀ (p : Fin 24) (f : RingFrame) (w : Word) (r : OwnReq) (s : State), s.portLive p → f.h0.toNat < 64 → f.h0.getLsbD 5 → f.h1.toNat % 16 = ftWRITE_ACK → f.payload.length ≤ 96 → (s.prt p).xact = none → (s.prt p).own.find? (fun r => r.seq == some f.seq.toNat && (r.node == f.h0.toNat % 32 && answers r.typ ftWRITE_ACK)) = some r → r.use = .hold w → 
      exec (.replyRx p f) s = .next (((s.frameIn p (f.h0.toNat % 32) (f.h1.toNat / 16) ftWRITE_ACK f.seq.toNat (f.payload.map BitVec.toNat) f.arrival).ownDrop p r).ask p (.holdBack w) 0 ftREAD (readPl 0x028 1)))
  ∧ (∀ (p : Fin 24) (f : FarSetpoint) (s : State), s.portLive p → s.isPair → s.getB (YPORT.PORT_CFG_RING p) → 
      GoesSet (.farSetpointRx p f) s (s.updPair (fun x => { x with heard := x.heard.set p (some (f.cycle.toNat, f.iSet)), newerAt := if epochNewer f.epoch.toNat (s.getF RIDGE.EPOCH_EPOCH) then some s.dev.nowUs else x.newerAt })) [])
  ∧ (∀ (p : Fin 24) (q : Byte) (x : Xact) (s : State), (s.prt p).xact = some x → x.seq = q.toNat → x.tries < s.getF (YPORT.PORT_TMO_RETRIES p) → s.mayOriginate x.typ → 
      exec (.responseTimeout p q) s = .next ((s.updPort p (fun y => { y with xact := some { x with tries := x.tries + 1 } })).sendTo p x.node x.typ x.frame))
  ∧ (∀ (p : Fin 24) (q : Byte) (x : Xact) (s : State), (s.prt p).xact = some x → x.seq = q.toNat → s.getF (YPORT.PORT_TMO_RETRIES p) ≤ x.tries → x.node < 32 → 
      GoesRaise (.responseTimeout p q) s (s.updPort p (fun y => { y with xact := none })) [oneMore s (YPORT.NODE_ERR_TIMEOUT p x.node), oneMore s (YPORT.CNT_XACT_TIMEOUT p),
      (YPORT.MBX_STAT_REASON p, 0), (YPORT.MBX_STAT_RESULT p, 2), (YPORT.MBX_STAT_BUSY p, 0)] (17 + 2 * p) [x.node, 1])
  ∧ (∀ (p : Fin 24) (q : Byte) (r : OwnReq) (s : State), (s.prt p).xact = none → (s.prt p).own.find? (fun r => r.seq == some q.toNat && true) = some r → s.getF (YPORT.PORT_TMO_RETRIES p) ≤ r.tries → r.use = .config → r.node < 32 → 
      GoesRaise (.responseTimeout p q) s (s.ownDrop p r) [oneMore s (YPORT.NODE_ERR_TIMEOUT p r.node), oneMore s (YPORT.CNT_XACT_TIMEOUT p)] (17 + 2 * p) [r.node, 1])
  ∧ (∀ (p : Fin 24) (tag : Byte) (s : State), s.portLive p → s.isPair → s.getB RIDGE.PAIR_STAT_ACTIVE = false → s.getB (YPORT.PORT_CFG_RING p) → s.pgRunning pSAMPLE → (s.sample.copySeen ∨ s.sample.ssn ≠ 0) → tag.toNat = (nextSsn s.sample.ssn).toNat % 256 → 
      exec (.syncRx p tag) s = .next (s.openSet s.leadAt))

/-- Mailbox requests start, and CNT_CTRL.CLR zeroes a page's counters (R135, R146, R178, R523, R525, 17_host_and_plant_ports.md). -/
def Obligations.PortAndMailboxRequests : Prop :=
  (∀ (r : Requester) (p : Fin 24) (wr : Bool) (k : Fin 32) (n : Byte) (a : Half) (s : State), Accepts s r (YPORT.MBX_CMD p) (2 ^ 31 + wr.toNat * 2 ^ 30 + k * 2 ^ 24 + n.toNat * 2 ^ 16 + a.toNat) → s.getB (YPORT.MBX_STAT_BUSY p) = false → s.getB (YPORT.NODE_POS_PRESENT p k) → n.toNat ≤ s.maxCount → (wr = false ∨ 0x100 ≤ a.toNat) → p.val < s.port.length → 
      Goes (.mbxGo r p wr k n a) s (fun t => t.getB (YPORT.MBX_STAT_BUSY p) = true ∧ (∀ b, b < txEntry p (s.prt p).txNext.val ∨ txEntry p (s.prt p).txNext.val + 128 ≤ b → t.readByte b = s.readByte b) ∧
      ∃ x, (t.prt p).xact = some x ∧ x.node = k ∧ x.typ = (if wr then ftWRITE else ftREAD) ∧ x.seq = (s.prt p).reqSeq ∧ x.tries = 0))
  ∧ (∀ (r : Requester) (p : Fin 24) (s : State), Accepts s r (YPORT.CNT_CTRL p) 1 → 
      Goes (.yportCntClr r p) s (fun t => (∀ a ∈ [YPORT.CNT_ERR p, YPORT.CNT_FRM p, YPORT.CNT_LINK p, YPORT.CNT_XACT p, YPORT.CNT_MISC p], t.getReg a = 0) ∧
      (∀ k : Fin 32, t.getReg (YPORT.NODE_ERR p k) = 0) ∧ t = { Stored s r (YPORT.CNT_CTRL p) 1 with regs := t.regs }))
  ∧ (∀ (r : Requester) (s : State), Accepts s r SAMPLE.CNT_CTRL 1 → 
      Goes (.sampleCntClr r) s (fun t => Sets (Stored s r SAMPLE.CNT_CTRL 1) t [whole SAMPLE.CNT_FRM 0, whole SAMPLE.CNT_SET 0]))
  ∧ (∀ (r : Requester) (n : Fin 4) (s : State), Accepts s r (CAN.CNT_CTRL n) 1 → 
      Goes (.portCntClr r (.can n)) s (fun t => Sets (Stored s r (CAN.CNT_CTRL n) 1) t [whole (CAN.CNT_MISC n) 0, whole (CAN.CNT_TX n) 0, whole (CAN.CNT_RX n) 0]))
  ∧ (∀ (r : Requester) (s : State), Accepts s r T1S.CNT_CTRL 1 → 
      Goes (.portCntClr r .t1s) s (fun t => Sets (Stored s r T1S.CNT_CTRL 1) t [whole T1S.CNT_MISC 0, whole T1S.CNT_TX 0, whole T1S.CNT_RX 0]))
  ∧ (∀ (r : Requester) (s : State), Accepts s r SPI.CNT_CTRL 1 → 
      Goes (.portCntClr r .spi) s (fun t => Sets (Stored s r SPI.CNT_CTRL 1) t [whole SPI.CNT_ERR 0, whole SPI.CNT_XACT 0]))
  ∧ (∀ (r : Requester) (wr : Bool) (d : Fin 32) (c : Byte) (x : Half) (s : State), Accepts s r PMBUS.PMB_MBX (2 ^ 31 + wr.toNat * 2 ^ 30 + d * 2 ^ 24 + c.toNat * 2 ^ 16 + x.toNat) → s.getB PMBUS.PMB_MBX_STAT_BUSY = false → s.pgRunning pPMBUS → pmbCmds.contains c.toNat → 
      Goes (.pmbusMailboxGo r wr d c x) s (fun t => t.getF PMBUS.PMB_MBX_STAT_RESULT < 4 ∧ t.mem = s.mem ∧ t.shelf = s.shelf ∧ s.free < t.free))
  ∧ (∀ (r : Requester) (wr : Bool) (d : Fin 32) (c : Byte) (x : Half) (s : State), Accepts s r PMBUS.PMB_MBX (2 ^ 31 + wr.toNat * 2 ^ 30 + d * 2 ^ 24 + c.toNat * 2 ^ 16 + x.toNat) → s.getB PMBUS.PMB_MBX_STAT_BUSY = false → s.pgRunning pPMBUS → pmbCmds.contains c.toNat = false → 
      Goes (.pmbusMailboxGo r wr d c x) s (fun t => Sets (Stored s r PMBUS.PMB_MBX (2 ^ 31 + wr.toNat * 2 ^ 30 + d * 2 ^ 24 + c.toNat * 2 ^ 16 + x.toNat)) t [(PMBUS.PMB_MBX_STAT_RESULT, 4)]))

/-- Sample sets: the page starts, a set opens, samples, closes and is gathered; decimator checks (R150, R151, R153, R164, R174, R175, R203, 05_sample_sets.md). -/
def Obligations.SampleSets : Prop :=
  (∀ (s : State), s.pgRunning pSAMPLE → s.emitsSets → s.sample.nextUs = none → 
      Goes .samplePageStart s (fun t => t.sample.nextUs = some (max (s.sample.startUs + 1000 * s.getF SAMPLE.SET_CFG_PERIOD)
      (s.dev.nowUs + s.cycleUs * ((2 * s.getF SAMPLE.SET_CFG_LEAD + 3 * s.cycleUs - 1) / (3 * s.cycleUs)))) ∧
      t.getReg SAMPLE.NEXT_SSN = nextSsn s.sample.ssn ∧ TxKept s t ∧ t.shelf = s.shelf))
  ∧ (∀ (u : Nat) (s : State), s.pgRunning pSAMPLE → (s.emitsSets ∨ s.servesSegment) → s.sample.set_ = none → s.sample.nextUs = some u → 3 * u < 3 * (s.dev.nowUs + s.cycleUs) + 2 * s.getF SAMPLE.SET_CFG_LEAD → 
      exec .syncEmission s = .next (s.openSet (max u s.dev.nowUs)))
  ∧ (∀ (c : SetIn) (o : OpenSet) (s : State), s.operating → s.sample.set_ = some o → o.taken = false → o.atUs ≤ s.dev.nowUs → 
      GoesSet (.sampleInstant c) s (((s.settle setBoundary).updShelf (fun x => { x with gateAtSet := x.gate.map (fun g => g == gateOne) })).updSample (fun x => { x with
      set_ := some { o with taken := true, opsec := s.opsec % 2 ^ 32, opus := s.opus, xs := [s.setResult 0 c.x0, s.setResult 1 c.x1, s.setResult 2 c.x2, s.setResult 3 c.x3] }, lastSet := [s.setResult 0 c.x0, s.setResult 1 c.x1, s.setResult 2 c.x2, s.setResult 3 c.x3] })) [])
  ∧ (∀ (o : OpenSet) (s : State), s.operating → s.sample.set_ = some o → o.taken → o.atUs + 100 * s.getF SAMPLE.SET_CFG_CLOSE < s.dev.nowUs + s.cycleUs → s.dev.mpuRestart = false → s.dev.updatePause = false → 
      Goes .setClose s (fun t => t.sample.set_ = none ∧ t.sample.closed = some ⟨o.ssn, o.atUs, (List.range 24).map (s.setCause o), s.shelf.gateAtSet, false, false⟩ ∧
      t.shelf.pendRegs = s.shelf.pendRegs ++ s.setBlock o ((List.range 24).map (s.setCause o)) ∧ t.mem = s.mem ∧ ∀ a, a ≠ SAMPLE.CNT_SET → t.getReg a = s.getReg a))
  ∧ (∀ (c : ClosedSet) (s : State), s.sample.closed = some c → c.gathered = false → (List.range 3).all s.dmUsable → 
      Goes .setGatherComplete s (fun t => t.sample.closed = some { c with gathered := true, causes := s.skipCauses c.causes } ∧ t.regs = s.regs ∧ t.est = s.est ∧ t.shelf = s.shelf))
  ∧ (∀ (ch : Fin 4) (s : State), s.operating → s.sdmEn ch → s.stuckCh ch = false → ch.val < 3 → 
      Goes (.sdmStuck ch) s (fun t => ∃ v : State, t = v.raise 106 [ch.val] ∧ v.stuckCh ch = true ∧ v.getBit SAMPLE.SDM_STAT ch = s.getBit SAMPLE.SDM_STAT ch ∧ v.getCond 106 = true ∧ v.mem = s.mem))
  ∧ (∀ (s : State), s.operating → s.sdmEn 3 → s.stuckCh 3 = false → 
      Goes (.sdmStuck 3) s (fun t => t.stuckCh 3 = true ∧ t.getBit SAMPLE.SDM_STAT 3 = s.getBit SAMPLE.SDM_STAT 3 ∧ t.mem = s.mem ∧ t.cairn = s.cairn))
  ∧ (∀ (ch : Fin 4) (s : State), s.operating → s.stuckCh ch → 
      Goes (.sdmStuckEnd ch) s (fun t => t.stuckCh ch = false ∧ (∀ c : Fin 4, c ≠ ch → t.stuckCh c = s.stuckCh c) ∧ t.mem = s.mem ∧ t.shelf = s.shelf))
  ∧ (∀ (s : State), s.operating → s.getB SAMPLE.SDM_STAT_PLAUS_FAIL = false → 0 < s.shelf.plausBad → s.getF SAMPLE.SDM_CFG_PLAUS_N ≤ s.shelf.plausBad → 
      GoesRaise .plausFailCount s s [condOf 106, (SAMPLE.SDM_STAT_PLAUS_FAIL, 1)] 106 [0xFF])

/-- The frame mover halts and restarts; SDMA channels start, stop, complete, halt, resume, skip and abort (R188, R189, R193, R194, R197, R199, R200, 06_frame_mover_and_sdma.md). -/
def Obligations.MoverAndSdma : Prop :=
  (∀ (a : Option Word) (u : BitVec 4) (wr : Bool) (s : State), s.pgRunning pFMOVER → s.fm.berrAt = none → 
      GoesRaise (.fmoverBusError a u wr) s { s with fm := { s.fm with berrAt := some s.dev.nowUs } } [condOf 240, (FMOVER.FM_STAT_RESTARTING, s.getF FMOVER.FM_CTRL_AUTO_RESTART), (FMOVER.FM_STAT_HALTED, 1),
      (FMOVER.BERR_INFO_UNIT, u.toNat), (FMOVER.BERR_INFO_DIR, wr.toNat), whole FMOVER.BERR_ADDR (a.getD 0xFFFFFFFF), oneMore s FMOVER.FM_STAT_BERR_COUNT] 240 [])
  ∧ (∀ (a : Option Word) (u : BitVec 4) (wr : Bool) (b : Nat) (s : State), s.pgRunning pFMOVER → s.fm.berrAt = some b → s.dev.nowUs < b + 1000000 → 
      GoesRaise (.fmoverBusError a u wr) s { s with fm := { s.fm with berrAt := some s.dev.nowUs } } [condOf 240, (FMOVER.FM_STAT_RESTARTING, 0), (FMOVER.FM_STAT_HALTED, 1),
      (FMOVER.BERR_INFO_UNIT, u.toNat), (FMOVER.BERR_INFO_DIR, wr.toNat), whole FMOVER.BERR_ADDR (a.getD 0xFFFFFFFF), oneMore s FMOVER.FM_STAT_BERR_COUNT] 240 [])
  ∧ (∀ (s : State), s.getB FMOVER.FM_STAT_HALTED → s.getB FMOVER.FM_STAT_RESTARTING → 
      Goes .fmoverRestart s (fun t => t.getB FMOVER.FM_STAT_HALTED = false ∧ t.getB FMOVER.FM_STAT_RESTARTING = false ∧ t.getCond 240 = false ∧ t.shelf = s.shelf ∧
      t.fm.flushed = true ∧ ∀ n : Fin 24, (t.prt n).tx = [] ∧ (t.prt n).txNext = 0 ∧ (t.prt n).rxNext = 0))
  ∧ (∀ (c : Fin 16) (s : State), s.pgRunning pSDMA → (s.dmState c = dmIDLE ∨ s.dmState c = dmSTOPPED) → engOk (s.getN (SDMA.CH_NEXT c)) 32 → s.getN (SDMA.CH_NEXT c) % 32 = 0 → (s.desc (s.getN (SDMA.CH_NEXT c))).own → descOk (s.desc (s.getN (SDMA.CH_NEXT c))) → 
      GoesSet (.sdmaStart c) s (s.updSdma c (fun x => { x with desc := some (s.getN (SDMA.CH_NEXT c)), moved := 0, due := 0 })) [(SDMA.CH_STAT_STATE c, dmACTIVE), pageChg s pSDMA, (SDMA.CH_CMD_CMD c, 1)])
  ∧ (∀ (c : Fin 16) (s : State), s.pgRunning pSDMA → s.dmState c = dmACTIVE → 
      GoesSet (.sdmaStop c) s s [(SDMA.CH_STAT_STATE c, dmSTOPPING), pageChg s pSDMA, (SDMA.CH_CMD_CMD c, 2)])
  ∧ (∀ (c : Fin 16) (a : Nat) (s : State), (s.sdmaCh c).desc = some a → s.dmState c = dmACTIVE → (s.desc a).mode = 0 → 
      exec (.sdmaDescriptorComplete c) s = .next ((((s.writeBytes (s.desc a).dst (s.readBytes (s.desc a).src (s.desc a).len)).descEnd c a 0 (s.desc a).len).setN (SDMA.CH_DONE c)
      (s.getN (SDMA.CH_DONE c) + 1)).sdmaGoOn c (s.desc a).last false))
  ∧ (∀ (c : Fin 16) (a : Nat) (s : State), (s.sdmaCh c).desc = some a → s.dmState c = dmACTIVE → (s.desc a).mode ≠ 0 → (moveElems (s.desc a) (s.desc a).count 0 s).2 = none → 
      exec (.sdmaDescriptorComplete c) s = .next ((((moveElems (s.desc a) (s.desc a).count 0 s).1.descEnd c a 0 (s.desc a).count).setN (SDMA.CH_DONE c)
      ((moveElems (s.desc a) (s.desc a).count 0 s).1.descEnd c a 0 (s.desc a).count |>.getN (SDMA.CH_DONE c) |> (· + 1))).sdmaGoOn c (s.desc a).last false))
  ∧ (∀ (c : Fin 16) (a : Nat) (x : Word) (wr : Bool) (s : State), (s.sdmaCh c).desc = some a → (s.dmState c = dmACTIVE ∨ s.dmState c = dmSTOPPING) → a < 2 ^ 32 → 
      GoesRaise (.sdmaBusError c x wr) s ((s.movePart (s.desc a) (s.movedBefore (s.desc a) a x.toNat wr)).updSdma c (fun y => { y with
      desc := some a, moved := s.movedBefore (s.desc a) a x.toNat wr, tries := (s.berrNext c).2, due := (s.berrNext c).1 })) [condOf 241, (⟨SDMA.CH_ERR_DESC c, 0, 32⟩, a), whole (SDMA.CH_ERR_ADDR c) x, (SDMA.CH_STAT_DIR c, wr.toNat),
      (SDMA.CH_STAT_ERR_CAUSE c, 1), (SDMA.CH_STAT_STATE c, dmHALTED)] 241 [c.val])
  ∧ (∀ (c : Fin 16) (a : Nat) (s : State), s.pgRunning pSDMA → s.dmState c = dmHALTED → (s.sdmaCh c).desc = some a → engOk a 32 → a % 32 = 0 → (s.desc a).own → descOk (s.desc a) → 
      Goes (.sdmaResume c) s (fun t => t.dmState c = dmACTIVE ∧ (t.sdmaCh c).desc = some a ∧ t.getF (SDMA.CH_CMD_CMD c) = 3 ∧ t.mem = s.mem))
  ∧ (∀ (c : Fin 16) (a : Nat) (s : State), s.pgRunning pSDMA → s.dmState c = dmHALTED → (s.sdmaCh c).desc = some a → engOk a 32 → 
      exec (.sdmaSkip c) s = .next ((((((s.sdmaCmd c 4).skipNote c (s.desc a)).descEnd c a 1 (s.sdmaCh c).moved).setF (SDMA.CH_STAT_STATE c) dmSTOPPED).sdmaCond).sdmaGoOn c (s.desc a).last false))
  ∧ (∀ (c : Fin 16) (a : Nat) (s : State), s.pgRunning pSDMA → s.dmState c = dmHALTED → (s.sdmaCh c).desc = some a → engOk a 32 → 
      Goes (.sdmaAbort c) s (fun t => t.dmState c = dmSTOPPED ∧ t.getF (SDMA.CH_CMD_CMD c) = 5 ∧ t.mem = (s.descWrite a 2 (s.sdmaCh c).moved).mem ∧ t.shelf = s.shelf))

/-- The estimator processes a set once, repeats rest requests, writes capacities back and starts cells again (R311, R314, R319, R331, R334, R346, 10_state_estimation.md). -/
def Obligations.EstimatorCommands : Prop :=
  (∀ (us : Half) (c : ClosedSet) (s : State), s.sample.closed = some c → s.operating → s.pgRunning pEST → c.gathered → c.done = false → s.dev.mpuRestart = false → s.dev.updatePause = false → s.dev.late = [] → 
      exec (.estimatorSetUpdate us) s = .next ((s.estUpdate c us.toNat).svPending) ∧ (s.estUpdate c us.toNat).getReg EST.SSN_DONE = c.ssn ∧
    (s.estUpdate c us.toNat).getF EST.EST_STAT_UPD_US = us.toNat ∧ (s.estUpdate c us.toNat).sample.closed = some { c with done := true })
  ∧ (∀ (us : Half) (c : ClosedSet) (s : State), s.sample.closed = some c → s.operating → s.pgRunning pEST = false → c.gathered → c.done = false → s.dev.mpuRestart = false → s.dev.updatePause = false → s.dev.late = [] → 
      exec (.estimatorSetUpdate us) s = .next ((forAll 24 (fun s k => (s.estCells c k).1) s).updSample (fun x => { x with closed := some { c with done := true } })))
  ∧ (∀ (k : Fin 24) (s : State), s.operating → s.pgRunning pEST → s.getB EST.EST_CFG_REST_REQ_EN → s.est.length = 24 → s.getBit EST.UNANCH k → 1000000 * s.getF EST.EST_CFG_REST_REQ_S ≤ s.dev.nowUs - (s.estOf k).restReqAt → s.dev.late = [] → 
      Goes .restReqRepeat s (fun t => (t.estOf k).restReqAt = s.dev.nowUs ∧ t.mem = s.mem ∧ t.shelf = s.shelf))
  ∧ (∀ (k : Fin 24) (s : State), s.operating → s.getB (ESTSTR.WB_STAT_PENDING k) → s.nvOk → (s.estOf k).wbAt = none → s.getB DEV.MODE_STAT_DESCENT = false → s.est.length = 24 → s.dev.late = [] → 
      Goes (.capacityWriteBack k) s (fun t => (t.estOf k).wbAt = some s.dev.nowUs ∧ t.mem = s.mem ∧ ∃ w ∈ t.ps.queue, w.id = 0x0400 + k ∧ w.payload = capPayload (s.estOf k)))
  ∧ (∀ (k : Fin 24) (u : Nat) (s : State), s.operating → s.getB (ESTSTR.WB_STAT_PENDING k) → s.nvOk → (s.estOf k).wbAt = some u → 1000000 * s.getF EST.WB_WB_MIN_S ≤ s.dev.nowUs - u → s.getB DEV.MODE_STAT_DESCENT = false → s.est.length = 24 → s.dev.late = [] → 
      Goes (.capacityWriteBack k) s (fun t => (t.estOf k).wbAt = some s.dev.nowUs ∧ t.mem = s.mem ∧ ∃ w ∈ t.ps.queue, w.id = 0x0400 + k ∧ w.payload = capPayload (s.estOf k)))
  ∧ (∀ (p : Fin 24) (k : Fin 32) (u : BitVec 64) (s : State), s.powered → s.portOn p → k.val ≠ 0 → 
      Goes (.moduleUidChanged p k u) s (fun t => t.nodeUid p k = u.toNat ∧ t.getB (ESTSTR.WB_STAT_PENDING p) = true ∧ t.mem = s.mem ∧ t.shelf = s.shelf))
  ∧ (∀ (r : Requester) (k : Fin 24) (m : Fin 32) (s : State), Accepts s r (ESTSTR.CMD k) (2 ^ 31 + m) → 
      exec (.eststrReinit r k m) s = .next ((Stored s r (ESTSTR.CMD k) (2 ^ 31 + m)).estInit k ((Stored s r (ESTSTR.CMD k) (2 ^ 31 + m)).estSelected k)) ∧
    (Stored s r (ESTSTR.CMD k) (2 ^ 31 + m)).getF (ESTSTR.CMD_MODULE k) = m)
  ∧ (∀ (r : Requester) (k : Fin 24) (m : Fin 32) (s : State), Accepts s r (ESTSTR.CMD k) (2 ^ 30 + m) → 
      exec (.eststrResetCap r k m) s = .next ((Stored s r (ESTSTR.CMD k) (2 ^ 30 + m)).resetCells k m))
  ∧ (∀ (r : Requester) (w : Word) (s : State), Accepts s r ESTWIN.WIN_SEL w.toNat → 
      exec (.estwinSelect r w) s = .next ((Stored s r ESTWIN.WIN_SEL w.toNat).later (Stored s r ESTWIN.WIN_SEL w.toNat).winRegs))

/-- A survey of a string starts, takes its samples, ends its window, is blocked and leaves its gap (R336, R337, R339, 10_state_estimation.md). -/
def Obligations.SurveyMoves : Prop :=
  (∀ (k : Fin 24) (m : Nat) (s : State), s.operating → s.getF (SURVEY.SV_STR_STATE k) = svIDLE → s.svNext k 0 = some m → s.svBlocked k = false → s.isActive = false → s.dev.late = [] → 
      GoesSet (.surveyPrerollStart k) s (s.updEst k (fun e => { e with win := [], staged := [], opened := false, armed := none, batchDue := false, endDue := false, passAt := m, retry := [], openAt := ((s.tagAfter (s.dev.nowUs + 1000 * s.getF SURVEY.PREROLL_MS)).2) })) [(SURVEY.SV_STR_MODULE k, m), (SURVEY.SV_STR_STATE k, svPREROLL)])
  ∧ (∀ (k : Fin 24) (m : Nat) (s : State), s.operating → s.getF (SURVEY.SV_STR_STATE k) = svIDLE → s.svNext k 0 = some m → s.svBlocked k = false → s.isActive → s.shelf.exc.length = 24 → s.est.length = 24 → s.dev.late = [] → 
      Goes (.surveyPrerollStart k) s (fun t => t.getF (SURVEY.SV_STR_STATE k) = svPREROLL ∧ t.getF (SURVEY.SV_STR_MODULE k) = m ∧ t.shelf.exc.getD k none = some (s.dev.nowUs, none) ∧
      (t.estOf k).openAt = ((s.tagAfter (s.dev.nowUs + 1000 * s.getF SURVEY.PREROLL_MS)).2) ∧ (t.estOf k).win = [] ∧ TxKept s t))
  ∧ (∀ (k : Fin 24) (s : State), s.operating → s.getF (SURVEY.SV_STR_STATE k) = svBLOCKED → s.getF (SURVEY.SV_STR_MODULE k) ≠ 0 → s.svBlocked k = false → s.isActive → s.est.length = 24 → s.dev.late = [] → 
      Goes (.surveyPrerollStart k) s (fun t => t.getF (SURVEY.SV_STR_STATE k) = svPREROLL ∧ t.getF (SURVEY.SV_STR_MODULE k) = s.getF (SURVEY.SV_STR_MODULE k) ∧
      (t.estOf k).openAt = ((s.tagAfter (s.dev.nowUs + 1000 * s.getF SURVEY.PREROLL_MS)).2) ∧ (t.estOf k).win = [] ∧ TxKept s t))
  ∧ (∀ (k : Fin 24) (s : State), s.operating → s.pgRunning pEST → s.getF (SURVEY.SV_STR_STATE k) = svPREROLL → s.pgRunning pSURVEY → s.svFree → s.est.length = 24 → (s.estOf k).endDue = false → (s.estOf k).opened = false → ((s.estOf k).staged.filter (fun x => (x.node == s.getF (SURVEY.SV_STR_MODULE k) || x.node == 0) && !(s.estOf k).win.any (fun y => y.node == x.node && y.idx == x.idx))) ≠ [] → s.dev.late = [] → 
      Goes (.surveyBatch k) s (fun t => t = s.svBatch k ∧ t.getF (SURVEY.SV_STR_STATE k) = svWINDOW ∧ (t.estOf k).opened = true ∧ (t.estOf k).win = (s.estOf k).win ++ ((s.estOf k).staged.filter (fun x => (x.node == s.getF (SURVEY.SV_STR_MODULE k) || x.node == 0) && !(s.estOf k).win.any (fun y => y.node == x.node && y.idx == x.idx)))))
  ∧ (∀ (k : Fin 24) (s : State), s.operating → s.pgRunning pEST → s.getF (SURVEY.SV_STR_STATE k) = svWINDOW → s.svFree = false → s.dev.late = [] → 
      GoesSet (.surveyBatch k) s (s.updEst k (fun e => { e with batchDue := true })) [])
  ∧ (∀ (k : Fin 24) (s : State), s.operating → s.pgRunning pEST → (s.getF (SURVEY.SV_STR_STATE k) = svWINDOW ∨ s.getF (SURVEY.SV_STR_STATE k) = svPREROLL) → (s.estOf k).openAt + 4000000 ≤ s.dev.nowUs → s.svFree → s.svReason k = 0 → s.dev.late = [] → 
      exec (.surveyWindowEnd k) s = .next ((((s.setF (SURVEY.SV_STR_STATE k) svWINDOW).updEst k (fun e => { e with endDue := false })).svStore k).svAdvance k))
  ∧ (∀ (k : Fin 24) (s : State), s.operating → s.pgRunning pEST → (s.getF (SURVEY.SV_STR_STATE k) = svWINDOW ∨ s.getF (SURVEY.SV_STR_STATE k) = svPREROLL) → (s.estOf k).openAt + 4000000 ≤ s.dev.nowUs → s.svFree → s.svReason k ≠ 0 → s.dev.late = [] → 
      exec (.surveyWindowEnd k) s = .next (((((s.setF (SURVEY.SV_STR_STATE k) svWINDOW).updEst k (fun e => { e with endDue := false })).svDiscard k (s.svReason k)).updEst k (fun e => { e with retry := e.retry ++ [s.getF (SURVEY.SV_STR_MODULE k)] })).svAdvance k))
  ∧ (∀ (k : Fin 24) (s : State), s.operating → s.pgRunning pEST → s.getF (SURVEY.SV_STR_STATE k) = svWINDOW → (s.estOf k).openAt + 4000000 ≤ s.dev.nowUs → s.svFree = false → s.dev.late = [] → 
      GoesSet (.surveyWindowEnd k) s (s.updEst k (fun e => { e with endDue := true })) [])
  ∧ (∀ (k : Fin 24) (s : State), s.powered → (s.getF (SURVEY.SV_STR_STATE k) = svPREROLL ∨ s.getF (SURVEY.SV_STR_STATE k) = svWINDOW) → s.svBlocked k → s.dev.late = [] → 
      exec (.surveyBlocked k) s = .next ((((s.setF (SURVEY.SV_STR_STATE k) svBLOCKED).svQuiet k).svDiscard k 6).svReset k))
  ∧ (∀ (k : Fin 24) (s : State), s.powered → s.getF (SURVEY.SV_STR_STATE k) = svGAP → (s.estOf k).gapUntil ≤ s.dev.nowUs → 
      GoesSet (.surveyGapEnd k) s s [(SURVEY.SV_STR_STATE k, svIDLE)])

/-- A rail starts, regulates and stops through its states (R228, R359, R360, 11_local_rails.md). -/
def Obligations.RailStates : Prop :=
  (∀ (r : Fin 8) (s : State), s.railLive r → s.railOnReq r → s.railState r = rlOFF → (s.getB (RAIL.RAIL_CFG_TBSEL r) ∨ s.pgRunning pRSYNC) → 
      GoesSet (.railOnRequest r) s (s.railLevel r .mid) [(RAIL.RAIL_STAT_STATE r, rlPREBIAS)])
  ∧ (∀ (r : Fin 8) (s : State), s.railLive r → s.railOnReq r → s.railState r = rlSOFT_STOP → 
      GoesSet (.railOnRequest r) s s [(RAIL.RAIL_STAT_STATE r, rlSOFT_START)])
  ∧ (∀ (r : Fin 8) (v : Nat) (s : State), s.railLive r → s.railState r = rlPREBIAS → v < 57500 → v * 10 ^ 8 ≤ s.ovPv r (s.vrefPv r) → s.rail.length = 8 → 
      Goes (.railPrebiasDone r v) s (fun t => t.railState r = rlSOFT_START ∧ (t.rail_ r).ramp = max (v * 10 ^ 8) (5 * 10 ^ 10) ∧ (t.rail_ r).drop = 0 ∧ (t.rail_ r).vSense = v ∧
      t.getReg (RAIL.VREF_EFF r) = pvWord (max (v * 10 ^ 8) (5 * 10 ^ 10)) ∧ t.getB (RAIL.RAIL_STAT_VLOC_IN_USE r) = false ∧ t.mem = s.mem))
  ∧ (∀ (r : Fin 8) (v : Nat) (s : State), s.railLive r → s.railState r = rlPREBIAS → 57500 ≤ v → s.getB (RAIL.RAIL_CFG_VLOC_EN r) = false → 
      exec (.railPrebiasDone r v) s = .next (((s.railFaultOff r .mid).raise (136 + r) []).railRaise r 6))
  ∧ (∀ (r : Fin 8) (s : State), s.railLive r → s.railState r = rlSOFT_START → s.vrefPv r ≤ s.vrefEffPv r → 
      GoesSet (.softStartEnd r) s s [(RAIL.RAIL_STAT_STATE r, rlREGULATING)])
  ∧ (∀ (r : Fin 8) (s : State), s.railOnReq r = false → s.railState r = rlREGULATING → s.getB (RAIL.RAIL_CFG_OFF_FAST r) = false → 
      exec (.railOnWithdrawn r) s = .next ((((s.railCnFault r).setF (RAIL.RAIL_STAT_PG r) 0).setF (RAIL.RAIL_STAT_STATE r) rlSOFT_STOP).checkFill))
  ∧ (∀ (r : Fin 8) (s : State), s.railOnReq r = false → (s.railState r = rlSOFT_START ∨ s.railState r = rlREGULATING) → s.getB (RAIL.RAIL_CFG_OFF_FAST r) → 
      exec (.railOnWithdrawn r) s = .next ((s.railToOff r).checkFill))
  ∧ (∀ (r : Fin 8) (s : State), s.railOnReq r = false → (s.railState r = rlPREBIAS ∨ s.railState r = rlFAULT_OFF) → 
      Goes (.railOnWithdrawn r) s (fun t => t.railState r = rlOFF ∧ t.getReg (RAIL.VREF_EFF r) = 0 ∧ t.getB (RAIL.RAIL_STAT_PG r) = false ∧ t.shelf = s.shelf ∧ t.mem = s.mem))
  ∧ (∀ (r : Fin 8) (s : State), s.railLive r → s.railState r = rlSOFT_STOP → (s.vrefEffPv r ≤ 5 * 10 ^ 10 ∨ s.getB (RAIL.RAIL_CFG_OFF_FAST r)) → 
      Goes (.softStopEnd r) s (fun t => t.railState r = rlOFF ∧ t.getReg (RAIL.VREF_EFF r) = 0 ∧ t.getB (RAIL.RAIL_STAT_PG r) = false ∧ t.shelf = s.shelf ∧ t.mem = s.mem))
  ∧ (∀ (r : Fin 8) (s : State), s.railState r = rlREGULATING → 16 ≤ (s.rail_ r).pgRun → 
      GoesSet (.railPowerGood r) s s [(RAIL.RAIL_STAT_PG r, 1)])
  ∧ (∀ (r : Fin 8) (x : RailSample) (s : State), s.railLive r → s.railSwitching r → 
      exec (.railPeriod r x) s = .next (s.railPeriod r x))
  ∧ (∀ (r : Fin 8) (x : RailSample) (s : State), s.railLive r → s.railState r = rlFAULT_OFF → x.vSense * 10 ^ 8 < s.vrefEffPv r → 
      exec (.railPeriod r x) s = .next (s.railLevel r .mid))

/-- A rail's protections switch it off or report, and its phases are shed, fenced or taken out of sensing (R360, R361, R363, R364, R366, R369, R370, R372, R373, R374, 11_local_rails.md). -/
def Obligations.RailProtections : Prop :=
  (∀ (r : Fin 8) (s : State), s.railState r = rlREGULATING → 0 < (s.rail_ r).uvRun → (s.rail_ r).uvTold = false → s.railLasts r (s.rail_ r).uvRun (s.getF (RAIL.PROT_UV_US r) * 10) → 
      GoesRaise (.railUvTimer r) s (s.updRail r (fun x => { x with uvTold := true })) [(RAIL.RAIL_STAT_LAST_REASON r, 2)] (128 + r) (s.railData r 2))
  ∧ (∀ (r : Fin 8) (s : State), s.railSwitching r → 0 < (s.rail_ r).cycRun → s.getF (RAIL.OC_OC_N r) ≤ (s.rail_ r).cycRun → 
      GoesRaise (.cycleLimitPersist r) s (s.updRail r (fun x => { x with cycRun := 0 })) [(RAIL.RAIL_STAT_LAST_REASON r, 3)] (128 + r) (s.railData r 3))
  ∧ (∀ (r : Fin 8) (s : State), s.railSwitching r → 0 < (s.rail_ r).clRun → (s.rail_ r).clTold = false → s.railLasts r (s.rail_ r).clRun (s.getF (RAIL.OC_OVL_US r)) → 
      GoesRaise (.railLimitPersist r) s (s.updRail r (fun x => { x with clTold := true })) [(RAIL.RAIL_STAT_LAST_REASON r, 4)] (128 + r) (s.railData r 4))
  ∧ (∀ (r : Fin 8) (s : State), s.railLive r → s.railSwitching r → s.getB (RAIL.RAIL_CFG_VLOC_EN r) → 
      exec (.railOv r) s = .next ((s.railFaultOff r (s.ovLevel r)).railRaise r 1))
  ∧ (∀ (r : Fin 8) (s : State), s.railLive r → s.railSwitching r → s.getB (RAIL.RAIL_CFG_VLOC_EN r) = false → 
      exec (.railOv r) s = .next ((s.railFaultOff r (s.ovLevel r)).updRail r (fun x => { x with ovHeld := true })))
  ∧ (∀ (r : Fin 8) (s : State), (s.rail_ r).ovHeld → 
      GoesRaise (.ovReportHoldExpiry r) s (s.updRail r (fun x => { x with ovHeld := false })) [(RAIL.RAIL_STAT_LAST_REASON r, 1)] (128 + r) (s.railData r 1))
  ∧ (∀ (r : Fin 8) (v : Nat) (s : State), s.railLive r → s.railSwitching r → s.getB (RAIL.RAIL_CFG_VLOC_EN r) → v * 10 ^ 8 ≤ s.ovPv r (s.vrefEffPv r) → 
      exec (.senseOpenDetect r v) s = .next ((s.raise (136 + r) []).setF (RAIL.RAIL_STAT_VLOC_IN_USE r) 1))
  ∧ (∀ (r : Fin 8) (v : Nat) (s : State), s.railLive r → s.railSwitching r → s.getB (RAIL.RAIL_CFG_VLOC_EN r) = false → 
      exec (.senseOpenDetect r v) s = .next (((s.raise (136 + r) []).railFaultOff r .mid).railRaise r 6))
  ∧ (∀ (r : Fin 8) (v : Nat) (s : State), s.railLive r → s.railState r = rlFAULT_OFF → (s.rail_ r).ovHeld → 
      exec (.senseOpenDetect r v) s = .next ((((s.raise (136 + r) []).updRail r (fun x => { x with ovHeld := false })).railLevel r .mid).railRaise r 6))
  ∧ (∀ (r : Fin 8) (p : Nat) (s : State), s.railSwitching r → (s.rail_ r).shed = none → 0 < (s.rail_ r).shedRun → s.railLasts r (s.rail_ r).shedRun (1000 * s.getF (RAIL.SHED_CFG_HOLDOFF_MS r)) → (s.phIn r phACTIVE).getLast? = some p → 
      exec (.phaseShedStart r) s = .next (((s.setPhase p phSHEDDING).updRail r (fun x => { x with shed := some (p, 0) })).railCounts r))
  ∧ (∀ (r : Fin 8) (p k : Nat) (s : State), (s.rail_ r).shed = some (p, k) → 8 ≤ k → 
      exec (.phaseShedComplete r) s = .next (((((s.setPhase p phSHED).updPhase p (fun z => { z with pwm := .mid, shadow := .mid })).updRail r (fun x => { x with shed := none, shedRun := 0 })).incSat (RAIL.CNT_SHEDS r)).railCounts r))
  ∧ (∀ (p : Fin 16) (s : State), s.phState p = phACTIVE → 16 ≤ (s.phase_ p).openRun → 
      Goes (.phaseOpen p) s (fun t => ∃ u, u = ((s.fencePhase p).setF (PHASE.PH_STAT_REASON p) 1).raise (112 + p) (s.phaseData p 1) ∧ (u.mode = mRUN → t = u.setMode mDEGRADED) ∧ (u.mode ≠ mRUN → t = u)))
  ∧ (∀ (p : Fin 16) (s : State), (s.phState p = phACTIVE ∨ s.phState p = phSHEDDING) → s.railOf p = none → 
      exec (.phaseSenseFail p .range) s = .next (((s.setPhase p phSENSE_FAILED).setF (PHASE.PH_STAT_REASON p) 3).raise (112 + p) (s.phaseData p 3)))
  ∧ (∀ (p : Fin 16) (r : Nat) (s : State), (s.phState p = phACTIVE ∨ s.phState p = phSHEDDING) → s.railOf p = some r → 
      exec (.phaseSenseFail p .range) s = .next (((((s.setPhase p phSENSE_FAILED).updRail r (fun z => { z with shed := if (z.shed.map Prod.fst) = some p.val then none else z.shed })).railCounts r).setF
      (PHASE.PH_STAT_REASON p) 3).raise (112 + p) (s.phaseData p 3)))
  ∧ (∀ (q : Requester) (r : Fin 8) (n : BitVec 5) (w : Half) (s : State), Accepts s q (RAIL.PREP r) (2 ^ 31 + n.toNat * 2 ^ 16 + w.toNat) → s.railState r = rlREGULATING → s.getB (RAIL.RAIL_STAT_PG r) → s.getB (RAIL.RAIL_STAT_CN_OPEN r) = false → (s.rail_ r).cnPend = false → F32.isFinite (s.getReg (RAIL.PREP_I r)) → F32.lt 0 (s.getReg (RAIL.PREP_I r)) → F32.isFinite (s.getReg (RAIL.PREP_FF r)) → 
      Goes (.railPrepGo q r n w) s (fun t => Sets ((Stored s q (RAIL.PREP r) (2 ^ 31 + n.toNat * 2 ^ 16 + w.toNat)).updRail r (fun x => { x with cnPend := true })) t [(RAIL.RAIL_STAT_CN_REFUSED r, 0)]))
  ∧ (∀ (r : Fin 8) (s : State), s.getB (RAIL.RAIL_STAT_CN_OPEN r) → (s.rail_ r).cnDown = 0 → s.railLasts r (s.rail_ r).cnAge (s.getF (RAIL.PREP_WIN_US r)) → 
      GoesSet (.railCorniceWindowEnd r) s (s.updRail r (fun x => { x with cnDown := 8, cnFrom := s.getReg (RAIL.CN_FF r), shedRun := 0 })) [(RAIL.CN_STAT_OUTCOME r, ocMISS), oneMore s (RAIL.CN_STAT_MISS r)])

/-- The rail timebase locks to its input, loses it and glides back; the NTC inputs are measured (R350, R351, R562, 11_local_rails.md). -/
def Obligations.TimebaseAndTemperature : Prop :=
  (∀ (per : Nat) (err : Int) (s : State), s.operating → s.pgRunning pRSYNC → s.getB RSYNC.TB_CFG_SYNC_EN → 500 ≤ per → per ≤ 10000 → (max (10 ^ 6) (s.getF RSYNC.TB_CFG_TB_KHZ * per) - min (10 ^ 6) (s.getF RSYNC.TB_CFG_TB_KHZ * per)) * 10 ≤ s.getF RSYNC.TB_CFG_TB_KHZ * per → s.tb.accepted < 15 → 
      GoesSet (.syncInEdge per err) s { s with tb := { s.tb with accepted := s.tb.accepted + 1 } } [])
  ∧ (∀ (per : Nat) (err : Int) (s : State), s.operating → s.pgRunning pRSYNC → s.getB RSYNC.TB_CFG_SYNC_EN → (per < 500 ∨ 10000 < per) → 
      GoesSet (.syncInEdge per err) s { s with tb := { s.tb with accepted := 0 } } [])
  ∧ (∀ (s : State), s.operating → s.pgRunning pRSYNC → (s.getF RSYNC.TB_STAT_STATE = 1 ∨ s.getF RSYNC.TB_STAT_STATE = 2) → 
      GoesSet .syncInLoss s { s with tb := { s.tb with accepted := 0, inLock := 0 } } [(RSYNC.TB_STAT_STATE, 3), oneMore s RSYNC.SYNC_CNT_LOSSES])
  ∧ (∀ (s : State), s.getF RSYNC.TB_STAT_STATE = 3 → max s.tb.freqHz (1000 * s.getF RSYNC.TB_CFG_TB_KHZ) - min s.tb.freqHz (1000 * s.getF RSYNC.TB_CFG_TB_KHZ) ≤ s.glideStep s.cycleUs → 
      GoesSet .glideEnd s { s with tb := { s.tb with freqHz := 1000 * s.getF RSYNC.TB_CFG_TB_KHZ } } [(RSYNC.TB_STAT_STATE, 0), (RSYNC.TB_STAT_FREQ_KHZ, s.getF RSYNC.TB_CFG_TB_KHZ)])
  ∧ (∀ (l : List (BitVec 12)) (s : State), s.powered → s.dev.regionDown.contains .rail = false → 
      Goes (.ntcMeasurement l) s (fun t => t = { s with regs := t.regs } ∧ (∀ n : Fin 8, t.getN (CLKPWR.NTC n) = ntcWord (l.getD n 0).toNat) ∧ ∀ a, (∀ n : Fin 8, a ≠ CLKPWR.NTC n) → t.getReg a = s.getReg a))

/-- An e-fuse channel measures, turns on and off, and retries through its states (R382, R386, R389, R390, 12_efuse_channels.md). -/
def Obligations.EfuseSwitching : Prop :=
  (∀ (c : Fin 8) (x : EfuseSample) (i p : Word) (s : State), s.efLive c → s.ef.length = 8 → i = F32.div (F32.ofQ (signedOf 14 x.shunt.toNat < 0) ((signedOf 14 x.shunt.toNat).natAbs * 50) (8192 * 1000)) (s.getReg (EFUSE.R_SENSE c)) → p = F32.mul (F32.ofQ false (x.vOut.toNat * 80) 4096) i → 
      Goes (.efuseConversion c x) s (fun t => t.getReg (EFUSE.I c) = i ∧ t.getReg (EFUSE.P_OUT c) = p ∧ t.getReg (EFUSE.V_IN c) = F32.ofQ false (x.vIn.toNat * 80) 4096 ∧
      t.getReg (EFUSE.V_OUT c) = F32.ofQ false (x.vOut.toNat * 80) 4096 ∧ t.getReg (EFUSE.V_GS c) = x.vGs ∧ t.getB (EFUSE.EF_STAT_LIMITING c) = (s.efState c == efINRUSH && x.limiting) ∧
      t = { s with regs := t.regs, ef := t.ef } ∧
      ((t.efSt c).frac + 100 * 2 ^ 149 * (t.getN (EFUSE.ENERGY_LO c) + 2 ^ 32 * t.getN (EFUSE.ENERGY_HI c))) % (100 * 2 ^ 149 * 2 ^ 64) =
        ((s.efSt c).frac + (if F32.isFinite p ∧ F32.lt 0 p then (F32.scaled p).toNat else 0) + 100 * 2 ^ 149 * (s.getN (EFUSE.ENERGY_LO c) + 2 ^ 32 * s.getN (EFUSE.ENERGY_HI c))) % (100 * 2 ^ 149 * 2 ^ 64) ∧
      (∀ a, a ≠ EFUSE.I c → a ≠ EFUSE.P_OUT c → a ≠ EFUSE.V_IN c → a ≠ EFUSE.V_OUT c → a ≠ EFUSE.V_GS c → a ≠ EFUSE.ENERGY_LO c → a ≠ EFUSE.ENERGY_HI c →
        a ≠ (EFUSE.EF_STAT_LIMITING c).addr → t.getReg a = s.getReg a) ∧
      ∀ d : Fin 8, d ≠ c → t.efSt d = s.efSt d))
  ∧ (∀ (c : Fin 8) (s : State), s.efLive c → s.efState c = efOFF → s.efOnReq c → 
      GoesSet (.efuseOnRequest c) s (efQuiet s c .none) (efFields c efINRUSH))
  ∧ (∀ (c : Fin 8) (s : State), s.efOnReq c = false → (s.efState c = efINRUSH ∨ s.efState c = efON ∨ s.efState c = efRETRY_WAIT ∨ s.efState c = efLATCHED ∨ (s.efState c = efTRIPPED ∧ F32.lt (s.getReg (EFUSE.V_GS c)) 0x3F800000)) → 
      GoesSet (.efuseOnWithdrawn c) s (efQuiet s c .normal) ((EFUSE.EF_STAT_RETRIES c, 0) :: efFields c efOFF))
  ∧ (∀ (c : Fin 8) (s : State), s.efLive c → s.efState c = efINRUSH → (F32.le (F32.sub (s.getReg (EFUSE.V_IN c)) (s.getReg (EFUSE.V_OUT c))) 0x3E800000 ∨ (s.efSt c).ig50) → F32.le 0x41200000 (s.getReg (EFUSE.V_GS c)) → 
      GoesSet (.efuseOnReached c) s (efQuiet s c .none) (efFields c efON))
  ∧ (∀ (c : Fin 8) (s : State), s.efLive c → s.efState c = efINRUSH → F32.le (F32.sub (s.getReg (EFUSE.V_IN c)) (s.getReg (EFUSE.V_OUT c))) 0x3E800000 → F32.le 0x41200000 (s.getReg (EFUSE.V_GS c)) = false → 
      GoesSet (.efuseOnReached c) s (s.updEf c (fun x => { x with ig50 := true })) [])
  ∧ (∀ (c : Fin 8) (s : State), s.efLive c → s.efState c = efON → 100000 ≤ (s.efSt c).ticks → 
      GoesSet (.efuseOnOneSecond c) s s [(EFUSE.EF_STAT_RETRIES c, 0)])
  ∧ (∀ (c : Fin 8) (s : State), s.efLive c → s.efState c = efTRIPPED → s.efOnReq c = false → 
      GoesSet (.efuseGateDischarged c) s (efQuiet s c .normal) ((EFUSE.EF_STAT_RETRIES c, 0) :: efFields c efOFF))
  ∧ (∀ (c : Fin 8) (s : State), s.efLive c → s.efState c = efTRIPPED → s.efOnReq c → s.getF (EFUSE.EF_STAT_RETRIES c) < s.getF (EFUSE.EF_CFG_RETRY_MAX c) → 
      GoesSet (.efuseGateDischarged c) s (efQuiet s c .hold) ((EFUSE.EF_STAT_RETRIES c, s.getF (EFUSE.EF_STAT_RETRIES c) + 1) :: efFields c efRETRY_WAIT))
  ∧ (∀ (c : Fin 8) (s : State), s.efLive c → s.efState c = efTRIPPED → s.efOnReq c → s.getF (EFUSE.EF_CFG_RETRY_MAX c) ≤ s.getF (EFUSE.EF_STAT_RETRIES c) → 
      GoesRaise (.efuseGateDischarged c) s (efQuiet s c .hold) ((EFUSE.EF_STAT_LAST_REASON c, 6) :: efFields c efLATCHED) (144 + c) (s.efData c 6))
  ∧ (∀ (c : Fin 8) (s : State), s.efLive c → s.efState c = efRETRY_WAIT → 100 * s.getF (EFUSE.TIMES_RETRY_DELAY c) ≤ (s.efSt c).ticks → 
      GoesSet (.retryDelayExpiry c) s (efQuiet s c .none) (efFields c efINRUSH))
  ∧ (∀ (r : Requester) (c : Fin 8) (v : Nat) (s : State), v = s.getN (EFUSE.EF_CTRL c) % 2 + 2 → Accepts s r (EFUSE.EF_CTRL c) v → s.efState c = efLATCHED → 
      GoesSet (.latchClr r c) s (efQuiet (Stored s r (EFUSE.EF_CTRL c) v) c .normal) ((EFUSE.EF_STAT_RETRIES c, 0) :: efFields c efOFF))
  ∧ (∀ (r : Requester) (c : Fin 8) (v : Nat) (s u : State), v = s.getN (EFUSE.EF_CTRL c) % 2 + 4 → Accepts s r (EFUSE.EF_CTRL c) v → s.efState c = efGATE_FAULT → s.mode = mSERVICE → u = (Stored s r (EFUSE.EF_CTRL c) v).updEf c (fun x => { x with gateFault := false }) → 
      GoesSet (.gfClr r c) s (efQuiet (u.psQueue (0x0300 + c) (u.efRecord c)) c .hold) (efFields c efOFF))

/-- An e-fuse channel's protections trip it with their reason, or latch its gate fault (R387, R388, R389, R486, 12_efuse_channels.md). -/
def Obligations.EfuseProtections : Prop :=
  (∀ (c : Fin 8) (s : State), s.efLive c → s.efDriven c → 
      GoesRaise (.efuseShortCircuit c) s (efQuiet s c .fast) ([oneMore s (EFUSE.EF_CNT_SC_TRIPS c), oneMore s (EFUSE.EF_CNT_TRIPS c), (EFUSE.EF_STAT_LAST_REASON c, 2)] ++ efFields c efTRIPPED)
      (144 + c) (s.efData c 2))
  ∧ (∀ (s : State), 
      exec .efuseHvRefLost s = .next (forAll 8 (fun s c => if s.efLive c ∧ s.efDriven c then s.efTrip c 7 .fast else s) s))
  ∧ (∀ (c : Fin 8) (s : State), s.efLive c → s.efDriven c → (∀ d : Fin 8, d ≠ c → s.efDriven d = false) → 
      GoesRaise .efuseHvRefLost s (efQuiet s c .fast) ([oneMore s (EFUSE.EF_CNT_TRIPS c), (EFUSE.EF_STAT_LAST_REASON c, 7)] ++ efFields c efTRIPPED) (144 + c) (s.efData c 7))
  ∧ (∀ (c : Fin 8) (s : State), s.efLive c → s.efState c = efON → s.getF (EFUSE.ILIM_DLY_US c) ≤ 10 * (s.efSt c).ilimTicks → 
      GoesRaise (.efuseBreaker c) s (efQuiet s c .normal) ([oneMore s (EFUSE.EF_CNT_TRIPS c), (EFUSE.EF_STAT_LAST_REASON c, 1)] ++ efFields c efTRIPPED) (144 + c) (s.efData c 1))
  ∧ (∀ (c : Fin 8) (s : State), s.efLive c → s.efState c = efINRUSH → 10 * s.getF (EFUSE.TLIM_T c) ≤ (s.efSt c).limTicks → 
      GoesRaise (.inrushTlimExpiry c) s (efQuiet s c .normal) ([oneMore s (EFUSE.EF_CNT_TRIPS c), (EFUSE.EF_STAT_LAST_REASON c, 3)] ++ efFields c efTRIPPED) (144 + c) (s.efData c 3))
  ∧ (∀ (c : Fin 8) (s : State), s.efLive c → s.efState c = efINRUSH → 100 * s.getF (EFUSE.INRUSH_TMAX_MS c) ≤ (s.efSt c).ticks → 
      GoesRaise (.inrushTmaxExpiry c) s (efQuiet s c .normal) ([oneMore s (EFUSE.EF_CNT_TRIPS c), (EFUSE.EF_STAT_LAST_REASON c, 4)] ++ efFields c efTRIPPED) (144 + c) (s.efData c 4))
  ∧ (∀ (c : Fin 8) (s u : State), s.efLive c → s.efState c = efINRUSH → (s.efSt c).checked = false → 10 * s.getF (EFUSE.TIMES_T_GATE_CHK c) ≤ (s.efSt c).ticks → F32.lt (s.getReg (EFUSE.V_GS c)) 0x40600000 → u = ((s.setF (EFUSE.EF_STAT_LAST_REASON c) 5).updEf c (fun x => { x with gateFault := true })).efGo c efGATE_FAULT .normal → 
      exec (.gateCheckTimer c) s = .next ((u.psQueue (0x0300 + c) (u.efRecord c)).raise (144 + c) (s.efData c 5)))
  ∧ (∀ (c : Fin 8) (s : State), s.efLive c → s.efState c = efINRUSH → (s.efSt c).checked = false → 10 * s.getF (EFUSE.TIMES_T_GATE_CHK c) ≤ (s.efSt c).ticks → F32.lt (s.getReg (EFUSE.V_GS c)) 0x40600000 = false → 
      GoesSet (.gateCheckTimer c) s (s.updEf c (fun x => { x with checked := true })) [])
  ∧ (∀ (c : Fin 8) (s u : State), s.efLive c → s.efState c = efON → 10 ≤ (s.efSt c).lowTicks → u = ((s.setF (EFUSE.EF_STAT_LAST_REASON c) 5).updEf c (fun x => { x with gateFault := true })).efGo c efGATE_FAULT .normal → 
      exec (.gateLowInOn c) s = .next ((u.psQueue (0x0300 + c) (u.efRecord c)).raise (144 + c) (s.efData c 5)))
  ∧ (∀ (c : Fin 8) (s : State), s.efLive c → s.efState c = efOFF → (s.efSt c).presSeen = false → 1000 ≤ (s.efSt c).presTicks → 
      GoesRaise (.outputPresentWhileOff c) s (s.updEf c (fun x => { x with presSeen := true })) [(EFUSE.EF_STAT_LAST_REASON c, 8)] (144 + c) (s.efData c 8))
  ∧ (∀ (s : State), s.powered → s.dev.ckptLeftUs = 0 → 
      Goes .counterCheckpoint s (fun t => t.dev.ckptLeftUs = 900000000 ∧ (∀ a, a ≠ PSTORE.PS_STAT_QUEUED.addr → t.getReg a = s.getReg a) ∧ t.mem = s.mem ∧ (∃ w ∈ t.ps.queue, w.id = 0x0200) ∧ ∀ c : Fin 8, ∃ w ∈ t.ps.queue, w.id = 0x0300 + c.val))

/-- A sequencer slot measures, is enabled and withdrawn, reports power good, faults and retries (R397, R398, R399, R400, R404, R407, 13_sequencer.md). -/
def Obligations.SequencerSlots : Prop :=
  (∀ (x : SeqSample) (s : State), s.operating → s.pgRunning pSEQ → s.pgRunning pSEQSLOT → 
      exec (.seqEvaluation x) s = .next (forAll 32 (fun s i => s.setReg (SEQSLOT.V i) (s.monVoltage i (x.mon.getD i 0).toNat)) s).seqEval)
  ∧ (∀ (x : SeqSample) (s : State), s.operating → s.pgRunning pSEQ → s.pgRunning pSEQSLOT → (∀ i : Fin 32, s.slotEn i = false) → 
      Goes (.seqEvaluation x) s (fun t => t = { s with regs := t.regs, seq := { s.seq with
      slots := (List.range 32).map (forAll 32 (fun s i => s.setReg (SEQSLOT.V i) (s.monVoltage i (x.mon.getD i 0).toNat)) s).slotCounts, restTicks := t.seq.restTicks, rstTicks := s.seq.rstTicks + 1, rackTicks := s.seq.rackTicks + 1 } } ∧
      (∀ g : Fin 4, t.seq.restTicks.getD g 0 = if s.grpSt g = grREST then s.seq.restTicks.getD g 0 + 1 else s.seq.restTicks.getD g 0) ∧ (∀ i : Fin 32, t.getReg (SEQSLOT.V i) = s.monVoltage i (x.mon.getD i 0).toNat) ∧
      ∀ a, (∀ i : Fin 32, a ≠ SEQSLOT.V i) → t.getReg a = s.getReg a))
  ∧ (∀ (i : Fin 32) (s : State), s.grpLive (s.slotGrp i) → s.slotSt i = slON_WAIT → s.grpSt (s.slotGrp i) = grASCENDING → 10 * s.getF (SEQSLOT.SL_TIME0_ON_DLY i) ≤ (s.seqSlot i).ticks → s.vinWarn = false → 
      GoesSet (.onDlyExpiry i) s { s with seq := { s.seq with order := s.seq.order.modify (s.slotGrp i) (fun l => l.filter (· ≠ i.val) ++ [i.val]), slots := s.seq.slots.modify i (fun _ => SeqSlotSt.rest) } }
      [(SEQSLOT.SL_STAT_EN_OUT i, 1), (SEQSLOT.SL_STAT_STATE i, slENABLED)])
  ∧ (∀ (i : Fin 32) (s : State), s.grpLive (s.slotGrp i) → s.slotSt i = slON_WAIT → s.grpSt (s.slotGrp i) = grASCENDING → 10 * s.getF (SEQSLOT.SL_TIME0_ON_DLY i) ≤ (s.seqSlot i).ticks → s.vinWarn → 
      GoesSet (.onDlyExpiry i) s (s.updSlot i (fun _ => { SeqSlotSt.rest with onDlyHeld := true })) [(SEQSLOT.SL_STAT_STATE i, slON_WAIT)])
  ∧ (∀ (i : Fin 32) (s : State), s.slotSt i = slOFF_WAIT → 10 * s.getF (SEQSLOT.SL_TIME0_OFF_DLY i) ≤ (s.seqSlot i).ticks → 
      GoesSet (.offDlyExpiry i) s (s.updSlot i (fun _ => SeqSlotSt.rest)) [(SEQSLOT.SL_STAT_EN_OUT i, 0), (SEQSLOT.SL_STAT_PG i, 0), (SEQSLOT.SL_STAT_STATE i, slDISCHARGE)])
  ∧ (∀ (i : Fin 32) (s : State), s.slotSt i = slENABLED → s.getF (SEQSLOT.SL_CFG_FLT i) ≤ (s.seqSlot i).okTicks → 
      exec (.slotPowerGood i) s = .next ((((s.updSlot i (fun c => { c with pgTmoDeferred := false, ticks := 0 })).setF (SEQSLOT.SL_STAT_STATE i) slPG).ascAdvance (s.slotGrp i)).setF (SEQSLOT.SL_STAT_PG i) 1))
  ∧ (∀ (i : Fin 32) (s : State), s.slotSt i = slENABLED → s.getF (SEQSLOT.SL_CFG_FLT i) ≤ (s.seqSlot i).okTicks → s.grpSt (s.slotGrp i) ≠ grASCENDING → 
      GoesSet (.slotPowerGood i) s (s.updSlot i (fun c => { c with pgTmoDeferred := false, ticks := 0 })) [(SEQSLOT.SL_STAT_STATE i, slPG), (SEQSLOT.SL_STAT_PG i, 1)])
  ∧ (∀ (i : Fin 32) (s : State), s.slotEn i → s.slotSt i = slENABLED → (s.seqSlot i).pgTmoDeferred = false → 100 * s.getF (SEQSLOT.SL_TIME1_PG_TMO i) ≤ (s.seqSlot i).ticks → s.supplyRetrying i → 
      GoesSet (.pgTmoExpiry i) s (s.updSlot i (fun c => { c with pgTmoDeferred := true })) [])
  ∧ (∀ (i : Fin 32) (s : State), s.slotEn i → s.slotSt i = slENABLED → (s.seqSlot i).pgTmoDeferred = false → 100 * s.getF (SEQSLOT.SL_TIME1_PG_TMO i) ≤ (s.seqSlot i).ticks → s.supplyRetrying i = false → 
      exec (.pgTmoExpiry i) s = .next ((s.updSlot i (fun c => { c with pgTmoDeferred := true })).slotFaults [(i, 1)]))
  ∧ (∀ (i : Fin 32) (s : State), s.slotEn i → s.slotSt i = slENABLED → (s.seqSlot i).pgTmoDeferred = false → 100 * s.getF (SEQSLOT.SL_TIME1_PG_TMO i) ≤ (s.seqSlot i).ticks → s.supplyRetrying i = false → s.grpSt (s.slotGrp i) ≠ grDESCENDING → s.getF (SEQSLOT.SL_CFG_REACT i) = 0 → 
      GoesRaise (.pgTmoExpiry i) s (s.updSlot i (fun c => { c with pgTmoDeferred := true })) [(SEQSLOT.SL_STAT_LAST_REASON i, 1)] (152 + i) (s.seqData i 1))
  ∧ (∀ (i : Fin 32) (s : State), s.slotSt i = slDISCHARGE → F32.lt (s.getReg (SEQSLOT.V i)) (s.getReg (SEQSLOT.SL_OFF i)) → 
      exec (.slotOff i) s = .next ((s.setF (SEQSLOT.SL_STAT_STATE i) slOFF).descAdvance (s.slotGrp i)))
  ∧ (∀ (i : Fin 32) (s : State), s.slotSt i = slRETRY_WAIT → F32.lt (s.getReg (SEQSLOT.V i)) (s.getReg (SEQSLOT.SL_OFF i)) → 
      GoesSet (.slotOff i) s (s.updSlot i (fun c => { c with offSeen := true })) [])
  ∧ (∀ (i : Fin 32) (s : State), s.slotSt i = slDISCHARGE → 100 * s.getF (SEQSLOT.SL_TIME1_T_DIS_MAX i) ≤ (s.seqSlot i).ticks → 
      exec (.tDisMaxExpiry i) s = .next (((s.raise 186 [i, 3, 0]).setF (SEQSLOT.SL_STAT_STATE i) slOFF).descAdvance ((s.raise 186 [i, 3, 0]).slotGrp i)))
  ∧ (∀ (i : Fin 32) (s : State), s.slotSt i = slRETRY_WAIT → (s.seqSlot i).offSeen = false → 100 * s.getF (SEQSLOT.SL_TIME1_T_DIS_MAX i) ≤ (s.seqSlot i).ticks → 
      exec (.tDisMaxExpiry i) s = .next ((s.raise 186 [i, 3, 0]).updSlot i (fun c => { c with offSeen := true })))
  ∧ (∀ (i : Fin 32) (s : State), s.slotSt i = slPG → 100000 ≤ (s.seqSlot i).ticks → 
      GoesSet (.slotRetryClear i) s s [(SEQSLOT.SL_STAT_RETRIES i, 0)])
  ∧ (∀ (i : Fin 32) (s : State), s.slotSt i = slRETRY_WAIT → (s.seqSlot i).offSeen → 100 * s.getF (SEQGRP.GRP_CFG_T_REST (s.slotGrp i)) ≤ (s.seqSlot i).offTicks → (s.vinWarn = false ∨ s.grpSt (s.slotGrp i) ≠ grASCENDING) → 
      GoesSet (.slotRetryEnable i) s { s with seq := { s.seq with order := s.seq.order.modify (s.slotGrp i) (fun l => l.filter (· ≠ i.val) ++ [i.val]), slots := s.seq.slots.modify i (fun _ => SeqSlotSt.rest) } }
      [(SEQSLOT.SL_STAT_EN_OUT i, 1), (SEQSLOT.SL_STAT_STATE i, slENABLED)])

/-- Group requests, REST, RACKFLT_N and the supervised inputs of the sequencer (R403, R408, R411, R412, R415, R416, R418, 13_sequencer.md). -/
def Obligations.SequencerGroups : Prop :=
  (∀ (r : Requester) (g : Fin 4) (s : State), Accepts s r (SEQGRP.GRP_CMD g) 1 → s.grpLive g → 
      exec (.grpCmdUp r g) s = .next ((Stored s r (SEQGRP.GRP_CMD g) 1).upRequest g))
  ∧ (∀ (r : Requester) (g : Fin 4) (s : State), Accepts s r (SEQGRP.GRP_CMD g) 1 → s.grpLive g → (s.grpSt g = grASCENDING ∨ s.grpSt g = grON) → 
      GoesSet (.grpCmdUp r g) s (Stored s r (SEQGRP.GRP_CMD g) 1) [])
  ∧ (∀ (r : Requester) (g : Fin 4) (s : State), Accepts s r (SEQGRP.GRP_CMD g) 1 → s.grpLive g → (s.grpSt g = grDESCENDING ∨ (s.grpSt g = grREST ∧ s.vinWarn = false)) → 
      GoesSet (.grpCmdUp r g) s (Stored s r (SEQGRP.GRP_CMD g) 1) [(SEQGRP.GRP_STAT_FAULTED g, 0), (SEQGRP.GRP_STAT_UP_PEND g, 1)])
  ∧ (∀ (r : Requester) (g : Fin 4) (s : State), Accepts s r (SEQGRP.GRP_CMD g) 1 → s.grpLive g → s.grpSt g = grOFF → s.rackHolds g → 
      GoesSet (.grpCmdUp r g) s (Stored s r (SEQGRP.GRP_CMD g) 1) [(SEQGRP.GRP_STAT_FAULTED g, 0), (SEQGRP.GRP_STAT_RACK_HELD g, 1), (SEQGRP.GRP_STAT_UP_PEND g, 1)])
  ∧ (∀ (r : Requester) (g : Fin 4) (s : State), Accepts s r (SEQGRP.GRP_CMD g) 1 → s.grpLive g → s.grpSt g = grOFF → s.rackHolds g = false → s.vinWarn → 
      GoesSet (.grpCmdUp r g) s (Stored s r (SEQGRP.GRP_CMD g) 1) [(SEQGRP.GRP_STAT_FAULTED g, 0), (SEQGRP.GRP_STAT_VIN_HELD g, 1), (SEQGRP.GRP_STAT_UP_PEND g, 1)])
  ∧ (∀ (r : Requester) (g : Fin 4) (s : State), Accepts s r (SEQGRP.GRP_CMD g) 2 → s.grpLive g → 
      exec (.grpCmdDown r g) s = .next ((Stored s r (SEQGRP.GRP_CMD g) 2).downRequest g))
  ∧ (∀ (r : Requester) (g : Fin 4) (s : State), Accepts s r (SEQGRP.GRP_CMD g) 2 → s.grpLive g → s.grpSt g = grREST → 
      GoesSet (.grpCmdDown r g) s (Stored s r (SEQGRP.GRP_CMD g) 2) [(SEQGRP.GRP_STAT_UP_PEND g, 0)])
  ∧ (∀ (r : Requester) (g : Fin 4) (s : State), Accepts s r (SEQGRP.GRP_CMD g) 2 → s.grpLive g → s.grpSt g = grOFF → 
      GoesSet (.grpCmdDown r g) s (Stored s r (SEQGRP.GRP_CMD g) 2) [(SEQGRP.GRP_STAT_UP_PEND g, 0), (SEQGRP.GRP_STAT_VIN_HELD g, 0), (SEQGRP.GRP_STAT_RACK_HELD g, 0)])
  ∧ (∀ (g : Fin 4) (s : State), s.grpSt g = grREST → 100 * s.getF (SEQGRP.GRP_CFG_T_REST g) ≤ s.seq.restTicks.getD g 0 → s.getB (SEQGRP.GRP_STAT_UP_PEND g) = false → s.getB SEQ.SEQ_STAT_SYS_RESET = false → 
      GoesSet (.tRestExpiry g) s s [(SEQGRP.GRP_STAT_STATE g, grOFF)])
  ∧ (∀ (g : Fin 4) (s : State), s.grpSt g = grREST → 100 * s.getF (SEQGRP.GRP_CFG_T_REST g) ≤ s.seq.restTicks.getD g 0 → s.getB (SEQGRP.GRP_STAT_UP_PEND g) → 
      exec (.tRestExpiry g) s = .next ((({ ((s.setF (SEQGRP.GRP_STAT_UP_PEND g) 0).setF (SEQGRP.GRP_STAT_STATE g) grOFF) with
      seq := { s.seq with sysGroups := s.seq.sysGroups.set g false } }).upRequest g).sysReascend))
  ∧ (∀ (s : State), s.getB SEQ.SEQ_STAT_SYS_RESET → (∀ g : Fin 4, (s.seq.sysWait.getD g false = false ∨ s.grpSt g = grON) ∧ s.grpSt g ≠ grDESCENDING ∧ s.grpSt g ≠ grREST) → 100 * s.getF SEQ.SEQ_CFG_RST_MIN_MS ≤ s.seq.rstTicks → 
      GoesSet .rstOutRelease s s [(SEQ.SEQ_STAT_SYS_RESET, 0), (SEQ.SEQ_STAT_RST_OUT, 0)])
  ∧ (∀ (s : State), s.operating → s.pgRunning pSEQ → s.getB SEQ.SEQ_STAT_RACK_STUCK → 
      GoesSet .rackfltLowSeen s s [(SEQ.SEQ_STAT_RACK_LOW, 1), (SEQ.SEQ_STAT_RACK_EXT, (!s.getB SEQ.SEQ_STAT_RACK_SELF).toNat)])
  ∧ (∀ (s : State), s.operating → s.pgRunning pSEQ → s.getB SEQ.SEQ_STAT_RACK_STUCK = false → s.getB SEQ.SEQ_STAT_RACK_SELF → (∀ g : Fin 4, rackActs s g = false) → 
      GoesSet .rackfltLowSeen s s [(SEQ.SEQ_STAT_RACK_LOW, 1), (SEQ.SEQ_STAT_RACK_EXT, 0)])
  ∧ (∀ (s : State), s.operating → s.pgRunning pSEQ → s.getB SEQ.SEQ_STAT_RACK_STUCK = false → s.getB SEQ.SEQ_STAT_RACK_SELF = false → (∀ g : Fin 4, rackActs s g = false) → 
      exec .rackfltLowSeen s = .next ((((s.setF SEQ.SEQ_STAT_RACK_LOW 1).raise 184 [0]).setF SEQ.SEQ_STAT_RACK_LOW 1).rackExt))
  ∧ (∀ (g : Fin 4) (s u : State), s.operating → s.pgRunning pSEQ → s.getB SEQ.SEQ_STAT_RACK_STUCK = false → s.getB SEQ.SEQ_STAT_RACK_SELF = false → (∀ h : Fin 4, h ≠ g → rackActs s h = false) → rackActs s g → u = (s.setF SEQ.SEQ_STAT_RACK_LOW 1).enterDescend g → 
      exec .rackfltLowSeen s = .next (((({ u with seq := { u.seq with rackAgain := u.seq.rackAgain.set g (s.getF (SEQGRP.GRP_CFG_RACK_ACT g) = 1) } }).raise 184 [2 ^ g.val]).setF
      SEQ.SEQ_STAT_RACK_LOW 1).rackExt))
  ∧ (∀ (s : State), s.operating → s.getB SEQ.SEQ_STAT_RACK_SELF = false → 
      exec .rackfltHigh100ms s = .next (((forAll 4 rackHigh ((((s.setF SEQ.SEQ_STAT_RACK_LOW 0).setF SEQ.SEQ_STAT_RACK_STUCK 0).endL 185).setF (SEQ.INP_STAT_STUCK 0) 0)).setF SEQ.SEQ_STAT_RACK_LOW 0).rackExt))
  ∧ (∀ (s : State), s.operating → s.getB SEQ.SEQ_STAT_RACK_SELF = false → (∀ g : Fin 4, s.getB (SEQGRP.GRP_STAT_RACK_HELD g) = false ∧ s.seq.rackAgain.getD g false = false) → s.seq.rackAgain.length = 4 → 
      GoesSet .rackfltHigh100ms s s ([(SEQ.SEQ_STAT_RACK_LOW, 0), (SEQ.SEQ_STAT_RACK_STUCK, 0), (SEQ.SEQ_STAT_RACK_EXT, 0), (SEQ.INP_STAT_STUCK 0, 0)] ++ condEnd 185))
  ∧ (∀ (s : State), s.getB SEQ.SEQ_STAT_RACK_SELF → (∀ g : Fin 4, s.seq.rackPull.getD g false → s.grpSt g ≠ grDESCENDING ∧ s.grpSt g < 5) → 100 * s.getF SEQ.SEQ_CFG_RACK_MIN_MS ≤ s.seq.rackTicks → 
      GoesSet .rackfltPullRelease s { s with seq := { s.seq with rackPull := List.replicate 4 false } }
      [(SEQ.SEQ_STAT_RACK_SELF, 0), (SEQ.SEQ_STAT_RACK_EXT, (s.getB SEQ.SEQ_STAT_RACK_LOW).toNat)])
  ∧ (∀ (i : SupInput) (active chatter : Bool) (s : State), s.operating → s.pgRunning pSEQ → i ≠ .wake → i ≠ .belayN → (i ≠ .rackflt ∨ active) → 
      GoesSet (.inputFilterChange i active chatter) s s ((if active && !s.getB (SEQ.INP_STAT_FILT (supIndex i)) then [oneMore s (SEQ.INP_STAT_ACT (supIndex i))] else []) ++
      (if chatter then [oneMore s (SEQ.INP_STAT_CHAT (supIndex i))] else []) ++ [(SEQ.INP_STAT_RAW (supIndex i), (active || chatter).toNat), (SEQ.INP_STAT_FILT (supIndex i), active.toNat)]))
  ∧ (∀ (active chatter : Bool) (s : State), s.operating → s.pgRunning pSEQ → 
      GoesSet (.inputFilterChange .wake active chatter) s { s with dev := { s.dev with wakePin := active } } ((if active && !s.getB (SEQ.INP_STAT_FILT 3) then [oneMore s (SEQ.INP_STAT_ACT 3)] else []) ++
      (if chatter then [oneMore s (SEQ.INP_STAT_CHAT 3)] else []) ++ [(SEQ.INP_STAT_RAW 3, (active || chatter).toNat), (SEQ.INP_STAT_FILT 3, active.toNat)]))
  ∧ (∀ (chatter : Bool) (s : State), s.operating → s.pgRunning pSEQ → 
      GoesSet (.inputFilterChange .belayN true chatter) s (s.updPair (fun x => { x with partnerHeld := x.partnerHeld || !s.getB RIDGE.PAIR_STAT_BELAY_OWN }))
      ((RIDGE.PAIR_STAT_BELAY_LOW, 1) :: (if s.getB (SEQ.INP_STAT_FILT 4) then [] else [oneMore s (SEQ.INP_STAT_ACT 4)]) ++
      (if chatter then [oneMore s (SEQ.INP_STAT_CHAT 4)] else []) ++ [(SEQ.INP_STAT_RAW 4, 1), (SEQ.INP_STAT_FILT 4, 1)]))
  ∧ (∀ (chatter : Bool) (s : State), s.operating → s.pgRunning pSEQ → (s.getB RIDGE.PAIR_CFG_BELAY_EN = false ∨ s.pair.partnerHeld = false ∨ s.pair.yieldSeen ∨ s.pair.taking) → 
      GoesSet (.inputFilterChange .belayN false chatter) s s ((RIDGE.PAIR_STAT_BELAY_LOW, 0) :: (if chatter then [oneMore s (SEQ.INP_STAT_CHAT 4)] else []) ++
      [(SEQ.INP_STAT_RAW 4, chatter.toNat), (SEQ.INP_STAT_FILT 4, 0)]))
  ∧ (∀ (chatter : Bool) (s : State), s.operating → s.pgRunning pSEQ → s.getB SEQ.SEQ_STAT_RACK_STUCK = false → (∀ g : Fin 4, s.getB (SEQGRP.GRP_STAT_RACK_HELD g) = false) → 
      GoesSet (.inputFilterChange .rackflt false chatter) s s ([(SEQ.SEQ_STAT_RACK_LOW, 0), (SEQ.SEQ_STAT_RACK_EXT, 0)] ++ (if chatter then [oneMore s (SEQ.INP_STAT_CHAT 0)] else []) ++
      [(SEQ.INP_STAT_RAW 0, chatter.toNat), (SEQ.INP_STAT_FILT 0, 0)]))
  ∧ (∀ (i : SupInput) (s : State), s.operating → s.pgRunning pSEQ → i ≠ .rackflt → i ≠ .belayN → s.getF (SEQ.INP_CFG_STUCK (supIndex i)) ≠ 0 → s.getB (SEQ.INP_STAT_FILT (supIndex i)) → s.getB (SEQ.INP_STAT_STUCK (supIndex i)) = false → stuckTimerRuns (supIndex i) s → s.dev.late = [] → 
      exec (.inputStuckTimer i) s = .next (((s.setCond 187 false).raiseL 187 [supIndex i]).setF (SEQ.INP_STAT_STUCK (supIndex i)) 1))
  ∧ (∀ (s : State), s.operating → s.pgRunning pSEQ → s.getF (SEQ.INP_CFG_STUCK 0) ≠ 0 → s.getB (SEQ.INP_STAT_FILT 0) → s.getB (SEQ.INP_STAT_STUCK 0) = false → s.getB SEQ.SEQ_STAT_RACK_SELF = false → s.dev.late = [] → 
      exec (.inputStuckTimer .rackflt) s = .next (((s.raiseL 185 [0]).setF SEQ.SEQ_STAT_RACK_STUCK 1).setF (SEQ.INP_STAT_STUCK 0) 1))
  ∧ (∀ (s : State), s.operating → s.pgRunning pSEQ → s.getF (SEQ.INP_CFG_STUCK 4) ≠ 0 → s.getB (SEQ.INP_STAT_FILT 4) → s.getB (SEQ.INP_STAT_STUCK 4) = false → stuckTimerRuns 4 s → s.dev.late = [] → 
      exec (.inputStuckTimer .belayN) s = .next ((((s.setCond 187 false).raiseL 187 [4]).raise 214 [1]).setF (SEQ.INP_STAT_STUCK 4) 1))
  ∧ (∀ (i : SupInput) (s : State), i ≠ .rackflt → s.getB (SEQ.INP_STAT_STUCK (supIndex i)) → (∀ j : Fin 6, j.val ≠ 0 → j.val ≠ supIndex i → s.getB (SEQ.INP_STAT_STUCK j) = false) → 
      GoesSet (.inputStuckRelease i) s s ([(SEQ.INP_STAT_STUCK (supIndex i), 0), (SEQ.INP_STAT_FILT (supIndex i), 0), (SEQ.INP_STAT_RAW (supIndex i), 0)] ++ condEnd 187))
  ∧ (∀ (s : State), s.getB (SEQ.INP_STAT_STUCK 0) → 
      exec (.inputStuckRelease .rackflt) s = .next (((((forAll 4 rackHigh ((((s.setF (SEQ.INP_STAT_STUCK 0) 0).endL 185).setF SEQ.SEQ_STAT_RACK_LOW 0).setF SEQ.SEQ_STAT_RACK_STUCK 0)).rackExt).setF
      (SEQ.INP_STAT_FILT 0) 0).setF (SEQ.INP_STAT_RAW 0) 0).setF (SEQ.INP_STAT_STUCK 0) 0))
  ∧ (∀ (r : Requester) (s : State), Accepts s r SEQ.CNT_CTRL 1 → 
      GoesSet (.seqCntClr r) s (Stored s r SEQ.CNT_CTRL 1) ((List.range 6).map (fun k => (SEQ.INP_STAT_ACT k, 0)) ++ (List.range 6).map (fun k => (SEQ.INP_STAT_CHAT k, 0))))

/-- Acknowledgement, unfencing, fault injection and the takeover's reset in the fault collector (R421, R425, R428, R431, R435, R436, R437, 14_fault_collector.md). -/
def Obligations.CollectorCommands : Prop :=
  (∀ (i : BitVec 8) (d : List Byte) (s : State), s.powered → srcReserved i.toNat = false → i ≠ 98 → i ≠ 194 → i ≠ 195 → 
      exec (.sourceRaise i d) s = .next (s.raise i.toNat (data10 (d.map BitVec.toNat))))
  ∧ (∀ (s : State), s.powered → s.dev.takeoverHeld → s.pair.yielded → 
      exec .takeoverReset s = .next (s.deviceReset rcSEVERITY))
  ∧ (∀ (s : State), s.powered → s.dev.takeoverHeld → 
      Goes .takeoverReset s (fun t => t.getF DEV.RST_CAUSE_LAST = rcSEVERITY ∧ t.mode = mASCENT ∧ t.mem = [] ∧ t.dev.takeoverHeld = false ∧ t.img.banks = s.img.banks ∧ t.pending = s.pending))
  ∧ (∀ (r : Requester) (k : Fin 8) (m : Word) (s : State), Accepts s r (FCOL.ACT k) m.toNat → 
      Goes (.fcolActClear r k m) s (fun t => t = (((s.ownerTouch pFCOL r).setReg (FCOL.ACT k) (s.getReg (FCOL.ACT k) &&& ~~~(m &&& ~~~(s.getReg (FCOL.COND k))))).countChg pFCOL)))
  ∧ (∀ (r : Requester) (s : State), Accepts s r FCOL.FCOL_CTRL 1 → 
      Goes (.fcolAck r) s (fun t => t.dev.ackSinceSafe = true ∧ t.getReg FCOL.FCOL_FIRST = 0 ∧ t.getB FCOL.FCOL_STAT_HANDLING = false ∧ t.getF FCOL.FCOL_STAT_NEST_COUNT = 0 ∧
      t.getF FCOL.FCOL_STAT_SEV_MAX = ((List.range 256).filter s.getAct).foldl (fun m x => max m (min 5 (s.getF (FCOL_SEV.SEV_SEV x)))) 0 ∧
      t = { s with regs := t.regs, dev := { (s.ownerTouch pFCOL r).dev with ackSinceSafe := true } } ∧ ∀ a, a ≠ FCOL.FCOL_FIRST → a ≠ FCOL.FCOL_STAT → a ≠ FCOL.FCOL_CTRL → a ≠ (pgChgCount pFCOL).addr → t.getReg a = s.getReg a))
  ∧ (∀ (r : Requester) (u : BitVec 4) (i : BitVec 6) (s v : State), Accepts s r FCOL.UNFENCE (2 ^ 31 + u.toNat * 2 ^ 16 + i.toNat) → v = Stored s r FCOL.UNFENCE (2 ^ 31 + u.toNat * 2 ^ 16 + i.toNat) → unfenceIndexOk u.toNat i.toNat → v.unitFenced u.toNat i.toNat → (unfenceSources u.toNat i.toNat).all (fun x => !v.getAct x) → 
      exec (.unfence r u i) s = .next ((v.unfenceUnit u.toNat i.toNat).setF FCOL.UNFENCE_RESULT 2))
  ∧ (∀ (r : Requester) (i : Fin 24) (v : Nat) (s : State), v = 2 ^ 31 + i.val → Accepts s r FCOL.UNFENCE v → s.shelf.strFence.getD i false → s.getAct (64 + i) = false → 
      GoesSet (.unfence r 0 (BitVec.ofNat 6 i)) s ((Stored s r FCOL.UNFENCE v).updShelf (fun x => { x with strFence := x.strFence.set i false })) [(FCOL.UNFENCE_RESULT, 2)])
  ∧ (∀ (r : Requester) (u : BitVec 4) (i : BitVec 6) (s v : State), Accepts s r FCOL.UNFENCE (2 ^ 31 + u.toNat * 2 ^ 16 + i.toNat) → v = Stored s r FCOL.UNFENCE (2 ^ 31 + u.toNat * 2 ^ 16 + i.toNat) → (unfenceIndexOk u.toNat i.toNat = false ∨ v.unitFenced u.toNat i.toNat = false ∨ (unfenceSources u.toNat i.toNat).any v.getAct) → 
      GoesSet (.unfence r u i) s v [(FCOL.UNFENCE_RESULT, 3)])
  ∧ (∀ (r : Requester) (two : Bool) (c : BitVec 4) (n : BitVec 5) (k : Byte) (w : Nat) (s : State), w = 2 ^ 31 + two.toNat * 2 ^ 24 + c.toNat * 2 ^ 16 + n.toNat * 2 ^ 8 + k.toNat → Accepts s r FCOL.INJ w → s.injOk c.toNat n.toNat k.toNat → 
      Goes (.injStart r two c n k) s (fun t => t = ({ Stored s r FCOL.INJ w with inj := ⟨c.toNat, n.toNat, two⟩ }).setN FCOL.INJ_STAT (2 ^ 31 + k.toNat) ∧ t.getB FCOL.INJ_STAT_BUSY = true ∧
      t.getF FCOL.INJ_STAT_LEFT = k.toNat))
  ∧ (∀ (r : Requester) (two : Bool) (c : BitVec 4) (n : BitVec 5) (k : Byte) (w : Nat) (s : State), w = 2 ^ 31 + two.toNat * 2 ^ 24 + c.toNat * 2 ^ 16 + n.toNat * 2 ^ 8 + k.toNat → Accepts s r FCOL.INJ w → s.injOk c.toNat n.toNat k.toNat = false → (k ≠ 0 ∨ s.getB FCOL.INJ_STAT_BUSY = false) → 
      GoesSet (.injStart r two c n k) s (Stored s r FCOL.INJ w) [(FCOL.INJ_STAT_RESULT, 2)])
  ∧ (∀ (r : Requester) (w : Nat) (s : State), w = 2 ^ 31 + s.getN FCOL.INJ / 2 ^ 8 * 2 ^ 8 → Accepts s r FCOL.INJ w → s.getB FCOL.INJ_STAT_BUSY → 
      GoesSet (.injCancel r) s (Stored s r FCOL.INJ w) [(FCOL.INJ_STAT_BUSY, 0), (FCOL.INJ_STAT_RESULT, 1)])
  ∧ (∀ (d : Bool) (b : List Byte) (s v : State), s.powered → s.getB FCOL.INJ_STAT_BUSY → 1 < s.getF FCOL.INJ_STAT_LEFT → s.inj.checker ≠ 5 → s.inj.checker ≠ 6 → s.inj.checker ≠ 10 → v = ((s.setF FCOL.INJ_STAT_LEFT (s.getF FCOL.INJ_STAT_LEFT - 1)).setF FCOL.INJ_STAT_DETECT (min (s.getF FCOL.INJ_STAT_DETECT + d.toNat) 255)) → 
      exec (.injectedAccess d b) s = .next (if d then raiseN 8 v (injSource s.inj.checker s.inj.inst s.inj.twoBits) (data10 (b.map BitVec.toNat)) .injected else v))
  ∧ (∀ (b : List Byte) (s : State), s.powered → s.getB FCOL.INJ_STAT_BUSY → s.getF FCOL.INJ_STAT_LEFT = 1 → s.inj.checker ≠ 5 → s.inj.checker ≠ 6 → 
      GoesSet (.injectedAccess false b) s s [(FCOL.INJ_STAT_LEFT, 0), (FCOL.INJ_STAT_BUSY, 0), (FCOL.INJ_STAT_RESULT, 1)])

/-- A raise that reacts at NOTIFY or below sets its ACT bit and severity and touches no block (R422, R428, R429, R434, Table 14-1). -/
def Obligations.RaiseFrame : Prop :=
  ∀ (src : Fin 256) (d : List Nat) (s : State), effSev (s.getF (FCOL_SEV.SEV_SEV src)) src d .plain ≤ 2 → (¬ (16 ≤ src.val ∧ src.val < 64 ∧ src.val % 2 = 0 ∧ d.getD 0 0 = 3)) → s.cairnN + 1 < 32704 → 
      (s.raise src d).getAct src = true ∧ (∀ x : Fin 256, x ≠ src → (s.raise src d).getAct x = s.getAct x) ∧
      (s.raise src d).getF FCOL.FCOL_STAT_SEV_MAX = max (s.getF FCOL.FCOL_STAT_SEV_MAX) (effSev (s.getF (FCOL_SEV.SEV_SEV src)) src d .plain) ∧
      (s.raise src d).getB FCOL.FCOL_STAT_HANDLING = s.getB FCOL.FCOL_STAT_HANDLING ∧
      s.raise src d = { s with regs := (s.raise src d).regs, cairn := (s.raise src d).cairn } ∧
      (∀ a, a / 0x1000 ≠ pFCOL → a / 0x1000 ≠ pCAIRN → (s.raise src d).getReg a = s.getReg a) ∧ s.cairnN ≤ (s.raise src d).cairnN ∧ (s.raise src d).cairnN ≤ s.cairnN + 1

/-- PG_CTRL and PG_OWNER move a page between its states and owners (R35, R47, R48, R51, 02_register_pages.md). -/
def Obligations.PageStates : Prop :=
  (∀ (r : Requester) (p : PageNo) (s : State), Accepts s r (pgCtrl p) 1 → s.pgState p = psSTOPPED → alwaysRunning p = false → 
      GoesSet (.pgCtrlRun r p) s (s.ownerTouch p r) [(pgCtrlRun p, 1), (pgStatBusy p, 1), (pgStatState p, psSTARTING), pageChg s p])
  ∧ (∀ (r : Requester) (p : PageNo) (s : State), Accepts s r (pgCtrl p) 2 → s.pgState p = psSTARTING → alwaysRunning p = false → 
      GoesSet (.pgCtrlStopReq r p) s (s.ownerTouch p r) [(pgCtrlRun p, 0), (pgStatBusy p, 0), (pgStatState p, psSTOPPED), pageChg s p])
  ∧ (∀ (r : Requester) (p : PageNo) (s u : State), Accepts s r (pgCtrl p) 2 → s.pgState p = psRUNNING → alwaysRunning p = false → u = (s.ownerTouch p r).stopAsked p → 
      exec (.pgCtrlStopReq r p) s = .next ((((u.setF (pgCtrlRun p) 0).setF (pgStatBusy p) 1).setF (pgStatState p) psSTOPPING).countChg p))
  ∧ (∀ (r : Requester) (p : PageNo) (s : State), s.portOpen r → s.txCheck r (pgCtrl p) 1 true = none → s.mayWrite p r → s.pgState p = psRUNNING → s.stopPermitted p (reqPage r) = false → 
      GoesSet (.pgCtrlStopReq r p) s s [(pgStatWrej p, 1), (pgStatWrejOfs p, 4), (pgStatWrejCause p, 6)])
  ∧ (∀ (r : Requester) (p : PageNo) (s u : State), Accepts s r (pgCtrl p) 4 → s.pgState p = psFENCED → alwaysRunning p = false → u = (s.ownerTouch p r).fenceCleared p → 
      exec (.pgCtrlFenceClr r p) s = .next ((((u.setF (pgCtrlRun p) 0).setF (pgStatBusy p) 0).setF (pgStatState p) psSTOPPED).countChg p))
  ∧ (∀ (r : Requester) (p : PageNo) (s : State), Accepts s r (pgCtrl p) 4 → s.pgState p = psFENCED → alwaysRunning p = false → (∀ q : Fin 8, p.val ≠ pRAIL q) → 
      GoesSet (.pgCtrlFenceClr r p) s (s.ownerTouch p r) [(pgCtrlRun p, 0), (pgStatBusy p, 0), (pgStatState p, psSTOPPED), pageChg s p])
  ∧ (∀ (r : Requester) (p : PageNo) (s : State), s.portOpen r → s.txCheck r (pgCtrl p) 1 true = none → s.mayWrite p r → s.pgState p = psFENCED → alwaysRunning p = false → (s.fsum p).getLsbD 28 → 
      GoesSet (.pgCtrlFenceClr r p) s s [(pgStatWrej p, 1), (pgStatWrejOfs p, 4), (pgStatWrejCause p, 7)])
  ∧ (∀ (p : PageNo) (s : State), s.powered → s.pgState p = psSTARTING → p.val ≠ pEST → s.startOk p → schedPages.contains p.val = false → 
      exec (.pageStartBoundary p) s = .next (((((s.settle (fun a => a / 0x1000 = p.val)).setF (pgCtrlRun p) 1).setF (pgStatBusy p) 0).setF (pgStatState p) psRUNNING).startDone p))
  ∧ (∀ (p : PageNo) (s : State), s.powered → s.pgState p = psSTARTING → p.val ≠ pEST → s.startOk p = false → 
      GoesSet (.pageStartBoundary p) s s [(pgStatState p, psSTOPPED), (pgCtrlRun p, 0), (pgStatBusy p, 0), (pgStatWrej p, 1), (pgStatWrejOfs p, 4), (pgStatWrejCause p, 5)])
  ∧ (∀ (p : PageNo) (s : State), s.powered → s.pgState p = psSTOPPING → s.stopReady p → 
      exec (.pageStopBoundary p) s = .next (((((s.stopDone p).setF (pgCtrlRun p) 0).setF (pgStatBusy p) 0)).setF (pgStatState p) psSTOPPED))
  ∧ (∀ (r : Requester) (p : PageNo) (t : Half) (s : State), Accepts s r (pgOwner p) (t.toNat * 2 ^ 16) → r ≠ .firmware → t ≠ 0 → 
      GoesSet (.pgOwnerWrite r p t) s { s with dev := { s.dev with ownAt := insertKey p s.dev.nowUs (eraseKey p (s.ownerTouch p r).dev.ownAt) } }
      [whole (pgOwner p) (BitVec.ofNat 32 (t.toNat * 2 ^ 16 + reqSource r * 2 ^ 8 + reqPort r * 2 ^ 4 + 1)), pageChg s p])
  ∧ (∀ (r : Requester) (p : PageNo) (s : State), Accepts s r (pgOwner p) 0 → r ≠ .firmware → 
      GoesSet (.pgOwnerWrite r p 0) s { s with dev := { s.dev with ownAt := eraseKey p (s.ownerTouch p r).dev.ownAt } } [whole (pgOwner p) 0, pageChg s p])
  ∧ (∀ (p : PageNo) (t : Half) (s : State), Accepts s .firmware (pgOwner p) (t.toNat * 2 ^ 16) → t ≠ 0 → 
      GoesSet (.pgOwnerWrite .firmware p t) s s [pageChg s p])
  ∧ (∀ (p : PageNo) (s : State), s.getB (pgOwnerHeld p) → s.getN DEV.OWN_TIMEOUT ≠ 0 → 1000000 * s.getN DEV.OWN_TIMEOUT ≤ s.dev.nowUs - (lookupKey p s.dev.ownAt).getD 0 → 
      GoesSet (.ownershipTimeout p) s { s with dev := { s.dev with ownAt := eraseKey p s.dev.ownAt } } [whole (pgOwner p) 0])

/-- Register writes, SPI transactions and page requests run on the fabric and answer (R40, R504, R505, R506, R507, R511, 17_host_and_plant_ports.md). -/
def Obligations.HostTransactions : Prop :=
  (∀ (r : Requester) (a : BitVec 24) (v : Word) (k : PageKind) (x n i : Nat) (s : State), Accepts s r a.toNat v.toNat → pageKind (a.toNat / 0x1000) = some (k, x) → (findReg (a.toNat / 0x1000) (a.toNat % 0x1000)).map Prod.snd = some (n, i) → a.toNat % 0x1000 ≠ 4 → a.toNat % 0x1000 ≠ 8 → a.toNat % 0x1000 ≠ 0x14 → a.toNat / 0x1000 ≠ pIMAGE → 
      exec (.registerWrite r a v) s = .next ((Stored s r a.toNat v.toNat).wordActs r k n i a.toNat v (s.getReg (s.homeOf (a.toNat / 0x1000) (a.toNat % 0x1000)))))
  ∧ (∀ (a : BitVec 24) (len c : Byte) (s : State) (x : Nat × Nat × List Word × State), s.powered → crc8 (headBytes 0xA1 a.toNat len.toNat) = c.toNat → s.hostReady .spi → s.spiShut true a.toNat = false → x = s.readTx .spi a.toNat (lenWords len.toNat) → x.1 = stOK → 
      exec (.spiRead a len c) s = .next (x.2.2.2.spiCount stOK x.2.1 true (withCrc ([stOK, x.2.1] ++ wordBytes x.2.2.1))))
  ∧ (∀ (a : BitVec 24) (c : Byte) (k : PageKind) (y : Nat) (s : State), s.powered → crc8 (headBytes 0xA1 a.toNat 0) = c.toNat → s.hostReady .spi → s.spiShut true a.toNat = false → s.txCheck .spi a.toNat 1 false = none → pageKind (a.toNat / 0x1000) = some (k, y) → multiWord k (a.toNat % 0x1000) = none → 
      Goes (.spiRead a 0 c) s (fun t => t.spi.resp = withCrc ([stOK, 1] ++ leBytes 4 (s.viewWord (a.toNat / 0x1000) (a.toNat % 0x1000)).toNat) ∧
      Sets ({ (s.ownerTouch (a.toNat / 0x1000) .spi) with spi := { s.spi with resp := t.spi.resp } }) t [oneMore s SPI.CNT_XACT_OK, (SPI.SPI_STAT_LAST_STATUS, stOK), (SPI.SPI_STAT_LAST_WIDX, 1)]))
  ∧ (∀ (a : BitVec 24) (len c : Byte) (s : State), s.powered → crc8 (headBytes 0xA1 a.toNat len.toNat) ≠ c.toNat → 
      GoesRaise (.spiRead a len c) s { s with spi := { s.spi with resp := withCrc ([stCRC_ERROR, 0] ++ wordBytes (List.replicate (lenWords len.toNat) 0)) } }
      [oneMore s SPI.CNT_XACT_REFUSED, (SPI.SPI_STAT_LAST_STATUS, stCRC_ERROR), (SPI.SPI_STAT_LAST_WIDX, 0), oneMore s SPI.CNT_ERR_CRC] 248 [])
  ∧ (∀ (a : BitVec 24) (len c : Byte) (ws : List Word) (dc : Half) (s : State) (x : Nat × Nat × State), s.powered → ws.length = lenWords len.toNat → crc8 (headBytes 0xB2 a.toNat len.toNat) = c.toNat → crc16 (wordBytes ws) = dc.toNat → s.hostReady .spi → s.spiShut false a.toNat = false → x = s.writeTx .spi a.toNat ws → x.2.2.mode ≠ mASCENT → 
      exec (.spiWrite a len c ws dc) s = .next (x.2.2.spiCount x.1 x.2.1 true (withCrc [x.1, x.2.1])))
  ∧ (∀ (a : BitVec 24) (len c : Byte) (ws : List Word) (dc : Half) (s : State), s.powered → s.mode ≠ mASCENT → ws.length = lenWords len.toNat → crc16 (wordBytes ws) ≠ dc.toNat → 
      GoesRaise (.spiWrite a len c ws dc) s { s with spi := { s.spi with resp := withCrc [stCRC_ERROR, 0] } }
      [oneMore s SPI.CNT_XACT_REFUSED, (SPI.SPI_STAT_LAST_STATUS, stCRC_ERROR), (SPI.SPI_STAT_LAST_WIDX, 0), oneMore s SPI.CNT_ERR_CRC] 248 [])
  ∧ (∀ (a : BitVec 24) (len c : Byte) (ws : List Word) (dc : Half) (s : State), s.powered → ws.length < lenWords len.toNat → 
      GoesSet (.spiWrite a len c ws dc) s s [oneMore s SPI.CNT_ERR_ABANDONED])
  ∧ (∀ (a : BitVec 24) (len c : Byte) (s : State), s.powered → crc8 (headBytes 0xC3 a.toNat len.toNat) = c.toNat → s.hostReady .spi → s.spiShut false a.toNat = false → 
      GoesSet (.spiStatus a len c) s { s with spi := { s.spi with resp := withCrc [stOK, 0, s.getF SPI.SPI_STAT_LAST_STATUS, s.getF SPI.SPI_STAT_LAST_WIDX, s.irqLow.toNat + 2 * s.ps.scanning.toNat, 0] } }
      [oneMore s SPI.CNT_XACT_OK])
  ∧ (∀ (k : Byte) (a : BitVec 24) (len c : Byte) (s : State), s.powered → k ≠ 0xA1 → k ≠ 0xB2 → k ≠ 0xC3 → crc8 (headBytes k.toNat a.toNat len.toNat) = c.toNat → s.hostReady .spi → s.spiShut false a.toNat = false → 
      GoesSet (.spiUnknownCmd k a len c) s { s with spi := { s.spi with resp := withCrc [stBAD_ADDRESS, 0] } } [oneMore s SPI.CNT_XACT_REFUSED])
  ∧ (∀ (s : State), s.powered → 
      GoesSet (.spiCsAbandon 0xB2) s s [oneMore s SPI.CNT_ERR_ABANDONED])
  ∧ (∀ (h : MsgHead) (a : BitVec 24) (len c : Byte) (s : State), s.portHears (portNo h.port) → h.dst.toNat = s.nodeAddr (portNo h.port) → portNo h.port ≠ 4 → crc16 (identBytes 0x10 h.dst.toNat h.src.toNat h.tag.toNat ++ (headBytes 0xA1 a.toNat len.toNat ++ [c.toNat])) = h.crc.toNat → 
      exec (.pageReq h 0xA1 a len c [] 0) s = .next ((s.incSat (cntRxFrames (portNo h.port))).pageServed h 0xA1 a.toNat len.toNat c.toNat [] 0))
  ∧ (∀ (h : MsgHead) (a : BitVec 24) (len c : Byte) (ws : List Word) (dc : Half) (s : State), s.portHears (portNo h.port) → h.dst.toNat = s.nodeAddr (portNo h.port) → (portNo h.port = 4 → h.src = h.node) → crc16 (identBytes 0x10 h.dst.toNat h.src.toNat h.tag.toNat ++ (headBytes 0xB2 a.toNat len.toNat ++ [c.toNat] ++ wordBytes ws ++ leBytes 2 dc.toNat)) = h.crc.toNat → 
      exec (.pageReq h 0xB2 a len c ws dc) s = .next ((s.incSat (cntRxFrames (portNo h.port))).pageServed h 0xB2 a.toNat len.toNat c.toNat ws dc.toNat))

/-- Parameter-store commands queue, refuse or scan; a record is written page by page (R478, R480, R481, R482, 16_parameter_store_and_cairn.md). -/
def Obligations.ParameterStore : Prop :=
  (∀ (r : Requester) (id : Half) (p : List Byte) (v : State) (s : State), Accepts s r PSTORE.PS_CMD (2 ^ 31 + 1 * 2 ^ 24 + id.toNat) → v = Stored s r PSTORE.PS_CMD (2 ^ 31 + 1 * 2 ^ 24 + id.toNat) → s.getB PSTORE.PS_STAT_BUSY = false → psIsConfig id.toNat → v.cfgBuild id.toNat = some p → v.psUnchanged id.toNat p = false → 
      GoesSet (.psSave r id) s { v with ps := { (v.psQueue id.toNat p).ps with cmd := [id.toNat] } } [(PSTORE.PS_STAT_QUEUED, (v.psQueue id.toNat p).ps.queue.length % 2 ^ PSTORE.PS_STAT_QUEUED.w), (PSTORE.PS_STAT_BUSY, 1), (PSTORE.PS_STAT_RESULT, prNONE), (PSTORE.PS_STAT_CAUSE, 0)])
  ∧ (∀ (r : Requester) (id : Half) (p : List Byte) (v : State) (s : State), Accepts s r PSTORE.PS_CMD (2 ^ 31 + 1 * 2 ^ 24 + id.toNat) → v = Stored s r PSTORE.PS_CMD (2 ^ 31 + 1 * 2 ^ 24 + id.toNat) → s.getB PSTORE.PS_STAT_BUSY = false → psIsConfig id.toNat → v.cfgBuild id.toNat = some p → v.psUnchanged id.toNat p → 
      GoesSet (.psSave r id) s v [(PSTORE.PS_STAT_RESULT, prUNCHANGED), (PSTORE.PS_STAT_CAUSE, 0)])
  ∧ (∀ (r : Requester) (id : Half) (s : State), Accepts s r PSTORE.PS_CMD (2 ^ 31 + 1 * 2 ^ 24 + id.toNat) → s.getB PSTORE.PS_STAT_BUSY = false → psIsConfig id.toNat = false → 
      GoesSet (.psSave r id) s (Stored s r PSTORE.PS_CMD (2 ^ 31 + 1 * 2 ^ 24 + id.toNat)) [(PSTORE.PS_STAT_RESULT, prREFUSED), (PSTORE.PS_STAT_CAUSE, 3)])
  ∧ (∀ (r : Requester) (id : Half) (s : State), Accepts s r PSTORE.PS_CMD (2 ^ 31 + 1 * 2 ^ 24 + id.toNat) → s.getB PSTORE.PS_STAT_BUSY → 
      GoesSet (.psSave r id) s (Stored s r PSTORE.PS_CMD (2 ^ 31 + 1 * 2 ^ 24 + id.toNat)) [(PSTORE.PS_STAT_RESULT, prREFUSED), (PSTORE.PS_STAT_CAUSE, 6)])
  ∧ (∀ (r : Requester) (v : State) (s : State), Accepts s r PSTORE.PS_CMD (2 ^ 31 + 2 * 2 ^ 24) → v = Stored s r PSTORE.PS_CMD (2 ^ 31 + 2 * 2 ^ 24) → s.getB PSTORE.PS_STAT_BUSY = false → psConfigIds.all (fun i => (v.cfgBuild i).isSome) → 
      exec (.psSaveAll r) s = .next (v.psStart (psConfigIds.map (fun i => (i, (v.cfgBuild i).getD [])))))
  ∧ (∀ (r : Requester) (id : Half) (v : State) (s : State), Accepts s r PSTORE.PS_CMD (2 ^ 31 + 3 * 2 ^ 24 + id.toNat) → v = Stored s r PSTORE.PS_CMD (2 ^ 31 + 3 * 2 ^ 24 + id.toNat) → s.getB PSTORE.PS_STAT_BUSY = false → s.mode = mSERVICE → psIsConfig id.toNat → v.psUnchanged id.toNat [] = false → 
      GoesSet (.psResetCfg r id) s { v with ps := { (v.psQueue id.toNat []).ps with cmd := [id.toNat] } } [(PSTORE.PS_STAT_QUEUED, (v.psQueue id.toNat []).ps.queue.length % 2 ^ PSTORE.PS_STAT_QUEUED.w), (PSTORE.PS_STAT_BUSY, 1), (PSTORE.PS_STAT_RESULT, prNONE), (PSTORE.PS_STAT_CAUSE, 0)])
  ∧ (∀ (r : Requester) (id : Half) (s : State), Accepts s r PSTORE.PS_CMD (2 ^ 31 + 3 * 2 ^ 24 + id.toNat) → s.getB PSTORE.PS_STAT_BUSY = false → psIsConfig id.toNat → s.mode ≠ mSERVICE → 
      GoesSet (.psResetCfg r id) s (Stored s r PSTORE.PS_CMD (2 ^ 31 + 3 * 2 ^ 24 + id.toNat)) [(PSTORE.PS_STAT_RESULT, prREFUSED), (PSTORE.PS_STAT_CAUSE, 5)])
  ∧ (∀ (r : Requester) (s : State), Accepts s r PSTORE.PS_CMD (2 ^ 31 + 4 * 2 ^ 24) → s.getB PSTORE.PS_STAT_BUSY = false → s.mode = mSERVICE → 
      GoesSet (.psVerify r) s { Stored s r PSTORE.PS_CMD (2 ^ 31 + 4 * 2 ^ 24) with ps := { s.ps with scanning := true } } [(PSTORE.PS_STAT_BUSY, 1), (PSTORE.PS_STAT_RESULT, prNONE), (PSTORE.PS_STAT_CAUSE, 0)])
  ∧ (∀ (r : Requester) (s : State), Accepts s r PSTORE.PS_CMD (2 ^ 31 + 4 * 2 ^ 24) → s.getB PSTORE.PS_STAT_BUSY = false → s.mode ≠ mSERVICE → 
      GoesSet (.psVerify r) s (Stored s r PSTORE.PS_CMD (2 ^ 31 + 4 * 2 ^ 24)) [(PSTORE.PS_STAT_RESULT, prREFUSED), (PSTORE.PS_STAT_CAUSE, 5)])
  ∧ (∀ (f : StoreScan) (s : State), s.powered → s.ps.scanning → 
      exec (.verifyScanEnd f) s = .next ((((({ s with ps := { s.ps with scanning := false } }).setF PSTORE.PS_STAT_BUSY 0).setF PSTORE.PS_STAT_RESULT prDONE).setF PSTORE.PS_STAT_CAUSE 0).psScan f))
  ∧ (∀ (w : PsWrite) (s : State), s.psNextWrite = some w → s.powered → s.nvOk → s.dev.mpuRestart = false → s.dmMoves 7 → s.ps.scanning = false → s.ps.flight = none → 
      Goes .recordWriteStart s (fun t => t.ps.flight = some ⟨w.id, (s.psNext w.id).1, w.form, s.psNow w, psEncodeS w.id w.form (s.psNext w.id).2 (s.bank s.runBank).schemaMax (s.psNow w), 0⟩ ∧
      t.ps.queue = s.ps.queue.filter (fun x => x.id ≠ w.id) ∧ t.ps.slots = s.ps.slots ∧ t = { s with regs := t.regs, ps := t.ps } ∧
      ∀ a, a ≠ PSTORE.PS_STAT_QUEUED.addr → a ≠ IMAGE.MIGRATE_HELD.addr → t.getReg a = s.getReg a))
  ∧ (∀ (f : PsFlight) (s : State), s.ps.flight = some f → s.powered → 64 * (f.pages + 1) < f.bytes.length → s.getB CLKPWR.VIN_MV_WARN = false → 
      Goes .pageProgramDone s (fun t => t.ps.flight = some { f with pages := f.pages + 1 } ∧ (t.psCopy f.id f.copyB).bytes.take (64 * (f.pages + 1)) = f.bytes.take (64 * (f.pages + 1)) ∧
      t.ps.queue = s.ps.queue ∧ t = { s with regs := t.regs, ps := t.ps } ∧ (∀ a, a ≠ PSTORE.PROGS → t.getReg a = s.getReg a) ∧ t.getN PSTORE.PROGS = (s.getN PSTORE.PROGS + 1) % 2 ^ 32))
  ∧ (∀ (f : PsFlight) (s : State), s.ps.flight = some f → s.powered → f.bytes.length ≤ 64 * (f.pages + 1) → 
      exec .pageProgramDone s = .next ((({ s.psProgram with ps := { s.psProgram.ps with flight := none } }).psWritten f.id f.payload).psShow))

/-- The recorder flushes, takes time corrections and is cleared only under its conditions (R492, R497, R498, 16_parameter_store_and_cairn.md). -/
def Obligations.CairnCommands : Prop :=
  (∀ (l : CairnRec) (s : State), s.powered → s.nvOk → s.mpuRuns → s.cairn.clearSeq = none → s.cairn.staged.getLast? = some l → s.cairn.rewrite = none → 
      Goes .cairnFlush s (fun t => t.cairn.nv = s.cairn.nv ++ s.cairn.staged ∧ t.cairn.staged = [] ∧ t.getN CAIRN.WRITTEN_SEQ = l.seq % 2 ^ 32 ∧ t.cairnN = s.cairnN ∧
      t = { s with regs := t.regs, cairn := t.cairn } ∧ ∀ a, a / 0x1000 ≠ pCAIRN → t.getReg a = s.getReg a))
  ∧ (∀ (s : State), s.powered → s.nvOk → s.mpuRuns → s.cairn.clearSeq = none → s.cairn.staged = [] → 
      exec .cairnFlush s = .next s)
  ∧ (∀ (r : Requester) (s : State), Accepts s r CAIRN.TC_CMD (2 ^ 31) → (32704 ≤ s.cairnN ∨ 256 ≤ s.cairn.staged.length) → 
      GoesSet (.tcCmdGo r) s (Stored s r CAIRN.TC_CMD (2 ^ 31)) [(CAIRN.TC_CMD_RESULT, prREFUSED)])
  ∧ (∀ (r : Requester) (s v : State), Accepts s r CAIRN.TC_CMD (2 ^ 31) → v = ((Stored s r CAIRN.TC_CMD (2 ^ 31)).setF CAIRN.CAIRN_STAT_TIMECOR 1).setF CAIRN.TC_CMD_RESULT prDONE → s.cairnN < 32704 → s.cairn.staged.length < 256 → 
      exec (.tcCmdGo r) s = .next ((v.cairnStage 255 1 5 false (leBytes 4 (s.getN CAIRN.TC_LO) ++ leBytes 4 (s.getN CAIRN.TC_HI) ++ leBytes 2 (s.getF CAIRN.TC_ERR_ERR))).checkFill))
  ∧ (∀ (r : Requester) (k : Byte) (w c : Nat) (s : State), w = 2 ^ 31 + k.toNat * 2 ^ 8 → Accepts s r CAIRN.CLR_CMD w → ((s.mode ≠ mSERVICE ∧ c = 1) ∨ (s.mode = mSERVICE ∧ k ≠ 0xA7 ∧ c = 2) ∨ (s.mode = mSERVICE ∧ k = 0xA7 ∧ s.cairn.clearSeq.isSome ∧ c = 5) ∨ (s.mode = mSERVICE ∧ k = 0xA7 ∧ s.cairn.clearSeq = none ∧ s.getReg CAIRN.ARCHIVE_ACK ≠ s.getReg CAIRN.LAST_SEQ ∧ c = 3)) → 
      GoesSet (.cairnClear r k) s (Stored s r CAIRN.CLR_CMD w) [(CAIRN.CLR_CMD_RESULT, prREFUSED), (CAIRN.CLR_CMD_CAUSE, c)])
  ∧ (∀ (r : Requester) (w : Nat) (s : State), w = 2 ^ 31 + 0xA7 * 2 ^ 8 → Accepts s r CAIRN.CLR_CMD w → s.mode = mSERVICE → s.cairn.clearSeq = none → s.getReg CAIRN.ARCHIVE_ACK = s.getReg CAIRN.LAST_SEQ → 
      Goes (.cairnClear r 0xA7) s (fun t => t.cairn.clearSeq = some (s.getN CAIRN.LAST_SEQ) ∧ t.cairn.staged = [] ∧ t.cairn.nv.length = 1 ∧ t.cairn.clearOld = s.cairn.nv ∧
      t.getN CAIRN.LAST_SEQ = (s.getN CAIRN.LAST_SEQ + 1) % 2 ^ 32 ∧ t.getN CAIRN.CLEARS = (s.getN CAIRN.CLEARS + 1) % 2 ^ 32 ∧ t.getB CAIRN.CAIRN_STAT_CLEARING = true ∧
      t.getF CAIRN.CLR_CMD_RESULT = prNONE ∧ t.mem = s.mem ∧ (∃ q ∈ t.ps.queue, q.id = 0x200) ∧ ∀ q ∈ t.cairn.nv, q.kind = 6 ∧ q.seq = (s.getN CAIRN.LAST_SEQ + 1) % 2 ^ 32))
  ∧ (∀ (l : Nat) (s : State), s.powered → s.nvOk → s.mpuRuns → s.cairn.clearSeq = some l → 
      Goes .cairnClearComplete s (fun t => t.cairn.clearSeq = none ∧ t.cairn.clearOld = [] ∧ t.cairn.nv.length = 1 ∧ t.getN CAIRN.WRITTEN_SEQ = (l + 1) % 2 ^ 32 ∧ t.getB CAIRN.CAIRN_STAT_CLEARING = false ∧
      t.getF CAIRN.CLR_CMD_RESULT = prDONE ∧ t.getF CAIRN.CLR_CMD_CAUSE = 0 ∧ t.getCond 227 = false ∧ t.getAct 227 = false ∧ t.getCond 228 = false ∧ t.getAct 228 = false ∧
      t.cairn.staged = s.cairn.staged ∧ t = { s with regs := t.regs, cairn := t.cairn } ∧ ∀ a, a / 0x1000 ≠ pCAIRN → a / 0x1000 ≠ pFCOL → t.getReg a = s.getReg a))

/-- A write of CAIRN.RD_SEQ selects 32 records, shown as stored and as zeros where not held (R495). -/
def Obligations.CairnRecordWindow : Prop :=
  ∀ (r : Requester) (q : Word) (s : State), Accepts s r CAIRN.RD_SEQ q.toNat → 
      Goes (.cairnRdSeq r q) s (fun t => t.getReg CAIRN.RD_SEQ = q ∧ (∀ i : Fin 32, ∀ j : Fin 8, t.viewWord pCAIRN (0x400 + 32 * i + 4 * j) =
      match (s.cairn.nv ++ s.cairn.staged).find? (fun x => x.seq = (q.toNat + i) % 2 ^ 32) with | some x => entryWord x.bytes j | none => 0) ∧
      Sets (s.ownerTouch pCAIRN r) t [whole CAIRN.RD_SEQ q, pageChg s pCAIRN])

/-- A firmware stream begins, takes its words, is checked and verified, or ends (R530, R531, R532, R533, 18_firmware_update.md). -/
def Obligations.ImageStream : Prop :=
  (∀ (r : Requester) (s v : State), Accepts s r IMAGE.IMG_CMD (2 ^ 31 + 1 * 2 ^ 24) → v = Stored s r IMAGE.IMG_CMD (2 ^ 31 + 1 * 2 ^ 24) → s.getB IMAGE.RUN_STAT_TRIAL = false → s.imgStreams = false → s.nvOk → 
      GoesSet (.imageBegin r) s (v.putBank s.target ⟨[], false, true⟩) [whole IMAGE.WR_OFS 0, whole IMAGE.FW_VER_TGT 0, (IMAGE.IMG_STAT_REFUSE, 0), (IMAGE.IMG_STAT_STATE, imRECEIVING), (IMAGE.IMG_STAT_BUSY, 0),
      (IMAGE.IMG_STAT_RESULT, 1), (IMAGE.IMG_STAT_CMD_CAUSE, 0)])
  ∧ (∀ (r : Requester) (s : State), Accepts s r IMAGE.IMG_CMD (2 ^ 31 + 1 * 2 ^ 24) → (s.getB IMAGE.RUN_STAT_TRIAL ∨ s.imgStreams ∨ s.nvOk = false) → 
      GoesSet (.imageBegin r) s (Stored s r IMAGE.IMG_CMD (2 ^ 31 + 1 * 2 ^ 24)) [(IMAGE.IMG_STAT_RESULT, 2), (IMAGE.IMG_STAT_CMD_CAUSE, 7)])
  ∧ (∀ (r : Requester) (s : State), Accepts s r IMAGE.IMG_CMD (2 ^ 31 + 2 * 2 ^ 24) → s.imgStreams → 
      GoesSet (.imageAbort r) s (Stored s r IMAGE.IMG_CMD (2 ^ 31 + 2 * 2 ^ 24)) [(IMAGE.IMG_STAT_STATE, imIDLE), (IMAGE.IMG_STAT_BUSY, 0), (IMAGE.IMG_STAT_RESULT, 1), (IMAGE.IMG_STAT_CMD_CAUSE, 0)])
  ∧ (∀ (r : Requester) (ws : List Word) (s : State), s.portOpen r → s.txCheck r (0x1000 * pIMAGE + 0x100) ws.length true = none → s.mayWrite pIMAGE r → s.imgState = imRECEIVING → s.nvOk → s.getN IMAGE.WR_OFS + 4 * ws.length < 512 → ws.length ≤ 64 → s.img.banks.length = 2 → 
      Goes (.imgDataWrite r (BitVec.ofNat 24 (0x1000 * pIMAGE + 0x100)) ws) s (fun t => t.getN IMAGE.WR_OFS = s.getN IMAGE.WR_OFS + 4 * ws.length ∧
      t.bank s.target = { s.bank s.target with bytes := (s.bank s.target).bytes ++ ((ws.map (fun w => leBytes 4 w.toNat)).flatten).map (BitVec.ofNat 8) } ∧ t.imgState = imRECEIVING ∧
      t.mem = s.mem ∧ ∀ a, a ≠ IMAGE.WR_OFS → a ≠ (pgChgCount pIMAGE).addr → t.getReg a = s.getReg a))
  ∧ (∀ (s : State) (c : Nat), s.powered → s.imgState = imCHECKING → c = s.headerFail { s.bank s.target with bad := false } → c ≠ 0 → 
      GoesRaise .imageHeaderChecked s s [(IMAGE.IMG_STAT_REFUSE, c), (IMAGE.IMG_STAT_STATE, imFAILED), (IMAGE.IMG_STAT_BUSY, 0)] 229 (c :: leBytes 4 (s.bank s.target).fwVer.toNat))
  ∧ (∀ (s : State), s.powered → s.imgState = imCHECKING → s.headerFail { s.bank s.target with bad := false } = 0 → 
      GoesSet .imageHeaderChecked s s [whole IMAGE.FW_VER_TGT (s.bank s.target).fwVer, (IMAGE.IMG_STAT_STATE, imSTREAMING), (IMAGE.IMG_STAT_BUSY, 0)])
  ∧ (∀ (s : State), s.powered → s.imgState = imVERIFYING → 
      exec (.imageVerified false) s = .next (if bodyOk (s.bank s.target) then ((s.putBank s.target { s.bank s.target with bad := false }).setF IMAGE.IMG_STAT_STATE imREADY).setF IMAGE.IMG_STAT_BUSY 0
      else ((s.setF IMAGE.IMG_STAT_STATE imFAILED).setF IMAGE.IMG_STAT_BUSY 0).raise 230 [1, s.target.toNat]))
  ∧ (∀ (s : State), s.powered → s.imgState = imVERIFYING → 
      GoesRaise (.imageVerified true) s s [(IMAGE.IMG_STAT_STATE, imFAILED), (IMAGE.IMG_STAT_BUSY, 0)] 230 [2, s.target.toNat])
  ∧ (∀ (s : State), s.powered → s.imgStreams → 
      GoesSet .imageStreamInterrupt s s [(IMAGE.IMG_STAT_STATE, imIDLE), (IMAGE.IMG_STAT_BUSY, 0)])

/-- Activation pauses management and starts the target on trial; confirm keeps it, expiry returns (R536, R537, R541, R542, 18_firmware_update.md). -/
def Obligations.ImageActivation : Prop :=
  (∀ (r : Requester) (k : Byte) (w c : Nat) (s : State), w = 2 ^ 31 + 3 * 2 ^ 24 + k.toNat * 2 ^ 8 → Accepts s r IMAGE.IMG_CMD w → s.mode ≠ mASCENT → ((((s.mode = mHOLDUP) ∨ s.getB DEV.MODE_STAT_DESCENT) ∧ c = 1) ∨ (s.mode = mRUN ∧ s.getB DEV.MODE_STAT_DESCENT = false ∧ ((s.imgState ≠ imREADY ∧ c = 2) ∨ (s.imgState = imREADY ∧ k ≠ 0x5A ∧ c = 3) ∨
      (s.imgState = imREADY ∧ k = 0x5A ∧ s.nvOk = false ∧ c = 4) ∨ (s.imgState = imREADY ∧ k = 0x5A ∧ s.nvOk ∧ s.getB IMAGE.RUN_STAT_TRIAL ∧ c = 5)))) → 
      GoesSet (.activate r k) s (Stored s r IMAGE.IMG_CMD w) [(IMAGE.IMG_STAT_RESULT, 2), (IMAGE.IMG_STAT_CMD_CAUSE, c)])
  ∧ (∀ (r : Requester) (w : Nat) (s v : State), w = 2 ^ 31 + 3 * 2 ^ 24 + 0x5A * 2 ^ 8 → Accepts s r IMAGE.IMG_CMD w → (s.mode = mWATCH ∨ s.mode = mRUN ∨ s.mode = mDEGRADED ∨ s.mode = mSERVICE) → s.getB DEV.MODE_STAT_DESCENT = false → s.imgState = imREADY → s.nvOk → s.getB IMAGE.RUN_STAT_TRIAL = false → v = (Stored s r IMAGE.IMG_CMD w).queueTrial true → 
      GoesSet (.activate r 0x5A) s { v with img := { v.img with pause := .activate }, dev := { v.dev with updatePause := true } } [(EST.EST_STAT_HELD, 1), (IMAGE.IMG_STAT_RESULT, 1), (IMAGE.IMG_STAT_CMD_CAUSE, 0)])
  ∧ (∀ (s : State), s.img.pause = .activate → s.bankFail (s.bank s.target) = 0 → 
      Goes .activationPauseEnd s (fun t => ∃ u, u = (s.mpuStart s.target).setImg imIDLE ∧ t = ({ u with img := { u.img with pause := .none, pauseEndUs := u.dev.nowUs, sevSeen := false }, dev := { u.dev with updatePause := false } }).setF IMAGE.RUN_STAT_TRIAL 1))
  ∧ (∀ (c : Nat) (s : State), s.img.pause = .activate → c = s.bankFail (s.bank s.target) → c ≠ 0 → 
      Goes .activationPauseEnd s (fun t => ∃ u, u = ((s.queueTrial false).mpuStart s.activeBank).setImg imIDLE ∧ t = ({ u with img := { u.img with pause := .none, pauseEndUs := u.dev.nowUs, sevSeen := false }, dev := { u.dev with updatePause := false } }).raise 232 [s.activeBank.toNat, c]))
  ∧ (∀ (s : State), s.img.pause = .fallback → 
      Goes .activationPauseEnd s (fun t => ∃ u, u = (s.mpuStart s.activeBank).setImg imIDLE ∧ t = ({ u with img := { u.img with pause := .none, pauseEndUs := u.dev.nowUs, sevSeen := false }, dev := { u.dev with updatePause := false } })))
  ∧ (∀ (r : Requester) (w : Nat) (s v : State), w = 2 ^ 31 + 4 * 2 ^ 24 + 0x5A * 2 ^ 8 → Accepts s r IMAGE.IMG_CMD w → s.getB IMAGE.RUN_STAT_TRIAL → s.nvOk → v = (Stored s r IMAGE.IMG_CMD w).imgConfirmed → 
      GoesSet (.confirm r 0x5A) s v [(IMAGE.IMG_STAT_RESULT, 1), (IMAGE.IMG_STAT_CMD_CAUSE, 0)] ∧ v.dev.otpRollback = max s.dev.otpRollback (s.bank s.runBank).rollback ∧ v.getB IMAGE.RUN_STAT_TRIAL = false)
  ∧ (∀ (r : Requester) (k : Byte) (w : Nat) (s : State), w = 2 ^ 31 + 4 * 2 ^ 24 + k.toNat * 2 ^ 8 → Accepts s r IMAGE.IMG_CMD w → (s.getB IMAGE.RUN_STAT_TRIAL = false ∨ k ≠ 0x5A ∨ s.nvOk = false) → 
      GoesSet (.confirm r k) s (Stored s r IMAGE.IMG_CMD w) [(IMAGE.IMG_STAT_RESULT, 2), (IMAGE.IMG_STAT_CMD_CAUSE, 6)])
  ∧ (∀ (s : State), s.powered → s.getB IMAGE.RUN_STAT_TRIAL → s.getB IMAGE.TRIAL_CFG_AUTO_CONFIRM → s.dev.updatePause = false → s.nvOk → s.img.sevSeen = false → 1000000 * s.getF IMAGE.TRIAL_CFG_QUIET_S ≤ s.dev.nowUs - s.img.pauseEndUs → 
      GoesSet .autoConfirm s s.imgConfirmed [(IMAGE.IMG_STAT_RESULT, 1), (IMAGE.IMG_STAT_CMD_CAUSE, 0)])
  ∧ (∀ (s : State), s.powered → s.getB IMAGE.RUN_STAT_TRIAL → s.dev.updatePause = false → 30000000 ≤ s.dev.nowUs - s.img.pauseEndUs → 
      exec .trialExpiry s = .next (((((s.setF IMAGE.RUN_STAT_TRIAL 0).dropHeld.queueTrial false).pauseStart .fallback)).raise 231 (1 :: leBytes 4 (s.bank s.runBank).fwVer.toNat)))

/-- Ridge link, copies, HELLO, YIELD and relays in a pair (R87, R448, R450, R454, R456, R457, R467, R468, 15_redundant_pair.md). -/
def Obligations.RidgeEvents : Prop :=
  (∀ (rtt : Half) (s : State), s.powered → s.isPair → s.getB RIDGE.PAIR_STAT_LINK = false → 
      GoesSet (.ridgeLinkUp rtt) s s [(RIDGE.LINK_STAT_RTT, rtt.toNat), (RIDGE.PAIR_STAT_LINK, 1)])
  ∧ (∀ (s : State), s.powered → s.isPair → s.getB RIDGE.PAIR_STAT_LINK → 
      exec .ridgeLinkDown s = .next s.ridgeDown)
  ∧ (∀ (s : State), s.isStandby → s.getB RIDGE.PAIR_STAT_LINK → s.getB RIDGE.PAIR_STAT_BELAY_LOW = false → s.getF (FCOL_SEV.SEV_SEV 208) ≤ 2 → s.cairnN + 1 < 32704 → 
      GoesRaise .ridgeLinkDown s (s.updPair (fun x => { x with revertFrom := none })) [(RIDGE.PAIR_STAT_LINK, 0), (RIDGE.PAIR_STAT_GRID_LOCK, 0), (RIDGE.PAIR_STAT_PARTNER_HEALTHY, 0),
      (RIDGE.PAIR_STAT_REVERT_PEND, 0), (RIDGE.REVERT_LEFT_S, 0)] 208 [1])
  ∧ (∀ (l : List Nat) (s : State), s.powered → s.isPair → l = (s.dev.nowUs :: s.pair.relocks).filter (fun t => s.dev.nowUs - t ≤ 1000000) → l.length < 3 → 
      GoesSet .ridgeRelock s (s.updPair (fun x => { x with relocks := l })) [])
  ∧ (∀ (s : State), s.powered → s.isPair → 3 ≤ ((s.dev.nowUs :: s.pair.relocks).filter (fun t => s.dev.nowUs - t ≤ 1000000)).length → 
      GoesRaise .ridgeRelock s (s.updPair (fun x => { x with relocks := [] })) [] 208 [2])
  ∧ (∀ (c : StateCopy) (s : State), s.operating → s.isStandby → s.getB RIDGE.PAIR_STAT_LINK → c.beacon → c.gridErrNs.natAbs ≤ 10 → 
      GoesSet (.copyRx c) s (s.updPair (fun x => { x with gridBad := 0, missRun := 0, settled := true })) [(RIDGE.LINK_STAT_GRID_ERR, toBits 16 c.gridErrNs), (RIDGE.PAIR_STAT_GRID_LOCK, 1), (RIDGE.PAIR_STAT_DEMOTED, 0)])
  ∧ (∀ (c : StateCopy) (s : State), s.operating → s.isStandby → s.getB RIDGE.PAIR_STAT_LINK → c.beacon = false → 
      Goes (.copyRx c) s (fun t => t.pair.copy = some c ∧ t.sample.ssn = c.ssn ∧ (t.shelf.cycle = c.cycle.toNat ∨ t.shelf.cycle = (c.cycle.toNat + 1) % 2 ^ 32) ∧
      (c.handover = true → t.pair.taking = true)))
  ∧ (∀ (s v : State), s.operating → s.isStandby → s.pair.copy.isSome → v = ((s.incSat RIDGE.CNT_COPY_MISSED).updPair (fun x => { x with missRun := x.missRun + 1 })).raise 209 (1 :: leBytes 4 s.shelf.cycle) → 
      exec (.copyMissed .notStarted) s = .next (if v.pair.missRun = 3 then v.blockedRaise else v))
  ∧ (∀ (s v : State), s.operating → s.isStandby → s.pair.copy.isSome → v = (((s.incSat RIDGE.CNT_COPY_MISSED).incSat RIDGE.CNT_COPY_CRC).updPair (fun x => { x with missRun := x.missRun + 1 })).raise 209 (2 :: leBytes 4 s.shelf.cycle) → 
      exec (.copyMissed .crc) s = .next (if v.pair.missRun = 3 then v.blockedRaise else v))
  ∧ (∀ (s : State), s.isStandby → s.getB RIDGE.PAIR_STAT_GRID_LOCK → 16 ≤ s.pair.gridBad → 
      GoesRaise .gridLockLost s s [(RIDGE.PAIR_STAT_GRID_LOCK, 0)] 208 [3])
  ∧ (∀ (h : Hello) (s : State), s.powered → s.isPair → s.getB RIDGE.PAIR_STAT_LINK → s.getF (FCOL_SEV.SEV_SEV 216) ≤ 2 → s.getF (FCOL_SEV.SEV_SEV 212) ≤ 2 → s.cairnN + 2 < 32704 → 
      Goes (.helloExchange h) s (fun t => t.getReg RIDGE.PARTNER_HASH = h.hash ∧ t.getF RIDGE.PAIR_STAT_PARTNER_MODE = h.mode.toNat ∧ t.getB RIDGE.PAIR_STAT_PARTNER_HEALTHY = h.healthy ∧
      t.getB RIDGE.PAIR_STAT_CFG_MATCH = decide (t.getReg RIDGE.CFG_HASH = h.hash) ∧ t.getCond 216 = decide (t.getReg RIDGE.CFG_HASH ≠ h.hash) ∧ t.getCond 212 = !h.healthy ∧
      t.pair.partnerDrives = h.drivesBelay ∧ t.pair.partnerActive = h.active ∧ t.pair.partnerSusp = h.revertSusp ∧ t.mem = s.mem ∧ t.shelf = s.shelf))
  ∧ (∀ (s : State), s.operating → s.isStandby → s.takeBlocked = false → 
      GoesSet .yieldRx s (s.updPair (fun x => { x with yieldSeen := true })) [])
  ∧ (∀ (s : State), s.operating → s.isStandby → s.takeBlocked → 
      GoesRaise .yieldRx s (s.updPair (fun x => { x with yieldSeen := true })) [] 212 [2])
  ∧ (∀ (reason slot : Byte) (s : State), s.operating → s.isPair → s.isActive → 
      GoesRaise (.shadowReportRx reason slot) s (s.updPair (fun x => { x with shadowAt := some s.dev.nowUs })) [] 210 [reason.toNat, 1, slot.toNat])
  ∧ (∀ (f : RelayFrame) (s : State), s.operating → s.isPair → s.getB RIDGE.PAIR_STAT_LINK → s.portLive f.port → f.toNode → f.late = false → (f.frame.getD 1 0).toNat % 16 ≠ 4 → 
      exec (.relayRx f) s = .next (s.queueRaw f.port f.frame))
  ∧ (∀ (f : RelayFrame) (s : State), s.operating → s.isPair → s.getB RIDGE.PAIR_STAT_LINK → s.portLive f.port → f.toNode → f.late → (f.frame.getD 1 0).toNat % 16 ≠ 4 → 
      exec (.relayRx f) s = .next (((s.queueRaw f.port f.frame).incSat RIDGE.CNT_RELAY_LATE).raise 215 [f.port, 2]))
  ∧ (∀ (f : RelayFrame) (s : State), s.operating → s.isPair → s.getB RIDGE.PAIR_STAT_LINK → s.portLive f.port → f.toNode → f.late = false → (f.frame.getD 1 0).toNat % 16 = 4 → 
      exec (.relayRx f) s = .next (s.writeBytes (linkBuf f.port + 0x1800 + 128 * (s.shelf.cycle % 2)) f.frame))
  ∧ (∀ (f : RelayFrame) (x : SampleFrame) (s : State), s.operating → s.isPair → s.getB RIDGE.PAIR_STAT_LINK → s.portLive f.port → f.toNode = false → f.late = false → f.sample = some x → 
      exec (.relayRx f) s = .next (s.sampleIn f.port x))

/-- Roles of a pair: takeover, planned handover, demotion, BELAY_N, revert and the proof test (R446, R458, R459, R460, R461, R463, R464, R467, R471, R473, Table 15-1, 15_redundant_pair.md). -/
def Obligations.PairRoles : Prop :=
  (∀ (s : State), s.operating → s.isStandby → s.takeBlocked = false → 3 ≤ s.pair.missRun → s.dev.late = [] → 
      exec (.takeover .missedCopies) s = .next (s.takeOver 1))
  ∧ (∀ (s : State), s.operating → s.isStandby → s.takeBlocked = false → s.pair.yieldSeen → s.dev.late = [] → 
      exec (.takeover .yield) s = .next (s.takeOver 2))
  ∧ (∀ (s : State), s.operating → s.isStandby → s.takeBlocked = false → s.tokenGone → s.dev.late = [] → 
      exec (.takeover .tokenRelease) s = .next (s.takeOver 3))
  ∧ (∀ (s : State), s.operating → s.isStandby → s.takeBlocked = false → s.pair.yieldSeen → s.pair.copy = none → s.pair.rxLearn = [] → s.proofBusy = false → s.getF (FCOL_SEV.SEV_SEV 11) ≤ 2 → s.getF (FCOL_SEV.SEV_SEV 211) ≤ 2 → s.cairnN + 2 < 32704 → s.dev.late = [] → 
      Goes (.takeover .yield) s (fun t => t.getB RIDGE.PAIR_STAT_ACTIVE = true ∧ t.getF RIDGE.PAIR_STAT_LAST_TAKE = 2 ∧ t.getF RIDGE.EPOCH_EPOCH = s.newEpoch ∧ t.pair.epoch = s.newEpoch ∧ t.pair.yieldSeen = false ∧
      t.pair.firstAt = some s.dev.nowUs ∧ (t.mode = mRUN ∨ t.mode = mDEGRADED)))
  ∧ (∀ (u : Nat) (s : State), s.pair.firstAt = some u → u ≠ s.dev.nowUs → s.dev.late = [] → 
      exec .firstSetpointAfterTakeover s = .next ((s.updPair (fun x => { x with firstAt := none })).setpointStart))
  ∧ (∀ (r : Requester) (s : State), Accepts s r RIDGE.PAIR_CMD 2 → s.isPair → s.getB RIDGE.PAIR_STAT_ACTIVE → s.getB RIDGE.PAIR_STAT_PARTNER_HEALTHY → 
      GoesSet (.pairCmdYield r) s ((Stored s r RIDGE.PAIR_CMD 2).updPair (fun x => { x with yieldReq := true })) [])
  ∧ (∀ (r : Requester) (s : State), Accepts s r RIDGE.PAIR_CMD 2 → (s.isPair = false ∨ s.getB RIDGE.PAIR_STAT_ACTIVE = false ∨ s.getB RIDGE.PAIR_STAT_PARTNER_HEALTHY = false) → 
      GoesSet (.pairCmdYield r) s (Stored s r RIDGE.PAIR_CMD 2) [])
  ∧ (∀ (s : State), s.operating → s.isPair → s.getB RIDGE.PAIR_STAT_ACTIVE → s.pair.handover → 
      exec .plannedHandoverBoundary s = .next s.leaveRole)
  ∧ (∀ (s : State), s.operating → s.isPair → s.getB RIDGE.PAIR_STAT_ACTIVE → s.pair.handover → s.mode = mWATCH → 
      Goes .plannedHandoverBoundary s (fun t => t.getB RIDGE.PAIR_STAT_ACTIVE = false ∧ t.pair.handover = false ∧ t.pair.copy = none ∧ t.shelf.plantOn = false ∧ t.mode = mWATCH))
  ∧ (∀ (r : Requester) (s : State), Accepts s r RIDGE.PAIR_CMD 1 → s.isPair → s.getB RIDGE.PAIR_STAT_ACTIVE = false → s.mode = mSERVICE → s.getF RIDGE.PAIR_STAT_PARTNER_MODE = mSERVICE → s.proofBusy = false → 
      GoesSet (.pairCmdProof r) s ((Stored s r RIDGE.PAIR_CMD 1).updPair (fun x => { x with proofActive := false })) [whole RIDGE.PROOF_STAT 0x80000000])
  ∧ (∀ (r : Requester) (s : State), Accepts s r RIDGE.PAIR_CMD 1 → s.isPair → (s.getB RIDGE.PAIR_STAT_ACTIVE ∨ s.mode ≠ mSERVICE ∨ s.getF RIDGE.PAIR_STAT_PARTNER_MODE ≠ mSERVICE ∨ s.proofBusy) → 
      GoesSet (.pairCmdProof r) s (Stored s r RIDGE.PAIR_CMD 1) [(RIDGE.PROOF_STAT_RESULT, 3)])
  ∧ (∀ (index : Byte) (s : State), s.proofBusy → (s.getB RIDGE.PAIR_STAT_ACTIVE = false ∨ s.pair.proofActive) → 
      GoesSet (.proofTestEnd 0 index) s s [(RIDGE.PROOF_STAT_BUSY, 0), (RIDGE.PROOF_STAT_RESULT, 1), (RIDGE.PROOF_STAT_FAIL_STEP, 0), (RIDGE.PROOF_STAT_FAIL_INDEX, 0)])
  ∧ (∀ (step : BitVec 4) (index : Byte) (s : State), s.proofBusy → (s.getB RIDGE.PAIR_STAT_ACTIVE = false ∨ s.pair.proofActive) → step ≠ 0 → 
      GoesRaise (.proofTestEnd step index) s s [(RIDGE.PROOF_STAT_BUSY, 0), (RIDGE.PROOF_STAT_RESULT, 2), (RIDGE.PROOF_STAT_FAIL_STEP, step.toNat), (RIDGE.PROOF_STAT_FAIL_INDEX, index.toNat)] 217 [step.toNat, index.toNat])
  ∧ (∀ (n : NewerEpoch) (s : State), s.operating → s.isPair → s.isActive → epochNewer n.epoch.toNat (s.getF RIDGE.EPOCH_EPOCH) → 
      exec (.epochDemote n) s = .next ((((s.leaveRole.setF RIDGE.PAIR_STAT_DEMOTED 1).setF RIDGE.PAIR_STAT_BELAY_OWN 0).updPair (fun x => { x with demotedAt := s.dev.nowUs })).raise 213 (n.port.val :: leBytes 2 n.epoch.toNat)))
  ∧ (∀ (s : State), s.pair.demotedAt + 100000 * s.getF RIDGE.PAIR_TMO_DEMOTE_HOLD ≤ s.dev.nowUs → 
      GoesSet .demoteHoldExpiry s s [(RIDGE.PAIR_STAT_DEMOTED, 0)])
  ∧ (∀ (s : State), s.isPair → s.mode = mWATCH → s.isStandby → s.pair.settled = false → s.getB RIDGE.PAIR_STAT_LINK = false → s.dev.form = 1 → (s.getB RIDGE.PAIR_CFG_BELAY_EN = false ∨ s.getB RIDGE.PAIR_STAT_BELAY_OWN) → s.pair.watchAt + 1000 * s.getF RIDGE.PAIR_TMO_PARTNER_WAIT ≤ s.dev.nowUs → 
      exec .partnerWaitExpiry s = .next (s.settleActive.raise 212 [1]))
  ∧ (∀ (s : State), s.isStandby → s.mode = mWATCH → s.pair.settled = false → s.getB RIDGE.PAIR_STAT_LINK → s.dev.form = 1 → s.pair.copy = none → (s.getB RIDGE.PAIR_CFG_BELAY_EN = false ∨ s.getB RIDGE.PAIR_STAT_BELAY_OWN) → s.getF RIDGE.PAIR_STAT_PARTNER_MODE = mWATCH → 
      exec .roleSettle s = .next s.settleActive)
  ∧ (∀ (s : State), s.isStandby → s.mode = mWATCH → s.pair.settled = false → s.getB RIDGE.PAIR_STAT_LINK → s.dev.form = 2 → 
      GoesSet .roleSettle s (s.updPair (fun x => { x with settled := true })) [])
  ∧ (∀ (s : State), s.operating → s.isPair → s.getB RIDGE.PAIR_CFG_BELAY_EN → s.getB RIDGE.PAIR_STAT_BELAY_OWN = false → s.getB RIDGE.PAIR_STAT_BELAY_LOW = false → s.getB (SEQ.INP_STAT_STUCK 4) = false → 
      GoesSet (.belayClaim true) s s [(RIDGE.PAIR_STAT_BELAY_OWN, 1), oneMore s RIDGE.CNT_BELAY_CLAIMS] ∧ GoesSet (.belayClaim false) s s [oneMore s RIDGE.CNT_BELAY_ARB_LOST])
  ∧ (∀ (s : State), s.isPair → s.getB RIDGE.PAIR_STAT_BELAY_OWN → (s.pair.handover ∨ s.pair.yielded ∨ s.getB RIDGE.PAIR_STAT_DEMOTED ∨ s.getB RIDGE.PAIR_STAT_ACTIVE = false) → 
      GoesSet .belayRelease s s [(RIDGE.PAIR_STAT_BELAY_OWN, 0)])
  ∧ (∀ (s : State), s.revertOk → s.revertStep.getF RIDGE.REVERT_LEFT_S = 0 → 
      Goes .revertHoldoffExpiry s (fun t => t.pair.revertSent = true ∧ t.getB RIDGE.PAIR_STAT_REVERT_PEND = true ∧ t.getF RIDGE.REVERT_LEFT_S = 0 ∧ t.mem = s.mem))
  ∧ (∀ (s : State), s.operating → s.dev.form = 2 → s.isActive → s.getB RIDGE.PAIR_CFG_REVERT_SUSP = false → 
      GoesSet .revertReqRx s (s.updPair (fun x => { x with yieldReq := true })) [])
  ∧ (∀ (r : Requester) (s : State), Accepts s r RIDGE.CNT_CTRL 1 → 
      GoesSet (.ridgeCntClr r) s (Stored s r RIDGE.CNT_CTRL 1) [whole RIDGE.CNT_COPY 0, whole RIDGE.CNT_RELAY 0, whole RIDGE.CNT_SHADOW 0, whole RIDGE.CNT_BELAY 0])

/-- RST_N low resets every region but AON: registers read their Reset, pages are OFF (R57, R77, R78, Table 3-7, Table 3-8). -/
def Obligations.DeviceReset : Prop :=
  ∀ (s : State), 
      Goes .rstNLow s (fun t => t.mode = mASCENT ∧ t.getF ⟨DEV.RST_CAUSE, rcRST_N, 1⟩ = 1 ∧ t.getF DEV.RST_CAUSE_LAST = rcRST_N ∧
      (∀ b : Fin 7, b.val ≠ rcRST_N → t.getF ⟨DEV.RST_CAUSE, b, 1⟩ = s.getF ⟨DEV.RST_CAUSE, b, 1⟩) ∧
      (∀ a, a ∉ [DEV.MODE_STAT_FORM.addr, DEV.DEV_ID_GRADE.addr, DEV.TJ_HOT_TJ_HOT.addr, CLKPWR.CLK_STAT_HFO_SRC.addr, RIDGE.PAIR_STAT_PAIR.addr, IMAGE.ROLLBACK_OTP.addr, T1S.MAC_LO, T1S.MAC_HI_MAC.addr,
        DEV.RST_CAUSE, DEV.WAKE_CTRL, DEV.ASCENT_COUNT, CLKPWR.VIN_MV, CLKPWR.VHOLD_MV, DEV.ASCENT_STAT_FAILS.addr, CAIRN.CLR_CMD] → t.getReg a = resetWord a) ∧
      (s.cairn.clearSeq = none → t.getReg CAIRN.CLR_CMD = 0) ∧
      (∀ p ∈ allPages, alwaysRunning p = false → t.pgState p = psOFF) ∧ t.mem = [] ∧ t.pending = s.pending ∧ (s.mode ≠ mDORMANT → t.dev.nowUs = s.dev.nowUs) ∧ t.cairn.staged = s.cairn.staged ∧
      (s.cairn.clearSeq = none → t.cairn.nv = s.cairn.nv) ∧ t.img.banks = s.img.banks ∧ t.img.keys = s.img.keys ∧ (s.ps.flight = none → t.ps.slots = s.ps.slots))

/-- Resets, brown-outs, the ascent's end or failure, and wakes (R60, R65, R70, R76, R80, R87, R552, 03_modes_and_ascent.md). -/
def Obligations.ResetsAndAscent : Prop :=
  (∀ (s : State), s.dev.aonUp → 
      exec .deviceResetPor s = .next (({ s with dev := { s.dev with vinPor := false } }).deviceReset rcPOR))
  ∧ (∀ (s : State), s.dev.aonUp = false → 
      exec .deviceResetPor s = .next ((({ s with dev := { s.dev with vinPor := false } }).deviceReset rcPOR).aonStart))
  ∧ (∀ (r : CoreRegion) (s : State), s.powered → 
      exec (.coreBrownout r) s = .next (s.deviceReset rcBROWNOUT))
  ∧ (∀ (s v : State), s.powered → s.mode ≠ mRUN → s.isPair = false → v = ({ s with dev := { s.dev with regionDown := OwnRegion.link :: s.dev.regionDown.filter (· ≠ .link) } } : State).regionReset OwnRegion.link → v.mode ≠ mRUN → 
      GoesRaise (.regionBrownout .link) s v [(⟨CLKPWR.REGION_BO, regionIndex .link, 1⟩, 1)] 10 [regionIndex .link])
  ∧ (∀ (r : OwnRegion) (s v : State), s.powered → s.mode ≠ mRUN → r ≠ .rail → v = (({ s with dev := { s.dev with regionDown := r :: s.dev.regionDown.filter (· ≠ r) } }).regionFence r).regionReset r → v.mode ≠ mRUN → 
      GoesRaise (.regionBrownout r) s v [(⟨CLKPWR.REGION_BO, regionIndex r, 1⟩, 1)] 10 [regionIndex r])
  ∧ (∀ (r : OwnRegion) (s : State), s.powered → s.dev.regionDown.contains r → r ≠ .rail → 
      GoesSet (.regionRestartComplete r) s { s with dev := { s.dev with regionDown := s.dev.regionDown.filter (· ≠ r) } } [])
  ∧ (∀ (s : State), s.powered → s.dev.regionDown.contains .rail → 
      GoesSet (.regionRestartComplete .rail) s { s with dev := { s.dev with regionDown := s.dev.regionDown.filter (· ≠ .rail) }, phase := s.phase.map (fun x => if x.pwm = .float then { x with pwm := .mid } else x) } [])
  ∧ (∀ (r : OwnRegion) (s : State), s.powered → s.mode ≠ mASCENT → s.dev.regionDown.contains r → 
      bitsOf (s.viewWord (CLKPWR.REGION_PWR / 0x1000) (CLKPWR.REGION_PWR % 0x1000)) (2 * regionIndex r) 2 = 1)
  ∧ (∀ (r : OwnRegion) (s : State), s.powered → s.mode ≠ mASCENT → s.dev.regionDown = [] → (r = .link ∨ r = .rail ∨ r = .hv) → 
      bitsOf (s.viewWord (CLKPWR.REGION_PWR / 0x1000) (CLKPWR.REGION_PWR % 0x1000)) (2 * regionIndex r) 2 = 2)
  ∧ (∀ (e : AscentEnv) (s : State), s.mode = mASCENT → s.dev.ascPhase = .waiting → s.dev.vinPor → 
      exec (.rstNRelease e) s = .next (({ s with dev := { s.dev with rstN := true, ascPhase := .started } }).ascentSteps e))
  ∧ (∀ (e : AscentEnv) (s : State), (s.mode ≠ mASCENT ∨ (s.dev.ascPhase = .waiting ∧ s.dev.vinPor = false)) → 
      GoesSet (.rstNRelease e) s { s with dev := { s.dev with rstN := true } } [])
  ∧ (∀ (mv : Half) (e : AscentEnv) (s : State), s.dev.aonUp → s.mode = mASCENT → s.dev.ascPhase = .waiting → s.dev.rstN → 
      exec (.vinPorRising mv e) s = .next (({ (s.setF CLKPWR.VIN_MV_VIN mv.toNat) with dev := { s.dev with vinPor := true, ascPhase := .started } }).ascentSteps e))
  ∧ (∀ (mv : Half) (e : AscentEnv) (s : State), s.dev.aonUp → (s.mode ≠ mASCENT ∨ (s.dev.ascPhase = .waiting ∧ s.dev.rstN = false)) → 
      GoesSet (.vinPorRising mv e) s { s with dev := { s.dev with vinPor := true } } [(CLKPWR.VIN_MV_VIN, mv.toNat)])
  ∧ (∀ (time : Half) (e : AscentEnv) (s : State), s.mode = mASCENT → s.dev.ascPhase = .applied → 
      exec (.ascentComplete time e) s = .next (s.ascentEnd time.toNat))
  ∧ (∀ (step : Fin 8) (s : State), s.mode = mASCENT → (s.dev.ascPhase = .started ∨ s.dev.ascPhase = .applied) → 
      exec (.ascentStepTimeout step) s = .next (s.ascentFail step))
  ∧ (∀ (e : AscentEnv) (s : State), s.getB DEV.MODE_STAT_DESCENT = false → (s.mode = mDORMANT ∨ s.mode = mSHIP) → 
      exec (.wakePinQualified e) s = .next (((({ s with dev := { s.dev with wakePin := true } }).wakeTime 0).wakeReset 0).tryAscent e))
  ∧ (∀ (e : AscentEnv) (s : State), s.getB DEV.MODE_STAT_DESCENT = false → s.mode = mDORMANT → s.dev.wakeOnly = false → s.getB DEV.WAKE_CTRL_CAN0_EN → 
      exec (.can0WakePattern e) s = .next (((s.wakeTime 2).wakeReset 2).tryAscent e))
  ∧ (∀ (e : AscentEnv) (s : State), s.getB DEV.MODE_STAT_DESCENT = false → s.mode = mDORMANT → s.dev.wakeOnly = false → s.getB DEV.WAKE_CTRL_T1S_EN → 
      exec (.t1sActivityWake e) s = .next (((s.wakeTime 3).wakeReset 3).tryAscent e))
  ∧ (∀ (e : AscentEnv) (s : State), s.getB DEV.MODE_STAT_DESCENT = false → s.mode = mDORMANT → s.dev.wakeOnly = false → s.getB DEV.WAKE_CTRL_RTC_EN → s.getReg DEV.RTC_ALARM ≠ 0 → 
      exec (.rtcAlarm e) s = .next ((({ s with dev := { s.dev with nowUs := s.dev.nowUs + 1000000 * s.getN DEV.RTC_ALARM } }).wakeReset 1).tryAscent e))
  ∧ (∀ (e : AscentEnv) (s : State), s.getB DEV.MODE_STAT_DESCENT → s.wakeActs 0 s.dev.descTarget → s.dev.wakeLatch = 0 → 
      GoesSet (.wakePinQualified e) s { s with dev := { s.dev with wakePin := true, wakeLatch := 1 } } [])

/-- Mode requests and the descent's steps (R60, R61, R62, R63, R72, R73, R78, 03_modes_and_ascent.md). -/
def Obligations.ModeRequests : Prop :=
  (∀ (r : Requester) (k : Byte) (w : Nat) (s : State), w = modeWord k 1 → Accepts s r DEV.MODE_CTRL w → k ≠ 0xC5 → 
      GoesSet (.modeCtrlDormant r k) s (Stored s r DEV.MODE_CTRL w) [(DEV.MODE_STAT_LAST_REQ, 1), (DEV.MODE_STAT_RESULT, mrKEY)])
  ∧ (∀ (r : Requester) (w : Nat) (s v : State), w = modeWord 0xC5 1 → Accepts s r DEV.MODE_CTRL w → s.getB DEV.MODE_STAT_DESCENT = false → s.dev.takeoverHeld = false → s.huComes = false → (s.mode = mWATCH ∨ s.mode = mRUN ∨ s.mode = mDEGRADED ∨ s.mode = mSERVICE) → v = Stored s r DEV.MODE_CTRL w → 
      GoesSet (.modeCtrlDormant r 0xC5) s { v with dev := { v.dev with descTarget := mDORMANT, descStep := 0, descByLimit := false, wakeLatch := 0 } }
      [(DEV.MODE_STAT_LAST_REQ, 1), (DEV.MODE_STAT_DESCENT, 1), (DEV.MODE_STAT_RESULT, mrPENDING)])
  ∧ (∀ (r : Requester) (w : Nat) (s v : State), w = modeWord 0xC5 2 → Accepts s r DEV.MODE_CTRL w → s.getB DEV.MODE_STAT_DESCENT = false → s.dev.takeoverHeld = false → s.huComes = false → (s.mode = mWATCH ∨ s.mode = mRUN ∨ s.mode = mDEGRADED ∨ s.mode = mSERVICE) → s.dev.wakePin = false → v = Stored s r DEV.MODE_CTRL w → 
      GoesSet (.modeCtrlShip r 0xC5) s { v with dev := { v.dev with descTarget := mSHIP, descStep := 0, descByLimit := false, wakeLatch := 0 } }
      [(DEV.MODE_STAT_LAST_REQ, 2), (DEV.MODE_STAT_DESCENT, 1), (DEV.MODE_STAT_RESULT, mrPENDING)])
  ∧ (∀ (r : Requester) (w : Nat) (s : State), w = modeWord 0xC5 3 → Accepts s r DEV.MODE_CTRL w → s.getB DEV.MODE_STAT_DESCENT = false → s.dev.takeoverHeld = false → s.huComes = false → (s.mode = mWATCH ∨ s.mode = mRUN ∨ s.mode = mDEGRADED) → (∀ k : Fin 24, F32.isZero (s.getReg (ALLOC.A k))) → 100000 ≤ s.dev.svcQuietUs → 
      exec (.serviceEnter r 0xC5) s = .next (((allPages.foldl ownerFree ((Stored s r DEV.MODE_CTRL w).setF DEV.MODE_STAT_LAST_REQ 3)).setMode mSERVICE).setF DEV.MODE_STAT_RESULT mrDONE))
  ∧ (∀ (r : Requester) (w : Nat) (s : State), w = modeWord 0xC5 3 → Accepts s r DEV.MODE_CTRL w → s.getB DEV.MODE_STAT_DESCENT = false → s.dev.takeoverHeld = false → s.huComes = false → (s.mode = mWATCH ∨ s.mode = mRUN ∨ s.mode = mDEGRADED) → s.dev.svcQuietUs < 100000 → 
      GoesSet (.serviceEnter r 0xC5) s (Stored s r DEV.MODE_CTRL w) [(DEV.MODE_STAT_LAST_REQ, 3), (DEV.MODE_STAT_RESULT, mrCURRENT)])
  ∧ (∀ (r : Requester) (w : Nat) (s v : State), w = modeWord 0xC5 4 → Accepts s r DEV.MODE_CTRL w → s.getB DEV.MODE_STAT_DESCENT = false → s.dev.takeoverHeld = false → s.huComes = false → s.mode = mSERVICE → s.isPair = false → v = ((Stored s r DEV.MODE_CTRL w).setF DEV.MODE_STAT_LAST_REQ 4).updShelf (fun x => { x with startReg := true }) → 
      exec (.serviceExit r 0xC5) s = .next ((v.setMode v.runOrDegraded).setF DEV.MODE_STAT_RESULT mrDONE))
  ∧ (∀ (r : Requester) (w : Nat) (s : State), w = modeWord 0xC5 5 → Accepts s r DEV.MODE_CTRL w → s.getB DEV.MODE_STAT_DESCENT = false → s.dev.takeoverHeld = false → s.huComes = false → (s.mode = mWATCH ∨ s.mode = mSERVICE) → s.dev.ackSinceSafe → s.actSev 4 = false → 
      GoesSet (.inhibitClr r 0xC5) s (Stored s r DEV.MODE_CTRL w) [(DEV.MODE_STAT_LAST_REQ, 5), (DEV.MODE_STAT_SHELF_INHIBIT, 0), (DEV.MODE_STAT_RESULT, mrDONE)])
  ∧ (∀ (r : Requester) (w : Nat) (s : State), w = modeWord 0xC5 6 → Accepts s r DEV.MODE_CTRL w → 
      exec (.modeCtrlReset r 0xC5) s = .next (((Stored s r DEV.MODE_CTRL w).setF DEV.MODE_STAT_LAST_REQ 6).deviceReset rcHOST))
  ∧ (∀ (r : Requester) (q : BitVec 4) (w : Nat) (s : State), w = modeWord 0xC5 q.toNat → Accepts s r DEV.MODE_CTRL w → (q = 0 ∨ 6 < q.toNat) → 
      GoesSet (.modeCtrlBadReq r 0xC5 q) s (Stored s r DEV.MODE_CTRL w) [(DEV.MODE_STAT_LAST_REQ, q.toNat), (DEV.MODE_STAT_RESULT, mrBAD_REQ)])
  ∧ (∀ (s v : State), s.operating → s.getB DEV.MODE_STAT_DESCENT → s.dev.descStep = 0 → s.descYields = false → v = ((({ s with dev := { s.dev with descStep := 2 } }.setF DEV.MODE_STAT_RESULT mrDONE).cnCollapse ocFAULT).raise 11 [s.dev.descTarget, s.mode, 0]).tellPlant → 
      exec .descentStart s = .next (v.updShelf (fun x => { x with descRamp := v.isActive, startReg := false })))
  ∧ (∀ (s : State), s.operating → s.getB DEV.MODE_STAT_DESCENT → s.dev.descStep = 2 → s.shelf.descRamp → F32.isZero (s.getReg SHELF.DEMAND) → 
      exec .descentRampEnd s = .next s.descStop)
  ∧ (∀ (ms : Word) (s : State), s.operating → s.getB DEV.MODE_STAT_DESCENT → 4 ≤ s.dev.descStep → (∀ g : Fin 4, s.grpSt g = grOFF ∨ s.grpSt g = grREST) → 
      exec (.descentGroupsAllOff ms) s = .next ((s.descRecord ms.toNat).descentFinish))
  ∧ (∀ (ms : Word) (s : State), s.operating → s.getB DEV.MODE_STAT_DESCENT → 4 ≤ s.dev.descStep → (∀ g : Fin 4, s.grpSt g = grOFF ∨ s.grpSt g = grREST) → s.dev.wakeLatch = 0 → (s.dev.descTarget = mDORMANT ∨ s.dev.descTarget = mSHIP) → 
      Goes (.descentGroupsAllOff ms) s (fun t => t.mode = s.dev.descTarget ∧ t.mem = [] ∧ t.dev.ascPhase = .none ∧ t.pending = s.pending))
  ∧ (∀ (ms : Word) (s : State), s.operating → s.getB DEV.MODE_STAT_DESCENT → s.getF DEV.DESCENT_CFG_TMAX * 10 ≤ ms.toNat → 
      exec (.descentTmaxExpiry ms) s = .next ((s.descForce.descRecord ms.toNat).descentFinish))

/-- Supply events, the watchdog, clocks and temperatures (R67, R79, R80, R85, R86, R87, 03_modes_and_ascent.md). -/
def Obligations.SuppliesAndClocks : Prop :=
  (∀ (mv : Half) (s : State), s.powered → s.getB CLKPWR.VHOLD_MV_VHOLD_RDY = false → (∀ k : Fin 24, s.getF (ESTSTR.LRN_STAT_STATE k) ≠ 1) → s.cairn.clearSeq = none → s.imgStreams = false → (∀ g : Fin 4, s.grpSt g ≠ grREST ∨ s.getB (SEQGRP.GRP_STAT_UP_PEND g) = false) → s.getF (FCOL_SEV.SEV_SEV 4) ≤ 2 → s.cairnN + 1 < 32704 → 
      GoesRaise (.vinWarnFalling mv) s s [(CLKPWR.VIN_MV_VIN, mv.toNat), (CLKPWR.VIN_MV_WARN, 1), condOf 4] 4 [])
  ∧ (∀ (mv : Half) (s : State), s.powered → s.getB CLKPWR.VHOLD_MV_VHOLD_RDY → s.cairn.clearSeq = none → s.getF (FCOL_SEV.SEV_SEV 4) ≤ 2 → s.cairnN + 1 < 32704 → s.cairn.rewrite = none → (∀ k : Fin 24, s.getF (ESTSTR.LRN_STAT_STATE k) ≠ 1) → 
      Goes (.vinWarnFalling mv) s (fun t => t.cairn.staged = [] ∧ t.getB CLKPWR.VIN_MV_WARN = true ∧ t.getF CLKPWR.VIN_MV_VIN = mv.toNat ∧ t.getCond 4 = true ∧ t.imgStreams = false ∧ t.mem = s.mem ∧ t.shelf = s.shelf))
  ∧ (∀ (mv : Half) (s : State), s.powered → (∀ i : Fin 32, (s.seqSlot i).onDlyHeld = false) → (∀ g : Fin 4, s.getB (SEQGRP.GRP_STAT_VIN_HELD g) = false) → 
      GoesSet (.vinWarnRising mv) s s ([(CLKPWR.VIN_MV_VIN, mv.toNat), (CLKPWR.VIN_MV_WARN, 0)] ++ condEnd 4))
  ∧ (∀ (mv : Half) (s : State), s.powered → s.cairn.staged = [] → 
      GoesSet (.vholdReady mv) s s [(CLKPWR.VHOLD_MV_VHOLD, mv.toNat), (CLKPWR.VHOLD_MV_VHOLD_RDY, 1)])
  ∧ (∀ (mv : Half) (s : State), 
      Goes (.vholdBelowMin mv) s (fun t => t.cairn.staged = [] ∧ t.cairn.rewrite = none ∧ t.cairn.nv = s.cairn.nv ∧ t.ps.flight = none ∧ t.ps.slots = s.ps.slots ∧ t.getB CLKPWR.VHOLD_MV_VHOLD_RDY = false ∧
      t.getF CLKPWR.VHOLD_MV_VHOLD = mv.toNat ∧ t = { s with regs := t.regs, cairn := t.cairn, ps := t.ps } ∧ ∀ a, a / 0x1000 ≠ pCAIRN → a ≠ CLKPWR.VHOLD_MV → t.getReg a = s.getReg a))
  ∧ (∀ (s : State), 
      GoesSet .aonSupplyLoss s { s with dev := { s.dev with aonUp := false, vinPor := false } } [])
  ∧ (∀ (s : State), s.powered → s.dev.takeoverHeld = false → s.imgStreams = false → 
      Goes .watchdogExpiry s (fun t => ∃ v, Sets { s with dev := { s.dev with mpuRestart := true } } v [(EST.EST_STAT_HELD, 1), whole DEV.MPU_RESTARTS (BitVec.ofNat 32 (min (s.getN DEV.MPU_RESTARTS + 1) (2 ^ 32 - 1)))] ∧
      t = v.raise 7 []))
  ∧ (∀ (s : State), s.powered → s.dev.mpuRestart → s.activeBank = s.runBank → 
      exec .mpuRestartComplete s = .next (({ s with dev := { s.dev with mpuRestart := false } }).mpuStart s.runBank))
  ∧ (∀ (s : State), s.powered → s.getB CLKPWR.CLK_STAT_HFO_SRC = false → 
      GoesSet .refclkLoss s s [(CLKPWR.CLK_STAT_REFCLK_OK, 0)])
  ∧ (∀ (s : State), s.powered → s.getB CLKPWR.CLK_STAT_HFO_SRC → 
      GoesRaise .refclkLoss s { s with dev := { s.dev with hfoFellBack := true } } [(CLKPWR.CLK_STAT_REFCLK_OK, 0), (CLKPWR.CLK_STAT_HFO_SRC, 0), (CLKPWR.PLL_STAT_HOLDOVER, s.getF CLKPWR.PLL_STAT_LOCK), condOf 3] 3 [])
  ∧ (∀ (s : State), s.powered → s.dev.bootsel1 → 
      GoesSet .xt32StartTimeout s s [(CLKPWR.CLK_STAT_XT32_OK, 0), (CLKPWR.CLK_STAT_LFO_SRC, 0)])
  ∧ (∀ (p : Pll) (i : Nat) (s : State), s.powered → ((p = .cpll ∧ i = 0) ∨ (p = .ppll ∧ i = 1) ∨ (p = .lpll ∧ i = 2) ∨ (p = .epll ∧ i = 3)) → s.pllUsed.testBit i → 
      GoesSet (.pllLock p) s s [(⟨CLKPWR.PLL_STAT, i, 1⟩, 1)])
  ∧ (∀ (r : Fin 9) (temp : BitVec 16) (s : State), s.powered → s.regionState r = 2 → s.dev.tempSeen = [] → signedOf 16 temp.toNat ≤ signedOf 16 (s.getF DEV.TJ_HOT_TJ_HOT) → 
      GoesSet (.regionTempLimit r temp) s { s with dev := { s.dev with tempSeen := [(r.val, s.dev.nowUs)] } } ([(CLKPWR.TEMP_TEMP r, temp.toNat), (CLKPWR.TGRAD_HOT, r.val), (CLKPWR.TGRAD_COOL, r.val), (CLKPWR.TGRAD_DIFF, 0)] ++ condEnd 5 ++ condEnd 6))

/-- CAN and T1S ports count, report, keep their rack peers and follow their bus (R509, R516, R517, R518, R519, R521, 17_host_and_plant_ports.md). -/
def Obligations.MessagePorts : Prop :=
  (∀ (p : MsgPort) (s : State), s.portHears (portNo p) → 
      GoesSet (.messageCrcFail p) s s [oneMore s (cntRxFrames (portNo p)), oneMore s (cntRxCrc (portNo p))])
  ∧ (∀ (s : State), s.operating → s.isActive → s.pgRunning (msgPage s.plantLink) → s.reportMs ≠ 0 → 1000 * s.reportMs ≤ s.dev.nowUs - (s.msgPort s.plantLink).repAt → s.reportFlags = (s.msgPort s.plantLink).repFlags → s.dev.late = [] → 
      exec .reportTimer s = .next ((s.updMsg s.plantLink (fun x => { x with repAt := s.dev.nowUs, repFlags := s.reportFlags })).sendPlant 0x09 s.reportBody))
  ∧ (∀ (s : State), s.operating → s.pgRunning pT1S → s.dmMoves 6 → s.getF T1S.PUB_PUB_MS ≠ 0 → s.dev.late = [] → 
      exec .t1sPublication s = .next (s.sendMsg 4 0x09 0xFF s.reportBody))
  ∧ (∀ (h : MsgHead) (flags mode : Byte) (k : Nat) (s : State), portNo h.port = 1 → s.portHears 1 → crc16 (identBytes 0x0C h.dst.toNat h.src.toNat h.tag.toNat ++ [flags.toNat, mode.toNat]) = h.crc.toNat → s.addressed_ 1 h.dst.toNat true → h.src ≠ 0 → s.peerSlot h.src.toNat = some k → 
      GoesSet (.rackMessageRx h flags mode) s s [oneMore s (cntRxFrames 1), whole (CAN.PEER 1 k) (BitVec.ofNat 32 (h.src.toNat * 2 ^ 24 + flags.toNat % 8))])
  ∧ (∀ (h : MsgHead) (flags mode : Byte) (s : State), portNo h.port ≠ 1 → s.portHears (portNo h.port) → crc16 (identBytes 0x0C h.dst.toNat h.src.toNat h.tag.toNat ++ [flags.toNat, mode.toNat]) = h.crc.toNat → 
      GoesSet (.rackMessageRx h flags mode) s s [oneMore s (cntRxFrames (portNo h.port)), oneMore s (cntIgnored (portNo h.port))])
  ∧ (∀ (s : State), s.operating → s.pgRunning (pCAN 1) → 
      exec .rackSendTimer s = .next ((s.updMsg 1 (fun x => { x with rackFlags := s.rackFlags })).sendMsg 1 0x0C 0xFF [s.rackFlags, s.mode]))
  ∧ (∀ (k : Fin 24) (s : State), s.getF (CAN.PEER_ADDR 1 k) ≠ 0 → 50 ≤ s.getF (CAN.PEER_AGE 1 k) → 
      GoesSet (.peerTimeout k) s s [whole (CAN.PEER 1 k) 0])
  ∧ (∀ (n : Fin 4) (tc rc : Byte) (s : State), s.powered → s.pgRunning (pCAN n) → s.getF (CAN.CAN_STAT_STATE n) ≠ 2 → s.getCond (242 + n) = false → 
      GoesRaise (.canErrorState n false tc rc) s s [whole (CAN.CAN_STAT n) (BitVec.ofNat 32 (tc.toNat * 2 ^ 24 + rc.toNat * 2 ^ 16 + 1)), condOf (242 + n)] (242 + n) [])
  ∧ (∀ (n : Fin 4) (tc rc : Byte) (s v : State), s.powered → s.pgRunning (pCAN n) → s.getF (CAN.CAN_STAT_STATE n) ≠ 2 → s.getCond (242 + n) = false → v = ((s.setN (CAN.CAN_STAT n) (tc.toNat * 2 ^ 24 + rc.toNat * 2 ^ 16 + 2)).incSat (CAN.CNT_MISC_BUS_OFF n)).ownersOf (2 + n) → 
      GoesRaise (.canErrorState n true tc rc) s v [condOf (242 + n)] (242 + n) [])
  ∧ (∀ (n : Fin 4) (s : State), s.getF (CAN.CAN_STAT_STATE n) = 2 → s.getB (CAN.CAN_CFG_AUTO_RECOV n) → (s.msgPort n).waiting = [] → s.msg.length = 5 → 
      GoesSet (.canBusOffRecovery n) s s (whole (CAN.CAN_STAT n) 0 :: condEnd (242 + n)))
  ∧ (∀ (n : Fin 4) (s : State), s.getF (CAN.CAN_STAT_STATE n) = 2 → s.getB (CAN.CAN_CFG_AUTO_RECOV n) → 
      exec (.canBusOffRecovery n) s = .next (((s.setReg (CAN.CAN_STAT n) 0).endL (242 + n)).flushWaiting n))
  ∧ (∀ (n : Fin 4) (s : State), s.msg.length = 5 → 
      Goes (.canTxDrop n) s (fun t => (t.msgPort n).waiting = (s.msgPort n).waiting.filter (fun m => decide (s.dev.nowUs - m.atUs < 10000)) ∧ t = { s with regs := t.regs, msg := t.msg } ∧
      t.getF (cntDropped n) = min (s.getF (cntDropped n) + ((s.msgPort n).waiting.filter (fun m => decide (10000 ≤ s.dev.nowUs - m.atUs))).length) (2 ^ (cntDropped n).w - 1) ∧
      ∀ a, a ≠ (cntDropped n).addr → t.getReg a = s.getReg a))
  ∧ (∀ (n : Fin 4) (tc rc : Byte) (s : State), s.getF (CAN.CAN_STAT_STATE n) = 1 → 
      GoesSet (.canErrorActiveReturn n tc rc) s s (whole (CAN.CAN_STAT n) (BitVec.ofNat 32 (tc.toNat * 2 ^ 24 + rc.toNat * 2 ^ 16)) :: condEnd (242 + n)))
  ∧ (∀ (s v : State), s.powered → s.pgRunning pT1S → s.getCond 246 = false → v = (s.setF T1S.T1S_STAT_LINK 0).ownersOf 6 → 
      GoesRaise (.t1sLinkLoss true) s v [condOf 246] 246 [])
  ∧ (∀ (s : State), s.powered → s.pgRunning pT1S → s.getF T1S.T1S_CFG_PLCA_ID = 255 → 
      GoesSet (.t1sLinkLoss false) s s [(T1S.T1S_STAT_BEACON, 0), oneMore s T1S.CNT_MISC_BEACON_LOSS])
  ∧ (∀ (s : State), s.powered → s.pgRunning pT1S → (s.msgPort 4).waiting = [] → s.msg.length = 5 → 
      GoesSet (.t1sLinkReturn true true) s s ([(T1S.T1S_STAT_LINK, 1), (T1S.T1S_STAT_BEACON, 1)] ++ condEnd 246))

/-- PMBus polls and alerts show what the device answered, or count its failures (R522, R524, 17_host_and_plant_ports.md). -/
def Obligations.PmbusPolling : Prop :=
  (∀ (d : Fin 32) (x : PmbData) (s : State), s.operating → s.pgRunning pPMBUS → s.getB (PMBUS.DEV_A_EN d) → s.getF (PMBUS.DEV_A_POLL d) % 2 = 1 → 
      Goes (.pmbusPoll d x) s (fun t => t.getF (PMBUS.PMB_STAT_STATUS_WORD d) = x.statusWord.toNat ∧ t.getF (PMBUS.PMB_STAT_FAILS d) = 0 ∧ t.getB (PMBUS.PMB_STAT_FAILED d) = false ∧ t.getB (PMBUS.PMB_STAT_PRESENT d) = true ∧
      t.mem = s.mem ∧ t.shelf = s.shelf ∧ ∀ a, a ≠ (PMBUS.PMB_STAT_STATUS_WORD d).addr → (∀ k : Fin 7, a ≠ PMBUS.PMB_VAL d k) → t.getReg a = s.getReg a))
  ∧ (∀ (d : Fin 32) (x : PmbData) (k : Fin 7) (s : State), s.operating → s.pgRunning pPMBUS → s.getB (PMBUS.DEV_A_EN d) → s.getF (PMBUS.DEV_A_POLL d) = 2 ^ (k.val + 1) → 
      Goes (.pmbusPoll d x) s (fun t => t.getReg (PMBUS.PMB_VAL d k) = (s.pmbValue d x k).1 ∧ ∀ j : Fin 7, j ≠ k → t.getReg (PMBUS.PMB_VAL d j) = s.getReg (PMBUS.PMB_VAL d j)))
  ∧ (∀ (d : Fin 32) (w : PmbFail) (s : State), s.operating → s.pgRunning pPMBUS → s.getB (PMBUS.DEV_A_EN d) → (w = .pec → s.getB PMBUS.PMB_CFG_PEC) → ((oneMore s (PMBUS.PMB_STAT_FAILS d)).2 < s.getF (PMBUS.DEV_B_FAIL_N d) ∨ s.getB (PMBUS.PMB_STAT_FAILED d)) → 
      GoesSet (.pmbusPollFail d w) s s [oneMore s (PMBUS.PMB_STAT_FAILS d)])
  ∧ (∀ (d : Fin 32) (w : PmbFail) (s : State), s.operating → s.pgRunning pPMBUS → s.getB (PMBUS.DEV_A_EN d) → (w = .pec → s.getB PMBUS.PMB_CFG_PEC) → s.getF (PMBUS.DEV_B_FAIL_N d) ≤ (oneMore s (PMBUS.PMB_STAT_FAILS d)).2 → s.getB (PMBUS.PMB_STAT_FAILED d) = false → 
      GoesRaise (.pmbusPollFail d w) s s [oneMore s (PMBUS.PMB_STAT_FAILS d), (PMBUS.PMB_STAT_FAILED d, 1)] 247 [d, pmbFailCode w])
  ∧ (∀ (d : Fin 32) (sw : Half) (s : State), s.operating → s.pgRunning pPMBUS → s.getB PMBUS.PMB_CFG_ALERT_EN → s.getB (PMBUS.DEV_A_EN d) → (∀ e : Fin 32, e < d → s.getB (PMBUS.DEV_A_EN e) = false ∨ s.getF (PMBUS.DEV_A_ADDR e) ≠ s.getF (PMBUS.DEV_A_ADDR d)) → 
      GoesSet (.pmbusAlert (BitVec.ofNat 7 (s.getF (PMBUS.DEV_A_ADDR d))) sw) s s ((List.range 32).map (fun i => (PMBUS.PMB_STAT_ALERT i, (decide (i = d.val)).toNat)) ++ [(PMBUS.PMB_STAT_STATUS_WORD d, sw.toNat)]))

/-- A step runs the command at the front of the queue; an empty queue idles (log entry 60) (01_architecture.md, 17_host_and_plant_ports.md). -/
def Obligations.StepRunsFront : Prop :=
  (∀ (c : Instr) (s : State), step (s.push c) = exec c s) ∧ ∀ s : State, s.pending = [] → step s = .next s

/-- Every command answers a next state, leaves the queue alone and changes no strap or fuse it may not (01_architecture.md, 03_modes_and_ascent.md, Table 3-14). -/
def Obligations.CommandsGoOn : Prop :=
  ∀ (c : Instr) (s : State), ∃ t, exec c s = .next t ∧ t.pending = s.pending ∧ t.dev.form = s.dev.form ∧ t.dev.grade = s.dev.grade ∧ t.dev.mac = s.dev.mac ∧
    t.dev.injInRun = s.dev.injInRun ∧ t.dev.tapEnable = s.dev.tapEnable

/-- Every step keeps the register file and engine memory in canonical form (R180, 02_register_pages.md, 06_frame_mover_and_sdma.md). -/
def Obligations.StepKeepsCanonical : Prop :=
  ∀ (s t : State), Canonical s → step s = .next t → 
      Canonical t

/-- The state after reset is in canonical form, with an empty queue and no fenced unit (R56, R57, 02_register_pages.md). -/
def Obligations.ResetIsCanonical : Prop :=
  Canonical State.reset ∧ Memory.wf State.reset.mem ∧ State.reset.pending = [] ∧ State.reset.cairnN = 0 ∧ State.reset.anyFence = false

/-- After the first reset the controller is in ASCENT, pages are OFF, and the cause is POR (R57, R77, R78, Table 2-9, Table 3-2, Table 3-7). -/
def Obligations.ResetValues : Prop :=
  State.reset.mode = mASCENT ∧ State.reset.getReg DEV.RST_CAUSE = 1 ∧ (∀ p ∈ allPages, State.reset.pgState p = if alwaysRunning p then psRUNNING else psOFF) ∧
    (∀ p ∈ allPages, State.reset.getB (pgOwnerHeld p) = false) ∧ (∀ x : Fin 256, State.reset.getAct x = false) ∧ ∀ a, a ≠ DEV.RST_CAUSE → State.reset.getReg a = resetWord a

/-- A written field reads back, and no other field of any register changes (R40, R41, Table 2-10). -/
def Obligations.RegisterFieldReads : Prop :=
  ∀ (s : State) (f : Fld) (v : Nat), f.lo + f.w ≤ 32 → (s.setF f v).getF f = v % 2 ^ f.w ∧ (∀ g : Fld, g.lo + g.w ≤ 32 → Apart g f → (s.setF f v).getF g = s.getF g) ∧
    s.setF f v = { s with regs := (s.setF f v).regs }

/-- A written byte of engine memory reads back, every other byte is unchanged, the form is kept (R180, Table 1-8). -/
def Obligations.EngineMemoryReads : Prop :=
  ∀ (s : State) (a : Nat) (bs : List Byte) (x : Nat), Memory.wf s.mem → 
      (s.writeBytes a bs).readByte x = (if a ≤ x ∧ x < a + bs.length then bs.getD (x - a) 0 else s.readByte x) ∧ Memory.wf (s.writeBytes a bs).mem ∧ (s.writeBytes a bs).regs = s.regs

/-- An unaligned or page-crossing access is refused as a whole with BAD_ADDRESS (R27, R28). -/
def Obligations.AccessRefused : Prop :=
  (∀ (s : State) (r : Requester) (a n : Nat) (ws : List Word), s.hostReady r → (a % 4 ≠ 0 ∨ 0x1000 < a % 0x1000 + 4 * n) → ws.length = n → 
      s.readTx r a n = (stBAD_ADDRESS, 0, [], s) ∧ s.writeTx r a ws = (stBAD_ADDRESS, 0, s))
  ∧ (∀ (s : State) (r : Requester) (a : Nat) (ws : List Word), (s.writeTx r a ws).1 = stOK → 
      a % 4 = 0 ∧ a % 0x1000 + 4 * ws.length ≤ 0x1000)
  ∧ (∀ (s : State) (r : Requester) (a n : Nat), (s.readTx r a n).1 = stOK → 
      a % 4 = 0 ∧ a % 0x1000 + 4 * n ≤ 0x1000)

/-- The conditions of Table 2-11 are exactly those under which a write of one word answers OK (R28, R43, R44, R45, R46, R47, R48, R49, Table 2-11). -/
def Obligations.AcceptedWriteAnswersOk : Prop :=
  (∀ (s : State) (r : Requester) (a v : Nat), Accepts s r a v → (¬ (a / 0x1000 = pIMAGE ∧ 0x100 ≤ a % 0x1000 ∧ a % 0x1000 < 0x200)) → 
      (s.writeTx r a [BitVec.ofNat 32 v]).1 = stOK ∧ (s.writeTx r a [BitVec.ofNat 32 v]).2.1 = 1)
  ∧ (∀ (s : State) (r : Requester) (a v : Nat), s.portOpen r → s.mayWrite (a / 0x1000) r → (¬ (a / 0x1000 = pIMAGE ∧ 0x100 ≤ a % 0x1000 ∧ a % 0x1000 < 0x200)) → (s.writeTx r a [BitVec.ofNat 32 v]).1 = stOK → 
      Accepts s r a v)

/-- IDCODE carries part 0x2432 and version 1; EXTEST and debug are locked until the unlock succeeds (R567, 19_balls_and_electrical.md). -/
def Obligations.TestPortLocked : Prop :=
  tapIdcode.extractLsb' 12 16 = 0x2432 ∧ tapIdcode.extractLsb' 28 4 = 0x1 ∧
    (∀ s : State, s.tapPermits .bypass = true ∧ s.tapPermits .idcode = true ∧ s.tapPermits .samplePreload = true ∧ s.tapPermits .extest = s.dev.tapOpen ∧ s.tapPermits .debug = s.dev.tapOpen) ∧
    (∀ s : State, s.dev.tapOpen = false → s.tapCapture .extest = some [] ∧ s.tapCapture .debug = some []) ∧
    (∀ (s : State) (right : Bool), s.tapUnlock right = { s with dev := { s.dev with tapOpen := s.dev.tapOpen || (s.dev.tapEnable && right) } }) ∧ State.reset.dev.tapOpen = false

/-- RUN = 0 without STOP_REQ on a starting or running page is refused with cause 4 (R37). -/
def Obligations.RunZeroRefused : Prop :=
  ∀ (s : State) (r : Requester) (p : Nat) (v : Word), s.txCheck r (pgCtrl p) 1 true = none → s.mayWrite p r → v.getLsbD 0 = false → v.getLsbD 1 = false → (s.pgState p = psSTARTING ∨ s.pgState p = psRUNNING) → p < 0x1000 → 
      (s.writeTx r (pgCtrl p) [v]).1 = stSTOP_REQUIRED ∧ (s.writeTx r (pgCtrl p) [v]).2.1 = 0 ∧
      Sets s (s.writeTx r (pgCtrl p) [v]).2.2 [(pgStatWrej p, 1), (pgStatWrejOfs p, 4), (pgStatWrejCause p, 4)]

/-- A refused word of a multi-word write leaves the words before it written and stops there (R44). -/
def Obligations.MultiWordWrite : Prop :=
  ∀ (s : State) (r : Requester) (p o : Nat) (l : List Word), (writeWords r p o l s).2.1 = false → o + 4 * l.length ≤ 0x1000 → 
      ∃ (k c : Nat) (u : State), k < l.length ∧ (writeWords r p o l s).1 = k ∧ writeWords r p o (l.take k) s = (k, true, u) ∧ u.writeWord r p (o + 4 * k) (l.getD k 0) = .error c ∧
      (writeWords r p o l s).2.2 = u.refuse p (o + 4 * k) c ∧ (writeWords r p o l s).2.2.getF (pgStatWrejOfs p) = o + 4 * k ∧ (writeWords r p o l s).2.2.getB (pgStatWrej p) = true

/-- A held page refuses every write of PG_CTRL or a block register by another; reads never are (R46). -/
def Obligations.OwnerRefuses : Prop :=
  (∀ (s : State) (r : Requester) (a : Nat) (ws : List Word) (i : Nat), s.txCheck r a ws.length true = none → s.getB (pgOwnerHeld (a / 0x1000)) → r ≠ .firmware → (s.getF (pgOwnerPort (a / 0x1000)) ≠ reqPort r ∨ s.getF (pgOwnerSource (a / 0x1000)) ≠ reqSource r) → i < ws.length → (a % 0x1000 + 4 * i = 4 ∨ (findReg (a / 0x1000) (a % 0x1000 + 4 * i)).isSome) → 
      (s.writeTx r a ws).1 = stOWNER_DENIED ∧ (s.writeTx r a ws).2.1 = 0 ∧ (s.writeTx r a ws).2.2 = { s with regs := (s.writeTx r a ws).2.2.regs } ∧
      ∀ b, b ≠ pgStat (a / 0x1000) → (s.writeTx r a ws).2.2.getReg b = s.getReg b)
  ∧ (∀ (s : State) (r : Requester) (a n : Nat), 
      (s.readTx r a n).1 ≠ stOWNER_DENIED)

/-- INHIBIT_CLR is refused with REFUSED_FAULT before an ACK or while a SAFE source is active (R63). -/
def Obligations.InhibitClearRefused : Prop :=
  ∀ (r : Requester) (w : Nat) (s : State), w = modeWord 0xC5 5 → Accepts s r DEV.MODE_CTRL w → s.getB DEV.MODE_STAT_DESCENT = false → s.dev.takeoverHeld = false → (s.mode = mDEGRADED ∨ s.mode = mWATCH ∨ s.mode = mSERVICE) → (s.dev.ackSinceSafe = false ∨ s.actSev 4) → 
      GoesSet (.inhibitClr r 0xC5) s (Stored s r DEV.MODE_CTRL w) [(DEV.MODE_STAT_LAST_REQ, 5), (DEV.MODE_STAT_RESULT, mrFAULT)]

/-- A copy is newer when its SEQ lies 1 to 2^31 - 1 ahead, and of two SEQs at most one is newer (R483). -/
def Obligations.SeqOrder : Prop :=
  ∀ (a b : Nat), a < 2 ^ 32 → b < 2 ^ 32 → 
      (seqNewer a b = true ↔ 1 ≤ ((a : Int) - b) % 2 ^ 32 ∧ ((a : Int) - b) % 2 ^ 32 ≤ 2 ^ 31 - 1) ∧ seqNewer a a = false ∧ ¬ (seqNewer a b = true ∧ seqNewer b a = true)

/-- The CRCs yield the spec's check values over 123456789 (R488, R503, R509). -/
def Obligations.CheckValues : Prop :=
  crc8 [0x31, 0x32, 0x33, 0x34, 0x35, 0x36, 0x37, 0x38, 0x39] = 0xF4 ∧ crc16 [0x31, 0x32, 0x33, 0x34, 0x35, 0x36, 0x37, 0x38, 0x39] = 0x29B1

/-- A record encoded for the store is a valid copy that reads back its payload and its SEQ (R475, R476, R478, Table 16-1). -/
def Obligations.StoreRecordRoundTrip : Prop :=
  ∀ (id form sq schema : Nat) (p : List Byte), psPages id ≠ 0 → form < 256 → 1 ≤ sq → sq < 2 ^ 32 → schema < 2 ^ 16 → p.length ≤ 64 * psPages id - 16 → 
      (⟨psEncodeS id form sq schema p, false⟩ : PsCopy).invalidCause id = 0 ∧ (⟨psEncodeS id form sq schema p, false⟩ : PsCopy).payload = p ∧ (⟨psEncodeS id form sq schema p, false⟩ : PsCopy).len = p.length ∧
      (⟨psEncodeS id form sq schema p, false⟩ : PsCopy).seq = sq ∧ (⟨psEncodeS id form sq schema p, false⟩ : PsCopy).schema = schema

/-- The recorder never holds more than 32 768 records, and an event adds at most one (R489, R490, R491, R494, Table 16-8). -/
def Obligations.RecorderBounds : Prop :=
  ∀ (src sev kind : Nat) (nested : Bool) (d : List Nat) (s : State), s.cairnN ≤ 32768 → s.cairn.staged.length ≤ 256 → 
      (s.cairnStage src sev kind nested d).cairnN ≤ 32768 ∧ (s.cairnStage src sev kind nested d).cairnN ≤ s.cairnN + 1 ∧ s.cairnN ≤ (s.cairnStage src sev kind nested d).cairnN ∧
      (s.cairnStage src sev kind nested d).cairn.staged.length ≤ 256 ∧ (s.cairnStage src sev kind nested d).cairn.nv = s.cairn.nv ∧ (s.cairnStage src sev kind nested d).mem = s.mem

/-- The 108 pages of the table and no others exist; an offset without a register reads as 0 (R29, R30, Table 2-1). -/
def Obligations.PageMap : Prop :=
  allPages.length = 108 ∧ allPages.Nodup ∧ (∀ p, (pageKind p).isSome = true ↔ p ∈ allPages) ∧
    (∀ (s : State) (r : Requester) (a n : Nat), s.hostReady r = true → pageKind (a / 0x1000) = none → (s.readTx r a n).1 = stBAD_ADDRESS) ∧
    ∀ (s : State) (p o : Nat), 0x020 ≤ o → findReg p o = none → s.viewWord p o = 0

/-- A setting written between two update boundaries changes nothing before its boundary (log entry 5) (R42, R231, R568, Table 2-10, 02_register_pages.md). -/
def Obligations.SettingsWaitForTheirBoundary : Prop :=
  (∀ (c : Instr) (e : LateWord) (v : Word) (s : State), readsSettings c → Canonical s → e ∈ s.dev.late → 
      ∃ t u, exec c s = .next t ∧ exec c (s.setReg e.addr (takeBits e.mask (s.getReg e.addr) v)) = .next u ∧ u = { t with regs := u.regs } ∧
      ∀ a, u.getReg a = if a = e.addr ∧ e ∈ t.dev.late then takeBits e.mask (t.getReg a) v else t.getReg a)
  ∧ (∀ (c : CycleIn) (s : State), s.operating → 
      Goes (.shelfCycleBoundary c) s (fun t => ∀ e ∈ t.dev.late, e ∈ s.dev.late ∧ setBoundary e.addr = true))
  ∧ (∀ (c : SetIn) (o : OpenSet) (s : State), s.operating → s.sample.set_ = some o → o.taken = false → o.atUs ≤ s.dev.nowUs → 
      Goes (.sampleInstant c) s (fun t => ∀ e ∈ t.dev.late, e ∈ s.dev.late ∧ setBoundary e.addr = false))
  ∧ (∀ (r : Requester) (v : Word) (s : State), Accepts s r SHELF.V_REF v.toNat → s.getReg SHELF.V_REF ≠ v → s.dev.late = [] → 
      Goes (.registerWrite r (BitVec.ofNat 24 SHELF.V_REF) v) s (fun t => t.getReg SHELF.V_REF = v ∧ t.inForceReg SHELF.V_REF = s.getReg SHELF.V_REF))
end

