-- ==== Sys2Proof/Laws/Sparse.lean ====
section
/-! SUPPORT. The sparse lists of the register file and of engine memory: reading after writing, and the canonical form kept by every operation on them. -/

namespace Sys2Proof.Laws

open Machine

variable {β : Type}

/-- A key above every key of a rising list's head is not looked up. -/
theorem rising_cons {k : Nat} {v : β} {l : List (Nat × β)} : Rising ((k, v) :: l) ↔ (∀ e ∈ l, k < e.1) ∧ Rising l := by
  simp [Rising]

theorem rising_filter {l : List (Nat × β)} (p : Nat × β → Bool) (h : Rising l) : Rising (l.filter p) :=
  h.sublist (List.filter_sublist.map _)

theorem rising_append {l m : List (Nat × β)} (hl : Rising l) (hm : Rising m) (h : ∀ e ∈ l, ∀ f ∈ m, e.1 < f.1) : Rising (l ++ m) := by
  simp only [Rising, List.map_append, List.pairwise_append, List.mem_map]
  refine ⟨hl, hm, ?_⟩
  rintro a ⟨e, he, rfl⟩ b ⟨f, hf, rfl⟩
  exact h e he f hf

theorem mem_insertKey {a : Nat} {v : β} {l : List (Nat × β)} {e : Nat × β} : e ∈ insertKey a v l ↔ e = (a, v) ∨ e ∈ l := by
  induction l with
  | nil => simp [insertKey]
  | cons x l ih =>
    obtain ⟨k, w⟩ := x
    simp only [insertKey]
    split
    · simp
    · simp only [List.mem_cons, ih]; tauto

theorem rising_insertKey {a : Nat} {v : β} {l : List (Nat × β)} (h : Rising l) (ha : ∀ e ∈ l, e.1 ≠ a) : Rising (insertKey a v l) := by
  induction l with
  | nil => simp [insertKey, Rising]
  | cons x l ih =>
    obtain ⟨k, w⟩ := x
    have h' := rising_cons.1 h
    simp only [insertKey]
    split
    · rename_i hlt
      refine rising_cons.2 ⟨fun e he => ?_, h⟩
      rcases List.mem_cons.1 he with rfl | he
      · exact hlt
      · exact lt_trans hlt (h'.1 e he)
    · rename_i hge
      refine rising_cons.2 ⟨fun e he => ?_, ih h'.2 (fun e he => ha e (List.mem_cons_of_mem _ he))⟩
      rcases mem_insertKey.1 he with rfl | he
      · have := ha (k, w) List.mem_cons_self
        omega
      · exact h'.1 e he

theorem mem_eraseKey {a : Nat} {l : List (Nat × β)} {e : Nat × β} : e ∈ eraseKey a l ↔ e ∈ l ∧ e.1 ≠ a := by
  simp [eraseKey]

theorem rising_putKey [DecidableEq β] {a : Nat} {v d : β} {l : List (Nat × β)} (h : Rising l) : Rising (putKey a v d l) := by
  unfold putKey
  split
  · exact rising_filter _ h
  · exact rising_insertKey (rising_filter _ h) (fun e he => (mem_eraseKey.1 he).2)

theorem mem_putKey [DecidableEq β] {a : Nat} {v d : β} {l : List (Nat × β)} {e : Nat × β} (h : e ∈ putKey a v d l) :
    (e = (a, v) ∧ v ≠ d) ∨ (e ∈ l ∧ e.1 ≠ a) := by
  unfold putKey at h
  split at h
  · exact .inr (mem_eraseKey.1 h)
  · rename_i hv
    rcases mem_insertKey.1 h with rfl | h
    · exact .inl ⟨rfl, hv⟩
    · exact .inr (mem_eraseKey.1 h)

theorem lookupKey_eraseKey {a b : Nat} {l : List (Nat × β)} :
    lookupKey b (eraseKey a l) = if b = a then none else lookupKey b l := by
  induction l with
  | nil => simp [eraseKey, lookupKey]
  | cons x l ih =>
    obtain ⟨k, w⟩ := x
    simp only [eraseKey] at ih
    by_cases hk : k = a
    · subst hk
      simp only [eraseKey, List.filter_cons, ne_eq, not_true_eq_false, decide_false, Bool.false_eq_true, ↓reduceIte, ih, lookupKey]
      by_cases hb : b = k
      · simp [hb]
      · simp [hb, Ne.symm hb]
    · simp only [eraseKey, List.filter_cons, ne_eq, hk, not_false_eq_true, decide_true, ↓reduceIte, lookupKey, ih]
      by_cases hb : k = b
      · subst hb; simp [hk]
      · simp [hb]

theorem lookupKey_insertKey {a b : Nat} {v : β} {l : List (Nat × β)} (h : lookupKey a l = none) :
    lookupKey b (insertKey a v l) = if b = a then some v else lookupKey b l := by
  induction l with
  | nil =>
    simp only [insertKey, lookupKey]
    by_cases hb : b = a
    · simp [hb]
    · simp [hb, Ne.symm hb]
  | cons x l ih =>
    obtain ⟨k, w⟩ := x
    have hk : k ≠ a := by
      rintro rfl; simp [lookupKey] at h
    have h' : lookupKey a l = none := by simpa [lookupKey, hk] using h
    simp only [insertKey]
    split
    · by_cases hb : b = a
      · simp [lookupKey, hb]
      · simp [lookupKey, hb, Ne.symm hb]
    · simp only [lookupKey, ih h']
      by_cases hb : k = b
      · subst hb; simp [hk]
      · simp [hb]

/-- Reading a sparse list after a write: the value at the key written, every other key as before. -/
theorem lookupKey_putKey [DecidableEq β] {a b : Nat} {v d : β} {l : List (Nat × β)} :
    (lookupKey b (putKey a v d l)).getD d = if b = a then v else (lookupKey b l).getD d := by
  unfold putKey
  split
  · rename_i hv
    rw [lookupKey_eraseKey]
    by_cases hb : b = a <;> simp [hb, hv]
  · rw [lookupKey_insertKey (by rw [lookupKey_eraseKey]; simp), lookupKey_eraseKey]
    by_cases hb : b = a <;> simp [hb]

theorem lookupKey_putKey_ne [DecidableEq β] {a b : Nat} {v d : β} {l : List (Nat × β)} (hb : b ≠ a) :
    lookupKey b (putKey a v d l) = lookupKey b l := by
  unfold putKey
  split
  · rw [lookupKey_eraseKey, if_neg hb]
  · rw [lookupKey_insertKey (by rw [lookupKey_eraseKey]; simp), lookupKey_eraseKey, if_neg hb, if_neg hb]

theorem cellsFrom_bounds {a : Nat} {bs : List Byte} {e : Host.Cell} (h : e ∈ cellsFrom a bs) : a ≤ e.1 ∧ e.1 < a + bs.length ∧ e.2 ≠ 0 := by
  induction bs generalizing a with
  | nil => simp [cellsFrom] at h
  | cons b bs ih =>
    simp only [cellsFrom] at h
    split at h
    · have := ih h
      simp only [List.length_cons]
      exact ⟨by omega, by omega, this.2.2⟩
    · rename_i hb
      rcases List.mem_cons.1 h with rfl | h
      · exact ⟨le_refl _, by simp, hb⟩
      · have := ih h
        simp only [List.length_cons]
        exact ⟨by omega, by omega, this.2.2⟩

theorem rising_cellsFrom {a : Nat} {bs : List Byte} : Rising (cellsFrom a bs) := by
  induction bs generalizing a with
  | nil => simp [cellsFrom, Rising]
  | cons b bs ih =>
    simp only [cellsFrom]
    split
    · exact ih
    · exact rising_cons.2 ⟨fun e he => by have := cellsFrom_bounds he; omega, ih⟩

theorem rising_spliceMem {m : List Host.Cell} {a : Nat} {bs : List Byte} (h : Rising m) : Rising (spliceMem m a bs) := by
  unfold spliceMem
  refine rising_append (rising_filter _ h) (rising_append rising_cellsFrom (rising_filter _ h) ?_) ?_
  · intro e he f hf
    have := cellsFrom_bounds he
    have := (List.mem_filter.1 hf).2
    simp only [decide_eq_true_eq] at this
    omega
  · intro e he f hf
    have he := (List.mem_filter.1 he).2
    simp only [decide_eq_true_eq] at he
    rcases List.mem_append.1 hf with hf | hf
    · have := cellsFrom_bounds hf
      omega
    · have := (List.mem_filter.1 hf).2
      simp only [decide_eq_true_eq] at this
      omega

theorem mem_spliceMem {m : List Host.Cell} {a : Nat} {bs : List Byte} {e : Host.Cell} (h : e ∈ spliceMem m a bs) :
    e ∈ m ∨ e.2 ≠ 0 := by
  unfold spliceMem at h
  rcases List.mem_append.1 h with h | h
  · exact .inl (List.mem_filter.1 h).1
  · rcases List.mem_append.1 h with h | h
    · exact .inr (cellsFrom_bounds h).2.2
    · exact .inl (List.mem_filter.1 h).1

theorem mem_of_lookupKey {b : Nat} {v : β} {l : List (Nat × β)} (h : lookupKey b l = some v) : (b, v) ∈ l := by
  induction l with
  | nil => simp [lookupKey] at h
  | cons x l ih =>
    obtain ⟨k, w⟩ := x
    simp only [lookupKey] at h
    split at h
    · rename_i hk; subst hk; simp at h; simp [h]
    · exact List.mem_cons_of_mem _ (ih h)

theorem lookupKey_append {b : Nat} {l m : List (Nat × β)} : lookupKey b (l ++ m) = (lookupKey b l).or (lookupKey b m) := by
  induction l with
  | nil => simp [lookupKey]
  | cons x l ih =>
    obtain ⟨k, w⟩ := x
    simp only [List.cons_append, lookupKey, ih]
    split <;> simp

theorem lookupKey_filter {b : Nat} {l : List (Nat × β)} (p : Nat → Bool) :
    lookupKey b (l.filter (fun e => p e.1)) = if p b then lookupKey b l else none := by
  induction l with
  | nil => simp [lookupKey]
  | cons x l ih =>
    obtain ⟨k, w⟩ := x
    simp only [List.filter_cons]
    by_cases hk : p k
    · simp only [hk, ↓reduceIte, lookupKey, ih]
      by_cases hb : k = b
      · subst hb; simp [hk]
      · simp [hb]
    · simp only [hk, Bool.false_eq_true, ↓reduceIte, ih, lookupKey]
      by_cases hb : k = b
      · subst hb; simp [hk]
      · simp [hb]

theorem lookupKey_cellsFrom {a b : Nat} {bs : List Byte} :
    (lookupKey b (cellsFrom a bs)).getD 0 = if a ≤ b then bs.getD (b - a) 0 else 0 := by
  induction bs generalizing a with
  | nil => simp [cellsFrom, lookupKey]
  | cons c bs ih =>
    simp only [cellsFrom]
    by_cases hab : b = a
    · subst hab
      split
      · rename_i hc
        rw [ih]; simp [hc]
      · simp [lookupKey]
    · have hne : ¬ a = b := fun h => hab h.symm
      have hstep : (if a ≤ b then (c :: bs).getD (b - a) 0 else 0) = if a + 1 ≤ b then bs.getD (b - (a + 1)) 0 else 0 := by
        by_cases hlt : a < b
        · rw [if_pos (Nat.le_of_lt hlt), if_pos (show a + 1 ≤ b by omega)]
          obtain ⟨d, rfl⟩ := Nat.exists_eq_add_of_lt hlt
          rw [show a + d + 1 - a = d + 1 by omega, show a + d + 1 - (a + 1) = d by omega]
          simp
        · rw [if_neg (by omega), if_neg (by omega)]
      rw [hstep, ← ih]
      split
      · rfl
      · simp [lookupKey, hne]

/-- Reading engine memory after a write: the bytes written at their addresses, every other byte as before. -/
theorem lookupKey_spliceMem {m : List Host.Cell} {a b : Nat} {bs : List Byte} :
    (lookupKey b (spliceMem m a bs)).getD 0 = if a ≤ b ∧ b < a + bs.length then bs.getD (b - a) 0 else (lookupKey b m).getD 0 := by
  unfold spliceMem
  rw [lookupKey_append, lookupKey_append, lookupKey_filter (fun k => decide (k < a)), lookupKey_filter (fun k => decide (a + bs.length ≤ k))]
  have hc := @lookupKey_cellsFrom a b bs
  by_cases h1 : b < a
  · have : lookupKey b (cellsFrom a bs) = none := by
      cases hx : lookupKey b (cellsFrom a bs) with
      | none => rfl
      | some v =>
        exfalso
        have := cellsFrom_bounds (mem_of_lookupKey hx)
        omega
    simp [h1, this, show ¬ (a ≤ b ∧ b < a + bs.length) by omega, show ¬ a + bs.length ≤ b by omega]
  · by_cases h2 : b < a + bs.length
    · rw [if_pos (show a ≤ b ∧ b < a + bs.length by omega)]
      rw [if_pos (by omega : a ≤ b)] at hc
      simp only [h1, decide_false, Bool.false_eq_true, ↓reduceIte, show ¬ a + bs.length ≤ b by omega]
      simpa using hc
    · rw [if_neg (show ¬ (a ≤ b ∧ b < a + bs.length) by omega)]
      have hn : lookupKey b (cellsFrom a bs) = none := by
        cases hx : lookupKey b (cellsFrom a bs) with
        | none => rfl
        | some v =>
          exfalso
          have := cellsFrom_bounds (mem_of_lookupKey hx)
          omega
      simp [h1, hn, show a + bs.length ≤ b by omega]

end Sys2Proof.Laws
end

