-- ==== Sys2Proof/Laws/State.lean ====
section
/-! SUPPORT. Reading the state after each update: one lemma per field and update, and the laws of registers and their fields. -/

namespace Sys2Proof.Laws

open Machine Machine.State

variable (s : State)

@[simp] theorem setReg_mem (a : Nat) (w : Word) : (s.setReg a w).mem = s.mem := rfl
@[simp] theorem setReg_pending (a : Nat) (w : Word) : (s.setReg a w).pending = s.pending := rfl
@[simp] theorem setReg_free (a : Nat) (w : Word) : (s.setReg a w).free = s.free := rfl
@[simp] theorem setReg_dev (a : Nat) (w : Word) : (s.setReg a w).dev = s.dev := rfl
@[simp] theorem setReg_cairn (a : Nat) (w : Word) : (s.setReg a w).cairn = s.cairn := rfl
@[simp] theorem setReg_ps (a : Nat) (w : Word) : (s.setReg a w).ps = s.ps := rfl
@[simp] theorem setReg_seq (a : Nat) (w : Word) : (s.setReg a w).seq = s.seq := rfl
@[simp] theorem setReg_ef (a : Nat) (w : Word) : (s.setReg a w).ef = s.ef := rfl
@[simp] theorem setReg_vce (a : Nat) (w : Word) : (s.setReg a w).vce = s.vce := rfl
@[simp] theorem setReg_shelf (a : Nat) (w : Word) : (s.setReg a w).shelf = s.shelf := rfl
@[simp] theorem setReg_cn (a : Nat) (w : Word) : (s.setReg a w).cn = s.cn := rfl
@[simp] theorem setReg_rail (a : Nat) (w : Word) : (s.setReg a w).rail = s.rail := rfl
@[simp] theorem setReg_phase (a : Nat) (w : Word) : (s.setReg a w).phase = s.phase := rfl
@[simp] theorem setReg_tb (a : Nat) (w : Word) : (s.setReg a w).tb = s.tb := rfl
@[simp] theorem setReg_inj (a : Nat) (w : Word) : (s.setReg a w).inj = s.inj := rfl
@[simp] theorem setReg_pair (a : Nat) (w : Word) : (s.setReg a w).pair = s.pair := rfl
@[simp] theorem setReg_sdma (a : Nat) (w : Word) : (s.setReg a w).sdma = s.sdma := rfl
@[simp] theorem setReg_sample (a : Nat) (w : Word) : (s.setReg a w).sample = s.sample := rfl
@[simp] theorem setReg_port (a : Nat) (w : Word) : (s.setReg a w).port = s.port := rfl
@[simp] theorem setReg_fm (a : Nat) (w : Word) : (s.setReg a w).fm = s.fm := rfl
@[simp] theorem setReg_est (a : Nat) (w : Word) : (s.setReg a w).est = s.est := rfl
@[simp] theorem setReg_msg (a : Nat) (w : Word) : (s.setReg a w).msg = s.msg := rfl
@[simp] theorem setReg_spi (a : Nat) (w : Word) : (s.setReg a w).spi = s.spi := rfl
@[simp] theorem setReg_vout (a : Nat) (w : Word) : (s.setReg a w).vout = s.vout := rfl
@[simp] theorem setReg_fwLatch (a : Nat) (w : Word) : (s.setReg a w).fwLatch = s.fwLatch := rfl
@[simp] theorem setReg_img (a : Nat) (w : Word) : (s.setReg a w).img = s.img := rfl
@[simp] theorem setF_mem (g : Fld) (v : Nat) : (s.setF g v).mem = s.mem := rfl
@[simp] theorem setF_pending (g : Fld) (v : Nat) : (s.setF g v).pending = s.pending := rfl
@[simp] theorem setF_free (g : Fld) (v : Nat) : (s.setF g v).free = s.free := rfl
@[simp] theorem setF_dev (g : Fld) (v : Nat) : (s.setF g v).dev = s.dev := rfl
@[simp] theorem setF_cairn (g : Fld) (v : Nat) : (s.setF g v).cairn = s.cairn := rfl
@[simp] theorem setF_ps (g : Fld) (v : Nat) : (s.setF g v).ps = s.ps := rfl
@[simp] theorem setF_seq (g : Fld) (v : Nat) : (s.setF g v).seq = s.seq := rfl
@[simp] theorem setF_ef (g : Fld) (v : Nat) : (s.setF g v).ef = s.ef := rfl
@[simp] theorem setF_vce (g : Fld) (v : Nat) : (s.setF g v).vce = s.vce := rfl
@[simp] theorem setF_shelf (g : Fld) (v : Nat) : (s.setF g v).shelf = s.shelf := rfl
@[simp] theorem setF_cn (g : Fld) (v : Nat) : (s.setF g v).cn = s.cn := rfl
@[simp] theorem setF_rail (g : Fld) (v : Nat) : (s.setF g v).rail = s.rail := rfl
@[simp] theorem setF_phase (g : Fld) (v : Nat) : (s.setF g v).phase = s.phase := rfl
@[simp] theorem setF_tb (g : Fld) (v : Nat) : (s.setF g v).tb = s.tb := rfl
@[simp] theorem setF_inj (g : Fld) (v : Nat) : (s.setF g v).inj = s.inj := rfl
@[simp] theorem setF_pair (g : Fld) (v : Nat) : (s.setF g v).pair = s.pair := rfl
@[simp] theorem setF_sdma (g : Fld) (v : Nat) : (s.setF g v).sdma = s.sdma := rfl
@[simp] theorem setF_sample (g : Fld) (v : Nat) : (s.setF g v).sample = s.sample := rfl
@[simp] theorem setF_port (g : Fld) (v : Nat) : (s.setF g v).port = s.port := rfl
@[simp] theorem setF_fm (g : Fld) (v : Nat) : (s.setF g v).fm = s.fm := rfl
@[simp] theorem setF_est (g : Fld) (v : Nat) : (s.setF g v).est = s.est := rfl
@[simp] theorem setF_msg (g : Fld) (v : Nat) : (s.setF g v).msg = s.msg := rfl
@[simp] theorem setF_spi (g : Fld) (v : Nat) : (s.setF g v).spi = s.spi := rfl
@[simp] theorem setF_vout (g : Fld) (v : Nat) : (s.setF g v).vout = s.vout := rfl
@[simp] theorem setF_fwLatch (g : Fld) (v : Nat) : (s.setF g v).fwLatch = s.fwLatch := rfl
@[simp] theorem setF_img (g : Fld) (v : Nat) : (s.setF g v).img = s.img := rfl
@[simp] theorem writeBytes_regs (a : Nat) (bs : List Byte) : (s.writeBytes a bs).regs = s.regs := rfl
@[simp] theorem writeBytes_pending (a : Nat) (bs : List Byte) : (s.writeBytes a bs).pending = s.pending := rfl
@[simp] theorem writeBytes_free (a : Nat) (bs : List Byte) : (s.writeBytes a bs).free = s.free := rfl
@[simp] theorem writeBytes_dev (a : Nat) (bs : List Byte) : (s.writeBytes a bs).dev = s.dev := rfl
@[simp] theorem writeBytes_cairn (a : Nat) (bs : List Byte) : (s.writeBytes a bs).cairn = s.cairn := rfl
@[simp] theorem writeBytes_ps (a : Nat) (bs : List Byte) : (s.writeBytes a bs).ps = s.ps := rfl
@[simp] theorem writeBytes_seq (a : Nat) (bs : List Byte) : (s.writeBytes a bs).seq = s.seq := rfl
@[simp] theorem writeBytes_ef (a : Nat) (bs : List Byte) : (s.writeBytes a bs).ef = s.ef := rfl
@[simp] theorem writeBytes_vce (a : Nat) (bs : List Byte) : (s.writeBytes a bs).vce = s.vce := rfl
@[simp] theorem writeBytes_shelf (a : Nat) (bs : List Byte) : (s.writeBytes a bs).shelf = s.shelf := rfl
@[simp] theorem writeBytes_cn (a : Nat) (bs : List Byte) : (s.writeBytes a bs).cn = s.cn := rfl
@[simp] theorem writeBytes_rail (a : Nat) (bs : List Byte) : (s.writeBytes a bs).rail = s.rail := rfl
@[simp] theorem writeBytes_phase (a : Nat) (bs : List Byte) : (s.writeBytes a bs).phase = s.phase := rfl
@[simp] theorem writeBytes_tb (a : Nat) (bs : List Byte) : (s.writeBytes a bs).tb = s.tb := rfl
@[simp] theorem writeBytes_inj (a : Nat) (bs : List Byte) : (s.writeBytes a bs).inj = s.inj := rfl
@[simp] theorem writeBytes_pair (a : Nat) (bs : List Byte) : (s.writeBytes a bs).pair = s.pair := rfl
@[simp] theorem writeBytes_sdma (a : Nat) (bs : List Byte) : (s.writeBytes a bs).sdma = s.sdma := rfl
@[simp] theorem writeBytes_sample (a : Nat) (bs : List Byte) : (s.writeBytes a bs).sample = s.sample := rfl
@[simp] theorem writeBytes_port (a : Nat) (bs : List Byte) : (s.writeBytes a bs).port = s.port := rfl
@[simp] theorem writeBytes_fm (a : Nat) (bs : List Byte) : (s.writeBytes a bs).fm = s.fm := rfl
@[simp] theorem writeBytes_est (a : Nat) (bs : List Byte) : (s.writeBytes a bs).est = s.est := rfl
@[simp] theorem writeBytes_msg (a : Nat) (bs : List Byte) : (s.writeBytes a bs).msg = s.msg := rfl
@[simp] theorem writeBytes_spi (a : Nat) (bs : List Byte) : (s.writeBytes a bs).spi = s.spi := rfl
@[simp] theorem writeBytes_vout (a : Nat) (bs : List Byte) : (s.writeBytes a bs).vout = s.vout := rfl
@[simp] theorem writeBytes_fwLatch (a : Nat) (bs : List Byte) : (s.writeBytes a bs).fwLatch = s.fwLatch := rfl
@[simp] theorem writeBytes_img (a : Nat) (bs : List Byte) : (s.writeBytes a bs).img = s.img := rfl

@[simp] theorem updCn_regs (f : CorniceSt → CorniceSt) : (s.updCn f).regs = s.regs := rfl
@[simp] theorem updCn_mem (f : CorniceSt → CorniceSt) : (s.updCn f).mem = s.mem := rfl
@[simp] theorem updCn_pending (f : CorniceSt → CorniceSt) : (s.updCn f).pending = s.pending := rfl
@[simp] theorem updCn_free (f : CorniceSt → CorniceSt) : (s.updCn f).free = s.free := rfl
@[simp] theorem updCn_dev (f : CorniceSt → CorniceSt) : (s.updCn f).dev = s.dev := rfl
@[simp] theorem updCn_cairn (f : CorniceSt → CorniceSt) : (s.updCn f).cairn = s.cairn := rfl
@[simp] theorem updCn_ps (f : CorniceSt → CorniceSt) : (s.updCn f).ps = s.ps := rfl
@[simp] theorem updCn_seq (f : CorniceSt → CorniceSt) : (s.updCn f).seq = s.seq := rfl
@[simp] theorem updCn_ef (f : CorniceSt → CorniceSt) : (s.updCn f).ef = s.ef := rfl
@[simp] theorem updCn_vce (f : CorniceSt → CorniceSt) : (s.updCn f).vce = s.vce := rfl
@[simp] theorem updCn_shelf (f : CorniceSt → CorniceSt) : (s.updCn f).shelf = s.shelf := rfl
@[simp] theorem updCn_cn (f : CorniceSt → CorniceSt) : (s.updCn f).cn = f s.cn := rfl
@[simp] theorem updCn_rail (f : CorniceSt → CorniceSt) : (s.updCn f).rail = s.rail := rfl
@[simp] theorem updCn_phase (f : CorniceSt → CorniceSt) : (s.updCn f).phase = s.phase := rfl
@[simp] theorem updCn_tb (f : CorniceSt → CorniceSt) : (s.updCn f).tb = s.tb := rfl
@[simp] theorem updCn_inj (f : CorniceSt → CorniceSt) : (s.updCn f).inj = s.inj := rfl
@[simp] theorem updCn_pair (f : CorniceSt → CorniceSt) : (s.updCn f).pair = s.pair := rfl
@[simp] theorem updCn_sdma (f : CorniceSt → CorniceSt) : (s.updCn f).sdma = s.sdma := rfl
@[simp] theorem updCn_sample (f : CorniceSt → CorniceSt) : (s.updCn f).sample = s.sample := rfl
@[simp] theorem updCn_port (f : CorniceSt → CorniceSt) : (s.updCn f).port = s.port := rfl
@[simp] theorem updCn_fm (f : CorniceSt → CorniceSt) : (s.updCn f).fm = s.fm := rfl
@[simp] theorem updCn_est (f : CorniceSt → CorniceSt) : (s.updCn f).est = s.est := rfl
@[simp] theorem updCn_msg (f : CorniceSt → CorniceSt) : (s.updCn f).msg = s.msg := rfl
@[simp] theorem updCn_spi (f : CorniceSt → CorniceSt) : (s.updCn f).spi = s.spi := rfl
@[simp] theorem updCn_vout (f : CorniceSt → CorniceSt) : (s.updCn f).vout = s.vout := rfl
@[simp] theorem updCn_fwLatch (f : CorniceSt → CorniceSt) : (s.updCn f).fwLatch = s.fwLatch := rfl
@[simp] theorem updCn_img (f : CorniceSt → CorniceSt) : (s.updCn f).img = s.img := rfl
@[simp] theorem updCn_getReg (f : CorniceSt → CorniceSt) (a : Nat) : (s.updCn f).getReg a = s.getReg a := rfl
@[simp] theorem updCn_getF (f : CorniceSt → CorniceSt) (g : Fld) : (s.updCn f).getF g = s.getF g := rfl
@[simp] theorem updCn_getB (f : CorniceSt → CorniceSt) (g : Fld) : (s.updCn f).getB g = s.getB g := rfl
@[simp] theorem updCn_readByte (f : CorniceSt → CorniceSt) (a : Nat) : (s.updCn f).readByte a = s.readByte a := rfl

@[simp] theorem updEf_regs (c : Nat) (f : EfuseSt → EfuseSt) : (s.updEf c f).regs = s.regs := rfl
@[simp] theorem updEf_mem (c : Nat) (f : EfuseSt → EfuseSt) : (s.updEf c f).mem = s.mem := rfl
@[simp] theorem updEf_pending (c : Nat) (f : EfuseSt → EfuseSt) : (s.updEf c f).pending = s.pending := rfl
@[simp] theorem updEf_free (c : Nat) (f : EfuseSt → EfuseSt) : (s.updEf c f).free = s.free := rfl
@[simp] theorem updEf_dev (c : Nat) (f : EfuseSt → EfuseSt) : (s.updEf c f).dev = s.dev := rfl
@[simp] theorem updEf_cairn (c : Nat) (f : EfuseSt → EfuseSt) : (s.updEf c f).cairn = s.cairn := rfl
@[simp] theorem updEf_ps (c : Nat) (f : EfuseSt → EfuseSt) : (s.updEf c f).ps = s.ps := rfl
@[simp] theorem updEf_seq (c : Nat) (f : EfuseSt → EfuseSt) : (s.updEf c f).seq = s.seq := rfl
@[simp] theorem updEf_ef (c : Nat) (f : EfuseSt → EfuseSt) : (s.updEf c f).ef = s.ef.modify c f := rfl
@[simp] theorem updEf_vce (c : Nat) (f : EfuseSt → EfuseSt) : (s.updEf c f).vce = s.vce := rfl
@[simp] theorem updEf_shelf (c : Nat) (f : EfuseSt → EfuseSt) : (s.updEf c f).shelf = s.shelf := rfl
@[simp] theorem updEf_cn (c : Nat) (f : EfuseSt → EfuseSt) : (s.updEf c f).cn = s.cn := rfl
@[simp] theorem updEf_rail (c : Nat) (f : EfuseSt → EfuseSt) : (s.updEf c f).rail = s.rail := rfl
@[simp] theorem updEf_phase (c : Nat) (f : EfuseSt → EfuseSt) : (s.updEf c f).phase = s.phase := rfl
@[simp] theorem updEf_tb (c : Nat) (f : EfuseSt → EfuseSt) : (s.updEf c f).tb = s.tb := rfl
@[simp] theorem updEf_inj (c : Nat) (f : EfuseSt → EfuseSt) : (s.updEf c f).inj = s.inj := rfl
@[simp] theorem updEf_pair (c : Nat) (f : EfuseSt → EfuseSt) : (s.updEf c f).pair = s.pair := rfl
@[simp] theorem updEf_sdma (c : Nat) (f : EfuseSt → EfuseSt) : (s.updEf c f).sdma = s.sdma := rfl
@[simp] theorem updEf_sample (c : Nat) (f : EfuseSt → EfuseSt) : (s.updEf c f).sample = s.sample := rfl
@[simp] theorem updEf_port (c : Nat) (f : EfuseSt → EfuseSt) : (s.updEf c f).port = s.port := rfl
@[simp] theorem updEf_fm (c : Nat) (f : EfuseSt → EfuseSt) : (s.updEf c f).fm = s.fm := rfl
@[simp] theorem updEf_est (c : Nat) (f : EfuseSt → EfuseSt) : (s.updEf c f).est = s.est := rfl
@[simp] theorem updEf_msg (c : Nat) (f : EfuseSt → EfuseSt) : (s.updEf c f).msg = s.msg := rfl
@[simp] theorem updEf_spi (c : Nat) (f : EfuseSt → EfuseSt) : (s.updEf c f).spi = s.spi := rfl
@[simp] theorem updEf_vout (c : Nat) (f : EfuseSt → EfuseSt) : (s.updEf c f).vout = s.vout := rfl
@[simp] theorem updEf_fwLatch (c : Nat) (f : EfuseSt → EfuseSt) : (s.updEf c f).fwLatch = s.fwLatch := rfl
@[simp] theorem updEf_img (c : Nat) (f : EfuseSt → EfuseSt) : (s.updEf c f).img = s.img := rfl
@[simp] theorem updEf_getReg (c : Nat) (f : EfuseSt → EfuseSt) (a : Nat) : (s.updEf c f).getReg a = s.getReg a := rfl
@[simp] theorem updEf_getF (c : Nat) (f : EfuseSt → EfuseSt) (g : Fld) : (s.updEf c f).getF g = s.getF g := rfl
@[simp] theorem updEf_getB (c : Nat) (f : EfuseSt → EfuseSt) (g : Fld) : (s.updEf c f).getB g = s.getB g := rfl
@[simp] theorem updEf_readByte (c : Nat) (f : EfuseSt → EfuseSt) (a : Nat) : (s.updEf c f).readByte a = s.readByte a := rfl

@[simp] theorem updEst_regs (k : Nat) (f : EstStr → EstStr) : (s.updEst k f).regs = s.regs := rfl
@[simp] theorem updEst_mem (k : Nat) (f : EstStr → EstStr) : (s.updEst k f).mem = s.mem := rfl
@[simp] theorem updEst_pending (k : Nat) (f : EstStr → EstStr) : (s.updEst k f).pending = s.pending := rfl
@[simp] theorem updEst_free (k : Nat) (f : EstStr → EstStr) : (s.updEst k f).free = s.free := rfl
@[simp] theorem updEst_dev (k : Nat) (f : EstStr → EstStr) : (s.updEst k f).dev = s.dev := rfl
@[simp] theorem updEst_cairn (k : Nat) (f : EstStr → EstStr) : (s.updEst k f).cairn = s.cairn := rfl
@[simp] theorem updEst_ps (k : Nat) (f : EstStr → EstStr) : (s.updEst k f).ps = s.ps := rfl
@[simp] theorem updEst_seq (k : Nat) (f : EstStr → EstStr) : (s.updEst k f).seq = s.seq := rfl
@[simp] theorem updEst_ef (k : Nat) (f : EstStr → EstStr) : (s.updEst k f).ef = s.ef := rfl
@[simp] theorem updEst_vce (k : Nat) (f : EstStr → EstStr) : (s.updEst k f).vce = s.vce := rfl
@[simp] theorem updEst_shelf (k : Nat) (f : EstStr → EstStr) : (s.updEst k f).shelf = s.shelf := rfl
@[simp] theorem updEst_cn (k : Nat) (f : EstStr → EstStr) : (s.updEst k f).cn = s.cn := rfl
@[simp] theorem updEst_rail (k : Nat) (f : EstStr → EstStr) : (s.updEst k f).rail = s.rail := rfl
@[simp] theorem updEst_phase (k : Nat) (f : EstStr → EstStr) : (s.updEst k f).phase = s.phase := rfl
@[simp] theorem updEst_tb (k : Nat) (f : EstStr → EstStr) : (s.updEst k f).tb = s.tb := rfl
@[simp] theorem updEst_inj (k : Nat) (f : EstStr → EstStr) : (s.updEst k f).inj = s.inj := rfl
@[simp] theorem updEst_pair (k : Nat) (f : EstStr → EstStr) : (s.updEst k f).pair = s.pair := rfl
@[simp] theorem updEst_sdma (k : Nat) (f : EstStr → EstStr) : (s.updEst k f).sdma = s.sdma := rfl
@[simp] theorem updEst_sample (k : Nat) (f : EstStr → EstStr) : (s.updEst k f).sample = s.sample := rfl
@[simp] theorem updEst_port (k : Nat) (f : EstStr → EstStr) : (s.updEst k f).port = s.port := rfl
@[simp] theorem updEst_fm (k : Nat) (f : EstStr → EstStr) : (s.updEst k f).fm = s.fm := rfl
@[simp] theorem updEst_est (k : Nat) (f : EstStr → EstStr) : (s.updEst k f).est = s.est.set k (f (s.estOf k)) := rfl
@[simp] theorem updEst_msg (k : Nat) (f : EstStr → EstStr) : (s.updEst k f).msg = s.msg := rfl
@[simp] theorem updEst_spi (k : Nat) (f : EstStr → EstStr) : (s.updEst k f).spi = s.spi := rfl
@[simp] theorem updEst_vout (k : Nat) (f : EstStr → EstStr) : (s.updEst k f).vout = s.vout := rfl
@[simp] theorem updEst_fwLatch (k : Nat) (f : EstStr → EstStr) : (s.updEst k f).fwLatch = s.fwLatch := rfl
@[simp] theorem updEst_img (k : Nat) (f : EstStr → EstStr) : (s.updEst k f).img = s.img := rfl
@[simp] theorem updEst_getReg (k : Nat) (f : EstStr → EstStr) (a : Nat) : (s.updEst k f).getReg a = s.getReg a := rfl
@[simp] theorem updEst_getF (k : Nat) (f : EstStr → EstStr) (g : Fld) : (s.updEst k f).getF g = s.getF g := rfl
@[simp] theorem updEst_getB (k : Nat) (f : EstStr → EstStr) (g : Fld) : (s.updEst k f).getB g = s.getB g := rfl
@[simp] theorem updEst_readByte (k : Nat) (f : EstStr → EstStr) (a : Nat) : (s.updEst k f).readByte a = s.readByte a := rfl

@[simp] theorem updMsg_regs (p : Nat) (f : MsgSt → MsgSt) : (s.updMsg p f).regs = s.regs := rfl
@[simp] theorem updMsg_mem (p : Nat) (f : MsgSt → MsgSt) : (s.updMsg p f).mem = s.mem := rfl
@[simp] theorem updMsg_pending (p : Nat) (f : MsgSt → MsgSt) : (s.updMsg p f).pending = s.pending := rfl
@[simp] theorem updMsg_free (p : Nat) (f : MsgSt → MsgSt) : (s.updMsg p f).free = s.free := rfl
@[simp] theorem updMsg_dev (p : Nat) (f : MsgSt → MsgSt) : (s.updMsg p f).dev = s.dev := rfl
@[simp] theorem updMsg_cairn (p : Nat) (f : MsgSt → MsgSt) : (s.updMsg p f).cairn = s.cairn := rfl
@[simp] theorem updMsg_ps (p : Nat) (f : MsgSt → MsgSt) : (s.updMsg p f).ps = s.ps := rfl
@[simp] theorem updMsg_seq (p : Nat) (f : MsgSt → MsgSt) : (s.updMsg p f).seq = s.seq := rfl
@[simp] theorem updMsg_ef (p : Nat) (f : MsgSt → MsgSt) : (s.updMsg p f).ef = s.ef := rfl
@[simp] theorem updMsg_vce (p : Nat) (f : MsgSt → MsgSt) : (s.updMsg p f).vce = s.vce := rfl
@[simp] theorem updMsg_shelf (p : Nat) (f : MsgSt → MsgSt) : (s.updMsg p f).shelf = s.shelf := rfl
@[simp] theorem updMsg_cn (p : Nat) (f : MsgSt → MsgSt) : (s.updMsg p f).cn = s.cn := rfl
@[simp] theorem updMsg_rail (p : Nat) (f : MsgSt → MsgSt) : (s.updMsg p f).rail = s.rail := rfl
@[simp] theorem updMsg_phase (p : Nat) (f : MsgSt → MsgSt) : (s.updMsg p f).phase = s.phase := rfl
@[simp] theorem updMsg_tb (p : Nat) (f : MsgSt → MsgSt) : (s.updMsg p f).tb = s.tb := rfl
@[simp] theorem updMsg_inj (p : Nat) (f : MsgSt → MsgSt) : (s.updMsg p f).inj = s.inj := rfl
@[simp] theorem updMsg_pair (p : Nat) (f : MsgSt → MsgSt) : (s.updMsg p f).pair = s.pair := rfl
@[simp] theorem updMsg_sdma (p : Nat) (f : MsgSt → MsgSt) : (s.updMsg p f).sdma = s.sdma := rfl
@[simp] theorem updMsg_sample (p : Nat) (f : MsgSt → MsgSt) : (s.updMsg p f).sample = s.sample := rfl
@[simp] theorem updMsg_port (p : Nat) (f : MsgSt → MsgSt) : (s.updMsg p f).port = s.port := rfl
@[simp] theorem updMsg_fm (p : Nat) (f : MsgSt → MsgSt) : (s.updMsg p f).fm = s.fm := rfl
@[simp] theorem updMsg_est (p : Nat) (f : MsgSt → MsgSt) : (s.updMsg p f).est = s.est := rfl
@[simp] theorem updMsg_msg (p : Nat) (f : MsgSt → MsgSt) : (s.updMsg p f).msg = s.msg.set p (f (s.msgPort p)) := rfl
@[simp] theorem updMsg_spi (p : Nat) (f : MsgSt → MsgSt) : (s.updMsg p f).spi = s.spi := rfl
@[simp] theorem updMsg_vout (p : Nat) (f : MsgSt → MsgSt) : (s.updMsg p f).vout = s.vout := rfl
@[simp] theorem updMsg_fwLatch (p : Nat) (f : MsgSt → MsgSt) : (s.updMsg p f).fwLatch = s.fwLatch := rfl
@[simp] theorem updMsg_img (p : Nat) (f : MsgSt → MsgSt) : (s.updMsg p f).img = s.img := rfl
@[simp] theorem updMsg_getReg (p : Nat) (f : MsgSt → MsgSt) (a : Nat) : (s.updMsg p f).getReg a = s.getReg a := rfl
@[simp] theorem updMsg_getF (p : Nat) (f : MsgSt → MsgSt) (g : Fld) : (s.updMsg p f).getF g = s.getF g := rfl
@[simp] theorem updMsg_getB (p : Nat) (f : MsgSt → MsgSt) (g : Fld) : (s.updMsg p f).getB g = s.getB g := rfl
@[simp] theorem updMsg_readByte (p : Nat) (f : MsgSt → MsgSt) (a : Nat) : (s.updMsg p f).readByte a = s.readByte a := rfl

@[simp] theorem updPair_regs (f : PairSt → PairSt) : (s.updPair f).regs = s.regs := rfl
@[simp] theorem updPair_mem (f : PairSt → PairSt) : (s.updPair f).mem = s.mem := rfl
@[simp] theorem updPair_pending (f : PairSt → PairSt) : (s.updPair f).pending = s.pending := rfl
@[simp] theorem updPair_free (f : PairSt → PairSt) : (s.updPair f).free = s.free := rfl
@[simp] theorem updPair_dev (f : PairSt → PairSt) : (s.updPair f).dev = s.dev := rfl
@[simp] theorem updPair_cairn (f : PairSt → PairSt) : (s.updPair f).cairn = s.cairn := rfl
@[simp] theorem updPair_ps (f : PairSt → PairSt) : (s.updPair f).ps = s.ps := rfl
@[simp] theorem updPair_seq (f : PairSt → PairSt) : (s.updPair f).seq = s.seq := rfl
@[simp] theorem updPair_ef (f : PairSt → PairSt) : (s.updPair f).ef = s.ef := rfl
@[simp] theorem updPair_vce (f : PairSt → PairSt) : (s.updPair f).vce = s.vce := rfl
@[simp] theorem updPair_shelf (f : PairSt → PairSt) : (s.updPair f).shelf = s.shelf := rfl
@[simp] theorem updPair_cn (f : PairSt → PairSt) : (s.updPair f).cn = s.cn := rfl
@[simp] theorem updPair_rail (f : PairSt → PairSt) : (s.updPair f).rail = s.rail := rfl
@[simp] theorem updPair_phase (f : PairSt → PairSt) : (s.updPair f).phase = s.phase := rfl
@[simp] theorem updPair_tb (f : PairSt → PairSt) : (s.updPair f).tb = s.tb := rfl
@[simp] theorem updPair_inj (f : PairSt → PairSt) : (s.updPair f).inj = s.inj := rfl
@[simp] theorem updPair_pair (f : PairSt → PairSt) : (s.updPair f).pair = f s.pair := rfl
@[simp] theorem updPair_sdma (f : PairSt → PairSt) : (s.updPair f).sdma = s.sdma := rfl
@[simp] theorem updPair_sample (f : PairSt → PairSt) : (s.updPair f).sample = s.sample := rfl
@[simp] theorem updPair_port (f : PairSt → PairSt) : (s.updPair f).port = s.port := rfl
@[simp] theorem updPair_fm (f : PairSt → PairSt) : (s.updPair f).fm = s.fm := rfl
@[simp] theorem updPair_est (f : PairSt → PairSt) : (s.updPair f).est = s.est := rfl
@[simp] theorem updPair_msg (f : PairSt → PairSt) : (s.updPair f).msg = s.msg := rfl
@[simp] theorem updPair_spi (f : PairSt → PairSt) : (s.updPair f).spi = s.spi := rfl
@[simp] theorem updPair_vout (f : PairSt → PairSt) : (s.updPair f).vout = s.vout := rfl
@[simp] theorem updPair_fwLatch (f : PairSt → PairSt) : (s.updPair f).fwLatch = s.fwLatch := rfl
@[simp] theorem updPair_img (f : PairSt → PairSt) : (s.updPair f).img = s.img := rfl
@[simp] theorem updPair_getReg (f : PairSt → PairSt) (a : Nat) : (s.updPair f).getReg a = s.getReg a := rfl
@[simp] theorem updPair_getF (f : PairSt → PairSt) (g : Fld) : (s.updPair f).getF g = s.getF g := rfl
@[simp] theorem updPair_getB (f : PairSt → PairSt) (g : Fld) : (s.updPair f).getB g = s.getB g := rfl
@[simp] theorem updPair_readByte (f : PairSt → PairSt) (a : Nat) : (s.updPair f).readByte a = s.readByte a := rfl

@[simp] theorem updRail_regs (r : Nat) (f : RailSt → RailSt) : (s.updRail r f).regs = s.regs := rfl
@[simp] theorem updRail_mem (r : Nat) (f : RailSt → RailSt) : (s.updRail r f).mem = s.mem := rfl
@[simp] theorem updRail_pending (r : Nat) (f : RailSt → RailSt) : (s.updRail r f).pending = s.pending := rfl
@[simp] theorem updRail_free (r : Nat) (f : RailSt → RailSt) : (s.updRail r f).free = s.free := rfl
@[simp] theorem updRail_dev (r : Nat) (f : RailSt → RailSt) : (s.updRail r f).dev = s.dev := rfl
@[simp] theorem updRail_cairn (r : Nat) (f : RailSt → RailSt) : (s.updRail r f).cairn = s.cairn := rfl
@[simp] theorem updRail_ps (r : Nat) (f : RailSt → RailSt) : (s.updRail r f).ps = s.ps := rfl
@[simp] theorem updRail_seq (r : Nat) (f : RailSt → RailSt) : (s.updRail r f).seq = s.seq := rfl
@[simp] theorem updRail_ef (r : Nat) (f : RailSt → RailSt) : (s.updRail r f).ef = s.ef := rfl
@[simp] theorem updRail_vce (r : Nat) (f : RailSt → RailSt) : (s.updRail r f).vce = s.vce := rfl
@[simp] theorem updRail_shelf (r : Nat) (f : RailSt → RailSt) : (s.updRail r f).shelf = s.shelf := rfl
@[simp] theorem updRail_cn (r : Nat) (f : RailSt → RailSt) : (s.updRail r f).cn = s.cn := rfl
@[simp] theorem updRail_rail (r : Nat) (f : RailSt → RailSt) : (s.updRail r f).rail = s.rail.modify r f := rfl
@[simp] theorem updRail_phase (r : Nat) (f : RailSt → RailSt) : (s.updRail r f).phase = s.phase := rfl
@[simp] theorem updRail_tb (r : Nat) (f : RailSt → RailSt) : (s.updRail r f).tb = s.tb := rfl
@[simp] theorem updRail_inj (r : Nat) (f : RailSt → RailSt) : (s.updRail r f).inj = s.inj := rfl
@[simp] theorem updRail_pair (r : Nat) (f : RailSt → RailSt) : (s.updRail r f).pair = s.pair := rfl
@[simp] theorem updRail_sdma (r : Nat) (f : RailSt → RailSt) : (s.updRail r f).sdma = s.sdma := rfl
@[simp] theorem updRail_sample (r : Nat) (f : RailSt → RailSt) : (s.updRail r f).sample = s.sample := rfl
@[simp] theorem updRail_port (r : Nat) (f : RailSt → RailSt) : (s.updRail r f).port = s.port := rfl
@[simp] theorem updRail_fm (r : Nat) (f : RailSt → RailSt) : (s.updRail r f).fm = s.fm := rfl
@[simp] theorem updRail_est (r : Nat) (f : RailSt → RailSt) : (s.updRail r f).est = s.est := rfl
@[simp] theorem updRail_msg (r : Nat) (f : RailSt → RailSt) : (s.updRail r f).msg = s.msg := rfl
@[simp] theorem updRail_spi (r : Nat) (f : RailSt → RailSt) : (s.updRail r f).spi = s.spi := rfl
@[simp] theorem updRail_vout (r : Nat) (f : RailSt → RailSt) : (s.updRail r f).vout = s.vout := rfl
@[simp] theorem updRail_fwLatch (r : Nat) (f : RailSt → RailSt) : (s.updRail r f).fwLatch = s.fwLatch := rfl
@[simp] theorem updRail_img (r : Nat) (f : RailSt → RailSt) : (s.updRail r f).img = s.img := rfl
@[simp] theorem updRail_getReg (r : Nat) (f : RailSt → RailSt) (a : Nat) : (s.updRail r f).getReg a = s.getReg a := rfl
@[simp] theorem updRail_getF (r : Nat) (f : RailSt → RailSt) (g : Fld) : (s.updRail r f).getF g = s.getF g := rfl
@[simp] theorem updRail_getB (r : Nat) (f : RailSt → RailSt) (g : Fld) : (s.updRail r f).getB g = s.getB g := rfl
@[simp] theorem updRail_readByte (r : Nat) (f : RailSt → RailSt) (a : Nat) : (s.updRail r f).readByte a = s.readByte a := rfl

@[simp] theorem updPhase_regs (p : Nat) (f : PhaseSt → PhaseSt) : (s.updPhase p f).regs = s.regs := rfl
@[simp] theorem updPhase_mem (p : Nat) (f : PhaseSt → PhaseSt) : (s.updPhase p f).mem = s.mem := rfl
@[simp] theorem updPhase_pending (p : Nat) (f : PhaseSt → PhaseSt) : (s.updPhase p f).pending = s.pending := rfl
@[simp] theorem updPhase_free (p : Nat) (f : PhaseSt → PhaseSt) : (s.updPhase p f).free = s.free := rfl
@[simp] theorem updPhase_dev (p : Nat) (f : PhaseSt → PhaseSt) : (s.updPhase p f).dev = s.dev := rfl
@[simp] theorem updPhase_cairn (p : Nat) (f : PhaseSt → PhaseSt) : (s.updPhase p f).cairn = s.cairn := rfl
@[simp] theorem updPhase_ps (p : Nat) (f : PhaseSt → PhaseSt) : (s.updPhase p f).ps = s.ps := rfl
@[simp] theorem updPhase_seq (p : Nat) (f : PhaseSt → PhaseSt) : (s.updPhase p f).seq = s.seq := rfl
@[simp] theorem updPhase_ef (p : Nat) (f : PhaseSt → PhaseSt) : (s.updPhase p f).ef = s.ef := rfl
@[simp] theorem updPhase_vce (p : Nat) (f : PhaseSt → PhaseSt) : (s.updPhase p f).vce = s.vce := rfl
@[simp] theorem updPhase_shelf (p : Nat) (f : PhaseSt → PhaseSt) : (s.updPhase p f).shelf = s.shelf := rfl
@[simp] theorem updPhase_cn (p : Nat) (f : PhaseSt → PhaseSt) : (s.updPhase p f).cn = s.cn := rfl
@[simp] theorem updPhase_rail (p : Nat) (f : PhaseSt → PhaseSt) : (s.updPhase p f).rail = s.rail := rfl
@[simp] theorem updPhase_phase (p : Nat) (f : PhaseSt → PhaseSt) : (s.updPhase p f).phase = s.phase.modify p f := rfl
@[simp] theorem updPhase_tb (p : Nat) (f : PhaseSt → PhaseSt) : (s.updPhase p f).tb = s.tb := rfl
@[simp] theorem updPhase_inj (p : Nat) (f : PhaseSt → PhaseSt) : (s.updPhase p f).inj = s.inj := rfl
@[simp] theorem updPhase_pair (p : Nat) (f : PhaseSt → PhaseSt) : (s.updPhase p f).pair = s.pair := rfl
@[simp] theorem updPhase_sdma (p : Nat) (f : PhaseSt → PhaseSt) : (s.updPhase p f).sdma = s.sdma := rfl
@[simp] theorem updPhase_sample (p : Nat) (f : PhaseSt → PhaseSt) : (s.updPhase p f).sample = s.sample := rfl
@[simp] theorem updPhase_port (p : Nat) (f : PhaseSt → PhaseSt) : (s.updPhase p f).port = s.port := rfl
@[simp] theorem updPhase_fm (p : Nat) (f : PhaseSt → PhaseSt) : (s.updPhase p f).fm = s.fm := rfl
@[simp] theorem updPhase_est (p : Nat) (f : PhaseSt → PhaseSt) : (s.updPhase p f).est = s.est := rfl
@[simp] theorem updPhase_msg (p : Nat) (f : PhaseSt → PhaseSt) : (s.updPhase p f).msg = s.msg := rfl
@[simp] theorem updPhase_spi (p : Nat) (f : PhaseSt → PhaseSt) : (s.updPhase p f).spi = s.spi := rfl
@[simp] theorem updPhase_vout (p : Nat) (f : PhaseSt → PhaseSt) : (s.updPhase p f).vout = s.vout := rfl
@[simp] theorem updPhase_fwLatch (p : Nat) (f : PhaseSt → PhaseSt) : (s.updPhase p f).fwLatch = s.fwLatch := rfl
@[simp] theorem updPhase_img (p : Nat) (f : PhaseSt → PhaseSt) : (s.updPhase p f).img = s.img := rfl
@[simp] theorem updPhase_getReg (p : Nat) (f : PhaseSt → PhaseSt) (a : Nat) : (s.updPhase p f).getReg a = s.getReg a := rfl
@[simp] theorem updPhase_getF (p : Nat) (f : PhaseSt → PhaseSt) (g : Fld) : (s.updPhase p f).getF g = s.getF g := rfl
@[simp] theorem updPhase_getB (p : Nat) (f : PhaseSt → PhaseSt) (g : Fld) : (s.updPhase p f).getB g = s.getB g := rfl
@[simp] theorem updPhase_readByte (p : Nat) (f : PhaseSt → PhaseSt) (a : Nat) : (s.updPhase p f).readByte a = s.readByte a := rfl

@[simp] theorem updSample_regs (f : SampleSt → SampleSt) : (s.updSample f).regs = s.regs := rfl
@[simp] theorem updSample_mem (f : SampleSt → SampleSt) : (s.updSample f).mem = s.mem := rfl
@[simp] theorem updSample_pending (f : SampleSt → SampleSt) : (s.updSample f).pending = s.pending := rfl
@[simp] theorem updSample_free (f : SampleSt → SampleSt) : (s.updSample f).free = s.free := rfl
@[simp] theorem updSample_dev (f : SampleSt → SampleSt) : (s.updSample f).dev = s.dev := rfl
@[simp] theorem updSample_cairn (f : SampleSt → SampleSt) : (s.updSample f).cairn = s.cairn := rfl
@[simp] theorem updSample_ps (f : SampleSt → SampleSt) : (s.updSample f).ps = s.ps := rfl
@[simp] theorem updSample_seq (f : SampleSt → SampleSt) : (s.updSample f).seq = s.seq := rfl
@[simp] theorem updSample_ef (f : SampleSt → SampleSt) : (s.updSample f).ef = s.ef := rfl
@[simp] theorem updSample_vce (f : SampleSt → SampleSt) : (s.updSample f).vce = s.vce := rfl
@[simp] theorem updSample_shelf (f : SampleSt → SampleSt) : (s.updSample f).shelf = s.shelf := rfl
@[simp] theorem updSample_cn (f : SampleSt → SampleSt) : (s.updSample f).cn = s.cn := rfl
@[simp] theorem updSample_rail (f : SampleSt → SampleSt) : (s.updSample f).rail = s.rail := rfl
@[simp] theorem updSample_phase (f : SampleSt → SampleSt) : (s.updSample f).phase = s.phase := rfl
@[simp] theorem updSample_tb (f : SampleSt → SampleSt) : (s.updSample f).tb = s.tb := rfl
@[simp] theorem updSample_inj (f : SampleSt → SampleSt) : (s.updSample f).inj = s.inj := rfl
@[simp] theorem updSample_pair (f : SampleSt → SampleSt) : (s.updSample f).pair = s.pair := rfl
@[simp] theorem updSample_sdma (f : SampleSt → SampleSt) : (s.updSample f).sdma = s.sdma := rfl
@[simp] theorem updSample_sample (f : SampleSt → SampleSt) : (s.updSample f).sample = f s.sample := rfl
@[simp] theorem updSample_port (f : SampleSt → SampleSt) : (s.updSample f).port = s.port := rfl
@[simp] theorem updSample_fm (f : SampleSt → SampleSt) : (s.updSample f).fm = s.fm := rfl
@[simp] theorem updSample_est (f : SampleSt → SampleSt) : (s.updSample f).est = s.est := rfl
@[simp] theorem updSample_msg (f : SampleSt → SampleSt) : (s.updSample f).msg = s.msg := rfl
@[simp] theorem updSample_spi (f : SampleSt → SampleSt) : (s.updSample f).spi = s.spi := rfl
@[simp] theorem updSample_vout (f : SampleSt → SampleSt) : (s.updSample f).vout = s.vout := rfl
@[simp] theorem updSample_fwLatch (f : SampleSt → SampleSt) : (s.updSample f).fwLatch = s.fwLatch := rfl
@[simp] theorem updSample_img (f : SampleSt → SampleSt) : (s.updSample f).img = s.img := rfl
@[simp] theorem updSample_getReg (f : SampleSt → SampleSt) (a : Nat) : (s.updSample f).getReg a = s.getReg a := rfl
@[simp] theorem updSample_getF (f : SampleSt → SampleSt) (g : Fld) : (s.updSample f).getF g = s.getF g := rfl
@[simp] theorem updSample_getB (f : SampleSt → SampleSt) (g : Fld) : (s.updSample f).getB g = s.getB g := rfl
@[simp] theorem updSample_readByte (f : SampleSt → SampleSt) (a : Nat) : (s.updSample f).readByte a = s.readByte a := rfl

@[simp] theorem updSdma_regs (c : Nat) (f : SdmaSt → SdmaSt) : (s.updSdma c f).regs = s.regs := rfl
@[simp] theorem updSdma_mem (c : Nat) (f : SdmaSt → SdmaSt) : (s.updSdma c f).mem = s.mem := rfl
@[simp] theorem updSdma_pending (c : Nat) (f : SdmaSt → SdmaSt) : (s.updSdma c f).pending = s.pending := rfl
@[simp] theorem updSdma_free (c : Nat) (f : SdmaSt → SdmaSt) : (s.updSdma c f).free = s.free := rfl
@[simp] theorem updSdma_dev (c : Nat) (f : SdmaSt → SdmaSt) : (s.updSdma c f).dev = s.dev := rfl
@[simp] theorem updSdma_cairn (c : Nat) (f : SdmaSt → SdmaSt) : (s.updSdma c f).cairn = s.cairn := rfl
@[simp] theorem updSdma_ps (c : Nat) (f : SdmaSt → SdmaSt) : (s.updSdma c f).ps = s.ps := rfl
@[simp] theorem updSdma_seq (c : Nat) (f : SdmaSt → SdmaSt) : (s.updSdma c f).seq = s.seq := rfl
@[simp] theorem updSdma_ef (c : Nat) (f : SdmaSt → SdmaSt) : (s.updSdma c f).ef = s.ef := rfl
@[simp] theorem updSdma_vce (c : Nat) (f : SdmaSt → SdmaSt) : (s.updSdma c f).vce = s.vce := rfl
@[simp] theorem updSdma_shelf (c : Nat) (f : SdmaSt → SdmaSt) : (s.updSdma c f).shelf = s.shelf := rfl
@[simp] theorem updSdma_cn (c : Nat) (f : SdmaSt → SdmaSt) : (s.updSdma c f).cn = s.cn := rfl
@[simp] theorem updSdma_rail (c : Nat) (f : SdmaSt → SdmaSt) : (s.updSdma c f).rail = s.rail := rfl
@[simp] theorem updSdma_phase (c : Nat) (f : SdmaSt → SdmaSt) : (s.updSdma c f).phase = s.phase := rfl
@[simp] theorem updSdma_tb (c : Nat) (f : SdmaSt → SdmaSt) : (s.updSdma c f).tb = s.tb := rfl
@[simp] theorem updSdma_inj (c : Nat) (f : SdmaSt → SdmaSt) : (s.updSdma c f).inj = s.inj := rfl
@[simp] theorem updSdma_pair (c : Nat) (f : SdmaSt → SdmaSt) : (s.updSdma c f).pair = s.pair := rfl
@[simp] theorem updSdma_sdma (c : Nat) (f : SdmaSt → SdmaSt) : (s.updSdma c f).sdma = s.sdma.modify c f := rfl
@[simp] theorem updSdma_sample (c : Nat) (f : SdmaSt → SdmaSt) : (s.updSdma c f).sample = s.sample := rfl
@[simp] theorem updSdma_port (c : Nat) (f : SdmaSt → SdmaSt) : (s.updSdma c f).port = s.port := rfl
@[simp] theorem updSdma_fm (c : Nat) (f : SdmaSt → SdmaSt) : (s.updSdma c f).fm = s.fm := rfl
@[simp] theorem updSdma_est (c : Nat) (f : SdmaSt → SdmaSt) : (s.updSdma c f).est = s.est := rfl
@[simp] theorem updSdma_msg (c : Nat) (f : SdmaSt → SdmaSt) : (s.updSdma c f).msg = s.msg := rfl
@[simp] theorem updSdma_spi (c : Nat) (f : SdmaSt → SdmaSt) : (s.updSdma c f).spi = s.spi := rfl
@[simp] theorem updSdma_vout (c : Nat) (f : SdmaSt → SdmaSt) : (s.updSdma c f).vout = s.vout := rfl
@[simp] theorem updSdma_fwLatch (c : Nat) (f : SdmaSt → SdmaSt) : (s.updSdma c f).fwLatch = s.fwLatch := rfl
@[simp] theorem updSdma_img (c : Nat) (f : SdmaSt → SdmaSt) : (s.updSdma c f).img = s.img := rfl
@[simp] theorem updSdma_getReg (c : Nat) (f : SdmaSt → SdmaSt) (a : Nat) : (s.updSdma c f).getReg a = s.getReg a := rfl
@[simp] theorem updSdma_getF (c : Nat) (f : SdmaSt → SdmaSt) (g : Fld) : (s.updSdma c f).getF g = s.getF g := rfl
@[simp] theorem updSdma_getB (c : Nat) (f : SdmaSt → SdmaSt) (g : Fld) : (s.updSdma c f).getB g = s.getB g := rfl
@[simp] theorem updSdma_readByte (c : Nat) (f : SdmaSt → SdmaSt) (a : Nat) : (s.updSdma c f).readByte a = s.readByte a := rfl

@[simp] theorem updSlot_regs (i : Nat) (f : SeqSlotSt → SeqSlotSt) : (s.updSlot i f).regs = s.regs := rfl
@[simp] theorem updSlot_mem (i : Nat) (f : SeqSlotSt → SeqSlotSt) : (s.updSlot i f).mem = s.mem := rfl
@[simp] theorem updSlot_pending (i : Nat) (f : SeqSlotSt → SeqSlotSt) : (s.updSlot i f).pending = s.pending := rfl
@[simp] theorem updSlot_free (i : Nat) (f : SeqSlotSt → SeqSlotSt) : (s.updSlot i f).free = s.free := rfl
@[simp] theorem updSlot_dev (i : Nat) (f : SeqSlotSt → SeqSlotSt) : (s.updSlot i f).dev = s.dev := rfl
@[simp] theorem updSlot_cairn (i : Nat) (f : SeqSlotSt → SeqSlotSt) : (s.updSlot i f).cairn = s.cairn := rfl
@[simp] theorem updSlot_ps (i : Nat) (f : SeqSlotSt → SeqSlotSt) : (s.updSlot i f).ps = s.ps := rfl
@[simp] theorem updSlot_ef (i : Nat) (f : SeqSlotSt → SeqSlotSt) : (s.updSlot i f).ef = s.ef := rfl
@[simp] theorem updSlot_vce (i : Nat) (f : SeqSlotSt → SeqSlotSt) : (s.updSlot i f).vce = s.vce := rfl
@[simp] theorem updSlot_shelf (i : Nat) (f : SeqSlotSt → SeqSlotSt) : (s.updSlot i f).shelf = s.shelf := rfl
@[simp] theorem updSlot_cn (i : Nat) (f : SeqSlotSt → SeqSlotSt) : (s.updSlot i f).cn = s.cn := rfl
@[simp] theorem updSlot_rail (i : Nat) (f : SeqSlotSt → SeqSlotSt) : (s.updSlot i f).rail = s.rail := rfl
@[simp] theorem updSlot_phase (i : Nat) (f : SeqSlotSt → SeqSlotSt) : (s.updSlot i f).phase = s.phase := rfl
@[simp] theorem updSlot_tb (i : Nat) (f : SeqSlotSt → SeqSlotSt) : (s.updSlot i f).tb = s.tb := rfl
@[simp] theorem updSlot_inj (i : Nat) (f : SeqSlotSt → SeqSlotSt) : (s.updSlot i f).inj = s.inj := rfl
@[simp] theorem updSlot_pair (i : Nat) (f : SeqSlotSt → SeqSlotSt) : (s.updSlot i f).pair = s.pair := rfl
@[simp] theorem updSlot_sdma (i : Nat) (f : SeqSlotSt → SeqSlotSt) : (s.updSlot i f).sdma = s.sdma := rfl
@[simp] theorem updSlot_sample (i : Nat) (f : SeqSlotSt → SeqSlotSt) : (s.updSlot i f).sample = s.sample := rfl
@[simp] theorem updSlot_port (i : Nat) (f : SeqSlotSt → SeqSlotSt) : (s.updSlot i f).port = s.port := rfl
@[simp] theorem updSlot_fm (i : Nat) (f : SeqSlotSt → SeqSlotSt) : (s.updSlot i f).fm = s.fm := rfl
@[simp] theorem updSlot_est (i : Nat) (f : SeqSlotSt → SeqSlotSt) : (s.updSlot i f).est = s.est := rfl
@[simp] theorem updSlot_msg (i : Nat) (f : SeqSlotSt → SeqSlotSt) : (s.updSlot i f).msg = s.msg := rfl
@[simp] theorem updSlot_spi (i : Nat) (f : SeqSlotSt → SeqSlotSt) : (s.updSlot i f).spi = s.spi := rfl
@[simp] theorem updSlot_vout (i : Nat) (f : SeqSlotSt → SeqSlotSt) : (s.updSlot i f).vout = s.vout := rfl
@[simp] theorem updSlot_fwLatch (i : Nat) (f : SeqSlotSt → SeqSlotSt) : (s.updSlot i f).fwLatch = s.fwLatch := rfl
@[simp] theorem updSlot_img (i : Nat) (f : SeqSlotSt → SeqSlotSt) : (s.updSlot i f).img = s.img := rfl
@[simp] theorem updSlot_getReg (i : Nat) (f : SeqSlotSt → SeqSlotSt) (a : Nat) : (s.updSlot i f).getReg a = s.getReg a := rfl
@[simp] theorem updSlot_getF (i : Nat) (f : SeqSlotSt → SeqSlotSt) (g : Fld) : (s.updSlot i f).getF g = s.getF g := rfl
@[simp] theorem updSlot_getB (i : Nat) (f : SeqSlotSt → SeqSlotSt) (g : Fld) : (s.updSlot i f).getB g = s.getB g := rfl
@[simp] theorem updSlot_readByte (i : Nat) (f : SeqSlotSt → SeqSlotSt) (a : Nat) : (s.updSlot i f).readByte a = s.readByte a := rfl

@[simp] theorem updShelf_regs (f : ShelfSt → ShelfSt) : (s.updShelf f).regs = s.regs := rfl
@[simp] theorem updShelf_mem (f : ShelfSt → ShelfSt) : (s.updShelf f).mem = s.mem := rfl
@[simp] theorem updShelf_pending (f : ShelfSt → ShelfSt) : (s.updShelf f).pending = s.pending := rfl
@[simp] theorem updShelf_free (f : ShelfSt → ShelfSt) : (s.updShelf f).free = s.free := rfl
@[simp] theorem updShelf_dev (f : ShelfSt → ShelfSt) : (s.updShelf f).dev = s.dev := rfl
@[simp] theorem updShelf_cairn (f : ShelfSt → ShelfSt) : (s.updShelf f).cairn = s.cairn := rfl
@[simp] theorem updShelf_ps (f : ShelfSt → ShelfSt) : (s.updShelf f).ps = s.ps := rfl
@[simp] theorem updShelf_seq (f : ShelfSt → ShelfSt) : (s.updShelf f).seq = s.seq := rfl
@[simp] theorem updShelf_ef (f : ShelfSt → ShelfSt) : (s.updShelf f).ef = s.ef := rfl
@[simp] theorem updShelf_vce (f : ShelfSt → ShelfSt) : (s.updShelf f).vce = s.vce := rfl
@[simp] theorem updShelf_shelf (f : ShelfSt → ShelfSt) : (s.updShelf f).shelf = f s.shelf := rfl
@[simp] theorem updShelf_cn (f : ShelfSt → ShelfSt) : (s.updShelf f).cn = s.cn := rfl
@[simp] theorem updShelf_rail (f : ShelfSt → ShelfSt) : (s.updShelf f).rail = s.rail := rfl
@[simp] theorem updShelf_phase (f : ShelfSt → ShelfSt) : (s.updShelf f).phase = s.phase := rfl
@[simp] theorem updShelf_tb (f : ShelfSt → ShelfSt) : (s.updShelf f).tb = s.tb := rfl
@[simp] theorem updShelf_inj (f : ShelfSt → ShelfSt) : (s.updShelf f).inj = s.inj := rfl
@[simp] theorem updShelf_pair (f : ShelfSt → ShelfSt) : (s.updShelf f).pair = s.pair := rfl
@[simp] theorem updShelf_sdma (f : ShelfSt → ShelfSt) : (s.updShelf f).sdma = s.sdma := rfl
@[simp] theorem updShelf_sample (f : ShelfSt → ShelfSt) : (s.updShelf f).sample = s.sample := rfl
@[simp] theorem updShelf_port (f : ShelfSt → ShelfSt) : (s.updShelf f).port = s.port := rfl
@[simp] theorem updShelf_fm (f : ShelfSt → ShelfSt) : (s.updShelf f).fm = s.fm := rfl
@[simp] theorem updShelf_est (f : ShelfSt → ShelfSt) : (s.updShelf f).est = s.est := rfl
@[simp] theorem updShelf_msg (f : ShelfSt → ShelfSt) : (s.updShelf f).msg = s.msg := rfl
@[simp] theorem updShelf_spi (f : ShelfSt → ShelfSt) : (s.updShelf f).spi = s.spi := rfl
@[simp] theorem updShelf_vout (f : ShelfSt → ShelfSt) : (s.updShelf f).vout = s.vout := rfl
@[simp] theorem updShelf_fwLatch (f : ShelfSt → ShelfSt) : (s.updShelf f).fwLatch = s.fwLatch := rfl
@[simp] theorem updShelf_img (f : ShelfSt → ShelfSt) : (s.updShelf f).img = s.img := rfl
@[simp] theorem updShelf_getReg (f : ShelfSt → ShelfSt) (a : Nat) : (s.updShelf f).getReg a = s.getReg a := rfl
@[simp] theorem updShelf_getF (f : ShelfSt → ShelfSt) (g : Fld) : (s.updShelf f).getF g = s.getF g := rfl
@[simp] theorem updShelf_getB (f : ShelfSt → ShelfSt) (g : Fld) : (s.updShelf f).getB g = s.getB g := rfl
@[simp] theorem updShelf_readByte (f : ShelfSt → ShelfSt) (a : Nat) : (s.updShelf f).readByte a = s.readByte a := rfl

@[simp] theorem updVs_regs (i : Nat) (f : VSlotSt → VSlotSt) : (s.updVs i f).regs = s.regs := rfl
@[simp] theorem updVs_mem (i : Nat) (f : VSlotSt → VSlotSt) : (s.updVs i f).mem = s.mem := rfl
@[simp] theorem updVs_pending (i : Nat) (f : VSlotSt → VSlotSt) : (s.updVs i f).pending = s.pending := rfl
@[simp] theorem updVs_free (i : Nat) (f : VSlotSt → VSlotSt) : (s.updVs i f).free = s.free := rfl
@[simp] theorem updVs_dev (i : Nat) (f : VSlotSt → VSlotSt) : (s.updVs i f).dev = s.dev := rfl
@[simp] theorem updVs_cairn (i : Nat) (f : VSlotSt → VSlotSt) : (s.updVs i f).cairn = s.cairn := rfl
@[simp] theorem updVs_ps (i : Nat) (f : VSlotSt → VSlotSt) : (s.updVs i f).ps = s.ps := rfl
@[simp] theorem updVs_seq (i : Nat) (f : VSlotSt → VSlotSt) : (s.updVs i f).seq = s.seq := rfl
@[simp] theorem updVs_ef (i : Nat) (f : VSlotSt → VSlotSt) : (s.updVs i f).ef = s.ef := rfl
@[simp] theorem updVs_shelf (i : Nat) (f : VSlotSt → VSlotSt) : (s.updVs i f).shelf = s.shelf := rfl
@[simp] theorem updVs_cn (i : Nat) (f : VSlotSt → VSlotSt) : (s.updVs i f).cn = s.cn := rfl
@[simp] theorem updVs_rail (i : Nat) (f : VSlotSt → VSlotSt) : (s.updVs i f).rail = s.rail := rfl
@[simp] theorem updVs_phase (i : Nat) (f : VSlotSt → VSlotSt) : (s.updVs i f).phase = s.phase := rfl
@[simp] theorem updVs_tb (i : Nat) (f : VSlotSt → VSlotSt) : (s.updVs i f).tb = s.tb := rfl
@[simp] theorem updVs_inj (i : Nat) (f : VSlotSt → VSlotSt) : (s.updVs i f).inj = s.inj := rfl
@[simp] theorem updVs_pair (i : Nat) (f : VSlotSt → VSlotSt) : (s.updVs i f).pair = s.pair := rfl
@[simp] theorem updVs_sdma (i : Nat) (f : VSlotSt → VSlotSt) : (s.updVs i f).sdma = s.sdma := rfl
@[simp] theorem updVs_sample (i : Nat) (f : VSlotSt → VSlotSt) : (s.updVs i f).sample = s.sample := rfl
@[simp] theorem updVs_port (i : Nat) (f : VSlotSt → VSlotSt) : (s.updVs i f).port = s.port := rfl
@[simp] theorem updVs_fm (i : Nat) (f : VSlotSt → VSlotSt) : (s.updVs i f).fm = s.fm := rfl
@[simp] theorem updVs_est (i : Nat) (f : VSlotSt → VSlotSt) : (s.updVs i f).est = s.est := rfl
@[simp] theorem updVs_msg (i : Nat) (f : VSlotSt → VSlotSt) : (s.updVs i f).msg = s.msg := rfl
@[simp] theorem updVs_spi (i : Nat) (f : VSlotSt → VSlotSt) : (s.updVs i f).spi = s.spi := rfl
@[simp] theorem updVs_vout (i : Nat) (f : VSlotSt → VSlotSt) : (s.updVs i f).vout = s.vout := rfl
@[simp] theorem updVs_fwLatch (i : Nat) (f : VSlotSt → VSlotSt) : (s.updVs i f).fwLatch = s.fwLatch := rfl
@[simp] theorem updVs_img (i : Nat) (f : VSlotSt → VSlotSt) : (s.updVs i f).img = s.img := rfl
@[simp] theorem updVs_getReg (i : Nat) (f : VSlotSt → VSlotSt) (a : Nat) : (s.updVs i f).getReg a = s.getReg a := rfl
@[simp] theorem updVs_getF (i : Nat) (f : VSlotSt → VSlotSt) (g : Fld) : (s.updVs i f).getF g = s.getF g := rfl
@[simp] theorem updVs_getB (i : Nat) (f : VSlotSt → VSlotSt) (g : Fld) : (s.updVs i f).getB g = s.getB g := rfl
@[simp] theorem updVs_readByte (i : Nat) (f : VSlotSt → VSlotSt) (a : Nat) : (s.updVs i f).readByte a = s.readByte a := rfl

@[simp] theorem updPort_regs (n : Nat) (f : PortSt → PortSt) : (s.updPort n f).regs = s.regs := rfl
@[simp] theorem updPort_mem (n : Nat) (f : PortSt → PortSt) : (s.updPort n f).mem = s.mem := rfl
@[simp] theorem updPort_pending (n : Nat) (f : PortSt → PortSt) : (s.updPort n f).pending = s.pending := rfl
@[simp] theorem updPort_free (n : Nat) (f : PortSt → PortSt) : (s.updPort n f).free = s.free := rfl
@[simp] theorem updPort_dev (n : Nat) (f : PortSt → PortSt) : (s.updPort n f).dev = s.dev := rfl
@[simp] theorem updPort_cairn (n : Nat) (f : PortSt → PortSt) : (s.updPort n f).cairn = s.cairn := rfl
@[simp] theorem updPort_ps (n : Nat) (f : PortSt → PortSt) : (s.updPort n f).ps = s.ps := rfl
@[simp] theorem updPort_seq (n : Nat) (f : PortSt → PortSt) : (s.updPort n f).seq = s.seq := rfl
@[simp] theorem updPort_ef (n : Nat) (f : PortSt → PortSt) : (s.updPort n f).ef = s.ef := rfl
@[simp] theorem updPort_vce (n : Nat) (f : PortSt → PortSt) : (s.updPort n f).vce = s.vce := rfl
@[simp] theorem updPort_shelf (n : Nat) (f : PortSt → PortSt) : (s.updPort n f).shelf = s.shelf := rfl
@[simp] theorem updPort_cn (n : Nat) (f : PortSt → PortSt) : (s.updPort n f).cn = s.cn := rfl
@[simp] theorem updPort_rail (n : Nat) (f : PortSt → PortSt) : (s.updPort n f).rail = s.rail := rfl
@[simp] theorem updPort_phase (n : Nat) (f : PortSt → PortSt) : (s.updPort n f).phase = s.phase := rfl
@[simp] theorem updPort_tb (n : Nat) (f : PortSt → PortSt) : (s.updPort n f).tb = s.tb := rfl
@[simp] theorem updPort_inj (n : Nat) (f : PortSt → PortSt) : (s.updPort n f).inj = s.inj := rfl
@[simp] theorem updPort_pair (n : Nat) (f : PortSt → PortSt) : (s.updPort n f).pair = s.pair := rfl
@[simp] theorem updPort_sdma (n : Nat) (f : PortSt → PortSt) : (s.updPort n f).sdma = s.sdma := rfl
@[simp] theorem updPort_sample (n : Nat) (f : PortSt → PortSt) : (s.updPort n f).sample = s.sample := rfl
@[simp] theorem updPort_port (n : Nat) (f : PortSt → PortSt) : (s.updPort n f).port = s.port.modify n f := rfl
@[simp] theorem updPort_fm (n : Nat) (f : PortSt → PortSt) : (s.updPort n f).fm = s.fm := rfl
@[simp] theorem updPort_est (n : Nat) (f : PortSt → PortSt) : (s.updPort n f).est = s.est := rfl
@[simp] theorem updPort_msg (n : Nat) (f : PortSt → PortSt) : (s.updPort n f).msg = s.msg := rfl
@[simp] theorem updPort_spi (n : Nat) (f : PortSt → PortSt) : (s.updPort n f).spi = s.spi := rfl
@[simp] theorem updPort_vout (n : Nat) (f : PortSt → PortSt) : (s.updPort n f).vout = s.vout := rfl
@[simp] theorem updPort_fwLatch (n : Nat) (f : PortSt → PortSt) : (s.updPort n f).fwLatch = s.fwLatch := rfl
@[simp] theorem updPort_img (n : Nat) (f : PortSt → PortSt) : (s.updPort n f).img = s.img := rfl
@[simp] theorem updPort_getReg (n : Nat) (f : PortSt → PortSt) (a : Nat) : (s.updPort n f).getReg a = s.getReg a := rfl
@[simp] theorem updPort_getF (n : Nat) (f : PortSt → PortSt) (g : Fld) : (s.updPort n f).getF g = s.getF g := rfl
@[simp] theorem updPort_getB (n : Nat) (f : PortSt → PortSt) (g : Fld) : (s.updPort n f).getB g = s.getB g := rfl
@[simp] theorem updPort_readByte (n : Nat) (f : PortSt → PortSt) (a : Nat) : (s.updPort n f).readByte a = s.readByte a := rfl

variable {s}

/-- A register reads what was set; every other register reads as before. -/
theorem getReg_setReg (a b : Nat) (w : Word) : (s.setReg a w).getReg b = if b = a then w else s.getReg b := by
  simp only [getReg, setReg]
  by_cases h : b = a
  · subst h; simpa using lookupKey_putKey (a := b) (b := b) (v := w) (d := resetWord b) (l := s.regs)
  · rw [if_neg h, lookupKey_putKey_ne h]

@[simp] theorem getReg_setReg_self (a : Nat) (w : Word) : (s.setReg a w).getReg a = w := by simp [getReg_setReg]

theorem getReg_setReg_ne {a b : Nat} (w : Word) (h : b ≠ a) : (s.setReg a w).getReg b = s.getReg b := by simp [getReg_setReg, h]

@[simp] theorem setReg_readByte (a : Nat) (w : Word) (b : Nat) : (s.setReg a w).readByte b = s.readByte b := rfl
@[simp] theorem setF_readByte (g : Fld) (v : Nat) (b : Nat) : (s.setF g v).readByte b = s.readByte b := rfl
@[simp] theorem writeBytes_getReg (a : Nat) (bs : List Byte) (b : Nat) : (s.writeBytes a bs).getReg b = s.getReg b := rfl

/-- A byte of engine memory after a write. -/
theorem readByte_writeBytes (a b : Nat) (bs : List Byte) :
    (s.writeBytes a bs).readByte b = if a ≤ b ∧ b < a + bs.length then bs.getD (b - a) 0 else s.readByte b := by
  simp only [readByte, writeBytes]; exact lookupKey_spliceMem

theorem getReg_setF (g : Fld) (v b : Nat) : (s.setF g v).getReg b = if b = g.addr then withBits (s.getReg g.addr) g.lo g.w v else s.getReg b := by
  simp only [setF, getReg_setReg]

theorem getReg_setF_ne {g : Fld} {b : Nat} (v : Nat) (h : b ≠ g.addr) : (s.setF g v).getReg b = s.getReg b := by simp [getReg_setF, h]

end Sys2Proof.Laws
end

