-- ==== Sys2Proof/Laws/Fields.lean ====
section
/-! SUPPORT. The laws of a register's bit fields: a field reads what was set into it, and setting it leaves the other bits alone. -/

namespace Sys2Proof.Laws

open Machine Machine.State

theorem getLsbD_withBits (x : Word) (lo w v i : Nat) (hi : i < 32) :
    (withBits x lo w v).getLsbD i = if lo ≤ i ∧ i < lo + w then v.testBit (i - lo) else x.getLsbD i := by
  simp only [withBits, BitVec.getLsbD_or, BitVec.getLsbD_and, BitVec.getLsbD_not, BitVec.getLsbD_shiftLeft, BitVec.getLsbD_setWidth,
    BitVec.getLsbD_allOnes, BitVec.getLsbD_ofNat, hi, decide_true, Bool.true_and]
  by_cases h1 : lo ≤ i
  · by_cases h2 : i < lo + w
    · simp [h1, h2, show ¬ i < lo by omega, show i - lo < 32 by omega, show i - lo < w by omega]
    · simp [h1, h2, show ¬ i < lo by omega, show i - lo < 32 by omega, show ¬ i - lo < w by omega]
  · simp [h1, show i < lo by omega]

/-- A field reads the low bits of what was set into it. -/
theorem bitsOf_withBits_self {lo w : Nat} (h : lo + w ≤ 32) (x : Word) (v : Nat) : bitsOf (withBits x lo w v) lo w = v % 2 ^ w := by
  have : (withBits x lo w v).extractLsb' lo w = BitVec.ofNat w v := by
    apply BitVec.eq_of_getLsbD_eq
    intro i hi
    rw [BitVec.getLsbD_extractLsb', getLsbD_withBits _ _ _ _ _ (by omega), BitVec.getLsbD_ofNat]
    simp [hi]
  simp [bitsOf, this]

/-- A field with no bit in common reads as before. -/
theorem bitsOf_withBits_ne {lo w lo' w' : Nat} (h : lo' + w' ≤ 32) (hd : lo' + w' ≤ lo ∨ lo + w ≤ lo') (x : Word) (v : Nat) :
    bitsOf (withBits x lo w v) lo' w' = bitsOf x lo' w' := by
  have : (withBits x lo w v).extractLsb' lo' w' = x.extractLsb' lo' w' := by
    apply BitVec.eq_of_getLsbD_eq
    intro i hi
    rw [BitVec.getLsbD_extractLsb', BitVec.getLsbD_extractLsb', getLsbD_withBits _ _ _ _ _ (by omega)]
    simp [show ¬ (lo ≤ lo' + i ∧ lo' + i < lo + w) by omega]
  simp [bitsOf, this]

variable {s : State}

theorem getF_setF_self {g : Fld} (h : g.lo + g.w ≤ 32) (v : Nat) : (s.setF g v).getF g = v % 2 ^ g.w := by
  simp only [getF, getReg_setF, ↓reduceIte]
  exact bitsOf_withBits_self h _ v

theorem getF_setF_addr {g f : Fld} (h : f.addr ≠ g.addr) (v : Nat) : (s.setF g v).getF f = s.getF f := by
  simp only [getF, getReg_setF_ne v h]

theorem getF_setF_bits {g f : Fld} (hw : f.lo + f.w ≤ 32) (hd : f.lo + f.w ≤ g.lo ∨ g.lo + g.w ≤ f.lo) (v : Nat) :
    (s.setF g v).getF f = s.getF f := by
  by_cases h : f.addr = g.addr
  · simp only [getF, getReg_setF, h, ↓reduceIte]
    exact bitsOf_withBits_ne hw hd _ v
  · exact getF_setF_addr h v

theorem getF_setReg_ne {a : Nat} {f : Fld} (h : f.addr ≠ a) (w : Word) : (s.setReg a w).getF f = s.getF f := by
  simp only [getF, getReg_setReg_ne w h]

end Sys2Proof.Laws
end

