-- ==== Sys2Proof/Laws/Keep.lean ====
section
/-! SUPPORT. What every operation of the model keeps: the canonical form of the sparse lists, the command queue, and the straps and fuses; the rules by which a meaning keeps what its parts keep. -/

namespace Sys2Proof.Laws

open Machine Machine.State

/-- The FORM strap, the grade fuse, the MAC address, the INJ_IN_RUN fuse and the test port's OTP enable: no command changes them. -/
abbrev straps (s : State) : Nat × Nat × Nat × Bool × Bool := (s.dev.form, s.dev.grade, s.dev.mac, s.dev.injInRun, s.dev.tapEnable)

/-- From `o` the model has come to `s`: the canonical form is kept, the queue and the straps are as they were. -/
def Ok (o s : State) : Prop := (Canonical o → Canonical s) ∧ s.pending = o.pending ∧ straps s = straps o

/-- A meaning goes on, to a state that keeps. -/
def OkO (o : State) (r : Host.Outcome State Fault Refusal) : Prop := ∃ t, r = .next t ∧ Ok o t

theorem ok_refl {s : State} : Ok s s := ⟨id, rfl, rfl⟩

theorem okO_next {o s : State} (h : Ok o s) : OkO o (.next s) := ⟨s, rfl, h⟩

/-- A state that differs in none of the three. -/
theorem ok_of_eq {o s t : State} (h : Ok o s) (hr : t.regs = s.regs) (hm : t.mem = s.mem) (hp : t.pending = s.pending) (hd : straps t = straps s) :
    Ok o t := by
  refine ⟨fun hc => ?_, hp.trans h.2.1, hd.trans h.2.2⟩
  have := h.1 hc
  simpa only [Canonical, hr, hm] using this

/-- A record update that leaves the registers, the memory and the queue alone. -/
theorem ok_mk {o s : State} {free dev cairn ps seq ef vce shelf cn rail phase tb inj pair sdma sample port fm est msg spi vout fwLatch img}
    (h : Ok o s) (hd : (dev.form, dev.grade, dev.mac, dev.injInRun, dev.tapEnable) = straps s) :
    Ok o (State.mk s.regs s.mem s.pending free dev cairn ps seq ef vce shelf cn rail phase tb inj pair sdma sample port fm est msg spi vout fwLatch img) :=
  ok_of_eq h rfl rfl rfl hd

theorem ok_setReg {o s : State} (h : Ok o s) {a : Nat} {w : Word} : Ok o (s.setReg a w) := by
  refine ⟨fun hc => ?_, h.2.1, h.2.2⟩
  obtain ⟨h1, h2, h3⟩ := h.1 hc
  refine ⟨rising_putKey h1, fun e he => ?_, h3⟩
  rcases mem_putKey he with ⟨rfl, hv⟩ | he
  · exact hv
  · exact h2 e he.1

theorem ok_writeBytes {o s : State} (h : Ok o s) {a : Nat} {bs : List Byte} : Ok o (s.writeBytes a bs) := by
  refine ⟨fun hc => ?_, h.2.1, h.2.2⟩
  obtain ⟨h1, h2, h3, h4⟩ := h.1 hc
  exact ⟨h1, h2, rising_spliceMem h3, fun e he => (mem_spliceMem he).elim (h4 e) id⟩

theorem ok_filter {o s : State} (h : Ok o s) {p : Nat × Word → Bool} : Ok o { s with regs := s.regs.filter p } := by
  refine ⟨fun hc => ?_, h.2.1, h.2.2⟩
  obtain ⟨h1, h2, h3⟩ := h.1 hc
  exact ⟨rising_filter _ h1, fun e he => h2 e (List.mem_filter.1 he).1, h3⟩

/-- A state with empty sparse lists. -/
theorem ok_empty {o s t : State} (h : Ok o s) (hr : t.regs = []) (hm : t.mem = []) (hp : t.pending = s.pending) (hd : straps t = straps s) :
    Ok o t := by
  refine ⟨fun _ => ?_, hp.trans h.2.1, hd.trans h.2.2⟩
  simp [Canonical, Rising, hr, hm]

theorem reset_mem : State.reset.mem = [] := rfl

theorem ok_ite {o a b : State} {c : Prop} [Decidable c] (ha : Ok o a) (hb : Ok o b) : Ok o (if c then a else b) := by
  split <;> assumption

theorem ok_ite_fst {o : State} {β : Type} {a b : State × β} {c : Prop} [Decidable c] (ha : Ok o a.1) (hb : Ok o b.1) :
    Ok o (if c then a else b).1 := by
  split <;> assumption

theorem ok_ite_snd {o : State} {β γ : Type} {a b : β × γ × State} {c : Prop} [Decidable c] (ha : Ok o a.2.2) (hb : Ok o b.2.2) :
    Ok o (if c then a else b).2.2 := by
  split <;> assumption

theorem ok_ite_thd {o : State} {β γ δ : Type} {a b : β × γ × δ × State} {c : Prop} [Decidable c] (ha : Ok o a.2.2.2) (hb : Ok o b.2.2.2) :
    Ok o (if c then a else b).2.2.2 := by
  split <;> assumption

/-- An operation that a word may refuse keeps where it goes on. -/
def OkE (o : State) (r : Except Nat State) : Prop := ∀ t, r = .ok t → Ok o t

theorem okE_ok {o s : State} (h : Ok o s) : OkE o (.ok s) := fun _ e => by cases e; exact h

theorem okE_error {o : State} {c : Nat} : OkE o (.error c) := fun _ e => nomatch e

theorem okE_ite {o : State} {a b : Except Nat State} {c : Prop} [Decidable c] (ha : OkE o a) (hb : OkE o b) : OkE o (if c then a else b) := by
  split <;> assumption

theorem okO_ite {o : State} {a b : Host.Outcome State Fault Refusal} {c : Prop} [Decidable c] (ha : OkO o a) (hb : OkO o b) :
    OkO o (if c then a else b) := by
  split <;> assumption

theorem ok_foldl {o s : State} {β : Type} {f : State → β → State} {l : List β} (h : Ok o s) (hf : ∀ s x, Ok o s → Ok o (f s x)) :
    Ok o (l.foldl f s) := by
  induction l generalizing s with
  | nil => exact h
  | cons x l ih => exact ih (hf s x h)

theorem ok_forAll {o s : State} {f : State → Nat → State} {n : Nat} (h : Ok o s) (hf : ∀ s x, Ok o s → Ok o (f s x)) :
    Ok o (forAll n f s) := ok_foldl h hf

/-- A named intermediate state: once for all its uses. -/
theorem ok_have {o t : State} (x : State) (h : Ok o x) (g : Ok o x → Ok o t) : Ok o t := g h

theorem okO_have {o : State} {r : Host.Outcome State Fault Refusal} (x : State) (h : Ok o x) (g : Ok o x → OkO o r) : OkO o r := g h

/-- A fold that carries a second value beside the state. -/
theorem ok_foldl_fst {o : State} {β γ : Type} {f : State × γ → β → State × γ} {l : List β} {a : State × γ} (h : Ok o a.1)
    (hf : ∀ a x, Ok o a.1 → Ok o (f a x).1) : Ok o (l.foldl f a).1 := by
  induction l generalizing a with
  | nil => exact h
  | cons x l ih => exact ih (hf a x h)

theorem ok_foldl_snd {o : State} {β γ : Type} {f : γ × State → β → γ × State} {l : List β} {a : γ × State} (h : Ok o a.2)
    (hf : ∀ a x, Ok o a.2 → Ok o (f a x).2) : Ok o (l.foldl f a).2 := by
  induction l generalizing a with
  | nil => exact h
  | cons x l ih => exact ih (hf a x h)

theorem ok_settle {o s : State} (h : Ok o s) {p : Nat → Bool} : Ok o (s.settle p) := ok_of_eq h rfl rfl rfl rfl

theorem ok_inForce {o s : State} (h : Ok o s) : Ok o s.inForce := ok_foldl h (fun _ _ h => ok_setReg h)

theorem ok_putBack {o s t : State} (h : Ok o t) : Ok o (t.putBack s) := ok_foldl h (fun _ _ h => ok_setReg h)

/-- A command that runs on the settings in force keeps what its body keeps. -/
theorem okO_heldRun {o s : State} {f : State → Host.Outcome State Fault Refusal} (h : Ok o s) (hf : ∀ s, Ok o s → OkO o (f s)) :
    OkO o (s.heldRun f) := by
  unfold heldRun
  refine okO_ite (hf s h) ?_
  obtain ⟨t, ht, hk⟩ := hf _ (ok_inForce h)
  simp only [ht]
  exact okO_next (ok_putBack hk)

/-- With no setting waiting a command runs on the registers as they read (R42). -/
theorem heldRun_of_late_nil {s : State} {f : State → Host.Outcome State Fault Refusal} (h : s.dev.late = []) : s.heldRun f = f s := by
  simp [heldRun, h]

end Sys2Proof.Laws
end

