-- ==== Sys2Proof/Laws/KeepBase.lean ====
section
/-! SUPPORT. What each operation of the shared operations: registers, recorder, sequencer, fuses, reset, fault reaction, law evaluation keeps: one lemma per function and per command. -/

set_option linter.unusedTactic false
set_option linter.unreachableTactic false
set_option linter.tactic.unusedName false

namespace Sys2Proof.Laws

open Machine Machine.State

theorem ok_setF {o s : State} (h : Ok o s) {a1 : Fld} {a2 : Nat} : Ok o (State.setF s a1 a2) := by
  unfold State.setF
  repeat' (first | with_reducible assumption | (fail_if_no_progress (extract_lets +onlyGivenNames x); first | (refine ok_have x ?_ ?_; on_goal 1 => subst x; on_goal 2 => (clear_value x; intro _)) | skip) | with_reducible refine ok_setReg ?_ | with_reducible refine ok_ite ?_ ?_ | with_reducible refine ok_foldl ?_ ?_ | intro _ | extract_lets | split | (conv => arg 2; dsimp +zetaDelta only))

theorem ok_setB {o s : State} (h : Ok o s) {a1 : Fld} {a2 : Bool} : Ok o (State.setB s a1 a2) := by
  unfold State.setB
  repeat' (first | with_reducible assumption | (fail_if_no_progress (extract_lets +onlyGivenNames x); first | (refine ok_have x ?_ ?_; on_goal 1 => subst x; on_goal 2 => (clear_value x; intro _)) | skip) | with_reducible refine ok_setF ?_ | with_reducible refine ok_ite ?_ ?_ | with_reducible refine ok_foldl ?_ ?_ | intro _ | extract_lets | split | (conv => arg 2; dsimp +zetaDelta only))

theorem ok_setN {o s : State} (h : Ok o s) {a1 : Nat} {a2 : Nat} : Ok o (State.setN s a1 a2) := by
  unfold State.setN
  repeat' (first | with_reducible assumption | (fail_if_no_progress (extract_lets +onlyGivenNames x); first | (refine ok_have x ?_ ?_; on_goal 1 => subst x; on_goal 2 => (clear_value x; intro _)) | skip) | with_reducible refine ok_setReg ?_ | with_reducible refine ok_ite ?_ ?_ | with_reducible refine ok_foldl ?_ ?_ | intro _ | extract_lets | split | (conv => arg 2; dsimp +zetaDelta only))

theorem ok_incSat {o s : State} (h : Ok o s) {a1 : Fld} : Ok o (State.incSat s a1) := by
  unfold State.incSat
  repeat' (first | with_reducible assumption | (fail_if_no_progress (extract_lets +onlyGivenNames x); first | (refine ok_have x ?_ ?_; on_goal 1 => subst x; on_goal 2 => (clear_value x; intro _)) | skip) | with_reducible refine ok_setF ?_ | with_reducible refine ok_ite ?_ ?_ | with_reducible refine ok_foldl ?_ ?_ | intro _ | extract_lets | split | (conv => arg 2; dsimp +zetaDelta only))

theorem ok_incWrap {o s : State} (h : Ok o s) {a1 : Fld} : Ok o (State.incWrap s a1) := by
  unfold State.incWrap
  repeat' (first | with_reducible assumption | (fail_if_no_progress (extract_lets +onlyGivenNames x); first | (refine ok_have x ?_ ?_; on_goal 1 => subst x; on_goal 2 => (clear_value x; intro _)) | skip) | with_reducible refine ok_setF ?_ | with_reducible refine ok_ite ?_ ?_ | with_reducible refine ok_foldl ?_ ?_ | intro _ | extract_lets | split | (conv => arg 2; dsimp +zetaDelta only))

theorem ok_countChg {o s : State} (h : Ok o s) {a1 : Nat} : Ok o (State.countChg s a1) := by
  unfold State.countChg
  repeat' (first | with_reducible assumption | (fail_if_no_progress (extract_lets +onlyGivenNames x); first | (refine ok_have x ?_ ?_; on_goal 1 => subst x; on_goal 2 => (clear_value x; intro _)) | skip) | with_reducible refine ok_incWrap ?_ | with_reducible refine ok_ite ?_ ?_ | with_reducible refine ok_foldl ?_ ?_ | intro _ | extract_lets | split | (conv => arg 2; dsimp +zetaDelta only))

theorem ok_putBit {o s : State} (h : Ok o s) {a1 : Nat} {a2 : Nat} {a3 : Bool} : Ok o (State.putBit s a1 a2 a3) := by
  unfold State.putBit
  repeat' (first | with_reducible assumption | (fail_if_no_progress (extract_lets +onlyGivenNames x); first | (refine ok_have x ?_ ?_; on_goal 1 => subst x; on_goal 2 => (clear_value x; intro _)) | skip) | with_reducible refine ok_setF ?_ | with_reducible refine ok_ite ?_ ?_ | with_reducible refine ok_foldl ?_ ?_ | intro _ | extract_lets | split | (conv => arg 2; dsimp +zetaDelta only))

theorem ok_setCond {o s : State} (h : Ok o s) {a1 : Nat} {a2 : Bool} : Ok o (State.setCond s a1 a2) := by
  unfold State.setCond
  repeat' (first | with_reducible assumption | (fail_if_no_progress (extract_lets +onlyGivenNames x); first | (refine ok_have x ?_ ?_; on_goal 1 => subst x; on_goal 2 => (clear_value x; intro _)) | skip) | with_reducible refine ok_putBit ?_ | with_reducible refine ok_ite ?_ ?_ | with_reducible refine ok_foldl ?_ ?_ | intro _ | extract_lets | split | (conv => arg 2; dsimp +zetaDelta only))

theorem ok_setAct {o s : State} (h : Ok o s) {a1 : Nat} {a2 : Bool} : Ok o (State.setAct s a1 a2) := by
  unfold State.setAct
  repeat' (first | with_reducible assumption | (fail_if_no_progress (extract_lets +onlyGivenNames x); first | (refine ok_have x ?_ ?_; on_goal 1 => subst x; on_goal 2 => (clear_value x; intro _)) | skip) | with_reducible refine ok_putBit ?_ | with_reducible refine ok_ite ?_ ?_ | with_reducible refine ok_foldl ?_ ?_ | intro _ | extract_lets | split | (conv => arg 2; dsimp +zetaDelta only))

theorem ok_writeLe {o s : State} (h : Ok o s) {a1 : Nat} {a2 : Nat} {a3 : Nat} : Ok o (State.writeLe s a1 a2 a3) := by
  unfold State.writeLe
  repeat' (first | with_reducible assumption | (fail_if_no_progress (extract_lets +onlyGivenNames x); first | (refine ok_have x ?_ ?_; on_goal 1 => subst x; on_goal 2 => (clear_value x; intro _)) | skip) | with_reducible refine ok_writeBytes ?_ | with_reducible refine ok_ite ?_ ?_ | with_reducible refine ok_foldl ?_ ?_ | intro _ | extract_lets | split | (conv => arg 2; dsimp +zetaDelta only))

theorem ok_takeFree {o s : State} (h : Ok o s) : Ok o (State.takeFree s).2 := ok_mk h rfl
theorem ok_takeFree_eq {o s t : State} (h : Ok o s) {b0 : Word} (e : State.takeFree s = (b0, t)) : Ok o t := by
  have := ok_takeFree h
  rw [e] at this; exact this

theorem ok_psPut {o s : State} (h : Ok o s) {a1 : Nat} {a2 : Bool} {a3 : PsCopy} : Ok o (State.psPut s a1 a2 a3) := by
  unfold State.psPut
  repeat' (first | with_reducible assumption | (fail_if_no_progress (extract_lets +onlyGivenNames x); first | (refine ok_have x ?_ ?_; on_goal 1 => subst x; on_goal 2 => (clear_value x; intro _)) | skip) | ((conv => arg 2; arg 27; skip); with_reducible refine ok_mk ?_ rfl) | with_reducible refine ok_ite ?_ ?_ | with_reducible refine ok_foldl ?_ ?_ | intro _ | extract_lets | split | (conv => arg 2; dsimp +zetaDelta only))

theorem ok_psProgram {o s : State} (h : Ok o s) : Ok o (State.psProgram s) := by
  unfold State.psProgram
  repeat' (first | with_reducible assumption | (fail_if_no_progress (extract_lets +onlyGivenNames x); first | (refine ok_have x ?_ ?_; on_goal 1 => subst x; on_goal 2 => (clear_value x; intro _)) | skip) | with_reducible refine ok_psPut ?_ | with_reducible refine ok_setN ?_ | ((conv => arg 2; arg 27; skip); with_reducible refine ok_mk ?_ rfl) | with_reducible refine ok_ite ?_ ?_ | with_reducible refine ok_foldl ?_ ?_ | intro _ | extract_lets | split | (conv => arg 2; dsimp +zetaDelta only))

theorem ok_psQueue {o s : State} (h : Ok o s) {a1 : Nat} {a2 : List Byte} : Ok o (State.psQueue s a1 a2) := by
  unfold State.psQueue
  repeat' (first | with_reducible assumption | (fail_if_no_progress (extract_lets +onlyGivenNames x); first | (refine ok_have x ?_ ?_; on_goal 1 => subst x; on_goal 2 => (clear_value x; intro _)) | skip) | with_reducible refine ok_setF ?_ | ((conv => arg 2; arg 27; skip); with_reducible refine ok_mk ?_ rfl) | with_reducible refine ok_ite ?_ ?_ | with_reducible refine ok_foldl ?_ ?_ | intro _ | extract_lets | split | (conv => arg 2; dsimp +zetaDelta only))

theorem ok_efCheckpoint {o s : State} (h : Ok o s) {a1 : Nat} : Ok o (State.efCheckpoint s a1) := by
  unfold State.efCheckpoint
  repeat' (first | with_reducible assumption | (fail_if_no_progress (extract_lets +onlyGivenNames x); first | (refine ok_have x ?_ ?_; on_goal 1 => subst x; on_goal 2 => (clear_value x; intro _)) | skip) | with_reducible refine ok_psQueue ?_ | with_reducible refine ok_ite ?_ ?_ | with_reducible refine ok_foldl ?_ ?_ | intro _ | extract_lets | split | (conv => arg 2; dsimp +zetaDelta only))

theorem ok_putBank {o s : State} (h : Ok o s) {a1 : Bool} {a2 : ImgBank} : Ok o (State.putBank s a1 a2) := by
  unfold State.putBank
  repeat' (first | with_reducible assumption | (fail_if_no_progress (extract_lets +onlyGivenNames x); first | (refine ok_have x ?_ ?_; on_goal 1 => subst x; on_goal 2 => (clear_value x; intro _)) | skip) | ((conv => arg 2; arg 27; skip); with_reducible refine ok_mk ?_ rfl) | with_reducible refine ok_ite ?_ ?_ | with_reducible refine ok_foldl ?_ ?_ | intro _ | extract_lets | split | (conv => arg 2; dsimp +zetaDelta only))

theorem ok_showBank {o s : State} (h : Ok o s) {a1 : Bool} : Ok o (State.showBank s a1) := by
  unfold State.showBank
  repeat' (first | with_reducible assumption | (fail_if_no_progress (extract_lets +onlyGivenNames x); first | (refine ok_have x ?_ ?_; on_goal 1 => subst x; on_goal 2 => (clear_value x; intro _)) | skip) | with_reducible refine ok_setF ?_ | with_reducible refine ok_setReg ?_ | with_reducible refine ok_setB ?_ | with_reducible refine ok_ite ?_ ?_ | with_reducible refine ok_foldl ?_ ?_ | intro _ | extract_lets | split | (conv => arg 2; dsimp +zetaDelta only))

theorem ok_updVs {o s : State} (h : Ok o s) {a1 : Nat} {a2 : VSlotSt → VSlotSt} : Ok o (State.updVs s a1 a2) := by
  unfold State.updVs
  repeat' (first | with_reducible assumption | (fail_if_no_progress (extract_lets +onlyGivenNames x); first | (refine ok_have x ?_ ?_; on_goal 1 => subst x; on_goal 2 => (clear_value x; intro _)) | skip) | ((conv => arg 2; arg 27; skip); with_reducible refine ok_mk ?_ rfl) | with_reducible refine ok_ite ?_ ?_ | with_reducible refine ok_foldl ?_ ?_ | intro _ | extract_lets | split | (conv => arg 2; dsimp +zetaDelta only))

theorem ok_setInt {o s : State} (h : Ok o s) {a1 : Nat} {a2 : ℤ} : Ok o (State.setInt s a1 a2) := by
  unfold State.setInt
  repeat' (first | with_reducible assumption | (fail_if_no_progress (extract_lets +onlyGivenNames x); first | (refine ok_have x ?_ ?_; on_goal 1 => subst x; on_goal 2 => (clear_value x; intro _)) | skip) | with_reducible refine ok_setN ?_ | with_reducible refine ok_ite ?_ ?_ | with_reducible refine ok_foldl ?_ ?_ | intro _ | extract_lets | split | (conv => arg 2; dsimp +zetaDelta only))

theorem ok_putLawState {o s : State} (h : Ok o s) {a1 : Nat} {a2 : LawState} : Ok o (State.putLawState s a1 a2) := by
  unfold State.putLawState
  repeat' (first | with_reducible assumption | (fail_if_no_progress (extract_lets +onlyGivenNames x); first | (refine ok_have x ?_ ?_; on_goal 1 => subst x; on_goal 2 => (clear_value x; intro _)) | skip) | with_reducible refine ok_setReg ?_ | with_reducible refine ok_setInt ?_ | with_reducible refine ok_ite ?_ ?_ | with_reducible refine ok_foldl ?_ ?_ | intro _ | extract_lets | split | (conv => arg 2; dsimp +zetaDelta only))

theorem ok_gapRelease {o s : State} (h : Ok o s) {a1 : Nat} : Ok o (State.gapRelease s a1) := by
  unfold State.gapRelease
  repeat' (first | with_reducible assumption | (fail_if_no_progress (extract_lets +onlyGivenNames x); first | (refine ok_have x ?_ ?_; on_goal 1 => subst x; on_goal 2 => (clear_value x; intro _)) | skip) | ((conv => arg 2; arg 27; skip); with_reducible refine ok_mk ?_ rfl) | with_reducible refine ok_ite ?_ ?_ | with_reducible refine ok_foldl ?_ ?_ | intro _ | extract_lets | split | (conv => arg 2; dsimp +zetaDelta only))

theorem ok_gapTaken {o s : State} (h : Ok o s) {a1 : Nat} : Ok o (State.gapTaken s a1) := by
  unfold State.gapTaken
  repeat' (first | with_reducible assumption | (fail_if_no_progress (extract_lets +onlyGivenNames x); first | (refine ok_have x ?_ ?_; on_goal 1 => subst x; on_goal 2 => (clear_value x; intro _)) | skip) | ((conv => arg 2; arg 27; skip); with_reducible refine ok_mk ?_ rfl) | with_reducible refine ok_ite ?_ ?_ | with_reducible refine ok_foldl ?_ ?_ | intro _ | extract_lets | split | (conv => arg 2; dsimp +zetaDelta only))

theorem ok_fenceSlot {o s : State} (h : Ok o s) {a1 : Nat} : Ok o (State.fenceSlot s a1) := by
  unfold State.fenceSlot
  repeat' (first | with_reducible assumption | (fail_if_no_progress (extract_lets +onlyGivenNames x); first | (refine ok_have x ?_ ?_; on_goal 1 => subst x; on_goal 2 => (clear_value x; intro _)) | skip) | with_reducible refine ok_updVs ?_ | with_reducible refine ok_setF ?_ | with_reducible refine ok_ite ?_ ?_ | with_reducible refine ok_foldl ?_ ?_ | intro _ | extract_lets | split | (conv => arg 2; dsimp +zetaDelta only))

theorem ok_ramClear {o s : State} (h : Ok o s) {a1 : Nat} : Ok o (State.ramClear s a1) := by
  unfold State.ramClear
  repeat' (first | with_reducible assumption | (fail_if_no_progress (extract_lets +onlyGivenNames x); first | (refine ok_have x ?_ ?_; on_goal 1 => subst x; on_goal 2 => (clear_value x; intro _)) | skip) | with_reducible refine ok_updVs ?_ | with_reducible refine ok_putLawState ?_ | with_reducible refine ok_ite ?_ ?_ | with_reducible refine ok_foldl ?_ ?_ | intro _ | extract_lets | split | (conv => arg 2; dsimp +zetaDelta only))

theorem ok_unfenceSlot {o s : State} (h : Ok o s) {a1 : Nat} : Ok o (State.unfenceSlot s a1) := by
  unfold State.unfenceSlot
  repeat' (first | with_reducible assumption | (fail_if_no_progress (extract_lets +onlyGivenNames x); first | (refine ok_have x ?_ ?_; on_goal 1 => subst x; on_goal 2 => (clear_value x; intro _)) | skip) | with_reducible refine ok_setF ?_ | with_reducible refine ok_updVs ?_ | with_reducible refine ok_ramClear ?_ | with_reducible refine ok_ite ?_ ?_ | with_reducible refine ok_foldl ?_ ?_ | intro _ | extract_lets | split | (conv => arg 2; dsimp +zetaDelta only))

theorem ok_startSlot {o s : State} (h : Ok o s) {a1 : Nat} : Ok o (State.startSlot s a1) := by
  unfold State.startSlot
  repeat' (first | with_reducible assumption | (fail_if_no_progress (extract_lets +onlyGivenNames x); first | (refine ok_have x ?_ ?_; on_goal 1 => subst x; on_goal 2 => (clear_value x; intro _)) | skip) | with_reducible refine ok_setReg ?_ | with_reducible refine ok_updVs ?_ | with_reducible refine ok_ite ?_ ?_ | with_reducible refine ok_foldl ?_ ?_ | intro _ | extract_lets | split | (conv => arg 2; dsimp +zetaDelta only))

theorem ok_noteLate {o s : State} (h : Ok o s) {k : PageKind} {r : RegDef} {n i a : Nat} {w : Word} : Ok o (s.noteLate k r n i a w) := by
  unfold noteLate
  exact ok_ite (ok_of_eq h rfl rfl rfl rfl) h

theorem ok_applyWord {o s : State} (h : Ok o s) {a1 : CfgWord} {a2 : Word} : Ok o (State.applyWord s a1 a2) := by
  unfold State.applyWord
  repeat' (first | with_reducible assumption | (fail_if_no_progress (extract_lets +onlyGivenNames x); first | (refine ok_have x ?_ ?_; on_goal 1 => subst x; on_goal 2 => (clear_value x; intro _)) | skip) | with_reducible refine ok_countChg ?_ | with_reducible refine ok_setReg ?_ | with_reducible refine ok_ite ?_ ?_ | with_reducible refine ok_foldl ?_ ?_ | intro _ | extract_lets | split | (conv => arg 2; dsimp +zetaDelta only))

theorem ok_cfgApply {o s : State} (h : Ok o s) {a1 : Nat} {a2 : List Byte} : Ok o (State.cfgApply s a1 a2) := by
  unfold State.cfgApply
  repeat' (first | with_reducible assumption | (fail_if_no_progress (extract_lets +onlyGivenNames x); first | (refine ok_have x ?_ ?_; on_goal 1 => subst x; on_goal 2 => (clear_value x; intro _)) | skip) | with_reducible refine ok_applyWord ?_ | with_reducible refine ok_ite ?_ ?_ | with_reducible refine ok_foldl ?_ ?_ | intro _ | extract_lets | split | (conv => arg 2; dsimp +zetaDelta only))

theorem ok_resetPage {o s : State} (h : Ok o s) {a1 : Nat} : Ok o (State.resetPage s a1) := by
  unfold State.resetPage
  extract_lets keep s0 s1
  have h0 : Ok o s0 := ok_settle h
  clear_value s0
  have h1 : Ok o s1 := ok_filter h0
  clear_value s1
  exact ok_ite (ok_filter h1) (ok_ite (ok_filter h1) (ok_ite (ok_setF (ok_setN h1)) h1))

theorem ok_updSlot {o s : State} (h : Ok o s) {a1 : Nat} {a2 : SeqSlotSt → SeqSlotSt} : Ok o (State.updSlot s a1 a2) := by
  unfold State.updSlot
  repeat' (first | with_reducible assumption | (fail_if_no_progress (extract_lets +onlyGivenNames x); first | (refine ok_have x ?_ ?_; on_goal 1 => subst x; on_goal 2 => (clear_value x; intro _)) | skip) | ((conv => arg 2; arg 27; skip); with_reducible refine ok_mk ?_ rfl) | with_reducible refine ok_ite ?_ ?_ | with_reducible refine ok_foldl ?_ ?_ | intro _ | extract_lets | split | (conv => arg 2; dsimp +zetaDelta only))

theorem ok_withdraw {o s : State} (h : Ok o s) {a1 : Nat} : Ok o (State.withdraw s a1) := by
  unfold State.withdraw
  repeat' (first | with_reducible assumption | (fail_if_no_progress (extract_lets +onlyGivenNames x); first | (refine ok_have x ?_ ?_; on_goal 1 => subst x; on_goal 2 => (clear_value x; intro _)) | skip) | with_reducible refine ok_setF ?_ | with_reducible refine ok_updSlot ?_ | with_reducible refine ok_ite ?_ ?_ | with_reducible refine ok_foldl ?_ ?_ | intro _ | extract_lets | split | (conv => arg 2; dsimp +zetaDelta only))

theorem ok_enableSlot {o s : State} (h : Ok o s) {a1 : Nat} : Ok o (State.enableSlot s a1) := by
  unfold State.enableSlot
  repeat' (first | with_reducible assumption | (fail_if_no_progress (extract_lets +onlyGivenNames x); first | (refine ok_have x ?_ ?_; on_goal 1 => subst x; on_goal 2 => (clear_value x; intro _)) | skip) | with_reducible refine ok_setF ?_ | with_reducible refine ok_updSlot ?_ | ((conv => arg 2; arg 27; skip); with_reducible refine ok_mk ?_ rfl) | with_reducible refine ok_ite ?_ ?_ | with_reducible refine ok_foldl ?_ ?_ | intro _ | extract_lets | split | (conv => arg 2; dsimp +zetaDelta only))

theorem ok_enableNow {o s : State} (h : Ok o s) {a1 : Nat} : Ok o (State.enableNow s a1) := by
  unfold State.enableNow
  repeat' (first | with_reducible assumption | (fail_if_no_progress (extract_lets +onlyGivenNames x); first | (refine ok_have x ?_ ?_; on_goal 1 => subst x; on_goal 2 => (clear_value x; intro _)) | skip) | with_reducible refine ok_setF ?_ | with_reducible refine ok_updSlot ?_ | with_reducible refine ok_enableSlot ?_ | with_reducible refine ok_ite ?_ ?_ | with_reducible refine ok_foldl ?_ ?_ | intro _ | extract_lets | split | (conv => arg 2; dsimp +zetaDelta only))

theorem ok_startOnDly {o s : State} (h : Ok o s) {a1 : Nat} {a2 : List Nat} : Ok o (State.startOnDly s a1 a2) := by
  unfold State.startOnDly
  repeat' (first | with_reducible assumption | (fail_if_no_progress (extract_lets +onlyGivenNames x); first | (refine ok_have x ?_ ?_; on_goal 1 => subst x; on_goal 2 => (clear_value x; intro _)) | skip) | with_reducible refine ok_setF ?_ | with_reducible refine ok_updSlot ?_ | with_reducible refine ok_ite ?_ ?_ | with_reducible refine ok_foldl ?_ ?_ | intro _ | extract_lets | split | (conv => arg 2; dsimp +zetaDelta only))

theorem ok_enterAscend {o s : State} (h : Ok o s) {a1 : Nat} : Ok o (State.enterAscend s a1) := by
  unfold State.enterAscend
  repeat' (first | with_reducible assumption | (fail_if_no_progress (extract_lets +onlyGivenNames x); first | (refine ok_have x ?_ ?_; on_goal 1 => subst x; on_goal 2 => (clear_value x; intro _)) | skip) | with_reducible refine ok_setF ?_ | with_reducible refine ok_incSat ?_ | with_reducible refine ok_startOnDly ?_ | ((conv => arg 2; arg 27; skip); with_reducible refine ok_mk ?_ rfl) | with_reducible refine ok_ite ?_ ?_ | with_reducible refine ok_foldl ?_ ?_ | intro _ | extract_lets | split | (conv => arg 2; dsimp +zetaDelta only))

theorem ok_upRequest {o s : State} (h : Ok o s) {a1 : Nat} : Ok o (State.upRequest s a1) := by
  unfold State.upRequest
  repeat' (first | with_reducible assumption | (fail_if_no_progress (extract_lets +onlyGivenNames x); first | (refine ok_have x ?_ ?_; on_goal 1 => subst x; on_goal 2 => (clear_value x; intro _)) | skip) | with_reducible refine ok_setF ?_ | with_reducible refine ok_enterAscend ?_ | with_reducible refine ok_ite ?_ ?_ | with_reducible refine ok_foldl ?_ ?_ | intro _ | extract_lets | split | (conv => arg 2; dsimp +zetaDelta only))

theorem ok_startOffDly {o s : State} (h : Ok o s) {a1 : Nat} : Ok o (State.startOffDly s a1) := by
  unfold State.startOffDly
  repeat' (first | with_reducible assumption | (fail_if_no_progress (extract_lets +onlyGivenNames x); first | (refine ok_have x ?_ ?_; on_goal 1 => subst x; on_goal 2 => (clear_value x; intro _)) | skip) | with_reducible refine ok_setF ?_ | with_reducible refine ok_updSlot ?_ | with_reducible refine ok_ite ?_ ?_ | with_reducible refine ok_foldl ?_ ?_ | intro _ | extract_lets | split | (conv => arg 2; dsimp +zetaDelta only))

theorem ok_descTurn {o s : State} (h : Ok o s) {a1 : Nat} {a2 : Nat} : Ok o (State.descTurn s a1 a2) := by
  unfold State.descTurn
  repeat' (first | with_reducible assumption | (fail_if_no_progress (extract_lets +onlyGivenNames x); first | (refine ok_have x ?_ ?_; on_goal 1 => subst x; on_goal 2 => (clear_value x; intro _)) | skip) | with_reducible refine ok_setF ?_ | with_reducible refine ok_startOffDly ?_ | with_reducible refine ok_ite ?_ ?_ | with_reducible refine ok_foldl ?_ ?_ | intro _ | extract_lets | split | (conv => arg 2; dsimp +zetaDelta only))

theorem ok_descSteps {o s : State} (h : Ok o s) {a0 : Nat} {a1 : Nat} : Ok o (State.descSteps a0 a1 s) := by
  induction a0 generalizing s with
  | zero => exact h
  | succ n ih =>
    unfold State.descSteps
    refine ok_ite h (ok_ite (ok_of_eq (ok_setF h) rfl rfl rfl rfl) (ok_ite ?_ (ok_ite ?_ h)))
    · split
      · exact ok_ite (ih (ok_startOffDly h)) (ok_startOffDly h)
      · exact h
    · split
      · exact ih (ok_descTurn h)
      · exact h

theorem ok_descAdvance {o s : State} (h : Ok o s) {a1 : Nat} : Ok o (State.descAdvance s a1) := by
  unfold State.descAdvance
  repeat' (first | with_reducible assumption | (fail_if_no_progress (extract_lets +onlyGivenNames x); first | (refine ok_have x ?_ ?_; on_goal 1 => subst x; on_goal 2 => (clear_value x; intro _)) | skip) | with_reducible refine ok_descSteps ?_ | with_reducible refine ok_ite ?_ ?_ | with_reducible refine ok_foldl ?_ ?_ | intro _ | extract_lets | split | (conv => arg 2; dsimp +zetaDelta only))

theorem ok_enterDescend {o s : State} (h : Ok o s) {a1 : Nat} : Ok o (State.enterDescend s a1) := by
  unfold State.enterDescend
  repeat' (first | with_reducible assumption | (fail_if_no_progress (extract_lets +onlyGivenNames x); first | (refine ok_have x ?_ ?_; on_goal 1 => subst x; on_goal 2 => (clear_value x; intro _)) | skip) | with_reducible refine ok_setF ?_ | with_reducible refine ok_withdraw ?_ | with_reducible refine ok_descAdvance ?_ | with_reducible refine ok_descTurn ?_ | ((conv => arg 2; arg 27; skip); with_reducible refine ok_mk ?_ rfl) | with_reducible refine ok_ite ?_ ?_ | with_reducible refine ok_foldl ?_ ?_ | intro _ | extract_lets | split | (conv => arg 2; dsimp +zetaDelta only))

theorem ok_downRequest {o s : State} (h : Ok o s) {a1 : Nat} : Ok o (State.downRequest s a1) := by
  unfold State.downRequest
  repeat' (first | with_reducible assumption | (fail_if_no_progress (extract_lets +onlyGivenNames x); first | (refine ok_have x ?_ ?_; on_goal 1 => subst x; on_goal 2 => (clear_value x; intro _)) | skip) | with_reducible refine ok_setF ?_ | with_reducible refine ok_enterDescend ?_ | with_reducible refine ok_ite ?_ ?_ | with_reducible refine ok_foldl ?_ ?_ | intro _ | extract_lets | split | (conv => arg 2; dsimp +zetaDelta only))

theorem ok_groupOff {o s : State} (h : Ok o s) {a1 : Nat} {a2 : Nat} : Ok o (State.groupOff s a1 a2) := by
  unfold State.groupOff
  repeat' (first | with_reducible assumption | (fail_if_no_progress (extract_lets +onlyGivenNames x); first | (refine ok_have x ?_ ?_; on_goal 1 => subst x; on_goal 2 => (clear_value x; intro _)) | skip) | with_reducible refine ok_enterDescend ?_ | with_reducible refine ok_incSat ?_ | with_reducible refine ok_setF ?_ | with_reducible refine ok_ite ?_ ?_ | with_reducible refine ok_foldl ?_ ?_ | intro _ | extract_lets | split | (conv => arg 2; dsimp +zetaDelta only))

theorem ok_fenceSeqSlot {o s : State} (h : Ok o s) {a1 : Nat} : Ok o (State.fenceSeqSlot s a1) := by
  unfold State.fenceSeqSlot
  repeat' (first | with_reducible assumption | (fail_if_no_progress (extract_lets +onlyGivenNames x); first | (refine ok_have x ?_ ?_; on_goal 1 => subst x; on_goal 2 => (clear_value x; intro _)) | skip) | with_reducible refine ok_withdraw ?_ | with_reducible refine ok_setF ?_ | with_reducible refine ok_descAdvance ?_ | with_reducible refine ok_ite ?_ ?_ | with_reducible refine ok_foldl ?_ ?_ | intro _ | extract_lets | split | (conv => arg 2; dsimp +zetaDelta only))

theorem ok_unfenceSeqSlot {o s : State} (h : Ok o s) {a1 : Nat} : Ok o (State.unfenceSeqSlot s a1) := by
  unfold State.unfenceSeqSlot
  repeat' (first | with_reducible assumption | (fail_if_no_progress (extract_lets +onlyGivenNames x); first | (refine ok_have x ?_ ?_; on_goal 1 => subst x; on_goal 2 => (clear_value x; intro _)) | skip) | with_reducible refine ok_setF ?_ | with_reducible refine ok_updSlot ?_ | with_reducible refine ok_setB ?_ | with_reducible refine ok_enableNow ?_ | with_reducible refine ok_ite ?_ ?_ | with_reducible refine ok_foldl ?_ ?_ | intro _ | extract_lets | split | (conv => arg 2; dsimp +zetaDelta only))

theorem ok_hostStop {o s : State} (h : Ok o s) {a1 : Nat} : Ok o (State.hostStop s a1) := by
  unfold State.hostStop
  repeat' (first | with_reducible assumption | (fail_if_no_progress (extract_lets +onlyGivenNames x); first | (refine ok_have x ?_ ?_; on_goal 1 => subst x; on_goal 2 => (clear_value x; intro _)) | skip) | with_reducible refine ok_setF ?_ | with_reducible refine ok_updSlot ?_ | with_reducible refine ok_ite ?_ ?_ | with_reducible refine ok_foldl ?_ ?_ | intro _ | extract_lets | split | (conv => arg 2; dsimp +zetaDelta only))

theorem ok_hostRenew {o s : State} (h : Ok o s) {a1 : Nat} : Ok o (State.hostRenew s a1) := by
  unfold State.hostRenew
  repeat' (first | with_reducible assumption | (fail_if_no_progress (extract_lets +onlyGivenNames x); first | (refine ok_have x ?_ ?_; on_goal 1 => subst x; on_goal 2 => (clear_value x; intro _)) | skip) | with_reducible refine ok_setF ?_ | with_reducible refine ok_enableNow ?_ | with_reducible refine ok_ite ?_ ?_ | with_reducible refine ok_foldl ?_ ?_ | intro _ | extract_lets | split | (conv => arg 2; dsimp +zetaDelta only))

theorem ok_rackExt {o s : State} (h : Ok o s) : Ok o (State.rackExt s) := by
  unfold State.rackExt
  repeat' (first | with_reducible assumption | (fail_if_no_progress (extract_lets +onlyGivenNames x); first | (refine ok_have x ?_ ?_; on_goal 1 => subst x; on_goal 2 => (clear_value x; intro _)) | skip) | with_reducible refine ok_setB ?_ | with_reducible refine ok_ite ?_ ?_ | with_reducible refine ok_foldl ?_ ?_ | intro _ | extract_lets | split | (conv => arg 2; dsimp +zetaDelta only))

theorem ok_updEf {o s : State} (h : Ok o s) {a1 : Nat} {a2 : EfuseSt → EfuseSt} : Ok o (State.updEf s a1 a2) := by
  unfold State.updEf
  repeat' (first | with_reducible assumption | (fail_if_no_progress (extract_lets +onlyGivenNames x); first | (refine ok_have x ?_ ?_; on_goal 1 => subst x; on_goal 2 => (clear_value x; intro _)) | skip) | ((conv => arg 2; arg 27; skip); with_reducible refine ok_mk ?_ rfl) | with_reducible refine ok_ite ?_ ?_ | with_reducible refine ok_foldl ?_ ?_ | intro _ | extract_lets | split | (conv => arg 2; dsimp +zetaDelta only))

theorem ok_efGo {o s : State} (h : Ok o s) {a1 : Nat} {a2 : Nat} {a3 : Pull} : Ok o (State.efGo s a1 a2 a3) := by
  unfold State.efGo
  repeat' (first | with_reducible assumption | (fail_if_no_progress (extract_lets +onlyGivenNames x); first | (refine ok_have x ?_ ?_; on_goal 1 => subst x; on_goal 2 => (clear_value x; intro _)) | skip) | with_reducible refine ok_setF ?_ | with_reducible refine ok_setCond ?_ | with_reducible refine ok_updEf ?_ | with_reducible refine ok_ite ?_ ?_ | with_reducible refine ok_foldl ?_ ?_ | intro _ | extract_lets | split | (conv => arg 2; dsimp +zetaDelta only))

theorem ok_efToOff {o s : State} (h : Ok o s) {a1 : Nat} : Ok o (State.efToOff s a1) := by
  unfold State.efToOff
  repeat' (first | with_reducible assumption | (fail_if_no_progress (extract_lets +onlyGivenNames x); first | (refine ok_have x ?_ ?_; on_goal 1 => subst x; on_goal 2 => (clear_value x; intro _)) | skip) | with_reducible refine ok_efGo ?_ | with_reducible refine ok_setF ?_ | with_reducible refine ok_ite ?_ ?_ | with_reducible refine ok_foldl ?_ ?_ | intro _ | extract_lets | split | (conv => arg 2; dsimp +zetaDelta only))

theorem ok_fenceEfuse {o s : State} (h : Ok o s) {a1 : Nat} : Ok o (State.fenceEfuse s a1) := by
  unfold State.fenceEfuse
  repeat' (first | with_reducible assumption | (fail_if_no_progress (extract_lets +onlyGivenNames x); first | (refine ok_have x ?_ ?_; on_goal 1 => subst x; on_goal 2 => (clear_value x; intro _)) | skip) | with_reducible refine ok_efToOff ?_ | with_reducible refine ok_ite ?_ ?_ | with_reducible refine ok_foldl ?_ ?_ | intro _ | extract_lets | split | (conv => arg 2; dsimp +zetaDelta only))

theorem ok_cairnShow {o s : State} (h : Ok o s) : Ok o (State.cairnShow s) := by
  unfold State.cairnShow
  repeat' (first | with_reducible assumption | (fail_if_no_progress (extract_lets +onlyGivenNames x); first | (refine ok_have x ?_ ?_; on_goal 1 => subst x; on_goal 2 => (clear_value x; intro _)) | skip) | with_reducible refine ok_setB ?_ | with_reducible refine ok_setN ?_ | with_reducible refine ok_setF ?_ | with_reducible refine ok_ite ?_ ?_ | with_reducible refine ok_foldl ?_ ?_ | intro _ | extract_lets | split | (conv => arg 2; dsimp +zetaDelta only))

theorem ok_cairnAccept {o s : State} (h : Ok o s) {a1 : Nat} {a2 : Nat} {a3 : Nat} {a4 : Nat} {a5 : List Nat} : Ok o (State.cairnAccept s a1 a2 a3 a4 a5) := by
  unfold State.cairnAccept
  repeat' (first | with_reducible assumption | (fail_if_no_progress (extract_lets +onlyGivenNames x); first | (refine ok_have x ?_ ?_; on_goal 1 => subst x; on_goal 2 => (clear_value x; intro _)) | skip) | with_reducible refine ok_cairnShow ?_ | with_reducible refine ok_setF ?_ | with_reducible refine ok_setN ?_ | ((conv => arg 2; arg 27; skip); with_reducible refine ok_mk ?_ rfl) | with_reducible refine ok_ite ?_ ?_ | with_reducible refine ok_foldl ?_ ?_ | intro _ | extract_lets | split | (conv => arg 2; dsimp +zetaDelta only))

theorem ok_cairnLose {o s : State} (h : Ok o s) : Ok o (State.cairnLose s) := by
  unfold State.cairnLose
  repeat' (first | with_reducible assumption | (fail_if_no_progress (extract_lets +onlyGivenNames x); first | (refine ok_have x ?_ ?_; on_goal 1 => subst x; on_goal 2 => (clear_value x; intro _)) | skip) | with_reducible refine ok_setN ?_ | with_reducible refine ok_ite ?_ ?_ | with_reducible refine ok_foldl ?_ ?_ | intro _ | extract_lets | split | (conv => arg 2; dsimp +zetaDelta only))

theorem ok_cairnStage {o s : State} (h : Ok o s) {a1 : Nat} {a2 : Nat} {a3 : Nat} {a4 : Bool} {a5 : List Nat} : Ok o (State.cairnStage s a1 a2 a3 a4 a5) := by
  unfold State.cairnStage
  repeat' (first | with_reducible assumption | (fail_if_no_progress (extract_lets +onlyGivenNames x); first | (refine ok_have x ?_ ?_; on_goal 1 => subst x; on_goal 2 => (clear_value x; intro _)) | skip) | with_reducible refine ok_setF ?_ | with_reducible refine ok_cairnLose ?_ | with_reducible refine ok_cairnAccept ?_ | ((conv => arg 2; arg 27; skip); with_reducible refine ok_mk ?_ rfl) | with_reducible refine ok_ite ?_ ?_ | with_reducible refine ok_foldl ?_ ?_ | intro _ | extract_lets | split | (conv => arg 2; dsimp +zetaDelta only))

theorem ok_traceAdd {o s : State} (h : Ok o s) {a1 : Nat} {a2 : Nat} {a3 : Nat} {a4 : Bool} {a5 : List Nat} : Ok o (State.traceAdd s a1 a2 a3 a4 a5) := by
  unfold State.traceAdd
  repeat' (first | with_reducible assumption | (fail_if_no_progress (extract_lets +onlyGivenNames x); first | (refine ok_have x ?_ ?_; on_goal 1 => subst x; on_goal 2 => (clear_value x; intro _)) | skip) | with_reducible refine ok_setF ?_ | ((conv => arg 2; arg 27; skip); with_reducible refine ok_mk ?_ rfl) | with_reducible refine ok_ite ?_ ?_ | with_reducible refine ok_foldl ?_ ?_ | intro _ | extract_lets | split | (conv => arg 2; dsimp +zetaDelta only))

theorem ok_setEvt {o s : State} (h : Ok o s) {a1 : Nat} : Ok o (State.setEvt s a1) := by
  unfold State.setEvt
  repeat' (first | with_reducible assumption | (fail_if_no_progress (extract_lets +onlyGivenNames x); first | (refine ok_have x ?_ ?_; on_goal 1 => subst x; on_goal 2 => (clear_value x; intro _)) | skip) | with_reducible refine ok_putBit ?_ | with_reducible refine ok_ite ?_ ?_ | with_reducible refine ok_foldl ?_ ?_ | intro _ | extract_lets | split | (conv => arg 2; dsimp +zetaDelta only))

theorem ok_cnRecord {o s : State} (h : Ok o s) {a1 : Nat} {a2 : List Nat} : Ok o (State.cnRecord s a1 a2) := by
  unfold State.cnRecord
  repeat' (first | with_reducible assumption | (fail_if_no_progress (extract_lets +onlyGivenNames x); first | (refine ok_have x ?_ ?_; on_goal 1 => subst x; on_goal 2 => (clear_value x; intro _)) | skip) | with_reducible refine ok_setEvt ?_ | with_reducible refine ok_cairnStage ?_ | with_reducible refine ok_traceAdd ?_ | with_reducible refine ok_ite ?_ ?_ | with_reducible refine ok_foldl ?_ ?_ | intro _ | extract_lets | split | (conv => arg 2; dsimp +zetaDelta only))

theorem ok_updCn {o s : State} (h : Ok o s) {a1 : CorniceSt → CorniceSt} : Ok o (State.updCn s a1) := by
  unfold State.updCn
  repeat' (first | with_reducible assumption | (fail_if_no_progress (extract_lets +onlyGivenNames x); first | (refine ok_have x ?_ ?_; on_goal 1 => subst x; on_goal 2 => (clear_value x; intro _)) | skip) | ((conv => arg 2; arg 27; skip); with_reducible refine ok_mk ?_ rfl) | with_reducible refine ok_ite ?_ ?_ | with_reducible refine ok_foldl ?_ ?_ | intro _ | extract_lets | split | (conv => arg 2; dsimp +zetaDelta only))

theorem ok_cnCollapse {o s : State} (h : Ok o s) {a1 : Nat} : Ok o (State.cnCollapse s a1) := by
  unfold State.cnCollapse
  repeat' (first | with_reducible assumption | (fail_if_no_progress (extract_lets +onlyGivenNames x); first | (refine ok_have x ?_ ?_; on_goal 1 => subst x; on_goal 2 => (clear_value x; intro _)) | skip) | with_reducible refine ok_setF ?_ | with_reducible refine ok_updCn ?_ | with_reducible refine ok_incSat ?_ | with_reducible refine ok_setReg ?_ | with_reducible refine ok_ite ?_ ?_ | with_reducible refine ok_foldl ?_ ?_ | intro _ | extract_lets | split | (conv => arg 2; dsimp +zetaDelta only))

theorem ok_cnResolve {o s : State} (h : Ok o s) {a1 : Nat} {a2 : Word} : Ok o (State.cnResolve s a1 a2) := by
  unfold State.cnResolve
  repeat' (first | with_reducible assumption | (fail_if_no_progress (extract_lets +onlyGivenNames x); first | (refine ok_have x ?_ ?_; on_goal 1 => subst x; on_goal 2 => (clear_value x; intro _)) | skip) | with_reducible refine ok_cnRecord ?_ | with_reducible refine ok_updCn ?_ | with_reducible refine ok_ite ?_ ?_ | with_reducible refine ok_foldl ?_ ?_ | intro _ | extract_lets | split | (conv => arg 2; dsimp +zetaDelta only))

theorem ok_updRail {o s : State} (h : Ok o s) {a1 : Nat} {a2 : RailSt → RailSt} : Ok o (State.updRail s a1 a2) := by
  unfold State.updRail
  repeat' (first | with_reducible assumption | (fail_if_no_progress (extract_lets +onlyGivenNames x); first | (refine ok_have x ?_ ?_; on_goal 1 => subst x; on_goal 2 => (clear_value x; intro _)) | skip) | ((conv => arg 2; arg 27; skip); with_reducible refine ok_mk ?_ rfl) | with_reducible refine ok_ite ?_ ?_ | with_reducible refine ok_foldl ?_ ?_ | intro _ | extract_lets | split | (conv => arg 2; dsimp +zetaDelta only))

theorem ok_updPhase {o s : State} (h : Ok o s) {a1 : Nat} {a2 : PhaseSt → PhaseSt} : Ok o (State.updPhase s a1 a2) := by
  unfold State.updPhase
  repeat' (first | with_reducible assumption | (fail_if_no_progress (extract_lets +onlyGivenNames x); first | (refine ok_have x ?_ ?_; on_goal 1 => subst x; on_goal 2 => (clear_value x; intro _)) | skip) | ((conv => arg 2; arg 27; skip); with_reducible refine ok_mk ?_ rfl) | with_reducible refine ok_ite ?_ ?_ | with_reducible refine ok_foldl ?_ ?_ | intro _ | extract_lets | split | (conv => arg 2; dsimp +zetaDelta only))

theorem ok_railCounts {o s : State} (h : Ok o s) {a1 : Nat} : Ok o (State.railCounts s a1) := by
  unfold State.railCounts
  repeat' (first | with_reducible assumption | (fail_if_no_progress (extract_lets +onlyGivenNames x); first | (refine ok_have x ?_ ?_; on_goal 1 => subst x; on_goal 2 => (clear_value x; intro _)) | skip) | with_reducible refine ok_setF ?_ | with_reducible refine ok_setB ?_ | with_reducible refine ok_ite ?_ ?_ | with_reducible refine ok_foldl ?_ ?_ | intro _ | extract_lets | split | (conv => arg 2; dsimp +zetaDelta only))

theorem ok_setPhase {o s : State} (h : Ok o s) {a1 : Nat} {a2 : Nat} : Ok o (State.setPhase s a1 a2) := by
  unfold State.setPhase
  repeat' (first | with_reducible assumption | (fail_if_no_progress (extract_lets +onlyGivenNames x); first | (refine ok_have x ?_ ?_; on_goal 1 => subst x; on_goal 2 => (clear_value x; intro _)) | skip) | with_reducible refine ok_updPhase ?_ | with_reducible refine ok_setF ?_ | with_reducible refine ok_ite ?_ ?_ | with_reducible refine ok_foldl ?_ ?_ | intro _ | extract_lets | split | (conv => arg 2; dsimp +zetaDelta only))

theorem ok_railLevel {o s : State} (h : Ok o s) {a1 : Nat} {a2 : Pwm} : Ok o (State.railLevel s a1 a2) := by
  unfold State.railLevel
  repeat' (first | with_reducible assumption | (fail_if_no_progress (extract_lets +onlyGivenNames x); first | (refine ok_have x ?_ ?_; on_goal 1 => subst x; on_goal 2 => (clear_value x; intro _)) | skip) | with_reducible refine ok_updPhase ?_ | with_reducible refine ok_ite ?_ ?_ | with_reducible refine ok_foldl ?_ ?_ | intro _ | extract_lets | split | (conv => arg 2; dsimp +zetaDelta only))

theorem ok_railCnFault {o s : State} (h : Ok o s) {a1 : Nat} : Ok o (State.railCnFault s a1) := by
  unfold State.railCnFault
  repeat' (first | with_reducible assumption | (fail_if_no_progress (extract_lets +onlyGivenNames x); first | (refine ok_have x ?_ ?_; on_goal 1 => subst x; on_goal 2 => (clear_value x; intro _)) | skip) | with_reducible refine ok_updRail ?_ | with_reducible refine ok_incSat ?_ | with_reducible refine ok_setF ?_ | with_reducible refine ok_setReg ?_ | with_reducible refine ok_cnRecord ?_ | with_reducible refine ok_railCounts ?_ | with_reducible refine ok_ite ?_ ?_ | with_reducible refine ok_foldl ?_ ?_ | intro _ | extract_lets | split | (conv => arg 2; dsimp +zetaDelta only))

theorem ok_railRest {o s : State} (h : Ok o s) {a1 : Nat} : Ok o (State.railRest s a1) := by
  unfold State.railRest
  repeat' (first | with_reducible assumption | (fail_if_no_progress (extract_lets +onlyGivenNames x); first | (refine ok_have x ?_ ?_; on_goal 1 => subst x; on_goal 2 => (clear_value x; intro _)) | skip) | with_reducible refine ok_updRail ?_ | with_reducible refine ok_setPhase ?_ | with_reducible refine ok_setF ?_ | with_reducible refine ok_ite ?_ ?_ | with_reducible refine ok_foldl ?_ ?_ | intro _ | extract_lets | split | (conv => arg 2; dsimp +zetaDelta only))

theorem ok_railFaultOff {o s : State} (h : Ok o s) {a1 : Nat} {a2 : Pwm} : Ok o (State.railFaultOff s a1 a2) := by
  unfold State.railFaultOff
  repeat' (first | with_reducible assumption | (fail_if_no_progress (extract_lets +onlyGivenNames x); first | (refine ok_have x ?_ ?_; on_goal 1 => subst x; on_goal 2 => (clear_value x; intro _)) | skip) | with_reducible refine ok_railLevel ?_ | with_reducible refine ok_railRest ?_ | with_reducible refine ok_railCnFault ?_ | with_reducible refine ok_setReg ?_ | with_reducible refine ok_setF ?_ | with_reducible refine ok_railCounts ?_ | with_reducible refine ok_ite ?_ ?_ | with_reducible refine ok_foldl ?_ ?_ | intro _ | extract_lets | split | (conv => arg 2; dsimp +zetaDelta only))

theorem ok_railToOff {o s : State} (h : Ok o s) {a1 : Nat} : Ok o (State.railToOff s a1) := by
  unfold State.railToOff
  repeat' (first | with_reducible assumption | (fail_if_no_progress (extract_lets +onlyGivenNames x); first | (refine ok_have x ?_ ?_; on_goal 1 => subst x; on_goal 2 => (clear_value x; intro _)) | skip) | with_reducible refine ok_railLevel ?_ | with_reducible refine ok_railRest ?_ | with_reducible refine ok_railCnFault ?_ | with_reducible refine ok_setF ?_ | with_reducible refine ok_setReg ?_ | with_reducible refine ok_railCounts ?_ | with_reducible refine ok_ite ?_ ?_ | with_reducible refine ok_foldl ?_ ?_ | intro _ | extract_lets | split | (conv => arg 2; dsimp +zetaDelta only))

theorem ok_tbGlide {o s : State} (h : Ok o s) {a1 : Nat} : Ok o (State.tbGlide s a1) := by
  unfold State.tbGlide
  repeat' (first | with_reducible assumption | (fail_if_no_progress (extract_lets +onlyGivenNames x); first | (refine ok_have x ?_ ?_; on_goal 1 => subst x; on_goal 2 => (clear_value x; intro _)) | skip) | with_reducible refine ok_setF ?_ | ((conv => arg 2; arg 27; skip); with_reducible refine ok_mk ?_ rfl) | with_reducible refine ok_ite ?_ ?_ | with_reducible refine ok_foldl ?_ ?_ | intro _ | extract_lets | split | (conv => arg 2; dsimp +zetaDelta only))

theorem ok_fencePhase {o s : State} (h : Ok o s) {a1 : Nat} : Ok o (State.fencePhase s a1) := by
  unfold State.fencePhase
  repeat' (first | with_reducible assumption | (fail_if_no_progress (extract_lets +onlyGivenNames x); first | (refine ok_have x ?_ ?_; on_goal 1 => subst x; on_goal 2 => (clear_value x; intro _)) | skip) | with_reducible refine ok_updPhase ?_ | with_reducible refine ok_setPhase ?_ | with_reducible refine ok_railCounts ?_ | with_reducible refine ok_updRail ?_ | with_reducible refine ok_ite ?_ ?_ | with_reducible refine ok_foldl ?_ ?_ | intro _ | extract_lets | split | (conv => arg 2; dsimp +zetaDelta only))

theorem ok_updSdma {o s : State} (h : Ok o s) {a1 : Nat} {a2 : SdmaSt → SdmaSt} : Ok o (State.updSdma s a1 a2) := by
  unfold State.updSdma
  repeat' (first | with_reducible assumption | (fail_if_no_progress (extract_lets +onlyGivenNames x); first | (refine ok_have x ?_ ?_; on_goal 1 => subst x; on_goal 2 => (clear_value x; intro _)) | skip) | ((conv => arg 2; arg 27; skip); with_reducible refine ok_mk ?_ rfl) | with_reducible refine ok_ite ?_ ?_ | with_reducible refine ok_foldl ?_ ?_ | intro _ | extract_lets | split | (conv => arg 2; dsimp +zetaDelta only))

theorem ok_descWrite {o s : State} (h : Ok o s) {a1 : Nat} {a2 : Nat} {a3 : Nat} : Ok o (State.descWrite s a1 a2 a3) := by
  unfold State.descWrite
  repeat' (first | with_reducible assumption | (fail_if_no_progress (extract_lets +onlyGivenNames x); first | (refine ok_have x ?_ ?_; on_goal 1 => subst x; on_goal 2 => (clear_value x; intro _)) | skip) | with_reducible refine ok_writeLe ?_ | with_reducible refine ok_ite ?_ ?_ | with_reducible refine ok_foldl ?_ ?_ | intro _ | extract_lets | split | (conv => arg 2; dsimp +zetaDelta only))

theorem ok_descEnd {o s : State} (h : Ok o s) {a1 : Nat} {a2 : Nat} {a3 : Nat} {a4 : Nat} : Ok o (State.descEnd s a1 a2 a3 a4) := by
  unfold State.descEnd
  repeat' (first | with_reducible assumption | (fail_if_no_progress (extract_lets +onlyGivenNames x); first | (refine ok_have x ?_ ?_; on_goal 1 => subst x; on_goal 2 => (clear_value x; intro _)) | skip) | with_reducible refine ok_setN ?_ | with_reducible refine ok_updSdma ?_ | with_reducible refine ok_descWrite ?_ | with_reducible refine ok_ite ?_ ?_ | with_reducible refine ok_foldl ?_ ?_ | intro _ | extract_lets | split | (conv => arg 2; dsimp +zetaDelta only))

theorem ok_sdmaCond {o s : State} (h : Ok o s) : Ok o (State.sdmaCond s) := by
  unfold State.sdmaCond
  repeat' (first | with_reducible assumption | (fail_if_no_progress (extract_lets +onlyGivenNames x); first | (refine ok_have x ?_ ?_; on_goal 1 => subst x; on_goal 2 => (clear_value x; intro _)) | skip) | with_reducible refine ok_setCond ?_ | with_reducible refine ok_ite ?_ ?_ | with_reducible refine ok_foldl ?_ ?_ | intro _ | extract_lets | split | (conv => arg 2; dsimp +zetaDelta only))

theorem ok_fenceSdma {o s : State} (h : Ok o s) {a1 : Nat} : Ok o (State.fenceSdma s a1) := by
  unfold State.fenceSdma
  repeat' (first | with_reducible assumption | (fail_if_no_progress (extract_lets +onlyGivenNames x); first | (refine ok_have x ?_ ?_; on_goal 1 => subst x; on_goal 2 => (clear_value x; intro _)) | skip) | with_reducible refine ok_descEnd ?_ | with_reducible refine ok_sdmaCond ?_ | with_reducible refine ok_setF ?_ | with_reducible refine ok_ite ?_ ?_ | with_reducible refine ok_foldl ?_ ?_ | intro _ | extract_lets | split | (conv => arg 2; dsimp +zetaDelta only))

theorem ok_keepAon {o s : State} (h : Ok o s) {a1 : State} : Ok o (State.keepAon s a1) := by
  unfold State.keepAon
  repeat' (first | with_reducible assumption | (fail_if_no_progress (extract_lets +onlyGivenNames x); first | (refine ok_have x ?_ ?_; on_goal 1 => subst x; on_goal 2 => (clear_value x; intro _)) | skip) | with_reducible refine ok_setF ?_ | with_reducible refine ok_setB ?_ | with_reducible refine ok_setN ?_ | with_reducible refine ok_setReg ?_ | with_reducible refine ok_ite ?_ ?_ | with_reducible refine ok_foldl ?_ ?_ | intro _ | extract_lets | split | (conv => arg 2; dsimp +zetaDelta only))

theorem ok_keepNv {o s : State} (h : Ok o s) {a1 : State} : Ok o (State.keepNv s a1) := by
  unfold State.keepNv
  extract_lets w nv t
  have h1 : Ok o t := ok_ite (ok_setF (ok_setF h)) h
  clear_value t
  exact ok_mk h1 rfl

theorem ok_resetAll {o s : State} (h : Ok o s) : Ok o (State.resetAll s) := by
  unfold State.resetAll
  refine ok_keepAon (ok_keepNv ?_)
  refine ok_empty h ?_ ?_ ?_ ?_
  · rfl
  · rfl
  · rfl
  · rfl

theorem ok_causeBit {o s : State} (h : Ok o s) {a1 : Nat} : Ok o (State.causeBit s a1) := by
  unfold State.causeBit
  repeat' (first | with_reducible assumption | (fail_if_no_progress (extract_lets +onlyGivenNames x); first | (refine ok_have x ?_ ?_; on_goal 1 => subst x; on_goal 2 => (clear_value x; intro _)) | skip) | with_reducible refine ok_setF ?_ | with_reducible refine ok_ite ?_ ?_ | with_reducible refine ok_foldl ?_ ?_ | intro _ | extract_lets | split | (conv => arg 2; dsimp +zetaDelta only))

theorem ok_aged {o s : State} (h : Ok o s) : Ok o (State.aged s) := by
  unfold State.aged
  repeat' (first | with_reducible assumption | (fail_if_no_progress (extract_lets +onlyGivenNames x); first | (refine ok_have x ?_ ?_; on_goal 1 => subst x; on_goal 2 => (clear_value x; intro _)) | skip) | with_reducible refine ok_takeFree ?_ | with_reducible refine ok_takeFree_eq ?_ ‹_› | ((conv => arg 2; arg 27; skip); with_reducible refine ok_mk ?_ rfl) | with_reducible refine ok_ite ?_ ?_ | with_reducible refine ok_foldl ?_ ?_ | intro _ | extract_lets | split | (conv => arg 2; dsimp +zetaDelta only))

theorem ok_deviceReset {o s : State} (h : Ok o s) {a1 : Nat} : Ok o (State.deviceReset s a1) := by
  unfold State.deviceReset
  repeat' (first | with_reducible assumption | (fail_if_no_progress (extract_lets +onlyGivenNames x); first | (refine ok_have x ?_ ?_; on_goal 1 => subst x; on_goal 2 => (clear_value x; intro _)) | skip) | with_reducible refine ok_causeBit ?_ | with_reducible refine ok_resetAll ?_ | with_reducible refine ok_aged ?_ | with_reducible refine ok_ite ?_ ?_ | with_reducible refine ok_foldl ?_ ?_ | intro _ | extract_lets | split | (conv => arg 2; dsimp +zetaDelta only))

theorem ok_pwmFloat {o s : State} (h : Ok o s) : Ok o (State.pwmFloat s) := by
  unfold State.pwmFloat
  repeat' (first | with_reducible assumption | (fail_if_no_progress (extract_lets +onlyGivenNames x); first | (refine ok_have x ?_ ?_; on_goal 1 => subst x; on_goal 2 => (clear_value x; intro _)) | skip) | ((conv => arg 2; arg 27; skip); with_reducible refine ok_mk ?_ rfl) | with_reducible refine ok_ite ?_ ?_ | with_reducible refine ok_foldl ?_ ?_ | intro _ | extract_lets | split | (conv => arg 2; dsimp +zetaDelta only))

theorem ok_markDown {o s : State} (h : Ok o s) {a1 : Nat} : Ok o (State.markDown s a1) := by
  unfold State.markDown
  repeat' (first | with_reducible assumption | (fail_if_no_progress (extract_lets +onlyGivenNames x); first | (refine ok_have x ?_ ?_; on_goal 1 => subst x; on_goal 2 => (clear_value x; intro _)) | skip) | ((conv => arg 2; arg 27; skip); with_reducible refine ok_mk ?_ rfl) | with_reducible refine ok_ite ?_ ?_ | with_reducible refine ok_foldl ?_ ?_ | intro _ | extract_lets | split | (conv => arg 2; dsimp +zetaDelta only))

theorem ok_pgFence {o s : State} (h : Ok o s) {a1 : Nat} : Ok o (State.pgFence s a1) := by
  unfold State.pgFence
  repeat' (first | with_reducible assumption | (fail_if_no_progress (extract_lets +onlyGivenNames x); first | (refine ok_have x ?_ ?_; on_goal 1 => subst x; on_goal 2 => (clear_value x; intro _)) | skip) | with_reducible refine ok_setF ?_ | with_reducible refine ok_markDown ?_ | with_reducible refine ok_ite ?_ ?_ | with_reducible refine ok_foldl ?_ ?_ | intro _ | extract_lets | split | (conv => arg 2; dsimp +zetaDelta only))

theorem ok_fenceRail {o s : State} (h : Ok o s) {a1 : Nat} : Ok o (State.fenceRail s a1) := by
  unfold State.fenceRail
  repeat' (first | with_reducible assumption | (fail_if_no_progress (extract_lets +onlyGivenNames x); first | (refine ok_have x ?_ ?_; on_goal 1 => subst x; on_goal 2 => (clear_value x; intro _)) | skip) | with_reducible refine ok_pgFence ?_ | with_reducible refine ok_railFaultOff ?_ | with_reducible refine ok_ite ?_ ?_ | with_reducible refine ok_foldl ?_ ?_ | intro _ | extract_lets | split | (conv => arg 2; dsimp +zetaDelta only))

theorem ok_gateZero {o s : State} (h : Ok o s) {a1 : Nat} : Ok o (State.gateZero s a1) := by
  unfold State.gateZero
  repeat' (first | with_reducible assumption | (fail_if_no_progress (extract_lets +onlyGivenNames x); first | (refine ok_have x ?_ ?_; on_goal 1 => subst x; on_goal 2 => (clear_value x; intro _)) | skip) | with_reducible refine ok_setReg ?_ | ((conv => arg 2; arg 27; skip); with_reducible refine ok_mk ?_ rfl) | with_reducible refine ok_ite ?_ ?_ | with_reducible refine ok_foldl ?_ ?_ | intro _ | extract_lets | split | (conv => arg 2; dsimp +zetaDelta only))

theorem ok_fenceUnit {o s : State} (h : Ok o s) {a1 : FenceUnit} : Ok o (State.fenceUnit s a1) := by
  unfold State.fenceUnit
  repeat' (first | with_reducible assumption | (fail_if_no_progress (extract_lets +onlyGivenNames x); first | (refine ok_have x ?_ ?_; on_goal 1 => subst x; on_goal 2 => (clear_value x; intro _)) | skip) | with_reducible refine ok_gateZero ?_ | with_reducible refine ok_pgFence ?_ | with_reducible refine ok_fenceRail ?_ | with_reducible refine ok_setF ?_ | with_reducible refine ok_fencePhase ?_ | with_reducible refine ok_fenceSlot ?_ | with_reducible refine ok_cnCollapse ?_ | with_reducible refine ok_fenceEfuse ?_ | with_reducible refine ok_fenceSeqSlot ?_ | with_reducible refine ok_fenceSdma ?_ | with_reducible refine ok_forAll ?_ ?_ | ((conv => arg 2; arg 27; skip); with_reducible refine ok_mk ?_ rfl) | with_reducible refine ok_ite ?_ ?_ | with_reducible refine ok_foldl ?_ ?_ | intro _ | extract_lets | split | (conv => arg 2; dsimp +zetaDelta only))

theorem ok_collect {o s : State} (h : Ok o s) {a1 : Nat} {a2 : Nat} : Ok o (State.collect s a1 a2) := by
  unfold State.collect
  repeat' (first | with_reducible assumption | (fail_if_no_progress (extract_lets +onlyGivenNames x); first | (refine ok_have x ?_ ?_; on_goal 1 => subst x; on_goal 2 => (clear_value x; intro _)) | skip) | with_reducible refine ok_incSat ?_ | with_reducible refine ok_setF ?_ | ((conv => arg 2; arg 27; skip); with_reducible refine ok_mk ?_ rfl) | with_reducible refine ok_ite ?_ ?_ | with_reducible refine ok_foldl ?_ ?_ | intro _ | extract_lets | split | (conv => arg 2; dsimp +zetaDelta only))

theorem ok_safeReact {o s : State} (h : Ok o s) : Ok o (State.safeReact s) := by
  unfold State.safeReact
  repeat' (first | with_reducible assumption | (fail_if_no_progress (extract_lets +onlyGivenNames x); first | (refine ok_have x ?_ ?_; on_goal 1 => subst x; on_goal 2 => (clear_value x; intro _)) | skip) | with_reducible refine ok_cnCollapse ?_ | with_reducible refine ok_setF ?_ | with_reducible refine ok_groupOff ?_ | with_reducible refine ok_forAll ?_ ?_ | ((conv => arg 2; arg 27; skip); with_reducible refine ok_mk ?_ rfl) | with_reducible refine ok_ite ?_ ?_ | with_reducible refine ok_foldl ?_ ?_ | intro _ | extract_lets | split | (conv => arg 2; dsimp +zetaDelta only))

theorem ok_logRaise {o s : State} (h : Ok o s) {a1 : Nat} {a2 : Nat} {a3 : List Nat} {a4 : RaiseHow} : Ok o (State.logRaise s a1 a2 a3 a4) := by
  unfold State.logRaise
  repeat' (first | with_reducible assumption | (fail_if_no_progress (extract_lets +onlyGivenNames x); first | (refine ok_have x ?_ ?_; on_goal 1 => subst x; on_goal 2 => (clear_value x; intro _)) | skip) | with_reducible refine ok_traceAdd ?_ | with_reducible refine ok_collect ?_ | with_reducible refine ok_cairnStage ?_ | with_reducible refine ok_setEvt ?_ | with_reducible refine ok_ite ?_ ?_ | with_reducible refine ok_foldl ?_ ?_ | intro _ | extract_lets | split | (conv => arg 2; dsimp +zetaDelta only))

theorem ok_raiseN {o s : State} (h : Ok o s) {a0 : Nat} {a2 : Nat} {a3 : List Nat} {a4 : RaiseHow} : Ok o (State.raiseN a0 s a2 a3 a4) := by
  induction a0 generalizing s a2 a3 a4 with
  | zero => exact ok_setAct h
  | succ n ih =>
    have ih' : ∀ {s a2 a3 a4}, Ok o s → Ok o (State.raiseN n s a2 a3 a4) := fun h => ih h
    clear ih
    unfold State.raiseN
    repeat' (first | with_reducible assumption | with_reducible refine ih' ?_ | with_reducible refine ok_logRaise ?_ | with_reducible refine ok_setAct ?_ | with_reducible refine ok_setCond ?_ | with_reducible refine ok_fenceUnit ?_ | with_reducible refine ok_setF ?_ | with_reducible refine ok_deviceReset ?_ | with_reducible refine ok_safeReact ?_ | with_reducible refine ok_ite ?_ ?_ | with_reducible refine ok_foldl ?_ ?_ | ((conv => arg 2; arg 27; skip); with_reducible refine ok_mk ?_ rfl) | intro _ | extract_lets | (conv => arg 2; dsimp +zetaDelta only))

theorem ok_raise {o s : State} (h : Ok o s) {a1 : Nat} {a2 : List Nat} : Ok o (State.raise s a1 a2) := by
  unfold State.raise
  repeat' (first | with_reducible assumption | (fail_if_no_progress (extract_lets +onlyGivenNames x); first | (refine ok_have x ?_ ?_; on_goal 1 => subst x; on_goal 2 => (clear_value x; intro _)) | skip) | with_reducible refine ok_raiseN ?_ | with_reducible refine ok_ite ?_ ?_ | with_reducible refine ok_foldl ?_ ?_ | intro _ | extract_lets | split | (conv => arg 2; dsimp +zetaDelta only))

theorem ok_raiseL {o s : State} (h : Ok o s) {a1 : Nat} {a2 : List Nat} : Ok o (State.raiseL s a1 a2) := by
  unfold State.raiseL
  repeat' (first | with_reducible assumption | (fail_if_no_progress (extract_lets +onlyGivenNames x); first | (refine ok_have x ?_ ?_; on_goal 1 => subst x; on_goal 2 => (clear_value x; intro _)) | skip) | with_reducible refine ok_raise ?_ | with_reducible refine ok_setCond ?_ | with_reducible refine ok_ite ?_ ?_ | with_reducible refine ok_foldl ?_ ?_ | intro _ | extract_lets | split | (conv => arg 2; dsimp +zetaDelta only))

theorem ok_endL {o s : State} (h : Ok o s) {a1 : Nat} : Ok o (State.endL s a1) := by
  unfold State.endL
  repeat' (first | with_reducible assumption | (fail_if_no_progress (extract_lets +onlyGivenNames x); first | (refine ok_have x ?_ ?_; on_goal 1 => subst x; on_goal 2 => (clear_value x; intro _)) | skip) | with_reducible refine ok_setAct ?_ | with_reducible refine ok_setCond ?_ | with_reducible refine ok_ite ?_ ?_ | with_reducible refine ok_foldl ?_ ?_ | intro _ | extract_lets | split | (conv => arg 2; dsimp +zetaDelta only))

theorem ok_checkFill {o s : State} (h : Ok o s) : Ok o (State.checkFill s) := by
  unfold State.checkFill
  repeat' (first | with_reducible assumption | (fail_if_no_progress (extract_lets +onlyGivenNames x); first | (refine ok_have x ?_ ?_; on_goal 1 => subst x; on_goal 2 => (clear_value x; intro _)) | skip) | with_reducible refine ok_raise ?_ | with_reducible refine ok_setCond ?_ | with_reducible refine ok_raiseN ?_ | with_reducible refine ok_ite ?_ ?_ | with_reducible refine ok_foldl ?_ ?_ | intro _ | extract_lets | split | (conv => arg 2; dsimp +zetaDelta only))

theorem ok_runEntry {o s : State} (h : Ok o s) {a1 : Nat} : Ok o (State.runEntry s a1) := by
  unfold State.runEntry
  repeat' (first | with_reducible assumption | (fail_if_no_progress (extract_lets +onlyGivenNames x); first | (refine ok_have x ?_ ?_; on_goal 1 => subst x; on_goal 2 => (clear_value x; intro _)) | skip) | ((conv => arg 2; arg 27; skip); with_reducible refine ok_mk ?_ rfl) | with_reducible refine ok_ite ?_ ?_ | with_reducible refine ok_foldl ?_ ?_ | intro _ | extract_lets | split | (conv => arg 2; dsimp +zetaDelta only))

theorem ok_setMode {o s : State} (h : Ok o s) {a1 : Nat} : Ok o (State.setMode s a1) := by
  unfold State.setMode
  repeat' (first | with_reducible assumption | (fail_if_no_progress (extract_lets +onlyGivenNames x); first | (refine ok_have x ?_ ?_; on_goal 1 => subst x; on_goal 2 => (clear_value x; intro _)) | skip) | with_reducible refine ok_runEntry ?_ | with_reducible refine ok_raise ?_ | with_reducible refine ok_setF ?_ | with_reducible refine ok_ite ?_ ?_ | with_reducible refine ok_foldl ?_ ?_ | intro _ | extract_lets | split | (conv => arg 2; dsimp +zetaDelta only))

theorem ok_flagSlot {o s : State} (h : Ok o s) {a1 : Nat} {a2 : Nat} {a3 : Nat} : Ok o (State.flagSlot s a1 a2 a3) := by
  unfold State.flagSlot
  repeat' (first | with_reducible assumption | (fail_if_no_progress (extract_lets +onlyGivenNames x); first | (refine ok_have x ?_ ?_; on_goal 1 => subst x; on_goal 2 => (clear_value x; intro _)) | skip) | with_reducible refine ok_putBit ?_ | with_reducible refine ok_ite ?_ ?_ | with_reducible refine ok_foldl ?_ ?_ | intro _ | extract_lets | split | (conv => arg 2; dsimp +zetaDelta only))

theorem ok_swapDone {o s : State} (h : Ok o s) {a1 : Nat} {a2 : Bool} : Ok o (State.swapDone s a1 a2) := by
  unfold State.swapDone
  repeat' (first | with_reducible assumption | (fail_if_no_progress (extract_lets +onlyGivenNames x); first | (refine ok_have x ?_ ?_; on_goal 1 => subst x; on_goal 2 => (clear_value x; intro _)) | skip) | with_reducible refine ok_setF ?_ | with_reducible refine ok_ite ?_ ?_ | with_reducible refine ok_foldl ?_ ?_ | intro _ | extract_lets | split | (conv => arg 2; dsimp +zetaDelta only))

theorem ok_cnFold {o s : State} (h : Ok o s) {a1 : Word} {a2 : Word} : Ok o (State.cnFold s a1 a2) := by
  unfold State.cnFold
  repeat' (first | with_reducible assumption | (fail_if_no_progress (extract_lets +onlyGivenNames x); first | (refine ok_have x ?_ ?_; on_goal 1 => subst x; on_goal 2 => (clear_value x; intro _)) | skip) | with_reducible refine ok_cnResolve ?_ | with_reducible refine ok_updCn ?_ | with_reducible refine ok_setReg ?_ | with_reducible refine ok_setF ?_ | with_reducible refine ok_ite ?_ ?_ | with_reducible refine ok_foldl ?_ ?_ | intro _ | extract_lets | split | (conv => arg 2; dsimp +zetaDelta only))

theorem ok_cnHeld {o s : State} (h : Ok o s) {a1 : Option Word} : Ok o (State.cnHeld s a1) := by
  unfold State.cnHeld
  repeat' (first | with_reducible assumption | (fail_if_no_progress (extract_lets +onlyGivenNames x); first | (refine ok_have x ?_ ?_; on_goal 1 => subst x; on_goal 2 => (clear_value x; intro _)) | skip) | with_reducible refine ok_checkFill ?_ | with_reducible refine ok_cnFold ?_ | with_reducible refine ok_ite ?_ ?_ | with_reducible refine ok_foldl ?_ ?_ | intro _ | extract_lets | split | (conv => arg 2; dsimp +zetaDelta only))

theorem ok_evalSlot {o s : State} (h : Ok o s) {a1 : Nat} {a2 : EvalIn} : Ok o (State.evalSlot s a1 a2) := by
  unfold State.evalSlot
  repeat' (first | with_reducible assumption | (fail_if_no_progress (extract_lets +onlyGivenNames x); first | (refine ok_have x ?_ ?_; on_goal 1 => subst x; on_goal 2 => (clear_value x; intro _)) | skip) | with_reducible refine ok_setReg ?_ | with_reducible refine ok_raise ?_ | with_reducible refine ok_updVs ?_ | with_reducible refine ok_setF ?_ | with_reducible refine ok_putLawState ?_ | with_reducible refine ok_incSat ?_ | with_reducible refine ok_swapDone ?_ | with_reducible refine ok_flagSlot ?_ | with_reducible refine ok_cnHeld ?_ | with_reducible refine ok_putBit ?_ | with_reducible refine ok_setN ?_ | with_reducible refine ok_setB ?_ | with_reducible refine ok_checkFill ?_ | with_reducible refine ok_cnFold ?_ | with_reducible refine ok_ite ?_ ?_ | with_reducible refine ok_foldl ?_ ?_ | intro _ | extract_lets | split | (conv => arg 2; dsimp +zetaDelta only))

theorem ok_updShelf {o s : State} (h : Ok o s) {a1 : ShelfSt → ShelfSt} : Ok o (State.updShelf s a1) := by
  unfold State.updShelf
  repeat' (first | with_reducible assumption | (fail_if_no_progress (extract_lets +onlyGivenNames x); first | (refine ok_have x ?_ ?_; on_goal 1 => subst x; on_goal 2 => (clear_value x; intro _)) | skip) | ((conv => arg 2; arg 27; skip); with_reducible refine ok_mk ?_ rfl) | with_reducible refine ok_ite ?_ ?_ | with_reducible refine ok_foldl ?_ ?_ | intro _ | extract_lets | split | (conv => arg 2; dsimp +zetaDelta only))

theorem ok_limitEnd {o s : State} (h : Ok o s) : Ok o (State.limitEnd s) := by
  unfold State.limitEnd
  repeat' (first | with_reducible assumption | (fail_if_no_progress (extract_lets +onlyGivenNames x); first | (refine ok_have x ?_ ?_; on_goal 1 => subst x; on_goal 2 => (clear_value x; intro _)) | skip) | with_reducible refine ok_endL ?_ | with_reducible refine ok_setF ?_ | with_reducible refine ok_updShelf ?_ | with_reducible refine ok_ite ?_ ?_ | with_reducible refine ok_foldl ?_ ?_ | intro _ | extract_lets | split | (conv => arg 2; dsimp +zetaDelta only))

theorem ok_makeActive {o s : State} (h : Ok o s) {a1 : Nat} : Ok o (State.makeActive s a1) := by
  unfold State.makeActive
  repeat' (first | with_reducible assumption | (fail_if_no_progress (extract_lets +onlyGivenNames x); first | (refine ok_have x ?_ ?_; on_goal 1 => subst x; on_goal 2 => (clear_value x; intro _)) | skip) | with_reducible refine ok_setF ?_ | with_reducible refine ok_limitEnd ?_ | with_reducible refine ok_ite ?_ ?_ | with_reducible refine ok_foldl ?_ ?_ | intro _ | extract_lets | split | (conv => arg 2; dsimp +zetaDelta only))

theorem ok_handover {o s : State} (h : Ok o s) {a1 : Nat} {a2 : Nat} : Ok o (State.handover s a1 a2) := by
  unfold State.handover
  repeat' (first | with_reducible assumption | (fail_if_no_progress (extract_lets +onlyGivenNames x); first | (refine ok_have x ?_ ?_; on_goal 1 => subst x; on_goal 2 => (clear_value x; intro _)) | skip) | with_reducible refine ok_setF ?_ | with_reducible refine ok_updVs ?_ | with_reducible refine ok_updShelf ?_ | with_reducible refine ok_makeActive ?_ | with_reducible refine ok_ite ?_ ?_ | with_reducible refine ok_foldl ?_ ?_ | intro _ | extract_lets | split | (conv => arg 2; dsimp +zetaDelta only))

end Sys2Proof.Laws
end

