-- ==== Sys2Proof/Laws/KeepShelf.lean ====
section
/-! SUPPORT. What each operation of the control engine, the regions, the data mover, the shelf-cycle boundary, the shelf and the cornice keeps: one lemma per function and per command. -/

set_option linter.unusedTactic false
set_option linter.unreachableTactic false
set_option linter.tactic.unusedName false

namespace Sys2Proof.Laws

open Machine Machine.State

theorem ok_divStep {o s : State} (h : Ok o s) {a1 : Nat} : Ok o (State.divStep s a1).1 := by
  unfold State.divStep
  repeat' (first | with_reducible assumption | (fail_if_no_progress (extract_lets +onlyGivenNames x); first | (refine ok_have x ?_ ?_; on_goal 1 => subst x; on_goal 2 => (clear_value x; intro _)) | skip) | with_reducible refine ok_updVs ?_ | with_reducible refine ok_ite ?_ ?_ | with_reducible refine ok_foldl ?_ ?_ | intro _ | extract_lets | split | dsimp only | (conv => arg 2; dsimp +zetaDelta only))
theorem ok_divStep_eq {o s t : State} (h : Ok o s) {a1 : Nat} {b1 : Bool} (e : State.divStep s a1 = (t, b1)) : Ok o t := by
  have := ok_divStep (a1 := a1) h
  rw [e] at this; exact this

theorem ok_boundarySlot {o s : State} (h : Ok o s) {a1 : BitVec 32} {a2 : Nat} : Ok o (State.boundarySlot s a1 a2) := by
  unfold State.boundarySlot
  repeat' (first | with_reducible assumption | (fail_if_no_progress (extract_lets +onlyGivenNames x); first | (refine ok_have x ?_ ?_; on_goal 1 => subst x; on_goal 2 => (clear_value x; intro _)) | skip) | with_reducible refine ok_divStep ?_ | with_reducible refine ok_divStep_eq ?_ ‹_› | with_reducible refine ok_gapRelease ?_ | with_reducible refine ok_evalSlot ?_ | with_reducible refine ok_gapTaken ?_ | with_reducible refine ok_ite ?_ ?_ | with_reducible refine ok_foldl ?_ ?_ | intro _ | extract_lets | split | (conv => arg 2; dsimp +zetaDelta only))

theorem ok_releaseSlot {o s : State} (h : Ok o s) {a1 : Nat} : Ok o (State.releaseSlot s a1) := by
  unfold State.releaseSlot
  repeat' (first | with_reducible assumption | (fail_if_no_progress (extract_lets +onlyGivenNames x); first | (refine ok_have x ?_ ?_; on_goal 1 => subst x; on_goal 2 => (clear_value x; intro _)) | skip) | with_reducible refine ok_divStep ?_ | with_reducible refine ok_divStep_eq ?_ ‹_› | with_reducible refine ok_gapRelease ?_ | with_reducible refine ok_ite ?_ ?_ | with_reducible refine ok_foldl ?_ ?_ | intro _ | extract_lets | split | (conv => arg 2; dsimp +zetaDelta only))

theorem ok_bankCopy {o s : State} (h : Ok o s) {a1 : Nat} : Ok o (State.bankCopy s a1) := by
  unfold State.bankCopy
  repeat' (first | with_reducible assumption | (fail_if_no_progress (extract_lets +onlyGivenNames x); first | (refine ok_have x ?_ ?_; on_goal 1 => subst x; on_goal 2 => (clear_value x; intro _)) | skip) | with_reducible refine ok_setReg ?_ | with_reducible refine ok_ite ?_ ?_ | with_reducible refine ok_foldl ?_ ?_ | intro _ | extract_lets | split | (conv => arg 2; dsimp +zetaDelta only))

theorem ok_swapReq {o s : State} (h : Ok o s) {a1 : Nat} {a2 : Bool} : Ok o (State.swapReq s a1 a2) := by
  unfold State.swapReq
  repeat' (first | with_reducible assumption | (fail_if_no_progress (extract_lets +onlyGivenNames x); first | (refine ok_have x ?_ ?_; on_goal 1 => subst x; on_goal 2 => (clear_value x; intro _)) | skip) | with_reducible refine ok_setF ?_ | with_reducible refine ok_updVs ?_ | with_reducible refine ok_ite ?_ ?_ | with_reducible refine ok_foldl ?_ ?_ | intro _ | extract_lets | split | (conv => arg 2; dsimp +zetaDelta only))

theorem ok_stateClr {o s : State} (h : Ok o s) {a1 : Nat} : Ok o (State.stateClr s a1) := by
  unfold State.stateClr
  repeat' (first | with_reducible assumption | (fail_if_no_progress (extract_lets +onlyGivenNames x); first | (refine ok_have x ?_ ?_; on_goal 1 => subst x; on_goal 2 => (clear_value x; intro _)) | skip) | with_reducible refine ok_updVs ?_ | with_reducible refine ok_ite ?_ ?_ | with_reducible refine ok_foldl ?_ ?_ | intro _ | extract_lets | split | (conv => arg 2; dsimp +zetaDelta only))

theorem ok_vceClr {o s : State} (h : Ok o s) : Ok o (State.vceClr s) := by
  unfold State.vceClr
  repeat' (first | with_reducible assumption | (fail_if_no_progress (extract_lets +onlyGivenNames x); first | (refine ok_have x ?_ ?_; on_goal 1 => subst x; on_goal 2 => (clear_value x; intro _)) | skip) | with_reducible refine ok_setReg ?_ | with_reducible refine ok_setF ?_ | with_reducible refine ok_forAll ?_ ?_ | with_reducible refine ok_ite ?_ ?_ | with_reducible refine ok_foldl ?_ ?_ | intro _ | extract_lets | split | (conv => arg 2; dsimp +zetaDelta only))

theorem ok_execVceSlotEvaluation {o s : State} (h : Ok o s) {a0 : Nat} {a1 : Bool} : OkO o (execVceSlotEvaluation a0 a1 s) := by
  unfold execVceSlotEvaluation
  repeat' (first | with_reducible assumption | (fail_if_no_progress (extract_lets +onlyGivenNames x); first | (refine okO_have x ?_ ?_; on_goal 1 => subst x; on_goal 2 => (clear_value x; intro _)) | skip) | with_reducible refine ok_gapTaken ?_ | with_reducible refine ok_evalSlot ?_ | with_reducible refine ok_ite ?_ ?_ | with_reducible refine okO_ite ?_ ?_ | with_reducible refine okO_next ?_ | with_reducible refine ok_foldl ?_ ?_ | intro _ | extract_lets | split | (conv => arg 2; dsimp +zetaDelta only))

theorem ok_execRemoteDeadlineMiss {o s : State} (h : Ok o s) {a0 : Nat} : OkO o (execRemoteDeadlineMiss a0 s) := by
  unfold execRemoteDeadlineMiss
  repeat' (first | with_reducible assumption | (fail_if_no_progress (extract_lets +onlyGivenNames x); first | (refine okO_have x ?_ ?_; on_goal 1 => subst x; on_goal 2 => (clear_value x; intro _)) | skip) | with_reducible refine ok_raise ?_ | with_reducible refine ok_ite ?_ ?_ | with_reducible refine okO_ite ?_ ?_ | with_reducible refine okO_next ?_ | with_reducible refine ok_foldl ?_ ?_ | intro _ | extract_lets | split | (conv => arg 2; dsimp +zetaDelta only))

theorem ok_execGapOverrun {o s : State} (h : Ok o s) {a0 : Nat} : OkO o (execGapOverrun a0 s) := by
  unfold execGapOverrun
  repeat' (first | with_reducible assumption | (fail_if_no_progress (extract_lets +onlyGivenNames x); first | (refine okO_have x ?_ ?_; on_goal 1 => subst x; on_goal 2 => (clear_value x; intro _)) | skip) | with_reducible refine ok_raise ?_ | with_reducible refine ok_incSat ?_ | with_reducible refine ok_ite ?_ ?_ | with_reducible refine okO_ite ?_ ?_ | with_reducible refine okO_next ?_ | with_reducible refine ok_foldl ?_ ?_ | intro _ | extract_lets | split | (conv => arg 2; dsimp +zetaDelta only))

theorem ok_execHandoverExecute {o s : State} (h : Ok o s) : OkO o (execHandoverExecute s) := by
  unfold execHandoverExecute
  repeat' (first | with_reducible assumption | (fail_if_no_progress (extract_lets +onlyGivenNames x); first | (refine okO_have x ?_ ?_; on_goal 1 => subst x; on_goal 2 => (clear_value x; intro _)) | skip) | with_reducible refine ok_setF ?_ | with_reducible refine ok_handover ?_ | with_reducible refine ok_updShelf ?_ | with_reducible refine ok_ite ?_ ?_ | with_reducible refine okO_ite ?_ ?_ | with_reducible refine okO_next ?_ | with_reducible refine ok_foldl ?_ ?_ | intro _ | extract_lets | split | (conv => arg 2; dsimp +zetaDelta only))

theorem ok_cnObserve {o s : State} (h : Ok o s) : Ok o (State.cnObserve s) := by
  unfold State.cnObserve
  repeat' (first | with_reducible assumption | (fail_if_no_progress (extract_lets +onlyGivenNames x); first | (refine ok_have x ?_ ?_; on_goal 1 => subst x; on_goal 2 => (clear_value x; intro _)) | skip) | with_reducible refine ok_updCn ?_ | with_reducible refine ok_ite ?_ ?_ | with_reducible refine ok_foldl ?_ ?_ | intro _ | extract_lets | split | (conv => arg 2; dsimp +zetaDelta only))

theorem ok_cnTest {o s : State} (h : Ok o s) : Ok o (State.cnTest s) := by
  unfold State.cnTest
  repeat' (first | with_reducible assumption | (fail_if_no_progress (extract_lets +onlyGivenNames x); first | (refine ok_have x ?_ ?_; on_goal 1 => subst x; on_goal 2 => (clear_value x; intro _)) | skip) | with_reducible refine ok_updCn ?_ | with_reducible refine ok_setReg ?_ | with_reducible refine ok_setF ?_ | with_reducible refine ok_incSat ?_ | with_reducible refine ok_ite ?_ ?_ | with_reducible refine ok_foldl ?_ ?_ | intro _ | extract_lets | split | (conv => arg 2; dsimp +zetaDelta only))

theorem ok_cnFolded {o s : State} (h : Ok o s) : Ok o (State.cnFolded s) := by
  unfold State.cnFolded
  repeat' (first | with_reducible assumption | (fail_if_no_progress (extract_lets +onlyGivenNames x); first | (refine ok_have x ?_ ?_; on_goal 1 => subst x; on_goal 2 => (clear_value x; intro _)) | skip) | with_reducible refine ok_checkFill ?_ | with_reducible refine ok_cnFold ?_ | with_reducible refine ok_ite ?_ ?_ | with_reducible refine ok_foldl ?_ ?_ | intro _ | extract_lets | split | (conv => arg 2; dsimp +zetaDelta only))

theorem ok_cnRamp {o s : State} (h : Ok o s) : Ok o (State.cnRamp s) := by
  unfold State.cnRamp
  repeat' (first | with_reducible assumption | (fail_if_no_progress (extract_lets +onlyGivenNames x); first | (refine ok_have x ?_ ?_; on_goal 1 => subst x; on_goal 2 => (clear_value x; intro _)) | skip) | with_reducible refine ok_updCn ?_ | with_reducible refine ok_setReg ?_ | with_reducible refine ok_ite ?_ ?_ | with_reducible refine ok_foldl ?_ ?_ | intro _ | extract_lets | split | (conv => arg 2; dsimp +zetaDelta only))

theorem ok_cnTime {o s : State} (h : Ok o s) : Ok o (State.cnTime s) := by
  unfold State.cnTime
  repeat' (first | with_reducible assumption | (fail_if_no_progress (extract_lets +onlyGivenNames x); first | (refine ok_have x ?_ ?_; on_goal 1 => subst x; on_goal 2 => (clear_value x; intro _)) | skip) | with_reducible refine ok_setF ?_ | with_reducible refine ok_updCn ?_ | with_reducible refine ok_ite ?_ ?_ | with_reducible refine ok_foldl ?_ ?_ | intro _ | extract_lets | split | (conv => arg 2; dsimp +zetaDelta only))

theorem ok_cnStage {o s : State} (h : Ok o s) : Ok o (State.cnStage s) := by
  unfold State.cnStage
  repeat' (first | with_reducible assumption | (fail_if_no_progress (extract_lets +onlyGivenNames x); first | (refine ok_have x ?_ ?_; on_goal 1 => subst x; on_goal 2 => (clear_value x; intro _)) | skip) | with_reducible refine ok_updCn ?_ | with_reducible refine ok_setReg ?_ | with_reducible refine ok_forAll ?_ ?_ | with_reducible refine ok_ite ?_ ?_ | with_reducible refine ok_foldl ?_ ?_ | intro _ | extract_lets | split | (conv => arg 2; dsimp +zetaDelta only))

theorem ok_pllStep {o s : State} (h : Ok o s) : Ok o (State.pllStep s) := by
  unfold State.pllStep
  repeat' (first | with_reducible assumption | (fail_if_no_progress (extract_lets +onlyGivenNames x); first | (refine ok_have x ?_ ?_; on_goal 1 => subst x; on_goal 2 => (clear_value x; intro _)) | skip) | with_reducible refine ok_setReg ?_ | with_reducible refine ok_ite ?_ ?_ | with_reducible refine ok_foldl ?_ ?_ | intro _ | extract_lets | split | (conv => arg 2; dsimp +zetaDelta only))

theorem ok_sdmaHalt {o s : State} (h : Ok o s) {a1 : Nat} {a2 : Nat} {a3 : Nat} {a4 : Nat} {a5 : Bool} {a6 : Nat} : Ok o (State.sdmaHalt s a1 a2 a3 a4 a5 a6) := by
  unfold State.sdmaHalt
  repeat' (first | with_reducible assumption | (fail_if_no_progress (extract_lets +onlyGivenNames x); first | (refine ok_have x ?_ ?_; on_goal 1 => subst x; on_goal 2 => (clear_value x; intro _)) | skip) | with_reducible refine ok_writeLe ?_ | with_reducible refine ok_updSdma ?_ | with_reducible refine ok_setB ?_ | with_reducible refine ok_setF ?_ | with_reducible refine ok_raise ?_ | with_reducible refine ok_sdmaCond ?_ | with_reducible refine ok_setN ?_ | with_reducible refine ok_ite ?_ ?_ | with_reducible refine ok_foldl ?_ ?_ | intro _ | extract_lets | split | (conv => arg 2; dsimp +zetaDelta only))

theorem ok_sdmaTake {o s : State} (h : Ok o s) {a1 : Nat} {a2 : Nat} : Ok o (State.sdmaTake s a1 a2) := by
  unfold State.sdmaTake
  repeat' (first | with_reducible assumption | (fail_if_no_progress (extract_lets +onlyGivenNames x); first | (refine ok_have x ?_ ?_; on_goal 1 => subst x; on_goal 2 => (clear_value x; intro _)) | skip) | with_reducible refine ok_sdmaHalt ?_ | with_reducible refine ok_setN ?_ | with_reducible refine ok_setF ?_ | with_reducible refine ok_updSdma ?_ | with_reducible refine ok_ite ?_ ?_ | with_reducible refine ok_foldl ?_ ?_ | intro _ | extract_lets | split | (conv => arg 2; dsimp +zetaDelta only))

theorem ok_sdmaFetch {o s : State} (h : Ok o s) {a1 : Nat} : Ok o (State.sdmaFetch s a1) := by
  unfold State.sdmaFetch
  repeat' (first | with_reducible assumption | (fail_if_no_progress (extract_lets +onlyGivenNames x); first | (refine ok_have x ?_ ?_; on_goal 1 => subst x; on_goal 2 => (clear_value x; intro _)) | skip) | with_reducible refine ok_sdmaTake ?_ | with_reducible refine ok_ite ?_ ?_ | with_reducible refine ok_foldl ?_ ?_ | intro _ | extract_lets | split | (conv => arg 2; dsimp +zetaDelta only))

theorem ok_moveElems {o : State} {d : Desc} {n i : Nat} {s : State} (h : Ok o s) : Ok o (State.moveElems d n i s).1 := by
  induction n generalizing i s with
  | zero => exact h
  | succ n ih =>
    unfold State.moveElems
    extract_lets
    split
    · exact ih (ok_writeBytes h)
    · exact h
theorem ok_moveElems_eq {o s t : State} (h : Ok o s) {d : Desc} {n i : Nat} {b1 : Option (Nat × Nat)} (e : State.moveElems d n i s = (t, b1)) : Ok o t := by
  have := ok_moveElems (d := d) (n := n) (i := i) h
  rw [e] at this; exact this

theorem ok_sdmaGoOn {o s : State} (h : Ok o s) {a1 : Nat} {a2 : Bool} {a3 : Bool} : Ok o (State.sdmaGoOn s a1 a2 a3) := by
  unfold State.sdmaGoOn
  repeat' (first | with_reducible assumption | (fail_if_no_progress (extract_lets +onlyGivenNames x); first | (refine ok_have x ?_ ?_; on_goal 1 => subst x; on_goal 2 => (clear_value x; intro _)) | skip) | with_reducible refine ok_setF ?_ | with_reducible refine ok_sdmaFetch ?_ | with_reducible refine ok_ite ?_ ?_ | with_reducible refine ok_foldl ?_ ?_ | intro _ | extract_lets | split | (conv => arg 2; dsimp +zetaDelta only))

theorem ok_sdmaStop {o s : State} (h : Ok o s) {a1 : Nat} : Ok o (State.sdmaStop s a1) := by
  unfold State.sdmaStop
  repeat' (first | with_reducible assumption | (fail_if_no_progress (extract_lets +onlyGivenNames x); first | (refine ok_have x ?_ ?_; on_goal 1 => subst x; on_goal 2 => (clear_value x; intro _)) | skip) | with_reducible refine ok_setF ?_ | with_reducible refine ok_ite ?_ ?_ | with_reducible refine ok_foldl ?_ ?_ | intro _ | extract_lets | split | (conv => arg 2; dsimp +zetaDelta only))

theorem ok_movePart {o s : State} (h : Ok o s) {a1 : Desc} {a2 : Nat} : Ok o (State.movePart s a1 a2) := by
  unfold State.movePart
  repeat' (first | with_reducible assumption | (fail_if_no_progress (extract_lets +onlyGivenNames x); first | (refine ok_have x ?_ ?_; on_goal 1 => subst x; on_goal 2 => (clear_value x; intro _)) | skip) | with_reducible refine ok_writeBytes ?_ | with_reducible refine ok_moveElems ?_ | with_reducible refine ok_moveElems_eq ?_ ‹_› | with_reducible refine ok_ite ?_ ?_ | with_reducible refine ok_foldl ?_ ?_ | intro _ | extract_lets | split | (conv => arg 2; dsimp +zetaDelta only))

theorem ok_skipNote {o s : State} (h : Ok o s) {a1 : Nat} {a2 : Desc} : Ok o (State.skipNote s a1 a2) := by
  unfold State.skipNote
  repeat' (first | with_reducible assumption | (fail_if_no_progress (extract_lets +onlyGivenNames x); first | (refine ok_have x ?_ ?_; on_goal 1 => subst x; on_goal 2 => (clear_value x; intro _)) | skip) | ((conv => arg 2; arg 27; skip); with_reducible refine ok_mk ?_ rfl) | with_reducible refine ok_ite ?_ ?_ | with_reducible refine ok_foldl ?_ ?_ | intro _ | extract_lets | split | (conv => arg 2; dsimp +zetaDelta only))

theorem ok_sdmaDrop {o s : State} (h : Ok o s) {a1 : Nat} {a2 : Bool} : Ok o (State.sdmaDrop s a1 a2) := by
  unfold State.sdmaDrop
  repeat' (first | with_reducible assumption | (fail_if_no_progress (extract_lets +onlyGivenNames x); first | (refine ok_have x ?_ ?_; on_goal 1 => subst x; on_goal 2 => (clear_value x; intro _)) | skip) | with_reducible refine ok_sdmaHalt ?_ | with_reducible refine ok_skipNote ?_ | with_reducible refine ok_descEnd ?_ | with_reducible refine ok_sdmaCond ?_ | with_reducible refine ok_setF ?_ | with_reducible refine ok_sdmaGoOn ?_ | with_reducible refine ok_ite ?_ ?_ | with_reducible refine ok_foldl ?_ ?_ | intro _ | extract_lets | split | (conv => arg 2; dsimp +zetaDelta only))

theorem ok_sdmaResume {o s : State} (h : Ok o s) {a1 : Nat} : Ok o (State.sdmaResume s a1) := by
  unfold State.sdmaResume
  repeat' (first | with_reducible assumption | (fail_if_no_progress (extract_lets +onlyGivenNames x); first | (refine ok_have x ?_ ?_; on_goal 1 => subst x; on_goal 2 => (clear_value x; intro _)) | skip) | with_reducible refine ok_sdmaCond ?_ | with_reducible refine ok_sdmaTake ?_ | with_reducible refine ok_ite ?_ ?_ | with_reducible refine ok_foldl ?_ ?_ | intro _ | extract_lets | split | (conv => arg 2; dsimp +zetaDelta only))

theorem ok_sdmaPolicy {o s : State} (h : Ok o s) : Ok o (State.sdmaPolicy s) := by
  unfold State.sdmaPolicy
  repeat' (first | with_reducible assumption | (fail_if_no_progress (extract_lets +onlyGivenNames x); first | (refine ok_have x ?_ ?_; on_goal 1 => subst x; on_goal 2 => (clear_value x; intro _)) | skip) | with_reducible refine ok_updSdma ?_ | with_reducible refine ok_countChg ?_ | with_reducible refine ok_setF ?_ | with_reducible refine ok_sdmaResume ?_ | with_reducible refine ok_sdmaDrop ?_ | with_reducible refine ok_forAll ?_ ?_ | with_reducible refine ok_ite ?_ ?_ | with_reducible refine ok_foldl ?_ ?_ | intro _ | extract_lets | split | (conv => arg 2; dsimp +zetaDelta only))

theorem ok_cycleResult {o s : State} (h : Ok o s) {a1 : Nat} {a2 : Nat} {a3 : BitVec 16} : Ok o (State.cycleResult s a1 a2 a3) := by
  unfold State.cycleResult
  repeat' (first | with_reducible assumption | (fail_if_no_progress (extract_lets +onlyGivenNames x); first | (refine ok_have x ?_ ?_; on_goal 1 => subst x; on_goal 2 => (clear_value x; intro _)) | skip) | with_reducible refine ok_putBit ?_ | with_reducible refine ok_setReg ?_ | with_reducible refine ok_ite ?_ ?_ | with_reducible refine ok_foldl ?_ ?_ | intro _ | extract_lets | split | (conv => arg 2; dsimp +zetaDelta only))

theorem ok_plausCond {o s : State} (h : Ok o s) : Ok o (State.plausCond s) := by
  unfold State.plausCond
  repeat' (first | with_reducible assumption | (fail_if_no_progress (extract_lets +onlyGivenNames x); first | (refine ok_have x ?_ ?_; on_goal 1 => subst x; on_goal 2 => (clear_value x; intro _)) | skip) | with_reducible refine ok_setCond ?_ | with_reducible refine ok_ite ?_ ?_ | with_reducible refine ok_foldl ?_ ?_ | intro _ | extract_lets | split | (conv => arg 2; dsimp +zetaDelta only))

theorem ok_clkDrive {o s : State} (h : Ok o s) : Ok o (State.clkDrive s) := by
  unfold State.clkDrive
  repeat' (first | with_reducible assumption | (fail_if_no_progress (extract_lets +onlyGivenNames x); first | (refine ok_have x ?_ ?_; on_goal 1 => subst x; on_goal 2 => (clear_value x; intro _)) | skip) | with_reducible refine ok_setB ?_ | ((conv => arg 2; arg 27; skip); with_reducible refine ok_mk ?_ rfl) | with_reducible refine ok_ite ?_ ?_ | with_reducible refine ok_foldl ?_ ?_ | intro _ | extract_lets | split | (conv => arg 2; dsimp +zetaDelta only))

theorem ok_setWatch {o s : State} (h : Ok o s) : Ok o (State.setWatch s) := by
  unfold State.setWatch
  repeat' (first | with_reducible assumption | (fail_if_no_progress (extract_lets +onlyGivenNames x); first | (refine ok_have x ?_ ?_; on_goal 1 => subst x; on_goal 2 => (clear_value x; intro _)) | skip) | ((conv => arg 2; arg 27; skip); with_reducible refine ok_mk ?_ rfl) | with_reducible refine ok_ite ?_ ?_ | with_reducible refine ok_foldl ?_ ?_ | intro _ | extract_lets | split | (conv => arg 2; dsimp +zetaDelta only))

theorem ok_decimate {o s : State} (h : Ok o s) {a1 : CycleIn} : Ok o (State.decimate s a1) := by
  unfold State.decimate
  repeat' (first | with_reducible assumption | (fail_if_no_progress (extract_lets +onlyGivenNames x); first | (refine ok_have x ?_ ?_; on_goal 1 => subst x; on_goal 2 => (clear_value x; intro _)) | skip) | with_reducible refine ok_clkDrive ?_ | with_reducible refine ok_cycleResult ?_ | with_reducible refine ok_setWatch ?_ | with_reducible refine ok_setB ?_ | with_reducible refine ok_updShelf ?_ | with_reducible refine ok_plausCond ?_ | with_reducible refine ok_setF ?_ | with_reducible refine ok_ite ?_ ?_ | with_reducible refine ok_foldl ?_ ?_ | intro _ | extract_lets | split | (conv => arg 2; dsimp +zetaDelta only))

theorem ok_latchStatus {o s : State} (h : Ok o s) {a1 : Nat} : Ok o (State.latchStatus s a1) := by
  unfold State.latchStatus
  repeat' (first | with_reducible assumption | (fail_if_no_progress (extract_lets +onlyGivenNames x); first | (refine ok_have x ?_ ?_; on_goal 1 => subst x; on_goal 2 => (clear_value x; intro _)) | skip) | with_reducible refine ok_updShelf ?_ | with_reducible refine ok_raise ?_ | with_reducible refine ok_ite ?_ ?_ | with_reducible refine ok_foldl ?_ ?_ | intro _ | extract_lets | split | (conv => arg 2; dsimp +zetaDelta only))

theorem ok_busRuns {o s : State} (h : Ok o s) : Ok o (State.busRuns s) := by
  unfold State.busRuns
  repeat' (first | with_reducible assumption | (fail_if_no_progress (extract_lets +onlyGivenNames x); first | (refine ok_have x ?_ ?_; on_goal 1 => subst x; on_goal 2 => (clear_value x; intro _)) | skip) | with_reducible refine ok_updShelf ?_ | with_reducible refine ok_endL ?_ | with_reducible refine ok_ite ?_ ?_ | with_reducible refine ok_foldl ?_ ?_ | intro _ | extract_lets | split | (conv => arg 2; dsimp +zetaDelta only))

theorem ok_gateStep {o s : State} (h : Ok o s) {a1 : Nat} : Ok o (State.gateStep s a1) := by
  unfold State.gateStep
  repeat' (first | with_reducible assumption | (fail_if_no_progress (extract_lets +onlyGivenNames x); first | (refine ok_have x ?_ ?_; on_goal 1 => subst x; on_goal 2 => (clear_value x; intro _)) | skip) | with_reducible refine ok_updShelf ?_ | with_reducible refine ok_setReg ?_ | with_reducible refine ok_setB ?_ | with_reducible refine ok_setF ?_ | with_reducible refine ok_ite ?_ ?_ | with_reducible refine ok_foldl ?_ ?_ | intro _ | extract_lets | split | (conv => arg 2; dsimp +zetaDelta only))

theorem ok_crestDir {o s : State} (h : Ok o s) {a1 : Bool} {a2 : Bool} : Ok o (State.crestDir s a1 a2) := by
  unfold State.crestDir
  repeat' (first | with_reducible assumption | (fail_if_no_progress (extract_lets +onlyGivenNames x); first | (refine ok_have x ?_ ?_; on_goal 1 => subst x; on_goal 2 => (clear_value x; intro _)) | skip) | with_reducible refine ok_setReg ?_ | with_reducible refine ok_setF ?_ | with_reducible refine ok_setB ?_ | with_reducible refine ok_ite ?_ ?_ | with_reducible refine ok_foldl ?_ ?_ | intro _ | extract_lets | split | (conv => arg 2; dsimp +zetaDelta only))

theorem ok_crestLimits {o s : State} (h : Ok o s) {a1 : Bool} : Ok o (State.crestLimits s a1) := by
  unfold State.crestLimits
  repeat' (first | with_reducible assumption | (fail_if_no_progress (extract_lets +onlyGivenNames x); first | (refine ok_have x ?_ ?_; on_goal 1 => subst x; on_goal 2 => (clear_value x; intro _)) | skip) | with_reducible refine ok_crestDir ?_ | with_reducible refine ok_setReg ?_ | with_reducible refine ok_ite ?_ ?_ | with_reducible refine ok_foldl ?_ ?_ | intro _ | extract_lets | split | (conv => arg 2; dsimp +zetaDelta only))

theorem ok_exceedRun {o s : State} (h : Ok o s) : Ok o (State.exceedRun s) := by
  unfold State.exceedRun
  repeat' (first | with_reducible assumption | (fail_if_no_progress (extract_lets +onlyGivenNames x); first | (refine ok_have x ?_ ?_; on_goal 1 => subst x; on_goal 2 => (clear_value x; intro _)) | skip) | with_reducible refine ok_updShelf ?_ | with_reducible refine ok_setCond ?_ | with_reducible refine ok_setF ?_ | with_reducible refine ok_ite ?_ ?_ | with_reducible refine ok_foldl ?_ ?_ | intro _ | extract_lets | split | (conv => arg 2; dsimp +zetaDelta only))

theorem ok_references {o s : State} (h : Ok o s) : Ok o (State.references s) := by
  unfold State.references
  repeat' (first | with_reducible assumption | (fail_if_no_progress (extract_lets +onlyGivenNames x); first | (refine ok_have x ?_ ?_; on_goal 1 => subst x; on_goal 2 => (clear_value x; intro _)) | skip) | with_reducible refine ok_updShelf ?_ | with_reducible refine ok_setReg ?_ | with_reducible refine ok_ite ?_ ?_ | with_reducible refine ok_foldl ?_ ?_ | intro _ | extract_lets | split | (conv => arg 2; dsimp +zetaDelta only))

theorem ok_setHold {o s : State} (h : Ok o s) {a1 : Nat} {a2 : Nat} {a3 : Option Word} : Ok o (State.setHold s a1 a2 a3) := by
  unfold State.setHold
  repeat' (first | with_reducible assumption | (fail_if_no_progress (extract_lets +onlyGivenNames x); first | (refine ok_have x ?_ ?_; on_goal 1 => subst x; on_goal 2 => (clear_value x; intro _)) | skip) | with_reducible refine ok_updShelf ?_ | with_reducible refine ok_updVs ?_ | with_reducible refine ok_ite ?_ ?_ | with_reducible refine ok_foldl ?_ ?_ | intro _ | extract_lets | split | (conv => arg 2; dsimp +zetaDelta only))

theorem ok_limitStep {o s : State} (h : Ok o s) : Ok o (State.limitStep s).1 := by
  unfold State.limitStep
  repeat' (first | with_reducible assumption | (fail_if_no_progress (extract_lets +onlyGivenNames x); first | (refine ok_have x ?_ ?_; on_goal 1 => subst x; on_goal 2 => (clear_value x; intro _)) | skip) | with_reducible refine ok_limitEnd ?_ | with_reducible refine ok_updShelf ?_ | with_reducible refine ok_ite ?_ ?_ | with_reducible refine ok_foldl ?_ ?_ | intro _ | extract_lets | split | dsimp only | (conv => arg 2; dsimp +zetaDelta only))
theorem ok_limitStep_eq {o s t : State} (h : Ok o s) {b1 : Word} (e : State.limitStep s = (t, b1)) : Ok o t := by
  have := ok_limitStep h
  rw [e] at this; exact this

theorem ok_showHold {o s : State} (h : Ok o s) {a1 : Nat} {a2 : Bool} : Ok o (State.showHold s a1 a2) := by
  unfold State.showHold
  repeat' (first | with_reducible assumption | (fail_if_no_progress (extract_lets +onlyGivenNames x); first | (refine ok_have x ?_ ?_; on_goal 1 => subst x; on_goal 2 => (clear_value x; intro _)) | skip) | with_reducible refine ok_setF ?_ | with_reducible refine ok_setB ?_ | with_reducible refine ok_ite ?_ ?_ | with_reducible refine ok_foldl ?_ ?_ | intro _ | extract_lets | split | (conv => arg 2; dsimp +zetaDelta only))

theorem ok_activeHold {o s : State} (h : Ok o s) : Ok o (State.activeHold s) := by
  unfold State.activeHold
  repeat' (first | with_reducible assumption | (fail_if_no_progress (extract_lets +onlyGivenNames x); first | (refine ok_have x ?_ ?_; on_goal 1 => subst x; on_goal 2 => (clear_value x; intro _)) | skip) | with_reducible refine ok_limitEnd ?_ | with_reducible refine ok_updShelf ?_ | with_reducible refine ok_showHold ?_ | with_reducible refine ok_setHold ?_ | with_reducible refine ok_limitStep ?_ | with_reducible refine ok_limitStep_eq ?_ ‹_› | with_reducible refine ok_ite ?_ ?_ | with_reducible refine ok_foldl ?_ ?_ | intro _ | extract_lets | split | (conv => arg 2; dsimp +zetaDelta only))

theorem ok_summitHold {o s : State} (h : Ok o s) {a1 : Nat} : Ok o (State.summitHold s a1) := by
  unfold State.summitHold
  repeat' (first | with_reducible assumption | (fail_if_no_progress (extract_lets +onlyGivenNames x); first | (refine ok_have x ?_ ?_; on_goal 1 => subst x; on_goal 2 => (clear_value x; intro _)) | skip) | with_reducible refine ok_setHold ?_ | with_reducible refine ok_ite ?_ ?_ | with_reducible refine ok_foldl ?_ ?_ | intro _ | extract_lets | split | (conv => arg 2; dsimp +zetaDelta only))

theorem ok_trimHold {o s : State} (h : Ok o s) {a1 : Nat} : Ok o (State.trimHold s a1) := by
  unfold State.trimHold
  repeat' (first | with_reducible assumption | (fail_if_no_progress (extract_lets +onlyGivenNames x); first | (refine ok_have x ?_ ?_; on_goal 1 => subst x; on_goal 2 => (clear_value x; intro _)) | skip) | with_reducible refine ok_setHold ?_ | with_reducible refine ok_setB ?_ | with_reducible refine ok_ite ?_ ?_ | with_reducible refine ok_foldl ?_ ?_ | intro _ | extract_lets | split | (conv => arg 2; dsimp +zetaDelta only))

theorem ok_allocate {o s : State} (h : Ok o s) : Ok o (State.allocate s).1 := by
  unfold State.allocate
  repeat' (first | with_reducible assumption | (fail_if_no_progress (extract_lets +onlyGivenNames x); first | (refine ok_have x ?_ ?_; on_goal 1 => subst x; on_goal 2 => (clear_value x; intro _)) | skip) | with_reducible refine ok_setReg ?_ | with_reducible refine ok_setB ?_ | with_reducible refine ok_setF ?_ | with_reducible refine ok_forAll ?_ ?_ | with_reducible refine ok_ite ?_ ?_ | with_reducible refine ok_foldl ?_ ?_ | intro _ | extract_lets | split | dsimp only | (conv => arg 2; dsimp +zetaDelta only))
theorem ok_allocate_eq {o s t : State} (h : Ok o s) {b1 : List Word} (e : State.allocate s = (t, b1)) : Ok o t := by
  have := ok_allocate h
  rw [e] at this; exact this

theorem ok_crestClamp {o s : State} (h : Ok o s) {a1 : List Word} : Ok o (State.crestClamp s a1) := by
  unfold State.crestClamp
  repeat' (first | with_reducible assumption | (fail_if_no_progress (extract_lets +onlyGivenNames x); first | (refine ok_have x ?_ ?_; on_goal 1 => subst x; on_goal 2 => (clear_value x; intro _)) | skip) | with_reducible refine ok_setB ?_ | with_reducible refine ok_setReg ?_ | with_reducible refine ok_updShelf ?_ | with_reducible refine ok_forAll ?_ ?_ | with_reducible refine ok_ite ?_ ?_ | with_reducible refine ok_foldl ?_ ?_ | intro _ | extract_lets | split | (conv => arg 2; dsimp +zetaDelta only))

theorem ok_excEnd {o s : State} (h : Ok o s) {a1 : Nat} : Ok o (State.excEnd s a1) := by
  unfold State.excEnd
  repeat' (first | with_reducible assumption | (fail_if_no_progress (extract_lets +onlyGivenNames x); first | (refine ok_have x ?_ ?_; on_goal 1 => subst x; on_goal 2 => (clear_value x; intro _)) | skip) | with_reducible refine ok_updShelf ?_ | with_reducible refine ok_ite ?_ ?_ | with_reducible refine ok_foldl ?_ ?_ | intro _ | extract_lets | split | (conv => arg 2; dsimp +zetaDelta only))

theorem ok_setpoint {o s : State} (h : Ok o s) {a1 : Nat} : Ok o (State.setpoint s a1) := by
  unfold State.setpoint
  repeat' (first | with_reducible assumption | (fail_if_no_progress (extract_lets +onlyGivenNames x); first | (refine ok_have x ?_ ?_; on_goal 1 => subst x; on_goal 2 => (clear_value x; intro _)) | skip) | with_reducible refine ok_updShelf ?_ | with_reducible refine ok_setB ?_ | with_reducible refine ok_writeBytes ?_ | with_reducible refine ok_ite ?_ ?_ | with_reducible refine ok_foldl ?_ ?_ | intro _ | extract_lets | split | (conv => arg 2; dsimp +zetaDelta only))

theorem ok_stageSet {o s : State} (h : Ok o s) : Ok o (State.stageSet s) := by
  unfold State.stageSet
  repeat' (first | with_reducible assumption | (fail_if_no_progress (extract_lets +onlyGivenNames x); first | (refine ok_have x ?_ ?_; on_goal 1 => subst x; on_goal 2 => (clear_value x; intro _)) | skip) | with_reducible refine ok_setpoint ?_ | with_reducible refine ok_cnStage ?_ | with_reducible refine ok_forAll ?_ ?_ | with_reducible refine ok_ite ?_ ?_ | with_reducible refine ok_foldl ?_ ?_ | intro _ | extract_lets | split | (conv => arg 2; dsimp +zetaDelta only))

theorem ok_showOn {o s : State} (h : Ok o s) {a1 : Nat} {a2 : Nat} {a3 : Word} : Ok o (State.showOn s a1 a2 a3) := by
  unfold State.showOn
  repeat' (first | with_reducible assumption | (fail_if_no_progress (extract_lets +onlyGivenNames x); first | (refine ok_have x ?_ ?_; on_goal 1 => subst x; on_goal 2 => (clear_value x; intro _)) | skip) | with_reducible refine ok_setReg ?_ | with_reducible refine ok_ite ?_ ?_ | with_reducible refine ok_foldl ?_ ?_ | intro _ | extract_lets | split | (conv => arg 2; dsimp +zetaDelta only))

theorem ok_showShelf {o s : State} (h : Ok o s) : Ok o (State.showShelf s) := by
  unfold State.showShelf
  repeat' (first | with_reducible assumption | (fail_if_no_progress (extract_lets +onlyGivenNames x); first | (refine ok_have x ?_ ?_; on_goal 1 => subst x; on_goal 2 => (clear_value x; intro _)) | skip) | with_reducible refine ok_showOn ?_ | with_reducible refine ok_ite ?_ ?_ | with_reducible refine ok_foldl ?_ ?_ | intro _ | extract_lets | split | (conv => arg 2; dsimp +zetaDelta only))

theorem ok_peerAges {o s : State} (h : Ok o s) : Ok o (State.peerAges s) := by
  unfold State.peerAges
  repeat' (first | with_reducible assumption | (fail_if_no_progress (extract_lets +onlyGivenNames x); first | (refine ok_have x ?_ ?_; on_goal 1 => subst x; on_goal 2 => (clear_value x; intro _)) | skip) | with_reducible refine ok_incSat ?_ | with_reducible refine ok_forAll ?_ ?_ | with_reducible refine ok_ite ?_ ?_ | with_reducible refine ok_foldl ?_ ?_ | intro _ | extract_lets | split | (conv => arg 2; dsimp +zetaDelta only))

theorem ok_cycleTime {o s : State} (h : Ok o s) : Ok o (State.cycleTime s) := by
  unfold State.cycleTime
  repeat' (first | with_reducible assumption | (fail_if_no_progress (extract_lets +onlyGivenNames x); first | (refine ok_have x ?_ ?_; on_goal 1 => subst x; on_goal 2 => (clear_value x; intro _)) | skip) | with_reducible refine ok_tbGlide ?_ | with_reducible refine ok_pllStep ?_ | with_reducible refine ok_peerAges ?_ | with_reducible refine ok_updShelf ?_ | ((conv => arg 2; arg 27; skip); with_reducible refine ok_mk ?_ rfl) | with_reducible refine ok_ite ?_ ?_ | with_reducible refine ok_foldl ?_ ?_ | intro _ | extract_lets | split | (conv => arg 2; dsimp +zetaDelta only))

theorem ok_huHolding {o s : State} (h : Ok o s) {a1 : Nat} : Ok o (State.huHolding s a1) := by
  unfold State.huHolding
  repeat' (first | with_reducible assumption | (fail_if_no_progress (extract_lets +onlyGivenNames x); first | (refine ok_have x ?_ ?_; on_goal 1 => subst x; on_goal 2 => (clear_value x; intro _)) | skip) | with_reducible refine ok_updShelf ?_ | with_reducible refine ok_setN ?_ | with_reducible refine ok_ite ?_ ?_ | with_reducible refine ok_foldl ?_ ?_ | intro _ | extract_lets | split | (conv => arg 2; dsimp +zetaDelta only))

theorem ok_huHandBack {o s : State} (h : Ok o s) {a1 : Bool} {a2 : Nat} : Ok o (State.huHandBack s a1 a2) := by
  unfold State.huHandBack
  repeat' (first | with_reducible assumption | (fail_if_no_progress (extract_lets +onlyGivenNames x); first | (refine ok_have x ?_ ?_; on_goal 1 => subst x; on_goal 2 => (clear_value x; intro _)) | skip) | with_reducible refine ok_setF ?_ | with_reducible refine ok_updShelf ?_ | with_reducible refine ok_ite ?_ ?_ | with_reducible refine ok_foldl ?_ ?_ | intro _ | extract_lets | split | (conv => arg 2; dsimp +zetaDelta only))

theorem ok_huRefuse {o s : State} (h : Ok o s) {a1 : Nat} {a2 : Nat} : Ok o (State.huRefuse s a1 a2) := by
  unfold State.huRefuse
  repeat' (first | with_reducible assumption | (fail_if_no_progress (extract_lets +onlyGivenNames x); first | (refine ok_have x ?_ ?_; on_goal 1 => subst x; on_goal 2 => (clear_value x; intro _)) | skip) | with_reducible refine ok_raise ?_ | with_reducible refine ok_updShelf ?_ | with_reducible refine ok_ite ?_ ?_ | with_reducible refine ok_foldl ?_ ?_ | intro _ | extract_lets | split | (conv => arg 2; dsimp +zetaDelta only))

theorem ok_huEnter {o s : State} (h : Ok o s) {a1 : Nat} : Ok o (State.huEnter s a1) := by
  unfold State.huEnter
  repeat' (first | with_reducible assumption | (fail_if_no_progress (extract_lets +onlyGivenNames x); first | (refine ok_have x ?_ ?_; on_goal 1 => subst x; on_goal 2 => (clear_value x; intro _)) | skip) | with_reducible refine ok_huRefuse ?_ | with_reducible refine ok_updShelf ?_ | with_reducible refine ok_handover ?_ | with_reducible refine ok_setF ?_ | with_reducible refine ok_incSat ?_ | with_reducible refine ok_setN ?_ | with_reducible refine ok_raise ?_ | with_reducible refine ok_setMode ?_ | with_reducible refine ok_ite ?_ ?_ | with_reducible refine ok_foldl ?_ ?_ | intro _ | extract_lets | split | (conv => arg 2; dsimp +zetaDelta only))

theorem ok_huRelease {o s : State} (h : Ok o s) : Ok o (State.huRelease s) := by
  unfold State.huRelease
  repeat' (first | with_reducible assumption | (fail_if_no_progress (extract_lets +onlyGivenNames x); first | (refine ok_have x ?_ ?_; on_goal 1 => subst x; on_goal 2 => (clear_value x; intro _)) | skip) | with_reducible refine ok_setF ?_ | with_reducible refine ok_ite ?_ ?_ | with_reducible refine ok_foldl ?_ ?_ | intro _ | extract_lets | split | (conv => arg 2; dsimp +zetaDelta only))

theorem ok_huReleased {o s : State} (h : Ok o s) : Ok o (State.huReleased s) := by
  unfold State.huReleased
  repeat' (first | with_reducible assumption | (fail_if_no_progress (extract_lets +onlyGivenNames x); first | (refine ok_have x ?_ ?_; on_goal 1 => subst x; on_goal 2 => (clear_value x; intro _)) | skip) | with_reducible refine ok_updShelf ?_ | with_reducible refine ok_ite ?_ ?_ | with_reducible refine ok_foldl ?_ ?_ | intro _ | extract_lets | split | (conv => arg 2; dsimp +zetaDelta only))

theorem ok_huStep {o s : State} (h : Ok o s) : Ok o (State.huStep s) := by
  unfold State.huStep
  repeat' (first | with_reducible assumption | (fail_if_no_progress (extract_lets +onlyGivenNames x); first | (refine ok_have x ?_ ?_; on_goal 1 => subst x; on_goal 2 => (clear_value x; intro _)) | skip) | with_reducible refine ok_updShelf ?_ | with_reducible refine ok_setF ?_ | with_reducible refine ok_huHolding ?_ | with_reducible refine ok_huHandBack ?_ | with_reducible refine ok_huEnter ?_ | with_reducible refine ok_huReleased ?_ | with_reducible refine ok_huRelease ?_ | with_reducible refine ok_ite ?_ ?_ | with_reducible refine ok_foldl ?_ ?_ | intro _ | extract_lets | split | (conv => arg 2; dsimp +zetaDelta only))

theorem ok_hotDeliver {o s : State} (h : Ok o s) : Ok o (State.hotDeliver s) := by
  unfold State.hotDeliver
  repeat' (first | with_reducible assumption | (fail_if_no_progress (extract_lets +onlyGivenNames x); first | (refine ok_have x ?_ ?_; on_goal 1 => subst x; on_goal 2 => (clear_value x; intro _)) | skip) | with_reducible refine ok_updShelf ?_ | with_reducible refine ok_ite ?_ ?_ | with_reducible refine ok_foldl ?_ ?_ | intro _ | extract_lets | split | (conv => arg 2; dsimp +zetaDelta only))

theorem ok_publish {o s : State} (h : Ok o s) : Ok o (State.publish s) := by
  unfold State.publish
  repeat' (first | with_reducible assumption | (fail_if_no_progress (extract_lets +onlyGivenNames x); first | (refine ok_have x ?_ ?_; on_goal 1 => subst x; on_goal 2 => (clear_value x; intro _)) | skip) | with_reducible refine ok_hotDeliver ?_ | with_reducible refine ok_updShelf ?_ | with_reducible refine ok_setReg ?_ | with_reducible refine ok_countChg ?_ | with_reducible refine ok_ite ?_ ?_ | with_reducible refine ok_foldl ?_ ?_ | intro _ | extract_lets | split | (conv => arg 2; dsimp +zetaDelta only))

theorem ok_regLost {o s : State} (h : Ok o s) : Ok o (State.regLost s) := by
  unfold State.regLost
  repeat' (first | with_reducible assumption | (fail_if_no_progress (extract_lets +onlyGivenNames x); first | (refine ok_have x ?_ ?_; on_goal 1 => subst x; on_goal 2 => (clear_value x; intro _)) | skip) | with_reducible refine ok_setB ?_ | with_reducible refine ok_setF ?_ | with_reducible refine ok_ite ?_ ?_ | with_reducible refine ok_foldl ?_ ?_ | intro _ | extract_lets | split | (conv => arg 2; dsimp +zetaDelta only))

theorem ok_shelfCycle {o s : State} (h : Ok o s) {a1 : CycleIn} : Ok o (State.shelfCycle s a1) := by
  unfold State.shelfCycle
  repeat' (first | with_reducible assumption | (fail_if_no_progress (extract_lets +onlyGivenNames x); first | (refine ok_have x ?_ ?_; on_goal 1 => subst x; on_goal 2 => (clear_value x; intro _)) | skip) | with_reducible refine ok_decimate ?_ | with_reducible refine ok_updShelf ?_ | with_reducible refine ok_publish ?_ | with_reducible refine ok_latchStatus ?_ | with_reducible refine ok_busRuns ?_ | with_reducible refine ok_setB ?_ | with_reducible refine ok_huStep ?_ | with_reducible refine ok_regLost ?_ | with_reducible refine ok_gateStep ?_ | with_reducible refine ok_exceedRun ?_ | with_reducible refine ok_crestLimits ?_ | with_reducible refine ok_references ?_ | with_reducible refine ok_cnTime ?_ | with_reducible refine ok_cnObserve ?_ | with_reducible refine ok_trimHold ?_ | with_reducible refine ok_summitHold ?_ | with_reducible refine ok_activeHold ?_ | with_reducible refine ok_cnRamp ?_ | with_reducible refine ok_cnTest ?_ | with_reducible refine ok_releaseSlot ?_ | with_reducible refine ok_boundarySlot ?_ | with_reducible refine ok_cnFolded ?_ | with_reducible refine ok_allocate ?_ | with_reducible refine ok_allocate_eq ?_ ‹_› | with_reducible refine ok_excEnd ?_ | with_reducible refine ok_stageSet ?_ | with_reducible refine ok_crestClamp ?_ | with_reducible refine ok_showShelf ?_ | with_reducible refine ok_forAll ?_ ?_ | with_reducible refine ok_ite ?_ ?_ | with_reducible refine ok_foldl ?_ ?_ | intro _ | extract_lets | split | (conv => arg 2; dsimp +zetaDelta only))

theorem ok_execShelfCycleBoundary {o s : State} (h : Ok o s) {a0 : CycleIn} : OkO o (execShelfCycleBoundary a0 s) := by
  unfold execShelfCycleBoundary
  repeat' (first | with_reducible assumption | (fail_if_no_progress (extract_lets +onlyGivenNames x); first | (refine okO_have x ?_ ?_; on_goal 1 => subst x; on_goal 2 => (clear_value x; intro _)) | skip) | with_reducible refine ok_shelfCycle ?_ | with_reducible refine ok_sdmaPolicy ?_ | with_reducible refine ok_cycleTime ?_ | with_reducible refine ok_ite ?_ ?_ | with_reducible refine okO_ite ?_ ?_ | with_reducible refine okO_next ?_ | with_reducible refine ok_foldl ?_ ?_ | intro _ | extract_lets | split | (conv => arg 2; dsimp +zetaDelta only))

theorem ok_regModeSet {o s : State} (h : Ok o s) : Ok o (State.regModeSet s) := by
  unfold State.regModeSet
  repeat' (first | with_reducible assumption | (fail_if_no_progress (extract_lets +onlyGivenNames x); first | (refine ok_have x ?_ ?_; on_goal 1 => subst x; on_goal 2 => (clear_value x; intro _)) | skip) | with_reducible refine ok_updShelf ?_ | with_reducible refine ok_setF ?_ | with_reducible refine ok_ite ?_ ?_ | with_reducible refine ok_foldl ?_ ?_ | intro _ | extract_lets | split | (conv => arg 2; dsimp +zetaDelta only))

theorem ok_plantSeen {o s : State} (h : Ok o s) : Ok o (State.plantSeen s) := by
  unfold State.plantSeen
  repeat' (first | with_reducible assumption | (fail_if_no_progress (extract_lets +onlyGivenNames x); first | (refine ok_have x ?_ ?_; on_goal 1 => subst x; on_goal 2 => (clear_value x; intro _)) | skip) | with_reducible refine ok_updShelf ?_ | with_reducible refine ok_endL ?_ | with_reducible refine ok_setF ?_ | with_reducible refine ok_ite ?_ ?_ | with_reducible refine ok_foldl ?_ ?_ | intro _ | extract_lets | split | (conv => arg 2; dsimp +zetaDelta only))

theorem ok_execRegulationStart {o s : State} (h : Ok o s) : OkO o (execRegulationStart s) := by
  unfold execRegulationStart
  repeat' (first | with_reducible assumption | (fail_if_no_progress (extract_lets +onlyGivenNames x); first | (refine okO_have x ?_ ?_; on_goal 1 => subst x; on_goal 2 => (clear_value x; intro _)) | skip) | with_reducible refine ok_setF ?_ | with_reducible refine ok_makeActive ?_ | with_reducible refine ok_updShelf ?_ | with_reducible refine ok_updVs ?_ | with_reducible refine ok_setReg ?_ | with_reducible refine ok_ite ?_ ?_ | with_reducible refine okO_ite ?_ ?_ | with_reducible refine okO_next ?_ | with_reducible refine ok_foldl ?_ ?_ | intro _ | extract_lets | split | (conv => arg 2; dsimp +zetaDelta only))

theorem ok_execStartRampEnd {o s : State} (h : Ok o s) : OkO o (execStartRampEnd s) := by
  unfold execStartRampEnd
  refine okO_heldRun h ?_; intro s h
  repeat' (first | with_reducible assumption | (fail_if_no_progress (extract_lets +onlyGivenNames x); first | (refine okO_have x ?_ ?_; on_goal 1 => subst x; on_goal 2 => (clear_value x; intro _)) | skip) | with_reducible refine ok_setF ?_ | with_reducible refine ok_ite ?_ ?_ | with_reducible refine okO_ite ?_ ?_ | with_reducible refine okO_next ?_ | with_reducible refine ok_foldl ?_ ?_ | intro _ | extract_lets | split | (conv => arg 2; dsimp +zetaDelta only))

theorem ok_execShortfallCount {o s : State} (h : Ok o s) : OkO o (execShortfallCount s) := by
  unfold execShortfallCount
  refine okO_heldRun h ?_; intro s h
  repeat' (first | with_reducible assumption | (fail_if_no_progress (extract_lets +onlyGivenNames x); first | (refine okO_have x ?_ ?_; on_goal 1 => subst x; on_goal 2 => (clear_value x; intro _)) | skip) | with_reducible refine ok_raiseL ?_ | with_reducible refine ok_setF ?_ | with_reducible refine ok_ite ?_ ?_ | with_reducible refine okO_ite ?_ ?_ | with_reducible refine okO_next ?_ | with_reducible refine ok_foldl ?_ ?_ | intro _ | extract_lets | split | (conv => arg 2; dsimp +zetaDelta only))

theorem ok_execCapExceedTimer {o s : State} (h : Ok o s) : OkO o (execCapExceedTimer s) := by
  unfold execCapExceedTimer
  refine okO_heldRun h ?_; intro s h
  repeat' (first | with_reducible assumption | (fail_if_no_progress (extract_lets +onlyGivenNames x); first | (refine okO_have x ?_ ?_; on_goal 1 => subst x; on_goal 2 => (clear_value x; intro _)) | skip) | with_reducible refine ok_raise ?_ | with_reducible refine ok_setCond ?_ | with_reducible refine ok_setF ?_ | with_reducible refine ok_ite ?_ ?_ | with_reducible refine okO_ite ?_ ?_ | with_reducible refine okO_next ?_ | with_reducible refine ok_foldl ?_ ?_ | intro _ | extract_lets | split | (conv => arg 2; dsimp +zetaDelta only))

theorem ok_execStatusTimeout {o s : State} (h : Ok o s) {a0 : Nat} : OkO o (execStatusTimeout a0 s) := by
  unfold execStatusTimeout
  refine okO_heldRun h ?_; intro s h
  repeat' (first | with_reducible assumption | (fail_if_no_progress (extract_lets +onlyGivenNames x); first | (refine okO_have x ?_ ?_; on_goal 1 => subst x; on_goal 2 => (clear_value x; intro _)) | skip) | with_reducible refine ok_gateZero ?_ | with_reducible refine ok_raise ?_ | with_reducible refine ok_updShelf ?_ | with_reducible refine ok_ite ?_ ?_ | with_reducible refine okO_ite ?_ ?_ | with_reducible refine okO_next ?_ | with_reducible refine ok_foldl ?_ ?_ | intro _ | extract_lets | split | (conv => arg 2; dsimp +zetaDelta only))

theorem ok_execApplyMismatchCount {o s : State} (h : Ok o s) {a0 : Nat} : OkO o (execApplyMismatchCount a0 s) := by
  unfold execApplyMismatchCount
  repeat' (first | with_reducible assumption | (fail_if_no_progress (extract_lets +onlyGivenNames x); first | (refine okO_have x ?_ ?_; on_goal 1 => subst x; on_goal 2 => (clear_value x; intro _)) | skip) | with_reducible refine ok_raise ?_ | with_reducible refine ok_updShelf ?_ | with_reducible refine ok_ite ?_ ?_ | with_reducible refine okO_ite ?_ ?_ | with_reducible refine okO_next ?_ | with_reducible refine ok_foldl ?_ ?_ | intro _ | extract_lets | split | (conv => arg 2; dsimp +zetaDelta only))

theorem ok_execBusOvCount {o s : State} (h : Ok o s) : OkO o (execBusOvCount s) := by
  unfold execBusOvCount
  refine okO_heldRun h ?_; intro s h
  repeat' (first | with_reducible assumption | (fail_if_no_progress (extract_lets +onlyGivenNames x); first | (refine okO_have x ?_ ?_; on_goal 1 => subst x; on_goal 2 => (clear_value x; intro _)) | skip) | with_reducible refine ok_raiseL ?_ | with_reducible refine ok_ite ?_ ?_ | with_reducible refine okO_ite ?_ ?_ | with_reducible refine okO_next ?_ | with_reducible refine ok_foldl ?_ ?_ | intro _ | extract_lets | split | (conv => arg 2; dsimp +zetaDelta only))

theorem ok_execBusUvCount {o s : State} (h : Ok o s) : OkO o (execBusUvCount s) := by
  unfold execBusUvCount
  refine okO_heldRun h ?_; intro s h
  repeat' (first | with_reducible assumption | (fail_if_no_progress (extract_lets +onlyGivenNames x); first | (refine okO_have x ?_ ?_; on_goal 1 => subst x; on_goal 2 => (clear_value x; intro _)) | skip) | with_reducible refine ok_raiseL ?_ | with_reducible refine ok_ite ?_ ?_ | with_reducible refine okO_ite ?_ ?_ | with_reducible refine okO_next ?_ | with_reducible refine ok_foldl ?_ ?_ | intro _ | extract_lets | split | (conv => arg 2; dsimp +zetaDelta only))

theorem ok_execHoldupVoltageEntry {o s : State} (h : Ok o s) : OkO o (execHoldupVoltageEntry s) := by
  unfold execHoldupVoltageEntry
  repeat' (first | with_reducible assumption | (fail_if_no_progress (extract_lets +onlyGivenNames x); first | (refine okO_have x ?_ ?_; on_goal 1 => subst x; on_goal 2 => (clear_value x; intro _)) | skip) | with_reducible refine ok_updShelf ?_ | with_reducible refine ok_ite ?_ ?_ | with_reducible refine okO_ite ?_ ?_ | with_reducible refine okO_next ?_ | with_reducible refine ok_foldl ?_ ?_ | intro _ | extract_lets | split | (conv => arg 2; dsimp +zetaDelta only))

theorem ok_execHoldNEntry {o s : State} (h : Ok o s) : OkO o (execHoldNEntry s) := by
  unfold execHoldNEntry
  repeat' (first | with_reducible assumption | (fail_if_no_progress (extract_lets +onlyGivenNames x); first | (refine okO_have x ?_ ?_; on_goal 1 => subst x; on_goal 2 => (clear_value x; intro _)) | skip) | with_reducible refine ok_updShelf ?_ | with_reducible refine ok_ite ?_ ?_ | with_reducible refine okO_ite ?_ ?_ | with_reducible refine okO_next ?_ | with_reducible refine ok_foldl ?_ ?_ | intro _ | extract_lets | split | (conv => arg 2; dsimp +zetaDelta only))

theorem ok_execHoldupAutoRelease {o s : State} (h : Ok o s) : OkO o (execHoldupAutoRelease s) := by
  unfold execHoldupAutoRelease
  refine okO_heldRun h ?_; intro s h
  repeat' (first | with_reducible assumption | (fail_if_no_progress (extract_lets +onlyGivenNames x); first | (refine okO_have x ?_ ?_; on_goal 1 => subst x; on_goal 2 => (clear_value x; intro _)) | skip) | with_reducible refine ok_huRelease ?_ | with_reducible refine ok_ite ?_ ?_ | with_reducible refine okO_ite ?_ ?_ | with_reducible refine okO_next ?_ | with_reducible refine ok_foldl ?_ ?_ | intro _ | extract_lets | split | (conv => arg 2; dsimp +zetaDelta only))

theorem ok_execHoldupHandBackStart {o s : State} (h : Ok o s) : OkO o (execHoldupHandBackStart s) := by
  unfold execHoldupHandBackStart
  refine okO_heldRun h ?_; intro s h
  repeat' (first | with_reducible assumption | (fail_if_no_progress (extract_lets +onlyGivenNames x); first | (refine okO_have x ?_ ?_; on_goal 1 => subst x; on_goal 2 => (clear_value x; intro _)) | skip) | with_reducible refine ok_setF ?_ | with_reducible refine ok_updShelf ?_ | with_reducible refine ok_ite ?_ ?_ | with_reducible refine okO_ite ?_ ?_ | with_reducible refine okO_next ?_ | with_reducible refine ok_foldl ?_ ?_ | intro _ | extract_lets | split | (conv => arg 2; dsimp +zetaDelta only))

theorem ok_execHbRampEnd {o s : State} (h : Ok o s) : OkO o (execHbRampEnd s) := by
  unfold execHbRampEnd
  refine okO_heldRun h ?_; intro s h
  repeat' (first | with_reducible assumption | (fail_if_no_progress (extract_lets +onlyGivenNames x); first | (refine okO_have x ?_ ?_; on_goal 1 => subst x; on_goal 2 => (clear_value x; intro _)) | skip) | with_reducible refine ok_setF ?_ | with_reducible refine ok_handover ?_ | with_reducible refine ok_updShelf ?_ | with_reducible refine ok_setMode ?_ | with_reducible refine ok_raise ?_ | with_reducible refine ok_ite ?_ ?_ | with_reducible refine okO_ite ?_ ?_ | with_reducible refine okO_next ?_ | with_reducible refine ok_foldl ?_ ?_ | intro _ | extract_lets | split | (conv => arg 2; dsimp +zetaDelta only))

theorem ok_execHoldupTmaxExpiry {o s : State} (h : Ok o s) : OkO o (execHoldupTmaxExpiry s) := by
  unfold execHoldupTmaxExpiry
  refine okO_heldRun h ?_; intro s h
  repeat' (first | with_reducible assumption | (fail_if_no_progress (extract_lets +onlyGivenNames x); first | (refine okO_have x ?_ ?_; on_goal 1 => subst x; on_goal 2 => (clear_value x; intro _)) | skip) | with_reducible refine ok_raise ?_ | with_reducible refine ok_updShelf ?_ | with_reducible refine ok_ite ?_ ?_ | with_reducible refine okO_ite ?_ ?_ | with_reducible refine okO_next ?_ | with_reducible refine ok_foldl ?_ ?_ | intro _ | extract_lets | split | (conv => arg 2; dsimp +zetaDelta only))

theorem ok_execPlantTimeout {o s : State} (h : Ok o s) : OkO o (execPlantTimeout s) := by
  unfold execPlantTimeout
  refine okO_heldRun h ?_; intro s h
  repeat' (first | with_reducible assumption | (fail_if_no_progress (extract_lets +onlyGivenNames x); first | (refine okO_have x ?_ ?_; on_goal 1 => subst x; on_goal 2 => (clear_value x; intro _)) | skip) | with_reducible refine ok_updShelf ?_ | with_reducible refine ok_raiseL ?_ | with_reducible refine ok_setF ?_ | with_reducible refine ok_ite ?_ ?_ | with_reducible refine okO_ite ?_ ?_ | with_reducible refine okO_next ?_ | with_reducible refine ok_foldl ?_ ?_ | intro _ | extract_lets | split | (conv => arg 2; dsimp +zetaDelta only))

theorem ok_execRegulationSlotFenced {o s : State} (h : Ok o s) {a0 : Nat} : OkO o (execRegulationSlotFenced a0 s) := by
  unfold execRegulationSlotFenced
  repeat' (first | with_reducible assumption | (fail_if_no_progress (extract_lets +onlyGivenNames x); first | (refine okO_have x ?_ ?_; on_goal 1 => subst x; on_goal 2 => (clear_value x; intro _)) | skip) | with_reducible refine ok_updVs ?_ | with_reducible refine ok_setF ?_ | with_reducible refine ok_updShelf ?_ | with_reducible refine ok_makeActive ?_ | with_reducible refine ok_ite ?_ ?_ | with_reducible refine okO_ite ?_ ?_ | with_reducible refine okO_next ?_ | with_reducible refine ok_foldl ?_ ?_ | intro _ | extract_lets | split | (conv => arg 2; dsimp +zetaDelta only))

theorem ok_cnTrigger {o s : State} (h : Ok o s) {a1 : Nat} {a2 : Nat} {a3 : Half} {a4 : Word} {a5 : Word} {a6 : Nat} : Ok o (State.cnTrigger s a1 a2 a3 a4 a5 a6) := by
  unfold State.cnTrigger
  repeat' (first | with_reducible assumption | (fail_if_no_progress (extract_lets +onlyGivenNames x); first | (refine ok_have x ?_ ?_; on_goal 1 => subst x; on_goal 2 => (clear_value x; intro _)) | skip) | with_reducible refine ok_incSat ?_ | with_reducible refine ok_setF ?_ | with_reducible refine ok_updCn ?_ | with_reducible refine ok_ite ?_ ?_ | with_reducible refine ok_foldl ?_ ?_ | intro _ | extract_lets | split | (conv => arg 2; dsimp +zetaDelta only))

theorem ok_cnCancel {o s : State} (h : Ok o s) : Ok o (State.cnCancel s) := by
  unfold State.cnCancel
  repeat' (first | with_reducible assumption | (fail_if_no_progress (extract_lets +onlyGivenNames x); first | (refine ok_have x ?_ ?_; on_goal 1 => subst x; on_goal 2 => (clear_value x; intro _)) | skip) | with_reducible refine ok_cnCollapse ?_ | with_reducible refine ok_ite ?_ ?_ | with_reducible refine ok_foldl ?_ ?_ | intro _ | extract_lets | split | (conv => arg 2; dsimp +zetaDelta only))

theorem ok_cnIntent {o s : State} (h : Ok o s) {a1 : Word} {a2 : Word} {a3 : Half} {a4 : Nat} {a5 : Nat} : Ok o (State.cnIntent s a1 a2 a3 a4 a5) := by
  unfold State.cnIntent
  repeat' (first | with_reducible assumption | (fail_if_no_progress (extract_lets +onlyGivenNames x); first | (refine ok_have x ?_ ?_; on_goal 1 => subst x; on_goal 2 => (clear_value x; intro _)) | skip) | with_reducible refine ok_updCn ?_ | with_reducible refine ok_cnCancel ?_ | with_reducible refine ok_cnTrigger ?_ | with_reducible refine ok_ite ?_ ?_ | with_reducible refine ok_foldl ?_ ?_ | intro _ | extract_lets | split | (conv => arg 2; dsimp +zetaDelta only))

theorem ok_cnBackoffClr {o s : State} (h : Ok o s) : Ok o (State.cnBackoffClr s) := by
  unfold State.cnBackoffClr
  repeat' (first | with_reducible assumption | (fail_if_no_progress (extract_lets +onlyGivenNames x); first | (refine ok_have x ?_ ?_; on_goal 1 => subst x; on_goal 2 => (clear_value x; intro _)) | skip) | with_reducible refine ok_setF ?_ | with_reducible refine ok_updCn ?_ | with_reducible refine ok_ite ?_ ?_ | with_reducible refine ok_foldl ?_ ?_ | intro _ | extract_lets | split | (conv => arg 2; dsimp +zetaDelta only))

theorem ok_cnCntClr {o s : State} (h : Ok o s) : Ok o (State.cnCntClr s) := by
  unfold State.cnCntClr
  repeat' (first | with_reducible assumption | (fail_if_no_progress (extract_lets +onlyGivenNames x); first | (refine ok_have x ?_ ?_; on_goal 1 => subst x; on_goal 2 => (clear_value x; intro _)) | skip) | with_reducible refine ok_setF ?_ | with_reducible refine ok_setReg ?_ | with_reducible refine ok_ite ?_ ?_ | with_reducible refine ok_foldl ?_ ?_ | intro _ | extract_lets | split | (conv => arg 2; dsimp +zetaDelta only))

theorem ok_execStepHintEdge {o s : State} (h : Ok o s) {a0 : Bool} {a1 : Nat} : OkO o (execStepHintEdge a0 a1 s) := by
  unfold execStepHintEdge
  refine okO_heldRun h ?_; intro s h
  repeat' (first | with_reducible assumption | (fail_if_no_progress (extract_lets +onlyGivenNames x); first | (refine okO_have x ?_ ?_; on_goal 1 => subst x; on_goal 2 => (clear_value x; intro _)) | skip) | with_reducible refine ok_cnTrigger ?_ | with_reducible refine ok_ite ?_ ?_ | with_reducible refine okO_ite ?_ ?_ | with_reducible refine okO_next ?_ | with_reducible refine ok_foldl ?_ ?_ | intro _ | extract_lets | split | (conv => arg 2; dsimp +zetaDelta only))

theorem ok_execCorniceOpen {o s : State} (h : Ok o s) : OkO o (execCorniceOpen s) := by
  unfold execCorniceOpen
  refine okO_heldRun h ?_; intro s h
  repeat' (first | with_reducible assumption | (fail_if_no_progress (extract_lets +onlyGivenNames x); first | (refine okO_have x ?_ ?_; on_goal 1 => subst x; on_goal 2 => (clear_value x; intro _)) | skip) | with_reducible refine ok_updCn ?_ | with_reducible refine ok_setN ?_ | with_reducible refine ok_setReg ?_ | with_reducible refine ok_setF ?_ | with_reducible refine ok_traceAdd ?_ | with_reducible refine ok_stageSet ?_ | with_reducible refine ok_cnFolded ?_ | with_reducible refine ok_cnTest ?_ | with_reducible refine ok_ite ?_ ?_ | with_reducible refine okO_ite ?_ ?_ | with_reducible refine okO_next ?_ | with_reducible refine ok_foldl ?_ ?_ | intro _ | extract_lets | split | (conv => arg 2; dsimp +zetaDelta only))

theorem ok_execCorniceWindowEnd {o s : State} (h : Ok o s) : OkO o (execCorniceWindowEnd s) := by
  unfold execCorniceWindowEnd
  refine okO_heldRun h ?_; intro s h
  repeat' (first | with_reducible assumption | (fail_if_no_progress (extract_lets +onlyGivenNames x); first | (refine okO_have x ?_ ?_; on_goal 1 => subst x; on_goal 2 => (clear_value x; intro _)) | skip) | with_reducible refine ok_cnCollapse ?_ | with_reducible refine ok_ite ?_ ?_ | with_reducible refine okO_ite ?_ ?_ | with_reducible refine okO_next ?_ | with_reducible refine ok_foldl ?_ ?_ | intro _ | extract_lets | split | (conv => arg 2; dsimp +zetaDelta only))

theorem ok_execCorniceCollapseEnd {o s : State} (h : Ok o s) : OkO o (execCorniceCollapseEnd s) := by
  unfold execCorniceCollapseEnd
  refine okO_heldRun h ?_; intro s h
  repeat' (first | with_reducible assumption | (fail_if_no_progress (extract_lets +onlyGivenNames x); first | (refine okO_have x ?_ ?_; on_goal 1 => subst x; on_goal 2 => (clear_value x; intro _)) | skip) | with_reducible refine ok_setF ?_ | with_reducible refine ok_cnResolve ?_ | with_reducible refine ok_updCn ?_ | with_reducible refine ok_incSat ?_ | with_reducible refine ok_raise ?_ | with_reducible refine ok_checkFill ?_ | with_reducible refine ok_ite ?_ ?_ | with_reducible refine okO_ite ?_ ?_ | with_reducible refine okO_next ?_ | with_reducible refine ok_foldl ?_ ?_ | intro _ | extract_lets | split | (conv => arg 2; dsimp +zetaDelta only))

theorem ok_execCorniceBackoffEnd {o s : State} (h : Ok o s) : OkO o (execCorniceBackoffEnd s) := by
  unfold execCorniceBackoffEnd
  repeat' (first | with_reducible assumption | (fail_if_no_progress (extract_lets +onlyGivenNames x); first | (refine okO_have x ?_ ?_; on_goal 1 => subst x; on_goal 2 => (clear_value x; intro _)) | skip) | with_reducible refine ok_cnBackoffClr ?_ | with_reducible refine ok_ite ?_ ?_ | with_reducible refine okO_ite ?_ ?_ | with_reducible refine okO_next ?_ | with_reducible refine ok_foldl ?_ ?_ | intro _ | extract_lets | split | (conv => arg 2; dsimp +zetaDelta only))

theorem ok_updPair {o s : State} (h : Ok o s) {a1 : PairSt → PairSt} : Ok o (State.updPair s a1) := by
  unfold State.updPair
  repeat' (first | with_reducible assumption | (fail_if_no_progress (extract_lets +onlyGivenNames x); first | (refine ok_have x ?_ ?_; on_goal 1 => subst x; on_goal 2 => (clear_value x; intro _)) | skip) | ((conv => arg 2; arg 27; skip); with_reducible refine ok_mk ?_ rfl) | with_reducible refine ok_ite ?_ ?_ | with_reducible refine ok_foldl ?_ ?_ | intro _ | extract_lets | split | (conv => arg 2; dsimp +zetaDelta only))

theorem ok_blockedRaise {o s : State} (h : Ok o s) : Ok o (State.blockedRaise s) := by
  unfold State.blockedRaise
  repeat' (first | with_reducible assumption | (fail_if_no_progress (extract_lets +onlyGivenNames x); first | (refine ok_have x ?_ ?_; on_goal 1 => subst x; on_goal 2 => (clear_value x; intro _)) | skip) | with_reducible refine ok_raise ?_ | with_reducible refine ok_ite ?_ ?_ | with_reducible refine ok_foldl ?_ ?_ | intro _ | extract_lets | split | (conv => arg 2; dsimp +zetaDelta only))

theorem ok_txEpoch {o s : State} (h : Ok o s) {a1 : Nat} {a2 : Nat} : Ok o (State.txEpoch s a1 a2) := by
  unfold State.txEpoch
  repeat' (first | with_reducible assumption | (fail_if_no_progress (extract_lets +onlyGivenNames x); first | (refine ok_have x ?_ ?_; on_goal 1 => subst x; on_goal 2 => (clear_value x; intro _)) | skip) | with_reducible refine ok_setF ?_ | with_reducible refine ok_countChg ?_ | with_reducible refine ok_ite ?_ ?_ | with_reducible refine ok_foldl ?_ ?_ | intro _ | extract_lets | split | (conv => arg 2; dsimp +zetaDelta only))

theorem ok_setEpoch {o s : State} (h : Ok o s) {a1 : Nat} : Ok o (State.setEpoch s a1) := by
  unfold State.setEpoch
  repeat' (first | with_reducible assumption | (fail_if_no_progress (extract_lets +onlyGivenNames x); first | (refine ok_have x ?_ ?_; on_goal 1 => subst x; on_goal 2 => (clear_value x; intro _)) | skip) | with_reducible refine ok_setF ?_ | with_reducible refine ok_txEpoch ?_ | with_reducible refine ok_forAll ?_ ?_ | ((conv => arg 2; arg 27; skip); with_reducible refine ok_mk ?_ rfl) | with_reducible refine ok_ite ?_ ?_ | with_reducible refine ok_foldl ?_ ?_ | intro _ | extract_lets | split | (conv => arg 2; dsimp +zetaDelta only))

theorem ok_actGroups {o s : State} (h : Ok o s) {a1 : Bool} : Ok o (State.actGroups s a1) := by
  unfold State.actGroups
  repeat' (first | with_reducible assumption | (fail_if_no_progress (extract_lets +onlyGivenNames x); first | (refine ok_have x ?_ ?_; on_goal 1 => subst x; on_goal 2 => (clear_value x; intro _)) | skip) | with_reducible refine ok_upRequest ?_ | with_reducible refine ok_downRequest ?_ | with_reducible refine ok_forAll ?_ ?_ | with_reducible refine ok_ite ?_ ?_ | with_reducible refine ok_foldl ?_ ?_ | intro _ | extract_lets | split | (conv => arg 2; dsimp +zetaDelta only))

theorem ok_updEst {o s : State} (h : Ok o s) {a1 : Nat} {a2 : EstStr → EstStr} : Ok o (State.updEst s a1 a2) := by
  unfold State.updEst
  repeat' (first | with_reducible assumption | (fail_if_no_progress (extract_lets +onlyGivenNames x); first | (refine ok_have x ?_ ?_; on_goal 1 => subst x; on_goal 2 => (clear_value x; intro _)) | skip) | ((conv => arg 2; arg 27; skip); with_reducible refine ok_mk ?_ rfl) | with_reducible refine ok_ite ?_ ?_ | with_reducible refine ok_foldl ?_ ?_ | intro _ | extract_lets | split | (conv => arg 2; dsimp +zetaDelta only))

theorem ok_later {o s : State} (h : Ok o s) {a1 : List (Nat × Word)} : Ok o (State.later s a1) := by
  unfold State.later
  repeat' (first | with_reducible assumption | (fail_if_no_progress (extract_lets +onlyGivenNames x); first | (refine ok_have x ?_ ?_; on_goal 1 => subst x; on_goal 2 => (clear_value x; intro _)) | skip) | with_reducible refine ok_updShelf ?_ | with_reducible refine ok_ite ?_ ?_ | with_reducible refine ok_foldl ?_ ?_ | intro _ | extract_lets | split | (conv => arg 2; dsimp +zetaDelta only))

theorem ok_learnDisq {o s : State} (h : Ok o s) {a1 : Nat} {a2 : Nat} : Ok o (State.learnDisq s a1 a2) := by
  unfold State.learnDisq
  repeat' (first | with_reducible assumption | (fail_if_no_progress (extract_lets +onlyGivenNames x); first | (refine ok_have x ?_ ?_; on_goal 1 => subst x; on_goal 2 => (clear_value x; intro _)) | skip) | with_reducible refine ok_incSat ?_ | with_reducible refine ok_setF ?_ | with_reducible refine ok_raise ?_ | with_reducible refine ok_updEst ?_ | with_reducible refine ok_ite ?_ ?_ | with_reducible refine ok_foldl ?_ ?_ | intro _ | extract_lets | split | (conv => arg 2; dsimp +zetaDelta only))

theorem ok_estInit {o s : State} (h : Ok o s) {a1 : Nat} {a2 : Nat → Bool} : Ok o (State.estInit s a1 a2) := by
  unfold State.estInit
  repeat' (first | with_reducible assumption | (fail_if_no_progress (extract_lets +onlyGivenNames x); first | (refine ok_have x ?_ ?_; on_goal 1 => subst x; on_goal 2 => (clear_value x; intro _)) | skip) | with_reducible refine ok_learnDisq ?_ | with_reducible refine ok_updEst ?_ | with_reducible refine ok_ite ?_ ?_ | with_reducible refine ok_foldl ?_ ?_ | intro _ | extract_lets | split | (conv => arg 2; dsimp +zetaDelta only))

theorem ok_resetCells {o s : State} (h : Ok o s) {a1 : Nat} {a2 : Nat} : Ok o (State.resetCells s a1 a2) := by
  unfold State.resetCells
  repeat' (first | with_reducible assumption | (fail_if_no_progress (extract_lets +onlyGivenNames x); first | (refine ok_have x ?_ ?_; on_goal 1 => subst x; on_goal 2 => (clear_value x; intro _)) | skip) | with_reducible refine ok_updEst ?_ | with_reducible refine ok_setF ?_ | with_reducible refine ok_estInit ?_ | with_reducible refine ok_ite ?_ ?_ | with_reducible refine ok_foldl ?_ ?_ | intro _ | extract_lets | split | (conv => arg 2; dsimp +zetaDelta only))

end Sys2Proof.Laws
end

