-- ==== Sys2Proof/Laws/KeepChain.lean ====
section
/-! SUPPORT. What each operation of the chains, the sample sets, the frame mover and SDMA, messages, the estimator keeps: one lemma per function and per command. -/

set_option linter.unusedTactic false
set_option linter.unreachableTactic false
set_option linter.tactic.unusedName false

namespace Sys2Proof.Laws

open Machine Machine.State

theorem ok_updPort {o s : State} (h : Ok o s) {a1 : Nat} {a2 : PortSt → PortSt} : Ok o (State.updPort s a1 a2) := by
  unfold State.updPort
  repeat' (first | with_reducible assumption | (fail_if_no_progress (extract_lets +onlyGivenNames x); first | (refine ok_have x ?_ ?_; on_goal 1 => subst x; on_goal 2 => (clear_value x; intro _)) | skip) | ((conv => arg 2; arg 27; skip); with_reducible refine ok_mk ?_ rfl) | with_reducible refine ok_ite ?_ ?_ | with_reducible refine ok_foldl ?_ ?_ | intro _ | extract_lets | split | (conv => arg 2; dsimp +zetaDelta only))

theorem ok_queueRaw {o s : State} (h : Ok o s) {a1 : Nat} {a2 : List Byte} : Ok o (State.queueRaw s a1 a2) := by
  unfold State.queueRaw
  repeat' (first | with_reducible assumption | (fail_if_no_progress (extract_lets +onlyGivenNames x); first | (refine ok_have x ?_ ?_; on_goal 1 => subst x; on_goal 2 => (clear_value x; intro _)) | skip) | with_reducible refine ok_updPort ?_ | with_reducible refine ok_writeBytes ?_ | with_reducible refine ok_ite ?_ ?_ | with_reducible refine ok_foldl ?_ ?_ | intro _ | extract_lets | split | (conv => arg 2; dsimp +zetaDelta only))

theorem ok_queueTx {o s : State} (h : Ok o s) {a1 : Nat} {a2 : Nat} {a3 : Nat} {a4 : Nat} {a5 : List Nat} : Ok o (State.queueTx s a1 a2 a3 a4 a5) := by
  unfold State.queueTx
  repeat' (first | with_reducible assumption | (fail_if_no_progress (extract_lets +onlyGivenNames x); first | (refine ok_have x ?_ ?_; on_goal 1 => subst x; on_goal 2 => (clear_value x; intro _)) | skip) | with_reducible refine ok_queueRaw ?_ | with_reducible refine ok_ite ?_ ?_ | with_reducible refine ok_foldl ?_ ?_ | intro _ | extract_lets | split | (conv => arg 2; dsimp +zetaDelta only))

theorem ok_relay {o s : State} (h : Ok o s) {a1 : RelayFrame} : Ok o (State.relay s a1) := by
  unfold State.relay
  repeat' (first | with_reducible assumption | (fail_if_no_progress (extract_lets +onlyGivenNames x); first | (refine ok_have x ?_ ?_; on_goal 1 => subst x; on_goal 2 => (clear_value x; intro _)) | skip) | with_reducible refine ok_updPair ?_ | with_reducible refine ok_ite ?_ ?_ | with_reducible refine ok_foldl ?_ ?_ | intro _ | extract_lets | split | (conv => arg 2; dsimp +zetaDelta only))

theorem ok_sendTo {o s : State} (h : Ok o s) {a1 : Nat} {a2 : Nat} {a3 : Nat} {a4 : List Byte} : Ok o (State.sendTo s a1 a2 a3 a4) := by
  unfold State.sendTo
  repeat' (first | with_reducible assumption | (fail_if_no_progress (extract_lets +onlyGivenNames x); first | (refine ok_have x ?_ ?_; on_goal 1 => subst x; on_goal 2 => (clear_value x; intro _)) | skip) | with_reducible refine ok_relay ?_ | with_reducible refine ok_queueRaw ?_ | with_reducible refine ok_ite ?_ ?_ | with_reducible refine ok_foldl ?_ ?_ | intro _ | extract_lets | split | (conv => arg 2; dsimp +zetaDelta only))

theorem ok_relayUp {o s : State} (h : Ok o s) {a1 : Nat} {a2 : Option SampleFrame} {a3 : List Byte} : Ok o (State.relayUp s a1 a2 a3) := by
  unfold State.relayUp
  repeat' (first | with_reducible assumption | (fail_if_no_progress (extract_lets +onlyGivenNames x); first | (refine ok_have x ?_ ?_; on_goal 1 => subst x; on_goal 2 => (clear_value x; intro _)) | skip) | with_reducible refine ok_relay ?_ | with_reducible refine ok_ite ?_ ?_ | with_reducible refine ok_foldl ?_ ?_ | intro _ | extract_lets | split | (conv => arg 2; dsimp +zetaDelta only))

theorem ok_ownStep {o s : State} (h : Ok o s) {a1 : Nat} {a2 : Nat} : Ok o (State.ownStep s a1 a2) := by
  unfold State.ownStep
  repeat' (first | with_reducible assumption | (fail_if_no_progress (extract_lets +onlyGivenNames x); first | (refine ok_have x ?_ ?_; on_goal 1 => subst x; on_goal 2 => (clear_value x; intro _)) | skip) | with_reducible refine ok_updPort ?_ | with_reducible refine ok_sendTo ?_ | with_reducible refine ok_ite ?_ ?_ | with_reducible refine ok_foldl ?_ ?_ | intro _ | extract_lets | split | (conv => arg 2; dsimp +zetaDelta only))

theorem ok_ownSend {o s : State} (h : Ok o s) {a1 : Nat} : Ok o (State.ownSend s a1) := by
  unfold State.ownSend
  repeat' (first | with_reducible assumption | (fail_if_no_progress (extract_lets +onlyGivenNames x); first | (refine ok_have x ?_ ?_; on_goal 1 => subst x; on_goal 2 => (clear_value x; intro _)) | skip) | with_reducible refine ok_updPort ?_ | with_reducible refine ok_ownStep ?_ | with_reducible refine ok_ite ?_ ?_ | with_reducible refine ok_foldl ?_ ?_ | intro _ | extract_lets | split | (conv => arg 2; dsimp +zetaDelta only))

theorem ok_ask {o s : State} (h : Ok o s) {a1 : Nat} {a2 : ReqUse} {a3 : Nat} {a4 : Nat} {a5 : List Nat} : Ok o (State.ask s a1 a2 a3 a4 a5) := by
  unfold State.ask
  repeat' (first | with_reducible assumption | (fail_if_no_progress (extract_lets +onlyGivenNames x); first | (refine ok_have x ?_ ?_; on_goal 1 => subst x; on_goal 2 => (clear_value x; intro _)) | skip) | with_reducible refine ok_ownSend ?_ | with_reducible refine ok_updPort ?_ | with_reducible refine ok_ite ?_ ?_ | with_reducible refine ok_foldl ?_ ?_ | intro _ | extract_lets | split | (conv => arg 2; dsimp +zetaDelta only))

theorem ok_askCounts {o s : State} (h : Ok o s) {a1 : Nat} {a2 : Nat} : Ok o (State.askCounts s a1 a2) := by
  unfold State.askCounts
  repeat' (first | with_reducible assumption | (fail_if_no_progress (extract_lets +onlyGivenNames x); first | (refine ok_have x ?_ ?_; on_goal 1 => subst x; on_goal 2 => (clear_value x; intro _)) | skip) | with_reducible refine ok_ask ?_ | with_reducible refine ok_ite ?_ ?_ | with_reducible refine ok_foldl ?_ ?_ | intro _ | extract_lets | split | (conv => arg 2; dsimp +zetaDelta only))

theorem ok_askSeen {o s : State} (h : Ok o s) {a1 : Nat} : Ok o (State.askSeen s a1) := by
  unfold State.askSeen
  repeat' (first | with_reducible assumption | (fail_if_no_progress (extract_lets +onlyGivenNames x); first | (refine ok_have x ?_ ?_; on_goal 1 => subst x; on_goal 2 => (clear_value x; intro _)) | skip) | with_reducible refine ok_ask ?_ | with_reducible refine ok_ite ?_ ?_ | with_reducible refine ok_foldl ?_ ?_ | intro _ | extract_lets | split | (conv => arg 2; dsimp +zetaDelta only))

theorem ok_seenIn {o s : State} (h : Ok o s) {a1 : Nat} {a2 : Nat} : Ok o (State.seenIn s a1 a2) := by
  unfold State.seenIn
  repeat' (first | with_reducible assumption | (fail_if_no_progress (extract_lets +onlyGivenNames x); first | (refine ok_have x ?_ ?_; on_goal 1 => subst x; on_goal 2 => (clear_value x; intro _)) | skip) | with_reducible refine ok_setF ?_ | with_reducible refine ok_updPort ?_ | with_reducible refine ok_setEpoch ?_ | with_reducible refine ok_ite ?_ ?_ | with_reducible refine ok_foldl ?_ ?_ | intro _ | extract_lets | split | (conv => arg 2; dsimp +zetaDelta only))

theorem ok_holdFailed {o s : State} (h : Ok o s) {a1 : Nat} : Ok o (State.holdFailed s a1) := by
  unfold State.holdFailed
  repeat' (first | with_reducible assumption | (fail_if_no_progress (extract_lets +onlyGivenNames x); first | (refine ok_have x ?_ ?_; on_goal 1 => subst x; on_goal 2 => (clear_value x; intro _)) | skip) | with_reducible refine ok_raise ?_ | with_reducible refine ok_updPort ?_ | with_reducible refine ok_ite ?_ ?_ | with_reducible refine ok_foldl ?_ ?_ | intro _ | extract_lets | split | (conv => arg 2; dsimp +zetaDelta only))

theorem ok_ownDone {o s : State} (h : Ok o s) {a1 : Nat} {a2 : OwnReq} {a3 : List Nat} : Ok o (State.ownDone s a1 a2 a3) := by
  unfold State.ownDone
  repeat' (first | with_reducible assumption | (fail_if_no_progress (extract_lets +onlyGivenNames x); first | (refine ok_have x ?_ ?_; on_goal 1 => subst x; on_goal 2 => (clear_value x; intro _)) | skip) | with_reducible refine ok_ask ?_ | with_reducible refine ok_holdFailed ?_ | with_reducible refine ok_setF ?_ | with_reducible refine ok_updPort ?_ | with_reducible refine ok_seenIn ?_ | with_reducible refine ok_ite ?_ ?_ | with_reducible refine ok_foldl ?_ ?_ | intro _ | extract_lets | split | (conv => arg 2; dsimp +zetaDelta only))

theorem ok_ownDrop {o s : State} (h : Ok o s) {a1 : Nat} {a2 : OwnReq} : Ok o (State.ownDrop s a1 a2) := by
  unfold State.ownDrop
  repeat' (first | with_reducible assumption | (fail_if_no_progress (extract_lets +onlyGivenNames x); first | (refine ok_have x ?_ ?_; on_goal 1 => subst x; on_goal 2 => (clear_value x; intro _)) | skip) | with_reducible refine ok_updPort ?_ | with_reducible refine ok_ite ?_ ?_ | with_reducible refine ok_foldl ?_ ?_ | intro _ | extract_lets | split | (conv => arg 2; dsimp +zetaDelta only))

theorem ok_ringClear {o s : State} (h : Ok o s) {a1 : Nat} {a2 : Nat} : Ok o (State.ringClear s a1 a2) := by
  unfold State.ringClear
  repeat' (first | with_reducible assumption | (fail_if_no_progress (extract_lets +onlyGivenNames x); first | (refine ok_have x ?_ ?_; on_goal 1 => subst x; on_goal 2 => (clear_value x; intro _)) | skip) | with_reducible refine ok_writeBytes ?_ | with_reducible refine ok_ite ?_ ?_ | with_reducible refine ok_foldl ?_ ?_ | intro _ | extract_lets | split | (conv => arg 2; dsimp +zetaDelta only))

theorem ok_ringPut {o s : State} (h : Ok o s) {a1 : Nat} {a2 : Nat} {a3 : Nat} {a4 : Nat} {a5 : List Nat} {a6 : Nat} : Ok o (State.ringPut s a1 a2 a3 a4 a5 a6) := by
  unfold State.ringPut
  repeat' (first | with_reducible assumption | (fail_if_no_progress (extract_lets +onlyGivenNames x); first | (refine ok_have x ?_ ?_; on_goal 1 => subst x; on_goal 2 => (clear_value x; intro _)) | skip) | with_reducible refine ok_incSat ?_ | with_reducible refine ok_updPort ?_ | with_reducible refine ok_writeBytes ?_ | with_reducible refine ok_setF ?_ | with_reducible refine ok_ringClear ?_ | with_reducible refine ok_ite ?_ ?_ | with_reducible refine ok_foldl ?_ ?_ | intro _ | extract_lets | split | (conv => arg 2; dsimp +zetaDelta only))

theorem ok_reEnum {o s : State} (h : Ok o s) {a1 : Nat} : Ok o (State.reEnum s a1) := by
  unfold State.reEnum
  repeat' (first | with_reducible assumption | (fail_if_no_progress (extract_lets +onlyGivenNames x); first | (refine ok_have x ?_ ?_; on_goal 1 => subst x; on_goal 2 => (clear_value x; intro _)) | skip) | with_reducible refine ok_setF ?_ | with_reducible refine ok_incSat ?_ | with_reducible refine ok_ite ?_ ?_ | with_reducible refine ok_foldl ?_ ?_ | intro _ | extract_lets | split | (conv => arg 2; dsimp +zetaDelta only))

theorem ok_enumOver {o s : State} (h : Ok o s) {a1 : Nat} : Ok o (State.enumOver s a1) := by
  unfold State.enumOver
  repeat' (first | with_reducible assumption | (fail_if_no_progress (extract_lets +onlyGivenNames x); first | (refine ok_have x ?_ ?_; on_goal 1 => subst x; on_goal 2 => (clear_value x; intro _)) | skip) | with_reducible refine ok_setF ?_ | with_reducible refine ok_ite ?_ ?_ | with_reducible refine ok_foldl ?_ ?_ | intro _ | extract_lets | split | (conv => arg 2; dsimp +zetaDelta only))

theorem ok_maskBit {o s : State} (h : Ok o s) {a1 : Nat} {a2 : Nat} : Ok o (State.maskBit s a1 a2) := by
  unfold State.maskBit
  repeat' (first | with_reducible assumption | (fail_if_no_progress (extract_lets +onlyGivenNames x); first | (refine ok_have x ?_ ?_; on_goal 1 => subst x; on_goal 2 => (clear_value x; intro _)) | skip) | with_reducible refine ok_writeBytes ?_ | with_reducible refine ok_ite ?_ ?_ | with_reducible refine ok_foldl ?_ ?_ | intro _ | extract_lets | split | (conv => arg 2; dsimp +zetaDelta only))

theorem ok_landStat {o s : State} (h : Ok o s) {a1 : Nat} {a2 : Nat} {a3 : Byte} : Ok o (State.landStat s a1 a2 a3) := by
  unfold State.landStat
  repeat' (first | with_reducible assumption | (fail_if_no_progress (extract_lets +onlyGivenNames x); first | (refine ok_have x ?_ ?_; on_goal 1 => subst x; on_goal 2 => (clear_value x; intro _)) | skip) | with_reducible refine ok_writeBytes ?_ | with_reducible refine ok_maskBit ?_ | with_reducible refine ok_ite ?_ ?_ | with_reducible refine ok_foldl ?_ ?_ | intro _ | extract_lets | split | (conv => arg 2; dsimp +zetaDelta only))

theorem ok_landVals {o s : State} (h : Ok o s) {a1 : Nat} {a2 : Nat} {a3 : Nat} {a4 : Nat} {a5 : List Half} : Ok o (State.landVals s a1 a2 a3 a4 a5) := by
  unfold State.landVals
  repeat' (first | with_reducible assumption | (fail_if_no_progress (extract_lets +onlyGivenNames x); first | (refine ok_have x ?_ ?_; on_goal 1 => subst x; on_goal 2 => (clear_value x; intro _)) | skip) | with_reducible refine ok_writeLe ?_ | with_reducible refine ok_ite ?_ ?_ | with_reducible refine ok_foldl ?_ ?_ | intro _ | extract_lets | split | (conv => arg 2; dsimp +zetaDelta only))

theorem ok_landMonitor {o s : State} (h : Ok o s) {a1 : Nat} {a2 : Nat} {a3 : Nat} {a4 : Nat} {a5 : List Half} {a6 : List Half} : Ok o (State.landMonitor s a1 a2 a3 a4 a5 a6) := by
  unfold State.landMonitor
  repeat' (first | with_reducible assumption | (fail_if_no_progress (extract_lets +onlyGivenNames x); first | (refine ok_have x ?_ ?_; on_goal 1 => subst x; on_goal 2 => (clear_value x; intro _)) | skip) | with_reducible refine ok_landVals ?_ | with_reducible refine ok_updPort ?_ | with_reducible refine ok_maskBit ?_ | with_reducible refine ok_ite ?_ ?_ | with_reducible refine ok_foldl ?_ ?_ | intro _ | extract_lets | split | (conv => arg 2; dsimp +zetaDelta only))

theorem ok_landConv {o s : State} (h : Ok o s) {a1 : Nat} {a2 : Word} {a3 : Word} {a4 : List Half} : Ok o (State.landConv s a1 a2 a3 a4) := by
  unfold State.landConv
  repeat' (first | with_reducible assumption | (fail_if_no_progress (extract_lets +onlyGivenNames x); first | (refine ok_have x ?_ ?_; on_goal 1 => subst x; on_goal 2 => (clear_value x; intro _)) | skip) | with_reducible refine ok_writeBytes ?_ | with_reducible refine ok_maskBit ?_ | with_reducible refine ok_landVals ?_ | with_reducible refine ok_ite ?_ ?_ | with_reducible refine ok_foldl ?_ ?_ | intro _ | extract_lets | split | (conv => arg 2; dsimp +zetaDelta only))

theorem ok_sampleIn {o s : State} (h : Ok o s) {a1 : Nat} {a2 : SampleFrame} : Ok o (State.sampleIn s a1 a2) := by
  unfold State.sampleIn
  repeat' (first | with_reducible assumption | (fail_if_no_progress (extract_lets +onlyGivenNames x); first | (refine ok_have x ?_ ?_; on_goal 1 => subst x; on_goal 2 => (clear_value x; intro _)) | skip) | with_reducible refine ok_incSat ?_ | with_reducible refine ok_landStat ?_ | with_reducible refine ok_landMonitor ?_ | with_reducible refine ok_landConv ?_ | with_reducible refine ok_ite ?_ ?_ | with_reducible refine ok_foldl ?_ ?_ | intro _ | extract_lets | split | (conv => arg 2; dsimp +zetaDelta only))

theorem ok_mbxEnd {o s : State} (h : Ok o s) {a1 : Nat} {a2 : Nat} {a3 : Nat} : Ok o (State.mbxEnd s a1 a2 a3) := by
  unfold State.mbxEnd
  repeat' (first | with_reducible assumption | (fail_if_no_progress (extract_lets +onlyGivenNames x); first | (refine ok_have x ?_ ?_; on_goal 1 => subst x; on_goal 2 => (clear_value x; intro _)) | skip) | with_reducible refine ok_updPort ?_ | with_reducible refine ok_setF ?_ | with_reducible refine ok_ite ?_ ?_ | with_reducible refine ok_foldl ?_ ?_ | intro _ | extract_lets | split | (conv => arg 2; dsimp +zetaDelta only))

theorem ok_xactFailed {o s : State} (h : Ok o s) {a1 : Nat} {a2 : Nat} : Ok o (State.xactFailed s a1 a2) := by
  unfold State.xactFailed
  repeat' (first | with_reducible assumption | (fail_if_no_progress (extract_lets +onlyGivenNames x); first | (refine ok_have x ?_ ?_; on_goal 1 => subst x; on_goal 2 => (clear_value x; intro _)) | skip) | with_reducible refine ok_raise ?_ | with_reducible refine ok_incSat ?_ | with_reducible refine ok_ite ?_ ?_ | with_reducible refine ok_foldl ?_ ?_ | intro _ | extract_lets | split | (conv => arg 2; dsimp +zetaDelta only))

theorem ok_xactRetry {o s : State} (h : Ok o s) {a1 : Nat} {a2 : Xact} : Ok o (State.xactRetry s a1 a2) := by
  unfold State.xactRetry
  repeat' (first | with_reducible assumption | (fail_if_no_progress (extract_lets +onlyGivenNames x); first | (refine ok_have x ?_ ?_; on_goal 1 => subst x; on_goal 2 => (clear_value x; intro _)) | skip) | with_reducible refine ok_updPort ?_ | with_reducible refine ok_sendTo ?_ | with_reducible refine ok_xactFailed ?_ | with_reducible refine ok_mbxEnd ?_ | with_reducible refine ok_ite ?_ ?_ | with_reducible refine ok_foldl ?_ ?_ | intro _ | extract_lets | split | (conv => arg 2; dsimp +zetaDelta only))

theorem ok_ownRetry {o s : State} (h : Ok o s) {a1 : Nat} {a2 : OwnReq} : Ok o (State.ownRetry s a1 a2) := by
  unfold State.ownRetry
  repeat' (first | with_reducible assumption | (fail_if_no_progress (extract_lets +onlyGivenNames x); first | (refine ok_have x ?_ ?_; on_goal 1 => subst x; on_goal 2 => (clear_value x; intro _)) | skip) | with_reducible refine ok_updPort ?_ | with_reducible refine ok_sendTo ?_ | with_reducible refine ok_ownDrop ?_ | with_reducible refine ok_xactFailed ?_ | with_reducible refine ok_ite ?_ ?_ | with_reducible refine ok_foldl ?_ ?_ | intro _ | extract_lets | split | (conv => arg 2; dsimp +zetaDelta only))

theorem ok_mbxGo {o s : State} (h : Ok o s) {a1 : Nat} : Ok o (State.mbxGo s a1) := by
  unfold State.mbxGo
  repeat' (first | with_reducible assumption | (fail_if_no_progress (extract_lets +onlyGivenNames x); first | (refine ok_have x ?_ ?_; on_goal 1 => subst x; on_goal 2 => (clear_value x; intro _)) | skip) | with_reducible refine ok_setF ?_ | with_reducible refine ok_updPort ?_ | with_reducible refine ok_sendTo ?_ | with_reducible refine ok_ite ?_ ?_ | with_reducible refine ok_foldl ?_ ?_ | intro _ | extract_lets | split | (conv => arg 2; dsimp +zetaDelta only))

theorem ok_yportCntClr {o s : State} (h : Ok o s) {a1 : Nat} : Ok o (State.yportCntClr s a1) := by
  unfold State.yportCntClr
  repeat' (first | with_reducible assumption | (fail_if_no_progress (extract_lets +onlyGivenNames x); first | (refine ok_have x ?_ ?_; on_goal 1 => subst x; on_goal 2 => (clear_value x; intro _)) | skip) | with_reducible refine ok_setReg ?_ | with_reducible refine ok_forAll ?_ ?_ | with_reducible refine ok_ite ?_ ?_ | with_reducible refine ok_foldl ?_ ?_ | intro _ | extract_lets | split | (conv => arg 2; dsimp +zetaDelta only))

theorem ok_setUid {o s : State} (h : Ok o s) {a1 : Nat} {a2 : Nat} {a3 : Nat} : Ok o (State.setUid s a1 a2 a3) := by
  unfold State.setUid
  repeat' (first | with_reducible assumption | (fail_if_no_progress (extract_lets +onlyGivenNames x); first | (refine ok_have x ?_ ?_; on_goal 1 => subst x; on_goal 2 => (clear_value x; intro _)) | skip) | with_reducible refine ok_setN ?_ | with_reducible refine ok_ite ?_ ?_ | with_reducible refine ok_foldl ?_ ?_ | intro _ | extract_lets | split | (conv => arg 2; dsimp +zetaDelta only))

theorem ok_askDelay {o s : State} (h : Ok o s) {a1 : Nat} {a2 : Nat} {a3 : FoundNode} {a4 : Nat} : Ok o (State.askDelay s a1 a2 a3 a4) := by
  unfold State.askDelay
  repeat' (first | with_reducible assumption | (fail_if_no_progress (extract_lets +onlyGivenNames x); first | (refine ok_have x ?_ ?_; on_goal 1 => subst x; on_goal 2 => (clear_value x; intro _)) | skip) | with_reducible refine ok_ask ?_ | with_reducible refine ok_ite ?_ ?_ | with_reducible refine ok_foldl ?_ ?_ | intro _ | extract_lets | split | (conv => arg 2; dsimp +zetaDelta only))

theorem ok_measureNode {o s : State} (h : Ok o s) {a1 : Nat} {a2 : Nat} {a3 : FoundNode} : Ok o (State.measureNode s a1 a2 a3) := by
  unfold State.measureNode
  repeat' (first | with_reducible assumption | (fail_if_no_progress (extract_lets +onlyGivenNames x); first | (refine ok_have x ?_ ?_; on_goal 1 => subst x; on_goal 2 => (clear_value x; intro _)) | skip) | with_reducible refine ok_setF ?_ | with_reducible refine ok_raise ?_ | with_reducible refine ok_askDelay ?_ | with_reducible refine ok_ite ?_ ?_ | with_reducible refine ok_foldl ?_ ?_ | intro _ | extract_lets | split | (conv => arg 2; dsimp +zetaDelta only))

theorem ok_placeNode {o s : State} (h : Ok o s) {a1 : Nat} {a2 : Bool} {a3 : List (Nat × FoundNode)} {a4 : Nat} : Ok o (State.placeNode s a1 a2 a3 a4) := by
  unfold State.placeNode
  repeat' (first | with_reducible assumption | (fail_if_no_progress (extract_lets +onlyGivenNames x); first | (refine ok_have x ?_ ?_; on_goal 1 => subst x; on_goal 2 => (clear_value x; intro _)) | skip) | with_reducible refine ok_setReg ?_ | with_reducible refine ok_setUid ?_ | with_reducible refine ok_setF ?_ | with_reducible refine ok_raise ?_ | with_reducible refine ok_resetCells ?_ | with_reducible refine ok_measureNode ?_ | with_reducible refine ok_askCounts ?_ | with_reducible refine ok_ask ?_ | with_reducible refine ok_ite ?_ ?_ | with_reducible refine ok_foldl ?_ ?_ | intro _ | extract_lets | split | (conv => arg 2; dsimp +zetaDelta only))

theorem ok_ringFound {o s : State} (h : Ok o s) {a1 : Nat} {a2 : Bool} {a3 : Option Nat} : Ok o (State.ringFound s a1 a2 a3) := by
  unfold State.ringFound
  repeat' (first | with_reducible assumption | (fail_if_no_progress (extract_lets +onlyGivenNames x); first | (refine ok_have x ?_ ?_; on_goal 1 => subst x; on_goal 2 => (clear_value x; intro _)) | skip) | with_reducible refine ok_setB ?_ | with_reducible refine ok_setF ?_ | with_reducible refine ok_ite ?_ ?_ | with_reducible refine ok_foldl ?_ ?_ | intro _ | extract_lets | split | (conv => arg 2; dsimp +zetaDelta only))

theorem ok_walkDone {o s : State} (h : Ok o s) {a1 : Nat} {a2 : WalkResult} : Ok o (State.walkDone s a1 a2) := by
  unfold State.walkDone
  repeat' (first | with_reducible assumption | (fail_if_no_progress (extract_lets +onlyGivenNames x); first | (refine ok_have x ?_ ?_; on_goal 1 => subst x; on_goal 2 => (clear_value x; intro _)) | skip) | with_reducible refine ok_setF ?_ | with_reducible refine ok_enumOver ?_ | with_reducible refine ok_setB ?_ | with_reducible refine ok_ringFound ?_ | with_reducible refine ok_raise ?_ | with_reducible refine ok_updPort ?_ | with_reducible refine ok_placeNode ?_ | with_reducible refine ok_forAll ?_ ?_ | with_reducible refine ok_ite ?_ ?_ | with_reducible refine ok_foldl ?_ ?_ | intro _ | extract_lets | split | (conv => arg 2; dsimp +zetaDelta only))

theorem ok_statusIn {o s : State} (h : Ok o s) {a1 : Nat} {a2 : StatusFrame} : Ok o (State.statusIn s a1 a2) := by
  unfold State.statusIn
  repeat' (first | with_reducible assumption | (fail_if_no_progress (extract_lets +onlyGivenNames x); first | (refine ok_have x ?_ ?_; on_goal 1 => subst x; on_goal 2 => (clear_value x; intro _)) | skip) | with_reducible refine ok_seenIn ?_ | with_reducible refine ok_updShelf ?_ | with_reducible refine ok_ite ?_ ?_ | with_reducible refine ok_foldl ?_ ?_ | intro _ | extract_lets | split | (conv => arg 2; dsimp +zetaDelta only))

theorem ok_frameIn {o s : State} (h : Ok o s) {a1 : Nat} {a2 : Nat} {a3 : Nat} {a4 : Nat} {a5 : Nat} {a6 : List Nat} {a7 : Word} : Ok o (State.frameIn s a1 a2 a3 a4 a5 a6 a7) := by
  unfold State.frameIn
  repeat' (first | with_reducible assumption | (fail_if_no_progress (extract_lets +onlyGivenNames x); first | (refine ok_have x ?_ ?_; on_goal 1 => subst x; on_goal 2 => (clear_value x; intro _)) | skip) | with_reducible refine ok_relayUp ?_ | with_reducible refine ok_ringPut ?_ | with_reducible refine ok_ite ?_ ?_ | with_reducible refine ok_foldl ?_ ?_ | intro _ | extract_lets | split | (conv => arg 2; dsimp +zetaDelta only))

theorem ok_evtMark {o s : State} (h : Ok o s) {a1 : Nat} {a2 : Nat} {a3 : Nat} : Ok o (State.evtMark s a1 a2 a3) := by
  unfold State.evtMark
  repeat' (first | with_reducible assumption | (fail_if_no_progress (extract_lets +onlyGivenNames x); first | (refine ok_have x ?_ ?_; on_goal 1 => subst x; on_goal 2 => (clear_value x; intro _)) | skip) | with_reducible refine ok_updPort ?_ | with_reducible refine ok_ite ?_ ?_ | with_reducible refine ok_foldl ?_ ?_ | intro _ | extract_lets | split | (conv => arg 2; dsimp +zetaDelta only))

theorem ok_ringCut {o s : State} (h : Ok o s) {a1 : Nat} {a2 : Nat} : Ok o (State.ringCut s a1 a2) := by
  unfold State.ringCut
  repeat' (first | with_reducible assumption | (fail_if_no_progress (extract_lets +onlyGivenNames x); first | (refine ok_have x ?_ ?_; on_goal 1 => subst x; on_goal 2 => (clear_value x; intro _)) | skip) | with_reducible refine ok_ringFound ?_ | with_reducible refine ok_setF ?_ | with_reducible refine ok_ite ?_ ?_ | with_reducible refine ok_foldl ?_ ?_ | intro _ | extract_lets | split | (conv => arg 2; dsimp +zetaDelta only))

theorem ok_execYoridLinkUp {o s : State} (h : Ok o s) {a0 : Nat} : OkO o (execYoridLinkUp a0 s) := by
  unfold execYoridLinkUp
  repeat' (first | with_reducible assumption | (fail_if_no_progress (extract_lets +onlyGivenNames x); first | (refine okO_have x ?_ ?_; on_goal 1 => subst x; on_goal 2 => (clear_value x; intro _)) | skip) | with_reducible refine ok_setF ?_ | with_reducible refine ok_reEnum ?_ | with_reducible refine ok_ite ?_ ?_ | with_reducible refine okO_ite ?_ ?_ | with_reducible refine okO_next ?_ | with_reducible refine ok_foldl ?_ ?_ | intro _ | extract_lets | split | (conv => arg 2; dsimp +zetaDelta only))

theorem ok_execYoridLinkDown {o s : State} (h : Ok o s) {a0 : Nat} : OkO o (execYoridLinkDown a0 s) := by
  unfold execYoridLinkDown
  repeat' (first | with_reducible assumption | (fail_if_no_progress (extract_lets +onlyGivenNames x); first | (refine okO_have x ?_ ?_; on_goal 1 => subst x; on_goal 2 => (clear_value x; intro _)) | skip) | with_reducible refine ok_enumOver ?_ | with_reducible refine ok_markDown ?_ | with_reducible refine ok_setF ?_ | with_reducible refine ok_ringFound ?_ | with_reducible refine ok_incSat ?_ | with_reducible refine ok_raise ?_ | with_reducible refine ok_forAll ?_ ?_ | with_reducible refine ok_ite ?_ ?_ | with_reducible refine okO_ite ?_ ?_ | with_reducible refine okO_next ?_ | with_reducible refine ok_foldl ?_ ?_ | intro _ | extract_lets | split | (conv => arg 2; dsimp +zetaDelta only))

theorem ok_execSampleDataRx {o s : State} (h : Ok o s) {a0 : Nat} {a1 : SampleFrame} : OkO o (execSampleDataRx a0 a1 s) := by
  unfold execSampleDataRx
  repeat' (first | with_reducible assumption | (fail_if_no_progress (extract_lets +onlyGivenNames x); first | (refine okO_have x ?_ ?_; on_goal 1 => subst x; on_goal 2 => (clear_value x; intro _)) | skip) | with_reducible refine ok_relayUp ?_ | with_reducible refine ok_sampleIn ?_ | with_reducible refine ok_ite ?_ ?_ | with_reducible refine okO_ite ?_ ?_ | with_reducible refine okO_next ?_ | with_reducible refine ok_foldl ?_ ?_ | intro _ | extract_lets | split | (conv => arg 2; dsimp +zetaDelta only))

theorem ok_execStatusRx {o s : State} (h : Ok o s) {a0 : Nat} {a1 : StatusFrame} : OkO o (execStatusRx a0 a1 s) := by
  unfold execStatusRx
  repeat' (first | with_reducible assumption | (fail_if_no_progress (extract_lets +onlyGivenNames x); first | (refine okO_have x ?_ ?_; on_goal 1 => subst x; on_goal 2 => (clear_value x; intro _)) | skip) | with_reducible refine ok_relayUp ?_ | with_reducible refine ok_statusIn ?_ | with_reducible refine ok_ite ?_ ?_ | with_reducible refine okO_ite ?_ ?_ | with_reducible refine okO_next ?_ | with_reducible refine ok_foldl ?_ ?_ | intro _ | extract_lets | split | (conv => arg 2; dsimp +zetaDelta only))

theorem ok_execEventRx {o s : State} (h : Ok o s) {a0 : Nat} {a1 : EventFrame} : OkO o (execEventRx a0 a1 s) := by
  unfold execEventRx
  repeat' (first | with_reducible assumption | (fail_if_no_progress (extract_lets +onlyGivenNames x); first | (refine okO_have x ?_ ?_; on_goal 1 => subst x; on_goal 2 => (clear_value x; intro _)) | skip) | with_reducible refine ok_takeFree ?_ | with_reducible refine ok_takeFree_eq ?_ ‹_› | with_reducible refine ok_frameIn ?_ | with_reducible refine ok_evtMark ?_ | with_reducible refine ok_raise ?_ | with_reducible refine ok_reEnum ?_ | with_reducible refine ok_ringCut ?_ | with_reducible refine ok_traceAdd ?_ | with_reducible refine ok_ite ?_ ?_ | with_reducible refine okO_ite ?_ ?_ | with_reducible refine okO_next ?_ | with_reducible refine ok_foldl ?_ ?_ | intro _ | extract_lets | split | (conv => arg 2; dsimp +zetaDelta only))

theorem ok_ownNack {o s : State} (h : Ok o s) {a1 : Nat} {a2 : OwnReq} {a3 : Nat} : Ok o (State.ownNack s a1 a2 a3) := by
  unfold State.ownNack
  repeat' (first | with_reducible assumption | (fail_if_no_progress (extract_lets +onlyGivenNames x); first | (refine ok_have x ?_ ?_; on_goal 1 => subst x; on_goal 2 => (clear_value x; intro _)) | skip) | with_reducible refine ok_ownRetry ?_ | with_reducible refine ok_ownDrop ?_ | with_reducible refine ok_holdFailed ?_ | with_reducible refine ok_ite ?_ ?_ | with_reducible refine ok_foldl ?_ ?_ | intro _ | extract_lets | split | (conv => arg 2; dsimp +zetaDelta only))

theorem ok_execNackRx {o s : State} (h : Ok o s) {a0 : Nat} {a1 : NackFrame} : OkO o (execNackRx a0 a1 s) := by
  unfold execNackRx
  repeat' (first | with_reducible assumption | (fail_if_no_progress (extract_lets +onlyGivenNames x); first | (refine okO_have x ?_ ?_; on_goal 1 => subst x; on_goal 2 => (clear_value x; intro _)) | skip) | with_reducible refine ok_takeFree ?_ | with_reducible refine ok_takeFree_eq ?_ ‹_› | with_reducible refine ok_frameIn ?_ | with_reducible refine ok_incSat ?_ | with_reducible refine ok_ownNack ?_ | with_reducible refine ok_xactRetry ?_ | with_reducible refine ok_mbxEnd ?_ | with_reducible refine ok_ite ?_ ?_ | with_reducible refine okO_ite ?_ ?_ | with_reducible refine okO_next ?_ | with_reducible refine ok_foldl ?_ ?_ | intro _ | extract_lets | split | (conv => arg 2; dsimp +zetaDelta only))

theorem ok_execReplyRx {o s : State} (h : Ok o s) {a0 : Nat} {a1 : RingFrame} : OkO o (execReplyRx a0 a1 s) := by
  unfold execReplyRx
  repeat' (first | with_reducible assumption | (fail_if_no_progress (extract_lets +onlyGivenNames x); first | (refine okO_have x ?_ ?_; on_goal 1 => subst x; on_goal 2 => (clear_value x; intro _)) | skip) | with_reducible refine ok_incSat ?_ | with_reducible refine ok_frameIn ?_ | with_reducible refine ok_ownDone ?_ | with_reducible refine ok_ownDrop ?_ | with_reducible refine ok_setN ?_ | with_reducible refine ok_mbxEnd ?_ | with_reducible refine ok_ite ?_ ?_ | with_reducible refine okO_ite ?_ ?_ | with_reducible refine okO_next ?_ | with_reducible refine ok_foldl ?_ ?_ | intro _ | extract_lets | split | (conv => arg 2; dsimp +zetaDelta only))

theorem ok_execFarSetpointRx {o s : State} (h : Ok o s) {a0 : Nat} {a1 : FarSetpoint} : OkO o (execFarSetpointRx a0 a1 s) := by
  unfold execFarSetpointRx
  repeat' (first | with_reducible assumption | (fail_if_no_progress (extract_lets +onlyGivenNames x); first | (refine okO_have x ?_ ?_; on_goal 1 => subst x; on_goal 2 => (clear_value x; intro _)) | skip) | with_reducible refine ok_updPair ?_ | with_reducible refine ok_ite ?_ ?_ | with_reducible refine okO_ite ?_ ?_ | with_reducible refine okO_next ?_ | with_reducible refine ok_foldl ?_ ?_ | intro _ | extract_lets | split | (conv => arg 2; dsimp +zetaDelta only))

theorem ok_execResponseTimeout {o s : State} (h : Ok o s) {a0 : Nat} {a1 : Byte} : OkO o (execResponseTimeout a0 a1 s) := by
  unfold execResponseTimeout
  repeat' (first | with_reducible assumption | (fail_if_no_progress (extract_lets +onlyGivenNames x); first | (refine okO_have x ?_ ?_; on_goal 1 => subst x; on_goal 2 => (clear_value x; intro _)) | skip) | with_reducible refine ok_ownRetry ?_ | with_reducible refine ok_xactRetry ?_ | with_reducible refine ok_ite ?_ ?_ | with_reducible refine okO_ite ?_ ?_ | with_reducible refine okO_next ?_ | with_reducible refine ok_foldl ?_ ?_ | intro _ | extract_lets | split | (conv => arg 2; dsimp +zetaDelta only))

theorem ok_execEnumerationWalk {o s : State} (h : Ok o s) {a0 : Nat} {a1 : WalkResult} : OkO o (execEnumerationWalk a0 a1 s) := by
  unfold execEnumerationWalk
  repeat' (first | with_reducible assumption | (fail_if_no_progress (extract_lets +onlyGivenNames x); first | (refine okO_have x ?_ ?_; on_goal 1 => subst x; on_goal 2 => (clear_value x; intro _)) | skip) | with_reducible refine ok_askSeen ?_ | with_reducible refine ok_walkDone ?_ | with_reducible refine ok_ite ?_ ?_ | with_reducible refine okO_ite ?_ ?_ | with_reducible refine okO_next ?_ | with_reducible refine ok_foldl ?_ ?_ | intro _ | extract_lets | split | (conv => arg 2; dsimp +zetaDelta only))

theorem ok_execRemeasTimer {o s : State} (h : Ok o s) {a0 : Nat} {a1 : WalkResult} : OkO o (execRemeasTimer a0 a1 s) := by
  unfold execRemeasTimer
  repeat' (first | with_reducible assumption | (fail_if_no_progress (extract_lets +onlyGivenNames x); first | (refine okO_have x ?_ ?_; on_goal 1 => subst x; on_goal 2 => (clear_value x; intro _)) | skip) | with_reducible refine ok_updPort ?_ | with_reducible refine ok_walkDone ?_ | with_reducible refine ok_reEnum ?_ | with_reducible refine ok_ringFound ?_ | with_reducible refine ok_measureNode ?_ | with_reducible refine ok_ite ?_ ?_ | with_reducible refine okO_ite ?_ ?_ | with_reducible refine okO_next ?_ | with_reducible refine ok_foldl ?_ ?_ | intro _ | extract_lets | split | (conv => arg 2; dsimp +zetaDelta only))

theorem ok_execHoldTimeWrite {o s : State} (h : Ok o s) {a0 : Nat} : OkO o (execHoldTimeWrite a0 s) := by
  unfold execHoldTimeWrite
  repeat' (first | with_reducible assumption | (fail_if_no_progress (extract_lets +onlyGivenNames x); first | (refine okO_have x ?_ ?_; on_goal 1 => subst x; on_goal 2 => (clear_value x; intro _)) | skip) | with_reducible refine ok_ask ?_ | with_reducible refine ok_updPort ?_ | with_reducible refine ok_ite ?_ ?_ | with_reducible refine okO_ite ?_ ?_ | with_reducible refine okO_next ?_ | with_reducible refine ok_foldl ?_ ?_ | intro _ | extract_lets | split | (conv => arg 2; dsimp +zetaDelta only))

theorem ok_locateRing {o s : State} (h : Ok o s) {a1 : Nat} {a2 : WalkResult} : Ok o (State.locateRing s a1 a2) := by
  unfold State.locateRing
  repeat' (first | with_reducible assumption | (fail_if_no_progress (extract_lets +onlyGivenNames x); first | (refine ok_have x ?_ ?_; on_goal 1 => subst x; on_goal 2 => (clear_value x; intro _)) | skip) | with_reducible refine ok_setF ?_ | with_reducible refine ok_setB ?_ | with_reducible refine ok_ringFound ?_ | with_reducible refine ok_forAll ?_ ?_ | with_reducible refine ok_ite ?_ ?_ | with_reducible refine ok_foldl ?_ ?_ | intro _ | extract_lets | split | (conv => arg 2; dsimp +zetaDelta only))

theorem ok_execRingBreak {o s : State} (h : Ok o s) {a0 : Nat} {a1 : WalkResult} : OkO o (execRingBreak a0 a1 s) := by
  unfold execRingBreak
  repeat' (first | with_reducible assumption | (fail_if_no_progress (extract_lets +onlyGivenNames x); first | (refine okO_have x ?_ ?_; on_goal 1 => subst x; on_goal 2 => (clear_value x; intro _)) | skip) | with_reducible refine ok_locateRing ?_ | with_reducible refine ok_ite ?_ ?_ | with_reducible refine okO_ite ?_ ?_ | with_reducible refine okO_next ?_ | with_reducible refine ok_foldl ?_ ?_ | intro _ | extract_lets | split | (conv => arg 2; dsimp +zetaDelta only))

theorem ok_execRingClose {o s : State} (h : Ok o s) {a0 : Nat} {a1 : WalkResult} : OkO o (execRingClose a0 a1 s) := by
  unfold execRingClose
  repeat' (first | with_reducible assumption | (fail_if_no_progress (extract_lets +onlyGivenNames x); first | (refine okO_have x ?_ ?_; on_goal 1 => subst x; on_goal 2 => (clear_value x; intro _)) | skip) | with_reducible refine ok_locateRing ?_ | with_reducible refine ok_reEnum ?_ | with_reducible refine ok_ite ?_ ?_ | with_reducible refine okO_ite ?_ ?_ | with_reducible refine okO_next ?_ | with_reducible refine ok_foldl ?_ ?_ | intro _ | extract_lets | split | (conv => arg 2; dsimp +zetaDelta only))

theorem ok_crcError {o s : State} (h : Ok o s) {a1 : Nat} {a2 : RaiseHow} : Ok o (State.crcError s a1 a2) := by
  unfold State.crcError
  repeat' (first | with_reducible assumption | (fail_if_no_progress (extract_lets +onlyGivenNames x); first | (refine ok_have x ?_ ?_; on_goal 1 => subst x; on_goal 2 => (clear_value x; intro _)) | skip) | with_reducible refine ok_updPort ?_ | with_reducible refine ok_incSat ?_ | with_reducible refine ok_raiseN ?_ | with_reducible refine ok_ite ?_ ?_ | with_reducible refine ok_foldl ?_ ?_ | intro _ | extract_lets | split | (conv => arg 2; dsimp +zetaDelta only))

theorem ok_execYoridFrameDiscarded {o s : State} (h : Ok o s) {a0 : Nat} {a1 : FrameError} : OkO o (execYoridFrameDiscarded a0 a1 s) := by
  unfold execYoridFrameDiscarded
  repeat' (first | with_reducible assumption | (fail_if_no_progress (extract_lets +onlyGivenNames x); first | (refine okO_have x ?_ ?_; on_goal 1 => subst x; on_goal 2 => (clear_value x; intro _)) | skip) | with_reducible refine ok_incSat ?_ | with_reducible refine ok_crcError ?_ | with_reducible refine ok_ite ?_ ?_ | with_reducible refine okO_ite ?_ ?_ | with_reducible refine okO_next ?_ | with_reducible refine ok_foldl ?_ ?_ | intro _ | extract_lets | split | (conv => arg 2; dsimp +zetaDelta only))

theorem ok_execEnumRequestAtPort {o s : State} (h : Ok o s) {a0 : Nat} {a1 : EnumCmd} {a2 : Byte} {a3 : Byte} : OkO o (execEnumRequestAtPort a0 a1 a2 a3 s) := by
  unfold execEnumRequestAtPort
  repeat' (first | with_reducible assumption | (fail_if_no_progress (extract_lets +onlyGivenNames x); first | (refine okO_have x ?_ ?_; on_goal 1 => subst x; on_goal 2 => (clear_value x; intro _)) | skip) | with_reducible refine ok_takeFree ?_ | with_reducible refine ok_takeFree_eq ?_ ‹_› | with_reducible refine ok_queueTx ?_ | with_reducible refine ok_ite ?_ ?_ | with_reducible refine okO_ite ?_ ?_ | with_reducible refine okO_next ?_ | with_reducible refine ok_foldl ?_ ?_ | intro _ | extract_lets | split | (conv => arg 2; dsimp +zetaDelta only))

theorem ok_updSample {o s : State} (h : Ok o s) {a1 : SampleSt → SampleSt} : Ok o (State.updSample s a1) := by
  unfold State.updSample
  repeat' (first | with_reducible assumption | (fail_if_no_progress (extract_lets +onlyGivenNames x); first | (refine ok_have x ?_ ?_; on_goal 1 => subst x; on_goal 2 => (clear_value x; intro _)) | skip) | ((conv => arg 2; arg 27; skip); with_reducible refine ok_mk ?_ rfl) | with_reducible refine ok_ite ?_ ?_ | with_reducible refine ok_foldl ?_ ?_ | intro _ | extract_lets | split | (conv => arg 2; dsimp +zetaDelta only))

theorem ok_showNextSsn {o s : State} (h : Ok o s) : Ok o (State.showNextSsn s) := by
  unfold State.showNextSsn
  repeat' (first | with_reducible assumption | (fail_if_no_progress (extract_lets +onlyGivenNames x); first | (refine ok_have x ?_ ?_; on_goal 1 => subst x; on_goal 2 => (clear_value x; intro _)) | skip) | with_reducible refine ok_setReg ?_ | with_reducible refine ok_ite ?_ ?_ | with_reducible refine ok_foldl ?_ ?_ | intro _ | extract_lets | split | (conv => arg 2; dsimp +zetaDelta only))

theorem ok_openSet {o s : State} (h : Ok o s) {a1 : Nat} : Ok o (State.openSet s a1) := by
  unfold State.openSet
  repeat' (first | with_reducible assumption | (fail_if_no_progress (extract_lets +onlyGivenNames x); first | (refine ok_have x ?_ ?_; on_goal 1 => subst x; on_goal 2 => (clear_value x; intro _)) | skip) | with_reducible refine ok_updSample ?_ | with_reducible refine ok_updPort ?_ | with_reducible refine ok_writeBytes ?_ | with_reducible refine ok_showNextSsn ?_ | with_reducible refine ok_forAll ?_ ?_ | with_reducible refine ok_ite ?_ ?_ | with_reducible refine ok_foldl ?_ ?_ | intro _ | extract_lets | split | (conv => arg 2; dsimp +zetaDelta only))

theorem ok_estGap {o s : State} (h : Ok o s) : Ok o (State.estGap s) := by
  unfold State.estGap
  repeat' (first | with_reducible assumption | (fail_if_no_progress (extract_lets +onlyGivenNames x); first | (refine ok_have x ?_ ?_; on_goal 1 => subst x; on_goal 2 => (clear_value x; intro _)) | skip) | ((conv => arg 2; arg 27; skip); with_reducible refine ok_mk ?_ rfl) | with_reducible refine ok_ite ?_ ?_ | with_reducible refine ok_foldl ?_ ?_ | intro _ | extract_lets | split | (conv => arg 2; dsimp +zetaDelta only))

theorem ok_sampleCntClr {o s : State} (h : Ok o s) : Ok o (State.sampleCntClr s) := by
  unfold State.sampleCntClr
  repeat' (first | with_reducible assumption | (fail_if_no_progress (extract_lets +onlyGivenNames x); first | (refine ok_have x ?_ ?_; on_goal 1 => subst x; on_goal 2 => (clear_value x; intro _)) | skip) | with_reducible refine ok_setReg ?_ | with_reducible refine ok_ite ?_ ?_ | with_reducible refine ok_foldl ?_ ?_ | intro _ | extract_lets | split | (conv => arg 2; dsimp +zetaDelta only))

theorem ok_gatherString {o s : State} (h : Ok o s) {a1 : Word} {a2 : Nat} : Ok o (State.gatherString s a1 a2) := by
  unfold State.gatherString
  repeat' (first | with_reducible assumption | (fail_if_no_progress (extract_lets +onlyGivenNames x); first | (refine ok_have x ?_ ?_; on_goal 1 => subst x; on_goal 2 => (clear_value x; intro _)) | skip) | with_reducible refine ok_writeBytes ?_ | with_reducible refine ok_ite ?_ ?_ | with_reducible refine ok_foldl ?_ ?_ | intro _ | extract_lets | split | (conv => arg 2; dsimp +zetaDelta only))

theorem ok_execSamplePageStart {o s : State} (h : Ok o s) : OkO o (execSamplePageStart s) := by
  unfold execSamplePageStart
  repeat' (first | with_reducible assumption | (fail_if_no_progress (extract_lets +onlyGivenNames x); first | (refine okO_have x ?_ ?_; on_goal 1 => subst x; on_goal 2 => (clear_value x; intro _)) | skip) | with_reducible refine ok_ask ?_ | with_reducible refine ok_showNextSsn ?_ | with_reducible refine ok_updSample ?_ | with_reducible refine ok_forAll ?_ ?_ | with_reducible refine ok_ite ?_ ?_ | with_reducible refine okO_ite ?_ ?_ | with_reducible refine okO_next ?_ | with_reducible refine ok_foldl ?_ ?_ | intro _ | extract_lets | split | (conv => arg 2; dsimp +zetaDelta only))

theorem ok_execSyncEmission {o s : State} (h : Ok o s) : OkO o (execSyncEmission s) := by
  unfold execSyncEmission
  repeat' (first | with_reducible assumption | (fail_if_no_progress (extract_lets +onlyGivenNames x); first | (refine okO_have x ?_ ?_; on_goal 1 => subst x; on_goal 2 => (clear_value x; intro _)) | skip) | with_reducible refine ok_openSet ?_ | with_reducible refine ok_ite ?_ ?_ | with_reducible refine okO_ite ?_ ?_ | with_reducible refine okO_next ?_ | with_reducible refine ok_foldl ?_ ?_ | intro _ | extract_lets | split | (conv => arg 2; dsimp +zetaDelta only))

theorem ok_execSampleInstant {o s : State} (h : Ok o s) {a0 : SetIn} : OkO o (execSampleInstant a0 s) := by
  unfold execSampleInstant
  repeat' (first | with_reducible assumption | (fail_if_no_progress (extract_lets +onlyGivenNames x); first | (refine okO_have x ?_ ?_; on_goal 1 => subst x; on_goal 2 => (clear_value x; intro _)) | skip) | with_reducible refine ok_updShelf ?_ | with_reducible refine ok_updSample ?_ | with_reducible refine ok_settle ?_ | with_reducible refine ok_ite ?_ ?_ | with_reducible refine okO_ite ?_ ?_ | with_reducible refine okO_next ?_ | with_reducible refine ok_foldl ?_ ?_ | intro _ | extract_lets | split | (conv => arg 2; dsimp +zetaDelta only))

theorem ok_execSetClose {o s : State} (h : Ok o s) : OkO o (execSetClose s) := by
  unfold execSetClose
  repeat' (first | with_reducible assumption | (fail_if_no_progress (extract_lets +onlyGivenNames x); first | (refine okO_have x ?_ ?_; on_goal 1 => subst x; on_goal 2 => (clear_value x; intro _)) | skip) | with_reducible refine ok_incSat ?_ | with_reducible refine ok_updShelf ?_ | with_reducible refine ok_estGap ?_ | with_reducible refine ok_updSample ?_ | with_reducible refine ok_ite ?_ ?_ | with_reducible refine okO_ite ?_ ?_ | with_reducible refine okO_next ?_ | with_reducible refine ok_foldl ?_ ?_ | intro _ | extract_lets | split | (conv => arg 2; dsimp +zetaDelta only))

theorem ok_execSetGatherComplete {o s : State} (h : Ok o s) : OkO o (execSetGatherComplete s) := by
  unfold execSetGatherComplete
  repeat' (first | with_reducible assumption | (fail_if_no_progress (extract_lets +onlyGivenNames x); first | (refine okO_have x ?_ ?_; on_goal 1 => subst x; on_goal 2 => (clear_value x; intro _)) | skip) | with_reducible refine ok_gatherString ?_ | with_reducible refine ok_updSample ?_ | with_reducible refine ok_forAll ?_ ?_ | with_reducible refine ok_ite ?_ ?_ | with_reducible refine okO_ite ?_ ?_ | with_reducible refine okO_next ?_ | with_reducible refine ok_foldl ?_ ?_ | intro _ | extract_lets | split | (conv => arg 2; dsimp +zetaDelta only))

theorem ok_execSdmStuck {o s : State} (h : Ok o s) {a0 : Nat} : OkO o (execSdmStuck a0 s) := by
  unfold execSdmStuck
  repeat' (first | with_reducible assumption | (fail_if_no_progress (extract_lets +onlyGivenNames x); first | (refine okO_have x ?_ ?_; on_goal 1 => subst x; on_goal 2 => (clear_value x; intro _)) | skip) | with_reducible refine ok_putBit ?_ | with_reducible refine ok_updShelf ?_ | with_reducible refine ok_setF ?_ | with_reducible refine ok_setWatch ?_ | with_reducible refine ok_plausCond ?_ | with_reducible refine ok_raise ?_ | with_reducible refine ok_ite ?_ ?_ | with_reducible refine okO_ite ?_ ?_ | with_reducible refine okO_next ?_ | with_reducible refine ok_foldl ?_ ?_ | intro _ | extract_lets | split | (conv => arg 2; dsimp +zetaDelta only))

theorem ok_execSdmStuckEnd {o s : State} (h : Ok o s) {a0 : Nat} : OkO o (execSdmStuckEnd a0 s) := by
  unfold execSdmStuckEnd
  repeat' (first | with_reducible assumption | (fail_if_no_progress (extract_lets +onlyGivenNames x); first | (refine okO_have x ?_ ?_; on_goal 1 => subst x; on_goal 2 => (clear_value x; intro _)) | skip) | with_reducible refine ok_plausCond ?_ | with_reducible refine ok_putBit ?_ | with_reducible refine ok_ite ?_ ?_ | with_reducible refine okO_ite ?_ ?_ | with_reducible refine okO_next ?_ | with_reducible refine ok_foldl ?_ ?_ | intro _ | extract_lets | split | (conv => arg 2; dsimp +zetaDelta only))

theorem ok_execPlausFailCount {o s : State} (h : Ok o s) : OkO o (execPlausFailCount s) := by
  unfold execPlausFailCount
  repeat' (first | with_reducible assumption | (fail_if_no_progress (extract_lets +onlyGivenNames x); first | (refine okO_have x ?_ ?_; on_goal 1 => subst x; on_goal 2 => (clear_value x; intro _)) | skip) | with_reducible refine ok_raise ?_ | with_reducible refine ok_plausCond ?_ | with_reducible refine ok_setF ?_ | with_reducible refine ok_ite ?_ ?_ | with_reducible refine okO_ite ?_ ?_ | with_reducible refine okO_next ?_ | with_reducible refine ok_foldl ?_ ?_ | intro _ | extract_lets | split | (conv => arg 2; dsimp +zetaDelta only))

theorem ok_execSyncRx {o s : State} (h : Ok o s) {a0 : Nat} {a1 : Byte} : OkO o (execSyncRx a0 a1 s) := by
  unfold execSyncRx
  repeat' (first | with_reducible assumption | (fail_if_no_progress (extract_lets +onlyGivenNames x); first | (refine okO_have x ?_ ?_; on_goal 1 => subst x; on_goal 2 => (clear_value x; intro _)) | skip) | with_reducible refine ok_openSet ?_ | with_reducible refine ok_ite ?_ ?_ | with_reducible refine okO_ite ?_ ?_ | with_reducible refine okO_next ?_ | with_reducible refine ok_foldl ?_ ?_ | intro _ | extract_lets | split | (conv => arg 2; dsimp +zetaDelta only))

theorem ok_fmRelease {o s : State} (h : Ok o s) : Ok o (State.fmRelease s) := by
  unfold State.fmRelease
  repeat' (first | with_reducible assumption | (fail_if_no_progress (extract_lets +onlyGivenNames x); first | (refine ok_have x ?_ ?_; on_goal 1 => subst x; on_goal 2 => (clear_value x; intro _)) | skip) | with_reducible refine ok_updPort ?_ | with_reducible refine ok_ringClear ?_ | with_reducible refine ok_setCond ?_ | with_reducible refine ok_setF ?_ | with_reducible refine ok_forAll ?_ ?_ | ((conv => arg 2; arg 27; skip); with_reducible refine ok_mk ?_ rfl) | with_reducible refine ok_ite ?_ ?_ | with_reducible refine ok_foldl ?_ ?_ | intro _ | extract_lets | split | (conv => arg 2; dsimp +zetaDelta only))

theorem ok_sdmaCmd {o s : State} (h : Ok o s) {a1 : Nat} {a2 : Nat} : Ok o (State.sdmaCmd s a1 a2) := by
  unfold State.sdmaCmd
  repeat' (first | with_reducible assumption | (fail_if_no_progress (extract_lets +onlyGivenNames x); first | (refine ok_have x ?_ ?_; on_goal 1 => subst x; on_goal 2 => (clear_value x; intro _)) | skip) | with_reducible refine ok_countChg ?_ | with_reducible refine ok_setF ?_ | with_reducible refine ok_ite ?_ ?_ | with_reducible refine ok_foldl ?_ ?_ | intro _ | extract_lets | split | (conv => arg 2; dsimp +zetaDelta only))

theorem ok_sdmaDo {o s : State} (h : Ok o s) {a1 : Nat} {a2 : Nat} : Ok o (State.sdmaDo s a1 a2) := by
  unfold State.sdmaDo
  repeat' (first | with_reducible assumption | (fail_if_no_progress (extract_lets +onlyGivenNames x); first | (refine ok_have x ?_ ?_; on_goal 1 => subst x; on_goal 2 => (clear_value x; intro _)) | skip) | with_reducible refine ok_sdmaFetch ?_ | with_reducible refine ok_sdmaStop ?_ | with_reducible refine ok_sdmaResume ?_ | with_reducible refine ok_sdmaDrop ?_ | with_reducible refine ok_ite ?_ ?_ | with_reducible refine ok_foldl ?_ ?_ | intro _ | extract_lets | split | (conv => arg 2; dsimp +zetaDelta only))

theorem ok_execFmoverBusError {o s : State} (h : Ok o s) {a0 : Option Word} {a1 : BitVec 4} {a2 : Bool} : OkO o (execFmoverBusError a0 a1 a2 s) := by
  unfold execFmoverBusError
  repeat' (first | with_reducible assumption | (fail_if_no_progress (extract_lets +onlyGivenNames x); first | (refine okO_have x ?_ ?_; on_goal 1 => subst x; on_goal 2 => (clear_value x; intro _)) | skip) | with_reducible refine ok_incSat ?_ | with_reducible refine ok_setReg ?_ | with_reducible refine ok_setF ?_ | with_reducible refine ok_setB ?_ | with_reducible refine ok_raiseL ?_ | ((conv => arg 2; arg 27; skip); with_reducible refine ok_mk ?_ rfl) | with_reducible refine ok_ite ?_ ?_ | with_reducible refine okO_ite ?_ ?_ | with_reducible refine okO_next ?_ | with_reducible refine ok_foldl ?_ ?_ | intro _ | extract_lets | split | (conv => arg 2; dsimp +zetaDelta only))

theorem ok_execFmoverRestart {o s : State} (h : Ok o s) : OkO o (execFmoverRestart s) := by
  unfold execFmoverRestart
  repeat' (first | with_reducible assumption | (fail_if_no_progress (extract_lets +onlyGivenNames x); first | (refine okO_have x ?_ ?_; on_goal 1 => subst x; on_goal 2 => (clear_value x; intro _)) | skip) | with_reducible refine ok_fmRelease ?_ | with_reducible refine ok_ite ?_ ?_ | with_reducible refine okO_ite ?_ ?_ | with_reducible refine okO_next ?_ | with_reducible refine ok_foldl ?_ ?_ | intro _ | extract_lets | split | (conv => arg 2; dsimp +zetaDelta only))

theorem ok_execSdmaDescriptorComplete {o s : State} (h : Ok o s) {a0 : Nat} : OkO o (execSdmaDescriptorComplete a0 s) := by
  unfold execSdmaDescriptorComplete
  repeat' (first | with_reducible assumption | (fail_if_no_progress (extract_lets +onlyGivenNames x); first | (refine okO_have x ?_ ?_; on_goal 1 => subst x; on_goal 2 => (clear_value x; intro _)) | skip) | with_reducible refine ok_writeBytes ?_ | with_reducible refine ok_moveElems ?_ | with_reducible refine ok_moveElems_eq ?_ ‹_› | with_reducible refine ok_sdmaHalt ?_ | with_reducible refine ok_descEnd ?_ | with_reducible refine ok_setN ?_ | with_reducible refine ok_sdmaGoOn ?_ | with_reducible refine ok_ite ?_ ?_ | with_reducible refine okO_ite ?_ ?_ | with_reducible refine okO_next ?_ | with_reducible refine ok_foldl ?_ ?_ | intro _ | extract_lets | split | (conv => arg 2; dsimp +zetaDelta only))

theorem ok_execSdmaStart {o s : State} (h : Ok o s) {a0 : Nat} : OkO o (execSdmaStart a0 s) := by
  unfold execSdmaStart
  repeat' (first | with_reducible assumption | (fail_if_no_progress (extract_lets +onlyGivenNames x); first | (refine okO_have x ?_ ?_; on_goal 1 => subst x; on_goal 2 => (clear_value x; intro _)) | skip) | with_reducible refine ok_sdmaCmd ?_ | with_reducible refine ok_sdmaFetch ?_ | with_reducible refine ok_ite ?_ ?_ | with_reducible refine okO_ite ?_ ?_ | with_reducible refine okO_next ?_ | with_reducible refine ok_foldl ?_ ?_ | intro _ | extract_lets | split | (conv => arg 2; dsimp +zetaDelta only))

theorem ok_execSdmaStop {o s : State} (h : Ok o s) {a0 : Nat} : OkO o (execSdmaStop a0 s) := by
  unfold execSdmaStop
  repeat' (first | with_reducible assumption | (fail_if_no_progress (extract_lets +onlyGivenNames x); first | (refine okO_have x ?_ ?_; on_goal 1 => subst x; on_goal 2 => (clear_value x; intro _)) | skip) | with_reducible refine ok_sdmaStop ?_ | with_reducible refine ok_sdmaCmd ?_ | with_reducible refine ok_ite ?_ ?_ | with_reducible refine okO_ite ?_ ?_ | with_reducible refine okO_next ?_ | with_reducible refine ok_foldl ?_ ?_ | intro _ | extract_lets | split | (conv => arg 2; dsimp +zetaDelta only))

theorem ok_execSdmaResume {o s : State} (h : Ok o s) {a0 : Nat} : OkO o (execSdmaResume a0 s) := by
  unfold execSdmaResume
  repeat' (first | with_reducible assumption | (fail_if_no_progress (extract_lets +onlyGivenNames x); first | (refine okO_have x ?_ ?_; on_goal 1 => subst x; on_goal 2 => (clear_value x; intro _)) | skip) | with_reducible refine ok_sdmaResume ?_ | with_reducible refine ok_sdmaCmd ?_ | with_reducible refine ok_ite ?_ ?_ | with_reducible refine okO_ite ?_ ?_ | with_reducible refine okO_next ?_ | with_reducible refine ok_foldl ?_ ?_ | intro _ | extract_lets | split | (conv => arg 2; dsimp +zetaDelta only))

theorem ok_execSdmaSkip {o s : State} (h : Ok o s) {a0 : Nat} : OkO o (execSdmaSkip a0 s) := by
  unfold execSdmaSkip
  repeat' (first | with_reducible assumption | (fail_if_no_progress (extract_lets +onlyGivenNames x); first | (refine okO_have x ?_ ?_; on_goal 1 => subst x; on_goal 2 => (clear_value x; intro _)) | skip) | with_reducible refine ok_sdmaDrop ?_ | with_reducible refine ok_sdmaCmd ?_ | with_reducible refine ok_ite ?_ ?_ | with_reducible refine okO_ite ?_ ?_ | with_reducible refine okO_next ?_ | with_reducible refine ok_foldl ?_ ?_ | intro _ | extract_lets | split | (conv => arg 2; dsimp +zetaDelta only))

theorem ok_execSdmaAbort {o s : State} (h : Ok o s) {a0 : Nat} : OkO o (execSdmaAbort a0 s) := by
  unfold execSdmaAbort
  repeat' (first | with_reducible assumption | (fail_if_no_progress (extract_lets +onlyGivenNames x); first | (refine okO_have x ?_ ?_; on_goal 1 => subst x; on_goal 2 => (clear_value x; intro _)) | skip) | with_reducible refine ok_sdmaDrop ?_ | with_reducible refine ok_sdmaCmd ?_ | with_reducible refine ok_ite ?_ ?_ | with_reducible refine okO_ite ?_ ?_ | with_reducible refine okO_next ?_ | with_reducible refine ok_foldl ?_ ?_ | intro _ | extract_lets | split | (conv => arg 2; dsimp +zetaDelta only))

theorem ok_execSdmaBusError {o s : State} (h : Ok o s) {a0 : Nat} {a1 : Word} {a2 : Bool} : OkO o (execSdmaBusError a0 a1 a2 s) := by
  unfold execSdmaBusError
  repeat' (first | with_reducible assumption | (fail_if_no_progress (extract_lets +onlyGivenNames x); first | (refine okO_have x ?_ ?_; on_goal 1 => subst x; on_goal 2 => (clear_value x; intro _)) | skip) | with_reducible refine ok_sdmaHalt ?_ | with_reducible refine ok_movePart ?_ | with_reducible refine ok_ite ?_ ?_ | with_reducible refine okO_ite ?_ ?_ | with_reducible refine okO_next ?_ | with_reducible refine ok_foldl ?_ ?_ | intro _ | extract_lets | split | (conv => arg 2; dsimp +zetaDelta only))

theorem ok_updMsg {o s : State} (h : Ok o s) {a1 : Nat} {a2 : MsgSt → MsgSt} : Ok o (State.updMsg s a1 a2) := by
  unfold State.updMsg
  repeat' (first | with_reducible assumption | (fail_if_no_progress (extract_lets +onlyGivenNames x); first | (refine ok_have x ?_ ?_; on_goal 1 => subst x; on_goal 2 => (clear_value x; intro _)) | skip) | ((conv => arg 2; arg 27; skip); with_reducible refine ok_mk ?_ rfl) | with_reducible refine ok_ite ?_ ?_ | with_reducible refine ok_foldl ?_ ?_ | intro _ | extract_lets | split | (conv => arg 2; dsimp +zetaDelta only))

theorem ok_sendTagged {o s : State} (h : Ok o s) {a1 : Nat} {a2 : Nat} {a3 : Nat} {a4 : Nat} {a5 : List Nat} : Ok o (State.sendTagged s a1 a2 a3 a4 a5) := by
  unfold State.sendTagged
  repeat' (first | with_reducible assumption | (fail_if_no_progress (extract_lets +onlyGivenNames x); first | (refine ok_have x ?_ ?_; on_goal 1 => subst x; on_goal 2 => (clear_value x; intro _)) | skip) | with_reducible refine ok_updMsg ?_ | with_reducible refine ok_incSat ?_ | with_reducible refine ok_ite ?_ ?_ | with_reducible refine ok_foldl ?_ ?_ | intro _ | extract_lets | split | (conv => arg 2; dsimp +zetaDelta only))

theorem ok_sendMsg {o s : State} (h : Ok o s) {a1 : Nat} {a2 : Nat} {a3 : Nat} {a4 : List Nat} : Ok o (State.sendMsg s a1 a2 a3 a4) := by
  unfold State.sendMsg
  repeat' (first | with_reducible assumption | (fail_if_no_progress (extract_lets +onlyGivenNames x); first | (refine ok_have x ?_ ?_; on_goal 1 => subst x; on_goal 2 => (clear_value x; intro _)) | skip) | with_reducible refine ok_takeFree ?_ | with_reducible refine ok_takeFree_eq ?_ ‹_› | with_reducible refine ok_sendTagged ?_ | with_reducible refine ok_ite ?_ ?_ | with_reducible refine ok_foldl ?_ ?_ | intro _ | extract_lets | split | (conv => arg 2; dsimp +zetaDelta only))

theorem ok_sendPlant {o s : State} (h : Ok o s) {a1 : Nat} {a2 : List Nat} : Ok o (State.sendPlant s a1 a2) := by
  unfold State.sendPlant
  repeat' (first | with_reducible assumption | (fail_if_no_progress (extract_lets +onlyGivenNames x); first | (refine ok_have x ?_ ?_; on_goal 1 => subst x; on_goal 2 => (clear_value x; intro _)) | skip) | with_reducible refine ok_sendMsg ?_ | with_reducible refine ok_ite ?_ ?_ | with_reducible refine ok_foldl ?_ ?_ | intro _ | extract_lets | split | (conv => arg 2; dsimp +zetaDelta only))

theorem ok_restRequest {o s : State} (h : Ok o s) : Ok o (State.restRequest s) := by
  unfold State.restRequest
  repeat' (first | with_reducible assumption | (fail_if_no_progress (extract_lets +onlyGivenNames x); first | (refine ok_have x ?_ ?_; on_goal 1 => subst x; on_goal 2 => (clear_value x; intro _)) | skip) | with_reducible refine ok_sendPlant ?_ | with_reducible refine ok_ite ?_ ?_ | with_reducible refine ok_foldl ?_ ?_ | intro _ | extract_lets | split | (conv => arg 2; dsimp +zetaDelta only))

theorem ok_estPrep {o s : State} (h : Ok o s) {a1 : Nat} : Ok o (State.estPrep s a1) := by
  unfold State.estPrep
  repeat' (first | with_reducible assumption | (fail_if_no_progress (extract_lets +onlyGivenNames x); first | (refine ok_have x ?_ ?_; on_goal 1 => subst x; on_goal 2 => (clear_value x; intro _)) | skip) | with_reducible refine ok_learnDisq ?_ | with_reducible refine ok_updEst ?_ | with_reducible refine ok_raise ?_ | with_reducible refine ok_ite ?_ ?_ | with_reducible refine ok_foldl ?_ ?_ | intro _ | extract_lets | split | (conv => arg 2; dsimp +zetaDelta only))

theorem ok_countCharge {o s : State} (h : Ok o s) {a1 : Nat} {a2 : Word} {a3 : Word} {a4 : Word} {a5 : Nat} : Ok o (State.countCharge s a1 a2 a3 a4 a5) := by
  unfold State.countCharge
  repeat' (first | with_reducible assumption | (fail_if_no_progress (extract_lets +onlyGivenNames x); first | (refine ok_have x ?_ ?_; on_goal 1 => subst x; on_goal 2 => (clear_value x; intro _)) | skip) | with_reducible refine ok_setReg ?_ | with_reducible refine ok_updEst ?_ | with_reducible refine ok_ite ?_ ?_ | with_reducible refine ok_foldl ?_ ?_ | intro _ | extract_lets | split | (conv => arg 2; dsimp +zetaDelta only))

theorem ok_cellRaises {o s : State} (h : Ok o s) {a1 : Nat} {a2 : List (Nat × CellEvents)} : Ok o (State.cellRaises s a1 a2) := by
  unfold State.cellRaises
  repeat' (first | with_reducible assumption | (fail_if_no_progress (extract_lets +onlyGivenNames x); first | (refine ok_have x ?_ ?_; on_goal 1 => subst x; on_goal 2 => (clear_value x; intro _)) | skip) | with_reducible refine ok_raise ?_ | with_reducible refine ok_incSat ?_ | with_reducible refine ok_ite ?_ ?_ | with_reducible refine ok_foldl ?_ ?_ | intro _ | extract_lets | split | (conv => arg 2; dsimp +zetaDelta only))

theorem ok_notValid {o s : State} (h : Ok o s) {a1 : Nat} : Ok o (State.notValid s a1) := by
  unfold State.notValid
  repeat' (first | with_reducible assumption | (fail_if_no_progress (extract_lets +onlyGivenNames x); first | (refine ok_have x ?_ ?_; on_goal 1 => subst x; on_goal 2 => (clear_value x; intro _)) | skip) | with_reducible refine ok_later ?_ | with_reducible refine ok_ite ?_ ?_ | with_reducible refine ok_foldl ?_ ?_ | intro _ | extract_lets | split | (conv => arg 2; dsimp +zetaDelta only))

theorem ok_tempNote {o s : State} (h : Ok o s) {a1 : ClosedSet} {a2 : Nat} : Ok o (State.tempNote s a1 a2) := by
  unfold State.tempNote
  repeat' (first | with_reducible assumption | (fail_if_no_progress (extract_lets +onlyGivenNames x); first | (refine ok_have x ?_ ?_; on_goal 1 => subst x; on_goal 2 => (clear_value x; intro _)) | skip) | with_reducible refine ok_updEst ?_ | with_reducible refine ok_ite ?_ ?_ | with_reducible refine ok_foldl ?_ ?_ | intro _ | extract_lets | split | (conv => arg 2; dsimp +zetaDelta only))

theorem ok_estCells {o s : State} (h : Ok o s) {a1 : ClosedSet} {a2 : Nat} : Ok o (State.estCells s a1 a2).1 := by
  unfold State.estCells
  repeat' (first | with_reducible assumption | (fail_if_no_progress (extract_lets +onlyGivenNames x); first | (refine ok_have x ?_ ?_; on_goal 1 => subst x; on_goal 2 => (clear_value x; intro _)) | skip) | with_reducible refine ok_updEst ?_ | with_reducible refine ok_notValid ?_ | with_reducible refine ok_learnDisq ?_ | with_reducible refine ok_estPrep ?_ | with_reducible refine ok_countCharge ?_ | with_reducible refine ok_cellRaises ?_ | with_reducible refine ok_tempNote ?_ | with_reducible refine ok_ite ?_ ?_ | with_reducible refine ok_foldl ?_ ?_ | intro _ | extract_lets | split | dsimp only | (conv => arg 2; dsimp +zetaDelta only))
theorem ok_estCells_eq {o s t : State} (h : Ok o s) {a1 : ClosedSet} {a2 : Nat} {b1 : StrNow} (e : State.estCells s a1 a2 = (t, b1)) : Ok o t := by
  have := ok_estCells (a1 := a1) (a2 := a2) h
  rw [e] at this; exact this

theorem ok_unanchCheck {o s : State} (h : Ok o s) {a1 : Nat} : Ok o (State.unanchCheck s a1) := by
  unfold State.unanchCheck
  repeat' (first | with_reducible assumption | (fail_if_no_progress (extract_lets +onlyGivenNames x); first | (refine ok_have x ?_ ?_; on_goal 1 => subst x; on_goal 2 => (clear_value x; intro _)) | skip) | with_reducible refine ok_updEst ?_ | with_reducible refine ok_setF ?_ | with_reducible refine ok_putBit ?_ | with_reducible refine ok_raiseL ?_ | with_reducible refine ok_restRequest ?_ | with_reducible refine ok_learnDisq ?_ | with_reducible refine ok_endL ?_ | with_reducible refine ok_ite ?_ ?_ | with_reducible refine ok_foldl ?_ ?_ | intro _ | extract_lets | split | (conv => arg 2; dsimp +zetaDelta only))

theorem ok_anchorNow {o s : State} (h : Ok o s) {a1 : ClosedSet} {a2 : Nat} : Ok o (State.anchorNow s a1 a2) := by
  unfold State.anchorNow
  repeat' (first | with_reducible assumption | (fail_if_no_progress (extract_lets +onlyGivenNames x); first | (refine ok_have x ?_ ?_; on_goal 1 => subst x; on_goal 2 => (clear_value x; intro _)) | skip) | with_reducible refine ok_updEst ?_ | with_reducible refine ok_setReg ?_ | with_reducible refine ok_setF ?_ | with_reducible refine ok_setN ?_ | with_reducible refine ok_ite ?_ ?_ | with_reducible refine ok_foldl ?_ ?_ | intro _ | extract_lets | split | (conv => arg 2; dsimp +zetaDelta only))

theorem ok_learnCells {o s : State} (h : Ok o s) {a1 : ClosedSet} {a2 : Nat} {a3 : CellSt → Word → Bool} : Ok o (State.learnCells s a1 a2 a3) := by
  unfold State.learnCells
  repeat' (first | with_reducible assumption | (fail_if_no_progress (extract_lets +onlyGivenNames x); first | (refine ok_have x ?_ ?_; on_goal 1 => subst x; on_goal 2 => (clear_value x; intro _)) | skip) | with_reducible refine ok_updEst ?_ | with_reducible refine ok_raise ?_ | with_reducible refine ok_incSat ?_ | with_reducible refine ok_setF ?_ | with_reducible refine ok_setN ?_ | with_reducible refine ok_ite ?_ ?_ | with_reducible refine ok_foldl ?_ ?_ | intro _ | extract_lets | split | (conv => arg 2; dsimp +zetaDelta only))

theorem ok_restAnchor {o s : State} (h : Ok o s) {a1 : ClosedSet} {a2 : Nat} : Ok o (State.restAnchor s a1 a2) := by
  unfold State.restAnchor
  repeat' (first | with_reducible assumption | (fail_if_no_progress (extract_lets +onlyGivenNames x); first | (refine ok_have x ?_ ?_; on_goal 1 => subst x; on_goal 2 => (clear_value x; intro _)) | skip) | with_reducible refine ok_anchorNow ?_ | with_reducible refine ok_learnDisq ?_ | with_reducible refine ok_learnCells ?_ | with_reducible refine ok_setF ?_ | with_reducible refine ok_ite ?_ ?_ | with_reducible refine ok_foldl ?_ ?_ | intro _ | extract_lets | split | (conv => arg 2; dsimp +zetaDelta only))

theorem ok_learnStep {o s : State} (h : Ok o s) {a1 : ClosedSet} {a2 : Nat} {a3 : StrNow} : Ok o (State.learnStep s a1 a2 a3) := by
  unfold State.learnStep
  repeat' (first | with_reducible assumption | (fail_if_no_progress (extract_lets +onlyGivenNames x); first | (refine ok_have x ?_ ?_; on_goal 1 => subst x; on_goal 2 => (clear_value x; intro _)) | skip) | with_reducible refine ok_setF ?_ | with_reducible refine ok_learnDisq ?_ | with_reducible refine ok_restAnchor ?_ | with_reducible refine ok_anchorNow ?_ | with_reducible refine ok_ite ?_ ?_ | with_reducible refine ok_foldl ?_ ?_ | intro _ | extract_lets | split | (conv => arg 2; dsimp +zetaDelta only))

theorem ok_estOutputs {o s : State} (h : Ok o s) {a1 : ClosedSet} {a2 : Nat} {a3 : StrNow} : Ok o (State.estOutputs s a1 a2 a3) := by
  unfold State.estOutputs
  repeat' (first | with_reducible assumption | (fail_if_no_progress (extract_lets +onlyGivenNames x); first | (refine ok_have x ?_ ?_; on_goal 1 => subst x; on_goal 2 => (clear_value x; intro _)) | skip) | with_reducible refine ok_unanchCheck ?_ | with_reducible refine ok_learnStep ?_ | with_reducible refine ok_later ?_ | with_reducible refine ok_raise ?_ | with_reducible refine ok_ite ?_ ?_ | with_reducible refine ok_foldl ?_ ?_ | intro _ | extract_lets | split | (conv => arg 2; dsimp +zetaDelta only))

theorem ok_deliverWeights {o s : State} (h : Ok o s) {a1 : ClosedSet} : Ok o (State.deliverWeights s a1) := by
  unfold State.deliverWeights
  repeat' (first | with_reducible assumption | (fail_if_no_progress (extract_lets +onlyGivenNames x); first | (refine ok_have x ?_ ?_; on_goal 1 => subst x; on_goal 2 => (clear_value x; intro _)) | skip) | with_reducible refine ok_later ?_ | with_reducible refine ok_raise ?_ | with_reducible refine ok_ite ?_ ?_ | with_reducible refine ok_foldl ?_ ?_ | intro _ | extract_lets | split | (conv => arg 2; dsimp +zetaDelta only))

theorem ok_estUpdate {o s : State} (h : Ok o s) {a1 : ClosedSet} {a2 : Nat} : Ok o (State.estUpdate s a1 a2) := by
  unfold State.estUpdate
  have h1 : Ok o ((List.range 24).foldl (fun (a : State × List StrNow) k => let r := a.1.estCells a1 k; (r.1, a.2 ++ [r.2])) (s, [])).1 :=
    ok_foldl_fst h (fun a x ha => ok_estCells ha)
  generalize (List.range 24).foldl (fun (a : State × List StrNow) k => let r := a.1.estCells a1 k; (r.1, a.2 ++ [r.2])) (s, []) = g at h1 ⊢
  obtain ⟨t, xs⟩ := g
  exact ok_later (ok_updSample (ok_setF (ok_setReg (ok_deliverWeights (ok_forAll h1 (fun s k hs => ok_estOutputs hs))))))

theorem ok_execRestReqRepeat {o s : State} (h : Ok o s) : OkO o (execRestReqRepeat s) := by
  unfold execRestReqRepeat
  refine okO_heldRun h ?_; intro s h
  repeat' (first | with_reducible assumption | (fail_if_no_progress (extract_lets +onlyGivenNames x); first | (refine okO_have x ?_ ?_; on_goal 1 => subst x; on_goal 2 => (clear_value x; intro _)) | skip) | with_reducible refine ok_restRequest ?_ | with_reducible refine ok_updEst ?_ | with_reducible refine ok_ite ?_ ?_ | with_reducible refine okO_ite ?_ ?_ | with_reducible refine okO_next ?_ | with_reducible refine ok_foldl ?_ ?_ | intro _ | extract_lets | split | (conv => arg 2; dsimp +zetaDelta only))

theorem ok_execModuleUidChanged {o s : State} (h : Ok o s) {a0 : Nat} {a1 : Nat} {a2 : BitVec 64} : OkO o (execModuleUidChanged a0 a1 a2 s) := by
  unfold execModuleUidChanged
  repeat' (first | with_reducible assumption | (fail_if_no_progress (extract_lets +onlyGivenNames x); first | (refine okO_have x ?_ ?_; on_goal 1 => subst x; on_goal 2 => (clear_value x; intro _)) | skip) | with_reducible refine ok_resetCells ?_ | with_reducible refine ok_setUid ?_ | with_reducible refine ok_ite ?_ ?_ | with_reducible refine okO_ite ?_ ?_ | with_reducible refine okO_next ?_ | with_reducible refine ok_foldl ?_ ?_ | intro _ | extract_lets | split | (conv => arg 2; dsimp +zetaDelta only))

theorem ok_selRecord {o s : State} (h : Ok o s) {a1 : Nat} {a2 : List Byte} : Ok o (selRecord s a1 a2) := by
  unfold selRecord
  repeat' (first | with_reducible assumption | (fail_if_no_progress (extract_lets +onlyGivenNames x); first | (refine ok_have x ?_ ?_; on_goal 1 => subst x; on_goal 2 => (clear_value x; intro _)) | skip) | ((conv => arg 2; arg 27; skip); with_reducible refine ok_mk ?_ rfl) | with_reducible refine ok_ite ?_ ?_ | with_reducible refine ok_foldl ?_ ?_ | intro _ | extract_lets | split | (conv => arg 2; dsimp +zetaDelta only))

theorem ok_execCapacityWriteBack {o s : State} (h : Ok o s) {a0 : Nat} : OkO o (execCapacityWriteBack a0 s) := by
  unfold execCapacityWriteBack
  refine okO_heldRun h ?_; intro s h
  repeat' (first | with_reducible assumption | (fail_if_no_progress (extract_lets +onlyGivenNames x); first | (refine okO_have x ?_ ?_; on_goal 1 => subst x; on_goal 2 => (clear_value x; intro _)) | skip) | with_reducible refine ok_selRecord ?_ | with_reducible refine ok_psQueue ?_ | with_reducible refine ok_updEst ?_ | with_reducible refine ok_ite ?_ ?_ | with_reducible refine okO_ite ?_ ?_ | with_reducible refine okO_next ?_ | with_reducible refine ok_foldl ?_ ?_ | intro _ | extract_lets | split | (conv => arg 2; dsimp +zetaDelta only))

theorem ok_svArm {o s : State} (h : Ok o s) {a1 : Nat} {a2 : Nat} {a3 : Nat} : Ok o (State.svArm s a1 a2 a3) := by
  unfold State.svArm
  repeat' (first | with_reducible assumption | (fail_if_no_progress (extract_lets +onlyGivenNames x); first | (refine ok_have x ?_ ?_; on_goal 1 => subst x; on_goal 2 => (clear_value x; intro _)) | skip) | with_reducible refine ok_updEst ?_ | with_reducible refine ok_ask ?_ | with_reducible refine ok_ite ?_ ?_ | with_reducible refine ok_foldl ?_ ?_ | intro _ | extract_lets | split | (conv => arg 2; dsimp +zetaDelta only))

theorem ok_svQuiet {o s : State} (h : Ok o s) {a1 : Nat} : Ok o (State.svQuiet s a1) := by
  unfold State.svQuiet
  repeat' (first | with_reducible assumption | (fail_if_no_progress (extract_lets +onlyGivenNames x); first | (refine ok_have x ?_ ?_; on_goal 1 => subst x; on_goal 2 => (clear_value x; intro _)) | skip) | with_reducible refine ok_updShelf ?_ | with_reducible refine ok_ite ?_ ?_ | with_reducible refine ok_foldl ?_ ?_ | intro _ | extract_lets | split | (conv => arg 2; dsimp +zetaDelta only))

theorem ok_svDiscard {o s : State} (h : Ok o s) {a1 : Nat} {a2 : Nat} : Ok o (State.svDiscard s a1 a2) := by
  unfold State.svDiscard
  repeat' (first | with_reducible assumption | (fail_if_no_progress (extract_lets +onlyGivenNames x); first | (refine ok_have x ?_ ?_; on_goal 1 => subst x; on_goal 2 => (clear_value x; intro _)) | skip) | with_reducible refine ok_setF ?_ | with_reducible refine ok_incSat ?_ | with_reducible refine ok_raise ?_ | with_reducible refine ok_ite ?_ ?_ | with_reducible refine ok_foldl ?_ ?_ | intro _ | extract_lets | split | (conv => arg 2; dsimp +zetaDelta only))

theorem ok_svHot {o s : State} (h : Ok o s) {a1 : Nat} : Ok o (State.svHot s a1) := by
  unfold State.svHot
  repeat' (first | with_reducible assumption | (fail_if_no_progress (extract_lets +onlyGivenNames x); first | (refine ok_have x ?_ ?_; on_goal 1 => subst x; on_goal 2 => (clear_value x; intro _)) | skip) | with_reducible refine ok_raiseL ?_ | with_reducible refine ok_updEst ?_ | with_reducible refine ok_endL ?_ | with_reducible refine ok_ite ?_ ?_ | with_reducible refine ok_foldl ?_ ?_ | intro _ | extract_lets | split | (conv => arg 2; dsimp +zetaDelta only))

theorem ok_svStore {o s : State} (h : Ok o s) {a1 : Nat} : Ok o (State.svStore s a1) := by
  unfold State.svStore
  repeat' (first | with_reducible assumption | (fail_if_no_progress (extract_lets +onlyGivenNames x); first | (refine ok_have x ?_ ?_; on_goal 1 => subst x; on_goal 2 => (clear_value x; intro _)) | skip) | with_reducible refine ok_updEst ?_ | with_reducible refine ok_svHot ?_ | with_reducible refine ok_incSat ?_ | with_reducible refine ok_ite ?_ ?_ | with_reducible refine ok_foldl ?_ ?_ | intro _ | extract_lets | split | (conv => arg 2; dsimp +zetaDelta only))

theorem ok_svReset {o s : State} (h : Ok o s) {a1 : Nat} : Ok o (State.svReset s a1) := by
  unfold State.svReset
  repeat' (first | with_reducible assumption | (fail_if_no_progress (extract_lets +onlyGivenNames x); first | (refine ok_have x ?_ ?_; on_goal 1 => subst x; on_goal 2 => (clear_value x; intro _)) | skip) | with_reducible refine ok_updEst ?_ | with_reducible refine ok_ite ?_ ?_ | with_reducible refine ok_foldl ?_ ?_ | intro _ | extract_lets | split | (conv => arg 2; dsimp +zetaDelta only))

theorem ok_svIdle {o s : State} (h : Ok o s) {a1 : Nat} : Ok o (State.svIdle s a1) := by
  unfold State.svIdle
  repeat' (first | with_reducible assumption | (fail_if_no_progress (extract_lets +onlyGivenNames x); first | (refine ok_have x ?_ ?_; on_goal 1 => subst x; on_goal 2 => (clear_value x; intro _)) | skip) | with_reducible refine ok_svReset ?_ | with_reducible refine ok_svQuiet ?_ | with_reducible refine ok_setF ?_ | with_reducible refine ok_ite ?_ ?_ | with_reducible refine ok_foldl ?_ ?_ | intro _ | extract_lets | split | (conv => arg 2; dsimp +zetaDelta only))

theorem ok_svStop {o s : State} (h : Ok o s) : Ok o (State.svStop s) := by
  unfold State.svStop
  repeat' (first | with_reducible assumption | (fail_if_no_progress (extract_lets +onlyGivenNames x); first | (refine ok_have x ?_ ?_; on_goal 1 => subst x; on_goal 2 => (clear_value x; intro _)) | skip) | with_reducible refine ok_svIdle ?_ | with_reducible refine ok_forAll ?_ ?_ | with_reducible refine ok_ite ?_ ?_ | with_reducible refine ok_foldl ?_ ?_ | intro _ | extract_lets | split | (conv => arg 2; dsimp +zetaDelta only))

theorem ok_svGoTo {o s : State} (h : Ok o s) {a1 : Nat} {a2 : Nat} {a3 : Nat} : Ok o (State.svGoTo s a1 a2 a3) := by
  unfold State.svGoTo
  repeat' (first | with_reducible assumption | (fail_if_no_progress (extract_lets +onlyGivenNames x); first | (refine ok_have x ?_ ?_; on_goal 1 => subst x; on_goal 2 => (clear_value x; intro _)) | skip) | with_reducible refine ok_updEst ?_ | with_reducible refine ok_setF ?_ | with_reducible refine ok_ite ?_ ?_ | with_reducible refine ok_foldl ?_ ?_ | intro _ | extract_lets | split | (conv => arg 2; dsimp +zetaDelta only))

theorem ok_svAdvance {o s : State} (h : Ok o s) {a1 : Nat} : Ok o (State.svAdvance s a1) := by
  unfold State.svAdvance
  repeat' (first | with_reducible assumption | (fail_if_no_progress (extract_lets +onlyGivenNames x); first | (refine ok_have x ?_ ?_; on_goal 1 => subst x; on_goal 2 => (clear_value x; intro _)) | skip) | with_reducible refine ok_updEst ?_ | with_reducible refine ok_svIdle ?_ | with_reducible refine ok_svArm ?_ | with_reducible refine ok_svGoTo ?_ | with_reducible refine ok_setF ?_ | with_reducible refine ok_svQuiet ?_ | with_reducible refine ok_ite ?_ ?_ | with_reducible refine ok_foldl ?_ ?_ | intro _ | extract_lets | split | (conv => arg 2; dsimp +zetaDelta only))

theorem ok_svOpen {o s : State} (h : Ok o s) {a1 : Nat} : Ok o (State.svOpen s a1) := by
  unfold State.svOpen
  repeat' (first | with_reducible assumption | (fail_if_no_progress (extract_lets +onlyGivenNames x); first | (refine ok_have x ?_ ?_; on_goal 1 => subst x; on_goal 2 => (clear_value x; intro _)) | skip) | with_reducible refine ok_updEst ?_ | with_reducible refine ok_setF ?_ | with_reducible refine ok_svArm ?_ | with_reducible refine ok_ite ?_ ?_ | with_reducible refine ok_foldl ?_ ?_ | intro _ | extract_lets | split | (conv => arg 2; dsimp +zetaDelta only))

theorem ok_svBatch {o s : State} (h : Ok o s) {a1 : Nat} : Ok o (State.svBatch s a1) := by
  unfold State.svBatch
  repeat' (first | with_reducible assumption | (fail_if_no_progress (extract_lets +onlyGivenNames x); first | (refine ok_have x ?_ ?_; on_goal 1 => subst x; on_goal 2 => (clear_value x; intro _)) | skip) | with_reducible refine ok_updEst ?_ | with_reducible refine ok_svOpen ?_ | with_reducible refine ok_ite ?_ ?_ | with_reducible refine ok_foldl ?_ ?_ | intro _ | extract_lets | split | (conv => arg 2; dsimp +zetaDelta only))

theorem ok_svEnd {o s : State} (h : Ok o s) {a1 : Nat} : Ok o (State.svEnd s a1) := by
  unfold State.svEnd
  repeat' (first | with_reducible assumption | (fail_if_no_progress (extract_lets +onlyGivenNames x); first | (refine ok_have x ?_ ?_; on_goal 1 => subst x; on_goal 2 => (clear_value x; intro _)) | skip) | with_reducible refine ok_updEst ?_ | with_reducible refine ok_setF ?_ | with_reducible refine ok_svAdvance ?_ | with_reducible refine ok_svStore ?_ | with_reducible refine ok_svDiscard ?_ | with_reducible refine ok_ite ?_ ?_ | with_reducible refine ok_foldl ?_ ?_ | intro _ | extract_lets | split | (conv => arg 2; dsimp +zetaDelta only))

theorem ok_svPending {o s : State} (h : Ok o s) : Ok o (State.svPending s) := by
  unfold State.svPending
  repeat' (first | with_reducible assumption | (fail_if_no_progress (extract_lets +onlyGivenNames x); first | (refine ok_have x ?_ ?_; on_goal 1 => subst x; on_goal 2 => (clear_value x; intro _)) | skip) | with_reducible refine ok_svBatch ?_ | with_reducible refine ok_svEnd ?_ | with_reducible refine ok_forAll ?_ ?_ | with_reducible refine ok_ite ?_ ?_ | with_reducible refine ok_foldl ?_ ?_ | intro _ | extract_lets | split | (conv => arg 2; dsimp +zetaDelta only))

theorem ok_svStage {o s : State} (h : Ok o s) {a1 : Nat} : Ok o (State.svStage s a1) := by
  unfold State.svStage
  repeat' (first | with_reducible assumption | (fail_if_no_progress (extract_lets +onlyGivenNames x); first | (refine ok_have x ?_ ?_; on_goal 1 => subst x; on_goal 2 => (clear_value x; intro _)) | skip) | with_reducible refine ok_updEst ?_ | with_reducible refine ok_ringClear ?_ | with_reducible refine ok_ite ?_ ?_ | with_reducible refine ok_foldl ?_ ?_ | intro _ | extract_lets | split | (conv => arg 2; dsimp +zetaDelta only))

theorem ok_svWatch {o s : State} (h : Ok o s) {a1 : Nat} : Ok o (State.svWatch s a1) := by
  unfold State.svWatch
  repeat' (first | with_reducible assumption | (fail_if_no_progress (extract_lets +onlyGivenNames x); first | (refine ok_have x ?_ ?_; on_goal 1 => subst x; on_goal 2 => (clear_value x; intro _)) | skip) | with_reducible refine ok_updEst ?_ | with_reducible refine ok_ite ?_ ?_ | with_reducible refine ok_foldl ?_ ?_ | intro _ | extract_lets | split | (conv => arg 2; dsimp +zetaDelta only))

theorem ok_svCycle {o s : State} (h : Ok o s) : Ok o (State.svCycle s) := by
  unfold State.svCycle
  repeat' (first | with_reducible assumption | (fail_if_no_progress (extract_lets +onlyGivenNames x); first | (refine ok_have x ?_ ?_; on_goal 1 => subst x; on_goal 2 => (clear_value x; intro _)) | skip) | with_reducible refine ok_svStage ?_ | with_reducible refine ok_svWatch ?_ | with_reducible refine ok_forAll ?_ ?_ | with_reducible refine ok_ite ?_ ?_ | with_reducible refine ok_foldl ?_ ?_ | intro _ | extract_lets | split | (conv => arg 2; dsimp +zetaDelta only))

theorem ok_execEstimatorSetUpdate {o s : State} (h : Ok o s) {a0 : Half} : OkO o (execEstimatorSetUpdate a0 s) := by
  unfold execEstimatorSetUpdate
  refine okO_heldRun h ?_; intro s h
  repeat' (first | with_reducible assumption | (fail_if_no_progress (extract_lets +onlyGivenNames x); first | (refine okO_have x ?_ ?_; on_goal 1 => subst x; on_goal 2 => (clear_value x; intro _)) | skip) | with_reducible refine ok_svPending ?_ | with_reducible refine ok_estUpdate ?_ | with_reducible refine ok_updSample ?_ | with_reducible refine ok_estCells ?_ | with_reducible refine ok_estCells_eq ?_ ‹_› | with_reducible refine ok_forAll ?_ ?_ | with_reducible refine ok_ite ?_ ?_ | with_reducible refine okO_ite ?_ ?_ | with_reducible refine okO_next ?_ | with_reducible refine ok_foldl ?_ ?_ | intro _ | extract_lets | split | (conv => arg 2; dsimp +zetaDelta only))

theorem ok_execSurveyPrerollStart {o s : State} (h : Ok o s) {a0 : Nat} : OkO o (execSurveyPrerollStart a0 s) := by
  unfold execSurveyPrerollStart
  refine okO_heldRun h ?_; intro s h
  repeat' (first | with_reducible assumption | (fail_if_no_progress (extract_lets +onlyGivenNames x); first | (refine okO_have x ?_ ?_; on_goal 1 => subst x; on_goal 2 => (clear_value x; intro _)) | skip) | with_reducible refine ok_svReset ?_ | with_reducible refine ok_setF ?_ | with_reducible refine ok_updEst ?_ | with_reducible refine ok_updShelf ?_ | with_reducible refine ok_svGoTo ?_ | with_reducible refine ok_svArm ?_ | with_reducible refine ok_ite ?_ ?_ | with_reducible refine okO_ite ?_ ?_ | with_reducible refine okO_next ?_ | with_reducible refine ok_foldl ?_ ?_ | intro _ | extract_lets | split | (conv => arg 2; dsimp +zetaDelta only))

theorem ok_execSurveyBatch {o s : State} (h : Ok o s) {a0 : Nat} : OkO o (execSurveyBatch a0 s) := by
  unfold execSurveyBatch
  refine okO_heldRun h ?_; intro s h
  repeat' (first | with_reducible assumption | (fail_if_no_progress (extract_lets +onlyGivenNames x); first | (refine okO_have x ?_ ?_; on_goal 1 => subst x; on_goal 2 => (clear_value x; intro _)) | skip) | with_reducible refine ok_svBatch ?_ | with_reducible refine ok_svEnd ?_ | with_reducible refine ok_updEst ?_ | with_reducible refine ok_ite ?_ ?_ | with_reducible refine okO_ite ?_ ?_ | with_reducible refine okO_next ?_ | with_reducible refine ok_foldl ?_ ?_ | intro _ | extract_lets | split | (conv => arg 2; dsimp +zetaDelta only))

theorem ok_execSurveyWindowEnd {o s : State} (h : Ok o s) {a0 : Nat} : OkO o (execSurveyWindowEnd a0 s) := by
  unfold execSurveyWindowEnd
  refine okO_heldRun h ?_; intro s h
  repeat' (first | with_reducible assumption | (fail_if_no_progress (extract_lets +onlyGivenNames x); first | (refine okO_have x ?_ ?_; on_goal 1 => subst x; on_goal 2 => (clear_value x; intro _)) | skip) | with_reducible refine ok_svEnd ?_ | with_reducible refine ok_updEst ?_ | with_reducible refine ok_ite ?_ ?_ | with_reducible refine okO_ite ?_ ?_ | with_reducible refine okO_next ?_ | with_reducible refine ok_foldl ?_ ?_ | intro _ | extract_lets | split | (conv => arg 2; dsimp +zetaDelta only))

theorem ok_execSurveyBlocked {o s : State} (h : Ok o s) {a0 : Nat} : OkO o (execSurveyBlocked a0 s) := by
  unfold execSurveyBlocked
  refine okO_heldRun h ?_; intro s h
  repeat' (first | with_reducible assumption | (fail_if_no_progress (extract_lets +onlyGivenNames x); first | (refine okO_have x ?_ ?_; on_goal 1 => subst x; on_goal 2 => (clear_value x; intro _)) | skip) | with_reducible refine ok_svReset ?_ | with_reducible refine ok_svDiscard ?_ | with_reducible refine ok_svQuiet ?_ | with_reducible refine ok_setF ?_ | with_reducible refine ok_ite ?_ ?_ | with_reducible refine okO_ite ?_ ?_ | with_reducible refine okO_next ?_ | with_reducible refine ok_foldl ?_ ?_ | intro _ | extract_lets | split | (conv => arg 2; dsimp +zetaDelta only))

theorem ok_execSurveyGapEnd {o s : State} (h : Ok o s) {a0 : Nat} : OkO o (execSurveyGapEnd a0 s) := by
  unfold execSurveyGapEnd
  repeat' (first | with_reducible assumption | (fail_if_no_progress (extract_lets +onlyGivenNames x); first | (refine okO_have x ?_ ?_; on_goal 1 => subst x; on_goal 2 => (clear_value x; intro _)) | skip) | with_reducible refine ok_setF ?_ | with_reducible refine ok_ite ?_ ?_ | with_reducible refine okO_ite ?_ ?_ | with_reducible refine okO_next ?_ | with_reducible refine ok_foldl ?_ ?_ | intro _ | extract_lets | split | (conv => arg 2; dsimp +zetaDelta only))

end Sys2Proof.Laws
end

