-- ==== Sys2Proof/Laws/KeepBlock.lean ====
section
/-! SUPPORT. What each operation of the lane schedule, the parameter store and the images, the pair, e-fuses, rails, the sequencer keeps: one lemma per function and per command. -/

set_option linter.unusedTactic false
set_option linter.unreachableTactic false
set_option linter.tactic.unusedName false

namespace Sys2Proof.Laws

open Machine Machine.State

theorem ok_startFails {o s : State} (h : Ok o s) {a1 : Nat} : Ok o (State.startFails s a1) := by
  unfold State.startFails
  repeat' (first | with_reducible assumption | (fail_if_no_progress (extract_lets +onlyGivenNames x); first | (refine ok_have x ?_ ?_; on_goal 1 => subst x; on_goal 2 => (clear_value x; intro _)) | skip) | with_reducible refine ok_setF ?_ | with_reducible refine ok_ite ?_ ?_ | with_reducible refine ok_foldl ?_ ?_ | intro _ | extract_lets | split | (conv => arg 2; dsimp +zetaDelta only))

theorem ok_schedAccept {o s : State} (h : Ok o s) {a1 : List (Nat × Nat × Nat)} {a2 : List (Nat × Nat)} : Ok o (State.schedAccept s a1 a2) := by
  unfold State.schedAccept
  repeat' (first | with_reducible assumption | (fail_if_no_progress (extract_lets +onlyGivenNames x); first | (refine ok_have x ?_ ?_; on_goal 1 => subst x; on_goal 2 => (clear_value x; intro _)) | skip) | with_reducible refine ok_setF ?_ | with_reducible refine ok_incSat ?_ | with_reducible refine ok_countChg ?_ | with_reducible refine ok_forAll ?_ ?_ | ((conv => arg 2; arg 27; skip); with_reducible refine ok_mk ?_ rfl) | with_reducible refine ok_ite ?_ ?_ | with_reducible refine ok_foldl ?_ ?_ | intro _ | extract_lets | split | (conv => arg 2; dsimp +zetaDelta only))

theorem ok_schedSwap {o s : State} (h : Ok o s) : Ok o (State.schedSwap s) := by
  unfold State.schedSwap
  repeat' (first | with_reducible assumption | (fail_if_no_progress (extract_lets +onlyGivenNames x); first | (refine ok_have x ?_ ?_; on_goal 1 => subst x; on_goal 2 => (clear_value x; intro _)) | skip) | with_reducible refine ok_setF ?_ | ((conv => arg 2; arg 27; skip); with_reducible refine ok_mk ?_ rfl) | with_reducible refine ok_ite ?_ ?_ | with_reducible refine ok_foldl ?_ ?_ | intro _ | extract_lets | split | (conv => arg 2; dsimp +zetaDelta only))

theorem ok_execScheduleBuild {o s : State} (h : Ok o s) : OkO o (execScheduleBuild s) := by
  unfold execScheduleBuild
  repeat' (first | with_reducible assumption | (fail_if_no_progress (extract_lets +onlyGivenNames x); first | (refine okO_have x ?_ ?_; on_goal 1 => subst x; on_goal 2 => (clear_value x; intro _)) | skip) | with_reducible refine ok_schedAccept ?_ | with_reducible refine ok_startFails ?_ | with_reducible refine ok_ite ?_ ?_ | with_reducible refine okO_ite ?_ ?_ | with_reducible refine okO_next ?_ | with_reducible refine ok_foldl ?_ ?_ | intro _ | extract_lets | split | (conv => arg 2; dsimp +zetaDelta only))

theorem ok_execScheduleSwap {o s : State} (h : Ok o s) : OkO o (execScheduleSwap s) := by
  unfold execScheduleSwap
  repeat' (first | with_reducible assumption | (fail_if_no_progress (extract_lets +onlyGivenNames x); first | (refine okO_have x ?_ ?_; on_goal 1 => subst x; on_goal 2 => (clear_value x; intro _)) | skip) | with_reducible refine ok_schedSwap ?_ | with_reducible refine ok_ite ?_ ?_ | with_reducible refine okO_ite ?_ ?_ | with_reducible refine okO_next ?_ | with_reducible refine ok_foldl ?_ ?_ | intro _ | extract_lets | split | (conv => arg 2; dsimp +zetaDelta only))

theorem ok_checkpoint {o s : State} (h : Ok o s) : Ok o (State.checkpoint s) := by
  unfold State.checkpoint
  repeat' (first | with_reducible assumption | (fail_if_no_progress (extract_lets +onlyGivenNames x); first | (refine ok_have x ?_ ?_; on_goal 1 => subst x; on_goal 2 => (clear_value x; intro _)) | skip) | with_reducible refine ok_psQueue ?_ | with_reducible refine ok_ite ?_ ?_ | with_reducible refine ok_foldl ?_ ?_ | intro _ | extract_lets | split | (conv => arg 2; dsimp +zetaDelta only))

theorem ok_scanCopy {o s : State} (h : Ok o s) {a1 : Nat} {a2 : Bool} : Ok o (State.scanCopy s a1 a2) := by
  unfold State.scanCopy
  repeat' (first | with_reducible assumption | (fail_if_no_progress (extract_lets +onlyGivenNames x); first | (refine ok_have x ?_ ?_; on_goal 1 => subst x; on_goal 2 => (clear_value x; intro _)) | skip) | with_reducible refine ok_raise ?_ | with_reducible refine ok_incSat ?_ | with_reducible refine ok_ite ?_ ?_ | with_reducible refine ok_foldl ?_ ?_ | intro _ | extract_lets | split | (conv => arg 2; dsimp +zetaDelta only))

theorem ok_scanTie {o s : State} (h : Ok o s) {a1 : Nat} : Ok o (State.scanTie s a1) := by
  unfold State.scanTie
  repeat' (first | with_reducible assumption | (fail_if_no_progress (extract_lets +onlyGivenNames x); first | (refine ok_have x ?_ ?_; on_goal 1 => subst x; on_goal 2 => (clear_value x; intro _)) | skip) | with_reducible refine ok_raise ?_ | with_reducible refine ok_ite ?_ ?_ | with_reducible refine ok_foldl ?_ ?_ | intro _ | extract_lets | split | (conv => arg 2; dsimp +zetaDelta only))

theorem ok_psArrays {o s : State} (h : Ok o s) {a1 : StoreScan} : Ok o (State.psArrays s a1) := by
  unfold State.psArrays
  repeat' (first | with_reducible assumption | (fail_if_no_progress (extract_lets +onlyGivenNames x); first | (refine ok_have x ?_ ?_; on_goal 1 => subst x; on_goal 2 => (clear_value x; intro _)) | skip) | with_reducible refine ok_setF ?_ | ((conv => arg 2; arg 27; skip); with_reducible refine ok_mk ?_ rfl) | with_reducible refine ok_ite ?_ ?_ | with_reducible refine ok_foldl ?_ ?_ | intro _ | extract_lets | split | (conv => arg 2; dsimp +zetaDelta only))

theorem ok_psScan {o s : State} (h : Ok o s) {a1 : StoreScan} : Ok o (State.psScan s a1) := by
  unfold State.psScan
  repeat' (first | with_reducible assumption | (fail_if_no_progress (extract_lets +onlyGivenNames x); first | (refine ok_have x ?_ ?_; on_goal 1 => subst x; on_goal 2 => (clear_value x; intro _)) | skip) | with_reducible refine ok_psArrays ?_ | with_reducible refine ok_scanTie ?_ | with_reducible refine ok_scanCopy ?_ | with_reducible refine ok_ite ?_ ?_ | with_reducible refine ok_foldl ?_ ?_ | intro _ | extract_lets | split | (conv => arg 2; dsimp +zetaDelta only))

theorem ok_psResult {o s : State} (h : Ok o s) {a1 : Nat} {a2 : Nat} : Ok o (State.psResult s a1 a2) := by
  unfold State.psResult
  repeat' (first | with_reducible assumption | (fail_if_no_progress (extract_lets +onlyGivenNames x); first | (refine ok_have x ?_ ?_; on_goal 1 => subst x; on_goal 2 => (clear_value x; intro _)) | skip) | with_reducible refine ok_setF ?_ | with_reducible refine ok_ite ?_ ?_ | with_reducible refine ok_foldl ?_ ?_ | intro _ | extract_lets | split | (conv => arg 2; dsimp +zetaDelta only))

theorem ok_psStart {o s : State} (h : Ok o s) {a1 : List (Nat × List Byte)} : Ok o (State.psStart s a1) := by
  unfold State.psStart
  repeat' (first | with_reducible assumption | (fail_if_no_progress (extract_lets +onlyGivenNames x); first | (refine ok_have x ?_ ?_; on_goal 1 => subst x; on_goal 2 => (clear_value x; intro _)) | skip) | with_reducible refine ok_psResult ?_ | with_reducible refine ok_psQueue ?_ | with_reducible refine ok_setF ?_ | ((conv => arg 2; arg 27; skip); with_reducible refine ok_mk ?_ rfl) | with_reducible refine ok_ite ?_ ?_ | with_reducible refine ok_foldl ?_ ?_ | intro _ | extract_lets | split | (conv => arg 2; dsimp +zetaDelta only))

theorem ok_psCommand {o s : State} (h : Ok o s) {a1 : Nat} {a2 : Nat} : Ok o (State.psCommand s a1 a2) := by
  unfold State.psCommand
  repeat' (first | with_reducible assumption | (fail_if_no_progress (extract_lets +onlyGivenNames x); first | (refine ok_have x ?_ ?_; on_goal 1 => subst x; on_goal 2 => (clear_value x; intro _)) | skip) | with_reducible refine ok_psResult ?_ | with_reducible refine ok_psStart ?_ | with_reducible refine ok_setF ?_ | ((conv => arg 2; arg 27; skip); with_reducible refine ok_mk ?_ rfl) | with_reducible refine ok_ite ?_ ?_ | with_reducible refine ok_foldl ?_ ?_ | intro _ | extract_lets | split | (conv => arg 2; dsimp +zetaDelta only))

theorem ok_psShow {o s : State} (h : Ok o s) : Ok o (State.psShow s) := by
  unfold State.psShow
  repeat' (first | with_reducible assumption | (fail_if_no_progress (extract_lets +onlyGivenNames x); first | (refine ok_have x ?_ ?_; on_goal 1 => subst x; on_goal 2 => (clear_value x; intro _)) | skip) | with_reducible refine ok_setF ?_ | with_reducible refine ok_ite ?_ ?_ | with_reducible refine ok_foldl ?_ ?_ | intro _ | extract_lets | split | (conv => arg 2; dsimp +zetaDelta only))

theorem ok_psWritten {o s : State} (h : Ok o s) {a1 : Nat} {a2 : List Byte} : Ok o (State.psWritten s a1 a2) := by
  unfold State.psWritten
  repeat' (first | with_reducible assumption | (fail_if_no_progress (extract_lets +onlyGivenNames x); first | (refine ok_have x ?_ ?_; on_goal 1 => subst x; on_goal 2 => (clear_value x; intro _)) | skip) | with_reducible refine ok_incSat ?_ | with_reducible refine ok_setF ?_ | with_reducible refine ok_psResult ?_ | ((conv => arg 2; arg 27; skip); with_reducible refine ok_mk ?_ rfl) | with_reducible refine ok_ite ?_ ?_ | with_reducible refine ok_foldl ?_ ?_ | intro _ | extract_lets | split | (conv => arg 2; dsimp +zetaDelta only))

theorem ok_cairnRewrite {o s : State} (h : Ok o s) : Ok o (State.cairnRewrite s) := by
  unfold State.cairnRewrite
  repeat' (first | with_reducible assumption | (fail_if_no_progress (extract_lets +onlyGivenNames x); first | (refine ok_have x ?_ ?_; on_goal 1 => subst x; on_goal 2 => (clear_value x; intro _)) | skip) | ((conv => arg 2; arg 27; skip); with_reducible refine ok_mk ?_ rfl) | with_reducible refine ok_ite ?_ ?_ | with_reducible refine ok_foldl ?_ ?_ | intro _ | extract_lets | split | (conv => arg 2; dsimp +zetaDelta only))

theorem ok_cairnFlush {o s : State} (h : Ok o s) : Ok o (State.cairnFlush s) := by
  unfold State.cairnFlush
  repeat' (first | with_reducible assumption | (fail_if_no_progress (extract_lets +onlyGivenNames x); first | (refine ok_have x ?_ ?_; on_goal 1 => subst x; on_goal 2 => (clear_value x; intro _)) | skip) | with_reducible refine ok_cairnShow ?_ | with_reducible refine ok_setN ?_ | ((conv => arg 2; arg 27; skip); with_reducible refine ok_mk ?_ rfl) | with_reducible refine ok_ite ?_ ?_ | with_reducible refine ok_foldl ?_ ?_ | intro _ | extract_lets | split | (conv => arg 2; dsimp +zetaDelta only))

theorem ok_tcGo {o s : State} (h : Ok o s) : Ok o (State.tcGo s) := by
  unfold State.tcGo
  repeat' (first | with_reducible assumption | (fail_if_no_progress (extract_lets +onlyGivenNames x); first | (refine ok_have x ?_ ?_; on_goal 1 => subst x; on_goal 2 => (clear_value x; intro _)) | skip) | with_reducible refine ok_setF ?_ | with_reducible refine ok_checkFill ?_ | with_reducible refine ok_cairnStage ?_ | with_reducible refine ok_ite ?_ ?_ | with_reducible refine ok_foldl ?_ ?_ | intro _ | extract_lets | split | (conv => arg 2; dsimp +zetaDelta only))

theorem ok_clrResult {o s : State} (h : Ok o s) {a1 : Nat} {a2 : Nat} : Ok o (State.clrResult s a1 a2) := by
  unfold State.clrResult
  repeat' (first | with_reducible assumption | (fail_if_no_progress (extract_lets +onlyGivenNames x); first | (refine ok_have x ?_ ?_; on_goal 1 => subst x; on_goal 2 => (clear_value x; intro _)) | skip) | with_reducible refine ok_setF ?_ | with_reducible refine ok_ite ?_ ?_ | with_reducible refine ok_foldl ?_ ?_ | intro _ | extract_lets | split | (conv => arg 2; dsimp +zetaDelta only))

theorem ok_cairnClear {o s : State} (h : Ok o s) {a1 : Nat} : Ok o (State.cairnClear s a1) := by
  unfold State.cairnClear
  repeat' (first | with_reducible assumption | (fail_if_no_progress (extract_lets +onlyGivenNames x); first | (refine ok_have x ?_ ?_; on_goal 1 => subst x; on_goal 2 => (clear_value x; intro _)) | skip) | with_reducible refine ok_clrResult ?_ | with_reducible refine ok_setN ?_ | with_reducible refine ok_psQueue ?_ | with_reducible refine ok_setF ?_ | with_reducible refine ok_cairnShow ?_ | ((conv => arg 2; arg 27; skip); with_reducible refine ok_mk ?_ rfl) | with_reducible refine ok_ite ?_ ?_ | with_reducible refine ok_foldl ?_ ?_ | intro _ | extract_lets | split | (conv => arg 2; dsimp +zetaDelta only))

theorem ok_clearInterrupt {o s : State} (h : Ok o s) : Ok o (State.clearInterrupt s) := by
  unfold State.clearInterrupt
  repeat' (first | with_reducible assumption | (fail_if_no_progress (extract_lets +onlyGivenNames x); first | (refine ok_have x ?_ ?_; on_goal 1 => subst x; on_goal 2 => (clear_value x; intro _)) | skip) | with_reducible refine ok_takeFree ?_ | with_reducible refine ok_takeFree_eq ?_ ‹_› | with_reducible refine ok_setN ?_ | with_reducible refine ok_cairnShow ?_ | with_reducible refine ok_clrResult ?_ | with_reducible refine ok_setF ?_ | ((conv => arg 2; arg 27; skip); with_reducible refine ok_mk ?_ rfl) | with_reducible refine ok_ite ?_ ?_ | with_reducible refine ok_foldl ?_ ?_ | intro _ | extract_lets | split | (conv => arg 2; dsimp +zetaDelta only))

theorem ok_execVerifyScanEnd {o s : State} (h : Ok o s) {a0 : StoreScan} : OkO o (execVerifyScanEnd a0 s) := by
  unfold execVerifyScanEnd
  repeat' (first | with_reducible assumption | (fail_if_no_progress (extract_lets +onlyGivenNames x); first | (refine okO_have x ?_ ?_; on_goal 1 => subst x; on_goal 2 => (clear_value x; intro _)) | skip) | with_reducible refine ok_psResult ?_ | with_reducible refine ok_setF ?_ | with_reducible refine ok_psScan ?_ | ((conv => arg 2; arg 27; skip); with_reducible refine ok_mk ?_ rfl) | with_reducible refine ok_ite ?_ ?_ | with_reducible refine okO_ite ?_ ?_ | with_reducible refine okO_next ?_ | with_reducible refine ok_foldl ?_ ?_ | intro _ | extract_lets | split | (conv => arg 2; dsimp +zetaDelta only))

theorem ok_execRecordWriteStart {o s : State} (h : Ok o s) : OkO o (execRecordWriteStart s) := by
  unfold execRecordWriteStart
  repeat' (first | with_reducible assumption | (fail_if_no_progress (extract_lets +onlyGivenNames x); first | (refine okO_have x ?_ ?_; on_goal 1 => subst x; on_goal 2 => (clear_value x; intro _)) | skip) | with_reducible refine ok_psShow ?_ | ((conv => arg 2; arg 27; skip); with_reducible refine ok_mk ?_ rfl) | with_reducible refine ok_ite ?_ ?_ | with_reducible refine okO_ite ?_ ?_ | with_reducible refine okO_next ?_ | with_reducible refine ok_foldl ?_ ?_ | intro _ | extract_lets | split | (conv => arg 2; dsimp +zetaDelta only))

theorem ok_execPageProgramDone {o s : State} (h : Ok o s) : OkO o (execPageProgramDone s) := by
  unfold execPageProgramDone
  repeat' (first | with_reducible assumption | (fail_if_no_progress (extract_lets +onlyGivenNames x); first | (refine okO_have x ?_ ?_; on_goal 1 => subst x; on_goal 2 => (clear_value x; intro _)) | skip) | with_reducible refine ok_psProgram ?_ | with_reducible refine ok_psShow ?_ | with_reducible refine ok_psWritten ?_ | ((conv => arg 2; arg 27; skip); with_reducible refine ok_mk ?_ rfl) | with_reducible refine ok_ite ?_ ?_ | with_reducible refine okO_ite ?_ ?_ | with_reducible refine okO_next ?_ | with_reducible refine ok_foldl ?_ ?_ | intro _ | extract_lets | split | (conv => arg 2; dsimp +zetaDelta only))

theorem ok_execCounterCheckpoint {o s : State} (h : Ok o s) : OkO o (execCounterCheckpoint s) := by
  unfold execCounterCheckpoint
  repeat' (first | with_reducible assumption | (fail_if_no_progress (extract_lets +onlyGivenNames x); first | (refine okO_have x ?_ ?_; on_goal 1 => subst x; on_goal 2 => (clear_value x; intro _)) | skip) | with_reducible refine ok_efCheckpoint ?_ | with_reducible refine ok_checkpoint ?_ | with_reducible refine ok_forAll ?_ ?_ | ((conv => arg 2; arg 27; skip); with_reducible refine ok_mk ?_ rfl) | with_reducible refine ok_ite ?_ ?_ | with_reducible refine okO_ite ?_ ?_ | with_reducible refine okO_next ?_ | with_reducible refine ok_foldl ?_ ?_ | intro _ | extract_lets | split | (conv => arg 2; dsimp +zetaDelta only))

theorem ok_execCairnFlush {o s : State} (h : Ok o s) : OkO o (execCairnFlush s) := by
  unfold execCairnFlush
  repeat' (first | with_reducible assumption | (fail_if_no_progress (extract_lets +onlyGivenNames x); first | (refine okO_have x ?_ ?_; on_goal 1 => subst x; on_goal 2 => (clear_value x; intro _)) | skip) | with_reducible refine ok_cairnFlush ?_ | with_reducible refine ok_ite ?_ ?_ | with_reducible refine okO_ite ?_ ?_ | with_reducible refine okO_next ?_ | with_reducible refine ok_foldl ?_ ?_ | intro _ | extract_lets | split | (conv => arg 2; dsimp +zetaDelta only))

theorem ok_execCairnClearComplete {o s : State} (h : Ok o s) : OkO o (execCairnClearComplete s) := by
  unfold execCairnClearComplete
  repeat' (first | with_reducible assumption | (fail_if_no_progress (extract_lets +onlyGivenNames x); first | (refine okO_have x ?_ ?_; on_goal 1 => subst x; on_goal 2 => (clear_value x; intro _)) | skip) | with_reducible refine ok_cairnShow ?_ | with_reducible refine ok_setN ?_ | with_reducible refine ok_endL ?_ | with_reducible refine ok_clrResult ?_ | with_reducible refine ok_setF ?_ | ((conv => arg 2; arg 27; skip); with_reducible refine ok_mk ?_ rfl) | with_reducible refine ok_ite ?_ ?_ | with_reducible refine okO_ite ?_ ?_ | with_reducible refine okO_next ?_ | with_reducible refine ok_foldl ?_ ?_ | intro _ | extract_lets | split | (conv => arg 2; dsimp +zetaDelta only))

theorem ok_setImg {o s : State} (h : Ok o s) {a1 : Nat} : Ok o (State.setImg s a1) := by
  unfold State.setImg
  repeat' (first | with_reducible assumption | (fail_if_no_progress (extract_lets +onlyGivenNames x); first | (refine ok_have x ?_ ?_; on_goal 1 => subst x; on_goal 2 => (clear_value x; intro _)) | skip) | with_reducible refine ok_setB ?_ | with_reducible refine ok_setF ?_ | with_reducible refine ok_ite ?_ ?_ | with_reducible refine ok_foldl ?_ ?_ | intro _ | extract_lets | split | (conv => arg 2; dsimp +zetaDelta only))

theorem ok_imgResult {o s : State} (h : Ok o s) {a1 : Nat} {a2 : Nat} : Ok o (State.imgResult s a1 a2) := by
  unfold State.imgResult
  repeat' (first | with_reducible assumption | (fail_if_no_progress (extract_lets +onlyGivenNames x); first | (refine ok_have x ?_ ?_; on_goal 1 => subst x; on_goal 2 => (clear_value x; intro _)) | skip) | with_reducible refine ok_setF ?_ | with_reducible refine ok_ite ?_ ?_ | with_reducible refine ok_foldl ?_ ?_ | intro _ | extract_lets | split | (conv => arg 2; dsimp +zetaDelta only))

theorem ok_imgStop {o s : State} (h : Ok o s) : Ok o (State.imgStop s) := by
  unfold State.imgStop
  repeat' (first | with_reducible assumption | (fail_if_no_progress (extract_lets +onlyGivenNames x); first | (refine ok_have x ?_ ?_; on_goal 1 => subst x; on_goal 2 => (clear_value x; intro _)) | skip) | with_reducible refine ok_setImg ?_ | with_reducible refine ok_ite ?_ ?_ | with_reducible refine ok_foldl ?_ ?_ | intro _ | extract_lets | split | (conv => arg 2; dsimp +zetaDelta only))

theorem ok_imgBegin {o s : State} (h : Ok o s) : Ok o (State.imgBegin s) := by
  unfold State.imgBegin
  repeat' (first | with_reducible assumption | (fail_if_no_progress (extract_lets +onlyGivenNames x); first | (refine ok_have x ?_ ?_; on_goal 1 => subst x; on_goal 2 => (clear_value x; intro _)) | skip) | with_reducible refine ok_imgResult ?_ | with_reducible refine ok_putBank ?_ | with_reducible refine ok_setImg ?_ | with_reducible refine ok_setF ?_ | with_reducible refine ok_setReg ?_ | with_reducible refine ok_ite ?_ ?_ | with_reducible refine ok_foldl ?_ ?_ | intro _ | extract_lets | split | (conv => arg 2; dsimp +zetaDelta only))

theorem ok_imgAbort {o s : State} (h : Ok o s) : Ok o (State.imgAbort s) := by
  unfold State.imgAbort
  repeat' (first | with_reducible assumption | (fail_if_no_progress (extract_lets +onlyGivenNames x); first | (refine ok_have x ?_ ?_; on_goal 1 => subst x; on_goal 2 => (clear_value x; intro _)) | skip) | with_reducible refine ok_imgResult ?_ | with_reducible refine ok_imgStop ?_ | with_reducible refine ok_ite ?_ ?_ | with_reducible refine ok_foldl ?_ ?_ | intro _ | extract_lets | split | (conv => arg 2; dsimp +zetaDelta only))

theorem ok_imgData {o s : State} (h : Ok o s) {a1 : Nat} {a2 : List Word} : Ok o (State.imgData s a1 a2) := by
  unfold State.imgData
  repeat' (first | with_reducible assumption | (fail_if_no_progress (extract_lets +onlyGivenNames x); first | (refine ok_have x ?_ ?_; on_goal 1 => subst x; on_goal 2 => (clear_value x; intro _)) | skip) | with_reducible refine ok_setF ?_ | with_reducible refine ok_setN ?_ | with_reducible refine ok_putBank ?_ | with_reducible refine ok_setImg ?_ | with_reducible refine ok_ite ?_ ?_ | with_reducible refine ok_foldl ?_ ?_ | intro _ | extract_lets | split | (conv => arg 2; dsimp +zetaDelta only))

theorem ok_queueTrial {o s : State} (h : Ok o s) {a1 : Bool} : Ok o (State.queueTrial s a1) := by
  unfold State.queueTrial
  repeat' (first | with_reducible assumption | (fail_if_no_progress (extract_lets +onlyGivenNames x); first | (refine ok_have x ?_ ?_; on_goal 1 => subst x; on_goal 2 => (clear_value x; intro _)) | skip) | with_reducible refine ok_psQueue ?_ | with_reducible refine ok_ite ?_ ?_ | with_reducible refine ok_foldl ?_ ?_ | intro _ | extract_lets | split | (conv => arg 2; dsimp +zetaDelta only))

theorem ok_pauseStart {o s : State} (h : Ok o s) {a1 : ImgPause} : Ok o (State.pauseStart s a1) := by
  unfold State.pauseStart
  repeat' (first | with_reducible assumption | (fail_if_no_progress (extract_lets +onlyGivenNames x); first | (refine ok_have x ?_ ?_; on_goal 1 => subst x; on_goal 2 => (clear_value x; intro _)) | skip) | with_reducible refine ok_setF ?_ | with_reducible refine ok_imgStop ?_ | ((conv => arg 2; arg 27; skip); with_reducible refine ok_mk ?_ rfl) | with_reducible refine ok_ite ?_ ?_ | with_reducible refine ok_foldl ?_ ?_ | intro _ | extract_lets | split | (conv => arg 2; dsimp +zetaDelta only))

theorem ok_imgActivate {o s : State} (h : Ok o s) {a1 : Nat} : Ok o (State.imgActivate s a1) := by
  unfold State.imgActivate
  repeat' (first | with_reducible assumption | (fail_if_no_progress (extract_lets +onlyGivenNames x); first | (refine ok_have x ?_ ?_; on_goal 1 => subst x; on_goal 2 => (clear_value x; intro _)) | skip) | with_reducible refine ok_imgResult ?_ | with_reducible refine ok_pauseStart ?_ | with_reducible refine ok_queueTrial ?_ | with_reducible refine ok_ite ?_ ?_ | with_reducible refine ok_foldl ?_ ?_ | intro _ | extract_lets | split | (conv => arg 2; dsimp +zetaDelta only))

theorem ok_imgConfirmed {o s : State} (h : Ok o s) : Ok o (State.imgConfirmed s) := by
  unfold State.imgConfirmed
  repeat' (first | with_reducible assumption | (fail_if_no_progress (extract_lets +onlyGivenNames x); first | (refine ok_have x ?_ ?_; on_goal 1 => subst x; on_goal 2 => (clear_value x; intro _)) | skip) | with_reducible refine ok_setF ?_ | with_reducible refine ok_psQueue ?_ | with_reducible refine ok_psShow ?_ | with_reducible refine ok_setB ?_ | ((conv => arg 2; arg 27; skip); with_reducible refine ok_mk ?_ rfl) | with_reducible refine ok_ite ?_ ?_ | with_reducible refine ok_foldl ?_ ?_ | intro _ | extract_lets | split | (conv => arg 2; dsimp +zetaDelta only))

theorem ok_imgConfirm {o s : State} (h : Ok o s) {a1 : Nat} : Ok o (State.imgConfirm s a1) := by
  unfold State.imgConfirm
  repeat' (first | with_reducible assumption | (fail_if_no_progress (extract_lets +onlyGivenNames x); first | (refine ok_have x ?_ ?_; on_goal 1 => subst x; on_goal 2 => (clear_value x; intro _)) | skip) | with_reducible refine ok_imgResult ?_ | with_reducible refine ok_imgConfirmed ?_ | with_reducible refine ok_ite ?_ ?_ | with_reducible refine ok_foldl ?_ ?_ | intro _ | extract_lets | split | (conv => arg 2; dsimp +zetaDelta only))

theorem ok_imgCommand {o s : State} (h : Ok o s) {a1 : Nat} {a2 : Nat} : Ok o (State.imgCommand s a1 a2) := by
  unfold State.imgCommand
  repeat' (first | with_reducible assumption | (fail_if_no_progress (extract_lets +onlyGivenNames x); first | (refine ok_have x ?_ ?_; on_goal 1 => subst x; on_goal 2 => (clear_value x; intro _)) | skip) | with_reducible refine ok_imgBegin ?_ | with_reducible refine ok_imgAbort ?_ | with_reducible refine ok_imgActivate ?_ | with_reducible refine ok_imgConfirm ?_ | with_reducible refine ok_ite ?_ ?_ | with_reducible refine ok_foldl ?_ ?_ | intro _ | extract_lets | split | (conv => arg 2; dsimp +zetaDelta only))

theorem ok_migrateAll {o s : State} (h : Ok o s) : Ok o (State.migrateAll s) := by
  unfold State.migrateAll
  repeat' (first | with_reducible assumption | (fail_if_no_progress (extract_lets +onlyGivenNames x); first | (refine ok_have x ?_ ?_; on_goal 1 => subst x; on_goal 2 => (clear_value x; intro _)) | skip) | with_reducible refine ok_psShow ?_ | with_reducible refine ok_setF ?_ | ((conv => arg 2; arg 27; skip); with_reducible refine ok_mk ?_ rfl) | with_reducible refine ok_ite ?_ ?_ | with_reducible refine ok_foldl ?_ ?_ | intro _ | extract_lets | split | (conv => arg 2; dsimp +zetaDelta only))

theorem ok_mpuStart {o s : State} (h : Ok o s) {a1 : Bool} : Ok o (State.mpuStart s a1) := by
  unfold State.mpuStart
  repeat' (first | with_reducible assumption | (fail_if_no_progress (extract_lets +onlyGivenNames x); first | (refine ok_have x ?_ ?_; on_goal 1 => subst x; on_goal 2 => (clear_value x; intro _)) | skip) | with_reducible refine ok_migrateAll ?_ | with_reducible refine ok_showBank ?_ | with_reducible refine ok_setF ?_ | with_reducible refine ok_ringClear ?_ | with_reducible refine ok_forAll ?_ ?_ | with_reducible refine ok_ite ?_ ?_ | with_reducible refine ok_foldl ?_ ?_ | intro _ | extract_lets | split | (conv => arg 2; dsimp +zetaDelta only))

theorem ok_dropHeld {o s : State} (h : Ok o s) : Ok o (State.dropHeld s) := by
  unfold State.dropHeld
  repeat' (first | with_reducible assumption | (fail_if_no_progress (extract_lets +onlyGivenNames x); first | (refine ok_have x ?_ ?_; on_goal 1 => subst x; on_goal 2 => (clear_value x; intro _)) | skip) | with_reducible refine ok_psShow ?_ | ((conv => arg 2; arg 27; skip); with_reducible refine ok_mk ?_ rfl) | with_reducible refine ok_ite ?_ ?_ | with_reducible refine ok_foldl ?_ ?_ | intro _ | extract_lets | split | (conv => arg 2; dsimp +zetaDelta only))

theorem ok_execImageHeaderChecked {o s : State} (h : Ok o s) : OkO o (execImageHeaderChecked s) := by
  unfold execImageHeaderChecked
  repeat' (first | with_reducible assumption | (fail_if_no_progress (extract_lets +onlyGivenNames x); first | (refine okO_have x ?_ ?_; on_goal 1 => subst x; on_goal 2 => (clear_value x; intro _)) | skip) | with_reducible refine ok_setImg ?_ | with_reducible refine ok_setReg ?_ | with_reducible refine ok_raise ?_ | with_reducible refine ok_setF ?_ | with_reducible refine ok_ite ?_ ?_ | with_reducible refine okO_ite ?_ ?_ | with_reducible refine okO_next ?_ | with_reducible refine ok_foldl ?_ ?_ | intro _ | extract_lets | split | (conv => arg 2; dsimp +zetaDelta only))

theorem ok_execImageVerified {o s : State} (h : Ok o s) {a0 : Bool} : OkO o (execImageVerified a0 s) := by
  unfold execImageVerified
  repeat' (first | with_reducible assumption | (fail_if_no_progress (extract_lets +onlyGivenNames x); first | (refine okO_have x ?_ ?_; on_goal 1 => subst x; on_goal 2 => (clear_value x; intro _)) | skip) | with_reducible refine ok_raise ?_ | with_reducible refine ok_setImg ?_ | with_reducible refine ok_putBank ?_ | with_reducible refine ok_ite ?_ ?_ | with_reducible refine okO_ite ?_ ?_ | with_reducible refine okO_next ?_ | with_reducible refine ok_foldl ?_ ?_ | intro _ | extract_lets | split | (conv => arg 2; dsimp +zetaDelta only))

theorem ok_execImageStreamInterrupt {o s : State} (h : Ok o s) : OkO o (execImageStreamInterrupt s) := by
  unfold execImageStreamInterrupt
  repeat' (first | with_reducible assumption | (fail_if_no_progress (extract_lets +onlyGivenNames x); first | (refine okO_have x ?_ ?_; on_goal 1 => subst x; on_goal 2 => (clear_value x; intro _)) | skip) | with_reducible refine ok_imgStop ?_ | with_reducible refine ok_ite ?_ ?_ | with_reducible refine okO_ite ?_ ?_ | with_reducible refine okO_next ?_ | with_reducible refine ok_foldl ?_ ?_ | intro _ | extract_lets | split | (conv => arg 2; dsimp +zetaDelta only))

theorem ok_execActivationPauseEnd {o s : State} (h : Ok o s) : OkO o (execActivationPauseEnd s) := by
  unfold execActivationPauseEnd
  repeat' (first | with_reducible assumption | (fail_if_no_progress (extract_lets +onlyGivenNames x); first | (refine okO_have x ?_ ?_; on_goal 1 => subst x; on_goal 2 => (clear_value x; intro _)) | skip) | with_reducible refine ok_setF ?_ | with_reducible refine ok_setImg ?_ | with_reducible refine ok_mpuStart ?_ | with_reducible refine ok_raise ?_ | with_reducible refine ok_queueTrial ?_ | ((conv => arg 2; arg 27; skip); with_reducible refine ok_mk ?_ rfl) | with_reducible refine ok_ite ?_ ?_ | with_reducible refine okO_ite ?_ ?_ | with_reducible refine okO_next ?_ | with_reducible refine ok_foldl ?_ ?_ | intro _ | extract_lets | split | (conv => arg 2; dsimp +zetaDelta only))

theorem ok_execAutoConfirm {o s : State} (h : Ok o s) : OkO o (execAutoConfirm s) := by
  unfold execAutoConfirm
  repeat' (first | with_reducible assumption | (fail_if_no_progress (extract_lets +onlyGivenNames x); first | (refine okO_have x ?_ ?_; on_goal 1 => subst x; on_goal 2 => (clear_value x; intro _)) | skip) | with_reducible refine ok_imgResult ?_ | with_reducible refine ok_imgConfirmed ?_ | with_reducible refine ok_ite ?_ ?_ | with_reducible refine okO_ite ?_ ?_ | with_reducible refine okO_next ?_ | with_reducible refine ok_foldl ?_ ?_ | intro _ | extract_lets | split | (conv => arg 2; dsimp +zetaDelta only))

theorem ok_execTrialExpiry {o s : State} (h : Ok o s) : OkO o (execTrialExpiry s) := by
  unfold execTrialExpiry
  repeat' (first | with_reducible assumption | (fail_if_no_progress (extract_lets +onlyGivenNames x); first | (refine okO_have x ?_ ?_; on_goal 1 => subst x; on_goal 2 => (clear_value x; intro _)) | skip) | with_reducible refine ok_pauseStart ?_ | with_reducible refine ok_queueTrial ?_ | with_reducible refine ok_dropHeld ?_ | with_reducible refine ok_setF ?_ | with_reducible refine ok_raise ?_ | with_reducible refine ok_ite ?_ ?_ | with_reducible refine okO_ite ?_ ?_ | with_reducible refine okO_next ?_ | with_reducible refine ok_foldl ?_ ?_ | intro _ | extract_lets | split | (conv => arg 2; dsimp +zetaDelta only))

theorem ok_loadSlot {o s : State} (h : Ok o s) {a1 : Nat} {a2 : SlotCopy} : Ok o (State.loadSlot s a1 a2) := by
  unfold State.loadSlot
  repeat' (first | with_reducible assumption | (fail_if_no_progress (extract_lets +onlyGivenNames x); first | (refine ok_have x ?_ ?_; on_goal 1 => subst x; on_goal 2 => (clear_value x; intro _)) | skip) | with_reducible refine ok_putLawState ?_ | with_reducible refine ok_setReg ?_ | with_reducible refine ok_setF ?_ | with_reducible refine ok_setB ?_ | with_reducible refine ok_updVs ?_ | with_reducible refine ok_ite ?_ ?_ | with_reducible refine ok_foldl ?_ ?_ | intro _ | extract_lets | split | (conv => arg 2; dsimp +zetaDelta only))

theorem ok_loadSlots {o s : State} (h : Ok o s) {a1 : StateCopy} : Ok o (State.loadSlots s a1) := by
  unfold State.loadSlots
  repeat' (first | with_reducible assumption | (fail_if_no_progress (extract_lets +onlyGivenNames x); first | (refine ok_have x ?_ ?_; on_goal 1 => subst x; on_goal 2 => (clear_value x; intro _)) | skip) | with_reducible refine ok_loadSlot ?_ | with_reducible refine ok_forAll ?_ ?_ | with_reducible refine ok_ite ?_ ?_ | with_reducible refine ok_foldl ?_ ?_ | intro _ | extract_lets | split | (conv => arg 2; dsimp +zetaDelta only))

theorem ok_shadowRaise {o s : State} (h : Ok o s) {a1 : Nat} {a2 : Nat} : Ok o (State.shadowRaise s a1 a2) := by
  unfold State.shadowRaise
  repeat' (first | with_reducible assumption | (fail_if_no_progress (extract_lets +onlyGivenNames x); first | (refine ok_have x ?_ ?_; on_goal 1 => subst x; on_goal 2 => (clear_value x; intro _)) | skip) | with_reducible refine ok_raise ?_ | with_reducible refine ok_updPair ?_ | with_reducible refine ok_ite ?_ ?_ | with_reducible refine ok_foldl ?_ ?_ | intro _ | extract_lets | split | (conv => arg 2; dsimp +zetaDelta only))

theorem ok_shadowCompare {o s : State} (h : Ok o s) {a1 : StateCopy} : Ok o (State.shadowCompare s a1) := by
  unfold State.shadowCompare
  repeat' (first | with_reducible assumption | (fail_if_no_progress (extract_lets +onlyGivenNames x); first | (refine ok_have x ?_ ?_; on_goal 1 => subst x; on_goal 2 => (clear_value x; intro _)) | skip) | with_reducible refine ok_incSat ?_ | with_reducible refine ok_updPair ?_ | with_reducible refine ok_shadowRaise ?_ | with_reducible refine ok_ite ?_ ?_ | with_reducible refine ok_foldl ?_ ?_ | intro _ | extract_lets | split | (conv => arg 2; dsimp +zetaDelta only))

theorem ok_selected {o s : State} (h : Ok o s) {a1 : SelChunk} : Ok o (State.selected s a1) := by
  unfold State.selected
  repeat' (first | with_reducible assumption | (fail_if_no_progress (extract_lets +onlyGivenNames x); first | (refine ok_have x ?_ ?_; on_goal 1 => subst x; on_goal 2 => (clear_value x; intro _)) | skip) | with_reducible refine ok_updPair ?_ | with_reducible refine ok_psQueue ?_ | with_reducible refine ok_setN ?_ | with_reducible refine ok_ite ?_ ?_ | with_reducible refine ok_foldl ?_ ?_ | intro _ | extract_lets | split | (conv => arg 2; dsimp +zetaDelta only))

theorem ok_gridStep {o s : State} (h : Ok o s) {a1 : ℤ} : Ok o (State.gridStep s a1) := by
  unfold State.gridStep
  repeat' (first | with_reducible assumption | (fail_if_no_progress (extract_lets +onlyGivenNames x); first | (refine ok_have x ?_ ?_; on_goal 1 => subst x; on_goal 2 => (clear_value x; intro _)) | skip) | with_reducible refine ok_setF ?_ | with_reducible refine ok_updPair ?_ | with_reducible refine ok_ite ?_ ?_ | with_reducible refine ok_foldl ?_ ?_ | intro _ | extract_lets | split | (conv => arg 2; dsimp +zetaDelta only))

theorem ok_resumeLearn {o s : State} (h : Ok o s) {a1 : Nat} : Ok o (State.resumeLearn s a1) := by
  unfold State.resumeLearn
  repeat' (first | with_reducible assumption | (fail_if_no_progress (extract_lets +onlyGivenNames x); first | (refine ok_have x ?_ ?_; on_goal 1 => subst x; on_goal 2 => (clear_value x; intro _)) | skip) | with_reducible refine ok_takeFree ?_ | with_reducible refine ok_takeFree_eq ?_ ‹_› | with_reducible refine ok_setReg ?_ | with_reducible refine ok_setF ?_ | with_reducible refine ok_updEst ?_ | ((conv => arg 2; arg 27; skip); with_reducible refine ok_mk ?_ rfl) | with_reducible refine ok_ite ?_ ?_ | with_reducible refine ok_foldl ?_ ?_ | intro _ | extract_lets | split | (conv => arg 2; dsimp +zetaDelta only))

theorem ok_takeCornice {o s : State} (h : Ok o s) {a1 : StateCopy} : Ok o (State.takeCornice s a1) := by
  unfold State.takeCornice
  repeat' (first | with_reducible assumption | (fail_if_no_progress (extract_lets +onlyGivenNames x); first | (refine ok_have x ?_ ?_; on_goal 1 => subst x; on_goal 2 => (clear_value x; intro _)) | skip) | with_reducible refine ok_setF ?_ | with_reducible refine ok_updCn ?_ | with_reducible refine ok_takeFree ?_ | with_reducible refine ok_takeFree_eq ?_ ‹_› | with_reducible refine ok_setReg ?_ | with_reducible refine ok_setB ?_ | with_reducible refine ok_incSat ?_ | with_reducible refine ok_forAll ?_ ?_ | with_reducible refine ok_ite ?_ ?_ | with_reducible refine ok_foldl ?_ ?_ | intro _ | extract_lets | split | (conv => arg 2; dsimp +zetaDelta only))

theorem ok_restoreCopy {o s : State} (h : Ok o s) {a1 : StateCopy} : Ok o (State.restoreCopy s a1) := by
  unfold State.restoreCopy
  repeat' (first | with_reducible assumption | (fail_if_no_progress (extract_lets +onlyGivenNames x); first | (refine ok_have x ?_ ?_; on_goal 1 => subst x; on_goal 2 => (clear_value x; intro _)) | skip) | with_reducible refine ok_setReg ?_ | with_reducible refine ok_updShelf ?_ | with_reducible refine ok_setB ?_ | with_reducible refine ok_setF ?_ | with_reducible refine ok_forAll ?_ ?_ | with_reducible refine ok_ite ?_ ?_ | with_reducible refine ok_foldl ?_ ?_ | intro _ | extract_lets | split | (conv => arg 2; dsimp +zetaDelta only))

theorem ok_takeRole {o s : State} (h : Ok o s) {a1 : Bool} : Ok o (State.takeRole s a1) := by
  unfold State.takeRole
  repeat' (first | with_reducible assumption | (fail_if_no_progress (extract_lets +onlyGivenNames x); first | (refine ok_have x ?_ ?_; on_goal 1 => subst x; on_goal 2 => (clear_value x; intro _)) | skip) | with_reducible refine ok_setF ?_ | with_reducible refine ok_setEpoch ?_ | with_reducible refine ok_updShelf ?_ | with_reducible refine ok_updSample ?_ | with_reducible refine ok_updPair ?_ | with_reducible refine ok_actGroups ?_ | with_reducible refine ok_showNextSsn ?_ | with_reducible refine ok_ite ?_ ?_ | with_reducible refine ok_foldl ?_ ?_ | intro _ | extract_lets | split | (conv => arg 2; dsimp +zetaDelta only))

theorem ok_takeHoldup {o s : State} (h : Ok o s) {a1 : StateCopy} : Ok o (State.takeHoldup s a1) := by
  unfold State.takeHoldup
  repeat' (first | with_reducible assumption | (fail_if_no_progress (extract_lets +onlyGivenNames x); first | (refine ok_have x ?_ ?_; on_goal 1 => subst x; on_goal 2 => (clear_value x; intro _)) | skip) | with_reducible refine ok_updShelf ?_ | with_reducible refine ok_setF ?_ | with_reducible refine ok_incSat ?_ | with_reducible refine ok_setN ?_ | with_reducible refine ok_raise ?_ | with_reducible refine ok_setMode ?_ | with_reducible refine ok_ite ?_ ?_ | with_reducible refine ok_foldl ?_ ?_ | intro _ | extract_lets | split | (conv => arg 2; dsimp +zetaDelta only))

theorem ok_takeTell {o s : State} (h : Ok o s) {a1 : Nat} : Ok o (State.takeTell s a1) := by
  unfold State.takeTell
  repeat' (first | with_reducible assumption | (fail_if_no_progress (extract_lets +onlyGivenNames x); first | (refine ok_have x ?_ ?_; on_goal 1 => subst x; on_goal 2 => (clear_value x; intro _)) | skip) | with_reducible refine ok_setF ?_ | with_reducible refine ok_incSat ?_ | with_reducible refine ok_raise ?_ | with_reducible refine ok_ite ?_ ?_ | with_reducible refine ok_foldl ?_ ?_ | intro _ | extract_lets | split | (conv => arg 2; dsimp +zetaDelta only))

theorem ok_takeMode {o s : State} (h : Ok o s) : Ok o (State.takeMode s) := by
  unfold State.takeMode
  repeat' (first | with_reducible assumption | (fail_if_no_progress (extract_lets +onlyGivenNames x); first | (refine ok_have x ?_ ?_; on_goal 1 => subst x; on_goal 2 => (clear_value x; intro _)) | skip) | with_reducible refine ok_setMode ?_ | with_reducible refine ok_ite ?_ ?_ | with_reducible refine ok_foldl ?_ ?_ | intro _ | extract_lets | split | (conv => arg 2; dsimp +zetaDelta only))

theorem ok_takeOver {o s : State} (h : Ok o s) {a1 : Nat} : Ok o (State.takeOver s a1) := by
  unfold State.takeOver
  repeat' (first | with_reducible assumption | (fail_if_no_progress (extract_lets +onlyGivenNames x); first | (refine ok_have x ?_ ?_; on_goal 1 => subst x; on_goal 2 => (clear_value x; intro _)) | skip) | with_reducible refine ok_updPair ?_ | with_reducible refine ok_takeRole ?_ | with_reducible refine ok_takeCornice ?_ | with_reducible refine ok_restoreCopy ?_ | with_reducible refine ok_updVs ?_ | with_reducible refine ok_setF ?_ | with_reducible refine ok_takeMode ?_ | with_reducible refine ok_takeHoldup ?_ | with_reducible refine ok_takeTell ?_ | with_reducible refine ok_resumeLearn ?_ | with_reducible refine ok_forAll ?_ ?_ | with_reducible refine ok_ite ?_ ?_ | with_reducible refine ok_foldl ?_ ?_ | intro _ | extract_lets | split | (conv => arg 2; dsimp +zetaDelta only))

theorem ok_leaveRole {o s : State} (h : Ok o s) : Ok o (State.leaveRole s) := by
  unfold State.leaveRole
  repeat' (first | with_reducible assumption | (fail_if_no_progress (extract_lets +onlyGivenNames x); first | (refine ok_have x ?_ ?_; on_goal 1 => subst x; on_goal 2 => (clear_value x; intro _)) | skip) | with_reducible refine ok_setF ?_ | with_reducible refine ok_incSat ?_ | with_reducible refine ok_updPair ?_ | with_reducible refine ok_actGroups ?_ | with_reducible refine ok_showNextSsn ?_ | with_reducible refine ok_updSample ?_ | with_reducible refine ok_updShelf ?_ | with_reducible refine ok_setMode ?_ | with_reducible refine ok_ite ?_ ?_ | with_reducible refine ok_foldl ?_ ?_ | intro _ | extract_lets | split | (conv => arg 2; dsimp +zetaDelta only))

theorem ok_settleActive {o s : State} (h : Ok o s) : Ok o (State.settleActive s) := by
  unfold State.settleActive
  repeat' (first | with_reducible assumption | (fail_if_no_progress (extract_lets +onlyGivenNames x); first | (refine ok_have x ?_ ?_; on_goal 1 => subst x; on_goal 2 => (clear_value x; intro _)) | skip) | with_reducible refine ok_takeRole ?_ | with_reducible refine ok_setMode ?_ | with_reducible refine ok_ite ?_ ?_ | with_reducible refine ok_foldl ?_ ?_ | intro _ | extract_lets | split | (conv => arg 2; dsimp +zetaDelta only))

theorem ok_pairCmd {o s : State} (h : Ok o s) {a1 : Bool} {a2 : Bool} : Ok o (State.pairCmd s a1 a2) := by
  unfold State.pairCmd
  repeat' (first | with_reducible assumption | (fail_if_no_progress (extract_lets +onlyGivenNames x); first | (refine ok_have x ?_ ?_; on_goal 1 => subst x; on_goal 2 => (clear_value x; intro _)) | skip) | with_reducible refine ok_updPair ?_ | with_reducible refine ok_setN ?_ | with_reducible refine ok_setF ?_ | with_reducible refine ok_ite ?_ ?_ | with_reducible refine ok_foldl ?_ ?_ | intro _ | extract_lets | split | (conv => arg 2; dsimp +zetaDelta only))

theorem ok_ridgeCntClr {o s : State} (h : Ok o s) : Ok o (State.ridgeCntClr s) := by
  unfold State.ridgeCntClr
  repeat' (first | with_reducible assumption | (fail_if_no_progress (extract_lets +onlyGivenNames x); first | (refine ok_have x ?_ ?_; on_goal 1 => subst x; on_goal 2 => (clear_value x; intro _)) | skip) | with_reducible refine ok_setReg ?_ | with_reducible refine ok_ite ?_ ?_ | with_reducible refine ok_foldl ?_ ?_ | intro _ | extract_lets | split | (conv => arg 2; dsimp +zetaDelta only))

theorem ok_revertStep {o s : State} (h : Ok o s) : Ok o (State.revertStep s) := by
  unfold State.revertStep
  repeat' (first | with_reducible assumption | (fail_if_no_progress (extract_lets +onlyGivenNames x); first | (refine ok_have x ?_ ?_; on_goal 1 => subst x; on_goal 2 => (clear_value x; intro _)) | skip) | with_reducible refine ok_updPair ?_ | with_reducible refine ok_setF ?_ | with_reducible refine ok_ite ?_ ?_ | with_reducible refine ok_foldl ?_ ?_ | intro _ | extract_lets | split | (conv => arg 2; dsimp +zetaDelta only))

theorem ok_relaySetpoints {o s : State} (h : Ok o s) : Ok o (State.relaySetpoints s) := by
  unfold State.relaySetpoints
  repeat' (first | with_reducible assumption | (fail_if_no_progress (extract_lets +onlyGivenNames x); first | (refine ok_have x ?_ ?_; on_goal 1 => subst x; on_goal 2 => (clear_value x; intro _)) | skip) | with_reducible refine ok_relay ?_ | with_reducible refine ok_forAll ?_ ?_ | with_reducible refine ok_ite ?_ ?_ | with_reducible refine ok_foldl ?_ ?_ | intro _ | extract_lets | split | (conv => arg 2; dsimp +zetaDelta only))

theorem ok_setpointStart {o s : State} (h : Ok o s) : Ok o (State.setpointStart s) := by
  unfold State.setpointStart
  repeat' (first | with_reducible assumption | (fail_if_no_progress (extract_lets +onlyGivenNames x); first | (refine ok_have x ?_ ?_; on_goal 1 => subst x; on_goal 2 => (clear_value x; intro _)) | skip) | with_reducible refine ok_updPair ?_ | with_reducible refine ok_relaySetpoints ?_ | with_reducible refine ok_svCycle ?_ | with_reducible refine ok_ownSend ?_ | with_reducible refine ok_askSeen ?_ | with_reducible refine ok_updShelf ?_ | with_reducible refine ok_updPort ?_ | with_reducible refine ok_forAll ?_ ?_ | with_reducible refine ok_ite ?_ ?_ | with_reducible refine ok_foldl ?_ ?_ | intro _ | extract_lets | split | (conv => arg 2; dsimp +zetaDelta only))

theorem ok_execSetpointStart {o s : State} (h : Ok o s) : OkO o (execSetpointStart s) := by
  unfold execSetpointStart
  refine okO_heldRun h ?_; intro s h
  repeat' (first | with_reducible assumption | (fail_if_no_progress (extract_lets +onlyGivenNames x); first | (refine okO_have x ?_ ?_; on_goal 1 => subst x; on_goal 2 => (clear_value x; intro _)) | skip) | with_reducible refine ok_setpointStart ?_ | with_reducible refine ok_ite ?_ ?_ | with_reducible refine okO_ite ?_ ?_ | with_reducible refine okO_next ?_ | with_reducible refine ok_foldl ?_ ?_ | intro _ | extract_lets | split | (conv => arg 2; dsimp +zetaDelta only))

theorem ok_execRidgeLinkUp {o s : State} (h : Ok o s) {a0 : Half} : OkO o (execRidgeLinkUp a0 s) := by
  unfold execRidgeLinkUp
  repeat' (first | with_reducible assumption | (fail_if_no_progress (extract_lets +onlyGivenNames x); first | (refine okO_have x ?_ ?_; on_goal 1 => subst x; on_goal 2 => (clear_value x; intro _)) | skip) | with_reducible refine ok_setF ?_ | with_reducible refine ok_ite ?_ ?_ | with_reducible refine okO_ite ?_ ?_ | with_reducible refine okO_next ?_ | with_reducible refine ok_foldl ?_ ?_ | intro _ | extract_lets | split | (conv => arg 2; dsimp +zetaDelta only))

theorem ok_ridgeDown {o s : State} (h : Ok o s) : Ok o (State.ridgeDown s) := by
  unfold State.ridgeDown
  repeat' (first | with_reducible assumption | (fail_if_no_progress (extract_lets +onlyGivenNames x); first | (refine ok_have x ?_ ?_; on_goal 1 => subst x; on_goal 2 => (clear_value x; intro _)) | skip) | with_reducible refine ok_setF ?_ | with_reducible refine ok_raise ?_ | with_reducible refine ok_revertStep ?_ | with_reducible refine ok_incSat ?_ | with_reducible refine ok_forAll ?_ ?_ | with_reducible refine ok_ite ?_ ?_ | with_reducible refine ok_foldl ?_ ?_ | intro _ | extract_lets | split | (conv => arg 2; dsimp +zetaDelta only))

theorem ok_execRidgeLinkDown {o s : State} (h : Ok o s) : OkO o (execRidgeLinkDown s) := by
  unfold execRidgeLinkDown
  repeat' (first | with_reducible assumption | (fail_if_no_progress (extract_lets +onlyGivenNames x); first | (refine okO_have x ?_ ?_; on_goal 1 => subst x; on_goal 2 => (clear_value x; intro _)) | skip) | with_reducible refine ok_ridgeDown ?_ | with_reducible refine ok_ite ?_ ?_ | with_reducible refine okO_ite ?_ ?_ | with_reducible refine okO_next ?_ | with_reducible refine ok_foldl ?_ ?_ | intro _ | extract_lets | split | (conv => arg 2; dsimp +zetaDelta only))

theorem ok_execRidgeRelock {o s : State} (h : Ok o s) : OkO o (execRidgeRelock s) := by
  unfold execRidgeRelock
  repeat' (first | with_reducible assumption | (fail_if_no_progress (extract_lets +onlyGivenNames x); first | (refine okO_have x ?_ ?_; on_goal 1 => subst x; on_goal 2 => (clear_value x; intro _)) | skip) | with_reducible refine ok_raise ?_ | with_reducible refine ok_updPair ?_ | with_reducible refine ok_ite ?_ ?_ | with_reducible refine okO_ite ?_ ?_ | with_reducible refine okO_next ?_ | with_reducible refine ok_foldl ?_ ?_ | intro _ | extract_lets | split | (conv => arg 2; dsimp +zetaDelta only))

theorem ok_copySsn {o s : State} (h : Ok o s) {a1 : Word} : Ok o (State.copySsn s a1) := by
  unfold State.copySsn
  repeat' (first | with_reducible assumption | (fail_if_no_progress (extract_lets +onlyGivenNames x); first | (refine ok_have x ?_ ?_; on_goal 1 => subst x; on_goal 2 => (clear_value x; intro _)) | skip) | with_reducible refine ok_updSample ?_ | with_reducible refine ok_ite ?_ ?_ | with_reducible refine ok_foldl ?_ ?_ | intro _ | extract_lets | split | (conv => arg 2; dsimp +zetaDelta only))

theorem ok_execCopyRx {o s : State} (h : Ok o s) {a0 : StateCopy} : OkO o (execCopyRx a0 s) := by
  unfold execCopyRx
  repeat' (first | with_reducible assumption | (fail_if_no_progress (extract_lets +onlyGivenNames x); first | (refine okO_have x ?_ ?_; on_goal 1 => subst x; on_goal 2 => (clear_value x; intro _)) | skip) | with_reducible refine ok_setF ?_ | with_reducible refine ok_gridStep ?_ | with_reducible refine ok_updPair ?_ | with_reducible refine ok_shadowCompare ?_ | with_reducible refine ok_selected ?_ | with_reducible refine ok_loadSlots ?_ | with_reducible refine ok_updSample ?_ | with_reducible refine ok_copySsn ?_ | with_reducible refine ok_updShelf ?_ | with_reducible refine ok_ite ?_ ?_ | with_reducible refine okO_ite ?_ ?_ | with_reducible refine okO_next ?_ | with_reducible refine ok_foldl ?_ ?_ | intro _ | extract_lets | split | (conv => arg 2; dsimp +zetaDelta only))

theorem ok_copyMiss {o s : State} (h : Ok o s) {a1 : Nat} {a2 : RaiseHow} : Ok o (State.copyMiss s a1 a2) := by
  unfold State.copyMiss
  repeat' (first | with_reducible assumption | (fail_if_no_progress (extract_lets +onlyGivenNames x); first | (refine ok_have x ?_ ?_; on_goal 1 => subst x; on_goal 2 => (clear_value x; intro _)) | skip) | with_reducible refine ok_incSat ?_ | with_reducible refine ok_raiseN ?_ | with_reducible refine ok_updPair ?_ | with_reducible refine ok_blockedRaise ?_ | with_reducible refine ok_ite ?_ ?_ | with_reducible refine ok_foldl ?_ ?_ | intro _ | extract_lets | split | (conv => arg 2; dsimp +zetaDelta only))

theorem ok_execCopyMissed {o s : State} (h : Ok o s) {a0 : CopyMiss} : OkO o (execCopyMissed a0 s) := by
  unfold execCopyMissed
  repeat' (first | with_reducible assumption | (fail_if_no_progress (extract_lets +onlyGivenNames x); first | (refine okO_have x ?_ ?_; on_goal 1 => subst x; on_goal 2 => (clear_value x; intro _)) | skip) | with_reducible refine ok_copyMiss ?_ | with_reducible refine ok_ite ?_ ?_ | with_reducible refine okO_ite ?_ ?_ | with_reducible refine okO_next ?_ | with_reducible refine ok_foldl ?_ ?_ | intro _ | extract_lets | split | (conv => arg 2; dsimp +zetaDelta only))

theorem ok_execGridLockLost {o s : State} (h : Ok o s) : OkO o (execGridLockLost s) := by
  unfold execGridLockLost
  repeat' (first | with_reducible assumption | (fail_if_no_progress (extract_lets +onlyGivenNames x); first | (refine okO_have x ?_ ?_; on_goal 1 => subst x; on_goal 2 => (clear_value x; intro _)) | skip) | with_reducible refine ok_raise ?_ | with_reducible refine ok_setF ?_ | with_reducible refine ok_ite ?_ ?_ | with_reducible refine okO_ite ?_ ?_ | with_reducible refine okO_next ?_ | with_reducible refine ok_foldl ?_ ?_ | intro _ | extract_lets | split | (conv => arg 2; dsimp +zetaDelta only))

theorem ok_execHelloExchange {o s : State} (h : Ok o s) {a0 : Hello} : OkO o (execHelloExchange a0 s) := by
  unfold execHelloExchange
  repeat' (first | with_reducible assumption | (fail_if_no_progress (extract_lets +onlyGivenNames x); first | (refine okO_have x ?_ ?_; on_goal 1 => subst x; on_goal 2 => (clear_value x; intro _)) | skip) | with_reducible refine ok_setReg ?_ | with_reducible refine ok_setB ?_ | with_reducible refine ok_setF ?_ | with_reducible refine ok_updPair ?_ | with_reducible refine ok_endL ?_ | with_reducible refine ok_raiseL ?_ | with_reducible refine ok_revertStep ?_ | with_reducible refine ok_ite ?_ ?_ | with_reducible refine okO_ite ?_ ?_ | with_reducible refine okO_next ?_ | with_reducible refine ok_foldl ?_ ?_ | intro _ | extract_lets | split | (conv => arg 2; dsimp +zetaDelta only))

theorem ok_execYieldRx {o s : State} (h : Ok o s) : OkO o (execYieldRx s) := by
  unfold execYieldRx
  repeat' (first | with_reducible assumption | (fail_if_no_progress (extract_lets +onlyGivenNames x); first | (refine okO_have x ?_ ?_; on_goal 1 => subst x; on_goal 2 => (clear_value x; intro _)) | skip) | with_reducible refine ok_blockedRaise ?_ | with_reducible refine ok_updPair ?_ | with_reducible refine ok_ite ?_ ?_ | with_reducible refine okO_ite ?_ ?_ | with_reducible refine okO_next ?_ | with_reducible refine ok_foldl ?_ ?_ | intro _ | extract_lets | split | (conv => arg 2; dsimp +zetaDelta only))

theorem ok_execShadowReportRx {o s : State} (h : Ok o s) {a0 : Byte} {a1 : Byte} : OkO o (execShadowReportRx a0 a1 s) := by
  unfold execShadowReportRx
  repeat' (first | with_reducible assumption | (fail_if_no_progress (extract_lets +onlyGivenNames x); first | (refine okO_have x ?_ ?_; on_goal 1 => subst x; on_goal 2 => (clear_value x; intro _)) | skip) | with_reducible refine ok_raise ?_ | with_reducible refine ok_updPair ?_ | with_reducible refine ok_ite ?_ ?_ | with_reducible refine okO_ite ?_ ?_ | with_reducible refine okO_next ?_ | with_reducible refine ok_foldl ?_ ?_ | intro _ | extract_lets | split | (conv => arg 2; dsimp +zetaDelta only))

theorem ok_execRelayRx {o s : State} (h : Ok o s) {a0 : RelayFrame} : OkO o (execRelayRx a0 s) := by
  unfold execRelayRx
  repeat' (first | with_reducible assumption | (fail_if_no_progress (extract_lets +onlyGivenNames x); first | (refine okO_have x ?_ ?_; on_goal 1 => subst x; on_goal 2 => (clear_value x; intro _)) | skip) | with_reducible refine ok_writeBytes ?_ | with_reducible refine ok_queueRaw ?_ | with_reducible refine ok_sampleIn ?_ | with_reducible refine ok_statusIn ?_ | with_reducible refine ok_ringPut ?_ | with_reducible refine ok_raise ?_ | with_reducible refine ok_incSat ?_ | with_reducible refine ok_ite ?_ ?_ | with_reducible refine okO_ite ?_ ?_ | with_reducible refine okO_next ?_ | with_reducible refine ok_foldl ?_ ?_ | intro _ | extract_lets | split | (conv => arg 2; dsimp +zetaDelta only))

theorem ok_execTakeover {o s : State} (h : Ok o s) {a0 : TakeTrigger} : OkO o (execTakeover a0 s) := by
  unfold execTakeover
  refine okO_heldRun h ?_; intro s h
  repeat' (first | with_reducible assumption | (fail_if_no_progress (extract_lets +onlyGivenNames x); first | (refine okO_have x ?_ ?_; on_goal 1 => subst x; on_goal 2 => (clear_value x; intro _)) | skip) | with_reducible refine ok_takeOver ?_ | with_reducible refine ok_ite ?_ ?_ | with_reducible refine okO_ite ?_ ?_ | with_reducible refine okO_next ?_ | with_reducible refine ok_foldl ?_ ?_ | intro _ | extract_lets | split | (conv => arg 2; dsimp +zetaDelta only))

theorem ok_execFirstSetpointAfterTakeover {o s : State} (h : Ok o s) : OkO o (execFirstSetpointAfterTakeover s) := by
  unfold execFirstSetpointAfterTakeover
  refine okO_heldRun h ?_; intro s h
  repeat' (first | with_reducible assumption | (fail_if_no_progress (extract_lets +onlyGivenNames x); first | (refine okO_have x ?_ ?_; on_goal 1 => subst x; on_goal 2 => (clear_value x; intro _)) | skip) | with_reducible refine ok_updPair ?_ | with_reducible refine ok_updShelf ?_ | with_reducible refine ok_writeBytes ?_ | with_reducible refine ok_setpointStart ?_ | with_reducible refine ok_forAll ?_ ?_ | with_reducible refine ok_ite ?_ ?_ | with_reducible refine okO_ite ?_ ?_ | with_reducible refine okO_next ?_ | with_reducible refine ok_foldl ?_ ?_ | intro _ | extract_lets | split | (conv => arg 2; dsimp +zetaDelta only))

theorem ok_execPlannedHandoverBoundary {o s : State} (h : Ok o s) : OkO o (execPlannedHandoverBoundary s) := by
  unfold execPlannedHandoverBoundary
  repeat' (first | with_reducible assumption | (fail_if_no_progress (extract_lets +onlyGivenNames x); first | (refine okO_have x ?_ ?_; on_goal 1 => subst x; on_goal 2 => (clear_value x; intro _)) | skip) | with_reducible refine ok_leaveRole ?_ | with_reducible refine ok_takeCornice ?_ | with_reducible refine ok_restoreCopy ?_ | with_reducible refine ok_takeRole ?_ | with_reducible refine ok_takeMode ?_ | with_reducible refine ok_updPair ?_ | with_reducible refine ok_takeTell ?_ | with_reducible refine ok_resumeLearn ?_ | with_reducible refine ok_forAll ?_ ?_ | with_reducible refine ok_ite ?_ ?_ | with_reducible refine okO_ite ?_ ?_ | with_reducible refine okO_next ?_ | with_reducible refine ok_foldl ?_ ?_ | intro _ | extract_lets | split | (conv => arg 2; dsimp +zetaDelta only))

theorem ok_execProofTestEnd {o s : State} (h : Ok o s) {a0 : BitVec 4} {a1 : Byte} : OkO o (execProofTestEnd a0 a1 s) := by
  unfold execProofTestEnd
  repeat' (first | with_reducible assumption | (fail_if_no_progress (extract_lets +onlyGivenNames x); first | (refine okO_have x ?_ ?_; on_goal 1 => subst x; on_goal 2 => (clear_value x; intro _)) | skip) | with_reducible refine ok_setF ?_ | with_reducible refine ok_leaveRole ?_ | with_reducible refine ok_raise ?_ | with_reducible refine ok_ite ?_ ?_ | with_reducible refine okO_ite ?_ ?_ | with_reducible refine okO_next ?_ | with_reducible refine ok_foldl ?_ ?_ | intro _ | extract_lets | split | (conv => arg 2; dsimp +zetaDelta only))

theorem ok_execEpochDemote {o s : State} (h : Ok o s) {a0 : NewerEpoch} : OkO o (execEpochDemote a0 s) := by
  unfold execEpochDemote
  repeat' (first | with_reducible assumption | (fail_if_no_progress (extract_lets +onlyGivenNames x); first | (refine okO_have x ?_ ?_; on_goal 1 => subst x; on_goal 2 => (clear_value x; intro _)) | skip) | with_reducible refine ok_setF ?_ | with_reducible refine ok_leaveRole ?_ | with_reducible refine ok_updPair ?_ | with_reducible refine ok_raise ?_ | with_reducible refine ok_ite ?_ ?_ | with_reducible refine okO_ite ?_ ?_ | with_reducible refine okO_next ?_ | with_reducible refine ok_foldl ?_ ?_ | intro _ | extract_lets | split | (conv => arg 2; dsimp +zetaDelta only))

theorem ok_execDemoteHoldExpiry {o s : State} (h : Ok o s) : OkO o (execDemoteHoldExpiry s) := by
  unfold execDemoteHoldExpiry
  repeat' (first | with_reducible assumption | (fail_if_no_progress (extract_lets +onlyGivenNames x); first | (refine okO_have x ?_ ?_; on_goal 1 => subst x; on_goal 2 => (clear_value x; intro _)) | skip) | with_reducible refine ok_setF ?_ | with_reducible refine ok_ite ?_ ?_ | with_reducible refine okO_ite ?_ ?_ | with_reducible refine okO_next ?_ | with_reducible refine ok_foldl ?_ ?_ | intro _ | extract_lets | split | (conv => arg 2; dsimp +zetaDelta only))

theorem ok_execPartnerWaitExpiry {o s : State} (h : Ok o s) : OkO o (execPartnerWaitExpiry s) := by
  unfold execPartnerWaitExpiry
  repeat' (first | with_reducible assumption | (fail_if_no_progress (extract_lets +onlyGivenNames x); first | (refine okO_have x ?_ ?_; on_goal 1 => subst x; on_goal 2 => (clear_value x; intro _)) | skip) | with_reducible refine ok_raise ?_ | with_reducible refine ok_settleActive ?_ | with_reducible refine ok_ite ?_ ?_ | with_reducible refine okO_ite ?_ ?_ | with_reducible refine okO_next ?_ | with_reducible refine ok_foldl ?_ ?_ | intro _ | extract_lets | split | (conv => arg 2; dsimp +zetaDelta only))

theorem ok_execRoleSettle {o s : State} (h : Ok o s) : OkO o (execRoleSettle s) := by
  unfold execRoleSettle
  repeat' (first | with_reducible assumption | (fail_if_no_progress (extract_lets +onlyGivenNames x); first | (refine okO_have x ?_ ?_; on_goal 1 => subst x; on_goal 2 => (clear_value x; intro _)) | skip) | with_reducible refine ok_settleActive ?_ | with_reducible refine ok_updPair ?_ | with_reducible refine ok_ite ?_ ?_ | with_reducible refine okO_ite ?_ ?_ | with_reducible refine okO_next ?_ | with_reducible refine ok_foldl ?_ ?_ | intro _ | extract_lets | split | (conv => arg 2; dsimp +zetaDelta only))

theorem ok_execBelayClaim {o s : State} (h : Ok o s) {a0 : Bool} : OkO o (execBelayClaim a0 s) := by
  unfold execBelayClaim
  repeat' (first | with_reducible assumption | (fail_if_no_progress (extract_lets +onlyGivenNames x); first | (refine okO_have x ?_ ?_; on_goal 1 => subst x; on_goal 2 => (clear_value x; intro _)) | skip) | with_reducible refine ok_incSat ?_ | with_reducible refine ok_setF ?_ | with_reducible refine ok_ite ?_ ?_ | with_reducible refine okO_ite ?_ ?_ | with_reducible refine okO_next ?_ | with_reducible refine ok_foldl ?_ ?_ | intro _ | extract_lets | split | (conv => arg 2; dsimp +zetaDelta only))

theorem ok_execBelayRelease {o s : State} (h : Ok o s) : OkO o (execBelayRelease s) := by
  unfold execBelayRelease
  repeat' (first | with_reducible assumption | (fail_if_no_progress (extract_lets +onlyGivenNames x); first | (refine okO_have x ?_ ?_; on_goal 1 => subst x; on_goal 2 => (clear_value x; intro _)) | skip) | with_reducible refine ok_setF ?_ | with_reducible refine ok_ite ?_ ?_ | with_reducible refine okO_ite ?_ ?_ | with_reducible refine okO_next ?_ | with_reducible refine ok_foldl ?_ ?_ | intro _ | extract_lets | split | (conv => arg 2; dsimp +zetaDelta only))

theorem ok_execRevertHoldoffExpiry {o s : State} (h : Ok o s) : OkO o (execRevertHoldoffExpiry s) := by
  unfold execRevertHoldoffExpiry
  repeat' (first | with_reducible assumption | (fail_if_no_progress (extract_lets +onlyGivenNames x); first | (refine okO_have x ?_ ?_; on_goal 1 => subst x; on_goal 2 => (clear_value x; intro _)) | skip) | with_reducible refine ok_revertStep ?_ | with_reducible refine ok_updPair ?_ | with_reducible refine ok_ite ?_ ?_ | with_reducible refine okO_ite ?_ ?_ | with_reducible refine okO_next ?_ | with_reducible refine ok_foldl ?_ ?_ | intro _ | extract_lets | split | (conv => arg 2; dsimp +zetaDelta only))

theorem ok_execRevertReqRx {o s : State} (h : Ok o s) : OkO o (execRevertReqRx s) := by
  unfold execRevertReqRx
  repeat' (first | with_reducible assumption | (fail_if_no_progress (extract_lets +onlyGivenNames x); first | (refine okO_have x ?_ ?_; on_goal 1 => subst x; on_goal 2 => (clear_value x; intro _)) | skip) | with_reducible refine ok_updPair ?_ | with_reducible refine ok_ite ?_ ?_ | with_reducible refine okO_ite ?_ ?_ | with_reducible refine okO_next ?_ | with_reducible refine ok_foldl ?_ ?_ | intro _ | extract_lets | split | (conv => arg 2; dsimp +zetaDelta only))

theorem ok_efTrip {o s : State} (h : Ok o s) {a1 : Nat} {a2 : Nat} {a3 : Pull} : Ok o (State.efTrip s a1 a2 a3) := by
  unfold State.efTrip
  repeat' (first | with_reducible assumption | (fail_if_no_progress (extract_lets +onlyGivenNames x); first | (refine ok_have x ?_ ?_; on_goal 1 => subst x; on_goal 2 => (clear_value x; intro _)) | skip) | with_reducible refine ok_setF ?_ | with_reducible refine ok_incSat ?_ | with_reducible refine ok_raise ?_ | with_reducible refine ok_efGo ?_ | with_reducible refine ok_ite ?_ ?_ | with_reducible refine ok_foldl ?_ ?_ | intro _ | extract_lets | split | (conv => arg 2; dsimp +zetaDelta only))

theorem ok_efGateFault {o s : State} (h : Ok o s) {a1 : Nat} : Ok o (State.efGateFault s a1) := by
  unfold State.efGateFault
  repeat' (first | with_reducible assumption | (fail_if_no_progress (extract_lets +onlyGivenNames x); first | (refine ok_have x ?_ ?_; on_goal 1 => subst x; on_goal 2 => (clear_value x; intro _)) | skip) | with_reducible refine ok_setF ?_ | with_reducible refine ok_efCheckpoint ?_ | with_reducible refine ok_efGo ?_ | with_reducible refine ok_updEf ?_ | with_reducible refine ok_raise ?_ | with_reducible refine ok_ite ?_ ?_ | with_reducible refine ok_foldl ?_ ?_ | intro _ | extract_lets | split | (conv => arg 2; dsimp +zetaDelta only))

theorem ok_execEfuseConversion {o s : State} (h : Ok o s) {a0 : Nat} {a1 : EfuseSample} : OkO o (execEfuseConversion a0 a1 s) := by
  unfold execEfuseConversion
  repeat' (first | with_reducible assumption | (fail_if_no_progress (extract_lets +onlyGivenNames x); first | (refine okO_have x ?_ ?_; on_goal 1 => subst x; on_goal 2 => (clear_value x; intro _)) | skip) | with_reducible refine ok_setN ?_ | with_reducible refine ok_updEf ?_ | with_reducible refine ok_setReg ?_ | with_reducible refine ok_setB ?_ | with_reducible refine ok_ite ?_ ?_ | with_reducible refine okO_ite ?_ ?_ | with_reducible refine okO_next ?_ | with_reducible refine ok_foldl ?_ ?_ | intro _ | extract_lets | split | (conv => arg 2; dsimp +zetaDelta only))

theorem ok_execEfuseOnRequest {o s : State} (h : Ok o s) {a0 : Nat} : OkO o (execEfuseOnRequest a0 s) := by
  unfold execEfuseOnRequest
  repeat' (first | with_reducible assumption | (fail_if_no_progress (extract_lets +onlyGivenNames x); first | (refine okO_have x ?_ ?_; on_goal 1 => subst x; on_goal 2 => (clear_value x; intro _)) | skip) | with_reducible refine ok_efGo ?_ | with_reducible refine ok_ite ?_ ?_ | with_reducible refine okO_ite ?_ ?_ | with_reducible refine okO_next ?_ | with_reducible refine ok_foldl ?_ ?_ | intro _ | extract_lets | split | (conv => arg 2; dsimp +zetaDelta only))

theorem ok_execEfuseOnWithdrawn {o s : State} (h : Ok o s) {a0 : Nat} : OkO o (execEfuseOnWithdrawn a0 s) := by
  unfold execEfuseOnWithdrawn
  repeat' (first | with_reducible assumption | (fail_if_no_progress (extract_lets +onlyGivenNames x); first | (refine okO_have x ?_ ?_; on_goal 1 => subst x; on_goal 2 => (clear_value x; intro _)) | skip) | with_reducible refine ok_efToOff ?_ | with_reducible refine ok_ite ?_ ?_ | with_reducible refine okO_ite ?_ ?_ | with_reducible refine okO_next ?_ | with_reducible refine ok_foldl ?_ ?_ | intro _ | extract_lets | split | (conv => arg 2; dsimp +zetaDelta only))

theorem ok_execEfuseShortCircuit {o s : State} (h : Ok o s) {a0 : Nat} : OkO o (execEfuseShortCircuit a0 s) := by
  unfold execEfuseShortCircuit
  repeat' (first | with_reducible assumption | (fail_if_no_progress (extract_lets +onlyGivenNames x); first | (refine okO_have x ?_ ?_; on_goal 1 => subst x; on_goal 2 => (clear_value x; intro _)) | skip) | with_reducible refine ok_efTrip ?_ | with_reducible refine ok_incSat ?_ | with_reducible refine ok_ite ?_ ?_ | with_reducible refine okO_ite ?_ ?_ | with_reducible refine okO_next ?_ | with_reducible refine ok_foldl ?_ ?_ | intro _ | extract_lets | split | (conv => arg 2; dsimp +zetaDelta only))

theorem ok_execEfuseHvRefLost {o s : State} (h : Ok o s) : OkO o (execEfuseHvRefLost s) := by
  unfold execEfuseHvRefLost
  repeat' (first | with_reducible assumption | (fail_if_no_progress (extract_lets +onlyGivenNames x); first | (refine okO_have x ?_ ?_; on_goal 1 => subst x; on_goal 2 => (clear_value x; intro _)) | skip) | with_reducible refine ok_efTrip ?_ | with_reducible refine ok_forAll ?_ ?_ | with_reducible refine ok_ite ?_ ?_ | with_reducible refine okO_ite ?_ ?_ | with_reducible refine okO_next ?_ | with_reducible refine ok_foldl ?_ ?_ | intro _ | extract_lets | split | (conv => arg 2; dsimp +zetaDelta only))

theorem ok_execEfuseBreaker {o s : State} (h : Ok o s) {a0 : Nat} : OkO o (execEfuseBreaker a0 s) := by
  unfold execEfuseBreaker
  repeat' (first | with_reducible assumption | (fail_if_no_progress (extract_lets +onlyGivenNames x); first | (refine okO_have x ?_ ?_; on_goal 1 => subst x; on_goal 2 => (clear_value x; intro _)) | skip) | with_reducible refine ok_efTrip ?_ | with_reducible refine ok_ite ?_ ?_ | with_reducible refine okO_ite ?_ ?_ | with_reducible refine okO_next ?_ | with_reducible refine ok_foldl ?_ ?_ | intro _ | extract_lets | split | (conv => arg 2; dsimp +zetaDelta only))

theorem ok_execGateCheckTimer {o s : State} (h : Ok o s) {a0 : Nat} : OkO o (execGateCheckTimer a0 s) := by
  unfold execGateCheckTimer
  repeat' (first | with_reducible assumption | (fail_if_no_progress (extract_lets +onlyGivenNames x); first | (refine okO_have x ?_ ?_; on_goal 1 => subst x; on_goal 2 => (clear_value x; intro _)) | skip) | with_reducible refine ok_efGateFault ?_ | with_reducible refine ok_updEf ?_ | with_reducible refine ok_ite ?_ ?_ | with_reducible refine okO_ite ?_ ?_ | with_reducible refine okO_next ?_ | with_reducible refine ok_foldl ?_ ?_ | intro _ | extract_lets | split | (conv => arg 2; dsimp +zetaDelta only))

theorem ok_execGateLowInOn {o s : State} (h : Ok o s) {a0 : Nat} : OkO o (execGateLowInOn a0 s) := by
  unfold execGateLowInOn
  repeat' (first | with_reducible assumption | (fail_if_no_progress (extract_lets +onlyGivenNames x); first | (refine okO_have x ?_ ?_; on_goal 1 => subst x; on_goal 2 => (clear_value x; intro _)) | skip) | with_reducible refine ok_efGateFault ?_ | with_reducible refine ok_ite ?_ ?_ | with_reducible refine okO_ite ?_ ?_ | with_reducible refine okO_next ?_ | with_reducible refine ok_foldl ?_ ?_ | intro _ | extract_lets | split | (conv => arg 2; dsimp +zetaDelta only))

theorem ok_execInrushTlimExpiry {o s : State} (h : Ok o s) {a0 : Nat} : OkO o (execInrushTlimExpiry a0 s) := by
  unfold execInrushTlimExpiry
  repeat' (first | with_reducible assumption | (fail_if_no_progress (extract_lets +onlyGivenNames x); first | (refine okO_have x ?_ ?_; on_goal 1 => subst x; on_goal 2 => (clear_value x; intro _)) | skip) | with_reducible refine ok_efTrip ?_ | with_reducible refine ok_ite ?_ ?_ | with_reducible refine okO_ite ?_ ?_ | with_reducible refine okO_next ?_ | with_reducible refine ok_foldl ?_ ?_ | intro _ | extract_lets | split | (conv => arg 2; dsimp +zetaDelta only))

theorem ok_execInrushTmaxExpiry {o s : State} (h : Ok o s) {a0 : Nat} : OkO o (execInrushTmaxExpiry a0 s) := by
  unfold execInrushTmaxExpiry
  repeat' (first | with_reducible assumption | (fail_if_no_progress (extract_lets +onlyGivenNames x); first | (refine okO_have x ?_ ?_; on_goal 1 => subst x; on_goal 2 => (clear_value x; intro _)) | skip) | with_reducible refine ok_efTrip ?_ | with_reducible refine ok_ite ?_ ?_ | with_reducible refine okO_ite ?_ ?_ | with_reducible refine okO_next ?_ | with_reducible refine ok_foldl ?_ ?_ | intro _ | extract_lets | split | (conv => arg 2; dsimp +zetaDelta only))

theorem ok_execEfuseOnReached {o s : State} (h : Ok o s) {a0 : Nat} : OkO o (execEfuseOnReached a0 s) := by
  unfold execEfuseOnReached
  repeat' (first | with_reducible assumption | (fail_if_no_progress (extract_lets +onlyGivenNames x); first | (refine okO_have x ?_ ?_; on_goal 1 => subst x; on_goal 2 => (clear_value x; intro _)) | skip) | with_reducible refine ok_efGo ?_ | with_reducible refine ok_updEf ?_ | with_reducible refine ok_ite ?_ ?_ | with_reducible refine okO_ite ?_ ?_ | with_reducible refine okO_next ?_ | with_reducible refine ok_foldl ?_ ?_ | intro _ | extract_lets | split | (conv => arg 2; dsimp +zetaDelta only))

theorem ok_execEfuseOnOneSecond {o s : State} (h : Ok o s) {a0 : Nat} : OkO o (execEfuseOnOneSecond a0 s) := by
  unfold execEfuseOnOneSecond
  repeat' (first | with_reducible assumption | (fail_if_no_progress (extract_lets +onlyGivenNames x); first | (refine okO_have x ?_ ?_; on_goal 1 => subst x; on_goal 2 => (clear_value x; intro _)) | skip) | with_reducible refine ok_setF ?_ | with_reducible refine ok_ite ?_ ?_ | with_reducible refine okO_ite ?_ ?_ | with_reducible refine okO_next ?_ | with_reducible refine ok_foldl ?_ ?_ | intro _ | extract_lets | split | (conv => arg 2; dsimp +zetaDelta only))

theorem ok_execEfuseGateDischarged {o s : State} (h : Ok o s) {a0 : Nat} : OkO o (execEfuseGateDischarged a0 s) := by
  unfold execEfuseGateDischarged
  repeat' (first | with_reducible assumption | (fail_if_no_progress (extract_lets +onlyGivenNames x); first | (refine okO_have x ?_ ?_; on_goal 1 => subst x; on_goal 2 => (clear_value x; intro _)) | skip) | with_reducible refine ok_efToOff ?_ | with_reducible refine ok_efGo ?_ | with_reducible refine ok_setF ?_ | with_reducible refine ok_raise ?_ | with_reducible refine ok_ite ?_ ?_ | with_reducible refine okO_ite ?_ ?_ | with_reducible refine okO_next ?_ | with_reducible refine ok_foldl ?_ ?_ | intro _ | extract_lets | split | (conv => arg 2; dsimp +zetaDelta only))

theorem ok_execRetryDelayExpiry {o s : State} (h : Ok o s) {a0 : Nat} : OkO o (execRetryDelayExpiry a0 s) := by
  unfold execRetryDelayExpiry
  repeat' (first | with_reducible assumption | (fail_if_no_progress (extract_lets +onlyGivenNames x); first | (refine okO_have x ?_ ?_; on_goal 1 => subst x; on_goal 2 => (clear_value x; intro _)) | skip) | with_reducible refine ok_efGo ?_ | with_reducible refine ok_ite ?_ ?_ | with_reducible refine okO_ite ?_ ?_ | with_reducible refine okO_next ?_ | with_reducible refine ok_foldl ?_ ?_ | intro _ | extract_lets | split | (conv => arg 2; dsimp +zetaDelta only))

theorem ok_latchClr {o s : State} (h : Ok o s) {a0 : Nat} : Ok o (latchClr a0 s) := by
  unfold latchClr
  repeat' (first | with_reducible assumption | (fail_if_no_progress (extract_lets +onlyGivenNames x); first | (refine ok_have x ?_ ?_; on_goal 1 => subst x; on_goal 2 => (clear_value x; intro _)) | skip) | with_reducible refine ok_efToOff ?_ | with_reducible refine ok_ite ?_ ?_ | with_reducible refine ok_foldl ?_ ?_ | intro _ | extract_lets | split | (conv => arg 2; dsimp +zetaDelta only))

theorem ok_gfClr {o s : State} (h : Ok o s) {a0 : Nat} : Ok o (gfClr a0 s) := by
  unfold gfClr
  repeat' (first | with_reducible assumption | (fail_if_no_progress (extract_lets +onlyGivenNames x); first | (refine ok_have x ?_ ?_; on_goal 1 => subst x; on_goal 2 => (clear_value x; intro _)) | skip) | with_reducible refine ok_updEf ?_ | with_reducible refine ok_efGo ?_ | with_reducible refine ok_efCheckpoint ?_ | with_reducible refine ok_ite ?_ ?_ | with_reducible refine ok_foldl ?_ ?_ | intro _ | extract_lets | split | (conv => arg 2; dsimp +zetaDelta only))

theorem ok_execOutputPresentWhileOff {o s : State} (h : Ok o s) {a0 : Nat} : OkO o (execOutputPresentWhileOff a0 s) := by
  unfold execOutputPresentWhileOff
  repeat' (first | with_reducible assumption | (fail_if_no_progress (extract_lets +onlyGivenNames x); first | (refine okO_have x ?_ ?_; on_goal 1 => subst x; on_goal 2 => (clear_value x; intro _)) | skip) | with_reducible refine ok_updEf ?_ | with_reducible refine ok_raise ?_ | with_reducible refine ok_setF ?_ | with_reducible refine ok_ite ?_ ?_ | with_reducible refine okO_ite ?_ ?_ | with_reducible refine okO_next ?_ | with_reducible refine ok_foldl ?_ ?_ | intro _ | extract_lets | split | (conv => arg 2; dsimp +zetaDelta only))

theorem ok_measurePhases {o s : State} (h : Ok o s) {a1 : List Nat} {a2 : List (BitVec 12)} : Ok o (State.measurePhases s a1 a2) := by
  unfold State.measurePhases
  repeat' (first | with_reducible assumption | (fail_if_no_progress (extract_lets +onlyGivenNames x); first | (refine ok_have x ?_ ?_; on_goal 1 => subst x; on_goal 2 => (clear_value x; intro _)) | skip) | with_reducible refine ok_setReg ?_ | with_reducible refine ok_ite ?_ ?_ | with_reducible refine ok_foldl ?_ ?_ | intro _ | extract_lets | split | (conv => arg 2; dsimp +zetaDelta only))

theorem ok_rampRef {o s : State} (h : Ok o s) {a1 : Nat} : Ok o (State.rampRef s a1) := by
  unfold State.rampRef
  repeat' (first | with_reducible assumption | (fail_if_no_progress (extract_lets +onlyGivenNames x); first | (refine ok_have x ?_ ?_; on_goal 1 => subst x; on_goal 2 => (clear_value x; intro _)) | skip) | with_reducible refine ok_updRail ?_ | with_reducible refine ok_ite ?_ ?_ | with_reducible refine ok_foldl ?_ ?_ | intro _ | extract_lets | split | (conv => arg 2; dsimp +zetaDelta only))

theorem ok_limitRail {o s : State} (h : Ok o s) {a1 : Nat} : Ok o (State.limitRail s a1) := by
  unfold State.limitRail
  repeat' (first | with_reducible assumption | (fail_if_no_progress (extract_lets +onlyGivenNames x); first | (refine ok_have x ?_ ?_; on_goal 1 => subst x; on_goal 2 => (clear_value x; intro _)) | skip) | with_reducible refine ok_setB ?_ | with_reducible refine ok_updRail ?_ | with_reducible refine ok_ite ?_ ?_ | with_reducible refine ok_foldl ?_ ?_ | intro _ | extract_lets | split | (conv => arg 2; dsimp +zetaDelta only))

theorem ok_phaseRuns {o s : State} (h : Ok o s) {a1 : Nat} {a2 : Nat} {a3 : BitVec 12} : Ok o (State.phaseRuns s a1 a2 a3) := by
  unfold State.phaseRuns
  repeat' (first | with_reducible assumption | (fail_if_no_progress (extract_lets +onlyGivenNames x); first | (refine ok_have x ?_ ?_; on_goal 1 => subst x; on_goal 2 => (clear_value x; intro _)) | skip) | with_reducible refine ok_updPhase ?_ | with_reducible refine ok_ite ?_ ?_ | with_reducible refine ok_foldl ?_ ?_ | intro _ | extract_lets | split | (conv => arg 2; dsimp +zetaDelta only))

theorem ok_shedAbort {o s : State} (h : Ok o s) {a1 : Nat} : Ok o (State.shedAbort s a1) := by
  unfold State.shedAbort
  repeat' (first | with_reducible assumption | (fail_if_no_progress (extract_lets +onlyGivenNames x); first | (refine ok_have x ?_ ?_; on_goal 1 => subst x; on_goal 2 => (clear_value x; intro _)) | skip) | with_reducible refine ok_updRail ?_ | with_reducible refine ok_setPhase ?_ | with_reducible refine ok_railCounts ?_ | with_reducible refine ok_incSat ?_ | with_reducible refine ok_ite ?_ ?_ | with_reducible refine ok_foldl ?_ ?_ | intro _ | extract_lets | split | (conv => arg 2; dsimp +zetaDelta only))

theorem ok_addShed {o s : State} (h : Ok o s) {a1 : Nat} {a2 : Nat} : Ok o (State.addShed s a1 a2) := by
  unfold State.addShed
  repeat' (first | with_reducible assumption | (fail_if_no_progress (extract_lets +onlyGivenNames x); first | (refine ok_have x ?_ ?_; on_goal 1 => subst x; on_goal 2 => (clear_value x; intro _)) | skip) | with_reducible refine ok_shedAbort ?_ | with_reducible refine ok_updRail ?_ | with_reducible refine ok_railCounts ?_ | with_reducible refine ok_setPhase ?_ | with_reducible refine ok_ite ?_ ?_ | with_reducible refine ok_foldl ?_ ?_ | intro _ | extract_lets | split | (conv => arg 2; dsimp +zetaDelta only))

theorem ok_railCnOpen {o s : State} (h : Ok o s) {a1 : Nat} : Ok o (State.railCnOpen s a1) := by
  unfold State.railCnOpen
  repeat' (first | with_reducible assumption | (fail_if_no_progress (extract_lets +onlyGivenNames x); first | (refine ok_have x ?_ ?_; on_goal 1 => subst x; on_goal 2 => (clear_value x; intro _)) | skip) | with_reducible refine ok_shedAbort ?_ | with_reducible refine ok_setReg ?_ | with_reducible refine ok_setF ?_ | with_reducible refine ok_setPhase ?_ | with_reducible refine ok_updRail ?_ | with_reducible refine ok_traceAdd ?_ | with_reducible refine ok_railCounts ?_ | with_reducible refine ok_ite ?_ ?_ | with_reducible refine ok_foldl ?_ ?_ | intro _ | extract_lets | split | (conv => arg 2; dsimp +zetaDelta only))

theorem ok_railCn {o s : State} (h : Ok o s) {a1 : Nat} : Ok o (State.railCn s a1).1 := by
  unfold State.railCn
  extract_lets x n s1 s2 age s3 rise f s4 s5
  have h1 : Ok o s1 := ok_updRail h
  have h3 : Ok o s3 := ok_updRail h
  clear_value rise age
  split
  · exact ok_railCnOpen h
  · split
    · exact h
    · split
      · split
        · exact ok_cnRecord (ok_railCounts (ok_updRail (ok_setF (ok_setReg h1))))
        · exact ok_setReg h1
      · split
        · exact ok_cnRecord (ok_railCounts (ok_setF (ok_incSat (ok_setF (ok_setReg h3)))))
        · exact h3
theorem ok_railCn_eq {o s t : State} (h : Ok o s) {a1 : Nat} {b1 : Option Word} (e : State.railCn s a1 = (t, b1)) : Ok o t := by
  have := ok_railCn (a1 := a1) h
  rw [e] at this; exact this

theorem ok_phLoad {o s : State} (h : Ok o s) {a1 : Nat} {a2 : Nat} {a3 : Nat} {a4 : Pwm} : Ok o (State.phLoad s a1 a2 a3 a4) := by
  unfold State.phLoad
  repeat' (first | with_reducible assumption | (fail_if_no_progress (extract_lets +onlyGivenNames x); first | (refine ok_have x ?_ ?_; on_goal 1 => subst x; on_goal 2 => (clear_value x; intro _)) | skip) | with_reducible refine ok_updPhase ?_ | with_reducible refine ok_ite ?_ ?_ | with_reducible refine ok_foldl ?_ ?_ | intro _ | extract_lets | split | (conv => arg 2; dsimp +zetaDelta only))

theorem ok_evalRail {o s : State} (h : Ok o s) {a1 : Nat} {a2 : Option Word} : Ok o (State.evalRail s a1 a2) := by
  unfold State.evalRail
  repeat' (first | with_reducible assumption | (fail_if_no_progress (extract_lets +onlyGivenNames x); first | (refine ok_have x ?_ ?_; on_goal 1 => subst x; on_goal 2 => (clear_value x; intro _)) | skip) | with_reducible refine ok_evalSlot ?_ | with_reducible refine ok_ite ?_ ?_ | with_reducible refine ok_foldl ?_ ?_ | intro _ | extract_lets | split | (conv => arg 2; dsimp +zetaDelta only))

theorem ok_railMeasure {o s : State} (h : Ok o s) {a1 : Nat} {a2 : RailSample} {a3 : List Nat} {a4 : Nat} {a5 : Bool} : Ok o (State.railMeasure s a1 a2 a3 a4 a5) := by
  unfold State.railMeasure
  repeat' (first | with_reducible assumption | (fail_if_no_progress (extract_lets +onlyGivenNames x); first | (refine ok_have x ?_ ?_; on_goal 1 => subst x; on_goal 2 => (clear_value x; intro _)) | skip) | with_reducible refine ok_updRail ?_ | with_reducible refine ok_setF ?_ | with_reducible refine ok_setB ?_ | with_reducible refine ok_setReg ?_ | with_reducible refine ok_phaseRuns ?_ | with_reducible refine ok_ite ?_ ?_ | with_reducible refine ok_foldl ?_ ?_ | intro _ | extract_lets | split | (conv => arg 2; dsimp +zetaDelta only))

theorem ok_railControl {o s : State} (h : Ok o s) {a1 : Nat} {a2 : Word} {a3 : ℤ} {a4 : Option Word} : Ok o (State.railControl s a1 a2 a3 a4) := by
  unfold State.railControl
  repeat' (first | with_reducible assumption | (fail_if_no_progress (extract_lets +onlyGivenNames x); first | (refine ok_have x ?_ ?_; on_goal 1 => subst x; on_goal 2 => (clear_value x; intro _)) | skip) | with_reducible refine ok_checkFill ?_ | with_reducible refine ok_updRail ?_ | with_reducible refine ok_setReg ?_ | with_reducible refine ok_evalRail ?_ | with_reducible refine ok_ite ?_ ?_ | with_reducible refine ok_foldl ?_ ?_ | intro _ | extract_lets | split | (conv => arg 2; dsimp +zetaDelta only))

theorem ok_railDrive {o s : State} (h : Ok o s) {a1 : Nat} {a2 : RailSample} {a3 : List Nat} : Ok o (State.railDrive s a1 a2 a3) := by
  unfold State.railDrive
  repeat' (first | with_reducible assumption | (fail_if_no_progress (extract_lets +onlyGivenNames x); first | (refine ok_have x ?_ ?_; on_goal 1 => subst x; on_goal 2 => (clear_value x; intro _)) | skip) | with_reducible refine ok_updRail ?_ | with_reducible refine ok_setB ?_ | with_reducible refine ok_gapRelease ?_ | with_reducible refine ok_phLoad ?_ | with_reducible refine ok_ite ?_ ?_ | with_reducible refine ok_foldl ?_ ?_ | intro _ | extract_lets | split | (conv => arg 2; dsimp +zetaDelta only))

theorem ok_railPeriod {o s : State} (h : Ok o s) {a1 : Nat} {a2 : RailSample} : Ok o (State.railPeriod s a1 a2) := by
  unfold State.railPeriod
  repeat' (first | with_reducible assumption | (fail_if_no_progress (extract_lets +onlyGivenNames x); first | (refine ok_have x ?_ ?_; on_goal 1 => subst x; on_goal 2 => (clear_value x; intro _)) | skip) | with_reducible refine ok_measurePhases ?_ | with_reducible refine ok_limitRail ?_ | with_reducible refine ok_rampRef ?_ | with_reducible refine ok_setReg ?_ | with_reducible refine ok_addShed ?_ | with_reducible refine ok_railMeasure ?_ | with_reducible refine ok_railCn ?_ | with_reducible refine ok_railCn_eq ?_ ‹_› | with_reducible refine ok_railDrive ?_ | with_reducible refine ok_railControl ?_ | with_reducible refine ok_ite ?_ ?_ | with_reducible refine ok_foldl ?_ ?_ | intro _ | extract_lets | split | (conv => arg 2; dsimp +zetaDelta only))

theorem ok_execRailPeriod {o s : State} (h : Ok o s) {a0 : Nat} {a1 : RailSample} : OkO o (execRailPeriod a0 a1 s) := by
  unfold execRailPeriod
  repeat' (first | with_reducible assumption | (fail_if_no_progress (extract_lets +onlyGivenNames x); first | (refine okO_have x ?_ ?_; on_goal 1 => subst x; on_goal 2 => (clear_value x; intro _)) | skip) | with_reducible refine ok_railLevel ?_ | with_reducible refine ok_railPeriod ?_ | with_reducible refine ok_ite ?_ ?_ | with_reducible refine okO_ite ?_ ?_ | with_reducible refine okO_next ?_ | with_reducible refine ok_foldl ?_ ?_ | intro _ | extract_lets | split | (conv => arg 2; dsimp +zetaDelta only))

theorem ok_railRaise {o s : State} (h : Ok o s) {a1 : Nat} {a2 : Nat} : Ok o (State.railRaise s a1 a2) := by
  unfold State.railRaise
  repeat' (first | with_reducible assumption | (fail_if_no_progress (extract_lets +onlyGivenNames x); first | (refine ok_have x ?_ ?_; on_goal 1 => subst x; on_goal 2 => (clear_value x; intro _)) | skip) | with_reducible refine ok_raise ?_ | with_reducible refine ok_setF ?_ | with_reducible refine ok_ite ?_ ?_ | with_reducible refine ok_foldl ?_ ?_ | intro _ | extract_lets | split | (conv => arg 2; dsimp +zetaDelta only))

theorem ok_execRailOnRequest {o s : State} (h : Ok o s) {a0 : Nat} : OkO o (execRailOnRequest a0 s) := by
  unfold execRailOnRequest
  repeat' (first | with_reducible assumption | (fail_if_no_progress (extract_lets +onlyGivenNames x); first | (refine okO_have x ?_ ?_; on_goal 1 => subst x; on_goal 2 => (clear_value x; intro _)) | skip) | with_reducible refine ok_setF ?_ | with_reducible refine ok_railLevel ?_ | with_reducible refine ok_ite ?_ ?_ | with_reducible refine okO_ite ?_ ?_ | with_reducible refine okO_next ?_ | with_reducible refine ok_foldl ?_ ?_ | intro _ | extract_lets | split | (conv => arg 2; dsimp +zetaDelta only))

theorem ok_execRailPrebiasDone {o s : State} (h : Ok o s) {a0 : Nat} {a1 : Nat} : OkO o (execRailPrebiasDone a0 a1 s) := by
  unfold execRailPrebiasDone
  repeat' (first | with_reducible assumption | (fail_if_no_progress (extract_lets +onlyGivenNames x); first | (refine okO_have x ?_ ?_; on_goal 1 => subst x; on_goal 2 => (clear_value x; intro _)) | skip) | with_reducible refine ok_railRaise ?_ | with_reducible refine ok_raise ?_ | with_reducible refine ok_railFaultOff ?_ | with_reducible refine ok_updRail ?_ | with_reducible refine ok_setPhase ?_ | with_reducible refine ok_railCounts ?_ | with_reducible refine ok_updVs ?_ | with_reducible refine ok_setReg ?_ | with_reducible refine ok_setB ?_ | with_reducible refine ok_setF ?_ | with_reducible refine ok_ite ?_ ?_ | with_reducible refine okO_ite ?_ ?_ | with_reducible refine okO_next ?_ | with_reducible refine ok_foldl ?_ ?_ | intro _ | extract_lets | split | (conv => arg 2; dsimp +zetaDelta only))

theorem ok_execRailOnWithdrawn {o s : State} (h : Ok o s) {a0 : Nat} : OkO o (execRailOnWithdrawn a0 s) := by
  unfold execRailOnWithdrawn
  repeat' (first | with_reducible assumption | (fail_if_no_progress (extract_lets +onlyGivenNames x); first | (refine okO_have x ?_ ?_; on_goal 1 => subst x; on_goal 2 => (clear_value x; intro _)) | skip) | with_reducible refine ok_checkFill ?_ | with_reducible refine ok_railToOff ?_ | with_reducible refine ok_setF ?_ | with_reducible refine ok_railCnFault ?_ | with_reducible refine ok_ite ?_ ?_ | with_reducible refine okO_ite ?_ ?_ | with_reducible refine okO_next ?_ | with_reducible refine ok_foldl ?_ ?_ | intro _ | extract_lets | split | (conv => arg 2; dsimp +zetaDelta only))

theorem ok_execSoftStartEnd {o s : State} (h : Ok o s) {a0 : Nat} : OkO o (execSoftStartEnd a0 s) := by
  unfold execSoftStartEnd
  repeat' (first | with_reducible assumption | (fail_if_no_progress (extract_lets +onlyGivenNames x); first | (refine okO_have x ?_ ?_; on_goal 1 => subst x; on_goal 2 => (clear_value x; intro _)) | skip) | with_reducible refine ok_setF ?_ | with_reducible refine ok_ite ?_ ?_ | with_reducible refine okO_ite ?_ ?_ | with_reducible refine okO_next ?_ | with_reducible refine ok_foldl ?_ ?_ | intro _ | extract_lets | split | (conv => arg 2; dsimp +zetaDelta only))

theorem ok_execSoftStopEnd {o s : State} (h : Ok o s) {a0 : Nat} : OkO o (execSoftStopEnd a0 s) := by
  unfold execSoftStopEnd
  repeat' (first | with_reducible assumption | (fail_if_no_progress (extract_lets +onlyGivenNames x); first | (refine okO_have x ?_ ?_; on_goal 1 => subst x; on_goal 2 => (clear_value x; intro _)) | skip) | with_reducible refine ok_railToOff ?_ | with_reducible refine ok_ite ?_ ?_ | with_reducible refine okO_ite ?_ ?_ | with_reducible refine okO_next ?_ | with_reducible refine ok_foldl ?_ ?_ | intro _ | extract_lets | split | (conv => arg 2; dsimp +zetaDelta only))

theorem ok_execRailPowerGood {o s : State} (h : Ok o s) {a0 : Nat} : OkO o (execRailPowerGood a0 s) := by
  unfold execRailPowerGood
  repeat' (first | with_reducible assumption | (fail_if_no_progress (extract_lets +onlyGivenNames x); first | (refine okO_have x ?_ ?_; on_goal 1 => subst x; on_goal 2 => (clear_value x; intro _)) | skip) | with_reducible refine ok_setF ?_ | with_reducible refine ok_ite ?_ ?_ | with_reducible refine okO_ite ?_ ?_ | with_reducible refine okO_next ?_ | with_reducible refine ok_foldl ?_ ?_ | intro _ | extract_lets | split | (conv => arg 2; dsimp +zetaDelta only))

theorem ok_execRailUvTimer {o s : State} (h : Ok o s) {a0 : Nat} : OkO o (execRailUvTimer a0 s) := by
  unfold execRailUvTimer
  repeat' (first | with_reducible assumption | (fail_if_no_progress (extract_lets +onlyGivenNames x); first | (refine okO_have x ?_ ?_; on_goal 1 => subst x; on_goal 2 => (clear_value x; intro _)) | skip) | with_reducible refine ok_railRaise ?_ | with_reducible refine ok_updRail ?_ | with_reducible refine ok_ite ?_ ?_ | with_reducible refine okO_ite ?_ ?_ | with_reducible refine okO_next ?_ | with_reducible refine ok_foldl ?_ ?_ | intro _ | extract_lets | split | (conv => arg 2; dsimp +zetaDelta only))

theorem ok_execRailOv {o s : State} (h : Ok o s) {a0 : Nat} : OkO o (execRailOv a0 s) := by
  unfold execRailOv
  repeat' (first | with_reducible assumption | (fail_if_no_progress (extract_lets +onlyGivenNames x); first | (refine okO_have x ?_ ?_; on_goal 1 => subst x; on_goal 2 => (clear_value x; intro _)) | skip) | with_reducible refine ok_railFaultOff ?_ | with_reducible refine ok_railRaise ?_ | with_reducible refine ok_updRail ?_ | with_reducible refine ok_ite ?_ ?_ | with_reducible refine okO_ite ?_ ?_ | with_reducible refine okO_next ?_ | with_reducible refine ok_foldl ?_ ?_ | intro _ | extract_lets | split | (conv => arg 2; dsimp +zetaDelta only))

theorem ok_execOvReportHoldExpiry {o s : State} (h : Ok o s) {a0 : Nat} : OkO o (execOvReportHoldExpiry a0 s) := by
  unfold execOvReportHoldExpiry
  repeat' (first | with_reducible assumption | (fail_if_no_progress (extract_lets +onlyGivenNames x); first | (refine okO_have x ?_ ?_; on_goal 1 => subst x; on_goal 2 => (clear_value x; intro _)) | skip) | with_reducible refine ok_railRaise ?_ | with_reducible refine ok_updRail ?_ | with_reducible refine ok_ite ?_ ?_ | with_reducible refine okO_ite ?_ ?_ | with_reducible refine okO_next ?_ | with_reducible refine ok_foldl ?_ ?_ | intro _ | extract_lets | split | (conv => arg 2; dsimp +zetaDelta only))

theorem ok_execSenseOpenDetect {o s : State} (h : Ok o s) {a0 : Nat} {a1 : Nat} : OkO o (execSenseOpenDetect a0 a1 s) := by
  unfold execSenseOpenDetect
  repeat' (first | with_reducible assumption | (fail_if_no_progress (extract_lets +onlyGivenNames x); first | (refine okO_have x ?_ ?_; on_goal 1 => subst x; on_goal 2 => (clear_value x; intro _)) | skip) | with_reducible refine ok_raise ?_ | with_reducible refine ok_railRaise ?_ | with_reducible refine ok_railLevel ?_ | with_reducible refine ok_updRail ?_ | with_reducible refine ok_railFaultOff ?_ | with_reducible refine ok_setF ?_ | with_reducible refine ok_ite ?_ ?_ | with_reducible refine okO_ite ?_ ?_ | with_reducible refine okO_next ?_ | with_reducible refine ok_foldl ?_ ?_ | intro _ | extract_lets | split | (conv => arg 2; dsimp +zetaDelta only))

theorem ok_execCycleLimitPersist {o s : State} (h : Ok o s) {a0 : Nat} : OkO o (execCycleLimitPersist a0 s) := by
  unfold execCycleLimitPersist
  repeat' (first | with_reducible assumption | (fail_if_no_progress (extract_lets +onlyGivenNames x); first | (refine okO_have x ?_ ?_; on_goal 1 => subst x; on_goal 2 => (clear_value x; intro _)) | skip) | with_reducible refine ok_railRaise ?_ | with_reducible refine ok_updRail ?_ | with_reducible refine ok_ite ?_ ?_ | with_reducible refine okO_ite ?_ ?_ | with_reducible refine okO_next ?_ | with_reducible refine ok_foldl ?_ ?_ | intro _ | extract_lets | split | (conv => arg 2; dsimp +zetaDelta only))

theorem ok_execRailLimitPersist {o s : State} (h : Ok o s) {a0 : Nat} : OkO o (execRailLimitPersist a0 s) := by
  unfold execRailLimitPersist
  repeat' (first | with_reducible assumption | (fail_if_no_progress (extract_lets +onlyGivenNames x); first | (refine okO_have x ?_ ?_; on_goal 1 => subst x; on_goal 2 => (clear_value x; intro _)) | skip) | with_reducible refine ok_railRaise ?_ | with_reducible refine ok_updRail ?_ | with_reducible refine ok_ite ?_ ?_ | with_reducible refine okO_ite ?_ ?_ | with_reducible refine okO_next ?_ | with_reducible refine ok_foldl ?_ ?_ | intro _ | extract_lets | split | (conv => arg 2; dsimp +zetaDelta only))

theorem ok_execPhaseShedStart {o s : State} (h : Ok o s) {a0 : Nat} : OkO o (execPhaseShedStart a0 s) := by
  unfold execPhaseShedStart
  repeat' (first | with_reducible assumption | (fail_if_no_progress (extract_lets +onlyGivenNames x); first | (refine okO_have x ?_ ?_; on_goal 1 => subst x; on_goal 2 => (clear_value x; intro _)) | skip) | with_reducible refine ok_railCounts ?_ | with_reducible refine ok_updRail ?_ | with_reducible refine ok_setPhase ?_ | with_reducible refine ok_ite ?_ ?_ | with_reducible refine okO_ite ?_ ?_ | with_reducible refine okO_next ?_ | with_reducible refine ok_foldl ?_ ?_ | intro _ | extract_lets | split | (conv => arg 2; dsimp +zetaDelta only))

theorem ok_execPhaseShedComplete {o s : State} (h : Ok o s) {a0 : Nat} : OkO o (execPhaseShedComplete a0 s) := by
  unfold execPhaseShedComplete
  repeat' (first | with_reducible assumption | (fail_if_no_progress (extract_lets +onlyGivenNames x); first | (refine okO_have x ?_ ?_; on_goal 1 => subst x; on_goal 2 => (clear_value x; intro _)) | skip) | with_reducible refine ok_updRail ?_ | with_reducible refine ok_updPhase ?_ | with_reducible refine ok_setPhase ?_ | with_reducible refine ok_railCounts ?_ | with_reducible refine ok_incSat ?_ | with_reducible refine ok_ite ?_ ?_ | with_reducible refine okO_ite ?_ ?_ | with_reducible refine okO_next ?_ | with_reducible refine ok_foldl ?_ ?_ | intro _ | extract_lets | split | (conv => arg 2; dsimp +zetaDelta only))

theorem ok_execPhaseOpen {o s : State} (h : Ok o s) {a0 : Nat} : OkO o (execPhaseOpen a0 s) := by
  unfold execPhaseOpen
  repeat' (first | with_reducible assumption | (fail_if_no_progress (extract_lets +onlyGivenNames x); first | (refine okO_have x ?_ ?_; on_goal 1 => subst x; on_goal 2 => (clear_value x; intro _)) | skip) | with_reducible refine ok_raise ?_ | with_reducible refine ok_setF ?_ | with_reducible refine ok_fencePhase ?_ | with_reducible refine ok_setMode ?_ | with_reducible refine ok_ite ?_ ?_ | with_reducible refine okO_ite ?_ ?_ | with_reducible refine okO_next ?_ | with_reducible refine ok_foldl ?_ ?_ | intro _ | extract_lets | split | (conv => arg 2; dsimp +zetaDelta only))

theorem ok_execPhaseSenseFail {o s : State} (h : Ok o s) {a0 : Nat} {a1 : SenseFail} : OkO o (execPhaseSenseFail a0 a1 s) := by
  unfold execPhaseSenseFail
  repeat' (first | with_reducible assumption | (fail_if_no_progress (extract_lets +onlyGivenNames x); first | (refine okO_have x ?_ ?_; on_goal 1 => subst x; on_goal 2 => (clear_value x; intro _)) | skip) | with_reducible refine ok_railCounts ?_ | with_reducible refine ok_updRail ?_ | with_reducible refine ok_setPhase ?_ | with_reducible refine ok_raise ?_ | with_reducible refine ok_setF ?_ | with_reducible refine ok_ite ?_ ?_ | with_reducible refine okO_ite ?_ ?_ | with_reducible refine okO_next ?_ | with_reducible refine ok_foldl ?_ ?_ | intro _ | extract_lets | split | (conv => arg 2; dsimp +zetaDelta only))

theorem ok_railPrepGo {o s : State} (h : Ok o s) {a0 : Nat} : Ok o (railPrepGo a0 s) := by
  unfold railPrepGo
  repeat' (first | with_reducible assumption | (fail_if_no_progress (extract_lets +onlyGivenNames x); first | (refine ok_have x ?_ ?_; on_goal 1 => subst x; on_goal 2 => (clear_value x; intro _)) | skip) | with_reducible refine ok_setF ?_ | with_reducible refine ok_updRail ?_ | with_reducible refine ok_ite ?_ ?_ | with_reducible refine ok_foldl ?_ ?_ | intro _ | extract_lets | split | (conv => arg 2; dsimp +zetaDelta only))

theorem ok_execRailCorniceWindowEnd {o s : State} (h : Ok o s) {a0 : Nat} : OkO o (execRailCorniceWindowEnd a0 s) := by
  unfold execRailCorniceWindowEnd
  repeat' (first | with_reducible assumption | (fail_if_no_progress (extract_lets +onlyGivenNames x); first | (refine okO_have x ?_ ?_; on_goal 1 => subst x; on_goal 2 => (clear_value x; intro _)) | skip) | with_reducible refine ok_updRail ?_ | with_reducible refine ok_setF ?_ | with_reducible refine ok_incSat ?_ | with_reducible refine ok_ite ?_ ?_ | with_reducible refine okO_ite ?_ ?_ | with_reducible refine okO_next ?_ | with_reducible refine ok_foldl ?_ ?_ | intro _ | extract_lets | split | (conv => arg 2; dsimp +zetaDelta only))

theorem ok_execSyncInEdge {o s : State} (h : Ok o s) {a0 : Nat} {a1 : ℤ} : OkO o (execSyncInEdge a0 a1 s) := by
  unfold execSyncInEdge
  repeat' (first | with_reducible assumption | (fail_if_no_progress (extract_lets +onlyGivenNames x); first | (refine okO_have x ?_ ?_; on_goal 1 => subst x; on_goal 2 => (clear_value x; intro _)) | skip) | with_reducible refine ok_setF ?_ | with_reducible refine ok_incSat ?_ | ((conv => arg 2; arg 27; skip); with_reducible refine ok_mk ?_ rfl) | with_reducible refine ok_ite ?_ ?_ | with_reducible refine okO_ite ?_ ?_ | with_reducible refine okO_next ?_ | with_reducible refine ok_foldl ?_ ?_ | intro _ | extract_lets | split | (conv => arg 2; dsimp +zetaDelta only))

theorem ok_execSyncInLoss {o s : State} (h : Ok o s) : OkO o (execSyncInLoss s) := by
  unfold execSyncInLoss
  repeat' (first | with_reducible assumption | (fail_if_no_progress (extract_lets +onlyGivenNames x); first | (refine okO_have x ?_ ?_; on_goal 1 => subst x; on_goal 2 => (clear_value x; intro _)) | skip) | with_reducible refine ok_setF ?_ | with_reducible refine ok_incSat ?_ | ((conv => arg 2; arg 27; skip); with_reducible refine ok_mk ?_ rfl) | with_reducible refine ok_ite ?_ ?_ | with_reducible refine okO_ite ?_ ?_ | with_reducible refine okO_next ?_ | with_reducible refine ok_foldl ?_ ?_ | intro _ | extract_lets | split | (conv => arg 2; dsimp +zetaDelta only))

theorem ok_execGlideEnd {o s : State} (h : Ok o s) : OkO o (execGlideEnd s) := by
  unfold execGlideEnd
  repeat' (first | with_reducible assumption | (fail_if_no_progress (extract_lets +onlyGivenNames x); first | (refine okO_have x ?_ ?_; on_goal 1 => subst x; on_goal 2 => (clear_value x; intro _)) | skip) | with_reducible refine ok_setF ?_ | ((conv => arg 2; arg 27; skip); with_reducible refine ok_mk ?_ rfl) | with_reducible refine ok_ite ?_ ?_ | with_reducible refine okO_ite ?_ ?_ | with_reducible refine okO_next ?_ | with_reducible refine ok_foldl ?_ ?_ | intro _ | extract_lets | split | (conv => arg 2; dsimp +zetaDelta only))

theorem ok_rackPull {o s : State} (h : Ok o s) {a1 : List Nat} : Ok o (State.rackPull s a1) := by
  unfold State.rackPull
  repeat' (first | with_reducible assumption | (fail_if_no_progress (extract_lets +onlyGivenNames x); first | (refine ok_have x ?_ ?_; on_goal 1 => subst x; on_goal 2 => (clear_value x; intro _)) | skip) | with_reducible refine ok_rackExt ?_ | with_reducible refine ok_setF ?_ | ((conv => arg 2; arg 27; skip); with_reducible refine ok_mk ?_ rfl) | with_reducible refine ok_ite ?_ ?_ | with_reducible refine ok_foldl ?_ ?_ | intro _ | extract_lets | split | (conv => arg 2; dsimp +zetaDelta only))

theorem ok_systemReset {o s : State} (h : Ok o s) {a1 : Nat} : Ok o (State.systemReset s a1) := by
  unfold State.systemReset
  repeat' (first | with_reducible assumption | (fail_if_no_progress (extract_lets +onlyGivenNames x); first | (refine ok_have x ?_ ?_; on_goal 1 => subst x; on_goal 2 => (clear_value x; intro _)) | skip) | with_reducible refine ok_groupOff ?_ | with_reducible refine ok_setF ?_ | with_reducible refine ok_forAll ?_ ?_ | ((conv => arg 2; arg 27; skip); with_reducible refine ok_mk ?_ rfl) | with_reducible refine ok_ite ?_ ?_ | with_reducible refine ok_foldl ?_ ?_ | intro _ | extract_lets | split | (conv => arg 2; dsimp +zetaDelta only))

theorem ok_sysReascend {o s : State} (h : Ok o s) : Ok o (State.sysReascend s) := by
  unfold State.sysReascend
  repeat' (first | with_reducible assumption | (fail_if_no_progress (extract_lets +onlyGivenNames x); first | (refine ok_have x ?_ ?_; on_goal 1 => subst x; on_goal 2 => (clear_value x; intro _)) | skip) | with_reducible refine ok_upRequest ?_ | with_reducible refine ok_forAll ?_ ?_ | ((conv => arg 2; arg 27; skip); with_reducible refine ok_mk ?_ rfl) | with_reducible refine ok_ite ?_ ?_ | with_reducible refine ok_foldl ?_ ?_ | intro _ | extract_lets | split | (conv => arg 2; dsimp +zetaDelta only))

theorem ok_descFault {o s : State} (h : Ok o s) {a1 : Nat} {a2 : Nat} : Ok o (State.descFault s a1 a2) := by
  unfold State.descFault
  repeat' (first | with_reducible assumption | (fail_if_no_progress (extract_lets +onlyGivenNames x); first | (refine ok_have x ?_ ?_; on_goal 1 => subst x; on_goal 2 => (clear_value x; intro _)) | skip) | with_reducible refine ok_raise ?_ | with_reducible refine ok_setF ?_ | with_reducible refine ok_withdraw ?_ | with_reducible refine ok_ite ?_ ?_ | with_reducible refine ok_foldl ?_ ?_ | intro _ | extract_lets | split | (conv => arg 2; dsimp +zetaDelta only))

theorem ok_tellFault {o s : State} (h : Ok o s) {a1 : Nat} {a2 : Nat} : Ok o (State.tellFault s a1 a2) := by
  unfold State.tellFault
  repeat' (first | with_reducible assumption | (fail_if_no_progress (extract_lets +onlyGivenNames x); first | (refine ok_have x ?_ ?_; on_goal 1 => subst x; on_goal 2 => (clear_value x; intro _)) | skip) | with_reducible refine ok_raise ?_ | with_reducible refine ok_setF ?_ | with_reducible refine ok_ite ?_ ?_ | with_reducible refine ok_foldl ?_ ?_ | intro _ | extract_lets | split | (conv => arg 2; dsimp +zetaDelta only))

theorem ok_withdrawn {o s : State} (h : Ok o s) {a1 : Nat} : Ok o (State.withdrawn s a1) := by
  unfold State.withdrawn
  repeat' (first | with_reducible assumption | (fail_if_no_progress (extract_lets +onlyGivenNames x); first | (refine ok_have x ?_ ?_; on_goal 1 => subst x; on_goal 2 => (clear_value x; intro _)) | skip) | with_reducible refine ok_withdraw ?_ | with_reducible refine ok_ite ?_ ?_ | with_reducible refine ok_foldl ?_ ?_ | intro _ | extract_lets | split | (conv => arg 2; dsimp +zetaDelta only))

theorem ok_react {o s : State} (h : Ok o s) {a1 : Nat} : Ok o (State.react s a1) := by
  unfold State.react
  repeat' (first | with_reducible assumption | (fail_if_no_progress (extract_lets +onlyGivenNames x); first | (refine ok_have x ?_ ?_; on_goal 1 => subst x; on_goal 2 => (clear_value x; intro _)) | skip) | with_reducible refine ok_tellFault ?_ | with_reducible refine ok_withdrawn ?_ | with_reducible refine ok_setF ?_ | with_reducible refine ok_incSat ?_ | with_reducible refine ok_groupOff ?_ | with_reducible refine ok_rackPull ?_ | with_reducible refine ok_systemReset ?_ | with_reducible refine ok_ite ?_ ?_ | with_reducible refine ok_foldl ?_ ?_ | intro _ | extract_lets | split | (conv => arg 2; dsimp +zetaDelta only))

theorem ok_slotFaults {o s : State} (h : Ok o s) {a1 : List (Nat × Nat)} : Ok o (State.slotFaults s a1) := by
  unfold State.slotFaults
  repeat' (first | with_reducible assumption | (fail_if_no_progress (extract_lets +onlyGivenNames x); first | (refine ok_have x ?_ ?_; on_goal 1 => subst x; on_goal 2 => (clear_value x; intro _)) | skip) | with_reducible refine ok_descFault ?_ | with_reducible refine ok_tellFault ?_ | with_reducible refine ok_react ?_ | with_reducible refine ok_ite ?_ ?_ | with_reducible refine ok_foldl ?_ ?_ | intro _ | extract_lets | split | (conv => arg 2; dsimp +zetaDelta only))

theorem ok_ascAdvance {o s : State} (h : Ok o s) {a1 : Nat} : Ok o (State.ascAdvance s a1) := by
  unfold State.ascAdvance
  repeat' (first | with_reducible assumption | (fail_if_no_progress (extract_lets +onlyGivenNames x); first | (refine ok_have x ?_ ?_; on_goal 1 => subst x; on_goal 2 => (clear_value x; intro _)) | skip) | with_reducible refine ok_setF ?_ | with_reducible refine ok_startOnDly ?_ | with_reducible refine ok_incSat ?_ | with_reducible refine ok_ite ?_ ?_ | with_reducible refine ok_foldl ?_ ?_ | intro _ | extract_lets | split | (conv => arg 2; dsimp +zetaDelta only))

theorem ok_seqEval {o s : State} (h : Ok o s) : Ok o (State.seqEval s) := by
  unfold State.seqEval
  repeat' (first | with_reducible assumption | (fail_if_no_progress (extract_lets +onlyGivenNames x); first | (refine ok_have x ?_ ?_; on_goal 1 => subst x; on_goal 2 => (clear_value x; intro _)) | skip) | with_reducible refine ok_slotFaults ?_ | ((conv => arg 2; arg 27; skip); with_reducible refine ok_mk ?_ rfl) | with_reducible refine ok_ite ?_ ?_ | with_reducible refine ok_foldl ?_ ?_ | intro _ | extract_lets | split | (conv => arg 2; dsimp +zetaDelta only))

theorem ok_execSeqEvaluation {o s : State} (h : Ok o s) {a0 : SeqSample} : OkO o (execSeqEvaluation a0 s) := by
  unfold execSeqEvaluation
  repeat' (first | with_reducible assumption | (fail_if_no_progress (extract_lets +onlyGivenNames x); first | (refine okO_have x ?_ ?_; on_goal 1 => subst x; on_goal 2 => (clear_value x; intro _)) | skip) | with_reducible refine ok_setReg ?_ | with_reducible refine ok_seqEval ?_ | with_reducible refine ok_forAll ?_ ?_ | with_reducible refine ok_ite ?_ ?_ | with_reducible refine okO_ite ?_ ?_ | with_reducible refine okO_next ?_ | with_reducible refine ok_foldl ?_ ?_ | intro _ | extract_lets | split | (conv => arg 2; dsimp +zetaDelta only))

theorem ok_grpCmd {o s : State} (h : Ok o s) {a0 : Nat} {a1 : Bool} {a2 : Bool} : Ok o (grpCmd a0 a1 a2 s) := by
  unfold grpCmd
  repeat' (first | with_reducible assumption | (fail_if_no_progress (extract_lets +onlyGivenNames x); first | (refine ok_have x ?_ ?_; on_goal 1 => subst x; on_goal 2 => (clear_value x; intro _)) | skip) | with_reducible refine ok_downRequest ?_ | with_reducible refine ok_setF ?_ | with_reducible refine ok_upRequest ?_ | with_reducible refine ok_ite ?_ ?_ | with_reducible refine ok_foldl ?_ ?_ | intro _ | extract_lets | split | (conv => arg 2; dsimp +zetaDelta only))

theorem ok_execOnDlyExpiry {o s : State} (h : Ok o s) {a0 : Nat} : OkO o (execOnDlyExpiry a0 s) := by
  unfold execOnDlyExpiry
  repeat' (first | with_reducible assumption | (fail_if_no_progress (extract_lets +onlyGivenNames x); first | (refine okO_have x ?_ ?_; on_goal 1 => subst x; on_goal 2 => (clear_value x; intro _)) | skip) | with_reducible refine ok_enableNow ?_ | with_reducible refine ok_ite ?_ ?_ | with_reducible refine okO_ite ?_ ?_ | with_reducible refine okO_next ?_ | with_reducible refine ok_foldl ?_ ?_ | intro _ | extract_lets | split | (conv => arg 2; dsimp +zetaDelta only))

theorem ok_execOffDlyExpiry {o s : State} (h : Ok o s) {a0 : Nat} : OkO o (execOffDlyExpiry a0 s) := by
  unfold execOffDlyExpiry
  repeat' (first | with_reducible assumption | (fail_if_no_progress (extract_lets +onlyGivenNames x); first | (refine okO_have x ?_ ?_; on_goal 1 => subst x; on_goal 2 => (clear_value x; intro _)) | skip) | with_reducible refine ok_withdraw ?_ | with_reducible refine ok_ite ?_ ?_ | with_reducible refine okO_ite ?_ ?_ | with_reducible refine okO_next ?_ | with_reducible refine ok_foldl ?_ ?_ | intro _ | extract_lets | split | (conv => arg 2; dsimp +zetaDelta only))

theorem ok_execSlotPowerGood {o s : State} (h : Ok o s) {a0 : Nat} : OkO o (execSlotPowerGood a0 s) := by
  unfold execSlotPowerGood
  repeat' (first | with_reducible assumption | (fail_if_no_progress (extract_lets +onlyGivenNames x); first | (refine okO_have x ?_ ?_; on_goal 1 => subst x; on_goal 2 => (clear_value x; intro _)) | skip) | with_reducible refine ok_updSlot ?_ | with_reducible refine ok_ascAdvance ?_ | with_reducible refine ok_setF ?_ | with_reducible refine ok_ite ?_ ?_ | with_reducible refine okO_ite ?_ ?_ | with_reducible refine okO_next ?_ | with_reducible refine ok_foldl ?_ ?_ | intro _ | extract_lets | split | (conv => arg 2; dsimp +zetaDelta only))

theorem ok_execPgTmoExpiry {o s : State} (h : Ok o s) {a0 : Nat} : OkO o (execPgTmoExpiry a0 s) := by
  unfold execPgTmoExpiry
  repeat' (first | with_reducible assumption | (fail_if_no_progress (extract_lets +onlyGivenNames x); first | (refine okO_have x ?_ ?_; on_goal 1 => subst x; on_goal 2 => (clear_value x; intro _)) | skip) | with_reducible refine ok_updSlot ?_ | with_reducible refine ok_slotFaults ?_ | with_reducible refine ok_ite ?_ ?_ | with_reducible refine okO_ite ?_ ?_ | with_reducible refine okO_next ?_ | with_reducible refine ok_foldl ?_ ?_ | intro _ | extract_lets | split | (conv => arg 2; dsimp +zetaDelta only))

theorem ok_execSlotOff {o s : State} (h : Ok o s) {a0 : Nat} : OkO o (execSlotOff a0 s) := by
  unfold execSlotOff
  repeat' (first | with_reducible assumption | (fail_if_no_progress (extract_lets +onlyGivenNames x); first | (refine okO_have x ?_ ?_; on_goal 1 => subst x; on_goal 2 => (clear_value x; intro _)) | skip) | with_reducible refine ok_descAdvance ?_ | with_reducible refine ok_setF ?_ | with_reducible refine ok_updSlot ?_ | with_reducible refine ok_ite ?_ ?_ | with_reducible refine okO_ite ?_ ?_ | with_reducible refine okO_next ?_ | with_reducible refine ok_foldl ?_ ?_ | intro _ | extract_lets | split | (conv => arg 2; dsimp +zetaDelta only))

theorem ok_execTDisMaxExpiry {o s : State} (h : Ok o s) {a0 : Nat} : OkO o (execTDisMaxExpiry a0 s) := by
  unfold execTDisMaxExpiry
  repeat' (first | with_reducible assumption | (fail_if_no_progress (extract_lets +onlyGivenNames x); first | (refine okO_have x ?_ ?_; on_goal 1 => subst x; on_goal 2 => (clear_value x; intro _)) | skip) | with_reducible refine ok_raise ?_ | with_reducible refine ok_descAdvance ?_ | with_reducible refine ok_setF ?_ | with_reducible refine ok_updSlot ?_ | with_reducible refine ok_ite ?_ ?_ | with_reducible refine okO_ite ?_ ?_ | with_reducible refine okO_next ?_ | with_reducible refine ok_foldl ?_ ?_ | intro _ | extract_lets | split | (conv => arg 2; dsimp +zetaDelta only))

theorem ok_execTRestExpiry {o s : State} (h : Ok o s) {a0 : Nat} : OkO o (execTRestExpiry a0 s) := by
  unfold execTRestExpiry
  refine okO_ite ?_ (okO_next h)
  extract_lets pend s1 q s2
  have h1 : Ok o s1 := ok_setF (ok_setF h)
  clear_value s1
  have h2 : Ok o s2 := ok_of_eq h1 rfl rfl rfl rfl
  clear_value s2
  exact okO_next (ok_sysReascend (ok_ite (ok_upRequest h2) h2))

theorem ok_execSlotRetryClear {o s : State} (h : Ok o s) {a0 : Nat} : OkO o (execSlotRetryClear a0 s) := by
  unfold execSlotRetryClear
  repeat' (first | with_reducible assumption | (fail_if_no_progress (extract_lets +onlyGivenNames x); first | (refine okO_have x ?_ ?_; on_goal 1 => subst x; on_goal 2 => (clear_value x; intro _)) | skip) | with_reducible refine ok_setF ?_ | with_reducible refine ok_ite ?_ ?_ | with_reducible refine okO_ite ?_ ?_ | with_reducible refine okO_next ?_ | with_reducible refine ok_foldl ?_ ?_ | intro _ | extract_lets | split | (conv => arg 2; dsimp +zetaDelta only))

theorem ok_execSlotRetryEnable {o s : State} (h : Ok o s) {a0 : Nat} : OkO o (execSlotRetryEnable a0 s) := by
  unfold execSlotRetryEnable
  repeat' (first | with_reducible assumption | (fail_if_no_progress (extract_lets +onlyGivenNames x); first | (refine okO_have x ?_ ?_; on_goal 1 => subst x; on_goal 2 => (clear_value x; intro _)) | skip) | with_reducible refine ok_enableNow ?_ | with_reducible refine ok_ite ?_ ?_ | with_reducible refine okO_ite ?_ ?_ | with_reducible refine okO_next ?_ | with_reducible refine ok_foldl ?_ ?_ | intro _ | extract_lets | split | (conv => arg 2; dsimp +zetaDelta only))

theorem ok_execRstOutRelease {o s : State} (h : Ok o s) : OkO o (execRstOutRelease s) := by
  unfold execRstOutRelease
  repeat' (first | with_reducible assumption | (fail_if_no_progress (extract_lets +onlyGivenNames x); first | (refine okO_have x ?_ ?_; on_goal 1 => subst x; on_goal 2 => (clear_value x; intro _)) | skip) | with_reducible refine ok_setF ?_ | with_reducible refine ok_ite ?_ ?_ | with_reducible refine okO_ite ?_ ?_ | with_reducible refine okO_next ?_ | with_reducible refine ok_foldl ?_ ?_ | intro _ | extract_lets | split | (conv => arg 2; dsimp +zetaDelta only))

theorem ok_execRackfltLowSeen {o s : State} (h : Ok o s) : OkO o (execRackfltLowSeen s) := by
  unfold execRackfltLowSeen
  repeat' (first | with_reducible assumption | (fail_if_no_progress (extract_lets +onlyGivenNames x); first | (refine okO_have x ?_ ?_; on_goal 1 => subst x; on_goal 2 => (clear_value x; intro _)) | skip) | with_reducible refine ok_setF ?_ | with_reducible refine ok_rackExt ?_ | with_reducible refine ok_enterDescend ?_ | with_reducible refine ok_raise ?_ | with_reducible refine ok_forAll ?_ ?_ | ((conv => arg 2; arg 27; skip); with_reducible refine ok_mk ?_ rfl) | with_reducible refine ok_ite ?_ ?_ | with_reducible refine okO_ite ?_ ?_ | with_reducible refine okO_next ?_ | with_reducible refine ok_foldl ?_ ?_ | intro _ | extract_lets | split | (conv => arg 2; dsimp +zetaDelta only))

theorem ok_rackFree {o s : State} (h : Ok o s) {a1 : Nat} : Ok o (rackFree s a1) := by
  unfold rackFree
  repeat' (first | with_reducible assumption | (fail_if_no_progress (extract_lets +onlyGivenNames x); first | (refine ok_have x ?_ ?_; on_goal 1 => subst x; on_goal 2 => (clear_value x; intro _)) | skip) | with_reducible refine ok_upRequest ?_ | with_reducible refine ok_setF ?_ | with_reducible refine ok_ite ?_ ?_ | with_reducible refine ok_foldl ?_ ?_ | intro _ | extract_lets | split | (conv => arg 2; dsimp +zetaDelta only))

theorem ok_rackLineHigh {o s : State} (h : Ok o s) : Ok o (rackLineHigh s) := by
  unfold rackLineHigh
  repeat' (first | with_reducible assumption | (fail_if_no_progress (extract_lets +onlyGivenNames x); first | (refine ok_have x ?_ ?_; on_goal 1 => subst x; on_goal 2 => (clear_value x; intro _)) | skip) | with_reducible refine ok_rackExt ?_ | with_reducible refine ok_setF ?_ | with_reducible refine ok_rackFree ?_ | with_reducible refine ok_forAll ?_ ?_ | with_reducible refine ok_ite ?_ ?_ | with_reducible refine ok_foldl ?_ ?_ | intro _ | extract_lets | split | (conv => arg 2; dsimp +zetaDelta only))

theorem ok_rackHigh {o s : State} (h : Ok o s) {a1 : Nat} : Ok o (rackHigh s a1) := by
  unfold rackHigh
  repeat' (first | with_reducible assumption | (fail_if_no_progress (extract_lets +onlyGivenNames x); first | (refine ok_have x ?_ ?_; on_goal 1 => subst x; on_goal 2 => (clear_value x; intro _)) | skip) | with_reducible refine ok_setF ?_ | with_reducible refine ok_upRequest ?_ | ((conv => arg 2; arg 27; skip); with_reducible refine ok_mk ?_ rfl) | with_reducible refine ok_ite ?_ ?_ | with_reducible refine ok_foldl ?_ ?_ | intro _ | extract_lets | split | (conv => arg 2; dsimp +zetaDelta only))

theorem ok_execRackfltHigh100ms {o s : State} (h : Ok o s) : OkO o (execRackfltHigh100ms s) := by
  unfold execRackfltHigh100ms
  repeat' (first | with_reducible assumption | (fail_if_no_progress (extract_lets +onlyGivenNames x); first | (refine okO_have x ?_ ?_; on_goal 1 => subst x; on_goal 2 => (clear_value x; intro _)) | skip) | with_reducible refine ok_setF ?_ | with_reducible refine ok_endL ?_ | with_reducible refine ok_rackHigh ?_ | with_reducible refine ok_rackExt ?_ | with_reducible refine ok_forAll ?_ ?_ | with_reducible refine ok_ite ?_ ?_ | with_reducible refine okO_ite ?_ ?_ | with_reducible refine okO_next ?_ | with_reducible refine ok_foldl ?_ ?_ | intro _ | extract_lets | split | (conv => arg 2; dsimp +zetaDelta only))

theorem ok_execRackfltPullRelease {o s : State} (h : Ok o s) : OkO o (execRackfltPullRelease s) := by
  unfold execRackfltPullRelease
  repeat' (first | with_reducible assumption | (fail_if_no_progress (extract_lets +onlyGivenNames x); first | (refine okO_have x ?_ ?_; on_goal 1 => subst x; on_goal 2 => (clear_value x; intro _)) | skip) | with_reducible refine ok_rackExt ?_ | with_reducible refine ok_setF ?_ | ((conv => arg 2; arg 27; skip); with_reducible refine ok_mk ?_ rfl) | with_reducible refine ok_ite ?_ ?_ | with_reducible refine okO_ite ?_ ?_ | with_reducible refine okO_next ?_ | with_reducible refine ok_foldl ?_ ?_ | intro _ | extract_lets | split | (conv => arg 2; dsimp +zetaDelta only))

theorem ok_execInputFilterChange {o s : State} (h : Ok o s) {a0 : SupInput} {a1 : Bool} {a2 : Bool} : OkO o (execInputFilterChange a0 a1 a2 s) := by
  unfold execInputFilterChange
  repeat' (first | with_reducible assumption | (fail_if_no_progress (extract_lets +onlyGivenNames x); first | (refine okO_have x ?_ ?_; on_goal 1 => subst x; on_goal 2 => (clear_value x; intro _)) | skip) | with_reducible refine ok_incSat ?_ | with_reducible refine ok_rackLineHigh ?_ | with_reducible refine ok_setB ?_ | with_reducible refine ok_updPair ?_ | with_reducible refine ok_blockedRaise ?_ | ((conv => arg 2; arg 27; skip); with_reducible refine ok_mk ?_ rfl) | with_reducible refine ok_ite ?_ ?_ | with_reducible refine okO_ite ?_ ?_ | with_reducible refine okO_next ?_ | with_reducible refine ok_foldl ?_ ?_ | intro _ | extract_lets | split | (conv => arg 2; dsimp +zetaDelta only))

theorem ok_execInputStuckTimer {o s : State} (h : Ok o s) {a0 : SupInput} : OkO o (execInputStuckTimer a0 s) := by
  unfold execInputStuckTimer
  refine okO_heldRun h ?_; intro s h
  repeat' (first | with_reducible assumption | (fail_if_no_progress (extract_lets +onlyGivenNames x); first | (refine okO_have x ?_ ?_; on_goal 1 => subst x; on_goal 2 => (clear_value x; intro _)) | skip) | with_reducible refine ok_setF ?_ | with_reducible refine ok_raiseL ?_ | with_reducible refine ok_setCond ?_ | with_reducible refine ok_raise ?_ | with_reducible refine ok_ite ?_ ?_ | with_reducible refine okO_ite ?_ ?_ | with_reducible refine okO_next ?_ | with_reducible refine ok_foldl ?_ ?_ | intro _ | extract_lets | split | (conv => arg 2; dsimp +zetaDelta only))

theorem ok_execInputStuckRelease {o s : State} (h : Ok o s) {a0 : SupInput} : OkO o (execInputStuckRelease a0 s) := by
  unfold execInputStuckRelease
  repeat' (first | with_reducible assumption | (fail_if_no_progress (extract_lets +onlyGivenNames x); first | (refine okO_have x ?_ ?_; on_goal 1 => subst x; on_goal 2 => (clear_value x; intro _)) | skip) | with_reducible refine ok_setF ?_ | with_reducible refine ok_rackExt ?_ | with_reducible refine ok_rackHigh ?_ | with_reducible refine ok_endL ?_ | with_reducible refine ok_forAll ?_ ?_ | with_reducible refine ok_ite ?_ ?_ | with_reducible refine okO_ite ?_ ?_ | with_reducible refine okO_next ?_ | with_reducible refine ok_foldl ?_ ?_ | intro _ | extract_lets | split | (conv => arg 2; dsimp +zetaDelta only))

theorem ok_seqCntClr {o s : State} (h : Ok o s) : Ok o (seqCntClr s) := by
  unfold seqCntClr
  repeat' (first | with_reducible assumption | (fail_if_no_progress (extract_lets +onlyGivenNames x); first | (refine ok_have x ?_ ?_; on_goal 1 => subst x; on_goal 2 => (clear_value x; intro _)) | skip) | with_reducible refine ok_setF ?_ | with_reducible refine ok_forAll ?_ ?_ | with_reducible refine ok_ite ?_ ?_ | with_reducible refine ok_foldl ?_ ?_ | intro _ | extract_lets | split | (conv => arg 2; dsimp +zetaDelta only))

theorem ok_seqVinBack {o s : State} (h : Ok o s) : Ok o (seqVinBack s) := by
  unfold seqVinBack
  repeat' (first | with_reducible assumption | (fail_if_no_progress (extract_lets +onlyGivenNames x); first | (refine ok_have x ?_ ?_; on_goal 1 => subst x; on_goal 2 => (clear_value x; intro _)) | skip) | with_reducible refine ok_enableSlot ?_ | with_reducible refine ok_upRequest ?_ | with_reducible refine ok_setF ?_ | with_reducible refine ok_forAll ?_ ?_ | with_reducible refine ok_ite ?_ ?_ | with_reducible refine ok_foldl ?_ ?_ | intro _ | extract_lets | split | (conv => arg 2; dsimp +zetaDelta only))

end Sys2Proof.Laws
end

