-- ==== Sys2Proof/Laws/KeepHost.lean ====
section
/-! SUPPORT. What each operation of pages, ports, modes, the collector, the commands of the host and the test port keeps: one lemma per function and per command. -/

set_option linter.unusedTactic false
set_option linter.unreachableTactic false
set_option linter.tactic.unusedName false

namespace Sys2Proof.Laws

open Machine Machine.State

theorem ok_stopAsked {o s : State} (h : Ok o s) {a1 : Nat} : Ok o (State.stopAsked s a1) := by
  unfold State.stopAsked
  repeat' (first | with_reducible assumption | (fail_if_no_progress (extract_lets +onlyGivenNames x); first | (refine ok_have x ?_ ?_; on_goal 1 => subst x; on_goal 2 => (clear_value x; intro _)) | skip) | with_reducible refine ok_hostStop ?_ | with_reducible refine ok_sdmaStop ?_ | with_reducible refine ok_setReg ?_ | with_reducible refine ok_markDown ?_ | with_reducible refine ok_forAll ?_ ?_ | ((conv => arg 2; arg 27; skip); with_reducible refine ok_mk ?_ rfl) | with_reducible refine ok_ite ?_ ?_ | with_reducible refine ok_foldl ?_ ?_ | intro _ | extract_lets | split | (conv => arg 2; dsimp +zetaDelta only))

theorem ok_estPause {o s : State} (h : Ok o s) {a1 : Nat} : Ok o (State.estPause s a1) := by
  unfold State.estPause
  repeat' (first | with_reducible assumption | (fail_if_no_progress (extract_lets +onlyGivenNames x); first | (refine ok_have x ?_ ?_; on_goal 1 => subst x; on_goal 2 => (clear_value x; intro _)) | skip) | with_reducible refine ok_learnDisq ?_ | with_reducible refine ok_updEst ?_ | with_reducible refine ok_notValid ?_ | with_reducible refine ok_ite ?_ ?_ | with_reducible refine ok_foldl ?_ ?_ | intro _ | extract_lets | split | (conv => arg 2; dsimp +zetaDelta only))

theorem ok_stopDone {o s : State} (h : Ok o s) {a1 : Nat} : Ok o (State.stopDone s a1) := by
  unfold State.stopDone
  repeat' (first | with_reducible assumption | (fail_if_no_progress (extract_lets +onlyGivenNames x); first | (refine ok_have x ?_ ?_; on_goal 1 => subst x; on_goal 2 => (clear_value x; intro _)) | skip) | with_reducible refine ok_railToOff ?_ | with_reducible refine ok_efToOff ?_ | with_reducible refine ok_svStop ?_ | with_reducible refine ok_estPause ?_ | with_reducible refine ok_setF ?_ | with_reducible refine ok_forAll ?_ ?_ | with_reducible refine ok_ite ?_ ?_ | with_reducible refine ok_foldl ?_ ?_ | intro _ | extract_lets | split | (conv => arg 2; dsimp +zetaDelta only))

theorem ok_pageStopped {o s : State} (h : Ok o s) {a1 : Nat} : Ok o (State.pageStopped s a1) := by
  unfold State.pageStopped
  repeat' (first | with_reducible assumption | (fail_if_no_progress (extract_lets +onlyGivenNames x); first | (refine ok_have x ?_ ?_; on_goal 1 => subst x; on_goal 2 => (clear_value x; intro _)) | skip) | with_reducible refine ok_setF ?_ | with_reducible refine ok_ite ?_ ?_ | with_reducible refine ok_foldl ?_ ?_ | intro _ | extract_lets | split | (conv => arg 2; dsimp +zetaDelta only))

theorem ok_pageStarting {o s : State} (h : Ok o s) {a1 : Nat} : Ok o (State.pageStarting s a1) := by
  unfold State.pageStarting
  repeat' (first | with_reducible assumption | (fail_if_no_progress (extract_lets +onlyGivenNames x); first | (refine ok_have x ?_ ?_; on_goal 1 => subst x; on_goal 2 => (clear_value x; intro _)) | skip) | with_reducible refine ok_setF ?_ | with_reducible refine ok_ite ?_ ?_ | with_reducible refine ok_foldl ?_ ?_ | intro _ | extract_lets | split | (conv => arg 2; dsimp +zetaDelta only))

theorem ok_fenceCleared {o s : State} (h : Ok o s) {a1 : Nat} : Ok o (State.fenceCleared s a1) := by
  unfold State.fenceCleared
  repeat' (first | with_reducible assumption | (fail_if_no_progress (extract_lets +onlyGivenNames x); first | (refine ok_have x ?_ ?_; on_goal 1 => subst x; on_goal 2 => (clear_value x; intro _)) | skip) | with_reducible refine ok_ramClear ?_ | with_reducible refine ok_ite ?_ ?_ | with_reducible refine ok_foldl ?_ ?_ | intro _ | extract_lets | split | (conv => arg 2; dsimp +zetaDelta only))

theorem okE_ctrlWrite {o s : State} (h : Ok o s) {a1 : Nat} {a2 : Word} {a3 : Option Nat} : OkE o (State.ctrlWrite s a1 a2 a3) := by
  unfold State.ctrlWrite
  extract_lets run stop clr st rising
  clear_value rising st clr stop run
  refine okE_ite okE_error (okE_ite (okE_ite okE_error (okE_ok h)) (okE_ite (okE_ite okE_error (okE_ite okE_error (okE_ok h))) ?_))
  refine okE_ite (okE_ite (okE_ok (ok_pageStopped (ok_resetPage h))) okE_error) (okE_ite (okE_ite (okE_ok (ok_pageStarting h)) okE_error) ?_)
  refine okE_ite (okE_ite (okE_ok (ok_pageStopped h)) (okE_ite okE_error (okE_ok h))) (okE_ite ?_ ?_)
  · exact okE_ite (okE_ite (okE_ok (ok_setF (ok_setF (ok_setF (ok_stopAsked h))))) okE_error) (okE_ite okE_error (okE_ok h))
  · exact okE_ite (okE_ite okE_error (okE_ok (ok_pageStopped (ok_fenceCleared h)))) okE_error

theorem ok_profShow {o s : State} (h : Ok o s) : Ok o (State.profShow s) := by
  unfold State.profShow
  repeat' (first | with_reducible assumption | (fail_if_no_progress (extract_lets +onlyGivenNames x); first | (refine ok_have x ?_ ?_; on_goal 1 => subst x; on_goal 2 => (clear_value x; intro _)) | skip) | with_reducible refine ok_setF ?_ | with_reducible refine ok_ite ?_ ?_ | with_reducible refine ok_foldl ?_ ?_ | intro _ | extract_lets | split | (conv => arg 2; dsimp +zetaDelta only))

theorem ok_phaseStart {o s : State} (h : Ok o s) : Ok o (State.phaseStart s) := by
  unfold State.phaseStart
  repeat' (first | with_reducible assumption | (fail_if_no_progress (extract_lets +onlyGivenNames x); first | (refine ok_have x ?_ ?_; on_goal 1 => subst x; on_goal 2 => (clear_value x; intro _)) | skip) | with_reducible refine ok_setPhase ?_ | with_reducible refine ok_railCounts ?_ | with_reducible refine ok_forAll ?_ ?_ | with_reducible refine ok_ite ?_ ?_ | with_reducible refine ok_foldl ?_ ?_ | intro _ | extract_lets | split | (conv => arg 2; dsimp +zetaDelta only))

theorem ok_startDone {o s : State} (h : Ok o s) {a1 : Nat} : Ok o (State.startDone s a1) := by
  unfold State.startDone
  repeat' (first | with_reducible assumption | (fail_if_no_progress (extract_lets +onlyGivenNames x); first | (refine ok_have x ?_ ?_; on_goal 1 => subst x; on_goal 2 => (clear_value x; intro _)) | skip) | with_reducible refine ok_setF ?_ | with_reducible refine ok_updShelf ?_ | with_reducible refine ok_crestLimits ?_ | with_reducible refine ok_startSlot ?_ | with_reducible refine ok_updPort ?_ | with_reducible refine ok_askCounts ?_ | with_reducible refine ok_setEpoch ?_ | with_reducible refine ok_txEpoch ?_ | with_reducible refine ok_raise ?_ | with_reducible refine ok_fmRelease ?_ | with_reducible refine ok_phaseStart ?_ | with_reducible refine ok_hostRenew ?_ | with_reducible refine ok_efGo ?_ | with_reducible refine ok_setB ?_ | with_reducible refine ok_endL ?_ | with_reducible refine ok_setReg ?_ | with_reducible refine ok_forAll ?_ ?_ | ((conv => arg 2; arg 27; skip); with_reducible refine ok_mk ?_ rfl) | with_reducible refine ok_ite ?_ ?_ | with_reducible refine ok_foldl ?_ ?_ | intro _ | extract_lets | split | (conv => arg 2; dsimp +zetaDelta only))

theorem ok_pageRuns {o s : State} (h : Ok o s) {a1 : Nat} : Ok o (State.pageRuns s a1) := by
  unfold State.pageRuns
  repeat' (first | with_reducible assumption | (fail_if_no_progress (extract_lets +onlyGivenNames x); first | (refine ok_have x ?_ ?_; on_goal 1 => subst x; on_goal 2 => (clear_value x; intro _)) | skip) | with_reducible refine ok_startDone ?_ | with_reducible refine ok_setF ?_ | with_reducible refine ok_settle ?_ | with_reducible refine ok_ite ?_ ?_ | with_reducible refine ok_foldl ?_ ?_ | intro _ | extract_lets | split | (conv => arg 2; dsimp +zetaDelta only))

theorem ok_startPage {o s : State} (h : Ok o s) {a1 : Nat} : Ok o (State.startPage s a1) := by
  unfold State.startPage
  repeat' (first | with_reducible assumption | (fail_if_no_progress (extract_lets +onlyGivenNames x); first | (refine ok_have x ?_ ?_; on_goal 1 => subst x; on_goal 2 => (clear_value x; intro _)) | skip) | with_reducible refine ok_profShow ?_ | with_reducible refine ok_startFails ?_ | with_reducible refine ok_schedAccept ?_ | with_reducible refine ok_pageRuns ?_ | with_reducible refine ok_ite ?_ ?_ | with_reducible refine ok_foldl ?_ ?_ | intro _ | extract_lets | split | (conv => arg 2; dsimp +zetaDelta only))

theorem ok_ownerFree {o s : State} (h : Ok o s) {a1 : Nat} : Ok o (State.ownerFree s a1) := by
  unfold State.ownerFree
  repeat' (first | with_reducible assumption | (fail_if_no_progress (extract_lets +onlyGivenNames x); first | (refine ok_have x ?_ ?_; on_goal 1 => subst x; on_goal 2 => (clear_value x; intro _)) | skip) | with_reducible refine ok_setReg ?_ | ((conv => arg 2; arg 27; skip); with_reducible refine ok_mk ?_ rfl) | with_reducible refine ok_ite ?_ ?_ | with_reducible refine ok_foldl ?_ ?_ | intro _ | extract_lets | split | (conv => arg 2; dsimp +zetaDelta only))

theorem ok_ownerTouch {o s : State} (h : Ok o s) {a1 : Nat} {a2 : Requester} : Ok o (State.ownerTouch s a1 a2) := by
  unfold State.ownerTouch
  repeat' (first | with_reducible assumption | (fail_if_no_progress (extract_lets +onlyGivenNames x); first | (refine ok_have x ?_ ?_; on_goal 1 => subst x; on_goal 2 => (clear_value x; intro _)) | skip) | ((conv => arg 2; arg 27; skip); with_reducible refine ok_mk ?_ rfl) | with_reducible refine ok_ite ?_ ?_ | with_reducible refine ok_foldl ?_ ?_ | intro _ | extract_lets | split | (conv => arg 2; dsimp +zetaDelta only))

theorem ok_ownerWrite {o s : State} (h : Ok o s) {a1 : Nat} {a2 : Requester} {a3 : Nat} : Ok o (State.ownerWrite s a1 a2 a3) := by
  unfold State.ownerWrite
  repeat' (first | with_reducible assumption | (fail_if_no_progress (extract_lets +onlyGivenNames x); first | (refine ok_have x ?_ ?_; on_goal 1 => subst x; on_goal 2 => (clear_value x; intro _)) | skip) | with_reducible refine ok_ownerFree ?_ | with_reducible refine ok_setN ?_ | ((conv => arg 2; arg 27; skip); with_reducible refine ok_mk ?_ rfl) | with_reducible refine ok_ite ?_ ?_ | with_reducible refine ok_foldl ?_ ?_ | intro _ | extract_lets | split | (conv => arg 2; dsimp +zetaDelta only))

theorem ok_ownersOf {o s : State} (h : Ok o s) {a1 : Nat} : Ok o (State.ownersOf s a1) := by
  unfold State.ownersOf
  repeat' (first | with_reducible assumption | (fail_if_no_progress (extract_lets +onlyGivenNames x); first | (refine ok_have x ?_ ?_; on_goal 1 => subst x; on_goal 2 => (clear_value x; intro _)) | skip) | with_reducible refine ok_ownerFree ?_ | with_reducible refine ok_ite ?_ ?_ | with_reducible refine ok_foldl ?_ ?_ | intro _ | extract_lets | split | (conv => arg 2; dsimp +zetaDelta only))

theorem ok_execPageStartBoundary {o s : State} (h : Ok o s) {a0 : Nat} : OkO o (execPageStartBoundary a0 s) := by
  unfold execPageStartBoundary
  repeat' (first | with_reducible assumption | (fail_if_no_progress (extract_lets +onlyGivenNames x); first | (refine okO_have x ?_ ?_; on_goal 1 => subst x; on_goal 2 => (clear_value x; intro _)) | skip) | with_reducible refine ok_startPage ?_ | with_reducible refine ok_ite ?_ ?_ | with_reducible refine okO_ite ?_ ?_ | with_reducible refine okO_next ?_ | with_reducible refine ok_foldl ?_ ?_ | intro _ | extract_lets | split | (conv => arg 2; dsimp +zetaDelta only))

theorem ok_execPageStopBoundary {o s : State} (h : Ok o s) {a0 : Nat} : OkO o (execPageStopBoundary a0 s) := by
  unfold execPageStopBoundary
  repeat' (first | with_reducible assumption | (fail_if_no_progress (extract_lets +onlyGivenNames x); first | (refine okO_have x ?_ ?_; on_goal 1 => subst x; on_goal 2 => (clear_value x; intro _)) | skip) | with_reducible refine ok_pageStopped ?_ | with_reducible refine ok_stopDone ?_ | with_reducible refine ok_ite ?_ ?_ | with_reducible refine okO_ite ?_ ?_ | with_reducible refine okO_next ?_ | with_reducible refine ok_foldl ?_ ?_ | intro _ | extract_lets | split | (conv => arg 2; dsimp +zetaDelta only))

theorem ok_execOwnershipTimeout {o s : State} (h : Ok o s) {a0 : Nat} : OkO o (execOwnershipTimeout a0 s) := by
  unfold execOwnershipTimeout
  repeat' (first | with_reducible assumption | (fail_if_no_progress (extract_lets +onlyGivenNames x); first | (refine okO_have x ?_ ?_; on_goal 1 => subst x; on_goal 2 => (clear_value x; intro _)) | skip) | with_reducible refine ok_ownerFree ?_ | with_reducible refine ok_ite ?_ ?_ | with_reducible refine okO_ite ?_ ?_ | with_reducible refine okO_next ?_ | with_reducible refine ok_foldl ?_ ?_ | intro _ | extract_lets | split | (conv => arg 2; dsimp +zetaDelta only))

theorem ok_ascentFail {o s : State} (h : Ok o s) {a1 : Nat} : Ok o (State.ascentFail s a1) := by
  unfold State.ascentFail
  repeat' (first | with_reducible assumption | (fail_if_no_progress (extract_lets +onlyGivenNames x); first | (refine ok_have x ?_ ?_; on_goal 1 => subst x; on_goal 2 => (clear_value x; intro _)) | skip) | with_reducible refine ok_setF ?_ | with_reducible refine ok_deviceReset ?_ | with_reducible refine ok_pwmFloat ?_ | ((conv => arg 2; arg 27; skip); with_reducible refine ok_mk ?_ rfl) | with_reducible refine ok_ite ?_ ?_ | with_reducible refine ok_foldl ?_ ?_ | intro _ | extract_lets | split | (conv => arg 2; dsimp +zetaDelta only))

theorem ok_ascPower {o s : State} (h : Ok o s) : Ok o (State.ascPower s) := by
  unfold State.ascPower
  repeat' (first | with_reducible assumption | (fail_if_no_progress (extract_lets +onlyGivenNames x); first | (refine ok_have x ?_ ?_; on_goal 1 => subst x; on_goal 2 => (clear_value x; intro _)) | skip) | with_reducible refine ok_setB ?_ | with_reducible refine ok_cairnFlush ?_ | with_reducible refine ok_ite ?_ ?_ | with_reducible refine ok_foldl ?_ ?_ | intro _ | extract_lets | split | (conv => arg 2; dsimp +zetaDelta only))

theorem ok_ascCairn {o s : State} (h : Ok o s) : Ok o (State.ascCairn s) := by
  unfold State.ascCairn
  repeat' (first | with_reducible assumption | (fail_if_no_progress (extract_lets +onlyGivenNames x); first | (refine ok_have x ?_ ?_; on_goal 1 => subst x; on_goal 2 => (clear_value x; intro _)) | skip) | with_reducible refine ok_setN ?_ | with_reducible refine ok_setF ?_ | with_reducible refine ok_cairnShow ?_ | ((conv => arg 2; arg 27; skip); with_reducible refine ok_mk ?_ rfl) | with_reducible refine ok_ite ?_ ?_ | with_reducible refine ok_foldl ?_ ?_ | intro _ | extract_lets | split | (conv => arg 2; dsimp +zetaDelta only))

theorem ok_ascRecord {o s : State} (h : Ok o s) {a1 : Bool} : Ok o (State.ascRecord s a1) := by
  unfold State.ascRecord
  repeat' (first | with_reducible assumption | (fail_if_no_progress (extract_lets +onlyGivenNames x); first | (refine ok_have x ?_ ?_; on_goal 1 => subst x; on_goal 2 => (clear_value x; intro _)) | skip) | with_reducible refine ok_psQueue ?_ | with_reducible refine ok_ite ?_ ?_ | with_reducible refine ok_foldl ?_ ?_ | intro _ | extract_lets | split | (conv => arg 2; dsimp +zetaDelta only))

theorem ok_ascImage {o s : State} (h : Ok o s) : Ok o (State.ascImage s).1 := by
  unfold State.ascImage
  repeat' (first | with_reducible assumption | (fail_if_no_progress (extract_lets +onlyGivenNames x); first | (refine ok_have x ?_ ?_; on_goal 1 => subst x; on_goal 2 => (clear_value x; intro _)) | skip) | with_reducible refine ok_raise ?_ | with_reducible refine ok_ascRecord ?_ | with_reducible refine ok_ite ?_ ?_ | with_reducible refine ok_foldl ?_ ?_ | intro _ | extract_lets | split | dsimp only | (conv => arg 2; dsimp +zetaDelta only))
theorem ok_ascImage_eq {o s t : State} (h : Ok o s) {b1 : Option Bool} (e : State.ascImage s = (t, b1)) : Ok o t := by
  have := ok_ascImage h
  rw [e] at this; exact this

theorem ok_ascLoad {o s : State} (h : Ok o s) {a1 : Bool} : Ok o (State.ascLoad s a1) := by
  unfold State.ascLoad
  repeat' (first | with_reducible assumption | (fail_if_no_progress (extract_lets +onlyGivenNames x); first | (refine ok_have x ?_ ?_; on_goal 1 => subst x; on_goal 2 => (clear_value x; intro _)) | skip) | with_reducible refine ok_migrateAll ?_ | with_reducible refine ok_setB ?_ | with_reducible refine ok_showBank ?_ | with_reducible refine ok_ite ?_ ?_ | with_reducible refine ok_foldl ?_ ?_ | intro _ | extract_lets | split | (conv => arg 2; dsimp +zetaDelta only))

theorem ok_ascEfuse {o s : State} (h : Ok o s) {a1 : Nat} : Ok o (State.ascEfuse s a1) := by
  unfold State.ascEfuse
  repeat' (first | with_reducible assumption | (fail_if_no_progress (extract_lets +onlyGivenNames x); first | (refine ok_have x ?_ ?_; on_goal 1 => subst x; on_goal 2 => (clear_value x; intro _)) | skip) | with_reducible refine ok_setF ?_ | with_reducible refine ok_setN ?_ | with_reducible refine ok_updEf ?_ | with_reducible refine ok_efGo ?_ | with_reducible refine ok_ite ?_ ?_ | with_reducible refine ok_foldl ?_ ?_ | intro _ | extract_lets | split | (conv => arg 2; dsimp +zetaDelta only))

theorem ok_ascCapacity {o s : State} (h : Ok o s) {a1 : Nat} : Ok o (State.ascCapacity s a1) := by
  unfold State.ascCapacity
  repeat' (first | with_reducible assumption | (fail_if_no_progress (extract_lets +onlyGivenNames x); first | (refine ok_have x ?_ ?_; on_goal 1 => subst x; on_goal 2 => (clear_value x; intro _)) | skip) | with_reducible refine ok_updEst ?_ | with_reducible refine ok_setF ?_ | with_reducible refine ok_ite ?_ ?_ | with_reducible refine ok_foldl ?_ ?_ | intro _ | extract_lets | split | (conv => arg 2; dsimp +zetaDelta only))

theorem ok_ascRefuse {o s : State} (h : Ok o s) {a1 : Nat} : Ok o (State.ascRefuse s a1) := by
  unfold State.ascRefuse
  repeat' (first | with_reducible assumption | (fail_if_no_progress (extract_lets +onlyGivenNames x); first | (refine ok_have x ?_ ?_; on_goal 1 => subst x; on_goal 2 => (clear_value x; intro _)) | skip) | with_reducible refine ok_startFails ?_ | ((conv => arg 2; arg 27; skip); with_reducible refine ok_mk ?_ rfl) | with_reducible refine ok_ite ?_ ?_ | with_reducible refine ok_foldl ?_ ?_ | intro _ | extract_lets | split | (conv => arg 2; dsimp +zetaDelta only))

theorem ok_ascApply {o s : State} (h : Ok o s) : Ok o (State.ascApply s) := by
  unfold State.ascApply
  repeat' (first | with_reducible assumption | (fail_if_no_progress (extract_lets +onlyGivenNames x); first | (refine ok_have x ?_ ?_; on_goal 1 => subst x; on_goal 2 => (clear_value x; intro _)) | skip) | with_reducible refine ok_cfgApply ?_ | with_reducible refine ok_pageStarting ?_ | with_reducible refine ok_profShow ?_ | with_reducible refine ok_ascRefuse ?_ | with_reducible refine ok_schedSwap ?_ | with_reducible refine ok_schedAccept ?_ | with_reducible refine ok_pageRuns ?_ | with_reducible refine ok_ite ?_ ?_ | with_reducible refine ok_foldl ?_ ?_ | intro _ | extract_lets | split | (conv => arg 2; dsimp +zetaDelta only))

theorem ok_ascTests {o s : State} (h : Ok o s) {a1 : AscentEnv} : Ok o (State.ascTests s a1) := by
  unfold State.ascTests
  repeat' (first | with_reducible assumption | (fail_if_no_progress (extract_lets +onlyGivenNames x); first | (refine ok_have x ?_ ?_; on_goal 1 => subst x; on_goal 2 => (clear_value x; intro _)) | skip) | with_reducible refine ok_setF ?_ | with_reducible refine ok_updRail ?_ | with_reducible refine ok_forAll ?_ ?_ | with_reducible refine ok_ite ?_ ?_ | with_reducible refine ok_foldl ?_ ?_ | intro _ | extract_lets | split | (conv => arg 2; dsimp +zetaDelta only))

theorem ok_ascChains {o s : State} (h : Ok o s) {a1 : AscentEnv} : Ok o (State.ascChains s a1) := by
  unfold State.ascChains
  repeat' (first | with_reducible assumption | (fail_if_no_progress (extract_lets +onlyGivenNames x); first | (refine ok_have x ?_ ?_; on_goal 1 => subst x; on_goal 2 => (clear_value x; intro _)) | skip) | with_reducible refine ok_walkDone ?_ | with_reducible refine ok_estPrep ?_ | with_reducible refine ok_forAll ?_ ?_ | with_reducible refine ok_ite ?_ ?_ | with_reducible refine ok_foldl ?_ ?_ | intro _ | extract_lets | split | (conv => arg 2; dsimp +zetaDelta only))

theorem ok_ascPorts {o s : State} (h : Ok o s) : Ok o (State.ascPorts s) := by
  unfold State.ascPorts
  repeat' (first | with_reducible assumption | (fail_if_no_progress (extract_lets +onlyGivenNames x); first | (refine ok_have x ?_ ?_; on_goal 1 => subst x; on_goal 2 => (clear_value x; intro _)) | skip) | with_reducible refine ok_fenceUnit ?_ | with_reducible refine ok_forAll ?_ ?_ | with_reducible refine ok_ite ?_ ?_ | with_reducible refine ok_foldl ?_ ?_ | intro _ | extract_lets | split | (conv => arg 2; dsimp +zetaDelta only))

theorem ok_ascApplied {o s : State} (h : Ok o s) : Ok o (State.ascApplied s) := by
  unfold State.ascApplied
  repeat' (first | with_reducible assumption | (fail_if_no_progress (extract_lets +onlyGivenNames x); first | (refine ok_have x ?_ ?_; on_goal 1 => subst x; on_goal 2 => (clear_value x; intro _)) | skip) | ((conv => arg 2; arg 27; skip); with_reducible refine ok_mk ?_ rfl) | with_reducible refine ok_ite ?_ ?_ | with_reducible refine ok_foldl ?_ ?_ | intro _ | extract_lets | split | (conv => arg 2; dsimp +zetaDelta only))

theorem ok_ascConfigure {o s : State} (h : Ok o s) {a1 : AscentEnv} {a2 : Bool} : Ok o (State.ascConfigure s a1 a2) := by
  unfold State.ascConfigure
  repeat' (first | with_reducible assumption | (fail_if_no_progress (extract_lets +onlyGivenNames x); first | (refine ok_have x ?_ ?_; on_goal 1 => subst x; on_goal 2 => (clear_value x; intro _)) | skip) | with_reducible refine ok_setB ?_ | with_reducible refine ok_ascTests ?_ | with_reducible refine ok_ascLoad ?_ | with_reducible refine ok_ascCapacity ?_ | with_reducible refine ok_ascApply ?_ | with_reducible refine ok_ascEfuse ?_ | with_reducible refine ok_ascApplied ?_ | with_reducible refine ok_ascPorts ?_ | with_reducible refine ok_ascChains ?_ | with_reducible refine ok_forAll ?_ ?_ | with_reducible refine ok_ite ?_ ?_ | with_reducible refine ok_foldl ?_ ?_ | intro _ | extract_lets | split | (conv => arg 2; dsimp +zetaDelta only))

theorem ok_ascFrom {o s : State} (h : Ok o s) {a1 : AscentEnv} {a2 : Option Bool} : Ok o (State.ascFrom s a1 a2) := by
  unfold State.ascFrom
  repeat' (first | with_reducible assumption | (fail_if_no_progress (extract_lets +onlyGivenNames x); first | (refine ok_have x ?_ ?_; on_goal 1 => subst x; on_goal 2 => (clear_value x; intro _)) | skip) | with_reducible refine ok_ascentFail ?_ | with_reducible refine ok_ascConfigure ?_ | with_reducible refine ok_ite ?_ ?_ | with_reducible refine ok_foldl ?_ ?_ | intro _ | extract_lets | split | (conv => arg 2; dsimp +zetaDelta only))

theorem ok_ascentSteps {o s : State} (h : Ok o s) {a1 : AscentEnv} : Ok o (State.ascentSteps s a1) := by
  have h1 : Ok o ((s.ascPower.psScan a1.scan).ascCairn.ascImage).1 := ok_ascImage (ok_ascCairn (ok_psScan (ok_ascPower h)))
  have h2 := @ok_ascFrom o _ h1 a1 ((s.ascPower.psScan a1.scan).ascCairn.ascImage).2
  delta State.ascentSteps
  exact h2

theorem ok_tryAscent {o s : State} (h : Ok o s) {a1 : AscentEnv} : Ok o (State.tryAscent s a1) := by
  unfold State.tryAscent
  repeat' (first | with_reducible assumption | (fail_if_no_progress (extract_lets +onlyGivenNames x); first | (refine ok_have x ?_ ?_; on_goal 1 => subst x; on_goal 2 => (clear_value x; intro _)) | skip) | with_reducible refine ok_ascentSteps ?_ | ((conv => arg 2; arg 27; skip); with_reducible refine ok_mk ?_ rfl) | with_reducible refine ok_ite ?_ ?_ | with_reducible refine ok_foldl ?_ ?_ | intro _ | extract_lets | split | (conv => arg 2; dsimp +zetaDelta only))

theorem ok_ascGroups {o s : State} (h : Ok o s) : Ok o (State.ascGroups s) := by
  unfold State.ascGroups
  repeat' (first | with_reducible assumption | (fail_if_no_progress (extract_lets +onlyGivenNames x); first | (refine ok_have x ?_ ?_; on_goal 1 => subst x; on_goal 2 => (clear_value x; intro _)) | skip) | with_reducible refine ok_upRequest ?_ | with_reducible refine ok_setF ?_ | with_reducible refine ok_forAll ?_ ?_ | ((conv => arg 2; arg 27; skip); with_reducible refine ok_mk ?_ rfl) | with_reducible refine ok_ite ?_ ?_ | with_reducible refine ok_foldl ?_ ?_ | intro _ | extract_lets | split | (conv => arg 2; dsimp +zetaDelta only))

theorem ok_ascRegulate {o s : State} (h : Ok o s) {a1 : Nat} : Ok o (State.ascRegulate s a1) := by
  unfold State.ascRegulate
  repeat' (first | with_reducible assumption | (fail_if_no_progress (extract_lets +onlyGivenNames x); first | (refine ok_have x ?_ ?_; on_goal 1 => subst x; on_goal 2 => (clear_value x; intro _)) | skip) | with_reducible refine ok_makeActive ?_ | with_reducible refine ok_updShelf ?_ | with_reducible refine ok_ite ?_ ?_ | with_reducible refine ok_foldl ?_ ?_ | intro _ | extract_lets | split | (conv => arg 2; dsimp +zetaDelta only))

theorem ok_ascentEnd {o s : State} (h : Ok o s) {a1 : Nat} : Ok o (State.ascentEnd s a1) := by
  unfold State.ascentEnd
  repeat' (first | with_reducible assumption | (fail_if_no_progress (extract_lets +onlyGivenNames x); first | (refine ok_have x ?_ ?_; on_goal 1 => subst x; on_goal 2 => (clear_value x; intro _)) | skip) | with_reducible refine ok_setF ?_ | with_reducible refine ok_setN ?_ | with_reducible refine ok_setEpoch ?_ | with_reducible refine ok_runEntry ?_ | with_reducible refine ok_checkFill ?_ | with_reducible refine ok_cairnStage ?_ | with_reducible refine ok_raiseN ?_ | with_reducible refine ok_raise ?_ | with_reducible refine ok_setAct ?_ | with_reducible refine ok_setCond ?_ | with_reducible refine ok_updPair ?_ | with_reducible refine ok_ascGroups ?_ | with_reducible refine ok_checkpoint ?_ | with_reducible refine ok_ascRegulate ?_ | ((conv => arg 2; arg 27; skip); with_reducible refine ok_mk ?_ rfl) | with_reducible refine ok_ite ?_ ?_ | with_reducible refine ok_foldl ?_ ?_ | intro _ | extract_lets | split | (conv => arg 2; dsimp +zetaDelta only))

theorem ok_wakeReset {o s : State} (h : Ok o s) {a1 : Nat} : Ok o (State.wakeReset s a1) := by
  unfold State.wakeReset
  repeat' (first | with_reducible assumption | (fail_if_no_progress (extract_lets +onlyGivenNames x); first | (refine ok_have x ?_ ?_; on_goal 1 => subst x; on_goal 2 => (clear_value x; intro _)) | skip) | with_reducible refine ok_setF ?_ | with_reducible refine ok_causeBit ?_ | with_reducible refine ok_resetAll ?_ | with_reducible refine ok_ite ?_ ?_ | with_reducible refine ok_foldl ?_ ?_ | intro _ | extract_lets | split | (conv => arg 2; dsimp +zetaDelta only))

theorem ok_wakeTime {o s : State} (h : Ok o s) {a1 : Nat} : Ok o (State.wakeTime s a1) := by
  unfold State.wakeTime
  repeat' (first | with_reducible assumption | (fail_if_no_progress (extract_lets +onlyGivenNames x); first | (refine ok_have x ?_ ?_; on_goal 1 => subst x; on_goal 2 => (clear_value x; intro _)) | skip) | with_reducible refine ok_aged ?_ | ((conv => arg 2; arg 27; skip); with_reducible refine ok_mk ?_ rfl) | with_reducible refine ok_ite ?_ ?_ | with_reducible refine ok_foldl ?_ ?_ | intro _ | extract_lets | split | (conv => arg 2; dsimp +zetaDelta only))

theorem ok_wake {o s : State} (h : Ok o s) {a1 : Nat} {a2 : AscentEnv} : Ok o (State.wake s a1 a2) := by
  unfold State.wake
  repeat' (first | with_reducible assumption | (fail_if_no_progress (extract_lets +onlyGivenNames x); first | (refine ok_have x ?_ ?_; on_goal 1 => subst x; on_goal 2 => (clear_value x; intro _)) | skip) | with_reducible refine ok_tryAscent ?_ | with_reducible refine ok_wakeReset ?_ | with_reducible refine ok_wakeTime ?_ | ((conv => arg 2; arg 27; skip); with_reducible refine ok_mk ?_ rfl) | with_reducible refine ok_ite ?_ ?_ | with_reducible refine ok_foldl ?_ ?_ | intro _ | extract_lets | split | (conv => arg 2; dsimp +zetaDelta only))

theorem ok_aonStart {o s : State} (h : Ok o s) : Ok o (State.aonStart s) := by
  unfold State.aonStart
  repeat' (first | with_reducible assumption | (fail_if_no_progress (extract_lets +onlyGivenNames x); first | (refine ok_have x ?_ ?_; on_goal 1 => subst x; on_goal 2 => (clear_value x; intro _)) | skip) | with_reducible refine ok_setF ?_ | with_reducible refine ok_setReg ?_ | ((conv => arg 2; arg 27; skip); with_reducible refine ok_mk ?_ rfl) | with_reducible refine ok_ite ?_ ?_ | with_reducible refine ok_foldl ?_ ?_ | intro _ | extract_lets | split | (conv => arg 2; dsimp +zetaDelta only))

theorem ok_execDeviceResetPor {o s : State} (h : Ok o s) : OkO o (execDeviceResetPor s) := by
  unfold execDeviceResetPor
  repeat' (first | with_reducible assumption | (fail_if_no_progress (extract_lets +onlyGivenNames x); first | (refine okO_have x ?_ ?_; on_goal 1 => subst x; on_goal 2 => (clear_value x; intro _)) | skip) | with_reducible refine ok_deviceReset ?_ | with_reducible refine ok_aonStart ?_ | ((conv => arg 2; arg 27; skip); with_reducible refine ok_mk ?_ rfl) | with_reducible refine ok_ite ?_ ?_ | with_reducible refine okO_ite ?_ ?_ | with_reducible refine okO_next ?_ | with_reducible refine ok_foldl ?_ ?_ | intro _ | extract_lets | split | (conv => arg 2; dsimp +zetaDelta only))

theorem ok_execRstNLow {o s : State} (h : Ok o s) : OkO o (execRstNLow s) := by
  unfold execRstNLow
  repeat' (first | with_reducible assumption | (fail_if_no_progress (extract_lets +onlyGivenNames x); first | (refine okO_have x ?_ ?_; on_goal 1 => subst x; on_goal 2 => (clear_value x; intro _)) | skip) | with_reducible refine ok_deviceReset ?_ | ((conv => arg 2; arg 27; skip); with_reducible refine ok_mk ?_ rfl) | with_reducible refine ok_ite ?_ ?_ | with_reducible refine okO_ite ?_ ?_ | with_reducible refine okO_next ?_ | with_reducible refine ok_foldl ?_ ?_ | intro _ | extract_lets | split | (conv => arg 2; dsimp +zetaDelta only))

theorem ok_execRstNRelease {o s : State} (h : Ok o s) {a0 : AscentEnv} : OkO o (execRstNRelease a0 s) := by
  unfold execRstNRelease
  repeat' (first | with_reducible assumption | (fail_if_no_progress (extract_lets +onlyGivenNames x); first | (refine okO_have x ?_ ?_; on_goal 1 => subst x; on_goal 2 => (clear_value x; intro _)) | skip) | with_reducible refine ok_tryAscent ?_ | ((conv => arg 2; arg 27; skip); with_reducible refine ok_mk ?_ rfl) | with_reducible refine ok_ite ?_ ?_ | with_reducible refine okO_ite ?_ ?_ | with_reducible refine okO_next ?_ | with_reducible refine ok_foldl ?_ ?_ | intro _ | extract_lets | split | (conv => arg 2; dsimp +zetaDelta only))

theorem ok_execCoreBrownout {o s : State} (h : Ok o s) {a0 : CoreRegion} : OkO o (execCoreBrownout a0 s) := by
  unfold execCoreBrownout
  repeat' (first | with_reducible assumption | (fail_if_no_progress (extract_lets +onlyGivenNames x); first | (refine okO_have x ?_ ?_; on_goal 1 => subst x; on_goal 2 => (clear_value x; intro _)) | skip) | with_reducible refine ok_deviceReset ?_ | with_reducible refine ok_ite ?_ ?_ | with_reducible refine okO_ite ?_ ?_ | with_reducible refine okO_next ?_ | with_reducible refine ok_foldl ?_ ?_ | intro _ | extract_lets | split | (conv => arg 2; dsimp +zetaDelta only))

theorem ok_execVinPorRising {o s : State} (h : Ok o s) {a0 : Half} {a1 : AscentEnv} : OkO o (execVinPorRising a0 a1 s) := by
  unfold execVinPorRising
  repeat' (first | with_reducible assumption | (fail_if_no_progress (extract_lets +onlyGivenNames x); first | (refine okO_have x ?_ ?_; on_goal 1 => subst x; on_goal 2 => (clear_value x; intro _)) | skip) | with_reducible refine ok_aonStart ?_ | with_reducible refine ok_deviceReset ?_ | with_reducible refine ok_setF ?_ | with_reducible refine ok_tryAscent ?_ | ((conv => arg 2; arg 27; skip); with_reducible refine ok_mk ?_ rfl) | with_reducible refine ok_ite ?_ ?_ | with_reducible refine okO_ite ?_ ?_ | with_reducible refine okO_next ?_ | with_reducible refine ok_foldl ?_ ?_ | intro _ | extract_lets | split | (conv => arg 2; dsimp +zetaDelta only))

theorem ok_execAscentComplete {o s : State} (h : Ok o s) {a0 : Half} {a1 : AscentEnv} : OkO o (execAscentComplete a0 a1 s) := by
  unfold execAscentComplete
  repeat' (first | with_reducible assumption | (fail_if_no_progress (extract_lets +onlyGivenNames x); first | (refine okO_have x ?_ ?_; on_goal 1 => subst x; on_goal 2 => (clear_value x; intro _)) | skip) | with_reducible refine ok_tryAscent ?_ | with_reducible refine ok_ascentEnd ?_ | with_reducible refine ok_ite ?_ ?_ | with_reducible refine okO_ite ?_ ?_ | with_reducible refine okO_next ?_ | with_reducible refine ok_foldl ?_ ?_ | intro _ | extract_lets | split | (conv => arg 2; dsimp +zetaDelta only))

theorem ok_execAscentStepTimeout {o s : State} (h : Ok o s) {a0 : Nat} : OkO o (execAscentStepTimeout a0 s) := by
  unfold execAscentStepTimeout
  repeat' (first | with_reducible assumption | (fail_if_no_progress (extract_lets +onlyGivenNames x); first | (refine okO_have x ?_ ?_; on_goal 1 => subst x; on_goal 2 => (clear_value x; intro _)) | skip) | with_reducible refine ok_ascentFail ?_ | with_reducible refine ok_ite ?_ ?_ | with_reducible refine okO_ite ?_ ?_ | with_reducible refine okO_next ?_ | with_reducible refine ok_foldl ?_ ?_ | intro _ | extract_lets | split | (conv => arg 2; dsimp +zetaDelta only))

theorem ok_execWakePinQualified {o s : State} (h : Ok o s) {a0 : AscentEnv} : OkO o (execWakePinQualified a0 s) := by
  unfold execWakePinQualified
  repeat' (first | with_reducible assumption | (fail_if_no_progress (extract_lets +onlyGivenNames x); first | (refine okO_have x ?_ ?_; on_goal 1 => subst x; on_goal 2 => (clear_value x; intro _)) | skip) | with_reducible refine ok_wake ?_ | ((conv => arg 2; arg 27; skip); with_reducible refine ok_mk ?_ rfl) | with_reducible refine ok_ite ?_ ?_ | with_reducible refine okO_ite ?_ ?_ | with_reducible refine okO_next ?_ | with_reducible refine ok_foldl ?_ ?_ | intro _ | extract_lets | split | (conv => arg 2; dsimp +zetaDelta only))

theorem ok_execRtcAlarm {o s : State} (h : Ok o s) {a0 : AscentEnv} : OkO o (execRtcAlarm a0 s) := by
  unfold execRtcAlarm
  repeat' (first | with_reducible assumption | (fail_if_no_progress (extract_lets +onlyGivenNames x); first | (refine okO_have x ?_ ?_; on_goal 1 => subst x; on_goal 2 => (clear_value x; intro _)) | skip) | with_reducible refine ok_wake ?_ | with_reducible refine ok_ite ?_ ?_ | with_reducible refine okO_ite ?_ ?_ | with_reducible refine okO_next ?_ | with_reducible refine ok_foldl ?_ ?_ | intro _ | extract_lets | split | (conv => arg 2; dsimp +zetaDelta only))

theorem ok_execCan0WakePattern {o s : State} (h : Ok o s) {a0 : AscentEnv} : OkO o (execCan0WakePattern a0 s) := by
  unfold execCan0WakePattern
  repeat' (first | with_reducible assumption | (fail_if_no_progress (extract_lets +onlyGivenNames x); first | (refine okO_have x ?_ ?_; on_goal 1 => subst x; on_goal 2 => (clear_value x; intro _)) | skip) | with_reducible refine ok_wake ?_ | with_reducible refine ok_ite ?_ ?_ | with_reducible refine okO_ite ?_ ?_ | with_reducible refine okO_next ?_ | with_reducible refine ok_foldl ?_ ?_ | intro _ | extract_lets | split | (conv => arg 2; dsimp +zetaDelta only))

theorem ok_execT1sActivityWake {o s : State} (h : Ok o s) {a0 : AscentEnv} : OkO o (execT1sActivityWake a0 s) := by
  unfold execT1sActivityWake
  repeat' (first | with_reducible assumption | (fail_if_no_progress (extract_lets +onlyGivenNames x); first | (refine okO_have x ?_ ?_; on_goal 1 => subst x; on_goal 2 => (clear_value x; intro _)) | skip) | with_reducible refine ok_wake ?_ | with_reducible refine ok_ite ?_ ?_ | with_reducible refine okO_ite ?_ ?_ | with_reducible refine okO_next ?_ | with_reducible refine ok_foldl ?_ ?_ | intro _ | extract_lets | split | (conv => arg 2; dsimp +zetaDelta only))

theorem ok_profReload {o s : State} (h : Ok o s) {a1 : Nat} : Ok o (State.profReload s a1) := by
  unfold State.profReload
  repeat' (first | with_reducible assumption | (fail_if_no_progress (extract_lets +onlyGivenNames x); first | (refine ok_have x ?_ ?_; on_goal 1 => subst x; on_goal 2 => (clear_value x; intro _)) | skip) | with_reducible refine ok_updShelf ?_ | with_reducible refine ok_cfgApply ?_ | with_reducible refine ok_setN ?_ | with_reducible refine ok_ite ?_ ?_ | with_reducible refine ok_foldl ?_ ?_ | intro _ | extract_lets | split | (conv => arg 2; dsimp +zetaDelta only))

theorem ok_unfenceUnit {o s : State} (h : Ok o s) {a1 : Nat} {a2 : Nat} : Ok o (State.unfenceUnit s a1 a2) := by
  unfold State.unfenceUnit
  repeat' (first | with_reducible assumption | (fail_if_no_progress (extract_lets +onlyGivenNames x); first | (refine ok_have x ?_ ?_; on_goal 1 => subst x; on_goal 2 => (clear_value x; intro _)) | skip) | with_reducible refine ok_updShelf ?_ | with_reducible refine ok_unfenceSlot ?_ | with_reducible refine ok_ramClear ?_ | with_reducible refine ok_railCounts ?_ | with_reducible refine ok_updPhase ?_ | with_reducible refine ok_setF ?_ | with_reducible refine ok_setPhase ?_ | with_reducible refine ok_unfenceSeqSlot ?_ | with_reducible refine ok_estInit ?_ | with_reducible refine ok_profReload ?_ | with_reducible refine ok_sdmaCond ?_ | with_reducible refine ok_ite ?_ ?_ | with_reducible refine ok_foldl ?_ ?_ | intro _ | extract_lets | split | (conv => arg 2; dsimp +zetaDelta only))

theorem ok_unfence {o s : State} (h : Ok o s) {a1 : Nat} {a2 : Nat} : Ok o (State.unfence s a1 a2) := by
  unfold State.unfence
  repeat' (first | with_reducible assumption | (fail_if_no_progress (extract_lets +onlyGivenNames x); first | (refine ok_have x ?_ ?_; on_goal 1 => subst x; on_goal 2 => (clear_value x; intro _)) | skip) | with_reducible refine ok_setF ?_ | with_reducible refine ok_unfenceUnit ?_ | with_reducible refine ok_ite ?_ ?_ | with_reducible refine ok_foldl ?_ ?_ | intro _ | extract_lets | split | (conv => arg 2; dsimp +zetaDelta only))

theorem ok_fcolAck {o s : State} (h : Ok o s) : Ok o (State.fcolAck s) := by
  unfold State.fcolAck
  repeat' (first | with_reducible assumption | (fail_if_no_progress (extract_lets +onlyGivenNames x); first | (refine ok_have x ?_ ?_; on_goal 1 => subst x; on_goal 2 => (clear_value x; intro _)) | skip) | with_reducible refine ok_setF ?_ | with_reducible refine ok_setReg ?_ | ((conv => arg 2; arg 27; skip); with_reducible refine ok_mk ?_ rfl) | with_reducible refine ok_ite ?_ ?_ | with_reducible refine ok_foldl ?_ ?_ | intro _ | extract_lets | split | (conv => arg 2; dsimp +zetaDelta only))

theorem ok_injGo {o s : State} (h : Ok o s) {a1 : Bool} {a2 : Nat} {a3 : Nat} {a4 : Nat} : Ok o (State.injGo s a1 a2 a3 a4) := by
  unfold State.injGo
  repeat' (first | with_reducible assumption | (fail_if_no_progress (extract_lets +onlyGivenNames x); first | (refine ok_have x ?_ ?_; on_goal 1 => subst x; on_goal 2 => (clear_value x; intro _)) | skip) | with_reducible refine ok_setF ?_ | with_reducible refine ok_setN ?_ | ((conv => arg 2; arg 27; skip); with_reducible refine ok_mk ?_ rfl) | with_reducible refine ok_ite ?_ ?_ | with_reducible refine ok_foldl ?_ ?_ | intro _ | extract_lets | split | (conv => arg 2; dsimp +zetaDelta only))

theorem ok_injAccess {o s : State} (h : Ok o s) {a1 : Bool} {a2 : List Nat} : Ok o (State.injAccess s a1 a2) := by
  unfold State.injAccess
  repeat' (first | with_reducible assumption | (fail_if_no_progress (extract_lets +onlyGivenNames x); first | (refine ok_have x ?_ ?_; on_goal 1 => subst x; on_goal 2 => (clear_value x; intro _)) | skip) | with_reducible refine ok_setF ?_ | with_reducible refine ok_incSat ?_ | with_reducible refine ok_crcError ?_ | with_reducible refine ok_copyMiss ?_ | with_reducible refine ok_raiseN ?_ | with_reducible refine ok_putBit ?_ | with_reducible refine ok_ite ?_ ?_ | with_reducible refine ok_foldl ?_ ?_ | intro _ | extract_lets | split | (conv => arg 2; dsimp +zetaDelta only))

theorem ok_raiseEffects {o s : State} (h : Ok o s) {a1 : Nat} {a2 : List Nat} : Ok o (State.raiseEffects s a1 a2) := by
  unfold State.raiseEffects
  repeat' (first | with_reducible assumption | (fail_if_no_progress (extract_lets +onlyGivenNames x); first | (refine ok_have x ?_ ?_; on_goal 1 => subst x; on_goal 2 => (clear_value x; intro _)) | skip) | with_reducible refine ok_updVs ?_ | with_reducible refine ok_learnDisq ?_ | with_reducible refine ok_estInit ?_ | with_reducible refine ok_forAll ?_ ?_ | with_reducible refine ok_ite ?_ ?_ | with_reducible refine ok_foldl ?_ ?_ | intro _ | extract_lets | split | (conv => arg 2; dsimp +zetaDelta only))

theorem ok_takeoverEnd {o s : State} (h : Ok o s) : Ok o (State.takeoverEnd s) := by
  unfold State.takeoverEnd
  repeat' (first | with_reducible assumption | (fail_if_no_progress (extract_lets +onlyGivenNames x); first | (refine ok_have x ?_ ?_; on_goal 1 => subst x; on_goal 2 => (clear_value x; intro _)) | skip) | with_reducible refine ok_deviceReset ?_ | with_reducible refine ok_cairnFlush ?_ | with_reducible refine ok_ite ?_ ?_ | with_reducible refine ok_foldl ?_ ?_ | intro _ | extract_lets | split | (conv => arg 2; dsimp +zetaDelta only))

theorem ok_execSourceRaise {o s : State} (h : Ok o s) {a0 : BitVec 8} {a1 : List Byte} : OkO o (execSourceRaise a0 a1 s) := by
  unfold execSourceRaise
  repeat' (first | with_reducible assumption | (fail_if_no_progress (extract_lets +onlyGivenNames x); first | (refine okO_have x ?_ ?_; on_goal 1 => subst x; on_goal 2 => (clear_value x; intro _)) | skip) | with_reducible refine ok_raiseEffects ?_ | with_reducible refine ok_raise ?_ | with_reducible refine ok_ite ?_ ?_ | with_reducible refine okO_ite ?_ ?_ | with_reducible refine okO_next ?_ | with_reducible refine ok_foldl ?_ ?_ | intro _ | extract_lets | split | (conv => arg 2; dsimp +zetaDelta only))

theorem ok_execTakeoverReset {o s : State} (h : Ok o s) : OkO o (execTakeoverReset s) := by
  unfold execTakeoverReset
  repeat' (first | with_reducible assumption | (fail_if_no_progress (extract_lets +onlyGivenNames x); first | (refine okO_have x ?_ ?_; on_goal 1 => subst x; on_goal 2 => (clear_value x; intro _)) | skip) | with_reducible refine ok_takeoverEnd ?_ | with_reducible refine ok_ite ?_ ?_ | with_reducible refine okO_ite ?_ ?_ | with_reducible refine okO_next ?_ | with_reducible refine ok_foldl ?_ ?_ | intro _ | extract_lets | split | (conv => arg 2; dsimp +zetaDelta only))

theorem ok_execInjectedAccess {o s : State} (h : Ok o s) {a0 : Bool} {a1 : List Byte} : OkO o (execInjectedAccess a0 a1 s) := by
  unfold execInjectedAccess
  repeat' (first | with_reducible assumption | (fail_if_no_progress (extract_lets +onlyGivenNames x); first | (refine okO_have x ?_ ?_; on_goal 1 => subst x; on_goal 2 => (clear_value x; intro _)) | skip) | with_reducible refine ok_injAccess ?_ | with_reducible refine ok_ite ?_ ?_ | with_reducible refine okO_ite ?_ ?_ | with_reducible refine okO_next ?_ | with_reducible refine ok_foldl ?_ ?_ | intro _ | extract_lets | split | (conv => arg 2; dsimp +zetaDelta only))

theorem ok_setLatch {o s : State} (h : Ok o s) {a1 : Requester} {a2 : List (Nat × Word)} : Ok o (State.setLatch s a1 a2) := by
  unfold State.setLatch
  repeat' (first | with_reducible assumption | (fail_if_no_progress (extract_lets +onlyGivenNames x); first | (refine ok_have x ?_ ?_; on_goal 1 => subst x; on_goal 2 => (clear_value x; intro _)) | skip) | with_reducible refine ok_updMsg ?_ | ((conv => arg 2; arg 27; skip); with_reducible refine ok_mk ?_ rfl) | with_reducible refine ok_ite ?_ ?_ | with_reducible refine ok_foldl ?_ ?_ | intro _ | extract_lets | split | (conv => arg 2; dsimp +zetaDelta only))

theorem ok_readWord {o s : State} (h : Ok o s) {a1 : Requester} {a2 : Nat} {a3 : Nat} : Ok o (State.readWord s a1 a2 a3).2 := by
  unfold State.readWord
  repeat' (first | with_reducible assumption | (fail_if_no_progress (extract_lets +onlyGivenNames x); first | (refine ok_have x ?_ ?_; on_goal 1 => subst x; on_goal 2 => (clear_value x; intro _)) | skip) | with_reducible refine ok_setLatch ?_ | with_reducible refine ok_takeFree ?_ | with_reducible refine ok_takeFree_eq ?_ ‹_› | with_reducible refine ok_ite ?_ ?_ | with_reducible refine ok_foldl ?_ ?_ | intro _ | extract_lets | split | dsimp only | (conv => arg 2; dsimp +zetaDelta only))
theorem ok_readWord_eq {o s t : State} (h : Ok o s) {a1 : Requester} {a2 : Nat} {a3 : Nat} {b0 : Word} (e : State.readWord s a1 a2 a3 = (b0, t)) : Ok o t := by
  have := ok_readWord (a1 := a1) (a2 := a2) (a3 := a3) h
  rw [e] at this; exact this

theorem ok_readWords {o : State} {a0 : Requester} {a1 a2 a3 : Nat} {s : State} (h : Ok o s) : Ok o (State.readWords a0 a1 a2 a3 s).2 := by
  induction a2 generalizing a3 s with
  | zero => exact h
  | succ n ih => exact ih (ok_readWord h)

theorem ok_receive {o s : State} (h : Ok o s) {a1 : MsgHead} {a2 : Nat} {a3 : List Nat} {a4 : State → State} (hk : ∀ s, Ok o s → Ok o (a4 s)) :
    Ok o (State.receive s a1 a2 a3 a4) := by
  unfold State.receive
  extract_lets p s1
  have h1 : Ok o s1 := ok_incSat h
  clear_value s1
  exact ok_ite h (ok_ite (ok_incSat h1) (hk _ h1))

theorem ok_plantMsg {o s : State} (h : Ok o s) {a1 : MsgHead} {a2 : Nat} {a3 : List Nat} {a4 : Bool} {a5 : State → State} (hk : ∀ s, Ok o s → Ok o (a5 s)) :
    Ok o (State.plantMsg s a1 a2 a3 a4 a5) := by
  unfold State.plantMsg
  refine ok_receive h fun t ht => ?_
  extract_lets p
  exact ok_ite (ok_plantSeen (hk _ ht)) (ok_incSat ht)

theorem ok_reportStep {o s : State} (h : Ok o s) : Ok o (State.reportStep s) := by
  unfold State.reportStep
  repeat' (first | with_reducible assumption | (fail_if_no_progress (extract_lets +onlyGivenNames x); first | (refine ok_have x ?_ ?_; on_goal 1 => subst x; on_goal 2 => (clear_value x; intro _)) | skip) | with_reducible refine ok_sendPlant ?_ | with_reducible refine ok_updMsg ?_ | with_reducible refine ok_ite ?_ ?_ | with_reducible refine ok_foldl ?_ ?_ | intro _ | extract_lets | split | (conv => arg 2; dsimp +zetaDelta only))

theorem ok_rackIn {o s : State} (h : Ok o s) {a1 : Nat} {a2 : Nat} : Ok o (State.rackIn s a1 a2) := by
  unfold State.rackIn
  repeat' (first | with_reducible assumption | (fail_if_no_progress (extract_lets +onlyGivenNames x); first | (refine ok_have x ?_ ?_; on_goal 1 => subst x; on_goal 2 => (clear_value x; intro _)) | skip) | with_reducible refine ok_setN ?_ | with_reducible refine ok_ite ?_ ?_ | with_reducible refine ok_foldl ?_ ?_ | intro _ | extract_lets | split | (conv => arg 2; dsimp +zetaDelta only))

theorem ok_flushWaiting {o s : State} (h : Ok o s) {a1 : Nat} : Ok o (State.flushWaiting s a1) := by
  unfold State.flushWaiting
  repeat' (first | with_reducible assumption | (fail_if_no_progress (extract_lets +onlyGivenNames x); first | (refine ok_have x ?_ ?_; on_goal 1 => subst x; on_goal 2 => (clear_value x; intro _)) | skip) | with_reducible refine ok_incSat ?_ | with_reducible refine ok_updMsg ?_ | with_reducible refine ok_ite ?_ ?_ | with_reducible refine ok_foldl ?_ ?_ | intro _ | extract_lets | split | (conv => arg 2; dsimp +zetaDelta only))

theorem ok_dropOld {o s : State} (h : Ok o s) {a1 : Nat} : Ok o (State.dropOld s a1) := by
  unfold State.dropOld
  repeat' (first | with_reducible assumption | (fail_if_no_progress (extract_lets +onlyGivenNames x); first | (refine ok_have x ?_ ?_; on_goal 1 => subst x; on_goal 2 => (clear_value x; intro _)) | skip) | with_reducible refine ok_incSat ?_ | with_reducible refine ok_updMsg ?_ | with_reducible refine ok_ite ?_ ?_ | with_reducible refine ok_foldl ?_ ?_ | intro _ | extract_lets | split | (conv => arg 2; dsimp +zetaDelta only))

theorem ok_t1sFail {o s : State} (h : Ok o s) : Ok o (State.t1sFail s) := by
  unfold State.t1sFail
  repeat' (first | with_reducible assumption | (fail_if_no_progress (extract_lets +onlyGivenNames x); first | (refine ok_have x ?_ ?_; on_goal 1 => subst x; on_goal 2 => (clear_value x; intro _)) | skip) | with_reducible refine ok_raiseL ?_ | with_reducible refine ok_ite ?_ ?_ | with_reducible refine ok_foldl ?_ ?_ | intro _ | extract_lets | split | (conv => arg 2; dsimp +zetaDelta only))

theorem ok_pmbValue {o s : State} (h : Ok o s) {a1 : Nat} {a2 : PmbData} {a3 : Nat} : Ok o (State.pmbValue s a1 a2 a3).2 := by
  unfold State.pmbValue
  repeat' (first | with_reducible assumption | (fail_if_no_progress (extract_lets +onlyGivenNames x); first | (refine ok_have x ?_ ?_; on_goal 1 => subst x; on_goal 2 => (clear_value x; intro _)) | skip) | with_reducible refine ok_takeFree ?_ | with_reducible refine ok_takeFree_eq ?_ ‹_› | with_reducible refine ok_ite ?_ ?_ | with_reducible refine ok_foldl ?_ ?_ | intro _ | extract_lets | split | dsimp only | (conv => arg 2; dsimp +zetaDelta only))
theorem ok_pmbValue_eq {o s t : State} (h : Ok o s) {a1 : Nat} {a2 : PmbData} {a3 : Nat} {b0 : Word} (e : State.pmbValue s a1 a2 a3 = (b0, t)) : Ok o t := by
  have := ok_pmbValue (a1 := a1) (a2 := a2) (a3 := a3) h
  rw [e] at this; exact this

theorem ok_pmbPolled {o s : State} (h : Ok o s) {a1 : Nat} {a2 : PmbData} : Ok o (State.pmbPolled s a1 a2) := by
  unfold State.pmbPolled
  repeat' (first | with_reducible assumption | (fail_if_no_progress (extract_lets +onlyGivenNames x); first | (refine ok_have x ?_ ?_; on_goal 1 => subst x; on_goal 2 => (clear_value x; intro _)) | skip) | with_reducible refine ok_setF ?_ | with_reducible refine ok_pmbValue ?_ | with_reducible refine ok_pmbValue_eq ?_ ‹_› | with_reducible refine ok_setReg ?_ | with_reducible refine ok_forAll ?_ ?_ | ((conv => arg 2; arg 27; skip); with_reducible refine ok_mk ?_ rfl) | with_reducible refine ok_ite ?_ ?_ | with_reducible refine ok_foldl ?_ ?_ | intro _ | extract_lets | split | (conv => arg 2; dsimp +zetaDelta only))

theorem ok_pmbFailed {o s : State} (h : Ok o s) {a1 : Nat} {a2 : Nat} : Ok o (State.pmbFailed s a1 a2) := by
  unfold State.pmbFailed
  repeat' (first | with_reducible assumption | (fail_if_no_progress (extract_lets +onlyGivenNames x); first | (refine ok_have x ?_ ?_; on_goal 1 => subst x; on_goal 2 => (clear_value x; intro _)) | skip) | with_reducible refine ok_incSat ?_ | with_reducible refine ok_raise ?_ | with_reducible refine ok_setF ?_ | with_reducible refine ok_ite ?_ ?_ | with_reducible refine ok_foldl ?_ ?_ | intro _ | extract_lets | split | (conv => arg 2; dsimp +zetaDelta only))

theorem ok_pmbMailbox {o s : State} (h : Ok o s) : Ok o (State.pmbMailbox s) := by
  unfold State.pmbMailbox
  repeat' (first | with_reducible assumption | (fail_if_no_progress (extract_lets +onlyGivenNames x); first | (refine ok_have x ?_ ?_; on_goal 1 => subst x; on_goal 2 => (clear_value x; intro _)) | skip) | with_reducible refine ok_setF ?_ | with_reducible refine ok_takeFree ?_ | with_reducible refine ok_takeFree_eq ?_ ‹_› | with_reducible refine ok_ite ?_ ?_ | with_reducible refine ok_foldl ?_ ?_ | intro _ | extract_lets | split | (conv => arg 2; dsimp +zetaDelta only))

theorem ok_execHoldMessage {o s : State} (h : Ok o s) {a0 : MsgHead} : OkO o (execHoldMessage a0 s) := by
  unfold execHoldMessage
  repeat' (first | with_reducible assumption | (fail_if_no_progress (extract_lets +onlyGivenNames x); first | (refine okO_have x ?_ ?_; on_goal 1 => subst x; on_goal 2 => (clear_value x; intro _)) | skip) | with_reducible refine ok_plantMsg ?_ ?_ | with_reducible refine ok_updShelf ?_ | with_reducible refine ok_ite ?_ ?_ | with_reducible refine okO_ite ?_ ?_ | with_reducible refine okO_next ?_ | with_reducible refine ok_foldl ?_ ?_ | intro _ | extract_lets | split | (conv => arg 2; dsimp +zetaDelta only))

theorem ok_execReleaseMessage {o s : State} (h : Ok o s) {a0 : MsgHead} : OkO o (execReleaseMessage a0 s) := by
  unfold execReleaseMessage
  repeat' (first | with_reducible assumption | (fail_if_no_progress (extract_lets +onlyGivenNames x); first | (refine okO_have x ?_ ?_; on_goal 1 => subst x; on_goal 2 => (clear_value x; intro _)) | skip) | with_reducible refine ok_plantMsg ?_ ?_ | with_reducible refine ok_updShelf ?_ | with_reducible refine ok_ite ?_ ?_ | with_reducible refine okO_ite ?_ ?_ | with_reducible refine okO_next ?_ | with_reducible refine ok_foldl ?_ ?_ | intro _ | extract_lets | split | (conv => arg 2; dsimp +zetaDelta only))

theorem ok_execCapMessage {o s : State} (h : Ok o s) {a0 : MsgHead} {a1 : Word} {a2 : Word} {a3 : BitVec 2} : OkO o (execCapMessage a0 a1 a2 a3 s) := by
  unfold execCapMessage
  repeat' (first | with_reducible assumption | (fail_if_no_progress (extract_lets +onlyGivenNames x); first | (refine okO_have x ?_ ?_; on_goal 1 => subst x; on_goal 2 => (clear_value x; intro _)) | skip) | with_reducible refine ok_plantMsg ?_ ?_ | with_reducible refine ok_updShelf ?_ | with_reducible refine ok_later ?_ | with_reducible refine ok_ite ?_ ?_ | with_reducible refine okO_ite ?_ ?_ | with_reducible refine okO_next ?_ | with_reducible refine ok_foldl ?_ ?_ | intro _ | extract_lets | split | (conv => arg 2; dsimp +zetaDelta only))

theorem ok_execPcmdMessage {o s : State} (h : Ok o s) {a0 : MsgHead} {a1 : Word} : OkO o (execPcmdMessage a0 a1 s) := by
  unfold execPcmdMessage
  repeat' (first | with_reducible assumption | (fail_if_no_progress (extract_lets +onlyGivenNames x); first | (refine okO_have x ?_ ?_; on_goal 1 => subst x; on_goal 2 => (clear_value x; intro _)) | skip) | with_reducible refine ok_plantMsg ?_ ?_ | with_reducible refine ok_updShelf ?_ | with_reducible refine ok_later ?_ | with_reducible refine ok_ite ?_ ?_ | with_reducible refine okO_ite ?_ ?_ | with_reducible refine okO_next ?_ | with_reducible refine ok_foldl ?_ ?_ | intro _ | extract_lets | split | (conv => arg 2; dsimp +zetaDelta only))

theorem ok_execIntentMessage {o s : State} (h : Ok o s) {a0 : MsgHead} {a1 : Word} {a2 : Word} {a3 : Half} {a4 : BitVec 3} {a5 : Nat} : OkO o (execIntentMessage a0 a1 a2 a3 a4 a5 s) := by
  unfold execIntentMessage
  refine okO_heldRun h ?_; intro s h
  repeat' (first | with_reducible assumption | (fail_if_no_progress (extract_lets +onlyGivenNames x); first | (refine okO_have x ?_ ?_; on_goal 1 => subst x; on_goal 2 => (clear_value x; intro _)) | skip) | with_reducible refine ok_plantMsg ?_ ?_ | with_reducible refine ok_cnIntent ?_ | with_reducible refine ok_ite ?_ ?_ | with_reducible refine okO_ite ?_ ?_ | with_reducible refine okO_next ?_ | with_reducible refine ok_foldl ?_ ?_ | intro _ | extract_lets | split | (conv => arg 2; dsimp +zetaDelta only))

theorem ok_execMessageCrcFail {o s : State} (h : Ok o s) {a0 : MsgPort} : OkO o (execMessageCrcFail a0 s) := by
  unfold execMessageCrcFail
  repeat' (first | with_reducible assumption | (fail_if_no_progress (extract_lets +onlyGivenNames x); first | (refine okO_have x ?_ ?_; on_goal 1 => subst x; on_goal 2 => (clear_value x; intro _)) | skip) | with_reducible refine ok_incSat ?_ | with_reducible refine ok_ite ?_ ?_ | with_reducible refine okO_ite ?_ ?_ | with_reducible refine okO_next ?_ | with_reducible refine ok_foldl ?_ ?_ | intro _ | extract_lets | split | (conv => arg 2; dsimp +zetaDelta only))

theorem ok_execReportTimer {o s : State} (h : Ok o s) : OkO o (execReportTimer s) := by
  unfold execReportTimer
  refine okO_heldRun h ?_; intro s h
  repeat' (first | with_reducible assumption | (fail_if_no_progress (extract_lets +onlyGivenNames x); first | (refine okO_have x ?_ ?_; on_goal 1 => subst x; on_goal 2 => (clear_value x; intro _)) | skip) | with_reducible refine ok_reportStep ?_ | with_reducible refine ok_ite ?_ ?_ | with_reducible refine okO_ite ?_ ?_ | with_reducible refine okO_next ?_ | with_reducible refine ok_foldl ?_ ?_ | intro _ | extract_lets | split | (conv => arg 2; dsimp +zetaDelta only))

theorem ok_execT1sPublication {o s : State} (h : Ok o s) : OkO o (execT1sPublication s) := by
  unfold execT1sPublication
  refine okO_heldRun h ?_; intro s h
  repeat' (first | with_reducible assumption | (fail_if_no_progress (extract_lets +onlyGivenNames x); first | (refine okO_have x ?_ ?_; on_goal 1 => subst x; on_goal 2 => (clear_value x; intro _)) | skip) | with_reducible refine ok_sendMsg ?_ | with_reducible refine ok_ite ?_ ?_ | with_reducible refine okO_ite ?_ ?_ | with_reducible refine okO_next ?_ | with_reducible refine ok_foldl ?_ ?_ | intro _ | extract_lets | split | (conv => arg 2; dsimp +zetaDelta only))

theorem ok_execRackMessageRx {o s : State} (h : Ok o s) {a0 : MsgHead} {a1 : Byte} {a2 : Byte} : OkO o (execRackMessageRx a0 a1 a2 s) := by
  unfold execRackMessageRx
  repeat' (first | with_reducible assumption | (fail_if_no_progress (extract_lets +onlyGivenNames x); first | (refine okO_have x ?_ ?_; on_goal 1 => subst x; on_goal 2 => (clear_value x; intro _)) | skip) | with_reducible refine ok_receive ?_ ?_ | with_reducible refine ok_incSat ?_ | with_reducible refine ok_rackIn ?_ | with_reducible refine ok_ite ?_ ?_ | with_reducible refine okO_ite ?_ ?_ | with_reducible refine okO_next ?_ | with_reducible refine ok_foldl ?_ ?_ | intro _ | extract_lets | split | (conv => arg 2; dsimp +zetaDelta only))

theorem ok_execRackSendTimer {o s : State} (h : Ok o s) : OkO o (execRackSendTimer s) := by
  unfold execRackSendTimer
  repeat' (first | with_reducible assumption | (fail_if_no_progress (extract_lets +onlyGivenNames x); first | (refine okO_have x ?_ ?_; on_goal 1 => subst x; on_goal 2 => (clear_value x; intro _)) | skip) | with_reducible refine ok_sendMsg ?_ | with_reducible refine ok_updMsg ?_ | with_reducible refine ok_ite ?_ ?_ | with_reducible refine okO_ite ?_ ?_ | with_reducible refine okO_next ?_ | with_reducible refine ok_foldl ?_ ?_ | intro _ | extract_lets | split | (conv => arg 2; dsimp +zetaDelta only))

theorem ok_execPeerTimeout {o s : State} (h : Ok o s) {a0 : Nat} : OkO o (execPeerTimeout a0 s) := by
  unfold execPeerTimeout
  repeat' (first | with_reducible assumption | (fail_if_no_progress (extract_lets +onlyGivenNames x); first | (refine okO_have x ?_ ?_; on_goal 1 => subst x; on_goal 2 => (clear_value x; intro _)) | skip) | with_reducible refine ok_setReg ?_ | with_reducible refine ok_ite ?_ ?_ | with_reducible refine okO_ite ?_ ?_ | with_reducible refine okO_next ?_ | with_reducible refine ok_foldl ?_ ?_ | intro _ | extract_lets | split | (conv => arg 2; dsimp +zetaDelta only))

theorem ok_execCanErrorState {o s : State} (h : Ok o s) {a0 : Nat} {a1 : Bool} {a2 : Byte} {a3 : Byte} : OkO o (execCanErrorState a0 a1 a2 a3 s) := by
  unfold execCanErrorState
  repeat' (first | with_reducible assumption | (fail_if_no_progress (extract_lets +onlyGivenNames x); first | (refine okO_have x ?_ ?_; on_goal 1 => subst x; on_goal 2 => (clear_value x; intro _)) | skip) | with_reducible refine ok_setN ?_ | with_reducible refine ok_ownersOf ?_ | with_reducible refine ok_incSat ?_ | with_reducible refine ok_raiseL ?_ | with_reducible refine ok_ite ?_ ?_ | with_reducible refine okO_ite ?_ ?_ | with_reducible refine okO_next ?_ | with_reducible refine ok_foldl ?_ ?_ | intro _ | extract_lets | split | (conv => arg 2; dsimp +zetaDelta only))

theorem ok_execCanBusOffRecovery {o s : State} (h : Ok o s) {a0 : Nat} : OkO o (execCanBusOffRecovery a0 s) := by
  unfold execCanBusOffRecovery
  repeat' (first | with_reducible assumption | (fail_if_no_progress (extract_lets +onlyGivenNames x); first | (refine okO_have x ?_ ?_; on_goal 1 => subst x; on_goal 2 => (clear_value x; intro _)) | skip) | with_reducible refine ok_flushWaiting ?_ | with_reducible refine ok_endL ?_ | with_reducible refine ok_setReg ?_ | with_reducible refine ok_ite ?_ ?_ | with_reducible refine okO_ite ?_ ?_ | with_reducible refine okO_next ?_ | with_reducible refine ok_foldl ?_ ?_ | intro _ | extract_lets | split | (conv => arg 2; dsimp +zetaDelta only))

theorem ok_execCanTxDrop {o s : State} (h : Ok o s) {a0 : Nat} : OkO o (execCanTxDrop a0 s) := by
  unfold execCanTxDrop
  repeat' (first | with_reducible assumption | (fail_if_no_progress (extract_lets +onlyGivenNames x); first | (refine okO_have x ?_ ?_; on_goal 1 => subst x; on_goal 2 => (clear_value x; intro _)) | skip) | with_reducible refine ok_dropOld ?_ | with_reducible refine ok_ite ?_ ?_ | with_reducible refine okO_ite ?_ ?_ | with_reducible refine okO_next ?_ | with_reducible refine ok_foldl ?_ ?_ | intro _ | extract_lets | split | (conv => arg 2; dsimp +zetaDelta only))

theorem ok_execCanErrorActiveReturn {o s : State} (h : Ok o s) {a0 : Nat} {a1 : Byte} {a2 : Byte} : OkO o (execCanErrorActiveReturn a0 a1 a2 s) := by
  unfold execCanErrorActiveReturn
  repeat' (first | with_reducible assumption | (fail_if_no_progress (extract_lets +onlyGivenNames x); first | (refine okO_have x ?_ ?_; on_goal 1 => subst x; on_goal 2 => (clear_value x; intro _)) | skip) | with_reducible refine ok_endL ?_ | with_reducible refine ok_setN ?_ | with_reducible refine ok_ite ?_ ?_ | with_reducible refine okO_ite ?_ ?_ | with_reducible refine okO_next ?_ | with_reducible refine ok_foldl ?_ ?_ | intro _ | extract_lets | split | (conv => arg 2; dsimp +zetaDelta only))

theorem ok_execT1sLinkLoss {o s : State} (h : Ok o s) {a0 : Bool} : OkO o (execT1sLinkLoss a0 s) := by
  unfold execT1sLinkLoss
  repeat' (first | with_reducible assumption | (fail_if_no_progress (extract_lets +onlyGivenNames x); first | (refine okO_have x ?_ ?_; on_goal 1 => subst x; on_goal 2 => (clear_value x; intro _)) | skip) | with_reducible refine ok_t1sFail ?_ | with_reducible refine ok_ownersOf ?_ | with_reducible refine ok_setF ?_ | with_reducible refine ok_incSat ?_ | with_reducible refine ok_ite ?_ ?_ | with_reducible refine okO_ite ?_ ?_ | with_reducible refine okO_next ?_ | with_reducible refine ok_foldl ?_ ?_ | intro _ | extract_lets | split | (conv => arg 2; dsimp +zetaDelta only))

theorem ok_execT1sLinkReturn {o s : State} (h : Ok o s) {a0 : Bool} {a1 : Bool} : OkO o (execT1sLinkReturn a0 a1 s) := by
  unfold execT1sLinkReturn
  repeat' (first | with_reducible assumption | (fail_if_no_progress (extract_lets +onlyGivenNames x); first | (refine okO_have x ?_ ?_; on_goal 1 => subst x; on_goal 2 => (clear_value x; intro _)) | skip) | with_reducible refine ok_setF ?_ | with_reducible refine ok_endL ?_ | with_reducible refine ok_flushWaiting ?_ | with_reducible refine ok_ite ?_ ?_ | with_reducible refine okO_ite ?_ ?_ | with_reducible refine okO_next ?_ | with_reducible refine ok_foldl ?_ ?_ | intro _ | extract_lets | split | (conv => arg 2; dsimp +zetaDelta only))

theorem ok_execPmbusPoll {o s : State} (h : Ok o s) {a0 : Nat} {a1 : PmbData} : OkO o (execPmbusPoll a0 a1 s) := by
  unfold execPmbusPoll
  repeat' (first | with_reducible assumption | (fail_if_no_progress (extract_lets +onlyGivenNames x); first | (refine okO_have x ?_ ?_; on_goal 1 => subst x; on_goal 2 => (clear_value x; intro _)) | skip) | with_reducible refine ok_pmbPolled ?_ | with_reducible refine ok_ite ?_ ?_ | with_reducible refine okO_ite ?_ ?_ | with_reducible refine okO_next ?_ | with_reducible refine ok_foldl ?_ ?_ | intro _ | extract_lets | split | (conv => arg 2; dsimp +zetaDelta only))

theorem ok_execPmbusPollFail {o s : State} (h : Ok o s) {a0 : Nat} {a1 : PmbFail} : OkO o (execPmbusPollFail a0 a1 s) := by
  unfold execPmbusPollFail
  repeat' (first | with_reducible assumption | (fail_if_no_progress (extract_lets +onlyGivenNames x); first | (refine okO_have x ?_ ?_; on_goal 1 => subst x; on_goal 2 => (clear_value x; intro _)) | skip) | with_reducible refine ok_pmbFailed ?_ | with_reducible refine ok_ite ?_ ?_ | with_reducible refine okO_ite ?_ ?_ | with_reducible refine okO_next ?_ | with_reducible refine ok_foldl ?_ ?_ | intro _ | extract_lets | split | (conv => arg 2; dsimp +zetaDelta only))

theorem ok_execPmbusAlert {o s : State} (h : Ok o s) {a0 : BitVec 7} {a1 : Half} : OkO o (execPmbusAlert a0 a1 s) := by
  unfold execPmbusAlert
  repeat' (first | with_reducible assumption | (fail_if_no_progress (extract_lets +onlyGivenNames x); first | (refine okO_have x ?_ ?_; on_goal 1 => subst x; on_goal 2 => (clear_value x; intro _)) | skip) | with_reducible refine ok_setF ?_ | with_reducible refine ok_forAll ?_ ?_ | with_reducible refine ok_ite ?_ ?_ | with_reducible refine okO_ite ?_ ?_ | with_reducible refine okO_next ?_ | with_reducible refine ok_foldl ?_ ?_ | intro _ | extract_lets | split | (conv => arg 2; dsimp +zetaDelta only))

theorem ok_execNtcMeasurement {o s : State} (h : Ok o s) {a0 : List (BitVec 12)} : OkO o (execNtcMeasurement a0 s) := by
  unfold execNtcMeasurement
  repeat' (first | with_reducible assumption | (fail_if_no_progress (extract_lets +onlyGivenNames x); first | (refine okO_have x ?_ ?_; on_goal 1 => subst x; on_goal 2 => (clear_value x; intro _)) | skip) | with_reducible refine ok_setN ?_ | with_reducible refine ok_forAll ?_ ?_ | with_reducible refine ok_ite ?_ ?_ | with_reducible refine okO_ite ?_ ?_ | with_reducible refine okO_next ?_ | with_reducible refine ok_foldl ?_ ?_ | intro _ | extract_lets | split | (conv => arg 2; dsimp +zetaDelta only))

theorem ok_modeResult {o s : State} (h : Ok o s) {a1 : Nat} : Ok o (State.modeResult s a1) := by
  unfold State.modeResult
  repeat' (first | with_reducible assumption | (fail_if_no_progress (extract_lets +onlyGivenNames x); first | (refine ok_have x ?_ ?_; on_goal 1 => subst x; on_goal 2 => (clear_value x; intro _)) | skip) | with_reducible refine ok_setF ?_ | with_reducible refine ok_ite ?_ ?_ | with_reducible refine ok_foldl ?_ ?_ | intro _ | extract_lets | split | (conv => arg 2; dsimp +zetaDelta only))

theorem ok_reqDescent {o s : State} (h : Ok o s) {a1 : Nat} : Ok o (State.reqDescent s a1) := by
  unfold State.reqDescent
  repeat' (first | with_reducible assumption | (fail_if_no_progress (extract_lets +onlyGivenNames x); first | (refine ok_have x ?_ ?_; on_goal 1 => subst x; on_goal 2 => (clear_value x; intro _)) | skip) | with_reducible refine ok_modeResult ?_ | with_reducible refine ok_setF ?_ | ((conv => arg 2; arg 27; skip); with_reducible refine ok_mk ?_ rfl) | with_reducible refine ok_ite ?_ ?_ | with_reducible refine ok_foldl ?_ ?_ | intro _ | extract_lets | split | (conv => arg 2; dsimp +zetaDelta only))

theorem ok_reqService {o s : State} (h : Ok o s) : Ok o (State.reqService s) := by
  unfold State.reqService
  repeat' (first | with_reducible assumption | (fail_if_no_progress (extract_lets +onlyGivenNames x); first | (refine ok_have x ?_ ?_; on_goal 1 => subst x; on_goal 2 => (clear_value x; intro _)) | skip) | with_reducible refine ok_modeResult ?_ | with_reducible refine ok_setMode ?_ | with_reducible refine ok_ownerFree ?_ | with_reducible refine ok_ite ?_ ?_ | with_reducible refine ok_foldl ?_ ?_ | intro _ | extract_lets | split | (conv => arg 2; dsimp +zetaDelta only))

theorem ok_startDemand {o s : State} (h : Ok o s) : Ok o (State.startDemand s) := by
  unfold State.startDemand
  repeat' (first | with_reducible assumption | (fail_if_no_progress (extract_lets +onlyGivenNames x); first | (refine ok_have x ?_ ?_; on_goal 1 => subst x; on_goal 2 => (clear_value x; intro _)) | skip) | with_reducible refine ok_updShelf ?_ | with_reducible refine ok_ite ?_ ?_ | with_reducible refine ok_foldl ?_ ?_ | intro _ | extract_lets | split | (conv => arg 2; dsimp +zetaDelta only))

theorem ok_reqServiceExit {o s : State} (h : Ok o s) : Ok o (State.reqServiceExit s) := by
  unfold State.reqServiceExit
  repeat' (first | with_reducible assumption | (fail_if_no_progress (extract_lets +onlyGivenNames x); first | (refine ok_have x ?_ ?_; on_goal 1 => subst x; on_goal 2 => (clear_value x; intro _)) | skip) | with_reducible refine ok_modeResult ?_ | with_reducible refine ok_setMode ?_ | with_reducible refine ok_settleActive ?_ | with_reducible refine ok_startDemand ?_ | with_reducible refine ok_ite ?_ ?_ | with_reducible refine ok_foldl ?_ ?_ | intro _ | extract_lets | split | (conv => arg 2; dsimp +zetaDelta only))

theorem ok_reqInhibitClr {o s : State} (h : Ok o s) : Ok o (State.reqInhibitClr s) := by
  unfold State.reqInhibitClr
  repeat' (first | with_reducible assumption | (fail_if_no_progress (extract_lets +onlyGivenNames x); first | (refine ok_have x ?_ ?_; on_goal 1 => subst x; on_goal 2 => (clear_value x; intro _)) | skip) | with_reducible refine ok_modeResult ?_ | with_reducible refine ok_setF ?_ | with_reducible refine ok_startDemand ?_ | with_reducible refine ok_setMode ?_ | with_reducible refine ok_ite ?_ ?_ | with_reducible refine ok_foldl ?_ ?_ | intro _ | extract_lets | split | (conv => arg 2; dsimp +zetaDelta only))

theorem ok_modeCtrl {o s : State} (h : Ok o s) {a1 : Nat} {a2 : Nat} : Ok o (State.modeCtrl s a1 a2) := by
  unfold State.modeCtrl
  repeat' (first | with_reducible assumption | (fail_if_no_progress (extract_lets +onlyGivenNames x); first | (refine ok_have x ?_ ?_; on_goal 1 => subst x; on_goal 2 => (clear_value x; intro _)) | skip) | with_reducible refine ok_setF ?_ | with_reducible refine ok_modeResult ?_ | with_reducible refine ok_deviceReset ?_ | with_reducible refine ok_reqDescent ?_ | with_reducible refine ok_reqService ?_ | with_reducible refine ok_reqServiceExit ?_ | with_reducible refine ok_reqInhibitClr ?_ | with_reducible refine ok_ite ?_ ?_ | with_reducible refine ok_foldl ?_ ?_ | intro _ | extract_lets | split | (conv => arg 2; dsimp +zetaDelta only))

theorem ok_tellPlant {o s : State} (h : Ok o s) : Ok o (State.tellPlant s) := by
  unfold State.tellPlant
  repeat' (first | with_reducible assumption | (fail_if_no_progress (extract_lets +onlyGivenNames x); first | (refine ok_have x ?_ ?_; on_goal 1 => subst x; on_goal 2 => (clear_value x; intro _)) | skip) | with_reducible refine ok_sendPlant ?_ | with_reducible refine ok_ite ?_ ?_ | with_reducible refine ok_foldl ?_ ?_ | intro _ | extract_lets | split | (conv => arg 2; dsimp +zetaDelta only))

theorem ok_descBegin {o s : State} (h : Ok o s) : Ok o (State.descBegin s) := by
  unfold State.descBegin
  repeat' (first | with_reducible assumption | (fail_if_no_progress (extract_lets +onlyGivenNames x); first | (refine ok_have x ?_ ?_; on_goal 1 => subst x; on_goal 2 => (clear_value x; intro _)) | skip) | with_reducible refine ok_cnCollapse ?_ | with_reducible refine ok_modeResult ?_ | with_reducible refine ok_tellPlant ?_ | with_reducible refine ok_raise ?_ | with_reducible refine ok_updPair ?_ | with_reducible refine ok_updShelf ?_ | ((conv => arg 2; arg 27; skip); with_reducible refine ok_mk ?_ rfl) | with_reducible refine ok_ite ?_ ?_ | with_reducible refine ok_foldl ?_ ?_ | intro _ | extract_lets | split | (conv => arg 2; dsimp +zetaDelta only))

theorem ok_descZero {o s : State} (h : Ok o s) : Ok o (State.descZero s) := by
  unfold State.descZero
  repeat' (first | with_reducible assumption | (fail_if_no_progress (extract_lets +onlyGivenNames x); first | (refine ok_have x ?_ ?_; on_goal 1 => subst x; on_goal 2 => (clear_value x; intro _)) | skip) | with_reducible refine ok_setpoint ?_ | with_reducible refine ok_updShelf ?_ | with_reducible refine ok_forAll ?_ ?_ | with_reducible refine ok_ite ?_ ?_ | with_reducible refine ok_foldl ?_ ?_ | intro _ | extract_lets | split | (conv => arg 2; dsimp +zetaDelta only))

theorem ok_portsStop {o s : State} (h : Ok o s) : Ok o (State.portsStop s) := by
  unfold State.portsStop
  repeat' (first | with_reducible assumption | (fail_if_no_progress (extract_lets +onlyGivenNames x); first | (refine ok_have x ?_ ?_; on_goal 1 => subst x; on_goal 2 => (clear_value x; intro _)) | skip) | with_reducible refine ok_pageStopped ?_ | with_reducible refine ok_markDown ?_ | with_reducible refine ok_forAll ?_ ?_ | with_reducible refine ok_ite ?_ ?_ | with_reducible refine ok_foldl ?_ ?_ | intro _ | extract_lets | split | (conv => arg 2; dsimp +zetaDelta only))

theorem ok_descStop {o s : State} (h : Ok o s) : Ok o (State.descStop s) := by
  unfold State.descStop
  repeat' (first | with_reducible assumption | (fail_if_no_progress (extract_lets +onlyGivenNames x); first | (refine ok_have x ?_ ?_; on_goal 1 => subst x; on_goal 2 => (clear_value x; intro _)) | skip) | with_reducible refine ok_portsStop ?_ | with_reducible refine ok_descZero ?_ | with_reducible refine ok_showNextSsn ?_ | with_reducible refine ok_setF ?_ | with_reducible refine ok_downRequest ?_ | with_reducible refine ok_forAll ?_ ?_ | ((conv => arg 2; arg 27; skip); with_reducible refine ok_mk ?_ rfl) | with_reducible refine ok_ite ?_ ?_ | with_reducible refine ok_foldl ?_ ?_ | intro _ | extract_lets | split | (conv => arg 2; dsimp +zetaDelta only))

theorem ok_psWriteNow {o s : State} (h : Ok o s) {a1 : Nat} {a2 : List Byte} : Ok o (State.psWriteNow s a1 a2) := by
  unfold State.psWriteNow
  repeat' (first | with_reducible assumption | (fail_if_no_progress (extract_lets +onlyGivenNames x); first | (refine ok_have x ?_ ?_; on_goal 1 => subst x; on_goal 2 => (clear_value x; intro _)) | skip) | with_reducible refine ok_setN ?_ | with_reducible refine ok_psPut ?_ | ((conv => arg 2; arg 27; skip); with_reducible refine ok_mk ?_ rfl) | with_reducible refine ok_ite ?_ ?_ | with_reducible refine ok_foldl ?_ ?_ | intro _ | extract_lets | split | (conv => arg 2; dsimp +zetaDelta only))

theorem ok_descRecord {o s : State} (h : Ok o s) {a1 : Nat} : Ok o (State.descRecord s a1) := by
  unfold State.descRecord
  repeat' (first | with_reducible assumption | (fail_if_no_progress (extract_lets +onlyGivenNames x); first | (refine ok_have x ?_ ?_; on_goal 1 => subst x; on_goal 2 => (clear_value x; intro _)) | skip) | with_reducible refine ok_psWriteNow ?_ | with_reducible refine ok_checkFill ?_ | with_reducible refine ok_cairnStage ?_ | with_reducible refine ok_cairnRewrite ?_ | with_reducible refine ok_cairnFlush ?_ | with_reducible refine ok_forAll ?_ ?_ | with_reducible refine ok_ite ?_ ?_ | with_reducible refine ok_foldl ?_ ?_ | intro _ | extract_lets | split | (conv => arg 2; dsimp +zetaDelta only))

theorem ok_descentFinish {o s : State} (h : Ok o s) : Ok o (State.descentFinish s) := by
  unfold State.descentFinish
  repeat' (first | with_reducible assumption | (fail_if_no_progress (extract_lets +onlyGivenNames x); first | (refine ok_have x ?_ ?_; on_goal 1 => subst x; on_goal 2 => (clear_value x; intro _)) | skip) | with_reducible refine ok_pwmFloat ?_ | with_reducible refine ok_resetAll ?_ | with_reducible refine ok_setMode ?_ | with_reducible refine ok_setReg ?_ | with_reducible refine ok_setF ?_ | with_reducible refine ok_wakeReset ?_ | ((conv => arg 2; arg 27; skip); with_reducible refine ok_mk ?_ rfl) | with_reducible refine ok_ite ?_ ?_ | with_reducible refine ok_foldl ?_ ?_ | intro _ | extract_lets | split | (conv => arg 2; dsimp +zetaDelta only))

theorem ok_descForce {o s : State} (h : Ok o s) : Ok o (State.descForce s) := by
  unfold State.descForce
  repeat' (first | with_reducible assumption | (fail_if_no_progress (extract_lets +onlyGivenNames x); first | (refine ok_have x ?_ ?_; on_goal 1 => subst x; on_goal 2 => (clear_value x; intro _)) | skip) | with_reducible refine ok_setF ?_ | with_reducible refine ok_withdraw ?_ | with_reducible refine ok_portsStop ?_ | with_reducible refine ok_showNextSsn ?_ | with_reducible refine ok_raise ?_ | with_reducible refine ok_efToOff ?_ | with_reducible refine ok_forAll ?_ ?_ | ((conv => arg 2; arg 27; skip); with_reducible refine ok_mk ?_ rfl) | with_reducible refine ok_ite ?_ ?_ | with_reducible refine ok_foldl ?_ ?_ | intro _ | extract_lets | split | (conv => arg 2; dsimp +zetaDelta only))

theorem ok_tempShow {o s : State} (h : Ok o s) : Ok o (State.tempShow s) := by
  unfold State.tempShow
  repeat' (first | with_reducible assumption | (fail_if_no_progress (extract_lets +onlyGivenNames x); first | (refine ok_have x ?_ ?_; on_goal 1 => subst x; on_goal 2 => (clear_value x; intro _)) | skip) | with_reducible refine ok_setF ?_ | with_reducible refine ok_ite ?_ ?_ | with_reducible refine ok_foldl ?_ ?_ | intro _ | extract_lets | split | (conv => arg 2; dsimp +zetaDelta only))

theorem ok_follow {o s : State} (h : Ok o s) {a1 : Nat} {a2 : Bool} {a3 : List Nat} : Ok o (State.follow s a1 a2 a3) := by
  unfold State.follow
  repeat' (first | with_reducible assumption | (fail_if_no_progress (extract_lets +onlyGivenNames x); first | (refine ok_have x ?_ ?_; on_goal 1 => subst x; on_goal 2 => (clear_value x; intro _)) | skip) | with_reducible refine ok_raiseL ?_ | with_reducible refine ok_endL ?_ | with_reducible refine ok_ite ?_ ?_ | with_reducible refine ok_foldl ?_ ?_ | intro _ | extract_lets | split | (conv => arg 2; dsimp +zetaDelta only))

theorem ok_regionFence {o s : State} (h : Ok o s) {a1 : OwnRegion} : Ok o (State.regionFence s a1) := by
  unfold State.regionFence
  repeat' (first | with_reducible assumption | (fail_if_no_progress (extract_lets +onlyGivenNames x); first | (refine ok_have x ?_ ?_; on_goal 1 => subst x; on_goal 2 => (clear_value x; intro _)) | skip) | with_reducible refine ok_fenceUnit ?_ | with_reducible refine ok_setF ?_ | with_reducible refine ok_ridgeDown ?_ | with_reducible refine ok_fenceRail ?_ | with_reducible refine ok_fencePhase ?_ | with_reducible refine ok_forAll ?_ ?_ | with_reducible refine ok_ite ?_ ?_ | with_reducible refine ok_foldl ?_ ?_ | intro _ | extract_lets | split | (conv => arg 2; dsimp +zetaDelta only))

theorem ok_regionReset {o s : State} (h : Ok o s) {a1 : OwnRegion} : Ok o (State.regionReset s a1) := by
  unfold State.regionReset
  repeat' (first | with_reducible assumption | (fail_if_no_progress (extract_lets +onlyGivenNames x); first | (refine ok_have x ?_ ?_; on_goal 1 => subst x; on_goal 2 => (clear_value x; intro _)) | skip) | with_reducible refine ok_setF ?_ | with_reducible refine ok_updPort ?_ | with_reducible refine ok_updMsg ?_ | with_reducible refine ok_endL ?_ | with_reducible refine ok_setReg ?_ | with_reducible refine ok_t1sFail ?_ | with_reducible refine ok_ownersOf ?_ | with_reducible refine ok_updRail ?_ | with_reducible refine ok_updPhase ?_ | with_reducible refine ok_updEf ?_ | with_reducible refine ok_forAll ?_ ?_ | ((conv => arg 2; arg 27; skip); with_reducible refine ok_mk ?_ rfl) | with_reducible refine ok_ite ?_ ?_ | with_reducible refine ok_foldl ?_ ?_ | intro _ | extract_lets | split | (conv => arg 2; dsimp +zetaDelta only))

theorem ok_mpuDown {o s : State} (h : Ok o s) : Ok o (State.mpuDown s) := by
  unfold State.mpuDown
  repeat' (first | with_reducible assumption | (fail_if_no_progress (extract_lets +onlyGivenNames x); first | (refine ok_have x ?_ ?_; on_goal 1 => subst x; on_goal 2 => (clear_value x; intro _)) | skip) | with_reducible refine ok_imgStop ?_ | with_reducible refine ok_setF ?_ | ((conv => arg 2; arg 27; skip); with_reducible refine ok_mk ?_ rfl) | with_reducible refine ok_ite ?_ ?_ | with_reducible refine ok_foldl ?_ ?_ | intro _ | extract_lets | split | (conv => arg 2; dsimp +zetaDelta only))

theorem ok_mpuUp {o s : State} (h : Ok o s) : Ok o (State.mpuUp s) := by
  unfold State.mpuUp
  repeat' (first | with_reducible assumption | (fail_if_no_progress (extract_lets +onlyGivenNames x); first | (refine ok_have x ?_ ?_; on_goal 1 => subst x; on_goal 2 => (clear_value x; intro _)) | skip) | with_reducible refine ok_mpuStart ?_ | with_reducible refine ok_raise ?_ | with_reducible refine ok_queueTrial ?_ | with_reducible refine ok_dropHeld ?_ | with_reducible refine ok_setF ?_ | ((conv => arg 2; arg 27; skip); with_reducible refine ok_mk ?_ rfl) | with_reducible refine ok_ite ?_ ?_ | with_reducible refine ok_foldl ?_ ?_ | intro _ | extract_lets | split | (conv => arg 2; dsimp +zetaDelta only))

theorem ok_execDescentStart {o s : State} (h : Ok o s) : OkO o (execDescentStart s) := by
  unfold execDescentStart
  repeat' (first | with_reducible assumption | (fail_if_no_progress (extract_lets +onlyGivenNames x); first | (refine okO_have x ?_ ?_; on_goal 1 => subst x; on_goal 2 => (clear_value x; intro _)) | skip) | with_reducible refine ok_descBegin ?_ | with_reducible refine ok_ite ?_ ?_ | with_reducible refine okO_ite ?_ ?_ | with_reducible refine okO_next ?_ | with_reducible refine ok_foldl ?_ ?_ | intro _ | extract_lets | split | (conv => arg 2; dsimp +zetaDelta only))

theorem ok_execDescentRampEnd {o s : State} (h : Ok o s) : OkO o (execDescentRampEnd s) := by
  unfold execDescentRampEnd
  repeat' (first | with_reducible assumption | (fail_if_no_progress (extract_lets +onlyGivenNames x); first | (refine okO_have x ?_ ?_; on_goal 1 => subst x; on_goal 2 => (clear_value x; intro _)) | skip) | with_reducible refine ok_descStop ?_ | with_reducible refine ok_ite ?_ ?_ | with_reducible refine okO_ite ?_ ?_ | with_reducible refine okO_next ?_ | with_reducible refine ok_foldl ?_ ?_ | intro _ | extract_lets | split | (conv => arg 2; dsimp +zetaDelta only))

theorem ok_execDescentGroupsAllOff {o s : State} (h : Ok o s) {a0 : Word} : OkO o (execDescentGroupsAllOff a0 s) := by
  unfold execDescentGroupsAllOff
  repeat' (first | with_reducible assumption | (fail_if_no_progress (extract_lets +onlyGivenNames x); first | (refine okO_have x ?_ ?_; on_goal 1 => subst x; on_goal 2 => (clear_value x; intro _)) | skip) | with_reducible refine ok_descentFinish ?_ | with_reducible refine ok_descRecord ?_ | with_reducible refine ok_ite ?_ ?_ | with_reducible refine okO_ite ?_ ?_ | with_reducible refine okO_next ?_ | with_reducible refine ok_foldl ?_ ?_ | intro _ | extract_lets | split | (conv => arg 2; dsimp +zetaDelta only))

theorem ok_execDescentTmaxExpiry {o s : State} (h : Ok o s) {a0 : Word} : OkO o (execDescentTmaxExpiry a0 s) := by
  unfold execDescentTmaxExpiry
  repeat' (first | with_reducible assumption | (fail_if_no_progress (extract_lets +onlyGivenNames x); first | (refine okO_have x ?_ ?_; on_goal 1 => subst x; on_goal 2 => (clear_value x; intro _)) | skip) | with_reducible refine ok_descentFinish ?_ | with_reducible refine ok_descRecord ?_ | with_reducible refine ok_descForce ?_ | with_reducible refine ok_ite ?_ ?_ | with_reducible refine okO_ite ?_ ?_ | with_reducible refine okO_next ?_ | with_reducible refine ok_foldl ?_ ?_ | intro _ | extract_lets | split | (conv => arg 2; dsimp +zetaDelta only))

theorem ok_execVinWarnFalling {o s : State} (h : Ok o s) {a0 : Half} : OkO o (execVinWarnFalling a0 s) := by
  unfold execVinWarnFalling
  repeat' (first | with_reducible assumption | (fail_if_no_progress (extract_lets +onlyGivenNames x); first | (refine okO_have x ?_ ?_; on_goal 1 => subst x; on_goal 2 => (clear_value x; intro _)) | skip) | with_reducible refine ok_raiseL ?_ | with_reducible refine ok_setF ?_ | with_reducible refine ok_imgStop ?_ | with_reducible refine ok_learnDisq ?_ | with_reducible refine ok_clearInterrupt ?_ | with_reducible refine ok_cairnRewrite ?_ | with_reducible refine ok_cairnFlush ?_ | with_reducible refine ok_forAll ?_ ?_ | with_reducible refine ok_ite ?_ ?_ | with_reducible refine okO_ite ?_ ?_ | with_reducible refine okO_next ?_ | with_reducible refine ok_foldl ?_ ?_ | intro _ | extract_lets | split | (conv => arg 2; dsimp +zetaDelta only))

theorem ok_execVinWarnRising {o s : State} (h : Ok o s) {a0 : Half} : OkO o (execVinWarnRising a0 s) := by
  unfold execVinWarnRising
  repeat' (first | with_reducible assumption | (fail_if_no_progress (extract_lets +onlyGivenNames x); first | (refine okO_have x ?_ ?_; on_goal 1 => subst x; on_goal 2 => (clear_value x; intro _)) | skip) | with_reducible refine ok_endL ?_ | with_reducible refine ok_setF ?_ | with_reducible refine ok_seqVinBack ?_ | with_reducible refine ok_ite ?_ ?_ | with_reducible refine okO_ite ?_ ?_ | with_reducible refine okO_next ?_ | with_reducible refine ok_foldl ?_ ?_ | intro _ | extract_lets | split | (conv => arg 2; dsimp +zetaDelta only))

theorem ok_execVholdReady {o s : State} (h : Ok o s) {a0 : Half} : OkO o (execVholdReady a0 s) := by
  unfold execVholdReady
  repeat' (first | with_reducible assumption | (fail_if_no_progress (extract_lets +onlyGivenNames x); first | (refine okO_have x ?_ ?_; on_goal 1 => subst x; on_goal 2 => (clear_value x; intro _)) | skip) | with_reducible refine ok_setF ?_ | with_reducible refine ok_cairnFlush ?_ | with_reducible refine ok_ite ?_ ?_ | with_reducible refine okO_ite ?_ ?_ | with_reducible refine okO_next ?_ | with_reducible refine ok_foldl ?_ ?_ | intro _ | extract_lets | split | (conv => arg 2; dsimp +zetaDelta only))

theorem ok_execVholdBelowMin {o s : State} (h : Ok o s) {a0 : Half} : OkO o (execVholdBelowMin a0 s) := by
  unfold execVholdBelowMin
  repeat' (first | with_reducible assumption | (fail_if_no_progress (extract_lets +onlyGivenNames x); first | (refine okO_have x ?_ ?_; on_goal 1 => subst x; on_goal 2 => (clear_value x; intro _)) | skip) | with_reducible refine ok_setF ?_ | with_reducible refine ok_cairnShow ?_ | ((conv => arg 2; arg 27; skip); with_reducible refine ok_mk ?_ rfl) | with_reducible refine ok_ite ?_ ?_ | with_reducible refine okO_ite ?_ ?_ | with_reducible refine okO_next ?_ | with_reducible refine ok_foldl ?_ ?_ | intro _ | extract_lets | split | (conv => arg 2; dsimp +zetaDelta only))

theorem ok_execAonSupplyLoss {o s : State} (h : Ok o s) : OkO o (execAonSupplyLoss s) := by
  unfold execAonSupplyLoss
  repeat' (first | with_reducible assumption | (fail_if_no_progress (extract_lets +onlyGivenNames x); first | (refine okO_have x ?_ ?_; on_goal 1 => subst x; on_goal 2 => (clear_value x; intro _)) | skip) | ((conv => arg 2; arg 27; skip); with_reducible refine ok_mk ?_ rfl) | with_reducible refine ok_ite ?_ ?_ | with_reducible refine okO_ite ?_ ?_ | with_reducible refine okO_next ?_ | with_reducible refine ok_foldl ?_ ?_ | intro _ | extract_lets | split | (conv => arg 2; dsimp +zetaDelta only))

theorem ok_execWatchdogExpiry {o s : State} (h : Ok o s) : OkO o (execWatchdogExpiry s) := by
  unfold execWatchdogExpiry
  repeat' (first | with_reducible assumption | (fail_if_no_progress (extract_lets +onlyGivenNames x); first | (refine okO_have x ?_ ?_; on_goal 1 => subst x; on_goal 2 => (clear_value x; intro _)) | skip) | with_reducible refine ok_setN ?_ | with_reducible refine ok_mpuDown ?_ | with_reducible refine ok_raise ?_ | with_reducible refine ok_ite ?_ ?_ | with_reducible refine okO_ite ?_ ?_ | with_reducible refine okO_next ?_ | with_reducible refine ok_foldl ?_ ?_ | intro _ | extract_lets | split | (conv => arg 2; dsimp +zetaDelta only))

theorem ok_execMpuRestartComplete {o s : State} (h : Ok o s) : OkO o (execMpuRestartComplete s) := by
  unfold execMpuRestartComplete
  repeat' (first | with_reducible assumption | (fail_if_no_progress (extract_lets +onlyGivenNames x); first | (refine okO_have x ?_ ?_; on_goal 1 => subst x; on_goal 2 => (clear_value x; intro _)) | skip) | with_reducible refine ok_mpuUp ?_ | with_reducible refine ok_ite ?_ ?_ | with_reducible refine okO_ite ?_ ?_ | with_reducible refine okO_next ?_ | with_reducible refine ok_foldl ?_ ?_ | intro _ | extract_lets | split | (conv => arg 2; dsimp +zetaDelta only))

theorem ok_execRefclkLoss {o s : State} (h : Ok o s) : OkO o (execRefclkLoss s) := by
  unfold execRefclkLoss
  repeat' (first | with_reducible assumption | (fail_if_no_progress (extract_lets +onlyGivenNames x); first | (refine okO_have x ?_ ?_; on_goal 1 => subst x; on_goal 2 => (clear_value x; intro _)) | skip) | with_reducible refine ok_setF ?_ | with_reducible refine ok_raiseL ?_ | ((conv => arg 2; arg 27; skip); with_reducible refine ok_mk ?_ rfl) | with_reducible refine ok_ite ?_ ?_ | with_reducible refine okO_ite ?_ ?_ | with_reducible refine okO_next ?_ | with_reducible refine ok_foldl ?_ ?_ | intro _ | extract_lets | split | (conv => arg 2; dsimp +zetaDelta only))

theorem ok_execXt32StartTimeout {o s : State} (h : Ok o s) : OkO o (execXt32StartTimeout s) := by
  unfold execXt32StartTimeout
  repeat' (first | with_reducible assumption | (fail_if_no_progress (extract_lets +onlyGivenNames x); first | (refine okO_have x ?_ ?_; on_goal 1 => subst x; on_goal 2 => (clear_value x; intro _)) | skip) | with_reducible refine ok_setF ?_ | with_reducible refine ok_ite ?_ ?_ | with_reducible refine okO_ite ?_ ?_ | with_reducible refine okO_next ?_ | with_reducible refine ok_foldl ?_ ?_ | intro _ | extract_lets | split | (conv => arg 2; dsimp +zetaDelta only))

theorem ok_execPllLock {o s : State} (h : Ok o s) {a0 : Pll} : OkO o (execPllLock a0 s) := by
  unfold execPllLock
  repeat' (first | with_reducible assumption | (fail_if_no_progress (extract_lets +onlyGivenNames x); first | (refine okO_have x ?_ ?_; on_goal 1 => subst x; on_goal 2 => (clear_value x; intro _)) | skip) | with_reducible refine ok_putBit ?_ | with_reducible refine ok_ite ?_ ?_ | with_reducible refine okO_ite ?_ ?_ | with_reducible refine okO_next ?_ | with_reducible refine ok_foldl ?_ ?_ | intro _ | extract_lets | split | (conv => arg 2; dsimp +zetaDelta only))

theorem ok_execRegionTempLimit {o s : State} (h : Ok o s) {a0 : Nat} {a1 : BitVec 16} : OkO o (execRegionTempLimit a0 a1 s) := by
  unfold execRegionTempLimit
  repeat' (first | with_reducible assumption | (fail_if_no_progress (extract_lets +onlyGivenNames x); first | (refine okO_have x ?_ ?_; on_goal 1 => subst x; on_goal 2 => (clear_value x; intro _)) | skip) | with_reducible refine ok_setF ?_ | with_reducible refine ok_tempShow ?_ | with_reducible refine ok_follow ?_ | ((conv => arg 2; arg 27; skip); with_reducible refine ok_mk ?_ rfl) | with_reducible refine ok_ite ?_ ?_ | with_reducible refine okO_ite ?_ ?_ | with_reducible refine okO_next ?_ | with_reducible refine ok_foldl ?_ ?_ | intro _ | extract_lets | split | (conv => arg 2; dsimp +zetaDelta only))

theorem ok_execRegionBrownout {o s : State} (h : Ok o s) {a0 : OwnRegion} : OkO o (execRegionBrownout a0 s) := by
  unfold execRegionBrownout
  repeat' (first | with_reducible assumption | (fail_if_no_progress (extract_lets +onlyGivenNames x); first | (refine okO_have x ?_ ?_; on_goal 1 => subst x; on_goal 2 => (clear_value x; intro _)) | skip) | with_reducible refine ok_putBit ?_ | with_reducible refine ok_regionReset ?_ | with_reducible refine ok_regionFence ?_ | with_reducible refine ok_setF ?_ | with_reducible refine ok_setMode ?_ | with_reducible refine ok_raise ?_ | with_reducible refine ok_forAll ?_ ?_ | ((conv => arg 2; arg 27; skip); with_reducible refine ok_mk ?_ rfl) | with_reducible refine ok_ite ?_ ?_ | with_reducible refine okO_ite ?_ ?_ | with_reducible refine okO_next ?_ | with_reducible refine ok_foldl ?_ ?_ | intro _ | extract_lets | split | (conv => arg 2; dsimp +zetaDelta only))

theorem ok_execRegionRestartComplete {o s : State} (h : Ok o s) {a0 : OwnRegion} : OkO o (execRegionRestartComplete a0 s) := by
  unfold execRegionRestartComplete
  repeat' (first | with_reducible assumption | (fail_if_no_progress (extract_lets +onlyGivenNames x); first | (refine okO_have x ?_ ?_; on_goal 1 => subst x; on_goal 2 => (clear_value x; intro _)) | skip) | ((conv => arg 2; arg 27; skip); with_reducible refine ok_mk ?_ rfl) | with_reducible refine ok_ite ?_ ?_ | with_reducible refine okO_ite ?_ ?_ | with_reducible refine okO_next ?_ | with_reducible refine ok_foldl ?_ ?_ | intro _ | extract_lets | split | (conv => arg 2; dsimp +zetaDelta only))

theorem ok_nextOf {o s : State} {r : Host.Outcome State Fault Refusal} (h : OkO o r) : Ok o (nextOf s r) := by
  obtain ⟨t, rfl, ht⟩ := h
  exact ht

theorem ok_refuse {o s : State} (h : Ok o s) {a1 : Nat} {a2 : Nat} {a3 : Nat} : Ok o (State.refuse s a1 a2 a3) := by
  unfold State.refuse
  repeat' (first | with_reducible assumption | (fail_if_no_progress (extract_lets +onlyGivenNames x); first | (refine ok_have x ?_ ?_; on_goal 1 => subst x; on_goal 2 => (clear_value x; intro _)) | skip) | with_reducible refine ok_setF ?_ | with_reducible refine ok_ite ?_ ?_ | with_reducible refine ok_foldl ?_ ?_ | intro _ | extract_lets | split | (conv => arg 2; dsimp +zetaDelta only))

theorem ok_portClr {o s : State} (h : Ok o s) {a1 : List Nat} : Ok o (State.portClr s a1) := by
  unfold State.portClr
  repeat' (first | with_reducible assumption | (fail_if_no_progress (extract_lets +onlyGivenNames x); first | (refine ok_have x ?_ ?_; on_goal 1 => subst x; on_goal 2 => (clear_value x; intro _)) | skip) | with_reducible refine ok_setReg ?_ | with_reducible refine ok_ite ?_ ?_ | with_reducible refine ok_foldl ?_ ?_ | intro _ | extract_lets | split | (conv => arg 2; dsimp +zetaDelta only))

theorem ok_slotCtrl {o s : State} (h : Ok o s) {a1 : Nat} {a2 : Word} : Ok o (State.slotCtrl s a1 a2) := by
  unfold State.slotCtrl
  repeat' (first | with_reducible assumption | (fail_if_no_progress (extract_lets +onlyGivenNames x); first | (refine ok_have x ?_ ?_; on_goal 1 => subst x; on_goal 2 => (clear_value x; intro _)) | skip) | with_reducible refine ok_bankCopy ?_ | with_reducible refine ok_swapReq ?_ | with_reducible refine ok_stateClr ?_ | with_reducible refine ok_ite ?_ ?_ | with_reducible refine ok_foldl ?_ ?_ | intro _ | extract_lets | split | (conv => arg 2; dsimp +zetaDelta only))

theorem ok_wordActs {o s : State} (h : Ok o s) {a1 : Requester} {a2 : PageKind} {a3 : Nat} {a4 : Nat} {a5 : Nat} {a6 : Word} {a7 : Word} : Ok o (State.wordActs s a1 a2 a3 a4 a5 a6 a7) := by
  unfold State.wordActs
  repeat' (first | with_reducible assumption | (fail_if_no_progress (extract_lets +onlyGivenNames x); first | (refine ok_have x ?_ ?_; on_goal 1 => subst x; on_goal 2 => (clear_value x; intro _)) | skip) | with_reducible refine ok_modeCtrl ?_ | with_reducible refine ok_fcolAck ?_ | with_reducible refine ok_unfence ?_ | with_reducible refine ok_injGo ?_ | with_reducible refine ok_tcGo ?_ | with_reducible refine ok_cairnClear ?_ | with_reducible refine ok_psCommand ?_ | with_reducible refine ok_imgCommand ?_ | with_reducible refine ok_imgData ?_ | with_reducible refine ok_pairCmd ?_ | with_reducible refine ok_ridgeCntClr ?_ | with_reducible refine ok_sdmaDo ?_ | with_reducible refine ok_yportCntClr ?_ | with_reducible refine ok_mbxGo ?_ | with_reducible refine ok_updPort ?_ | with_reducible refine ok_sampleCntClr ?_ | with_reducible refine ok_setF ?_ | with_reducible refine ok_vceClr ?_ | with_reducible refine ok_slotCtrl ?_ | with_reducible refine ok_regModeSet ?_ | with_reducible refine ok_cnCancel ?_ | with_reducible refine ok_cnBackoffClr ?_ | with_reducible refine ok_cnCntClr ?_ | with_reducible refine ok_huRelease ?_ | with_reducible refine ok_railPrepGo ?_ | with_reducible refine ok_latchClr ?_ | with_reducible refine ok_gfClr ?_ | with_reducible refine ok_seqCntClr ?_ | with_reducible refine ok_grpCmd ?_ | with_reducible refine ok_estInit ?_ | with_reducible refine ok_resetCells ?_ | with_reducible refine ok_later ?_ | with_reducible refine ok_portClr ?_ | with_reducible refine ok_pmbMailbox ?_ | with_reducible refine ok_forAll ?_ ?_ | with_reducible refine ok_ite ?_ ?_ | with_reducible refine ok_foldl ?_ ?_ | intro _ | extract_lets | split | (conv => arg 2; dsimp +zetaDelta only))

theorem okE_writeWord {o s : State} (h : Ok o s) {a1 : Requester} {a2 a3 : Nat} {a4 : Word} : OkE o (State.writeWord s a1 a2 a3 a4) := by
  unfold State.writeWord
  split
  · exact okE_ok h
  · refine okE_ite ?_ (okE_ite (okE_ok (ok_ite (ok_setF (ok_setF (ok_setF h))) h)) (okE_ite (okE_ok (ok_countChg (ok_ite h (ok_ownerWrite h)))) ?_))
    · split
      · next e => exact okE_ok (ok_countChg (okE_ctrlWrite h _ e))
      · exact okE_error
    · split
      · exact okE_ok h
      · exact okE_ite okE_error (okE_ite okE_error (okE_ite okE_error (okE_ok (ok_wordActs (ok_countChg (ok_noteLate (ok_setReg h)))))))

theorem ok_writeWords {o : State} {a0 : Requester} {a1 : Nat} {a2 : Nat} {a3 : List Word} {s : State} (h : Ok o s) :
    Ok o (State.writeWords a0 a1 a2 a3 s).2.2 := by
  induction a3 generalizing a2 s with
  | nil => exact h
  | cons v l ih =>
    unfold State.writeWords
    split
    · exact ok_refuse h
    · next e => exact ih (okE_writeWord h _ e)

theorem ok_imgWrite {o s : State} (h : Ok o s) {a1 : Requester} {a2 : Nat} {a3 : List Word} : Ok o (State.imgWrite s a1 a2 a3) := by
  unfold State.imgWrite
  repeat' (first | with_reducible assumption | (fail_if_no_progress (extract_lets +onlyGivenNames x); first | (refine ok_have x ?_ ?_; on_goal 1 => subst x; on_goal 2 => (clear_value x; intro _)) | skip) | with_reducible refine ok_countChg ?_ | with_reducible refine ok_writeWords ?_ | with_reducible refine ok_writeWords_eq ?_ ‹_› | with_reducible refine ok_imgData ?_ | with_reducible refine ok_ite ?_ ?_ | with_reducible refine ok_foldl ?_ ?_ | intro _ | extract_lets | split | (conv => arg 2; dsimp +zetaDelta only))

theorem ok_writeTx {o s : State} (h : Ok o s) {a1 : Requester} {a2 : Nat} {a3 : List Word} : Ok o (State.writeTx s a1 a2 a3).2.2 := by
  unfold State.writeTx
  split
  · exact h
  · extract_lets p q at_ s1 x u d
    have h1 : Ok o s1 := ok_ownerTouch h
    clear_value s1
    have hx : Ok o x.2.2 := ok_writeWords h1
    clear_value x
    split
    · exact ok_refuse h
    · exact ok_ite_snd (ok_imgWrite h1) (ok_ite_snd (ok_mk hx rfl) hx)

theorem ok_readTx {o s : State} (h : Ok o s) {a1 : Requester} {a2 a3 : Nat} : Ok o (State.readTx s a1 a2 a3).2.2.2 := by
  unfold State.readTx
  split
  · exact h
  · exact ok_readWords (ok_ownerTouch h)

theorem ok_hostWrite {o s : State} (h : Ok o s) {a1 : Requester} {a2 : Nat} {a3 : Word} : Ok o (State.hostWrite s a1 a2 a3) := by
  unfold State.hostWrite
  exact ok_ite (ok_writeTx h) h

theorem ok_wordWrite {o s : State} (h : Ok o s) {a0 : Requester} {a1 : Nat} {a2 : Nat} : OkO o (wordWrite a0 a1 a2 s) := by
  unfold wordWrite
  repeat' (first | with_reducible assumption | (fail_if_no_progress (extract_lets +onlyGivenNames x); first | (refine okO_have x ?_ ?_; on_goal 1 => subst x; on_goal 2 => (clear_value x; intro _)) | skip) | with_reducible refine ok_hostWrite ?_ | with_reducible refine ok_ite ?_ ?_ | with_reducible refine okO_ite ?_ ?_ | with_reducible refine okO_next ?_ | with_reducible refine ok_foldl ?_ ?_ | intro _ | extract_lets | split | (conv => arg 2; dsimp +zetaDelta only))

theorem ok_execModeCtrlDormant {o s : State} (h : Ok o s) {a0 : Requester} {a1 : Byte} : OkO o (execModeCtrlDormant a0 a1 s) := by
  unfold execModeCtrlDormant
  repeat' (first | with_reducible assumption | (fail_if_no_progress (extract_lets +onlyGivenNames x); first | (refine okO_have x ?_ ?_; on_goal 1 => subst x; on_goal 2 => (clear_value x; intro _)) | skip) | with_reducible refine ok_wordWrite ?_ | with_reducible refine ok_ite ?_ ?_ | with_reducible refine okO_ite ?_ ?_ | with_reducible refine okO_next ?_ | with_reducible refine ok_foldl ?_ ?_ | intro _ | extract_lets | split | (conv => arg 2; dsimp +zetaDelta only))

theorem ok_execModeCtrlShip {o s : State} (h : Ok o s) {a0 : Requester} {a1 : Byte} : OkO o (execModeCtrlShip a0 a1 s) := by
  unfold execModeCtrlShip
  repeat' (first | with_reducible assumption | (fail_if_no_progress (extract_lets +onlyGivenNames x); first | (refine okO_have x ?_ ?_; on_goal 1 => subst x; on_goal 2 => (clear_value x; intro _)) | skip) | with_reducible refine ok_wordWrite ?_ | with_reducible refine ok_ite ?_ ?_ | with_reducible refine okO_ite ?_ ?_ | with_reducible refine okO_next ?_ | with_reducible refine ok_foldl ?_ ?_ | intro _ | extract_lets | split | (conv => arg 2; dsimp +zetaDelta only))

theorem ok_execServiceEnter {o s : State} (h : Ok o s) {a0 : Requester} {a1 : Byte} : OkO o (execServiceEnter a0 a1 s) := by
  unfold execServiceEnter
  repeat' (first | with_reducible assumption | (fail_if_no_progress (extract_lets +onlyGivenNames x); first | (refine okO_have x ?_ ?_; on_goal 1 => subst x; on_goal 2 => (clear_value x; intro _)) | skip) | with_reducible refine ok_wordWrite ?_ | with_reducible refine ok_ite ?_ ?_ | with_reducible refine okO_ite ?_ ?_ | with_reducible refine okO_next ?_ | with_reducible refine ok_foldl ?_ ?_ | intro _ | extract_lets | split | (conv => arg 2; dsimp +zetaDelta only))

theorem ok_execServiceExit {o s : State} (h : Ok o s) {a0 : Requester} {a1 : Byte} : OkO o (execServiceExit a0 a1 s) := by
  unfold execServiceExit
  repeat' (first | with_reducible assumption | (fail_if_no_progress (extract_lets +onlyGivenNames x); first | (refine okO_have x ?_ ?_; on_goal 1 => subst x; on_goal 2 => (clear_value x; intro _)) | skip) | with_reducible refine ok_wordWrite ?_ | with_reducible refine ok_ite ?_ ?_ | with_reducible refine okO_ite ?_ ?_ | with_reducible refine okO_next ?_ | with_reducible refine ok_foldl ?_ ?_ | intro _ | extract_lets | split | (conv => arg 2; dsimp +zetaDelta only))

theorem ok_execInhibitClr {o s : State} (h : Ok o s) {a0 : Requester} {a1 : Byte} : OkO o (execInhibitClr a0 a1 s) := by
  unfold execInhibitClr
  repeat' (first | with_reducible assumption | (fail_if_no_progress (extract_lets +onlyGivenNames x); first | (refine okO_have x ?_ ?_; on_goal 1 => subst x; on_goal 2 => (clear_value x; intro _)) | skip) | with_reducible refine ok_wordWrite ?_ | with_reducible refine ok_ite ?_ ?_ | with_reducible refine okO_ite ?_ ?_ | with_reducible refine okO_next ?_ | with_reducible refine ok_foldl ?_ ?_ | intro _ | extract_lets | split | (conv => arg 2; dsimp +zetaDelta only))

theorem ok_execModeCtrlReset {o s : State} (h : Ok o s) {a0 : Requester} {a1 : Byte} : OkO o (execModeCtrlReset a0 a1 s) := by
  unfold execModeCtrlReset
  repeat' (first | with_reducible assumption | (fail_if_no_progress (extract_lets +onlyGivenNames x); first | (refine okO_have x ?_ ?_; on_goal 1 => subst x; on_goal 2 => (clear_value x; intro _)) | skip) | with_reducible refine ok_wordWrite ?_ | with_reducible refine ok_ite ?_ ?_ | with_reducible refine okO_ite ?_ ?_ | with_reducible refine okO_next ?_ | with_reducible refine ok_foldl ?_ ?_ | intro _ | extract_lets | split | (conv => arg 2; dsimp +zetaDelta only))

theorem ok_execEststrReinit {o s : State} (h : Ok o s) {a0 : Requester} {a1 : Fin 24} {a2 : Fin 32} : OkO o (execEststrReinit a0 a1 a2 s) := by
  unfold execEststrReinit
  repeat' (first | with_reducible assumption | (fail_if_no_progress (extract_lets +onlyGivenNames x); first | (refine okO_have x ?_ ?_; on_goal 1 => subst x; on_goal 2 => (clear_value x; intro _)) | skip) | with_reducible refine ok_wordWrite ?_ | with_reducible refine ok_ite ?_ ?_ | with_reducible refine okO_ite ?_ ?_ | with_reducible refine okO_next ?_ | with_reducible refine ok_foldl ?_ ?_ | intro _ | extract_lets | split | (conv => arg 2; dsimp +zetaDelta only))

theorem ok_execEststrResetCap {o s : State} (h : Ok o s) {a0 : Requester} {a1 : Fin 24} {a2 : Fin 32} : OkO o (execEststrResetCap a0 a1 a2 s) := by
  unfold execEststrResetCap
  repeat' (first | with_reducible assumption | (fail_if_no_progress (extract_lets +onlyGivenNames x); first | (refine okO_have x ?_ ?_; on_goal 1 => subst x; on_goal 2 => (clear_value x; intro _)) | skip) | with_reducible refine ok_wordWrite ?_ | with_reducible refine ok_ite ?_ ?_ | with_reducible refine okO_ite ?_ ?_ | with_reducible refine okO_next ?_ | with_reducible refine ok_foldl ?_ ?_ | intro _ | extract_lets | split | (conv => arg 2; dsimp +zetaDelta only))

theorem ok_execEstwinSelect {o s : State} (h : Ok o s) {a0 : Requester} {a1 : Word} : OkO o (execEstwinSelect a0 a1 s) := by
  unfold execEstwinSelect
  repeat' (first | with_reducible assumption | (fail_if_no_progress (extract_lets +onlyGivenNames x); first | (refine okO_have x ?_ ?_; on_goal 1 => subst x; on_goal 2 => (clear_value x; intro _)) | skip) | with_reducible refine ok_wordWrite ?_ | with_reducible refine ok_ite ?_ ?_ | with_reducible refine okO_ite ?_ ?_ | with_reducible refine okO_next ?_ | with_reducible refine ok_foldl ?_ ?_ | intro _ | extract_lets | split | (conv => arg 2; dsimp +zetaDelta only))

theorem ok_execPgCtrlRun {o s : State} (h : Ok o s) {a0 : Requester} {a1 : PageNo} : OkO o (execPgCtrlRun a0 a1 s) := by
  unfold execPgCtrlRun
  repeat' (first | with_reducible assumption | (fail_if_no_progress (extract_lets +onlyGivenNames x); first | (refine okO_have x ?_ ?_; on_goal 1 => subst x; on_goal 2 => (clear_value x; intro _)) | skip) | with_reducible refine ok_wordWrite ?_ | with_reducible refine ok_ite ?_ ?_ | with_reducible refine okO_ite ?_ ?_ | with_reducible refine okO_next ?_ | with_reducible refine ok_foldl ?_ ?_ | intro _ | extract_lets | split | (conv => arg 2; dsimp +zetaDelta only))

theorem ok_execPgCtrlStopReq {o s : State} (h : Ok o s) {a0 : Requester} {a1 : PageNo} : OkO o (execPgCtrlStopReq a0 a1 s) := by
  unfold execPgCtrlStopReq
  repeat' (first | with_reducible assumption | (fail_if_no_progress (extract_lets +onlyGivenNames x); first | (refine okO_have x ?_ ?_; on_goal 1 => subst x; on_goal 2 => (clear_value x; intro _)) | skip) | with_reducible refine ok_wordWrite ?_ | with_reducible refine ok_ite ?_ ?_ | with_reducible refine okO_ite ?_ ?_ | with_reducible refine okO_next ?_ | with_reducible refine ok_foldl ?_ ?_ | intro _ | extract_lets | split | (conv => arg 2; dsimp +zetaDelta only))

theorem ok_execPgCtrlFenceClr {o s : State} (h : Ok o s) {a0 : Requester} {a1 : PageNo} : OkO o (execPgCtrlFenceClr a0 a1 s) := by
  unfold execPgCtrlFenceClr
  repeat' (first | with_reducible assumption | (fail_if_no_progress (extract_lets +onlyGivenNames x); first | (refine okO_have x ?_ ?_; on_goal 1 => subst x; on_goal 2 => (clear_value x; intro _)) | skip) | with_reducible refine ok_wordWrite ?_ | with_reducible refine ok_ite ?_ ?_ | with_reducible refine okO_ite ?_ ?_ | with_reducible refine okO_next ?_ | with_reducible refine ok_foldl ?_ ?_ | intro _ | extract_lets | split | (conv => arg 2; dsimp +zetaDelta only))

theorem ok_execPgOwnerWrite {o s : State} (h : Ok o s) {a0 : Requester} {a1 : PageNo} {a2 : Half} : OkO o (execPgOwnerWrite a0 a1 a2 s) := by
  unfold execPgOwnerWrite
  repeat' (first | with_reducible assumption | (fail_if_no_progress (extract_lets +onlyGivenNames x); first | (refine okO_have x ?_ ?_; on_goal 1 => subst x; on_goal 2 => (clear_value x; intro _)) | skip) | with_reducible refine ok_wordWrite ?_ | with_reducible refine ok_ite ?_ ?_ | with_reducible refine okO_ite ?_ ?_ | with_reducible refine okO_next ?_ | with_reducible refine ok_foldl ?_ ?_ | intro _ | extract_lets | split | (conv => arg 2; dsimp +zetaDelta only))

theorem ok_execRegisterWrite {o s : State} (h : Ok o s) {a0 : Requester} {a1 : BitVec 24} {a2 : Word} : OkO o (execRegisterWrite a0 a1 a2 s) := by
  unfold execRegisterWrite
  repeat' (first | with_reducible assumption | (fail_if_no_progress (extract_lets +onlyGivenNames x); first | (refine okO_have x ?_ ?_; on_goal 1 => subst x; on_goal 2 => (clear_value x; intro _)) | skip) | with_reducible refine ok_wordWrite ?_ | with_reducible refine ok_ite ?_ ?_ | with_reducible refine okO_ite ?_ ?_ | with_reducible refine okO_next ?_ | with_reducible refine ok_foldl ?_ ?_ | intro _ | extract_lets | split | (conv => arg 2; dsimp +zetaDelta only))

theorem ok_execMbxGo {o s : State} (h : Ok o s) {a0 : Requester} {a1 : Fin 24} {a2 : Bool} {a3 : Fin 32} {a4 : Byte} {a5 : Half} : OkO o (execMbxGo a0 a1 a2 a3 a4 a5 s) := by
  unfold execMbxGo
  repeat' (first | with_reducible assumption | (fail_if_no_progress (extract_lets +onlyGivenNames x); first | (refine okO_have x ?_ ?_; on_goal 1 => subst x; on_goal 2 => (clear_value x; intro _)) | skip) | with_reducible refine ok_wordWrite ?_ | with_reducible refine ok_ite ?_ ?_ | with_reducible refine okO_ite ?_ ?_ | with_reducible refine okO_next ?_ | with_reducible refine ok_foldl ?_ ?_ | intro _ | extract_lets | split | (conv => arg 2; dsimp +zetaDelta only))

theorem ok_execYportCntClr {o s : State} (h : Ok o s) {a0 : Requester} {a1 : Fin 24} : OkO o (execYportCntClr a0 a1 s) := by
  unfold execYportCntClr
  repeat' (first | with_reducible assumption | (fail_if_no_progress (extract_lets +onlyGivenNames x); first | (refine okO_have x ?_ ?_; on_goal 1 => subst x; on_goal 2 => (clear_value x; intro _)) | skip) | with_reducible refine ok_wordWrite ?_ | with_reducible refine ok_ite ?_ ?_ | with_reducible refine okO_ite ?_ ?_ | with_reducible refine okO_next ?_ | with_reducible refine ok_foldl ?_ ?_ | intro _ | extract_lets | split | (conv => arg 2; dsimp +zetaDelta only))

theorem ok_execSampleCntClr {o s : State} (h : Ok o s) {a0 : Requester} : OkO o (execSampleCntClr a0 s) := by
  unfold execSampleCntClr
  repeat' (first | with_reducible assumption | (fail_if_no_progress (extract_lets +onlyGivenNames x); first | (refine okO_have x ?_ ?_; on_goal 1 => subst x; on_goal 2 => (clear_value x; intro _)) | skip) | with_reducible refine ok_wordWrite ?_ | with_reducible refine ok_ite ?_ ?_ | with_reducible refine okO_ite ?_ ?_ | with_reducible refine okO_next ?_ | with_reducible refine ok_foldl ?_ ?_ | intro _ | extract_lets | split | (conv => arg 2; dsimp +zetaDelta only))

theorem ok_execSwapReq {o s : State} (h : Ok o s) {a0 : Requester} {a1 : Fin 8} {a2 : Bool} : OkO o (execSwapReq a0 a1 a2 s) := by
  unfold execSwapReq
  repeat' (first | with_reducible assumption | (fail_if_no_progress (extract_lets +onlyGivenNames x); first | (refine okO_have x ?_ ?_; on_goal 1 => subst x; on_goal 2 => (clear_value x; intro _)) | skip) | with_reducible refine ok_wordWrite ?_ | with_reducible refine ok_ite ?_ ?_ | with_reducible refine okO_ite ?_ ?_ | with_reducible refine okO_next ?_ | with_reducible refine ok_foldl ?_ ?_ | intro _ | extract_lets | split | (conv => arg 2; dsimp +zetaDelta only))

theorem ok_execBankCopy {o s : State} (h : Ok o s) {a0 : Requester} {a1 : Fin 8} : OkO o (execBankCopy a0 a1 s) := by
  unfold execBankCopy
  repeat' (first | with_reducible assumption | (fail_if_no_progress (extract_lets +onlyGivenNames x); first | (refine okO_have x ?_ ?_; on_goal 1 => subst x; on_goal 2 => (clear_value x; intro _)) | skip) | with_reducible refine ok_wordWrite ?_ | with_reducible refine ok_ite ?_ ?_ | with_reducible refine okO_ite ?_ ?_ | with_reducible refine okO_next ?_ | with_reducible refine ok_foldl ?_ ?_ | intro _ | extract_lets | split | (conv => arg 2; dsimp +zetaDelta only))

theorem ok_execStateClr {o s : State} (h : Ok o s) {a0 : Requester} {a1 : Fin 64} : OkO o (execStateClr a0 a1 s) := by
  unfold execStateClr
  repeat' (first | with_reducible assumption | (fail_if_no_progress (extract_lets +onlyGivenNames x); first | (refine okO_have x ?_ ?_; on_goal 1 => subst x; on_goal 2 => (clear_value x; intro _)) | skip) | with_reducible refine ok_wordWrite ?_ | with_reducible refine ok_ite ?_ ?_ | with_reducible refine okO_ite ?_ ?_ | with_reducible refine okO_next ?_ | with_reducible refine ok_foldl ?_ ?_ | intro _ | extract_lets | split | (conv => arg 2; dsimp +zetaDelta only))

theorem ok_execSlotModeWrite {o s : State} (h : Ok o s) {a0 : Requester} {a1 : Fin 64} {a2 : BitVec 2} {a3 : Fin 64} : OkO o (execSlotModeWrite a0 a1 a2 a3 s) := by
  unfold execSlotModeWrite
  repeat' (first | with_reducible assumption | (fail_if_no_progress (extract_lets +onlyGivenNames x); first | (refine okO_have x ?_ ?_; on_goal 1 => subst x; on_goal 2 => (clear_value x; intro _)) | skip) | with_reducible refine ok_wordWrite ?_ | with_reducible refine ok_ite ?_ ?_ | with_reducible refine okO_ite ?_ ?_ | with_reducible refine okO_next ?_ | with_reducible refine ok_foldl ?_ ?_ | intro _ | extract_lets | split | (conv => arg 2; dsimp +zetaDelta only))

theorem ok_execHandoverGo {o s : State} (h : Ok o s) {a0 : Requester} {a1 : Fin 64} {a2 : Fin 64} : OkO o (execHandoverGo a0 a1 a2 s) := by
  unfold execHandoverGo
  repeat' (first | with_reducible assumption | (fail_if_no_progress (extract_lets +onlyGivenNames x); first | (refine okO_have x ?_ ?_; on_goal 1 => subst x; on_goal 2 => (clear_value x; intro _)) | skip) | with_reducible refine ok_wordWrite ?_ | with_reducible refine ok_ite ?_ ?_ | with_reducible refine okO_ite ?_ ?_ | with_reducible refine okO_next ?_ | with_reducible refine ok_foldl ?_ ?_ | intro _ | extract_lets | split | (conv => arg 2; dsimp +zetaDelta only))

theorem ok_execVceCtrlClr {o s : State} (h : Ok o s) {a0 : Requester} : OkO o (execVceCtrlClr a0 s) := by
  unfold execVceCtrlClr
  repeat' (first | with_reducible assumption | (fail_if_no_progress (extract_lets +onlyGivenNames x); first | (refine okO_have x ?_ ?_; on_goal 1 => subst x; on_goal 2 => (clear_value x; intro _)) | skip) | with_reducible refine ok_wordWrite ?_ | with_reducible refine ok_ite ?_ ?_ | with_reducible refine okO_ite ?_ ?_ | with_reducible refine okO_next ?_ | with_reducible refine ok_foldl ?_ ?_ | intro _ | extract_lets | split | (conv => arg 2; dsimp +zetaDelta only))

theorem ok_execRegModeWrite {o s : State} (h : Ok o s) {a0 : Requester} {a1 : Bool} : OkO o (execRegModeWrite a0 a1 s) := by
  unfold execRegModeWrite
  repeat' (first | with_reducible assumption | (fail_if_no_progress (extract_lets +onlyGivenNames x); first | (refine okO_have x ?_ ?_; on_goal 1 => subst x; on_goal 2 => (clear_value x; intro _)) | skip) | with_reducible refine ok_wordWrite ?_ | with_reducible refine ok_ite ?_ ?_ | with_reducible refine okO_ite ?_ ?_ | with_reducible refine okO_next ?_ | with_reducible refine ok_foldl ?_ ?_ | intro _ | extract_lets | split | (conv => arg 2; dsimp +zetaDelta only))

theorem ok_execHoldupReleaseWrite {o s : State} (h : Ok o s) {a0 : Requester} : OkO o (execHoldupReleaseWrite a0 s) := by
  unfold execHoldupReleaseWrite
  repeat' (first | with_reducible assumption | (fail_if_no_progress (extract_lets +onlyGivenNames x); first | (refine okO_have x ?_ ?_; on_goal 1 => subst x; on_goal 2 => (clear_value x; intro _)) | skip) | with_reducible refine ok_wordWrite ?_ | with_reducible refine ok_ite ?_ ?_ | with_reducible refine okO_ite ?_ ?_ | with_reducible refine okO_next ?_ | with_reducible refine ok_foldl ?_ ?_ | intro _ | extract_lets | split | (conv => arg 2; dsimp +zetaDelta only))

theorem ok_execCnCancel {o s : State} (h : Ok o s) {a0 : Requester} : OkO o (execCnCancel a0 s) := by
  unfold execCnCancel
  repeat' (first | with_reducible assumption | (fail_if_no_progress (extract_lets +onlyGivenNames x); first | (refine okO_have x ?_ ?_; on_goal 1 => subst x; on_goal 2 => (clear_value x; intro _)) | skip) | with_reducible refine ok_wordWrite ?_ | with_reducible refine ok_ite ?_ ?_ | with_reducible refine okO_ite ?_ ?_ | with_reducible refine okO_next ?_ | with_reducible refine ok_foldl ?_ ?_ | intro _ | extract_lets | split | (conv => arg 2; dsimp +zetaDelta only))

theorem ok_execCnBackoffClr {o s : State} (h : Ok o s) {a0 : Requester} : OkO o (execCnBackoffClr a0 s) := by
  unfold execCnBackoffClr
  repeat' (first | with_reducible assumption | (fail_if_no_progress (extract_lets +onlyGivenNames x); first | (refine okO_have x ?_ ?_; on_goal 1 => subst x; on_goal 2 => (clear_value x; intro _)) | skip) | with_reducible refine ok_wordWrite ?_ | with_reducible refine ok_ite ?_ ?_ | with_reducible refine okO_ite ?_ ?_ | with_reducible refine okO_next ?_ | with_reducible refine ok_foldl ?_ ?_ | intro _ | extract_lets | split | (conv => arg 2; dsimp +zetaDelta only))

theorem ok_execCorniceCntClr {o s : State} (h : Ok o s) {a0 : Requester} : OkO o (execCorniceCntClr a0 s) := by
  unfold execCorniceCntClr
  repeat' (first | with_reducible assumption | (fail_if_no_progress (extract_lets +onlyGivenNames x); first | (refine okO_have x ?_ ?_; on_goal 1 => subst x; on_goal 2 => (clear_value x; intro _)) | skip) | with_reducible refine ok_wordWrite ?_ | with_reducible refine ok_ite ?_ ?_ | with_reducible refine okO_ite ?_ ?_ | with_reducible refine okO_next ?_ | with_reducible refine ok_foldl ?_ ?_ | intro _ | extract_lets | split | (conv => arg 2; dsimp +zetaDelta only))

theorem ok_execRailPrepGo {o s : State} (h : Ok o s) {a0 : Requester} {a1 : Fin 8} {a2 : BitVec 5} {a3 : Half} : OkO o (execRailPrepGo a0 a1 a2 a3 s) := by
  unfold execRailPrepGo
  repeat' (first | with_reducible assumption | (fail_if_no_progress (extract_lets +onlyGivenNames x); first | (refine okO_have x ?_ ?_; on_goal 1 => subst x; on_goal 2 => (clear_value x; intro _)) | skip) | with_reducible refine ok_wordWrite ?_ | with_reducible refine ok_ite ?_ ?_ | with_reducible refine okO_ite ?_ ?_ | with_reducible refine okO_next ?_ | with_reducible refine ok_foldl ?_ ?_ | intro _ | extract_lets | split | (conv => arg 2; dsimp +zetaDelta only))

theorem ok_execLatchClr {o s : State} (h : Ok o s) {a0 : Requester} {a1 : Fin 8} : OkO o (execLatchClr a0 a1 s) := by
  unfold execLatchClr
  repeat' (first | with_reducible assumption | (fail_if_no_progress (extract_lets +onlyGivenNames x); first | (refine okO_have x ?_ ?_; on_goal 1 => subst x; on_goal 2 => (clear_value x; intro _)) | skip) | with_reducible refine ok_wordWrite ?_ | with_reducible refine ok_ite ?_ ?_ | with_reducible refine okO_ite ?_ ?_ | with_reducible refine okO_next ?_ | with_reducible refine ok_foldl ?_ ?_ | intro _ | extract_lets | split | (conv => arg 2; dsimp +zetaDelta only))

theorem ok_execGfClr {o s : State} (h : Ok o s) {a0 : Requester} {a1 : Fin 8} : OkO o (execGfClr a0 a1 s) := by
  unfold execGfClr
  repeat' (first | with_reducible assumption | (fail_if_no_progress (extract_lets +onlyGivenNames x); first | (refine okO_have x ?_ ?_; on_goal 1 => subst x; on_goal 2 => (clear_value x; intro _)) | skip) | with_reducible refine ok_wordWrite ?_ | with_reducible refine ok_ite ?_ ?_ | with_reducible refine okO_ite ?_ ?_ | with_reducible refine okO_next ?_ | with_reducible refine ok_foldl ?_ ?_ | intro _ | extract_lets | split | (conv => arg 2; dsimp +zetaDelta only))

theorem ok_execGrpCmdUp {o s : State} (h : Ok o s) {a0 : Requester} {a1 : Fin 4} : OkO o (execGrpCmdUp a0 a1 s) := by
  unfold execGrpCmdUp
  repeat' (first | with_reducible assumption | (fail_if_no_progress (extract_lets +onlyGivenNames x); first | (refine okO_have x ?_ ?_; on_goal 1 => subst x; on_goal 2 => (clear_value x; intro _)) | skip) | with_reducible refine ok_wordWrite ?_ | with_reducible refine ok_ite ?_ ?_ | with_reducible refine okO_ite ?_ ?_ | with_reducible refine okO_next ?_ | with_reducible refine ok_foldl ?_ ?_ | intro _ | extract_lets | split | (conv => arg 2; dsimp +zetaDelta only))

theorem ok_execGrpCmdDown {o s : State} (h : Ok o s) {a0 : Requester} {a1 : Fin 4} : OkO o (execGrpCmdDown a0 a1 s) := by
  unfold execGrpCmdDown
  repeat' (first | with_reducible assumption | (fail_if_no_progress (extract_lets +onlyGivenNames x); first | (refine okO_have x ?_ ?_; on_goal 1 => subst x; on_goal 2 => (clear_value x; intro _)) | skip) | with_reducible refine ok_wordWrite ?_ | with_reducible refine ok_ite ?_ ?_ | with_reducible refine okO_ite ?_ ?_ | with_reducible refine okO_next ?_ | with_reducible refine ok_foldl ?_ ?_ | intro _ | extract_lets | split | (conv => arg 2; dsimp +zetaDelta only))

theorem ok_execSeqCntClr {o s : State} (h : Ok o s) {a0 : Requester} : OkO o (execSeqCntClr a0 s) := by
  unfold execSeqCntClr
  repeat' (first | with_reducible assumption | (fail_if_no_progress (extract_lets +onlyGivenNames x); first | (refine okO_have x ?_ ?_; on_goal 1 => subst x; on_goal 2 => (clear_value x; intro _)) | skip) | with_reducible refine ok_wordWrite ?_ | with_reducible refine ok_ite ?_ ?_ | with_reducible refine okO_ite ?_ ?_ | with_reducible refine okO_next ?_ | with_reducible refine ok_foldl ?_ ?_ | intro _ | extract_lets | split | (conv => arg 2; dsimp +zetaDelta only))

theorem ok_execFcolActClear {o s : State} (h : Ok o s) {a0 : Requester} {a1 : Fin 8} {a2 : Word} : OkO o (execFcolActClear a0 a1 a2 s) := by
  unfold execFcolActClear
  repeat' (first | with_reducible assumption | (fail_if_no_progress (extract_lets +onlyGivenNames x); first | (refine okO_have x ?_ ?_; on_goal 1 => subst x; on_goal 2 => (clear_value x; intro _)) | skip) | with_reducible refine ok_wordWrite ?_ | with_reducible refine ok_ite ?_ ?_ | with_reducible refine okO_ite ?_ ?_ | with_reducible refine okO_next ?_ | with_reducible refine ok_foldl ?_ ?_ | intro _ | extract_lets | split | (conv => arg 2; dsimp +zetaDelta only))

theorem ok_execFcolAck {o s : State} (h : Ok o s) {a0 : Requester} : OkO o (execFcolAck a0 s) := by
  unfold execFcolAck
  repeat' (first | with_reducible assumption | (fail_if_no_progress (extract_lets +onlyGivenNames x); first | (refine okO_have x ?_ ?_; on_goal 1 => subst x; on_goal 2 => (clear_value x; intro _)) | skip) | with_reducible refine ok_wordWrite ?_ | with_reducible refine ok_ite ?_ ?_ | with_reducible refine okO_ite ?_ ?_ | with_reducible refine okO_next ?_ | with_reducible refine ok_foldl ?_ ?_ | intro _ | extract_lets | split | (conv => arg 2; dsimp +zetaDelta only))

theorem ok_execUnfence {o s : State} (h : Ok o s) {a0 : Requester} {a1 : BitVec 4} {a2 : BitVec 6} : OkO o (execUnfence a0 a1 a2 s) := by
  unfold execUnfence
  repeat' (first | with_reducible assumption | (fail_if_no_progress (extract_lets +onlyGivenNames x); first | (refine okO_have x ?_ ?_; on_goal 1 => subst x; on_goal 2 => (clear_value x; intro _)) | skip) | with_reducible refine ok_wordWrite ?_ | with_reducible refine ok_ite ?_ ?_ | with_reducible refine okO_ite ?_ ?_ | with_reducible refine okO_next ?_ | with_reducible refine ok_foldl ?_ ?_ | intro _ | extract_lets | split | (conv => arg 2; dsimp +zetaDelta only))

theorem ok_execInjStart {o s : State} (h : Ok o s) {a0 : Requester} {a1 : Bool} {a2 : BitVec 4} {a3 : BitVec 5} {a4 : Byte} : OkO o (execInjStart a0 a1 a2 a3 a4 s) := by
  unfold execInjStart
  repeat' (first | with_reducible assumption | (fail_if_no_progress (extract_lets +onlyGivenNames x); first | (refine okO_have x ?_ ?_; on_goal 1 => subst x; on_goal 2 => (clear_value x; intro _)) | skip) | with_reducible refine ok_wordWrite ?_ | with_reducible refine ok_ite ?_ ?_ | with_reducible refine okO_ite ?_ ?_ | with_reducible refine okO_next ?_ | with_reducible refine ok_foldl ?_ ?_ | intro _ | extract_lets | split | (conv => arg 2; dsimp +zetaDelta only))

theorem ok_execInjCancel {o s : State} (h : Ok o s) {a0 : Requester} : OkO o (execInjCancel a0 s) := by
  unfold execInjCancel
  repeat' (first | with_reducible assumption | (fail_if_no_progress (extract_lets +onlyGivenNames x); first | (refine okO_have x ?_ ?_; on_goal 1 => subst x; on_goal 2 => (clear_value x; intro _)) | skip) | with_reducible refine ok_wordWrite ?_ | with_reducible refine ok_ite ?_ ?_ | with_reducible refine okO_ite ?_ ?_ | with_reducible refine okO_next ?_ | with_reducible refine ok_foldl ?_ ?_ | intro _ | extract_lets | split | (conv => arg 2; dsimp +zetaDelta only))

theorem ok_execPairCmdYield {o s : State} (h : Ok o s) {a0 : Requester} : OkO o (execPairCmdYield a0 s) := by
  unfold execPairCmdYield
  repeat' (first | with_reducible assumption | (fail_if_no_progress (extract_lets +onlyGivenNames x); first | (refine okO_have x ?_ ?_; on_goal 1 => subst x; on_goal 2 => (clear_value x; intro _)) | skip) | with_reducible refine ok_wordWrite ?_ | with_reducible refine ok_ite ?_ ?_ | with_reducible refine okO_ite ?_ ?_ | with_reducible refine okO_next ?_ | with_reducible refine ok_foldl ?_ ?_ | intro _ | extract_lets | split | (conv => arg 2; dsimp +zetaDelta only))

theorem ok_execPairCmdProof {o s : State} (h : Ok o s) {a0 : Requester} : OkO o (execPairCmdProof a0 s) := by
  unfold execPairCmdProof
  repeat' (first | with_reducible assumption | (fail_if_no_progress (extract_lets +onlyGivenNames x); first | (refine okO_have x ?_ ?_; on_goal 1 => subst x; on_goal 2 => (clear_value x; intro _)) | skip) | with_reducible refine ok_wordWrite ?_ | with_reducible refine ok_ite ?_ ?_ | with_reducible refine okO_ite ?_ ?_ | with_reducible refine okO_next ?_ | with_reducible refine ok_foldl ?_ ?_ | intro _ | extract_lets | split | (conv => arg 2; dsimp +zetaDelta only))

theorem ok_execRidgeCntClr {o s : State} (h : Ok o s) {a0 : Requester} : OkO o (execRidgeCntClr a0 s) := by
  unfold execRidgeCntClr
  repeat' (first | with_reducible assumption | (fail_if_no_progress (extract_lets +onlyGivenNames x); first | (refine okO_have x ?_ ?_; on_goal 1 => subst x; on_goal 2 => (clear_value x; intro _)) | skip) | with_reducible refine ok_wordWrite ?_ | with_reducible refine ok_ite ?_ ?_ | with_reducible refine okO_ite ?_ ?_ | with_reducible refine okO_next ?_ | with_reducible refine ok_foldl ?_ ?_ | intro _ | extract_lets | split | (conv => arg 2; dsimp +zetaDelta only))

theorem ok_execPsSave {o s : State} (h : Ok o s) {a0 : Requester} {a1 : Half} : OkO o (execPsSave a0 a1 s) := by
  unfold execPsSave
  repeat' (first | with_reducible assumption | (fail_if_no_progress (extract_lets +onlyGivenNames x); first | (refine okO_have x ?_ ?_; on_goal 1 => subst x; on_goal 2 => (clear_value x; intro _)) | skip) | with_reducible refine ok_wordWrite ?_ | with_reducible refine ok_ite ?_ ?_ | with_reducible refine okO_ite ?_ ?_ | with_reducible refine okO_next ?_ | with_reducible refine ok_foldl ?_ ?_ | intro _ | extract_lets | split | (conv => arg 2; dsimp +zetaDelta only))

theorem ok_execPsSaveAll {o s : State} (h : Ok o s) {a0 : Requester} : OkO o (execPsSaveAll a0 s) := by
  unfold execPsSaveAll
  repeat' (first | with_reducible assumption | (fail_if_no_progress (extract_lets +onlyGivenNames x); first | (refine okO_have x ?_ ?_; on_goal 1 => subst x; on_goal 2 => (clear_value x; intro _)) | skip) | with_reducible refine ok_wordWrite ?_ | with_reducible refine ok_ite ?_ ?_ | with_reducible refine okO_ite ?_ ?_ | with_reducible refine okO_next ?_ | with_reducible refine ok_foldl ?_ ?_ | intro _ | extract_lets | split | (conv => arg 2; dsimp +zetaDelta only))

theorem ok_execPsResetCfg {o s : State} (h : Ok o s) {a0 : Requester} {a1 : Half} : OkO o (execPsResetCfg a0 a1 s) := by
  unfold execPsResetCfg
  repeat' (first | with_reducible assumption | (fail_if_no_progress (extract_lets +onlyGivenNames x); first | (refine okO_have x ?_ ?_; on_goal 1 => subst x; on_goal 2 => (clear_value x; intro _)) | skip) | with_reducible refine ok_wordWrite ?_ | with_reducible refine ok_ite ?_ ?_ | with_reducible refine okO_ite ?_ ?_ | with_reducible refine okO_next ?_ | with_reducible refine ok_foldl ?_ ?_ | intro _ | extract_lets | split | (conv => arg 2; dsimp +zetaDelta only))

theorem ok_execPsVerify {o s : State} (h : Ok o s) {a0 : Requester} : OkO o (execPsVerify a0 s) := by
  unfold execPsVerify
  repeat' (first | with_reducible assumption | (fail_if_no_progress (extract_lets +onlyGivenNames x); first | (refine okO_have x ?_ ?_; on_goal 1 => subst x; on_goal 2 => (clear_value x; intro _)) | skip) | with_reducible refine ok_wordWrite ?_ | with_reducible refine ok_ite ?_ ?_ | with_reducible refine okO_ite ?_ ?_ | with_reducible refine okO_next ?_ | with_reducible refine ok_foldl ?_ ?_ | intro _ | extract_lets | split | (conv => arg 2; dsimp +zetaDelta only))

theorem ok_execCairnRdSeq {o s : State} (h : Ok o s) {a0 : Requester} {a1 : Word} : OkO o (execCairnRdSeq a0 a1 s) := by
  unfold execCairnRdSeq
  repeat' (first | with_reducible assumption | (fail_if_no_progress (extract_lets +onlyGivenNames x); first | (refine okO_have x ?_ ?_; on_goal 1 => subst x; on_goal 2 => (clear_value x; intro _)) | skip) | with_reducible refine ok_wordWrite ?_ | with_reducible refine ok_ite ?_ ?_ | with_reducible refine okO_ite ?_ ?_ | with_reducible refine okO_next ?_ | with_reducible refine ok_foldl ?_ ?_ | intro _ | extract_lets | split | (conv => arg 2; dsimp +zetaDelta only))

theorem ok_execTcCmdGo {o s : State} (h : Ok o s) {a0 : Requester} : OkO o (execTcCmdGo a0 s) := by
  unfold execTcCmdGo
  repeat' (first | with_reducible assumption | (fail_if_no_progress (extract_lets +onlyGivenNames x); first | (refine okO_have x ?_ ?_; on_goal 1 => subst x; on_goal 2 => (clear_value x; intro _)) | skip) | with_reducible refine ok_wordWrite ?_ | with_reducible refine ok_ite ?_ ?_ | with_reducible refine okO_ite ?_ ?_ | with_reducible refine okO_next ?_ | with_reducible refine ok_foldl ?_ ?_ | intro _ | extract_lets | split | (conv => arg 2; dsimp +zetaDelta only))

theorem ok_execCairnClear {o s : State} (h : Ok o s) {a0 : Requester} {a1 : Byte} : OkO o (execCairnClear a0 a1 s) := by
  unfold execCairnClear
  repeat' (first | with_reducible assumption | (fail_if_no_progress (extract_lets +onlyGivenNames x); first | (refine okO_have x ?_ ?_; on_goal 1 => subst x; on_goal 2 => (clear_value x; intro _)) | skip) | with_reducible refine ok_wordWrite ?_ | with_reducible refine ok_ite ?_ ?_ | with_reducible refine okO_ite ?_ ?_ | with_reducible refine okO_next ?_ | with_reducible refine ok_foldl ?_ ?_ | intro _ | extract_lets | split | (conv => arg 2; dsimp +zetaDelta only))

theorem ok_execPmbusMailboxGo {o s : State} (h : Ok o s) {a0 : Requester} {a1 : Bool} {a2 : Fin 32} {a3 : Byte} {a4 : Half} : OkO o (execPmbusMailboxGo a0 a1 a2 a3 a4 s) := by
  unfold execPmbusMailboxGo
  repeat' (first | with_reducible assumption | (fail_if_no_progress (extract_lets +onlyGivenNames x); first | (refine okO_have x ?_ ?_; on_goal 1 => subst x; on_goal 2 => (clear_value x; intro _)) | skip) | with_reducible refine ok_wordWrite ?_ | with_reducible refine ok_ite ?_ ?_ | with_reducible refine okO_ite ?_ ?_ | with_reducible refine okO_next ?_ | with_reducible refine ok_foldl ?_ ?_ | intro _ | extract_lets | split | (conv => arg 2; dsimp +zetaDelta only))

theorem ok_execImageBegin {o s : State} (h : Ok o s) {a0 : Requester} : OkO o (execImageBegin a0 s) := by
  unfold execImageBegin
  repeat' (first | with_reducible assumption | (fail_if_no_progress (extract_lets +onlyGivenNames x); first | (refine okO_have x ?_ ?_; on_goal 1 => subst x; on_goal 2 => (clear_value x; intro _)) | skip) | with_reducible refine ok_wordWrite ?_ | with_reducible refine ok_ite ?_ ?_ | with_reducible refine okO_ite ?_ ?_ | with_reducible refine okO_next ?_ | with_reducible refine ok_foldl ?_ ?_ | intro _ | extract_lets | split | (conv => arg 2; dsimp +zetaDelta only))

theorem ok_execImageAbort {o s : State} (h : Ok o s) {a0 : Requester} : OkO o (execImageAbort a0 s) := by
  unfold execImageAbort
  repeat' (first | with_reducible assumption | (fail_if_no_progress (extract_lets +onlyGivenNames x); first | (refine okO_have x ?_ ?_; on_goal 1 => subst x; on_goal 2 => (clear_value x; intro _)) | skip) | with_reducible refine ok_wordWrite ?_ | with_reducible refine ok_ite ?_ ?_ | with_reducible refine okO_ite ?_ ?_ | with_reducible refine okO_next ?_ | with_reducible refine ok_foldl ?_ ?_ | intro _ | extract_lets | split | (conv => arg 2; dsimp +zetaDelta only))

theorem ok_execActivate {o s : State} (h : Ok o s) {a0 : Requester} {a1 : Byte} : OkO o (execActivate a0 a1 s) := by
  unfold execActivate
  repeat' (first | with_reducible assumption | (fail_if_no_progress (extract_lets +onlyGivenNames x); first | (refine okO_have x ?_ ?_; on_goal 1 => subst x; on_goal 2 => (clear_value x; intro _)) | skip) | with_reducible refine ok_wordWrite ?_ | with_reducible refine ok_ite ?_ ?_ | with_reducible refine okO_ite ?_ ?_ | with_reducible refine okO_next ?_ | with_reducible refine ok_foldl ?_ ?_ | intro _ | extract_lets | split | (conv => arg 2; dsimp +zetaDelta only))

theorem ok_execConfirm {o s : State} (h : Ok o s) {a0 : Requester} {a1 : Byte} : OkO o (execConfirm a0 a1 s) := by
  unfold execConfirm
  repeat' (first | with_reducible assumption | (fail_if_no_progress (extract_lets +onlyGivenNames x); first | (refine okO_have x ?_ ?_; on_goal 1 => subst x; on_goal 2 => (clear_value x; intro _)) | skip) | with_reducible refine ok_wordWrite ?_ | with_reducible refine ok_ite ?_ ?_ | with_reducible refine okO_ite ?_ ?_ | with_reducible refine okO_next ?_ | with_reducible refine ok_foldl ?_ ?_ | intro _ | extract_lets | split | (conv => arg 2; dsimp +zetaDelta only))

theorem ok_execModeCtrlBadReq {o s : State} (h : Ok o s) {a0 : Requester} {a1 : Byte} {a2 : BitVec 4} : OkO o (execModeCtrlBadReq a0 a1 a2 s) := by
  unfold execModeCtrlBadReq
  repeat' (first | with_reducible assumption | (fail_if_no_progress (extract_lets +onlyGivenNames x); first | (refine okO_have x ?_ ?_; on_goal 1 => subst x; on_goal 2 => (clear_value x; intro _)) | skip) | with_reducible refine ok_wordWrite ?_ | with_reducible refine ok_ite ?_ ?_ | with_reducible refine okO_ite ?_ ?_ | with_reducible refine okO_next ?_ | with_reducible refine ok_foldl ?_ ?_ | intro _ | extract_lets | split | (conv => arg 2; dsimp +zetaDelta only))

theorem ok_execPortCntClr {o s : State} (h : Ok o s) {a0 : Requester} {a1 : PortPage} : OkO o (execPortCntClr a0 a1 s) := by
  unfold execPortCntClr
  repeat' (first | with_reducible assumption | (fail_if_no_progress (extract_lets +onlyGivenNames x); first | (refine okO_have x ?_ ?_; on_goal 1 => subst x; on_goal 2 => (clear_value x; intro _)) | skip) | with_reducible refine ok_wordWrite ?_ | with_reducible refine ok_ite ?_ ?_ | with_reducible refine okO_ite ?_ ?_ | with_reducible refine okO_next ?_ | with_reducible refine ok_foldl ?_ ?_ | intro _ | extract_lets | split | (conv => arg 2; dsimp +zetaDelta only))

theorem ok_execImgDataWrite {o s : State} (h : Ok o s) {a0 : Requester} {a1 : BitVec 24} {a2 : List Word} : OkO o (execImgDataWrite a0 a1 a2 s) := by
  unfold execImgDataWrite
  repeat' (first | with_reducible assumption | (fail_if_no_progress (extract_lets +onlyGivenNames x); first | (refine okO_have x ?_ ?_; on_goal 1 => subst x; on_goal 2 => (clear_value x; intro _)) | skip) | with_reducible refine ok_writeTx ?_ | with_reducible refine ok_writeTx_eq ?_ ‹_› | with_reducible refine ok_ite ?_ ?_ | with_reducible refine okO_ite ?_ ?_ | with_reducible refine okO_next ?_ | with_reducible refine ok_foldl ?_ ?_ | intro _ | extract_lets | split | (conv => arg 2; dsimp +zetaDelta only))

theorem ok_spiCount {o s : State} (h : Ok o s) {a1 : Nat} {a2 : Nat} {a3 : Bool} {a4 : List Byte} : Ok o (State.spiCount s a1 a2 a3 a4) := by
  unfold State.spiCount
  repeat' (first | with_reducible assumption | (fail_if_no_progress (extract_lets +onlyGivenNames x); first | (refine ok_have x ?_ ?_; on_goal 1 => subst x; on_goal 2 => (clear_value x; intro _)) | skip) | with_reducible refine ok_incSat ?_ | with_reducible refine ok_setF ?_ | with_reducible refine ok_raise ?_ | ((conv => arg 2; arg 27; skip); with_reducible refine ok_mk ?_ rfl) | with_reducible refine ok_ite ?_ ?_ | with_reducible refine ok_foldl ?_ ?_ | intro _ | extract_lets | split | (conv => arg 2; dsimp +zetaDelta only))

theorem ok_spiRead {o s : State} (h : Ok o s) {a1 a2 a3 : Nat} : Ok o (State.spiRead s a1 a2 a3) := by
  unfold State.spiRead
  exact ok_spiCount (ok_ite_thd h (ok_ite_thd h (ok_readTx h)))

theorem ok_spiWrite {o s : State} (h : Ok o s) {a1 a2 a3 : Nat} {a4 : List Word} {a5 : Nat} : Ok o (State.spiWrite s a1 a2 a3 a4 a5) := by
  unfold State.spiWrite
  refine ok_ite (ok_incSat h) ?_
  exact ok_ite (ok_ite_snd h (ok_ite_snd h (ok_writeTx h))) (ok_spiCount (ok_ite_snd h (ok_ite_snd h (ok_writeTx h))))

theorem ok_spiStatus {o s : State} (h : Ok o s) {a1 : Nat} {a2 : Nat} {a3 : Nat} : Ok o (State.spiStatus s a1 a2 a3) := by
  unfold State.spiStatus
  repeat' (first | with_reducible assumption | (fail_if_no_progress (extract_lets +onlyGivenNames x); first | (refine ok_have x ?_ ?_; on_goal 1 => subst x; on_goal 2 => (clear_value x; intro _)) | skip) | with_reducible refine ok_spiCount ?_ | with_reducible refine ok_ite ?_ ?_ | with_reducible refine ok_foldl ?_ ?_ | intro _ | extract_lets | split | (conv => arg 2; dsimp +zetaDelta only))

theorem ok_spiUnknown {o s : State} (h : Ok o s) {a1 : Nat} {a2 : Nat} {a3 : Nat} {a4 : Nat} : Ok o (State.spiUnknown s a1 a2 a3 a4) := by
  unfold State.spiUnknown
  repeat' (first | with_reducible assumption | (fail_if_no_progress (extract_lets +onlyGivenNames x); first | (refine ok_have x ?_ ?_; on_goal 1 => subst x; on_goal 2 => (clear_value x; intro _)) | skip) | with_reducible refine ok_spiCount ?_ | with_reducible refine ok_ite ?_ ?_ | with_reducible refine ok_foldl ?_ ?_ | intro _ | extract_lets | split | (conv => arg 2; dsimp +zetaDelta only))

theorem ok_pageServe {o s : State} (h : Ok o s) {a1 : Nat} {a2 : Requester} {a3 a4 a5 a6 : Nat} {a7 : List Word} {a8 : Nat} :
    Ok o (State.pageServe s a1 a2 a3 a4 a5 a6 a7 a8).2.2.2 := by
  unfold State.pageServe
  extract_lets n
  refine ok_ite_thd h (ok_ite_thd h (ok_ite_thd h (ok_ite_thd (ok_readTx h) (ok_ite_thd ?_ (ok_ite_thd h h)))))
  exact ok_writeTx h

theorem ok_pageServed {o s : State} (h : Ok o s) {a1 : MsgHead} {a2 a3 a4 a5 : Nat} {a6 : List Word} {a7 : Nat} :
    Ok o (State.pageServed s a1 a2 a3 a4 a5 a6 a7) := by
  unfold State.pageServed
  extract_lets p again
  clear_value again
  cases again with
  | some r => exact ok_sendTagged h
  | none => exact ok_ite (ok_pageServe h) (ok_sendTagged (ok_ite (ok_updMsg (ok_pageServe h)) (ok_pageServe h)))

theorem ok_execSpiRead {o s : State} (h : Ok o s) {a0 : BitVec 24} {a1 : Byte} {a2 : Byte} : OkO o (execSpiRead a0 a1 a2 s) := by
  unfold execSpiRead
  repeat' (first | with_reducible assumption | (fail_if_no_progress (extract_lets +onlyGivenNames x); first | (refine okO_have x ?_ ?_; on_goal 1 => subst x; on_goal 2 => (clear_value x; intro _)) | skip) | with_reducible refine ok_spiRead ?_ | with_reducible refine ok_ite ?_ ?_ | with_reducible refine okO_ite ?_ ?_ | with_reducible refine okO_next ?_ | with_reducible refine ok_foldl ?_ ?_ | intro _ | extract_lets | split | (conv => arg 2; dsimp +zetaDelta only))

theorem ok_execSpiWrite {o s : State} (h : Ok o s) {a0 : BitVec 24} {a1 : Byte} {a2 : Byte} {a3 : List Word} {a4 : Half} : OkO o (execSpiWrite a0 a1 a2 a3 a4 s) := by
  unfold execSpiWrite
  repeat' (first | with_reducible assumption | (fail_if_no_progress (extract_lets +onlyGivenNames x); first | (refine okO_have x ?_ ?_; on_goal 1 => subst x; on_goal 2 => (clear_value x; intro _)) | skip) | with_reducible refine ok_spiWrite ?_ | with_reducible refine ok_ite ?_ ?_ | with_reducible refine okO_ite ?_ ?_ | with_reducible refine okO_next ?_ | with_reducible refine ok_foldl ?_ ?_ | intro _ | extract_lets | split | (conv => arg 2; dsimp +zetaDelta only))

theorem ok_execSpiStatus {o s : State} (h : Ok o s) {a0 : BitVec 24} {a1 : Byte} {a2 : Byte} : OkO o (execSpiStatus a0 a1 a2 s) := by
  unfold execSpiStatus
  repeat' (first | with_reducible assumption | (fail_if_no_progress (extract_lets +onlyGivenNames x); first | (refine okO_have x ?_ ?_; on_goal 1 => subst x; on_goal 2 => (clear_value x; intro _)) | skip) | with_reducible refine ok_spiStatus ?_ | with_reducible refine ok_ite ?_ ?_ | with_reducible refine okO_ite ?_ ?_ | with_reducible refine okO_next ?_ | with_reducible refine ok_foldl ?_ ?_ | intro _ | extract_lets | split | (conv => arg 2; dsimp +zetaDelta only))

theorem ok_execSpiUnknownCmd {o s : State} (h : Ok o s) {a0 : Byte} {a1 : BitVec 24} {a2 : Byte} {a3 : Byte} : OkO o (execSpiUnknownCmd a0 a1 a2 a3 s) := by
  unfold execSpiUnknownCmd
  repeat' (first | with_reducible assumption | (fail_if_no_progress (extract_lets +onlyGivenNames x); first | (refine okO_have x ?_ ?_; on_goal 1 => subst x; on_goal 2 => (clear_value x; intro _)) | skip) | with_reducible refine ok_spiUnknown ?_ | with_reducible refine ok_ite ?_ ?_ | with_reducible refine okO_ite ?_ ?_ | with_reducible refine okO_next ?_ | with_reducible refine ok_foldl ?_ ?_ | intro _ | extract_lets | split | (conv => arg 2; dsimp +zetaDelta only))

theorem ok_execSpiCsAbandon {o s : State} (h : Ok o s) {a0 : Byte} : OkO o (execSpiCsAbandon a0 s) := by
  unfold execSpiCsAbandon
  repeat' (first | with_reducible assumption | (fail_if_no_progress (extract_lets +onlyGivenNames x); first | (refine okO_have x ?_ ?_; on_goal 1 => subst x; on_goal 2 => (clear_value x; intro _)) | skip) | with_reducible refine ok_incSat ?_ | with_reducible refine ok_ite ?_ ?_ | with_reducible refine okO_ite ?_ ?_ | with_reducible refine okO_next ?_ | with_reducible refine ok_foldl ?_ ?_ | intro _ | extract_lets | split | (conv => arg 2; dsimp +zetaDelta only))

theorem ok_execPageReq {o s : State} (h : Ok o s) {a0 : MsgHead} {a1 : Byte} {a2 : BitVec 24} {a3 : Byte} {a4 : Byte} {a5 : List Word} {a6 : Half} : OkO o (execPageReq a0 a1 a2 a3 a4 a5 a6 s) := by
  unfold execPageReq
  repeat' (first | with_reducible assumption | (fail_if_no_progress (extract_lets +onlyGivenNames x); first | (refine okO_have x ?_ ?_; on_goal 1 => subst x; on_goal 2 => (clear_value x; intro _)) | skip) | with_reducible refine ok_receive ?_ ?_ | with_reducible refine ok_pageServed ?_ | with_reducible refine ok_ite ?_ ?_ | with_reducible refine okO_ite ?_ ?_ | with_reducible refine okO_next ?_ | with_reducible refine ok_foldl ?_ ?_ | intro _ | extract_lets | split | (conv => arg 2; dsimp +zetaDelta only))

theorem ok_tapUnlock {o s : State} (h : Ok o s) {a1 : Bool} : Ok o (State.tapUnlock s a1) := by
  unfold State.tapUnlock
  repeat' (first | with_reducible assumption | (fail_if_no_progress (extract_lets +onlyGivenNames x); first | (refine ok_have x ?_ ?_; on_goal 1 => subst x; on_goal 2 => (clear_value x; intro _)) | skip) | ((conv => arg 2; arg 27; skip); with_reducible refine ok_mk ?_ rfl) | with_reducible refine ok_ite ?_ ?_ | with_reducible refine ok_foldl ?_ ?_ | intro _ | extract_lets | split | (conv => arg 2; dsimp +zetaDelta only))

end Sys2Proof.Laws
end

