-- ==== Sys2Proof/Laws/Mem.lean ====
section
/-! SUPPORT. The canonical form of engine memory: reset has it and every write of bytes keeps it. -/

namespace Sys2Proof.Laws

open Machine

theorem wf_iff {m : List Host.Cell} : Memory.wf m ↔ Rising m ∧ ∀ e ∈ m, e.2 ≠ 0 := by
  simp [Memory.wf, Rising, List.pairwise_map]

theorem wf_reset : Memory.wf State.reset.mem := wf_iff.2 ⟨List.Pairwise.nil, fun _ h => nomatch h⟩

theorem wf_spliceMem {m : List Host.Cell} {a : Nat} {bs : List Byte} (h : Memory.wf m) : Memory.wf (spliceMem m a bs) := by
  obtain ⟨hr, hz⟩ := wf_iff.1 h
  refine wf_iff.2 ⟨rising_spliceMem hr, fun e he => ?_⟩
  rcases mem_spliceMem he with h1 | h1
  · exact hz e h1
  · exact h1

theorem wf_writeBytes {s : State} {a : Nat} {bs : List Byte} (h : Memory.wf s.mem) : Memory.wf (s.writeBytes a bs).mem :=
  wf_spliceMem h

end Sys2Proof.Laws
end

