-- ==== Sys2Proof/Laws/Sets.lean ====
section
/-! SUPPORT. The laws of `Sets`: a state after a chain of field writes differs in exactly those fields; what an accepted word write does. -/

namespace Sys2Proof.Laws

open Machine Machine.State

variable {s t : State} {l m : List (Fld × Nat)}

theorem sets_refl : Sets s s [] := ⟨by simp, fun _ _ _ => rfl, rfl⟩

/-- A field reads as before where another one is set. -/
theorem getF_setF_apart {f g : Fld} (hf : f.lo + f.w ≤ 32) (h : Apart f g) (v : Nat) : (s.setF g v).getF f = s.getF f := by
  rcases h with h | h
  · exact getF_setF_addr h v
  · exact getF_setF_bits hf h v

/-- One more field, apart from those before. -/
theorem sets_setF (h : Sets s t l) {f : Fld} {v : Nat} (hw : f.lo + f.w ≤ 32) (hl : ∀ x ∈ l, x.1.lo + x.1.w ≤ 32 ∧ Apart x.1 f) (hv : v < 2 ^ f.w) :
    Sets s (t.setF f v) ((f, v) :: l) := by
  refine ⟨fun x hx => ?_, fun g hg ha => ?_, ?_⟩
  · rcases List.mem_cons.1 hx with rfl | hx
    · rw [getF_setF_self hw]; exact Nat.mod_eq_of_lt hv
    · rw [getF_setF_apart (hl x hx).1 (hl x hx).2]; exact h.reads x hx
  · rw [getF_setF_apart hg (ha _ List.mem_cons_self)]
    exact h.keeps g hg (fun x hx => ha x (List.mem_cons_of_mem _ hx))
  · have := h.rest
    rw [this]; rfl

theorem bitsOf_full (w : Word) : bitsOf w 0 32 = w.toNat := by
  have : w.extractLsb' 0 32 = w := by ext i hi; simp
  simp [bitsOf, this]

/-- A whole register. -/
theorem sets_setReg (h : Sets s t l) {a : Nat} {w : Word} (hl : ∀ x ∈ l, x.1.addr ≠ a) : Sets s (t.setReg a w) (whole a w :: l) := by
  refine ⟨fun x hx => ?_, fun g hg ha => ?_, ?_⟩
  · rcases List.mem_cons.1 hx with rfl | hx
    · simp only [whole, getF, getReg_setReg, ↓reduceIte, bitsOf_full]
    · rw [getF_setReg_ne (hl x hx)]; exact h.reads x hx
  · by_cases hga : g.addr = a
    · have hw := (ha _ List.mem_cons_self).resolve_left (by simpa [whole] using hga)
      have h0 : g.w = 0 := by simp only [whole] at hw; omega
      have hb : ∀ x : Word, bitsOf x g.lo g.w = 0 := fun x => by
        have := (x.extractLsb' g.lo g.w).isLt
        rw [show (2 : Nat) ^ g.w = 1 by rw [h0]; rfl] at this
        exact Nat.lt_one_iff.1 this
      simp only [getF, hb]
    · rw [getF_setReg_ne hga]
      exact h.keeps g hg (fun x hx => ha x (List.mem_cons_of_mem _ hx))
  · have := h.rest
    rw [this]; rfl

/-- The order of the list does not matter. -/
theorem sets_of_mem_iff (h : Sets s t l) (hm : ∀ x, x ∈ m ↔ x ∈ l) : Sets s t m :=
  ⟨fun x hx => h.reads x ((hm x).1 hx), fun g hg ha => h.keeps g hg (fun x hx => ha x ((hm x).2 hx)), h.rest⟩

end Sys2Proof.Laws
end

