-- ==== Sys2Proof/Laws/Writes.lean ====
section
/-! SUPPORT. What an accepted word write does: the word and PG_CHG, then what its register starts in the block. -/

namespace Sys2Proof.Laws

open Machine Machine.State

variable {s : State} {r : Requester}

theorem ownerTouch_regs (p : Nat) : (s.ownerTouch p r).regs = s.regs := by
  unfold ownerTouch; split <;> rfl

theorem ownerTouch_getReg (p a : Nat) : (s.ownerTouch p r).getReg a = s.getReg a := by
  simp only [getReg, ownerTouch_regs]

/-- An accepted write passes checks 1 to 5 of Table 2-11: what the transaction answers is what its word does. -/
theorem writeTx_accepted {a v : Nat} {t : State} (h : Accepts s r a v) (hi : ¬ (a / 0x1000 = pIMAGE ∧ 0x100 ≤ a % 0x1000 ∧ a % 0x1000 < 0x200))
    (hw : (s.ownerTouch (a / 0x1000) r).writeWord r (a / 0x1000) (a % 0x1000) (BitVec.ofNat 32 v) = .ok t) :
    s.writeTx r a [BitVec.ofNat 32 v] = (stOK, 1, t) := by
  obtain ⟨-, h2, h3, h4, h5, h6, -⟩ := h
  have hc : s.txCheck r a [BitVec.ofNat 32 v].length true = none := by
    unfold txCheck
    rw [if_neg (by simp [h2]), if_neg, if_neg (fun hx => h5 ⟨hx.1, hx.2.1⟩)]
    rintro (hx | hx | hx | hx)
    · exact hx h3
    · simp at hx
    · revert hx; cases hp : pageKind (a / 0x1000) <;> simp_all
    · simp only [List.length_singleton] at hx; omega
  have ho : s.ownerRefuses r (a / 0x1000) (a % 0x1000) [BitVec.ofNat 32 v].length = none := by simp [ownerRefuses, h6]
  simp only [writeTx, hc, ho, hi, ↓reduceIte, writeWords, hw]
  simp

/-- A block register stands at host address `a`: its page's kind, and its instance and array index. -/
def RegAt (a : Nat) (k : PageKind) (n i : Nat) : Bool :=
  (pageKind (a / 0x1000)).map Prod.fst = some k && (findReg (a / 0x1000) (a % 0x1000)).map Prod.snd = some (n, i) && a % 0x1000 ≠ 4 && a % 0x1000 ≠ 8
    && a % 0x1000 ≠ 0x14 && !(a / 0x1000 = pIMAGE && 0x100 ≤ a % 0x1000 && a % 0x1000 < 0x200)

theorem ownerTouch_getF (p : Nat) (f : Fld) : (s.ownerTouch p r).getF f = s.getF f := by
  simp only [getF, ownerTouch_getReg]

/-- An accepted write of a block register: `Stored`, then what the word starts. -/
theorem hostWrite_accepted {a v : Nat} {k : PageKind} {n i : Nat} (h : Accepts s r a v) (hr : RegAt a k n i = true) :
    s.hostWrite r a (BitVec.ofNat 32 v) =
      (Stored s r a v).wordActs r k n i a (BitVec.ofNat 32 v) (s.getReg (s.homeOf (a / 0x1000) (a % 0x1000))) := by
  simp only [RegAt, Bool.and_eq_true, decide_eq_true_eq, ne_eq, Bool.not_eq_true', Bool.and_eq_false_iff, decide_eq_false_iff_not,
    Option.map_eq_some_iff, Prod.exists] at hr
  obtain ⟨⟨⟨⟨⟨⟨k', x, hk, rfl⟩, ⟨d, n', i', hf, hni⟩⟩, h4⟩, h8⟩, h14⟩, himg⟩ := hr
  obtain ⟨rfl, rfl⟩ := Prod.mk.inj hni
  have ht := h.2.2.2.2.2.2
  simp only [wordTaken, h4, h8, h14, or_self, ↓reduceIte, hk, hf, Bool.and_eq_true, Bool.or_eq_true, Bool.not_eq_true', decide_eq_true_eq,
    ne_eq, Nat.div_add_mod] at ht
  obtain ⟨⟨⟨hoff, hrs⟩, hsb⟩, hcp⟩ := ht
  have hw : (s.ownerTouch (a / 0x1000) r).writeWord r (a / 0x1000) (a % 0x1000) (BitVec.ofNat 32 v) =
      .ok ((Stored s r a v).wordActs r k' n' i' a (BitVec.ofNat 32 v) (s.getReg (s.homeOf (a / 0x1000) (a % 0x1000)))) := by
    have hh : (s.ownerTouch (a / 0x1000) r).homeOf (a / 0x1000) (a % 0x1000) = s.homeOf (a / 0x1000) (a % 0x1000) := by
      unfold homeOf; simp only [ownerTouch_getF]
    have hp : ∀ p, (s.ownerTouch (a / 0x1000) r).pgState p = s.pgState p := fun p => ownerTouch_getF _ _
    have hd : ∀ old w, (s.ownerTouch (a / 0x1000) r).rsDiffers d n' i' old w = s.rsDiffers d n' i' old w := fun _ _ => by
      unfold ownerTouch; split <;> rfl
    have hb : (s.ownerTouch (a / 0x1000) r).sbRefuses d n' i' = s.sbRefuses d n' i' := by unfold ownerTouch; split <;> rfl
    have hy : ∀ x w, (s.ownerTouch (a / 0x1000) r).copyRefuses k' n' x w = s.copyRefuses k' n' x w := fun _ _ => by unfold ownerTouch; split <;> rfl
    simp only [writeWord, hk, hf, h4, h8, h14, ↓reduceIte, hh, ownerTouch_getReg, Nat.div_add_mod, hp, hd, hb, hy, hsb, hcp, or_self, if_neg hoff,
      Bool.false_eq_true, Stored]
    rw [if_neg]
    rintro ⟨h1, h2⟩
    rcases hrs with ⟨hs, he⟩ | hrs
    · rcases h1 with h1 | ⟨hk, h1⟩
      · exact h1 hs
      · rcases he with he | he
        · exact he hk
        · exact h1 he
    · rw [hrs] at h2; cases h2
  simp only [hostWrite, h.1, ↓reduceIte, writeTx_accepted h (by omega) hw]

/-- A PG_CTRL word that the page's state permits is carried out (Table 2-9). -/
theorem ctrlWrite_taken {p : Nat} {v : Word} {via : Option Nat} (h : ctrlTaken s p v via = true) : ∃ t, s.ctrlWrite p v via = .ok t := by
  unfold ctrlTaken at h
  unfold ctrlWrite
  generalize v.getLsbD 0 = run at *
  generalize v.getLsbD 1 = stop at *
  generalize v.getLsbD 2 = clr at *
  generalize s.pgState p = st at *
  generalize alwaysRunning p = al at *
  generalize s.stopPermitted p via = perm at *
  generalize (s.fsum p).getLsbD 28 = act at *
  obtain rfl | rfl | rfl | rfl | rfl | ⟨h0, h1, h2, h4⟩ : st = psOFF ∨ st = psSTARTING ∨ st = psRUNNING ∨ st = psSTOPPED ∨ st = psFENCED ∨
      (st ≠ psOFF ∧ st ≠ psSTARTING ∧ st ≠ psRUNNING ∧ st ≠ psSTOPPED ∧ st ≠ psFENCED) := by omega
  all_goals cases run <;> cases stop <;> cases clr <;> cases al <;> simp_all

/-- The command registers of the commands that are one word write. -/
theorem regAt_modeCtrl : RegAt DEV.MODE_CTRL .dev 0 0 := by decide
theorem regAt_slotCtrl : ∀ i : Fin 64, RegAt (VSLOT.SLOT_CTRL i) .vslot i 0 := by decide
theorem regAt_handover : RegAt VCE.HANDOVER .vce 0 0 := by decide
theorem regAt_vceCtrl : RegAt VCE.VCE_CTRL .vce 0 0 := by decide
theorem regAt_eststrCmd : ∀ k : Fin 24, RegAt (ESTSTR.CMD k) .eststr k 0 := by decide
theorem regAt_winSel : RegAt ESTWIN.WIN_SEL .estwin 0 0 := by decide
theorem regAt_mbxCmd : ∀ n : Fin 24, RegAt (YPORT.MBX_CMD n) .yport n 0 := by decide
theorem regAt_yportCntCtrl : ∀ n : Fin 24, RegAt (YPORT.CNT_CTRL n) .yport n 0 := by decide
theorem regAt_sampleCntCtrl : RegAt SAMPLE.CNT_CTRL .sample 0 0 := by decide
theorem regAt_shelfCfg : RegAt SHELF.SHELF_CFG .shelf 0 0 := by decide
theorem regAt_release : RegAt HOLDUP.RELEASE .holdup 0 0 := by decide
theorem regAt_cnCmd : RegAt CORNICE.CN_CMD .cornice 0 0 := by decide
theorem regAt_corniceCntCtrl : RegAt CORNICE.CNT_CTRL .cornice 0 0 := by decide
theorem regAt_prep : ∀ n : Fin 8, RegAt (RAIL.PREP n) .rail n 0 := by decide
theorem regAt_efCtrl : ∀ c : Fin 8, RegAt (EFUSE.EF_CTRL c) .efuse c 0 := by decide
theorem regAt_grpCmd : ∀ g : Fin 4, RegAt (SEQGRP.GRP_CMD g) .seqgrp g 0 := by decide
theorem regAt_seqCntCtrl : RegAt SEQ.CNT_CTRL .seq 0 0 := by decide
theorem regAt_act : ∀ k : Fin 8, RegAt (FCOL.ACT k) .fcol 0 k := by decide
theorem regAt_fcolCtrl : RegAt FCOL.FCOL_CTRL .fcol 0 0 := by decide
theorem regAt_unfence : RegAt FCOL.UNFENCE .fcol 0 0 := by decide
theorem regAt_inj : RegAt FCOL.INJ .fcol 0 0 := by decide
theorem regAt_pairCmd : RegAt RIDGE.PAIR_CMD .ridge 0 0 := by decide
theorem regAt_ridgeCntCtrl : RegAt RIDGE.CNT_CTRL .ridge 0 0 := by decide
theorem regAt_psCmd : RegAt PSTORE.PS_CMD .pstore 0 0 := by decide
theorem regAt_rdSeq : RegAt CAIRN.RD_SEQ .cairn 0 0 := by decide
theorem regAt_tcCmd : RegAt CAIRN.TC_CMD .cairn 0 0 := by decide
theorem regAt_clrCmd : RegAt CAIRN.CLR_CMD .cairn 0 0 := by decide
theorem regAt_pmbMbx : RegAt PMBUS.PMB_MBX .pmbus 0 0 := by decide
theorem regAt_imgCmd : RegAt IMAGE.IMG_CMD .image 0 0 := by decide
theorem regAt_canCntCtrl : ∀ n : Fin 4, RegAt (CAN.CNT_CTRL n) .can n 0 := by decide
theorem regAt_t1sCntCtrl : RegAt T1S.CNT_CTRL .t1s 0 0 := by decide
theorem regAt_spiCntCtrl : RegAt SPI.CNT_CTRL .spi 0 0 := by decide

end Sys2Proof.Laws
end

