-- ==== Sys2Proof/WellFormed.lean ====
section
/-! DEFINITION. Which commands are well formed: the limits that the rules set to operands beyond their types (how many words a transaction carries, how many values a measurement has, which pages exist). -/

namespace Sys2Proof

/-- A page number of Table 2-1 (R30). -/
def listedPage (p : Nat) : Bool :=
  p ≤ 0x009 || (0x010 ≤ p && p ≤ 0x028) || (0x030 ≤ p && p ≤ 0x038) || (0x040 ≤ p && p ≤ 0x044) || (0x048 ≤ p && p ≤ 0x051)
    || (0x058 ≤ p && p ≤ 0x065) || (0x068 ≤ p && p ≤ 0x082) || p == 0x084 || (0x090 ≤ p && p ≤ 0x096)

/-- The nodes of a walk stand in order of position, one at each (R129). -/
def WalkResult.wf (w : WalkResult) : Bool := decide ((w.nodes.map FoundNode.pos).Pairwise (· < ·)) && decide (w.nodes.length ≤ 32)

/-- A scan takes at most 3.2 ms (R482). -/
def StoreScan.wf (f : StoreScan) : Bool := decide (f.us.toNat ≤ 3200)

/-- An ascent walks a chain once. -/
def AscentEnv.wf (e : AscentEnv) : Bool :=
  e.scan.wf && decide ((e.walks.map (fun x => x.1.val)).Pairwise (· < ·)) && e.walks.all (fun x => x.2.wf)

/-- SAMPLE_DATA carries at most 16 cell values and 4 temperatures of a monitor, and at most 4 temperatures of a converter (Table 4-7). -/
def SampleFrame.wf : SampleFrame → Bool
  | .monitor _ _ _ _ v t => decide (v.length ≤ 16 ∧ t.length ≤ 4)
  | .conv _ _ _ _ t => decide (t.length ≤ 4)

/-- The command is well formed. -/
def Instr.wf (i : Instr) : Bool :=
  match i with
  | .deviceResetPor => true
  | .rstNLow => true
  | .coreBrownout _ => true
  | .regionBrownout _ => true
  | .vinPorRising _ e => e.wf
  | .ascentComplete _ e => e.wf
  | .ascentStepTimeout _ => true
  | .wakePinQualified e => e.wf
  | .rtcAlarm e => e.wf
  | .can0WakePattern e => e.wf
  | .t1sActivityWake e => e.wf
  | .modeCtrlDormant _ _ => true
  | .modeCtrlShip _ _ => true
  | .serviceEnter _ _ => true
  | .serviceExit _ _ => true
  | .inhibitClr _ _ => true
  | .modeCtrlReset _ _ => true
  | .modeCtrlBadReq _ key req => decide (key ≠ 0xC5 ∨ req = 0 ∨ 6 < req.toNat)
  | .descentStart => true
  | .descentRampEnd => true
  | .descentGroupsAllOff _ => true
  | .descentTmaxExpiry _ => true
  | .vinWarnFalling _ => true
  | .vinWarnRising _ => true
  | .vholdReady _ => true
  | .vholdBelowMin _ => true
  | .aonSupplyLoss => true
  | .watchdogExpiry => true
  | .mpuRestartComplete => true
  | .refclkLoss => true
  | .xt32StartTimeout => true
  | .pllLock _ => true
  | .regionTempLimit _ _ => true
  | .shelfCycleBoundary _ => true
  | .setpointStart => true
  | .syncEmission => true
  | .sampleInstant _ => true
  | .setClose => true
  | .setGatherComplete => true
  | .estimatorSetUpdate _ => true
  | .restReqRepeat => true
  | .surveyBatch _ => true
  | .surveyWindowEnd _ => true
  | .surveyPrerollStart _ => true
  | .surveyBlocked _ => true
  | .surveyGapEnd _ => true
  | .capacityWriteBack _ => true
  | .eststrReinit _ _ _ => true
  | .eststrResetCap _ _ _ => true
  | .moduleUidChanged _ _ _ => true
  | .estwinSelect _ _ => true
  | .pgCtrlRun _ p => listedPage p.val
  | .pgCtrlStopReq _ p => listedPage p.val
  | .pgCtrlFenceClr _ p => listedPage p.val
  | .pageStartBoundary p => listedPage p.val
  | .pageStopBoundary p => listedPage p.val
  | .pgOwnerWrite _ p _ => listedPage p.val
  | .ownershipTimeout p => listedPage p.val
  | .registerWrite _ _ _ => true
  | .spiRead _ _ _ => true
  | .spiWrite _ _ _ data _ => decide (1 ≤ data.length ∧ data.length ≤ 64)
  | .spiStatus _ _ _ => true
  | .spiUnknownCmd cmd _ _ _ => decide (cmd ≠ 0xA1 ∧ cmd ≠ 0xB2 ∧ cmd ≠ 0xC3)
  | .spiCsAbandon _ => true
  | .pageReq _ cmd _ _ _ data _ => decide ((cmd = 0xB2 ∨ data = []) ∧ data.length ≤ 64)
  | .yoridLinkUp _ => true
  | .yoridLinkDown _ => true
  | .sampleDataRx _ f => f.wf
  | .statusRx _ _ => true
  | .eventRx _ _ => true
  | .nackRx _ _ => true
  | .replyRx _ f => decide (f.payload.length ≤ 96)
  | .farSetpointRx _ _ => true
  | .responseTimeout _ _ => true
  | .enumerationWalk _ w => w.wf
  | .remeasTimer _ w => w.wf
  | .holdTimeWrite _ => true
  | .mbxGo _ _ _ _ _ _ => true
  | .yportCntClr _ _ => true
  | .ringBreak _ w => w.wf && !w.farPort
  | .ringClose _ w => w.wf && w.farPort
  | .samplePageStart => true
  | .sampleCntClr _ => true
  | .sdmStuck _ => true
  | .sdmStuckEnd _ => true
  | .plausFailCount => true
  | .fmoverBusError _ _ _ => true
  | .fmoverRestart => true
  | .sdmaDescriptorComplete _ => true
  | .sdmaStart _ => true
  | .sdmaStop _ => true
  | .sdmaResume _ => true
  | .sdmaSkip _ => true
  | .sdmaAbort _ => true
  | .sdmaBusError _ _ _ => true
  | .vceSlotEvaluation _ _ => true
  | .remoteDeadlineMiss _ => true
  | .gapOverrun _ => true
  | .swapReq _ _ _ => true
  | .bankCopy _ _ => true
  | .stateClr _ _ => true
  | .slotModeWrite _ _ _ _ => true
  | .handoverGo _ _ _ => true
  | .handoverExecute => true
  | .vceCtrlClr _ => true
  | .scheduleBuild => true
  | .scheduleSwap => true
  | .regModeWrite _ _ => true
  | .regulationStart => true
  | .startRampEnd => true
  | .shortfallCount => true
  | .capExceedTimer => true
  | .statusTimeout _ => true
  | .applyMismatchCount _ => true
  | .busOvCount => true
  | .busUvCount => true
  | .holdupVoltageEntry => true
  | .holdNEntry => true
  | .holdupReleaseWrite _ => true
  | .holdupAutoRelease => true
  | .holdupHandBackStart => true
  | .hbRampEnd => true
  | .holdupTmaxExpiry => true
  | .plantTimeout => true
  | .regulationSlotFenced _ => true
  | .intentMessage _ _ _ _ _ _ => true
  | .stepHintEdge _ _ => true
  | .cnCancel _ => true
  | .cnBackoffClr _ => true
  | .corniceCntClr _ => true
  | .corniceOpen => true
  | .corniceWindowEnd => true
  | .corniceCollapseEnd => true
  | .corniceBackoffEnd => true
  | .railPeriod _ x => decide (x.cs.length ≤ 16)
  | .railOnRequest _ => true
  | .railPrebiasDone _ _ => true
  | .railOnWithdrawn _ => true
  | .softStartEnd _ => true
  | .softStopEnd _ => true
  | .railPowerGood _ => true
  | .railUvTimer _ => true
  | .railOv _ => true
  | .cycleLimitPersist _ => true
  | .railLimitPersist _ => true
  | .phaseShedStart _ => true
  | .phaseShedComplete _ => true
  | .phaseOpen _ => true
  | .phaseSenseFail _ _ => true
  | .senseOpenDetect _ _ => true
  | .ovReportHoldExpiry _ => true
  | .railPrepGo _ _ _ _ => true
  | .railCorniceWindowEnd _ => true
  | .syncInEdge _ _ => true
  | .syncInLoss => true
  | .glideEnd => true
  | .ntcMeasurement codes => decide (codes.length = 8)
  | .efuseConversion _ _ => true
  | .efuseOnRequest _ => true
  | .efuseOnWithdrawn _ => true
  | .efuseShortCircuit _ => true
  | .efuseHvRefLost => true
  | .efuseBreaker _ => true
  | .gateCheckTimer _ => true
  | .gateLowInOn _ => true
  | .inrushTlimExpiry _ => true
  | .inrushTmaxExpiry _ => true
  | .efuseOnReached _ => true
  | .efuseOnOneSecond _ => true
  | .efuseGateDischarged _ => true
  | .retryDelayExpiry _ => true
  | .latchClr _ _ => true
  | .gfClr _ _ => true
  | .outputPresentWhileOff _ => true
  | .counterCheckpoint => true
  | .seqEvaluation x => decide (x.mon.length = 16)
  | .grpCmdUp _ _ => true
  | .grpCmdDown _ _ => true
  | .onDlyExpiry _ => true
  | .offDlyExpiry _ => true
  | .slotPowerGood _ => true
  | .pgTmoExpiry _ => true
  | .slotOff _ => true
  | .tDisMaxExpiry _ => true
  | .tRestExpiry _ => true
  | .slotRetryClear _ => true
  | .rstOutRelease => true
  | .rackfltLowSeen => true
  | .rackfltHigh100ms => true
  | .rackfltPullRelease => true
  | .inputFilterChange _ _ _ => true
  | .inputStuckTimer _ => true
  | .inputStuckRelease _ => true
  | .seqCntClr _ => true
  | .sourceRaise _ data => decide (data.length ≤ 10)
  | .takeoverReset => true
  | .fcolActClear _ _ _ => true
  | .fcolAck _ => true
  | .unfence _ _ _ => true
  | .injStart _ _ _ _ count => decide (count ≠ 0)
  | .injCancel _ => true
  | .injectedAccess _ info => decide (info.length ≤ 10)
  | .ridgeLinkUp _ => true
  | .ridgeLinkDown => true
  | .ridgeRelock => true
  | .copyRx c => decide (c.beacon = true ∨ (c.slots.length = 32 ∧ c.strs.length = 24))
  | .copyMissed _ => true
  | .gridLockLost => true
  | .helloExchange _ => true
  | .yieldRx => true
  | .shadowReportRx _ _ => true
  | .relayRx x => x.sample.all SampleFrame.wf
  | .takeover _ => true
  | .firstSetpointAfterTakeover => true
  | .pairCmdYield _ => true
  | .plannedHandoverBoundary => true
  | .pairCmdProof _ => true
  | .proofTestEnd _ _ => true
  | .epochDemote _ => true
  | .demoteHoldExpiry => true
  | .partnerWaitExpiry => true
  | .roleSettle => true
  | .belayClaim _ => true
  | .belayRelease => true
  | .revertHoldoffExpiry => true
  | .revertReqRx => true
  | .ridgeCntClr _ => true
  | .psSave _ _ => true
  | .psSaveAll _ => true
  | .psResetCfg _ _ => true
  | .psVerify _ => true
  | .verifyScanEnd f => f.wf
  | .recordWriteStart => true
  | .pageProgramDone => true
  | .cairnFlush => true
  | .cairnRdSeq _ _ => true
  | .tcCmdGo _ => true
  | .cairnClear _ _ => true
  | .cairnClearComplete => true
  | .holdMessage _ => true
  | .releaseMessage _ => true
  | .capMessage _ _ _ _ => true
  | .pcmdMessage _ _ => true
  | .messageCrcFail _ => true
  | .reportTimer => true
  | .t1sPublication => true
  | .rackMessageRx _ _ _ => true
  | .rackSendTimer => true
  | .peerTimeout _ => true
  | .canErrorState _ _ _ _ => true
  | .canBusOffRecovery _ => true
  | .canTxDrop _ => true
  | .t1sLinkLoss _ => true
  | .portCntClr _ _ => true
  | .pmbusPoll _ x => decide (x.vals.length = 7)
  | .pmbusPollFail _ _ => true
  | .pmbusAlert _ _ => true
  | .pmbusMailboxGo _ _ _ _ _ => true
  | .imageBegin _ => true
  | .imageAbort _ => true
  | .imgDataWrite _ _ data => decide (1 ≤ data.length ∧ data.length ≤ 64)
  | .imageHeaderChecked => true
  | .imageVerified _ => true
  | .imageStreamInterrupt => true
  | .activate _ _ => true
  | .activationPauseEnd => true
  | .confirm _ _ => true
  | .autoConfirm => true
  | .trialExpiry => true
  | .rstNRelease e => e.wf
  | .slotRetryEnable _ => true
  | .regionRestartComplete _ => true
  | .t1sLinkReturn _ _ => true
  | .canErrorActiveReturn _ _ _ => true
  | .yoridFrameDiscarded _ _ => true
  | .enumRequestAtPort _ _ _ _ => true
  | .syncRx _ _ => true

end Sys2Proof
end

