-- ==== Sys2Proof/Tests/Slice0.lean ====
section
/-! SUPPORT. The model's own tests: the check values and worked examples of the spec, the well-formedness smoke, and for every statement a state and operands that meet each clause's hypotheses together. -/

set_option linter.unusedVariables false
set_option Elab.async false

namespace Sys2Proof.Tests

open Machine Machine.State

/-! ## Small states -/

def mode_ (m : Nat) (l : List (Fld × Nat)) : State := l.foldl (fun s x => s.setF x.1 x.2) (State.reset.setF DEV.MODE_STAT_MODE m)
def relSlot (i : Nat) : State := (mode_ mRUN [(VSLOT.SLOT_CFG_EN i, 1), (pgStatState (pVSLOT i), 2), (pgStatState pVCE, 2)]).updVs i (fun v => { v with released := true })
def slotPage (i : Nat) : State := mode_ mWATCH [(pgStatState (pVSLOT i), 2), (pgStatState pVCE, 2)]
def noSchedule : State := mode_ mWATCH [(VSLOT.SLOT_CFG_EN 0, 1), (VCE.TIMING_SP_PHASE, 31), (pgStatState (pVSLOT 0), 2)]
def hand2 : List (Fld × Nat) :=
  [(pgStatState (pVSLOT 0), 2), (VSLOT.SLOT_CFG_EN 0, 1), (VSLOT.SLOT_CFG_EN 1, 1), (VCE.HANDOVER_RESULT, 1), (VCE.HANDOVER_FROM, 0), (VCE.HANDOVER_TO, 1), (VSLOT.SLOT_CTRL_MODE 0, 0)]
def handWatch : State := mode_ mWATCH hand2
def handRun (p : Bool) : State :=
  (mode_ mRUN (hand2 ++ [(VCE.HANDOVER_RESULT, 0), (SHELF.SHELF_CFG_REG_MODE, 1), (VSLOT.SLOT_CFG_EN 4, 1)])).updShelf (fun x => { x with regPend := p })
def hbEnd (ok : Bool) : State :=
  (mode_ mHOLDUP (hand2 ++ [(HOLDUP.HU_STAT_STATE, 2), (SHELF.REG_STAT_ACT_SLOT, 1), (VSLOT.SLOT_CFG_EN 0, ok.toNat)])).updShelf (fun x => { x with hbUs := 10 ^ 9 })
def hbPend : State := (hbEnd true).updShelf (fun x => { x with regPend := true })
def hbAfter (s : State) : State := ((s.handover s.actSlot (s.roleSlot (modeRole s.wantMode))).setF SHELF.REG_STAT_MODE_ACT s.wantMode).setF HOLDUP.HU_STAT_STATE 0
def spare_ : State := mode_ mRUN [(pgStatState pSHELF, 2), (SHELF.REG_STAT_ACT_SLOT, 4), (VSLOT.SLOT_STAT_FENCED 4, 1), (SHELF.ROLE_SPARE_EN, 1), (SHELF.ROLE_SPARE, 7), (VSLOT.SLOT_CFG_EN 7, 1), (VSLOT.SLOT_CFG_YSRC 7, 3), (pgStatState (pVSLOT 7), 2)]
def plantHead (typ : Nat) (body : List Nat) : MsgHead := ⟨.can 0, 1, 2, 9, 0, BitVec.ofNat 16 (crc16 (identBytes typ 1 2 9 ++ body))⟩
def plantState (lost : Nat) : State :=
  mode_ mRUN [(CAN.CAN_CFG_PLINK 0, 1), (pgStatState (pCAN 0), 2), (CAN.CAN_CFG_NODE_ADDR 0, 1), (CAN.CAN_CFG_PLANT_ADDR 0, 2), (SHELF.REG_STAT_PLANT_LOST, lost)]
def port_ (n : Nat) (l : List (Fld × Nat)) : State := mode_ mRUN ([(pgStatState (pYPORT n), 2), (pgStatState pFMOVER, 2)] ++ l)
def pair_ (s : State) : State := { s with dev := { s.dev with form := 1 } }
def conv_ : FoundNode := ⟨1, 9, 1, 1, 0, false, 0, 1, false, false, []⟩
def openSet_ (n : Nat) : OpenSet := ⟨BitVec.ofNat 32 n, 0, false, 0, 0, [0, 0, 0, 0], false, false, false, List.replicate 24 false, List.replicate 24 false⟩
def setOpen_ (p n : Nat) : State := ({ port_ p [] with sample := { SampleSt.rest with set_ := some (openSet_ n) } } : State).writeLe (bankAt p (BitVec.ofNat 32 n)) 4 n
def dmaReady (c : Nat) : State :=
  ((mode_ mRUN [(pgStatState pSDMA, 2), (⟨SDMA.CH_NEXT c, 0, 32⟩, 0x20000000)]).writeLe 0x20000000 4 (2 ^ 31 + 2 ^ 24)).writeLe 0x20000004 4 0x20000100
    |>.writeLe 0x20000008 4 0x20000200 |>.writeLe 0x2000000C 4 8 |>.writeLe 0x20000014 4 8 |>.writeLe 0x20000100 4 0x01020304
def rail_1 (r : Nat) (l : List (Fld × Nat)) : State := mode_ mRUN ([(pgStatState (pRAIL r), 2)] ++ l)
def svReady (k : Nat) : State :=
  (mode_ mRUN [(pgStatState pEST, 2), (pgStatState (pESTSTR k), 2), (pgStatState pSURVEY, 2), (⟨SURVEY.SV_MASK, k, 1⟩, 1)]).updPort k
    (fun x => { x with caps := [false, false, false, false, true] })
def svFull (k : Nat) : State :=
  { ((((svReady k).setF (SURVEY.SV_STR_STATE k) svWINDOW).setF (YPORT.PORT_CFG_CELLS k) 0).setReg SURVEY.I_RATED 0x7FC00000).updEst k
    (fun e => { e with win := ⟨4, 0, [], none⟩ :: (List.range svSamples).map (fun n => ⟨0, n, [], some 0⟩) }) with dev := { DevSt.rest with nowUs := 4000000 } }
def copy_ : StateCopy := ⟨false, false, false, false, false, 7, 9, 3, 0, false, 0, 0, false, 0, 0, 0, 0, 0, false, 0, 0, 0, 0, 0, 0, 0, 0, 0, 0, 0, 0, 0, [], [], ⟨0, 0, 0, []⟩, 0⟩
def standby_ (l : List (Fld × Nat)) : State := pair_ (mode_ mWATCH ([(RIDGE.PAIR_STAT_LINK, 1), (pgStatState pRIDGE, 2)] ++ l))
def active_ (l : List (Fld × Nat)) : State := pair_ (mode_ mRUN ([(RIDGE.PAIR_STAT_LINK, 1), (pgStatState pRIDGE, 2), (RIDGE.PAIR_STAT_ACTIVE, 1)] ++ l))
def late_ (s : State) (a : Nat) : State := { s with dev := { s.dev with late := [⟨a, 0xFFFFFFFF, 1⟩] } }

/-! ## Check values and worked examples of the spec -/

def digits : List Nat := [0x31, 0x32, 0x33, 0x34, 0x35, 0x36, 0x37, 0x38, 0x39]

/-- R103, R488, R503: the check values over "123456789". -/
theorem test_crc32 : crc32 digits = 0xCBF43926 := by decide +kernel
theorem test_crc16 : crc16 digits = 0x29B1 := by decide +kernel
theorem test_crc8 : crc8 digits = 0xF4 := by decide +kernel

/-- Chapter 2, worked example: slot 19 has its region at 0x33600 and its first register at 0x33620; page 0x017 is YPORT7. -/
theorem test_slot19 : VSLOT.SLOT_CFG 19 = 0x33620 ∧ pVSLOT 19 = 0x33 ∧ pYPORT 7 = 0x17 := by decide

/-- R210: binary32, to nearest with ties to even. -/
theorem test_binary32 : F32.div 0x3F800000 0x40400000 = 0x3EAAAAAB ∧ F32.sqrt 0x40000000 = 0x3FB504F3 ∧
    F32.add 0x4B800000 0x3F800000 = 0x4B800000 ∧ F32.add 0x4B800000 0x40400000 = 0x4B800002 ∧ F32.fl 0x807FFFFF = 0x80000000 := by decide +kernel

/-- The coefficients of chapter 7's worked example "an ordinary slot that wraps". -/
def trim19 : Coefs := ⟨0x3F800000, 0x3DCCCCCD, 0x3D4CCCCD, 0, 0, 0, 0, 0, 0, 0, 0, 0, 0, 0xC1A00000, 0x41A00000, 0x3F000000⟩
def deficit : LawIn := ⟨none, 0x430C0000, 0x43340000, 0, none, 32⟩

/-- Table 7-17 step 1: i = 2 A, and the rate limit leaves u = 0.5 A. -/
theorem test_law_first : lawEval trim19 deficit .auto ⟨0, 0, 0, 0, 0, 0⟩ =
    .done ⟨2 ^ 33, 0, 0, 0, 0, 0x3F000000⟩ 0x42200000 none false false true 0 := by decide +kernel

/-- Table 7-17 step 3: INT reaches 2^47 and wraps to −2^47, c = −20 A, u = 19.5 A. -/
theorem test_law_wrap : (match lawEval trim19 deficit .auto ⟨2 ^ 47 - 2 ^ 33, 0, 0, 0, 0, 0x41A00000⟩ with
    | .done st _ w _ c r _ => decide (st.int = -(2 ^ 47) ∧ st.out = 0x419C0000 ∧ w = some true ∧ c ∧ r)
    | .held _ => false) = true := by decide +kernel

/-- R211: a NaN reference holds the evaluation at step 0; R214: INT does not accumulate in MANUAL. -/
theorem test_law_nan : lawEval trim19 { deficit with ref := 0x7FC00000 } .auto ⟨5, 0, 0, 0, 0, 0⟩ = .held 0 := by decide +kernel
theorem test_law_manual : lawEval trim19 deficit (.manual 0x42C80000) ⟨5, 0, 0, 0, 0, 0x41A00000⟩ =
    .done ⟨5, 0, 0, 0, 0, 0x41A00000⟩ 0x42200000 none false true false 0x42A00000 := by decide +kernel

/-- Chapter 7, "bus-voltage PI with droop": INT = 1 300 × 65 536 reads INT_LO = 0x0514_0000 and INT_HI = 0. -/
theorem test_int_words : (State.reset.setInt 0 (1300 * 65536)).getReg (VSLOT.INT_LO 0) = 0x05140000 ∧
    (State.reset.setInt 0 (1300 * 65536)).getReg (VSLOT.INT_HI 0) = 0 := by decide +kernel

/-! ## The parameter store -/

def scanning_ : State := { mode_ mSERVICE [] with ps := { State.reset.ps with scanning := true, slots := [((0x200, true), ⟨psEncodeS 0x200 1 5 1 [7], false⟩)] } }
/-- R475, R482: a copy with an uncorrectable word raises FS_PSTORE_ECC, is counted, and is not valid any more; corrected words are counted. -/
theorem test_scan_ecc : (let t := (scanning_.psArrays ⟨700, 3, [(0x200, true)]⟩).scanCopy 0x200 true
    t.getAct 224 && t.getF PSTORE.CNT_CE == 3 && t.getF PSTORE.CNT_INVALID == 1 && !t.psValid 0x200 true && scanning_.psValid 0x200 true) = true := by decide +kernel

/-! ## The queue -/

theorem test_idle : step State.reset = .next State.reset := rfl
theorem test_no_word : decodeTableWord 32 0xFFFFFFFF = none := rfl

/-! ## Well-formedness: each check refuses a term -/

def node_ (p : Nat) : FoundNode := ⟨p, 9, 1, 1, 0, false, 0, 1, false, false, []⟩
def env_ (l : List (Fin 24 × WalkResult)) : AscentEnv := ⟨⟨0, 0, []⟩, l, 0, 0, 0⟩
def head_ : MsgHead := ⟨.can 0, 1, 2, 9, 0, 0⟩

theorem wf_good : Instr.wf (.pgCtrlRun .firmware 0x96) = true ∧ Instr.wf (.spiWrite 0 0 0 [1] 0) = true ∧
    Instr.wf (.rtcAlarm (env_ [(0, ⟨[node_ 0, node_ 1], false⟩), (5, ⟨[], true⟩)])) = true := by decide +kernel
theorem wf_page : Instr.wf (.pgCtrlRun .firmware 0x83) = false := by decide +kernel
theorem wf_walkOrder : Instr.wf (.enumerationWalk 0 ⟨[node_ 1, node_ 1], false⟩) = false := by decide +kernel
theorem wf_walkLength : Instr.wf (.remeasTimer 0 ⟨(List.range 33).map node_, false⟩) = false := by decide +kernel
theorem wf_ascentOnce : Instr.wf (.rtcAlarm (env_ [(3, ⟨[], false⟩), (3, ⟨[], false⟩)])) = false := by decide +kernel
theorem wf_ascentWalk : Instr.wf (.wakePinQualified (env_ [(3, ⟨[node_ 2, node_ 1], false⟩)])) = false := by decide +kernel
theorem wf_scan : Instr.wf (.verifyScanEnd ⟨3201, 0, []⟩) = false := by decide +kernel
theorem wf_cells : Instr.wf (.sampleDataRx 0 (.monitor 1 0 0 0 (List.replicate 17 0) [])) = false := by decide +kernel
theorem wf_temps : Instr.wf (.sampleDataRx 0 (.monitor 1 0 0 0 [] (List.replicate 5 0))) = false := by decide +kernel
theorem wf_convTemps : Instr.wf (.sampleDataRx 0 (.conv 0 0 0 0 (List.replicate 5 0))) = false := by decide +kernel
theorem wf_badReq : Instr.wf (.modeCtrlBadReq .firmware 0xC5 1) = false := by decide +kernel
theorem wf_spiWords : Instr.wf (.spiWrite 0 0 0 [] 0) = false ∧ Instr.wf (.spiWrite 0 0 0 (List.replicate 65 0) 0) = false := by decide +kernel
theorem wf_spiCmd : Instr.wf (.spiUnknownCmd 0xC3 0 0 0) = false := by decide +kernel
theorem wf_pageReqData : Instr.wf (.pageReq head_ 0xA1 0 0 0 [1] 0) = false ∧ Instr.wf (.pageReq head_ 0xB2 0 0 0 (List.replicate 65 0) 0) = false := by decide +kernel
theorem wf_reply : Instr.wf (.replyRx 0 ⟨0, 0, 0, List.replicate 97 0, 0⟩) = false := by decide +kernel
theorem wf_phases : Instr.wf (.railPeriod 0 ⟨0, 0, List.replicate 17 0, 0, 0⟩) = false := by decide +kernel
theorem wf_ntc : Instr.wf (.ntcMeasurement [0]) = false := by decide +kernel
theorem wf_monitors : Instr.wf (.seqEvaluation ⟨[0]⟩) = false := by decide +kernel
theorem wf_sourceData : Instr.wf (.sourceRaise 0 (List.replicate 11 0)) = false := by decide +kernel
theorem wf_injCount : Instr.wf (.injStart .firmware false 0 0 0) = false := by decide +kernel
theorem wf_injInfo : Instr.wf (.injectedAccess true (List.replicate 11 0)) = false := by decide +kernel
theorem wf_copy : Instr.wf (.copyRx copy_) = false := by decide +kernel
theorem wf_relay : Instr.wf (.relayRx ⟨0, true, false, some (.conv 0 0 0 0 (List.replicate 5 0)), []⟩) = false := by decide +kernel
theorem wf_pmbus : Instr.wf (.pmbusPoll 0 ⟨0, [], 0⟩) = false := by decide +kernel
theorem wf_imgData : Instr.wf (.imgDataWrite .firmware 0 []) = false := by decide +kernel

/-! ## Lemmas for two witnesses -/

theorem isNaN_nan (k : Nat) : F32.isNaN (F32.nan k) = true := by
  have h : ∀ a : Nat, 0x7F800000 < (a ||| 0x7F800001) % 2 ^ 31 := fun a => by
    rw [Nat.or_mod_two_pow]
    exact Nat.lt_of_lt_of_le (by decide) Nat.right_le_or
  simpa [F32.isNaN, F32.nan, BitVec.toNat_or] using h _

theorem isNaN_mul (a b : Word) (h : F32.isNaN b = true) : F32.isNaN (F32.mul a b) = true := by
  simp [F32.mul, h, isNaN_nan]

theorem lt_nan (a b : Word) (h : F32.isNaN b = true) : F32.lt a b = false := by
  simp [F32.lt, h]

theorem getD_set {α : Type} (l : List α) (k : Nat) (a d : α) (h : k < l.length) : (l.set k a).getD k d = a := by
  simp [List.getD, h]

/-- The window of `svFull`: one cell sample, and every current sample. -/
abbrev fullWin : List SurveySample := ⟨4, 0, [], none⟩ :: (List.range svSamples).map (fun n => ⟨0, n, [], some 0⟩)

theorem updEst_win (s : State) (d : DevSt) (k : Nat) (w : List SurveySample) (h : k < s.est.length) :
    (({ s.updEst k (fun e => { e with win := w }) with dev := d } : State).estOf k).win = w := by
  simp only [updEst, estOf, getD_set _ _ _ _ h]

theorem svFull_win : ((svFull 23).estOf 23).win = fullWin := updEst_win _ _ _ _ (by decide +kernel)

theorem svFull_current (x : Option Word) (h : x ∈ (svFull 23).svCurrent 23) : x.isSome := by
  simp only [svCurrent, svFull_win, List.mem_map, List.mem_range] at h
  obtain ⟨n, hn, rfl⟩ := h
  cases hf : (fullWin.filter (fun x => x.current.isSome)).find? (fun x => decide (x.idx = n)) with
  | none =>
    have := List.find?_eq_none.1 hf ⟨0, n, [], some 0⟩ (List.mem_filter.2 ⟨List.mem_cons_of_mem _ (List.mem_map.2 ⟨n, List.mem_range.2 hn, rfl⟩), rfl⟩)
    simp at this
  | some y => have := List.mem_filter.1 (List.mem_of_find?_eq_some hf); simpa using this.2

theorem svFull_reason : (svFull 23).svReason 23 = 0 := by
  have hc : (svFull 23).getF (YPORT.PORT_CFG_CELLS (23 : Nat)) = 0 := by decide +kernel
  have hd : ((svFull 23).estOf 23).disturbed = false := by decide +kernel
  have hl : ((svFull 23).estOf 23).clamped = false := by decide +kernel
  have hm : ((svFull 23).svCurrent 23).filter (fun (x : Option Word) => x.isNone) = [] :=
    List.filter_eq_nil_iff.2 (fun x hx => by have := svFull_current x hx; cases x <;> simp_all)
  have hi : F32.isNaN ((svFull 23).getReg SURVEY.I_RATED) = true := by decide +kernel
  have hw : ((svFull 23).estOf 23).win.all (fun x => x.current.isSome) = false := by rw [svFull_win]; rfl
  unfold svReason
  simp only [hw, hd, hl]
  generalize (svFull 23).getReg SURVEY.I_RATED = r at *
  simp only [hc, hm, lt_nan _ _ (isNaN_mul _ _ hi), List.range_zero, List.map_nil, List.any_cons, List.any_nil, List.length_nil, Nat.not_lt_zero,
    decide_false, Bool.or_false, Bool.false_eq_true, if_false]
  simp

abbrev psAllState : State := Stored (mode_ mRUN []) .firmware PSTORE.PS_CMD (2 ^ 31 + 2 * 2 ^ 24)

theorem psBuilds0 : ((psConfigIds.drop 0).take 34).all (fun i => (psAllState.cfgBuild i).isSome) = true := by decide +kernel
theorem psBuilds1 : ((psConfigIds.drop 34).take 34).all (fun i => (psAllState.cfgBuild i).isSome) = true := by decide +kernel
theorem psBuilds2 : ((psConfigIds.drop 68).take 34).all (fun i => (psAllState.cfgBuild i).isSome) = true := by decide +kernel
theorem psBuilds3 : ((psConfigIds.drop 102).take 34).all (fun i => (psAllState.cfgBuild i).isSome) = true := by decide +kernel
theorem psBuilds4 : ((psConfigIds.drop 136).take 34).all (fun i => (psAllState.cfgBuild i).isSome) = true := by decide +kernel
theorem psBuilds5 : ((psConfigIds.drop 170).take 34).all (fun i => (psAllState.cfgBuild i).isSome) = true := by decide +kernel

theorem all_drop {α : Type} (p : α → Bool) (n m : Nat) (l : List α) (h : ((l.drop n).take m).all p = true) (h2 : (l.drop (n + m)).all p = true) :
    (l.drop n).all p = true := by
  rw [← List.take_append_drop m (l.drop n), List.all_append, h, List.drop_drop, h2]
  rfl

theorem psBuilds : psConfigIds.all (fun i => (psAllState.cfgBuild i).isSome) = true :=
  all_drop _ 0 34 _ psBuilds0 <| all_drop _ 34 34 _ psBuilds1 <| all_drop _ 68 34 _ psBuilds2 <| all_drop _ 102 34 _ psBuilds3 <| all_drop _ 136 34 _ psBuilds4 <| all_drop _ 170 34 _ psBuilds5 <| by decide +kernel

/-! ## Witnesses: one theorem for each statement with hypotheses -/

theorem witness_VceEvaluationsAndBudgets :
    (∃ (i : Fin 64) (u : Bool) (s : State), s.operating ∧ s.pgRunning pVCE ∧ s.gapFirst i ∧ 40 ≤ i.val ∧ i.val < 56)
    ∧ (∃ (i : Fin 64) (u : Bool) (s : State), s.operating ∧ s.pgRunning pVCE ∧ s.gapFirst i ∧ (i.val < 40 ∨ 56 ≤ i.val))
    ∧ (∃ (i : Fin 64) (u : Bool) (s : State), s.operating ∧ s.pgRunning pVCE ∧ s.gapFirst i ∧ s.slotFenced i)
    ∧ (∃ (i : Fin 32) (s : State), s.operating ∧ s.slotOn i ∧ (s.vslot i).released)
    ∧ (∃ (i : Fin 64) (s : State), s.operating ∧ s.slotOn i ∧ (s.vslot i).released) :=
  ⟨⟨47, true, relSlot 47, by decide +kernel⟩,
   ⟨39, false, relSlot 39, by decide +kernel⟩,
   ⟨63, false, (relSlot 63).setF (VSLOT.SLOT_STAT_FENCED 63) 1, by decide +kernel⟩,
   ⟨31, relSlot 31, by decide +kernel⟩,
   ⟨63, relSlot 63, by decide +kernel⟩⟩

theorem witness_VceSchedulesAndHandovers :
    (∃ (s : State) (l : List (Nat × Nat × Nat)) (loads : List (Nat × Nat)), s.powered ∧ s.schedule = some (l, loads))
    ∧ (∃ (s : State), s.powered ∧ s.schedule = none)
    ∧ (∃ (s : State), s.powered ∧ s.getB VCE.SCHED_STAT_PENDING)
    ∧ (∃ (s : State), s.mode = mWATCH ∧ s.getF VCE.HANDOVER_RESULT = 1 ∧ s.handoverOk (s.getF VCE.HANDOVER_FROM) (s.getF VCE.HANDOVER_TO))
    ∧ (∃ (s : State), s.mode = mWATCH ∧ s.getF VCE.HANDOVER_RESULT = 1 ∧ s.handoverOk (s.getF VCE.HANDOVER_FROM) (s.getF VCE.HANDOVER_TO) = false)
    ∧ (∃ (s : State), (s.mode = mRUN ∨ s.mode = mDEGRADED) ∧ s.getF VCE.HANDOVER_RESULT ≠ 1 ∧ s.huState = 0 ∧ s.shelf.startReg = false ∧ s.getF SHELF.REG_STAT_MODE_ACT ≠ s.wantMode ∧ s.handoverOk s.actSlot (s.roleSlot (modeRole s.wantMode)) ∧ s.shelf.regPend) :=
  ⟨⟨mode_ mWATCH [], [], List.replicate 4 (0, 0), by decide +kernel⟩,
   ⟨noSchedule, by decide +kernel⟩,
   ⟨mode_ mWATCH [(VCE.SCHED_STAT_PENDING, 1)], by decide +kernel⟩,
   ⟨handWatch, by decide +kernel⟩,
   ⟨mode_ mWATCH [(VCE.HANDOVER_RESULT, 1)], by decide +kernel⟩,
   ⟨handRun true, by decide +kernel⟩⟩

theorem witness_VceSlotRequests :
    (∃ (r : Requester) (i : Fin 8) (p : Bool) (s : State), Accepts s r (VSLOT.SLOT_CTRL i) (s.getN (VSLOT.SLOT_CTRL i) + 2 ^ 31 + p.toNat * 2 ^ 30) ∧ s.getN (VSLOT.SLOT_CTRL i) < 2 ^ 28 ∧ s.getB (VSLOT.SLOT_STAT_SWAP_PEND i) = false)
    ∧ (∃ (r : Requester) (i : Fin 8) (s : State), Accepts s r (VSLOT.SLOT_CTRL i) (s.getN (VSLOT.SLOT_CTRL i) + 2 ^ 29) ∧ s.getN (VSLOT.SLOT_CTRL i) < 2 ^ 28)
    ∧ (∃ (r : Requester) (i : Fin 64) (s : State), Accepts s r (VSLOT.SLOT_CTRL i) (s.getN (VSLOT.SLOT_CTRL i) + 2 ^ 28) ∧ s.getN (VSLOT.SLOT_CTRL i) < 2 ^ 28)
    ∧ (∃ (r : Requester) (i : Fin 64) (m : BitVec 2) (k : Fin 64) (s : State), Accepts s r (VSLOT.SLOT_CTRL i) (k * 2 ^ 16 + m.toNat))
    ∧ (∃ (r : Requester) (a b : Fin 64) (s : State), Accepts s r VCE.HANDOVER (2 ^ 31 + b * 2 ^ 8 + a))
    ∧ (∃ (r : Requester) (s : State), Accepts s r VCE.VCE_CTRL 1) :=
  ⟨⟨.firmware, 7, true, slotPage 7, by decide +kernel⟩,
   ⟨.firmware, 7, slotPage 7, by decide +kernel⟩,
   ⟨.firmware, 63, slotPage 63, by decide +kernel⟩,
   ⟨.firmware, 63, 2, 5, slotPage 63, by decide +kernel⟩,
   ⟨.firmware, 0, 63, slotPage 0, by decide +kernel⟩,
   ⟨.firmware, slotPage 0, by decide +kernel⟩⟩

theorem witness_ShelfCycleAndRegulation :
    (∃ (c : CycleIn) (s : State), s.operating)
    ∧ (∃ (c : CycleIn) (s : State), s.mode = mASCENT)
    ∧ (∃ (s : State), s.operating ∧ s.dev.late = [])
    ∧ (∃ (s : State), s.shelf.startReg ∧ s.inhibit = false ∧ (s.mode = mRUN ∨ s.mode = mDEGRADED))
    ∧ (∃ (s : State), s.getB SHELF.REG_STAT_START_RAMP ∧ s.getF SHELF.REG_STAT_MODE_ACT = 0 ∧ F32.eqv s.shelf.startRef s.busvRef ∧ s.dev.late = [])
    ∧ (∃ (s : State), s.getB SHELF.REG_STAT_START_RAMP ∧ s.getF SHELF.REG_STAT_MODE_ACT ≠ 0 ∧ F32.eqv (s.getReg SHELF.P_REF) s.pTarget ∧ s.dev.late = []) :=
  ⟨⟨⟨0, 0, 0, 0, 0⟩, mode_ mRUN [], by decide +kernel⟩,
   ⟨⟨0, 0, 0, 0, 0⟩, mode_ mASCENT [], by decide +kernel⟩,
   ⟨mode_ mRUN [], by decide +kernel⟩,
   ⟨(mode_ mRUN []).updShelf (fun x => { x with startReg := true }), by decide +kernel⟩,
   ⟨(mode_ mRUN [(SHELF.REG_STAT_START_RAMP, 1)]).updShelf (fun x => { x with startRef := (mode_ mRUN []).busvRef }), by decide +kernel⟩,
   ⟨mode_ mRUN [(SHELF.REG_STAT_START_RAMP, 1), (SHELF.REG_STAT_MODE_ACT, 1)], by decide +kernel⟩⟩

theorem witness_ShelfProtectionsRaise :
    (∃ (s : State), s.shelf.limDir ≠ 0 ∧ s.shelf.limByStr ∧ s.getF ALLOC.ALLOC_CFG_SHORT_N ≤ s.shelf.limRun ∧ s.getCond 108 = false ∧ s.dev.late = [])
    ∧ (∃ (s : State), s.shelf.capDir ≠ 0 ∧ 1000 * s.getF CREST.EXCEED_TIME ≤ s.shelf.capUs ∧ s.getB CREST.CREST_STAT_EXCEED = false ∧ s.dev.late = [])
    ∧ (∃ (k : Fin 24) (s : State), s.operating ∧ s.pgRunning (pYPORT k) ∧ s.getB (YPORT.PORT_CFG_MONITOR_ONLY k) = false ∧ s.getF ALLOC.ALLOC_CFG_STATUS_TMO ≤ s.shelf.statAge.getD k 0 ∧ s.shelf.tmoSeen.getD k false = false ∧ s.dev.late = [])
    ∧ (∃ (k : Fin 24) (s : State), s.operating ∧ 4 ≤ s.shelf.misApply.getD k 0)
    ∧ (∃ (s : State), s.operating ∧ 0 < s.shelf.ovRun ∧ s.getF SHELF.BUS_N_OV_N ≤ s.shelf.ovRun ∧ s.getCond 104 = false ∧ s.dev.late = [])
    ∧ (∃ (s : State), s.operating ∧ 0 < s.shelf.uvRun ∧ s.getF SHELF.BUS_N_UV_N ≤ s.shelf.uvRun ∧ s.getCond 105 = false ∧ s.dev.late = [])
    ∧ (∃ (s : State), s.operating ∧ s.pgRunning pSHELF ∧ s.getB SHELF.SHELF_CFG_PLANT_EN ∧ s.shelf.plantOn ∧ 10000 * s.getF SHELF.PLANT_TMO_T ≤ s.shelf.plantUs ∧ s.getCond 111 = false ∧ s.getF SHELF.REG_STAT_MODE_ACT = 1 ∧ s.getB SHELF.SHELF_CFG_CMD_SRC = false ∧ s.dev.late = [])
    ∧ (∃ (s : State), s.operating ∧ s.pgRunning pSHELF ∧ s.getB SHELF.SHELF_CFG_PLANT_EN ∧ s.shelf.plantOn ∧ 10000 * s.getF SHELF.PLANT_TMO_T ≤ s.shelf.plantUs ∧ s.getCond 111 = false ∧ (s.getF SHELF.REG_STAT_MODE_ACT ≠ 1 ∨ s.getB SHELF.SHELF_CFG_CMD_SRC = true) ∧ s.dev.late = [])
    ∧ (∃ (i : Fin 8) (r : Nat) (s : State), [roBUSV, roHOLD, roPCMD].find? (fun r => s.pgRunning pSHELF && s.roleSlot r = i && s.slotFenced i) = some r ∧ s.getB SHELF.ROLE_SPARE_EN ∧ s.shelf.spareRole = 0 ∧ s.getF SHELF.ROLE_SPARE ≠ i ∧ s.slotReady (s.getF SHELF.ROLE_SPARE) ∧ s.getF (VSLOT.SLOT_CFG_YSRC (s.getF SHELF.ROLE_SPARE)) = (if r = roPCMD then 3 else 1) ∧ i.val ≠ s.actSlot ∧ s.getF SHELF.ROLE_SPARE < 8)
    ∧ (∃ (i : Fin 8) (r p : Nat) (v s : State), [roBUSV, roHOLD, roPCMD].find? (fun r => s.pgRunning pSHELF && s.roleSlot r = i && s.slotFenced i) = some r ∧ p = s.getF SHELF.ROLE_SPARE ∧ s.getB SHELF.ROLE_SPARE_EN ∧ s.shelf.spareRole = 0 ∧ p ≠ i ∧ s.slotReady p ∧ s.getF (VSLOT.SLOT_CFG_YSRC p) = (if r = roPCMD then 3 else 1) ∧ i.val = s.actSlot ∧ v = ((((s.setF (VSLOT.SLOT_CTRL_MODE p) 0).updVs p (fun v => { v with needPreset := true, target := some (s.getReg (VSLOT.OUT i)) })).updShelf (fun x => { x with spareRole := r })).setF SHELF.REG_STAT_SPARE_IN_USE 1))
    ∧ (∃ (i : Fin 8) (r : Nat) (s : State), [roBUSV, roHOLD, roPCMD].find? (fun r => s.pgRunning pSHELF && s.roleSlot r = i && s.slotFenced i) = some r ∧ (s.getB SHELF.ROLE_SPARE_EN = false ∨ s.shelf.spareRole ≠ 0 ∨ s.getF SHELF.ROLE_SPARE = i ∨ s.slotReady (s.getF SHELF.ROLE_SPARE) = false ∨ s.getF (VSLOT.SLOT_CFG_YSRC (s.getF SHELF.ROLE_SPARE)) ≠ (if r = roPCMD then 3 else 1))) :=
  ⟨⟨(mode_ mRUN []).updShelf (fun x => { x with limDir := 1, limByStr := true, limRun := 65535 }), by decide +kernel⟩,
   ⟨(mode_ mRUN []).updShelf (fun x => { x with capDir := 2, capUs := 10 ^ 9 }), by decide +kernel⟩,
   ⟨23, (mode_ mRUN [(pgStatState (pYPORT 23), 2)]).updShelf (fun x => { x with statAge := List.replicate 24 100 }), by decide +kernel⟩,
   ⟨23, (mode_ mRUN []).updShelf (fun x => { x with misApply := List.replicate 24 4 }), by decide +kernel⟩,
   ⟨(mode_ mRUN []).updShelf (fun x => { x with ovRun := 65535 }), by decide +kernel⟩,
   ⟨(mode_ mRUN []).updShelf (fun x => { x with uvRun := 65535 }), by decide +kernel⟩,
   ⟨(mode_ mRUN [(pgStatState pSHELF, 2), (SHELF.SHELF_CFG_PLANT_EN, 1), (SHELF.REG_STAT_MODE_ACT, 1), (SHELF.SHELF_CFG_CMD_SRC, 0), (SHELF.SHELF_CFG_LOSS_ACT, 2)]).updShelf (fun x => { x with plantOn := true, plantUs := 10 ^ 9 }), by decide +kernel⟩,
   ⟨(mode_ mRUN [(pgStatState pSHELF, 2), (SHELF.SHELF_CFG_PLANT_EN, 1)]).updShelf (fun x => { x with plantOn := true, plantUs := 10 ^ 9 }), by decide +kernel⟩,
   ⟨4, roPCMD, mode_ mRUN [(pgStatState pSHELF, 2), (VSLOT.SLOT_STAT_FENCED 4, 1), (SHELF.ROLE_SPARE_EN, 1), (SHELF.ROLE_SPARE, 7), (VSLOT.SLOT_CFG_EN 7, 1), (VSLOT.SLOT_CFG_YSRC 7, 3), (pgStatState (pVSLOT 7), 2)], by decide +kernel⟩,
   ⟨4, roPCMD, 7, ((((spare_.setF (VSLOT.SLOT_CTRL_MODE 7) 0).updVs 7 (fun v => { v with needPreset := true, target := some (spare_.getReg (VSLOT.OUT 4)) })).updShelf (fun x => { x with spareRole := roPCMD })).setF SHELF.REG_STAT_SPARE_IN_USE 1), spare_, by decide +kernel⟩,
   ⟨4, roPCMD, mode_ mRUN [(pgStatState pSHELF, 2), (VSLOT.SLOT_STAT_FENCED 4, 1)], by decide +kernel⟩⟩

theorem witness_HoldupMoves :
    (∃ (s : State), s.operating ∧ s.huPresent.1)
    ∧ (∃ (s : State), s.operating ∧ s.huPresent.2.1)
    ∧ (∃ (r : Requester) (s : State), Accepts s r HOLDUP.RELEASE 1 ∧ s.pgRunning pHOLDUP)
    ∧ (∃ (s : State), s.operating ∧ s.pgRunning pHOLDUP ∧ s.getB HOLDUP.HU_CFG_AUTO_REL ∧ 1000 * s.getF HOLDUP.HU_CFG_AUTO_REL_MS ≤ s.shelf.huQuietUs ∧ s.dev.late = [])
    ∧ (∃ (s : State), s.huState = 1 ∧ s.getB HOLDUP.HU_STAT_REL_LATCHED ∧ s.huPresent = (false, false, false) ∧ F32.le (s.getReg HOLDUP.V_EXIT) s.vBus ∧ s.dev.late = [])
    ∧ (∃ (s : State), s.huState = 2 ∧ 1000 * s.getF HOLDUP.HB_RAMP_MS ≤ s.shelf.hbUs ∧ s.handoverOk s.actSlot (s.roleSlot (modeRole s.wantMode)) ∧ s.shelf.regPend = false ∧ s.dev.late = [])
    ∧ (∃ (u v s : State), s.huState = 2 ∧ 1000 * s.getF HOLDUP.HB_RAMP_MS ≤ s.shelf.hbUs ∧ s.handoverOk s.actSlot (s.roleSlot (modeRole s.wantMode)) ∧ s.shelf.regPend ∧ u = ((s.handover s.actSlot (s.roleSlot (modeRole s.wantMode))).setF SHELF.REG_STAT_MODE_ACT s.wantMode).setF HOLDUP.HU_STAT_STATE 0 ∧ v = (u.updShelf (fun x => { x with regPend := false })).setF SHELF.REG_STAT_MODE_CHG 2 ∧ s.dev.late = [])
    ∧ (∃ (s : State), s.huState = 2 ∧ 1000 * s.getF HOLDUP.HB_RAMP_MS ≤ s.shelf.hbUs ∧ s.handoverOk s.actSlot (s.roleSlot (modeRole s.wantMode)) = false ∧ s.dev.late = [])
    ∧ (∃ (s : State), s.huState = 1 ∧ s.getF HOLDUP.TMAX_S ≠ 0 ∧ 1000000 * s.getF HOLDUP.TMAX_S < s.shelf.huUs ∧ s.shelf.huTmaxSeen = false ∧ s.dev.late = [])
    ∧ (∃ (r : Requester) (p : Bool) (s : State), Accepts s r SHELF.SHELF_CFG (s.getN SHELF.SHELF_CFG / 2 * 2 + p.toNat) ∧ s.getF SHELF.REG_STAT_MODE_ACT ≠ p.toNat)
    ∧ (∃ (r : Requester) (p : Bool) (v : Nat) (s : State), v = s.getN SHELF.SHELF_CFG / 2 * 2 + p.toNat ∧ Accepts s r SHELF.SHELF_CFG v ∧ s.getF SHELF.REG_STAT_MODE_ACT = p.toNat ∧ s.shelf.regPend = false)
    ∧ (∃ (r : Requester) (p : Bool) (v : Nat) (s : State), v = s.getN SHELF.SHELF_CFG / 2 * 2 + p.toNat ∧ Accepts s r SHELF.SHELF_CFG v ∧ s.getF SHELF.REG_STAT_MODE_ACT = p.toNat ∧ s.shelf.regPend) :=
  ⟨⟨(mode_ mRUN [(HOLDUP.HU_CFG_V_EN, 1)]).updShelf (fun x => { x with huV := 255 }), by decide +kernel⟩,
   ⟨mode_ mRUN [(HOLDUP.HU_CFG_PIN_EN, 1), (SEQ.INP_STAT_FILT 1, 1)], by decide +kernel⟩,
   ⟨.firmware, mode_ mRUN [(pgStatState pHOLDUP, 2)], by decide +kernel⟩,
   ⟨(mode_ mHOLDUP [(HOLDUP.HU_STAT_STATE, 1), (pgStatState pHOLDUP, 2), (HOLDUP.HU_CFG_AUTO_REL, 1)]).updShelf (fun x => { x with huQuietUs := 10 ^ 9 }), by decide +kernel⟩,
   ⟨(mode_ mHOLDUP [(HOLDUP.HU_STAT_STATE, 1), (HOLDUP.HU_STAT_REL_LATCHED, 1)]).setReg SAMPLE.V_BUS 0x7F000000, by decide +kernel⟩,
   ⟨hbEnd true, by decide +kernel⟩,
   ⟨(hbAfter hbPend), (((hbAfter hbPend).updShelf (fun x => { x with regPend := false })).setF SHELF.REG_STAT_MODE_CHG 2), hbPend, by decide +kernel⟩,
   ⟨hbEnd false, by decide +kernel⟩,
   ⟨(mode_ mHOLDUP [(HOLDUP.HU_STAT_STATE, 1), (HOLDUP.TMAX_S, 1)]).updShelf (fun x => { x with huUs := 10 ^ 12 }), by decide +kernel⟩,
   ⟨.firmware, true, mode_ mRUN [(pgStatState pSHELF, 2)], by decide +kernel⟩,
   ⟨.firmware, false, (mode_ mRUN [(pgStatState pSHELF, 2)]).getN SHELF.SHELF_CFG / 2 * 2, mode_ mRUN [(pgStatState pSHELF, 2)], by decide +kernel⟩,
   ⟨.firmware, false, (mode_ mRUN [(pgStatState pSHELF, 2)]).getN SHELF.SHELF_CFG / 2 * 2, (mode_ mRUN [(pgStatState pSHELF, 2)]).updShelf (fun x => { x with regPend := true }), by decide +kernel⟩⟩

theorem witness_CorniceLife :
    (∃ (up : Bool) (at_ i : Nat) (s : State), s.operating ∧ s.mode ≠ mWATCH ∧ (s.getF CORNICE.CN_CFG_HINT_EDGE = 2 ∨ (s.getF CORNICE.CN_CFG_HINT_EDGE = 1 ∧ up = false) ∨ (s.getF CORNICE.CN_CFG_HINT_EDGE ≠ 1 ∧ up = true)) ∧ s.getB (SEQ.INP_STAT_STUCK 2) = false ∧ (i = (if s.getB CORNICE.CN_CFG_HINT_SRC = false ∧ s.cn.intentAt.any (fun t => decide (s.dev.nowUs + at_ - t < 1000 * s.getF CORNICE.HINT_AGE_MS)) = true then s.cn.hintSel else s.getF CORNICE.CN_CFG_HINT_SEL)) ∧ s.cnWhy (s.getB CORNICE.CN_CFG_HINT_EN) (s.getReg (CORNICE.HINT_LEAD i)) (s.getReg (CORNICE.HINT_AMP i)) true = 0 ∧ s.dev.late = [])
    ∧ (∃ (up : Bool) (at_ : Nat) (s : State), s.operating ∧ s.mode ≠ mWATCH ∧ (s.getF CORNICE.CN_CFG_HINT_EDGE = 2 ∨ (s.getF CORNICE.CN_CFG_HINT_EDGE = 1 ∧ up = false) ∨ (s.getF CORNICE.CN_CFG_HINT_EDGE ≠ 1 ∧ up = true)) ∧ s.getB (SEQ.INP_STAT_STUCK 2) = false ∧ s.getB CORNICE.CN_CFG_EN = false ∧ s.dev.late = [])
    ∧ (∃ (s : State), s.operating ∧ s.cnDue ∧ s.cnModeBad = false ∧ s.dev.late = [])
    ∧ (∃ (s : State), s.cnState = cnOPEN ∧ s.cn.fold = none ∧ s.cnLastDone ∧ s.dev.late = [])
    ∧ (∃ (s : State), s.cnState = cnCOLLAPSING ∧ F32.isZero (s.getReg CORNICE.PHI_REQ) ∧ s.cn.recorded ∧ (s.getF CORNICE.CN_CFG_MISS_LIMIT = 0 ∨ s.getF CORNICE.CNT_C_MISS < s.getF CORNICE.CN_CFG_MISS_LIMIT) ∧ s.dev.late = [])
    ∧ (∃ (s : State), s.cnState = cnCOLLAPSING ∧ F32.isZero (s.getReg CORNICE.PHI_REQ) ∧ s.cn.recorded ∧ s.getF CORNICE.CN_CFG_MISS_LIMIT ≠ 0 ∧ s.getF CORNICE.CN_CFG_MISS_LIMIT ≤ s.getF CORNICE.CNT_C_MISS ∧ s.dev.late = [])
    ∧ (∃ (s : State), s.cnState = cnBACKOFF ∧ s.cn.backoffUs = 0)
    ∧ (∃ (r : Requester) (s : State), Accepts s r CORNICE.CN_CMD 1 ∧ s.cnState = cnPENDING)
    ∧ (∃ (r : Requester) (s : State), Accepts s r CORNICE.CN_CMD 2 ∧ s.cnState = cnBACKOFF)
    ∧ (∃ (r : Requester) (s : State), Accepts s r CORNICE.CNT_CTRL 1) :=
  ⟨⟨true, 7, 7, mode_ mRUN [(CORNICE.CN_CFG_HINT_EDGE, 2), (CORNICE.CN_CFG_HINT_SRC, 1), (CORNICE.CN_CFG_HINT_EN, 1), (CORNICE.CN_CFG_EN, 1), (pgStatState pCORNICE, 2), (CORNICE.CN_CFG_HINT_SEL, 7), (⟨CORNICE.HINT_AMP 7, 0, 32⟩, 0x3F800000)], by decide +kernel⟩,
   ⟨false, 7, mode_ mRUN [(CORNICE.CN_CFG_HINT_EDGE, 1), (CORNICE.CN_CFG_EN, 0)], by decide +kernel⟩,
   ⟨({ mode_ mRUN [(CORNICE.CN_STAT_STATE, cnPENDING)] with dev := { DevSt.rest with nowUs := 1000 } }), by decide +kernel⟩,
   ⟨({ mode_ mRUN [(CORNICE.CN_STAT_STATE, cnOPEN), (CORNICE.CN_STAT_OPEN, 1)] with dev := { DevSt.rest with nowUs := 10 ^ 9 } }), by decide +kernel⟩,
   ⟨{ mode_ mRUN [(CORNICE.CN_STAT_STATE, cnCOLLAPSING), (CORNICE.CN_CFG_MISS_LIMIT, 3), (CORNICE.CN_STAT_OPEN, 1)] with cn := { CorniceSt.rest with recorded := true } }, by decide +kernel⟩,
   ⟨{ mode_ mRUN [(CORNICE.CN_STAT_STATE, cnCOLLAPSING), (CORNICE.CN_CFG_MISS_LIMIT, 3), (CORNICE.CNT_C_MISS, 3), (CORNICE.CN_STAT_OPEN, 1)] with cn := { CorniceSt.rest with recorded := true } }, by decide +kernel⟩,
   ⟨mode_ mRUN [(CORNICE.CN_STAT_STATE, cnBACKOFF), (CORNICE.CNT_C_MISS, 3)], by decide +kernel⟩,
   ⟨.firmware, mode_ mRUN [(CORNICE.CN_STAT_STATE, cnPENDING), (pgStatState pCORNICE, 2)], by decide +kernel⟩,
   ⟨.firmware, mode_ mRUN [(CORNICE.CN_STAT_STATE, cnBACKOFF), (pgStatState pCORNICE, 2), (CORNICE.CNT_C_MISS, 3)], by decide +kernel⟩,
   ⟨.firmware, mode_ mRUN [(CORNICE.CNT_B_REFUSED, 3), (pgStatState pCORNICE, 2), (CORNICE.CNT_C_MISS, 3)], by decide +kernel⟩⟩

theorem witness_PlantMessagesAct :
    (∃ (h : MsgHead) (s : State), PlantHears s h 0x01 [] true)
    ∧ (∃ (h : MsgHead) (s : State), PlantHears s h 0x03 [] true)
    ∧ (∃ (h : MsgHead) (d c : Word) (v : BitVec 2) (s : State), PlantHears s h 0x04 (capBody d c v.toNat) false)
    ∧ (∃ (h : MsgHead) (p : Word) (s : State), PlantHears s h 0x05 (leBytes 4 p.toNat) false)
    ∧ (∃ (h : MsgHead) (a l : Word) (n : Half) (hint : BitVec 3) (at_ : Nat) (s : State), PlantHears s h 0x02 (intentBody a l n hint.toNat) false ∧ (s.cn.lastIsn = none ∨ (s.cn.lastIsn.map (isnNewer n)) = some true) ∧ s.mode ≠ mWATCH ∧ F32.isZero a = false ∧ s.cnWhy (s.getB CORNICE.CN_CFG_INTENT_EN) l a false = 0 ∧ s.dev.late = []) :=
  ⟨⟨plantHead 0x01 [], plantState 1, by decide +kernel⟩,
   ⟨plantHead 0x03 [], plantState 0, by decide +kernel⟩,
   ⟨plantHead 0x04 (capBody 5 6 3), 5, 6, 3, plantState 1, by decide +kernel⟩,
   ⟨plantHead 0x05 (leBytes 4 7), 7, plantState 0, by decide +kernel⟩,
   ⟨plantHead 0x02 (intentBody 0x40000000 9 3 1), 0x40000000, 9, 3, 1, 8, (plantState 1).setF CORNICE.CN_CFG_INTENT_EN 1 |>.setF CORNICE.CN_CFG_EN 1 |>.setF (pgStatState pCORNICE) 2 |>.setReg CORNICE.LEAD_MAX 100, by decide +kernel⟩⟩

theorem witness_YoridLinkEvents :
    (∃ (p : Fin 24) (s : State), s.powered ∧ s.getB (YPORT.PORT_STAT_LINK p) = false ∧ s.pgRunning (pYPORT p) = false)
    ∧ (∃ (p : Fin 24) (s : State), s.powered ∧ s.getB (YPORT.PORT_STAT_LINK p) = false ∧ s.pgRunning (pYPORT p) ∧ s.getB (YPORT.PORT_STAT_ENUM_BUSY p) = false)
    ∧ (∃ (p : Fin 24) (s : State), s.powered ∧ s.getB (YPORT.PORT_STAT_LINK p) ∧ s.pgRunning (pYPORT p))
    ∧ (∃ (p : Fin 24) (w : WalkResult) (s : State), s.portLive p ∧ s.getB (YPORT.PORT_STAT_LINK p))
    ∧ (∃ (p : Fin 24) (w : WalkResult) (s : State), s.portLive p ∧ s.getB (YPORT.PORT_STAT_LINK p) ∧ s.badChain p w ∧ w.nodes.length ≤ 32)
    ∧ (∃ (p : Fin 24) (w : WalkResult) (s : State), s.portLive p ∧ s.getB (YPORT.PORT_STAT_LINK p) ∧ s.getB (YPORT.PORT_STAT_ENUM_BUSY p) = false ∧ s.walkDiffers p w = false)
    ∧ (∃ (p : Fin 24) (w : WalkResult) (s : State), s.portLive p ∧ s.getB (YPORT.PORT_STAT_LINK p) ∧ s.getB (YPORT.PORT_STAT_ENUM_BUSY p) = false ∧ s.walkDiffers p w)
    ∧ (∃ (p : Fin 24) (s : State), s.portLive p ∧ s.isActive ∧ (s.prt p).holdDue ∧ s.getB (YPORT.PORT_STAT_CONV p))
    ∧ (∃ (p : Fin 24) (w : WalkResult) (s : State), s.portLive p ∧ s.getB (YPORT.PORT_CFG_RING p) ∧ w.farPort = false)
    ∧ (∃ (p : Fin 24) (w : WalkResult) (s : State), s.portLive p ∧ s.getB (YPORT.PORT_STAT_BROKEN p) ∧ w.farPort ∧ (s.locateRing p w).walkDiffers p w = false)
    ∧ (∃ (p : Fin 24) (w : WalkResult) (s : State), s.portLive p ∧ s.getB (YPORT.PORT_STAT_BROKEN p) ∧ w.farPort ∧ (s.locateRing p w).walkDiffers p w)
    ∧ (∃ (p : Fin 24) (s : State), s.powered ∧ s.pgState (pYPORT p) ≠ psOFF)
    ∧ (∃ (p : Fin 24) (s : State), s.powered ∧ s.pgState (pYPORT p) ≠ psOFF ∧ (s.getF (YPORT.PORT_TMO_CRC_LIMIT p) = 0 ∨ ((s.prt p).crcAt.filter (fun t => s.dev.nowUs < t + 1000000)).length < s.getF (YPORT.PORT_TMO_CRC_LIMIT p)))
    ∧ (∃ (p : Fin 24) (c : EnumCmd) (q hop : Byte) (s : State), s.portLive p ∧ p.val < s.port.length ∧ (s.prt p).tx.length < 14)
    ∧ (∃ (p : Fin 24) (c : EnumCmd) (q hop : Byte) (s : State), s.portLive p ∧ 14 ≤ (s.prt p).tx.length) :=
  ⟨⟨23, mode_ mRUN [], by decide +kernel⟩,
   ⟨23, port_ 23 [], by decide +kernel⟩,
   ⟨0, port_ 0 [(YPORT.PORT_STAT_LINK 0, 1), (YPORT.PORT_STAT_HERE 0, 5), (YPORT.PORT_CFG_RING 0, 1), (YPORT.NODE_POS_REACH 0 31, 1)], by decide +kernel⟩,
   ⟨23, ⟨[], false⟩, port_ 23 [(YPORT.PORT_STAT_LINK 23, 1)], by decide +kernel⟩,
   ⟨0, ⟨[conv_, { conv_ with pos := 2 }], false⟩, port_ 0 [(YPORT.PORT_STAT_LINK 0, 1)], by decide +kernel⟩,
   ⟨0, ⟨[], false⟩, port_ 0 [(YPORT.PORT_STAT_LINK 0, 1)], by decide +kernel⟩,
   ⟨0, ⟨[{ conv_ with addrValid := true }], true⟩, port_ 0 [(YPORT.PORT_STAT_LINK 0, 1)], by decide +kernel⟩,
   ⟨5, (port_ 5 [(YPORT.PORT_STAT_CONV 5, 1)]).updPort 5 (fun x => { x with holdDue := true }), by decide +kernel⟩,
   ⟨23, ⟨[{ conv_ with addrValid := true }], false⟩, port_ 23 [(YPORT.PORT_CFG_RING 23, 1), (YPORT.NODE_POS_REACH 23 31, 1)], by decide +kernel⟩,
   ⟨0, ⟨[], true⟩, port_ 0 [(YPORT.PORT_STAT_BROKEN 0, 1), (YPORT.PORT_CFG_RING 0, 1)], by decide +kernel⟩,
   ⟨0, ⟨[{ conv_ with addrValid := true }], true⟩, port_ 0 [(YPORT.PORT_STAT_BROKEN 0, 1)], by decide +kernel⟩,
   ⟨0, port_ 0 [(YPORT.CNT_FRM_MALF 0, 65535)], by decide +kernel⟩,
   ⟨0, port_ 0 [(YPORT.PORT_TMO_CRC_LIMIT 0, 1)], by decide +kernel⟩,
   ⟨23, .locate, 7, 3, port_ 23 [], by decide +kernel⟩,
   ⟨23, .locate, 7, 3, (port_ 23 []).updPort 23 (fun x => { x with tx := List.replicate 14 24 }), by decide +kernel⟩⟩

theorem witness_YoridFrames :
    (∃ (p : Fin 24) (q st : Byte) (i v : Word) (ts : List Half) (o : OpenSet) (s : State), s.portLive p ∧ s.sample.set_ = some o ∧ q.toNat = o.ssn.toNat % 256 ∧ s.readLe (bankAt p o.ssn) 4 = o.ssn.toNat)
    ∧ (∃ (p : Fin 24) (k : Fin 32) (q st : Byte) (f : Nat) (vs ts : List Half) (o : OpenSet) (s : State), s.portLive p ∧ s.sample.set_ = some o ∧ q.toNat = o.ssn.toNat % 256 ∧ s.readLe (bankAt p o.ssn) 4 = o.ssn.toNat ∧ k.val ≠ 0)
    ∧ (∃ (p : Fin 24) (q st : Byte) (i v : Word) (ts : List Half) (o : OpenSet) (s : State), s.portLive p ∧ s.sample.set_ = some o ∧ q.toNat ≠ o.ssn.toNat % 256)
    ∧ (∃ (p : Fin 24) (q st : Byte) (i v : Word) (ts : List Half) (c : ClosedSet) (s : State), s.portLive p ∧ s.sample.set_ = none ∧ s.sample.closed = some c ∧ q.toNat = c.ssn.toNat % 256)
    ∧ (∃ (p : Fin 24) (f : StatusFrame) (s : State), s.portLive p ∧ ((s.prt p).statusAt.isSome ∨ s.isActive = false ∨ s.isPair ∨ epochNewer f.epoch.toNat (s.getF (YPORT.EPOCH_TX_EPOCH p)) = false))
    ∧ (∃ (p : Fin 24) (f : EventFrame) (s : State), s.portLive p ∧ s.evtSeen p f.node f.seq.toNat = false ∧ f.cls = 1)
    ∧ (∃ (p : Fin 24) (f : EventFrame) (s : State), s.portLive p ∧ s.evtSeen p f.node f.seq.toNat)
    ∧ (∃ (p : Fin 24) (f : NackFrame) (s : State), s.portLive p ∧ f.refType = 4 ∧ f.reason = 4)
    ∧ (∃ (p : Fin 24) (f : RingFrame) (x : Xact) (s : State), s.portLive p ∧ f.h0.toNat < 64 ∧ f.h0.getLsbD 5 ∧ f.h1.toNat % 16 = ftREAD ∧ f.payload.length ≤ 96 ∧ (s.prt p).xact = some x ∧ x.node = f.h0.toNat % 32 ∧ x.seq = f.seq.toNat ∧ x.typ = ftREAD)
    ∧ (∃ (p : Fin 24) (f : RingFrame) (w : Word) (r : OwnReq) (s : State), s.portLive p ∧ f.h0.toNat < 64 ∧ f.h0.getLsbD 5 ∧ f.h1.toNat % 16 = ftWRITE_ACK ∧ f.payload.length ≤ 96 ∧ (s.prt p).xact = none ∧ (s.prt p).own.find? (fun r => r.seq == some f.seq.toNat && (r.node == f.h0.toNat % 32 && answers r.typ ftWRITE_ACK)) = some r ∧ r.use = .hold w)
    ∧ (∃ (p : Fin 24) (f : FarSetpoint) (s : State), s.portLive p ∧ s.isPair ∧ s.getB (YPORT.PORT_CFG_RING p))
    ∧ (∃ (p : Fin 24) (q : Byte) (x : Xact) (s : State), (s.prt p).xact = some x ∧ x.seq = q.toNat ∧ x.tries < s.getF (YPORT.PORT_TMO_RETRIES p) ∧ s.mayOriginate x.typ)
    ∧ (∃ (p : Fin 24) (q : Byte) (x : Xact) (s : State), (s.prt p).xact = some x ∧ x.seq = q.toNat ∧ s.getF (YPORT.PORT_TMO_RETRIES p) ≤ x.tries ∧ x.node < 32)
    ∧ (∃ (p : Fin 24) (q : Byte) (r : OwnReq) (s : State), (s.prt p).xact = none ∧ (s.prt p).own.find? (fun r => r.seq == some q.toNat && true) = some r ∧ s.getF (YPORT.PORT_TMO_RETRIES p) ≤ r.tries ∧ r.use = .config ∧ r.node < 32)
    ∧ (∃ (p : Fin 24) (tag : Byte) (s : State), s.portLive p ∧ s.isPair ∧ s.getB RIDGE.PAIR_STAT_ACTIVE = false ∧ s.getB (YPORT.PORT_CFG_RING p) ∧ s.pgRunning pSAMPLE ∧ (s.sample.copySeen ∨ s.sample.ssn ≠ 0) ∧ tag.toNat = (nextSsn s.sample.ssn).toNat % 256) :=
  ⟨⟨3, 7, 1, 5, 6, [1, 2], openSet_ 7, setOpen_ 3 7, by decide +kernel⟩,
   ⟨3, 31, 7, 1, 0, [9], [1, 2], openSet_ 7, setOpen_ 3 7, by decide +kernel⟩,
   ⟨3, 8, 1, 5, 6, [1, 2], openSet_ 7, setOpen_ 3 7, by decide +kernel⟩,
   ⟨3, 7, 1, 5, 6, [1, 2], ⟨7, 0, [], [], false, false⟩, { port_ 3 [] with sample := { SampleSt.rest with closed := some ⟨7, 0, [], [], false, false⟩ } }, by decide +kernel⟩,
   ⟨23, ⟨1, 2, 3, 4, 5, 6, 7, 1, 8⟩, (port_ 23 []).updPort 23 (fun x => { x with statusAt := some 0 }), by decide +kernel⟩,
   ⟨23, ⟨0, 9, 1, 2, 3, 4⟩, port_ 23 [], by decide +kernel⟩,
   ⟨23, ⟨0, 9, 1, 2, 3, 4⟩, (port_ 23 []).updPort 23 (fun x => { x with evts := [(0, 9, 0)] }), by decide +kernel⟩,
   ⟨23, ⟨31, 9, 1, 4, 3, 4⟩, port_ 23 [], by decide +kernel⟩,
   ⟨2, ⟨0x23, 0x10, 5, [0, 0, 2, 0, 1, 2, 3, 4, 5, 6, 7, 8], 0⟩, ⟨5, ftREAD, 3, [], 0⟩, (port_ 2 [(YPORT.MBX_CMD_COUNT 2, 2), (YPORT.MBX_STAT_BUSY 2, 1)]).updPort 2 (fun x => { x with xact := some ⟨5, ftREAD, 3, [], 0⟩ }), by decide +kernel⟩,
   ⟨2, ⟨0x20, 0x12, 5, [0x28, 0, 1, 0], 0⟩, 9, ⟨.hold 9, 0, ftWRITE, writePl 0x028 [9], some 5, 0⟩, (port_ 2 []).updPort 2 (fun x => { x with own := [⟨.hold 9, 0, ftWRITE, writePl 0x028 [9], some 5, 0⟩] }), by decide +kernel⟩,
   ⟨23, ⟨1, 9, 0, 3, 4⟩, pair_ (port_ 23 [(YPORT.PORT_CFG_RING 23, 1)]), by decide +kernel⟩,
   ⟨2, 5, ⟨5, ftREAD, 3, [], 0⟩, (port_ 2 [(YPORT.PORT_TMO_RETRIES 2, 2)]).updPort 2 (fun x => { x with xact := some ⟨5, ftREAD, 3, [], 0⟩ }), by decide +kernel⟩,
   ⟨2, 5, ⟨5, ftREAD, 31, [], 9⟩, (port_ 2 [(YPORT.PORT_TMO_RETRIES 2, 2)]).updPort 2 (fun x => { x with xact := some ⟨5, ftREAD, 31, [], 9⟩ }), by decide +kernel⟩,
   ⟨2, 5, ⟨.config, 31, ftWRITE, [], some 5, 9⟩, (port_ 2 [(YPORT.PORT_TMO_RETRIES 2, 2)]).updPort 2 (fun x => { x with own := [⟨.config, 31, ftWRITE, [], some 5, 9⟩] }), by decide +kernel⟩,
   ⟨23, 4, pair_ ({ port_ 23 [(YPORT.PORT_CFG_RING 23, 1), (pgStatState pSAMPLE, 2)] with sample := { SampleSt.rest with ssn := 3 } }), by decide +kernel⟩⟩

theorem witness_PortAndMailboxRequests :
    (∃ (r : Requester) (p : Fin 24) (wr : Bool) (k : Fin 32) (n : Byte) (a : Half) (s : State), Accepts s r (YPORT.MBX_CMD p) (2 ^ 31 + wr.toNat * 2 ^ 30 + k * 2 ^ 24 + n.toNat * 2 ^ 16 + a.toNat) ∧ s.getB (YPORT.MBX_STAT_BUSY p) = false ∧ s.getB (YPORT.NODE_POS_PRESENT p k) ∧ n.toNat ≤ s.maxCount ∧ (wr = false ∨ 0x100 ≤ a.toNat) ∧ p.val < s.port.length)
    ∧ (∃ (r : Requester) (p : Fin 24) (s : State), Accepts s r (YPORT.CNT_CTRL p) 1)
    ∧ (∃ (r : Requester) (s : State), Accepts s r SAMPLE.CNT_CTRL 1)
    ∧ (∃ (r : Requester) (n : Fin 4) (s : State), Accepts s r (CAN.CNT_CTRL n) 1)
    ∧ (∃ (r : Requester) (s : State), Accepts s r T1S.CNT_CTRL 1)
    ∧ (∃ (r : Requester) (s : State), Accepts s r SPI.CNT_CTRL 1)
    ∧ (∃ (r : Requester) (wr : Bool) (d : Fin 32) (c : Byte) (x : Half) (s : State), Accepts s r PMBUS.PMB_MBX (2 ^ 31 + wr.toNat * 2 ^ 30 + d * 2 ^ 24 + c.toNat * 2 ^ 16 + x.toNat) ∧ s.getB PMBUS.PMB_MBX_STAT_BUSY = false ∧ s.pgRunning pPMBUS ∧ pmbCmds.contains c.toNat)
    ∧ (∃ (r : Requester) (wr : Bool) (d : Fin 32) (c : Byte) (x : Half) (s : State), Accepts s r PMBUS.PMB_MBX (2 ^ 31 + wr.toNat * 2 ^ 30 + d * 2 ^ 24 + c.toNat * 2 ^ 16 + x.toNat) ∧ s.getB PMBUS.PMB_MBX_STAT_BUSY = false ∧ s.pgRunning pPMBUS ∧ pmbCmds.contains c.toNat = false) :=
  ⟨⟨.firmware, 23, true, 31, 8, 0xFFFC, port_ 23 [(YPORT.NODE_POS_PRESENT 23 31, 1)], by decide +kernel⟩,
   ⟨.firmware, 23, port_ 23 [(YPORT.CNT_ERR_CRC 23, 9)], by decide +kernel⟩,
   ⟨.firmware, mode_ mRUN [(pgStatState pSAMPLE, 2), (SAMPLE.CNT_FRM_LATE, 9)], by decide +kernel⟩,
   ⟨.firmware, 3, mode_ mRUN [(pgStatState (pCAN 3), 2), (CAN.CNT_RX_FRAMES 3, 9)], by decide +kernel⟩,
   ⟨.firmware, mode_ mRUN [(pgStatState pT1S, 2), (T1S.CNT_RX_FRAMES, 9)], by decide +kernel⟩,
   ⟨.spi, mode_ mRUN [(pgStatState pSPI, 2), (SPI.CNT_ERR_ABANDONED, 9)], by decide +kernel⟩,
   ⟨.firmware, false, 31, 0x79, 5, mode_ mRUN [(pgStatState pPMBUS, 2)], by decide +kernel⟩,
   ⟨.firmware, false, 31, 0xFF, 5, mode_ mRUN [(pgStatState pPMBUS, 2)], by decide +kernel⟩⟩

theorem witness_SampleSets :
    (∃ (s : State), s.pgRunning pSAMPLE ∧ s.emitsSets ∧ s.sample.nextUs = none)
    ∧ (∃ (u : Nat) (s : State), s.pgRunning pSAMPLE ∧ (s.emitsSets ∨ s.servesSegment) ∧ s.sample.set_ = none ∧ s.sample.nextUs = some u ∧ 3 * u < 3 * (s.dev.nowUs + s.cycleUs) + 2 * s.getF SAMPLE.SET_CFG_LEAD)
    ∧ (∃ (c : SetIn) (o : OpenSet) (s : State), s.operating ∧ s.sample.set_ = some o ∧ o.taken = false ∧ o.atUs ≤ s.dev.nowUs)
    ∧ (∃ (o : OpenSet) (s : State), s.operating ∧ s.sample.set_ = some o ∧ o.taken ∧ o.atUs + 100 * s.getF SAMPLE.SET_CFG_CLOSE < s.dev.nowUs + s.cycleUs ∧ s.dev.mpuRestart = false ∧ s.dev.updatePause = false)
    ∧ (∃ (c : ClosedSet) (s : State), s.sample.closed = some c ∧ c.gathered = false ∧ (List.range 3).all s.dmUsable)
    ∧ (∃ (ch : Fin 4) (s : State), s.operating ∧ s.sdmEn ch ∧ s.stuckCh ch = false ∧ ch.val < 3)
    ∧ (∃ (s : State), s.operating ∧ s.sdmEn 3 ∧ s.stuckCh 3 = false)
    ∧ (∃ (ch : Fin 4) (s : State), s.operating ∧ s.stuckCh ch)
    ∧ (∃ (s : State), s.operating ∧ s.getB SAMPLE.SDM_STAT_PLAUS_FAIL = false ∧ 0 < s.shelf.plausBad ∧ s.getF SAMPLE.SDM_CFG_PLAUS_N ≤ s.shelf.plausBad) :=
  ⟨⟨mode_ mRUN [(pgStatState pSAMPLE, 2)], by decide +kernel⟩,
   ⟨5, { mode_ mRUN [(pgStatState pSAMPLE, 2)] with sample := { SampleSt.rest with nextUs := some 5 } }, by decide +kernel⟩,
   ⟨⟨1, 2, 3, 4⟩, openSet_ 7, setOpen_ 3 7, by decide +kernel⟩,
   ⟨{ openSet_ 7 with taken := true }, { mode_ mRUN [(SAMPLE.SET_CFG_CLOSE, 1)] with sample := { SampleSt.rest with set_ := some { openSet_ 7 with taken := true } }, dev := { DevSt.rest with nowUs := 10 ^ 9 } }, by decide +kernel⟩,
   ⟨⟨7, 0, [], [], false, false⟩, { mode_ mRUN [(pgStatState pSDMA, 2)] with sample := { SampleSt.rest with closed := some ⟨7, 0, [], [], false, false⟩ } }, by decide +kernel⟩,
   ⟨2, mode_ mRUN [(SAMPLE.SDM_CFG_EN, 15)], by decide +kernel⟩,
   ⟨mode_ mRUN [(SAMPLE.SDM_CFG_EN, 15)], by decide +kernel⟩,
   ⟨3, mode_ mRUN [(SAMPLE.SDM_STAT_STUCK, 15)], by decide +kernel⟩,
   ⟨(mode_ mRUN []).updShelf (fun x => { x with plausBad := 255 }), by decide +kernel⟩⟩

theorem witness_MoverAndSdma :
    (∃ (a : Option Word) (u : BitVec 4) (wr : Bool) (s : State), s.pgRunning pFMOVER ∧ s.fm.berrAt = none)
    ∧ (∃ (a : Option Word) (u : BitVec 4) (wr : Bool) (b : Nat) (s : State), s.pgRunning pFMOVER ∧ s.fm.berrAt = some b ∧ s.dev.nowUs < b + 1000000)
    ∧ (∃ (s : State), s.getB FMOVER.FM_STAT_HALTED ∧ s.getB FMOVER.FM_STAT_RESTARTING)
    ∧ (∃ (c : Fin 16) (s : State), s.pgRunning pSDMA ∧ (s.dmState c = dmIDLE ∨ s.dmState c = dmSTOPPED) ∧ engOk (s.getN (SDMA.CH_NEXT c)) 32 ∧ s.getN (SDMA.CH_NEXT c) % 32 = 0 ∧ (s.desc (s.getN (SDMA.CH_NEXT c))).own ∧ descOk (s.desc (s.getN (SDMA.CH_NEXT c))))
    ∧ (∃ (c : Fin 16) (s : State), s.pgRunning pSDMA ∧ s.dmState c = dmACTIVE)
    ∧ (∃ (c : Fin 16) (a : Nat) (s : State), (s.sdmaCh c).desc = some a ∧ s.dmState c = dmACTIVE ∧ (s.desc a).mode = 0)
    ∧ (∃ (c : Fin 16) (a : Nat) (s : State), (s.sdmaCh c).desc = some a ∧ s.dmState c = dmACTIVE ∧ (s.desc a).mode ≠ 0 ∧ (moveElems (s.desc a) (s.desc a).count 0 s).2 = none)
    ∧ (∃ (c : Fin 16) (a : Nat) (x : Word) (wr : Bool) (s : State), (s.sdmaCh c).desc = some a ∧ (s.dmState c = dmACTIVE ∨ s.dmState c = dmSTOPPING) ∧ a < 2 ^ 32)
    ∧ (∃ (c : Fin 16) (a : Nat) (s : State), s.pgRunning pSDMA ∧ s.dmState c = dmHALTED ∧ (s.sdmaCh c).desc = some a ∧ engOk a 32 ∧ a % 32 = 0 ∧ (s.desc a).own ∧ descOk (s.desc a))
    ∧ (∃ (c : Fin 16) (a : Nat) (s : State), s.pgRunning pSDMA ∧ s.dmState c = dmHALTED ∧ (s.sdmaCh c).desc = some a ∧ engOk a 32)
    ∧ (∃ (c : Fin 16) (a : Nat) (s : State), s.pgRunning pSDMA ∧ s.dmState c = dmHALTED ∧ (s.sdmaCh c).desc = some a ∧ engOk a 32) :=
  ⟨⟨none, 15, true, mode_ mRUN [(pgStatState pFMOVER, 2), (FMOVER.FM_CTRL_AUTO_RESTART, 1)], by decide +kernel⟩,
   ⟨some 7, 15, false, 0, { mode_ mRUN [(pgStatState pFMOVER, 2), (FMOVER.FM_CTRL_AUTO_RESTART, 1)] with fm := ⟨some 0, false⟩ }, by decide +kernel⟩,
   ⟨mode_ mRUN [(FMOVER.FM_STAT_HALTED, 1), (FMOVER.FM_STAT_RESTARTING, 1)], by decide +kernel⟩,
   ⟨15, dmaReady 15, by decide +kernel⟩,
   ⟨0, mode_ mRUN [(pgStatState pSDMA, 2), (SDMA.CH_STAT_STATE 0, dmACTIVE)], by decide +kernel⟩,
   ⟨15, 0x20000000, { (dmaReady 15).setF (SDMA.CH_STAT_STATE 15) dmACTIVE with sdma := List.replicate 16 ⟨some 0x20000000, 0, 0, 0, 0⟩ }, by decide +kernel⟩,
   ⟨15, 0x20000000, { ((dmaReady 15).writeLe 0x20000000 4 (2 ^ 31 + 2 ^ 24 + 2 ^ 26)).setF (SDMA.CH_STAT_STATE 15) dmACTIVE with sdma := List.replicate 16 ⟨some 0x20000000, 0, 0, 0, 0⟩ }, by decide +kernel⟩,
   ⟨15, 0x20000000, 0x24000000, true, { (dmaReady 15).setF (SDMA.CH_STAT_STATE 15) dmACTIVE with sdma := List.replicate 16 ⟨some 0x20000000, 0, 0, 0, 0⟩ }, by decide +kernel⟩,
   ⟨15, 0x20000000, { (dmaReady 15).setF (SDMA.CH_STAT_STATE 15) dmHALTED with sdma := List.replicate 16 ⟨some 0x20000000, 0, 0, 0, 0⟩ }, by decide +kernel⟩,
   ⟨15, 0x20000000, { (dmaReady 15).setF (SDMA.CH_STAT_STATE 15) dmHALTED with sdma := List.replicate 16 ⟨some 0x20000000, 0, 0, 0, 0⟩ }, by decide +kernel⟩,
   ⟨15, 0x20000000, { (dmaReady 15).setF (SDMA.CH_STAT_STATE 15) dmHALTED with sdma := List.replicate 16 ⟨some 0x20000000, 0, 0, 0, 0⟩ }, by decide +kernel⟩⟩

theorem witness_EstimatorCommands :
    (∃ (us : Half) (c : ClosedSet) (s : State), s.sample.closed = some c ∧ s.operating ∧ s.pgRunning pEST ∧ c.gathered ∧ c.done = false ∧ s.dev.mpuRestart = false ∧ s.dev.updatePause = false ∧ s.dev.late = [])
    ∧ (∃ (us : Half) (c : ClosedSet) (s : State), s.sample.closed = some c ∧ s.operating ∧ s.pgRunning pEST = false ∧ c.gathered ∧ c.done = false ∧ s.dev.mpuRestart = false ∧ s.dev.updatePause = false ∧ s.dev.late = [])
    ∧ (∃ (k : Fin 24) (s : State), s.operating ∧ s.pgRunning pEST ∧ s.getB EST.EST_CFG_REST_REQ_EN ∧ s.est.length = 24 ∧ s.getBit EST.UNANCH k ∧ 1000000 * s.getF EST.EST_CFG_REST_REQ_S ≤ s.dev.nowUs - (s.estOf k).restReqAt ∧ s.dev.late = [])
    ∧ (∃ (k : Fin 24) (s : State), s.operating ∧ s.getB (ESTSTR.WB_STAT_PENDING k) ∧ s.nvOk ∧ (s.estOf k).wbAt = none ∧ s.getB DEV.MODE_STAT_DESCENT = false ∧ s.est.length = 24 ∧ s.dev.late = [])
    ∧ (∃ (k : Fin 24) (u : Nat) (s : State), s.operating ∧ s.getB (ESTSTR.WB_STAT_PENDING k) ∧ s.nvOk ∧ (s.estOf k).wbAt = some u ∧ 1000000 * s.getF EST.WB_WB_MIN_S ≤ s.dev.nowUs - u ∧ s.getB DEV.MODE_STAT_DESCENT = false ∧ s.est.length = 24 ∧ s.dev.late = [])
    ∧ (∃ (p : Fin 24) (k : Fin 32) (u : BitVec 64) (s : State), s.powered ∧ s.portOn p ∧ k.val ≠ 0)
    ∧ (∃ (r : Requester) (k : Fin 24) (m : Fin 32) (s : State), Accepts s r (ESTSTR.CMD k) (2 ^ 31 + m))
    ∧ (∃ (r : Requester) (k : Fin 24) (m : Fin 32) (s : State), Accepts s r (ESTSTR.CMD k) (2 ^ 30 + m))
    ∧ (∃ (r : Requester) (w : Word) (s : State), Accepts s r ESTWIN.WIN_SEL w.toNat) :=
  ⟨⟨9, ⟨7, 0, List.replicate 24 1, List.replicate 24 false, true, false⟩, { mode_ mRUN [(pgStatState pEST, 2)] with sample := { SampleSt.rest with closed := some ⟨7, 0, List.replicate 24 1, List.replicate 24 false, true, false⟩ } }, by decide +kernel⟩,
   ⟨9, ⟨7, 0, List.replicate 24 1, List.replicate 24 false, true, false⟩, { mode_ mRUN [] with sample := { SampleSt.rest with closed := some ⟨7, 0, List.replicate 24 1, List.replicate 24 false, true, false⟩ } }, by decide +kernel⟩,
   ⟨23, { mode_ mRUN [(pgStatState pEST, 2), (EST.EST_CFG_REST_REQ_EN, 1), (⟨EST.UNANCH, 23, 1⟩, 1)] with dev := { DevSt.rest with nowUs := 10 ^ 12 } }, by decide +kernel⟩,
   ⟨23, mode_ mRUN [(ESTSTR.WB_STAT_PENDING 23, 1), (CLKPWR.VHOLD_MV_VHOLD_RDY, 1)], by decide +kernel⟩,
   ⟨0, 0, { (mode_ mRUN [(ESTSTR.WB_STAT_PENDING 0, 1), (CLKPWR.VHOLD_MV_VHOLD_RDY, 1)]).updEst 0 (fun e => { e with wbAt := some 0 }) with dev := { DevSt.rest with nowUs := 10 ^ 12 } }, by decide +kernel⟩,
   ⟨23, 31, 0xFEDCBA9876543210, port_ 23 [], by decide +kernel⟩,
   ⟨.firmware, 23, 31, mode_ mRUN [(pgStatState (pESTSTR 23), 2)], by decide +kernel⟩,
   ⟨.firmware, 23, 0, mode_ mRUN [(pgStatState (pESTSTR 23), 2)], by decide +kernel⟩,
   ⟨.firmware, 7, mode_ mRUN [(pgStatState pESTWIN, 2)], by decide +kernel⟩⟩

theorem witness_SurveyMoves :
    (∃ (k : Fin 24) (m : Nat) (s : State), s.operating ∧ s.getF (SURVEY.SV_STR_STATE k) = svIDLE ∧ s.svNext k 0 = some m ∧ s.svBlocked k = false ∧ s.isActive = false ∧ s.dev.late = [])
    ∧ (∃ (k : Fin 24) (m : Nat) (s : State), s.operating ∧ s.getF (SURVEY.SV_STR_STATE k) = svIDLE ∧ s.svNext k 0 = some m ∧ s.svBlocked k = false ∧ s.isActive ∧ s.shelf.exc.length = 24 ∧ s.est.length = 24 ∧ s.dev.late = [])
    ∧ (∃ (k : Fin 24) (s : State), s.operating ∧ s.getF (SURVEY.SV_STR_STATE k) = svBLOCKED ∧ s.getF (SURVEY.SV_STR_MODULE k) ≠ 0 ∧ s.svBlocked k = false ∧ s.isActive ∧ s.est.length = 24 ∧ s.dev.late = [])
    ∧ (∃ (k : Fin 24) (s : State), s.operating ∧ s.pgRunning pEST ∧ s.getF (SURVEY.SV_STR_STATE k) = svPREROLL ∧ s.pgRunning pSURVEY ∧ s.svFree ∧ s.est.length = 24 ∧ (s.estOf k).endDue = false ∧ (s.estOf k).opened = false ∧ ((s.estOf k).staged.filter (fun x => (x.node == s.getF (SURVEY.SV_STR_MODULE k) || x.node == 0) && !(s.estOf k).win.any (fun y => y.node == x.node && y.idx == x.idx))) ≠ [] ∧ s.dev.late = [])
    ∧ (∃ (k : Fin 24) (s : State), s.operating ∧ s.pgRunning pEST ∧ s.getF (SURVEY.SV_STR_STATE k) = svWINDOW ∧ s.svFree = false ∧ s.dev.late = [])
    ∧ (∃ (k : Fin 24) (s : State), s.operating ∧ s.pgRunning pEST ∧ (s.getF (SURVEY.SV_STR_STATE k) = svWINDOW ∨ s.getF (SURVEY.SV_STR_STATE k) = svPREROLL) ∧ (s.estOf k).openAt + 4000000 ≤ s.dev.nowUs ∧ s.svFree ∧ s.svReason k = 0 ∧ s.dev.late = [])
    ∧ (∃ (k : Fin 24) (s : State), s.operating ∧ s.pgRunning pEST ∧ (s.getF (SURVEY.SV_STR_STATE k) = svWINDOW ∨ s.getF (SURVEY.SV_STR_STATE k) = svPREROLL) ∧ (s.estOf k).openAt + 4000000 ≤ s.dev.nowUs ∧ s.svFree ∧ s.svReason k ≠ 0 ∧ s.dev.late = [])
    ∧ (∃ (k : Fin 24) (s : State), s.operating ∧ s.pgRunning pEST ∧ s.getF (SURVEY.SV_STR_STATE k) = svWINDOW ∧ (s.estOf k).openAt + 4000000 ≤ s.dev.nowUs ∧ s.svFree = false ∧ s.dev.late = [])
    ∧ (∃ (k : Fin 24) (s : State), s.powered ∧ (s.getF (SURVEY.SV_STR_STATE k) = svPREROLL ∨ s.getF (SURVEY.SV_STR_STATE k) = svWINDOW) ∧ s.svBlocked k ∧ s.dev.late = [])
    ∧ (∃ (k : Fin 24) (s : State), s.powered ∧ s.getF (SURVEY.SV_STR_STATE k) = svGAP ∧ (s.estOf k).gapUntil ≤ s.dev.nowUs) :=
  ⟨⟨23, 4, pair_ (svReady 23), by decide +kernel⟩,
   ⟨23, 4, (svReady 23).updShelf (fun x => { x with gate := List.replicate 24 gateOne }), by decide +kernel⟩,
   ⟨23, (((svReady 23).setF (SURVEY.SV_STR_STATE 23) svBLOCKED).setF (SURVEY.SV_STR_MODULE 23) 4).updShelf (fun x => { x with gate := List.replicate 24 gateOne }), by decide +kernel⟩,
   ⟨23, ((svReady 23).setF (SURVEY.SV_STR_STATE 23) svPREROLL).updEst 23 (fun e => { e with staged := [⟨0, 7999, [], some 0⟩, ⟨5, 1, [], none⟩] }), by decide +kernel⟩,
   ⟨23, { (svReady 23).setF (SURVEY.SV_STR_STATE 23) svWINDOW with dev := { DevSt.rest with mpuRestart := true } }, by decide +kernel⟩,
   ⟨23, svFull 23, by decide +kernel, by decide +kernel, by decide +kernel, by decide +kernel, by decide +kernel, svFull_reason, by decide +kernel⟩,
   ⟨23, { (svReady 23).setF (SURVEY.SV_STR_STATE 23) svPREROLL with dev := { DevSt.rest with nowUs := 4000000 } }, by decide +kernel⟩,
   ⟨23, { (svReady 23).setF (SURVEY.SV_STR_STATE 23) svWINDOW with dev := { DevSt.rest with nowUs := 4000000, mpuRestart := true } }, by decide +kernel⟩,
   ⟨23, mode_ mRUN [(SURVEY.SV_STR_STATE 23, svWINDOW)], by decide +kernel⟩,
   ⟨23, mode_ mRUN [(SURVEY.SV_STR_STATE 23, svGAP)], by decide +kernel⟩⟩

theorem witness_RailStates :
    (∃ (r : Fin 8) (s : State), s.railLive r ∧ s.railOnReq r ∧ s.railState r = rlOFF ∧ (s.getB (RAIL.RAIL_CFG_TBSEL r) ∨ s.pgRunning pRSYNC))
    ∧ (∃ (r : Fin 8) (s : State), s.railLive r ∧ s.railOnReq r ∧ s.railState r = rlSOFT_STOP)
    ∧ (∃ (r : Fin 8) (v : Nat) (s : State), s.railLive r ∧ s.railState r = rlPREBIAS ∧ v < 57500 ∧ v * 10 ^ 8 ≤ s.ovPv r (s.vrefPv r) ∧ s.rail.length = 8)
    ∧ (∃ (r : Fin 8) (v : Nat) (s : State), s.railLive r ∧ s.railState r = rlPREBIAS ∧ 57500 ≤ v ∧ s.getB (RAIL.RAIL_CFG_VLOC_EN r) = false)
    ∧ (∃ (r : Fin 8) (s : State), s.railLive r ∧ s.railState r = rlSOFT_START ∧ s.vrefPv r ≤ s.vrefEffPv r)
    ∧ (∃ (r : Fin 8) (s : State), s.railOnReq r = false ∧ s.railState r = rlREGULATING ∧ s.getB (RAIL.RAIL_CFG_OFF_FAST r) = false)
    ∧ (∃ (r : Fin 8) (s : State), s.railOnReq r = false ∧ (s.railState r = rlSOFT_START ∨ s.railState r = rlREGULATING) ∧ s.getB (RAIL.RAIL_CFG_OFF_FAST r))
    ∧ (∃ (r : Fin 8) (s : State), s.railOnReq r = false ∧ (s.railState r = rlPREBIAS ∨ s.railState r = rlFAULT_OFF))
    ∧ (∃ (r : Fin 8) (s : State), s.railLive r ∧ s.railState r = rlSOFT_STOP ∧ (s.vrefEffPv r ≤ 5 * 10 ^ 10 ∨ s.getB (RAIL.RAIL_CFG_OFF_FAST r)))
    ∧ (∃ (r : Fin 8) (s : State), s.railState r = rlREGULATING ∧ 16 ≤ (s.rail_ r).pgRun)
    ∧ (∃ (r : Fin 8) (x : RailSample) (s : State), s.railLive r ∧ s.railSwitching r)
    ∧ (∃ (r : Fin 8) (x : RailSample) (s : State), s.railLive r ∧ s.railState r = rlFAULT_OFF ∧ x.vSense * 10 ^ 8 < s.vrefEffPv r) :=
  ⟨⟨7, rail_1 7 [(RAIL.RAIL_CTRL_ON 7, 1), (pgStatState pRSYNC, 2)], by decide +kernel⟩,
   ⟨7, rail_1 7 [(RAIL.RAIL_CTRL_ON 7, 1), (RAIL.RAIL_STAT_STATE 7, rlSOFT_STOP)], by decide +kernel⟩,
   ⟨7, 100, rail_1 7 [(RAIL.RAIL_STAT_STATE 7, rlPREBIAS), (RAIL.VREF_V 7, 12000)], by decide +kernel⟩,
   ⟨0, 57500, rail_1 0 [(RAIL.RAIL_STAT_STATE 0, rlPREBIAS)], by decide +kernel⟩,
   ⟨7, { rail_1 7 [(RAIL.RAIL_STAT_STATE 7, rlSOFT_START)] with rail := List.replicate 8 { RailSt.rest with ramp := 10 ^ 13 } }, by decide +kernel⟩,
   ⟨7, rail_1 7 [(RAIL.RAIL_STAT_STATE 7, rlREGULATING)], by decide +kernel⟩,
   ⟨7, rail_1 7 [(RAIL.RAIL_STAT_STATE 7, rlREGULATING), (RAIL.RAIL_CFG_OFF_FAST 7, 1)], by decide +kernel⟩,
   ⟨7, rail_1 7 [(RAIL.RAIL_STAT_STATE 7, rlFAULT_OFF), (RAIL.RAIL_STAT_PG 7, 1)], by decide +kernel⟩,
   ⟨7, rail_1 7 [(RAIL.RAIL_STAT_STATE 7, rlSOFT_STOP)], by decide +kernel⟩,
   ⟨7, { rail_1 7 [(RAIL.RAIL_STAT_STATE 7, rlREGULATING)] with rail := List.replicate 8 { RailSt.rest with pgRun := 16 } }, by decide +kernel⟩,
   ⟨7, ⟨100, 100, [], 0, 0⟩, rail_1 7 [(RAIL.RAIL_STAT_STATE 7, rlREGULATING)], by decide +kernel⟩,
   ⟨7, ⟨100, 100, [], 0, 0⟩, { rail_1 7 [(RAIL.RAIL_STAT_STATE 7, rlFAULT_OFF)] with rail := List.replicate 8 { RailSt.rest with ramp := 10 ^ 13 } }, by decide +kernel⟩⟩

theorem witness_RailProtections :
    (∃ (r : Fin 8) (s : State), s.railState r = rlREGULATING ∧ 0 < (s.rail_ r).uvRun ∧ (s.rail_ r).uvTold = false ∧ s.railLasts r (s.rail_ r).uvRun (s.getF (RAIL.PROT_UV_US r) * 10))
    ∧ (∃ (r : Fin 8) (s : State), s.railSwitching r ∧ 0 < (s.rail_ r).cycRun ∧ s.getF (RAIL.OC_OC_N r) ≤ (s.rail_ r).cycRun)
    ∧ (∃ (r : Fin 8) (s : State), s.railSwitching r ∧ 0 < (s.rail_ r).clRun ∧ (s.rail_ r).clTold = false ∧ s.railLasts r (s.rail_ r).clRun (s.getF (RAIL.OC_OVL_US r)))
    ∧ (∃ (r : Fin 8) (s : State), s.railLive r ∧ s.railSwitching r ∧ s.getB (RAIL.RAIL_CFG_VLOC_EN r))
    ∧ (∃ (r : Fin 8) (s : State), s.railLive r ∧ s.railSwitching r ∧ s.getB (RAIL.RAIL_CFG_VLOC_EN r) = false)
    ∧ (∃ (r : Fin 8) (s : State), (s.rail_ r).ovHeld)
    ∧ (∃ (r : Fin 8) (v : Nat) (s : State), s.railLive r ∧ s.railSwitching r ∧ s.getB (RAIL.RAIL_CFG_VLOC_EN r) ∧ v * 10 ^ 8 ≤ s.ovPv r (s.vrefEffPv r))
    ∧ (∃ (r : Fin 8) (v : Nat) (s : State), s.railLive r ∧ s.railSwitching r ∧ s.getB (RAIL.RAIL_CFG_VLOC_EN r) = false)
    ∧ (∃ (r : Fin 8) (v : Nat) (s : State), s.railLive r ∧ s.railState r = rlFAULT_OFF ∧ (s.rail_ r).ovHeld)
    ∧ (∃ (r : Fin 8) (p : Nat) (s : State), s.railSwitching r ∧ (s.rail_ r).shed = none ∧ 0 < (s.rail_ r).shedRun ∧ s.railLasts r (s.rail_ r).shedRun (1000 * s.getF (RAIL.SHED_CFG_HOLDOFF_MS r)) ∧ (s.phIn r phACTIVE).getLast? = some p)
    ∧ (∃ (r : Fin 8) (p k : Nat) (s : State), (s.rail_ r).shed = some (p, k) ∧ 8 ≤ k)
    ∧ (∃ (p : Fin 16) (s : State), s.phState p = phACTIVE ∧ 16 ≤ (s.phase_ p).openRun)
    ∧ (∃ (p : Fin 16) (s : State), (s.phState p = phACTIVE ∨ s.phState p = phSHEDDING) ∧ s.railOf p = none)
    ∧ (∃ (p : Fin 16) (r : Nat) (s : State), (s.phState p = phACTIVE ∨ s.phState p = phSHEDDING) ∧ s.railOf p = some r)
    ∧ (∃ (q : Requester) (r : Fin 8) (n : BitVec 5) (w : Half) (s : State), Accepts s q (RAIL.PREP r) (2 ^ 31 + n.toNat * 2 ^ 16 + w.toNat) ∧ s.railState r = rlREGULATING ∧ s.getB (RAIL.RAIL_STAT_PG r) ∧ s.getB (RAIL.RAIL_STAT_CN_OPEN r) = false ∧ (s.rail_ r).cnPend = false ∧ F32.isFinite (s.getReg (RAIL.PREP_I r)) ∧ F32.lt 0 (s.getReg (RAIL.PREP_I r)) ∧ F32.isFinite (s.getReg (RAIL.PREP_FF r)))
    ∧ (∃ (r : Fin 8) (s : State), s.getB (RAIL.RAIL_STAT_CN_OPEN r) ∧ (s.rail_ r).cnDown = 0 ∧ s.railLasts r (s.rail_ r).cnAge (s.getF (RAIL.PREP_WIN_US r))) :=
  ⟨⟨7, { rail_1 7 [(RAIL.RAIL_STAT_STATE 7, rlREGULATING)] with rail := List.replicate 8 { RailSt.rest with uvRun := 10 ^ 9 } }, by decide +kernel⟩,
   ⟨7, { rail_1 7 [(RAIL.RAIL_STAT_STATE 7, rlREGULATING)] with rail := List.replicate 8 { RailSt.rest with cycRun := 10 ^ 9 } }, by decide +kernel⟩,
   ⟨7, { rail_1 7 [(RAIL.RAIL_STAT_STATE 7, rlREGULATING)] with rail := List.replicate 8 { RailSt.rest with clRun := 10 ^ 9 } }, by decide +kernel⟩,
   ⟨7, rail_1 7 [(RAIL.RAIL_STAT_STATE 7, rlREGULATING), (RAIL.RAIL_CFG_VLOC_EN 7, 1), (RAIL.RAIL_CFG_OV_ACT 7, 1)], by decide +kernel⟩,
   ⟨7, rail_1 7 [(RAIL.RAIL_STAT_STATE 7, rlREGULATING)], by decide +kernel⟩,
   ⟨7, { rail_1 7 [(RAIL.RAIL_STAT_STATE 7, rlFAULT_OFF)] with rail := List.replicate 8 { RailSt.rest with ovHeld := true } }, by decide +kernel⟩,
   ⟨7, 0, rail_1 7 [(RAIL.RAIL_STAT_STATE 7, rlREGULATING), (RAIL.RAIL_CFG_VLOC_EN 7, 1)], by decide +kernel⟩,
   ⟨7, 0, rail_1 7 [(RAIL.RAIL_STAT_STATE 7, rlREGULATING)], by decide +kernel⟩,
   ⟨7, 0, { rail_1 7 [(RAIL.RAIL_STAT_STATE 7, rlFAULT_OFF)] with rail := List.replicate 8 { RailSt.rest with ovHeld := true } }, by decide +kernel⟩,
   ⟨7, 15, { rail_1 7 [(RAIL.RAIL_STAT_STATE 7, rlREGULATING), (PHASE.GRP_FIRST 7, 14), (PHASE.GRP_NPH 7, 2), (PHASE.PH_STAT_STATE 14, 1), (PHASE.PH_STAT_STATE 15, 1)] with rail := List.replicate 8 { RailSt.rest with shedRun := 10 ^ 9 } }, by decide +kernel⟩,
   ⟨7, 15, 8, { rail_1 7 [(RAIL.RAIL_STAT_STATE 7, rlREGULATING), (PHASE.GRP_FIRST 7, 14), (PHASE.GRP_NPH 7, 2), (PHASE.PH_STAT_STATE 14, 1), (PHASE.PH_STAT_STATE 15, 2)] with rail := List.replicate 8 { RailSt.rest with shed := some (15, 8) } }, by decide +kernel⟩,
   ⟨15, { rail_1 7 [(PHASE.PH_STAT_STATE 15, 1)] with phase := List.replicate 16 { PhaseSt.rest with openRun := 16 } }, by decide +kernel⟩,
   ⟨15, rail_1 7 [(PHASE.PH_STAT_STATE 15, 1), (PHASE.GRP_NPH 7, 0)], by decide +kernel⟩,
   ⟨15, 7, rail_1 7 [(PHASE.PH_STAT_STATE 15, 1), (PHASE.GRP_FIRST 7, 15), (PHASE.GRP_NPH 7, 1)], by decide +kernel⟩,
   ⟨.firmware, 7, 3, 100, (rail_1 7 [(RAIL.RAIL_STAT_STATE 7, rlREGULATING), (RAIL.RAIL_STAT_PG 7, 1)]).setReg (RAIL.PREP_I 7) 0x3F800000, by decide +kernel⟩,
   ⟨7, { rail_1 7 [(RAIL.RAIL_STAT_CN_OPEN 7, 1)] with rail := List.replicate 8 { RailSt.rest with cnAge := 10 ^ 9 } }, by decide +kernel⟩⟩

theorem witness_TimebaseAndTemperature :
    (∃ (per : Nat) (err : Int) (s : State), s.operating ∧ s.pgRunning pRSYNC ∧ s.getB RSYNC.TB_CFG_SYNC_EN ∧ 500 ≤ per ∧ per ≤ 10000 ∧ (max (10 ^ 6) (s.getF RSYNC.TB_CFG_TB_KHZ * per) - min (10 ^ 6) (s.getF RSYNC.TB_CFG_TB_KHZ * per)) * 10 ≤ s.getF RSYNC.TB_CFG_TB_KHZ * per ∧ s.tb.accepted < 15)
    ∧ (∃ (per : Nat) (err : Int) (s : State), s.operating ∧ s.pgRunning pRSYNC ∧ s.getB RSYNC.TB_CFG_SYNC_EN ∧ (per < 500 ∨ 10000 < per))
    ∧ (∃ (s : State), s.operating ∧ s.pgRunning pRSYNC ∧ (s.getF RSYNC.TB_STAT_STATE = 1 ∨ s.getF RSYNC.TB_STAT_STATE = 2))
    ∧ (∃ (s : State), s.getF RSYNC.TB_STAT_STATE = 3 ∧ max s.tb.freqHz (1000 * s.getF RSYNC.TB_CFG_TB_KHZ) - min s.tb.freqHz (1000 * s.getF RSYNC.TB_CFG_TB_KHZ) ≤ s.glideStep s.cycleUs)
    ∧ (∃ (l : List (BitVec 12)) (s : State), s.powered ∧ s.dev.regionDown.contains .rail = false) :=
  ⟨⟨1000, -3, mode_ mRUN [(pgStatState pRSYNC, 2), (RSYNC.TB_CFG_SYNC_EN, 1), (RSYNC.TB_CFG_TB_KHZ, 1000)], by decide +kernel⟩,
   ⟨499, 0, mode_ mRUN [(pgStatState pRSYNC, 2), (RSYNC.TB_CFG_SYNC_EN, 1), (RSYNC.TB_CFG_TB_KHZ, 1000)], by decide +kernel⟩,
   ⟨mode_ mRUN [(pgStatState pRSYNC, 2), (RSYNC.TB_STAT_STATE, 2)], by decide +kernel⟩,
   ⟨{ mode_ mRUN [(RSYNC.TB_STAT_STATE, 3), (RSYNC.TB_CFG_TB_KHZ, 1000)] with tb := ⟨0, 0, 1000000⟩ }, by decide +kernel⟩,
   ⟨[0, 41, 4095, 4056, 1, 2, 3, 4], mode_ mRUN [], by decide +kernel⟩⟩

theorem witness_EfuseSwitching :
    (∃ (c : Fin 8) (x : EfuseSample) (i p : Word) (s : State), s.efLive c ∧ s.ef.length = 8 ∧ i = F32.div (F32.ofQ (signedOf 14 x.shunt.toNat < 0) ((signedOf 14 x.shunt.toNat).natAbs * 50) (8192 * 1000)) (s.getReg (EFUSE.R_SENSE c)) ∧ p = F32.mul (F32.ofQ false (x.vOut.toNat * 80) 4096) i)
    ∧ (∃ (c : Fin 8) (s : State), s.efLive c ∧ s.efState c = efOFF ∧ s.efOnReq c)
    ∧ (∃ (c : Fin 8) (s : State), s.efOnReq c = false ∧ (s.efState c = efINRUSH ∨ s.efState c = efON ∨ s.efState c = efRETRY_WAIT ∨ s.efState c = efLATCHED ∨ (s.efState c = efTRIPPED ∧ F32.lt (s.getReg (EFUSE.V_GS c)) 0x3F800000)))
    ∧ (∃ (c : Fin 8) (s : State), s.efLive c ∧ s.efState c = efINRUSH ∧ (F32.le (F32.sub (s.getReg (EFUSE.V_IN c)) (s.getReg (EFUSE.V_OUT c))) 0x3E800000 ∨ (s.efSt c).ig50) ∧ F32.le 0x41200000 (s.getReg (EFUSE.V_GS c)))
    ∧ (∃ (c : Fin 8) (s : State), s.efLive c ∧ s.efState c = efINRUSH ∧ F32.le (F32.sub (s.getReg (EFUSE.V_IN c)) (s.getReg (EFUSE.V_OUT c))) 0x3E800000 ∧ F32.le 0x41200000 (s.getReg (EFUSE.V_GS c)) = false)
    ∧ (∃ (c : Fin 8) (s : State), s.efLive c ∧ s.efState c = efON ∧ 100000 ≤ (s.efSt c).ticks)
    ∧ (∃ (c : Fin 8) (s : State), s.efLive c ∧ s.efState c = efTRIPPED ∧ s.efOnReq c = false)
    ∧ (∃ (c : Fin 8) (s : State), s.efLive c ∧ s.efState c = efTRIPPED ∧ s.efOnReq c ∧ s.getF (EFUSE.EF_STAT_RETRIES c) < s.getF (EFUSE.EF_CFG_RETRY_MAX c))
    ∧ (∃ (c : Fin 8) (s : State), s.efLive c ∧ s.efState c = efTRIPPED ∧ s.efOnReq c ∧ s.getF (EFUSE.EF_CFG_RETRY_MAX c) ≤ s.getF (EFUSE.EF_STAT_RETRIES c))
    ∧ (∃ (c : Fin 8) (s : State), s.efLive c ∧ s.efState c = efRETRY_WAIT ∧ 100 * s.getF (EFUSE.TIMES_RETRY_DELAY c) ≤ (s.efSt c).ticks)
    ∧ (∃ (r : Requester) (c : Fin 8) (v : Nat) (s : State), v = s.getN (EFUSE.EF_CTRL c) % 2 + 2 ∧ Accepts s r (EFUSE.EF_CTRL c) v ∧ s.efState c = efLATCHED)
    ∧ (∃ (r : Requester) (c : Fin 8) (v : Nat) (s u : State), v = s.getN (EFUSE.EF_CTRL c) % 2 + 4 ∧ Accepts s r (EFUSE.EF_CTRL c) v ∧ s.efState c = efGATE_FAULT ∧ s.mode = mSERVICE ∧ u = (Stored s r (EFUSE.EF_CTRL c) v).updEf c (fun x => { x with gateFault := false })) :=
  ⟨⟨7, ⟨100, 2048, 1024, 0x40A00000, true⟩, F32.div (F32.ofQ false (100 * 50) (8192 * 1000)) 0x3C23D70A, F32.mul (F32.ofQ false (1024 * 80) 4096) (F32.div (F32.ofQ false (100 * 50) (8192 * 1000)) 0x3C23D70A), (mode_ mRUN [(pgStatState (pEFUSE 7), 2), (EFUSE.EF_STAT_STATE 7, efINRUSH)]).setReg (EFUSE.R_SENSE 7) 0x3C23D70A, by decide +kernel⟩,
   ⟨7, mode_ mRUN [(pgStatState (pEFUSE 7), 2), (EFUSE.EF_CTRL_ON 7, 1)], by decide +kernel⟩,
   ⟨7, mode_ mRUN [(EFUSE.EF_STAT_STATE 7, efTRIPPED), (EFUSE.EF_STAT_RETRIES 7, 3)], by decide +kernel⟩,
   ⟨7, (mode_ mRUN [(pgStatState (pEFUSE 7), 2), (EFUSE.EF_STAT_STATE 7, efINRUSH)]).setReg (EFUSE.V_GS 7) 0x41200000, by decide +kernel⟩,
   ⟨7, mode_ mRUN [(pgStatState (pEFUSE 7), 2), (EFUSE.EF_STAT_STATE 7, efINRUSH)], by decide +kernel⟩,
   ⟨0, { mode_ mRUN [(pgStatState (pEFUSE 0), 2), (EFUSE.EF_STAT_STATE 0, efON), (EFUSE.EF_STAT_RETRIES 0, 2)] with ef := List.replicate 8 { EfuseSt.rest with ticks := 10 ^ 9 } }, by decide +kernel⟩,
   ⟨0, mode_ mRUN [(pgStatState (pEFUSE 0), 2), (EFUSE.EF_STAT_STATE 0, efTRIPPED), (EFUSE.EF_STAT_RETRIES 0, 2)], by decide +kernel⟩,
   ⟨0, mode_ mRUN [(pgStatState (pEFUSE 0), 2), (EFUSE.EF_STAT_STATE 0, efTRIPPED), (EFUSE.EF_CTRL_ON 0, 1), (EFUSE.EF_CFG_RETRY_MAX 0, 3), (EFUSE.EF_STAT_RETRIES 0, 2)], by decide +kernel⟩,
   ⟨7, mode_ mRUN [(pgStatState (pEFUSE 7), 2), (EFUSE.EF_STAT_STATE 7, efTRIPPED), (EFUSE.EF_CTRL_ON 7, 1), (EFUSE.EF_CFG_RETRY_MAX 7, 3), (EFUSE.EF_STAT_RETRIES 7, 3)], by decide +kernel⟩,
   ⟨7, { mode_ mRUN [(pgStatState (pEFUSE 7), 2), (EFUSE.EF_STAT_STATE 7, efRETRY_WAIT)] with ef := List.replicate 8 { EfuseSt.rest with ticks := 10 ^ 9 } }, by decide +kernel⟩,
   ⟨.firmware, 7, 3, mode_ mRUN [(pgStatState (pEFUSE 7), 2), (EFUSE.EF_STAT_STATE 7, efLATCHED), (EFUSE.EF_CTRL_ON 7, 1)], by decide +kernel⟩,
   ⟨.firmware, 7, 4, mode_ mSERVICE [(pgStatState (pEFUSE 7), 2), (EFUSE.EF_STAT_STATE 7, efGATE_FAULT)], (Stored (mode_ mSERVICE [(pgStatState (pEFUSE 7), 2), (EFUSE.EF_STAT_STATE 7, efGATE_FAULT)]) .firmware (EFUSE.EF_CTRL 7) 4).updEf 7 (fun x => { x with gateFault := false }), by decide +kernel⟩⟩

theorem witness_EfuseProtections :
    (∃ (c : Fin 8) (s : State), s.efLive c ∧ s.efDriven c)
    ∧ (∃ (c : Fin 8) (s : State), s.efLive c ∧ s.efDriven c ∧ (∀ d : Fin 8, d ≠ c → s.efDriven d = false))
    ∧ (∃ (c : Fin 8) (s : State), s.efLive c ∧ s.efState c = efON ∧ s.getF (EFUSE.ILIM_DLY_US c) ≤ 10 * (s.efSt c).ilimTicks)
    ∧ (∃ (c : Fin 8) (s : State), s.efLive c ∧ s.efState c = efINRUSH ∧ 10 * s.getF (EFUSE.TLIM_T c) ≤ (s.efSt c).limTicks)
    ∧ (∃ (c : Fin 8) (s : State), s.efLive c ∧ s.efState c = efINRUSH ∧ 100 * s.getF (EFUSE.INRUSH_TMAX_MS c) ≤ (s.efSt c).ticks)
    ∧ (∃ (c : Fin 8) (s u : State), s.efLive c ∧ s.efState c = efINRUSH ∧ (s.efSt c).checked = false ∧ 10 * s.getF (EFUSE.TIMES_T_GATE_CHK c) ≤ (s.efSt c).ticks ∧ F32.lt (s.getReg (EFUSE.V_GS c)) 0x40600000 ∧ u = ((s.setF (EFUSE.EF_STAT_LAST_REASON c) 5).updEf c (fun x => { x with gateFault := true })).efGo c efGATE_FAULT .normal)
    ∧ (∃ (c : Fin 8) (s : State), s.efLive c ∧ s.efState c = efINRUSH ∧ (s.efSt c).checked = false ∧ 10 * s.getF (EFUSE.TIMES_T_GATE_CHK c) ≤ (s.efSt c).ticks ∧ F32.lt (s.getReg (EFUSE.V_GS c)) 0x40600000 = false)
    ∧ (∃ (c : Fin 8) (s u : State), s.efLive c ∧ s.efState c = efON ∧ 10 ≤ (s.efSt c).lowTicks ∧ u = ((s.setF (EFUSE.EF_STAT_LAST_REASON c) 5).updEf c (fun x => { x with gateFault := true })).efGo c efGATE_FAULT .normal)
    ∧ (∃ (c : Fin 8) (s : State), s.efLive c ∧ s.efState c = efOFF ∧ (s.efSt c).presSeen = false ∧ 1000 ≤ (s.efSt c).presTicks)
    ∧ (∃ (s : State), s.powered ∧ s.dev.ckptLeftUs = 0) :=
  ⟨⟨7, mode_ mRUN [(pgStatState (pEFUSE 7), 2), (EFUSE.EF_STAT_STATE 7, efON)], by decide +kernel⟩,
   ⟨7, mode_ mRUN [(pgStatState (pEFUSE 7), 2), (EFUSE.EF_STAT_STATE 7, efON)], by decide +kernel⟩,
   ⟨0, mode_ mRUN [(pgStatState (pEFUSE 0), 2), (EFUSE.EF_STAT_STATE 0, efON), (EFUSE.ILIM_DLY_US 0, 0)], by decide +kernel⟩,
   ⟨0, { mode_ mRUN [(pgStatState (pEFUSE 0), 2), (EFUSE.EF_STAT_STATE 0, efINRUSH)] with ef := List.replicate 8 { EfuseSt.rest with limTicks := 10 ^ 9 } }, by decide +kernel⟩,
   ⟨0, { mode_ mRUN [(pgStatState (pEFUSE 0), 2), (EFUSE.EF_STAT_STATE 0, efINRUSH)] with ef := List.replicate 8 { EfuseSt.rest with ticks := 10 ^ 9 } }, by decide +kernel⟩,
   ⟨7, { mode_ mRUN [(pgStatState (pEFUSE 7), 2), (EFUSE.EF_STAT_STATE 7, efINRUSH)] with ef := List.replicate 8 { EfuseSt.rest with ticks := 10 ^ 9 } }, ((({ mode_ mRUN [(pgStatState (pEFUSE 7), 2), (EFUSE.EF_STAT_STATE 7, efINRUSH)] with ef := List.replicate 8 { EfuseSt.rest with ticks := 10 ^ 9 } } : State).setF (EFUSE.EF_STAT_LAST_REASON 7) 5).updEf 7 (fun x => { x with gateFault := true })).efGo 7 efGATE_FAULT .normal, by decide +kernel⟩,
   ⟨7, ({ mode_ mRUN [(pgStatState (pEFUSE 7), 2), (EFUSE.EF_STAT_STATE 7, efINRUSH)] with ef := List.replicate 8 { EfuseSt.rest with ticks := 10 ^ 9 } } : State).setReg (EFUSE.V_GS 7) 0x41200000, by decide +kernel⟩,
   ⟨0, { mode_ mRUN [(pgStatState (pEFUSE 0), 2), (EFUSE.EF_STAT_STATE 0, efON)] with ef := List.replicate 8 { EfuseSt.rest with lowTicks := 10 } }, (({ mode_ mRUN [(pgStatState (pEFUSE 0), 2), (EFUSE.EF_STAT_STATE 0, efON)] with ef := List.replicate 8 { EfuseSt.rest with lowTicks := 10 } }.setF (EFUSE.EF_STAT_LAST_REASON 0) 5).updEf 0 (fun x => { x with gateFault := true })).efGo 0 efGATE_FAULT .normal, by decide +kernel⟩,
   ⟨0, { mode_ mRUN [(pgStatState (pEFUSE 0), 2)] with ef := List.replicate 8 { EfuseSt.rest with presTicks := 1000 } }, by decide +kernel⟩,
   ⟨{ mode_ mRUN [] with dev := { DevSt.rest with ckptLeftUs := 0 } }, by decide +kernel⟩⟩

theorem witness_SequencerSlots :
    (∃ (x : SeqSample) (s : State), s.operating ∧ s.pgRunning pSEQ ∧ s.pgRunning pSEQSLOT)
    ∧ (∃ (x : SeqSample) (s : State), s.operating ∧ s.pgRunning pSEQ ∧ s.pgRunning pSEQSLOT ∧ (∀ i : Fin 32, s.slotEn i = false))
    ∧ (∃ (i : Fin 32) (s : State), s.grpLive (s.slotGrp i) ∧ s.slotSt i = slON_WAIT ∧ s.grpSt (s.slotGrp i) = grASCENDING ∧ 10 * s.getF (SEQSLOT.SL_TIME0_ON_DLY i) ≤ (s.seqSlot i).ticks ∧ s.vinWarn = false)
    ∧ (∃ (i : Fin 32) (s : State), s.grpLive (s.slotGrp i) ∧ s.slotSt i = slON_WAIT ∧ s.grpSt (s.slotGrp i) = grASCENDING ∧ 10 * s.getF (SEQSLOT.SL_TIME0_ON_DLY i) ≤ (s.seqSlot i).ticks ∧ s.vinWarn)
    ∧ (∃ (i : Fin 32) (s : State), s.slotSt i = slOFF_WAIT ∧ 10 * s.getF (SEQSLOT.SL_TIME0_OFF_DLY i) ≤ (s.seqSlot i).ticks)
    ∧ (∃ (i : Fin 32) (s : State), s.slotSt i = slENABLED ∧ s.getF (SEQSLOT.SL_CFG_FLT i) ≤ (s.seqSlot i).okTicks)
    ∧ (∃ (i : Fin 32) (s : State), s.slotSt i = slENABLED ∧ s.getF (SEQSLOT.SL_CFG_FLT i) ≤ (s.seqSlot i).okTicks ∧ s.grpSt (s.slotGrp i) ≠ grASCENDING)
    ∧ (∃ (i : Fin 32) (s : State), s.slotEn i ∧ s.slotSt i = slENABLED ∧ (s.seqSlot i).pgTmoDeferred = false ∧ 100 * s.getF (SEQSLOT.SL_TIME1_PG_TMO i) ≤ (s.seqSlot i).ticks ∧ s.supplyRetrying i)
    ∧ (∃ (i : Fin 32) (s : State), s.slotEn i ∧ s.slotSt i = slENABLED ∧ (s.seqSlot i).pgTmoDeferred = false ∧ 100 * s.getF (SEQSLOT.SL_TIME1_PG_TMO i) ≤ (s.seqSlot i).ticks ∧ s.supplyRetrying i = false)
    ∧ (∃ (i : Fin 32) (s : State), s.slotEn i ∧ s.slotSt i = slENABLED ∧ (s.seqSlot i).pgTmoDeferred = false ∧ 100 * s.getF (SEQSLOT.SL_TIME1_PG_TMO i) ≤ (s.seqSlot i).ticks ∧ s.supplyRetrying i = false ∧ s.grpSt (s.slotGrp i) ≠ grDESCENDING ∧ s.getF (SEQSLOT.SL_CFG_REACT i) = 0)
    ∧ (∃ (i : Fin 32) (s : State), s.slotSt i = slDISCHARGE ∧ F32.lt (s.getReg (SEQSLOT.V i)) (s.getReg (SEQSLOT.SL_OFF i)))
    ∧ (∃ (i : Fin 32) (s : State), s.slotSt i = slRETRY_WAIT ∧ F32.lt (s.getReg (SEQSLOT.V i)) (s.getReg (SEQSLOT.SL_OFF i)))
    ∧ (∃ (i : Fin 32) (s : State), s.slotSt i = slDISCHARGE ∧ 100 * s.getF (SEQSLOT.SL_TIME1_T_DIS_MAX i) ≤ (s.seqSlot i).ticks)
    ∧ (∃ (i : Fin 32) (s : State), s.slotSt i = slRETRY_WAIT ∧ (s.seqSlot i).offSeen = false ∧ 100 * s.getF (SEQSLOT.SL_TIME1_T_DIS_MAX i) ≤ (s.seqSlot i).ticks)
    ∧ (∃ (i : Fin 32) (s : State), s.slotSt i = slPG ∧ 100000 ≤ (s.seqSlot i).ticks)
    ∧ (∃ (i : Fin 32) (s : State), s.slotSt i = slRETRY_WAIT ∧ (s.seqSlot i).offSeen ∧ 100 * s.getF (SEQGRP.GRP_CFG_T_REST (s.slotGrp i)) ≤ (s.seqSlot i).offTicks ∧ (s.vinWarn = false ∨ s.grpSt (s.slotGrp i) ≠ grASCENDING)) :=
  ⟨⟨⟨[0, 1, 2, 4095]⟩, mode_ mRUN [(pgStatState pSEQ, 2), (pgStatState pSEQSLOT, 2), (pgStatState (pSEQGRP 3), 2)], by decide +kernel⟩,
   ⟨⟨[0, 1, 2, 4095]⟩, mode_ mRUN [(pgStatState pSEQ, 2), (pgStatState pSEQSLOT, 2), (pgStatState (pSEQGRP 3), 2)], by decide +kernel⟩,
   ⟨31, { mode_ mRUN [(pgStatState pSEQ, 2), (pgStatState pSEQSLOT, 2), (pgStatState (pSEQGRP 3), 2), (SEQSLOT.SL_CFG_GROUP 31, 3), (SEQSLOT.SL_STAT_STATE 31, slON_WAIT), (SEQGRP.GRP_STAT_STATE 3, grASCENDING)] with seq := { SeqSt.rest with slots := List.replicate 32 { SeqSlotSt.rest with ticks := 10 ^ 9 } } }, by decide +kernel⟩,
   ⟨31, { mode_ mRUN [(pgStatState pSEQ, 2), (pgStatState pSEQSLOT, 2), (pgStatState (pSEQGRP 3), 2), (SEQSLOT.SL_CFG_GROUP 31, 3), (SEQSLOT.SL_STAT_STATE 31, slON_WAIT), (SEQGRP.GRP_STAT_STATE 3, grASCENDING), (CLKPWR.VIN_MV_WARN, 1)] with seq := { SeqSt.rest with slots := List.replicate 32 { SeqSlotSt.rest with ticks := 10 ^ 9 } } }, by decide +kernel⟩,
   ⟨31, { mode_ mRUN [(pgStatState pSEQ, 2), (pgStatState pSEQSLOT, 2), (pgStatState (pSEQGRP 3), 2), (SEQSLOT.SL_STAT_STATE 31, slOFF_WAIT), (SEQSLOT.SL_STAT_EN_OUT 31, 1)] with seq := { SeqSt.rest with slots := List.replicate 32 { SeqSlotSt.rest with ticks := 10 ^ 9 } } }, by decide +kernel⟩,
   ⟨31, mode_ mRUN [(pgStatState pSEQ, 2), (pgStatState pSEQSLOT, 2), (pgStatState (pSEQGRP 3), 2), (SEQSLOT.SL_STAT_STATE 31, slENABLED), (SEQSLOT.SL_CFG_FLT 31, 0)], by decide +kernel⟩,
   ⟨31, mode_ mRUN [(pgStatState pSEQ, 2), (pgStatState pSEQSLOT, 2), (pgStatState (pSEQGRP 3), 2), (SEQSLOT.SL_STAT_STATE 31, slENABLED), (SEQSLOT.SL_CFG_FLT 31, 0)], by decide +kernel⟩,
   ⟨31, { mode_ mRUN [(pgStatState pSEQ, 2), (pgStatState pSEQSLOT, 2), (pgStatState (pSEQGRP 3), 2), (SEQSLOT.SL_STAT_STATE 31, slENABLED), (SEQSLOT.SL_CFG_EN 31, 1), (EFUSE.EF_STAT_STATE 7, efTRIPPED)] with seq := { SeqSt.rest with slots := List.replicate 32 { SeqSlotSt.rest with ticks := 10 ^ 9 } } }, by decide +kernel⟩,
   ⟨31, { mode_ mRUN [(pgStatState pSEQ, 2), (pgStatState pSEQSLOT, 2), (pgStatState (pSEQGRP 3), 2), (SEQSLOT.SL_STAT_STATE 31, slENABLED), (SEQSLOT.SL_CFG_EN 31, 1)] with seq := { SeqSt.rest with slots := List.replicate 32 { SeqSlotSt.rest with ticks := 10 ^ 9 } } }, by decide +kernel⟩,
   ⟨31, { mode_ mRUN [(pgStatState pSEQ, 2), (pgStatState pSEQSLOT, 2), (pgStatState (pSEQGRP 3), 2), (SEQSLOT.SL_STAT_STATE 31, slENABLED), (SEQSLOT.SL_CFG_EN 31, 1), (SEQSLOT.SL_CFG_REACT 31, 0), (FCOL_SEV.SEV_SEV 183, 2)] with seq := { SeqSt.rest with slots := List.replicate 32 { SeqSlotSt.rest with ticks := 10 ^ 9 } } }, by decide +kernel⟩,
   ⟨31, (mode_ mRUN [(SEQSLOT.SL_STAT_STATE 31, slDISCHARGE)]).setReg (SEQSLOT.SL_OFF 31) 0x3F000000, by decide +kernel⟩,
   ⟨31, (mode_ mRUN [(SEQSLOT.SL_STAT_STATE 31, slRETRY_WAIT)]).setReg (SEQSLOT.SL_OFF 31) 0x3F000000, by decide +kernel⟩,
   ⟨31, { mode_ mRUN [(SEQSLOT.SL_STAT_STATE 31, slDISCHARGE)] with seq := { SeqSt.rest with slots := List.replicate 32 { SeqSlotSt.rest with ticks := 10 ^ 9 } } }, by decide +kernel⟩,
   ⟨31, { mode_ mRUN [(SEQSLOT.SL_STAT_STATE 31, slRETRY_WAIT)] with seq := { SeqSt.rest with slots := List.replicate 32 { SeqSlotSt.rest with ticks := 10 ^ 9 } } }, by decide +kernel⟩,
   ⟨31, { mode_ mRUN [(SEQSLOT.SL_STAT_STATE 31, slPG), (SEQSLOT.SL_STAT_RETRIES 31, 2)] with seq := { SeqSt.rest with slots := List.replicate 32 { SeqSlotSt.rest with ticks := 10 ^ 9 } } }, by decide +kernel⟩,
   ⟨31, (mode_ mRUN [(SEQSLOT.SL_STAT_STATE 31, slRETRY_WAIT)]).updSlot 31 (fun c => { c with offSeen := true, offTicks := 10 ^ 9 }), by decide +kernel⟩⟩

theorem witness_SequencerGroups :
    (∃ (r : Requester) (g : Fin 4) (s : State), Accepts s r (SEQGRP.GRP_CMD g) 1 ∧ s.grpLive g)
    ∧ (∃ (r : Requester) (g : Fin 4) (s : State), Accepts s r (SEQGRP.GRP_CMD g) 1 ∧ s.grpLive g ∧ (s.grpSt g = grASCENDING ∨ s.grpSt g = grON))
    ∧ (∃ (r : Requester) (g : Fin 4) (s : State), Accepts s r (SEQGRP.GRP_CMD g) 1 ∧ s.grpLive g ∧ (s.grpSt g = grDESCENDING ∨ (s.grpSt g = grREST ∧ s.vinWarn = false)))
    ∧ (∃ (r : Requester) (g : Fin 4) (s : State), Accepts s r (SEQGRP.GRP_CMD g) 1 ∧ s.grpLive g ∧ s.grpSt g = grOFF ∧ s.rackHolds g)
    ∧ (∃ (r : Requester) (g : Fin 4) (s : State), Accepts s r (SEQGRP.GRP_CMD g) 1 ∧ s.grpLive g ∧ s.grpSt g = grOFF ∧ s.rackHolds g = false ∧ s.vinWarn)
    ∧ (∃ (r : Requester) (g : Fin 4) (s : State), Accepts s r (SEQGRP.GRP_CMD g) 2 ∧ s.grpLive g)
    ∧ (∃ (r : Requester) (g : Fin 4) (s : State), Accepts s r (SEQGRP.GRP_CMD g) 2 ∧ s.grpLive g ∧ s.grpSt g = grREST)
    ∧ (∃ (r : Requester) (g : Fin 4) (s : State), Accepts s r (SEQGRP.GRP_CMD g) 2 ∧ s.grpLive g ∧ s.grpSt g = grOFF)
    ∧ (∃ (g : Fin 4) (s : State), s.grpSt g = grREST ∧ 100 * s.getF (SEQGRP.GRP_CFG_T_REST g) ≤ s.seq.restTicks.getD g 0 ∧ s.getB (SEQGRP.GRP_STAT_UP_PEND g) = false ∧ s.getB SEQ.SEQ_STAT_SYS_RESET = false)
    ∧ (∃ (g : Fin 4) (s : State), s.grpSt g = grREST ∧ 100 * s.getF (SEQGRP.GRP_CFG_T_REST g) ≤ s.seq.restTicks.getD g 0 ∧ s.getB (SEQGRP.GRP_STAT_UP_PEND g))
    ∧ (∃ (s : State), s.getB SEQ.SEQ_STAT_SYS_RESET ∧ (∀ g : Fin 4, (s.seq.sysWait.getD g false = false ∨ s.grpSt g = grON) ∧ s.grpSt g ≠ grDESCENDING ∧ s.grpSt g ≠ grREST) ∧ 100 * s.getF SEQ.SEQ_CFG_RST_MIN_MS ≤ s.seq.rstTicks)
    ∧ (∃ (s : State), s.operating ∧ s.pgRunning pSEQ ∧ s.getB SEQ.SEQ_STAT_RACK_STUCK)
    ∧ (∃ (s : State), s.operating ∧ s.pgRunning pSEQ ∧ s.getB SEQ.SEQ_STAT_RACK_STUCK = false ∧ s.getB SEQ.SEQ_STAT_RACK_SELF ∧ (∀ g : Fin 4, rackActs s g = false))
    ∧ (∃ (s : State), s.operating ∧ s.pgRunning pSEQ ∧ s.getB SEQ.SEQ_STAT_RACK_STUCK = false ∧ s.getB SEQ.SEQ_STAT_RACK_SELF = false ∧ (∀ g : Fin 4, rackActs s g = false))
    ∧ (∃ (g : Fin 4) (s u : State), s.operating ∧ s.pgRunning pSEQ ∧ s.getB SEQ.SEQ_STAT_RACK_STUCK = false ∧ s.getB SEQ.SEQ_STAT_RACK_SELF = false ∧ (∀ h : Fin 4, h ≠ g → rackActs s h = false) ∧ rackActs s g ∧ u = (s.setF SEQ.SEQ_STAT_RACK_LOW 1).enterDescend g)
    ∧ (∃ (s : State), s.operating ∧ s.getB SEQ.SEQ_STAT_RACK_SELF = false)
    ∧ (∃ (s : State), s.operating ∧ s.getB SEQ.SEQ_STAT_RACK_SELF = false ∧ (∀ g : Fin 4, s.getB (SEQGRP.GRP_STAT_RACK_HELD g) = false ∧ s.seq.rackAgain.getD g false = false) ∧ s.seq.rackAgain.length = 4)
    ∧ (∃ (s : State), s.getB SEQ.SEQ_STAT_RACK_SELF ∧ (∀ g : Fin 4, s.seq.rackPull.getD g false → s.grpSt g ≠ grDESCENDING ∧ s.grpSt g < 5) ∧ 100 * s.getF SEQ.SEQ_CFG_RACK_MIN_MS ≤ s.seq.rackTicks)
    ∧ (∃ (i : SupInput) (active chatter : Bool) (s : State), s.operating ∧ s.pgRunning pSEQ ∧ i ≠ .wake ∧ i ≠ .belayN ∧ (i ≠ .rackflt ∨ active))
    ∧ (∃ (active chatter : Bool) (s : State), s.operating ∧ s.pgRunning pSEQ)
    ∧ (∃ (chatter : Bool) (s : State), s.operating ∧ s.pgRunning pSEQ)
    ∧ (∃ (chatter : Bool) (s : State), s.operating ∧ s.pgRunning pSEQ ∧ (s.getB RIDGE.PAIR_CFG_BELAY_EN = false ∨ s.pair.partnerHeld = false ∨ s.pair.yieldSeen ∨ s.pair.taking))
    ∧ (∃ (chatter : Bool) (s : State), s.operating ∧ s.pgRunning pSEQ ∧ s.getB SEQ.SEQ_STAT_RACK_STUCK = false ∧ (∀ g : Fin 4, s.getB (SEQGRP.GRP_STAT_RACK_HELD g) = false))
    ∧ (∃ (i : SupInput) (s : State), s.operating ∧ s.pgRunning pSEQ ∧ i ≠ .rackflt ∧ i ≠ .belayN ∧ s.getF (SEQ.INP_CFG_STUCK (supIndex i)) ≠ 0 ∧ s.getB (SEQ.INP_STAT_FILT (supIndex i)) ∧ s.getB (SEQ.INP_STAT_STUCK (supIndex i)) = false ∧ stuckTimerRuns (supIndex i) s ∧ s.dev.late = [])
    ∧ (∃ (s : State), s.operating ∧ s.pgRunning pSEQ ∧ s.getF (SEQ.INP_CFG_STUCK 0) ≠ 0 ∧ s.getB (SEQ.INP_STAT_FILT 0) ∧ s.getB (SEQ.INP_STAT_STUCK 0) = false ∧ s.getB SEQ.SEQ_STAT_RACK_SELF = false ∧ s.dev.late = [])
    ∧ (∃ (s : State), s.operating ∧ s.pgRunning pSEQ ∧ s.getF (SEQ.INP_CFG_STUCK 4) ≠ 0 ∧ s.getB (SEQ.INP_STAT_FILT 4) ∧ s.getB (SEQ.INP_STAT_STUCK 4) = false ∧ stuckTimerRuns 4 s ∧ s.dev.late = [])
    ∧ (∃ (i : SupInput) (s : State), i ≠ .rackflt ∧ s.getB (SEQ.INP_STAT_STUCK (supIndex i)) ∧ (∀ j : Fin 6, j.val ≠ 0 → j.val ≠ supIndex i → s.getB (SEQ.INP_STAT_STUCK j) = false))
    ∧ (∃ (s : State), s.getB (SEQ.INP_STAT_STUCK 0))
    ∧ (∃ (r : Requester) (s : State), Accepts s r SEQ.CNT_CTRL 1) :=
  ⟨⟨.firmware, 3, mode_ mRUN [(pgStatState pSEQ, 2), (pgStatState pSEQSLOT, 2), (pgStatState (pSEQGRP 3), 2)], by decide +kernel⟩,
   ⟨.firmware, 3, mode_ mRUN [(pgStatState pSEQ, 2), (pgStatState pSEQSLOT, 2), (pgStatState (pSEQGRP 3), 2), (SEQGRP.GRP_STAT_STATE 3, grON)], by decide +kernel⟩,
   ⟨.firmware, 3, mode_ mRUN [(pgStatState pSEQ, 2), (pgStatState pSEQSLOT, 2), (pgStatState (pSEQGRP 3), 2), (SEQGRP.GRP_STAT_STATE 3, grREST)], by decide +kernel⟩,
   ⟨.firmware, 3, mode_ mRUN [(pgStatState pSEQ, 2), (pgStatState pSEQSLOT, 2), (pgStatState (pSEQGRP 3), 2), (SEQGRP.GRP_CFG_RACK_ACT 3, 1), (SEQ.SEQ_STAT_RACK_LOW, 1)], by decide +kernel⟩,
   ⟨.firmware, 3, mode_ mRUN [(pgStatState pSEQ, 2), (pgStatState pSEQSLOT, 2), (pgStatState (pSEQGRP 3), 2), (CLKPWR.VIN_MV_WARN, 1)], by decide +kernel⟩,
   ⟨.firmware, 3, mode_ mRUN [(pgStatState pSEQ, 2), (pgStatState pSEQSLOT, 2), (pgStatState (pSEQGRP 3), 2), (SEQGRP.GRP_STAT_STATE 3, grON)], by decide +kernel⟩,
   ⟨.firmware, 3, mode_ mRUN [(pgStatState pSEQ, 2), (pgStatState pSEQSLOT, 2), (pgStatState (pSEQGRP 3), 2), (SEQGRP.GRP_STAT_STATE 3, grREST), (SEQGRP.GRP_STAT_UP_PEND 3, 1)], by decide +kernel⟩,
   ⟨.firmware, 3, mode_ mRUN [(pgStatState pSEQ, 2), (pgStatState pSEQSLOT, 2), (pgStatState (pSEQGRP 3), 2), (SEQGRP.GRP_STAT_VIN_HELD 3, 1), (SEQGRP.GRP_STAT_UP_PEND 3, 1)], by decide +kernel⟩,
   ⟨3, { mode_ mRUN [(SEQGRP.GRP_STAT_STATE 3, grREST)] with seq := { SeqSt.rest with restTicks := [10 ^ 9, 10 ^ 9, 10 ^ 9, 10 ^ 9], rstTicks := 10 ^ 9, rackTicks := 10 ^ 9 } }, by decide +kernel⟩,
   ⟨3, { mode_ mRUN [(SEQGRP.GRP_STAT_STATE 3, grREST), (SEQGRP.GRP_STAT_UP_PEND 3, 1)] with seq := { SeqSt.rest with restTicks := [10 ^ 9, 10 ^ 9, 10 ^ 9, 10 ^ 9], rstTicks := 10 ^ 9, rackTicks := 10 ^ 9 } }, by decide +kernel⟩,
   ⟨{ mode_ mRUN [(SEQ.SEQ_STAT_SYS_RESET, 1), (SEQ.SEQ_STAT_RST_OUT, 1)] with seq := { SeqSt.rest with restTicks := [10 ^ 9, 10 ^ 9, 10 ^ 9, 10 ^ 9], rstTicks := 10 ^ 9, rackTicks := 10 ^ 9 } }, by decide +kernel⟩,
   ⟨mode_ mRUN [(pgStatState pSEQ, 2), (SEQ.SEQ_STAT_RACK_STUCK, 1)], by decide +kernel⟩,
   ⟨mode_ mRUN [(pgStatState pSEQ, 2), (SEQ.SEQ_STAT_RACK_SELF, 1)], by decide +kernel⟩,
   ⟨mode_ mRUN [(pgStatState pSEQ, 2)], by decide +kernel⟩,
   ⟨3, mode_ mRUN [(pgStatState pSEQ, 2), (pgStatState pSEQSLOT, 2), (pgStatState (pSEQGRP 3), 2), (SEQGRP.GRP_CFG_RACK_ACT 3, 1), (SEQGRP.GRP_STAT_STATE 3, grON)], ((mode_ mRUN [(pgStatState pSEQ, 2), (pgStatState pSEQSLOT, 2), (pgStatState (pSEQGRP 3), 2), (SEQGRP.GRP_CFG_RACK_ACT 3, 1), (SEQGRP.GRP_STAT_STATE 3, grON)]).setF SEQ.SEQ_STAT_RACK_LOW 1).enterDescend 3, by decide +kernel⟩,
   ⟨mode_ mRUN [(SEQ.SEQ_STAT_RACK_LOW, 1)], by decide +kernel⟩,
   ⟨mode_ mRUN [(SEQ.SEQ_STAT_RACK_LOW, 1)], by decide +kernel⟩,
   ⟨{ mode_ mRUN [(SEQ.SEQ_STAT_RACK_SELF, 1), (SEQ.SEQ_STAT_RACK_LOW, 1)] with seq := { SeqSt.rest with restTicks := [10 ^ 9, 10 ^ 9, 10 ^ 9, 10 ^ 9], rstTicks := 10 ^ 9, rackTicks := 10 ^ 9 } }, by decide +kernel⟩,
   ⟨.syncIn, true, true, mode_ mRUN [(pgStatState pSEQ, 2)], by decide +kernel⟩,
   ⟨true, false, mode_ mRUN [(pgStatState pSEQ, 2)], by decide +kernel⟩,
   ⟨false, mode_ mRUN [(pgStatState pSEQ, 2)], by decide +kernel⟩,
   ⟨true, mode_ mRUN [(pgStatState pSEQ, 2), (RIDGE.PAIR_STAT_BELAY_LOW, 1)], by decide +kernel⟩,
   ⟨true, mode_ mRUN [(pgStatState pSEQ, 2), (SEQ.SEQ_STAT_RACK_LOW, 1), (SEQ.INP_STAT_FILT 0, 1)], by decide +kernel⟩,
   ⟨.wake, mode_ mRUN [(pgStatState pSEQ, 2), (SEQ.INP_CFG_STUCK 3, 5), (SEQ.INP_STAT_FILT 3, 1)], by decide +kernel⟩,
   ⟨mode_ mRUN [(pgStatState pSEQ, 2), (SEQ.INP_CFG_STUCK 0, 5), (SEQ.INP_STAT_FILT 0, 1)], by decide +kernel⟩,
   ⟨pair_ (mode_ mRUN [(pgStatState pSEQ, 2), (SEQ.INP_CFG_STUCK 4, 5), (SEQ.INP_STAT_FILT 4, 1), (RIDGE.PAIR_STAT_LINK, 1)]), by decide +kernel⟩,
   ⟨.wake, mode_ mRUN [(SEQ.INP_STAT_STUCK 3, 1), (SEQ.INP_STAT_STUCK 0, 1)], by decide +kernel⟩,
   ⟨mode_ mRUN [(SEQ.INP_STAT_STUCK 0, 1)], by decide +kernel⟩,
   ⟨.firmware, mode_ mRUN [(pgStatState pSEQ, 2), (SEQ.INP_STAT_ACT 5, 77)], by decide +kernel⟩⟩

theorem witness_CollectorCommands :
    (∃ (i : BitVec 8) (d : List Byte) (s : State), s.powered ∧ srcReserved i.toNat = false ∧ i ≠ 98 ∧ i ≠ 194 ∧ i ≠ 195)
    ∧ (∃ (s : State), s.powered ∧ s.dev.takeoverHeld ∧ s.pair.yielded)
    ∧ (∃ (s : State), s.powered ∧ s.dev.takeoverHeld)
    ∧ (∃ (r : Requester) (k : Fin 8) (m : Word) (s : State), Accepts s r (FCOL.ACT k) m.toNat)
    ∧ (∃ (r : Requester) (s : State), Accepts s r FCOL.FCOL_CTRL 1)
    ∧ (∃ (r : Requester) (u : BitVec 4) (i : BitVec 6) (s v : State), Accepts s r FCOL.UNFENCE (2 ^ 31 + u.toNat * 2 ^ 16 + i.toNat) ∧ v = Stored s r FCOL.UNFENCE (2 ^ 31 + u.toNat * 2 ^ 16 + i.toNat) ∧ unfenceIndexOk u.toNat i.toNat ∧ v.unitFenced u.toNat i.toNat ∧ (unfenceSources u.toNat i.toNat).all (fun x => !v.getAct x))
    ∧ (∃ (r : Requester) (i : Fin 24) (v : Nat) (s : State), v = 2 ^ 31 + i.val ∧ Accepts s r FCOL.UNFENCE v ∧ s.shelf.strFence.getD i false ∧ s.getAct (64 + i) = false)
    ∧ (∃ (r : Requester) (u : BitVec 4) (i : BitVec 6) (s v : State), Accepts s r FCOL.UNFENCE (2 ^ 31 + u.toNat * 2 ^ 16 + i.toNat) ∧ v = Stored s r FCOL.UNFENCE (2 ^ 31 + u.toNat * 2 ^ 16 + i.toNat) ∧ (unfenceIndexOk u.toNat i.toNat = false ∨ v.unitFenced u.toNat i.toNat = false ∨ (unfenceSources u.toNat i.toNat).any v.getAct))
    ∧ (∃ (r : Requester) (two : Bool) (c : BitVec 4) (n : BitVec 5) (k : Byte) (w : Nat) (s : State), w = 2 ^ 31 + two.toNat * 2 ^ 24 + c.toNat * 2 ^ 16 + n.toNat * 2 ^ 8 + k.toNat ∧ Accepts s r FCOL.INJ w ∧ s.injOk c.toNat n.toNat k.toNat)
    ∧ (∃ (r : Requester) (two : Bool) (c : BitVec 4) (n : BitVec 5) (k : Byte) (w : Nat) (s : State), w = 2 ^ 31 + two.toNat * 2 ^ 24 + c.toNat * 2 ^ 16 + n.toNat * 2 ^ 8 + k.toNat ∧ Accepts s r FCOL.INJ w ∧ s.injOk c.toNat n.toNat k.toNat = false ∧ (k ≠ 0 ∨ s.getB FCOL.INJ_STAT_BUSY = false))
    ∧ (∃ (r : Requester) (w : Nat) (s : State), w = 2 ^ 31 + s.getN FCOL.INJ / 2 ^ 8 * 2 ^ 8 ∧ Accepts s r FCOL.INJ w ∧ s.getB FCOL.INJ_STAT_BUSY)
    ∧ (∃ (d : Bool) (b : List Byte) (s v : State), s.powered ∧ s.getB FCOL.INJ_STAT_BUSY ∧ 1 < s.getF FCOL.INJ_STAT_LEFT ∧ s.inj.checker ≠ 5 ∧ s.inj.checker ≠ 6 ∧ s.inj.checker ≠ 10 ∧ v = ((s.setF FCOL.INJ_STAT_LEFT (s.getF FCOL.INJ_STAT_LEFT - 1)).setF FCOL.INJ_STAT_DETECT (min (s.getF FCOL.INJ_STAT_DETECT + d.toNat) 255)))
    ∧ (∃ (b : List Byte) (s : State), s.powered ∧ s.getB FCOL.INJ_STAT_BUSY ∧ s.getF FCOL.INJ_STAT_LEFT = 1 ∧ s.inj.checker ≠ 5 ∧ s.inj.checker ≠ 6) :=
  ⟨⟨248, [1, 2], mode_ mRUN [], by decide +kernel⟩,
   ⟨{ mode_ mRUN [] with dev := { DevSt.rest with takeoverHeld := true }, pair := { PairSt.rest with yielded := true } }, by decide +kernel⟩,
   ⟨{ mode_ mRUN [] with dev := { DevSt.rest with takeoverHeld := true } }, by decide +kernel⟩,
   ⟨.firmware, 7, 0xFFFFFFFF, (mode_ mRUN []).setReg (FCOL.ACT 7) 0xFFFF, by decide +kernel⟩,
   ⟨.firmware, mode_ mRUN [(FCOL.FCOL_STAT_HANDLING, 1), (⟨FCOL.ACT 0, 3, 1⟩, 1), (FCOL_SEV.SEV_SEV 3, 4)], by decide +kernel⟩,
   ⟨.firmware, 3, 31, mode_ mRUN [(SEQSLOT.SL_STAT_STATE 31, slFENCED)], Stored (mode_ mRUN [(SEQSLOT.SL_STAT_STATE 31, slFENCED)]) .firmware FCOL.UNFENCE (2 ^ 31 + 3 * 2 ^ 16 + 31), by decide +kernel⟩,
   ⟨.firmware, 23, 2 ^ 31 + 23, (mode_ mRUN []).updShelf (fun x => { x with strFence := List.replicate 24 true }), by decide +kernel⟩,
   ⟨.firmware, 15, 31, mode_ mRUN [], Stored (mode_ mRUN []) .firmware FCOL.UNFENCE (2 ^ 31 + 15 * 2 ^ 16 + 31), by decide +kernel⟩,
   ⟨.firmware, true, 1, 3, 255, 2 ^ 31 + 1 * 2 ^ 24 + 1 * 2 ^ 16 + 3 * 2 ^ 8 + 255, mode_ mSERVICE [], by decide +kernel⟩,
   ⟨.firmware, false, 1, 3, 255, 2 ^ 31 + 1 * 2 ^ 16 + 3 * 2 ^ 8 + 255, mode_ mRUN [], by decide +kernel⟩,
   ⟨.firmware, 2 ^ 31, mode_ mSERVICE [(FCOL.INJ_STAT_BUSY, 1)], by decide +kernel⟩,
   ⟨true, [7], mode_ mSERVICE [(FCOL.INJ_STAT_BUSY, 1), (FCOL.INJ_STAT_LEFT, 2)], (mode_ mSERVICE [(FCOL.INJ_STAT_BUSY, 1), (FCOL.INJ_STAT_LEFT, 1)]).setF FCOL.INJ_STAT_DETECT 1, by decide +kernel⟩,
   ⟨[7], mode_ mSERVICE [(FCOL.INJ_STAT_BUSY, 1), (FCOL.INJ_STAT_LEFT, 1)], by decide +kernel⟩⟩

theorem witness_RaiseFrame :
    ∃ (src : Fin 256) (d : List Nat) (s : State), effSev (s.getF (FCOL_SEV.SEV_SEV src)) src d .plain ≤ 2 ∧ (¬ (16 ≤ src.val ∧ src.val < 64 ∧ src.val % 2 = 0 ∧ d.getD 0 0 = 3)) ∧ s.cairnN + 1 < 32704 :=
  ⟨248, [1, 2], mode_ mRUN [(FCOL_SEV.SEV_SEV 248, 2)], by decide +kernel⟩

theorem witness_PageStates :
    (∃ (r : Requester) (p : PageNo) (s : State), Accepts s r (pgCtrl p) 1 ∧ s.pgState p = psSTOPPED ∧ alwaysRunning p = false)
    ∧ (∃ (r : Requester) (p : PageNo) (s : State), Accepts s r (pgCtrl p) 2 ∧ s.pgState p = psSTARTING ∧ alwaysRunning p = false)
    ∧ (∃ (r : Requester) (p : PageNo) (s u : State), Accepts s r (pgCtrl p) 2 ∧ s.pgState p = psRUNNING ∧ alwaysRunning p = false ∧ u = (s.ownerTouch p r).stopAsked p)
    ∧ (∃ (r : Requester) (p : PageNo) (s : State), s.portOpen r ∧ s.txCheck r (pgCtrl p) 1 true = none ∧ s.mayWrite p r ∧ s.pgState p = psRUNNING ∧ s.stopPermitted p (reqPage r) = false)
    ∧ (∃ (r : Requester) (p : PageNo) (s u : State), Accepts s r (pgCtrl p) 4 ∧ s.pgState p = psFENCED ∧ alwaysRunning p = false ∧ u = (s.ownerTouch p r).fenceCleared p)
    ∧ (∃ (r : Requester) (p : PageNo) (s : State), Accepts s r (pgCtrl p) 4 ∧ s.pgState p = psFENCED ∧ alwaysRunning p = false ∧ (∀ q : Fin 8, p.val ≠ pRAIL q))
    ∧ (∃ (r : Requester) (p : PageNo) (s : State), s.portOpen r ∧ s.txCheck r (pgCtrl p) 1 true = none ∧ s.mayWrite p r ∧ s.pgState p = psFENCED ∧ alwaysRunning p = false ∧ (s.fsum p).getLsbD 28)
    ∧ (∃ (p : PageNo) (s : State), s.powered ∧ s.pgState p = psSTARTING ∧ p.val ≠ pEST ∧ s.startOk p ∧ schedPages.contains p.val = false)
    ∧ (∃ (p : PageNo) (s : State), s.powered ∧ s.pgState p = psSTARTING ∧ p.val ≠ pEST ∧ s.startOk p = false)
    ∧ (∃ (p : PageNo) (s : State), s.powered ∧ s.pgState p = psSTOPPING ∧ s.stopReady p)
    ∧ (∃ (r : Requester) (p : PageNo) (t : Half) (s : State), Accepts s r (pgOwner p) (t.toNat * 2 ^ 16) ∧ r ≠ .firmware ∧ t ≠ 0)
    ∧ (∃ (r : Requester) (p : PageNo) (s : State), Accepts s r (pgOwner p) 0 ∧ r ≠ .firmware)
    ∧ (∃ (p : PageNo) (t : Half) (s : State), Accepts s .firmware (pgOwner p) (t.toNat * 2 ^ 16) ∧ t ≠ 0)
    ∧ (∃ (p : PageNo) (s : State), s.getB (pgOwnerHeld p) ∧ s.getN DEV.OWN_TIMEOUT ≠ 0 ∧ 1000000 * s.getN DEV.OWN_TIMEOUT ≤ s.dev.nowUs - (lookupKey p s.dev.ownAt).getD 0) :=
  ⟨⟨.firmware, ⟨pSEQ, by decide +kernel⟩, mode_ mRUN [(pgStatState pSEQ, psSTOPPED)], by decide +kernel⟩,
   ⟨.firmware, ⟨pSEQ, by decide +kernel⟩, mode_ mRUN [(pgStatState pSEQ, psSTARTING)], by decide +kernel⟩,
   ⟨.firmware, ⟨pSEQ, by decide +kernel⟩, mode_ mRUN [(pgStatState pSEQ, psRUNNING)], (mode_ mRUN [(pgStatState pSEQ, psRUNNING)]).stopAsked pSEQ, by decide +kernel⟩,
   ⟨.firmware, ⟨pVCE, by decide +kernel⟩, mode_ mRUN [(pgStatState pVCE, psRUNNING)], by decide +kernel⟩,
   ⟨.firmware, ⟨pRAIL 7, by decide +kernel⟩, mode_ mRUN [(pgStatState (pRAIL 7), psFENCED)], (mode_ mRUN [(pgStatState (pRAIL 7), psFENCED)]).fenceCleared (pRAIL 7), by decide +kernel⟩,
   ⟨.firmware, ⟨pSEQ, by decide +kernel⟩, mode_ mRUN [(pgStatState pSEQ, psFENCED)], by decide +kernel⟩,
   ⟨.firmware, ⟨pYPORT 0, by decide +kernel⟩, mode_ mRUN [(pgStatState (pYPORT 0), psFENCED), (⟨FCOL.ACT 0, 16, 1⟩, 1)], by decide +kernel⟩,
   ⟨⟨pSEQ, by decide +kernel⟩, mode_ mRUN [(pgStatState pSEQ, psSTARTING)], by decide +kernel⟩,
   ⟨⟨pRAIL 0, by decide +kernel⟩, mode_ mRUN [(pgStatState (pRAIL 0), psSTARTING)], by decide +kernel⟩,
   ⟨⟨pSEQ, by decide +kernel⟩, mode_ mRUN [(pgStatState pSEQ, psSTOPPING)], by decide +kernel⟩,
   ⟨.can 2 9, ⟨pSEQ, by decide +kernel⟩, 0xFFFF, mode_ mRUN [(pgStatState (pCAN 2), 2)], by decide +kernel⟩,
   ⟨.can 2 9, ⟨pSEQ, by decide +kernel⟩, (mode_ mRUN [(pgStatState (pCAN 2), 2)]).setN (pgOwner pSEQ) (0x77 * 2 ^ 16 + 9 * 2 ^ 8 + 4 * 2 ^ 4 + 1), by decide +kernel⟩,
   ⟨⟨pSEQ, by decide +kernel⟩, 0xFFFF, mode_ mRUN [], by decide +kernel⟩,
   ⟨⟨pSEQ, by decide +kernel⟩, { (mode_ mRUN [(pgOwnerHeld pSEQ, 1)]) with dev := { DevSt.rest with nowUs := 30000000 } }, by decide +kernel⟩⟩

theorem witness_HostTransactions :
    (∃ (r : Requester) (a : BitVec 24) (v : Word) (k : PageKind) (x n i : Nat) (s : State), Accepts s r a.toNat v.toNat ∧ pageKind (a.toNat / 0x1000) = some (k, x) ∧ (findReg (a.toNat / 0x1000) (a.toNat % 0x1000)).map Prod.snd = some (n, i) ∧ a.toNat % 0x1000 ≠ 4 ∧ a.toNat % 0x1000 ≠ 8 ∧ a.toNat % 0x1000 ≠ 0x14 ∧ a.toNat / 0x1000 ≠ pIMAGE)
    ∧ (∃ (a : BitVec 24) (len c : Byte) (s : State) (x : Nat × Nat × List Word × State), s.powered ∧ crc8 (headBytes 0xA1 a.toNat len.toNat) = c.toNat ∧ s.hostReady .spi ∧ s.spiShut true a.toNat = false ∧ x = s.readTx .spi a.toNat (lenWords len.toNat) ∧ x.1 = stOK)
    ∧ (∃ (a : BitVec 24) (c : Byte) (k : PageKind) (y : Nat) (s : State), s.powered ∧ crc8 (headBytes 0xA1 a.toNat 0) = c.toNat ∧ s.hostReady .spi ∧ s.spiShut true a.toNat = false ∧ s.txCheck .spi a.toNat 1 false = none ∧ pageKind (a.toNat / 0x1000) = some (k, y) ∧ multiWord k (a.toNat % 0x1000) = none)
    ∧ (∃ (a : BitVec 24) (len c : Byte) (s : State), s.powered ∧ crc8 (headBytes 0xA1 a.toNat len.toNat) ≠ c.toNat)
    ∧ (∃ (a : BitVec 24) (len c : Byte) (ws : List Word) (dc : Half) (s : State) (x : Nat × Nat × State), s.powered ∧ ws.length = lenWords len.toNat ∧ crc8 (headBytes 0xB2 a.toNat len.toNat) = c.toNat ∧ crc16 (wordBytes ws) = dc.toNat ∧ s.hostReady .spi ∧ s.spiShut false a.toNat = false ∧ x = s.writeTx .spi a.toNat ws ∧ x.2.2.mode ≠ mASCENT)
    ∧ (∃ (a : BitVec 24) (len c : Byte) (ws : List Word) (dc : Half) (s : State), s.powered ∧ s.mode ≠ mASCENT ∧ ws.length = lenWords len.toNat ∧ crc16 (wordBytes ws) ≠ dc.toNat)
    ∧ (∃ (a : BitVec 24) (len c : Byte) (ws : List Word) (dc : Half) (s : State), s.powered ∧ ws.length < lenWords len.toNat)
    ∧ (∃ (a : BitVec 24) (len c : Byte) (s : State), s.powered ∧ crc8 (headBytes 0xC3 a.toNat len.toNat) = c.toNat ∧ s.hostReady .spi ∧ s.spiShut false a.toNat = false)
    ∧ (∃ (k : Byte) (a : BitVec 24) (len c : Byte) (s : State), s.powered ∧ k ≠ 0xA1 ∧ k ≠ 0xB2 ∧ k ≠ 0xC3 ∧ crc8 (headBytes k.toNat a.toNat len.toNat) = c.toNat ∧ s.hostReady .spi ∧ s.spiShut false a.toNat = false)
    ∧ (∃ (s : State), s.powered)
    ∧ (∃ (h : MsgHead) (a : BitVec 24) (len c : Byte) (s : State), s.portHears (portNo h.port) ∧ h.dst.toNat = s.nodeAddr (portNo h.port) ∧ portNo h.port ≠ 4 ∧ crc16 (identBytes 0x10 h.dst.toNat h.src.toNat h.tag.toNat ++ (headBytes 0xA1 a.toNat len.toNat ++ [c.toNat])) = h.crc.toNat)
    ∧ (∃ (h : MsgHead) (a : BitVec 24) (len c : Byte) (ws : List Word) (dc : Half) (s : State), s.portHears (portNo h.port) ∧ h.dst.toNat = s.nodeAddr (portNo h.port) ∧ (portNo h.port = 4 → h.src = h.node) ∧ crc16 (identBytes 0x10 h.dst.toNat h.src.toNat h.tag.toNat ++ (headBytes 0xB2 a.toNat len.toNat ++ [c.toNat] ++ wordBytes ws ++ leBytes 2 dc.toNat)) = h.crc.toNat) :=
  ⟨⟨.firmware, BitVec.ofNat 24 DEV.OWN_TIMEOUT, 60, .dev, 0, 0, 0, mode_ mRUN [], by decide +kernel⟩,
   ⟨BitVec.ofNat 24 DEV.OWN_TIMEOUT, 0, BitVec.ofNat 8 (crc8 (headBytes 0xA1 DEV.OWN_TIMEOUT 0)), mode_ mRUN [(pgStatState pSPI, 2)], (mode_ mRUN [(pgStatState pSPI, 2)]).readTx .spi DEV.OWN_TIMEOUT 1, by decide +kernel⟩,
   ⟨BitVec.ofNat 24 DEV.OWN_TIMEOUT, BitVec.ofNat 8 (crc8 (headBytes 0xA1 DEV.OWN_TIMEOUT 0)), .dev, 0, mode_ mRUN [(pgStatState pSPI, 2)], by decide +kernel⟩,
   ⟨5, 63, 0, mode_ mRUN [(pgStatState pSPI, 2)], by decide +kernel⟩,
   ⟨BitVec.ofNat 24 DEV.OWN_TIMEOUT, 0, BitVec.ofNat 8 (crc8 (headBytes 0xB2 DEV.OWN_TIMEOUT 0)), [60], BitVec.ofNat 16 (crc16 (wordBytes [60])), mode_ mRUN [(pgStatState pSPI, 2)], (mode_ mRUN [(pgStatState pSPI, 2)]).writeTx .spi DEV.OWN_TIMEOUT [60], by decide +kernel⟩,
   ⟨5, 0, 0, [60], BitVec.ofNat 16 (crc16 (wordBytes [60]) + 1), mode_ mRUN [(pgStatState pSPI, 2)], by decide +kernel⟩,
   ⟨5, 63, 0, [60], 0, mode_ mRUN [(pgStatState pSPI, 2)], by decide +kernel⟩,
   ⟨0, 0, BitVec.ofNat 8 (crc8 (headBytes 0xC3 0 0)), mode_ mRUN [(pgStatState pSPI, 2)], by decide +kernel⟩,
   ⟨0, 0, 0, BitVec.ofNat 8 (crc8 (headBytes 0 0 0)), mode_ mRUN [(pgStatState pSPI, 2)], by decide +kernel⟩,
   ⟨mode_ mRUN [], by decide +kernel⟩,
   ⟨⟨.can 0, 1, 2, 9, 0, BitVec.ofNat 16 (crc16 (identBytes 0x10 1 2 9 ++ (headBytes 0xA1 0x1000 0 ++ [7])))⟩, 0x1000, 0, 7, plantState 0, by decide +kernel⟩,
   ⟨⟨.can 0, 1, 2, 9, 0, BitVec.ofNat 16 (crc16 (identBytes 0x10 1 2 9 ++ (headBytes 0xB2 0x1000 0 ++ [7] ++ wordBytes [5] ++ leBytes 2 77)))⟩, 0x1000, 0, 7, [5], 77, plantState 0, by decide +kernel⟩⟩

theorem witness_ParameterStore :
    (∃ (r : Requester) (id : Half) (p : List Byte) (v : State) (s : State), Accepts s r PSTORE.PS_CMD (2 ^ 31 + 1 * 2 ^ 24 + id.toNat) ∧ v = Stored s r PSTORE.PS_CMD (2 ^ 31 + 1 * 2 ^ 24 + id.toNat) ∧ s.getB PSTORE.PS_STAT_BUSY = false ∧ psIsConfig id.toNat ∧ v.cfgBuild id.toNat = some p ∧ v.psUnchanged id.toNat p = false)
    ∧ (∃ (r : Requester) (id : Half) (p : List Byte) (v : State) (s : State), Accepts s r PSTORE.PS_CMD (2 ^ 31 + 1 * 2 ^ 24 + id.toNat) ∧ v = Stored s r PSTORE.PS_CMD (2 ^ 31 + 1 * 2 ^ 24 + id.toNat) ∧ s.getB PSTORE.PS_STAT_BUSY = false ∧ psIsConfig id.toNat ∧ v.cfgBuild id.toNat = some p ∧ v.psUnchanged id.toNat p)
    ∧ (∃ (r : Requester) (id : Half) (s : State), Accepts s r PSTORE.PS_CMD (2 ^ 31 + 1 * 2 ^ 24 + id.toNat) ∧ s.getB PSTORE.PS_STAT_BUSY = false ∧ psIsConfig id.toNat = false)
    ∧ (∃ (r : Requester) (id : Half) (s : State), Accepts s r PSTORE.PS_CMD (2 ^ 31 + 1 * 2 ^ 24 + id.toNat) ∧ s.getB PSTORE.PS_STAT_BUSY)
    ∧ (∃ (r : Requester) (v : State) (s : State), Accepts s r PSTORE.PS_CMD (2 ^ 31 + 2 * 2 ^ 24) ∧ v = Stored s r PSTORE.PS_CMD (2 ^ 31 + 2 * 2 ^ 24) ∧ s.getB PSTORE.PS_STAT_BUSY = false ∧ psConfigIds.all (fun i => (v.cfgBuild i).isSome))
    ∧ (∃ (r : Requester) (id : Half) (v : State) (s : State), Accepts s r PSTORE.PS_CMD (2 ^ 31 + 3 * 2 ^ 24 + id.toNat) ∧ v = Stored s r PSTORE.PS_CMD (2 ^ 31 + 3 * 2 ^ 24 + id.toNat) ∧ s.getB PSTORE.PS_STAT_BUSY = false ∧ s.mode = mSERVICE ∧ psIsConfig id.toNat ∧ v.psUnchanged id.toNat [] = false)
    ∧ (∃ (r : Requester) (id : Half) (s : State), Accepts s r PSTORE.PS_CMD (2 ^ 31 + 3 * 2 ^ 24 + id.toNat) ∧ s.getB PSTORE.PS_STAT_BUSY = false ∧ psIsConfig id.toNat ∧ s.mode ≠ mSERVICE)
    ∧ (∃ (r : Requester) (s : State), Accepts s r PSTORE.PS_CMD (2 ^ 31 + 4 * 2 ^ 24) ∧ s.getB PSTORE.PS_STAT_BUSY = false ∧ s.mode = mSERVICE)
    ∧ (∃ (r : Requester) (s : State), Accepts s r PSTORE.PS_CMD (2 ^ 31 + 4 * 2 ^ 24) ∧ s.getB PSTORE.PS_STAT_BUSY = false ∧ s.mode ≠ mSERVICE)
    ∧ (∃ (f : StoreScan) (s : State), s.powered ∧ s.ps.scanning)
    ∧ (∃ (w : PsWrite) (s : State), s.psNextWrite = some w ∧ s.powered ∧ s.nvOk ∧ s.dev.mpuRestart = false ∧ s.dmMoves 7 ∧ s.ps.scanning = false ∧ s.ps.flight = none)
    ∧ (∃ (f : PsFlight) (s : State), s.ps.flight = some f ∧ s.powered ∧ 64 * (f.pages + 1) < f.bytes.length ∧ s.getB CLKPWR.VIN_MV_WARN = false)
    ∧ (∃ (f : PsFlight) (s : State), s.ps.flight = some f ∧ s.powered ∧ f.bytes.length ≤ 64 * (f.pages + 1)) :=
  ⟨⟨.firmware, 0x1010, [], Stored (mode_ mRUN []) .firmware PSTORE.PS_CMD (2 ^ 31 + 2 ^ 24 + 0x1010), mode_ mRUN [], by decide +kernel⟩,
   ⟨.firmware, 0x1010, [], Stored ((mode_ mRUN []).psPut 0x1010 false ⟨psEncodeS 0x1010 (psForm 0x1010) 1 ((mode_ mRUN []).bank false).schemaMax [], false⟩) .firmware PSTORE.PS_CMD (2 ^ 31 + 2 ^ 24 + 0x1010), (mode_ mRUN []).psPut 0x1010 false ⟨psEncodeS 0x1010 (psForm 0x1010) 1 ((mode_ mRUN []).bank false).schemaMax [], false⟩, by decide +kernel⟩,
   ⟨.firmware, 0x100, mode_ mRUN [], by decide +kernel⟩,
   ⟨.firmware, 0x1010, mode_ mRUN [(PSTORE.PS_STAT_BUSY, 1)], by decide +kernel⟩,
   ⟨.firmware, Stored (mode_ mRUN []) .firmware PSTORE.PS_CMD (2 ^ 31 + 2 * 2 ^ 24), mode_ mRUN [], by decide +kernel, rfl, by decide +kernel, psBuilds⟩,
   ⟨.firmware, 0x1010, Stored (mode_ mSERVICE []) .firmware PSTORE.PS_CMD (2 ^ 31 + 3 * 2 ^ 24 + 0x1010), mode_ mSERVICE [], by decide +kernel⟩,
   ⟨.firmware, 0x1010, mode_ mRUN [], by decide +kernel⟩,
   ⟨.firmware, mode_ mSERVICE [], by decide +kernel⟩,
   ⟨.firmware, mode_ mRUN [], by decide +kernel⟩,
   ⟨⟨700, 0, []⟩, { mode_ mSERVICE [(PSTORE.PS_STAT_BUSY, 1)] with ps := { State.reset.ps with scanning := true } }, by decide +kernel⟩,
   ⟨⟨0x200, 1, [7], false⟩, { mode_ mRUN [(CLKPWR.VHOLD_MV_VHOLD_RDY, 1)] with ps := { State.reset.ps with queue := [⟨0x1010, 1, [], false⟩, ⟨0x200, 1, [7], false⟩] } }, by decide +kernel⟩,
   ⟨⟨0x1010, true, 1, [], List.replicate 100 7, 0⟩, { mode_ mRUN [] with ps := { State.reset.ps with flight := some ⟨0x1010, true, 1, [], List.replicate 100 7, 0⟩ } }, by decide +kernel⟩,
   ⟨⟨0x1010, true, 1, [], List.replicate 100 7, 1⟩, { mode_ mRUN [] with ps := { State.reset.ps with flight := some ⟨0x1010, true, 1, [], List.replicate 100 7, 1⟩, cmd := [0x1010] } }, by decide +kernel⟩⟩

theorem witness_CairnCommands :
    (∃ (l : CairnRec) (s : State), s.powered ∧ s.nvOk ∧ s.mpuRuns ∧ s.cairn.clearSeq = none ∧ s.cairn.staged.getLast? = some l ∧ s.cairn.rewrite = none)
    ∧ (∃ (s : State), s.powered ∧ s.nvOk ∧ s.mpuRuns ∧ s.cairn.clearSeq = none ∧ s.cairn.staged = [])
    ∧ (∃ (r : Requester) (s : State), Accepts s r CAIRN.TC_CMD (2 ^ 31) ∧ (32704 ≤ s.cairnN ∨ 256 ≤ s.cairn.staged.length))
    ∧ (∃ (r : Requester) (s v : State), Accepts s r CAIRN.TC_CMD (2 ^ 31) ∧ v = ((Stored s r CAIRN.TC_CMD (2 ^ 31)).setF CAIRN.CAIRN_STAT_TIMECOR 1).setF CAIRN.TC_CMD_RESULT prDONE ∧ s.cairnN < 32704 ∧ s.cairn.staged.length < 256)
    ∧ (∃ (r : Requester) (k : Byte) (w c : Nat) (s : State), w = 2 ^ 31 + k.toNat * 2 ^ 8 ∧ Accepts s r CAIRN.CLR_CMD w ∧ ((s.mode ≠ mSERVICE ∧ c = 1) ∨ (s.mode = mSERVICE ∧ k ≠ 0xA7 ∧ c = 2) ∨ (s.mode = mSERVICE ∧ k = 0xA7 ∧ s.cairn.clearSeq.isSome ∧ c = 5) ∨ (s.mode = mSERVICE ∧ k = 0xA7 ∧ s.cairn.clearSeq = none ∧ s.getReg CAIRN.ARCHIVE_ACK ≠ s.getReg CAIRN.LAST_SEQ ∧ c = 3)))
    ∧ (∃ (r : Requester) (w : Nat) (s : State), w = 2 ^ 31 + 0xA7 * 2 ^ 8 ∧ Accepts s r CAIRN.CLR_CMD w ∧ s.mode = mSERVICE ∧ s.cairn.clearSeq = none ∧ s.getReg CAIRN.ARCHIVE_ACK = s.getReg CAIRN.LAST_SEQ)
    ∧ (∃ (l : Nat) (s : State), s.powered ∧ s.nvOk ∧ s.mpuRuns ∧ s.cairn.clearSeq = some l) :=
  ⟨⟨(State.reset.mkRec 7 9 1 0 0 [1]), { mode_ mRUN [(CLKPWR.VHOLD_MV_VHOLD_RDY, 1)] with cairn := { State.reset.cairn with staged := [State.reset.mkRec 7 9 1 0 0 [1]] } }, by decide +kernel⟩,
   ⟨mode_ mRUN [(CLKPWR.VHOLD_MV_VHOLD_RDY, 1)], by decide +kernel⟩,
   ⟨.firmware, { mode_ mRUN [] with cairn := { State.reset.cairn with staged := List.replicate 256 (State.reset.mkRec 7 9 1 0 0 [1]) } }, by decide +kernel⟩,
   ⟨.firmware, (mode_ mRUN []).setReg CAIRN.TC_LO 77, ((Stored ((mode_ mRUN []).setReg CAIRN.TC_LO 77) .firmware CAIRN.TC_CMD (2 ^ 31)).setF CAIRN.CAIRN_STAT_TIMECOR 1).setF CAIRN.TC_CMD_RESULT prDONE, by decide +kernel⟩,
   ⟨.firmware, 0xA7, 2 ^ 31 + 0xA7 * 2 ^ 8, 3, (mode_ mSERVICE []).setReg CAIRN.LAST_SEQ 9, by decide +kernel⟩,
   ⟨.firmware, 2 ^ 31 + 0xA7 * 2 ^ 8, (mode_ mSERVICE []).setReg CAIRN.LAST_SEQ 9 |>.setReg CAIRN.ARCHIVE_ACK 9, by decide +kernel⟩,
   ⟨9, { mode_ mSERVICE [(CAIRN.CAIRN_STAT_CLEARING, 1), (CLKPWR.VHOLD_MV_VHOLD_RDY, 1)] with cairn := { State.reset.cairn with clearSeq := some 9, clearOld := [State.reset.mkRec 7 9 1 0 0 [1]] } }, by decide +kernel⟩⟩

theorem witness_CairnRecordWindow :
    ∃ (r : Requester) (q : Word) (s : State), Accepts s r CAIRN.RD_SEQ q.toNat :=
  ⟨.firmware, 5, { mode_ mRUN [] with cairn := { State.reset.cairn with staged := [State.reset.mkRec 7 9 1 0 0 [1]] } }, by decide +kernel⟩

theorem witness_ImageStream :
    (∃ (r : Requester) (s v : State), Accepts s r IMAGE.IMG_CMD (2 ^ 31 + 1 * 2 ^ 24) ∧ v = Stored s r IMAGE.IMG_CMD (2 ^ 31 + 1 * 2 ^ 24) ∧ s.getB IMAGE.RUN_STAT_TRIAL = false ∧ s.imgStreams = false ∧ s.nvOk)
    ∧ (∃ (r : Requester) (s : State), Accepts s r IMAGE.IMG_CMD (2 ^ 31 + 1 * 2 ^ 24) ∧ (s.getB IMAGE.RUN_STAT_TRIAL ∨ s.imgStreams ∨ s.nvOk = false))
    ∧ (∃ (r : Requester) (s : State), Accepts s r IMAGE.IMG_CMD (2 ^ 31 + 2 * 2 ^ 24) ∧ s.imgStreams)
    ∧ (∃ (r : Requester) (ws : List Word) (s : State), s.portOpen r ∧ s.txCheck r (0x1000 * pIMAGE + 0x100) ws.length true = none ∧ s.mayWrite pIMAGE r ∧ s.imgState = imRECEIVING ∧ s.nvOk ∧ s.getN IMAGE.WR_OFS + 4 * ws.length < 512 ∧ ws.length ≤ 64 ∧ s.img.banks.length = 2)
    ∧ (∃ (s : State) (c : Nat), s.powered ∧ s.imgState = imCHECKING ∧ c = s.headerFail { s.bank s.target with bad := false } ∧ c ≠ 0)
    ∧ (∃ (s : State), s.powered ∧ s.imgState = imCHECKING ∧ s.headerFail { s.bank s.target with bad := false } = 0)
    ∧ (∃ (s : State), s.powered ∧ s.imgState = imVERIFYING)
    ∧ (∃ (s : State), s.powered ∧ s.imgState = imVERIFYING)
    ∧ (∃ (s : State), s.powered ∧ s.imgStreams) :=
  ⟨⟨.firmware, mode_ mRUN [(CLKPWR.VHOLD_MV_VHOLD_RDY, 1)], Stored (mode_ mRUN [(CLKPWR.VHOLD_MV_VHOLD_RDY, 1)]) .firmware IMAGE.IMG_CMD (2 ^ 31 + 2 ^ 24), by decide +kernel⟩,
   ⟨.firmware, mode_ mRUN [(IMAGE.IMG_STAT_STATE, imRECEIVING)], by decide +kernel⟩,
   ⟨.firmware, mode_ mRUN [(IMAGE.IMG_STAT_STATE, imRECEIVING)], by decide +kernel⟩,
   ⟨.firmware, [0x4D494C43, 7], mode_ mRUN [(IMAGE.IMG_STAT_STATE, imRECEIVING), (CLKPWR.VHOLD_MV_VHOLD_RDY, 1)], by decide +kernel⟩,
   ⟨(mode_ mRUN [(IMAGE.IMG_STAT_STATE, imCHECKING)]).putBank true ⟨[1, 2], false, true⟩, 1, by decide +kernel⟩,
   ⟨(mode_ mRUN [(IMAGE.IMG_STAT_STATE, imCHECKING)]).putBank true ⟨[], true, true⟩, by decide +kernel⟩,
   ⟨(mode_ mRUN [(IMAGE.IMG_STAT_STATE, imVERIFYING)]).putBank true ⟨[], true, true⟩, by decide +kernel⟩,
   ⟨mode_ mRUN [(IMAGE.IMG_STAT_STATE, imVERIFYING)], by decide +kernel⟩,
   ⟨mode_ mRUN [(IMAGE.IMG_STAT_STATE, imSTREAMING)], by decide +kernel⟩⟩

theorem witness_ImageActivation :
    (∃ (r : Requester) (k : Byte) (w c : Nat) (s : State), w = 2 ^ 31 + 3 * 2 ^ 24 + k.toNat * 2 ^ 8 ∧ Accepts s r IMAGE.IMG_CMD w ∧ s.mode ≠ mASCENT ∧ ((((s.mode = mHOLDUP) ∨ s.getB DEV.MODE_STAT_DESCENT) ∧ c = 1) ∨ (s.mode = mRUN ∧ s.getB DEV.MODE_STAT_DESCENT = false ∧ ((s.imgState ≠ imREADY ∧ c = 2) ∨ (s.imgState = imREADY ∧ k ≠ 0x5A ∧ c = 3) ∨
      (s.imgState = imREADY ∧ k = 0x5A ∧ s.nvOk = false ∧ c = 4) ∨ (s.imgState = imREADY ∧ k = 0x5A ∧ s.nvOk ∧ s.getB IMAGE.RUN_STAT_TRIAL ∧ c = 5)))))
    ∧ (∃ (r : Requester) (w : Nat) (s v : State), w = 2 ^ 31 + 3 * 2 ^ 24 + 0x5A * 2 ^ 8 ∧ Accepts s r IMAGE.IMG_CMD w ∧ (s.mode = mWATCH ∨ s.mode = mRUN ∨ s.mode = mDEGRADED ∨ s.mode = mSERVICE) ∧ s.getB DEV.MODE_STAT_DESCENT = false ∧ s.imgState = imREADY ∧ s.nvOk ∧ s.getB IMAGE.RUN_STAT_TRIAL = false ∧ v = (Stored s r IMAGE.IMG_CMD w).queueTrial true)
    ∧ (∃ (s : State), s.img.pause = .activate ∧ s.bankFail (s.bank s.target) = 0)
    ∧ (∃ (c : Nat) (s : State), s.img.pause = .activate ∧ c = s.bankFail (s.bank s.target) ∧ c ≠ 0)
    ∧ (∃ (s : State), s.img.pause = .fallback)
    ∧ (∃ (r : Requester) (w : Nat) (s v : State), w = 2 ^ 31 + 4 * 2 ^ 24 + 0x5A * 2 ^ 8 ∧ Accepts s r IMAGE.IMG_CMD w ∧ s.getB IMAGE.RUN_STAT_TRIAL ∧ s.nvOk ∧ v = (Stored s r IMAGE.IMG_CMD w).imgConfirmed)
    ∧ (∃ (r : Requester) (k : Byte) (w : Nat) (s : State), w = 2 ^ 31 + 4 * 2 ^ 24 + k.toNat * 2 ^ 8 ∧ Accepts s r IMAGE.IMG_CMD w ∧ (s.getB IMAGE.RUN_STAT_TRIAL = false ∨ k ≠ 0x5A ∨ s.nvOk = false))
    ∧ (∃ (s : State), s.powered ∧ s.getB IMAGE.RUN_STAT_TRIAL ∧ s.getB IMAGE.TRIAL_CFG_AUTO_CONFIRM ∧ s.dev.updatePause = false ∧ s.nvOk ∧ s.img.sevSeen = false ∧ 1000000 * s.getF IMAGE.TRIAL_CFG_QUIET_S ≤ s.dev.nowUs - s.img.pauseEndUs)
    ∧ (∃ (s : State), s.powered ∧ s.getB IMAGE.RUN_STAT_TRIAL ∧ s.dev.updatePause = false ∧ 30000000 ≤ s.dev.nowUs - s.img.pauseEndUs) :=
  ⟨⟨.firmware, 0x5A, 2 ^ 31 + 3 * 2 ^ 24 + 0x5A * 2 ^ 8, 4, mode_ mRUN [(IMAGE.IMG_STAT_STATE, imREADY)], by decide +kernel⟩,
   ⟨.firmware, 2 ^ 31 + 3 * 2 ^ 24 + 0x5A * 2 ^ 8, mode_ mRUN [(IMAGE.IMG_STAT_STATE, imREADY), (CLKPWR.VHOLD_MV_VHOLD_RDY, 1)], (Stored (mode_ mRUN [(IMAGE.IMG_STAT_STATE, imREADY), (CLKPWR.VHOLD_MV_VHOLD_RDY, 1)]) .firmware IMAGE.IMG_CMD (2 ^ 31 + 3 * 2 ^ 24 + 0x5A * 2 ^ 8)).queueTrial true, by decide +kernel⟩,
   ⟨{ mode_ mRUN [(IMAGE.IMG_STAT_STATE, imREADY)] with img := { (mode_ mRUN []).img with pause := .activate, banks := [⟨[], true, false⟩, ⟨[], true, false⟩] } }, by decide +kernel⟩,
   ⟨1, { mode_ mRUN [(IMAGE.IMG_STAT_STATE, imREADY)] with img := { (mode_ mRUN []).img with pause := .activate } }, by decide +kernel⟩,
   ⟨{ mode_ mRUN [(IMAGE.IMG_STAT_STATE, imREADY)] with img := { (mode_ mRUN []).img with pause := .fallback } }, by decide +kernel⟩,
   ⟨.firmware, 2 ^ 31 + 4 * 2 ^ 24 + 0x5A * 2 ^ 8, mode_ mRUN [(IMAGE.RUN_STAT_TRIAL, 1), (CLKPWR.VHOLD_MV_VHOLD_RDY, 1)], (Stored (mode_ mRUN [(IMAGE.RUN_STAT_TRIAL, 1), (CLKPWR.VHOLD_MV_VHOLD_RDY, 1)]) .firmware IMAGE.IMG_CMD (2 ^ 31 + 4 * 2 ^ 24 + 0x5A * 2 ^ 8)).imgConfirmed, rfl, by decide +kernel, by decide +kernel, by decide +kernel, rfl⟩,
   ⟨.firmware, 0x5A, 2 ^ 31 + 4 * 2 ^ 24 + 0x5A * 2 ^ 8, mode_ mRUN [], by decide +kernel⟩,
   ⟨{ mode_ mRUN [(IMAGE.RUN_STAT_TRIAL, 1), (IMAGE.TRIAL_CFG_AUTO_CONFIRM, 1), (CLKPWR.VHOLD_MV_VHOLD_RDY, 1)] with dev := { DevSt.rest with nowUs := 10 ^ 12 } }, by decide +kernel⟩,
   ⟨{ mode_ mRUN [(IMAGE.RUN_STAT_TRIAL, 1)] with dev := { DevSt.rest with nowUs := 10 ^ 12 } }, by decide +kernel⟩⟩

theorem witness_RidgeEvents :
    (∃ (rtt : Half) (s : State), s.powered ∧ s.isPair ∧ s.getB RIDGE.PAIR_STAT_LINK = false)
    ∧ (∃ (s : State), s.powered ∧ s.isPair ∧ s.getB RIDGE.PAIR_STAT_LINK)
    ∧ (∃ (s : State), s.isStandby ∧ s.getB RIDGE.PAIR_STAT_LINK ∧ s.getB RIDGE.PAIR_STAT_BELAY_LOW = false ∧ s.getF (FCOL_SEV.SEV_SEV 208) ≤ 2 ∧ s.cairnN + 1 < 32704)
    ∧ (∃ (l : List Nat) (s : State), s.powered ∧ s.isPair ∧ l = (s.dev.nowUs :: s.pair.relocks).filter (fun t => s.dev.nowUs - t ≤ 1000000) ∧ l.length < 3)
    ∧ (∃ (s : State), s.powered ∧ s.isPair ∧ 3 ≤ ((s.dev.nowUs :: s.pair.relocks).filter (fun t => s.dev.nowUs - t ≤ 1000000)).length)
    ∧ (∃ (c : StateCopy) (s : State), s.operating ∧ s.isStandby ∧ s.getB RIDGE.PAIR_STAT_LINK ∧ c.beacon ∧ c.gridErrNs.natAbs ≤ 10)
    ∧ (∃ (c : StateCopy) (s : State), s.operating ∧ s.isStandby ∧ s.getB RIDGE.PAIR_STAT_LINK ∧ c.beacon = false)
    ∧ (∃ (s v : State), s.operating ∧ s.isStandby ∧ s.pair.copy.isSome ∧ v = ((s.incSat RIDGE.CNT_COPY_MISSED).updPair (fun x => { x with missRun := x.missRun + 1 })).raise 209 (1 :: leBytes 4 s.shelf.cycle))
    ∧ (∃ (s v : State), s.operating ∧ s.isStandby ∧ s.pair.copy.isSome ∧ v = (((s.incSat RIDGE.CNT_COPY_MISSED).incSat RIDGE.CNT_COPY_CRC).updPair (fun x => { x with missRun := x.missRun + 1 })).raise 209 (2 :: leBytes 4 s.shelf.cycle))
    ∧ (∃ (s : State), s.isStandby ∧ s.getB RIDGE.PAIR_STAT_GRID_LOCK ∧ 16 ≤ s.pair.gridBad)
    ∧ (∃ (h : Hello) (s : State), s.powered ∧ s.isPair ∧ s.getB RIDGE.PAIR_STAT_LINK ∧ s.getF (FCOL_SEV.SEV_SEV 216) ≤ 2 ∧ s.getF (FCOL_SEV.SEV_SEV 212) ≤ 2 ∧ s.cairnN + 2 < 32704)
    ∧ (∃ (s : State), s.operating ∧ s.isStandby ∧ s.takeBlocked = false)
    ∧ (∃ (s : State), s.operating ∧ s.isStandby ∧ s.takeBlocked)
    ∧ (∃ (reason slot : Byte) (s : State), s.operating ∧ s.isPair ∧ s.isActive)
    ∧ (∃ (f : RelayFrame) (s : State), s.operating ∧ s.isPair ∧ s.getB RIDGE.PAIR_STAT_LINK ∧ s.portLive f.port ∧ f.toNode ∧ f.late = false ∧ (f.frame.getD 1 0).toNat % 16 ≠ 4)
    ∧ (∃ (f : RelayFrame) (s : State), s.operating ∧ s.isPair ∧ s.getB RIDGE.PAIR_STAT_LINK ∧ s.portLive f.port ∧ f.toNode ∧ f.late ∧ (f.frame.getD 1 0).toNat % 16 ≠ 4)
    ∧ (∃ (f : RelayFrame) (s : State), s.operating ∧ s.isPair ∧ s.getB RIDGE.PAIR_STAT_LINK ∧ s.portLive f.port ∧ f.toNode ∧ f.late = false ∧ (f.frame.getD 1 0).toNat % 16 = 4)
    ∧ (∃ (f : RelayFrame) (x : SampleFrame) (s : State), s.operating ∧ s.isPair ∧ s.getB RIDGE.PAIR_STAT_LINK ∧ s.portLive f.port ∧ f.toNode = false ∧ f.late = false ∧ f.sample = some x) :=
  ⟨⟨700, pair_ (mode_ mWATCH []), by decide +kernel⟩,
   ⟨active_ [], by decide +kernel⟩,
   ⟨standby_ [(FCOL_SEV.SEV_SEV 208, 2), (RIDGE.PAIR_STAT_PARTNER_HEALTHY, 1)], by decide +kernel⟩,
   ⟨[0], standby_ [], by decide +kernel⟩,
   ⟨(standby_ []).updPair (fun x => { x with relocks := [0, 0] }), by decide +kernel⟩,
   ⟨{ copy_ with beacon := true, gridErrNs := -10 }, (standby_ []).updPair (fun x => { x with missRun := 2 }), by decide +kernel⟩,
   ⟨copy_, standby_ [], by decide +kernel⟩,
   ⟨(standby_ []).updPair (fun x => { x with copy := some copy_ }), (((standby_ []).updPair (fun x => { x with copy := some copy_, missRun := 1 })).incSat RIDGE.CNT_COPY_MISSED).raise 209 [1, 0, 0, 0, 0], by decide +kernel⟩,
   ⟨(standby_ []).updPair (fun x => { x with copy := some copy_ }), ((((standby_ []).updPair (fun x => { x with copy := some copy_, missRun := 1 })).incSat RIDGE.CNT_COPY_MISSED).incSat RIDGE.CNT_COPY_CRC).raise 209 [2, 0, 0, 0, 0], by decide +kernel⟩,
   ⟨(standby_ [(RIDGE.PAIR_STAT_GRID_LOCK, 1)]).updPair (fun x => { x with gridBad := 16 }), by decide +kernel⟩,
   ⟨⟨5, 3, true, true, true, false⟩, standby_ [(FCOL_SEV.SEV_SEV 216, 1), (FCOL_SEV.SEV_SEV 212, 1)], by decide +kernel⟩,
   ⟨standby_ [], by decide +kernel⟩,
   ⟨standby_ [(DEV.MODE_STAT_SHELF_INHIBIT, 1)], by decide +kernel⟩,
   ⟨1, 31, active_ [], by decide +kernel⟩,
   ⟨⟨23, true, false, none, [1, 2, 3]⟩, active_ [(pgStatState (pYPORT 23), 2), (pgStatState pFMOVER, 2)], by decide +kernel⟩,
   ⟨⟨23, true, true, none, [1, 2, 3]⟩, active_ [(pgStatState (pYPORT 23), 2), (pgStatState pFMOVER, 2)], by decide +kernel⟩,
   ⟨⟨23, true, false, none, [1, 0xF4, 3]⟩, active_ [(pgStatState (pYPORT 23), 2), (pgStatState pFMOVER, 2)], by decide +kernel⟩,
   ⟨⟨23, false, false, some (.conv 1 2 3 4 []), []⟩, .conv 1 2 3 4 [], active_ [(pgStatState (pYPORT 23), 2), (pgStatState pFMOVER, 2)], by decide +kernel⟩⟩

theorem witness_PairRoles :
    (∃ (s : State), s.operating ∧ s.isStandby ∧ s.takeBlocked = false ∧ 3 ≤ s.pair.missRun ∧ s.dev.late = [])
    ∧ (∃ (s : State), s.operating ∧ s.isStandby ∧ s.takeBlocked = false ∧ s.pair.yieldSeen ∧ s.dev.late = [])
    ∧ (∃ (s : State), s.operating ∧ s.isStandby ∧ s.takeBlocked = false ∧ s.tokenGone ∧ s.dev.late = [])
    ∧ (∃ (s : State), s.operating ∧ s.isStandby ∧ s.takeBlocked = false ∧ s.pair.yieldSeen ∧ s.pair.copy = none ∧ s.pair.rxLearn = [] ∧ s.proofBusy = false ∧ s.getF (FCOL_SEV.SEV_SEV 11) ≤ 2 ∧ s.getF (FCOL_SEV.SEV_SEV 211) ≤ 2 ∧ s.cairnN + 2 < 32704 ∧ s.dev.late = [])
    ∧ (∃ (u : Nat) (s : State), s.pair.firstAt = some u ∧ u ≠ s.dev.nowUs ∧ s.dev.late = [])
    ∧ (∃ (r : Requester) (s : State), Accepts s r RIDGE.PAIR_CMD 2 ∧ s.isPair ∧ s.getB RIDGE.PAIR_STAT_ACTIVE ∧ s.getB RIDGE.PAIR_STAT_PARTNER_HEALTHY)
    ∧ (∃ (r : Requester) (s : State), Accepts s r RIDGE.PAIR_CMD 2 ∧ (s.isPair = false ∨ s.getB RIDGE.PAIR_STAT_ACTIVE = false ∨ s.getB RIDGE.PAIR_STAT_PARTNER_HEALTHY = false))
    ∧ (∃ (s : State), s.operating ∧ s.isPair ∧ s.getB RIDGE.PAIR_STAT_ACTIVE ∧ s.pair.handover)
    ∧ (∃ (s : State), s.operating ∧ s.isPair ∧ s.getB RIDGE.PAIR_STAT_ACTIVE ∧ s.pair.handover ∧ s.mode = mWATCH)
    ∧ (∃ (r : Requester) (s : State), Accepts s r RIDGE.PAIR_CMD 1 ∧ s.isPair ∧ s.getB RIDGE.PAIR_STAT_ACTIVE = false ∧ s.mode = mSERVICE ∧ s.getF RIDGE.PAIR_STAT_PARTNER_MODE = mSERVICE ∧ s.proofBusy = false)
    ∧ (∃ (r : Requester) (s : State), Accepts s r RIDGE.PAIR_CMD 1 ∧ s.isPair ∧ (s.getB RIDGE.PAIR_STAT_ACTIVE ∨ s.mode ≠ mSERVICE ∨ s.getF RIDGE.PAIR_STAT_PARTNER_MODE ≠ mSERVICE ∨ s.proofBusy))
    ∧ (∃ (index : Byte) (s : State), s.proofBusy ∧ (s.getB RIDGE.PAIR_STAT_ACTIVE = false ∨ s.pair.proofActive))
    ∧ (∃ (step : BitVec 4) (index : Byte) (s : State), s.proofBusy ∧ (s.getB RIDGE.PAIR_STAT_ACTIVE = false ∨ s.pair.proofActive) ∧ step ≠ 0)
    ∧ (∃ (n : NewerEpoch) (s : State), s.operating ∧ s.isPair ∧ s.isActive ∧ epochNewer n.epoch.toNat (s.getF RIDGE.EPOCH_EPOCH))
    ∧ (∃ (s : State), s.pair.demotedAt + 100000 * s.getF RIDGE.PAIR_TMO_DEMOTE_HOLD ≤ s.dev.nowUs)
    ∧ (∃ (s : State), s.isPair ∧ s.mode = mWATCH ∧ s.isStandby ∧ s.pair.settled = false ∧ s.getB RIDGE.PAIR_STAT_LINK = false ∧ s.dev.form = 1 ∧ (s.getB RIDGE.PAIR_CFG_BELAY_EN = false ∨ s.getB RIDGE.PAIR_STAT_BELAY_OWN) ∧ s.pair.watchAt + 1000 * s.getF RIDGE.PAIR_TMO_PARTNER_WAIT ≤ s.dev.nowUs)
    ∧ (∃ (s : State), s.isStandby ∧ s.mode = mWATCH ∧ s.pair.settled = false ∧ s.getB RIDGE.PAIR_STAT_LINK ∧ s.dev.form = 1 ∧ s.pair.copy = none ∧ (s.getB RIDGE.PAIR_CFG_BELAY_EN = false ∨ s.getB RIDGE.PAIR_STAT_BELAY_OWN) ∧ s.getF RIDGE.PAIR_STAT_PARTNER_MODE = mWATCH)
    ∧ (∃ (s : State), s.isStandby ∧ s.mode = mWATCH ∧ s.pair.settled = false ∧ s.getB RIDGE.PAIR_STAT_LINK ∧ s.dev.form = 2)
    ∧ (∃ (s : State), s.operating ∧ s.isPair ∧ s.getB RIDGE.PAIR_CFG_BELAY_EN ∧ s.getB RIDGE.PAIR_STAT_BELAY_OWN = false ∧ s.getB RIDGE.PAIR_STAT_BELAY_LOW = false ∧ s.getB (SEQ.INP_STAT_STUCK 4) = false)
    ∧ (∃ (s : State), s.isPair ∧ s.getB RIDGE.PAIR_STAT_BELAY_OWN ∧ (s.pair.handover ∨ s.pair.yielded ∨ s.getB RIDGE.PAIR_STAT_DEMOTED ∨ s.getB RIDGE.PAIR_STAT_ACTIVE = false))
    ∧ (∃ (s : State), s.revertOk ∧ s.revertStep.getF RIDGE.REVERT_LEFT_S = 0)
    ∧ (∃ (s : State), s.operating ∧ s.dev.form = 2 ∧ s.isActive ∧ s.getB RIDGE.PAIR_CFG_REVERT_SUSP = false)
    ∧ (∃ (r : Requester) (s : State), Accepts s r RIDGE.CNT_CTRL 1) :=
  ⟨⟨(standby_ []).updPair (fun x => { x with missRun := 3 }), by decide +kernel⟩,
   ⟨(standby_ []).updPair (fun x => { x with yieldSeen := true }), by decide +kernel⟩,
   ⟨(standby_ [(RIDGE.PAIR_CFG_BELAY_EN, 1)]).updPair (fun x => { x with partnerHeld := true }), by decide +kernel⟩,
   ⟨(standby_ [(FCOL_SEV.SEV_SEV 11, 1), (FCOL_SEV.SEV_SEV 211, 1)]).updPair (fun x => { x with yieldSeen := true }), by decide +kernel⟩,
   ⟨1, (active_ []).updPair (fun x => { x with firstAt := some 1 }), by decide +kernel⟩,
   ⟨.firmware, active_ [(RIDGE.PAIR_STAT_PARTNER_HEALTHY, 1)], by decide +kernel⟩,
   ⟨.firmware, active_ [], by decide +kernel⟩,
   ⟨(active_ []).updPair (fun x => { x with handover := true }), by decide +kernel⟩,
   ⟨((active_ []).setF DEV.MODE_STAT_MODE mWATCH).updPair (fun x => { x with handover := true }), by decide +kernel⟩,
   ⟨.firmware, (standby_ [(RIDGE.PAIR_STAT_PARTNER_MODE, mSERVICE)]).setF DEV.MODE_STAT_MODE mSERVICE, by decide +kernel⟩,
   ⟨.firmware, active_ [], by decide +kernel⟩,
   ⟨7, standby_ [(RIDGE.PROOF_STAT_BUSY, 1)], by decide +kernel⟩,
   ⟨5, 7, standby_ [(RIDGE.PROOF_STAT_BUSY, 1)], by decide +kernel⟩,
   ⟨⟨23, 1⟩, active_ [], by decide +kernel⟩,
   ⟨standby_ [(RIDGE.PAIR_STAT_DEMOTED, 1), (RIDGE.PAIR_TMO_DEMOTE_HOLD, 0)], by decide +kernel⟩,
   ⟨{ standby_ [(RIDGE.PAIR_STAT_LINK, 0), (RIDGE.PAIR_CFG_BELAY_EN, 0)] with dev := { (standby_ []).dev with nowUs := 10 ^ 9 } }, by decide +kernel⟩,
   ⟨standby_ [(RIDGE.PAIR_CFG_BELAY_EN, 0), (RIDGE.PAIR_STAT_PARTNER_MODE, mWATCH)], by decide +kernel⟩,
   ⟨{ standby_ [] with dev := { (standby_ []).dev with form := 2 } }, by decide +kernel⟩,
   ⟨standby_ [(RIDGE.PAIR_CFG_BELAY_EN, 1)], by decide +kernel⟩,
   ⟨standby_ [(RIDGE.PAIR_STAT_BELAY_OWN, 1)], by decide +kernel⟩,
   ⟨standby_ [(RIDGE.PAIR_STAT_CFG_MATCH, 1), (RIDGE.PAIR_STAT_GRID_LOCK, 1), (RIDGE.PAIR_CFG_REVERT_HOLDOFF, 0), (RIDGE.PAIR_CFG_REVERT_SUSP, 0)], by decide +kernel⟩,
   ⟨{ active_ [] with dev := { (active_ []).dev with form := 2 } }, by decide +kernel⟩,
   ⟨.firmware, standby_ [(RIDGE.CNT_COPY_MISSED, 9)], by decide +kernel⟩⟩

theorem witness_ResetsAndAscent :
    (∃ (s : State), s.dev.aonUp)
    ∧ (∃ (s : State), s.dev.aonUp = false)
    ∧ (∃ (r : CoreRegion) (s : State), s.powered)
    ∧ (∃ (s v : State), s.powered ∧ s.mode ≠ mRUN ∧ s.isPair = false ∧ v = ({ s with dev := { s.dev with regionDown := OwnRegion.link :: s.dev.regionDown.filter (· ≠ .link) } } : State).regionReset OwnRegion.link ∧ v.mode ≠ mRUN)
    ∧ (∃ (r : OwnRegion) (s v : State), s.powered ∧ s.mode ≠ mRUN ∧ r ≠ .rail ∧ v = (({ s with dev := { s.dev with regionDown := r :: s.dev.regionDown.filter (· ≠ r) } }).regionFence r).regionReset r ∧ v.mode ≠ mRUN)
    ∧ (∃ (r : OwnRegion) (s : State), s.powered ∧ s.dev.regionDown.contains r ∧ r ≠ .rail)
    ∧ (∃ (s : State), s.powered ∧ s.dev.regionDown.contains .rail)
    ∧ (∃ (r : OwnRegion) (s : State), s.powered ∧ s.mode ≠ mASCENT ∧ s.dev.regionDown.contains r)
    ∧ (∃ (r : OwnRegion) (s : State), s.powered ∧ s.mode ≠ mASCENT ∧ s.dev.regionDown = [] ∧ (r = .link ∨ r = .rail ∨ r = .hv))
    ∧ (∃ (e : AscentEnv) (s : State), s.mode = mASCENT ∧ s.dev.ascPhase = .waiting ∧ s.dev.vinPor)
    ∧ (∃ (e : AscentEnv) (s : State), (s.mode ≠ mASCENT ∨ (s.dev.ascPhase = .waiting ∧ s.dev.vinPor = false)))
    ∧ (∃ (mv : Half) (e : AscentEnv) (s : State), s.dev.aonUp ∧ s.mode = mASCENT ∧ s.dev.ascPhase = .waiting ∧ s.dev.rstN)
    ∧ (∃ (mv : Half) (e : AscentEnv) (s : State), s.dev.aonUp ∧ (s.mode ≠ mASCENT ∨ (s.dev.ascPhase = .waiting ∧ s.dev.rstN = false)))
    ∧ (∃ (time : Half) (e : AscentEnv) (s : State), s.mode = mASCENT ∧ s.dev.ascPhase = .applied)
    ∧ (∃ (step : Fin 8) (s : State), s.mode = mASCENT ∧ (s.dev.ascPhase = .started ∨ s.dev.ascPhase = .applied))
    ∧ (∃ (e : AscentEnv) (s : State), s.getB DEV.MODE_STAT_DESCENT = false ∧ (s.mode = mDORMANT ∨ s.mode = mSHIP))
    ∧ (∃ (e : AscentEnv) (s : State), s.getB DEV.MODE_STAT_DESCENT = false ∧ s.mode = mDORMANT ∧ s.dev.wakeOnly = false ∧ s.getB DEV.WAKE_CTRL_CAN0_EN)
    ∧ (∃ (e : AscentEnv) (s : State), s.getB DEV.MODE_STAT_DESCENT = false ∧ s.mode = mDORMANT ∧ s.dev.wakeOnly = false ∧ s.getB DEV.WAKE_CTRL_T1S_EN)
    ∧ (∃ (e : AscentEnv) (s : State), s.getB DEV.MODE_STAT_DESCENT = false ∧ s.mode = mDORMANT ∧ s.dev.wakeOnly = false ∧ s.getB DEV.WAKE_CTRL_RTC_EN ∧ s.getReg DEV.RTC_ALARM ≠ 0)
    ∧ (∃ (e : AscentEnv) (s : State), s.getB DEV.MODE_STAT_DESCENT ∧ s.wakeActs 0 s.dev.descTarget ∧ s.dev.wakeLatch = 0) :=
  ⟨⟨mode_ mRUN [], by decide +kernel⟩,
   ⟨{ mode_ mRUN [] with dev := { DevSt.rest with aonUp := false } }, by decide +kernel⟩,
   ⟨.est, mode_ mRUN [], by decide +kernel⟩,
   ⟨mode_ mWATCH [], ({ mode_ mWATCH [] with dev := { DevSt.rest with regionDown := [.link] } }).regionReset .link, by decide +kernel⟩,
   ⟨.hv, mode_ mWATCH [], ({ mode_ mWATCH [] with dev := { DevSt.rest with regionDown := [.hv] } }).regionFence .hv |>.regionReset .hv, by decide +kernel⟩,
   ⟨.hv, { mode_ mWATCH [] with dev := { DevSt.rest with regionDown := [.hv] } }, by decide +kernel⟩,
   ⟨{ mode_ mWATCH [] with dev := { DevSt.rest with regionDown := [.rail] } }, by decide +kernel⟩,
   ⟨.hv, { mode_ mWATCH [] with dev := { DevSt.rest with regionDown := [.hv] } }, by decide +kernel⟩,
   ⟨.hv, mode_ mWATCH [], by decide +kernel⟩,
   ⟨⟨⟨0, 0, []⟩, [], 0, 0, 0⟩, { State.reset with dev := { DevSt.rest with rstN := false, vinPor := true } }, by decide +kernel⟩,
   ⟨⟨⟨0, 0, []⟩, [], 0, 0, 0⟩, { State.reset with dev := { DevSt.rest with rstN := false } }, by decide +kernel⟩,
   ⟨24000, ⟨⟨0, 0, []⟩, [], 0, 0, 0⟩, State.reset, by decide +kernel⟩,
   ⟨24000, ⟨⟨0, 0, []⟩, [], 0, 0, 0⟩, mode_ mRUN [], by decide +kernel⟩,
   ⟨900, ⟨⟨0, 0, []⟩, [], 0, 0, 0⟩, { State.reset with dev := { DevSt.rest with ascPhase := .applied } }, by decide +kernel⟩,
   ⟨4, { State.reset with dev := { DevSt.rest with ascPhase := .applied } }, by decide +kernel⟩,
   ⟨⟨⟨0, 0, []⟩, [], 0, 0, 0⟩, mode_ mSHIP [], by decide +kernel⟩,
   ⟨⟨⟨0, 0, []⟩, [], 0, 0, 0⟩, mode_ mDORMANT [(DEV.WAKE_CTRL_CAN0_EN, 1)], by decide +kernel⟩,
   ⟨⟨⟨0, 0, []⟩, [], 0, 0, 0⟩, mode_ mDORMANT [(DEV.WAKE_CTRL_T1S_EN, 1)], by decide +kernel⟩,
   ⟨⟨⟨0, 0, []⟩, [], 0, 0, 0⟩, (mode_ mDORMANT [(DEV.WAKE_CTRL_RTC_EN, 1)]).setReg DEV.RTC_ALARM 60, by decide +kernel⟩,
   ⟨⟨⟨0, 0, []⟩, [], 0, 0, 0⟩, mode_ mRUN [(DEV.MODE_STAT_DESCENT, 1)], by decide +kernel⟩⟩

theorem witness_ModeRequests :
    (∃ (r : Requester) (k : Byte) (w : Nat) (s : State), w = modeWord k 1 ∧ Accepts s r DEV.MODE_CTRL w ∧ k ≠ 0xC5)
    ∧ (∃ (r : Requester) (w : Nat) (s v : State), w = modeWord 0xC5 1 ∧ Accepts s r DEV.MODE_CTRL w ∧ s.getB DEV.MODE_STAT_DESCENT = false ∧ s.dev.takeoverHeld = false ∧ s.huComes = false ∧ (s.mode = mWATCH ∨ s.mode = mRUN ∨ s.mode = mDEGRADED ∨ s.mode = mSERVICE) ∧ v = Stored s r DEV.MODE_CTRL w)
    ∧ (∃ (r : Requester) (w : Nat) (s v : State), w = modeWord 0xC5 2 ∧ Accepts s r DEV.MODE_CTRL w ∧ s.getB DEV.MODE_STAT_DESCENT = false ∧ s.dev.takeoverHeld = false ∧ s.huComes = false ∧ (s.mode = mWATCH ∨ s.mode = mRUN ∨ s.mode = mDEGRADED ∨ s.mode = mSERVICE) ∧ s.dev.wakePin = false ∧ v = Stored s r DEV.MODE_CTRL w)
    ∧ (∃ (r : Requester) (w : Nat) (s : State), w = modeWord 0xC5 3 ∧ Accepts s r DEV.MODE_CTRL w ∧ s.getB DEV.MODE_STAT_DESCENT = false ∧ s.dev.takeoverHeld = false ∧ s.huComes = false ∧ (s.mode = mWATCH ∨ s.mode = mRUN ∨ s.mode = mDEGRADED) ∧ (∀ k : Fin 24, F32.isZero (s.getReg (ALLOC.A k))) ∧ 100000 ≤ s.dev.svcQuietUs)
    ∧ (∃ (r : Requester) (w : Nat) (s : State), w = modeWord 0xC5 3 ∧ Accepts s r DEV.MODE_CTRL w ∧ s.getB DEV.MODE_STAT_DESCENT = false ∧ s.dev.takeoverHeld = false ∧ s.huComes = false ∧ (s.mode = mWATCH ∨ s.mode = mRUN ∨ s.mode = mDEGRADED) ∧ s.dev.svcQuietUs < 100000)
    ∧ (∃ (r : Requester) (w : Nat) (s v : State), w = modeWord 0xC5 4 ∧ Accepts s r DEV.MODE_CTRL w ∧ s.getB DEV.MODE_STAT_DESCENT = false ∧ s.dev.takeoverHeld = false ∧ s.huComes = false ∧ s.mode = mSERVICE ∧ s.isPair = false ∧ v = ((Stored s r DEV.MODE_CTRL w).setF DEV.MODE_STAT_LAST_REQ 4).updShelf (fun x => { x with startReg := true }))
    ∧ (∃ (r : Requester) (w : Nat) (s : State), w = modeWord 0xC5 5 ∧ Accepts s r DEV.MODE_CTRL w ∧ s.getB DEV.MODE_STAT_DESCENT = false ∧ s.dev.takeoverHeld = false ∧ s.huComes = false ∧ (s.mode = mWATCH ∨ s.mode = mSERVICE) ∧ s.dev.ackSinceSafe ∧ s.actSev 4 = false)
    ∧ (∃ (r : Requester) (w : Nat) (s : State), w = modeWord 0xC5 6 ∧ Accepts s r DEV.MODE_CTRL w)
    ∧ (∃ (r : Requester) (q : BitVec 4) (w : Nat) (s : State), w = modeWord 0xC5 q.toNat ∧ Accepts s r DEV.MODE_CTRL w ∧ (q = 0 ∨ 6 < q.toNat))
    ∧ (∃ (s v : State), s.operating ∧ s.getB DEV.MODE_STAT_DESCENT ∧ s.dev.descStep = 0 ∧ s.descYields = false ∧ v = ((({ s with dev := { s.dev with descStep := 2 } }.setF DEV.MODE_STAT_RESULT mrDONE).cnCollapse ocFAULT).raise 11 [s.dev.descTarget, s.mode, 0]).tellPlant)
    ∧ (∃ (s : State), s.operating ∧ s.getB DEV.MODE_STAT_DESCENT ∧ s.dev.descStep = 2 ∧ s.shelf.descRamp ∧ F32.isZero (s.getReg SHELF.DEMAND))
    ∧ (∃ (ms : Word) (s : State), s.operating ∧ s.getB DEV.MODE_STAT_DESCENT ∧ 4 ≤ s.dev.descStep ∧ (∀ g : Fin 4, s.grpSt g = grOFF ∨ s.grpSt g = grREST))
    ∧ (∃ (ms : Word) (s : State), s.operating ∧ s.getB DEV.MODE_STAT_DESCENT ∧ 4 ≤ s.dev.descStep ∧ (∀ g : Fin 4, s.grpSt g = grOFF ∨ s.grpSt g = grREST) ∧ s.dev.wakeLatch = 0 ∧ (s.dev.descTarget = mDORMANT ∨ s.dev.descTarget = mSHIP))
    ∧ (∃ (ms : Word) (s : State), s.operating ∧ s.getB DEV.MODE_STAT_DESCENT ∧ s.getF DEV.DESCENT_CFG_TMAX * 10 ≤ ms.toNat) :=
  ⟨⟨.firmware, 0, 1, mode_ mRUN [], by decide +kernel⟩,
   ⟨.firmware, 0xC501, mode_ mRUN [], Stored (mode_ mRUN []) .firmware DEV.MODE_CTRL 0xC501, by decide +kernel⟩,
   ⟨.firmware, 0xC502, mode_ mRUN [], Stored (mode_ mRUN []) .firmware DEV.MODE_CTRL 0xC502, by decide +kernel⟩,
   ⟨.firmware, 0xC503, { mode_ mRUN [] with dev := { DevSt.rest with svcQuietUs := 100000 } }, by decide +kernel⟩,
   ⟨.firmware, 0xC503, mode_ mRUN [], by decide +kernel⟩,
   ⟨.firmware, 0xC504, mode_ mSERVICE [], ((Stored (mode_ mSERVICE []) .firmware DEV.MODE_CTRL 0xC504).setF DEV.MODE_STAT_LAST_REQ 4).updShelf (fun x => { x with startReg := true }), by decide +kernel⟩,
   ⟨.firmware, 0xC505, mode_ mSERVICE [(DEV.MODE_STAT_SHELF_INHIBIT, 1)], by decide +kernel⟩,
   ⟨.firmware, 0xC506, mode_ mRUN [], by decide +kernel⟩,
   ⟨.firmware, 7, 0xC507, mode_ mRUN [], by decide +kernel⟩,
   ⟨{ mode_ mRUN [(DEV.MODE_STAT_DESCENT, 1)] with dev := { DevSt.rest with descTarget := mDORMANT } }, (({ mode_ mRUN [(DEV.MODE_STAT_DESCENT, 1)] with dev := { DevSt.rest with descTarget := mDORMANT, descStep := 2 } }.setF DEV.MODE_STAT_RESULT mrDONE).cnCollapse ocFAULT).raise 11 [1, 4, 0] |>.tellPlant, by decide +kernel⟩,
   ⟨{ mode_ mRUN [(DEV.MODE_STAT_DESCENT, 1)] with dev := { DevSt.rest with descStep := 2 }, shelf := { ShelfSt.rest with descRamp := true } }, by decide +kernel⟩,
   ⟨900, { mode_ mRUN [(DEV.MODE_STAT_DESCENT, 1)] with dev := { DevSt.rest with descTarget := 1, descStep := 4 } }, by decide +kernel⟩,
   ⟨900, { mode_ mRUN [(DEV.MODE_STAT_DESCENT, 1)] with dev := { DevSt.rest with descTarget := 1, descStep := 4 } }, by decide +kernel⟩,
   ⟨0xFFFFFFFF, { mode_ mRUN [(DEV.MODE_STAT_DESCENT, 1)] with dev := { DevSt.rest with descTarget := 1, descStep := 4 } }, by decide +kernel⟩⟩

theorem witness_SuppliesAndClocks :
    (∃ (mv : Half) (s : State), s.powered ∧ s.getB CLKPWR.VHOLD_MV_VHOLD_RDY = false ∧ (∀ k : Fin 24, s.getF (ESTSTR.LRN_STAT_STATE k) ≠ 1) ∧ s.cairn.clearSeq = none ∧ s.imgStreams = false ∧ (∀ g : Fin 4, s.grpSt g ≠ grREST ∨ s.getB (SEQGRP.GRP_STAT_UP_PEND g) = false) ∧ s.getF (FCOL_SEV.SEV_SEV 4) ≤ 2 ∧ s.cairnN + 1 < 32704)
    ∧ (∃ (mv : Half) (s : State), s.powered ∧ s.getB CLKPWR.VHOLD_MV_VHOLD_RDY ∧ s.cairn.clearSeq = none ∧ s.getF (FCOL_SEV.SEV_SEV 4) ≤ 2 ∧ s.cairnN + 1 < 32704 ∧ s.cairn.rewrite = none ∧ (∀ k : Fin 24, s.getF (ESTSTR.LRN_STAT_STATE k) ≠ 1))
    ∧ (∃ (mv : Half) (s : State), s.powered ∧ (∀ i : Fin 32, (s.seqSlot i).onDlyHeld = false) ∧ (∀ g : Fin 4, s.getB (SEQGRP.GRP_STAT_VIN_HELD g) = false))
    ∧ (∃ (mv : Half) (s : State), s.powered ∧ s.cairn.staged = [])
    ∧ (∃ (s : State), s.powered ∧ s.dev.takeoverHeld = false ∧ s.imgStreams = false)
    ∧ (∃ (s : State), s.powered ∧ s.dev.mpuRestart ∧ s.activeBank = s.runBank)
    ∧ (∃ (s : State), s.powered ∧ s.getB CLKPWR.CLK_STAT_HFO_SRC = false)
    ∧ (∃ (s : State), s.powered ∧ s.getB CLKPWR.CLK_STAT_HFO_SRC)
    ∧ (∃ (s : State), s.powered ∧ s.dev.bootsel1)
    ∧ (∃ (p : Pll) (i : Nat) (s : State), s.powered ∧ ((p = .cpll ∧ i = 0) ∨ (p = .ppll ∧ i = 1) ∨ (p = .lpll ∧ i = 2) ∨ (p = .epll ∧ i = 3)) ∧ s.pllUsed.testBit i)
    ∧ (∃ (r : Fin 9) (temp : BitVec 16) (s : State), s.powered ∧ s.regionState r = 2 ∧ s.dev.tempSeen = [] ∧ signedOf 16 temp.toNat ≤ signedOf 16 (s.getF DEV.TJ_HOT_TJ_HOT)) :=
  ⟨⟨19000, mode_ mRUN [(FCOL_SEV.SEV_SEV 4, 1)], by decide +kernel⟩,
   ⟨19000, { mode_ mRUN [(FCOL_SEV.SEV_SEV 4, 1), (CLKPWR.VHOLD_MV_VHOLD_RDY, 1)] with cairn := { State.reset.cairn with staged := [State.reset.mkRec 7 9 1 0 0 [1]] } }, by decide +kernel⟩,
   ⟨24000, mode_ mRUN [(CLKPWR.VIN_MV_WARN, 1), (⟨FCOL.COND 0, 4, 1⟩, 1)], by decide +kernel⟩,
   ⟨24000, mode_ mRUN [], by decide +kernel⟩,
   ⟨mode_ mRUN [], by decide +kernel⟩,
   ⟨{ mode_ mRUN [] with dev := { DevSt.rest with mpuRestart := true } }, by decide +kernel⟩,
   ⟨mode_ mRUN [(CLKPWR.CLK_STAT_REFCLK_OK, 1)], by decide +kernel⟩,
   ⟨mode_ mRUN [(CLKPWR.CLK_STAT_REFCLK_OK, 1), (CLKPWR.CLK_STAT_HFO_SRC, 1)], by decide +kernel⟩,
   ⟨{ mode_ mRUN [(CLKPWR.CLK_STAT_XT32_OK, 1), (CLKPWR.CLK_STAT_LFO_SRC, 1)] with dev := { DevSt.rest with bootsel1 := true } }, by decide +kernel⟩,
   ⟨.ppll, 1, port_ 23 [], by decide +kernel⟩,
   ⟨7, 0x0100, mode_ mRUN [(DEV.TJ_HOT_TJ_HOT, 0x0780)], by decide +kernel⟩⟩

theorem witness_MessagePorts :
    (∃ (p : MsgPort) (s : State), s.portHears (portNo p))
    ∧ (∃ (s : State), s.operating ∧ s.isActive ∧ s.pgRunning (msgPage s.plantLink) ∧ s.reportMs ≠ 0 ∧ 1000 * s.reportMs ≤ s.dev.nowUs - (s.msgPort s.plantLink).repAt ∧ s.reportFlags = (s.msgPort s.plantLink).repFlags ∧ s.dev.late = [])
    ∧ (∃ (s : State), s.operating ∧ s.pgRunning pT1S ∧ s.dmMoves 6 ∧ s.getF T1S.PUB_PUB_MS ≠ 0 ∧ s.dev.late = [])
    ∧ (∃ (h : MsgHead) (flags mode : Byte) (k : Nat) (s : State), portNo h.port = 1 ∧ s.portHears 1 ∧ crc16 (identBytes 0x0C h.dst.toNat h.src.toNat h.tag.toNat ++ [flags.toNat, mode.toNat]) = h.crc.toNat ∧ s.addressed_ 1 h.dst.toNat true ∧ h.src ≠ 0 ∧ s.peerSlot h.src.toNat = some k)
    ∧ (∃ (h : MsgHead) (flags mode : Byte) (s : State), portNo h.port ≠ 1 ∧ s.portHears (portNo h.port) ∧ crc16 (identBytes 0x0C h.dst.toNat h.src.toNat h.tag.toNat ++ [flags.toNat, mode.toNat]) = h.crc.toNat)
    ∧ (∃ (s : State), s.operating ∧ s.pgRunning (pCAN 1))
    ∧ (∃ (k : Fin 24) (s : State), s.getF (CAN.PEER_ADDR 1 k) ≠ 0 ∧ 50 ≤ s.getF (CAN.PEER_AGE 1 k))
    ∧ (∃ (n : Fin 4) (tc rc : Byte) (s : State), s.powered ∧ s.pgRunning (pCAN n) ∧ s.getF (CAN.CAN_STAT_STATE n) ≠ 2 ∧ s.getCond (242 + n) = false)
    ∧ (∃ (n : Fin 4) (tc rc : Byte) (s v : State), s.powered ∧ s.pgRunning (pCAN n) ∧ s.getF (CAN.CAN_STAT_STATE n) ≠ 2 ∧ s.getCond (242 + n) = false ∧ v = ((s.setN (CAN.CAN_STAT n) (tc.toNat * 2 ^ 24 + rc.toNat * 2 ^ 16 + 2)).incSat (CAN.CNT_MISC_BUS_OFF n)).ownersOf (2 + n))
    ∧ (∃ (n : Fin 4) (s : State), s.getF (CAN.CAN_STAT_STATE n) = 2 ∧ s.getB (CAN.CAN_CFG_AUTO_RECOV n) ∧ (s.msgPort n).waiting = [] ∧ s.msg.length = 5)
    ∧ (∃ (n : Fin 4) (s : State), s.getF (CAN.CAN_STAT_STATE n) = 2 ∧ s.getB (CAN.CAN_CFG_AUTO_RECOV n))
    ∧ (∃ (n : Fin 4) (s : State), s.msg.length = 5)
    ∧ (∃ (n : Fin 4) (tc rc : Byte) (s : State), s.getF (CAN.CAN_STAT_STATE n) = 1)
    ∧ (∃ (s v : State), s.powered ∧ s.pgRunning pT1S ∧ s.getCond 246 = false ∧ v = (s.setF T1S.T1S_STAT_LINK 0).ownersOf 6)
    ∧ (∃ (s : State), s.powered ∧ s.pgRunning pT1S ∧ s.getF T1S.T1S_CFG_PLCA_ID = 255)
    ∧ (∃ (s : State), s.powered ∧ s.pgRunning pT1S ∧ (s.msgPort 4).waiting = [] ∧ s.msg.length = 5) :=
  ⟨⟨.can 0, plantState 0, by decide +kernel⟩,
   ⟨let s := { plantState 0 with dev := { DevSt.rest with nowUs := 10 ^ 9 } }; s.updMsg 0 (fun x => { x with repFlags := s.reportFlags }), by decide +kernel⟩,
   ⟨mode_ mRUN [(pgStatState pT1S, 2), (T1S.PUB_PUB_MS, 100)], by decide +kernel⟩,
   ⟨⟨.can 1, 0xFF, 9, 0, 0, BitVec.ofNat 16 (crc16 (identBytes 0x0C 0xFF 9 0 ++ [5, 4]))⟩, 5, 4, 0, mode_ mRUN [(pgStatState (pCAN 1), 2)], by decide +kernel⟩,
   ⟨⟨.can 0, 0xFF, 9, 0, 0, BitVec.ofNat 16 (crc16 (identBytes 0x0C 0xFF 9 0 ++ [5, 4]))⟩, 5, 4, plantState 0, by decide +kernel⟩,
   ⟨mode_ mRUN [(pgStatState (pCAN 1), 2)], by decide +kernel⟩,
   ⟨23, mode_ mRUN [(CAN.PEER_ADDR 1 23, 9), (CAN.PEER_AGE 1 23, 50)], by decide +kernel⟩,
   ⟨3, 130, 5, mode_ mRUN [(pgStatState (pCAN 3), 2)], by decide +kernel⟩,
   ⟨3, 255, 5, mode_ mRUN [(pgStatState (pCAN 3), 2)], (((mode_ mRUN [(pgStatState (pCAN 3), 2)]).setN (CAN.CAN_STAT 3) (255 * 2 ^ 24 + 5 * 2 ^ 16 + 2)).incSat (CAN.CNT_MISC_BUS_OFF 3)).ownersOf 5, by decide +kernel⟩,
   ⟨3, mode_ mRUN [(CAN.CAN_STAT_STATE 3, 2), (CAN.CAN_CFG_AUTO_RECOV 3, 1), (⟨FCOL.COND 7, 21, 1⟩, 1)], by decide +kernel⟩,
   ⟨3, (mode_ mRUN [(CAN.CAN_STAT_STATE 3, 2), (CAN.CAN_CFG_AUTO_RECOV 3, 1)]).updMsg 3 (fun x => { x with waiting := [⟨9, 1, 2, 3, [], 0⟩] }), by decide +kernel⟩,
   ⟨3, { ((mode_ mRUN []).updMsg 3 (fun x => { x with waiting := [⟨9, 1, 2, 3, [], 0⟩, ⟨9, 1, 2, 3, [], 100000⟩] })) with dev := { DevSt.rest with nowUs := 100000 } }, by decide +kernel⟩,
   ⟨3, 90, 5, mode_ mRUN [(CAN.CAN_STAT_STATE 3, 1)], by decide +kernel⟩,
   ⟨mode_ mRUN [(pgStatState pT1S, 2), (T1S.T1S_STAT_LINK, 1)], ((mode_ mRUN [(pgStatState pT1S, 2), (T1S.T1S_STAT_LINK, 1)]).setF T1S.T1S_STAT_LINK 0).ownersOf 6, by decide +kernel⟩,
   ⟨mode_ mRUN [(pgStatState pT1S, 2), (T1S.T1S_CFG_PLCA_ID, 255)], by decide +kernel⟩,
   ⟨mode_ mRUN [(pgStatState pT1S, 2), (⟨FCOL.COND 7, 22, 1⟩, 1)], by decide +kernel⟩⟩

theorem witness_PmbusPolling :
    (∃ (d : Fin 32) (x : PmbData) (s : State), s.operating ∧ s.pgRunning pPMBUS ∧ s.getB (PMBUS.DEV_A_EN d) ∧ s.getF (PMBUS.DEV_A_POLL d) % 2 = 1)
    ∧ (∃ (d : Fin 32) (x : PmbData) (k : Fin 7) (s : State), s.operating ∧ s.pgRunning pPMBUS ∧ s.getB (PMBUS.DEV_A_EN d) ∧ s.getF (PMBUS.DEV_A_POLL d) = 2 ^ (k.val + 1))
    ∧ (∃ (d : Fin 32) (w : PmbFail) (s : State), s.operating ∧ s.pgRunning pPMBUS ∧ s.getB (PMBUS.DEV_A_EN d) ∧ (w = .pec → s.getB PMBUS.PMB_CFG_PEC) ∧ ((oneMore s (PMBUS.PMB_STAT_FAILS d)).2 < s.getF (PMBUS.DEV_B_FAIL_N d) ∨ s.getB (PMBUS.PMB_STAT_FAILED d)))
    ∧ (∃ (d : Fin 32) (w : PmbFail) (s : State), s.operating ∧ s.pgRunning pPMBUS ∧ s.getB (PMBUS.DEV_A_EN d) ∧ (w = .pec → s.getB PMBUS.PMB_CFG_PEC) ∧ s.getF (PMBUS.DEV_B_FAIL_N d) ≤ (oneMore s (PMBUS.PMB_STAT_FAILS d)).2 ∧ s.getB (PMBUS.PMB_STAT_FAILED d) = false)
    ∧ (∃ (d : Fin 32) (sw : Half) (s : State), s.operating ∧ s.pgRunning pPMBUS ∧ s.getB PMBUS.PMB_CFG_ALERT_EN ∧ s.getB (PMBUS.DEV_A_EN d) ∧ (∀ e : Fin 32, e < d → s.getB (PMBUS.DEV_A_EN e) = false ∨ s.getF (PMBUS.DEV_A_ADDR e) ≠ s.getF (PMBUS.DEV_A_ADDR d))) :=
  ⟨⟨31, ⟨0x1234, [1, 2], 0x16⟩, mode_ mRUN [(pgStatState pPMBUS, 2), (PMBUS.DEV_A_EN 31, 1), (PMBUS.DEV_A_POLL 31, 255)], by decide +kernel⟩,
   ⟨31, ⟨0x1234, [1, 2], 0x16⟩, 6, mode_ mRUN [(pgStatState pPMBUS, 2), (PMBUS.DEV_A_EN 31, 1), (PMBUS.DEV_A_POLL 31, 128)], by decide +kernel⟩,
   ⟨31, .pec, mode_ mRUN [(pgStatState pPMBUS, 2), (PMBUS.PMB_CFG_PEC, 1), (PMBUS.DEV_A_EN 31, 1), (PMBUS.DEV_B_FAIL_N 31, 3)], by decide +kernel⟩,
   ⟨31, .pec, mode_ mRUN [(pgStatState pPMBUS, 2), (PMBUS.PMB_CFG_PEC, 1), (PMBUS.DEV_A_EN 31, 1), (PMBUS.DEV_B_FAIL_N 31, 1)], by decide +kernel⟩,
   ⟨31, 0x1234, mode_ mRUN [(pgStatState pPMBUS, 2), (PMBUS.PMB_CFG_ALERT_EN, 1), (PMBUS.DEV_A_EN 31, 1), (PMBUS.DEV_A_ADDR 31, 0x40)], by decide +kernel⟩⟩

theorem witness_StepKeepsCanonical :
    ∃ (s t : State), Canonical s ∧ step s = .next t :=
  ⟨State.reset, State.reset, ⟨List.pairwise_singleton _ _, by decide +kernel, List.Pairwise.nil, fun _ h => nomatch h⟩, rfl⟩

theorem witness_EngineMemoryReads :
    ∃ (s : State) (a : Nat) (bs : List Byte) (x : Nat), Memory.wf s.mem :=
  ⟨dmaReady 3, 0x20000002, [0, 7, 0], 0x20000003, by decide +kernel⟩

theorem witness_AccessRefused :
    (∃ (s : State) (r : Requester) (a n : Nat) (ws : List Word), s.hostReady r ∧ (a % 4 ≠ 0 ∨ 0x1000 < a % 0x1000 + 4 * n) ∧ ws.length = n)
    ∧ (∃ (s : State) (r : Requester) (a : Nat) (ws : List Word), (s.writeTx r a ws).1 = stOK)
    ∧ (∃ (s : State) (r : Requester) (a n : Nat), (s.readTx r a n).1 = stOK) :=
  ⟨⟨mode_ mRUN [], .firmware, 0x1FFC, 2, [1, 2], by decide +kernel⟩,
   ⟨mode_ mRUN [], .firmware, DEV.OWN_TIMEOUT, [60], by decide +kernel⟩,
   ⟨mode_ mRUN [], .firmware, DEV.OWN_TIMEOUT, 1, by decide +kernel⟩⟩

theorem witness_AcceptedWriteAnswersOk :
    (∃ (s : State) (r : Requester) (a v : Nat), Accepts s r a v ∧ (¬ (a / 0x1000 = pIMAGE ∧ 0x100 ≤ a % 0x1000 ∧ a % 0x1000 < 0x200)))
    ∧ (∃ (s : State) (r : Requester) (a v : Nat), s.portOpen r ∧ s.mayWrite (a / 0x1000) r ∧ (¬ (a / 0x1000 = pIMAGE ∧ 0x100 ≤ a % 0x1000 ∧ a % 0x1000 < 0x200)) ∧ (s.writeTx r a [BitVec.ofNat 32 v]).1 = stOK) :=
  ⟨⟨mode_ mRUN [], .firmware, DEV.OWN_TIMEOUT, 60, by decide +kernel⟩,
   ⟨mode_ mRUN [], .firmware, DEV.OWN_TIMEOUT, 60, by decide +kernel⟩⟩

theorem witness_RunZeroRefused :
    ∃ (s : State) (r : Requester) (p : Nat) (v : Word), s.txCheck r (pgCtrl p) 1 true = none ∧ s.mayWrite p r ∧ v.getLsbD 0 = false ∧ v.getLsbD 1 = false ∧ (s.pgState p = psSTARTING ∨ s.pgState p = psRUNNING) ∧ p < 0x1000 :=
  ⟨mode_ mRUN [(pgStatState pSEQ, psRUNNING)], .firmware, pSEQ, 4, by decide +kernel⟩

theorem witness_MultiWordWrite :
    ∃ (s : State) (r : Requester) (p o : Nat) (l : List Word), (writeWords r p o l s).2.1 = false ∧ o + 4 * l.length ≤ 0x1000 :=
  ⟨mode_ mRUN [], .firmware, pSEQ, SEQ.CNT_CTRL % 0x1000, [1, 2], by decide +kernel⟩

theorem witness_OwnerRefuses :
    ∃ (s : State) (r : Requester) (a : Nat) (ws : List Word) (i : Nat), s.txCheck r a ws.length true = none ∧ s.getB (pgOwnerHeld (a / 0x1000)) ∧ r ≠ .firmware ∧ (s.getF (pgOwnerPort (a / 0x1000)) ≠ reqPort r ∨ s.getF (pgOwnerSource (a / 0x1000)) ≠ reqSource r) ∧ i < ws.length ∧ (a % 0x1000 + 4 * i = 4 ∨ (findReg (a / 0x1000) (a % 0x1000 + 4 * i)).isSome) :=
  ⟨(mode_ mRUN [(pgStatState (pCAN 2), 2)]).setN (pgOwner pSEQ) (0x77 * 2 ^ 16 + 9 * 2 ^ 8 + 4 * 2 ^ 4 + 1), .can 2 8, pgCtrl pSEQ, [2], 0, by decide +kernel⟩

theorem witness_InhibitClearRefused :
    ∃ (r : Requester) (w : Nat) (s : State), w = modeWord 0xC5 5 ∧ Accepts s r DEV.MODE_CTRL w ∧ s.getB DEV.MODE_STAT_DESCENT = false ∧ s.dev.takeoverHeld = false ∧ (s.mode = mDEGRADED ∨ s.mode = mWATCH ∨ s.mode = mSERVICE) ∧ (s.dev.ackSinceSafe = false ∨ s.actSev 4) :=
  ⟨.firmware, 0xC505, mode_ mDEGRADED [(DEV.MODE_STAT_SHELF_INHIBIT, 1), (⟨FCOL.ACT 0, 3, 1⟩, 1), (FCOL_SEV.SEV_SEV 3, 4)], by decide +kernel⟩

theorem witness_SeqOrder :
    ∃ (a b : Nat), a < 2 ^ 32 ∧ b < 2 ^ 32 :=
  ⟨1, 0xFFFFFFFF, by decide +kernel⟩

theorem witness_StoreRecordRoundTrip :
    ∃ (id form sq schema : Nat) (p : List Byte), psPages id ≠ 0 ∧ form < 256 ∧ 1 ≤ sq ∧ sq < 2 ^ 32 ∧ schema < 2 ^ 16 ∧ p.length ≤ 64 * psPages id - 16 :=
  ⟨0x200, 1, 7, 3, [1, 2, 3], by decide +kernel⟩

theorem witness_RecorderBounds :
    ∃ (src sev kind : Nat) (nested : Bool) (d : List Nat) (s : State), s.cairnN ≤ 32768 ∧ s.cairn.staged.length ≤ 256 :=
  ⟨9, 2, 0, false, [1], State.reset, by decide +kernel⟩

theorem witness_SettingsWaitForTheirBoundary :
    (∃ (c : Instr) (e : LateWord) (v : Word) (s : State), readsSettings c ∧ Canonical s ∧ e ∈ s.dev.late)
    ∧ (∃ (c : CycleIn) (s : State), s.operating)
    ∧ (∃ (c : SetIn) (o : OpenSet) (s : State), s.operating ∧ s.sample.set_ = some o ∧ o.taken = false ∧ o.atUs ≤ s.dev.nowUs)
    ∧ (∃ (r : Requester) (v : Word) (s : State), Accepts s r SHELF.V_REF v.toNat ∧ s.getReg SHELF.V_REF ≠ v ∧ s.dev.late = []) :=
  ⟨⟨.shortfallCount, ⟨ALLOC.ALLOC_CFG, 0xFFFFFFFF, 1⟩, 77, late_ State.reset ALLOC.ALLOC_CFG, by decide +kernel, ⟨List.pairwise_singleton _ _, by decide +kernel, List.Pairwise.nil, fun _ h => nomatch h⟩, by decide +kernel⟩,
   ⟨⟨1, 2, 3, 4, 0⟩, late_ (mode_ mRUN []) SHELF.V_REF, by decide +kernel⟩,
   ⟨⟨1, 2, 3, 4⟩, openSet_ 7, late_ (setOpen_ 3 7) EST.SIGMA, by decide +kernel⟩,
   ⟨.firmware, 0x44960000, mode_ mRUN [(pgStatState pSHELF, 2)], by decide +kernel⟩⟩

end Sys2Proof.Tests
end

section
/-! SUPPORT. The shelf-cycle boundary and the start of regulation (R16, R17, R248, Table 1-3): time alone passes in ascent, what a regulation start writes and keeps, the end of the start ramp. -/

namespace Sys2Proof.Proofs

open Machine Machine.State Laws

/-! ### Registers outside a set that a chain of writes stays in -/

section RegsKept

variable {p : Nat → Prop} {s t : State}

theorem regsKept_refl : RegsKept p s s := fun _ _ => rfl

theorem regsKept_setF (h : RegsKept p s t) {f : Fld} (hf : p f.addr) (v : Nat) : RegsKept p s (t.setF f v) := fun a ha =>
  (getReg_setF_ne v fun e => ha (by rwa [e])).trans (h a ha)

theorem regsKept_setReg (h : RegsKept p s t) {a : Nat} (hp : p a) (w : Word) : RegsKept p s (t.setReg a w) := fun b hb =>
  (getReg_setReg_ne w fun e => hb (by rwa [e])).trans (h b hb)

theorem regsKept_updShelf (h : RegsKept p s t) (f : ShelfSt → ShelfSt) : RegsKept p s (t.updShelf f) := h

theorem regsKept_updVs (h : RegsKept p s t) (i : Nat) (f : VSlotSt → VSlotSt) : RegsKept p s (t.updVs i f) := h

theorem regsKept_ite {c : Prop} [Decidable c] {t' : State} (h : RegsKept p s t) (h' : RegsKept p s t') :
    RegsKept p s (if c then t else t') := by
  split <;> assumption

theorem getF_of_regsKept (h : RegsKept p s t) {f : Fld} (hf : ¬ p f.addr) : t.getF f = s.getF f := by
  simp only [State.getF, h _ hf]

theorem vBus_of_regsKept (h : RegsKept p s t) (hb : ¬ p SAMPLE.V_BUS) (hb2 : ¬ p SAMPLE.V_BUS2) (hs : t.shelf.srcD2 = s.shelf.srcD2) :
    t.vBus = s.vBus := by
  simp only [State.vBus, hs, h _ hb, h _ hb2]

end RegsKept

/-- A field reads below 2 to its width. -/
theorem getF_lt (s : State) (f : Fld) : s.getF f < 2 ^ f.w := BitVec.isLt _

/-! ### The time of one shelf cycle -/

section CycleTime

variable (s : State)

/-- The parts of the state that the clocks leave alone: the device, the shelf, engine memory and the ports. -/
abbrev CycleFrame := DevSt × ShelfSt × List Host.Cell × List PortSt

def cycleFrame (s : State) : CycleFrame := (s.dev, s.shelf, s.mem, s.port)

theorem cycleFrame_peerAges : cycleFrame s.peerAges = cycleFrame s :=
  List.foldlRecOn (motive := fun t => cycleFrame t = cycleFrame s) _ _ rfl fun t ht k _ => by
    split
    exacts [ht, ht]

theorem cycleFrame_tbGlide (us : Nat) : cycleFrame (s.tbGlide us) = cycleFrame s := by
  unfold State.tbGlide
  split <;> rfl

/-- What the clocks of the block show when a cycle begins: the PLLs, the timebase's glide, and the peers' ages each 100 ms. -/
def clocksShown : State :=
  let g := s.pllStep.tbGlide s.cycleUs
  if (g.dev.nowUs + s.cycleUs) / 100000 = g.dev.nowUs / 100000 then g else g.peerAges

theorem cycleFrame_clocksShown : cycleFrame (clocksShown s) = cycleFrame s := by
  have hglide : cycleFrame (s.pllStep.tbGlide s.cycleUs) = cycleFrame s := cycleFrame_tbGlide _ _
  simp only [clocksShown]
  split
  exacts [hglide, (cycleFrame_peerAges _).trans hglide]

theorem cycleTime_nowUs : s.cycleTime.dev.nowUs = s.dev.nowUs + s.cycleUs :=
  congrArg (fun p : CycleFrame => p.1.nowUs + s.cycleUs) (cycleFrame_clocksShown s)

theorem cycleTime_cycle : s.cycleTime.shelf.cycle = (s.shelf.cycle + 1) % 2 ^ 32 :=
  congrArg (fun p : CycleFrame => (p.2.1.cycle + 1) % 2 ^ 32) (cycleFrame_clocksShown s)

theorem cycleTime_mem : s.cycleTime.mem = s.mem := congrArg (fun p : CycleFrame => p.2.2.1) (cycleFrame_clocksShown s)

theorem cycleTime_port : s.cycleTime.port = s.port := congrArg (fun p : CycleFrame => p.2.2.2) (cycleFrame_clocksShown s)

end CycleTime

/-! ### The boundary and the SETPOINTs' start -/

section Boundary

variable {s : State}

theorem exec_shelfCycleBoundary_operating (c : CycleIn) (h : s.operating) :
    exec (.shelfCycleBoundary c) s = .next (s.cycleTime.sdmaPolicy.shelfCycle c) := if_pos h

theorem exec_shelfCycleBoundary_ascent (c : CycleIn) (h : s.mode = mASCENT) : exec (.shelfCycleBoundary c) s = .next s.cycleTime := by
  have hop : ¬ s.operating := by simp [State.operating, h]
  have hpw : s.powered := by simp [State.powered, h]
  exact (if_neg hop).trans (if_pos hpw)

theorem exec_setpointStart_operating (h : s.operating) (hl : s.dev.late = []) : exec .setpointStart s = .next s.setpointStart :=
  (heldRun_of_late_nil (f := fun s => if s.operating then .next s.setpointStart else .next s) hl).trans (if_pos h)

end Boundary

/-! ### The slot that SHELF takes its demand from -/

section MakeActive

variable {p : Nat → Prop} {s t : State}

theorem limitEnd_mem : s.limitEnd.mem = s.mem := by
  simp only [State.limitEnd]; split <;> rfl

theorem limitEnd_shelf : s.limitEnd.shelf = { s.shelf with limDir := 0, limByStr := false, limRun := 0 } := by
  simp only [State.limitEnd]; split <;> rfl

/-- The end of a limit hold writes the condition and active bits of source 108 and ALLOC_STAT (R258). -/
theorem regsKept_limitEnd (h : RegsKept p s t) (hc : p (FCOL.COND 3)) (ha : p (FCOL.ACT 3)) (hs : p ALLOC.ALLOC_STAT) :
    RegsKept p s t.limitEnd := by
  have hend : RegsKept p s (t.endL 108) := regsKept_setF (regsKept_setF h hc 0) ha 0
  simp only [State.limitEnd]
  exact regsKept_updShelf (regsKept_ite (regsKept_setF hend hs 0) hend) _

theorem makeActive_mem (b : Nat) : (s.makeActive b).mem = s.mem := by
  simp only [State.makeActive]; split_ifs <;> simp only [setF_mem, limitEnd_mem]

theorem makeActive_shelf (b : Nat) : (s.makeActive b).shelf = { s.shelf with limDir := 0, limByStr := false, limRun := 0 } := by
  simp only [State.makeActive]; split_ifs <;> simp only [setF_shelf, limitEnd_shelf]

theorem regsKept_makeActive (h : RegsKept p s t) (hc : p (FCOL.COND 3)) (ha : p (FCOL.ACT 3)) (hs : p ALLOC.ALLOC_STAT)
    (hr : p SHELF.REG_STAT) (b : Nat) : RegsKept p s (t.makeActive b) := by
  have hslot : RegsKept p s (t.limitEnd.setF SHELF.REG_STAT_ACT_SLOT b) := regsKept_setF (regsKept_limitEnd h hc ha hs) hr b
  simp only [State.makeActive]
  exact regsKept_ite (regsKept_setF hslot hr 0) (regsKept_ite (regsKept_setF hslot hr 1) hslot)

theorem makeActive_actSlot {b : Nat} (hb : b < 8) : (s.makeActive b).actSlot = b := by
  have h0 : (s.limitEnd.setF SHELF.REG_STAT_ACT_SLOT b).actSlot = b := (getF_setF_self (by decide) b).trans (Nat.mod_eq_of_lt hb)
  have h1 (v : Nat) : ((s.limitEnd.setF SHELF.REG_STAT_ACT_SLOT b).setF SHELF.REG_STAT_MODE_ACT v).actSlot = b :=
    (getF_setF_bits (by decide) (by decide) v).trans h0
  simp only [State.makeActive]
  split_ifs
  exacts [h1 0, h1 1, h0]

theorem roleSlot_lt (r : Nat) : s.roleSlot r < 8 := by
  simp only [State.roleSlot, State.ownSlot]
  split_ifs <;> exact getF_lt s _

theorem wantMode_lt : s.wantMode < 2 := by
  simp only [State.wantMode]
  split_ifs
  exacts [by decide, getF_lt s SHELF.SHELF_CFG_REG_MODE]

end MakeActive

/-! ### The start of regulation, part by part -/

section RegulationStart

/-- The slot that holds the role of the wanted mode. -/
abbrev wantSlot (s : State) : Nat := s.roleSlot (modeRole s.wantMode)

/-- Where another slot was active, it tracks the slot that takes over, which goes to AUTO (R220, R247). -/
def slotsSwitched (s : State) (a b : Nat) : State :=
  if a = b then s
  else ((s.setF (VSLOT.SLOT_CTRL_MODE a) 2).setF (VSLOT.SLOT_CTRL_TRK_SLOT a) b).setF (VSLOT.SLOT_CTRL_MODE b) 0

/-- Slot `b` is active in mode `m`. -/
def modeInForce (s : State) (b m : Nat) : State := (s.makeActive b).setF SHELF.REG_STAT_MODE_ACT m

/-- A REG_MODE change that waited is done (R247). -/
def modeChangeDone (s : State) : State :=
  if s.shelf.regPend then (s.updShelf (fun x => { x with regPend := false })).setF SHELF.REG_STAT_MODE_CHG 2 else s

/-- The start ramp of slot `b` begins, from a held value of 0 (R248). -/
def rampBegun (s : State) (b : Nat) : State :=
  let s := s.updVs b (fun v => { v with needPreset := true, target := some 0 })
  let s := s.updShelf (fun x => { x with startReg := false, startRef := s.vBus, startNew := true, hold := x.hold.set b (0, 0) })
  (s.setF SHELF.REG_STAT_START_RAMP 1).setF SHELF.REG_STAT_INHIBIT_RAMP 0

/-- The slot of the wanted mode has taken over. -/
def slotTaken (s : State) : State :=
  modeChangeDone (modeInForce (slotsSwitched s s.actSlot (wantSlot s)) (wantSlot s) s.wantMode)

/-- The start ramp begins, and P_REF is 0 where the mode is PCMD. -/
def regulationStarted (s : State) : State :=
  let t := rampBegun (slotTaken s) (wantSlot s)
  if s.wantMode = 1 then t.setReg SHELF.P_REF 0 else t

variable {s : State}

theorem exec_regulationStart (hs : s.shelf.startReg) (hi : s.inhibit = false) (hm : s.mode = mRUN ∨ s.mode = mDEGRADED) :
    exec .regulationStart s = .next (regulationStarted s) := if_pos ⟨hs, hi, hm⟩

/-- The registers that a regulation start may write: the two slots' SLOT_CTRL, the bits of source 108, ALLOC_STAT, REG_STAT and P_REF. -/
def startWrites (s : State) (x : Nat) : Prop :=
  x ∈ [VSLOT.SLOT_CTRL s.actSlot, VSLOT.SLOT_CTRL (wantSlot s), FCOL.COND 3, FCOL.ACT 3, ALLOC.ALLOC_STAT, SHELF.REG_STAT, SHELF.P_REF]

theorem startWrites_regStat : startWrites s SHELF.REG_STAT := by simp [startWrites]

theorem regsKept_slotsSwitched : RegsKept (startWrites s) s (slotsSwitched s s.actSlot (wantSlot s)) := by
  have ha : startWrites s (VSLOT.SLOT_CTRL s.actSlot) := by simp [startWrites]
  have hb : startWrites s (VSLOT.SLOT_CTRL (wantSlot s)) := by simp [startWrites]
  exact regsKept_ite regsKept_refl (regsKept_setF (regsKept_setF (regsKept_setF regsKept_refl ha 2) ha _) hb 0)

theorem regsKept_slotTaken : RegsKept (startWrites s) s (slotTaken s) := by
  have hmode : RegsKept (startWrites s) s (modeInForce (slotsSwitched s s.actSlot (wantSlot s)) _ s.wantMode) :=
    regsKept_setF (regsKept_makeActive regsKept_slotsSwitched (by simp [startWrites]) (by simp [startWrites]) (by simp [startWrites])
      startWrites_regStat (wantSlot s)) startWrites_regStat s.wantMode
  exact regsKept_ite (regsKept_setF (regsKept_updShelf hmode _) startWrites_regStat 2) hmode

theorem regsKept_regulationStarted : RegsKept (startWrites s) s (regulationStarted s) := by
  have hramp : RegsKept (startWrites s) s (rampBegun (slotTaken s) (wantSlot s)) :=
    regsKept_setF (regsKept_setF (regsKept_updShelf (regsKept_updVs regsKept_slotTaken _ _) _) startWrites_regStat 1) startWrites_regStat 0
  exact regsKept_ite (regsKept_setReg hramp (by simp [startWrites]) 0) hramp

/-- The device page and the sample page are not among the registers that a regulation start may write. -/
theorem not_startWrites {x : Nat} (h1 : 0x2080 ≤ x ∨ x < 0x2040) (h2 : x < 0x31024) : ¬ startWrites s x := by
  simp only [startWrites, VSLOT.SLOT_CTRL, FCOL.COND, FCOL.ACT, ALLOC.ALLOC_STAT, SHELF.REG_STAT, SHELF.P_REF,
    List.mem_cons, List.not_mem_nil, or_false]
  omega

theorem slotsSwitched_mem (a b : Nat) : (slotsSwitched s a b).mem = s.mem := by
  unfold slotsSwitched; split <;> rfl

theorem slotsSwitched_shelf (a b : Nat) : (slotsSwitched s a b).shelf = s.shelf := by
  unfold slotsSwitched; split <;> rfl

theorem modeChangeDone_mem : (modeChangeDone s).mem = s.mem := by
  unfold modeChangeDone; split <;> rfl

theorem modeChangeDone_shelf : (modeChangeDone s).shelf = { s.shelf with regPend := false } := by
  unfold modeChangeDone
  split
  case isTrue => rfl
  case isFalse h => rw [← Bool.eq_false_iff.2 h]

/-- The done mark of a REG_MODE change leaves the low byte of REG_STAT. -/
theorem modeChangeDone_getF {f : Fld} (hf : f.lo + f.w ≤ 8) : (modeChangeDone s).getF f = s.getF f := by
  unfold modeChangeDone
  split
  exacts [getF_setF_bits (hf.trans (by decide)) (.inl (hf.trans (by decide))) 2, rfl]

theorem slotTaken_mem : (slotTaken s).mem = s.mem :=
  modeChangeDone_mem.trans ((makeActive_mem _).trans (slotsSwitched_mem _ _))

/-- Of the shelf's state the slot's taking over ends a limit hold and a pending REG_MODE change. -/
theorem slotTaken_shelf : (slotTaken s).shelf = { s.shelf with limDir := 0, limByStr := false, limRun := 0, regPend := false } := by
  simp only [slotTaken, modeInForce, modeChangeDone_shelf, setF_shelf, makeActive_shelf, slotsSwitched_shelf]

theorem slotTaken_actSlot : (slotTaken s).actSlot = wantSlot s :=
  calc (slotTaken s).actSlot
    _ = State.actSlot (State.makeActive _ _) := (modeChangeDone_getF (by decide)).trans (getF_setF_bits (by decide) (by decide) _)
    _ = wantSlot s := makeActive_actSlot (roleSlot_lt _)

theorem slotTaken_modeAct : (slotTaken s).getF SHELF.REG_STAT_MODE_ACT = s.wantMode :=
  calc (slotTaken s).getF SHELF.REG_STAT_MODE_ACT
    _ = s.wantMode % 2 := (modeChangeDone_getF (by decide)).trans (getF_setF_self (by decide) _)
    _ = s.wantMode := Nat.mod_eq_of_lt wantMode_lt

theorem slotTaken_vBus : (slotTaken s).vBus = s.vBus :=
  vBus_of_regsKept regsKept_slotTaken (not_startWrites (by decide) (by decide)) (not_startWrites (by decide) (by decide)) (by rw [slotTaken_shelf])

theorem rampBegun_mem (b : Nat) : (rampBegun s b).mem = s.mem := rfl

theorem rampBegun_shelf (b : Nat) :
    (rampBegun s b).shelf = { s.shelf with startReg := false, startRef := s.vBus, startNew := true, hold := s.shelf.hold.set b (0, 0) } := rfl

/-- The start of the ramp leaves the low byte of REG_STAT. -/
theorem rampBegun_getF {f : Fld} (b : Nat) (hf : f.lo + f.w ≤ 8) : (rampBegun s b).getF f = s.getF f :=
  have hw : f.lo + f.w ≤ 32 := hf.trans (by decide)
  (getF_setF_bits hw (.inl (hf.trans (by decide))) 0).trans (getF_setF_bits hw (.inl hf) 1)

theorem rampBegun_startRamp (b : Nat) : (rampBegun s b).getF SHELF.REG_STAT_START_RAMP = 1 :=
  (getF_setF_bits (by decide) (by decide) 0).trans (getF_setF_self (by decide) 1)

theorem rampBegun_inhibitRamp (b : Nat) : (rampBegun s b).getF SHELF.REG_STAT_INHIBIT_RAMP = 0 := getF_setF_self (by decide) 0

theorem regulationStarted_mem : (regulationStarted s).mem = s.mem := by
  unfold regulationStarted
  split <;> simp only [setReg_mem, rampBegun_mem, slotTaken_mem]

theorem regulationStarted_shelf : (regulationStarted s).shelf = { s.shelf with
    limDir := 0, limByStr := false, limRun := 0, regPend := false, startReg := false, startRef := s.vBus, startNew := true,
    hold := s.shelf.hold.set (wantSlot s) (0, 0) } := by
  unfold regulationStarted
  split <;> simp only [setReg_shelf, rampBegun_shelf, slotTaken_shelf, slotTaken_vBus]

/-- P_REF apart, the fields read as when the ramp began. -/
theorem regulationStarted_getF {f : Fld} (hf : f.addr ≠ SHELF.P_REF) :
    (regulationStarted s).getF f = (rampBegun (slotTaken s) (wantSlot s)).getF f := by
  unfold regulationStarted
  split
  exacts [getF_setReg_ne hf 0, rfl]

theorem regulationStarted_actSlot : (regulationStarted s).actSlot = wantSlot s :=
  (regulationStarted_getF (by decide)).trans ((rampBegun_getF _ (by decide)).trans slotTaken_actSlot)

theorem regulationStarted_modeAct : (regulationStarted s).getF SHELF.REG_STAT_MODE_ACT = s.wantMode :=
  (regulationStarted_getF (by decide)).trans ((rampBegun_getF _ (by decide)).trans slotTaken_modeAct)

theorem regulationStarted_startRamp : (regulationStarted s).getF SHELF.REG_STAT_START_RAMP = 1 :=
  (regulationStarted_getF (by decide)).trans (rampBegun_startRamp _)

theorem regulationStarted_inhibitRamp : (regulationStarted s).getF SHELF.REG_STAT_INHIBIT_RAMP = 0 :=
  (regulationStarted_getF (by decide)).trans (rampBegun_inhibitRamp _)

theorem regulationStarted_pRef (h : s.wantMode = 1) : (regulationStarted s).getReg SHELF.P_REF = 0 := by
  simp only [regulationStarted, h, ↓reduceIte, getReg_setReg_self]

theorem regulationStarted_mode : (regulationStarted s).mode = s.mode :=
  getF_of_regsKept regsKept_regulationStarted (not_startWrites (by decide) (by decide))

end RegulationStart

/-! ### The end of the start ramp -/

section StartRampEnd

variable {s : State}

/-- The supplied reference, or in PCMD P_REF, is at its target (R248). -/
def atStartTarget (s : State) : Bool :=
  if s.getF SHELF.REG_STAT_MODE_ACT = 0 then F32.eqv s.shelf.startRef s.busvRef else F32.eqv (s.getReg SHELF.P_REF) s.pTarget

theorem exec_startRampEnd_atTarget (hr : s.getB SHELF.REG_STAT_START_RAMP) (ht : atStartTarget s) (hl : s.dev.late = []) :
    exec .startRampEnd s = .next (s.setF SHELF.REG_STAT_START_RAMP 0) :=
  (heldRun_of_late_nil (f := fun s =>
    if s.getB SHELF.REG_STAT_START_RAMP ∧ atStartTarget s = true then .next (s.setF SHELF.REG_STAT_START_RAMP 0) else .next s) hl).trans
    (if_pos ⟨hr, ht⟩)

theorem goesSet_startRampEnd (hr : s.getB SHELF.REG_STAT_START_RAMP) (ht : atStartTarget s) (hl : s.dev.late = []) :
    GoesSet .startRampEnd s s [(SHELF.REG_STAT_START_RAMP, 0)] :=
  ⟨_, exec_startRampEnd_atTarget hr ht hl, sets_setF sets_refl (by decide) (by simp) (by decide)⟩

end StartRampEnd

/-- Settles O4, clause by clause: a boundary runs the cycle or, in ascent, the time alone; the SETPOINTs start; regulation starts; the start ramp ends in either mode. Log entries 6, 59, 108 and 115 are the model's choices here. -/
theorem shelfCycleAndRegulation : Obligations.ShelfCycleAndRegulation := by
  unfold Obligations.ShelfCycleAndRegulation
  refine ⟨fun c s h => exec_shelfCycleBoundary_operating c h, fun c s h => ?ascent, fun s h hl => exec_setpointStart_operating h hl,
    fun s hs hi hm => ?start, fun s hr hm ht hl => ?busv, fun s hr hm ht hl => ?pcmd⟩
  case ascent =>
    exact ⟨s.cycleTime, exec_shelfCycleBoundary_ascent c h, cycleTime_nowUs s, cycleTime_cycle s, cycleTime_mem s, cycleTime_port s⟩
  case start =>
    refine ⟨regulationStarted s, exec_regulationStart hs hi hm, ?_, ?_, ?_, ?_, ?_, regulationStarted_actSlot, regulationStarted_startRamp,
      regulationStarted_inhibitRamp, regulationStarted_modeAct, regulationStarted_pRef, regulationStarted_mode, regulationStarted_mem⟩
    all_goals rw [regulationStarted_shelf]
  case busv => exact goesSet_startRampEnd hr ((if_pos hm).trans ht) hl
  case pcmd => exact goesSet_startRampEnd hr ((if_neg hm).trans ht) hl

end Sys2Proof.Proofs
end

section
/-! SUPPORT. The register fabric (chapter 2): fields, the state after reset, refused accesses and words, and when a word write is carried out. -/

namespace Sys2Proof.Proofs

open Machine Machine.State Laws

/-! ### Fields and the state after reset -/

/-- Settles O45: a set field reads what was written modulo its width, and a field apart from it reads as before. -/
theorem registerFieldReads : Obligations.RegisterFieldReads := by
  unfold Obligations.RegisterFieldReads
  exact fun _ _ v hf => ⟨getF_setF_self hf v, fun _ hg ha => getF_setF_apart hg ha v, rfl⟩

theorem anyFence_reset : State.reset.anyFence = false := by decide +kernel

/-- Settles O43: `State.reset` lists one register and no byte of memory. -/
theorem resetIsCanonical : Obligations.ResetIsCanonical := by
  unfold Obligations.ResetIsCanonical
  have hregs : ∀ e ∈ State.reset.regs, e.2 ≠ resetWord e.1 := by decide +kernel
  obtain ⟨hmem, hzero⟩ := wf_iff.1 wf_reset
  exact ⟨⟨by simp [Rising, State.reset], hregs, hmem, hzero⟩, wf_reset, rfl, rfl, anyFence_reset⟩

/-- After reset every register but RST_CAUSE is unlisted. -/
theorem getReg_reset {a : Nat} (h : a ≠ DEV.RST_CAUSE) : State.reset.getReg a = resetWord a := by
  simp only [getReg, State.reset, lookupKey, if_neg (Ne.symm h), Option.getD_none]

/-- Settles O44: RST_CAUSE alone is listed, so every page shows the state of its header's Reset. -/
theorem resetValues : Obligations.ResetValues := by
  unfold Obligations.ResetValues
  exact ⟨by decide +kernel, by decide +kernel, by decide +kernel, by decide +kernel, by decide +kernel, fun _ h => getReg_reset h⟩

/-! ### Refused accesses -/

section Access

variable {s : State} {r : Requester}

/-- Check 3 of Table 2-11: an access off its words, or across its page's end, is refused. -/
theorem txCheck_badAddress {a n : Nat} (w : Bool) (hr : s.hostReady r) (h : a % 4 ≠ 0 ∨ 0x1000 < a % 0x1000 + 4 * n) :
    s.txCheck r a n w = some stBAD_ADDRESS := by
  unfold txCheck
  rw [if_neg (by simp [hr]), if_pos (h.imp_right fun h => .inr (.inr h))]

/-- No check before ownership answers OK or OWNER_DENIED. -/
theorem txCheck_status {a n st : Nat} {w : Bool} (h : s.txCheck r a n w = some st) : st ≠ stOK ∧ st ≠ stOWNER_DENIED := by
  unfold txCheck at h
  split_ifs at h <;> cases h <;> decide

/-- The checks 2 to 4 of Table 2-11 that an access of `n` words passes. -/
theorem txCheck_eq_none {a n : Nat} {w : Bool} :
    s.txCheck r a n w = none ↔ s.hostReady r = true ∧ (a % 4 = 0 ∧ n ≠ 0 ∧ (pageKind (a / 0x1000)).isSome = true ∧ a % 0x1000 + 4 * n ≤ 0x1000) ∧
      ¬ (a / 0x1000 = pPSTORE ∧ s.ps.scanning = true ∧ (w = true ∨ 0x028 < a % 0x1000 + 4 * n)) := by
  have haddr : (a % 4 = 0 ∧ n ≠ 0 ∧ (pageKind (a / 0x1000)).isSome = true ∧ a % 0x1000 + 4 * n ≤ 0x1000) ↔
      ¬ (a % 4 ≠ 0 ∨ n = 0 ∨ (pageKind (a / 0x1000)).isNone = true ∨ 0x1000 < a % 0x1000 + 4 * n) := by
    simp [Option.isSome_iff_ne_none]
  rw [haddr]
  unfold txCheck
  split_ifs with hr ha hp <;> simp_all

/-- An access that passes them was aligned and stayed within its page. -/
theorem aligned_of_txCheck {a n : Nat} {w : Bool} (h : s.txCheck r a n w = none) : a % 4 = 0 ∧ a % 0x1000 + 4 * n ≤ 0x1000 := by
  obtain ⟨-, ⟨halign, -, -, hin⟩, -⟩ := txCheck_eq_none.1 h
  exact ⟨halign, hin⟩

theorem writeTx_of_txCheck {a st : Nat} {ws : List Word} (h : s.txCheck r a ws.length true = some st) : s.writeTx r a ws = (st, 0, s) := by
  simp only [writeTx, h]

theorem readTx_of_txCheck {a n st : Nat} (h : s.txCheck r a n false = some st) : s.readTx r a n = (st, 0, [], s) := by
  simp only [readTx, h]

theorem readTx_of_txCheck_none {a n : Nat} (h : s.txCheck r a n false = none) : (s.readTx r a n).1 = stOK := by
  simp only [readTx, h]

end Access
/-- Settles O47: an access off its words or across its page's end fails check 3; one that answers OK has passed it. -/
theorem accessRefused : Obligations.AccessRefused := by
  unfold Obligations.AccessRefused
  refine ⟨fun s r a n ws hr ha hn => ?refused, fun s r a ws hok => ?write, fun s r a n hok => ?read⟩
  case refused =>
    exact ⟨readTx_of_txCheck (txCheck_badAddress _ hr ha), writeTx_of_txCheck (txCheck_badAddress _ hr (by rwa [hn]))⟩
  case write =>
    cases hc : s.txCheck r a ws.length true with
    | none => exact aligned_of_txCheck hc
    | some st => exact absurd ((congrArg Prod.fst (writeTx_of_txCheck hc)).symm.trans hok) (txCheck_status hc).1
  case read =>
    cases hc : s.txCheck r a n false with
    | none => exact aligned_of_txCheck hc
    | some st => exact absurd ((congrArg Prod.fst (readTx_of_txCheck hc)).symm.trans hok) (txCheck_status hc).1

/-! ### Ownership -/

section Ownership

variable {s : State} {r : Requester} {p : Nat}

/-- A requester of another port or source may not write a held page (R46). -/
theorem mayWrite_eq_false (hheld : s.getB (pgOwnerHeld p)) (hr : r ≠ .firmware)
    (ho : s.getF (pgOwnerPort p) ≠ reqPort r ∨ s.getF (pgOwnerSource p) ≠ reqSource r) : s.mayWrite p r = false := by
  have hother : (s.getF (pgOwnerPort p) == reqPort r && s.getF (pgOwnerSource p) == reqSource r) = false := by
    simpa only [Bool.and_eq_false_iff, beq_eq_false_iff_ne] using ho
  simp [mayWrite, hheld, hr, hother]

/-- A write that touches PG_CTRL or a block register of such a page is refused at one of its words. -/
theorem ownerRefuses_isSome {o n i : Nat} (h : s.mayWrite p r = false) (hi : i < n)
    (ho : o + 4 * i = 4 ∨ (findReg p (o + 4 * i)).isSome) : ∃ x, s.ownerRefuses r p o n = some x := by
  rw [ownerRefuses, if_neg (by simp [h]), ← Option.isSome_iff_exists, List.find?_isSome]
  exact ⟨o + 4 * i, List.mem_map.2 ⟨i, List.mem_range.2 hi, rfl⟩, by rcases ho with ho | ho <;> simp [ho]⟩

theorem ownerRefuses_eq_none {o n : Nat} (h : s.mayWrite p r = true) : s.ownerRefuses r p o n = none := if_pos h

theorem writeTx_of_ownerRefuses {a x : Nat} {ws : List Word} (hc : s.txCheck r a ws.length true = none)
    (hx : s.ownerRefuses r (a / 0x1000) (a % 0x1000) ws.length = some x) :
    s.writeTx r a ws = (stOWNER_DENIED, 0, s.refuse (a / 0x1000) x 3) := by
  simp only [writeTx, hc, hx]

/-- A refusal writes PG_STAT of its page and nothing else. -/
theorem refuse_getReg {o c b : Nat} (hb : b ≠ pgStat p) : (s.refuse p o c).getReg b = s.getReg b :=
  (getReg_setF_ne (g := pgStatWrejCause p) c hb).trans
    ((getReg_setF_ne (g := pgStatWrejOfs p) o hb).trans (getReg_setF_ne (g := pgStatWrej p) 1 hb))

/-- A refusal shows WREJ, the word's offset and the cause (Table 2-5). -/
theorem sets_refuse {o c : Nat} (ho : o < 2 ^ 12) (hc : c < 2 ^ 4) :
    Sets s (s.refuse p o c) [(pgStatWrej p, 1), (pgStatWrejOfs p, o), (pgStatWrejCause p, c)] := by
  have hsets : Sets s (s.refuse p o c) [(pgStatWrejCause p, c), (pgStatWrejOfs p, o), (pgStatWrej p, 1)] :=
    sets_setF (sets_setF (sets_setF sets_refl (by decide : 8 + 1 ≤ 32) (by simp) (by decide : 1 < 2 ^ 1)) (by decide : 16 + 12 ≤ 32) (by simp [Apart]) ho)
      (by decide : 12 + 4 ≤ 32) (by simp [Apart]) hc
  exact sets_of_mem_iff hsets (by simp; tauto)

end Ownership

/-- Settles O52: the refused word is found among those that ownership guards; a read has no such check. -/
theorem ownerRefuses : Obligations.OwnerRefuses := by
  unfold Obligations.OwnerRefuses
  refine ⟨fun s r a ws i hc hheld hr ho hi htouch => ?write, fun s r a n => ?read⟩
  case write =>
    obtain ⟨x, hx⟩ := ownerRefuses_isSome (mayWrite_eq_false hheld hr ho) hi htouch
    rw [writeTx_of_ownerRefuses hc hx]
    exact ⟨rfl, rfl, rfl, fun b hb => refuse_getReg hb⟩
  case read =>
    cases hc : s.txCheck r a n false with
    | none => rw [readTx_of_txCheck_none hc]; decide
    | some st => rw [readTx_of_txCheck hc]; exact (txCheck_status hc).2

/-! ### When a word write is carried out (checks 6 and 7 of Table 2-11) -/

section Taken

variable {s : State} {r : Requester} {p o : Nat} {v : Word}

/-- The owner's access time is no part of what PG_CTRL and a register's checks look at. -/
theorem wordTaken_ownerTouch (q : Nat) : wordTaken (s.ownerTouch q r) r p o v = wordTaken s r p o v := by
  unfold State.ownerTouch
  split <;> rfl

theorem ctrlTaken_ownerTouch (q : Nat) (via : Option Nat) : ctrlTaken (s.ownerTouch q r) p v via = ctrlTaken s p v via := by
  unfold State.ownerTouch
  split <;> rfl

/-- A PG_CTRL word that is carried out is one that the page's state permits. -/
theorem ctrlTaken_of_ok {t : State} {via : Option Nat} (h : s.ctrlWrite p v via = .ok t) : ctrlTaken s p v via = true := by
  unfold ctrlTaken
  unfold ctrlWrite at h
  generalize v.getLsbD 0 = run at *
  generalize v.getLsbD 1 = stop at *
  generalize v.getLsbD 2 = clr at *
  generalize s.pgState p = st at *
  generalize alwaysRunning p = al at *
  generalize s.stopPermitted p via = perm at *
  generalize (s.fsum p).getLsbD 28 = act at *
  obtain rfl | rfl | rfl | rfl | rfl | ⟨h0, h1, h2, h3, h4⟩ : st = psOFF ∨ st = psSTARTING ∨ st = psRUNNING ∨ st = psSTOPPED ∨ st = psFENCED ∨
      (st ≠ psOFF ∧ st ≠ psSTARTING ∧ st ≠ psRUNNING ∧ st ≠ psSTOPPED ∧ st ≠ psFENCED) := by omega
  all_goals cases run <;> cases stop <;> cases clr <;> cases al <;> simp_all
  -- left are a stop that is permitted and a fence without an active source
  all_goals
    by_contra hn
    simp_all

theorem ctrlWrite_ok_iff {via : Option Nat} : (∃ t, s.ctrlWrite p v via = .ok t) ↔ ctrlTaken s p v via = true :=
  ⟨fun ⟨_, h⟩ => ctrlTaken_of_ok h, ctrlWrite_taken⟩

/-- A word of a listed page is written exactly where the page takes it. -/
theorem writeWord_ok_iff (hp : (pageKind p).isSome) : (∃ t, s.writeWord r p o v = .ok t) ↔ wordTaken s r p o v = true := by
  obtain ⟨⟨k, x⟩, hk⟩ := Option.isSome_iff_exists.1 hp
  simp only [writeWord, wordTaken, hk]
  by_cases h4 : o = 0x004
  · simp only [h4, ↓reduceIte, ← ctrlWrite_ok_iff]
    cases s.ctrlWrite p v (reqPage r) <;> simp
  by_cases h8 : o = 0x008
  · simp [h8]
  by_cases h14 : o = 0x014
  · simp [h14]
  simp only [h4, h8, h14, or_self, ↓reduceIte]
  cases hf : findReg p o with
  | none => simp
  | some e =>
    obtain ⟨d, n, i⟩ := e
    simp only [Bool.and_eq_true, Bool.or_eq_true, Bool.not_eq_true', decide_eq_true_eq]
    split_ifs with hoff hrs hsb
    · simp [hoff]
    · refine iff_of_false (by simp) ?_
      rw [hrs.2]
      tauto
    · refine iff_of_false (by simp) ?_
      rcases hsb with hsb | hsb <;> simp [hsb]
    · simp only [not_and, not_or, Bool.not_eq_true] at hrs hsb
      refine iff_of_true ⟨_, rfl⟩ ⟨⟨⟨hoff, ?_⟩, hsb.1⟩, hsb.2⟩
      tauto

end Taken

/-! ### Transactions of one word -/

section OneWord

variable {s : State} {r : Requester} {a : Nat} {v : Word}

/-- The address lies in the window of IMG_DATA, whose words are taken together (R532). -/
abbrev InImgData (a : Nat) : Prop := a / 0x1000 = pIMAGE ∧ 0x100 ≤ a % 0x1000 ∧ a % 0x1000 < 0x200

/-- The owner's access time is all that an access of the holder changes. -/
theorem ownerTouch_eq (p : Nat) : ∃ x, s.ownerTouch p r = { s with dev := { s.dev with ownAt := x } } := by
  unfold State.ownerTouch
  split
  exacts [⟨_, rfl⟩, ⟨s.dev.ownAt, rfl⟩]

/-- A refused word leaves the access time as it was. -/
theorem refuse_ownerTouch (q p o c : Nat) :
    { (s.ownerTouch q r).refuse p o c with dev := { ((s.ownerTouch q r).refuse p o c).dev with ownAt := s.dev.ownAt } } = s.refuse p o c := by
  have hregs : ((s.ownerTouch q r).refuse p o c).regs = (s.refuse p o c).regs := by
    simp only [refuse, setF, setReg, getReg, ownerTouch_regs]
  obtain ⟨x, hx⟩ := ownerTouch_eq (s := s) (r := r) q
  calc
    _ = { s with regs := ((s.ownerTouch q r).refuse p o c).regs } := by rw [hx]; rfl
    _ = { s with regs := (s.refuse p o c).regs } := by rw [hregs]
    _ = s.refuse p o c := rfl

/-- A word that passes the checks before and is refused by its page: PG_STAT says so, and the access does not count for the holder (R44, R48). -/
theorem writeTx_word_error {c : Nat} (hc : s.txCheck r a 1 true = none) (hm : s.mayWrite (a / 0x1000) r = true) (hi : ¬ InImgData a)
    (hw : (s.ownerTouch (a / 0x1000) r).writeWord r (a / 0x1000) (a % 0x1000) v = .error c) :
    s.writeTx r a [v] = (stSTOP_REQUIRED, 0, s.refuse (a / 0x1000) (a % 0x1000) c) := by
  have ho := ownerRefuses_eq_none (o := a % 0x1000) (n := 1) hm
  simp only [writeTx, List.length_singleton, hc, ho, hi, ↓reduceIte, writeWords, hw]
  exact (if_pos ⟨trivial, rfl⟩).trans (congrArg (fun t => (stSTOP_REQUIRED, 0, t)) (refuse_ownerTouch _ _ _ _))

/-- Settles O48: an accepted word is written, and where the page refuses the word the transaction does not answer OK. -/
theorem acceptedWriteAnswersOk : Obligations.AcceptedWriteAnswersOk := by
  unfold Obligations.AcceptedWriteAnswersOk
  refine ⟨fun s r a v h hi => ?accepted, fun s r a v hopen hm hi hok => ?answered⟩
  case accepted =>
    obtain ⟨-, -, -, hp, -, -, ht⟩ := id h
    obtain ⟨t, hw⟩ := (writeWord_ok_iff hp).2 ((wordTaken_ownerTouch _).trans ht)
    rw [writeTx_accepted h hi hw]
    exact ⟨rfl, rfl⟩
  case answered =>
    cases hc : s.txCheck r a 1 true with
    | some st => exact absurd ((congrArg Prod.fst (writeTx_of_txCheck hc)).symm.trans hok) (txCheck_status hc).1
    | none =>
      obtain ⟨hready, ⟨halign, -, hp, -⟩, hscan⟩ := txCheck_eq_none.1 hc
      refine ⟨hopen, hready, halign, hp, fun h => hscan ⟨h.1, h.2, .inl rfl⟩, hm, ?_⟩
      rw [← wordTaken_ownerTouch (a / 0x1000), ← writeWord_ok_iff hp]
      cases hw : (s.ownerTouch (a / 0x1000) r).writeWord r (a / 0x1000) (a % 0x1000) (BitVec.ofNat 32 v) with
      | ok t => exact ⟨t, rfl⟩
      | error c =>
        exact absurd ((congrArg Prod.fst (writeTx_word_error hc hm hi hw)).symm.trans hok) (by decide : stSTOP_REQUIRED ≠ stOK)

end OneWord

/-! ### RUN withdrawn without STOP_REQ -/

/-- R37: a PG_CTRL word that neither runs nor stops a page is refused while the page starts or runs. -/
theorem ctrlWrite_run_zero {s : State} {p : Nat} {v : Word} {via : Option Nat} (hrun : v.getLsbD 0 = false) (hstop : v.getLsbD 1 = false)
    (hst : s.pgState p = psSTARTING ∨ s.pgState p = psRUNNING) : s.ctrlWrite p v via = .error 4 := by
  rcases hst with hst | hst <;> cases hclr : v.getLsbD 2 <;> simp only [ctrlWrite, hrun, hstop, hclr, hst] <;> simp

/-- PG_CTRL's word is the page's own (R35), and PG_CHG counts it where it is carried out (R34). -/
theorem writeWord_ctrl_ok {s t : State} {r : Requester} {p : Nat} {v : Word} (hp : (pageKind p).isSome)
    (h : s.ctrlWrite p v (reqPage r) = .ok t) : s.writeWord r p 4 v = .ok (t.countChg p) := by
  obtain ⟨⟨k, x⟩, hk⟩ := Option.isSome_iff_exists.1 hp
  simp only [writeWord, hk, ↓reduceIte, h]

theorem writeWord_ctrl_error {s : State} {r : Requester} {p c : Nat} {v : Word} (hp : (pageKind p).isSome)
    (h : s.ctrlWrite p v (reqPage r) = .error c) : s.writeWord r p 4 v = .error c := by
  obtain ⟨⟨k, x⟩, hk⟩ := Option.isSome_iff_exists.1 hp
  simp only [writeWord, hk, ↓reduceIte, h]

/-- A PG_CTRL word that its page refuses. -/
theorem writeTx_ctrl_error {s : State} {r : Requester} {p c : Nat} {v : Word} (hc : s.txCheck r (pgCtrl p) 1 true = none)
    (hm : s.mayWrite p r = true) (hw : (s.ownerTouch p r).ctrlWrite p v (reqPage r) = .error c) :
    s.writeTx r (pgCtrl p) [v] = (stSTOP_REQUIRED, 0, s.refuse p 4 c) := by
  have hpage : pgCtrl p / 0x1000 = p := by simp only [pgCtrl]; omega
  have hofs : pgCtrl p % 0x1000 = 4 := by simp only [pgCtrl]; omega
  obtain ⟨-, ⟨-, -, hp, -⟩, -⟩ := txCheck_eq_none.1 hc
  rw [hpage] at hp
  have h := writeTx_word_error (v := v) (c := c) hc (by rwa [hpage]) (by rw [InImgData, hofs]; omega)
    (by rw [hpage, hofs, writeWord_ctrl_error hp hw])
  rwa [hpage, hofs] at h

/-- Settles O50: the word is refused with cause 4 whatever its other bits. -/
theorem runZeroRefused : Obligations.RunZeroRefused := by
  unfold Obligations.RunZeroRefused
  intro s r p v hc hm hrun hstop hst _
  rw [writeTx_ctrl_error hc hm (ctrlWrite_run_zero hrun hstop (by simpa only [pgState, ownerTouch_getF] using hst))]
  exact ⟨rfl, rfl, sets_refuse (by decide) (by decide)⟩

/-! ### A write of several words -/

/-- A write that does not write all its words stops at the first refused one (R44). -/
theorem writeWords_stops (r : Requester) (p : Nat) : ∀ (l : List Word) (o : Nat) (s : State), (writeWords r p o l s).2.1 = false →
    ∃ k c u, k < l.length ∧ (writeWords r p o l s).1 = k ∧ writeWords r p o (l.take k) s = (k, true, u) ∧
      u.writeWord r p (o + 4 * k) (l.getD k 0) = .error c ∧ (writeWords r p o l s).2.2 = u.refuse p (o + 4 * k) c
  | [], _, _, h => absurd h (by simp [writeWords])
  | v :: l, o, s, h => by
    cases hw : s.writeWord r p o v with
    | error c => exact ⟨0, c, s, by simp, by simp [writeWords, hw], by simp [writeWords], by simpa using hw, by simp [writeWords, hw]⟩
    | ok t =>
      have ht : writeWords r p o (v :: l) s = ((writeWords r p (o + 4) l t).1 + 1, (writeWords r p (o + 4) l t).2) := by
        simp only [writeWords, hw]
      obtain ⟨k, c, u, hk, hcount, htake, herr, hres⟩ := writeWords_stops r p l (o + 4) t (by rw [ht] at h; exact h)
      have hofs : o + 4 * (k + 1) = o + 4 + 4 * k := by ring
      refine ⟨k + 1, c, u, by simpa using hk, by rw [ht, hcount], ?_, by rw [hofs]; simpa using herr, by rw [ht, hofs]; exact hres⟩
      simp only [List.take_succ_cons, writeWords, hw, htake]

/-- Settles O51: the induction finds the refused word; PG_STAT names it. -/
theorem multiWordWrite : Obligations.MultiWordWrite := by
  unfold Obligations.MultiWordWrite
  intro s r p o l h hin
  obtain ⟨k, c, u, hk, hcount, htake, herr, hres⟩ := writeWords_stops r p l o s h
  refine ⟨k, c, u, hk, hcount, htake, herr, hres, ?_, ?_⟩
  · rw [hres, refuse, getF_setF_bits (by decide : 16 + 12 ≤ 32) (by decide : 16 + 12 ≤ 12 ∨ 12 + 4 ≤ 16),
      getF_setF_self (by decide : 16 + 12 ≤ 32)]
    exact Nat.mod_eq_of_lt (show o + 4 * k < 2 ^ 12 by omega)
  · rw [hres, refuse, getB, getF_setF_bits (by decide : 8 + 1 ≤ 32) (by decide : 8 + 1 ≤ 12 ∨ 12 + 4 ≤ 8),
      getF_setF_bits (by decide : 8 + 1 ≤ 32) (by decide : 8 + 1 ≤ 16 ∨ 16 + 12 ≤ 8), getF_setF_self (by decide : 8 + 1 ≤ 32)]
    rfl

end Sys2Proof.Proofs
end

section
/-! SUPPORT. The states and owners of a page (chapter 2, Tables 2-8 and 2-9): what an accepted word of PG_CTRL and PG_OWNER writes, and the start and stop boundaries. -/

namespace Sys2Proof.Proofs

open Machine Machine.State Laws

/-! ### Fields set modulo their width, and PG_CHG -/

section Counted

variable {s t : State} {l : List (Fld × Nat)}

theorem withBits_mod {x : Word} {lo w : Nat} (v : Nat) : withBits x lo w (v % 2 ^ w) = withBits x lo w v := by
  refine BitVec.eq_of_getLsbD_eq fun i hi => ?_
  rw [getLsbD_withBits _ _ _ _ _ hi, getLsbD_withBits _ _ _ _ _ hi, Nat.testBit_mod_two_pow]
  split
  · simp [show i - lo < w by omega]
  · rfl

/-- One more field, set modulo its width, apart from those before. -/
theorem sets_setF_mod (h : Sets s t l) {f : Fld} {v : Nat} (hw : f.lo + f.w ≤ 32) (hl : ∀ x ∈ l, x.1.lo + x.1.w ≤ 32 ∧ Apart x.1 f) :
    Sets s (t.setF f v) ((f, v % 2 ^ f.w) :: l) := by
  have hmod : t.setF f (v % 2 ^ f.w) = t.setF f v := congrArg (t.setReg f.addr) (withBits_mod v)
  exact hmod ▸ sets_setF h hw hl (Nat.mod_lt _ (Nat.two_pow_pos _))

/-- PG_CHG counts beside what a word has written elsewhere (R34). -/
theorem sets_countChg (h : Sets s t l) {p : Nat} (hl : ∀ x ∈ l, x.1.lo + x.1.w ≤ 32 ∧ x.1.addr ≠ pgChg p) :
    Sets s (t.countChg p) (pageChg s p :: l) := by
  have hcount : t.getF (pgChgCount p) = s.getF (pgChgCount p) := h.keeps _ (by decide : 0 + 16 ≤ 32) fun x hx => .inl (hl x hx).2.symm
  rw [pageChg, ← hcount]
  exact sets_setF_mod h (by decide : 0 + 16 ≤ 32) fun x hx => ⟨(hl x hx).1, .inl (hl x hx).2⟩

/-- PG_CTRL.RUN, PG_STAT.BUSY and PG_STAT.STATE together, as every change of a page's state writes them (Table 2-9). -/
theorem sets_pageState {p run busy st : Nat} (hrun : run < 2 ^ 1) (hbusy : busy < 2 ^ 1) (hst : st < 2 ^ 3) :
    Sets s (((s.setF (pgCtrlRun p) run).setF (pgStatBusy p) busy).setF (pgStatState p) st)
      [(pgStatState p, st), (pgStatBusy p, busy), (pgCtrlRun p, run)] :=
  sets_setF (sets_setF (sets_setF sets_refl (by decide : 0 + 1 ≤ 32) (by simp) hrun) (by decide : 9 + 1 ≤ 32) (by simp [Apart]) hbusy)
    (by decide : 0 + 3 ≤ 32) (by simp [Apart]) hst

/-- The same with PG_CHG, in the order in which the statements list the fields. -/
theorem sets_pageState_countChg {p run busy st : Nat} (hrun : run < 2 ^ 1) (hbusy : busy < 2 ^ 1) (hst : st < 2 ^ 3) :
    Sets s ((((s.setF (pgCtrlRun p) run).setF (pgStatBusy p) busy).setF (pgStatState p) st).countChg p)
      [(pgCtrlRun p, run), (pgStatBusy p, busy), (pgStatState p, st), pageChg s p] :=
  sets_of_mem_iff (sets_countChg (sets_pageState hrun hbusy hst) (by simp)) (by simp; tauto)

/-- A failed start leaves the page STOPPED, with cause 5 at PG_CTRL's offset (Table 2-9, log entry 51). -/
theorem sets_startFails {p : Nat} :
    Sets s (s.startFails p) [(pgStatState p, psSTOPPED), (pgCtrlRun p, 0), (pgStatBusy p, 0), (pgStatWrej p, 1), (pgStatWrejOfs p, 4), (pgStatWrejCause p, 5)] := by
  have hstate : Sets s (((s.setF (pgStatState p) psSTOPPED).setF (pgCtrlRun p) 0).setF (pgStatBusy p) 0)
      [(pgStatBusy p, 0), (pgCtrlRun p, 0), (pgStatState p, psSTOPPED)] :=
    sets_setF (sets_setF (sets_setF sets_refl (by decide : 0 + 3 ≤ 32) (by simp) (by decide : 4 < 2 ^ 3)) (by decide : 0 + 1 ≤ 32) (by simp [Apart])
      (by decide : 0 < 2 ^ 1)) (by decide : 9 + 1 ≤ 32) (by simp [Apart]) (by decide : 0 < 2 ^ 1)
  have hrefuse : Sets s (s.startFails p) [(pgStatWrejCause p, 5), (pgStatWrejOfs p, 4), (pgStatWrej p, 1), (pgStatBusy p, 0), (pgCtrlRun p, 0), (pgStatState p, psSTOPPED)] :=
    sets_setF (sets_setF (sets_setF hstate (by decide : 8 + 1 ≤ 32) (by simp [Apart]) (by decide : 1 < 2 ^ 1)) (by decide : 16 + 12 ≤ 32)
      (by simp [Apart]) (by decide : 4 < 2 ^ 12)) (by decide : 12 + 4 ≤ 32) (by simp [Apart]) (by decide : 5 < 2 ^ 4)
  exact sets_of_mem_iff hrefuse (by simp; tauto)

end Counted

/-! ### PG_CTRL -/

section Ctrl

variable {s t : State} {r : Requester} {p : Nat} {via : Option Nat}

theorem pgCtrl_div : pgCtrl p / 0x1000 = p := by simp only [pgCtrl]; omega
theorem pgCtrl_mod : pgCtrl p % 0x1000 = 4 := by simp only [pgCtrl]; omega
theorem pgOwner_div : pgOwner p / 0x1000 = p := by simp only [pgOwner]; omega
theorem pgOwner_mod : pgOwner p % 0x1000 = 0x14 := by simp only [pgOwner]; omega

theorem ownerTouch_pgState (q : Nat) : (s.ownerTouch q r).pgState p = s.pgState p := ownerTouch_getF _ _

theorem ownerTouch_fsum (q : Nat) : (s.ownerTouch q r).fsum p = s.fsum p := by
  unfold State.ownerTouch; split <;> rfl

theorem ownerTouch_stopPermitted (q : Nat) : (s.ownerTouch q r).stopPermitted p via = s.stopPermitted p via := by
  unfold State.ownerTouch; split <;> rfl

/-- An accepted word of PG_CTRL. -/
theorem hostWrite_ctrl {v : Nat} (h : Accepts s r (pgCtrl p) v)
    (hw : (s.ownerTouch p r).ctrlWrite p (BitVec.ofNat 32 v) (reqPage r) = .ok t) :
    s.hostWrite r (pgCtrl p) (BitVec.ofNat 32 v) = t.countChg p := by
  obtain ⟨hopen, -, -, hp, -⟩ := id h
  rw [pgCtrl_div] at hp
  have htx := writeTx_accepted (t := t.countChg p) h (by rw [pgCtrl_mod]; omega) (by rw [pgCtrl_div, pgCtrl_mod, writeWord_ctrl_ok hp hw])
  rw [hostWrite, if_pos hopen, htx]

/-- A word of PG_CTRL that the page refuses. -/
theorem hostWrite_ctrl_error {c : Nat} {v : Word} (hopen : s.portOpen r = true) (hc : s.txCheck r (pgCtrl p) 1 true = none)
    (hm : s.mayWrite p r = true) (hw : (s.ownerTouch p r).ctrlWrite p v (reqPage r) = .error c) :
    s.hostWrite r (pgCtrl p) v = s.refuse p 4 c := by
  rw [hostWrite, if_pos hopen, writeTx_ctrl_error hc hm hw]

/-- The words that name one command: RUN, STOP_REQ, FENCE_CLR. -/
theorem ctrlWrite_run (hst : s.pgState p = psSTOPPED) (ha : alwaysRunning p = false) : s.ctrlWrite p (BitVec.ofNat 32 1) via = .ok (s.pageStarting p) := by
  simp [ctrlWrite, hst, ha]

theorem ctrlWrite_stop_starting (hst : s.pgState p = psSTARTING) (ha : alwaysRunning p = false) :
    s.ctrlWrite p (BitVec.ofNat 32 2) via = .ok (s.pageStopped p) := by
  simp [ctrlWrite, hst, ha]

theorem ctrlWrite_stop_running (hst : s.pgState p = psRUNNING) (ha : alwaysRunning p = false) (hs : s.stopPermitted p via = true) :
    s.ctrlWrite p (BitVec.ofNat 32 2) via = .ok ((((s.stopAsked p).setF (pgCtrlRun p) 0).setF (pgStatBusy p) 1).setF (pgStatState p) psSTOPPING) := by
  simp [ctrlWrite, hst, ha, hs]

theorem ctrlWrite_stop_refused (hst : s.pgState p = psRUNNING) (hs : s.stopPermitted p via = false) : s.ctrlWrite p (BitVec.ofNat 32 2) via = .error 6 := by
  simp [ctrlWrite, hst, hs]

theorem ctrlWrite_clear (hst : s.pgState p = psFENCED) (ha : alwaysRunning p = false) (hact : (s.fsum p).getLsbD 28 = false) :
    s.ctrlWrite p (BitVec.ofNat 32 4) via = .ok ((s.fenceCleared p).pageStopped p) := by
  simpa [ctrlWrite, hst, ha] using hact

theorem ctrlWrite_clear_refused (hst : s.pgState p = psFENCED) (ha : alwaysRunning p = false) (hact : (s.fsum p).getLsbD 28 = true) :
    s.ctrlWrite p (BitVec.ofNat 32 4) via = .error 7 := by
  simp [ctrlWrite, hst, ha, hact]

/-- An accepted word is one that the page's state permits. -/
theorem ctrlTaken_of_accepts {v : Nat} (h : Accepts s r (pgCtrl p) v) : ctrlTaken s p (BitVec.ofNat 32 v) (reqPage r) = true := by
  obtain ⟨-, -, -, -, -, -, ht⟩ := h
  rwa [pgCtrl_div, pgCtrl_mod, wordTaken, if_pos rfl] at ht

/-- An accepted stop of a page that runs had its permission (Table 2-12). -/
theorem stopPermitted_of_accepts (h : Accepts s r (pgCtrl p) 2) (hst : s.pgState p = psRUNNING) : s.stopPermitted p (reqPage r) = true := by
  have ht := ctrlTaken_of_accepts h
  simp [ctrlTaken, hst] at ht
  exact ht.2

/-- An accepted clear found no active source (R35). -/
theorem fsum_of_accepts (h : Accepts s r (pgCtrl p) 4) : (s.fsum p).getLsbD 28 = false := by
  have ht := ctrlTaken_of_accepts h
  simp [ctrlTaken] at ht
  simpa using ht.2

/-- The pages of RAIL are eight (Table 2-1). -/
theorem rail_of_pageKind : ∀ p : PageNo, (pageKind p).map Prod.fst = some .rail → ∃ q : Fin 8, p.val = pRAIL q := by
  decide +kernel

theorem fenceCleared_of_not_rail {p : PageNo} (hp : ∀ q : Fin 8, p.val ≠ pRAIL q) : s.fenceCleared p = s := by
  unfold fenceCleared
  split
  next q hk =>
    obtain ⟨q', hq⟩ := rail_of_pageKind p (by rw [hk]; rfl)
    exact absurd hq (hp q')
  next => rfl

end Ctrl

/-! ### PG_OWNER -/

section Owner

variable {s t : State} {r : Requester} {p : Nat}

/-- PG_OWNER's word: firmware's claim leaves the holder, any other takes or frees the page (R47, log entry 19). -/
theorem writeWord_owner {v : Word} (hp : (pageKind p).isSome) :
    s.writeWord r p 0x14 v = .ok ((if r = .firmware ∧ bitsOf v 16 16 ≠ 0 then s else s.ownerWrite p r (bitsOf v 16 16)).countChg p) := by
  obtain ⟨⟨k, x⟩, hk⟩ := Option.isSome_iff_exists.1 hp
  simp only [writeWord, hk]
  rw [if_neg (by decide), if_neg (by decide), if_pos trivial]

/-- An accepted word of PG_OWNER. -/
theorem hostWrite_owner {v : Nat} (h : Accepts s r (pgOwner p) v) :
    s.hostWrite r (pgOwner p) (BitVec.ofNat 32 v) = (if r = .firmware ∧ bitsOf (BitVec.ofNat 32 v) 16 16 ≠ 0 then s.ownerTouch p r
      else (s.ownerTouch p r).ownerWrite p r (bitsOf (BitVec.ofNat 32 v) 16 16)).countChg p := by
  obtain ⟨hopen, -, -, hp, -⟩ := id h
  rw [pgOwner_div] at hp
  have htx := writeTx_accepted h (by rw [pgOwner_mod]; omega) (by rw [pgOwner_div, pgOwner_mod, writeWord_owner hp])
  rw [hostWrite, if_pos hopen, htx]

/-- The state with the holder's access times replaced. -/
abbrev withOwnAt (s : State) (x : List (Nat × Nat)) : State := { s with dev := { s.dev with ownAt := x } }

theorem ownerTouch_withOwnAt (q : Nat) : s.ownerTouch q r = withOwnAt s (s.ownerTouch q r).dev.ownAt := by
  unfold State.ownerTouch
  split <;> rfl

/-- A claim writes PG_OWNER and the time of the access. -/
theorem ownerWrite_claim {token : Nat} (ht : token ≠ 0) : (s.ownerTouch p r).ownerWrite p r token =
    (withOwnAt s (insertKey p s.dev.nowUs (eraseKey p (s.ownerTouch p r).dev.ownAt))).setReg (pgOwner p)
      (BitVec.ofNat 32 (token * 2 ^ 16 + reqSource r * 2 ^ 8 + reqPort r * 2 ^ 4 + 1)) := by
  rw [ownerWrite, if_neg ht, ownerTouch_withOwnAt p]
  rfl

/-- The release frees PG_OWNER and forgets the time. -/
theorem ownerWrite_release : (s.ownerTouch p r).ownerWrite p r 0 = (withOwnAt s (eraseKey p (s.ownerTouch p r).dev.ownAt)).setReg (pgOwner p) 0 := by
  rw [ownerWrite, if_pos rfl, ownerTouch_withOwnAt p]
  rfl

/-- What such a word sets, with PG_CHG. -/
theorem sets_owner (x : List (Nat × Nat)) (w : Word) :
    Sets (withOwnAt s x) (((withOwnAt s x).setReg (pgOwner p) w).countChg p) [whole (pgOwner p) w, pageChg s p] :=
  sets_of_mem_iff (sets_countChg (sets_setReg sets_refl (by simp)) (by simp [whole])) (by simp; tauto)

theorem bitsOf_token (t : Half) : bitsOf (BitVec.ofNat 32 (t.toNat * 2 ^ 16)) 16 16 = t.toNat := by
  have ht := t.isLt
  simp only [bitsOf, BitVec.extractLsb'_toNat, BitVec.toNat_ofNat, Nat.shiftRight_eq_div_pow]
  omega

end Owner

/-- A command that goes on to a state with the listed fields set. -/
theorem goesSet_of_eq {i : Instr} {s t t' u : State} {l : List (Fld × Nat)} (he : exec i s = .next t) (ht : t = t') (h : Sets u t' l) :
    GoesSet i s u l := ⟨t', ht ▸ he, h⟩

/-- What a change of a page's state after an access of `r` sets, counted from the state with the access time. -/
theorem sets_pageState_touched {s : State} {r : Requester} {p run busy st : Nat} (hrun : run < 2 ^ 1) (hbusy : busy < 2 ^ 1) (hst : st < 2 ^ 3) :
    Sets (s.ownerTouch p r) (((((s.ownerTouch p r).setF (pgCtrlRun p) run).setF (pgStatBusy p) busy).setF (pgStatState p) st).countChg p)
      [(pgCtrlRun p, run), (pgStatBusy p, busy), (pgStatState p, st), pageChg s p] := by
  have hsets := sets_pageState_countChg (s := s.ownerTouch p r) (p := p) hrun hbusy hst
  rwa [pageChg, ownerTouch_getF] at hsets

/-- Settles O25: each word of PG_CTRL by the state it meets, the start and stop boundaries, and the words of PG_OWNER. Log entries 19 and 51 are the model's choices here. -/
theorem pageStates : Obligations.PageStates := by
  unfold Obligations.PageStates
  refine ⟨fun r p s h hst ha => ?run, fun r p s h hst ha => ?stopStarting, fun r p s u h hst ha hu => ?stopRunning,
    fun r p s hopen hc hm hst hs => ?stopRefused, fun r p s u h hst ha hu => ?clear, fun r p s h hst ha hr => ?clearPlain,
    fun r p s hopen hc hm hst ha hact => ?clearRefused, fun p s hpow hst he hok hsched => ?starts, fun p s hpow hst he hok => ?startFails,
    fun p s hpow hst hready => ?stops, fun r p t s h hr ht => ?claim, fun r p s h hr => ?release, fun p t s h ht => ?firmware,
    fun p s hheld ht hexp => ?lapse⟩
  case run =>
    have hw := hostWrite_ctrl h (ctrlWrite_run ((ownerTouch_pgState _).trans hst) ha)
    exact goesSet_of_eq rfl hw (sets_pageState_touched (by decide) (by decide) (by decide))
  case stopStarting =>
    have hw := hostWrite_ctrl h (ctrlWrite_stop_starting ((ownerTouch_pgState _).trans hst) ha)
    exact goesSet_of_eq rfl hw (sets_pageState_touched (by decide) (by decide) (by decide))
  case stopRunning =>
    subst hu
    exact congrArg Host.Outcome.next (hostWrite_ctrl h (ctrlWrite_stop_running ((ownerTouch_pgState _).trans hst) ha
      ((ownerTouch_stopPermitted _).trans (stopPermitted_of_accepts h hst))))
  case stopRefused =>
    exact goesSet_of_eq rfl (hostWrite_ctrl_error hopen hc hm (ctrlWrite_stop_refused ((ownerTouch_pgState _).trans hst)
      ((ownerTouch_stopPermitted _).trans hs))) (sets_refuse (by decide) (by decide))
  case clear =>
    subst hu
    exact congrArg Host.Outcome.next (hostWrite_ctrl h (ctrlWrite_clear ((ownerTouch_pgState _).trans hst) ha
      ((congrArg (BitVec.getLsbD · 28) (ownerTouch_fsum _)).trans (fsum_of_accepts h))))
  case clearPlain =>
    have hw := hostWrite_ctrl h (ctrlWrite_clear ((ownerTouch_pgState _).trans hst) ha
      ((congrArg (BitVec.getLsbD · 28) (ownerTouch_fsum _)).trans (fsum_of_accepts h)))
    rw [fenceCleared_of_not_rail hr] at hw
    exact goesSet_of_eq rfl hw (sets_pageState_touched (by decide) (by decide) (by decide))
  case clearRefused =>
    exact goesSet_of_eq rfl (hostWrite_ctrl_error hopen hc hm (ctrlWrite_clear_refused ((ownerTouch_pgState _).trans hst) ha
      ((congrArg (BitVec.getLsbD · 28) (ownerTouch_fsum _)).trans hact))) (sets_refuse (by decide) (by decide))
  case starts =>
    have hstart : s.startPage p = s.pageRuns p := by simp [startPage, he, hok, hsched, -List.contains_eq_mem]
    exact (if_pos ⟨hpow, hst⟩).trans (congrArg _ hstart)
  case startFails =>
    have hstart : s.startPage p = s.startFails p := by simp [startPage, he, hok]
    exact ⟨_, (if_pos ⟨hpow, hst⟩).trans (congrArg _ hstart), sets_startFails⟩
  case stops => exact if_pos ⟨hpow, hst, hready⟩
  case claim =>
    have ht' : t.toNat ≠ 0 := fun e => ht (BitVec.eq_of_toNat_eq e)
    have hw := hostWrite_owner h
    rw [bitsOf_token, if_neg (fun hx => hr hx.1), ownerWrite_claim ht'] at hw
    exact goesSet_of_eq rfl hw (sets_owner _ _)
  case release =>
    have hw := hostWrite_owner h
    rw [if_neg (fun hx => hr hx.1), show bitsOf (BitVec.ofNat 32 0) 16 16 = 0 by decide, ownerWrite_release] at hw
    exact goesSet_of_eq rfl hw (sets_owner _ _)
  case firmware =>
    have ht' : t.toNat ≠ 0 := fun e => ht (BitVec.eq_of_toNat_eq e)
    have hw := hostWrite_owner h
    rw [bitsOf_token, if_pos ⟨rfl, ht'⟩, show s.ownerTouch p .firmware = s by simp [State.ownerTouch]] at hw
    exact goesSet_of_eq rfl hw (sets_countChg sets_refl (by simp))
  case lapse =>
    exact ⟨_, if_pos ⟨hheld, ht, hexp⟩, sets_setReg (t := withOwnAt s (eraseKey p s.dev.ownAt)) sets_refl (by simp)⟩

end Sys2Proof.Proofs
end

section
/-! SUPPORT. The device reset (R57, R77, R78): the registers that AON, the straps and the fuses give, what the hold domain and the non-volatile memories keep, and every other register at its Reset. -/

namespace Sys2Proof.Proofs

open Machine Machine.State Laws

section DeviceReset

variable {s o : State}

/-- The registers that AON, the straps and the fuses give. -/
abbrev aonRegs : List Nat :=
  [DEV.MODE_STAT_FORM.addr, DEV.DEV_ID_GRADE.addr, DEV.TJ_HOT_TJ_HOT.addr, CLKPWR.CLK_STAT_HFO_SRC.addr, RIDGE.PAIR_STAT_PAIR.addr,
    IMAGE.ROLLBACK_OTP.addr, T1S.MAC_LO, T1S.MAC_HI_MAC.addr, DEV.RST_CAUSE, DEV.WAKE_CTRL, DEV.ASCENT_COUNT, CLKPWR.VIN_MV, CLKPWR.VHOLD_MV,
    DEV.ASCENT_STAT_FAILS.addr]

theorem regsKept_keepAon : RegsKept (· ∈ aonRegs) s (s.keepAon o) := by
  unfold keepAon
  simp only [List.foldl_cons, List.foldl_nil, setB, setN]
  refine regsKept_setF ?_ (by simp) _
  iterate 5 refine regsKept_setReg ?_ (by simp) _
  refine regsKept_setF (regsKept_setReg ?_ (by simp) _) (by simp) _
  iterate 6 refine regsKept_setF ?_ (by simp) _
  exact regsKept_refl

/-- RST_CAUSE comes through, and the mode's field is no strap. -/
theorem keepAon_rstCause : (s.keepAon o).getReg DEV.RST_CAUSE = o.getReg DEV.RST_CAUSE := by
  simp only [keepAon, List.foldl_cons, List.foldl_nil]
  rw [getReg_setF_ne _ (by decide)]
  iterate 4 rw [getReg_setReg_ne _ (by decide)]
  exact getReg_setReg_self _ _

theorem keepAon_mode : (s.keepAon o).mode = s.mode := by
  simp only [keepAon, List.foldl_cons, List.foldl_nil, setB, setN, mode]
  rw [getF_setF_addr (by decide)]
  iterate 5 rw [getF_setReg_ne (by decide)]
  rw [getF_setF_addr (by decide), getF_setReg_ne (by decide)]
  iterate 5 rw [getF_setF_addr (by decide)]
  exact getF_setF_bits (by decide) (by decide) _

theorem keepAon_eq : s.keepAon o = { s with regs := (s.keepAon o).regs } := rfl

/-- A clear that the reset cuts off shows in CLR_CMD (R498); no other register is touched, and none without a clear. -/
theorem regsKept_keepNv : RegsKept (fun a => o.cairn.clearSeq ≠ none ∧ a = CAIRN.CLR_CMD) s (s.keepNv o) := by
  unfold keepNv
  intro a ha
  cases hc : o.cairn.clearSeq with
  | none => rfl
  | some q =>
    have hne : a ≠ CAIRN.CLR_CMD := fun e => ha ⟨by simp [hc], e⟩
    exact (getReg_setF_ne (g := CAIRN.CLR_CMD_CAUSE) 4 hne).trans (getReg_setF_ne (g := CAIRN.CLR_CMD_RESULT) 3 hne)

/-- What the non-volatile memories and the hold domain keep, and what they leave alone (R77). -/
theorem keepNv_mem : (s.keepNv o).mem = s.mem := by unfold keepNv; split <;> rfl
theorem keepNv_pending : (s.keepNv o).pending = s.pending := by unfold keepNv; split <;> rfl
theorem keepNv_dev : (s.keepNv o).dev = s.dev := by unfold keepNv; split <;> rfl

/-- Written records stay where no clear was running (R498). -/
theorem keepNv_nv (h : o.cairn.clearSeq = none) : (s.keepNv o).cairn.nv = o.cairn.nv := by simp [keepNv, h]

/-- Stored copies stay where no page program was in flight (R480). -/
theorem keepNv_slots (h : o.ps.flight = none) : (s.keepNv o).ps.slots = o.ps.slots := by simp [keepNv, h]

/-- The state of the regions that a reset takes down, before AON gives its registers. -/
def regionsReset (o : State) : State := { State.reset with regs := [], pending := o.pending, dev := resetDev o.dev, ef := efReset o.dev.vinPor }

theorem resetAll_eq : o.resetAll = ((regionsReset o).keepNv o).keepAon o := rfl

theorem regionsReset_getReg (a : Nat) : (regionsReset o).getReg a = resetWord a := rfl

theorem resetAll_getReg {a : Nat} (ha : a ∉ aonRegs) (hc : o.cairn.clearSeq = none ∨ a ≠ CAIRN.CLR_CMD) : o.resetAll.getReg a = resetWord a := by
  have hnv : ((regionsReset o).keepNv o).getReg a = resetWord a :=
    (regsKept_keepNv a fun h => hc.elim h.1 (· h.2)).trans (regionsReset_getReg a)
  exact (resetAll_eq ▸ regsKept_keepAon a ha : _ = _).trans hnv

theorem resetAll_mode : o.resetAll.mode = mASCENT := by
  have hreset : ((regionsReset o).keepNv o).getReg DEV.MODE_STAT = resetWord DEV.MODE_STAT := regsKept_keepNv _ fun h => absurd h.2 (by decide)
  rw [resetAll_eq, keepAon_mode, mode, getF, hreset]
  decide

theorem resetAll_mem : o.resetAll.mem = [] := by rw [resetAll_eq, keepAon_eq, keepNv_mem]; rfl
theorem resetAll_pending : o.resetAll.pending = o.pending := by rw [resetAll_eq, keepAon_eq, keepNv_pending]; rfl
theorem resetAll_staged : o.resetAll.cairn.staged = o.cairn.staged := rfl
theorem resetAll_nv (h : o.cairn.clearSeq = none) : o.resetAll.cairn.nv = o.cairn.nv := by rw [resetAll_eq, keepAon_eq]; exact keepNv_nv (s := regionsReset o) h
theorem resetAll_banks : o.resetAll.img.banks = o.img.banks := rfl
theorem resetAll_keys : o.resetAll.img.keys = o.img.keys := rfl
theorem resetAll_slots (h : o.ps.flight = none) : o.resetAll.ps.slots = o.ps.slots := by rw [resetAll_eq, keepAon_eq]; exact keepNv_slots (s := regionsReset o) h
theorem resetAll_nowUs : o.resetAll.dev.nowUs = o.dev.nowUs := by rw [resetAll_eq, keepAon_eq, keepNv_dev]; rfl

/-! ### The cause -/

/-- RST_CAUSE takes the cause's bit and LAST; its other bits stay (R78). -/
theorem causeBit_getReg {a bit : Nat} (ha : a ≠ DEV.RST_CAUSE) : (s.causeBit bit).getReg a = s.getReg a :=
  (getReg_setF_ne (g := DEV.RST_CAUSE_LAST) bit ha).trans (getReg_setF_ne (g := ⟨DEV.RST_CAUSE, bit, 1⟩) 1 ha)

theorem causeBit_getF {f : Fld} {bit : Nat} (hf : f.lo + f.w ≤ 32) (hb : Apart f ⟨DEV.RST_CAUSE, bit, 1⟩) (hl : Apart f DEV.RST_CAUSE_LAST) :
    (s.causeBit bit).getF f = s.getF f :=
  (getF_setF_apart hf hl bit).trans (getF_setF_apart hf hb 1)

theorem causeBit_bit {bit : Nat} (hb : bit < 7) : (s.causeBit bit).getF ⟨DEV.RST_CAUSE, bit, 1⟩ = 1 :=
  (getF_setF_apart (by simp only; omega) (.inr (.inl (show bit + 1 ≤ 28 by omega))) bit).trans (getF_setF_self (by simp only; omega) 1)

theorem causeBit_last {bit : Nat} (hb : bit < 7) : (s.causeBit bit).getF DEV.RST_CAUSE_LAST = bit :=
  (getF_setF_self (by decide) bit).trans (Nat.mod_eq_of_lt (lt_of_lt_of_le hb (by decide)))

theorem causeBit_mode {bit : Nat} : (s.causeBit bit).mode = s.mode :=
  causeBit_getF (by decide) (.inl (by decide : DEV.MODE_STAT ≠ DEV.RST_CAUSE)) (.inl (by decide))

/-- Nothing beside RST_CAUSE. -/
theorem causeBit_mem (bit : Nat) : (s.causeBit bit).mem = s.mem := rfl
theorem causeBit_pending (bit : Nat) : (s.causeBit bit).pending = s.pending := rfl
theorem causeBit_dev (bit : Nat) : (s.causeBit bit).dev = s.dev := rfl
theorem causeBit_cairn (bit : Nat) : (s.causeBit bit).cairn = s.cairn := rfl
theorem causeBit_ps (bit : Nat) : (s.causeBit bit).ps = s.ps := rfl
theorem causeBit_img (bit : Nat) : (s.causeBit bit).img = s.img := rfl

/-- Time in DORMANT is all that passes before a device reset (log entry 101). -/
theorem aged_eq (s : State) : ∃ n k, s.aged = { s with free := k, dev := { s.dev with nowUs := n } } ∧ (s.mode ≠ mDORMANT → n = s.dev.nowUs) := by
  by_cases hm : s.mode = mDORMANT
  · exact ⟨_, _, if_neg (not_not.2 hm), fun h => absurd hm h⟩
  · exact ⟨s.dev.nowUs, s.free, if_pos hm, fun _ => rfl⟩

end DeviceReset

/-- A page that does not always run shows OFF in its header's Reset (R57). -/
theorem resetWord_pgStat : ∀ p ∈ allPages, alwaysRunning p = false → bitsOf (resetWord (pgStat p)) 0 3 = psOFF := by decide +kernel

/-- PG_STAT is no register of AON's, the straps' or the fuses'. -/
theorem pgStat_not_aon (p : Nat) {a : Nat} (ha : a % 0x1000 ≠ 8) : pgStat p ≠ a := by simp only [pgStat]; omega

/-- Settles O34: a device reset from the state as RST_N falls. Log entry 3 (engine memory lists nothing) is the model's choice here. -/
theorem deviceReset : Obligations.DeviceReset := by
  unfold Obligations.DeviceReset
  intro s
  obtain ⟨n, k, haged, hnow⟩ := aged_eq { s with dev := { s.dev with rstN := false } }
  set o := State.aged { s with dev := { s.dev with rstN := false } } with ho
  have hregs (a : Nat) : o.getReg a = s.getReg a := by rw [haged]; rfl
  have hcairn : o.cairn = s.cairn := by rw [haged]
  have hps : o.ps = s.ps := by rw [haged]
  have himg : o.img = s.img := by rw [haged]
  have hother {a : Nat} (ha : a ∉ aonRegs) (hc : s.cairn.clearSeq = none ∨ a ≠ CAIRN.CLR_CMD) : (o.resetAll.causeBit rcRST_N).getReg a = resetWord a :=
    (causeBit_getReg fun e => ha (by simp [e])).trans (resetAll_getReg ha (hcairn ▸ hc))
  refine ⟨o.resetAll.causeBit rcRST_N, rfl, causeBit_mode.trans resetAll_mode, causeBit_bit (by decide), causeBit_last (by decide), fun b hb => ?bits,
    fun a ha => hother (fun h => ha (by simp_all)) (.inr fun e => ha (by simp [e])), fun hc => (hother (by decide) (.inl hc)).trans (by decide),
    fun p hp hr => ?pages, ?mem, ?pending, fun hm => ?now, ?staged, fun hc => ?written, ?banks, ?keys, fun hf => ?slots⟩
  case bits =>
    have hcause : o.resetAll.getReg DEV.RST_CAUSE = s.getReg DEV.RST_CAUSE := keepAon_rstCause.trans (hregs _)
    have hb7 := b.isLt
    rw [causeBit_getF (by simp only; omega) (.inr (by simp only; omega)) (.inr (.inl (show b.val + 1 ≤ 28 by omega)))]
    simp only [getF, hcause]
  case pages =>
    have hst := hother (a := pgStat p) ?_ (.inr (pgStat_not_aon p (by decide)))
    · simp only [pgState, getF, hst]
      exact resetWord_pgStat p hp hr
    · intro h
      have : ∀ a ∈ aonRegs, a % 0x1000 ≠ 8 := by decide
      exact pgStat_not_aon p (this _ h) rfl
  case mem => rw [causeBit_mem, resetAll_mem]
  case pending => rw [causeBit_pending, resetAll_pending, haged]
  case now => rw [causeBit_dev, resetAll_nowUs, haged]; exact hnow hm
  case staged => rw [causeBit_cairn, resetAll_staged, hcairn]
  case written => rw [causeBit_cairn, resetAll_nv (hcairn ▸ hc), hcairn]
  case banks => rw [causeBit_img, resetAll_banks, himg]
  case keys => rw [causeBit_img, resetAll_keys, himg]
  case slots => rw [causeBit_ps, resetAll_slots (hps ▸ hf), hps]

end Sys2Proof.Proofs
end

section
/-! SUPPORT. Transactions of the host and plant ports (chapter 17): what the SPI page counts and answers, a read of one word, and a message that its port receives. -/

namespace Sys2Proof.Proofs

open Machine Machine.State Laws

/-! ### What the SPI page counts and answers -/

section Spi

variable {s t : State} {l : List (Fld × Nat)}

/-- A saturating counter beside what is set elsewhere. -/
theorem sets_incSat (h : Sets s t l) {f : Fld} (hw : f.lo + f.w ≤ 32) (hl : ∀ x ∈ l, x.1.lo + x.1.w ≤ 32 ∧ Apart x.1 f ∧ Apart f x.1) :
    Sets s (t.incSat f) (oneMore s f :: l) := by
  have hcount : t.getF f = s.getF f := h.keeps f hw fun x hx => (hl x hx).2.2
  have hpow := Nat.two_pow_pos f.w
  rw [incSat, oneMore, hcount]
  exact sets_setF h hw (fun x hx => ⟨(hl x hx).1, (hl x hx).2.1⟩) (by omega)

/-- The same start, said otherwise. -/
theorem sets_of_start_eq {u : State} (hu : u = s) (h : Sets s t l) : Sets u t l := hu ▸ h

/-- The answer stands in the SPI port. -/
def withResp (s : State) (resp : List Byte) : State := { s with spi := { s.spi with resp := resp } }

theorem withResp_setF (f : Fld) (v : Nat) (resp : List Byte) : withResp (s.setF f v) resp = (withResp s resp).setF f v := rfl
theorem withResp_incSat (f : Fld) (resp : List Byte) : withResp (s.incSat f) resp = (withResp s resp).incSat f := rfl

/-- A transaction that reached its status byte is counted, with LAST_STATUS and LAST_WIDX (R506, Table 17-11). -/
theorem spiCount_transfer {st widx : Nat} (h : st ≠ stCRC_ERROR) (resp : List Byte) : s.spiCount st widx true resp =
    (((withResp s resp).incSat (if st = stOK then SPI.CNT_XACT_OK else SPI.CNT_XACT_REFUSED)).setF SPI.SPI_STAT_LAST_STATUS st).setF
      SPI.SPI_STAT_LAST_WIDX widx := by
  rw [← withResp_incSat, ← withResp_setF, ← withResp_setF, spiCount, if_neg h]
  rfl

/-- STATUS and an unknown command are counted alone. -/
theorem spiCount_command {st widx : Nat} (h : st ≠ stCRC_ERROR) (resp : List Byte) : s.spiCount st widx false resp =
    (withResp s resp).incSat (if st = stOK then SPI.CNT_XACT_OK else SPI.CNT_XACT_REFUSED) := by
  rw [← withResp_incSat, spiCount, if_neg h]
  rfl

/-- A bad CRC counts twice and raises FS_SPI_CRC. -/
theorem spiCount_crcError (resp : List Byte) : s.spiCount stCRC_ERROR 0 true resp =
    (((((withResp s resp).incSat SPI.CNT_XACT_REFUSED).setF SPI.SPI_STAT_LAST_STATUS stCRC_ERROR).setF SPI.SPI_STAT_LAST_WIDX 0).incSat
      SPI.CNT_ERR_CRC).raise 248 [] := by
  rw [← withResp_incSat, ← withResp_setF, ← withResp_setF]
  rfl

theorem sets_spiTransfer {f : Fld} {st widx : Nat} (hf : f.lo + f.w ≤ 32) (ha : f.addr ≠ SPI.SPI_STAT) (hst : st < 2 ^ 8) (hw : widx < 2 ^ 8) :
    Sets s (((s.incSat f).setF SPI.SPI_STAT_LAST_STATUS st).setF SPI.SPI_STAT_LAST_WIDX widx)
      [(SPI.SPI_STAT_LAST_WIDX, widx), (SPI.SPI_STAT_LAST_STATUS, st), oneMore s f] :=
  sets_setF (sets_setF (sets_incSat sets_refl hf (by simp)) (by decide) (by simp [oneMore, Apart, hf, ha]) hst) (by decide)
    (by simp [oneMore, Apart, hf, ha]) hw

/-- What a transaction with a bad CRC sets before it raises. -/
theorem sets_spiCrcError :
    Sets s ((((s.incSat SPI.CNT_XACT_REFUSED).setF SPI.SPI_STAT_LAST_STATUS stCRC_ERROR).setF SPI.SPI_STAT_LAST_WIDX 0).incSat SPI.CNT_ERR_CRC)
      [oneMore s SPI.CNT_XACT_REFUSED, (SPI.SPI_STAT_LAST_STATUS, stCRC_ERROR), (SPI.SPI_STAT_LAST_WIDX, 0), oneMore s SPI.CNT_ERR_CRC] :=
  sets_of_mem_iff (sets_incSat (sets_spiTransfer (f := SPI.CNT_XACT_REFUSED) (by decide) (by decide) (by decide) (by decide)) (by decide)
    (by simp [oneMore, Apart])) (by simp; tauto)

/-- READ with a good header: what the fabric answers (R504, R506). -/
theorem spiRead_served {a len crc : Nat} (hcrc : crc8 (headBytes 0xA1 a len) = crc) (hr : s.hostReady .spi = true) (hs : s.spiShut true a = false)
    {x : Nat × Nat × List Word × State} (hx : x = s.readTx .spi a (lenWords len)) : s.spiRead a len crc =
      x.2.2.2.spiCount x.1 x.2.1 true (withCrc ([x.1, x.2.1] ++ wordBytes (if x.1 = stOK then x.2.2.1 else List.replicate (lenWords len) 0))) := by
  simp [spiRead, hcrc, hr, hs, hx]

theorem spiRead_crcError {a len crc : Nat} (hcrc : crc8 (headBytes 0xA1 a len) ≠ crc) : s.spiRead a len crc =
    s.spiCount stCRC_ERROR 0 true (withCrc ([stCRC_ERROR, 0] ++ wordBytes (List.replicate (lenWords len) 0))) := by
  simp [spiRead, hcrc]

/-- WRITE with good CRCs (R504, R506): what the fabric answers, unless the write resets the device. -/
theorem spiWrite_served {a len crc dcrc : Nat} {ws : List Word} {x : Nat × Nat × State} (hlen : ws.length = lenWords len)
    (hcrc : crc8 (headBytes 0xB2 a len) = crc) (hd : crc16 (wordBytes ws) = dcrc) (hr : s.hostReady .spi = true) (hs : s.spiShut false a = false)
    (hx : x = s.writeTx .spi a ws) (hm : x.2.2.mode ≠ mASCENT) :
    s.spiWrite a len crc ws dcrc = x.2.2.spiCount x.1 x.2.1 true (withCrc [x.1, x.2.1]) := by
  subst hx
  simp [spiWrite, ← hlen, hcrc, hd, hr, hs, hm]

theorem spiWrite_crcError {a len crc dcrc : Nat} {ws : List Word} (hlen : ws.length = lenWords len) (hd : crc16 (wordBytes ws) ≠ dcrc)
    (hm : s.mode ≠ mASCENT) : s.spiWrite a len crc ws dcrc = s.spiCount stCRC_ERROR 0 true (withCrc [stCRC_ERROR, 0]) := by
  simp [spiWrite, ← hlen, hd, hm]

theorem spiWrite_short {a len crc dcrc : Nat} {ws : List Word} (hlen : ws.length < lenWords len) :
    s.spiWrite a len crc ws dcrc = s.incSat SPI.CNT_ERR_ABANDONED := if_pos hlen

theorem spiStatus_ok {a len crc : Nat} (hcrc : crc8 (headBytes 0xC3 a len) = crc) (hr : s.hostReady .spi = true) (hs : s.spiShut false a = false) :
    s.spiStatus a len crc = s.spiCount stOK 0 false (withCrc [stOK, 0, s.getF SPI.SPI_STAT_LAST_STATUS, s.getF SPI.SPI_STAT_LAST_WIDX,
      s.irqLow.toNat + 2 * s.ps.scanning.toNat, 0]) := by
  simp [spiStatus, hcrc, hr, hs]

theorem spiUnknown_badAddress {cmd a len crc : Nat} (hcrc : crc8 (headBytes cmd a len) = crc) (hr : s.hostReady .spi = true)
    (hs : s.spiShut false a = false) : s.spiUnknown cmd a len crc = s.spiCount stBAD_ADDRESS 0 false (withCrc [stBAD_ADDRESS, 0]) := by
  simp [spiUnknown, hcrc, hr, hs]

theorem oneMore_withResp (f : Fld) (resp : List Byte) : oneMore (withResp s resp) f = oneMore s f := rfl

end Spi

/-! ### A read of one plain register -/

section Read

variable {s : State} {r : Requester}

theorem ownerTouch_spi (p : Nat) : (s.ownerTouch p r).spi = s.spi := by
  unfold State.ownerTouch; split <;> rfl

/-- What an offset reads does not follow the holder's access time. -/
theorem viewWord_ownerTouch (q p o : Nat) : (s.ownerTouch q r).viewWord p o = s.viewWord p o := by
  unfold State.ownerTouch; split <;> rfl

theorem readWord_plain {p o x : Nat} {k : PageKind} (hk : pageKind p = some (k, x)) (hm : multiWord k o = none) :
    s.readWord r p o = (s.viewWord p o, s) := by
  simp only [readWord, hk, Option.bind_some, hm]

theorem readTx_plain {a x : Nat} {k : PageKind} (hc : s.txCheck r a 1 false = none) (hk : pageKind (a / 0x1000) = some (k, x))
    (hm : multiWord k (a % 0x1000) = none) :
    s.readTx r a 1 = (stOK, 1, [s.viewWord (a / 0x1000) (a % 0x1000)], s.ownerTouch (a / 0x1000) r) := by
  simp only [readTx, hc, readWords, readWord_plain hk hm, viewWord_ownerTouch]

/-- The answer to a READ of one plain register. -/
abbrev plainResp (s : State) (a : Nat) : List Byte := withCrc ([stOK, 1] ++ leBytes 4 (s.viewWord (a / 0x1000) (a % 0x1000)).toNat)

theorem spiRead_plain {a crc x : Nat} {k : PageKind} (hcrc : crc8 (headBytes 0xA1 a 0) = crc) (hr : s.hostReady .spi = true)
    (hs : s.spiShut true a = false) (hc : s.txCheck .spi a 1 false = none) (hk : pageKind (a / 0x1000) = some (k, x))
    (hm : multiWord k (a % 0x1000) = none) : s.spiRead a 0 crc =
      (((withResp (s.ownerTouch (a / 0x1000) .spi) (plainResp s a)).incSat SPI.CNT_XACT_OK).setF SPI.SPI_STAT_LAST_STATUS stOK).setF
        SPI.SPI_STAT_LAST_WIDX 1 := by
  rw [spiRead_served hcrc hr hs (readTx_plain hc hk hm).symm]
  simp only [↓reduceIte, wordBytes, List.map_cons, List.map_nil, List.flatten_cons, List.flatten_nil, List.append_nil]
  exact spiCount_transfer (by decide) _

theorem oneMore_ownerTouch (p : Nat) (f : Fld) : oneMore (s.ownerTouch p r) f = oneMore s f := by
  simp only [oneMore, ownerTouch_getF]

theorem withResp_ownerTouch (p : Nat) (x : List Byte) :
    ({ s.ownerTouch p r with spi := { s.spi with resp := x } } : State) = withResp (s.ownerTouch p r) x := by
  rw [withResp, ownerTouch_spi]

end Read

/-! ### Messages -/

section Message

variable {s : State} {h : MsgHead}

/-- A message that its port hears and whose CRC passes is counted, and then served (R509). -/
theorem receive_passes {typ : Nat} {body : List Nat} {k : State → State} (hp : s.portHears (portNo h.port) = true)
    (hc : crc16 (identBytes typ h.dst.toNat h.src.toNat h.tag.toNat ++ body) = h.crc.toNat) :
    s.receive h typ body k = k (s.incSat (cntRxFrames (portNo h.port))) := by
  simp [receive, hp, hc]

/-- The frame counter is no part of the port's address. -/
theorem nodeAddr_counted {p : Nat} : (s.incSat (cntRxFrames p)).nodeAddr p = s.nodeAddr p := by
  unfold nodeAddr cntRxFrames
  split
  · exact getF_setF_addr (by decide) _
  · exact getF_setF_addr (by simp only [CAN.CAN_CFG, CAN.CNT_RX]; omega) _

/-- PAGE_REQ on the port's own address, and on T1S from the sender's own node (R510 to R512), is counted and served. -/
theorem exec_pageReq {cmd len c : Byte} {a : BitVec 24} {data : List Word} {dc : Half} {body : List Nat} (hp : s.portHears (portNo h.port) = true)
    (hd : h.dst.toNat = s.nodeAddr (portNo h.port)) (hn : portNo h.port ≠ 4 ∨ h.src = h.node)
    (hb : body = if cmd.toNat = 0xB2 then headBytes cmd.toNat a.toNat len.toNat ++ [c.toNat] ++ wordBytes data ++ leBytes 2 dc.toNat
      else headBytes cmd.toNat a.toNat len.toNat ++ [c.toNat])
    (hc : crc16 (identBytes 0x10 h.dst.toNat h.src.toNat h.tag.toNat ++ body) = h.crc.toNat) :
    exec (.pageReq h cmd a len c data dc) s =
      .next ((s.incSat (cntRxFrames (portNo h.port))).pageServed h cmd.toNat a.toNat len.toNat c.toNat data dc.toNat) := by
  subst hb
  exact congrArg Host.Outcome.next ((receive_passes hp hc).trans (if_pos ⟨hd.trans nodeAddr_counted.symm, hn⟩))

end Message

/-- Settles O26, port by port: a register write over `hostWrite_accepted`, the SPI commands over what they count and answer, PAGE_REQ over its reception. Log entries 24 and 25 are the model's choices here. -/
theorem hostTransactions : Obligations.HostTransactions := by
  unfold Obligations.HostTransactions
  refine ⟨fun r a v k x n i s h hk hf h4 h8 h14 himg => ?registerWrite, fun a len c s x hpow hcrc hr hs hx hok => ?read,
    fun a c k y s hpow hcrc hr hs hc hk hm => ?readPlain, fun a len c s hpow hcrc => ?readCrc,
    fun a len c ws dc s x hpow hlen hcrc hd hr hs hx hm => ?write, fun a len c ws dc s hpow hm hlen hd => ?writeCrc,
    fun a len c ws dc s hpow hlen => ?writeShort, fun a len c s hpow hcrc hr hs => ?status,
    fun cmd a len c s hpow h1 h2 h3 hcrc hr hs => ?unknown, fun s hpow => ?abandon, fun h a len c s hp hd hn hc => ?pageRead,
    fun h a len c ws dc s hp hd hn hc => ?pageWrite⟩
  case registerWrite =>
    have hreg : RegAt a.toNat k n i = true := by simp [RegAt, hk, hf, h4, h8, h14, himg]
    have hv : BitVec.ofNat 32 v.toNat = v := by simp
    have hw := hostWrite_accepted h hreg
    exact congrArg Host.Outcome.next (hw.trans (by rw [hv]))
  case read =>
    refine (if_pos hpow).trans (congrArg Host.Outcome.next ?_)
    rw [spiRead_served hcrc hr hs hx, hok, if_pos rfl]
  case readPlain =>
    have hsets := sets_spiTransfer (s := withResp (s.ownerTouch (a.toNat / 0x1000) .spi) (plainResp s a.toNat)) (f := SPI.CNT_XACT_OK) (st := stOK)
      (widx := 1) (by decide) (by decide) (by decide) (by decide)
    rw [oneMore_withResp, oneMore_ownerTouch] at hsets
    exact ⟨_, (if_pos hpow).trans (congrArg Host.Outcome.next (spiRead_plain hcrc hr hs hc hk hm)), rfl,
      sets_of_start_eq (withResp_ownerTouch _ _) (sets_of_mem_iff hsets (by simp; tauto))⟩
  case readCrc =>
    have ht := (spiRead_crcError (s := s) hcrc).trans (spiCount_crcError _)
    exact ⟨_, (if_pos hpow).trans (congrArg Host.Outcome.next ht), _, sets_spiCrcError, rfl⟩
  case write =>
    exact (if_pos hpow).trans (congrArg Host.Outcome.next (spiWrite_served hlen hcrc hd hr hs hx hm))
  case writeCrc =>
    have ht := (spiWrite_crcError (a := a.toNat) (crc := c.toNat) hlen hd hm).trans (spiCount_crcError _)
    exact ⟨_, (if_pos hpow).trans (congrArg Host.Outcome.next ht), _, sets_spiCrcError, rfl⟩
  case writeShort =>
    exact ⟨_, (if_pos hpow).trans (congrArg Host.Outcome.next (spiWrite_short hlen)), sets_incSat sets_refl (by decide) (by simp)⟩
  case status =>
    have ht := (spiStatus_ok (s := s) hcrc hr hs).trans (spiCount_command (by decide) _)
    exact ⟨_, (if_pos hpow).trans (congrArg Host.Outcome.next ht), sets_incSat sets_refl (by decide) (by simp)⟩
  case unknown =>
    have ht := (spiUnknown_badAddress (s := s) hcrc hr hs).trans (spiCount_command (by decide) _)
    have hcmd : s.powered ∧ cmd.toNat ≠ 0xA1 ∧ cmd.toNat ≠ 0xB2 ∧ cmd.toNat ≠ 0xC3 :=
      ⟨hpow, fun e => h1 (BitVec.eq_of_toNat_eq e), fun e => h2 (BitVec.eq_of_toNat_eq e), fun e => h3 (BitVec.eq_of_toNat_eq e)⟩
    exact ⟨_, (if_pos hcmd).trans (congrArg Host.Outcome.next ht), sets_incSat sets_refl (by decide) (by simp)⟩
  case abandon =>
    exact ⟨_, if_pos ⟨hpow, by decide⟩, sets_incSat sets_refl (by decide) (by simp)⟩
  case pageRead => exact exec_pageReq hp hd (.inl hn) (by rw [if_neg (by decide)]; rfl) hc
  case pageWrite => exact exec_pageReq hp hd (Classical.or_iff_not_imp_left.2 fun hn' => hn (not_not.1 hn')) (by rw [if_pos (by decide)]; rfl) hc

end Sys2Proof.Proofs
end

section
/-! SUPPORT. The settings that wait for their update boundary (R42): what the operations that the held commands run make of the list of waiting words. Only a device reset empties it. -/

namespace Sys2Proof.Proofs

open Machine Machine.State Laws

variable {s : State}

/-- From `l` the waiting words have come to `m`: they still wait, or a device reset has emptied the list. -/
def LateKept (l m : List LateWord) : Prop := m = l ∨ m = []

/-- A device reset has come in between `s` and `t`: what waited in `s` is gone. -/
def lateLost (s t : State) : Bool := t.dev.late.isEmpty && !s.dev.late.isEmpty

theorem lateKept_self {l : List LateWord} : LateKept l l := .inl rfl

theorem lateKept_nil {l : List LateWord} : LateKept l [] := .inr rfl

theorem lateKept_ite {c : Prop} [Decidable c] {l a b : List LateWord} :
    LateKept l (if c then a else b) ↔ if c then LateKept l a else LateKept l b := by
  split <;> rfl

theorem LateKept.trans {l m n : List LateWord} (h : LateKept l m) (g : LateKept m n) : LateKept l n := by
  rcases g with rfl | rfl
  · exact h
  · exact lateKept_nil

/-- The relation as an equation, which rewriting follows through a chain of operations. -/
theorem LateKept.late_eq {t : State} (h : LateKept s.dev.late t.dev.late) :
    t.dev.late = if lateLost s t then [] else s.dev.late := by
  rcases h with h | h <;> simp [lateLost, h]

theorem late_ite {c : Prop} [Decidable c] {a b : State} : (if c then a else b).dev.late = if c then a.dev.late else b.dev.late := by
  split <;> rfl

theorem late_ite_fst {β : Type} {c : Prop} [Decidable c] {a b : State × β} :
    (if c then a else b).1.dev.late = if c then a.1.dev.late else b.1.dev.late := by
  split <;> rfl

theorem foldl_late {β : Type} {f : State → β → State} {l : List β} (hf : ∀ s x, (f s x).dev.late = s.dev.late) :
    (l.foldl f s).dev.late = s.dev.late := by
  induction l generalizing s with
  | nil => rfl
  | cons x l ih => exact ih.trans (hf s x)

theorem forAll_late {f : State → Nat → State} {n : Nat} (hf : ∀ s x, (f s x).dev.late = s.dev.late) :
    (forAll n f s).dev.late = s.dev.late := foldl_late hf

theorem foldl_lateKept {β : Type} {f : State → β → State} {l : List β} (hf : ∀ s x, LateKept s.dev.late (f s x).dev.late) :
    LateKept s.dev.late (l.foldl f s).dev.late := by
  induction l generalizing s with
  | nil => exact lateKept_self
  | cons x l ih => exact (hf s x).trans ih

theorem foldl_lost {β : Type} {f : State → β → State} {l : List β} (hf : ∀ s x, LateKept s.dev.late (f s x).dev.late) :
    (l.foldl f s).dev.late = if lateLost s (l.foldl f s) then [] else s.dev.late := (foldl_lateKept hf).late_eq

theorem forAll_lost {f : State → Nat → State} {n : Nat} (hf : ∀ s x, LateKept s.dev.late (f s x).dev.late) :
    (forAll n f s).dev.late = if lateLost s (forAll n f s) then [] else s.dev.late := foldl_lost hf

/-- A fold that carries a second value beside the state. -/
theorem foldl_fst_lateKept {β γ : Type} {f : State × γ → β → State × γ} (hf : ∀ a x, LateKept a.1.dev.late (f a x).1.dev.late) (l : List β)
    (a : State × γ) : LateKept a.1.dev.late (l.foldl f a).1.dev.late := by
  induction l generalizing a with
  | nil => exact lateKept_self
  | cons x l ih => exact (hf a x).trans (ih _)

/-! ### One equation per operation, in the order in which the operations use each other -/

theorem setReg_late (a : Nat) (w : Word) : (s.setReg a w).dev.late = s.dev.late := by rw [setReg_dev]

theorem setF_late (f : Fld) (v : Nat) : (s.setF f v).dev.late = s.dev.late := by rw [setF_dev]

theorem incSat_late (f : Fld) : (s.incSat f).dev.late = s.dev.late := by simp only [incSat, setF_late]

theorem updCn_late (f : CorniceSt → CorniceSt) : (s.updCn f).dev.late = s.dev.late := by rw [updCn_dev]

theorem cnTrigger_late (why src : Nat) (isn : Half) (amp lead : Word) (arrival : Nat) :
    (s.cnTrigger why src isn amp lead arrival).dev.late = s.dev.late := by
  simp only [cnTrigger, updCn_late, setF_late, incSat_late, late_ite, ite_self]

theorem receive_late (h : MsgHead) (typ : Nat) (body : List Nat) {k : State → State} (hk : ∀ t, (k t).dev.late = t.dev.late) :
    (s.receive h typ body k).dev.late = s.dev.late := by
  simp only [receive, late_ite, incSat_late, hk, ite_self]

theorem updShelf_late (f : ShelfSt → ShelfSt) : (s.updShelf f).dev.late = s.dev.late := by rw [updShelf_dev]

theorem putBit_late (a i : Nat) (b : Bool) : (s.putBit a i b).dev.late = s.dev.late := by simp only [putBit, setF_late]

theorem setAct_late (src : Nat) (b : Bool) : (s.setAct src b).dev.late = s.dev.late := by
  simp only [setAct, putBit_late]

theorem setCond_late (src : Nat) (b : Bool) : (s.setCond src b).dev.late = s.dev.late := by
  simp only [setCond, putBit_late]

theorem endL_late (src : Nat) : (s.endL src).dev.late = s.dev.late := by simp only [endL, setCond_late, setAct_late]

theorem plantSeen_late : s.plantSeen.dev.late = s.dev.late := by
  simp only [plantSeen, setF_late, endL_late, updShelf_late, late_ite, ite_self]

theorem plantMsg_late (h : MsgHead) (typ : Nat) (body : List Nat) (all : Bool) {k : State → State} (hk : ∀ t, (k t).dev.late = t.dev.late) :
    (s.plantMsg h typ body all k).dev.late = s.dev.late :=
  receive_late h typ body fun t => by simp only [late_ite, plantSeen_late, incSat_late, hk, ite_self]

theorem cnCollapse_late (outcome : Nat) : (s.cnCollapse outcome).dev.late = s.dev.late := by
  simp only [cnCollapse, setReg_late, incSat_late, updCn_late, setF_late, late_ite, ite_self]

theorem cnCancel_late : s.cnCancel.dev.late = s.dev.late := by simp only [cnCancel, cnCollapse_late]

theorem cnIntent_late (amp lead : Word) (isn : Half) (hint arrival : Nat) :
    (s.cnIntent amp lead isn hint arrival).dev.late = s.dev.late := by
  simp only [cnIntent, cnTrigger_late, cnCancel_late, updCn_late, late_ite, ite_self]

theorem takeFree_late : s.takeFree.2.dev.late = s.dev.late := rfl

theorem updMsg_late (p : Nat) (f : MsgSt → MsgSt) : (s.updMsg p f).dev.late = s.dev.late := by rw [updMsg_dev]

theorem sendTagged_late (p typ dst tag : Nat) (body : List Nat) :
    (s.sendTagged p typ dst tag body).dev.late = s.dev.late := by
  simp only [sendTagged, incSat_late, updMsg_late, late_ite, ite_self]

theorem sendMsg_late (p typ dst : Nat) (body : List Nat) : (s.sendMsg p typ dst body).dev.late = s.dev.late := by
  simp only [sendMsg, sendTagged_late, takeFree_late]

theorem sendPlant_late (typ : Nat) (body : List Nat) : (s.sendPlant typ body).dev.late = s.dev.late := by
  simp only [sendPlant, sendMsg_late]

theorem reportStep_late : s.reportStep.dev.late = s.dev.late := by
  simp only [reportStep, updMsg_late, sendPlant_late, late_ite, ite_self]

theorem updPair_late (f : PairSt → PairSt) : (s.updPair f).dev.late = s.dev.late := by rw [updPair_dev]

theorem relay_late (f : RelayFrame) : (s.relay f).dev.late = s.dev.late := by simp only [relay, updPair_late]

theorem relaySetpoints_late : s.relaySetpoints.dev.late = s.dev.late := by
  simp only [relaySetpoints, relay_late, forAll_late, late_ite, ite_self, implies_true]

theorem updEst_late (k : Nat) (f : EstStr → EstStr) : (s.updEst k f).dev.late = s.dev.late := by rw [updEst_dev]

theorem writeBytes_late (a : Nat) (bs : List Byte) : (s.writeBytes a bs).dev.late = s.dev.late := by rw [writeBytes_dev]

theorem ringClear_late (n e : Nat) : (s.ringClear n e).dev.late = s.dev.late := by
  simp only [ringClear, writeBytes_late]

theorem svStage_late (n : Nat) : (s.svStage n).dev.late = s.dev.late := by
  simp only [svStage, ringClear_late, updEst_late, late_ite, ite_self, foldl_late, implies_true]

theorem svWatch_late (k : Nat) : (s.svWatch k).dev.late = s.dev.late := by
  simp only [svWatch, updEst_late, late_ite, ite_self]

theorem svCycle_late : s.svCycle.dev.late = s.dev.late := by
  simp only [svCycle, svWatch_late, svStage_late, forAll_late, late_ite, ite_self, implies_true]

theorem updPort_late (n : Nat) (f : PortSt → PortSt) : (s.updPort n f).dev.late = s.dev.late := by rw [updPort_dev]

theorem queueRaw_late (n : Nat) (f : List Byte) : (s.queueRaw n f).dev.late = s.dev.late := by
  simp only [queueRaw, writeBytes_late, updPort_late, late_ite, ite_self]

theorem sendTo_late (n node typ : Nat) (f : List Byte) : (s.sendTo n node typ f).dev.late = s.dev.late := by
  simp only [sendTo, queueRaw_late, relay_late, late_ite, ite_self]

theorem ownStep_late (n i : Nat) : (s.ownStep n i).dev.late = s.dev.late := by
  unfold ownStep
  split <;> simp only [sendTo_late, updPort_late, late_ite, ite_self]

theorem ownSend_late (n : Nat) : (s.ownSend n).dev.late = s.dev.late := by
  simp only [ownSend, ownStep_late, updPort_late, late_ite, ite_self, foldl_late, implies_true]

theorem ask_late (n : Nat) (use : ReqUse) (node typ : Nat) (payload : List Nat) :
    (s.ask n use node typ payload).dev.late = s.dev.late := by
  simp only [ask, updPort_late, ownSend_late]

theorem askSeen_late (n : Nat) : (s.askSeen n).dev.late = s.dev.late := by
  simp only [askSeen, ask_late, late_ite, ite_self]

theorem setpointStart_late : s.setpointStart.dev.late = s.dev.late := by
  simp only [setpointStart, updPort_late, updShelf_late, askSeen_late, ownSend_late, forAll_late, svCycle_late, relaySetpoints_late,
      updPair_late, late_ite, ite_self, implies_true]

theorem incWrap_late (f : Fld) : (s.incWrap f).dev.late = s.dev.late := by simp only [incWrap, setF_late]

theorem countChg_late (p : Nat) : (s.countChg p).dev.late = s.dev.late := by simp only [countChg, incWrap_late]

theorem txEpoch_late (n e : Nat) : (s.txEpoch n e).dev.late = s.dev.late := by
  simp only [txEpoch, countChg_late, setF_late, late_ite, ite_self]

theorem setEpoch_late (e : Nat) : (s.setEpoch e).dev.late = s.dev.late := by
  simp only [setEpoch, txEpoch_late, forAll_late, setF_late, implies_true]

theorem updSample_late (f : SampleSt → SampleSt) : (s.updSample f).dev.late = s.dev.late := by rw [updSample_dev]

theorem updSlot_late (i : Nat) (f : SeqSlotSt → SeqSlotSt) : (s.updSlot i f).dev.late = s.dev.late := by rw [updSlot_dev]

theorem startOnDly_late (g : Nat) (l : List Nat) : (s.startOnDly g l).dev.late = s.dev.late := by
  simp only [startOnDly, updSlot_late, setF_late, late_ite, ite_self, foldl_late, implies_true]

theorem enterAscend_late (g : Nat) : (s.enterAscend g).dev.late = s.dev.late := by
  unfold enterAscend
  dsimp only
  split <;> simp only [startOnDly_late, incSat_late, setF_late]

theorem upRequest_late (g : Nat) : (s.upRequest g).dev.late = s.dev.late := by
  simp only [upRequest, enterAscend_late, setF_late, late_ite, ite_self]

theorem withdraw_late (i : Nat) : (s.withdraw i).dev.late = s.dev.late := by
  simp only [withdraw, updSlot_late, setF_late]

theorem startOffDly_late (i : Nat) : (s.startOffDly i).dev.late = s.dev.late := by
  simp only [startOffDly, updSlot_late, setF_late, late_ite, ite_self]

theorem descTurn_late (g p : Nat) : (s.descTurn g p).dev.late = s.dev.late := by
  simp only [descTurn, startOffDly_late, setF_late, foldl_late, implies_true]

theorem descSteps_late (n g : Nat) : (descSteps n g s).dev.late = s.dev.late := by
  induction n generalizing s with
  | zero => rfl
  | succ n ih =>
    simp only [descSteps, late_ite]
    split
    · rfl
    · split
      · exact setF_late ..
      · split
        · split <;> simp only [late_ite, ih, startOffDly_late, ite_self]
        · split
          · split <;> simp only [ih, descTurn_late]
          · rfl

theorem descAdvance_late (g : Nat) : (s.descAdvance g).dev.late = s.dev.late := descSteps_late 34 g

theorem enterDescend_late (g : Nat) : (s.enterDescend g).dev.late = s.dev.late := by
  unfold enterDescend
  dsimp only
  split
  · simp only [descAdvance_late, setF_late, foldl_late, late_ite, withdraw_late, ite_self, implies_true]
  · split
    · split <;> simp only [descAdvance_late, descTurn_late, setF_late]
    · rfl

theorem downRequest_late (g : Nat) : (s.downRequest g).dev.late = s.dev.late := by
  simp only [downRequest, enterDescend_late, setF_late, late_ite, ite_self]

theorem actGroups_late (up : Bool) : (s.actGroups up).dev.late = s.dev.late := by
  simp only [actGroups, downRequest_late, upRequest_late, forAll_late, late_ite, ite_self, implies_true]

theorem showNextSsn_late : s.showNextSsn.dev.late = s.dev.late := by simp only [showNextSsn, setReg_late]

theorem takeRole_late (copied : Bool) : (s.takeRole copied).dev.late = s.dev.late := by
  simp only [takeRole, showNextSsn_late, actGroups_late, updPair_late, updSample_late, updShelf_late, setEpoch_late, setF_late]

theorem setB_late (f : Fld) (b : Bool) : (s.setB f b).dev.late = s.dev.late := by simp only [setB, setF_late]

theorem takeCornice_late (c : StateCopy) : (s.takeCornice c).dev.late = s.dev.late := by
  simp only [takeCornice, incSat_late, forAll_late, setB_late, setReg_late, takeFree_late, updCn_late, setF_late, late_ite, ite_self,
      implies_true]

theorem restoreCopy_late (c : StateCopy) : (s.restoreCopy c).dev.late = s.dev.late := by
  simp only [restoreCopy, setF_late, setB_late, updShelf_late, setReg_late]
  refine forAll_late fun s k => ?_
  split <;> simp only [updShelf_late, setReg_late]

theorem updVs_late (i : Nat) (f : VSlotSt → VSlotSt) : (s.updVs i f).dev.late = s.dev.late := by rw [updVs_dev]

theorem runEntry_late (m : Nat) : (s.runEntry m).dev.late = s.dev.late := by simp only [runEntry, late_ite, ite_self]

theorem traceAdd_late (src sev kind : Nat) (nested : Bool) (data : List Nat) :
    (s.traceAdd src sev kind nested data).dev.late = s.dev.late := by
  simp only [traceAdd, setF_late]

theorem collect_late (src sev : Nat) : (s.collect src sev).dev.late = s.dev.late := by
  simp only [collect, setF_late, incSat_late, late_ite, ite_self]

theorem setN_late (a v : Nat) : (s.setN a v).dev.late = s.dev.late := by simp only [setN, setReg_late]

theorem cairnLose_late : s.cairnLose.dev.late = s.dev.late := by simp only [cairnLose, setN_late]

theorem cairnShow_late : s.cairnShow.dev.late = s.dev.late := by simp only [cairnShow, setF_late, setN_late, setB_late]

theorem cairnAccept_late (src sev kind flags : Nat) (data : List Nat) :
    (s.cairnAccept src sev kind flags data).dev.late = s.dev.late := by
  simp only [cairnAccept, setN_late, setF_late, cairnShow_late]

theorem cairnStage_late (src sev kind : Nat) (nested : Bool) (data : List Nat) :
    (s.cairnStage src sev kind nested data).dev.late = s.dev.late := by
  simp only [cairnStage, cairnAccept_late, cairnLose_late, setF_late, late_ite, ite_self]

theorem setEvt_late (src : Nat) : (s.setEvt src).dev.late = s.dev.late := by
  simp only [setEvt, putBit_late, late_ite, ite_self]

theorem logRaise_late (src sev : Nat) (data : List Nat) (how : RaiseHow) :
    (s.logRaise src sev data how).dev.late = s.dev.late := by
  simp only [logRaise, setEvt_late, cairnStage_late, collect_late, traceAdd_late, late_ite, ite_self]

theorem gateZero_late (k : Nat) : (s.gateZero k).dev.late = s.dev.late := by simp only [gateZero, setReg_late]

theorem markDown_late (n : Nat) : (s.markDown n).dev.late = s.dev.late := by simp only [markDown]

theorem pgFence_late (p : Nat) : (s.pgFence p).dev.late = s.dev.late := by
  simp only [pgFence, markDown_late, setF_late, late_ite, ite_self]

theorem updPhase_late (p : Nat) (f : PhaseSt → PhaseSt) : (s.updPhase p f).dev.late = s.dev.late := by rw [updPhase_dev]

theorem railLevel_late (r : Nat) (l : Pwm) : (s.railLevel r l).dev.late = s.dev.late := by
  simp only [railLevel, updPhase_late, foldl_late, implies_true]

theorem updRail_late (r : Nat) (f : RailSt → RailSt) : (s.updRail r f).dev.late = s.dev.late := by rw [updRail_dev]

theorem setPhase_late (p st : Nat) : (s.setPhase p st).dev.late = s.dev.late := by
  simp only [setPhase, setF_late, updPhase_late, late_ite, ite_self]

theorem railRest_late (r : Nat) : (s.railRest r).dev.late = s.dev.late := by
  simp only [railRest, setF_late, setPhase_late, updRail_late, foldl_late, implies_true]

theorem cnRecord_late (src : Nat) (data : List Nat) : (s.cnRecord src data).dev.late = s.dev.late := by
  simp only [cnRecord, traceAdd_late, cairnStage_late, setEvt_late]

theorem railCounts_late (r : Nat) : (s.railCounts r).dev.late = s.dev.late := by
  simp only [railCounts, setB_late, setF_late, late_ite, ite_self]

theorem railCnFault_late (r : Nat) : (s.railCnFault r).dev.late = s.dev.late := by
  simp only [railCnFault, railCounts_late, cnRecord_late, setReg_late, setF_late, incSat_late, updRail_late, late_ite, ite_self]

theorem railFaultOff_late (r : Nat) (l : Pwm) : (s.railFaultOff r l).dev.late = s.dev.late := by
  simp only [railFaultOff, railCounts_late, setF_late, setReg_late, railCnFault_late, railRest_late, railLevel_late, late_ite, ite_self]

theorem fenceRail_late (r : Nat) : (s.fenceRail r).dev.late = s.dev.late := by
  simp only [fenceRail, railFaultOff_late, pgFence_late, late_ite, ite_self]

theorem fencePhase_late (p : Nat) : (s.fencePhase p).dev.late = s.dev.late := by
  unfold fencePhase
  dsimp only
  split
  · rfl
  · split <;> simp only [railCounts_late, updRail_late, updPhase_late, setPhase_late]

theorem fenceSlot_late (i : Nat) : (s.fenceSlot i).dev.late = s.dev.late := by
  simp only [fenceSlot, setF_late, updVs_late]

theorem updEf_late (c : Nat) (f : EfuseSt → EfuseSt) : (s.updEf c f).dev.late = s.dev.late := by rw [updEf_dev]

theorem efGo_late (c st : Nat) (p : Pull) : (s.efGo c st p).dev.late = s.dev.late := by
  simp only [efGo, updEf_late, setCond_late, setF_late]

theorem efToOff_late (c : Nat) : (s.efToOff c).dev.late = s.dev.late := by simp only [efToOff, setF_late, efGo_late]

theorem fenceEfuse_late (c : Nat) : (s.fenceEfuse c).dev.late = s.dev.late := by simp only [fenceEfuse, efToOff_late]

theorem fenceSeqSlot_late (i : Nat) : (s.fenceSeqSlot i).dev.late = s.dev.late := by
  simp only [fenceSeqSlot, descAdvance_late, setF_late, withdraw_late, late_ite, ite_self]

theorem updSdma_late (c : Nat) (f : SdmaSt → SdmaSt) : (s.updSdma c f).dev.late = s.dev.late := by rw [updSdma_dev]

theorem writeLe_late (a n v : Nat) : (s.writeLe a n v).dev.late = s.dev.late := by simp only [writeLe, writeBytes_late]

theorem descWrite_late (a result xfer : Nat) : (s.descWrite a result xfer).dev.late = s.dev.late := by
  simp only [descWrite, writeLe_late]

theorem descEnd_late (c a result xfer : Nat) : (s.descEnd c a result xfer).dev.late = s.dev.late := by
  simp only [descEnd, descWrite_late, updSdma_late, setN_late]

theorem sdmaCond_late : s.sdmaCond.dev.late = s.dev.late := by simp only [sdmaCond, setCond_late]

theorem fenceSdma_late (c : Nat) : (s.fenceSdma c).dev.late = s.dev.late := by
  unfold fenceSdma
  dsimp only
  split
  · rfl
  · rw [sdmaCond_late, setF_late]
    split <;> simp only [descEnd_late]

theorem fenceUnit_late (u : FenceUnit) : (s.fenceUnit u).dev.late = s.dev.late := by
  unfold fenceUnit
  split <;> simp only [fenceSdma_late, forAll_late, fenceSeqSlot_late, fenceEfuse_late, cnCollapse_late, fenceSlot_late, fencePhase_late,
      setF_late, fenceRail_late, pgFence_late, gateZero_late, late_ite, ite_self, implies_true]

theorem causeBit_late (bit : Nat) : (s.causeBit bit).dev.late = s.dev.late := by simp only [causeBit, setF_late]

theorem keepAon_late (o : State) : (s.keepAon o).dev.late = s.dev.late := by
  simp only [keepAon, setReg_late, setN_late, setB_late, setF_late, foldl_late, implies_true]

theorem psPut_late (id : Nat) (b : Bool) (c : PsCopy) : (s.psPut id b c).dev.late = s.dev.late := by simp only [psPut]

theorem psProgram_late : s.psProgram.dev.late = s.dev.late := by
  unfold psProgram
  split <;> simp only [setN_late, psPut_late]

/-- A device reset leaves no setting waiting (R77). -/
theorem deviceReset_late (bit : Nat) : (s.deviceReset bit).dev.late = [] := by
  rw [State.deviceReset, causeBit_late, resetAll_eq, keepAon_late, keepNv_dev]
  rfl

theorem groupOff_late (g slot : Nat) : (s.groupOff g slot).dev.late = s.dev.late := by
  simp only [groupOff, setF_late, incSat_late, enterDescend_late, late_ite, ite_self]

theorem safeReact_late : s.safeReact.dev.late = s.dev.late := by
  simp only [safeReact, groupOff_late, forAll_late, setF_late, cnCollapse_late, late_ite, ite_self, implies_true]

/-! ### The raise of a source, and what may raise one -/

/-- A raise, with all that its reaction does, leaves the waiting settings alone but for a device reset (R77, R425). -/
theorem raiseN_late (n src : Nat) (data : List Nat) (how : RaiseHow) :
    (raiseN n s src data how).dev.late = if lateLost s (raiseN n s src data how) then [] else s.dev.late := by
  induction n generalizing s src data how with
  | zero => exact LateKept.late_eq (.inl (setAct_late ..))
  | succ n ih =>
    refine LateKept.late_eq ?_
    simp only [raiseN, late_ite, ih, foldl_lost, setCond_late, safeReact_late, setF_late, deviceReset_late, fenceUnit_late, logRaise_late,
      setAct_late, ite_self, lateKept_ite, lateKept_nil, lateKept_self, implies_true]

theorem raise_late (src : Nat) (data : List Nat) :
    (s.raise src data).dev.late = if lateLost s (s.raise src data) then [] else s.dev.late := LateKept.late_eq <| by
  simp only [raise, raiseN_late, ite_self, lateKept_ite, lateKept_nil, lateKept_self]

theorem setMode_late (m : Nat) :
    (s.setMode m).dev.late = if lateLost s (s.setMode m) then [] else s.dev.late := LateKept.late_eq <| by
  simp only [setMode, setF_late, raise_late, runEntry_late, ite_self, lateKept_ite, lateKept_nil, lateKept_self]

theorem takeMode_late :
    s.takeMode.dev.late = if lateLost s s.takeMode then [] else s.dev.late := LateKept.late_eq <| by
  simp only [takeMode, setMode_late, late_ite, ite_self, lateKept_ite, lateKept_nil, lateKept_self]

theorem takeHoldup_late (c : StateCopy) :
    (s.takeHoldup c).dev.late = if lateLost s (s.takeHoldup c) then [] else s.dev.late := LateKept.late_eq <| by
  simp only [takeHoldup, setMode_late, raise_late, setN_late, incSat_late, setF_late, updShelf_late, late_ite, ite_self, lateKept_ite,
      lateKept_nil, lateKept_self]

theorem takeTell_late (code : Nat) :
    (s.takeTell code).dev.late = if lateLost s (s.takeTell code) then [] else s.dev.late := LateKept.late_eq <| by
  simp only [takeTell, raise_late, incSat_late, setF_late, ite_self, lateKept_ite, lateKept_nil, lateKept_self]

theorem resumeLearn_late (k : Nat) : (s.resumeLearn k).dev.late = s.dev.late := by
  simp only [resumeLearn, updEst_late, setF_late, setReg_late, takeFree_late, late_ite, ite_self]

theorem takeOver_late (code : Nat) :
    (s.takeOver code).dev.late = if lateLost s (s.takeOver code) then [] else s.dev.late := LateKept.late_eq <| by
  unfold takeOver
  dsimp only
  split <;> simp only [resumeLearn_late, forAll_late, takeTell_late, takeHoldup_late, takeMode_late, setF_late, updVs_late,
      restoreCopy_late, takeCornice_late, takeRole_late, updPair_late, late_ite, ite_self, implies_true, lateKept_ite, lateKept_nil,
      lateKept_self]

theorem raiseL_late (src : Nat) (data : List Nat) :
    (s.raiseL src data).dev.late = if lateLost s (s.raiseL src data) then [] else s.dev.late := LateKept.late_eq <| by
  simp only [raiseL, setCond_late, raise_late, ite_self, lateKept_ite, lateKept_nil, lateKept_self]

theorem svArm_late (k m t : Nat) : (s.svArm k m t).dev.late = s.dev.late := by
  simp only [svArm, ask_late, updEst_late, late_ite, ite_self]

theorem svOpen_late (k : Nat) : (s.svOpen k).dev.late = s.dev.late := by
  unfold svOpen
  dsimp only
  split <;> simp only [svArm_late, setF_late, updEst_late]

theorem svBatch_late (k : Nat) : (s.svBatch k).dev.late = s.dev.late := by
  simp only [svBatch, svOpen_late, updEst_late, late_ite, ite_self]

theorem svReset_late (k : Nat) : (s.svReset k).dev.late = s.dev.late := by simp only [svReset, updEst_late]

theorem svQuiet_late (k : Nat) : (s.svQuiet k).dev.late = s.dev.late := by
  unfold svQuiet
  split <;> simp only [updShelf_late]

theorem svIdle_late (k : Nat) : (s.svIdle k).dev.late = s.dev.late := by
  simp only [svIdle, setF_late, svQuiet_late, svReset_late]

theorem svGoTo_late (k m t : Nat) : (s.svGoTo k m t).dev.late = s.dev.late := by
  simp only [svGoTo, setF_late, updEst_late]

theorem svAdvance_late (k : Nat) : (s.svAdvance k).dev.late = s.dev.late := by
  unfold svAdvance
  extract_lets s1 s2 s3
  have h1 : s1.dev.late = s.dev.late := updEst_late ..
  have h2 : s2.dev.late = s.dev.late := by
    simp only [s2]
    split <;> simp only [svArm_late, h1]
  split
  · rw [svIdle_late, h1]
  · split <;> simp only [svGoTo_late, s3, updEst_late, svQuiet_late, setF_late, h2]

theorem svHot_late (k : Nat) :
    (s.svHot k).dev.late = if lateLost s (s.svHot k) then [] else s.dev.late := LateKept.late_eq <| by
  simp only [svHot, endL_late, updEst_late, raiseL_late, late_ite, ite_self, lateKept_ite, lateKept_nil, lateKept_self]

theorem svStore_late (k : Nat) :
    (s.svStore k).dev.late = if lateLost s (s.svStore k) then [] else s.dev.late := LateKept.late_eq <| by
  simp only [svStore, incSat_late, svHot_late, updEst_late, ite_self, lateKept_ite, lateKept_nil, lateKept_self]

theorem svDiscard_late (k reason : Nat) :
    (s.svDiscard k reason).dev.late = if lateLost s (s.svDiscard k reason) then [] else s.dev.late := LateKept.late_eq <| by
  simp only [svDiscard, raise_late, incSat_late, setF_late, ite_self, lateKept_ite, lateKept_nil, lateKept_self]

theorem svEnd_late (k : Nat) :
    (s.svEnd k).dev.late = if lateLost s (s.svEnd k) then [] else s.dev.late := LateKept.late_eq <| by
  simp only [svEnd, svDiscard_late, svStore_late, svAdvance_late, setF_late, updEst_late, late_ite, ite_self, lateKept_ite, lateKept_nil,
      lateKept_self]

theorem svPending_late :
    s.svPending.dev.late = if lateLost s s.svPending then [] else s.dev.late := LateKept.late_eq <| by
  simp only [svPending, svEnd_late, svBatch_late, late_ite, ite_self, implies_true, forAll_lost, lateKept_ite, lateKept_nil, lateKept_self]

theorem later_late (l : List (Nat × Word)) : (s.later l).dev.late = s.dev.late := by simp only [later, updShelf_late]

theorem notValid_late (k : Nat) : (s.notValid k).dev.late = s.dev.late := by simp only [notValid, later_late]

theorem learnDisq_late (k code : Nat) :
    (s.learnDisq k code).dev.late = if lateLost s (s.learnDisq k code) then [] else s.dev.late := LateKept.late_eq <| by
  simp only [learnDisq, updEst_late, raise_late, setF_late, incSat_late, late_ite, ite_self, lateKept_ite, lateKept_nil, lateKept_self]

theorem estPrep_late (k : Nat) :
    (s.estPrep k).dev.late = if lateLost s (s.estPrep k) then [] else s.dev.late := LateKept.late_eq <| by
  simp only [estPrep, raise_late, updEst_late, learnDisq_late, late_ite, ite_self, lateKept_ite, lateKept_nil, lateKept_self]

theorem countCharge_late (k : Nat) (ia i dt : Word) (dtUs : Nat) :
    (s.countCharge k ia i dt dtUs).dev.late = s.dev.late := by
  simp only [countCharge, updEst_late, setReg_late, late_ite, ite_self]

theorem cellRaises_late (k : Nat) (evs : List (Nat × CellEvents)) :
    (s.cellRaises k evs).dev.late = if lateLost s (s.cellRaises k evs) then [] else s.dev.late := LateKept.late_eq <| by
  simp only [cellRaises, incSat_late, raise_late, late_ite, ite_self, implies_true, foldl_lost, lateKept_ite, lateKept_nil, lateKept_self]

theorem tempNote_late (c : ClosedSet) (k : Nat) : (s.tempNote c k).dev.late = s.dev.late := by
  simp only [tempNote, updEst_late]

theorem estCells_late (c : ClosedSet) (k : Nat) :
    (s.estCells c k).1.dev.late = if lateLost s (s.estCells c k).1 then [] else s.dev.late := LateKept.late_eq <| by
  simp only [estCells, late_ite_fst, lateKept_ite]
  split
  · simp only [late_ite, learnDisq_late, updEst_late, notValid_late, lateKept_ite, lateKept_nil, lateKept_self, ite_self]
  · split
    · exact .inl (updEst_late ..)
    · split
      · simp only [updEst_late, estPrep_late, lateKept_ite, lateKept_nil, lateKept_self, ite_self]
      · simp only [tempNote_late, late_ite, learnDisq_late, cellRaises_late, updEst_late, countCharge_late, estPrep_late, lateKept_ite,
          lateKept_nil, lateKept_self, ite_self]

theorem restRequest_late : s.restRequest.dev.late = s.dev.late := by
  simp only [restRequest, sendPlant_late, late_ite, ite_self]

theorem unanchCheck_late (k : Nat) :
    (s.unanchCheck k).dev.late = if lateLost s (s.unanchCheck k) then [] else s.dev.late := LateKept.late_eq <| by
  simp only [unanchCheck, endL_late, learnDisq_late, restRequest_late, raiseL_late, putBit_late, setF_late, updEst_late, late_ite,
      ite_self, lateKept_ite, lateKept_nil, lateKept_self]

theorem anchorNow_late (c : ClosedSet) (k : Nat) : (s.anchorNow c k).dev.late = s.dev.late := by
  simp only [anchorNow, setN_late, setF_late, setReg_late, updEst_late]

theorem learnCells_late (c : ClosedSet) (k : Nat) (meas : CellSt → Word → Bool) :
    (s.learnCells c k meas).dev.late = if lateLost s (s.learnCells c k meas) then [] else s.dev.late := LateKept.late_eq <| by
  simp only [learnCells, setN_late, setF_late, incSat_late, raise_late, updEst_late, late_ite, ite_self, implies_true, foldl_lost,
      lateKept_ite, lateKept_nil, lateKept_self]

theorem restAnchor_late (c : ClosedSet) (k : Nat) :
    (s.restAnchor c k).dev.late = if lateLost s (s.restAnchor c k) then [] else s.dev.late := LateKept.late_eq <| by
  simp only [restAnchor, setF_late, learnCells_late, learnDisq_late, anchorNow_late, late_ite, ite_self, lateKept_ite, lateKept_nil,
      lateKept_self]

theorem learnStep_late (c : ClosedSet) (k : Nat) (x : StrNow) :
    (s.learnStep c k x).dev.late = if lateLost s (s.learnStep c k x) then [] else s.dev.late := LateKept.late_eq <| by
  unfold learnStep
  extract_lets s1 d
  have h1 : s1.dev.late = s.dev.late := by simp only [s1, late_ite, setF_late, ite_self]
  split
  · exact .inl (setF_late ..)
  · split
    · simp only [learnDisq_late, h1, lateKept_ite, lateKept_nil, lateKept_self, ite_self]
    · split
      · split <;> simp only [late_ite, learnDisq_late, h1, lateKept_ite, lateKept_nil, lateKept_self, ite_self]
      · simp only [late_ite, learnDisq_late, restAnchor_late, anchorNow_late, h1, lateKept_ite, lateKept_nil, lateKept_self, ite_self]

theorem estOutputs_late (c : ClosedSet) (k : Nat) (x : StrNow) :
    (s.estOutputs c k x).dev.late = if lateLost s (s.estOutputs c k x) then [] else s.dev.late := LateKept.late_eq <| by
  simp only [estOutputs, raise_late, later_late, learnStep_late, unanchCheck_late, late_ite, ite_self, lateKept_ite, lateKept_nil,
      lateKept_self]

theorem deliverWeights_late (c : ClosedSet) :
    (s.deliverWeights c).dev.late = if lateLost s (s.deliverWeights c) then [] else s.dev.late := LateKept.late_eq <| by
  simp only [deliverWeights, raise_late, later_late, late_ite, ite_self, implies_true, foldl_lost, lateKept_ite, lateKept_nil,
      lateKept_self]

theorem estUpdate_late (c : ClosedSet) (us : Nat) :
    (s.estUpdate c us).dev.late = if lateLost s (s.estUpdate c us) then [] else s.dev.late := LateKept.late_eq <| by
  have hcells := foldl_fst_lateKept (f := fun (a : State × List StrNow) k => ((a.1.estCells c k).1, a.2 ++ [(a.1.estCells c k).2]))
    (fun a k => by simp only [estCells_late, lateKept_ite, lateKept_nil, lateKept_self, ite_self]) (List.range 24) (s, [])
  refine hcells.trans ?_
  simp only [estUpdate, later_late, updSample_late, setF_late, setReg_late, deliverWeights_late, forAll_lost, estOutputs_late, lateKept_ite,
    lateKept_nil, lateKept_self, ite_self, implies_true]

theorem selRecord_late (k : Nat) (p : List Byte) : (selRecord s k p).dev.late = s.dev.late := by
  simp only [selRecord, late_ite, ite_self]

theorem psQueue_late (id : Nat) (payload : List Byte) : (s.psQueue id payload).dev.late = s.dev.late := by
  simp only [psQueue, setF_late]

theorem setpoint_late (k : Nat) : (s.setpoint k).dev.late = s.dev.late := by
  simp only [setpoint, writeBytes_late, setB_late, updShelf_late, late_ite, ite_self]

theorem cnStage_late : s.cnStage.dev.late = s.dev.late := by
  simp only [cnStage, forAll_late, setReg_late, updCn_late, late_ite, ite_self, implies_true]

theorem stageSet_late : s.stageSet.dev.late = s.dev.late := by
  simp only [stageSet, cnStage_late, setpoint_late, forAll_late, implies_true]

theorem checkFill_late :
    s.checkFill.dev.late = if lateLost s s.checkFill then [] else s.dev.late := LateKept.late_eq <| by
  simp only [checkFill, raiseN_late, setCond_late, raise_late, late_ite, ite_self, lateKept_ite, lateKept_nil, lateKept_self]

theorem cnResolve_late (outcome : Nat) (fold : Word) : (s.cnResolve outcome fold).dev.late = s.dev.late := by
  simp only [cnResolve, updCn_late, cnRecord_late]

theorem cnFold_late (f cut : Word) : (s.cnFold f cut).dev.late = s.dev.late := by
  simp only [cnFold, setF_late, setReg_late, updCn_late, cnResolve_late, late_ite, ite_self]

theorem cnFolded_late :
    s.cnFolded.dev.late = if lateLost s s.cnFolded then [] else s.dev.late := LateKept.late_eq <| by
  simp only [cnFolded, cnFold_late, checkFill_late, late_ite, ite_self, lateKept_ite, lateKept_nil, lateKept_self]

theorem cnTest_late : s.cnTest.dev.late = s.dev.late := by
  simp only [cnTest, incSat_late, setF_late, setReg_late, updCn_late, late_ite, ite_self]

theorem huRelease_late : s.huRelease.dev.late = s.dev.late := by simp only [huRelease, setF_late, late_ite, ite_self]

theorem limitEnd_late : s.limitEnd.dev.late = s.dev.late := by
  simp only [limitEnd, updShelf_late, setF_late, endL_late, late_ite, ite_self]

theorem makeActive_late (b : Nat) : (s.makeActive b).dev.late = s.dev.late := by
  simp only [makeActive, limitEnd_late, setF_late, late_ite, ite_self]

theorem handover_late (a b : Nat) : (s.handover a b).dev.late = s.dev.late := by
  simp only [handover, makeActive_late, updShelf_late, updVs_late, setF_late, late_ite, ite_self]

theorem clkDrive_late : s.clkDrive.dev.late = s.dev.late := by simp only [clkDrive, setB_late]

theorem cycleResult_late (n reg : Nat) (x : BitVec 16) : (s.cycleResult n reg x).dev.late = s.dev.late := by
  simp only [cycleResult, setReg_late, putBit_late, late_ite, ite_self]

theorem setWatch_late : s.setWatch.dev.late = s.dev.late := by simp only [setWatch]

theorem plausCond_late : s.plausCond.dev.late = s.dev.late := by simp only [plausCond, setCond_late]

theorem decimate_late (c : CycleIn) : (s.decimate c).dev.late = s.dev.late := by
  simp only [decimate, setF_late, plausCond_late, updShelf_late, setB_late, setWatch_late, cycleResult_late, clkDrive_late, late_ite,
      ite_self]

theorem hotDeliver_late : s.hotDeliver.dev.late = s.dev.late := by simp only [hotDeliver, updShelf_late]

theorem publish_late : s.publish.dev.late = s.dev.late := by
  simp only [publish, countChg_late, setReg_late, updShelf_late, hotDeliver_late, late_ite, ite_self, foldl_late, implies_true]

theorem latchStatus_late (k : Nat) :
    (s.latchStatus k).dev.late = if lateLost s (s.latchStatus k) then [] else s.dev.late := LateKept.late_eq <| by
  unfold latchStatus
  split <;> simp only [raise_late, updShelf_late, late_ite, ite_self, lateKept_ite, lateKept_nil, lateKept_self]

theorem busRuns_late : s.busRuns.dev.late = s.dev.late := by
  simp only [busRuns, endL_late, updShelf_late, late_ite, ite_self]

theorem huHolding_late (dt : Nat) : (s.huHolding dt).dev.late = s.dev.late := by
  simp only [huHolding, setN_late, updShelf_late]

theorem huHandBack_late (any : Bool) (dt : Nat) : (s.huHandBack any dt).dev.late = s.dev.late := by
  simp only [huHandBack, updShelf_late, setF_late, late_ite, ite_self]

theorem huRefuse_late (code causes : Nat) :
    (s.huRefuse code causes).dev.late = if lateLost s (s.huRefuse code causes) then [] else s.dev.late := LateKept.late_eq <| by
  simp only [huRefuse, updShelf_late, raise_late, late_ite, ite_self, lateKept_ite, lateKept_nil, lateKept_self]

theorem huEnter_late (causes : Nat) :
    (s.huEnter causes).dev.late = if lateLost s (s.huEnter causes) then [] else s.dev.late := LateKept.late_eq <| by
  simp only [huEnter, setMode_late, raise_late, setN_late, incSat_late, setF_late, handover_late, updShelf_late, huRefuse_late, late_ite,
      ite_self, lateKept_ite, lateKept_nil, lateKept_self]

theorem huReleased_late : s.huReleased.dev.late = s.dev.late := by simp only [huReleased, updShelf_late]

theorem huStep_late : s.huStep.dev.late = if lateLost s s.huStep then [] else s.dev.late := LateKept.late_eq <| by
  simp only [huStep, huRelease_late, huReleased_late, huEnter_late, huHandBack_late, huHolding_late, setF_late, updShelf_late, late_ite,
      ite_self, lateKept_ite, lateKept_nil, lateKept_self]

theorem regLost_late : s.regLost.dev.late = s.dev.late := by
  simp only [regLost, setF_late, setB_late, late_ite, ite_self]

theorem gateStep_late (k : Nat) : (s.gateStep k).dev.late = s.dev.late := by
  simp only [gateStep, setF_late, setB_late, setReg_late, updShelf_late, late_ite, ite_self]

theorem exceedRun_late : s.exceedRun.dev.late = s.dev.late := by
  simp only [exceedRun, setF_late, setCond_late, updShelf_late, late_ite, ite_self]

theorem crestDir_late (chg start : Bool) : (s.crestDir chg start).dev.late = s.dev.late := by
  simp only [crestDir, setB_late, setF_late, setReg_late]

theorem crestLimits_late (start : Bool) : (s.crestLimits start).dev.late = s.dev.late := by
  simp only [crestLimits, setReg_late, crestDir_late]

theorem references_late : s.references.dev.late = s.dev.late := by simp only [references, setReg_late, updShelf_late]

theorem cnTime_late : s.cnTime.dev.late = s.dev.late := by simp only [cnTime, updCn_late, setF_late, late_ite, ite_self]

theorem cnObserve_late : s.cnObserve.dev.late = s.dev.late := by simp only [cnObserve, updCn_late]

theorem setHold_late (i row : Nat) (h : Option Word) : (s.setHold i row h).dev.late = s.dev.late := by
  simp only [setHold, updVs_late, updShelf_late, late_ite, ite_self]

theorem trimHold_late (k : Nat) : (s.trimHold k).dev.late = s.dev.late := by
  simp only [trimHold, setB_late, setHold_late, late_ite, ite_self]

theorem summitHold_late (i : Nat) : (s.summitHold i).dev.late = s.dev.late := by
  simp only [summitHold, setHold_late, late_ite, ite_self]

theorem showHold_late (row : Nat) (ramp : Bool) : (s.showHold row ramp).dev.late = s.dev.late := by
  simp only [showHold, setB_late, setF_late, late_ite, ite_self]

theorem limitStep_late : s.limitStep.1.dev.late = s.dev.late := by
  simp only [limitStep, updShelf_late, limitEnd_late, late_ite, late_ite_fst, ite_self]

theorem activeHold_late : s.activeHold.dev.late = s.dev.late := by
  unfold activeHold
  dsimp only
  split
  · simp only [showHold_late, setHold_late, updShelf_late, limitEnd_late]
  · split
    · simp only [showHold_late, setHold_late, late_ite, limitEnd_late, ite_self]
    · split <;> simp only [late_ite, showHold_late, setHold_late, limitStep_late, ite_self]

theorem cnRamp_late : s.cnRamp.dev.late = s.dev.late := by
  simp only [cnRamp, setReg_late, updCn_late, late_ite, ite_self]

theorem divStep_late (i : Nat) : (s.divStep i).1.dev.late = s.dev.late := by
  unfold divStep
  split <;> simp only [updVs_late]

theorem gapRelease_late (i : Nat) : (s.gapRelease i).dev.late = s.dev.late := by simp only [gapRelease]

theorem releaseSlot_late (i : Nat) : (s.releaseSlot i).dev.late = s.dev.late := by
  simp only [releaseSlot, gapRelease_late, divStep_late, late_ite, ite_self]

theorem setInt_late (i : Nat) (v : Int) : (s.setInt i v).dev.late = s.dev.late := by simp only [setInt, setN_late]

theorem putLawState_late (i : Nat) (x : LawState) : (s.putLawState i x).dev.late = s.dev.late := by
  simp only [putLawState, setInt_late, setReg_late]

theorem swapDone_late (i : Nat) (swap : Bool) : (s.swapDone i swap).dev.late = s.dev.late := by
  simp only [swapDone, setF_late, late_ite, ite_self]

theorem flagSlot_late (lo hi i : Nat) : (s.flagSlot lo hi i).dev.late = s.dev.late := by
  simp only [flagSlot, putBit_late]

theorem cnHeld_late (fold : Option Word) :
    (s.cnHeld fold).dev.late = if lateLost s (s.cnHeld fold) then [] else s.dev.late := LateKept.late_eq <| by
  simp only [cnHeld, cnFold_late, checkFill_late, late_ite, ite_self, lateKept_ite, lateKept_nil, lateKept_self]

theorem evalSlot_late (i : Nat) (x : EvalIn) :
    (s.evalSlot i x).dev.late = if lateLost s (s.evalSlot i x) then [] else s.dev.late := LateKept.late_eq <| by
  unfold evalSlot
  split
  · exact .inl (setReg_late ..)
  · extract_lets +onlyGivenNames v pend bad s1
    have h1 : LateKept s.dev.late s1.dev.late := by
      simp only [s1]
      generalize bad = o
      split <;> simp only [raise_late, updVs_late, setF_late, lateKept_ite, lateKept_nil, lateKept_self, ite_self]
    extract_lets +onlyGivenNames swap c law s2
    have h2 : s2.dev.late = s1.dev.late := by simp only [s2, late_ite, updVs_late, putLawState_late, ite_self]
    refine h1.trans (h2 ▸ ?_)
    extract_lets +onlyGivenNames m auto pre st0 st lm shift act res
    clear_value res
    split
    · simp only [raise_late, cnHeld_late, setF_late, swapDone_late, flagSlot_late, incSat_late, updVs_late, lateKept_ite, lateKept_nil,
        lateKept_self, ite_self]
    · split
      · simp only [raise_late, cnHeld_late, putBit_late, setF_late, swapDone_late, updVs_late, lateKept_ite, lateKept_nil, lateKept_self,
          ite_self]
      · extract_lets +onlyGivenNames sum wrap' s3 s4 s5 s6 s7 s8 s9 s10
        have h8 : s8.dev.late = s2.dev.late := by
          simp only [s8, s7, s6, s5, s4, s3, setF_late, setB_late, setN_late, setReg_late, putLawState_late, swapDone_late, updVs_late]
        have h9 : LateKept s2.dev.late s9.dev.late := by
          simp only [s9]
          split <;> simp only [checkFill_late, cnFold_late, h8, lateKept_ite, lateKept_nil, lateKept_self, ite_self]
        have h10 : LateKept s9.dev.late s10.dev.late := by
          simp only [s10, late_ite, raise_late, incSat_late, lateKept_ite, lateKept_nil, lateKept_self, ite_self]
        refine h9.trans (h10.trans ?_)
        generalize wrap' = o
        split
        · simp only [raise_late, flagSlot_late, incSat_late, lateKept_ite, lateKept_nil, lateKept_self, ite_self]
        · exact lateKept_self

theorem gapTaken_late (i : Nat) : (s.gapTaken i).dev.late = s.dev.late := by simp only [gapTaken]

theorem boundarySlot_late (late : BitVec 32) (i : Nat) :
    (s.boundarySlot late i).dev.late = if lateLost s (s.boundarySlot late i) then [] else s.dev.late := LateKept.late_eq <| by
  simp only [boundarySlot, gapTaken_late, evalSlot_late, gapRelease_late, divStep_late, late_ite, ite_self, lateKept_ite, lateKept_nil,
      lateKept_self]

theorem allocate_late : s.allocate.1.dev.late = s.dev.late := by
  simp only [allocate, forAll_late, setF_late, setB_late, setReg_late, late_ite, late_ite_fst, ite_self, implies_true]

theorem excEnd_late (k : Nat) : (s.excEnd k).dev.late = s.dev.late := by
  unfold excEnd
  split <;> simp only [updShelf_late, late_ite, ite_self]

theorem crestClamp_late (a : List Word) : (s.crestClamp a).dev.late = s.dev.late := by
  simp only [crestClamp, updShelf_late, forAll_late, setReg_late, setB_late, late_ite, ite_self, implies_true]

theorem showOn_late (p a : Nat) (w : Word) : (s.showOn p a w).dev.late = s.dev.late := by
  simp only [showOn, setReg_late, late_ite, ite_self]

theorem showShelf_late : s.showShelf.dev.late = s.dev.late := by simp only [showShelf, showOn_late]

theorem shelfCycle_late (c : CycleIn) :
    (s.shelfCycle c).dev.late = if lateLost s (s.shelfCycle c) then [] else s.dev.late := LateKept.late_eq <| by
  simp only [shelfCycle, showShelf_late, crestClamp_late, stageSet_late, excEnd_late, allocate_late, cnFolded_late, boundarySlot_late,
      releaseSlot_late, cnTest_late, cnRamp_late, activeHold_late, summitHold_late, trimHold_late, cnObserve_late, cnTime_late,
      references_late, crestLimits_late, exceedRun_late, gateStep_late, regLost_late, huStep_late, setB_late, busRuns_late,
      latchStatus_late, forAll_late, publish_late, updShelf_late, decimate_late, late_ite, ite_self, foldl_late, implies_true, forAll_lost,
      lateKept_ite, lateKept_nil, lateKept_self]

theorem sdmaHalt_late (c cause addr desc : Nat) (write : Bool) (moved : Nat) :
    (s.sdmaHalt c cause addr desc write moved).dev.late = if lateLost s (s.sdmaHalt c cause addr desc write moved) then [] else s.dev.late := LateKept.late_eq <| by
  simp only [sdmaHalt, setN_late, sdmaCond_late, raise_late, setF_late, setB_late, updSdma_late, writeLe_late, late_ite, ite_self,
      lateKept_ite, lateKept_nil, lateKept_self]

theorem sdmaTake_late (c a : Nat) :
    (s.sdmaTake c a).dev.late = if lateLost s (s.sdmaTake c a) then [] else s.dev.late := LateKept.late_eq <| by
  simp only [sdmaTake, updSdma_late, setF_late, setN_late, sdmaHalt_late, late_ite, ite_self, lateKept_ite, lateKept_nil, lateKept_self]

theorem sdmaResume_late (c : Nat) :
    (s.sdmaResume c).dev.late = if lateLost s (s.sdmaResume c) then [] else s.dev.late := LateKept.late_eq <| by
  unfold sdmaResume
  split <;> simp only [sdmaTake_late, sdmaCond_late, ite_self, lateKept_ite, lateKept_nil, lateKept_self]

theorem skipNote_late (c : Nat) (d : Desc) : (s.skipNote c d).dev.late = s.dev.late := by
  unfold skipNote
  split <;> simp only [late_ite, ite_self]

theorem sdmaFetch_late (c : Nat) :
    (s.sdmaFetch c).dev.late = if lateLost s (s.sdmaFetch c) then [] else s.dev.late := LateKept.late_eq <| by
  simp only [sdmaFetch, sdmaTake_late, ite_self, lateKept_ite, lateKept_nil, lateKept_self]

theorem sdmaGoOn_late (c : Nat) (last stop : Bool) :
    (s.sdmaGoOn c last stop).dev.late = if lateLost s (s.sdmaGoOn c last stop) then [] else s.dev.late := LateKept.late_eq <| by
  simp only [sdmaGoOn, sdmaFetch_late, setF_late, late_ite, ite_self, lateKept_ite, lateKept_nil, lateKept_self]

theorem sdmaDrop_late (c : Nat) (abort : Bool) :
    (s.sdmaDrop c abort).dev.late = if lateLost s (s.sdmaDrop c abort) then [] else s.dev.late := LateKept.late_eq <| by
  unfold sdmaDrop
  split <;> simp only [sdmaGoOn_late, setF_late, sdmaCond_late, descEnd_late, skipNote_late, sdmaHalt_late, late_ite, ite_self,
      lateKept_ite, lateKept_nil, lateKept_self]

theorem sdmaPolicy_late :
    s.sdmaPolicy.dev.late = if lateLost s s.sdmaPolicy then [] else s.dev.late := LateKept.late_eq <| by
  simp only [sdmaPolicy, sdmaDrop_late, sdmaResume_late, setF_late, countChg_late, updSdma_late, late_ite, ite_self, implies_true,
      forAll_lost, lateKept_ite, lateKept_nil, lateKept_self]

theorem tbGlide_late (us : Nat) : (s.tbGlide us).dev.late = s.dev.late := by
  simp only [tbGlide, setF_late, late_ite, ite_self]

theorem pllStep_late : s.pllStep.dev.late = s.dev.late := by simp only [pllStep, setReg_late]

theorem peerAges_late : s.peerAges.dev.late = s.dev.late := by
  simp only [peerAges, incSat_late, forAll_late, late_ite, ite_self, implies_true]

end Sys2Proof.Proofs
end
section
/-! SUPPORT. The commands that read settings between two update boundaries (R42): each runs on the settings in force, goes on, and leaves the waiting words alone but for a device reset. One lemma per command of `readsSettings`. -/

namespace Sys2Proof.Proofs

open Machine Machine.State Laws

variable {s : State}

/-- A meaning goes on, and what waits in `s` still waits then, unless a device reset has come in between. -/
def KeepsWaiting (s : State) (r : Host.Outcome State Fault Refusal) : Prop := ∃ t, r = .next t ∧ LateKept s.dev.late t.dev.late

theorem keepsWaiting_next {t : State} : KeepsWaiting s (.next t) ↔ LateKept s.dev.late t.dev.late := by simp [KeepsWaiting]

theorem keepsWaiting_ite {c : Prop} [Decidable c] {a b : Host.Outcome State Fault Refusal} :
    KeepsWaiting s (if c then a else b) ↔ if c then KeepsWaiting s a else KeepsWaiting s b := by
  split <;> rfl

/-- The command runs on the settings in force, and its body keeps what waits. -/
def HeldKeeps (c : Instr) : Prop := ∃ f, (∀ s, exec c s = s.heldRun f) ∧ ∀ s, KeepsWaiting s (f s)

theorem heldKeeps_stepHintEdge (rising : Bool) (atUs : Nat) : HeldKeeps (.stepHintEdge rising atUs) := by
  refine ⟨_, fun s => show execStepHintEdge rising atUs s = s.heldRun _ from rfl, fun s => ?_⟩
  simp only [keepsWaiting_ite, keepsWaiting_next, cnTrigger_late, lateKept_self, ite_self]

theorem heldKeeps_intentMessage (h : MsgHead) (amp lead : Word) (isn : Half) (hint : BitVec 3) (atUs : Nat) :
    HeldKeeps (.intentMessage h amp lead isn hint atUs) := by
  refine ⟨_, fun s => show execIntentMessage h amp lead isn hint atUs s = s.heldRun _ from rfl, fun s => ?_⟩
  simp only [keepsWaiting_next, cnIntent_late, plantMsg_late, lateKept_self, implies_true]

theorem heldKeeps_reportTimer : HeldKeeps .reportTimer := by
  refine ⟨_, fun s => show execReportTimer s = s.heldRun _ from rfl, fun s => ?_⟩
  simp only [keepsWaiting_ite, keepsWaiting_next, reportStep_late, lateKept_self, ite_self]

theorem heldKeeps_t1sPublication : HeldKeeps .t1sPublication := by
  refine ⟨_, fun s => show execT1sPublication s = s.heldRun _ from rfl, fun s => ?_⟩
  simp only [keepsWaiting_ite, keepsWaiting_next, sendMsg_late, lateKept_self, ite_self]

theorem heldKeeps_setpointStart : HeldKeeps .setpointStart := by
  refine ⟨_, fun s => show execSetpointStart s = s.heldRun _ from rfl, fun s => ?_⟩
  simp only [keepsWaiting_ite, keepsWaiting_next, setpointStart_late, lateKept_self, ite_self]

theorem heldKeeps_firstSetpointAfterTakeover : HeldKeeps .firstSetpointAfterTakeover := by
  refine ⟨_, fun s => show execFirstSetpointAfterTakeover s = s.heldRun _ from rfl, fun s => ?_⟩
  dsimp only
  split
  · simp only [keepsWaiting_ite, keepsWaiting_next, setpointStart_late, writeBytes_late, updShelf_late, forAll_late, updPair_late, late_ite,
      lateKept_self, ite_self, implies_true]
  · exact keepsWaiting_next.2 lateKept_self

theorem heldKeeps_takeover (t : TakeTrigger) : HeldKeeps (.takeover t) := by
  refine ⟨_, fun s => show execTakeover t s = s.heldRun _ from rfl, fun s => ?_⟩
  simp only [keepsWaiting_ite, keepsWaiting_next, takeOver_late, lateKept_ite, lateKept_nil, lateKept_self, ite_self]

theorem heldKeeps_inputStuckTimer (i : SupInput) : HeldKeeps (.inputStuckTimer i) := by
  refine ⟨_, fun s => show execInputStuckTimer i s = s.heldRun _ from rfl, fun s => ?_⟩
  simp only [keepsWaiting_ite, keepsWaiting_next, raise_late, setCond_late, raiseL_late, setF_late, late_ite, lateKept_ite, lateKept_nil,
      lateKept_self, ite_self]

theorem heldKeeps_estimatorSetUpdate (us : Half) : HeldKeeps (.estimatorSetUpdate us) := by
  refine ⟨_, fun s => show execEstimatorSetUpdate us s = s.heldRun _ from rfl, fun s => ?_⟩
  split
  · simp only [keepsWaiting_ite, keepsWaiting_next, svPending_late, estUpdate_late, updSample_late, forAll_lost, estCells_late,
      lateKept_ite,
      lateKept_nil, lateKept_self, ite_self, implies_true]
  · exact keepsWaiting_next.2 lateKept_self

theorem heldKeeps_restReqRepeat : HeldKeeps .restReqRepeat := by
  refine ⟨_, fun s => show execRestReqRepeat s = s.heldRun _ from rfl, fun s => ?_⟩
  simp only [keepsWaiting_ite, keepsWaiting_next, updEst_late, restRequest_late, foldl_late, lateKept_self, ite_self, implies_true]

theorem heldKeeps_capacityWriteBack (k : Fin 24) : HeldKeeps (.capacityWriteBack k) := by
  refine ⟨_, fun s => show execCapacityWriteBack k s = s.heldRun _ from rfl, fun s => ?_⟩
  simp only [keepsWaiting_ite, keepsWaiting_next, updEst_late, psQueue_late, selRecord_late, lateKept_self, ite_self]

theorem heldKeeps_surveyPrerollStart (k : Fin 24) : HeldKeeps (.surveyPrerollStart k) := by
  refine ⟨_, fun s => show execSurveyPrerollStart k s = s.heldRun _ from rfl, fun s => ?_⟩
  dsimp only
  split
  · simp only [keepsWaiting_ite, keepsWaiting_next, svGoTo_late, svArm_late, updShelf_late, updEst_late, svReset_late, setF_late, late_ite,
      lateKept_self, ite_self]
  · exact keepsWaiting_next.2 lateKept_self

theorem heldKeeps_surveyBatch (k : Fin 24) : HeldKeeps (.surveyBatch k) := by
  refine ⟨_, fun s => show execSurveyBatch k s = s.heldRun _ from rfl, fun s => ?_⟩
  simp only [keepsWaiting_ite, keepsWaiting_next, updEst_late, svEnd_late, svBatch_late, late_ite, lateKept_ite, lateKept_nil,
      lateKept_self, ite_self]

theorem heldKeeps_surveyWindowEnd (k : Fin 24) : HeldKeeps (.surveyWindowEnd k) := by
  refine ⟨_, fun s => show execSurveyWindowEnd k s = s.heldRun _ from rfl, fun s => ?_⟩
  simp only [keepsWaiting_ite, keepsWaiting_next, updEst_late, svEnd_late, lateKept_ite, lateKept_nil, lateKept_self, ite_self]

theorem heldKeeps_surveyBlocked (k : Fin 24) : HeldKeeps (.surveyBlocked k) := by
  refine ⟨_, fun s => show execSurveyBlocked k s = s.heldRun _ from rfl, fun s => ?_⟩
  simp only [keepsWaiting_ite, keepsWaiting_next, setF_late, svQuiet_late, svDiscard_late, svReset_late, lateKept_ite, lateKept_nil,
      lateKept_self, ite_self]

theorem heldKeeps_corniceOpen : HeldKeeps .corniceOpen := by
  refine ⟨_, fun s => show execCorniceOpen s = s.heldRun _ from rfl, fun s => ?_⟩
  simp only [keepsWaiting_ite, keepsWaiting_next, cnTest_late, cnFolded_late, stageSet_late, traceAdd_late, setF_late, setReg_late,
      setN_late, updCn_late, lateKept_ite, lateKept_nil, lateKept_self, ite_self]

theorem heldKeeps_corniceWindowEnd : HeldKeeps .corniceWindowEnd := by
  refine ⟨_, fun s => show execCorniceWindowEnd s = s.heldRun _ from rfl, fun s => ?_⟩
  simp only [keepsWaiting_ite, keepsWaiting_next, cnCollapse_late, lateKept_self, ite_self]

theorem heldKeeps_corniceCollapseEnd : HeldKeeps .corniceCollapseEnd := by
  refine ⟨_, fun s => show execCorniceCollapseEnd s = s.heldRun _ from rfl, fun s => ?_⟩
  simp only [keepsWaiting_ite, keepsWaiting_next, checkFill_late, raise_late, incSat_late, updCn_late, cnResolve_late, setF_late, late_ite,
      lateKept_ite, lateKept_nil, lateKept_self, ite_self]

theorem heldKeeps_startRampEnd : HeldKeeps .startRampEnd := by
  refine ⟨_, fun s => show execStartRampEnd s = s.heldRun _ from rfl, fun s => ?_⟩
  simp only [keepsWaiting_ite, keepsWaiting_next, setF_late, lateKept_self, ite_self]

theorem heldKeeps_shortfallCount : HeldKeeps .shortfallCount := by
  refine ⟨_, fun s => show execShortfallCount s = s.heldRun _ from rfl, fun s => ?_⟩
  simp only [keepsWaiting_ite, keepsWaiting_next, setF_late, raiseL_late, lateKept_ite, lateKept_nil, lateKept_self, ite_self]

theorem heldKeeps_capExceedTimer : HeldKeeps .capExceedTimer := by
  refine ⟨_, fun s => show execCapExceedTimer s = s.heldRun _ from rfl, fun s => ?_⟩
  simp only [keepsWaiting_ite, keepsWaiting_next, setF_late, setCond_late, raise_late, lateKept_ite, lateKept_nil, lateKept_self, ite_self]

theorem heldKeeps_statusTimeout (k : Fin 24) : HeldKeeps (.statusTimeout k) := by
  refine ⟨_, fun s => show execStatusTimeout k s = s.heldRun _ from rfl, fun s => ?_⟩
  simp only [keepsWaiting_ite, keepsWaiting_next, updShelf_late, raise_late, gateZero_late, lateKept_ite, lateKept_nil, lateKept_self,
      ite_self]

theorem heldKeeps_busOvCount : HeldKeeps .busOvCount := by
  refine ⟨_, fun s => show execBusOvCount s = s.heldRun _ from rfl, fun s => ?_⟩
  simp only [keepsWaiting_ite, keepsWaiting_next, raiseL_late, lateKept_ite, lateKept_nil, lateKept_self, ite_self]

theorem heldKeeps_busUvCount : HeldKeeps .busUvCount := by
  refine ⟨_, fun s => show execBusUvCount s = s.heldRun _ from rfl, fun s => ?_⟩
  simp only [keepsWaiting_ite, keepsWaiting_next, raiseL_late, lateKept_ite, lateKept_nil, lateKept_self, ite_self]

theorem heldKeeps_holdupAutoRelease : HeldKeeps .holdupAutoRelease := by
  refine ⟨_, fun s => show execHoldupAutoRelease s = s.heldRun _ from rfl, fun s => ?_⟩
  simp only [keepsWaiting_ite, keepsWaiting_next, huRelease_late, lateKept_self, ite_self]

theorem heldKeeps_holdupHandBackStart : HeldKeeps .holdupHandBackStart := by
  refine ⟨_, fun s => show execHoldupHandBackStart s = s.heldRun _ from rfl, fun s => ?_⟩
  simp only [keepsWaiting_ite, keepsWaiting_next, updShelf_late, setF_late, lateKept_self, ite_self]

theorem heldKeeps_hbRampEnd : HeldKeeps .hbRampEnd := by
  refine ⟨_, fun s => show execHbRampEnd s = s.heldRun _ from rfl, fun s => ?_⟩
  simp only [keepsWaiting_ite, keepsWaiting_next, raise_late, setMode_late, updShelf_late, handover_late, setF_late, late_ite,
      lateKept_ite, lateKept_nil, lateKept_self, ite_self]

theorem heldKeeps_holdupTmaxExpiry : HeldKeeps .holdupTmaxExpiry := by
  refine ⟨_, fun s => show execHoldupTmaxExpiry s = s.heldRun _ from rfl, fun s => ?_⟩
  simp only [keepsWaiting_ite, keepsWaiting_next, updShelf_late, raise_late, lateKept_ite, lateKept_nil, lateKept_self, ite_self]

theorem heldKeeps_plantTimeout : HeldKeeps .plantTimeout := by
  refine ⟨_, fun s => show execPlantTimeout s = s.heldRun _ from rfl, fun s => ?_⟩
  simp only [keepsWaiting_ite, keepsWaiting_next, setF_late, raiseL_late, updShelf_late, lateKept_ite, lateKept_nil, lateKept_self,
      ite_self]

/-- Every command that reads settings between two boundaries. -/
theorem heldKeeps_of_readsSettings {c : Instr} (h : readsSettings c) : HeldKeeps c := by
  cases c with
  | stepHintEdge => exact heldKeeps_stepHintEdge ..
  | intentMessage => exact heldKeeps_intentMessage ..
  | reportTimer => exact heldKeeps_reportTimer
  | t1sPublication => exact heldKeeps_t1sPublication
  | setpointStart => exact heldKeeps_setpointStart
  | firstSetpointAfterTakeover => exact heldKeeps_firstSetpointAfterTakeover
  | takeover => exact heldKeeps_takeover ..
  | inputStuckTimer => exact heldKeeps_inputStuckTimer ..
  | estimatorSetUpdate => exact heldKeeps_estimatorSetUpdate ..
  | restReqRepeat => exact heldKeeps_restReqRepeat
  | capacityWriteBack => exact heldKeeps_capacityWriteBack ..
  | surveyPrerollStart => exact heldKeeps_surveyPrerollStart ..
  | surveyBatch => exact heldKeeps_surveyBatch ..
  | surveyWindowEnd => exact heldKeeps_surveyWindowEnd ..
  | surveyBlocked => exact heldKeeps_surveyBlocked ..
  | corniceOpen => exact heldKeeps_corniceOpen
  | corniceWindowEnd => exact heldKeeps_corniceWindowEnd
  | corniceCollapseEnd => exact heldKeeps_corniceCollapseEnd
  | startRampEnd => exact heldKeeps_startRampEnd
  | shortfallCount => exact heldKeeps_shortfallCount
  | capExceedTimer => exact heldKeeps_capExceedTimer
  | statusTimeout => exact heldKeeps_statusTimeout ..
  | busOvCount => exact heldKeeps_busOvCount
  | busUvCount => exact heldKeeps_busUvCount
  | holdupAutoRelease => exact heldKeeps_holdupAutoRelease
  | holdupHandBackStart => exact heldKeeps_holdupHandBackStart
  | hbRampEnd => exact heldKeeps_hbRampEnd
  | holdupTmaxExpiry => exact heldKeeps_holdupTmaxExpiry
  | plantTimeout => exact heldKeeps_plantTimeout
  | _ => exact Bool.noConfusion h

end Sys2Proof.Proofs
end
section
/-! SUPPORT. Settings that wait for their update boundary (R42, R568): the registers in force, what the putting back shows, and the statement about both. -/

namespace Sys2Proof.Proofs

open Machine Machine.State Laws

variable {s t : State}

/-! ### A canonical register file is its readings -/

theorem lookupKey_of_mem {β : Type} {a : Nat} {v : β} {l : List (Nat × β)} (hl : Rising l) (h : (a, v) ∈ l) : lookupKey a l = some v := by
  induction l with
  | nil => cases h
  | cons x l ih =>
    obtain ⟨k, w⟩ := x
    obtain ⟨habove, hrest⟩ := rising_cons.1 hl
    rcases List.mem_cons.1 h with heq | hmem
    · obtain ⟨rfl, rfl⟩ := Prod.mk.inj heq
      simp [lookupKey]
    · have hk : k ≠ a := (habove _ hmem).ne
      simpa [lookupKey, hk] using ih hrest hmem

/-- The entries of a canonical file are the addresses that do not read their Reset, with what they read. -/
theorem mem_regs_iff (hs : Canonical s) {a : Nat} {w : Word} : (a, w) ∈ s.regs ↔ w = s.getReg a ∧ w ≠ resetWord a := by
  obtain ⟨hrising, hreset, -⟩ := hs
  constructor
  · intro h
    exact ⟨by simp [getReg, lookupKey_of_mem hrising h], hreset _ h⟩
  · rintro ⟨rfl, hne⟩
    unfold getReg at hne ⊢
    cases hl : lookupKey a s.regs with
    | none => exact absurd (by simp [hl]) hne
    | some v => exact mem_of_lookupKey hl

theorem regs_eq_of_getReg (hs : Canonical s) (ht : Canonical t) (h : ∀ a, s.getReg a = t.getReg a) : s.regs = t.regs :=
  List.Pairwise.eq_of_mem_iff (List.pairwise_map.1 hs.1) (List.pairwise_map.1 ht.1) fun ⟨a, w⟩ => by
    rw [mem_regs_iff hs, mem_regs_iff ht, h]

/-! ### Words taken bit by bit -/

theorem getLsbD_takeBits (m w v : Word) (i : Nat) : (takeBits m w v).getLsbD i = if m.getLsbD i then v.getLsbD i else w.getLsbD i := by
  by_cases hi : i < 32
  · simp only [takeBits, BitVec.getLsbD_or, BitVec.getLsbD_and, BitVec.getLsbD_not, hi, decide_true, Bool.true_and]
    cases m.getLsbD i <;> simp
  · simp [BitVec.getLsbD_of_ge _ i (Nat.le_of_not_lt hi)]

/-- The bits that a mask takes do not depend on what was there before. -/
theorem takeBits_eq_of_apart {m x y : Word} (v : Word) (h : ∀ i, m.getLsbD i = false → x.getLsbD i = y.getLsbD i) :
    takeBits m x v = takeBits m y v := by
  refine BitVec.eq_of_getLsbD_eq fun i _ => ?_
  rw [getLsbD_takeBits, getLsbD_takeBits]
  split
  · rfl
  · rename_i hm
    exact h i (Bool.eq_false_of_not_eq_true hm)

/-- The word at `a` once every waiting word there has taken its bits from `w`. -/
def overlaid (w : LateWord → Word) (l : List LateWord) (a : Nat) (x : Word) : Word :=
  l.foldl (fun x d => if d.addr = a then takeBits d.mask x (w d) else x) x

/-- A waiting word's bits are overlaid whatever they were. -/
theorem overlaid_eq_of_apart {w : LateWord → Word} {l : List LateWord} {e : LateWord} (he : e ∈ l) {x y : Word}
    (h : ∀ i, e.mask.getLsbD i = false → x.getLsbD i = y.getLsbD i) : overlaid w l e.addr x = overlaid w l e.addr y := by
  induction l generalizing x y with
  | nil => cases he
  | cons d l ih =>
    simp only [overlaid, List.foldl_cons]
    rcases List.mem_cons.1 he with rfl | hmem
    · rw [if_pos rfl, if_pos rfl, takeBits_eq_of_apart _ h]
    · refine ih hmem fun i hi => ?_
      split
      · simp only [getLsbD_takeBits, h i hi]
      · exact h i hi

/-- With one word to take from, a bit is taken where some mask covers it. -/
theorem getLsbD_overlaid (l : List LateWord) (a : Nat) (y x : Word) (i : Nat) :
    (overlaid (fun _ => y) l a x).getLsbD i = if ∃ d ∈ l, d.addr = a ∧ d.mask.getLsbD i then y.getLsbD i else x.getLsbD i := by
  induction l generalizing x with
  | nil => simp [overlaid]
  | cons d l ih =>
    rw [overlaid, List.foldl_cons, ← overlaid, ih]
    by_cases hd : d.addr = a <;> by_cases hm : d.mask.getLsbD i = true <;> simp [hd, hm, getLsbD_takeBits]

/-- Overlaying a word of which a waiting word's bits were changed changes those bits alone. -/
theorem overlaid_takeBits {l : List LateWord} {e : LateWord} (he : e ∈ l) (x y v : Word) :
    overlaid (fun _ => takeBits e.mask y v) l e.addr x = takeBits e.mask (overlaid (fun _ => y) l e.addr x) v := by
  refine BitVec.eq_of_getLsbD_eq fun i _ => ?_
  rw [getLsbD_overlaid, getLsbD_takeBits, getLsbD_takeBits, getLsbD_overlaid]
  by_cases hm : e.mask.getLsbD i = true
  · have hcover : ∃ d ∈ l, d.addr = e.addr ∧ d.mask.getLsbD i := ⟨e, he, rfl, hm⟩
    simp [hm, hcover]
  · simp [hm]

/-! ### The settings in force, and putting back -/

/-- Every waiting word takes its bits of the register file from `w`. -/
def overlay (w : LateWord → Word) (l : List LateWord) (s : State) : State :=
  l.foldl (fun s d => s.setReg d.addr (takeBits d.mask (s.getReg d.addr) (w d))) s

theorem overlay_getReg (w : LateWord → Word) (l : List LateWord) (a : Nat) : (overlay w l s).getReg a = overlaid w l a (s.getReg a) := by
  induction l generalizing s with
  | nil => rfl
  | cons d l ih =>
    refine ih.trans (congrArg (overlaid w l a) ?_)
    rw [getReg_setReg]
    by_cases h : d.addr = a
    · subst h; simp
    · simp [h, Ne.symm h]

theorem overlay_eq (w : LateWord → Word) (l : List LateWord) : overlay w l s = { s with regs := (overlay w l s).regs } := by
  induction l generalizing s with
  | nil => rfl
  | cons d l ih => exact ih

theorem inForce_getReg (a : Nat) : s.inForce.getReg a = s.inForceReg a := overlay_getReg _ _ a

theorem inForce_eq : s.inForce = { s with regs := s.inForce.regs } := overlay_eq _ _

theorem inForce_late : s.inForce.dev.late = s.dev.late := by rw [inForce_eq]

theorem putBack_eq : t.putBack s = { t with regs := (t.putBack s).regs } := overlay_eq _ _

theorem putBack_of_late_nil (h : t.dev.late = []) : t.putBack s = t := by simp [putBack, h]

/-- What a register reads after the putting back: the waiting words' bits as they were written before. -/
theorem putBack_getReg (a : Nat) : (t.putBack s).getReg a = overlaid (fun _ => s.getReg a) t.dev.late a (t.getReg a) := by
  refine (overlay_getReg _ _ a).trans ?_
  unfold overlaid
  refine congrFun (congrFun (congrArg _ (funext fun x => funext fun d => ?_)) _) _
  split
  · rename_i h; exact congrArg (fun b => takeBits d.mask x (s.getReg b)) h
  · rfl

theorem canonical_inForce (h : Canonical s) : Canonical s.inForce := (ok_inForce ok_refl).1 h

theorem canonical_setReg (h : Canonical s) (a : Nat) (w : Word) : Canonical (s.setReg a w) := (ok_setReg ok_refl).1 h

/-! ### A waiting setting written otherwise -/

/-- The state in which the waiting bits of `e` were written from `v`. -/
def rewritten (s : State) (e : LateWord) (v : Word) : State := s.setReg e.addr (takeBits e.mask (s.getReg e.addr) v)

theorem rewritten_getReg (e : LateWord) (v : Word) (a : Nat) :
    (rewritten s e v).getReg a = if a = e.addr then takeBits e.mask (s.getReg a) v else s.getReg a := by
  rw [rewritten, getReg_setReg]
  split
  · rename_i h; rw [h]
  · rfl

/-- What is in force does not depend on what was written to the waiting bits. -/
theorem inForce_rewritten {e : LateWord} (hs : Canonical s) (he : e ∈ s.dev.late) (v : Word) : (rewritten s e v).inForce = s.inForce := by
  have hregs : (rewritten s e v).inForce.regs = s.inForce.regs := by
    refine regs_eq_of_getReg (canonical_inForce (canonical_setReg hs _ _)) (canonical_inForce hs) fun a => ?_
    refine (overlay_getReg _ _ a).trans (Eq.trans ?_ (overlay_getReg _ _ a).symm)
    change overlaid _ s.dev.late a ((rewritten s e v).getReg a) = _
    rw [rewritten_getReg]
    split
    · rename_i h
      subst h
      exact overlaid_eq_of_apart he fun i hi => by rw [getLsbD_takeBits, hi]; rfl
    · rfl
  rw [inForce_eq, inForce_eq (s := s), hregs]
  rfl

/-- Putting back after the same body shows the waiting bits as they were written each time. -/
theorem putBack_rewritten_getReg {e : LateWord} (he : e ∈ t.dev.late) (v : Word) (a : Nat) :
    (t.putBack (rewritten s e v)).getReg a = if a = e.addr then takeBits e.mask ((t.putBack s).getReg a) v else (t.putBack s).getReg a := by
  simp only [putBack_getReg, rewritten_getReg]
  split
  · rename_i h
    subst h
    exact overlaid_takeBits he _ _ v
  · rfl

/-- A command that runs on the settings in force: its next states from the two ways of writing a waiting setting differ in that setting's bits alone. -/
theorem heldKeeps_waits {c : Instr} (hc : HeldKeeps c) (e : LateWord) (v : Word) (hs : Canonical s) (he : e ∈ s.dev.late) :
    ∃ t u, exec c s = .next t ∧ exec c (rewritten s e v) = .next u ∧ u = { t with regs := u.regs } ∧
      ∀ a, u.getReg a = if a = e.addr ∧ e ∈ t.dev.late then takeBits e.mask (t.getReg a) v else t.getReg a := by
  obtain ⟨f, hf, hkeeps⟩ := hc
  obtain ⟨t, ht, hlate⟩ := hkeeps s.inForce
  rw [inForce_late] at hlate
  have hne : s.dev.late ≠ [] := List.ne_nil_of_mem he
  have hrun : exec c s = .next (t.putBack s) := by rw [hf, heldRun, if_neg hne, ht]
  have hrun' : exec c (rewritten s e v) = .next (t.putBack (rewritten s e v)) := by
    rw [hf, heldRun, inForce_rewritten hs he, ht]
    exact if_neg hne
  refine ⟨_, _, hrun, hrun', ?_, fun a => ?_⟩
  · rw [putBack_eq, putBack_eq (s := s)]
  · have hdev : (t.putBack s).dev.late = t.dev.late := by rw [putBack_eq]
    rw [hdev]
    rcases hlate with hkept | hlost
    · have het : e ∈ t.dev.late := hkept ▸ he
      simp only [putBack_rewritten_getReg het v a, het, and_true]
    · simp [putBack_of_late_nil hlost, hlost]

/-! ### The two boundaries -/

/-- The shelf cycle's time lets the settings of the shelf pages take effect (R42). -/
theorem cycleTime_late : s.cycleTime.dev.late = s.dev.late.filter (fun e => setBoundary e.addr) := by
  simp only [cycleTime, updShelf_late, late_ite, peerAges_late, tbGlide_late, pllStep_late, ite_self]

theorem shelfCycleBoundary_late (c : CycleIn) {e : LateWord} (he : e ∈ (s.cycleTime.sdmaPolicy.shelfCycle c).dev.late) :
    e ∈ s.dev.late ∧ setBoundary e.addr = true := by
  have hkept : LateKept s.cycleTime.dev.late (s.cycleTime.sdmaPolicy.shelfCycle c).dev.late := by
    simp only [shelfCycle_late, sdmaPolicy_late, lateKept_ite, lateKept_nil, lateKept_self, ite_self]
  rcases hkept with h | h
  · rw [h, cycleTime_late] at he
    exact List.mem_filter.1 he
  · rw [h] at he
    cases he

/-! ### A write of SHELF.V_REF -/

theorem regAt_vRef : RegAt SHELF.V_REF .shelf 0 0 := by decide

/-- SHELF.V_REF is one RW field of 32 bits (chapter 8). -/
def vRefReg : RegDef := ⟨0x28, 0, 1, [.mkRW 0 32]⟩

theorem pageKind_vRef : pageKind (SHELF.V_REF / 0x1000) = some (.shelf, 0) := by rfl

theorem findReg_vRef : findReg (SHELF.V_REF / 0x1000) (SHELF.V_REF % 0x1000) = some (vRefReg, 0, 0) := by rfl

theorem homeOf_vRef : s.homeOf (SHELF.V_REF / 0x1000) (SHELF.V_REF % 0x1000) = SHELF.V_REF :=
  (if_neg (by decide)).trans (if_neg (by decide))

theorem mergeWord_vRef (old v : Word) : s.mergeWord vRefReg 0 0 old v = v := by
  have hv : v.toNat < 4294967296 := v.isLt
  simp [mergeWord, vRefReg, FieldDef.mkRW, clampField, withBits, bitsOf, Nat.mod_eq_of_lt hv]

theorem writtenWord_vRef (r : Requester) (a : Nat) (old v : Word) : s.writtenWord r .shelf vRefReg 0 0 a old v = v := by
  simp only [writtenWord, mergeWord_vRef, reduceCtorEq, false_and, ↓reduceIte]
  simp [vRefReg, FieldDef.mkRW]

theorem rwMask_vRef : vRefReg.rwMask 0 0 = BitVec.allOnes 32 := by decide

theorem takeBits_allOnes (w v : Word) : takeBits (BitVec.allOnes 32) w v = v :=
  BitVec.eq_of_getLsbD_eq fun i hi => by rw [getLsbD_takeBits, BitVec.getLsbD_allOnes, decide_eq_true hi, if_pos rfl]

theorem ownerTouch_late {r : Requester} (p : Nat) : (s.ownerTouch p r).dev.late = s.dev.late := by
  unfold ownerTouch
  split <;> rfl

theorem noteLate_getReg (k : PageKind) (d : RegDef) (n i h : Nat) (old : Word) (a : Nat) :
    (s.noteLate k d n i h old).getReg a = s.getReg a := by
  simp only [noteLate]
  split <;> rfl

/-- A setting that a write has changed waits from now on, with the word before (R42). -/
theorem noteLate_late_changed {k : PageKind} {d : RegDef} {n i h : Nat} {old : Word} (hk : lateKind k) (hl : s.dev.late = [])
    (hne : s.getReg h &&& d.rwMask n i ≠ old &&& d.rwMask n i) : (s.noteLate k d n i h old).dev.late = [⟨h, d.rwMask n i, old⟩] := by
  simp [noteLate, hk, hl, hne]

/-- A write of SHELF.V_REF as the fabric stores it (R40, R42). -/
theorem stored_vRef (s : State) (r : Requester) (v : Word) : Stored s r SHELF.V_REF v.toNat =
    (((s.ownerTouch pSHELF r).setReg SHELF.V_REF v).noteLate .shelf vRefReg 0 0 SHELF.V_REF (s.getReg SHELF.V_REF)).countChg pSHELF := by
  simp only [Stored, pageKind_vRef, findReg_vRef, homeOf_vRef, writtenWord_vRef, BitVec.ofNat_toNat, BitVec.setWidth_eq]
  rfl

theorem stored_vRef_getReg (s : State) (r : Requester) (v : Word) : (Stored s r SHELF.V_REF v.toNat).getReg SHELF.V_REF = v := by
  rw [stored_vRef, countChg, incWrap, getReg_setF_ne _ (by decide), noteLate_getReg, getReg_setReg_self]

/-- The write starts nothing. -/
theorem wordActs_vRef (s : State) (r : Requester) (v old : Word) : s.wordActs r .shelf 0 0 SHELF.V_REF v old = s := by
  simp [wordActs]

/-- A write that changes SHELF.V_REF leaves the whole old word waiting. -/
theorem stored_vRef_late {r : Requester} {v : Word} (hv : s.getReg SHELF.V_REF ≠ v) (hl : s.dev.late = []) :
    (Stored s r SHELF.V_REF v.toNat).dev.late = [⟨SHELF.V_REF, BitVec.allOnes 32, s.getReg SHELF.V_REF⟩] := by
  rw [stored_vRef, countChg_late, noteLate_late_changed rfl (by rw [setReg_late, ownerTouch_late, hl]), rwMask_vRef]
  rw [rwMask_vRef, BitVec.and_allOnes, BitVec.and_allOnes, getReg_setReg_self]
  exact hv.symm

/-- Settles O59: the held commands by `heldKeeps_waits`, the two boundaries by the words they keep waiting, the write of SHELF.V_REF by what the fabric stores. That a read shows the written value before the boundary is the model's choice (log entry 5). -/
theorem settingsWaitForTheirBoundary : Obligations.SettingsWaitForTheirBoundary := by
  unfold Obligations.SettingsWaitForTheirBoundary
  refine ⟨fun c e v s hc hs he => heldKeeps_waits (heldKeeps_of_readsSettings hc) e v hs he, fun c s hop => ?shelfCycle,
    fun c o s hop hset htaken hat => ?sampleSet, fun r v s hacc hne hl => ?write⟩
  case shelfCycle => exact ⟨_, exec_shelfCycleBoundary_operating c hop, fun e he => shelfCycleBoundary_late c he⟩
  case sampleSet =>
    have hexec : exec (.sampleInstant c) s = execSampleInstant c s := rfl
    simp only [Goes, hexec, execSampleInstant, hset, hop, htaken, hat, and_self, ↓reduceIte]
    refine ⟨_, rfl, fun e he => ?_⟩
    have hwaits : e ∈ (s.settle setBoundary).dev.late := by simpa only [updSample_late, updShelf_late] using he
    simpa [settle] using hwaits
  case write =>
    have hw := (hostWrite_accepted hacc regAt_vRef).trans (wordActs_vRef _ r _ _)
    refine ⟨_, congrArg Host.Outcome.next hw, stored_vRef_getReg s r v, ?_⟩
    simp only [inForceReg, stored_vRef_late hne hl, List.foldl_cons, List.foldl_nil, ↓reduceIte, takeBits_allOnes]

end Sys2Proof.Proofs
end

section
/-! SUPPORT. Two statements that a state refutes: REGION_PWR where the page state of CLKPWR reads OFF (R38, R87), and INHIBIT_CLR at a boundary that enters hold-up (R63, R265, Table 3-3). -/

namespace Sys2Proof.Proofs

open Machine Machine.State Laws

/-- RUN with region HV starting again, and a page state of CLKPWR that reads OFF. -/
def clkpwrOff : State :=
  { (State.reset.setF DEV.MODE_STAT_MODE mRUN).setF (pgStatState (CLKPWR.REGION_PWR / 0x1000)) psOFF with
    dev := { DevSt.rest with regionDown := [.hv] } }

/-- A register of an OFF page reads its Reset (R38), and CLKPWR is no exception: REGION_PWR shows no region as starting. -/
theorem clkpwrOff_regionPwr : clkpwrOff.viewWord (CLKPWR.REGION_PWR / 0x1000) (CLKPWR.REGION_PWR % 0x1000) = resetWord CLKPWR.REGION_PWR := by
  decide +kernel

/-- Refutes O35: nothing in its clause on REGION_PWR keeps the page state of CLKPWR from reading OFF, and a register of an OFF page reads its Reset, 0. -/
theorem not_resetsAndAscent : ¬ Obligations.ResetsAndAscent := by
  unfold Obligations.ResetsAndAscent
  rintro ⟨-, -, -, -, -, -, -, hstarting, -⟩
  have hone := hstarting .hv clkpwrOff (by decide +kernel) (by decide +kernel) rfl
  rw [clkpwrOff_regionPwr] at hone
  exact absurd hone (by decide +kernel)

/-- DEGRADED after a SAFE fault without its ACK, and a HOLD of the plant announced: HOLDUP runs, slot 0 regulates and slot 1, the slot of role HOLD, may take over. -/
def holdDue : State :=
  ([(DEV.MODE_STAT_MODE, mDEGRADED), (DEV.MODE_STAT_SHELF_INHIBIT, 1), (pgStatState pHOLDUP, psRUNNING), (pgStatState (pVSLOT 0), psRUNNING),
    (HOLDUP.HU_CFG_PLANT_EN, 1), (VSLOT.SLOT_CFG_EN 0, 1), (VSLOT.SLOT_CFG_EN 1, 1), (VSLOT.SLOT_CTRL_MODE 0, 0), (SHELF.REG_STAT_ACT_SLOT, 0), (SHELF.ROLE_HOLD, 1)].foldl
      (fun (s : State) x => s.setF x.1 x.2) { State.reset with dev := { DevSt.rest with ackSinceSafe := false } }).updShelf (fun x => { x with huReqPlant := true })

theorem holdDue_huComes : holdDue.huComes = true := by decide +kernel

theorem holdDue_accepts : Accepts holdDue .firmware DEV.MODE_CTRL (modeWord 0xC5 5) := by decide +kernel

/-- The entry of the coming boundary comes before the request (Table 3-3): the answer is REFUSED_MODE. -/
theorem holdDue_inhibitClr : (holdDue.hostWrite .firmware DEV.MODE_CTRL (BitVec.ofNat 32 (modeWord 0xC5 5))).getF DEV.MODE_STAT_RESULT = mrMODE := by
  decide +kernel

/-- Refutes O53: in DEGRADED without an ACK, a request that meets a hold-up entry due at the coming boundary (`holdDue_huComes`) answers REFUSED_MODE in place of REFUSED_FAULT. -/
theorem not_inhibitClearRefused : ¬ Obligations.InhibitClearRefused := by
  unfold Obligations.InhibitClearRefused
  intro h
  obtain ⟨t, ht, hsets⟩ := h .firmware (modeWord 0xC5 5) holdDue rfl holdDue_accepts (by decide +kernel) rfl (.inl (by decide +kernel)) (.inl rfl)
  obtain rfl : holdDue.hostWrite .firmware DEV.MODE_CTRL (BitVec.ofNat 32 (modeWord 0xC5 5)) = t := Host.Outcome.next.inj ht
  have hfault := hsets.reads (DEV.MODE_STAT_RESULT, mrFAULT) (by simp)
  rw [holdDue_inhibitClr] at hfault
  exact absurd hfault (by decide)

end Sys2Proof.Proofs
end

section
/-! SUPPORT. A source raised at severity 2 or below, with room in the recorder (R421, R422, R429, R494): the raise is its log alone, which stays in FCOL and CAIRN. -/

namespace Sys2Proof.Proofs

open Machine Machine.State Laws

variable {s t : State}

/-! ### The severity at which a raise reacts -/

/-- Sources 16 to 63 react to DATA byte 0 whatever their severity (R124); any other reacts as configured up to 2. -/
theorem effSev_of_le_two {cfg src : Nat} {d : List Nat} (hcfg : cfg ≤ 2) (hsrc : src < 16 ∨ 64 ≤ src) : effSev cfg src d .plain = cfg := by
  have hport : ¬ (16 ≤ src ∧ src < 64 ∧ src % 2 = 0 ∧ d.getD 0 0 = 3) := by omega
  have hmin : min cfg 5 = cfg := by omega
  simp only [effSev, hmin, hport, ↓reduceIte, reduceCtorEq, show ¬ (src = 1 ∧ cfg = 3) by omega, show ¬ (cfg = 3 ∧ unitOf src d = .none) by omega]

/-! ### What the log of a raise may change -/

/-- The registers of FCOL but the conditions, and those of CAIRN. -/
abbrev LogReg (a : Nat) : Prop := a / 0x1000 = pFCOL ∧ (a < FCOL.COND 0 ∨ FCOL.EVT 0 ≤ a) ∨ a / 0x1000 = pCAIRN

/-- `t` is `s` with entries in the logs: those registers, the recorder with the clear of R498 left alone, at most one record more, and the mark of the image trial. -/
structure Logged (s t : State) : Prop where
  regs : RegsKept LogReg s t
  rest : t = { s with regs := t.regs, cairn := t.cairn, img := t.img }
  clear : t.cairn.clearSeq = s.cairn.clearSeq

theorem logged_refl : Logged s s := ⟨fun _ _ => rfl, rfl, rfl⟩

theorem logged_setReg (h : Logged s t) {a : Nat} (w : Word) (ha : LogReg a := by decide) : Logged s (t.setReg a w) :=
  ⟨regsKept_setReg h.regs ha w, congrArg (State.setReg · a w) h.rest, h.clear⟩

theorem logged_setF (h : Logged s t) {f : Fld} (v : Nat) (hf : LogReg f.addr := by decide) : Logged s (t.setF f v) := logged_setReg h _ hf

theorem logged_ite {c : Prop} [Decidable c] {t' : State} (h : Logged s t) (h' : Logged s t') : Logged s (if c then t else t') := by
  split <;> assumption

theorem logged_cairn (h : Logged s t) {x : CairnSt} (hx : x.clearSeq = t.cairn.clearSeq := by rfl) : Logged s { t with cairn := x } :=
  ⟨h.regs, congrArg (fun (u : State) => { u with cairn := x }) h.rest, hx.trans h.clear⟩

theorem logged_img (h : Logged s t) (x : ImgSt) : Logged s { t with img := x } :=
  ⟨h.regs, congrArg (fun (u : State) => { u with img := x }) h.rest, h.clear⟩

section Reads

variable (h : Logged s t)
include h

theorem Logged.getF {f : Fld} (hf : ¬ LogReg f.addr) : t.getF f = s.getF f := getF_of_regsKept h.regs hf
theorem Logged.getB {f : Fld} (hf : ¬ LogReg f.addr) : t.getB f = s.getB f := by simp only [State.getB, h.getF hf]
theorem Logged.dev : t.dev = s.dev := by rw [h.rest]
theorem Logged.mem : t.mem = s.mem := by rw [h.rest]
theorem Logged.shelf : t.shelf = s.shelf := by rw [h.rest]
theorem Logged.isPair : t.isPair = s.isPair := by simp only [State.isPair, h.dev]
theorem Logged.getCond {src : Nat} (hs : src < 256) : t.getCond src = s.getCond src := by
  have ha : ¬ LogReg (FCOL.COND (src / 32)) := by simp only [LogReg, FCOL.COND, FCOL.EVT, pFCOL, pCAIRN]; omega
  simp only [State.getCond, State.getBit, h.regs _ ha]

end Reads

/-! ### The parts of the log -/

theorem logged_traceAdd (h : Logged s t) (src sev kind : Nat) (nested : Bool) (d : List Nat) : Logged s (t.traceAdd src sev kind nested d) :=
  logged_setF (logged_setF (logged_cairn h) _) _

theorem logged_collect (h : Logged s t) (src sev : Nat) : Logged s (t.collect src sev) := by
  refine logged_setF ?_ _
  have hfirst : Logged s (if t.getB FCOL.FCOL_STAT_HANDLING then t.incSat FCOL.FCOL_STAT_NEST_COUNT else if 3 ≤ sev then
      ((t.setF FCOL.FCOL_FIRST_SRC src).setF FCOL.FCOL_FIRST_SEV sev).setF FCOL.FCOL_STAT_HANDLING 1 else t) :=
    logged_ite (logged_setF h _) (logged_ite (logged_setF (logged_setF (logged_setF h _) _) _) h)
  exact logged_ite (logged_img hfirst _) hfirst

theorem logged_cairnShow (h : Logged s t) : Logged s t.cairnShow :=
  logged_setF (logged_setF (logged_setReg (logged_setF (logged_setF h _) _) _) _) _

theorem logged_cairnAccept (h : Logged s t) (src sev kind flags : Nat) (d : List Nat) : Logged s (t.cairnAccept src sev kind flags d) :=
  logged_cairnShow (logged_setF (logged_setReg (logged_cairn h) _) _)

theorem logged_cairnStage (h : Logged s t) (src sev kind : Nat) (nested : Bool) (d : List Nat) : Logged s (t.cairnStage src sev kind nested d) := by
  have hlose : Logged s t.cairnLose := logged_setReg h _
  unfold cairnStage
  dsimp only
  exact logged_ite (logged_setF (logged_cairn h) _) (logged_ite hlose (logged_ite (logged_cairnAccept h _ _ _ _ _)
    (logged_ite (logged_cairnAccept h _ _ _ _ _) hlose)))

/-- Host event bits lie in EVT0 to EVT3. -/
theorem logReg_evt {e : Nat} (he : e < 2 ^ 7) : LogReg (FCOL.EVT (e / 32)) := by
  simp only [LogReg, FCOL.COND, FCOL.EVT, pFCOL, pCAIRN]; omega

theorem logged_setEvt (h : Logged s t) (src : Nat) : Logged s (t.setEvt src) :=
  logged_ite (logged_setF h _ (logReg_evt (getF_lt t _))) h

theorem logged_setAct (h : Logged s t) {src : Nat} (hs : src < 256) (b : Bool) : Logged s (t.setAct src b) :=
  logged_setF h _ (by simp only [LogReg, FCOL.ACT, FCOL.COND, FCOL.EVT, pFCOL, pCAIRN]; omega)

theorem logged_logRaise (h : Logged s t) (src sev : Nat) (d : List Nat) (how : RaiseHow) : Logged s (t.logRaise src sev d how) := by
  have htrace := logged_traceAdd h src sev (if how = .injected then kINJECTED else kFAULT) (t.getB FCOL.FCOL_STAT_HANDLING) d
  have hcollect := logged_collect htrace src sev
  have hstage := logged_ite (c := how = .noRecord) hcollect
    (logged_cairnStage hcollect src sev (if how = .injected then kINJECTED else kFAULT) (t.getB FCOL.FCOL_STAT_HANDLING) d)
  exact logged_ite htrace (logged_ite (logged_setEvt hstage src) hstage)

/-! ### The recorder's fill -/

theorem cairnN_cairnAccept (src sev kind flags : Nat) (d : List Nat) : (s.cairnAccept src sev kind flags d).cairnN = s.cairnN + 1 := by
  simp only [cairnAccept, cairnShow, setB, setN, cairnN, setF_cairn, setReg_cairn, List.length_append, List.length_singleton, Nat.add_assoc]

/-- A repeat takes the place of the last staged record. -/
theorem length_repeatLast {l : List CairnRec} (f : CairnRec → CairnRec) :
    (match l.getLast? with | some x => l.dropLast ++ [f x] | none => l).length = l.length := by
  cases l using List.reverseRecOn <;> simp

theorem cairnN_cairnStage (src sev kind : Nat) (nested : Bool) (d : List Nat) : (s.cairnStage src sev kind nested d).cairnN ≤ s.cairnN + 1 := by
  have hrepeat := congrArg (s.cairn.nv.length + ·)
    (length_repeatLast (l := s.cairn.staged) (fun (x : CairnRec) => { x with rep := min (s.getF CAIRN.LAST_REPEAT_REPEAT + 1) 65535 }))
  unfold cairnStage
  dsimp only
  generalize (match s.cairnLast with
    | some l => _
    | none => _) = rep
  split_ifs
  · exact hrepeat.trans_le (Nat.le_succ _)
  exacts [Nat.le_succ _, (cairnN_cairnAccept _ _ _ _ _).le, (cairnN_cairnAccept _ _ _ _ _).le, Nat.le_succ _]

theorem cairnN_collect (src sev : Nat) : (s.collect src sev).cairnN = s.cairnN := by
  simp only [collect, cairnN, setF_cairn]
  split_ifs <;> rfl

theorem cairnN_setEvt (src : Nat) : (s.setEvt src).cairnN = s.cairnN := by
  unfold setEvt
  split <;> rfl

theorem cairnN_traceAdd (src sev kind : Nat) (nested : Bool) (d : List Nat) : (s.traceAdd src sev kind nested d).cairnN = s.cairnN := rfl

theorem cairnN_logRaise (src sev : Nat) (d : List Nat) (how : RaiseHow) : (s.logRaise src sev d how).cairnN ≤ s.cairnN + 1 := by
  have hcollect (kind : Nat) (nested : Bool) : ((s.traceAdd src sev kind nested d).collect src sev).cairnN = s.cairnN :=
    (cairnN_collect _ _).trans (cairnN_traceAdd _ _ _ _ _)
  have hstage (kind : Nat) (nested : Bool) : (((s.traceAdd src sev kind nested d).collect src sev).cairnStage src sev kind nested d).cairnN ≤ s.cairnN + 1 :=
    (cairnN_cairnStage _ _ _ _ _).trans_eq (congrArg (· + 1) (hcollect _ _))
  simp only [logRaise]
  split_ifs <;> simp only [cairnN_setEvt, cairnN_traceAdd, hcollect, hstage, Nat.le_succ]

/-! ### The raise -/

/-- What such a raise meets: a severity up to 2, no fence of R124, and a recorder below its reserve before and after. -/
structure Quiet (s : State) (src : Nat) : Prop where
  sev : s.getF (FCOL_SEV.SEV_SEV src) ≤ 2
  source : src < 16 ∨ 64 ≤ src
  bound : src < 256
  fill : s.cairnN + 1 < 32704

/-- The state that a quiet raise answers. -/
abbrev quietLog (s : State) (src : Nat) (d : List Nat) : State := (s.setAct src true).logRaise src (s.getF (FCOL_SEV.SEV_SEV src)) d .plain

theorem raiseN_of_quiet (n : Nat) {src : Nat} (h : Quiet s src) (d : List Nat) : raiseN (n + 1) s src d .plain = quietLog s src d := by
  obtain ⟨hsev, hsrc, hbound, hfill⟩ := h
  have hcfg : (s.setAct src true).getF (FCOL_SEV.SEV_SEV src) = s.getF (FCOL_SEV.SEV_SEV src) :=
    getF_setF_addr (by simp only [FCOL_SEV.SEV, FCOL.ACT]; omega) _
  have hn : (quietLog s src d).cairnN < 32704 := lt_of_le_of_lt (cairnN_logRaise _ _ _ _) hfill
  have hport : ¬ (16 ≤ src ∧ src < 64 ∧ src % 2 = 0 ∧ d.getD 0 0 = 3) := by omega
  rw [raiseN, hcfg, effSev_of_le_two hsev hsrc]
  simp only [show ¬ 3 ≤ s.getF (FCOL_SEV.SEV_SEV src) by omega, show ¬ 4 ≤ s.getF (FCOL_SEV.SEV_SEV src) by omega,
    show ¬ s.getF (FCOL_SEV.SEV_SEV src) = 5 by omega, hport, show ¬ 32704 ≤ (quietLog s src d).cairnN by omega,
    show ¬ 32768 ≤ (quietLog s src d).cairnN by omega, false_and, and_false, or_false, ↓reduceIte]

theorem raise_of_quiet {src : Nat} (h : Quiet s src) (d : List Nat) : s.raise src d = quietLog s src d := raiseN_of_quiet 7 h d

theorem logged_raise {src : Nat} (h : Quiet s src) (d : List Nat) : Logged s (s.raise src d) := by
  rw [raise_of_quiet h]
  exact logged_logRaise (logged_setAct logged_refl h.bound true) _ _ _ _

theorem cairnN_raise {src : Nat} (h : Quiet s src) (d : List Nat) : (s.raise src d).cairnN ≤ s.cairnN + 1 := by
  rw [raise_of_quiet h]
  exact cairnN_logRaise _ _ _ _

end Sys2Proof.Proofs
end

section
/-! SUPPORT. The Ridge link of a pair (chapter 15): its ups and downs, copies, HELLO, YIELD, shadow reports and relayed frames. -/

namespace Sys2Proof.Sets

open Machine Machine.State Laws

variable {s t : State} {l : List (Fld × Nat)}

/-- One more field at the end of the list, where its conditions evaluate. -/
theorem field (h : Sets s t l) (f : Fld) (v : Nat) (hv : v < 2 ^ f.w := by decide)
    (hl : ∀ x ∈ l, x.1.lo + x.1.w ≤ 32 ∧ Apart x.1 f := by simp [Apart]) (hw : f.lo + f.w ≤ 32 := by decide) : Sets s (t.setF f v) (l ++ [(f, v)]) :=
  sets_of_mem_iff (sets_setF h hw hl hv) (by simp; tauto)

/-- A field apart from those in the list reads as before, where that evaluates. -/
theorem kept (h : Sets s t l) (g : Fld) (ha : ∀ x ∈ l, Apart g x.1 := by simp [Apart]) (hw : g.lo + g.w ≤ 32 := by decide) :
    t.getF g = s.getF g := h.keeps g hw ha

end Sys2Proof.Sets

namespace Sys2Proof.Proofs

open Machine Machine.State Laws

variable {s t : State}

/-- A raise, after the fields set. -/
theorem goesRaise_of_eq {i : Instr} {u v : State} {l : List (Fld × Nat)} {src : Nat} {d : List Nat} (he : exec i s = .next (v.raise src d))
    (h : Sets u v l) : GoesRaise i s u l src d := ⟨_, he, v, h, rfl⟩

/-! ### Link, beacons and grid -/

theorem powered_of_isStandby (h : s.isStandby) : s.powered ∧ s.isPair := by
  simp only [isStandby, Bool.and_eq_true, Bool.or_eq_true, beq_iff_eq] at h
  obtain ⟨⟨hpair, -⟩, hmode⟩ := h
  refine ⟨?_, hpair⟩
  rcases hmode with hm | hm <;> simp [powered, hm]

theorem not_active_of_isStandby (h : s.isStandby) : s.getB RIDGE.PAIR_STAT_ACTIVE = false := by
  simp only [isStandby, Bool.and_eq_true, Bool.not_eq_true'] at h
  exact h.1.2

/-- Without the link no revert is due (R467). -/
theorem revertStep_of_link_down (h : s.getB RIDGE.PAIR_STAT_LINK = false) :
    s.revertStep = ((s.updPair (fun x => { x with revertFrom := none })).setF RIDGE.PAIR_STAT_REVERT_PEND 0).setF RIDGE.REVERT_LEFT_S 0 := by
  simp [revertStep, revertOk, h]

/-- LINK, GRID_LOCK and PARTNER_HEALTHY as a lost link leaves them. -/
abbrev linkDown (s : State) : State :=
  ((s.setF RIDGE.PAIR_STAT_LINK 0).setF RIDGE.PAIR_STAT_GRID_LOCK 0).setF RIDGE.PAIR_STAT_PARTNER_HEALTHY 0

theorem sets_linkDown_revertStep : Sets (s.updPair (fun x => { x with revertFrom := none })) (linkDown s).revertStep
    [(RIDGE.PAIR_STAT_LINK, 0), (RIDGE.PAIR_STAT_GRID_LOCK, 0), (RIDGE.PAIR_STAT_PARTNER_HEALTHY, 0), (RIDGE.PAIR_STAT_REVERT_PEND, 0),
      (RIDGE.REVERT_LEFT_S, 0)] := by
  rw [revertStep_of_link_down (by simp [linkDown, getB, getF_setF_bits, getF_setF_self])]
  exact ((((sets_refl (s := s.updPair (fun x => { x with revertFrom := none }))).field RIDGE.PAIR_STAT_LINK 0).field RIDGE.PAIR_STAT_GRID_LOCK 0).field
    RIDGE.PAIR_STAT_PARTNER_HEALTHY 0).field RIDGE.PAIR_STAT_REVERT_PEND 0 |>.field RIDGE.REVERT_LEFT_S 0

/-- A quiet raise stays quiet where other fields are set, and where nothing beside them has been recorded. -/
theorem Quiet.of_sets {src : Nat} {u : State} {l : List (Fld × Nat)} (h : Quiet s src) (hu : Sets u t l)
    (ha : ∀ x ∈ l, Apart (FCOL_SEV.SEV_SEV src) x.1) (hsev : u.getF (FCOL_SEV.SEV_SEV src) = s.getF (FCOL_SEV.SEV_SEV src) := by rfl)
    (hn : u.cairnN = s.cairnN := by rfl) : Quiet t src where
  sev := ((hu.keeps _ (by decide : 0 + 3 ≤ 32) ha).trans hsev).trans_le h.sev
  source := h.source
  bound := h.bound
  fill := by rw [show t.cairnN = s.cairnN from (congrArg cairnN hu.rest).trans hn]; exact h.fill

/-- The link of a standby goes down: neither the token nor a broken ring adds anything (R448, R468). -/
theorem ridgeDown_of_isStandby (h : s.isStandby) (hlow : s.getB RIDGE.PAIR_STAT_BELAY_LOW = false) (hq : Quiet s 208) :
    s.ridgeDown = (linkDown s).revertStep.raise 208 [1] := by
  have hsets := sets_linkDown_revertStep (s := s)
  have hlog := logged_raise (hq.of_sets hsets (by simp [Apart]; decide)) [1]
  have hlow' : ((linkDown s).revertStep.raise 208 [1]).getB RIDGE.PAIR_STAT_BELAY_LOW = false := by
    rw [hlog.getB (by decide), getB, hsets.kept RIDGE.PAIR_STAT_BELAY_LOW]
    exact hlow
  have hact : ((linkDown s).revertStep.raise 208 [1]).isActive = false := by
    have hpair : ((linkDown s).revertStep.raise 208 [1]).isPair = true :=
      hlog.isPair.trans ((congrArg State.isPair hsets.rest).trans (powered_of_isStandby h).2)
    rw [isActive, if_pos hpair, hlog.getB (by decide), getB, hsets.kept RIDGE.PAIR_STAT_ACTIVE]
    exact not_active_of_isStandby h
  simp [ridgeDown, belayTaken, hlow', hact]

/-- A grid error within lock (R450). -/
theorem gridStep_of_locked {e : Int} (he : e.natAbs ≤ 10) : s.gridStep e =
    ((s.setF RIDGE.LINK_STAT_GRID_ERR (toBits 16 e)).updPair (fun x => { x with gridBad := 0 })).setF RIDGE.PAIR_STAT_GRID_LOCK 1 := by
  have hclamp : (if 32767 < e then 32767 else if e < -32768 then -32768 else e) = e := by
    rw [if_neg (by omega), if_neg (by omega)]
  simp only [gridStep, hclamp, he, ↓reduceIte]

theorem toBits_lt (w : Nat) (e : Int) : toBits w e < 2 ^ w := by
  have hpow := Nat.two_pow_pos w
  have hmod := Int.emod_lt_of_pos e (show (0 : Int) < (2 ^ w : Nat) by omega)
  have hnn := Int.emod_nonneg e (show ((2 ^ w : Nat) : Int) ≠ 0 by omega)
  simp only [toBits]
  omega

/-! ### Conditions that HELLO follows -/

section Cond

variable {src other : Nat}

theorem getLsbD_putBit_self {a i : Nat} (hi : i < 32) (b : Bool) : ((s.putBit a i b).getReg a).getLsbD i = b := by
  rw [putBit, getReg_setF, if_pos rfl, getLsbD_withBits _ _ _ _ _ hi, if_pos ⟨le_rfl, Nat.lt_succ_self i⟩, Nat.sub_self]
  cases b <;> rfl

theorem getCond_setCond_self (b : Bool) : (s.setCond src b).getCond src = b := getLsbD_putBit_self (Nat.mod_lt _ (by decide)) b

theorem getCond_setCond_ne (h : other ≠ src) (b : Bool) : (s.setCond src b).getCond other = s.getCond other := by
  by_cases ha : FCOL.COND (other / 32) = FCOL.COND (src / 32)
  · have hbit : ¬ (src % 32 ≤ other % 32 ∧ other % 32 < src % 32 + 1) := by simp only [FCOL.COND] at ha; omega
    simp only [getCond, getBit, setCond, putBit, getReg_setF, ha, ↓reduceIte, getLsbD_withBits _ _ _ _ _ (Nat.mod_lt other (by decide : 32 > 0)), hbit]
  · exact congrArg (·.getLsbD (other % 32)) (getReg_setF_ne (g := ⟨FCOL.COND (src / 32), src % 32, 1⟩) _ ha)

theorem getCond_setAct (hs : src < 256) (b : Bool) : (s.setAct src b).getCond other = s.getCond other :=
  congrArg (·.getLsbD (other % 32)) (getReg_setF_ne _ (by simp only [FCOL.COND, FCOL.ACT]; omega))

/-- The registers of the pages FCOL and CAIRN. -/
abbrev SignalReg (a : Nat) : Prop := a / 0x1000 = pFCOL ∨ a / 0x1000 = pCAIRN

/-- `t` is `s` with a source's condition brought to `on`, at most one record more, and nothing changed beside FCOL, the recorder and the mark of the image trial. -/
structure Followed (s t : State) (src : Nat) (on : Bool) : Prop where
  cond : t.getCond src = on
  others : ∀ other, other ≠ src → other < 256 → t.getCond other = s.getCond other
  regs : RegsKept SignalReg s t
  rest : t = { s with regs := t.regs, cairn := t.cairn, img := t.img }
  fill : t.cairnN ≤ s.cairnN + 1

/-- A condition that HELLO reports: it ends where it is present and `off` holds, and is raised where it is absent and `off` fails. -/
def helloCond (s : State) (src : Nat) (off : Prop) [Decidable off] (d : List Nat) : State :=
  if off then (if s.getCond src then s.endL src else s) else if s.getCond src then s else s.raiseL src d

/-- COND and ACT of a source lie in FCOL, and its severity in a page of its own. -/
theorem signalReg_cond (hs : src < 256) : SignalReg (FCOL.COND (src / 32)) := .inl (by simp only [FCOL.COND, pFCOL]; omega)
theorem signalReg_act (hs : src < 256) : SignalReg (FCOL.ACT (src / 32)) := .inl (by simp only [FCOL.ACT, pFCOL]; omega)

theorem followed_self {on : Bool} (h : s.getCond src = on) : Followed s s src on := ⟨h, fun _ _ _ => rfl, fun _ _ => rfl, rfl, Nat.le_succ _⟩

theorem followed_endL (hs : src < 256) : Followed s (s.endL src) src false where
  cond := (getCond_setAct hs false).trans (getCond_setCond_self false)
  others _ hne _ := (getCond_setAct hs false).trans (getCond_setCond_ne hne false)
  regs := regsKept_setF (regsKept_setF regsKept_refl (signalReg_cond hs) _) (signalReg_act hs) _
  rest := rfl
  fill := Nat.le_succ _

theorem followed_raiseL (h : Quiet s src) (d : List Nat) : Followed s (s.raiseL src d) src true := by
  have hb := h.bound
  have hq : Quiet (s.setCond src true) src :=
    ⟨(getF_setF_addr (by simp only [FCOL_SEV.SEV, FCOL.COND]; omega) _).trans_le h.sev, h.source, hb, h.fill⟩
  have hlog := logged_raise hq d
  refine ⟨(hlog.getCond hb).trans (getCond_setCond_self true), fun _ hne ho => (hlog.getCond ho).trans (getCond_setCond_ne hne true), fun a ha => ?_,
    hlog.rest, cairnN_raise hq d⟩
  exact (hlog.regs a fun hl => ha (hl.imp (fun hf => hf.1) id)).trans (regsKept_setF regsKept_refl (signalReg_cond hb) _ a ha)

theorem followed_helloCond (h : Quiet s src) (off : Prop) [Decidable off] (d : List Nat) : Followed s (helloCond s src off d) src (decide ¬ off) := by
  by_cases hoff : off <;> cases hc : s.getCond src <;> simp only [helloCond, hoff, hc, ↓reduceIte, Bool.false_eq_true, not_true, not_false_eq_true, decide_false,
    decide_true]
  exacts [followed_self hc, followed_endL h.bound, followed_raiseL h d, followed_self hc]

end Cond

/-! ### HELLO -/

section HelloExchange

variable {h : Hello} {own : Word}

/-- The partner's hash, mode and health, beside the own hash (R466, R467). -/
def partnerShown (s : State) (h : Hello) (own : Word) : State :=
  (((s.setReg RIDGE.CFG_HASH own).setReg RIDGE.PARTNER_HASH h.hash).setF RIDGE.PAIR_STAT_PARTNER_MODE h.mode.toNat).setB
    RIDGE.PAIR_STAT_PARTNER_HEALTHY h.healthy

/-- All that HELLO shows before the conditions follow. -/
def helloShown (s : State) (h : Hello) (own : Word) : State :=
  (((partnerShown s h own).setB RIDGE.PAIR_STAT_CFG_MATCH (own = h.hash)).setB RIDGE.PAIR_STAT_SELF_HEALTHY (partnerShown s h own).healthy).updPair
    (fun x => { x with partnerDrives := h.drivesBelay, partnerActive := h.active, partnerSusp := h.revertSusp })

/-- The configuration hash of this controller (R467). -/
def ownHash (s : State) : Word :=
  Config.cfgHash ((hashedIds.flatMap s.cfgEntries) ++ ((List.range 8).flatMap profWords).map (fun w => (w.addr, s.getReg w.addr)))

theorem exec_helloExchange (hp : s.powered) (hpair : s.isPair) (hl : s.getB RIDGE.PAIR_STAT_LINK) : exec (.helloExchange h) s =
    .next (helloCond (helloCond (helloShown s h (ownHash s)) 216 (ownHash s = h.hash) (leBytes 4 (ownHash s).toNat ++ leBytes 4 h.hash.toNat)) 212
      (h.healthy = true) [3]).revertStep :=
  if_pos ⟨hp, hpair, hl⟩

theorem toNat_lt_two (b : Bool) : b.toNat < 2 ^ 1 := by cases b <;> decide

/-- The pair's state that HELLO leaves. -/
abbrev helloPair (s : State) (h : Hello) : State :=
  s.updPair (fun x => { x with partnerDrives := h.drivesBelay, partnerActive := h.active, partnerSusp := h.revertSusp })

theorem sets_helloShown : Sets (helloPair s h) (helloShown s h own)
    [whole RIDGE.CFG_HASH own, whole RIDGE.PARTNER_HASH h.hash, (RIDGE.PAIR_STAT_PARTNER_MODE, h.mode.toNat),
      (RIDGE.PAIR_STAT_PARTNER_HEALTHY, h.healthy.toNat), (RIDGE.PAIR_STAT_CFG_MATCH, (decide (own = h.hash)).toNat),
      (RIDGE.PAIR_STAT_SELF_HEALTHY, (partnerShown s h own).healthy.toNat)] := by
  have hwords := sets_setReg (a := RIDGE.PARTNER_HASH) (w := h.hash) (sets_setReg (a := RIDGE.CFG_HASH) (w := own)
    (sets_refl (s := helloPair s h)) (by simp)) (by simp [whole])
  have hhashes : Sets _ _ [whole RIDGE.CFG_HASH own, whole RIDGE.PARTNER_HASH h.hash] := sets_of_mem_iff hwords (by simp; tauto)
  exact (((hhashes.field RIDGE.PAIR_STAT_PARTNER_MODE h.mode.toNat h.mode.isLt (by simp [Apart, whole])).field RIDGE.PAIR_STAT_PARTNER_HEALTHY
    h.healthy.toNat (toNat_lt_two _) (by simp [Apart, whole])).field RIDGE.PAIR_STAT_CFG_MATCH (decide (own = h.hash)).toNat (toNat_lt_two _)
      (by simp [Apart, whole])).field RIDGE.PAIR_STAT_SELF_HEALTHY _ (toNat_lt_two _) (by simp [Apart, whole])

/-- A revert step touches REVERT_PEND, REVERT_LEFT and the time of its start (R467). -/
theorem revertStep_eq (s : State) : ∃ from_ pend left, s.revertStep =
    ((s.updPair (fun x => { x with revertFrom := from_ })).setF RIDGE.PAIR_STAT_REVERT_PEND pend).setF RIDGE.REVERT_LEFT_S left := by
  simp only [revertStep]
  split
  exacts [⟨_, _, _, rfl⟩, ⟨_, _, _, rfl⟩]

theorem revertStep_getF {f : Fld} (hw : f.lo + f.w ≤ 32 := by decide) (hp : Apart f RIDGE.PAIR_STAT_REVERT_PEND := by simp [Apart])
    (hl : Apart f RIDGE.REVERT_LEFT_S := by simp [Apart]) : s.revertStep.getF f = s.getF f := by
  obtain ⟨from_, pend, left, he⟩ := revertStep_eq s
  rw [he, getF_setF_apart hw hl, getF_setF_apart hw hp, updPair_getF]

theorem revertStep_getReg {a : Nat} (hp : a ≠ RIDGE.PAIR_STAT := by decide) (hl : a ≠ RIDGE.REVERT_LEFT := by decide) :
    s.revertStep.getReg a = s.getReg a := by
  obtain ⟨from_, pend, left, he⟩ := revertStep_eq s
  rw [he, getReg_setF_ne _ hl, getReg_setF_ne _ hp, updPair_getReg]

theorem revertStep_getCond {src : Nat} (hs : src < 256) : s.revertStep.getCond src = s.getCond src :=
  congrArg (·.getLsbD (src % 32)) (revertStep_getReg (by simp only [FCOL.COND, RIDGE.PAIR_STAT]; omega) (by simp only [FCOL.COND, RIDGE.REVERT_LEFT]; omega))

theorem getB_of_getF_toNat {f : Fld} {b : Bool} (h : s.getF f = b.toNat) : s.getB f = b := by
  cases b <;> simp [getB, h]

theorem getReg_of_whole {l : List (Fld × Nat)} (h : Sets s t l) {a : Nat} {w : Word} (hm : whole a w ∈ l) : t.getReg a = w :=
  BitVec.eq_of_toNat_eq ((bitsOf_full _).symm.trans (h.reads _ hm))

/-- Before the revert step: what HELLO showed stands, and the mismatch and the partner's health are marked (R467, R473). -/
theorem exec_helloExchange_followed (hp : s.powered) (hpair : s.isPair) (hl : s.getB RIDGE.PAIR_STAT_LINK) (hq : Quiet s 216) (hq' : Quiet s 212)
    (hn : s.cairnN + 2 < 32704) : ∃ w, exec (.helloExchange h) s = .next w.revertStep ∧ RegsKept SignalReg (helloShown s h (ownHash s)) w ∧
      w = { helloPair s h with regs := w.regs, cairn := w.cairn, img := w.img } ∧ w.getCond 216 = decide (ownHash s ≠ h.hash) ∧
      w.getCond 212 = !h.healthy := by
  have hshown := sets_helloShown (s := s) (h := h) (own := ownHash s)
  have hmatch := followed_helloCond (hq.of_sets hshown (by simp [Apart, whole]; decide)) (ownHash s = h.hash) (leBytes 4 (ownHash s).toNat ++ leBytes 4 h.hash.toNat)
  have hquiet : Quiet (helloCond (helloShown s h (ownHash s)) 216 (ownHash s = h.hash) (leBytes 4 (ownHash s).toNat ++ leBytes 4 h.hash.toNat)) 212 := by
    have hbefore := hq'.of_sets hshown (by simp [Apart, whole]; decide)
    have hfill : (helloShown s h (ownHash s)).cairnN = s.cairnN := (congrArg cairnN hshown.rest).trans rfl
    exact ⟨(getF_of_regsKept hmatch.regs (by decide)).trans_le hbefore.sev, hbefore.source, hbefore.bound, by have := hmatch.fill; omega⟩
  have hhealth := followed_helloCond hquiet (h.healthy = true) [3]
  refine ⟨_, exec_helloExchange hp hpair hl, fun a ha => (hhealth.regs a ha).trans (hmatch.regs a ha), by rw [hhealth.rest, hmatch.rest, hshown.rest],
    (hhealth.others 216 (by decide) (by decide)).trans hmatch.cond, hhealth.cond.trans (by simp)⟩

theorem goes_helloExchange (hp : s.powered) (hpair : s.isPair) (hl : s.getB RIDGE.PAIR_STAT_LINK) (hq : Quiet s 216) (hq' : Quiet s 212)
    (hn : s.cairnN + 2 < 32704) : Goes (.helloExchange h) s (fun t => t.getReg RIDGE.PARTNER_HASH = h.hash ∧
      t.getF RIDGE.PAIR_STAT_PARTNER_MODE = h.mode.toNat ∧ t.getB RIDGE.PAIR_STAT_PARTNER_HEALTHY = h.healthy ∧
      t.getB RIDGE.PAIR_STAT_CFG_MATCH = decide (t.getReg RIDGE.CFG_HASH = h.hash) ∧ t.getCond 216 = decide (t.getReg RIDGE.CFG_HASH ≠ h.hash) ∧
      t.getCond 212 = !h.healthy ∧ t.pair.partnerDrives = h.drivesBelay ∧ t.pair.partnerActive = h.active ∧ t.pair.partnerSusp = h.revertSusp ∧
      t.mem = s.mem ∧ t.shelf = s.shelf) := by
  obtain ⟨w, hexec, hregs, hrest, hmatch, hhealth⟩ := exec_helloExchange_followed hp hpair hl hq hq' hn (h := h)
  have hshown := sets_helloShown (s := s) (h := h) (own := ownHash s)
  have hword {a : Nat} {x : Word} (hm : whole a x ∈ _) (ha : ¬ SignalReg a := by decide) : w.getReg a = x := (hregs a ha).trans (getReg_of_whole hshown hm)
  have hfld {f : Fld} {x : Nat} (hm : (f, x) ∈ _) (hf : ¬ SignalReg f.addr := by decide) : w.getF f = x := (getF_of_regsKept hregs hf).trans (hshown.reads _ hm)
  have hown : w.revertStep.getReg RIDGE.CFG_HASH = ownHash s := (revertStep_getReg).trans (hword (by simp))
  obtain ⟨from_, pend, left, he⟩ := revertStep_eq w
  refine ⟨_, hexec, (revertStep_getReg).trans (hword (by simp)), (revertStep_getF).trans (hfld (by simp)),
    getB_of_getF_toNat ((revertStep_getF).trans (hfld (by simp))), ?_, ?_, (revertStep_getCond (by decide)).trans hhealth, ?_⟩
  · rw [hown]
    exact getB_of_getF_toNat ((revertStep_getF).trans (hfld (by simp)))
  · rw [hown]
    exact (revertStep_getCond (by decide)).trans hmatch
  · rw [he, hrest]
    exact ⟨rfl, rfl, rfl, rfl, rfl⟩

end HelloExchange

/-! ### Copies and relayed frames -/

/-- A copy on the standby: the grid error measured, DEMOTED clear, no copy missed (R450, R455). -/
abbrev copyMeasured (c : StateCopy) (s : State) : State :=
  ((s.gridStep c.gridErrNs).setF RIDGE.PAIR_STAT_DEMOTED 0).updPair (fun x => { x with missRun := 0, settled := true })

theorem exec_copyRx_beacon {c : StateCopy} (hs : s.operating ∧ s.isStandby ∧ s.getB RIDGE.PAIR_STAT_LINK) (hc : c.beacon) :
    exec (.copyRx c) s = .next (copyMeasured c s) := (if_pos hs).trans (if_pos hc)

theorem goesSet_copyRx_beacon {c : StateCopy} (hs : s.operating ∧ s.isStandby ∧ s.getB RIDGE.PAIR_STAT_LINK) (hc : c.beacon)
    (he : c.gridErrNs.natAbs ≤ 10) : GoesSet (.copyRx c) s (s.updPair (fun x => { x with gridBad := 0, missRun := 0, settled := true }))
      [(RIDGE.LINK_STAT_GRID_ERR, toBits 16 c.gridErrNs), (RIDGE.PAIR_STAT_GRID_LOCK, 1), (RIDGE.PAIR_STAT_DEMOTED, 0)] := by
  refine goesSet_of_eq (exec_copyRx_beacon hs hc) (by rw [copyMeasured, gridStep_of_locked he]) ?_
  exact ((sets_refl (s := s.updPair (fun x => { x with gridBad := 0, missRun := 0, settled := true }))).field RIDGE.LINK_STAT_GRID_ERR _
    (toBits_lt 16 _)).field RIDGE.PAIR_STAT_GRID_LOCK 1 |>.field RIDGE.PAIR_STAT_DEMOTED 0

/-- The cycle number of a copy, or its successor where the boundary came first (R456). -/
def cycleTaken (c : StateCopy) (s : State) : State :=
  if s.shelf.cycle = c.cycle.toNat ∨ s.shelf.cycle = (c.cycle.toNat + 1) % 2 ^ 32 then s else s.updShelf (fun x => { x with cycle := c.cycle.toNat })

theorem cycleTaken_cycle (c : StateCopy) (s : State) :
    (cycleTaken c s).shelf.cycle = c.cycle.toNat ∨ (cycleTaken c s).shelf.cycle = (c.cycle.toNat + 1) % 2 ^ 32 := by
  unfold cycleTaken
  split
  case isTrue h => exact h
  case isFalse => exact .inl rfl

theorem cycleTaken_sample (c : StateCopy) (s : State) : (cycleTaken c s).sample = s.sample := by
  unfold cycleTaken
  split <;> rfl

theorem exec_copyRx_copy {c : StateCopy} (hs : s.operating ∧ s.isStandby ∧ s.getB RIDGE.PAIR_STAT_LINK) (hc : c.beacon = false) :
    ∃ u : State, exec (.copyRx c) s = .next ((cycleTaken c (u.updSample (fun x => { x with ssn := c.ssn, copySeen := true }))).updPair
      (fun x => { x with copy := some c, taking := x.taking || c.handover })) :=
  ⟨_, (if_pos hs).trans (if_neg (by simp [hc]))⟩

theorem goes_copyRx {c : StateCopy} (hs : s.operating ∧ s.isStandby ∧ s.getB RIDGE.PAIR_STAT_LINK) (hc : c.beacon = false) :
    Goes (.copyRx c) s (fun t => t.pair.copy = some c ∧ t.sample.ssn = c.ssn ∧
      (t.shelf.cycle = c.cycle.toNat ∨ t.shelf.cycle = (c.cycle.toNat + 1) % 2 ^ 32) ∧ (c.handover = true → t.pair.taking = true)) := by
  obtain ⟨u, he⟩ := exec_copyRx_copy hs hc
  refine ⟨_, he, rfl, congrArg SampleSt.ssn (cycleTaken_sample c _), cycleTaken_cycle c _, fun hh => ?_⟩
  simp [updPair, hh]

/-- Where a relayed frame goes: a SETPOINT to its entry, another frame to a node to the queue, a frame from a node to the port (R456). -/
theorem exec_relayRx {f : RelayFrame} (hs : s.operating ∧ s.isPair ∧ s.getB RIDGE.PAIR_STAT_LINK ∧ s.portLive f.port) (hf : f.toNode) :
    exec (.relayRx f) s = .next (if f.late then ((if (f.frame.getD 1 0).toNat % 16 = 4 then
      s.writeBytes (linkBuf f.port + 0x1800 + 128 * (s.shelf.cycle % 2)) f.frame else s.queueRaw f.port f.frame).incSat RIDGE.CNT_RELAY_LATE).raise 215
        [f.port, 2] else if (f.frame.getD 1 0).toNat % 16 = 4 then
          s.writeBytes (linkBuf f.port + 0x1800 + 128 * (s.shelf.cycle % 2)) f.frame else s.queueRaw f.port f.frame) := by
  refine (if_pos hs).trans ?_
  simp only [hf, ↓reduceIte]

theorem exec_relayRx_sample {f : RelayFrame} {x : SampleFrame} (hs : s.operating ∧ s.isPair ∧ s.getB RIDGE.PAIR_STAT_LINK ∧ s.portLive f.port)
    (hf : f.toNode = false) (hl : f.late = false) (hx : f.sample = some x) : exec (.relayRx f) s = .next (s.sampleIn f.port x) := by
  refine (if_pos hs).trans ?_
  simp only [hf, hl, hx, Bool.false_eq_true, ↓reduceIte]

/-! ### The obligation -/

/-- Settles O32. That a lost link clears PARTNER_HEALTHY is the model's choice (log entry 76). -/
theorem ridgeEvents : Obligations.RidgeEvents := by
  unfold Obligations.RidgeEvents
  refine ⟨fun rtt s hp hpair hl => ?up, fun s hp hpair hl => if_pos ⟨hp, hpair, hl⟩, fun s hst hl hlow hsev hn => ?down,
    fun l s hp hpair hlist hlen => ?relock, fun s hp hpair hlen => ?third, fun c s ho hst hl hc he => goesSet_copyRx_beacon ⟨ho, hst, hl⟩ hc he,
    fun c s ho hst hl hc => goes_copyRx ⟨ho, hst, hl⟩ hc, fun s v ho hst hc hv => hv ▸ if_pos ⟨ho, hst, hc⟩,
    fun s v ho hst hc hv => hv ▸ if_pos ⟨ho, hst, hc⟩, fun s hst hl hbad => ?gridLost,
    fun h s hp hpair hl hsev hsev' hn => goes_helloExchange hp hpair hl ⟨hsev, by decide, by decide, by omega⟩ ⟨hsev', by decide, by decide, by omega⟩ hn,
    fun s ho hst hfree => ?yield, fun s ho hst hblocked => ?blocked,
    fun reason slot s ho hpair hact => goesRaise_of_eq (if_pos ⟨ho, hpair, hact⟩) sets_refl, fun f s ho hpair hl hport hf hlate htype => ?frame,
    fun f s ho hpair hl hport hf hlate htype => ?late, fun f s ho hpair hl hport hf hlate htype => ?setpoint,
    fun f x s ho hpair hl hport hf hlate hx => exec_relayRx_sample ⟨ho, hpair, hl, hport⟩ hf hlate hx⟩
  case up => exact goesSet_of_eq (if_pos ⟨hp, hpair, hl⟩) rfl ((sets_refl.field RIDGE.LINK_STAT_RTT rtt.toNat rtt.isLt).field RIDGE.PAIR_STAT_LINK 1)
  case down =>
    obtain ⟨hp, hpair⟩ := powered_of_isStandby hst
    refine goesRaise_of_eq ?_ sets_linkDown_revertStep
    rw [← ridgeDown_of_isStandby hst hlow ⟨hsev, by decide, by decide, hn⟩]
    exact if_pos ⟨hp, hpair, hl⟩
  case relock =>
    subst hlist
    exact goesSet_of_eq ((if_pos ⟨hp, hpair⟩).trans (if_neg (by omega))) rfl sets_refl
  case third => exact goesRaise_of_eq ((if_pos ⟨hp, hpair⟩).trans (if_pos hlen)) sets_refl
  case gridLost => exact goesRaise_of_eq (if_pos ⟨hst, hl, hbad⟩) (sets_refl.field RIDGE.PAIR_STAT_GRID_LOCK 0)
  case yield => exact goesSet_of_eq (if_pos ⟨ho, hst⟩) (if_neg fun h => Bool.false_ne_true (hfree.symm.trans h.2)) sets_refl
  case blocked => exact goesRaise_of_eq ((if_pos ⟨ho, hst⟩).trans (congrArg _ (if_pos ⟨hst, hblocked⟩))) sets_refl
  all_goals
    rw [exec_relayRx ⟨ho, hpair, hl, hport⟩ hf]
    simp only [hlate, htype, Bool.false_eq_true, ↓reduceIte]

end Sys2Proof.Proofs
end

section
/-! SUPPORT. The place of one register's entry: a quiet raise writes registers above it, so the entry may be moved before the raise or after it. -/

namespace Sys2Proof.Proofs

open Machine Machine.State Laws

/-! ### An entry among the keys of a list -/

section Lists

variable {β : Type} {a b c : Nat} {w x : β}

/-- The entry of `a` after as many of the keys up to `a` as said. -/
def putAfter (a : Nat) (w : β) : Nat → List (Nat × β) → List (Nat × β)
  | 0, l => (a, w) :: l
  | _ + 1, [] => []
  | n + 1, (k, x) :: l => (k, x) :: putAfter a w (if a < k then n + 1 else n) l

theorem putAfter_zero (l : List (Nat × β)) : putAfter a w 0 l = (a, w) :: l := by
  cases l <;> rfl

theorem insertKey_eq_putAfter (l : List (Nat × β)) : ∃ n, insertKey a w l = putAfter a w n l := by
  induction l with
  | nil => exact ⟨0, rfl⟩
  | cons e l ih =>
    by_cases hlt : a < e.1
    · exact ⟨0, if_pos hlt⟩
    · obtain ⟨n, hn⟩ := ih
      exact ⟨n + 1, by simp only [insertKey, putAfter, hlt, ↓reduceIte, hn]⟩

theorem insertKey_putAfter (h : a < b) (n : Nat) (l : List (Nat × β)) : insertKey b x (putAfter a w n l) = putAfter a w n (insertKey b x l) := by
  induction l generalizing n with
  | nil => cases n <;> simp [putAfter, insertKey, h, Nat.lt_asymm h]
  | cons e l ih =>
    cases n with
    | zero => simp only [putAfter_zero, insertKey, Nat.lt_asymm h, ↓reduceIte]
    | succ n => by_cases hb : b < e.1 <;> simp [putAfter, insertKey, hb, h, ih]

theorem eraseKey_cons (e : Nat × β) (l : List (Nat × β)) : eraseKey a (e :: l) = if e.1 = a then eraseKey a l else e :: eraseKey a l := by
  by_cases he : e.1 = a <;> simp [eraseKey, he]

theorem eraseKey_putAfter (h : a < b) (n : Nat) (l : List (Nat × β)) : eraseKey b (putAfter a w n l) = putAfter a w n (eraseKey b l) := by
  induction l generalizing n with
  | nil => cases n <;> simp [putAfter, eraseKey, h.ne]
  | cons e l ih =>
    cases n with
    | zero => simp only [putAfter_zero, eraseKey_cons (e := (a, w)), h.ne, ↓reduceIte]
    | succ n => by_cases hb : e.1 = b <;> simp [putAfter, eraseKey_cons, hb, h, ih]

theorem eraseKey_comm (l : List (Nat × β)) : eraseKey a (eraseKey b l) = eraseKey b (eraseKey a l) := by
  simp only [eraseKey, List.filter_filter, Bool.and_comm]

theorem eraseKey_insertKey (h : a < b) (l : List (Nat × β)) : eraseKey a (insertKey b x l) = insertKey b x (eraseKey a l) := by
  induction l with
  | nil => simp [eraseKey, insertKey, h.ne']
  | cons e l ih =>
    by_cases hb : b < e.1
    · simp [insertKey, eraseKey_cons, hb, h.ne', (h.trans hb).ne']
    · by_cases ha : e.1 = a <;> simp [insertKey, eraseKey_cons, hb, ha, ih, Nat.lt_asymm h]

/-- Erasing a key and writing a larger one, in either order. -/
theorem eraseKey_putKey [DecidableEq β] {d : β} (h : a < b) (l : List (Nat × β)) : eraseKey a (putKey b x d l) = putKey b x d (eraseKey a l) := by
  simp only [putKey, apply_ite (eraseKey a), eraseKey_comm (a := a), eraseKey_insertKey h]

theorem putKey_putAfter [DecidableEq β] {d : β} (h : a < b) (n : Nat) (l : List (Nat × β)) :
    putKey b x d (putAfter a w n l) = putAfter a w n (putKey b x d l) := by
  simp only [putKey, eraseKey_putAfter h, insertKey_putAfter h, apply_ite (putAfter a w n)]

theorem lookupKey_putAfter (h : c ≠ a) (n : Nat) (l : List (Nat × β)) : lookupKey c (putAfter a w n l) = lookupKey c l := by
  have hac := h.symm
  induction l generalizing n with
  | nil => cases n <;> simp [putAfter, lookupKey, hac]
  | cons e l ih =>
    cases n with
    | zero => simp [putAfter_zero, lookupKey, hac]
    | succ n => simp [putAfter, lookupKey, ih]

end Lists

/-! ### VIN_MV at another place -/

/-- The state with the entry `w` of VIN_MV after `n` of the keys up to it. -/
def slid (w : Word) (n : Nat) (s : State) : State := { s with regs := putAfter CLKPWR.VIN_MV w n (eraseKey CLKPWR.VIN_MV s.regs) }

section Slid

variable {s : State} {w : Word} {n : Nat}

theorem setReg_eq_slid (h : w ≠ resetWord CLKPWR.VIN_MV) : ∃ n, s.setReg CLKPWR.VIN_MV w = slid w n s := by
  obtain ⟨n, hn⟩ := insertKey_eq_putAfter (a := CLKPWR.VIN_MV) (w := w) (eraseKey CLKPWR.VIN_MV s.regs)
  exact ⟨n, congrArg (fun l => { s with regs := l }) ((if_neg h).trans hn)⟩

theorem slid_getReg {c : Nat} (h : c ≠ CLKPWR.VIN_MV) : (slid w n s).getReg c = s.getReg c := by
  simp only [getReg, slid, lookupKey_putAfter h, lookupKey_eraseKey, h, ↓reduceIte]

theorem slid_getF {f : Fld} (h : f.addr ≠ CLKPWR.VIN_MV) : (slid w n s).getF f = s.getF f := congrArg (bitsOf · f.lo f.w) (slid_getReg h)
theorem slid_getB {f : Fld} (h : f.addr ≠ CLKPWR.VIN_MV) : (slid w n s).getB f = s.getB f := by simp only [getB, slid_getF h]
theorem slid_getN {c : Nat} (h : c ≠ CLKPWR.VIN_MV) : (slid w n s).getN c = s.getN c := congrArg BitVec.toNat (slid_getReg h)
theorem slid_dev : (slid w n s).dev = s.dev := rfl

theorem slid_setReg {b : Nat} (h : CLKPWR.VIN_MV < b) (x : Word) : (slid w n s).setReg b x = slid w n (s.setReg b x) := by
  simp only [setReg, slid, putKey_putAfter h, eraseKey_putKey h]

theorem slid_setF {f : Fld} (h : CLKPWR.VIN_MV < f.addr) (v : Nat) : (slid w n s).setF f v = slid w n (s.setF f v) := by
  rw [setF, slid_getReg h.ne', slid_setReg h, setF]

end Slid

/-! ### The log of a quiet raise -/

section SlidLog

variable {s t : State} {w : Word} {n src sev kind : Nat} {b : Bool} {d : List Nat}

theorem slides_setReg (h : t = slid w n s) {a : Nat} (x : Word) (ha : CLKPWR.VIN_MV < a := by decide) : t.setReg a x = slid w n (s.setReg a x) := by
  rw [h, slid_setReg ha]

theorem slides_setF (h : t = slid w n s) {f : Fld} (v : Nat) (hf : CLKPWR.VIN_MV < f.addr := by decide) : t.setF f v = slid w n (s.setF f v) := by
  rw [h, slid_setF hf]

theorem slides_cairn (h : t = slid w n s) (x : CairnSt) : ({ t with cairn := x } : State) = slid w n { s with cairn := x } := by
  rw [h]; rfl

theorem slides_ite {c : Prop} [Decidable c] {s' t' : State} (h : t = slid w n s) (h' : t' = slid w n s') :
    (if c then t else t') = slid w n (if c then s else s') := by
  rw [h, h', apply_ite (slid w n)]

theorem slid_mkRec (seq flags : Nat) : (slid w n s).mkRec seq src sev kind flags d = s.mkRec seq src sev kind flags d := by
  have hmode : (slid w n s).mode = s.mode := slid_getF (by decide)
  have hpcyc : (slid w n s).pcyc = s.pcyc := by rw [pcyc, hmode, slid_getN (by decide), pcyc]
  simp only [mkRec, hmode, hpcyc, opsec, opus, slid_dev]

theorem slid_cairnFlags : (slid w n s).cairnFlags b = s.cairnFlags b := by
  rw [cairnFlags, slid_getF (by decide), slid_getF (by decide)]
  rfl

theorem slid_traceAdd : (slid w n s).traceAdd src sev kind b d = slid w n (s.traceAdd src sev kind b d) := by
  rw [traceAdd, slid_mkRec, slid_cairnFlags]
  exact slides_setF (f := CAIRN.TRACE_HEAD_HEAD) (slides_setF (f := CAIRN.TRACE_HEAD_SIZE) (slides_cairn rfl _) _) _

theorem slid_collect (h : sev ≤ 2) : (slid w n s).collect src sev = slid w n (s.collect src sev) := by
  have hcount : (slid w n s).incSat FCOL.FCOL_STAT_NEST_COUNT = slid w n (s.incSat FCOL.FCOL_STAT_NEST_COUNT) := by
    rw [incSat, slid_getF (by decide)]
    exact slides_setF rfl _
  have hnest := slides_ite (c := s.getB FCOL.FCOL_STAT_HANDLING) hcount (Eq.refl (slid w n s))
  simp only [collect, show ¬ 3 ≤ sev by omega, ↓reduceIte, slid_getB (f := FCOL.FCOL_STAT_HANDLING) (by decide), hnest]
  rw [slid_getF (by decide)]
  exact slides_setF rfl _

theorem slid_cairnShow : (slid w n s).cairnShow = slid w n s.cairnShow :=
  slides_setF (f := CAIRN.CAIRN_STAT_FULL) (slides_setF (f := CAIRN.CAIRN_STAT_RESERVE) (slides_setReg (a := CAIRN.FIRST_SEQ)
    (slides_setF (f := CAIRN.COUNT_RECORDS) (slides_setF (f := CAIRN.COUNT_STAGED) rfl _) _) _) _) _

theorem slid_cairnLose : (slid w n s).cairnLose = slid w n s.cairnLose := by
  rw [cairnLose, slid_getN (by decide)]
  exact slides_setReg rfl _

theorem slid_cairnAccept {flags : Nat} : (slid w n s).cairnAccept src sev kind flags d = slid w n (s.cairnAccept src sev kind flags d) := by
  simp only [cairnAccept, slid_mkRec, slid_getF (f := CAIRN.LAST_REPEAT_REPEAT) (by decide)]
  exact (congrArg cairnShow (slides_setF (f := CAIRN.LAST_REPEAT_REPEAT) (slides_setReg (a := CAIRN.LAST_SEQ) (slides_cairn rfl _) _) _)).trans slid_cairnShow

theorem slid_cmpMask : (slid w n s).cmpMask src = s.cmpMask src := by
  rw [cmpMask, slid_getF (by simp only [CAIRN.CMPMASK, CLKPWR.VIN_MV]; omega), slid_getF (by simp only [CAIRN.CMPMASK, CLKPWR.VIN_MV]; omega), cmpMask]

theorem slid_cairnStage : (slid w n s).cairnStage src sev kind b d = slid w n (s.cairnStage src sev kind b d) := by
  simp only [cairnStage, slid_cmpMask, slid_cairnFlags, slid_getF (f := CAIRN.LAST_REPEAT_REPEAT) (by decide), slid_cairnLose, slid_cairnAccept]
  exact slides_ite (slides_setF (f := CAIRN.LAST_REPEAT_REPEAT) (slides_cairn rfl _) _) (slides_ite rfl (slides_ite rfl (slides_ite rfl rfl)))

theorem slid_setEvt : (slid w n s).setEvt src = slid w n (s.setEvt src) := by
  have hsev : FCOL_SEV.SEV src ≠ CLKPWR.VIN_MV := by simp only [FCOL_SEV.SEV, CLKPWR.VIN_MV]; omega
  simp only [setEvt, slid_getB (f := FCOL_SEV.SEV_EVT_EN src) hsev, slid_getF (f := FCOL_SEV.SEV_EVT src) hsev]
  exact slides_ite (slides_setF rfl _ (lt_of_lt_of_le (by decide) (Nat.le_add_right _ _))) rfl

theorem slid_setAct : (slid w n s).setAct src b = slid w n (s.setAct src b) :=
  slides_setF rfl _ (by simp only [FCOL.ACT, CLKPWR.VIN_MV]; omega)

theorem slid_logRaise (hsev : sev ≤ 2) : (slid w n s).logRaise src sev d .plain = slid w n (s.logRaise src sev d .plain) := by
  simp only [logRaise, slid_getB (f := FCOL.FCOL_STAT_HANDLING) (by decide), slid_traceAdd, slid_collect hsev, slid_cairnStage, slid_setEvt, reduceCtorEq,
    ↓reduceIte, ← apply_ite (slid w n)]

/-- A quiet raise, before the entry is moved or after it. -/
theorem slid_raise (h : Quiet s src) : (slid w n s).raise src d = slid w n (s.raise src d) := by
  have hcfg : (slid w n s).getF (FCOL_SEV.SEV_SEV src) = s.getF (FCOL_SEV.SEV_SEV src) := slid_getF (by simp only [FCOL_SEV.SEV, CLKPWR.VIN_MV]; omega)
  have hquiet : Quiet (slid w n s) src := ⟨hcfg.trans_le h.sev, h.source, h.bound, h.fill⟩
  rw [raise_of_quiet h, raise_of_quiet hquiet, quietLog, hcfg, slid_setAct, slid_logRaise h.sev]

end SlidLog
end Sys2Proof.Proofs
end

section
/-! SUPPORT. VIN_WARN falls (R80, R491): the voltage shown, the raise, the flush that a ready hold supply pays for. -/

namespace Sys2Proof.Proofs

open Machine Machine.State Laws

variable {s t : State}

/-! ### Registers -/

theorem eraseKey_insertKey_self {β : Type} {a : Nat} {x : β} (l : List (Nat × β)) : eraseKey a (insertKey a x l) = eraseKey a l := by
  induction l with
  | nil => simp [insertKey, eraseKey]
  | cons e l ih => by_cases ha : a < e.1 <;> simp [insertKey, eraseKey_cons, ha, ih]

theorem eraseKey_putKey_self {β : Type} [DecidableEq β] {a : Nat} {x d : β} (l : List (Nat × β)) : eraseKey a (putKey a x d l) = eraseKey a l := by
  have htwice : eraseKey a (eraseKey a l) = eraseKey a l := by simp [eraseKey]
  simp only [putKey, apply_ite (eraseKey a), eraseKey_insertKey_self, htwice, ite_self]

theorem putKey_putKey {β : Type} [DecidableEq β] {a : Nat} {x y d : β} (l : List (Nat × β)) : putKey a y d (putKey a x d l) = putKey a y d l := by
  rw [putKey, eraseKey_putKey_self, putKey]

/-- The later of two writes of a register stands. -/
theorem setReg_setReg {a : Nat} {x y : Word} : (s.setReg a x).setReg a y = s.setReg a y := by
  simp only [setReg, putKey_putKey]

/-- Where every register reads as after the listed fields, those fields are set. -/
theorem Sets.of_getReg {v : State} {l : List (Fld × Nat)} (h : Sets s t l) (hv : ∀ a, v.getReg a = t.getReg a) (hrest : v = { s with regs := v.regs }) :
    Sets s v l := by
  have hf (f : Fld) : v.getF f = t.getF f := congrArg (bitsOf · f.lo f.w) (hv f.addr)
  exact ⟨fun x hx => (hf x.1).trans (h.reads x hx), fun g hg ha => (hf g).trans (h.keeps g hg ha), hrest⟩

theorem forAll_self {n : Nat} {f : State → Nat → State} (h : ∀ k < n, f s k = s) : forAll n f s = s :=
  List.foldlRecOn (motive := (· = s)) (List.range n) f rfl fun t ht k hk => by rw [ht, h k (List.mem_range.1 hk)]

/-! ### VIN_WARN falls -/

/-- VIN_MV with the voltage shown and WARN set. -/
def vinWord (x : Word) (mv : Half) : Word := withBits (withBits x 0 16 mv.toNat) 16 1 1

abbrev vinShown (mv : Half) (s : State) : State := (s.setF CLKPWR.VIN_MV_VIN mv.toNat).setF CLKPWR.VIN_MV_WARN 1

/-- VIN below the warning, its condition present (R428). -/
abbrev vinLow (mv : Half) (s : State) : State := (vinShown mv s).setCond 4 true

theorem vinWord_vinWord (x : Word) (mv : Half) : vinWord (vinWord x mv) mv = vinWord x mv := by
  refine BitVec.eq_of_getLsbD_eq fun i hi => ?_
  simp only [vinWord, getLsbD_withBits _ _ _ _ _ hi]
  split_ifs <;> rfl

theorem vinWord_ne_reset (x : Word) (mv : Half) : vinWord x mv ≠ resetWord CLKPWR.VIN_MV := by
  intro h
  have hwarn : (vinWord x mv).getLsbD 16 = true := getLsbD_withBits _ _ _ _ _ (by decide)
  rw [h] at hwarn
  exact absurd hwarn (by decide)

theorem vinShown_eq (mv : Half) (s : State) : vinShown mv s = s.setReg CLKPWR.VIN_MV (vinWord (s.getReg CLKPWR.VIN_MV) mv) := by
  rw [vinShown, setF, getReg_setF, if_pos rfl, setF, setReg_setReg, vinWord]

theorem sets_vinLow (mv : Half) : Sets s (vinLow mv s) [(CLKPWR.VIN_MV_VIN, mv.toNat), (CLKPWR.VIN_MV_WARN, 1), condOf 4] :=
  ((sets_refl.field CLKPWR.VIN_MV_VIN mv.toNat mv.isLt).field CLKPWR.VIN_MV_WARN 1).field ⟨FCOL.COND 0, 4, 1⟩ 1 (hl := by simp [Apart, CLKPWR.VIN_MV, FCOL.COND])

theorem vinLow_getReg (mv : Half) : (vinLow mv s).getReg CLKPWR.VIN_MV = vinWord (s.getReg CLKPWR.VIN_MV) mv := by
  rw [vinLow, setCond, putBit, getReg_setF_ne _ (by decide), vinShown_eq, getReg_setReg_self]

/-- Showing the voltage once more after the raise is the raise of a state that shows it, its entry at another place. -/
theorem goesShownRaise (mv : Half) (h : Quiet (vinLow mv s) 4) : ∃ v, Sets s v [(CLKPWR.VIN_MV_VIN, mv.toNat), (CLKPWR.VIN_MV_WARN, 1), condOf 4] ∧
    vinShown mv ((vinLow mv s).raise 4 []) = v.raise 4 [] := by
  have hlog := logged_raise h []
  have hword : ((vinLow mv s).raise 4 []).getReg CLKPWR.VIN_MV = vinWord (s.getReg CLKPWR.VIN_MV) mv := (hlog.regs _ (by decide)).trans (vinLow_getReg mv)
  have hshown : vinShown mv ((vinLow mv s).raise 4 []) = ((vinLow mv s).raise 4 []).setReg CLKPWR.VIN_MV (vinWord (s.getReg CLKPWR.VIN_MV) mv) := by
    rw [vinShown_eq, hword, vinWord_vinWord]
  obtain ⟨n, hn⟩ := setReg_eq_slid (s := (vinLow mv s).raise 4 []) (vinWord_ne_reset (s.getReg CLKPWR.VIN_MV) mv)
  have hv : vinShown mv ((vinLow mv s).raise 4 []) = (slid (vinWord (s.getReg CLKPWR.VIN_MV) mv) n (vinLow mv s)).raise 4 [] :=
    hshown.trans (hn.trans (slid_raise h).symm)
  refine ⟨_, Sets.of_getReg (sets_vinLow mv) (fun a => ?_) rfl, hv⟩
  by_cases ha : a = CLKPWR.VIN_MV
  · have hquiet : Quiet (slid (vinWord (s.getReg CLKPWR.VIN_MV) mv) n (vinLow mv s)) 4 := ⟨(slid_getF (by decide)).trans_le h.sev, h.source, h.bound, h.fill⟩
    rw [ha, ← (logged_raise hquiet []).regs CLKPWR.VIN_MV (by decide), ← hv, hshown, getReg_setReg_self, vinLow_getReg]
  · exact slid_getReg ha

/-- What VIN_WARN stops or holds up: the clear of R498, learning, an image stream. -/
abbrev vinStops (s : State) : State := (forAll 24 (fun s k => s.learnDisq k 4) s.clearInterrupt).imgStop

/-- Groups that wait for VIN before their up sequence. -/
abbrev groupsHeld (s : State) : State :=
  forAll 4 (fun s g => if s.grpSt g = grREST ∧ s.getB (SEQGRP.GRP_STAT_UP_PEND g) then s.setF (SEQGRP.GRP_STAT_VIN_HELD g) 1 else s) s

theorem exec_vinWarnFalling {mv : Half} (h : s.powered) : exec (.vinWarnFalling mv) s = .next (vinShown mv (groupsHeld
    (if s.getB CLKPWR.VHOLD_MV_VHOLD_RDY then (vinStops ((vinLow mv s).raise 4 [])).cairnFlush.cairnRewrite else vinStops ((vinLow mv s).raise 4 [])))) :=
  if_neg (by simp [h])

theorem clearInterrupt_of_none (h : s.cairn.clearSeq = none) : s.clearInterrupt = s := if_neg (by simp [h])

theorem vinStops_eq (hclear : s.cairn.clearSeq = none) (hlearn : ∀ k : Fin 24, s.getF (ESTSTR.LRN_STAT_STATE k) ≠ 1) : vinStops s = s.imgStop := by
  rw [vinStops, clearInterrupt_of_none hclear, forAll_self fun k hk => if_neg (hlearn ⟨k, hk⟩)]

theorem groupsHeld_self (h : ∀ g : Fin 4, s.grpSt g ≠ grREST ∨ s.getB (SEQGRP.GRP_STAT_UP_PEND g) = false) : groupsHeld s = s :=
  forAll_self fun g hg => if_neg fun hwait => (h ⟨g, hg⟩).elim (· hwait.1) (fun hp => Bool.false_ne_true (hp.symm.trans hwait.2))

section Low

variable {mv : Half}

theorem quiet_vinLow (hsev : s.getF (FCOL_SEV.SEV_SEV 4) ≤ 2) (hn : s.cairnN + 1 < 32704) : Quiet (vinLow mv s) 4 :=
  Quiet.of_sets ⟨hsev, by decide, by decide, hn⟩ (sets_vinLow mv) (by simp [Apart, condOf]; decide)

/-- A field apart from VIN_MV, the conditions and the logs reads as before VIN_WARN. -/
theorem vinLow_raise_getF (h : Quiet (vinLow mv s) 4) {f : Fld} (hw : f.lo + f.w ≤ 32) (hlog : ¬ LogReg f.addr) (hv : f.addr ≠ CLKPWR.VIN_MV) (hc : f.addr ≠ FCOL.COND 0) :
    ((vinLow mv s).raise 4 []).getF f = s.getF f :=
  ((logged_raise h []).getF hlog).trans ((sets_vinLow mv).keeps f hw (by simp [Apart, condOf, hv, hc]))

theorem vinLow_raise_imgStreams (h : Quiet (vinLow mv s) 4) : ((vinLow mv s).raise 4 []).imgStreams = s.imgStreams := by
  rw [imgStreams, imgState, vinLow_raise_getF h (by decide) (by decide) (by decide) (by decide), imgStreams, imgState]

theorem vinLow_raise_group (h : Quiet (vinLow mv s) 4) {f : Fld} {g : Nat} (hw : f.lo + f.w ≤ 32) (hf : f.addr = SEQGRP.GRP_STAT g) :
    ((vinLow mv s).raise 4 []).getF f = s.getF f :=
  vinLow_raise_getF h hw (by simp only [hf, LogReg, SEQGRP.GRP_STAT, pFCOL, pCAIRN]; omega) (by simp only [hf, SEQGRP.GRP_STAT, CLKPWR.VIN_MV]; omega)
    (by simp only [hf, SEQGRP.GRP_STAT, FCOL.COND]; omega)

/-- After the raise, VIN_WARN has an image stream left to stop. -/
theorem vinLow_raise_stops (h : Quiet (vinLow mv s) 4) (hclear : s.cairn.clearSeq = none) (hlearn : ∀ k : Fin 24, s.getF (ESTSTR.LRN_STAT_STATE k) ≠ 1) :
    vinStops ((vinLow mv s).raise 4 []) = ((vinLow mv s).raise 4 []).imgStop :=
  vinStops_eq ((logged_raise h []).clear.trans hclear) fun k => by
    rw [vinLow_raise_getF h (f := ESTSTR.LRN_STAT_STATE k) (show 0 + 2 ≤ 32 by decide) (by simp only [LogReg, ESTSTR.LRN_STAT, pFCOL, pCAIRN]; omega)
      (by simp only [ESTSTR.LRN_STAT, CLKPWR.VIN_MV]; omega) (by simp only [ESTSTR.LRN_STAT, FCOL.COND]; omega)]
    exact hlearn k

theorem goesRaise_vinWarnFalling (hp : s.powered) (hready : s.getB CLKPWR.VHOLD_MV_VHOLD_RDY = false)
    (hlearn : ∀ k : Fin 24, s.getF (ESTSTR.LRN_STAT_STATE k) ≠ 1) (hclear : s.cairn.clearSeq = none) (himg : s.imgStreams = false)
    (hgroup : ∀ g : Fin 4, s.grpSt g ≠ grREST ∨ s.getB (SEQGRP.GRP_STAT_UP_PEND g) = false) (hq : Quiet (vinLow mv s) 4) :
    GoesRaise (.vinWarnFalling mv) s s [(CLKPWR.VIN_MV_VIN, mv.toNat), (CLKPWR.VIN_MV_WARN, 1), condOf 4] 4 [] := by
  obtain ⟨v, hsets, hv⟩ := goesShownRaise mv hq
  refine ⟨_, exec_vinWarnFalling hp, v, hsets, ?_⟩
  have hstop : ((vinLow mv s).raise 4 []).imgStop = (vinLow mv s).raise 4 [] := if_neg (by simp [vinLow_raise_imgStreams hq, himg])
  have hheld : groupsHeld ((vinLow mv s).raise 4 []) = (vinLow mv s).raise 4 [] := groupsHeld_self fun g => by
    simp only [grpSt, getB, vinLow_raise_group hq (f := SEQGRP.GRP_STAT_STATE g) (g := g) (show 0 + 3 ≤ 32 by decide) rfl,
      vinLow_raise_group hq (f := SEQGRP.GRP_STAT_UP_PEND g) (g := g) (show 4 + 1 ≤ 32 by decide) rfl]
    exact hgroup g
  rw [if_neg (by simp [hready]), vinLow_raise_stops hq hclear hlearn, hstop, hheld, hv]

end Low

/-! ### The flush that VHOLD pays for -/

/-- The registers of CAIRN. -/
abbrev CairnReg (a : Nat) : Prop := a / 0x1000 = pCAIRN

/-- The registers of CAIRN, and those of the groups and what follows them. -/
abbrev FlushReg (a : Nat) : Prop := CairnReg a ∨ SEQGRP.GRP_STAT 0 ≤ a

theorem cairnShow_kept : RegsKept CairnReg s s.cairnShow := by
  unfold cairnShow
  refine regsKept_setF (regsKept_setF (regsKept_setReg (regsKept_setF (regsKept_setF regsKept_refl ?_ _) ?_ _) ?_ _) ?_ _) ?_ _
  all_goals decide

theorem cairnShow_cairn : s.cairnShow.cairn = s.cairn := by
  simp only [cairnShow, setB, setN, setF_cairn, setReg_cairn]

theorem cairnFlush_staged : s.cairnFlush.cairn.staged = [] := by
  unfold cairnFlush
  split
  case h_1 => rw [cairnShow_cairn, setN, setReg_cairn]
  case h_2 h => exact List.getLast?_eq_none_iff.1 h

theorem cairnShow_rest : s.cairnShow = { s with regs := s.cairnShow.regs } := by
  rw [cairnShow]
  rfl

/-- Other contents of the recorder, shown. -/
theorem shown_kept (x : CairnSt) (n : Nat) : RegsKept CairnReg s (({ s with cairn := x } : State).setN CAIRN.WRITTEN_SEQ n).cairnShow ∧
    (({ s with cairn := x } : State).setN CAIRN.WRITTEN_SEQ n).cairnShow =
      { s with regs := (({ s with cairn := x } : State).setN CAIRN.WRITTEN_SEQ n).cairnShow.regs, cairn := x } :=
  ⟨fun a ha => (cairnShow_kept a ha).trans (getReg_setReg_ne _ fun h => ha (by rw [h]; decide)), cairnShow_rest⟩

theorem cairnFlush_kept : RegsKept CairnReg s s.cairnFlush ∧ s.cairnFlush = { s with regs := s.cairnFlush.regs, cairn := s.cairnFlush.cairn } := by
  unfold cairnFlush
  split
  case h_1 =>
    obtain ⟨hregs, hrest⟩ := shown_kept (s := s) _ _
    exact ⟨hregs, hrest.trans (by rw [hrest])⟩
  case h_2 => exact ⟨regsKept_refl, rfl⟩

theorem cairnRewrite_eq (s : State) : ∃ nv, s.cairnRewrite = { s with cairn := { s.cairn with nv := nv } } := by
  unfold cairnRewrite
  dsimp only
  split_ifs
  · split <;> exact ⟨_, rfl⟩
  · exact ⟨_, rfl⟩

theorem groupsHeld_kept : RegsKept FlushReg s (groupsHeld s) ∧ groupsHeld s = { s with regs := (groupsHeld s).regs } :=
  List.foldlRecOn (motive := fun t => RegsKept FlushReg s t ∧ t = { s with regs := t.regs }) (List.range 4) _ ⟨regsKept_refl, rfl⟩ fun t ht g _ => by
    obtain ⟨hregs, hrest⟩ := ht
    split
    exacts [⟨regsKept_setF hregs (.inr (by simp only [SEQGRP.GRP_STAT]; omega)) _, congrArg (setF · _ 1) hrest⟩, ⟨hregs, hrest⟩]

theorem imgStop_imgStreams : s.imgStop.imgStreams = false := by
  unfold imgStop
  split
  case isTrue => simp [imgStreams, imgState, setImg, setB, getF_setF_bits, getF_setF_self, imIDLE, imRECEIVING]
  case isFalse h => simpa using h

/-- The registers of IMAGE. -/
abbrev ImageReg (a : Nat) : Prop := a / 0x1000 = pIMAGE

theorem imgStop_kept : RegsKept ImageReg s s.imgStop ∧ s.imgStop = { s with regs := s.imgStop.regs } := by
  unfold imgStop
  split
  case isTrue => exact ⟨regsKept_setF (f := IMAGE.IMG_STAT_BUSY) (regsKept_setF (f := IMAGE.IMG_STAT_STATE) regsKept_refl (by decide) _) (by decide) _, rfl⟩
  case isFalse => exact ⟨regsKept_refl, rfl⟩

/-- The image stopped, the staged records written, and the waiting groups held. -/
abbrev vinFlushed (s : State) : State := groupsHeld s.imgStop.cairnFlush.cairnRewrite

theorem vinFlushed_getReg {a : Nat} (h : ¬ FlushReg a) : (vinFlushed s).getReg a = s.imgStop.getReg a := by
  obtain ⟨nv, hnv⟩ := cairnRewrite_eq s.imgStop.cairnFlush
  rw [groupsHeld_kept.1 a h, hnv]
  exact cairnFlush_kept.1 a fun hc => h (.inl hc)

theorem vinFlushed_rest : vinFlushed s = { s with regs := (vinFlushed s).regs, cairn := (vinFlushed s).cairn } := by
  obtain ⟨nv, hnv⟩ := cairnRewrite_eq s.imgStop.cairnFlush
  rw [vinFlushed, groupsHeld_kept.2, hnv, cairnFlush_kept.2, imgStop_kept.2]

theorem vinFlushed_mem : (vinFlushed s).mem = s.mem := by rw [vinFlushed_rest]
theorem vinFlushed_shelf : (vinFlushed s).shelf = s.shelf := by rw [vinFlushed_rest]

theorem vinFlushed_staged : (vinFlushed s).cairn.staged = [] := by
  obtain ⟨nv, hnv⟩ := cairnRewrite_eq s.imgStop.cairnFlush
  rw [vinFlushed, groupsHeld_kept.2, hnv]
  exact cairnFlush_staged

section Shown

variable {mv : Half}

theorem vinShown_cairn : (vinShown mv s).cairn = s.cairn := rfl
theorem vinShown_mem : (vinShown mv s).mem = s.mem := rfl
theorem vinShown_shelf : (vinShown mv s).shelf = s.shelf := rfl
theorem vinShown_warn : (vinShown mv s).getB CLKPWR.VIN_MV_WARN = true := by simp [getB, getF_setF_self]
theorem vinShown_vin : (vinShown mv s).getF CLKPWR.VIN_MV_VIN = mv.toNat := by
  rw [vinShown, getF_setF_apart (by decide) (by simp [Apart]), getF_setF_self (by decide)]
  exact Nat.mod_eq_of_lt mv.isLt
theorem vinShown_getReg {a : Nat} (h : a ≠ CLKPWR.VIN_MV) : (vinShown mv s).getReg a = s.getReg a := by
  rw [vinShown_eq, getReg_setReg_ne _ h]

/-- A condition as before the flush. -/
theorem vinFlushed_getCond : (vinShown mv (vinFlushed s)).getCond 4 = s.getCond 4 :=
  congrArg (·.getLsbD 4) ((vinShown_getReg (by decide)).trans ((vinFlushed_getReg (by decide)).trans (imgStop_kept.1 _ (by decide))))

theorem vinFlushed_imgStreams : (vinShown mv (vinFlushed s)).imgStreams = false := by
  have hstate : (vinShown mv (vinFlushed s)).imgState = s.imgStop.imgState :=
    congrArg (bitsOf · 28 3) ((vinShown_getReg (by decide)).trans (vinFlushed_getReg (by decide)))
  rw [imgStreams, hstate]
  exact imgStop_imgStreams

theorem goes_vinWarnFalling (hp : s.powered) (hready : s.getB CLKPWR.VHOLD_MV_VHOLD_RDY) (hclear : s.cairn.clearSeq = none)
    (hlearn : ∀ k : Fin 24, s.getF (ESTSTR.LRN_STAT_STATE k) ≠ 1) (hq : Quiet (vinLow mv s) 4) :
    Goes (.vinWarnFalling mv) s (fun t => t.cairn.staged = [] ∧ t.getB CLKPWR.VIN_MV_WARN = true ∧ t.getF CLKPWR.VIN_MV_VIN = mv.toNat ∧
      t.getCond 4 = true ∧ t.imgStreams = false ∧ t.mem = s.mem ∧ t.shelf = s.shelf) := by
  have hexec := exec_vinWarnFalling hp (mv := mv)
  rw [if_pos hready, vinLow_raise_stops hq hclear hlearn] at hexec
  have hlog := logged_raise hq []
  have hcond : ((vinLow mv s).raise 4 []).getCond 4 = true := (hlog.getCond (by decide)).trans (getCond_setCond_self true)
  have hstaged : (vinShown mv (vinFlushed ((vinLow mv s).raise 4 []))).cairn.staged = [] := by rw [vinShown_cairn, vinFlushed_staged]
  have hmem : (vinShown mv (vinFlushed ((vinLow mv s).raise 4 []))).mem = s.mem := by
    rw [vinShown_mem, vinFlushed_mem, hlog.mem, vinLow, setCond, putBit, setF_mem, vinShown_mem]
  have hshelf : (vinShown mv (vinFlushed ((vinLow mv s).raise 4 []))).shelf = s.shelf := by
    rw [vinShown_shelf, vinFlushed_shelf, hlog.shelf, vinLow, setCond, putBit, setF_shelf, vinShown_shelf]
  exact ⟨_, hexec, hstaged, vinShown_warn, vinShown_vin, vinFlushed_getCond.trans hcond, vinFlushed_imgStreams, hmem, hshelf⟩

end Shown

end Sys2Proof.Proofs
end

section
/-! SUPPORT. The supplies' other events, the watchdog, the clocks and the temperatures (chapter 3). -/

namespace Sys2Proof.Proofs

open Machine Machine.State Laws

variable {s t : State}

/-! ### VIN back, VHOLD -/

theorem cairnFlush_of_empty (h : s.cairn.staged = []) : s.cairnFlush = s := by
  simp only [cairnFlush, h, List.getLast?_nil]

/-- Nothing waits for VIN (Table 13-6). -/
theorem seqVinBack_self (hslot : ∀ i : Fin 32, (s.seqSlot i).onDlyHeld = false) (hgroup : ∀ g : Fin 4, s.getB (SEQGRP.GRP_STAT_VIN_HELD g) = false) :
    seqVinBack s = s := by
  have hslots : forAll 32 (fun s i => if (s.seqSlot i).onDlyHeld ∧ s.slotSt i = slON_WAIT then s.enableSlot i else s) s = s :=
    forAll_self fun i hi => if_neg fun h => Bool.false_ne_true ((hslot ⟨i, hi⟩).symm.trans h.1)
  simp only [seqVinBack, hslots]
  exact forAll_self fun g hg => if_neg fun h => Bool.false_ne_true ((hgroup ⟨g, hg⟩).symm.trans h)

/-- The end of a condition after fields apart from it (R428). -/
theorem sets_endL {l : List (Fld × Nat)} {src : Nat} (h : Sets s t l) (hl : ∀ x ∈ l, x.1.lo + x.1.w ≤ 32 ∧ ∀ y ∈ condEnd src, Apart x.1 y.1) :
    Sets s (t.endL src) (l ++ condEnd src) := by
  have hbit : src % 32 + 1 ≤ 32 := Nat.mod_lt _ (by decide)
  have hcond : Sets s (t.setCond src false) (l ++ [(⟨FCOL.COND (src / 32), src % 32, 1⟩, 0)]) :=
    h.field _ 0 (Nat.two_pow_pos 1) (fun x hx => ⟨(hl x hx).1, (hl x hx).2 _ List.mem_cons_self⟩) hbit
  have hboth := hcond.field ⟨FCOL.ACT (src / 32), src % 32, 1⟩ 0 (Nat.two_pow_pos 1) (fun x hx => ?_) hbit
  · rwa [List.append_assoc] at hboth
  · rcases List.mem_append.1 hx with hx | hx
    · exact ⟨(hl x hx).1, (hl x hx).2 _ (List.mem_cons_of_mem _ List.mem_cons_self)⟩
    · obtain rfl := List.mem_singleton.1 hx
      exact ⟨hbit, .inl (by simp only [FCOL.COND, FCOL.ACT]; omega)⟩

theorem goesSet_vinWarnRising {mv : Half} (hp : s.powered) (hslot : ∀ i : Fin 32, (s.seqSlot i).onDlyHeld = false)
    (hgroup : ∀ g : Fin 4, s.getB (SEQGRP.GRP_STAT_VIN_HELD g) = false) :
    GoesSet (.vinWarnRising mv) s s ([(CLKPWR.VIN_MV_VIN, mv.toNat), (CLKPWR.VIN_MV_WARN, 0)] ++ condEnd 4) := by
  have hsets : Sets s (((s.setF CLKPWR.VIN_MV_VIN mv.toNat).setF CLKPWR.VIN_MV_WARN 0).endL 4) _ :=
    sets_endL ((sets_refl.field CLKPWR.VIN_MV_VIN mv.toNat mv.isLt).field CLKPWR.VIN_MV_WARN 0)
      (by simp [condEnd, Apart, CLKPWR.VIN_MV, FCOL.COND, FCOL.ACT])
  have hback : seqVinBack (((s.setF CLKPWR.VIN_MV_VIN mv.toNat).setF CLKPWR.VIN_MV_WARN 0).endL 4) =
      ((s.setF CLKPWR.VIN_MV_VIN mv.toNat).setF CLKPWR.VIN_MV_WARN 0).endL 4 := by
    refine seqVinBack_self hslot fun g => ?_
    rw [getB, hsets.keeps (SEQGRP.GRP_STAT_VIN_HELD g) (show 5 + 1 ≤ 32 by decide)
      (by simp [condEnd, Apart, SEQGRP.GRP_STAT, CLKPWR.VIN_MV, FCOL.COND, FCOL.ACT]; omega)]
    exact hgroup g
  exact goesSet_of_eq (if_pos hp) (by rw [hback, ite_self]) hsets

theorem goesSet_vholdReady {mv : Half} (hp : s.powered) (h : s.cairn.staged = []) :
    GoesSet (.vholdReady mv) s s [(CLKPWR.VHOLD_MV_VHOLD, mv.toNat), (CLKPWR.VHOLD_MV_VHOLD_RDY, 1)] := by
  refine goesSet_of_eq (if_pos hp) ?_ ((sets_refl.field CLKPWR.VHOLD_MV_VHOLD mv.toNat mv.isLt).field CLKPWR.VHOLD_MV_VHOLD_RDY 1)
  rw [cairnFlush_of_empty (s := (s.setF CLKPWR.VHOLD_MV_VHOLD mv.toNat).setF CLKPWR.VHOLD_MV_VHOLD_RDY 1) h, ite_self]

/-- VHOLD below its minimum, and what was in flight lost (R493). -/
abbrev vholdGone (mv : Half) (s : State) : State :=
  { (s.setF CLKPWR.VHOLD_MV_VHOLD mv.toNat).setF CLKPWR.VHOLD_MV_VHOLD_RDY 0 with
    cairn := { s.cairn with staged := [], rewrite := none }, ps := { s.ps with flight := none } }

theorem exec_vholdBelowMin (mv : Half) : exec (.vholdBelowMin mv) s = .next (vholdGone mv s).cairnShow := rfl

theorem goes_vholdBelowMin (mv : Half) (s : State) : Goes (.vholdBelowMin mv) s (fun t => t.cairn.staged = [] ∧ t.cairn.rewrite = none ∧
    t.cairn.nv = s.cairn.nv ∧ t.ps.flight = none ∧ t.ps.slots = s.ps.slots ∧ t.getB CLKPWR.VHOLD_MV_VHOLD_RDY = false ∧
    t.getF CLKPWR.VHOLD_MV_VHOLD = mv.toNat ∧ t = { s with regs := t.regs, cairn := t.cairn, ps := t.ps } ∧
    ∀ a, a / 0x1000 ≠ pCAIRN → a ≠ CLKPWR.VHOLD_MV → t.getReg a = s.getReg a) := by
  have hsets := ((sets_refl (s := s)).field CLKPWR.VHOLD_MV_VHOLD mv.toNat mv.isLt).field CLKPWR.VHOLD_MV_VHOLD_RDY 0
  have hkept (a : Nat) (ha : ¬ CairnReg a) : (vholdGone mv s).cairnShow.getReg a =
      ((s.setF CLKPWR.VHOLD_MV_VHOLD mv.toNat).setF CLKPWR.VHOLD_MV_VHOLD_RDY 0).getReg a := cairnShow_kept a ha
  have hfld {f : Fld} {v : Nat} (hm : (f, v) ∈ _) (hf : ¬ CairnReg f.addr) : (vholdGone mv s).cairnShow.getF f = v :=
    (congrArg (bitsOf · f.lo f.w) (hkept _ hf)).trans (hsets.reads _ hm)
  have hrest := cairnShow_rest (s := vholdGone mv s)
  refine ⟨_, exec_vholdBelowMin mv, by rw [cairnShow_cairn], by rw [cairnShow_cairn], by rw [cairnShow_cairn], by rw [hrest], by rw [hrest],
    getB_of_getF_toNat (hfld (v := 0) (by simp) (by decide)), hfld (by simp) (by decide), by rw [hrest]; rfl, fun a hc ha => ?_⟩
  rw [hkept a hc, getReg_setF_ne _ ha, getReg_setF_ne _ ha]

/-! ### Watchdog and clocks -/

theorem goes_watchdogExpiry (hp : s.powered) (hheld : s.dev.takeoverHeld = false) (himg : s.imgStreams = false) :
    Goes .watchdogExpiry s (fun t => ∃ v, Sets { s with dev := { s.dev with mpuRestart := true } } v [(EST.EST_STAT_HELD, 1),
      whole DEV.MPU_RESTARTS (BitVec.ofNat 32 (min (s.getN DEV.MPU_RESTARTS + 1) (2 ^ 32 - 1)))] ∧ t = v.raise 7 []) := by
  have hstop : ({ s with dev := { s.dev with mpuRestart := true } } : State).imgStop = { s with dev := { s.dev with mpuRestart := true } } :=
    if_neg fun h => Bool.false_ne_true (himg.symm.trans h)
  have hdown : s.mpuDown = ({ s with dev := { s.dev with mpuRestart := true } } : State).setF EST.EST_STAT_HELD 1 := by rw [mpuDown, hstop]
  refine ⟨_, if_pos ⟨hp, hheld⟩, _, ?_, rfl⟩
  rw [hdown]
  exact sets_of_mem_iff (sets_setReg (sets_refl.field EST.EST_STAT_HELD 1) (by simp)) (by simp; tauto)

theorem goesRaise_refclkLoss (hp : s.powered) (hsrc : s.getB CLKPWR.CLK_STAT_HFO_SRC) :
    GoesRaise .refclkLoss s { s with dev := { s.dev with hfoFellBack := true } } [(CLKPWR.CLK_STAT_REFCLK_OK, 0), (CLKPWR.CLK_STAT_HFO_SRC, 0),
      (CLKPWR.PLL_STAT_HOLDOVER, s.getF CLKPWR.PLL_STAT_LOCK), condOf 3] 3 [] := by
  have hshown := sets_refl (s := s) |>.field CLKPWR.CLK_STAT_REFCLK_OK 0
  have hsrc' : (s.setF CLKPWR.CLK_STAT_REFCLK_OK 0).getB CLKPWR.CLK_STAT_HFO_SRC = true := by rw [getB, hshown.kept CLKPWR.CLK_STAT_HFO_SRC]; exact hsrc
  have hlock : (s.setF CLKPWR.CLK_STAT_REFCLK_OK 0).getF CLKPWR.PLL_STAT_LOCK = s.getF CLKPWR.PLL_STAT_LOCK := hshown.kept CLKPWR.PLL_STAT_LOCK
  refine goesRaise_of_eq ((if_neg (by simp [hp])).trans (if_pos hsrc')) ?_
  rw [hlock]
  exact sets_of_mem_iff (((((sets_refl (s := { s with dev := { s.dev with hfoFellBack := true } })).field CLKPWR.CLK_STAT_REFCLK_OK 0).field
    CLKPWR.PLL_STAT_HOLDOVER (s.getF CLKPWR.PLL_STAT_LOCK) (getF_lt s _)).field CLKPWR.CLK_STAT_HFO_SRC 0).field ⟨FCOL.COND 0, 3, 1⟩ 1
      (hl := by simp [Apart, FCOL.COND, CLKPWR.CLK_STAT, CLKPWR.PLL_STAT])) (by simp [condOf]; tauto)

theorem goesSet_refclkLoss (hp : s.powered) (hsrc : s.getB CLKPWR.CLK_STAT_HFO_SRC = false) :
    GoesSet .refclkLoss s s [(CLKPWR.CLK_STAT_REFCLK_OK, 0)] := by
  have hshown := sets_refl (s := s) |>.field CLKPWR.CLK_STAT_REFCLK_OK 0
  have hsrc' : (s.setF CLKPWR.CLK_STAT_REFCLK_OK 0).getB CLKPWR.CLK_STAT_HFO_SRC = false := by rw [getB, hshown.kept CLKPWR.CLK_STAT_HFO_SRC]; exact hsrc
  exact goesSet_of_eq ((if_neg (by simp [hp])).trans (if_neg (by simp [hsrc']))) rfl hshown

theorem goesSet_pllLock {p : Pll} {i : Nat} (hp : s.powered)
    (hi : (p = .cpll ∧ i = 0) ∨ (p = .ppll ∧ i = 1) ∨ (p = .lpll ∧ i = 2) ∨ (p = .epll ∧ i = 3)) (hused : s.pllUsed.testBit i) :
    GoesSet (.pllLock p) s s [(⟨CLKPWR.PLL_STAT, i, 1⟩, 1)] := by
  obtain ⟨rfl, rfl⟩ | ⟨rfl, rfl⟩ | ⟨rfl, rfl⟩ | ⟨rfl, rfl⟩ := hi
  all_goals exact goesSet_of_eq (if_pos ⟨hp, hused⟩) rfl (sets_refl.field ⟨CLKPWR.PLL_STAT, _, 1⟩ 1)

/-! ### Temperatures -/

/-- The state that knows the temperature of one region. -/
abbrev oneTemp (r : Nat) (temp : BitVec 16) (s : State) : State :=
  { s.setF (CLKPWR.TEMP_TEMP r) temp.toNat with dev := { s.dev with tempSeen := [(r, s.dev.nowUs)] } }

/-- With one region known, it is the hottest and the coolest (Table 3-19). -/
theorem oneTemp_tempShow {r : Fin 9} {temp : BitVec 16} : (oneTemp r temp s).tempShow =
    (((oneTemp r temp s).setF CLKPWR.TGRAD_HOT r).setF CLKPWR.TGRAD_COOL r).setF CLKPWR.TGRAD_DIFF 0 := by
  have hknown : (List.range 9).filter (fun i => (oneTemp r temp s).dev.tempSeen.any (fun e => e.1 = i ∧ (oneTemp r temp s).dev.nowUs ≤ e.2 + 1000000)) = [r.val] := by
    have honly : (List.range 9).filter (fun i => decide (r.val = i)) = [r.val] := by revert r; decide
    simpa [oneTemp] using honly
  simp only [tempShow, hknown, List.foldl_nil, Int.sub_self, Int.toNat_zero]

theorem sets_oneTemp {r : Fin 9} {temp : BitVec 16} : Sets { s with dev := { s.dev with tempSeen := [(r.val, s.dev.nowUs)] } } (oneTemp r temp s).tempShow
    [(CLKPWR.TEMP_TEMP r, temp.toNat), (CLKPWR.TGRAD_HOT, r.val), (CLKPWR.TGRAD_COOL, r.val), (CLKPWR.TGRAD_DIFF, 0)] := by
  have hpage : CLKPWR.TEMP r.val ≠ CLKPWR.TGRAD := by simp only [CLKPWR.TEMP, CLKPWR.TGRAD]; omega
  have hno : r.val < 2 ^ 4 := r.isLt.trans (by decide)
  rw [oneTemp_tempShow]
  exact (((sets_refl.field (CLKPWR.TEMP_TEMP r) temp.toNat temp.isLt (hw := show 0 + 16 ≤ 32 by decide)).field CLKPWR.TGRAD_HOT r.val hno
    (by simp [Apart, hpage])).field CLKPWR.TGRAD_COOL r.val hno (by simp [Apart, hpage])).field CLKPWR.TGRAD_DIFF 0 (hl := by simp [Apart, hpage])

/-- No known region is above the limit. -/
theorem oneTemp_cool {r : Fin 9} {temp : BitVec 16} (hcool : signedOf 16 temp.toNat ≤ signedOf 16 (s.getF DEV.TJ_HOT_TJ_HOT)) :
    (oneTemp r temp s).tempShow.dev.tempSeen.any (fun e => signedOf 16 ((oneTemp r temp s).tempShow.getF DEV.TJ_HOT_TJ_HOT) <
      signedOf 16 ((oneTemp r temp s).tempShow.getF (CLKPWR.TEMP_TEMP e.1))) = false := by
  have hsets := sets_oneTemp (s := s) (r := r) (temp := temp)
  have hlim : (oneTemp r temp s).tempShow.getF DEV.TJ_HOT_TJ_HOT = s.getF DEV.TJ_HOT_TJ_HOT :=
    hsets.kept DEV.TJ_HOT_TJ_HOT (by simp [Apart, DEV.TJ_HOT, CLKPWR.TEMP, CLKPWR.TGRAD]; omega)
  have hseen : (oneTemp r temp s).tempShow.dev.tempSeen = [(r.val, s.dev.nowUs)] := by rw [hsets.rest]
  simp only [hseen, hlim, List.any_cons, List.any_nil, Bool.or_false, hsets.reads (CLKPWR.TEMP_TEMP r, temp.toNat) (by simp), decide_eq_false_iff_not, not_lt, hcool]

theorem follow_end {src : Nat} {c : Bool} (h : c = false) (d : List Nat) : follow s src c d = s.endL src := if_neg (by simp [h])

/-- FS_DEV's sources of the limit and of the gradient follow the temperatures shown. -/
def tempsFollowed (s : State) : State :=
  (s.follow 5 (s.dev.tempSeen.any (fun e => signedOf 16 (s.getF DEV.TJ_HOT_TJ_HOT) < signedOf 16 (s.getF (CLKPWR.TEMP_TEMP e.1)))) []).follow 6
    (320 < s.getF CLKPWR.TGRAD_DIFF) []

theorem exec_regionTempLimit {r : Fin 9} {temp : BitVec 16} (hp : s.powered) (hr : s.regionState r = 2) (hseen : s.dev.tempSeen = []) :
    exec (.regionTempLimit r temp) s = .next (tempsFollowed (oneTemp r temp s).tempShow) := by
  have hstate : ({ s.setF (CLKPWR.TEMP_TEMP r) temp.toNat with dev := { s.dev with tempSeen := (r.val, s.dev.nowUs) :: eraseKey r s.dev.tempSeen } } : State) =
      oneTemp r temp s := by rw [hseen]; rfl
  rw [← hstate]
  exact if_neg (by simp [hp, hr])

theorem tempsFollowed_oneTemp {r : Fin 9} {temp : BitVec 16} (hcool : signedOf 16 temp.toNat ≤ signedOf 16 (s.getF DEV.TJ_HOT_TJ_HOT)) :
    tempsFollowed (oneTemp r temp s).tempShow = ((oneTemp r temp s).tempShow.endL 5).endL 6 := by
  rw [tempsFollowed, follow_end (oneTemp_cool hcool), follow_end (by simp [sets_oneTemp.reads (CLKPWR.TGRAD_DIFF, 0) (by simp)])]

theorem goesSet_regionTempLimit {r : Fin 9} {temp : BitVec 16} (hp : s.powered) (hr : s.regionState r = 2) (hseen : s.dev.tempSeen = [])
    (hcool : signedOf 16 temp.toNat ≤ signedOf 16 (s.getF DEV.TJ_HOT_TJ_HOT)) :
    GoesSet (.regionTempLimit r temp) s { s with dev := { s.dev with tempSeen := [(r.val, s.dev.nowUs)] } } ([(CLKPWR.TEMP_TEMP r, temp.toNat),
      (CLKPWR.TGRAD_HOT, r.val), (CLKPWR.TGRAD_COOL, r.val), (CLKPWR.TGRAD_DIFF, 0)] ++ condEnd 5 ++ condEnd 6) := by
  refine goesSet_of_eq (exec_regionTempLimit hp hr hseen) (tempsFollowed_oneTemp hcool) (sets_endL (sets_endL sets_oneTemp ?_) ?_)
  · simp [condEnd, Apart, CLKPWR.TEMP, CLKPWR.TGRAD, FCOL.COND, FCOL.ACT]; omega
  · simp [condEnd, Apart, CLKPWR.TEMP, CLKPWR.TGRAD, FCOL.COND, FCOL.ACT]; omega

/-! ### The obligation -/

/-- Settles O37. That VHOLD below its minimum drops the staged records and the write in flight, and that HOLDOVER shows the locked PLLs, are the model's choices (log entries 55 and 107). -/
theorem suppliesAndClocks : Obligations.SuppliesAndClocks := by
  unfold Obligations.SuppliesAndClocks
  exact ⟨fun mv s hp hready hlearn hclear himg hgroup hsev hn => goesRaise_vinWarnFalling hp hready hlearn hclear himg hgroup (quiet_vinLow hsev hn),
    fun mv s hp hready hclear hsev hn _ hlearn => goes_vinWarnFalling hp hready hclear hlearn (quiet_vinLow hsev hn),
    fun mv s hp hslot hgroup => goesSet_vinWarnRising hp hslot hgroup, fun mv s hp hstaged => goesSet_vholdReady hp hstaged, goes_vholdBelowMin,
    fun s => goesSet_of_eq rfl rfl sets_refl, fun s hp hheld himg => goes_watchdogExpiry hp hheld himg,
    fun s hp hrestart hbank => (if_pos ⟨hp, hrestart⟩).trans (congrArg _ (if_pos (.inr hbank))), fun s hp hsrc => goesSet_refclkLoss hp hsrc,
    fun s hp hsrc => goesRaise_refclkLoss hp hsrc, fun s hp hboot => goesSet_of_eq (if_pos ⟨hp, hboot⟩) rfl
      ((sets_refl.field CLKPWR.CLK_STAT_XT32_OK 0).field CLKPWR.CLK_STAT_LFO_SRC 0), fun p i s hp hi hused => goesSet_pllLock hp hi hused,
    fun r temp s hp hr hseen hcool => goesSet_regionTempLimit hp hr hseen hcool⟩

end Sys2Proof.Proofs
end

section
/-! SUPPORT. Fields of an indexed page, counters and folds over nodes under `Sets`; a port's state beside its registers and its transmit queue. -/

namespace Sys2Proof.Sets

open Machine Machine.State Laws Proofs

-- One proof after the other: side by side they take more threads than the check's memory has stacks for.
set_option Elab.async false

variable {s t : State} {l : List (Fld × Nat)}

/-- One more field of an indexed page at the end of the list, where its conditions compute. -/
theorem indexed (h : Sets s t l) (f : Fld) (v : Nat) (hv : v < 2 ^ f.w := by exact Nat.le_of_ble_eq_true rfl)
    (hl : ∀ x ∈ l, x.1.lo + x.1.w ≤ 32 ∧ Apart x.1 f := by simp [Apart, oneMore]) (hw : f.lo + f.w ≤ 32 := by exact Nat.le_of_ble_eq_true rfl) :
    Sets s (t.setF f v) (l ++ [(f, v)]) := h.field f v hv hl hw

/-- A saturating counter at the end of the list. -/
theorem counted (h : Sets s t l) (f : Fld) (hl : ∀ x ∈ l, x.1.lo + x.1.w ≤ 32 ∧ Apart x.1 f ∧ Apart f x.1 := by simp [Apart, oneMore])
    (hw : f.lo + f.w ≤ 32 := by exact Nat.le_of_ble_eq_true rfl) : Sets s (t.incSat f) (l ++ [oneMore s f]) :=
  sets_of_mem_iff (sets_incSat h hw hl) (by simp; tauto)

/-- One field of each node, of as many as `n`. -/
theorem nodes (h : Sets s t l) (f : Nat → Fld) (v n : Nat) (hv : ∀ k, v < 2 ^ (f k).w) (hw : ∀ k, (f k).lo + (f k).w ≤ 32)
    (hl : ∀ k, ∀ x ∈ l, x.1.lo + x.1.w ≤ 32 ∧ Apart x.1 (f k)) (hf : ∀ j k, j < k → Apart (f j) (f k)) :
    Sets s (forAll n (fun s k => s.setF (f k) v) t) (l ++ (List.range n).map (fun k => (f k, v))) := by
  induction n with
  | zero => simpa [forAll] using h
  | succ n ih =>
    have hstep := ih.field (f n) v (hv n) (fun x hx => ?_) (hw n)
    · simpa [forAll, List.range_succ] using hstep
    · rcases List.mem_append.1 hx with hx | hx
      · exact hl n x hx
      · obtain ⟨k, hk, rfl⟩ := List.mem_map.1 hx
        exact ⟨hw k, hf k n (List.mem_range.1 hk)⟩

/-- A single bit apart from the list reads as before. -/
theorem bit (h : Sets s t l) {a i : Nat} (hi : i < 32) (ha : ∀ x ∈ l, Apart ⟨a, i, 1⟩ x.1) : (t.getReg a).getLsbD i = (s.getReg a).getLsbD i := by
  have hbit : (t.getReg a).extractLsb' i 1 = (s.getReg a).extractLsb' i 1 := BitVec.eq_of_toNat_eq (h.keeps ⟨a, i, 1⟩ (show i + 1 ≤ 32 by omega) ha)
  simpa using congrArg (BitVec.getLsbD · 0) hbit

/-- One field set in both states, apart from those in the list. -/
theorem both (h : Sets s t l) (f : Fld) (v : Nat) (hl : ∀ x ∈ l, x.1.lo + x.1.w ≤ 32 ∧ Apart x.1 f := by simp [Apart]) :
    Sets (s.setF f v) (t.setF f v) l where
  reads x hx := (getF_setF_apart (hl x hx).1 (hl x hx).2 v).trans (h.reads x hx)
  keeps g hg ha := by
    have hbits : ((t.setF f v).getReg g.addr).extractLsb' g.lo g.w = ((s.setF f v).getReg g.addr).extractLsb' g.lo g.w := by
      refine BitVec.eq_of_getLsbD_eq fun i hi => ?_
      have hbit := h.bit (a := g.addr) (i := g.lo + i) (by omega) fun x hx => (ha x hx).imp_right fun hx => by dsimp only; omega
      simp only [BitVec.getLsbD_extractLsb', hi, decide_true, Bool.true_and, getReg_setF]
      split
      case isTrue hf => rw [getLsbD_withBits _ _ _ _ _ (by omega), getLsbD_withBits _ _ _ _ _ (by omega), ← hf, hbit]
      case isFalse => exact hbit
    exact congrArg BitVec.toNat hbits
  rest := congrArg (setF · f v) h.rest

end Sys2Proof.Sets

namespace Sys2Proof.Proofs

open Machine Machine.State Laws

-- One proof after the other: side by side they take more threads than the check's memory has stacks for.
set_option Elab.async false

variable {s t : State}

/-! ### Fields that a state keeps -/

/-- A page's state stands in its header: it reads as before where block registers are written. -/
theorem pgRunning_of_sets {u : State} {l : List (Fld × Nat)} (h : Sets u t l) (n : Nat) (hl : ∀ x ∈ l, 0x20 ≤ x.1.addr % 0x1000) :
    t.pgRunning n = u.pgRunning n := by
  have happ : ∀ x ∈ l, Apart (pgStatState n) x.1 := fun x hx => .inl fun e => by
    have := hl x hx
    simp only [pgStat] at e
    omega
  exact congrArg (fun x => decide (x = 2)) (h.keeps (pgStatState n) (by decide : 0 + 3 ≤ 32) happ)

theorem getB_of_sets {u : State} {l : List (Fld × Nat)} (h : Sets u t l) (f : Fld) (hl : ∀ x ∈ l, Apart f x.1 := by simp [Apart])
    (hw : f.lo + f.w ≤ 32 := by exact Nat.le_of_ble_eq_true rfl) : t.getB f = u.getB f :=
  congrArg (fun x => decide (x = 1)) (h.keeps f hw hl)

/-- What one step of a fold sets and the others leave alone. -/
theorem forAll_reads {β : Type} (read : State → β) {f : State → Nat → State} {v : β} {k m : Nat} (hk : k < m) (hset : ∀ s, read (f s k) = v)
    (hkeep : ∀ s j, j ≠ k → read (f s j) = read s) : read (forAll m f s) = v := by
  induction m with
  | zero => omega
  | succ m ih =>
    have hlast : forAll (m + 1) f s = f (forAll m f s) m := by simp [forAll, List.range_succ]
    rw [hlast]
    rcases Nat.lt_succ_iff_lt_or_eq.1 hk with hlt | rfl
    · exact (hkeep _ m (by omega)).trans (ih hlt)
    · exact hset _

/-! ### A port's state beside its registers -/

section Port

variable {n m : Nat} {f : PortSt → PortSt}

theorem prt_updPort_self (h : n < s.port.length) : (s.updPort n f).prt n = f (s.prt n) := by
  simp [prt, List.getD_eq_getElem?_getD, h]

/-- What an update leaves of every port's state, it leaves of this one's. -/
theorem prt_updPort_keeps {β : Type} (g : PortSt → β) (hg : ∀ x, g (f x) = g x) : g ((s.updPort n f).prt m) = g (s.prt m) := by
  simp only [prt, updPort_port, List.getD_eq_getElem?_getD, List.getElem?_modify]
  by_cases hm : n = m
  · cases h : s.port[m]? <;> simp [hm, hg]
  · simp [hm]

/-- What an update makes of every port's state, and of the state of a port that is not there. -/
theorem prt_updPort_const {β : Type} (g : PortSt → β) (c : β) (hg : ∀ x, g (f x) = c) (hrest : g PortSt.rest = c) : g ((s.updPort n f).prt n) = c := by
  simp only [prt, updPort_port, List.getD_eq_getElem?_getD, List.getElem?_modify]
  cases s.port[n]? <;> simp [hg, hrest]

theorem updPort_self (h : ∀ x, f x = x) : s.updPort n f = s := by
  have hid : f = id := funext h
  simp [updPort, hid]

/-! ### The transmit queue -/

theorem length_leBytes (k x : Nat) : (leBytes k x).length = k := by
  induction k generalizing x with
  | zero => rfl
  | succ k ih => simp [leBytes, ih]

/-- Header and CRC-32 take 8 bytes (Table 4-2). -/
theorem length_ctlFrame (node epoch typ seq : Nat) (pl : List Nat) : (ctlFrame node epoch typ seq pl).length = pl.length + 8 := by
  simp [ctlFrame, length_leBytes]

variable {fr : List Byte}

theorem queueRaw_of_full (h : 14 ≤ (s.prt n).tx.length) : s.queueRaw n fr = s := if_pos h

theorem queueRaw_of_free (h : (s.prt n).tx.length < 14) : s.queueRaw n fr =
    (s.writeBytes (txEntry n (s.prt n).txNext) (fr.take 128)).updPort n (fun x => { x with tx := x.tx ++ [fr.length], txNext := x.txNext + 1 }) :=
  if_neg (by omega)

theorem queueRaw_tx (hn : n < s.port.length) (h : (s.prt n).tx.length < 14) : ((s.queueRaw n fr).prt n).tx = (s.prt n).tx ++ [fr.length] := by
  rw [queueRaw_of_free h, prt_updPort_self (by exact hn)]
  rfl

/-- A frame touches its queue entry and its port's queue. -/
theorem queueRaw_regs (n : Nat) (fr : List Byte) : (s.queueRaw n fr).regs = s.regs := by
  simp only [queueRaw]
  split <;> rfl

theorem queueRaw_readByte {a : Nat} (ha : a < txEntry n (s.prt n).txNext.val ∨ txEntry n (s.prt n).txNext.val + (fr.take 128).length ≤ a) :
    (s.queueRaw n fr).readByte a = s.readByte a := by
  simp only [queueRaw]
  split
  · rfl
  · rw [updPort_readByte, readByte_writeBytes, if_neg (by omega)]

theorem queueRaw_keeps {β : Type} (g : PortSt → β) (hg : ∀ x k l, g { x with tx := l, txNext := k } = g x) : g ((s.queueRaw n fr).prt m) = g (s.prt m) := by
  simp only [queueRaw]
  split
  · rfl
  · exact prt_updPort_keeps g fun x => hg x _ _

end Port

end Sys2Proof.Proofs
end

section
/-! SUPPORT. Link changes, walks, rings, ENUM requests and discarded frames of a Yorid port (chapter 4). -/

namespace Sys2Proof.Proofs

open Machine Machine.State Laws

-- One proof after the other: side by side they take more threads than the check's memory has stacks for.
set_option Elab.async false

variable {s t : State}

/-! ### Links -/

section Link

variable {p : Fin 24}

theorem exec_yoridLinkUp (hp : s.powered) (hlink : s.getB (YPORT.PORT_STAT_LINK p) = false) : exec (.yoridLinkUp p) s =
    .next (if (s.setF (YPORT.PORT_STAT_LINK p) 1).pgRunning (pYPORT p) then (s.setF (YPORT.PORT_STAT_LINK p) 1).reEnum p
      else s.setF (YPORT.PORT_STAT_LINK p) 1) :=
  if_neg (by simp [hp, hlink])

theorem goesSet_yoridLinkUp (hp : s.powered) (hlink : s.getB (YPORT.PORT_STAT_LINK p) = false) (hpage : s.pgRunning (pYPORT p) = false) :
    GoesSet (.yoridLinkUp p) s s [(YPORT.PORT_STAT_LINK p, 1)] := by
  have hup := (sets_refl (s := s)).indexed (YPORT.PORT_STAT_LINK p) 1
  have hidle := (pgRunning_of_sets hup (pYPORT p) (by simp)).trans hpage
  exact goesSet_of_eq (exec_yoridLinkUp hp hlink) (if_neg (by simp [hidle])) hup

theorem reEnum_of_idle (h : s.getB (YPORT.PORT_STAT_ENUM_BUSY p) = false) : s.reEnum p =
    ((s.incSat (YPORT.CNT_LINK_REENUM p)).setF (YPORT.PORT_STAT_ENUM_BUSY p) 1).setF (YPORT.PORT_STAT_DLY_BUSY p) 1 :=
  if_neg (by simp [h])

theorem goesSet_yoridLinkUp_running (hp : s.powered) (hlink : s.getB (YPORT.PORT_STAT_LINK p) = false) (hpage : s.pgRunning (pYPORT p))
    (hidle : s.getB (YPORT.PORT_STAT_ENUM_BUSY p) = false) : GoesSet (.yoridLinkUp p) s s
      [(YPORT.PORT_STAT_DLY_BUSY p, 1), (YPORT.PORT_STAT_ENUM_BUSY p, 1), oneMore s (YPORT.CNT_LINK_REENUM p), (YPORT.PORT_STAT_LINK p, 1)] := by
  have hup := (sets_refl (s := s)).indexed (YPORT.PORT_STAT_LINK p) 1
  have hruns := (pgRunning_of_sets hup (pYPORT p) (by simp)).trans hpage
  have hbusy : (s.setF (YPORT.PORT_STAT_LINK p) 1).getB (YPORT.PORT_STAT_ENUM_BUSY p) = false := by
    rw [getB, hup.keeps _ (Nat.le_of_ble_eq_true rfl) (by simp [Apart])]; exact hidle
  refine goesSet_of_eq (exec_yoridLinkUp hp hlink) ((if_pos hruns).trans (reEnum_of_idle hbusy)) (sets_of_mem_iff
    (((hup.counted (YPORT.CNT_LINK_REENUM p)).indexed (YPORT.PORT_STAT_ENUM_BUSY p) 1).indexed (YPORT.PORT_STAT_DLY_BUSY p) 1) (by simp; tauto))

theorem ringFound_none : s.ringFound p false none =
    if s.getB (YPORT.PORT_CFG_RING p) then s.setF (YPORT.PORT_STAT_BROKEN p) 1 else s := by
  unfold ringFound
  cases s.getB (YPORT.PORT_CFG_RING p) <;> rfl

/-- BROKEN as a lost link leaves it (R141). -/
def brokenAfterLoss (s : State) (p : Nat) : Nat := if s.getB (YPORT.PORT_CFG_RING p) then 1 else s.getF (YPORT.PORT_STAT_BROKEN p)

theorem sets_ringLost {u : State} {l : List (Fld × Nat)} (h : Sets u t l) (hring : ∀ x ∈ l, Apart (YPORT.PORT_CFG_RING p) x.1 := by simp [Apart])
    (hkept : ∀ x ∈ l, Apart (YPORT.PORT_STAT_BROKEN p) x.1 := by simp [Apart])
    (hset : ∀ x ∈ l, x.1.lo + x.1.w ≤ 32 ∧ Apart x.1 (YPORT.PORT_STAT_BROKEN p) := by simp [Apart]) :
    Sets u (t.ringFound p false none) (l ++ [(YPORT.PORT_STAT_BROKEN p, brokenAfterLoss u p)]) := by
  rw [ringFound_none, getB_of_sets h _ hring, brokenAfterLoss]
  split
  · exact h.indexed (YPORT.PORT_STAT_BROKEN p) 1 (hl := hset)
  · refine ⟨fun x hx => ?_, fun g hg ha => h.keeps g hg fun x hx => ha x (List.mem_append_left _ hx), h.rest⟩
    rcases List.mem_append.1 hx with hx | hx
    · exact h.reads x hx
    · obtain rfl := List.mem_singleton.1 hx
      exact h.keeps (YPORT.PORT_STAT_BROKEN p) (Nat.le_of_ble_eq_true rfl) hkept

theorem markDown_setF (f : Fld) (v n : Nat) : (s.setF f v).markDown n = (s.markDown n).setF f v := rfl

/-- What a lost link shows (R98, R141). -/
def linkGone (s : State) (p : Nat) : State :=
  forAll 32 (fun s k => s.setF (YPORT.NODE_POS_REACH p k) 0)
    ((((((s.setF (YPORT.PORT_STAT_LINK p) 0).setF (YPORT.PORT_STAT_HERE p) 0).markDown p).enumOver p).setF (YPORT.PORT_STAT_FAR_PORT p) 0).ringFound p
      false none)

theorem sets_linkGone : Sets (s.markDown p) (linkGone s p) ([(YPORT.PORT_STAT_LINK p, 0), (YPORT.PORT_STAT_HERE p, 0), (YPORT.PORT_STAT_ENUM_BUSY p, 0),
    (YPORT.PORT_STAT_DLY_BUSY p, 0), (YPORT.PORT_STAT_FAR_PORT p, 0), (YPORT.PORT_STAT_BROKEN p, brokenAfterLoss s p)] ++
      (List.range 32).map (fun k => (YPORT.NODE_POS_REACH p k, 0))) := by
  have hflags := ((((sets_refl (s := s.markDown p)).indexed (YPORT.PORT_STAT_LINK p) 0).indexed (YPORT.PORT_STAT_HERE p) 0).indexed
    (YPORT.PORT_STAT_ENUM_BUSY p) 0).indexed (YPORT.PORT_STAT_DLY_BUSY p) 0 |>.indexed (YPORT.PORT_STAT_FAR_PORT p) 0
  rw [linkGone, markDown_setF, markDown_setF, enumOver]
  exact (sets_ringLost (p := p) hflags).nodes (YPORT.NODE_POS_REACH p) 0 32 (fun _ => Nat.two_pow_pos 1)
    (fun _ => Nat.le_of_ble_eq_true rfl) (fun k => by simp [Apart]) (fun j k hjk => .inl (by simp; omega))

theorem sets_linkGone_counted : Sets (s.markDown p) ((linkGone s p).incSat (YPORT.CNT_LINK_DOWN p)) ([oneMore s (YPORT.CNT_LINK_DOWN p),
    (YPORT.PORT_STAT_DLY_BUSY p, 0), (YPORT.PORT_STAT_ENUM_BUSY p, 0), (YPORT.PORT_STAT_HERE p, 0), (YPORT.PORT_STAT_FAR_PORT p, 0),
    (YPORT.PORT_STAT_BROKEN p, brokenAfterLoss s p), (YPORT.PORT_STAT_LINK p, 0)] ++ (List.range 32).map (fun k => (YPORT.NODE_POS_REACH p k, 0))) :=
  sets_of_mem_iff (sets_linkGone.counted (YPORT.CNT_LINK_DOWN p)) fun x => by
    have hcount : oneMore (s.markDown p) (YPORT.CNT_LINK_DOWN p) = oneMore s (YPORT.CNT_LINK_DOWN p) := rfl
    simp only [hcount, List.mem_append, List.mem_cons, List.not_mem_nil, or_false]
    tauto

theorem exec_yoridLinkDown (hp : s.powered) (hlink : s.getB (YPORT.PORT_STAT_LINK p)) (hpage : s.pgRunning (pYPORT p)) :
    exec (.yoridLinkDown p) s = .next (((linkGone s p).incSat (YPORT.CNT_LINK_DOWN p)).raise (16 + 2 * p) [2]) := by
  have hgone : (linkGone s p).pgRunning (pYPORT p) = true := (pgRunning_of_sets sets_linkGone (pYPORT p) (by simp [YPORT.NODE_POS]; omega)).trans hpage
  have hcounted : ((linkGone s p).incSat (YPORT.CNT_LINK_DOWN p)).pgRunning (pYPORT p) = true :=
    (pgRunning_of_sets sets_linkGone_counted (pYPORT p) (by simp [oneMore, YPORT.NODE_POS]; omega)).trans hpage
  have hon : ¬ (linkGone s p).pgState (pYPORT p) = psOFF := fun hoff => by simp [pgRunning, hoff] at hgone
  have hexec : exec (.yoridLinkDown p) s = execYoridLinkDown p s := rfl
  rw [linkGone] at hon hcounted
  rw [hexec, execYoridLinkDown, if_neg (by simp [hp, hlink])]
  dsimp only
  rw [if_neg hon, if_pos hcounted, linkGone]

theorem goesRaise_yoridLinkDown (hp : s.powered) (hlink : s.getB (YPORT.PORT_STAT_LINK p)) (hpage : s.pgRunning (pYPORT p)) :
    GoesRaise (.yoridLinkDown p) s (s.markDown p) ([oneMore s (YPORT.CNT_LINK_DOWN p), (YPORT.PORT_STAT_DLY_BUSY p, 0),
      (YPORT.PORT_STAT_ENUM_BUSY p, 0), (YPORT.PORT_STAT_HERE p, 0), (YPORT.PORT_STAT_FAR_PORT p, 0), (YPORT.PORT_STAT_BROKEN p, brokenAfterLoss s p),
      (YPORT.PORT_STAT_LINK p, 0)] ++ (List.range 32).map (fun k => (YPORT.NODE_POS_REACH p k, 0))) (16 + 2 * p) [2] :=
  goesRaise_of_eq (exec_yoridLinkDown hp hlink hpage) sets_linkGone_counted

end Link

/-! ### Walks -/

section Walk

variable {p : Fin 24} {w : WalkResult}

theorem exec_enumerationWalk (hlive : s.portLive p) (hlink : s.getB (YPORT.PORT_STAT_LINK p)) :
    exec (.enumerationWalk p w) s = .next ((s.walkDone p w).askSeen p) := if_pos ⟨hlive, hlink⟩

/-- Where a ring is looked for, its state is found alike in two states that differ elsewhere. -/
theorem sets_ringFound {u : State} {l : List (Fld × Nat)} (h : Sets u t l) (n : Nat) (far : Bool) (near : Option Nat)
    (hring : ∀ x ∈ l, Apart (YPORT.PORT_CFG_RING n) x.1 := by simp [Apart])
    (hbroken : ∀ x ∈ l, x.1.lo + x.1.w ≤ 32 ∧ Apart x.1 (YPORT.PORT_STAT_BROKEN n) := by simp [Apart])
    (hnear : ∀ x ∈ l, x.1.lo + x.1.w ≤ 32 ∧ Apart x.1 (YPORT.BREAK_NEAR n) := by simp [Apart]) :
    Sets (u.ringFound n far near) (t.ringFound n far near) l := by
  have hboth := h.both (YPORT.PORT_STAT_BROKEN n) (!far).toNat hbroken
  simp only [ringFound, getB_of_sets h _ hring]
  split
  · exact h
  · rcases near with _ | k
    · exact hboth
    · cases far
      exacts [hboth.both (YPORT.BREAK_NEAR n) k hnear, hboth]

/-- The fields that a walk shows before the ring's state (R130). -/
def walkShown (s : State) (n : Nat) (w : WalkResult) : State :=
  (((s.enumOver n).setF (YPORT.PORT_STAT_HERE n) w.nodes.length).setB (YPORT.PORT_STAT_FAR_PORT n) w.farPort).setB (YPORT.PORT_STAT_UNADDR n)
    ((s.addressed w).length < w.nodes.length)

theorem sets_walkShown (hlen : w.nodes.length ≤ 32) : Sets s (walkShown s p w) [(YPORT.PORT_STAT_ENUM_BUSY p, 0), (YPORT.PORT_STAT_DLY_BUSY p, 0),
    (YPORT.PORT_STAT_HERE p, w.nodes.length), (YPORT.PORT_STAT_FAR_PORT p, w.farPort.toNat),
    (YPORT.PORT_STAT_UNADDR p, (decide ((s.addressed w).length < w.nodes.length)).toNat)] := by
  have hover := ((sets_refl (s := s)).indexed (YPORT.PORT_STAT_ENUM_BUSY p) 0).indexed (YPORT.PORT_STAT_DLY_BUSY p) 0
  rw [walkShown, enumOver, setB, setB]
  exact ((hover.indexed (YPORT.PORT_STAT_HERE p) w.nodes.length (show _ < 2 ^ 6 by omega)).indexed (YPORT.PORT_STAT_FAR_PORT p) _
    (toNat_lt_two _)).indexed (YPORT.PORT_STAT_UNADDR p) _ (toNat_lt_two _)

/-- A walk of a chain that no rule allows (R124), before its fault. -/
def badWalk (s : State) (n : Nat) (w : WalkResult) : State :=
  ((walkShown s n w).ringFound n w.farPort (lastNode (s.addressed w) w)).setF (YPORT.PORT_STAT_CONV n) 0

theorem sets_badWalk (hlen : w.nodes.length ≤ 32) : Sets (s.ringFound p w.farPort (lastNode (s.addressed w) w)) (badWalk s p w)
    [(YPORT.PORT_STAT_CONV p, 0), (YPORT.PORT_STAT_UNADDR p, (decide ((s.addressed w).length < w.nodes.length)).toNat),
      (YPORT.PORT_STAT_FAR_PORT p, w.farPort.toNat), (YPORT.PORT_STAT_HERE p, w.nodes.length), (YPORT.PORT_STAT_DLY_BUSY p, 0),
      (YPORT.PORT_STAT_ENUM_BUSY p, 0)] := by
  have hring := sets_ringFound (sets_walkShown (s := s) (p := p) hlen) p w.farPort (lastNode (s.addressed w) w)
  exact sets_of_mem_iff (hring.indexed (YPORT.PORT_STAT_CONV p) 0) (by simp; tauto)

/-- The registers in which a walk shows what it found of the chain as a whole. -/
abbrev ChainReg (n a : Nat) : Prop := a = YPORT.PORT_STAT n ∨ a = YPORT.BREAK n

theorem ringFound_kept (s : State) (n : Nat) (far : Bool) (near : Option Nat) :
    RegsKept (ChainReg n) s (s.ringFound n far near) ∧ s.ringFound n far near = { s with regs := (s.ringFound n far near).regs } := by
  have hbroken : RegsKept (ChainReg n) s (s.setB (YPORT.PORT_STAT_BROKEN n) (!far)) := regsKept_setF regsKept_refl (.inl rfl) _
  unfold ringFound
  split
  · exact ⟨regsKept_refl, rfl⟩
  · rcases near with _ | k
    · exact ⟨hbroken, rfl⟩
    · cases far
      exacts [⟨regsKept_setF hbroken (.inr rfl) _, rfl⟩, ⟨hbroken, rfl⟩]

theorem walkShown_kept (s : State) (n : Nat) (w : WalkResult) : RegsKept (ChainReg n) s (walkShown s n w) :=
  regsKept_setF (regsKept_setF (regsKept_setF (regsKept_setF (regsKept_setF regsKept_refl (.inl rfl) _) (.inl rfl) _) (.inl rfl) _) (.inl rfl) _) (.inl rfl) _

/-- The composition that R124 refuses depends on the FORM strap and on MONITOR_ONLY. -/
theorem badChain_congr {n : Nat} (hdev : t.dev = s.dev) (hmon : t.getF (YPORT.PORT_CFG_MONITOR_ONLY n) = s.getF (YPORT.PORT_CFG_MONITOR_ONLY n)) :
    t.badChain n w = s.badChain n w := by
  unfold badChain getB
  rw [hdev, hmon]

theorem walkDone_badChain (h : s.badChain p w) : s.walkDone p w = (badWalk s p w).raise (16 + 2 * p) [3] := by
  obtain ⟨hregs, hrest⟩ := ringFound_kept (walkShown s p w) p w.farPort (lastNode (s.addressed w) w)
  have hbad : ((walkShown s p w).ringFound p w.farPort (lastNode (s.addressed w) w)).badChain p w = true := by
    have hcfg : ¬ ChainReg p (YPORT.PORT_CFG p) := by simp [ChainReg]
    rwa [badChain_congr (by rw [hrest]; rfl) ((getF_of_regsKept hregs hcfg).trans (getF_of_regsKept (walkShown_kept s p w) hcfg))]
  rw [walkShown] at hbad
  simp only [walkDone, hbad, ↓reduceIte, badWalk, walkShown]

theorem goes_enumerationWalk_badChain (hlive : s.portLive p) (hlink : s.getB (YPORT.PORT_STAT_LINK p)) (hbad : s.badChain p w)
    (hlen : w.nodes.length ≤ 32) : Goes (.enumerationWalk p w) s (fun t => ∃ v, Sets (s.ringFound p w.farPort (lastNode (s.addressed w) w)) v
      [(YPORT.PORT_STAT_CONV p, 0), (YPORT.PORT_STAT_UNADDR p, (decide ((s.addressed w).length < w.nodes.length)).toNat),
        (YPORT.PORT_STAT_FAR_PORT p, w.farPort.toNat), (YPORT.PORT_STAT_HERE p, w.nodes.length), (YPORT.PORT_STAT_DLY_BUSY p, 0),
        (YPORT.PORT_STAT_ENUM_BUSY p, 0)] ∧ t = (v.raise (16 + 2 * p) [3]).askSeen p) :=
  ⟨_, exec_enumerationWalk hlive hlink, badWalk s p w, sets_badWalk hlen, by rw [walkDone_badChain hbad]⟩

/-! ### The periodic LOCATE -/

/-- The retry of a HOLD_TIME write that failed (R118). -/
abbrev holdRetried (s : State) (n : Nat) : State := s.updPort n (fun x => { x with holdDue := x.holdDue || x.holdBad, holdBad := false })

theorem exec_remeasTimer (hlive : s.portLive p) (hlink : s.getB (YPORT.PORT_STAT_LINK p)) (hidle : s.getB (YPORT.PORT_STAT_ENUM_BUSY p) = false) :
    exec (.remeasTimer p w) s = if s.walkDiffers p w then .next (((holdRetried s p).reEnum p).walkDone p w)
      else .next ((located w).1.foldl (fun s (e : Nat × FoundNode) => s.measureNode p e.1 e.2)
        ((holdRetried s p).ringFound p w.farPort (lastNode (located w).1 w))) :=
  if_pos ⟨hlive, hlink, hidle⟩

/-! ### HOLD_TIME -/

theorem exec_holdTimeWrite (hlive : s.portLive p) (hact : s.isActive) (hdue : (s.prt p).holdDue) (hconv : s.getB (YPORT.PORT_STAT_CONV p)) :
    exec (.holdTimeWrite p) s = .next ((s.updPort p (fun x => { x with holdDue := false, holdBad := false })).ask p (.hold (s.getReg (YPORT.HOLD_CFG p))) 0
      ftWRITE (writePl 0x028 [s.getN (YPORT.HOLD_CFG p)])) :=
  if_pos ⟨hlive, hact, hdue, hconv⟩

theorem writePl_one (a v : Nat) : writePl a [v] = leBytes 2 a ++ [1, 0] ++ leBytes 4 v := by
  simp [writePl]

end Walk

/-! ### Rings -/

section Ring

variable {p : Fin 24} {w : WalkResult} {n : Nat} {near : Option Nat}

theorem ringFound_getF {f : Fld} (far : Bool) (hb : Apart f (YPORT.PORT_STAT_BROKEN n) := by simp [Apart]) (hn : Apart f (YPORT.BREAK_NEAR n) := by simp [Apart])
    (hw : f.lo + f.w ≤ 32 := by exact Nat.le_of_ble_eq_true rfl) : (s.ringFound n far near).getF f = s.getF f := by
  have hbroken : (s.setB (YPORT.PORT_STAT_BROKEN n) (!far)).getF f = s.getF f := getF_setF_apart hw hb _
  unfold ringFound
  split
  · rfl
  · rcases near with _ | k
    · exact hbroken
    · cases far
      exacts [(getF_setF_apart hw hn k).trans hbroken, hbroken]

/-- Of a broken ring this end shows BROKEN and the last node reached (R141). -/
theorem ringFound_broken (h : s.getB (YPORT.PORT_CFG_RING n)) : (s.ringFound n false near).getB (YPORT.PORT_STAT_BROKEN n) = true ∧
    ∀ k, near = some k → (s.ringFound n false near).getF (YPORT.BREAK_NEAR n) = k % 32 := by
  have hset : (s.setF (YPORT.PORT_STAT_BROKEN n) 1).getF (YPORT.PORT_STAT_BROKEN n) = 1 := getF_setF_self (Nat.le_of_ble_eq_true rfl) 1
  have hfound : s.ringFound n false near = match near with
      | some k => (s.setF (YPORT.PORT_STAT_BROKEN n) 1).setF (YPORT.BREAK_NEAR n) k
      | none => s.setF (YPORT.PORT_STAT_BROKEN n) 1 := (if_neg (by simp [h])).trans (by cases near <;> rfl)
  rw [hfound]
  rcases near with _ | k
  · exact ⟨decide_eq_true hset, nofun⟩
  · refine ⟨decide_eq_true ((getF_setF_addr (by simp) k).trans hset), ?_⟩
    rintro _ ⟨⟩
    exact getF_setF_self (Nat.le_of_ble_eq_true rfl) k

/-- A known node's place after LOCATE on a ring: its position where it was reached, none where it was not (R141, R143). -/
def nodeLocated (n : Nat) (l : List (Nat × FoundNode)) (s : State) (k : Nat) : State :=
  match l.find? (fun (e : Nat × FoundNode) => e.1 = k) with
  | some e => if s.getB (YPORT.NODE_POS_PRESENT n k) then (s.setF (YPORT.NODE_POS_REACH n k) 1).setF (YPORT.NODE_POS_POS n k) e.2.pos else s
  | none => (s.setF (YPORT.NODE_POS_REACH n k) 0).setF (YPORT.NODE_POS_POS n k) 0

/-- What a port shows of its ring as a whole after LOCATE. -/
def ringShown (s : State) (n : Nat) (w : WalkResult) : State :=
  ((s.setB (YPORT.PORT_STAT_FAR_PORT n) (located w).2).setF (YPORT.PORT_STAT_HERE n) (located w).1.length).ringFound n (located w).2 (lastNode (located w).1 w)

theorem locateRing_eq (s : State) (n : Nat) (w : WalkResult) :
    s.locateRing n w = forAll 32 (nodeLocated n (located w).1) (ringShown s n w) := rfl

theorem nodeLocated_kept (l : List (Nat × FoundNode)) (k : Nat) :
    RegsKept (· = YPORT.NODE_POS n k) s (nodeLocated n l s k) ∧ nodeLocated n l s k = { s with regs := (nodeLocated n l s k).regs } := by
  have hplace (r v : Nat) : RegsKept (· = YPORT.NODE_POS n k) s ((s.setF (YPORT.NODE_POS_REACH n k) r).setF (YPORT.NODE_POS_POS n k) v) :=
    regsKept_setF (f := YPORT.NODE_POS_POS n k) (regsKept_setF (f := YPORT.NODE_POS_REACH n k) regsKept_refl (p := (· = YPORT.NODE_POS n k)) rfl r) rfl v
  unfold nodeLocated
  split
  · split
    exacts [⟨hplace _ _, rfl⟩, ⟨regsKept_refl, rfl⟩]
  · exact ⟨hplace _ _, rfl⟩

/-- The registers in which the nodes' places stand. -/
abbrev NodeReg (n a : Nat) : Prop := ∃ k < 32, a = YPORT.NODE_POS n k

theorem locateRing_kept : RegsKept (NodeReg n) (ringShown s n w) (s.locateRing n w) ∧ s.locateRing n w = { s with regs := (s.locateRing n w).regs } := by
  have hshown : ringShown s n w = { s with regs := (ringShown s n w).regs } := by
    rw [ringShown, (ringFound_kept _ n _ _).2]
    rfl
  rw [locateRing_eq]
  refine List.foldlRecOn (motive := fun t => RegsKept (NodeReg n) (ringShown s n w) t ∧ t = { s with regs := t.regs }) (List.range 32) _
    ⟨regsKept_refl, hshown⟩ fun t ht k hk => ?_
  obtain ⟨hregs, hrest⟩ := nodeLocated_kept (s := t) (n := n) (located w).1 k
  exact ⟨fun a ha => (hregs a fun e => ha ⟨k, List.mem_range.1 hk, e⟩).trans (ht.1 a ha), by rw [hrest, ht.2]⟩

theorem locateRing_unreached {k : Nat} (hk : k < 32) (h : (located w).1.find? (fun (e : Nat × FoundNode) => e.1 = k) = none) :
    (s.locateRing n w).getB (YPORT.NODE_POS_REACH n k) = false := by
  have hreach : (s.locateRing n w).getF (YPORT.NODE_POS_REACH n k) = 0 := by
    rw [locateRing_eq]
    refine forAll_reads (getF · (YPORT.NODE_POS_REACH n k)) hk (fun t => ?_) fun t j hj => ?_
    · simp only [nodeLocated, h]
      exact (getF_setF_bits (Nat.le_of_ble_eq_true rfl) (.inr (Nat.le_of_ble_eq_true rfl)) 0).trans (getF_setF_self (Nat.le_of_ble_eq_true rfl) 0)
    · exact getF_of_regsKept (nodeLocated_kept _ j).1 (by simp; omega)
  simp [getB, hreach]

theorem exec_ringBreak (hlive : s.portLive p) (hring : s.getB (YPORT.PORT_CFG_RING p)) (hfar : w.farPort = false) :
    exec (.ringBreak p w) s = .next (s.locateRing p w) := if_pos ⟨hlive, hring, hfar⟩

theorem goes_ringBreak (hlive : s.portLive p) (hring : s.getB (YPORT.PORT_CFG_RING p)) (hfar : w.farPort = false) :
    Goes (.ringBreak p w) s (fun t => t = s.locateRing p w ∧ t.getB (YPORT.PORT_STAT_BROKEN p) = true ∧ t.getB (YPORT.PORT_STAT_FAR_PORT p) = false ∧
      t.getF (YPORT.PORT_STAT_HERE p) = (located w).1.length % 64 ∧ t = { s with regs := t.regs } ∧
      (∀ n, lastNode (located w).1 w = some n → t.getF (YPORT.BREAK_NEAR p) = n % 32) ∧
      ∀ k : Fin 32, ((located w).1.find? (fun (e : Nat × FoundNode) => e.1 = k)) = none → t.getB (YPORT.NODE_POS_REACH p k) = false) := by
  obtain ⟨hregs, hrest⟩ := locateRing_kept (s := s) (n := p) (w := w)
  have hnodes {f : Fld} (hf : f.addr = YPORT.PORT_STAT p ∨ f.addr = YPORT.BREAK p) : (s.locateRing p w).getF f = (ringShown s p w).getF f :=
    getF_of_regsKept hregs fun ⟨k, _, he⟩ => by
      simp only [YPORT.PORT_STAT, YPORT.BREAK, YPORT.NODE_POS] at hf he
      omega
  have hlost : (located w).2 = false := by simp [located, hfar]
  have hcfg : ((s.setB (YPORT.PORT_STAT_FAR_PORT p) false).setF (YPORT.PORT_STAT_HERE p) (located w).1.length).getB (YPORT.PORT_CFG_RING p) = true := by
    rw [getB, getF_setF_addr (by simp), setB, getF_setF_addr (by simp)]
    exact hring
  obtain ⟨hbroken, hnear⟩ := ringFound_broken (near := lastNode (located w).1 w) hcfg
  have hhere : (ringShown s p w).getF (YPORT.PORT_STAT_HERE p) = (located w).1.length % 64 :=
    (ringFound_getF _).trans (getF_setF_self (Nat.le_of_ble_eq_true rfl) _)
  have hfarShown : (ringShown s p w).getF (YPORT.PORT_STAT_FAR_PORT p) = 0 := by
    rw [ringShown, ringFound_getF, getF_setF_apart (Nat.le_of_ble_eq_true rfl) (by simp [Apart]), hlost]
    exact getF_setF_self (Nat.le_of_ble_eq_true rfl) 0
  refine ⟨_, exec_ringBreak hlive hring hfar, rfl, ?_, ?_, (hnodes (.inl rfl)).trans hhere, hrest, fun k hk => ?_,
    fun k hk => locateRing_unreached k.isLt hk⟩
  · rw [getB, hnodes (.inl rfl), ringShown, hlost]
    exact hbroken
  · simp [getB, hnodes, hfarShown]
  · rw [hnodes (.inr rfl), ringShown, hlost]
    exact hnear k hk

theorem exec_ringClose (hlive : s.portLive p) (hbroken : s.getB (YPORT.PORT_STAT_BROKEN p)) (hfar : w.farPort) : exec (.ringClose p w) s =
    .next (if (s.locateRing p w).walkDiffers p w then (s.locateRing p w).reEnum p else s.locateRing p w) :=
  if_pos ⟨hlive, hbroken, hfar⟩

end Ring

/-! ### ENUM requests and discarded frames -/

section Discarded

variable {p : Fin 24} {c : EnumCmd} {q hop : Byte}

/-- Four values that the spec leaves open are taken, and a reply of 24 bytes is queued (R125, Table 4-8). -/
theorem exec_enumRequestAtPort (hlive : s.portLive p) : ∃ fr : List Byte, fr.length = 24 ∧
    exec (.enumRequestAtPort p c q hop) s = .next (({ s with free := s.free + 4 } : State).queueRaw p fr) :=
  ⟨ctlFrame _ _ _ _ _, by rw [length_ctlFrame]; simp [length_leBytes], if_pos hlive⟩

theorem goes_enumRequestAtPort (hlive : s.portLive p) (hp : p.val < s.port.length) (hfree : (s.prt p).tx.length < 14) :
    Goes (.enumRequestAtPort p c q hop) s (fun t => t.regs = s.regs ∧ (t.prt p).tx = (s.prt p).tx ++ [24] ∧
      ∀ a, a < txEntry p (s.prt p).txNext.val ∨ txEntry p (s.prt p).txNext.val + 24 ≤ a → t.readByte a = s.readByte a) := by
  obtain ⟨fr, hlen, hexec⟩ := exec_enumRequestAtPort hlive (c := c) (q := q) (hop := hop)
  refine ⟨_, hexec, queueRaw_regs p fr, ?_, fun a ha => queueRaw_readByte (s := { s with free := s.free + 4 }) ?_⟩
  · exact (queueRaw_tx (s := { s with free := s.free + 4 }) hp hfree).trans (by rw [hlen]; rfl)
  · rw [List.take_of_length_le (by omega), hlen]
    exact ha

theorem goes_enumRequestAtPort_full (hlive : s.portLive p) (hfull : 14 ≤ (s.prt p).tx.length) :
    Goes (.enumRequestAtPort p c q hop) s (fun t => t.regs = s.regs ∧ t.mem = s.mem ∧ t.port = s.port) := by
  obtain ⟨fr, -, hexec⟩ := exec_enumRequestAtPort hlive (c := c) (q := q) (hop := hop)
  rw [queueRaw_of_full (s := { s with free := s.free + 4 }) hfull] at hexec
  exact ⟨_, hexec, rfl, rfl, rfl⟩

/-- The CRC errors of the last second with the present one (Table 4-10). -/
abbrev crcSeen (s : State) (n : Nat) : List Nat := s.dev.nowUs :: (s.prt n).crcAt.filter (fun t => s.dev.nowUs < t + 1000000)

theorem crcError_within (h : s.getF (YPORT.PORT_TMO_CRC_LIMIT p) = 0 ∨
    ((s.prt p).crcAt.filter (fun t => s.dev.nowUs < t + 1000000)).length < s.getF (YPORT.PORT_TMO_CRC_LIMIT p)) (how : RaiseHow) :
    s.crcError p how = (s.updPort p (fun x => { x with crcAt := crcSeen s p })).incSat (YPORT.CNT_ERR_CRC p) := by
  have hfew : ¬ (s.getF (YPORT.PORT_TMO_CRC_LIMIT p) ≠ 0 ∧ s.getF (YPORT.PORT_TMO_CRC_LIMIT p) < (crcSeen s p).length) := by
    rw [List.length_cons]
    omega
  simp only [crcError, if_neg hfew]
  rfl

theorem goesSet_yoridFrameDiscarded_crc (hp : s.powered) (hoff : s.pgState (pYPORT p) ≠ psOFF) (h : s.getF (YPORT.PORT_TMO_CRC_LIMIT p) = 0 ∨
    ((s.prt p).crcAt.filter (fun t => s.dev.nowUs < t + 1000000)).length < s.getF (YPORT.PORT_TMO_CRC_LIMIT p)) :
    GoesSet (.yoridFrameDiscarded p .crc) s (s.updPort p (fun x => { x with crcAt := crcSeen s p })) [oneMore s (YPORT.CNT_ERR_CRC p)] :=
  goesSet_of_eq (if_neg (by simp [hp, hoff])) (crcError_within h .plain) (sets_refl.counted (YPORT.CNT_ERR_CRC p))

end Discarded

/-! ### The obligation -/

/-- Settles O9. That HERE reads 0 after a link loss (log entry 58) and that a frame which finds 14 waiting is dropped (log entry 111) are the model's choices. -/
theorem yoridLinkEvents : Obligations.YoridLinkEvents := by
  unfold Obligations.YoridLinkEvents
  refine ⟨fun p s hp hlink hpage => goesSet_yoridLinkUp hp hlink hpage, fun p s hp hlink hpage hidle => goesSet_yoridLinkUp_running hp hlink hpage hidle,
    fun p s hp hlink hpage => goesRaise_yoridLinkDown hp hlink hpage, fun p w s hlive hlink => exec_enumerationWalk hlive hlink,
    fun p w s hlive hlink hbad hlen => goes_enumerationWalk_badChain hlive hlink hbad hlen,
    fun p w s hlive hlink hidle hsame => (exec_remeasTimer hlive hlink hidle).trans (if_neg (by simp [hsame])),
    fun p w s hlive hlink hidle hdiff => (exec_remeasTimer hlive hlink hidle).trans (if_pos hdiff),
    fun p s hlive hact hdue hconv => ?hold, fun p w s hlive hring hfar => goes_ringBreak hlive hring hfar,
    fun p w s hlive hbroken hfar hsame => (exec_ringClose hlive hbroken hfar).trans (congrArg _ (if_neg (by simp [hsame]))),
    fun p w s hlive hbroken hfar hdiff => (exec_ringClose hlive hbroken hfar).trans (congrArg _ (if_pos hdiff)),
    fun p s hp hoff => ?discarded, fun p s hp hoff hfew => goesSet_yoridFrameDiscarded_crc hp hoff hfew,
    fun p c q hop s hlive hp hfree => goes_enumRequestAtPort hlive hp hfree, fun p c q hop s hlive hfull => goes_enumRequestAtPort_full hlive hfull⟩
  case hold =>
    rw [exec_holdTimeWrite hlive hact hdue hconv, writePl_one]
  case discarded =>
    have hon : ¬ (!s.powered ∨ s.pgState (pYPORT p) = psOFF) := by simp [hp, hoff]
    exact ⟨⟨_, if_neg hon, sets_refl.counted (YPORT.CNT_ERR_SYM p)⟩, ⟨_, if_neg hon, sets_refl.counted (YPORT.CNT_FRM_MALF p)⟩,
      ⟨_, if_neg hon, sets_refl.counted (YPORT.CNT_FRM_ABORT p)⟩, ⟨_, if_neg hon, sets_refl.counted (YPORT.CNT_MISC_SLIP p)⟩⟩

end Sys2Proof.Proofs
end

section
/-! SUPPORT. Received frames of a Yorid port, and answers that stay out (chapters 4 and 5). -/

namespace Sys2Proof.Sets

open Machine Machine.State Laws Proofs

-- One proof after the other: side by side they take more threads than the check's memory has stacks for.
set_option Elab.async false

variable {s t : State} {l : List (Fld × Nat)}

theorem updPair (h : Sets s t l) (g : PairSt → PairSt) : Sets (s.updPair g) (t.updPair g) l :=
  ⟨h.reads, h.keeps, congrArg (State.updPair · g) h.rest⟩

theorem dev (h : Sets s t l) : t.dev = s.dev := by rw [h.rest]

theorem isPair (h : Sets s t l) : t.isPair = s.isPair := by rw [State.isPair, h.dev]; rfl

end Sys2Proof.Sets

namespace Sys2Proof.Proofs

open Machine Machine.State Laws

-- One proof after the other: side by side they take more threads than the check's memory has stacks for.
set_option Elab.async false

variable {s t : State}

theorem mode_of_sets {u : State} {l : List (Fld × Nat)} (h : Sets u t l) (hl : ∀ x ∈ l, Apart DEV.MODE_STAT_MODE x.1) : t.mode = u.mode :=
  h.keeps DEV.MODE_STAT_MODE (by decide) hl

theorem isActive_of_sets {u : State} {l : List (Fld × Nat)} (h : Sets u t l) (hmode : ∀ x ∈ l, Apart DEV.MODE_STAT_MODE x.1)
    (hact : ∀ x ∈ l, Apart RIDGE.PAIR_STAT_ACTIVE x.1) : t.isActive = u.isActive := by
  simp only [isActive, operating, h.isPair, mode_of_sets h hmode, getB_of_sets h RIDGE.PAIR_STAT_ACTIVE hact (by decide)]

theorem isStandby_of_sets {u : State} {l : List (Fld × Nat)} (h : Sets u t l) (hmode : ∀ x ∈ l, Apart DEV.MODE_STAT_MODE x.1)
    (hact : ∀ x ∈ l, Apart RIDGE.PAIR_STAT_ACTIVE x.1) : t.isStandby = u.isStandby := by
  simp only [isStandby, h.isPair, mode_of_sets h hmode, getB_of_sets h RIDGE.PAIR_STAT_ACTIVE hact (by decide)]

/-- A standby relays alike from two states that differ elsewhere (R142). -/
theorem sets_relayUp {u : State} {l : List (Fld × Nat)} (h : Sets u t l) (n : Nat) (x : Option SampleFrame) (f : List Byte)
    (hmode : ∀ x ∈ l, Apart DEV.MODE_STAT_MODE x.1) (hact : ∀ x ∈ l, Apart RIDGE.PAIR_STAT_ACTIVE x.1) (hlink : ∀ x ∈ l, Apart RIDGE.PAIR_STAT_LINK x.1)
    (hbroken : ∀ x ∈ l, Apart (YPORT.PORT_STAT_BROKEN n) x.1) : Sets (u.relayUp n x f) (t.relayUp n x f) l := by
  have hrelays : t.relays n = u.relays n := by
    simp only [relays, h.isPair, getB_of_sets h _ hbroken, getB_of_sets h RIDGE.PAIR_STAT_LINK hlink (by decide)]
  simp only [relayUp, hrelays, isStandby_of_sets h hmode hact]
  split
  exacts [h.updPair _, h]

/-! ### SAMPLE_DATA and STATUS -/

section Sample

variable {p : Fin 24} {k : Fin 32} {q st : Byte} {i v : Word} {ts vs : List Half} {o : OpenSet} {c : ClosedSet} {f : StatusFrame}

theorem exec_sampleDataRx (hlive : s.portLive p) (x : SampleFrame) :
    exec (.sampleDataRx p x) s = .next ((s.sampleIn p x).relayUp p (some x) []) := if_pos hlive

theorem sampleIn_conv (hset : s.sample.set_ = some o) (htag : q.toNat = o.ssn.toNat % 256) (hbank : s.readLe (bankAt p o.ssn) 4 = o.ssn.toNat) :
    s.sampleIn p (.conv q st i v ts) = (s.landConv (bankAt p o.ssn) i v ts).landStat (bankAt p o.ssn) 0 st := by
  simp [sampleIn, hset, htag, hbank]

theorem sampleIn_monitor {first : Nat} (hset : s.sample.set_ = some o) (htag : q.toNat = o.ssn.toNat % 256)
    (hbank : s.readLe (bankAt p o.ssn) 4 = o.ssn.toNat) (hk : k.val ≠ 0) : s.sampleIn p (.monitor k q st first vs ts) =
      (s.landMonitor p (bankAt p o.ssn) k first vs ts).landStat (bankAt p o.ssn) k st := by
  simp [sampleIn, hset, htag, hbank, hk]

theorem sampleIn_conv_tagMiss (hset : s.sample.set_ = some o) (htag : q.toNat ≠ o.ssn.toNat % 256) :
    s.sampleIn p (.conv q st i v ts) = s.incSat SAMPLE.CNT_FRM_TAG_MISS := by
  simp [sampleIn, hset, htag]

theorem sampleIn_conv_late (hset : s.sample.set_ = none) (hclosed : s.sample.closed = some c) (htag : q.toNat = c.ssn.toNat % 256) :
    s.sampleIn p (.conv q st i v ts) = s.incSat SAMPLE.CNT_FRM_LATE := by
  simp [sampleIn, hset, hclosed, htag]

/-- A frame that lands nowhere counts alone. -/
theorem goesSet_sampleDataRx_counted {x : SampleFrame} {g : Fld} (hlive : s.portLive p) (hin : s.sampleIn p x = s.incSat g) (hw : g.lo + g.w ≤ 32)
    (hg : g.addr = SAMPLE.CNT_FRM) : GoesSet (.sampleDataRx p x) s (s.relayUp p (some x) []) [oneMore s g] := by
  refine goesSet_of_eq (exec_sampleDataRx hlive x) (congrArg (relayUp · p (some x) []) hin)
    (sets_relayUp (sets_incSat sets_refl hw (by simp)) p _ _ ?_ ?_ ?_ ?_)
  all_goals
    simp only [List.mem_singleton, forall_eq, Apart, oneMore, hg]
    left
    simp [YPORT.PORT_STAT, SAMPLE.CNT_FRM]
  omega

theorem exec_statusRx (hlive : s.portLive p) : exec (.statusRx p f) s = .next ((s.statusIn p f).relayUp p none (statusBytes f)) := if_pos hlive

/-- A STATUS is latched with its arrival (R185). -/
abbrev statusLatched (s : State) (n : Nat) (f : StatusFrame) : State :=
  (s.updShelf (fun x => { x with statNew := x.statNew.set n (some f) })).updPort n (fun x => { x with statusAt := some s.dev.nowUs })

/-- No new epoch follows where another report came first, or the controller is not active alone, or the report is no newer (R140). -/
theorem sets_seenIn {e : Nat} (he : e < 2 ^ 16) (h : (s.prt p).statusAt.isSome ∨ s.isActive = false ∨ s.isPair ∨
    epochNewer e (s.getF (YPORT.EPOCH_TX_EPOCH p)) = false) :
    Sets (s.updPort p (fun x => { x with statusAt := some s.dev.nowUs })) (s.seenIn p e) [(YPORT.EPOCH_NODE0_SEEN p, e)] := by
  have hknown : ¬ ((s.prt p).statusAt.isNone && s.isActive && !s.isPair && epochNewer e (s.getF (YPORT.EPOCH_TX_EPOCH p))) = true := by
    simp only [Bool.and_eq_true, Bool.not_eq_true', Option.isNone_iff_eq_none]
    rintro ⟨⟨⟨hfirst, hactive⟩, hpair⟩, hnewer⟩
    simp [hfirst, hactive, hpair, hnewer] at h
  have hseen := (sets_refl (s := s.updPort p (fun x => { x with statusAt := some s.dev.nowUs }))).indexed (YPORT.EPOCH_NODE0_SEEN p) e he
  have hactive := isActive_of_sets hseen (by simp [Apart]) (by simp [Apart])
  have htx := hseen.keeps (YPORT.EPOCH_TX_EPOCH p) (Nat.le_of_ble_eq_true rfl) (by simp [Apart])
  have hsame : s.seenIn p e = (s.updPort p (fun x => { x with statusAt := some s.dev.nowUs })).setF (YPORT.EPOCH_NODE0_SEEN p) e :=
    if_neg (by rw [hactive, hseen.isPair, htx]; exact hknown)
  rwa [hsame]

theorem goesSet_statusRx (hlive : s.portLive p) (h : (s.prt p).statusAt.isSome ∨ s.isActive = false ∨ s.isPair ∨
    epochNewer f.epoch.toNat (s.getF (YPORT.EPOCH_TX_EPOCH p)) = false) : GoesSet (.statusRx p f) s ((statusLatched s p f).relayUp p none (statusBytes f))
      [(YPORT.EPOCH_NODE0_SEEN p, f.epoch.toNat)] :=
  goesSet_of_eq (exec_statusRx hlive) rfl (sets_relayUp
    (sets_seenIn (s := s.updShelf (fun x => { x with statNew := x.statNew.set p (some f) })) f.epoch.isLt h) p none _
    (by simp [Apart]) (by simp [Apart]) (by simp [Apart]) (by simp [Apart]))

end Sample

/-! ### Frames that go to the frame ring -/

/-- What a frame to the ring may touch of port `n`'s view (R142, R186): the frame mover's counters, the memory, the ring's next entry, the relays. -/
structure Ringed (n : Nat) (s t : State) : Prop where
  regs : RegsKept (· / 0x1000 = pFMOVER) s t
  dev : t.dev = s.dev
  port : ∃ e, t.prt n = { s.prt n with rxNext := e }

section Ring

variable {n : Nat} {p : Fin 24} {u : State}

theorem Ringed.refl : Ringed n s s := ⟨regsKept_refl, rfl, _, rfl⟩

theorem Ringed.trans (h : Ringed n s t) (h' : Ringed n t u) : Ringed n s u := by
  obtain ⟨⟨e, he⟩, e', he'⟩ := And.intro h.port h'.port
  exact ⟨fun a ha => (h'.regs a ha).trans (h.regs a ha), h'.dev.trans h.dev, e', by rw [he', he]⟩

theorem Ringed.setF (h : Ringed n s t) {f : Fld} (hf : f.addr / 0x1000 = pFMOVER) (v : Nat) : Ringed n s (t.setF f v) :=
  ⟨regsKept_setF h.regs hf v, h.dev, h.port⟩

theorem ringed_writeBytes (a : Nat) (b : List Byte) : Ringed n s (s.writeBytes a b) := ⟨regsKept_refl, rfl, _, rfl⟩

theorem ringed_rxNext (e : Nat) : Ringed n s (s.updPort n (fun x => { x with rxNext := e })) := by
  refine ⟨regsKept_refl, rfl, ?_⟩
  simp only [prt, updPort_port, List.getD_eq_getElem?_getD, List.getElem?_modify, if_pos]
  cases s.port[n]?
  exacts [⟨PortSt.rest.rxNext, rfl⟩, ⟨e, rfl⟩]

theorem ringed_ringPut (p : Fin 24) (h0 h1 seq : Nat) (pl : List Nat) (arrival : Nat) : Ringed p s (s.ringPut p h0 h1 seq pl arrival) := by
  have hrx : FMOVER.RX p / 0x1000 = pFMOVER := by simp only [FMOVER.RX, pFMOVER]; omega
  simp only [ringPut]
  split
  · exact Ringed.refl.setF (f := FMOVER.RX_DROP p) hrx _
  · have hentry (a e v : Nat) (b : List Byte) : Ringed p s
        (((s.writeBytes a b).updPort p (fun x => { x with rxNext := e })).setF (FMOVER.RX_HIWATER p) v) :=
      ((ringed_writeBytes a b).trans (ringed_rxNext e)).setF hrx v
    split
    exacts [(hentry _ _ _ _).trans (ringed_writeBytes _ _), hentry _ _ _ _]

theorem ringed_relayUp (m : Nat) (x : Option SampleFrame) (f : List Byte) : Ringed n s (s.relayUp m x f) := by
  unfold relayUp
  split
  exacts [⟨regsKept_refl, rfl, _, rfl⟩, .refl]

theorem ringed_frameIn (p : Fin 24) (k epoch typ seq : Nat) (body : List Nat) (arrival : Word) :
    Ringed p s (s.frameIn p k epoch typ seq body arrival) := (ringed_ringPut p _ _ _ _ _).trans (ringed_relayUp _ _ _)

theorem Ringed.evtSeen (h : Ringed n s t) (k seq : Nat) : t.evtSeen n k seq = s.evtSeen n k seq := by
  obtain ⟨e, he⟩ := h.port
  simp only [State.evtSeen, he, h.dev]

theorem Ringed.getF (h : Ringed n s t) {f : Fld} (hf : f.addr / 0x1000 ≠ pFMOVER) : t.getF f = s.getF f := getF_of_regsKept h.regs hf

theorem Ringed.xact (h : Ringed n s t) : (t.prt n).xact = (s.prt n).xact := by
  obtain ⟨e, he⟩ := h.port
  rw [he]

theorem Ringed.own (h : Ringed n s t) : (t.prt n).own = (s.prt n).own := by
  obtain ⟨e, he⟩ := h.port
  rw [he]

end Ring

/-! ### EVENT and NACK -/

section Event

variable {p : Fin 24} {f : EventFrame} {g : NackFrame}

/-- The state after an EVENT has gone to the ring (R121, R186). -/
abbrev eventRinged (s : State) (p : Nat) (f : EventFrame) : State :=
  s.takeFree.2.frameIn p f.node (s.getF (YPORT.EPOCH_NODE0_SEEN p) % 16) ftEVENT f.seq.toNat
    ([f.cls.toNat, f.code.toNat, f.index.toNat, 0] ++ leBytes 4 f.value.toNat) s.takeFree.1

theorem eventRinged_evtSeen : (eventRinged s p f).evtSeen p f.node f.seq.toNat = s.evtSeen p f.node f.seq.toNat :=
  (ringed_frameIn p _ _ _ _ _ _).evtSeen _ _

theorem exec_eventRx_new (hlive : s.portLive p) (hnew : s.evtSeen p f.node f.seq.toNat = false) (hcls : f.cls = 1) :
    exec (.eventRx p f) s = .next (((eventRinged s p f).evtMark p f.node f.seq.toNat).raise (64 + p) [1]) :=
  have hseen : ¬ (eventRinged s p f).evtSeen p f.node f.seq.toNat = true := by rw [eventRinged_evtSeen, hnew]; decide
  (if_neg (by simp [hlive])).trans ((if_neg hseen).trans (if_pos hcls))

theorem exec_eventRx_copy (hlive : s.portLive p) (hseen : s.evtSeen p f.node f.seq.toNat) : exec (.eventRx p f) s = .next (eventRinged s p f) :=
  (if_neg (by simp [hlive])).trans (if_pos (eventRinged_evtSeen.trans hseen))

theorem exec_nackRx_stale (hlive : s.portLive p) (htyp : g.refType = 4) (hreason : g.reason = 4) : exec (.nackRx p g) s =
    .next ((((s.takeFree.2.frameIn p g.node g.epoch.toNat ftNACK g.seq.toNat [g.refType.toNat, g.refSeq.toNat, g.reason.toNat, 0] s.takeFree.1).incSat
      (YPORT.CNT_XACT_NACK p)).incSat (YPORT.NODE_ERR_NACK p g.node)).incSat (YPORT.CNT_MISC_STALE p)) :=
  (if_neg (by simp [hlive])).trans (if_pos ⟨htyp, hreason⟩)

end Event

/-! ### Answers to the mailbox and to the port's own requests -/

section Reply

variable {p : Fin 24} {f : RingFrame} {x : Xact} {w : Word} {r : OwnReq} {n : Nat}

/-- The state after a reply has gone to the ring (R186). -/
abbrev replyRinged (s : State) (p : Nat) (f : RingFrame) : State :=
  s.frameIn p (f.h0.toNat % 32) (f.h1.toNat / 16) (f.h1.toNat % 16) f.seq.toNat (f.payload.map BitVec.toNat) f.arrival

/-- The header and the length of a node's answer to a READ or a WRITE (Tables 4-2, 4-4). -/
structure IsAnswer (f : RingFrame) : Prop where
  header : f.h0.toNat < 64
  fromNode : f.h0.getLsbD 5
  typ : f.h1.toNat % 16 = ftREAD ∨ f.h1.toNat % 16 = ftWRITE_ACK
  len : f.payload.length ≤ 96

theorem IsAnswer.taken (hf : IsAnswer f) : ¬ (64 ≤ f.h0.toNat ∨ 12 ≤ f.h1.toNat % 16 ∨ 96 < f.payload.length) ∧ ¬ (f.h0.getLsbD 5 = false ∨
    !(f.h1.toNat % 16 = 0 ∨ f.h1.toNat % 16 = 2 ∨ f.h1.toNat % 16 = 8 ∨ f.h1.toNat % 16 = 9 ∨ f.h1.toNat % 16 = 10)) := by
  obtain ⟨hheader, hnode, htyp, hlen⟩ := hf
  rcases htyp with htyp | htyp <;> simp [htyp, hnode, ftREAD, ftWRITE_ACK] <;> omega

/-- A READ's words go to MBX_DATA (Table 4-13). -/
def mbxWords (s : State) (n count : Nat) (pl : List Nat) : State :=
  forAll (min 23 count) (fun s i => s.setN (YPORT.MBX_DATA n i) (leNat ((pl.drop (4 + 4 * i)).take 4))) s

theorem exec_replyRx_mailbox (hlive : s.portLive p) (hf : IsAnswer f) (hread : f.h1.toNat % 16 = ftREAD) (hx : (s.prt p).xact = some x)
    (hnode : x.node = f.h0.toNat % 32) (hseq : x.seq = f.seq.toNat) (htyp : x.typ = ftREAD) : exec (.replyRx p f) s =
      .next ((mbxWords (replyRinged s p f) p (s.getF (YPORT.MBX_CMD_COUNT p)) (f.payload.map BitVec.toNat)).mbxEnd p 0 0) := by
  have hexec : exec (.replyRx p f) s = execReplyRx p f s := rfl
  have hringed : Ringed p s (replyRinged s p f) := ringed_frameIn p _ _ _ _ _ _
  have hcount : (replyRinged s p f).getF (YPORT.MBX_CMD_COUNT p) = s.getF (YPORT.MBX_CMD_COUNT p) :=
    hringed.getF (by simp only [YPORT.MBX_CMD, pFMOVER]; omega)
  have hans : answers x.typ ftREAD = true := by rw [htyp]; rfl
  rw [hexec, execReplyRx, if_neg (by simp [hlive]), if_neg hf.taken.1, if_neg hf.taken.2]
  dsimp only
  rw [hringed.xact.trans hx]
  dsimp only
  rw [hread, if_pos ⟨hnode, hseq, hans⟩, if_pos rfl, ← hread, hcount]
  rfl

theorem exec_replyRx_own (hlive : s.portLive p) (hf : IsAnswer f) (hx : (s.prt p).xact = none)
    (hown : s.ownFind p f.seq.toNat (fun r => r.node == f.h0.toNat % 32 && answers r.typ (f.h1.toNat % 16)) = some r) : exec (.replyRx p f) s =
      .next (((replyRinged s p f).ownDrop p r).ownDone p r ((f.payload.map BitVec.toNat).drop 4)) := by
  have hexec : exec (.replyRx p f) s = execReplyRx p f s := rfl
  have hringed : Ringed p s (replyRinged s p f) := ringed_frameIn p _ _ _ _ _ _
  have hfound : (replyRinged s p f).ownFind p f.seq.toNat (fun r => r.node == f.h0.toNat % 32 && answers r.typ (f.h1.toNat % 16)) = some r := by
    rw [ownFind, hringed.own]
    exact hown
  rw [hexec, execReplyRx, if_neg (by simp [hlive]), if_neg hf.taken.1, if_neg hf.taken.2]
  dsimp only
  rw [hringed.xact.trans hx, hfound]

theorem exec_replyRx_hold (hlive : s.portLive p) (hf : IsAnswer f) (hx : (s.prt p).xact = none)
    (hown : s.ownFind p f.seq.toNat (fun r => r.node == f.h0.toNat % 32 && answers r.typ (f.h1.toNat % 16)) = some r) (huse : r.use = .hold w) :
    exec (.replyRx p f) s = .next (((replyRinged s p f).ownDrop p r).ask p (.holdBack w) 0 ftREAD (readPl 0x028 1)) := by
  rw [exec_replyRx_own hlive hf hx hown, ownDone, huse]

/-! ### MBX_STAT and MBX_DATA at the end of a transaction -/

theorem mbxEnd_stat (result reason : Nat) (hresult : result < 2 ^ 4 := by decide) (hreason : reason < 2 ^ 8 := by decide) :
    Sets (s.updPort p (fun x => { x with xact := none })) (s.mbxEnd p result reason)
      [(YPORT.MBX_STAT_BUSY p, 0), (YPORT.MBX_STAT_RESULT p, result), (YPORT.MBX_STAT_REASON p, reason)] :=
  ((sets_refl.indexed (YPORT.MBX_STAT_BUSY p) 0).indexed (YPORT.MBX_STAT_RESULT p) result hresult).indexed (YPORT.MBX_STAT_REASON p) reason hreason

theorem mbxEnd_xact (result reason : Nat) : ((s.mbxEnd n result reason).prt n).xact = none :=
  prt_updPort_const PortSt.xact none (fun _ => rfl) rfl

theorem mbxEnd_getReg {a : Nat} (ha : a ≠ YPORT.MBX_STAT n) (result reason : Nat) : (s.mbxEnd n result reason).getReg a = s.getReg a :=
  (getReg_setF_ne _ ha).trans ((getReg_setF_ne _ ha).trans (getReg_setF_ne _ ha))

theorem leNat_lt {l : List Nat} (h : ∀ b ∈ l, b < 256) : leNat l < 256 ^ l.length := by
  induction l with
  | nil => simp [leNat]
  | cons b l ih =>
    have hb := h b (by simp)
    have hl := ih fun c hc => h c (by simp [hc])
    simp only [leNat, List.length_cons, Nat.pow_succ]
    omega

theorem mbxWords_getN {count i : Nat} {pl : List Nat} (hi : i < min 23 count) (hpl : ∀ b ∈ pl, b < 256) :
    (mbxWords s n count pl).getN (YPORT.MBX_DATA n i) = leNat ((pl.drop (4 + 4 * i)).take 4) := by
  have hbytes : leNat ((pl.drop (4 + 4 * i)).take 4) < 2 ^ 32 := by
    refine (leNat_lt fun b hb => hpl b (List.mem_of_mem_drop (List.mem_of_mem_take hb))).trans_le ?_
    exact (Nat.pow_le_pow_right (by decide) (List.length_take_le _ _)).trans (by decide)
  refine forAll_reads (getN · (YPORT.MBX_DATA n i)) hi (fun t => ?_) fun t j hj => ?_
  · simpa [getN, setN] using hbytes
  · exact congrArg BitVec.toNat (getReg_setReg_ne _ (by simp only [YPORT.MBX_DATA]; omega))

theorem goes_replyRx_mailbox (hlive : s.portLive p) (hf : IsAnswer f) (hread : f.h1.toNat % 16 = ftREAD) (hx : (s.prt p).xact = some x)
    (hnode : x.node = f.h0.toNat % 32) (hseq : x.seq = f.seq.toNat) (htyp : x.typ = ftREAD) :
    Goes (.replyRx p f) s (fun t => t.getB (YPORT.MBX_STAT_BUSY p) = false ∧ t.getF (YPORT.MBX_STAT_RESULT p) = 0 ∧
      t.getF (YPORT.MBX_STAT_REASON p) = 0 ∧ (t.prt p).xact = none ∧ ∀ i < min 23 (s.getF (YPORT.MBX_CMD_COUNT p)),
        t.getN (YPORT.MBX_DATA p i) = leNat (((f.payload.map BitVec.toNat).drop (4 + 4 * i)).take 4)) := by
  have hstat := (mbxEnd_stat (s := mbxWords (replyRinged s p f) p (s.getF (YPORT.MBX_CMD_COUNT p)) (f.payload.map BitVec.toNat)) (p := p) 0 0).reads
  have hbusy := hstat (YPORT.MBX_STAT_BUSY p, 0) (by simp)
  refine ⟨_, exec_replyRx_mailbox hlive hf hread hx hnode hseq htyp, decide_eq_false (by simp [hbusy]), hstat (YPORT.MBX_STAT_RESULT p, 0) (by simp),
    hstat (YPORT.MBX_STAT_REASON p, 0) (by simp), mbxEnd_xact 0 0, fun i hi => ?_⟩
  have hword : YPORT.MBX_DATA p i ≠ YPORT.MBX_STAT p := by simp only [YPORT.MBX_DATA, YPORT.MBX_STAT]; omega
  refine (congrArg BitVec.toNat (mbxEnd_getReg hword 0 0)).trans (mbxWords_getN hi fun b hb => ?_)
  obtain ⟨c, _, rfl⟩ := List.mem_map.1 hb
  exact c.isLt

end Reply

/-! ### Missing answers (R114) -/

section Timeout

variable {p : Fin 24} {q : Byte} {x : Xact} {r : OwnReq}

theorem exec_responseTimeout_mailbox (hx : (s.prt p).xact = some x) (hseq : x.seq = q.toNat) :
    exec (.responseTimeout p q) s = .next (s.xactRetry p x) := by
  have hexec : exec (.responseTimeout p q) s = execResponseTimeout p q s := rfl
  rw [hexec, execResponseTimeout, hx]
  exact congrArg _ (if_pos hseq)

theorem exec_responseTimeout_own (hx : (s.prt p).xact = none) (hr : s.ownFind p q.toNat (fun _ => true) = some r) :
    exec (.responseTimeout p q) s = .next (s.ownRetry p r) := by
  have hexec : exec (.responseTimeout p q) s = execResponseTimeout p q s := rfl
  rw [hexec, execResponseTimeout, hx, hr]

theorem xactRetry_again (htries : x.tries < s.getF (YPORT.PORT_TMO_RETRIES p)) (hmay : s.mayOriginate x.typ) : s.xactRetry p x =
    (s.updPort p (fun y => { y with xact := some { x with tries := x.tries + 1 } })).sendTo p x.node x.typ x.frame :=
  (if_pos htries).trans (if_pos hmay)

/-- The counters of a failed transaction follow what its end shows. -/
theorem goesRaise_xactFailed {i : Instr} {u v : State} {l : List (Fld × Nat)} {node : Nat} (he : exec i s = .next (v.xactFailed p node)) (h : Sets u v l)
    (hnode : node < 32) (hx : ∀ y ∈ l, y.1.lo + y.1.w ≤ 32 ∧ y.1.addr ≠ YPORT.CNT_XACT p ∧ y.1.addr ≠ YPORT.NODE_ERR p node) :
    GoesRaise i s u (oneMore u (YPORT.NODE_ERR_TIMEOUT p node) :: oneMore u (YPORT.CNT_XACT_TIMEOUT p) :: l) (17 + 2 * p) [node, 1] := by
  have hcounters : YPORT.CNT_XACT p ≠ YPORT.NODE_ERR p node := by simp only [YPORT.CNT_XACT, YPORT.NODE_ERR]; omega
  exact goesRaise_of_eq he (sets_incSat (sets_incSat h (Nat.le_of_ble_eq_true rfl) fun y hy => ⟨(hx y hy).1, .inl (hx y hy).2.1, .inl (hx y hy).2.1.symm⟩)
    (Nat.le_of_ble_eq_true rfl) fun y hy => by
      rcases List.mem_cons.1 hy with rfl | hy
      · exact ⟨Nat.le_of_ble_eq_true rfl, .inl hcounters, .inl hcounters.symm⟩
      · exact ⟨(hx y hy).1, .inl (hx y hy).2.2, .inl (hx y hy).2.2.symm⟩)

theorem goesRaise_responseTimeout_mailbox (hx : (s.prt p).xact = some x) (hseq : x.seq = q.toNat) (htries : s.getF (YPORT.PORT_TMO_RETRIES p) ≤ x.tries)
    (hnode : x.node < 32) : GoesRaise (.responseTimeout p q) s (s.updPort p (fun y => { y with xact := none }))
      [oneMore s (YPORT.NODE_ERR_TIMEOUT p x.node), oneMore s (YPORT.CNT_XACT_TIMEOUT p), (YPORT.MBX_STAT_REASON p, 0), (YPORT.MBX_STAT_RESULT p, 2),
        (YPORT.MBX_STAT_BUSY p, 0)] (17 + 2 * p) [x.node, 1] := by
  have hover : s.xactRetry p x = (s.mbxEnd p 2 0).xactFailed p x.node := if_neg (by omega)
  refine goesRaise_xactFailed ((exec_responseTimeout_mailbox hx hseq).trans (congrArg _ hover)) (sets_of_mem_iff (mbxEnd_stat 2 0) (by simp; tauto)) hnode
    fun y hy => ?_
  simp only [List.mem_cons, List.not_mem_nil, or_false] at hy
  have hstat : YPORT.MBX_STAT p ≠ YPORT.NODE_ERR p x.node := by simp only [YPORT.MBX_STAT, YPORT.NODE_ERR]; omega
  rcases hy with rfl | rfl | rfl <;> simpa using hstat

theorem goesRaise_responseTimeout_config (hx : (s.prt p).xact = none) (hr : s.ownFind p q.toNat (fun _ => true) = some r)
    (htries : s.getF (YPORT.PORT_TMO_RETRIES p) ≤ r.tries) (huse : r.use = .config) (hnode : r.node < 32) :
    GoesRaise (.responseTimeout p q) s (s.ownDrop p r) [oneMore s (YPORT.NODE_ERR_TIMEOUT p r.node), oneMore s (YPORT.CNT_XACT_TIMEOUT p)] (17 + 2 * p)
      [r.node, 1] := by
  have hover : s.ownRetry p r = (s.ownDrop p r).xactFailed p r.node := by
    rw [ownRetry, if_neg (by omega), huse]
    exact congrArg (xactFailed · p r.node) (updPort_self fun y => by simp)
  exact goesRaise_xactFailed (u := s.ownDrop p r) ((exec_responseTimeout_own hx hr).trans (congrArg _ hover)) sets_refl hnode (by simp)

end Timeout

/-! ### Setpoints and SYNC of the other controller -/

section Pair

variable {p : Fin 24} {f : FarSetpoint} {tag : Byte}

theorem exec_farSetpointRx (hlive : s.portLive p) (hpair : s.isPair) (hring : s.getB (YPORT.PORT_CFG_RING p)) : exec (.farSetpointRx p f) s =
    .next (s.updPair (fun x => { x with
      heard := x.heard.set p (some (f.cycle.toNat, f.iSet))
      newerAt := if epochNewer f.epoch.toNat (s.getF RIDGE.EPOCH_EPOCH) then some s.dev.nowUs else x.newerAt })) :=
  if_pos ⟨hlive, hpair, hring⟩

theorem exec_syncRx (hlive : s.portLive p) (hpair : s.isPair) (hstandby : s.getB RIDGE.PAIR_STAT_ACTIVE = false) (hring : s.getB (YPORT.PORT_CFG_RING p))
    (hsample : s.pgRunning pSAMPLE) (hcopy : s.sample.copySeen ∨ s.sample.ssn ≠ 0) (htag : tag.toNat = (nextSsn s.sample.ssn).toNat % 256) :
    exec (.syncRx p tag) s = .next (s.openSet s.leadAt) :=
  if_pos ⟨hlive, hpair, hstandby, hring, hsample, by simpa using hcopy, htag⟩

end Pair

/-- Settles O10, clause by clause: what a frame writes, and that the ring and the relay it also goes to leave the registers and requests that it is
judged by as they are. -/
theorem yoridFrames : Obligations.YoridFrames := by
  unfold Obligations.YoridFrames
  refine ⟨fun p q st i v ts o s hlive hset htag hbank => ?_, fun p k q st f vs ts o s hlive hset htag hbank hk => ?_,
    fun p q st i v ts o s hlive hset htag => ?_, fun p q st i v ts c s hlive hset hclosed htag => ?_,
    fun p f s hlive hknown => goesSet_statusRx hlive hknown, fun p f s hlive hnew hcls => exec_eventRx_new hlive hnew hcls,
    fun p f s hlive hseen => exec_eventRx_copy hlive hseen, fun p f s hlive htyp hreason => exec_nackRx_stale hlive htyp hreason,
    fun p f x s hlive hheader hfrom hread hlen hx hnode hseq htyp =>
      goes_replyRx_mailbox hlive ⟨hheader, hfrom, .inl hread, hlen⟩ hread hx hnode hseq htyp,
    fun p f w r s hlive hheader hfrom hack hlen hx hown huse => ?_,
    fun p f s hlive hpair hring => ⟨_, exec_farSetpointRx hlive hpair hring, sets_refl⟩,
    fun p q x s hx hseq htries hmay => (exec_responseTimeout_mailbox hx hseq).trans (congrArg _ (xactRetry_again htries hmay)),
    fun p q x s hx hseq htries hnode => goesRaise_responseTimeout_mailbox hx hseq htries hnode,
    fun p q r s hx hr htries huse hnode => goesRaise_responseTimeout_config hx hr htries huse hnode,
    fun p tag s hlive hpair hstandby hring hsample hcopy htag => exec_syncRx hlive hpair hstandby hring hsample hcopy htag⟩
  · rw [exec_sampleDataRx hlive, sampleIn_conv hset htag hbank]
  · rw [exec_sampleDataRx hlive, sampleIn_monitor hset htag hbank hk]
  · exact goesSet_sampleDataRx_counted hlive (sampleIn_conv_tagMiss hset htag) (by decide) rfl
  · exact goesSet_sampleDataRx_counted hlive (sampleIn_conv_late hset hclosed htag) (by decide) rfl
  · rw [← hack] at hown ⊢
    exact exec_replyRx_hold hlive ⟨hheader, hfrom, .inr hack, hlen⟩ hx hown huse

end Sys2Proof.Proofs
end

section
/-! SUPPORT. Mailbox requests (Tables 4-13 and 17-7) and cleared counters, as what an accepted register write starts. -/

namespace Sys2Proof.Proofs

open Machine Machine.State Laws

-- One proof after the other: side by side they take more threads than the check's memory has stacks for.
set_option Elab.async false

variable {s t : State}

/-! ### The word that an accepted write leaves -/

section Stored

variable {r : Requester} {a v n m i : Nat} {k : PageKind} {d : RegDef}

/-- A register stands at its own address, except through ESTPROF's and PMBUS's windows. -/
theorem homeOf_plain (he : a / 0x1000 ≠ pESTPROF) (hp : a / 0x1000 ≠ pPMBUS ∨ 0x328 < a % 0x1000) : s.homeOf (a / 0x1000) (a % 0x1000) = a :=
  (if_neg (by tauto)).trans ((if_neg (by omega)).trans (Nat.div_add_mod a 0x1000))

/-- Where no setting waits for a boundary (R42), the fabric leaves the access time, the word and PG_CHG. -/
theorem stored_plain (hk : pageKind (a / 0x1000) = some (k, n)) (hd : findReg (a / 0x1000) (a % 0x1000) = some (d, m, i))
    (hhome : s.homeOf (a / 0x1000) (a % 0x1000) = a) (hlate : lateKind k = false) : Stored s r a v =
      ((s.ownerTouch (a / 0x1000) r).setReg a
        ((s.ownerTouch (a / 0x1000) r).writtenWord r k d m i a (s.getReg a) (BitVec.ofNat 32 v))).countChg (a / 0x1000) := by
  have hnote (u : State) (h : Nat) (old : Word) : u.noteLate k d m i h old = u := if_neg (by simp [hlate])
  simp only [Stored, hk, hd, hhome, hnote]

/-- What a write leaves beside the registers, the access time and the settings that wait. -/
theorem stored_rest : Stored s r a v = { s with regs := (Stored s r a v).regs, dev := (Stored s r a v).dev } := by
  unfold Stored
  split
  · obtain ⟨x, hx⟩ := ownerTouch_eq (s := s) (r := r) (a / 0x1000)
    simp only [hx, noteLate]
    split <;> rfl
  · rfl

theorem stored_prt (p : Nat) : (Stored s r a v).prt p = s.prt p := by rw [stored_rest]; rfl

theorem stored_readByte (b : Nat) : (Stored s r a v).readByte b = s.readByte b := by rw [stored_rest]; rfl

theorem stored_getReg {b : Nat} (hhome : s.homeOf (a / 0x1000) (a % 0x1000) = a) (ha : b ≠ a) (hc : b ≠ pgChg (a / 0x1000)) :
    (Stored s r a v).getReg b = s.getReg b := by
  unfold Stored
  split
  · simp only [hhome, countChg, incWrap]
    rw [getReg_setF_ne _ hc, noteLate_getReg, getReg_setReg_ne _ ha, ownerTouch_getReg]
  · rfl

theorem stored_getF {f : Fld} (hhome : s.homeOf (a / 0x1000) (a % 0x1000) = a) (ha : f.addr ≠ a) (hc : f.addr ≠ pgChg (a / 0x1000)) :
    (Stored s r a v).getF f = s.getF f := by
  simp only [getF, stored_getReg hhome ha hc]

end Stored

/-! ### Mailbox words -/

section Mailbox

variable {r : Requester} {a v n m i : Nat} {k : PageKind}

/-- GO, OP, the address of the partner, COUNT or CMD, and ADDR or DATA (Tables 4-13 and 17-7). -/
abbrev mailboxFields (rst : Nat → Nat → Nat) : List FieldDef :=
  [.mkWO 31 1, .mkRW 30 1, .mkRW 24 5, ⟨16, 8, fun _ _ => .rw, rst, .none⟩, .mkRW 0 16]

/-- A request's word: GO, OP, node or device, COUNT or CMD, ADDR or DATA. -/
abbrev requestWord (wr : Bool) (node : Fin 32) (c : Byte) (x : Half) : Nat := 2 ^ 31 + wr.toNat * 2 ^ 30 + node * 2 ^ 24 + c.toNat * 2 ^ 16 + x.toNat

theorem writtenWord_mailbox {rst : Nat → Nat → Nat} {off : Nat} (hk : k ≠ .fcol) (old w : Word) :
    s.writtenWord r k ⟨off, 0, 1, mailboxFields rst⟩ m i a old w =
      withBits (withBits (withBits (withBits old 30 1 (bitsOf w 30 1)) 24 5 (bitsOf w 24 5)) 16 8 (bitsOf w 16 8)) 0 16 (bitsOf w 0 16) := by
  simp [writtenWord, hk, mergeWord, clampField]

theorem bitsOf_writtenWord_mailbox {rst : Nat → Nat → Nat} {off lo w : Nat} (hk : k ≠ .fcol) (hf : (lo, w) ∈ [(30, 1), (24, 5), (16, 8), (0, 16)])
    (old x : Word) : bitsOf (s.writtenWord r k ⟨off, 0, 1, mailboxFields rst⟩ m i a old x) lo w = bitsOf x lo w := by
  have hlt : bitsOf x lo w < 2 ^ w := (x.extractLsb' lo w).isLt
  rw [writtenWord_mailbox hk]
  simp only [List.mem_cons, Prod.mk.injEq, List.not_mem_nil, or_false] at hf
  rcases hf with ⟨rfl, rfl⟩ | ⟨rfl, rfl⟩ | ⟨rfl, rfl⟩ | ⟨rfl, rfl⟩ <;> simpa [bitsOf_withBits_ne, bitsOf_withBits_self] using hlt

theorem bitsOf_ofNat {lo w x : Nat} (hx : x < 2 ^ 32) : bitsOf (BitVec.ofNat 32 x) lo w = x / 2 ^ lo % 2 ^ w := by
  simp only [bitsOf, BitVec.extractLsb'_toNat, BitVec.toNat_ofNat, Nat.mod_eq_of_lt hx, Nat.shiftRight_eq_div_pow]

/-- The word's five parts. -/
theorem requestWord_fields (wr : Bool) (node : Fin 32) (c : Byte) (x : Half) :
    let w := BitVec.ofNat 32 (requestWord wr node c x)
    w.getLsbD 31 = true ∧ bitsOf w 30 1 = wr.toNat ∧ bitsOf w 24 5 = node ∧ bitsOf w 16 8 = c.toNat ∧ bitsOf w 0 16 = x.toNat := by
  have hwr := wr.toNat_le
  have hc := c.isLt
  have hx := x.isLt
  have hlt : requestWord wr node c x < 2 ^ 32 := by simp only [requestWord]; omega
  refine ⟨?_, ?_, ?_, ?_, ?_⟩
  · rw [BitVec.getLsbD_ofNat, Nat.testBit_eq_decide_div_mod_eq]
    simp only [requestWord]
    simp
    omega
  all_goals
    rw [bitsOf_ofNat hlt]
    simp only [requestWord]
    omega

/-- A mailbox register at `a` of a page without settings that wait. -/
structure MailboxAt (a : Nat) (k : PageKind) (n : Nat) : Prop where
  block : 0x20 ≤ a % 0x1000
  page : pageKind (a / 0x1000) = some (k, n)
  layout : ∃ rst off, findReg (a / 0x1000) (a % 0x1000) = some (⟨off, 0, 1, mailboxFields rst⟩, n, 0)
  home : ∀ s : State, s.homeOf (a / 0x1000) (a % 0x1000) = a
  kind : k ≠ .fcol ∧ lateKind k = false

/-- An accepted request's fields read as they were written. -/
theorem stored_request {a n : Nat} {k : PageKind} (h : MailboxAt a k n) (wr : Bool) (node : Fin 32) (c : Byte) (x : Half) :
    let u := Stored s r a (requestWord wr node c x)
    u.getF ⟨a, 30, 1⟩ = wr.toNat ∧ u.getF ⟨a, 24, 5⟩ = node ∧ u.getF ⟨a, 16, 8⟩ = c.toNat ∧ u.getF ⟨a, 0, 16⟩ = x.toNat := by
  obtain ⟨hblock, hpage, ⟨rst, off, hd⟩, hhome, hk, hlate⟩ := h
  obtain ⟨-, hop, hnode, hc, hx⟩ := requestWord_fields wr node c x
  have hchg : a ≠ pgChg (a / 0x1000) := by simp only [pgChg]; omega
  have hread {lo w : Nat} (hf : (lo, w) ∈ [(30, 1), (24, 5), (16, 8), (0, 16)]) :
      (Stored s r a (requestWord wr node c x)).getF ⟨a, lo, w⟩ = bitsOf (BitVec.ofNat 32 (requestWord wr node c x)) lo w := by
    rw [stored_plain hpage hd (hhome s) hlate, countChg, incWrap, getF_setF_addr hchg, getF, getReg_setReg_self]
    exact bitsOf_writtenWord_mailbox hk hf _ _
  exact ⟨(hread (by simp)).trans hop, (hread (by simp)).trans hnode, (hread (by simp)).trans hc, (hread (by simp)).trans hx⟩

theorem pageKind_mbxCmd : ∀ p : Fin 24, pageKind (YPORT.MBX_CMD p / 0x1000) = some (.yport, p.val) := by decide

theorem mailboxAt_yport (p : Fin 24) : MailboxAt (YPORT.MBX_CMD p) .yport p := by
  have hofs : YPORT.MBX_CMD p % 0x1000 = 0x50 := by simp only [YPORT.MBX_CMD]; omega
  have hpage : YPORT.MBX_CMD p / 0x1000 < 0x40 := by simp only [YPORT.MBX_CMD]; omega
  refine ⟨by omega, pageKind_mbxCmd p, ⟨fun _ _ => 1, 0x50, ?_⟩, fun s => homeOf_plain ?_ (.inl ?_), by decide, rfl⟩
  · rw [findReg, pageKind_mbxCmd p, hofs]
    rfl
  all_goals
    simp only [pESTPROF, pPMBUS]
    omega

theorem mailboxAt_pmbus : MailboxAt PMBUS.PMB_MBX .pmbus 0 :=
  ⟨by decide, rfl, ⟨_, _, rfl⟩, fun _ => homeOf_plain (by decide) (.inr (by decide)), by decide, rfl⟩

end Mailbox

/-! ### A mailbox transaction of a Yorid port -/

section YportMailbox

variable {r : Requester} {p : Fin 24} {wr : Bool} {k : Fin 32} {c : Byte} {x : Half} {n node typ : Nat} {fr : List Byte}

theorem sendTo_xact : ((s.sendTo n node typ fr).prt n).xact = (s.prt n).xact := by
  have hqueue : ((s.queueRaw n fr).prt n).xact = (s.prt n).xact := queueRaw_keeps PortSt.xact fun _ _ _ => rfl
  unfold sendTo
  dsimp only
  split
  · exact hqueue
  · split
    exacts [rfl, hqueue]

/-- A frame that leaves touches no memory but its entry of the transmit queue (R187). -/
theorem sendTo_readByte {a : Nat} (ha : a < txEntry n (s.prt n).txNext.val ∨ txEntry n (s.prt n).txNext.val + 128 ≤ a) :
    (s.sendTo n node typ fr).readByte a = s.readByte a := by
  have hqueue : (s.queueRaw n fr).readByte a = s.readByte a := by
    have hlen := List.length_take_le 128 fr
    exact queueRaw_readByte (by omega)
  unfold sendTo
  dsimp only
  split
  · exact hqueue
  · split
    exacts [rfl, hqueue]

/-- The transaction that the mailbox holds (R114), with its frame on its way where the port may originate it (R66, R128). -/
def mbxSent (s : State) (n node typ : Nat) (fr : List Byte) : State :=
  let u := s.updPort n (fun x => { x with reqSeq := ((s.prt n).reqSeq + 1) % 256, xact := some ⟨(s.prt n).reqSeq, typ, node, fr, 0⟩ })
  if u.mayOriginate typ then u.sendTo n node typ fr else u

theorem mbxGo_taken (hbusy : s.getB (YPORT.MBX_STAT_BUSY n) = false) (hcount : s.getF (YPORT.MBX_CMD_COUNT n) ≤ s.maxCount)
    (hnode : s.getB (YPORT.NODE_POS_PRESENT n (s.getF (YPORT.MBX_CMD_NODE n))))
    (haddr : s.getB (YPORT.MBX_CMD_OP n) = false ∨ 0x100 ≤ s.getF (YPORT.MBX_CMD_ADDR n)) : ∃ fr, s.mbxGo n =
      (mbxSent s n (s.getF (YPORT.MBX_CMD_NODE n)) (if s.getB (YPORT.MBX_CMD_OP n) then ftWRITE else ftREAD) fr).setF (YPORT.MBX_STAT_BUSY n) 1 := by
  refine ⟨_, (if_neg (by simp [hbusy])).trans ((if_neg ?_).trans rfl)⟩
  rintro (h | h | ⟨hop, h⟩)
  · omega
  · simp [hnode] at h
  · rcases haddr with ha | ha
    · simp [hop] at ha
    · omega

theorem mbxSent_xact (hn : n < s.port.length) : ((mbxSent s n node typ fr).prt n).xact = some ⟨(s.prt n).reqSeq, typ, node, fr, 0⟩ := by
  have hport (f : PortSt → PortSt) : (s.updPort n f).prt n = f (s.prt n) := prt_updPort_self hn
  simp only [mbxSent]
  split
  · rw [sendTo_xact, hport]
  · rw [hport]

theorem mbxSent_readByte {a : Nat} (ha : a < txEntry n (s.prt n).txNext.val ∨ txEntry n (s.prt n).txNext.val + 128 ≤ a) :
    (mbxSent s n node typ fr).readByte a = s.readByte a := by
  have hnext (q : Nat) (y : Option Xact) : ((s.updPort n (fun x => { x with reqSeq := q, xact := y })).prt n).txNext = (s.prt n).txNext :=
    prt_updPort_keeps PortSt.txNext fun _ => rfl
  simp only [mbxSent]
  split
  · exact sendTo_readByte (by rwa [hnext])
  · rfl

theorem exec_mbxGo (h : Accepts s r (YPORT.MBX_CMD p) (requestWord wr k c x)) :
    exec (.mbxGo r p wr k c x) s = .next ((Stored s r (YPORT.MBX_CMD p) (requestWord wr k c x)).mbxGo p) := by
  refine congrArg Host.Outcome.next ((hostWrite_accepted h (regAt_mbxCmd p)).trans ?_)
  exact (if_neg (by simp only [YPORT.MBX_CMD, YPORT.CNT_CTRL]; omega)).trans ((if_pos rfl).trans (if_pos (requestWord_fields wr k c x).1))

theorem goes_mbxGo (h : Accepts s r (YPORT.MBX_CMD p) (requestWord wr k c x)) (hbusy : s.getB (YPORT.MBX_STAT_BUSY p) = false)
    (hnode : s.getB (YPORT.NODE_POS_PRESENT p k)) (hcount : c.toNat ≤ s.maxCount) (haddr : wr = false ∨ 0x100 ≤ x.toNat) (hp : p.val < s.port.length) :
    Goes (.mbxGo r p wr k c x) s (fun t => t.getB (YPORT.MBX_STAT_BUSY p) = true ∧
      (∀ b, b < txEntry p (s.prt p).txNext.val ∨ txEntry p (s.prt p).txNext.val + 128 ≤ b → t.readByte b = s.readByte b) ∧
      ∃ y, (t.prt p).xact = some y ∧ y.node = k ∧ y.typ = (if wr then ftWRITE else ftREAD) ∧ y.seq = (s.prt p).reqSeq ∧ y.tries = 0) := by
  obtain ⟨hop, hk, hc, hx⟩ := stored_request (s := s) (r := r) (mailboxAt_yport p) wr k c x
  have hprt := stored_prt (s := s) (r := r) (a := YPORT.MBX_CMD p) (v := requestWord wr k c x) p
  have hbyte := stored_readByte (s := s) (r := r) (a := YPORT.MBX_CMD p) (v := requestWord wr k c x)
  have hlen : (Stored s r (YPORT.MBX_CMD p) (requestWord wr k c x)).port.length = s.port.length := by rw [stored_rest]
  have hkept {f : Fld} (ha : f.addr ≠ YPORT.MBX_CMD p) (hf : f.addr ≠ pgChg (YPORT.MBX_CMD p / 0x1000)) :=
    stored_getF (s := s) (r := r) (v := requestWord wr k c x) ((mailboxAt_yport p).home s) ha hf
  have hexec := exec_mbxGo h
  generalize Stored s r (YPORT.MBX_CMD p) (requestWord wr k c x) = u at *
  have hopB : u.getB (YPORT.MBX_CMD_OP p) = wr := by simp only [getB, hop]; cases wr <;> rfl
  have hbusyU : u.getB (YPORT.MBX_STAT_BUSY p) = false := by
    rw [getB, hkept (by simp) (by simp only [YPORT.MBX_STAT, YPORT.MBX_CMD, pgChg]; omega)]; exact hbusy
  have hnodeU : u.getB (YPORT.NODE_POS_PRESENT p k) = true := by
    rw [getB, hkept (by simp only [YPORT.NODE_POS, YPORT.MBX_CMD]; omega) (by simp only [YPORT.NODE_POS, YPORT.MBX_CMD, pgChg]; omega)]; exact hnode
  have hcycle : u.getF VCE.TIMING_CYCLE = s.getF VCE.TIMING_CYCLE :=
    hkept (by simp only [YPORT.MBX_CMD, VCE.TIMING]; omega) (by simp only [YPORT.MBX_CMD, VCE.TIMING, pgChg]; omega)
  have hmax : u.maxCount = s.maxCount := by
    have hcycleUs : u.cycleUs = s.cycleUs := by rw [cycleUs, hcycle]; rfl
    simp only [maxCount, hcycleUs]
  obtain ⟨fr, hgo⟩ := mbxGo_taken hbusyU (by rw [hc, hmax]; exact hcount) (by rw [hk]; exact hnodeU) (by rw [hopB, hx]; exact haddr)
  rw [hgo, hk, hopB] at hexec
  refine ⟨_, hexec, decide_eq_true (getF_setF_self (Nat.le_of_ble_eq_true rfl) 1), fun b hb => ?_,
    ⟨(u.prt p).reqSeq, if wr then ftWRITE else ftREAD, k, fr, 0⟩, ?_, rfl, rfl, congrArg PortSt.reqSeq hprt, rfl⟩
  · rw [setF_readByte, mbxSent_readByte (by rwa [hprt]), hbyte]
  · exact mbxSent_xact (by omega)

end YportMailbox

/-! ### The PMBus mailbox -/

section PmbMailbox

variable {r : Requester} {wr : Bool} {d : Fin 32} {c : Byte} {x : Half}

/-- RESULT of a transaction whose answer is the free word `w`: a PEC failure needs PEC (R523). -/
def pmbResult (s : State) (w : Word) : Nat := if w.toNat % 4 = 2 ∧ !s.getB PMBUS.PMB_CFG_PEC then 1 else w.toNat % 4

theorem pmbResult_lt (w : Word) : pmbResult s w < 4 := by
  unfold pmbResult
  split <;> omega

/-- The transaction of a listed command ends with what the device answers, and a read that succeeds with the word it gives (R523). -/
theorem pmbMailbox_listed (hbusy : s.getB PMBUS.PMB_MBX_STAT_BUSY = false) (hrun : s.pgRunning pPMBUS)
    (hcmd : pmbCmds.contains (s.getF PMBUS.PMB_MBX_CMD) = true) :
    let u := s.takeFree.2.setF PMBUS.PMB_MBX_STAT_RESULT (pmbResult s s.takeFree.1)
    s.pmbMailbox = if pmbResult s s.takeFree.1 = 0 ∧ u.getB PMBUS.PMB_MBX_OP = false then u.takeFree.2.setF PMBUS.PMB_MBX_DATA (u.takeFree.1.toNat % 65536)
      else u :=
  (if_neg (by simp [hbusy, hrun])).trans ((if_neg (by rw [hcmd]; decide)).trans rfl)

theorem pmbMailbox_ends (hbusy : s.getB PMBUS.PMB_MBX_STAT_BUSY = false) (hrun : s.pgRunning pPMBUS)
    (hcmd : pmbCmds.contains (s.getF PMBUS.PMB_MBX_CMD) = true) : s.pmbMailbox.getF PMBUS.PMB_MBX_STAT_RESULT < 4 ∧ s.pmbMailbox.mem = s.mem ∧
      s.pmbMailbox.shelf = s.shelf ∧ s.free < s.pmbMailbox.free := by
  have hresult (u : State) (hu : u.regs = (s.takeFree.2.setF PMBUS.PMB_MBX_STAT_RESULT (pmbResult s s.takeFree.1)).regs) :
      u.getF PMBUS.PMB_MBX_STAT_RESULT < 4 := by
    have hread : u.getF PMBUS.PMB_MBX_STAT_RESULT = pmbResult s s.takeFree.1 % 2 ^ 3 := by
      rw [← getF_setF_self (s := s.takeFree.2) (g := PMBUS.PMB_MBX_STAT_RESULT) (by decide)]
      simp only [getF, getReg, hu]
    exact hread ▸ (Nat.mod_le _ _).trans_lt (pmbResult_lt _)
  rw [pmbMailbox_listed hbusy hrun hcmd]
  split
  · refine ⟨?_, rfl, rfl, Nat.lt_of_lt_of_le (Nat.lt_succ_self _) (Nat.le_succ _)⟩
    rw [getF_setF_addr (by decide)]
    exact hresult _ rfl
  · exact ⟨hresult _ rfl, rfl, rfl, Nat.lt_succ_self _⟩

theorem pmbMailbox_unlisted (hbusy : s.getB PMBUS.PMB_MBX_STAT_BUSY = false) (hrun : s.pgRunning pPMBUS)
    (hcmd : pmbCmds.contains (s.getF PMBUS.PMB_MBX_CMD) = false) : s.pmbMailbox = s.setF PMBUS.PMB_MBX_STAT_RESULT 4 :=
  (if_neg (by simp [hbusy, hrun])).trans (if_pos (by rw [hcmd]; rfl))

theorem exec_pmbusMailboxGo (h : Accepts s r PMBUS.PMB_MBX (requestWord wr d c x)) :
    exec (.pmbusMailboxGo r wr d c x) s = .next (Stored s r PMBUS.PMB_MBX (requestWord wr d c x)).pmbMailbox :=
  congrArg Host.Outcome.next ((hostWrite_accepted h regAt_pmbMbx).trans (if_pos ⟨rfl, (requestWord_fields wr d c x).1⟩))

/-- An accepted PMBus request finds its command in the register, and the mailbox and the page as they were. -/
theorem stored_pmbMbx (hbusy : s.getB PMBUS.PMB_MBX_STAT_BUSY = false) (hrun : s.pgRunning pPMBUS) :
    let u := Stored s r PMBUS.PMB_MBX (requestWord wr d c x)
    u.getF PMBUS.PMB_MBX_CMD = c.toNat ∧ u.getB PMBUS.PMB_MBX_STAT_BUSY = false ∧ u.pgRunning pPMBUS = true := by
  have hkept {f : Fld} (ha : f.addr ≠ PMBUS.PMB_MBX) (hf : f.addr ≠ pgChg (PMBUS.PMB_MBX / 0x1000)) :=
    stored_getF (s := s) (r := r) (v := requestWord wr d c x) (mailboxAt_pmbus.home s) ha hf
  obtain ⟨-, -, hc, -⟩ := stored_request (s := s) (r := r) mailboxAt_pmbus wr d c x
  refine ⟨hc, ?_, ?_⟩
  · rw [getB, hkept (by decide) (by decide)]
    exact hbusy
  · rw [pgRunning, pgState, hkept (by decide) (by decide)]
    exact hrun

theorem goes_pmbusMailboxGo_listed (h : Accepts s r PMBUS.PMB_MBX (requestWord wr d c x)) (hbusy : s.getB PMBUS.PMB_MBX_STAT_BUSY = false)
    (hrun : s.pgRunning pPMBUS) (hcmd : pmbCmds.contains c.toNat) : Goes (.pmbusMailboxGo r wr d c x) s (fun t =>
      t.getF PMBUS.PMB_MBX_STAT_RESULT < 4 ∧ t.mem = s.mem ∧ t.shelf = s.shelf ∧ s.free < t.free) := by
  obtain ⟨hc, hbusyU, hrunU⟩ := stored_pmbMbx (r := r) (wr := wr) (d := d) (c := c) (x := x) hbusy hrun
  obtain ⟨hresult, hmem, hshelf, hfree⟩ := pmbMailbox_ends hbusyU hrunU (by rw [hc]; exact hcmd)
  have hmemS : (Stored s r PMBUS.PMB_MBX (requestWord wr d c x)).mem = s.mem := by rw [stored_rest]
  have hshelfS : (Stored s r PMBUS.PMB_MBX (requestWord wr d c x)).shelf = s.shelf := by rw [stored_rest]
  have hfreeS : (Stored s r PMBUS.PMB_MBX (requestWord wr d c x)).free = s.free := by rw [stored_rest]
  exact ⟨_, exec_pmbusMailboxGo h, hresult, hmem.trans hmemS, hshelf.trans hshelfS, hfreeS ▸ hfree⟩

theorem goes_pmbusMailboxGo_unlisted (h : Accepts s r PMBUS.PMB_MBX (requestWord wr d c x)) (hbusy : s.getB PMBUS.PMB_MBX_STAT_BUSY = false)
    (hrun : s.pgRunning pPMBUS) (hcmd : pmbCmds.contains c.toNat = false) : Goes (.pmbusMailboxGo r wr d c x) s (fun t =>
      Sets (Stored s r PMBUS.PMB_MBX (requestWord wr d c x)) t [(PMBUS.PMB_MBX_STAT_RESULT, 4)]) := by
  obtain ⟨hc, hbusyU, hrunU⟩ := stored_pmbMbx (r := r) (wr := wr) (d := d) (c := c) (x := x) hbusy hrun
  refine ⟨_, exec_pmbusMailboxGo h, ?_⟩
  rw [pmbMailbox_unlisted hbusyU hrunU (by rw [hc]; exact hcmd)]
  exact sets_setF sets_refl (by decide) (by simp) (by decide)

end PmbMailbox

/-! ### Cleared counters -/

section Clear

variable {r : Requester} {p : Fin 24} {l : List Nat}

theorem portClr_concat (l : List Nat) (a : Nat) : s.portClr (l ++ [a]) = (s.portClr l).setReg a 0 := by
  simp [portClr]

theorem sets_portClr (hl : l.Nodup) : Sets s (s.portClr l) (l.reverse.map (whole · 0)) := by
  induction l using List.reverseRecOn with
  | nil => exact sets_refl
  | append_singleton l a ih =>
    obtain ⟨hl, -, hne⟩ := List.nodup_append.1 hl
    rw [portClr_concat, List.reverse_append]
    refine sets_setReg (ih hl) fun x hx => ?_
    obtain ⟨b, hb, rfl⟩ := List.mem_map.1 hx
    exact hne b (List.mem_reverse.1 hb) a (by simp)

theorem portClr_getReg {a : Nat} (h : a ∈ l) : (s.portClr l).getReg a = 0 := by
  induction l using List.reverseRecOn with
  | nil => simp at h
  | append_singleton l b ih =>
    rw [portClr_concat, getReg_setReg]
    split
    case isTrue => rfl
    case isFalse hb => exact ih (by simpa [hb] using h)

theorem portClr_rest : s.portClr l = { s with regs := (s.portClr l).regs } := by
  induction l using List.reverseRecOn with
  | nil => rfl
  | append_singleton l a ih => rw [portClr_concat, ih]; rfl

/-- The counters of a Yorid port and of its 32 nodes (R135). -/
def yportCounters (n : Nat) : List Nat :=
  [YPORT.CNT_ERR n, YPORT.CNT_FRM n, YPORT.CNT_LINK n, YPORT.CNT_XACT n, YPORT.CNT_MISC n] ++ (List.range 32).map (YPORT.NODE_ERR n)

theorem yportCntClr_eq (s : State) (n : Nat) : s.yportCntClr n = s.portClr (yportCounters n) := by
  rw [yportCounters, portClr, List.foldl_append, List.foldl_map]
  rfl

/-- CNT_CTRL.CLR zeroes the counter words (R135, R178, R525). -/
theorem wordActs_yportClr (p : Nat) (old : Word) : s.wordActs r .yport p 0 (YPORT.CNT_CTRL p) 1#32 old = s.portClr (yportCounters p) :=
  (if_pos rfl).trans ((if_pos rfl).trans (yportCntClr_eq s p))

theorem wordActs_sampleClr (old : Word) : s.wordActs r .sample 0 0 SAMPLE.CNT_CTRL 1#32 old = s.portClr [SAMPLE.CNT_SET, SAMPLE.CNT_FRM] :=
  rfl

theorem wordActs_canClr (n : Nat) (old : Word) : s.wordActs r .can n 0 (CAN.CNT_CTRL n) 1#32 old = s.portClr [CAN.CNT_RX n, CAN.CNT_TX n, CAN.CNT_MISC n] :=
  if_pos ⟨rfl, rfl⟩

theorem wordActs_t1sClr (old : Word) : s.wordActs r .t1s 0 0 T1S.CNT_CTRL 1#32 old = s.portClr [T1S.CNT_RX, T1S.CNT_TX, T1S.CNT_MISC] :=
  rfl

theorem wordActs_spiClr (old : Word) : s.wordActs r .spi 0 0 SPI.CNT_CTRL 1#32 old = s.portClr [SPI.CNT_XACT, SPI.CNT_ERR] :=
  rfl

/-- An accepted CLR goes on with the listed registers zeroed. -/
theorem exec_clear {i : Instr} {a n m : Nat} {k : PageKind} (he : exec i s = wordWrite r a 1 s) (h : Accepts s r a 1) (hr : RegAt a k n m = true)
    (hacts : ∀ (u : State) (old : Word), u.wordActs r k n m a 1#32 old = u.portClr l) : exec i s = .next ((Stored s r a 1).portClr l) :=
  he.trans (congrArg Host.Outcome.next ((hostWrite_accepted h hr).trans (hacts _ _)))

theorem goes_yportCntClr (h : Accepts s r (YPORT.CNT_CTRL p) 1) : Goes (.yportCntClr r p) s (fun t =>
    (∀ a ∈ [YPORT.CNT_ERR p, YPORT.CNT_FRM p, YPORT.CNT_LINK p, YPORT.CNT_XACT p, YPORT.CNT_MISC p], t.getReg a = 0) ∧
      (∀ k : Fin 32, t.getReg (YPORT.NODE_ERR p k) = 0) ∧ t = { Stored s r (YPORT.CNT_CTRL p) 1 with regs := t.regs }) := by
  refine ⟨_, exec_clear rfl h (regAt_yportCntCtrl p) fun _ => wordActs_yportClr p, fun a ha => ?_, fun k => ?_, portClr_rest⟩
  · exact portClr_getReg (List.mem_append_left _ ha)
  · exact portClr_getReg (List.mem_append_right _ (List.mem_map_of_mem (List.mem_range.2 k.isLt)))

end Clear

/-- Settles O11: a request over the word that its accepted write leaves, the cleared counters as a list of zeroed registers. That a PMBus transaction
ends at once, with a free RESULT below 4, is the model's choice (log entry 34). -/
theorem portAndMailboxRequests : Obligations.PortAndMailboxRequests := by
  unfold Obligations.PortAndMailboxRequests
  refine ⟨fun r p wr k c x s h hbusy hnode hcount haddr hp => goes_mbxGo h hbusy hnode hcount haddr hp, fun r p s h => goes_yportCntClr h,
    fun r s h => ⟨_, exec_clear rfl h regAt_sampleCntCtrl fun _ => wordActs_sampleClr, sets_portClr (by decide)⟩,
    fun r n s h => ⟨_, exec_clear rfl h (regAt_canCntCtrl n) fun _ => wordActs_canClr n, sets_portClr (by simp)⟩,
    fun r s h => ⟨_, exec_clear rfl h regAt_t1sCntCtrl fun _ => wordActs_t1sClr, sets_portClr (by decide)⟩,
    fun r s h => ⟨_, exec_clear rfl h regAt_spiCntCtrl fun _ => wordActs_spiClr, sets_portClr (by decide)⟩,
    fun r wr d c x s h hbusy hrun hcmd => goes_pmbusMailboxGo_listed h hbusy hrun hcmd,
    fun r wr d c x s h hbusy hrun hcmd => goes_pmbusMailboxGo_unlisted h hbusy hrun hcmd⟩

end Sys2Proof.Proofs
end

section
/-! SUPPORT. Sample sets (chapter 5): the page's start asks the nodes, a set closes and is gathered (R203), and the decimator checks follow SDM_STAT. -/

namespace Sys2Proof.Proofs

open Machine Machine.State Laws

-- One proof after the other: side by side they take more threads than the check's memory has stacks for.
set_option Elab.async false

variable {s t u : State}

/-! ### The ports' own requests -/

/-- What a port's own request may touch (R114, R142, R187): entries 2 to 15 of the transmit queues, the ports' state, the relays. -/
structure Requested (s t : State) : Prop where
  mem : TxKept s t
  rest : t = { s with mem := t.mem, port := t.port, pair := t.pair }

section Request

variable {n : Nat}

theorem Requested.refl : Requested s s := ⟨fun _ _ => rfl, rfl⟩

theorem Requested.trans (h : Requested s t) (h' : Requested t u) : Requested s u where
  mem a ha := (h'.mem a ha).trans (h.mem a ha)
  rest := h'.rest.trans (congrArg (fun x => { x with mem := u.mem, port := u.port, pair := u.pair }) h.rest)

theorem Requested.foldl {β : Type} {f : State → β → State} {l : List β} (hf : ∀ t, ∀ x ∈ l, Requested t (f t x)) : Requested s (l.foldl f s) :=
  List.foldlRecOn (motive := Requested s) l f .refl fun t ht x hx => ht.trans (hf t x hx)

theorem requested_updPort (n : Nat) (f : PortSt → PortSt) : Requested s (s.updPort n f) := ⟨fun _ _ => rfl, rfl⟩

theorem requested_relay (f : RelayFrame) : Requested s (s.relay f) := ⟨fun _ _ => rfl, rfl⟩

/-- The entry that a frame takes is one of entries 2 to 15. -/
theorem requested_queueRaw (hn : n < 24) (fr : List Byte) : Requested s (s.queueRaw n fr) where
  mem a ha := by
    have hentry := (s.prt n).txNext.isLt
    have hlen := List.length_take_le 128 fr
    have hout := ha ⟨n, hn⟩
    simp only [txEntry] at hout
    exact queueRaw_readByte (by simp only [txEntry]; omega)
  rest := by
    unfold queueRaw
    dsimp only
    split <;> rfl

theorem requested_sendTo (hn : n < 24) (node typ : Nat) (fr : List Byte) : Requested s (s.sendTo n node typ fr) := by
  unfold sendTo
  dsimp only
  split
  · exact (requested_queueRaw hn fr).trans (requested_relay _)
  · split
    exacts [requested_relay _, requested_queueRaw hn fr]

theorem requested_ownStep (hn : n < 24) (i : Nat) : Requested s (s.ownStep n i) := by
  unfold ownStep
  split
  · dsimp only
    split
    exacts [(requested_sendTo hn _ _ _).trans (requested_updPort n _), .refl]
  · exact .refl

theorem requested_ownSend (hn : n < 24) : Requested s (s.ownSend n) := by
  unfold ownSend
  split
  · exact (Requested.foldl fun _ i _ => requested_ownStep hn i).trans (requested_updPort n _)
  · exact .refl

theorem requested_ask (hn : n < 24) (use : ReqUse) (node typ : Nat) (pl : List Nat) : Requested s (s.ask n use node typ pl) :=
  (requested_updPort n _).trans (requested_ownSend hn)

end Request

/-! ### The page starts, a set opens and samples -/

section Start

/-- PERIOD and EN on their way to the nodes of every running port (R153). -/
def periodSent (s : State) : State := forAll 24 (fun s n => if s.portLive n then s.ask n .config 0 ftBCAST s.samplePl else s) s

theorem requested_periodSent : Requested s (periodSent s) :=
  Requested.foldl fun t n hn => by
    split
    exacts [requested_ask (List.mem_range.1 hn) _ _ _ _, .refl]

/-- The first sample instant of the page (R150, R151). -/
def firstInstant (s : State) : Nat := max (s.sample.startUs + 1000 * s.getF SAMPLE.SET_CFG_PERIOD) s.leadAt

/-- The first sample instant is planned. -/
def instantPlanned (s : State) (atUs : Nat) : State := (s.updSample (fun x => { x with nextUs := some atUs })).showNextSsn

theorem exec_samplePageStart (hrun : s.pgRunning pSAMPLE) (hemits : s.emitsSets) (hnone : s.sample.nextUs = none) : exec .samplePageStart s =
    .next (instantPlanned (periodSent s) (max ((periodSent s).sample.startUs + 1000 * s.getF SAMPLE.SET_CFG_PERIOD) (periodSent s).leadAt)) := by
  have hexec : exec .samplePageStart s = execSamplePageStart s := rfl
  rw [hexec, execSamplePageStart, if_pos ⟨hrun, hemits, hnone⟩, instantPlanned, periodSent]

theorem instantPlanned_nextSsn (hrun : s.pgRunning pSAMPLE) (hemits : s.emitsSets) (atUs : Nat) :
    (instantPlanned s atUs).getReg SAMPLE.NEXT_SSN = nextSsn s.sample.ssn := by
  have hrun' : (s.updSample (fun x => { x with nextUs := some atUs })).pgRunning pSAMPLE = true := hrun
  have hemits' : (s.updSample (fun x => { x with nextUs := some atUs })).emitsSets = true := hemits
  refine (getReg_setReg_self _ _).trans (if_pos ?_)
  rw [hrun', hemits']
  rfl

theorem instantPlanned_shelf (atUs : Nat) : (instantPlanned s atUs).shelf = s.shelf := rfl
theorem txKept_instantPlanned (atUs : Nat) (h : TxKept s t) : TxKept s (instantPlanned t atUs) := h

-- What a request leaves of the state that the series of sets depends on.
theorem Requested.pgRunning (h : Requested s t) (p : Nat) : t.pgRunning p = s.pgRunning p := by rw [h.rest]; rfl
theorem Requested.emitsSets (h : Requested s t) : t.emitsSets = s.emitsSets := by rw [h.rest]; rfl
theorem Requested.sample (h : Requested s t) : t.sample = s.sample := by rw [h.rest]
theorem Requested.shelf (h : Requested s t) : t.shelf = s.shelf := by rw [h.rest]
theorem Requested.leadAt (h : Requested s t) : t.leadAt = s.leadAt := by rw [h.rest]; rfl

theorem goes_samplePageStart (hrun : s.pgRunning pSAMPLE) (hemits : s.emitsSets) (hnone : s.sample.nextUs = none) :
    Goes .samplePageStart s (fun t => t.sample.nextUs = some (firstInstant s) ∧ t.getReg SAMPLE.NEXT_SSN = nextSsn s.sample.ssn ∧ TxKept s t ∧
      t.shelf = s.shelf) := by
  have hsent := requested_periodSent (s := s)
  have hexec := exec_samplePageStart hrun hemits hnone
  rw [hsent.sample, hsent.leadAt] at hexec
  rw [← hsent.pgRunning] at hrun
  rw [← hsent.emitsSets] at hemits
  exact ⟨_, hexec, rfl, hsent.sample ▸ instantPlanned_nextSsn hrun hemits _, txKept_instantPlanned _ hsent.mem,
    (instantPlanned_shelf _).trans hsent.shelf⟩

theorem exec_syncEmission {at_ : Nat} (hrun : s.pgRunning pSAMPLE) (hemits : s.emitsSets ∨ s.servesSegment) (hset : s.sample.set_ = none)
    (hnext : s.sample.nextUs = some at_) (hdue : 3 * at_ < 3 * (s.dev.nowUs + s.cycleUs) + 2 * s.getF SAMPLE.SET_CFG_LEAD) :
    exec .syncEmission s = .next (s.openSet (max at_ s.dev.nowUs)) := by
  have hexec : exec .syncEmission s = execSyncEmission s := rfl
  rw [hexec, execSyncEmission, hnext]
  exact if_pos ⟨hrun, by simpa using hemits, hset, hdue⟩

/-- The four results of a sample instant (R172). -/
def instantResults (s : State) (c : SetIn) : List Word := [s.setResult 0 c.x0, s.setResult 1 c.x1, s.setResult 2 c.x2, s.setResult 3 c.x3]

theorem exec_sampleInstant {c : SetIn} {o : OpenSet} (hop : s.operating) (hset : s.sample.set_ = some o) (htaken : o.taken = false)
    (hdue : o.atUs ≤ s.dev.nowUs) : exec (.sampleInstant c) s =
      .next (((s.settle setBoundary).updShelf (fun x => { x with gateAtSet := x.gate.map (fun g => g == gateOne) })).updSample (fun x => { x with
        set_ := some { o with taken := true, opsec := s.opsec % 2 ^ 32, opus := s.opus, xs := instantResults s c }
        lastSet := instantResults s c })) := by
  have hexec : exec (.sampleInstant c) s = execSampleInstant c s := rfl
  rw [hexec, execSampleInstant, hset]
  exact if_pos ⟨hop, htaken, hdue⟩

end Start

/-! ### A set closes and is gathered -/

section Close

variable {o : OpenSet}

/-- A set counts as partial, as empty (R167). -/
def closeCounted (s : State) (causes : List Nat) : State :=
  let s := if causes.any (fun c => c ≠ 0 && c ≠ 1) then s.incSat SAMPLE.CNT_SET_PARTIAL else s
  if causes.all (· ≠ 0) then s.incSat SAMPLE.CNT_SET_EMPTY else s

theorem regsKept_closeCounted (causes : List Nat) : RegsKept (· = SAMPLE.CNT_SET) s (closeCounted s causes) :=
  have hpartial : RegsKept (· = SAMPLE.CNT_SET) s (if causes.any (fun c => c ≠ 0 && c ≠ 1) then s.incSat SAMPLE.CNT_SET_PARTIAL else s) :=
    regsKept_ite (regsKept_setF regsKept_refl (by rfl) _) regsKept_refl
  regsKept_ite (regsKept_setF hpartial (by rfl) _) hpartial

theorem closeCounted_rest (causes : List Nat) : closeCounted s causes = { s with regs := (closeCounted s causes).regs } := by
  unfold closeCounted
  dsimp only
  split_ifs <;> rfl

/-- The set goes to the estimator, which processes none while the MPU restarts (R315); its block is on the way to the next boundary (R177, R179). -/
def setClosed (s : State) (o : OpenSet) (causes : List Nat) (block : List (Nat × Word)) : State :=
  let s := s.updShelf (fun x => { x with pendRegs := x.pendRegs ++ block })
  let s := if s.dev.mpuRestart || s.dev.updatePause then s.estGap.incSat EST.GAP_CNT_SKIPPED else s
  s.updSample (fun x => { x with
    set_ := none, skips := [], closed := some ⟨o.ssn, o.atUs, causes, s.shelf.gateAtSet, false, s.dev.mpuRestart || s.dev.updatePause⟩ })

theorem exec_setClose (hop : s.operating) (hset : s.sample.set_ = some o) (htaken : o.taken)
    (hdue : o.atUs + 100 * s.getF SAMPLE.SET_CFG_CLOSE < s.dev.nowUs + s.cycleUs) : exec .setClose s =
      .next (setClosed (closeCounted s ((List.range 24).map (s.setCause o))) o ((List.range 24).map (s.setCause o))
        (s.setBlock o ((List.range 24).map (s.setCause o)))) := by
  have hexec : exec .setClose s = execSetClose s := rfl
  rw [hexec, execSetClose, hset]
  exact if_pos ⟨hop, htaken, hdue⟩

theorem setClosed_of_processing {causes : List Nat} {block : List (Nat × Word)} (hmpu : s.dev.mpuRestart = false) (hpause : s.dev.updatePause = false) :
    setClosed s o causes block = (s.updShelf (fun x => { x with pendRegs := x.pendRegs ++ block })).updSample (fun x => { x with
      set_ := none, skips := [], closed := some ⟨o.ssn, o.atUs, causes, s.shelf.gateAtSet, false, false⟩ }) := by
  simp [setClosed, hmpu, hpause]

theorem goes_setClose (hop : s.operating) (hset : s.sample.set_ = some o) (htaken : o.taken)
    (hdue : o.atUs + 100 * s.getF SAMPLE.SET_CFG_CLOSE < s.dev.nowUs + s.cycleUs) (hmpu : s.dev.mpuRestart = false) (hpause : s.dev.updatePause = false) :
    Goes .setClose s (fun t => t.sample.set_ = none ∧
      t.sample.closed = some ⟨o.ssn, o.atUs, (List.range 24).map (s.setCause o), s.shelf.gateAtSet, false, false⟩ ∧
      t.shelf.pendRegs = s.shelf.pendRegs ++ s.setBlock o ((List.range 24).map (s.setCause o)) ∧ t.mem = s.mem ∧
      ∀ a, a ≠ SAMPLE.CNT_SET → t.getReg a = s.getReg a) := by
  have hexec := exec_setClose hop hset htaken hdue
  generalize (List.range 24).map (s.setCause o) = causes at hexec ⊢
  have hrest := closeCounted_rest (s := s) causes
  have hshelf : (closeCounted s causes).shelf = s.shelf := by rw [hrest]
  have hdev : (closeCounted s causes).dev = s.dev := by rw [hrest]
  have hmem : (closeCounted s causes).mem = s.mem := by rw [hrest]
  rw [setClosed_of_processing (hdev ▸ hmpu) (hdev ▸ hpause), hshelf] at hexec
  exact ⟨_, hexec, rfl, rfl, congrArg (fun x : ShelfSt => x.pendRegs ++ s.setBlock o causes) hshelf, hmem, regsKept_closeCounted causes⟩

end Close

section Gather

/-- Nothing changes beside engine memory. -/
structure MemOnly (s t : State) : Prop where
  rest : t = { s with mem := t.mem }

theorem MemOnly.refl : MemOnly s s := ⟨rfl⟩

theorem MemOnly.trans (h : MemOnly s t) (h' : MemOnly t u) : MemOnly s u :=
  ⟨h'.rest.trans (congrArg (fun x : State => { x with mem := u.mem }) h.rest)⟩

theorem MemOnly.foldl {β : Type} {f : State → β → State} {l : List β} (hf : ∀ t x, MemOnly t (f t x)) : MemOnly s (l.foldl f s) :=
  List.foldlRecOn (motive := MemOnly s) l f .refl fun t ht x _ => ht.trans (hf t x)

/-- One channel's part of a gather, unless it was skipped (R201). -/
theorem MemOnly.gathered (h : MemOnly s t) (skipped : Prop) [Decidable skipped] (a : Nat) (l : List Byte) :
    MemOnly s (if skipped then t else t.writeBytes a l) := by
  split
  exacts [h, h.trans ⟨rfl⟩]

theorem memOnly_gatherString (ssn : Word) (k : Nat) : MemOnly s (s.gatherString ssn k) :=
  ((MemOnly.refl.gathered _ _ _).gathered _ _ _).gathered _ _ _

/-- The closed set is gathered, with the causes that the skipped gathers leave (R201). -/
def gatherMarked (s : State) (c : ClosedSet) : State :=
  s.updSample (fun x => { x with closed := some { c with gathered := true, causes := s.skipCauses c.causes } })

/-- Every string with a port in the set's input buffer (R203). -/
def setGathered (s : State) (ssn : Word) : State := forAll 24 (fun s k => if s.portOn k then s.gatherString ssn k else s) s

theorem memOnly_setGathered (ssn : Word) : MemOnly s (setGathered s ssn) :=
  MemOnly.foldl fun t k => by
    split
    exacts [memOnly_gatherString ssn k, .refl]

theorem MemOnly.regs (h : MemOnly s t) : t.regs = s.regs := by rw [h.rest]
theorem MemOnly.est (h : MemOnly s t) : t.est = s.est := by rw [h.rest]
theorem MemOnly.shelf (h : MemOnly s t) : t.shelf = s.shelf := by rw [h.rest]
theorem MemOnly.skipCauses (h : MemOnly s t) : t.skipCauses = s.skipCauses := by rw [h.rest]; rfl

theorem exec_setGatherComplete {c : ClosedSet} (hclosed : s.sample.closed = some c) (hnew : c.gathered = false)
    (husable : (List.range 3).all s.dmUsable) : exec .setGatherComplete s = .next (gatherMarked (setGathered s c.ssn) c) := by
  have hexec : exec .setGatherComplete s = execSetGatherComplete s := rfl
  rw [hexec, execSetGatherComplete, hclosed]
  exact if_pos ⟨husable, hnew⟩

theorem gatherMarked_of_memOnly {c : ClosedSet} (h : MemOnly s t) :
    (gatherMarked t c).sample.closed = some { c with gathered := true, causes := s.skipCauses c.causes } ∧ (gatherMarked t c).regs = s.regs ∧
      (gatherMarked t c).est = s.est ∧ (gatherMarked t c).shelf = s.shelf :=
  ⟨by rw [← h.skipCauses]; rfl, h.regs, h.est, h.shelf⟩

end Gather

/-! ### The decimator checks -/

section Decimator

/-- STUCK of a channel is bit 4 + ch of SDM_STAT. -/
theorem stuckCh_eq_getBit {ch : Nat} (hch : ch < 4) : s.stuckCh ch = s.getBit SAMPLE.SDM_STAT (4 + ch) := by
  have hbit : ((s.getReg SAMPLE.SDM_STAT).extractLsb' 4 4).getLsbD ch = (s.getReg SAMPLE.SDM_STAT).getLsbD (4 + ch) := by
    simp [hch]
  exact hbit

/-- A field set leaves every bit outside it. -/
theorem getBit_setF_apart {f : Fld} {a i : Nat} (hi : i < 32) (h : Apart ⟨a, i, 1⟩ f) (v : Nat) : (s.setF f v).getBit a i = s.getBit a i := by
  simp only [getBit, getReg_setF]
  split
  case isTrue ha =>
    have hout : ¬ (f.lo ≤ i ∧ i < f.lo + f.w) := fun hin => by
      rcases h with h | h | h
      · exact h ha
      all_goals
        dsimp only at h
        omega
    rw [getLsbD_withBits _ _ _ _ _ hi, if_neg hout, ha]
  case isFalse => rfl

/-- The condition of 106 follows PLAUS_FAIL and the STUCK bits of channels 0 to 2 (R175). -/
theorem plausCond_getCond : s.plausCond.getCond 106 = (s.getB SAMPLE.SDM_STAT_PLAUS_FAIL || s.stuckCh 0 || s.stuckCh 1 || s.stuckCh 2) :=
  getCond_setCond_self _

theorem plausCond_getReg {a : Nat} (ha : a ≠ FCOL.COND 3) : s.plausCond.getReg a = s.getReg a := getReg_setF_ne _ ha

theorem plausCond_getBit (i : Nat) : s.plausCond.getBit SAMPLE.SDM_STAT i = s.getBit SAMPLE.SDM_STAT i :=
  congrArg (·.getLsbD i) (plausCond_getReg (by decide))

theorem plausCond_stuckCh (ch : Nat) : s.plausCond.stuckCh ch = s.stuckCh ch := by
  simp only [stuckCh, getF, plausCond_getReg (a := SAMPLE.SDM_STAT) (by decide)]

/-- A stuck channel of 0 to 2 keeps the condition of 106 up. -/
theorem plausCond_of_stuck {ch : Nat} (hch : ch < 3) (h : s.stuckCh ch = true) : s.plausCond.getCond 106 = true := by
  rw [plausCond_getCond]
  obtain rfl | rfl | rfl : ch = 0 ∨ ch = 1 ∨ ch = 2 := by omega
  all_goals simp [h]

/-- A stuck channel in SDM_STAT: its bit, and for D0 and D2, which are compared, the plausibility check afresh (R174, R175). -/
def stuckShown (s : State) (ch : Nat) : State :=
  let s := s.putBit SAMPLE.SDM_STAT (4 + ch) true
  if ch = 0 ∨ ch = 2 then (s.setF SAMPLE.SDM_STAT_PLAUS_FAIL 0).updShelf (fun x => { x with plausBad := 0, plausOk := 0 }) else s

/-- A stuck channel with the condition of 106 and the open set's window (R175, Table 5-7). -/
abbrev stuckHeld (s : State) (ch : Nat) : State := (stuckShown s ch).plausCond.setWatch

theorem exec_sdmStuck (ch : Fin 4) (hop : s.operating) (hen : s.sdmEn ch) (hfree : s.stuckCh ch = false) :
    exec (.sdmStuck ch) s = .next (if ch.val < 3 then (stuckHeld s ch).raise 106 [ch.val] else stuckHeld s ch) :=
  if_pos ⟨hop, hen, hfree⟩

/-- STUCK and CLIP of the four channels stand below PLAUS_FAIL. -/
theorem stuckShown_getBit {ch i : Nat} (hi : i < 8) :
    (stuckShown s ch).getBit SAMPLE.SDM_STAT i = (s.putBit SAMPLE.SDM_STAT (4 + ch) true).getBit SAMPLE.SDM_STAT i := by
  unfold stuckShown
  dsimp only
  split
  · exact getBit_setF_apart (f := SAMPLE.SDM_STAT_PLAUS_FAIL) (by omega) (.inr (.inl hi)) 0
  · rfl

theorem stuckShown_stuckCh {ch : Nat} (hch : ch < 4) : (stuckShown s ch).stuckCh ch = true := by
  rw [stuckCh_eq_getBit hch, stuckShown_getBit (by omega)]
  exact getLsbD_putBit_self (by omega) true

/-- CLIP stays. -/
theorem stuckShown_clip {ch : Nat} (hch : ch < 4) : (stuckShown s ch).getBit SAMPLE.SDM_STAT ch = s.getBit SAMPLE.SDM_STAT ch :=
  (stuckShown_getBit (by omega)).trans (getBit_setF_apart (by omega) (.inr (.inl (show ch + 1 ≤ 4 + ch by omega))) _)

theorem stuckShown_rest (ch : Nat) : (stuckShown s ch).mem = s.mem ∧ (stuckShown s ch).cairn = s.cairn := by
  unfold stuckShown
  dsimp only
  split <;> exact ⟨rfl, rfl⟩

/-- What a stuck channel shows before 106 is raised. -/
theorem stuckHeld_shows (ch : Fin 4) : (stuckHeld s ch).stuckCh ch = true ∧ (stuckHeld s ch).getBit SAMPLE.SDM_STAT ch = s.getBit SAMPLE.SDM_STAT ch ∧
    (stuckHeld s ch).mem = s.mem ∧ (stuckHeld s ch).cairn = s.cairn := by
  obtain ⟨hmem, hcairn⟩ := stuckShown_rest (s := s) ch
  exact ⟨(plausCond_stuckCh _).trans (stuckShown_stuckCh ch.isLt), (plausCond_getBit _).trans (stuckShown_clip ch.isLt), hmem, hcairn⟩

theorem goes_sdmStuck_raise (ch : Fin 4) (hop : s.operating) (hen : s.sdmEn ch) (hfree : s.stuckCh ch = false) (hch : ch.val < 3) :
    Goes (.sdmStuck ch) s (fun t => ∃ v : State, t = v.raise 106 [ch.val] ∧ v.stuckCh ch = true ∧
      v.getBit SAMPLE.SDM_STAT ch = s.getBit SAMPLE.SDM_STAT ch ∧ v.getCond 106 = true ∧ v.mem = s.mem) := by
  obtain ⟨hstuck, hclip, hmem, -⟩ := stuckHeld_shows (s := s) ch
  exact ⟨_, (exec_sdmStuck ch hop hen hfree).trans (congrArg _ (if_pos hch)), stuckHeld s ch, rfl, hstuck, hclip,
    plausCond_of_stuck hch (stuckShown_stuckCh ch.isLt), hmem⟩

/-- Channel 3 raises nothing. -/
theorem goes_sdmStuck_quiet (hop : s.operating) (hen : s.sdmEn 3) (hfree : s.stuckCh 3 = false) : Goes (.sdmStuck 3) s (fun t =>
    t.stuckCh 3 = true ∧ t.getBit SAMPLE.SDM_STAT 3 = s.getBit SAMPLE.SDM_STAT 3 ∧ t.mem = s.mem ∧ t.cairn = s.cairn) :=
  ⟨_, exec_sdmStuck 3 hop hen hfree, stuckHeld_shows 3⟩

theorem exec_sdmStuckEnd (ch : Fin 4) (hop : s.operating) (hstuck : s.stuckCh ch) :
    exec (.sdmStuckEnd ch) s = .next (s.putBit SAMPLE.SDM_STAT (4 + ch) false).plausCond := if_pos ⟨hop, hstuck⟩

theorem putBit_stuck_stuckCh_ne {ch c : Fin 4} (h : c ≠ ch) (b : Bool) : (s.putBit SAMPLE.SDM_STAT (4 + ch) b).stuckCh c = s.stuckCh c := by
  have hne : c.val ≠ ch.val := fun e => h (Fin.ext e)
  rw [stuckCh_eq_getBit c.isLt, stuckCh_eq_getBit c.isLt]
  exact getBit_setF_apart (by omega) (.inr (by dsimp only; omega)) _

theorem goes_sdmStuckEnd (ch : Fin 4) (hop : s.operating) (hstuck : s.stuckCh ch) : Goes (.sdmStuckEnd ch) s (fun t =>
    t.stuckCh ch = false ∧ (∀ c : Fin 4, c ≠ ch → t.stuckCh c = s.stuckCh c) ∧ t.mem = s.mem ∧ t.shelf = s.shelf) := by
  refine ⟨_, exec_sdmStuckEnd ch hop hstuck, (plausCond_stuckCh _).trans ?_, fun c hc => (plausCond_stuckCh _).trans (putBit_stuck_stuckCh_ne hc false),
    rfl, rfl⟩
  rw [stuckCh_eq_getBit ch.isLt]
  exact getLsbD_putBit_self (by omega) false

/-- PLAUS_FAIL holds the condition of 106 up. -/
theorem plausCond_of_fail (h : s.getB SAMPLE.SDM_STAT_PLAUS_FAIL = true) : s.plausCond = s.setF ⟨FCOL.COND 3, 10, 1⟩ 1 := by
  simp [plausCond, h, setCond, putBit]

theorem goesRaise_plausFailCount (hop : s.operating) (hfail : s.getB SAMPLE.SDM_STAT_PLAUS_FAIL = false) (hbad : 0 < s.shelf.plausBad)
    (hlimit : s.getF SAMPLE.SDM_CFG_PLAUS_N ≤ s.shelf.plausBad) :
    GoesRaise .plausFailCount s s [condOf 106, (SAMPLE.SDM_STAT_PLAUS_FAIL, 1)] 106 [0xFF] := by
  have hexec : exec .plausFailCount s = .next ((s.setF SAMPLE.SDM_STAT_PLAUS_FAIL 1).plausCond.raise 106 [0xFF]) :=
    (if_neg (by simp [hop])).trans (if_pos ⟨hfail, hbad, hlimit⟩)
  have hset : (s.setF SAMPLE.SDM_STAT_PLAUS_FAIL 1).getB SAMPLE.SDM_STAT_PLAUS_FAIL = true := by simp [getB, getF_setF_self]
  refine goesRaise_of_eq hexec ?_
  rw [plausCond_of_fail hset]
  exact sets_setF (sets_setF sets_refl (by decide) (by simp) (by decide)) (by decide) (by simp [Apart]) (by decide)

end Decimator

/-- Settles O12, clause by clause: the page's start asks the nodes and plans the first instant, a set opens, samples, closes and is gathered, and the
decimator checks follow SDM_STAT. -/
theorem sampleSets : Obligations.SampleSets := by
  unfold Obligations.SampleSets
  exact ⟨fun s hrun hemits hnone => goes_samplePageStart hrun hemits hnone,
    fun u s hrun hemits hset hnext hdue => exec_syncEmission hrun hemits hset hnext hdue,
    fun c o s hop hset htaken hdue => ⟨_, exec_sampleInstant hop hset htaken hdue, sets_refl⟩,
    fun o s hop hset htaken hdue hmpu hpause => goes_setClose hop hset htaken hdue hmpu hpause,
    fun c s hclosed hnew husable => ⟨_, exec_setGatherComplete hclosed hnew husable, gatherMarked_of_memOnly (memOnly_setGathered c.ssn)⟩,
    fun ch s hop hen hfree hch => goes_sdmStuck_raise ch hop hen hfree hch,
    fun s hop hen hfree => goes_sdmStuck_quiet hop hen hfree,
    fun ch s hop hstuck => goes_sdmStuckEnd ch hop hstuck,
    fun s hop hfail hbad hlimit => goesRaise_plausFailCount hop hfail hbad hlimit⟩

end Sys2Proof.Proofs
end

section
/-! SUPPORT. The canonical form of the register file and of engine memory (R180, log entry 3): every command keeps it, and a write of bytes reads back. -/

namespace Sys2Proof.Proofs

open Machine Machine.State Laws

/-! ### Every step -/

/-- Every command goes on and keeps the canonical form, the queue and the straps, as its meaning does. -/
theorem okO_exec {o s : State} (h : Ok o s) (c : Instr) : OkO o (exec c s) :=
  match c with
  | .deviceResetPor => ok_execDeviceResetPor h
  | .rstNLow => ok_execRstNLow h
  | .coreBrownout r => ok_execCoreBrownout (a0 := r) h
  | .regionBrownout _ => ok_execRegionBrownout h
  | .vinPorRising _ _ => ok_execVinPorRising h
  | .ascentComplete _ _ => ok_execAscentComplete h
  | .ascentStepTimeout _ => ok_execAscentStepTimeout h
  | .wakePinQualified _ => ok_execWakePinQualified h
  | .rtcAlarm _ => ok_execRtcAlarm h
  | .can0WakePattern _ => ok_execCan0WakePattern h
  | .t1sActivityWake _ => ok_execT1sActivityWake h
  | .modeCtrlDormant _ _ => ok_execModeCtrlDormant h
  | .modeCtrlShip _ _ => ok_execModeCtrlShip h
  | .serviceEnter _ _ => ok_execServiceEnter h
  | .serviceExit _ _ => ok_execServiceExit h
  | .inhibitClr _ _ => ok_execInhibitClr h
  | .modeCtrlReset _ _ => ok_execModeCtrlReset h
  | .modeCtrlBadReq _ _ _ => ok_execModeCtrlBadReq h
  | .descentStart => ok_execDescentStart h
  | .descentRampEnd => ok_execDescentRampEnd h
  | .descentGroupsAllOff _ => ok_execDescentGroupsAllOff h
  | .descentTmaxExpiry _ => ok_execDescentTmaxExpiry h
  | .vinWarnFalling _ => ok_execVinWarnFalling h
  | .vinWarnRising _ => ok_execVinWarnRising h
  | .vholdReady _ => ok_execVholdReady h
  | .vholdBelowMin _ => ok_execVholdBelowMin h
  | .aonSupplyLoss => ok_execAonSupplyLoss h
  | .watchdogExpiry => ok_execWatchdogExpiry h
  | .mpuRestartComplete => ok_execMpuRestartComplete h
  | .refclkLoss => ok_execRefclkLoss h
  | .xt32StartTimeout => ok_execXt32StartTimeout h
  | .pllLock _ => ok_execPllLock h
  | .regionTempLimit _ _ => ok_execRegionTempLimit h
  | .shelfCycleBoundary _ => ok_execShelfCycleBoundary h
  | .setpointStart => ok_execSetpointStart h
  | .syncEmission => ok_execSyncEmission h
  | .sampleInstant _ => ok_execSampleInstant h
  | .setClose => ok_execSetClose h
  | .setGatherComplete => ok_execSetGatherComplete h
  | .estimatorSetUpdate _ => ok_execEstimatorSetUpdate h
  | .restReqRepeat => ok_execRestReqRepeat h
  | .surveyBatch _ => ok_execSurveyBatch h
  | .surveyWindowEnd _ => ok_execSurveyWindowEnd h
  | .surveyPrerollStart _ => ok_execSurveyPrerollStart h
  | .surveyBlocked _ => ok_execSurveyBlocked h
  | .surveyGapEnd _ => ok_execSurveyGapEnd h
  | .capacityWriteBack _ => ok_execCapacityWriteBack h
  | .eststrReinit _ _ _ => ok_execEststrReinit h
  | .eststrResetCap _ _ _ => ok_execEststrResetCap h
  | .moduleUidChanged _ _ _ => ok_execModuleUidChanged h
  | .estwinSelect _ _ => ok_execEstwinSelect h
  | .pgCtrlRun _ _ => ok_execPgCtrlRun h
  | .pgCtrlStopReq _ _ => ok_execPgCtrlStopReq h
  | .pgCtrlFenceClr _ _ => ok_execPgCtrlFenceClr h
  | .pageStartBoundary _ => ok_execPageStartBoundary h
  | .pageStopBoundary _ => ok_execPageStopBoundary h
  | .pgOwnerWrite _ _ _ => ok_execPgOwnerWrite h
  | .ownershipTimeout _ => ok_execOwnershipTimeout h
  | .registerWrite _ _ _ => ok_execRegisterWrite h
  | .spiRead _ _ _ => ok_execSpiRead h
  | .spiWrite _ _ _ _ _ => ok_execSpiWrite h
  | .spiStatus _ _ _ => ok_execSpiStatus h
  | .spiUnknownCmd _ _ _ _ => ok_execSpiUnknownCmd h
  | .spiCsAbandon _ => ok_execSpiCsAbandon h
  | .pageReq _ _ _ _ _ _ _ => ok_execPageReq h
  | .yoridLinkUp _ => ok_execYoridLinkUp h
  | .yoridLinkDown _ => ok_execYoridLinkDown h
  | .sampleDataRx _ _ => ok_execSampleDataRx h
  | .statusRx _ _ => ok_execStatusRx h
  | .eventRx _ _ => ok_execEventRx h
  | .nackRx _ _ => ok_execNackRx h
  | .replyRx _ _ => ok_execReplyRx h
  | .farSetpointRx _ _ => ok_execFarSetpointRx h
  | .responseTimeout _ _ => ok_execResponseTimeout h
  | .enumerationWalk _ _ => ok_execEnumerationWalk h
  | .remeasTimer _ _ => ok_execRemeasTimer h
  | .holdTimeWrite _ => ok_execHoldTimeWrite h
  | .mbxGo _ _ _ _ _ _ => ok_execMbxGo h
  | .yportCntClr _ _ => ok_execYportCntClr h
  | .ringBreak _ _ => ok_execRingBreak h
  | .ringClose _ _ => ok_execRingClose h
  | .samplePageStart => ok_execSamplePageStart h
  | .sampleCntClr _ => ok_execSampleCntClr h
  | .sdmStuck _ => ok_execSdmStuck h
  | .sdmStuckEnd _ => ok_execSdmStuckEnd h
  | .plausFailCount => ok_execPlausFailCount h
  | .fmoverBusError _ _ _ => ok_execFmoverBusError h
  | .fmoverRestart => ok_execFmoverRestart h
  | .sdmaDescriptorComplete _ => ok_execSdmaDescriptorComplete h
  | .sdmaStart _ => ok_execSdmaStart h
  | .sdmaStop _ => ok_execSdmaStop h
  | .sdmaResume _ => ok_execSdmaResume h
  | .sdmaSkip _ => ok_execSdmaSkip h
  | .sdmaAbort _ => ok_execSdmaAbort h
  | .sdmaBusError _ _ _ => ok_execSdmaBusError h
  | .vceSlotEvaluation _ _ => ok_execVceSlotEvaluation h
  | .remoteDeadlineMiss _ => ok_execRemoteDeadlineMiss h
  | .gapOverrun _ => ok_execGapOverrun h
  | .swapReq _ _ _ => ok_execSwapReq h
  | .bankCopy _ _ => ok_execBankCopy h
  | .stateClr _ _ => ok_execStateClr h
  | .slotModeWrite _ _ _ _ => ok_execSlotModeWrite h
  | .handoverGo _ _ _ => ok_execHandoverGo h
  | .handoverExecute => ok_execHandoverExecute h
  | .vceCtrlClr _ => ok_execVceCtrlClr h
  | .scheduleBuild => ok_execScheduleBuild h
  | .scheduleSwap => ok_execScheduleSwap h
  | .regModeWrite _ _ => ok_execRegModeWrite h
  | .regulationStart => ok_execRegulationStart h
  | .startRampEnd => ok_execStartRampEnd h
  | .shortfallCount => ok_execShortfallCount h
  | .capExceedTimer => ok_execCapExceedTimer h
  | .statusTimeout _ => ok_execStatusTimeout h
  | .applyMismatchCount _ => ok_execApplyMismatchCount h
  | .busOvCount => ok_execBusOvCount h
  | .busUvCount => ok_execBusUvCount h
  | .holdupVoltageEntry => ok_execHoldupVoltageEntry h
  | .holdNEntry => ok_execHoldNEntry h
  | .holdupReleaseWrite _ => ok_execHoldupReleaseWrite h
  | .holdupAutoRelease => ok_execHoldupAutoRelease h
  | .holdupHandBackStart => ok_execHoldupHandBackStart h
  | .hbRampEnd => ok_execHbRampEnd h
  | .holdupTmaxExpiry => ok_execHoldupTmaxExpiry h
  | .plantTimeout => ok_execPlantTimeout h
  | .regulationSlotFenced _ => ok_execRegulationSlotFenced h
  | .intentMessage _ _ _ _ _ _ => ok_execIntentMessage h
  | .stepHintEdge _ _ => ok_execStepHintEdge h
  | .cnCancel _ => ok_execCnCancel h
  | .cnBackoffClr _ => ok_execCnBackoffClr h
  | .corniceCntClr _ => ok_execCorniceCntClr h
  | .corniceOpen => ok_execCorniceOpen h
  | .corniceWindowEnd => ok_execCorniceWindowEnd h
  | .corniceCollapseEnd => ok_execCorniceCollapseEnd h
  | .corniceBackoffEnd => ok_execCorniceBackoffEnd h
  | .railPeriod _ _ => ok_execRailPeriod h
  | .railOnRequest _ => ok_execRailOnRequest h
  | .railPrebiasDone _ _ => ok_execRailPrebiasDone h
  | .railOnWithdrawn _ => ok_execRailOnWithdrawn h
  | .softStartEnd _ => ok_execSoftStartEnd h
  | .softStopEnd _ => ok_execSoftStopEnd h
  | .railPowerGood _ => ok_execRailPowerGood h
  | .railUvTimer _ => ok_execRailUvTimer h
  | .railOv _ => ok_execRailOv h
  | .cycleLimitPersist _ => ok_execCycleLimitPersist h
  | .railLimitPersist _ => ok_execRailLimitPersist h
  | .phaseShedStart _ => ok_execPhaseShedStart h
  | .phaseShedComplete _ => ok_execPhaseShedComplete h
  | .phaseOpen _ => ok_execPhaseOpen h
  | .phaseSenseFail _ _ => ok_execPhaseSenseFail h
  | .senseOpenDetect _ _ => ok_execSenseOpenDetect h
  | .ovReportHoldExpiry _ => ok_execOvReportHoldExpiry h
  | .railPrepGo _ _ _ _ => ok_execRailPrepGo h
  | .railCorniceWindowEnd _ => ok_execRailCorniceWindowEnd h
  | .syncInEdge _ _ => ok_execSyncInEdge h
  | .syncInLoss => ok_execSyncInLoss h
  | .glideEnd => ok_execGlideEnd h
  | .ntcMeasurement _ => ok_execNtcMeasurement h
  | .efuseConversion _ _ => ok_execEfuseConversion h
  | .efuseOnRequest _ => ok_execEfuseOnRequest h
  | .efuseOnWithdrawn _ => ok_execEfuseOnWithdrawn h
  | .efuseShortCircuit _ => ok_execEfuseShortCircuit h
  | .efuseHvRefLost => ok_execEfuseHvRefLost h
  | .efuseBreaker _ => ok_execEfuseBreaker h
  | .gateCheckTimer _ => ok_execGateCheckTimer h
  | .gateLowInOn _ => ok_execGateLowInOn h
  | .inrushTlimExpiry _ => ok_execInrushTlimExpiry h
  | .inrushTmaxExpiry _ => ok_execInrushTmaxExpiry h
  | .efuseOnReached _ => ok_execEfuseOnReached h
  | .efuseOnOneSecond _ => ok_execEfuseOnOneSecond h
  | .efuseGateDischarged _ => ok_execEfuseGateDischarged h
  | .retryDelayExpiry _ => ok_execRetryDelayExpiry h
  | .latchClr _ _ => ok_execLatchClr h
  | .gfClr _ _ => ok_execGfClr h
  | .outputPresentWhileOff _ => ok_execOutputPresentWhileOff h
  | .counterCheckpoint => ok_execCounterCheckpoint h
  | .seqEvaluation _ => ok_execSeqEvaluation h
  | .grpCmdUp _ _ => ok_execGrpCmdUp h
  | .grpCmdDown _ _ => ok_execGrpCmdDown h
  | .onDlyExpiry _ => ok_execOnDlyExpiry h
  | .offDlyExpiry _ => ok_execOffDlyExpiry h
  | .slotPowerGood _ => ok_execSlotPowerGood h
  | .pgTmoExpiry _ => ok_execPgTmoExpiry h
  | .slotOff _ => ok_execSlotOff h
  | .tDisMaxExpiry _ => ok_execTDisMaxExpiry h
  | .tRestExpiry _ => ok_execTRestExpiry h
  | .slotRetryClear _ => ok_execSlotRetryClear h
  | .rstOutRelease => ok_execRstOutRelease h
  | .rackfltLowSeen => ok_execRackfltLowSeen h
  | .rackfltHigh100ms => ok_execRackfltHigh100ms h
  | .rackfltPullRelease => ok_execRackfltPullRelease h
  | .inputFilterChange _ _ _ => ok_execInputFilterChange h
  | .inputStuckTimer _ => ok_execInputStuckTimer h
  | .inputStuckRelease _ => ok_execInputStuckRelease h
  | .seqCntClr _ => ok_execSeqCntClr h
  | .sourceRaise _ _ => ok_execSourceRaise h
  | .takeoverReset => ok_execTakeoverReset h
  | .fcolActClear _ _ _ => ok_execFcolActClear h
  | .fcolAck _ => ok_execFcolAck h
  | .unfence _ _ _ => ok_execUnfence h
  | .injStart _ _ _ _ _ => ok_execInjStart h
  | .injCancel _ => ok_execInjCancel h
  | .injectedAccess _ _ => ok_execInjectedAccess h
  | .ridgeLinkUp _ => ok_execRidgeLinkUp h
  | .ridgeLinkDown => ok_execRidgeLinkDown h
  | .ridgeRelock => ok_execRidgeRelock h
  | .copyRx _ => ok_execCopyRx h
  | .copyMissed _ => ok_execCopyMissed h
  | .gridLockLost => ok_execGridLockLost h
  | .helloExchange _ => ok_execHelloExchange h
  | .yieldRx => ok_execYieldRx h
  | .shadowReportRx _ _ => ok_execShadowReportRx h
  | .relayRx _ => ok_execRelayRx h
  | .takeover _ => ok_execTakeover h
  | .firstSetpointAfterTakeover => ok_execFirstSetpointAfterTakeover h
  | .pairCmdYield _ => ok_execPairCmdYield h
  | .plannedHandoverBoundary => ok_execPlannedHandoverBoundary h
  | .pairCmdProof _ => ok_execPairCmdProof h
  | .proofTestEnd _ _ => ok_execProofTestEnd h
  | .epochDemote _ => ok_execEpochDemote h
  | .demoteHoldExpiry => ok_execDemoteHoldExpiry h
  | .partnerWaitExpiry => ok_execPartnerWaitExpiry h
  | .roleSettle => ok_execRoleSettle h
  | .belayClaim _ => ok_execBelayClaim h
  | .belayRelease => ok_execBelayRelease h
  | .revertHoldoffExpiry => ok_execRevertHoldoffExpiry h
  | .revertReqRx => ok_execRevertReqRx h
  | .ridgeCntClr _ => ok_execRidgeCntClr h
  | .psSave _ _ => ok_execPsSave h
  | .psSaveAll _ => ok_execPsSaveAll h
  | .psResetCfg _ _ => ok_execPsResetCfg h
  | .psVerify _ => ok_execPsVerify h
  | .verifyScanEnd _ => ok_execVerifyScanEnd h
  | .recordWriteStart => ok_execRecordWriteStart h
  | .pageProgramDone => ok_execPageProgramDone h
  | .cairnFlush => ok_execCairnFlush h
  | .cairnRdSeq _ _ => ok_execCairnRdSeq h
  | .tcCmdGo _ => ok_execTcCmdGo h
  | .cairnClear _ _ => ok_execCairnClear h
  | .cairnClearComplete => ok_execCairnClearComplete h
  | .holdMessage _ => ok_execHoldMessage h
  | .releaseMessage _ => ok_execReleaseMessage h
  | .capMessage _ _ _ _ => ok_execCapMessage h
  | .pcmdMessage _ _ => ok_execPcmdMessage h
  | .messageCrcFail _ => ok_execMessageCrcFail h
  | .reportTimer => ok_execReportTimer h
  | .t1sPublication => ok_execT1sPublication h
  | .rackMessageRx _ _ _ => ok_execRackMessageRx h
  | .rackSendTimer => ok_execRackSendTimer h
  | .peerTimeout _ => ok_execPeerTimeout h
  | .canErrorState _ _ _ _ => ok_execCanErrorState h
  | .canBusOffRecovery _ => ok_execCanBusOffRecovery h
  | .canTxDrop _ => ok_execCanTxDrop h
  | .t1sLinkLoss _ => ok_execT1sLinkLoss h
  | .portCntClr _ _ => ok_execPortCntClr h
  | .pmbusPoll _ _ => ok_execPmbusPoll h
  | .pmbusPollFail _ _ => ok_execPmbusPollFail h
  | .pmbusAlert _ _ => ok_execPmbusAlert h
  | .pmbusMailboxGo _ _ _ _ _ => ok_execPmbusMailboxGo h
  | .imageBegin _ => ok_execImageBegin h
  | .imageAbort _ => ok_execImageAbort h
  | .imgDataWrite _ _ _ => ok_execImgDataWrite h
  | .imageHeaderChecked => ok_execImageHeaderChecked h
  | .imageVerified _ => ok_execImageVerified h
  | .imageStreamInterrupt => ok_execImageStreamInterrupt h
  | .activate _ _ => ok_execActivate h
  | .activationPauseEnd => ok_execActivationPauseEnd h
  | .confirm _ _ => ok_execConfirm h
  | .autoConfirm => ok_execAutoConfirm h
  | .trialExpiry => ok_execTrialExpiry h
  | .rstNRelease _ => ok_execRstNRelease h
  | .slotRetryEnable _ => ok_execSlotRetryEnable h
  | .regionRestartComplete _ => ok_execRegionRestartComplete h
  | .t1sLinkReturn _ _ => ok_execT1sLinkReturn h
  | .canErrorActiveReturn _ _ _ => ok_execCanErrorActiveReturn h
  | .yoridFrameDiscarded _ _ => ok_execYoridFrameDiscarded h
  | .enumRequestAtPort _ _ _ _ => ok_execEnumRequestAtPort h
  | .syncRx _ _ => ok_execSyncRx h

/-- Taking a command off the queue leaves the lists alone. -/
theorem canonical_popped {s : State} (h : Canonical s) (rest : List Instr) : Canonical { s with pending := rest } := h

/-- Settles O42: the command at the front runs on the rest of the queue, and `okO_exec` keeps the form. The form is the model's own (log entry 3). -/
theorem stepKeepsCanonical : Obligations.StepKeepsCanonical := by
  unfold Obligations.StepKeepsCanonical
  intro s t hs hstep
  unfold step at hstep
  cases hq : s.pending with
  | nil =>
    rw [hq] at hstep
    cases hstep
    exact hs
  | cons c rest =>
    rw [hq] at hstep
    obtain ⟨u, hu, hkeeps, -⟩ := okO_exec (ok_refl (s := { s with pending := rest })) c
    cases hu.symm.trans hstep
    exact hkeeps (canonical_popped hs rest)

/-! ### Engine memory -/

/-- Settles O46: the memory after the write is spliced, and the registers stand beside it. -/
theorem engineMemoryReads : Obligations.EngineMemoryReads := by
  unfold Obligations.EngineMemoryReads
  exact fun _ a bs x h => ⟨readByte_writeBytes a x bs, wf_writeBytes h, rfl⟩

end Sys2Proof.Proofs
end

section
/-! SUPPORT. The frame mover's halt and restart, and the moves of an SDMA channel (chapter 6). -/

namespace Sys2Proof.Sets

open Machine Machine.State Laws

variable {s t : State} {l : List (Fld × Nat)}

theorem mem (h : Sets s t l) : t.mem = s.mem := by rw [h.rest]

theorem sdmaCh (h : Sets s t l) (c : Nat) : t.sdmaCh c = s.sdmaCh c := by rw [h.rest]; rfl

theorem updSdma (h : Sets s t l) (c : Nat) (g : SdmaSt → SdmaSt) : Sets (s.updSdma c g) (t.updSdma c g) l :=
  ⟨h.reads, h.keeps, congrArg (State.updSdma · c g) h.rest⟩

end Sys2Proof.Sets

namespace Sys2Proof.Proofs

open Machine Machine.State Laws

-- One proof after the other: side by side they take more threads than the check's memory has stacks for.
set_option Elab.async false

variable {s t : State}

/-! ### The frame mover -/

section Mover

variable {a : Option Word} {u : BitVec 4} {wr : Bool} {b : Nat}

/-- The time of the error last seen is now (R189). -/
abbrev errorNoted (s : State) : State := { s with fm := { s.fm with berrAt := some s.dev.nowUs } }

/-- A bus error as FM_STAT, BERR_ADDR and BERR_INFO show it (R188). -/
def errorShown (s : State) (a : Option Word) (u : BitVec 4) (wr : Bool) : State :=
  ((((errorNoted s).incSat FMOVER.FM_STAT_BERR_COUNT).setReg FMOVER.BERR_ADDR (a.getD 0xFFFFFFFF)).setB FMOVER.BERR_INFO_DIR wr).setF
    FMOVER.BERR_INFO_UNIT u.toNat

theorem sets_errorShown : Sets (errorNoted s) (errorShown s a u wr) [(FMOVER.BERR_INFO_UNIT, u.toNat), (FMOVER.BERR_INFO_DIR, wr.toNat),
    whole FMOVER.BERR_ADDR (a.getD 0xFFFFFFFF), oneMore s FMOVER.FM_STAT_BERR_COUNT] :=
  have hcount : Sets (errorNoted s) ((errorNoted s).incSat FMOVER.FM_STAT_BERR_COUNT) [oneMore s FMOVER.FM_STAT_BERR_COUNT] :=
    sets_incSat sets_refl (by decide) (by simp)
  have haddr := sets_setReg hcount (a := FMOVER.BERR_ADDR) (w := a.getD 0xFFFFFFFF) (by simp [oneMore])
  have hdir := sets_setF haddr (f := FMOVER.BERR_INFO_DIR) (v := wr.toNat) (by decide) (by simp [Apart, whole, oneMore]) wr.toNat_lt
  sets_setF hdir (by decide) (by simp [Apart, whole, oneMore]) u.isLt

/-- The frame mover is halted, and `restarts` says whether it starts again by itself; the condition of 240 is present (R188, R189). -/
def moverHalted (s : State) (a : Option Word) (u : BitVec 4) (wr restarts : Bool) : State :=
  (((errorShown s a u wr).setF FMOVER.FM_STAT_HALTED 1).setB FMOVER.FM_STAT_RESTARTING restarts).setCond 240 true

theorem sets_moverHalted (restarts : Bool) : Sets (errorNoted s) (moverHalted s a u wr restarts) [condOf 240,
    (FMOVER.FM_STAT_RESTARTING, restarts.toNat), (FMOVER.FM_STAT_HALTED, 1), (FMOVER.BERR_INFO_UNIT, u.toNat), (FMOVER.BERR_INFO_DIR, wr.toNat),
    whole FMOVER.BERR_ADDR (a.getD 0xFFFFFFFF), oneMore s FMOVER.FM_STAT_BERR_COUNT] :=
  have hhalted := sets_setF (sets_errorShown (s := s) (a := a) (u := u) (wr := wr)) (f := FMOVER.FM_STAT_HALTED) (v := 1) (by decide)
    (by simp [Apart, whole, oneMore]) (by decide)
  have hrestarts := sets_setF hhalted (f := FMOVER.FM_STAT_RESTARTING) (v := restarts.toNat) (by decide) (by simp [Apart, whole, oneMore]) restarts.toNat_lt
  sets_setF hrestarts (by decide) (by simp [Apart, whole, oneMore, FCOL.COND]) (by decide)

/-- AUTO_RESTART stands outside what the error writes. -/
theorem errorShown_autoRestart : (errorShown s a u wr).getB FMOVER.FM_CTRL_AUTO_RESTART = s.getB FMOVER.FM_CTRL_AUTO_RESTART :=
  getB_of_sets sets_errorShown FMOVER.FM_CTRL_AUTO_RESTART (by simp [Apart, whole, oneMore])

theorem exec_fmoverBusError_first (hrun : s.pgRunning pFMOVER) (hb : s.fm.berrAt = none) : exec (.fmoverBusError a u wr) s =
    .next ((moverHalted s a u wr (s.getB FMOVER.FM_CTRL_AUTO_RESTART)).raise 240 []) := by
  have hexec : exec (.fmoverBusError a u wr) s = execFmoverBusError a u wr s := rfl
  rw [hexec, execFmoverBusError, if_neg (by simp [hrun]), hb, ← errorShown_autoRestart (a := a) (u := u) (wr := wr)]
  simp only [Bool.not_false, Bool.and_true]
  rfl

/-- A field of one bit reads as its Bool does. -/
theorem toNat_getB {f : Fld} (hw : f.w = 1) : (s.getB f).toNat = s.getF f := by
  have hlt := getF_lt s f
  rw [hw] at hlt
  obtain h | h : s.getF f = 0 ∨ s.getF f = 1 := by omega
  all_goals simp [getB, h]

theorem goesRaise_fmoverBusError_first (hrun : s.pgRunning pFMOVER) (hb : s.fm.berrAt = none) : GoesRaise (.fmoverBusError a u wr) s (errorNoted s)
    [condOf 240, (FMOVER.FM_STAT_RESTARTING, s.getF FMOVER.FM_CTRL_AUTO_RESTART), (FMOVER.FM_STAT_HALTED, 1), (FMOVER.BERR_INFO_UNIT, u.toNat),
      (FMOVER.BERR_INFO_DIR, wr.toNat), whole FMOVER.BERR_ADDR (a.getD 0xFFFFFFFF), oneMore s FMOVER.FM_STAT_BERR_COUNT] 240 [] := by
  rw [← toNat_getB (f := FMOVER.FM_CTRL_AUTO_RESTART) rfl]
  exact goesRaise_of_eq (exec_fmoverBusError_first hrun hb) (sets_moverHalted _)

theorem exec_fmoverBusError_again (hrun : s.pgRunning pFMOVER) (hb : s.fm.berrAt = some b) (hlast : s.dev.nowUs < b + 1000000) :
    exec (.fmoverBusError a u wr) s = .next ((moverHalted s a u wr false).raise 240 []) := by
  have hexec : exec (.fmoverBusError a u wr) s = execFmoverBusError a u wr s := rfl
  rw [hexec, execFmoverBusError, if_neg (by simp [hrun]), hb]
  simp only [hlast, decide_true, Bool.not_true, Bool.and_false]
  rfl

/-- A port's frame ring emptied, its transmit queue flushed (Table 6-4). -/
def portFlushed (s : State) (n : Nat) : State :=
  (forAll 24 (fun s e => if s.ringValid n e then s.ringClear n e else s) s).updPort n (fun x => { x with tx := [], txNext := 0, rxNext := 0 })

theorem memOnly_ringEmptied (n : Nat) : MemOnly s (forAll 24 (fun s e => if s.ringValid n e then s.ringClear n e else s) s) :=
  MemOnly.foldl fun t e => by
    split
    exacts [⟨rfl⟩, .refl]

theorem MemOnly.prt (h : MemOnly s t) (n : Nat) : t.prt n = s.prt n := by rw [h.rest]; rfl

theorem portFlushed_shelf (n : Nat) : (portFlushed s n).shelf = s.shelf := (memOnly_ringEmptied n).shelf

/-- What of a port's state a flush brings to its start. -/
def queueStarts (s : State) (n : Nat) : List Nat × Fin 14 × Nat := ((s.prt n).tx, (s.prt n).txNext, (s.prt n).rxNext)

theorem portFlushed_queueStarts (n : Nat) : queueStarts (portFlushed s n) n = ([], 0, 0) :=
  prt_updPort_const (fun x : PortSt => (x.tx, x.txNext, x.rxNext)) ([], 0, 0) (fun _ => rfl) rfl

theorem portFlushed_queueStarts_ne {n m : Nat} (h : n ≠ m) : queueStarts (portFlushed s n) m = queueStarts s m := by
  have hprt : (portFlushed s n).prt m = s.prt m := by
    rw [← (memOnly_ringEmptied (s := s) n).prt m]
    simp [portFlushed, State.prt, List.getD_eq_getElem?_getD, h]
  simp only [queueStarts, hprt]

theorem portsFlushed_queueStarts (n : Fin 24) : queueStarts (forAll 24 portFlushed s) n = ([], 0, 0) :=
  forAll_reads (queueStarts · n) n.isLt (fun _ => portFlushed_queueStarts _) fun _ _ h => portFlushed_queueStarts_ne h

theorem portsFlushed_shelf : (forAll 24 portFlushed s).shelf = s.shelf :=
  List.foldlRecOn (motive := fun t : State => t.shelf = s.shelf) _ _ rfl fun _ h n _ => (portFlushed_shelf n).trans h

/-- The frame mover runs again, flushed (Table 6-4). -/
def moverRestarted (s : State) : State :=
  (({ s with fm := { s.fm with flushed := true } }.setF FMOVER.FM_STAT_HALTED 0).setF FMOVER.FM_STAT_RESTARTING 0).setCond 240 false

theorem fmRelease_eq : s.fmRelease = moverRestarted (forAll 24 portFlushed s) := rfl

theorem sets_moverRestarted : Sets { s with fm := { s.fm with flushed := true } } (moverRestarted s)
    [(FMOVER.FM_STAT_HALTED, 0), (FMOVER.FM_STAT_RESTARTING, 0), (⟨FCOL.COND 7, 16, 1⟩, 0)] :=
  ((sets_refl.field FMOVER.FM_STAT_HALTED 0).field FMOVER.FM_STAT_RESTARTING 0).field ⟨FCOL.COND 7, 16, 1⟩ 0

theorem moverRestarted_shelf : (moverRestarted s).shelf = s.shelf := rfl

theorem moverRestarted_queueStarts (n : Nat) : queueStarts (moverRestarted s) n = queueStarts s n := rfl

theorem goes_fmoverRestart (hhalted : s.getB FMOVER.FM_STAT_HALTED) (hrestarts : s.getB FMOVER.FM_STAT_RESTARTING) :
    Goes .fmoverRestart s (fun t => t.getB FMOVER.FM_STAT_HALTED = false ∧ t.getB FMOVER.FM_STAT_RESTARTING = false ∧ t.getCond 240 = false ∧
      t.shelf = s.shelf ∧ t.fm.flushed = true ∧ ∀ n : Fin 24, (t.prt n).tx = [] ∧ (t.prt n).txNext = 0 ∧ (t.prt n).rxNext = 0) := by
  refine ⟨_, (if_pos ⟨hhalted, hrestarts⟩).trans (congrArg _ fmRelease_eq), ?_⟩
  have hqueues := portsFlushed_queueStarts (s := s)
  have hshelf := portsFlushed_shelf (s := s)
  generalize forAll 24 portFlushed s = u at hqueues hshelf ⊢
  have hsets := sets_moverRestarted (s := u)
  have hstarts (n : Fin 24) := (moverRestarted_queueStarts (s := u) n).trans (hqueues n)
  simp only [queueStarts, Prod.mk.injEq] at hstarts
  exact ⟨getB_of_getF_toNat (b := false) (hsets.reads (FMOVER.FM_STAT_HALTED, 0) (by simp)),
    getB_of_getF_toNat (b := false) (hsets.reads (FMOVER.FM_STAT_RESTARTING, 0) (by simp)), getCond_setCond_self false,
    moverRestarted_shelf.trans hshelf, rfl, hstarts⟩

end Mover

/-! ### Descriptors -/

section Descriptor

theorem readBytes_of_mem (h : t.mem = s.mem) (a n : Nat) : t.readBytes a n = s.readBytes a n := by
  induction n generalizing a with
  | zero => rfl
  | succ n ih => rw [readBytes, readBytes, ih, readByte, readByte, h]

theorem word_of_mem (h : t.mem = s.mem) (a : Nat) : t.word a = s.word a := by
  simp only [word, readLe, readBytes_of_mem h]

theorem desc_of_mem (h : t.mem = s.mem) (a : Nat) : t.desc a = s.desc a := by
  simp only [desc, word_of_mem h]

/-- What a descriptor's end writes to memory depends on memory alone. -/
theorem descWrite_mem (h : t.mem = s.mem) (a result xfer : Nat) : (t.descWrite a result xfer).mem = (s.descWrite a result xfer).mem := by
  simp only [descWrite, word_of_mem h, writeLe, writeBytes, h]

variable {c : Nat} {d : Desc}

theorem descEnd_getReg {a result xfer b : Nat} (h : b ≠ SDMA.CH_NEXT c) : (s.descEnd c a result xfer).getReg b = s.getReg b := getReg_setReg_ne _ h

theorem memOnly_moveElems (n i : Nat) : MemOnly s (moveElems d n i s).1 := by
  induction n generalizing i s with
  | zero => exact .refl
  | succ n ih =>
    unfold moveElems
    extract_lets ofs src dst bad
    split
    · exact MemOnly.trans ⟨rfl⟩ (ih _)
    · exact .refl

theorem memOnly_movePart (n : Nat) : MemOnly s (s.movePart d n) := by
  unfold movePart
  split
  exacts [⟨rfl⟩, memOnly_moveElems _ _]

end Descriptor

/-! ### Commands of a channel -/

section Command

variable {c : Fin 16} {a : Nat}

theorem sets_sdmaCmd {code : Nat} (h : code < 8) : Sets s (s.sdmaCmd c code) [pageChg s pSDMA, (SDMA.CH_CMD_CMD c, code)] :=
  sets_countChg (sets_setF sets_refl (by decide : 0 + 3 ≤ 32) (by simp) h) (by simp [pgChg, SDMA.CH_CMD]; omega)

/-- A channel's state stands outside what a command's word writes. -/
theorem sdmaCmd_dmState {code : Nat} (h : code < 8) : (s.sdmaCmd c code).dmState c = s.dmState c :=
  (sets_sdmaCmd h).keeps _ (by decide : 0 + 3 ≤ 32) (by simp [Apart, pageChg, pgChg, SDMA.CH_STAT]; omega)

/-- The descriptor at `a` in hand, with nothing moved (R193). -/
abbrev inHand (s : State) (c a : Nat) : State := s.updSdma c (fun x => { x with desc := some a, moved := 0, due := 0 })

theorem sdmaTake_of_ok (hin : engOk a 32) (halign : a % 32 = 0) (hown : (s.desc a).own) (hok : descOk (s.desc a)) :
    s.sdmaTake c a = (inHand s c a).setF (SDMA.CH_STAT_STATE c) dmACTIVE := by
  rw [sdmaTake, if_neg (by simp [hin, halign]), if_neg (by simp [hown]), if_pos hok]

/-- A command that takes a descriptor: the channel is ACTIVE (R193). -/
theorem sets_sdmaTake {code : Nat} (h : code < 8) (hin : engOk a 32) (halign : a % 32 = 0) (hown : (s.desc a).own) (hok : descOk (s.desc a)) :
    Sets (inHand s c a) ((s.sdmaCmd c code).sdmaTake c a) [(SDMA.CH_STAT_STATE c, dmACTIVE), pageChg s pSDMA, (SDMA.CH_CMD_CMD c, code)] := by
  have hdesc : (s.sdmaCmd c code).desc a = s.desc a := desc_of_mem rfl a
  rw [sdmaTake_of_ok hin halign (hdesc ▸ hown) (hdesc ▸ hok)]
  have hcmd : Sets (inHand s c a) (inHand (s.sdmaCmd c code) c a) [pageChg s pSDMA, (SDMA.CH_CMD_CMD c, code)] :=
    (sets_sdmaCmd h).updSdma c _
  exact sets_setF hcmd (by decide : 0 + 3 ≤ 32) (by simp [Apart, pageChg, pgChg, SDMA.CH_STAT]; omega) (by decide : dmACTIVE < 2 ^ 3)

theorem goesSet_sdmaStart (hrun : s.pgRunning pSDMA) (hst : s.dmState c = dmIDLE ∨ s.dmState c = dmSTOPPED) (hin : engOk (s.getN (SDMA.CH_NEXT c)) 32)
    (halign : s.getN (SDMA.CH_NEXT c) % 32 = 0) (hown : (s.desc (s.getN (SDMA.CH_NEXT c))).own) (hok : descOk (s.desc (s.getN (SDMA.CH_NEXT c)))) :
    GoesSet (.sdmaStart c) s (inHand s c (s.getN (SDMA.CH_NEXT c))) [(SDMA.CH_STAT_STATE c, dmACTIVE), pageChg s pSDMA, (SDMA.CH_CMD_CMD c, 1)] := by
  have hnext : (s.sdmaCmd c 1).getReg (SDMA.CH_NEXT c) = s.getReg (SDMA.CH_NEXT c) := by
    rw [sdmaCmd, countChg, incWrap, getReg_setF_ne _ (by simp only [pgChg, SDMA.CH_NEXT]; omega), getReg_setF_ne _ (by simp)]
  have hexec : exec (.sdmaStart c) s = .next ((s.sdmaCmd c 1).sdmaFetch c) :=
    (if_neg (by simp [hrun])).trans (if_pos (by rwa [sdmaCmd_dmState (by decide)]))
  refine goesSet_of_eq hexec ?_ (sets_sdmaTake (by decide) hin halign hown hok)
  rw [sdmaFetch, getN, hnext, getN]

theorem goesSet_sdmaStop (hrun : s.pgRunning pSDMA) (hst : s.dmState c = dmACTIVE) :
    GoesSet (.sdmaStop c) s s [(SDMA.CH_STAT_STATE c, dmSTOPPING), pageChg s pSDMA, (SDMA.CH_CMD_CMD c, 2)] := by
  have hst' : (s.sdmaCmd c 2).dmState c = dmACTIVE := (sdmaCmd_dmState (by decide)).trans hst
  refine goesSet_of_eq (if_neg (by simp [hrun])) ?_
    (sets_setF (sets_sdmaCmd (code := 2) (by decide)) (by decide : 0 + 3 ≤ 32) (by simp [Apart, pageChg, pgChg, SDMA.CH_STAT]; omega)
      (by decide : dmSTOPPING < 2 ^ 3))
  rw [State.sdmaStop, hst', if_neg (by decide), if_pos rfl]

end Command

/-! ### Completion and a bus error -/

section Complete

variable {c : Fin 16} {a : Nat}

/-- The data of a descriptor moved: its bytes in linear mode, else its elements up to one that fails (R191, R195). -/
def dataMoved (s : State) (d : Desc) : State × Option (Nat × Nat) :=
  if d.mode = 0 then (s.writeBytes d.dst (s.readBytes d.src d.len), none) else moveElems d d.count 0 s

/-- A complete descriptor ended with what it moved (R194). -/
def descDone (s : State) (c a : Nat) : State :=
  (dataMoved s (s.desc a)).1.descEnd c a 0 (if (s.desc a).mode = 0 then (s.desc a).len else (s.desc a).count)

theorem exec_sdmaDescriptorComplete (hd : (s.sdmaCh c).desc = some a) (hst : s.dmState c = dmACTIVE) (hmoved : (dataMoved s (s.desc a)).2 = none) :
    exec (.sdmaDescriptorComplete c) s =
      .next (((descDone s c a).setN (SDMA.CH_DONE c) ((descDone s c a).getN (SDMA.CH_DONE c) + 1)).sdmaGoOn c (s.desc a).last false) := by
  have hexec : exec (.sdmaDescriptorComplete c) s = execSdmaDescriptorComplete c s := rfl
  unfold dataMoved at hmoved
  rw [hexec, execSdmaDescriptorComplete, hd]
  simp only [hst, hmoved]
  rfl

theorem exec_sdmaDescriptorComplete_linear (hd : (s.sdmaCh c).desc = some a) (hst : s.dmState c = dmACTIVE) (hmode : (s.desc a).mode = 0) :
    exec (.sdmaDescriptorComplete c) s = .next ((((s.writeBytes (s.desc a).dst (s.readBytes (s.desc a).src (s.desc a).len)).descEnd c a 0
      (s.desc a).len).setN (SDMA.CH_DONE c) (s.getN (SDMA.CH_DONE c) + 1)).sdmaGoOn c (s.desc a).last false) := by
  have hmoved : dataMoved s (s.desc a) = (s.writeBytes (s.desc a).dst (s.readBytes (s.desc a).src (s.desc a).len), none) := if_pos hmode
  have hcount (u : State) : (u.descEnd c a 0 (s.desc a).len).getN (SDMA.CH_DONE c) = u.getN (SDMA.CH_DONE c) :=
    congrArg BitVec.toNat (descEnd_getReg (by simp))
  rw [exec_sdmaDescriptorComplete hd hst (by rw [hmoved]), descDone, hmoved, if_pos hmode, hcount]
  rfl

theorem exec_sdmaDescriptorComplete_elems (hd : (s.sdmaCh c).desc = some a) (hst : s.dmState c = dmACTIVE) (hmode : (s.desc a).mode ≠ 0)
    (hall : (moveElems (s.desc a) (s.desc a).count 0 s).2 = none) : exec (.sdmaDescriptorComplete c) s =
      .next ((((moveElems (s.desc a) (s.desc a).count 0 s).1.descEnd c a 0 (s.desc a).count).setN (SDMA.CH_DONE c)
        (((moveElems (s.desc a) (s.desc a).count 0 s).1.descEnd c a 0 (s.desc a).count).getN (SDMA.CH_DONE c) + 1)).sdmaGoOn c (s.desc a).last false) := by
  have hmoved : dataMoved s (s.desc a) = moveElems (s.desc a) (s.desc a).count 0 s := if_neg hmode
  rw [exec_sdmaDescriptorComplete hd hst (by rw [hmoved, hall]), descDone, hmoved, if_neg hmode]

theorem exec_sdmaBusError {x : Word} {wr : Bool} (hd : (s.sdmaCh c).desc = some a) (hst : s.dmState c = dmACTIVE ∨ s.dmState c = dmSTOPPING) :
    exec (.sdmaBusError c x wr) s = .next ((s.movePart (s.desc a) (s.movedBefore (s.desc a) a x.toNat wr)).sdmaHalt c 1 x.toNat a wr
      (s.movedBefore (s.desc a) a x.toNat wr)) := by
  have hexec : exec (.sdmaBusError c x wr) s = execSdmaBusError c x wr s := rfl
  rw [hexec, execSdmaBusError, hd]
  exact if_pos hst

/-- The descriptor stays in hand with what was moved, and firmware's next command is due (R199, R201). -/
abbrev haltHeld (s : State) (c a moved : Nat) (next : Nat × Nat) : State :=
  s.updSdma c (fun y => { y with desc := some a, moved := moved, tries := next.2, due := next.1 })

/-- A bus error as the channel's registers show it (R199). -/
def haltShown (s : State) (c : Nat) (x : Word) (a : Nat) (wr : Bool) : State :=
  ((((s.setF (SDMA.CH_STAT_STATE c) dmHALTED).setF (SDMA.CH_STAT_ERR_CAUSE c) 1).setB (SDMA.CH_STAT_DIR c) wr).setN (SDMA.CH_ERR_ADDR c) x.toNat).setN
    (SDMA.CH_ERR_DESC c) a

theorem sdmaHalt_busError (x : Word) (wr : Bool) (n : Nat) : s.sdmaHalt c 1 x.toNat a wr n =
    ((haltShown (haltHeld s c a n (s.berrNext c)) c x a wr).sdmaCond).raise 241 [c.val] := by
  rw [sdmaHalt, if_neg (by simp)]
  rfl

theorem setN_eq_setF (a v : Nat) : s.setN a v = s.setF ⟨a, 0, 32⟩ v := by
  refine congrArg (s.setReg a) (BitVec.eq_of_getLsbD_eq fun i hi => ?_)
  rw [getLsbD_withBits _ _ _ _ _ hi, if_pos ⟨Nat.zero_le i, by omega⟩, Nat.sub_zero, BitVec.getLsbD_ofNat, decide_eq_true hi, Bool.true_and]

theorem sets_haltShown {x : Word} {wr : Bool} (ha : a < 2 ^ 32) : Sets s (haltShown s c x a wr) [(⟨SDMA.CH_ERR_DESC c, 0, 32⟩, a),
    whole (SDMA.CH_ERR_ADDR c) x, (SDMA.CH_STAT_DIR c, wr.toNat), (SDMA.CH_STAT_ERR_CAUSE c, 1), (SDMA.CH_STAT_STATE c, dmHALTED)] := by
  have hstate := sets_setF (sets_refl (s := s)) (f := SDMA.CH_STAT_STATE c) (v := dmHALTED) (by decide : 0 + 3 ≤ 32) (by simp) (by decide : 4 < 2 ^ 3)
  have hcause := sets_setF hstate (f := SDMA.CH_STAT_ERR_CAUSE c) (v := 1) (by decide : 16 + 4 ≤ 32) (by simp [Apart]) (by decide : 1 < 2 ^ 4)
  have hdir := sets_setF hcause (f := SDMA.CH_STAT_DIR c) (v := wr.toNat) (by decide : 8 + 1 ≤ 32) (by simp [Apart]) wr.toNat_lt
  have haddr := sets_setF hdir (f := ⟨SDMA.CH_ERR_ADDR c, 0, 32⟩) (v := x.toNat) (by decide : 0 + 32 ≤ 32) (by simp [Apart]) x.isLt
  rw [haltShown, setN_eq_setF, setN_eq_setF]
  exact sets_setF haddr (by decide : 0 + 32 ≤ 32) (by simp [Apart]) ha

/-- A HALTED channel holds the condition of 241 up (R428). -/
theorem sdmaCond_of_halted (h : s.dmState c = dmHALTED) : s.sdmaCond = s.setF ⟨FCOL.COND 7, 17, 1⟩ 1 := by
  have hany : (List.range 16).any (fun c => s.dmState c == dmHALTED) = true :=
    List.any_eq_true.2 ⟨c.val, List.mem_range.2 c.isLt, by simp [h]⟩
  rw [sdmaCond, hany]
  rfl

theorem MemOnly.berrNext (h : MemOnly s t) (c : Nat) : t.berrNext c = s.berrNext c := by rw [h.rest]; rfl

/-- A halt on a bus error: the registers, then the condition of 241. -/
theorem sets_busErrorHalt {x : Word} {wr : Bool} (ha : a < 2 ^ 32) : Sets s (haltShown s c x a wr).sdmaCond [condOf 241,
    (⟨SDMA.CH_ERR_DESC c, 0, 32⟩, a), whole (SDMA.CH_ERR_ADDR c) x, (SDMA.CH_STAT_DIR c, wr.toNat), (SDMA.CH_STAT_ERR_CAUSE c, 1),
    (SDMA.CH_STAT_STATE c, dmHALTED)] := by
  have hshown := sets_haltShown (s := s) (c := c) (x := x) (wr := wr) ha
  rw [sdmaCond_of_halted (hshown.reads (SDMA.CH_STAT_STATE c, dmHALTED) (by simp))]
  exact sets_setF hshown (by decide) (by simp [Apart, whole, FCOL.COND, SDMA.CH_ERR_DESC, SDMA.CH_ERR_ADDR, SDMA.CH_STAT]; omega) (by decide)

theorem goesRaise_sdmaBusError {x : Word} {wr : Bool} (hd : (s.sdmaCh c).desc = some a) (hst : s.dmState c = dmACTIVE ∨ s.dmState c = dmSTOPPING)
    (ha : a < 2 ^ 32) : GoesRaise (.sdmaBusError c x wr) s
      (haltHeld (s.movePart (s.desc a) (s.movedBefore (s.desc a) a x.toNat wr)) c a (s.movedBefore (s.desc a) a x.toNat wr) (s.berrNext c))
      [condOf 241, (⟨SDMA.CH_ERR_DESC c, 0, 32⟩, a), whole (SDMA.CH_ERR_ADDR c) x, (SDMA.CH_STAT_DIR c, wr.toNat), (SDMA.CH_STAT_ERR_CAUSE c, 1),
        (SDMA.CH_STAT_STATE c, dmHALTED)] 241 [c.val] := by
  have hexec := exec_sdmaBusError (x := x) (wr := wr) hd hst
  rw [sdmaHalt_busError, (memOnly_movePart _).berrNext] at hexec
  exact goesRaise_of_eq hexec (sets_busErrorHalt ha)

end Complete

/-! ### RESUME, SKIP and ABORT -/

section Halted

variable {c : Fin 16} {a : Nat}

/-- A channel with a descriptor is one of the sixteen, so that it takes an update. -/
theorem sdmaCh_updSdma {f : SdmaSt → SdmaSt} (hd : (s.sdmaCh c).desc = some a) : (s.updSdma c f).sdmaCh c = f (s.sdmaCh c) := by
  simp only [sdmaCh, updSdma_sdma, List.getD_eq_getElem?_getD, List.getElem?_modify] at hd ⊢
  cases hx : s.sdma[c.val]? with
  | none => rw [hx] at hd; cases hd
  | some x => simp

theorem exec_sdmaResume (hrun : s.pgRunning pSDMA) (hst : s.dmState c = dmHALTED) (hd : (s.sdmaCh c).desc = some a) :
    exec (.sdmaResume c) s = .next (((s.sdmaCmd c 3).sdmaTake c a).sdmaCond) := by
  have hd' : ((s.sdmaCmd c 3).sdmaCh c).desc = some a := hd
  refine (if_neg (by simp [hrun, hst])).trans ?_
  rw [State.sdmaResume, hd']

/-- The condition of 241 stands in FCOL. -/
theorem sdmaCond_getF {f : Fld} (h : f.addr / 0x1000 = 8) : s.sdmaCond.getF f = s.getF f :=
  getF_setF_addr (fun e => by simp [e, FCOL.COND] at h) _

theorem goes_sdmaResume (hrun : s.pgRunning pSDMA) (hst : s.dmState c = dmHALTED) (hd : (s.sdmaCh c).desc = some a) (hin : engOk a 32)
    (halign : a % 32 = 0) (hown : (s.desc a).own) (hok : descOk (s.desc a)) : Goes (.sdmaResume c) s (fun t => t.dmState c = dmACTIVE ∧
      (t.sdmaCh c).desc = some a ∧ t.getF (SDMA.CH_CMD_CMD c) = 3 ∧ t.mem = s.mem) := by
  refine ⟨_, exec_sdmaResume hrun hst hd, ?_⟩
  have htaken := sets_sdmaTake (c := c) (code := 3) (by decide) hin halign hown hok
  generalize (s.sdmaCmd c 3).sdmaTake c a = u at htaken ⊢
  have hstate : u.dmState c = dmACTIVE := htaken.reads (SDMA.CH_STAT_STATE c, dmACTIVE) (by simp)
  have hcmd : u.getF (SDMA.CH_CMD_CMD c) = 3 := htaken.reads (SDMA.CH_CMD_CMD c, 3) (by simp)
  have hdesc : (u.sdmaCh c).desc = some a := by rw [htaken.sdmaCh, sdmaCh_updSdma hd]
  exact ⟨(sdmaCond_getF (by simp only [SDMA.CH_STAT]; omega)).trans hstate, hdesc, (sdmaCond_getF (by simp only [SDMA.CH_CMD]; omega)).trans hcmd,
    htaken.mem⟩

/-- A HALTED channel lets its descriptor go with what it moved, and is STOPPED before it goes on (R200). -/
def letGo (s : State) (c a result : Nat) : State :=
  ((s.descEnd c a result (s.sdmaCh c).moved).setF (SDMA.CH_STAT_STATE c) dmSTOPPED).sdmaCond

theorem sdmaDrop_skip (hd : (s.sdmaCh c).desc = some a) (hin : engOk a 32) :
    s.sdmaDrop c false = (letGo (s.skipNote c (s.desc a)) c a 1).sdmaGoOn c (s.desc a).last false := by
  rw [sdmaDrop, hd]
  exact if_neg (by simp [hin])

theorem sdmaDrop_abort (hd : (s.sdmaCh c).desc = some a) (hin : engOk a 32) :
    s.sdmaDrop c true = (letGo s c a 2).setF (SDMA.CH_STAT_STATE c) dmSTOPPED := by
  rw [sdmaDrop, hd]
  exact if_neg (by simp [hin])

theorem skipNote_sdmaCh {d : Desc} (n : Nat) : (s.skipNote c d).sdmaCh n = s.sdmaCh n := by
  unfold skipNote
  split
  · split <;> rfl
  · rfl

theorem exec_sdmaSkip (hrun : s.pgRunning pSDMA) (hst : s.dmState c = dmHALTED) (hd : (s.sdmaCh c).desc = some a) (hin : engOk a 32) :
    exec (.sdmaSkip c) s = .next ((((((s.sdmaCmd c 4).skipNote c (s.desc a)).descEnd c a 1 (s.sdmaCh c).moved).setF (SDMA.CH_STAT_STATE c)
      dmSTOPPED).sdmaCond).sdmaGoOn c (s.desc a).last false) := by
  have hdesc : (s.sdmaCmd c 4).desc a = s.desc a := desc_of_mem rfl a
  have hch : (s.sdmaCmd c 4).sdmaCh c = s.sdmaCh c := rfl
  refine (if_neg (by simp [hrun, hst])).trans ?_
  rw [sdmaDrop_skip (hch ▸ hd) hin, letGo, skipNote_sdmaCh, hdesc, hch]

theorem goes_sdmaAbort (hrun : s.pgRunning pSDMA) (hst : s.dmState c = dmHALTED) (hd : (s.sdmaCh c).desc = some a) (hin : engOk a 32) :
    Goes (.sdmaAbort c) s (fun t => t.dmState c = dmSTOPPED ∧ t.getF (SDMA.CH_CMD_CMD c) = 5 ∧
      t.mem = (s.descWrite a 2 (s.sdmaCh c).moved).mem ∧ t.shelf = s.shelf) := by
  have hexec : exec (.sdmaAbort c) s = .next ((letGo (s.sdmaCmd c 5) c a 2).setF (SDMA.CH_STAT_STATE c) dmSTOPPED) :=
    (if_neg (by simp [hrun, hst])).trans (congrArg _ (sdmaDrop_abort (s := s.sdmaCmd c 5) hd hin))
  have hcmd : ((letGo (s.sdmaCmd c 5) c a 2).setF (SDMA.CH_STAT_STATE c) dmSTOPPED).getF (SDMA.CH_CMD_CMD c) =
      (s.sdmaCmd c 5).getF (SDMA.CH_CMD_CMD c) := by
    rw [getF_setF_addr (by simp), letGo, sdmaCond_getF (by simp only [SDMA.CH_CMD]; omega), getF_setF_addr (by simp), getF,
      descEnd_getReg (by simp), getF]
  exact ⟨_, hexec, getF_setF_self (by decide : 0 + 3 ≤ 32) _, hcmd.trans ((sets_sdmaCmd (by decide)).reads (SDMA.CH_CMD_CMD c, 5) (by simp)),
    descWrite_mem rfl a 2 _, rfl⟩

end Halted

/-- Settles O13, clause by clause: the frame mover's two kinds of error and its restart; then a channel's START and STOP over what the command's word
writes, a completion in either mode, a bus error, and RESUME, SKIP and ABORT of a HALTED channel. -/
theorem moverAndSdma : Obligations.MoverAndSdma := by
  unfold Obligations.MoverAndSdma
  exact ⟨fun _ _ _ _ hrun hb => goesRaise_fmoverBusError_first hrun hb,
    fun _ _ _ _ _ hrun hb hlast => goesRaise_of_eq (exec_fmoverBusError_again hrun hb hlast) (sets_moverHalted false),
    fun _ hhalted hrestarts => goes_fmoverRestart hhalted hrestarts,
    fun _ _ hrun hst hin halign hown hok => goesSet_sdmaStart hrun hst hin halign hown hok,
    fun _ _ hrun hst => goesSet_sdmaStop hrun hst,
    fun _ _ _ hd hst hmode => exec_sdmaDescriptorComplete_linear hd hst hmode,
    fun _ _ _ hd hst hmode hmoved => exec_sdmaDescriptorComplete_elems hd hst hmode hmoved,
    fun _ _ _ _ _ hd hst ha => goesRaise_sdmaBusError hd hst ha,
    fun _ _ _ hrun hst hd hin halign hown hok => goes_sdmaResume hrun hst hd hin halign hown hok,
    fun _ _ _ hrun hst hd hin => exec_sdmaSkip hrun hst hd hin,
    fun _ _ _ hrun hst hd hin => goes_sdmaAbort hrun hst hd hin⟩

end Sys2Proof.Proofs
end

section
/-! SUPPORT. The Vermet control engine (chapter 7): the evaluations and budgets of its slots, and what an accepted word of SLOT_CTRL, HANDOVER or VCE_CTRL starts. -/

namespace Sys2Proof.Proofs

open Machine Machine.State Laws

-- One proof after the other: side by side they take more threads than the check's memory has stacks for.
set_option Elab.async false

variable {s : State}

/-! ### Evaluations and budgets -/

section Evaluation

variable {i : Fin 64} {u : Bool}

theorem exec_vceSlotEvaluation_balance (ho : s.operating) (hv : s.pgRunning pVCE) (hf : s.gapFirst i) (hlo : 40 ≤ i.val) (hhi : i.val < 56) :
    exec (.vceSlotEvaluation i u) s = .next ((s.gapTaken i).evalSlot i { (s.gapTaken i).evalIn i with hold := s.phaseHold (i - 40) }) :=
  (if_pos ⟨ho, hv, hf⟩).trans (if_pos ⟨hlo, hhi⟩)

theorem exec_vceSlotEvaluation_other (ho : s.operating) (hv : s.pgRunning pVCE) (hf : s.gapFirst i) (hi : i.val < 40 ∨ 56 ≤ i.val) :
    exec (.vceSlotEvaluation i u) s = .next ((s.gapTaken i).evalSlot i ((s.gapTaken i).shelfIn i u)) :=
  (if_pos ⟨ho, hv, hf⟩).trans (if_neg (by omega))

/-- A fenced slot's evaluation does not read its inputs (R217). -/
theorem evalSlot_of_fenced {n : Nat} (h : s.slotFenced n) (x : EvalIn) : s.evalSlot n x = s.setReg (VSLOT.OUT n) (s.fencedOut n) := if_pos h

theorem exec_vceSlotEvaluation_fenced (ho : s.operating) (hv : s.pgRunning pVCE) (hf : s.gapFirst i) (hfence : s.slotFenced i) :
    exec (.vceSlotEvaluation i u) s = .next ((s.gapTaken i).setReg (VSLOT.OUT i) (s.fencedOut i)) := by
  by_cases hi : 40 ≤ i.val ∧ i.val < 56
  · exact (exec_vceSlotEvaluation_balance ho hv hf hi.1 hi.2).trans (congrArg _ (evalSlot_of_fenced (s := s.gapTaken i) hfence _))
  · exact (exec_vceSlotEvaluation_other ho hv hf (by omega)).trans (congrArg _ (evalSlot_of_fenced (s := s.gapTaken i) hfence _))

end Evaluation

/-- Settles O1: the evaluation by the slot's place, a fenced slot through what its evaluation answers on any inputs, and the two budgets. -/
theorem vceEvaluationsAndBudgets : Obligations.VceEvaluationsAndBudgets := by
  unfold Obligations.VceEvaluationsAndBudgets
  refine ⟨fun i u s ho hv hf hlo hhi => exec_vceSlotEvaluation_balance ho hv hf hlo hhi,
    fun i u s ho hv hf hi => exec_vceSlotEvaluation_other ho hv hf hi,
    fun i u s ho hv hf hfence => ⟨_, exec_vceSlotEvaluation_fenced ho hv hf hfence, sets_setReg sets_refl (by simp)⟩,
    fun i s ho hon hrel => goesRaise_of_eq (if_pos ⟨ho, hon, hrel⟩) sets_refl,
    fun i s ho hon hrel => goesRaise_of_eq (if_pos ⟨ho, hon, hrel⟩) (sets_refl.counted (VSLOT.SLOT_CNT_OVERRUN i))⟩

/-! ### SLOT_CTRL (Table 7-4) -/

section SlotCtrl

variable {r : Requester} {i a v n m j : Nat} {k : PageKind} {d : RegDef}

/-- The register that an accepted write is to, at its own address in a page's block, holds the word that the access codes leave (R40, R41). -/
theorem stored_getReg_self (hk : pageKind (a / 0x1000) = some (k, n)) (hd : findReg (a / 0x1000) (a % 0x1000) = some (d, m, j))
    (hhome : s.homeOf (a / 0x1000) (a % 0x1000) = a) (hblock : 0x20 ≤ a % 0x1000) : (Stored s r a v).getReg a =
      (s.ownerTouch (a / 0x1000) r).writtenWord r k d m j a (s.getReg a) (BitVec.ofNat 32 v) := by
  simp only [Stored, hk, hd, hhome, countChg, incWrap]
  rw [getReg_setF_ne _ (by simp only [pgChg]; omega), noteLate_getReg, getReg_setReg_self]

/-- Two fields of a word, the lower one at bit 0, taken from another word. -/
theorem bitsOf_takenPair {lo w w' : Nat} (hlo : w' ≤ lo) (hw : lo + w ≤ 32) (old x : Word) :
    let y := withBits (withBits old lo w (bitsOf x lo w)) 0 w' (bitsOf x 0 w')
    bitsOf y lo w = bitsOf x lo w ∧ bitsOf y 0 w' = bitsOf x 0 w' := by
  have hlt (lo w : Nat) : bitsOf x lo w < 2 ^ w := (x.extractLsb' lo w).isLt
  refine ⟨?_, ?_⟩
  · rw [bitsOf_withBits_ne hw (.inr (by omega)), bitsOf_withBits_self hw, Nat.mod_eq_of_lt (hlt lo w)]
  · rw [bitsOf_withBits_self (by omega), Nat.mod_eq_of_lt (hlt 0 w')]

theorem homeOf_slotCtrl (i : Fin 64) : s.homeOf (VSLOT.SLOT_CTRL i / 0x1000) (VSLOT.SLOT_CTRL i % 0x1000) = VSLOT.SLOT_CTRL i :=
  homeOf_plain (by simp only [VSLOT.SLOT_CTRL, pESTPROF]; omega) (.inl (by simp only [VSLOT.SLOT_CTRL, pPMBUS]; omega))

theorem pageKind_slotCtrl : ∀ i : Fin 64, pageKind (VSLOT.SLOT_CTRL i / 0x1000) = some (PageKind.vslot, i.val / 8) := by decide

/-- SLOT_CTRL's command bits, TRK_SLOT and MODE. -/
abbrev slotCtrlReg : RegDef := ⟨0x24, 0, 1, [.mkWO 31 1, .mkWO 30 1, .mkWO 29 1, .mkWO 28 1, .mkRW 16 6, .mkRW 0 2]⟩

theorem findReg_slotCtrl (i : Fin 64) : findReg (VSLOT.SLOT_CTRL i / 0x1000) (VSLOT.SLOT_CTRL i % 0x1000) = some (slotCtrlReg, i.val, 0) := by
  have hslot : 8 * (i.val / 8) + VSLOT.SLOT_CTRL i % 0x1000 / 0x200 = i := by simp only [VSLOT.SLOT_CTRL]; omega
  have hofs : VSLOT.SLOT_CTRL i % 0x1000 % 0x200 = 0x24 := by simp only [VSLOT.SLOT_CTRL]; omega
  have hboth : findIn (regsVSLOT ++ regsVSLOTB) 0x24 = some (slotCtrlReg, 0) := rfl
  have hplain : findIn regsVSLOT 0x24 = some (slotCtrlReg, 0) := rfl
  simp only [findReg, pageKind_slotCtrl, hslot, hofs, hboth, hplain, ite_self]

theorem stored_slotCtrl (i : Fin 64) : (Stored s r (VSLOT.SLOT_CTRL i) v).getReg (VSLOT.SLOT_CTRL i) = withBits
    (withBits (s.getReg (VSLOT.SLOT_CTRL i)) 16 6 (bitsOf (BitVec.ofNat 32 v) 16 6)) 0 2 (bitsOf (BitVec.ofNat 32 v) 0 2) := by
  rw [stored_getReg_self (pageKind_slotCtrl i) (findReg_slotCtrl i) (homeOf_slotCtrl i) (by simp only [VSLOT.SLOT_CTRL]; omega)]
  simp [writtenWord, mergeWord, clampField]

/-- The four command bits of a word whose settings lie below them. -/
theorem getLsbD_command {x c b : Nat} (hx : x < 2 ^ 28) (hb : b < 4) : (BitVec.ofNat 32 (x + c * 2 ^ 28)).getLsbD (28 + b) = c.testBit b := by
  have hc : (x + c * 2 ^ 28) / 2 ^ 28 = c := by omega
  rw [BitVec.getLsbD_ofNat, Nat.add_comm 28 b, Nat.testBit_add, hc, decide_eq_true (by omega : b + 28 < 32), Bool.true_and]

/-- An accepted word of SLOT_CTRL is stored, then its commands act: BANK_COPY, SWAP_REQ with its preset choice, STATE_CLR (R218, R232, R233, R235). -/
theorem hostWrite_slotCtrl {x c : Nat} (hi : i < 64) (hx : x < 2 ^ 28) (h : Accepts s r (VSLOT.SLOT_CTRL i) (x + c * 2 ^ 28)) :
    s.hostWrite r (VSLOT.SLOT_CTRL i) (BitVec.ofNat 32 (x + c * 2 ^ 28)) =
      let u := Stored s r (VSLOT.SLOT_CTRL i) (x + c * 2 ^ 28)
      let copied := if c.testBit 1 ∧ i < 8 then u.bankCopy i else u
      let asked := if c.testBit 3 then copied.swapReq i (c.testBit 2) else copied
      if c.testBit 0 then asked.stateClr i else asked := by
  refine (hostWrite_accepted h (regAt_slotCtrl ⟨i, hi⟩)).trans ((if_pos rfl).trans ?_)
  simp only [slotCtrl, ← getLsbD_command (c := c) hx (by decide : 0 < 4), ← getLsbD_command (c := c) hx (by decide : 1 < 4),
    ← getLsbD_command (c := c) hx (by decide : 2 < 4), ← getLsbD_command (c := c) hx (by decide : 3 < 4)]

theorem stored_swapPend (hi : i < 64) :
    (Stored s r (VSLOT.SLOT_CTRL i) v).getB (VSLOT.SLOT_STAT_SWAP_PEND i) = s.getB (VSLOT.SLOT_STAT_SWAP_PEND i) := by
  rw [getB, stored_getF (homeOf_slotCtrl ⟨i, hi⟩) (by simp only [VSLOT.SLOT_STAT, VSLOT.SLOT_CTRL]; omega)
    (by simp only [VSLOT.SLOT_STAT, VSLOT.SLOT_CTRL, pgChg]; omega), getB]

/-- SWAP_REQ and its preset choice in the word's upper four bits. -/
theorem testBit_swapReq (p : Bool) : (8 + 4 * p.toNat).testBit 0 = false ∧ (8 + 4 * p.toNat).testBit 1 = false ∧
    (8 + 4 * p.toNat).testBit 2 = p ∧ (8 + 4 * p.toNat).testBit 3 = true := by
  cases p <;> decide

/-- A request with no swap pending (R233). -/
theorem swapReq_of_free {n : Nat} (hn : n < 8) (hpend : s.getB (VSLOT.SLOT_STAT_SWAP_PEND n) = false) (p : Bool) : s.swapReq n p =
    (s.updVs n (fun x => { x with swapPreset := p, swapDue := false })).setF (VSLOT.SLOT_STAT_SWAP_PEND n) 1 := if_pos ⟨hn, hpend⟩

theorem exec_swapReq {i : Fin 8} {p : Bool} (h : Accepts s r (VSLOT.SLOT_CTRL i) (s.getN (VSLOT.SLOT_CTRL i) + 2 ^ 31 + p.toNat * 2 ^ 30))
    (hx : s.getN (VSLOT.SLOT_CTRL i) < 2 ^ 28) (hpend : s.getB (VSLOT.SLOT_STAT_SWAP_PEND i) = false) : exec (.swapReq r i p) s =
      .next (((Stored s r (VSLOT.SLOT_CTRL i) (s.getN (VSLOT.SLOT_CTRL i) + 2 ^ 31 + p.toNat * 2 ^ 30)).updVs i
        (fun x => { x with swapPreset := p, swapDue := false })).setF (VSLOT.SLOT_STAT_SWAP_PEND i) 1) := by
  have hexec : exec (.swapReq r i p) s = .next (s.hostWrite r (VSLOT.SLOT_CTRL i)
    (BitVec.ofNat 32 (s.getN (VSLOT.SLOT_CTRL i) + 2 ^ 31 + p.toNat * 2 ^ 30))) := rfl
  have hword : s.getN (VSLOT.SLOT_CTRL i) + 2 ^ 31 + p.toNat * 2 ^ 30 = s.getN (VSLOT.SLOT_CTRL i) + (8 + 4 * p.toNat) * 2 ^ 28 := by omega
  obtain ⟨h0, h1, h2, h3⟩ := testBit_swapReq p
  rw [hword] at h
  rw [hexec, hword, hostWrite_slotCtrl (by omega) hx h]
  simp only [h0, h1, h2, h3, Bool.false_eq_true, false_and, ↓reduceIte]
  rw [swapReq_of_free i.isLt ((stored_swapPend (by omega)).trans hpend)]

theorem exec_bankCopy {i : Fin 8} (h : Accepts s r (VSLOT.SLOT_CTRL i) (s.getN (VSLOT.SLOT_CTRL i) + 2 ^ 29))
    (hx : s.getN (VSLOT.SLOT_CTRL i) < 2 ^ 28) : exec (.bankCopy r i) s =
      .next ((Stored s r (VSLOT.SLOT_CTRL i) (s.getN (VSLOT.SLOT_CTRL i) + 2 ^ 29)).bankCopy i) := by
  have hacts := hostWrite_slotCtrl (c := 2) (by omega) hx h
  simp only [show Nat.testBit 2 0 = false from rfl, show Nat.testBit 2 1 = true from rfl, show Nat.testBit 2 3 = false from rfl, i.isLt,
    Bool.false_eq_true, true_and, ↓reduceIte] at hacts
  exact congrArg Host.Outcome.next hacts

theorem exec_stateClr {i : Fin 64} (h : Accepts s r (VSLOT.SLOT_CTRL i) (s.getN (VSLOT.SLOT_CTRL i) + 2 ^ 28))
    (hx : s.getN (VSLOT.SLOT_CTRL i) < 2 ^ 28) : exec (.stateClr r i) s =
      .next ((Stored s r (VSLOT.SLOT_CTRL i) (s.getN (VSLOT.SLOT_CTRL i) + 2 ^ 28)).updVs i (fun x => { x with stateClr := true })) :=
  congrArg Host.Outcome.next (hostWrite_slotCtrl (c := 1) i.isLt hx h)

/-- A mode and the slot that TRACK follows, without a command (R218). -/
abbrev slotModeWord (m : BitVec 2) (k : Fin 64) : Nat := k * 2 ^ 16 + m.toNat

theorem slotModeWord_fields (m : BitVec 2) (k : Fin 64) : let w := BitVec.ofNat 32 (slotModeWord m k)
    slotModeWord m k < 2 ^ 28 ∧ bitsOf w 16 6 = k ∧ bitsOf w 0 2 = m.toNat := by
  have hm := m.isLt
  have hlt : slotModeWord m k < 2 ^ 28 := by simp only [slotModeWord]; omega
  refine ⟨hlt, ?_, ?_⟩
  all_goals
    rw [bitsOf_ofNat (by omega)]
    simp only [slotModeWord]
    omega

theorem exec_slotModeWrite {i : Fin 64} {m : BitVec 2} {k : Fin 64} (h : Accepts s r (VSLOT.SLOT_CTRL i) (slotModeWord m k)) :
    exec (.slotModeWrite r i m k) s = .next (Stored s r (VSLOT.SLOT_CTRL i) (slotModeWord m k)) := by
  have hword : slotModeWord m k + 0 * 2 ^ 28 = slotModeWord m k := by omega
  have hacts := hostWrite_slotCtrl (c := 0) i.isLt (slotModeWord_fields m k).1 (hword.symm ▸ h)
  rw [hword] at hacts
  exact congrArg Host.Outcome.next hacts

theorem stored_slotMode {i : Fin 64} (m : BitVec 2) (k : Fin 64) : let u := Stored s r (VSLOT.SLOT_CTRL i) (slotModeWord m k)
    u.getF (VSLOT.SLOT_CTRL_MODE i) = m.toNat ∧ u.getF (VSLOT.SLOT_CTRL_TRK_SLOT i) = k := by
  obtain ⟨-, htrk, hmode⟩ := slotModeWord_fields m k
  obtain ⟨htrk', hmode'⟩ := bitsOf_takenPair (lo := 16) (w := 6) (w' := 2) (by decide) (by decide) (s.getReg (VSLOT.SLOT_CTRL i))
    (BitVec.ofNat 32 (slotModeWord m k))
  simp only [getF, stored_slotCtrl]
  exact ⟨hmode'.trans hmode, htrk'.trans htrk⟩

end SlotCtrl

/-! ### HANDOVER and VCE_CTRL -/

section Vce

variable {r : Requester} {a b : Fin 64}

/-- GO, the slot that takes over and the slot that it takes over from (R220). -/
abbrev handoverWord (a b : Fin 64) : Nat := 2 ^ 31 + b * 2 ^ 8 + a

theorem handoverWord_fields : let w := BitVec.ofNat 32 (handoverWord a b)
    w.getLsbD 31 = true ∧ bitsOf w 8 6 = b ∧ bitsOf w 0 6 = a := by
  have hlt : handoverWord a b < 2 ^ 32 := by simp only [handoverWord]; omega
  refine ⟨?_, ?_, ?_⟩
  · rw [BitVec.getLsbD_ofNat, Nat.testBit_eq_decide_div_mod_eq]
    simp only [handoverWord, decide_eq_true_eq, Bool.and_eq_true]
    omega
  all_goals
    rw [bitsOf_ofNat hlt]
    simp only [handoverWord]
    omega

theorem stored_handover {v : Nat} : (Stored s r VCE.HANDOVER v).getReg VCE.HANDOVER = withBits
    (withBits (s.getReg VCE.HANDOVER) 8 6 (bitsOf (BitVec.ofNat 32 v) 8 6)) 0 6 (bitsOf (BitVec.ofNat 32 v) 0 6) := by
  rw [stored_getReg_self (d := ⟨0x20, 0, 1, [.mkWO 31 1, .mkRO 26 2, .mkRW 8 6, .mkRW 0 6]⟩) rfl rfl (homeOf_plain (by decide) (.inl (by decide)))
    (by decide)]
  simp [writtenWord, mergeWord, clampField]

theorem stored_handoverFields : let u := Stored s r VCE.HANDOVER (handoverWord a b)
    u.getF VCE.HANDOVER_FROM = a ∧ u.getF VCE.HANDOVER_TO = b := by
  obtain ⟨-, hto, hfrom⟩ := handoverWord_fields (a := a) (b := b)
  obtain ⟨hto', hfrom'⟩ := bitsOf_takenPair (lo := 8) (w := 6) (w' := 6) (by decide) (by decide) (s.getReg VCE.HANDOVER)
    (BitVec.ofNat 32 (handoverWord a b))
  simp only [getF, stored_handover]
  exact ⟨hfrom'.trans hfrom, hto'.trans hto⟩

theorem exec_handoverGo (h : Accepts s r VCE.HANDOVER (handoverWord a b)) :
    exec (.handoverGo r a b) s = .next ((Stored s r VCE.HANDOVER (handoverWord a b)).setF VCE.HANDOVER_RESULT 1) :=
  congrArg Host.Outcome.next ((hostWrite_accepted h regAt_handover).trans (if_pos handoverWord_fields.1))

theorem goes_handoverGo (h : Accepts s r VCE.HANDOVER (handoverWord a b)) : Goes (.handoverGo r a b) s (fun t =>
    Sets (Stored s r VCE.HANDOVER (handoverWord a b)) t [(VCE.HANDOVER_RESULT, 1)] ∧ t.getF VCE.HANDOVER_FROM = a ∧ t.getF VCE.HANDOVER_TO = b) := by
  obtain ⟨hfrom, hto⟩ := stored_handoverFields (s := s) (r := r) (a := a) (b := b)
  have hsets := (sets_refl (s := Stored s r VCE.HANDOVER (handoverWord a b))).field VCE.HANDOVER_RESULT 1
  exact ⟨_, exec_handoverGo h, hsets, (hsets.kept VCE.HANDOVER_FROM).trans hfrom, (hsets.kept VCE.HANDOVER_TO).trans hto⟩

/-- The counters of all slots (R240). -/
def slotCounters : List Nat := (List.range 64).flatMap fun i => [VSLOT.SLOT_CNT i, VSLOT.WRAP_CNT i]

theorem vceClr_eq (s : State) : s.vceClr = (s.setF VCE.REMOTE_END_WORST 0).portClr slotCounters := by
  rw [slotCounters, portClr, List.foldl_flatMap]
  rfl

theorem mem_slotCounters {x : Nat} : x ∈ slotCounters ↔ ∃ i < 64, x = VSLOT.SLOT_CNT i ∨ x = VSLOT.WRAP_CNT i := by
  simp only [slotCounters, List.mem_flatMap, List.mem_range, List.mem_cons, List.not_mem_nil, or_false]

theorem portClr_getReg_ne {l : List Nat} {x : Nat} (h : x ∉ l) : (s.portClr l).getReg x = s.getReg x := by
  induction l using List.reverseRecOn with
  | nil => rfl
  | append_singleton l y ih =>
    obtain ⟨hl, hy⟩ : x ∉ l ∧ x ≠ y := by simpa using h
    rw [portClr_concat, getReg_setReg_ne _ hy, ih hl]

/-- VCE_CTRL.CLR (R240). -/
theorem wordActs_vceClr (old : Word) :
    s.wordActs r .vce 0 0 VCE.VCE_CTRL 1#32 old = (s.setF VCE.REMOTE_END_WORST 0).portClr slotCounters := vceClr_eq s

theorem exec_vceCtrlClr (h : Accepts s r VCE.VCE_CTRL 1) : exec (.vceCtrlClr r) s =
    .next (((Stored s r VCE.VCE_CTRL 1).setF VCE.REMOTE_END_WORST 0).portClr slotCounters) :=
  congrArg Host.Outcome.next ((hostWrite_accepted h regAt_vceCtrl).trans (wordActs_vceClr _))

theorem goes_vceCtrlClr (h : Accepts s r VCE.VCE_CTRL 1) : Goes (.vceCtrlClr r) s (fun t =>
    (∀ i : Fin 64, t.getReg (VSLOT.SLOT_CNT i) = 0 ∧ t.getReg (VSLOT.WRAP_CNT i) = 0) ∧ t.getF VCE.REMOTE_END_WORST = 0 ∧
      t = { Stored s r VCE.VCE_CTRL 1 with regs := t.regs }) := by
  have hworst : VCE.REMOTE_END ∉ slotCounters := fun hm => by
    obtain ⟨i, -, hi⟩ := mem_slotCounters.1 hm
    simp only [VSLOT.SLOT_CNT, VSLOT.WRAP_CNT, VCE.REMOTE_END] at hi
    omega
  refine ⟨_, exec_vceCtrlClr h, fun i => ⟨?_, ?_⟩, ?_, ?_⟩
  · exact portClr_getReg (mem_slotCounters.2 ⟨i, i.isLt, .inl rfl⟩)
  · exact portClr_getReg (mem_slotCounters.2 ⟨i, i.isLt, .inr rfl⟩)
  · exact (congrArg (bitsOf · 0 16) (portClr_getReg_ne hworst)).trans (getF_setF_self (by decide : 0 + 16 ≤ 32) 0)
  · exact portClr_rest

end Vce

/-- Settles O3: the commands of SLOT_CTRL over one lemma about its word, a mode write and a handover request over the fields that their words leave,
and the cleared counters as a list of zeroed registers. -/
theorem vceSlotRequests : Obligations.VceSlotRequests := by
  unfold Obligations.VceSlotRequests
  exact ⟨fun r i p s h hx hpend => ⟨_, exec_swapReq h hx hpend, sets_refl.indexed (VSLOT.SLOT_STAT_SWAP_PEND i) 1⟩,
    fun r i s h hx => exec_bankCopy h hx,
    fun r i s h hx => exec_stateClr h hx,
    fun r i m k s h => ⟨exec_slotModeWrite h, stored_slotMode m k⟩,
    fun r a b s h => goes_handoverGo h,
    fun r s h => goes_vceCtrlClr h⟩

end Sys2Proof.Proofs
end

section
/-! SUPPORT. The states of a local rail (chapter 11, Table 11-1): its start, its regulation, its stop to SOFT_STOP or OFF, and its periods. -/

namespace Sys2Proof.Proofs

open Machine Machine.State Laws

-- One proof after the other: side by side they take more threads than the check's memory has stacks for.
set_option Elab.async false

variable {s : State} {r : Nat}

/-! ### What the moves of a rail leave alone -/

/-- What a fold's steps leave of a state, the fold leaves of it. -/
theorem foldl_keeps {α β : Type} (g : State → α) {f : State → β → State} (hf : ∀ s x, g (f s x) = g s) (l : List β) (s : State) :
    g (l.foldl f s) = g s :=
  List.foldlRecOn (motive := fun t => g t = g s) l f rfl fun t ht x _ => (hf t x).trans ht

/-- Engine memory and the shelf's state: no move of a rail touches them. -/
def memShelf (s : State) : List Host.Cell × ShelfSt := (s.mem, s.shelf)

theorem memShelf_setPhase (p st : Nat) : memShelf (s.setPhase p st) = memShelf s := by
  unfold setPhase
  dsimp only
  split_ifs <;> rfl

theorem memShelf_railCounts (r : Nat) : memShelf (s.railCounts r) = memShelf s := by
  unfold railCounts
  dsimp only
  split_ifs <;> rfl

theorem memShelf_railLevel (r : Nat) (l : Pwm) : memShelf (s.railLevel r l) = memShelf s := by
  unfold railLevel
  exact foldl_keeps memShelf (fun t p => by rfl) _ _

theorem railLevel_getF (r : Nat) (l : Pwm) (f : Fld) : (s.railLevel r l).getF f = s.getF f := by
  unfold railLevel
  exact foldl_keeps (State.getF · f) (fun t p => by rfl) _ _

/-- The record of a resolution stays in the logs (R297, R375). -/
theorem logged_cnRecord (src : Nat) (d : List Nat) : Logged s (s.cnRecord src d) :=
  logged_setEvt (logged_cairnStage (logged_traceAdd logged_refl _ _ _ _ _) _ _ _ _ _) _

theorem memShelf_cnRecord (src : Nat) (d : List Nat) : memShelf (s.cnRecord src d) = memShelf s :=
  Prod.ext (logged_cnRecord src d).mem (logged_cnRecord src d).shelf

theorem memShelf_railCnFault (r : Nat) : memShelf (s.railCnFault r) = memShelf s := by
  unfold railCnFault
  dsimp only
  split
  · rw [memShelf_cnRecord, memShelf_railCounts]
    split <;> rfl
  · rfl

theorem memShelf_railRest (r : Nat) : memShelf (s.railRest r) = memShelf s :=
  foldl_keeps memShelf (fun _ _ => memShelf_setPhase _ _) _ _

theorem memShelf_railToOff (r : Nat) : memShelf (s.railToOff r) = memShelf s :=
  calc memShelf (s.railToOff r)
      _ = memShelf (((s.railCnFault r).railRest r).railLevel r .mid) := memShelf_railCounts r
      _ = memShelf s := (memShelf_railLevel r .mid).trans ((memShelf_railRest r).trans (memShelf_railCnFault r))

/-- Power good stands beside the counts in RAIL_STAT (R375). -/
theorem railCounts_pg (r : Nat) : (s.railCounts r).getF (RAIL.RAIL_STAT_PG r) = s.getF (RAIL.RAIL_STAT_PG r) := by
  have hkeep {f : Fld} {v : Nat} {u : State} (hf : 17 ≤ f.lo) : (u.setF f v).getF (RAIL.RAIL_STAT_PG r) = u.getF (RAIL.RAIL_STAT_PG r) :=
    getF_setF_bits (f := RAIL.RAIL_STAT_PG r) (by decide : 16 + 1 ≤ 32) (.inl hf) v
  have hcounts (v w : Nat) : ((s.setF (RAIL.RAIL_STAT_N_PART r) v).setF (RAIL.RAIL_STAT_SHEDDING r) w).getF (RAIL.RAIL_STAT_PG r) =
      s.getF (RAIL.RAIL_STAT_PG r) := (hkeep (by decide : 17 ≤ 19)).trans (hkeep (by decide : 17 ≤ 22))
  unfold railCounts
  dsimp only
  split
  · exact (getF_setF_addr (by simp) _).trans (hcounts _ _)
  · exact (hkeep (by decide : 17 ≤ 27)).trans ((getF_setF_addr (by simp) _).trans (hcounts _ _))

/-! ### A rail's state beside its registers -/

theorem rail_updRail_self {f : RailSt → RailSt} (h : r < s.rail.length) : (s.updRail r f).rail_ r = f (s.rail_ r) := by
  simp [rail_, updRail, List.getD_eq_getElem?_getD, h]

theorem rail_of_rail_eq {t : State} (h : t.rail = s.rail) : t.rail_ r = s.rail_ r := congrArg (·.getD r RailSt.rest) h

theorem setPhase_rail (p st : Nat) : (s.setPhase p st).rail = s.rail := by
  unfold setPhase
  dsimp only
  split_ifs <;> rfl

theorem railCounts_rail (r : Nat) : (s.railCounts r).rail = s.rail := by
  unfold railCounts
  dsimp only
  split_ifs <;> rfl

/-! ### To OFF -/

theorem railRest_pg (r : Nat) : (s.railRest r).getF (RAIL.RAIL_STAT_PG r) = 0 := by
  unfold railRest
  dsimp only
  rw [getF_setF_bits (by decide : 16 + 1 ≤ 32) (.inr (by decide : 15 + 1 ≤ 16)), getF_setF_bits (by decide : 16 + 1 ≤ 32) (.inl (by decide : 16 + 1 ≤ 17)),
    getF_setF_self (by decide : 16 + 1 ≤ 32)]
  rfl

theorem railToOff_pg (r : Nat) : (s.railToOff r).getF (RAIL.RAIL_STAT_PG r) = 0 := by
  unfold railToOff
  dsimp only
  rw [getF_setF_bits (by decide : 16 + 1 ≤ 32) (.inr (by decide : 0 + 3 ≤ 16)), getF_setReg_ne (by simp), railCounts_pg, railLevel_getF, railRest_pg]

/-- OFF with the reference and power good gone (Table 11-1). -/
theorem railToOff_spec (r : Nat) : let t := s.railToOff r
    t.railState r = rlOFF ∧ t.getReg (RAIL.VREF_EFF r) = 0 ∧ t.getB (RAIL.RAIL_STAT_PG r) = false ∧ t.shelf = s.shelf ∧ t.mem = s.mem := by
  have hstate : (s.railToOff r).railState r = rlOFF := getF_setF_self (by decide : 0 + 3 ≤ 32) 0
  have hvref : (s.railToOff r).getReg (RAIL.VREF_EFF r) = 0 := (getReg_setF_ne _ (by simp)).trans (getReg_setReg_self _ _)
  exact ⟨hstate, hvref, by rw [getB, railToOff_pg]; rfl, congrArg Prod.snd (memShelf_railToOff r), congrArg Prod.fst (memShelf_railToOff r)⟩

section Withdrawn

variable {r : Fin 8} (hreq : s.railOnReq r = false)
include hreq

theorem exec_railOnWithdrawn_ramp (hst : s.railState r = rlREGULATING) (hfast : s.getB (RAIL.RAIL_CFG_OFF_FAST r) = false) :
    exec (.railOnWithdrawn r) s =
      .next (((s.railCnFault r).setF (RAIL.RAIL_STAT_PG r) 0).setF (RAIL.RAIL_STAT_STATE r) rlSOFT_STOP).checkFill :=
  (if_neg (by simp [hreq])).trans ((if_pos (.inr hst)).trans (if_neg (by simp [hfast])))

theorem exec_railOnWithdrawn_fast (hst : s.railState r = rlSOFT_START ∨ s.railState r = rlREGULATING)
    (hfast : s.getB (RAIL.RAIL_CFG_OFF_FAST r)) : exec (.railOnWithdrawn r) s = .next (s.railToOff r).checkFill :=
  (if_neg (by simp [hreq])).trans ((if_pos hst).trans (if_pos hfast))

theorem exec_railOnWithdrawn_still (hst : s.railState r = rlPREBIAS ∨ s.railState r = rlFAULT_OFF) :
    exec (.railOnWithdrawn r) s = .next (s.railToOff r) :=
  (if_neg (by simp [hreq])).trans ((if_neg (by rcases hst with h | h <;> simp [h])).trans (if_pos hst))

end Withdrawn

/-! ### PREBIAS ends -/

/-- The rail's state beside its registers at the end of PREBIAS: the ramp starts at the output's voltage, at least 0.05 V, and the
rest of it starts afresh (Table 11-1). -/
def prebiased (s : State) (r v : Nat) : State :=
  s.updRail r fun x => { RailSt.rest with ramp := max (v * 10 ^ 8) (5 * 10 ^ 10), vLoc := x.vLoc, vSense := v, adcBad := x.adcBad }

/-- The rail's UNASSIGNED phases turn ACTIVE, and its slot enters AUTO with a preset (Tables 7-4 and 11-1). -/
def phasesJoined (s : State) (r : Nat) : State :=
  (((s.railPhases r).foldl (fun s p => if s.phState p = phUNASSIGNED then s.setPhase p phACTIVE else s) s).updVs (32 + r)
    (fun x => { x with needPreset := true })).railCounts r

/-- SOFT_START with the sense in use (Table 11-1). -/
def softStarted (s : State) (r : Nat) : State :=
  let u := s.setB (RAIL.RAIL_STAT_VLOC_IN_USE r) false
  (u.setReg (RAIL.VREF_EFF r) (pvWord (u.vrefEffPv r))).setF (RAIL.RAIL_STAT_STATE r) rlSOFT_START

theorem memShelf_phasesJoined (r : Nat) : memShelf (phasesJoined s r) = memShelf s := by
  refine (memShelf_railCounts r).trans (foldl_keeps memShelf (fun t p => ?_) _ _)
  split
  exacts [memShelf_setPhase _ _, rfl]

theorem phasesJoined_rail (r : Nat) : (phasesJoined s r).rail = s.rail := by
  refine (railCounts_rail r).trans (foldl_keeps State.rail (fun t p => ?_) _ _)
  split
  exacts [setPhase_rail _ _, rfl]

section Prebias

variable {r : Fin 8} {v : Nat} (hlive : s.railLive r) (hst : s.railState r = rlPREBIAS)
include hlive hst

theorem exec_railPrebiasDone_sensed (hv : v < 57500) (hov : v * 10 ^ 8 ≤ s.ovPv r (s.vrefPv r)) :
    exec (.railPrebiasDone r v) s = .next (softStarted (phasesJoined (prebiased s r v) r) r) := by
  have hlost : ¬ 57500 ≤ v := by omega
  have hno : ¬ (¬ 57500 ≤ v ∧ s.ovPv r (s.vrefPv r) < v * 10 ^ 8) := by omega
  refine (if_pos ⟨hlive, hst⟩).trans ((if_neg (by simp [hlost])).trans ((if_neg (by simpa using hno)).trans ?_))
  simp only [hlost, decide_false, ↓reduceIte]
  rfl

theorem exec_railPrebiasDone_open (hv : 57500 ≤ v) (hloc : s.getB (RAIL.RAIL_CFG_VLOC_EN r) = false) :
    exec (.railPrebiasDone r v) s = .next (((s.railFaultOff r .mid).raise (136 + r) []).railRaise r 6) :=
  (if_pos ⟨hlive, hst⟩).trans (if_pos (by simp [hv, hloc]))

end Prebias

theorem softStarted_state (s : State) (r : Nat) : (softStarted s r).railState r = rlSOFT_START := getF_setF_self (by decide : 0 + 3 ≤ 32) _

theorem softStarted_vref (s : State) (r : Nat) : (softStarted s r).getReg (RAIL.VREF_EFF r) = pvWord (s.vrefEffPv r) :=
  (getReg_setF_ne _ (by simp)).trans (getReg_setReg_self _ _)

theorem softStarted_vloc (s : State) (r : Nat) : (softStarted s r).getB (RAIL.RAIL_STAT_VLOC_IN_USE r) = false := by
  have hloc : (softStarted s r).getF (RAIL.RAIL_STAT_VLOC_IN_USE r) = 0 := by
    unfold softStarted
    dsimp only
    rw [getF_setF_bits (by decide : 18 + 1 ≤ 32) (.inr (by decide : 0 + 3 ≤ 18)), getF_setReg_ne (by simp), setB, getF_setF_self (by decide : 18 + 1 ≤ 32)]
    rfl
  rw [getB, hloc]
  rfl

theorem softStarted_rail (s : State) (r : Nat) : (softStarted s r).rail = s.rail :=
  (setF_rail _ _ _).trans ((setReg_rail _ _ _).trans (setF_rail _ _ _))

theorem softStarted_mem (s : State) (r : Nat) : (softStarted s r).mem = s.mem :=
  (setF_mem _ _ _).trans ((setReg_mem _ _ _).trans (setF_mem _ _ _))

theorem prebiased_rail_ {v : Nat} (hr : r < s.rail.length) : (prebiased s r v).rail_ r = { RailSt.rest with
    ramp := max (v * 10 ^ 8) (5 * 10 ^ 10), vLoc := (s.rail_ r).vLoc, vSense := v, adcBad := (s.rail_ r).adcBad } :=
  rail_updRail_self hr

theorem goes_railPrebiasDone {r : Fin 8} {v : Nat} (hlive : s.railLive r) (hst : s.railState r = rlPREBIAS) (hv : v < 57500)
    (hov : v * 10 ^ 8 ≤ s.ovPv r (s.vrefPv r)) (hlen : s.rail.length = 8) : Goes (.railPrebiasDone r v) s (fun t =>
      t.railState r = rlSOFT_START ∧ (t.rail_ r).ramp = max (v * 10 ^ 8) (5 * 10 ^ 10) ∧ (t.rail_ r).drop = 0 ∧ (t.rail_ r).vSense = v ∧
        t.getReg (RAIL.VREF_EFF r) = pvWord (max (v * 10 ^ 8) (5 * 10 ^ 10)) ∧ t.getB (RAIL.RAIL_STAT_VLOC_IN_USE r) = false ∧ t.mem = s.mem) := by
  have hjoined := (rail_of_rail_eq (r := r) (phasesJoined_rail (s := prebiased s r v) r)).trans (prebiased_rail_ (by omega))
  have hshown := (rail_of_rail_eq (r := r) (softStarted_rail _ r)).trans hjoined
  have heff : (phasesJoined (prebiased s r v) r).vrefEffPv r = max (v * 10 ^ 8) (5 * 10 ^ 10) := by
    rw [vrefEffPv, hjoined]
    exact Nat.sub_zero _
  have hmem : (phasesJoined (prebiased s r v) r).mem = s.mem := congrArg Prod.fst (memShelf_phasesJoined (s := prebiased s r v) r)
  exact ⟨_, exec_railPrebiasDone_sensed hlive hst hv hov, softStarted_state _ r, by rw [hshown], by rw [hshown]; rfl, by rw [hshown],
    by rw [softStarted_vref, heff], softStarted_vloc _ r, (softStarted_mem _ r).trans hmem⟩

/-! ### The obligation -/

/-- Settles O16: the states' changes by their conditions, the start of the ramp over the rail's state at the end of PREBIAS, OFF over one lemma about its
state. That VREF_EFF does not go below 0.05 V, and that a rail withdrawn in PREBIAS goes to OFF, are the model's choices (log entry 74). -/
theorem railStates : Obligations.RailStates := by
  unfold Obligations.RailStates
  refine ⟨fun r s hlive hreq hst htb => ?onOff, fun r s hlive hreq hst => ?onStop,
    fun r v s hlive hst hv hov hlen => goes_railPrebiasDone hlive hst hv hov hlen,
    fun r v s hlive hst hv hloc => exec_railPrebiasDone_open hlive hst hv hloc,
    fun r s hlive hst href => ⟨_, if_pos ⟨hlive, hst, href⟩, sets_refl.indexed (RAIL.RAIL_STAT_STATE r) rlREGULATING⟩,
    fun r s hreq hst hfast => exec_railOnWithdrawn_ramp hreq hst hfast,
    fun r s hreq hst hfast => exec_railOnWithdrawn_fast hreq hst hfast,
    fun r s hreq hst => ⟨_, exec_railOnWithdrawn_still hreq hst, railToOff_spec r⟩,
    fun r s hlive hst hend => ⟨_, if_pos ⟨hlive, hst, hend⟩, railToOff_spec r⟩,
    fun r s hst hrun => ⟨_, if_pos ⟨hst, hrun⟩, sets_refl.indexed (RAIL.RAIL_STAT_PG r) 1⟩,
    fun r x s hlive hsw => ?period, fun r x s hlive hst hlow => ?faultOff⟩
  case onOff =>
    exact ⟨_, (if_pos ⟨hlive, hreq⟩).trans (if_pos ⟨hst, htb⟩), sets_refl.indexed (RAIL.RAIL_STAT_STATE r) rlPREBIAS⟩
  case onStop =>
    have hoff : ¬ (s.railState r = rlOFF ∧ (s.getB (RAIL.RAIL_CFG_TBSEL r) ∨ s.pgRunning pRSYNC)) := by simp [hst]
    exact ⟨_, (if_pos ⟨hlive, hreq⟩).trans ((if_neg hoff).trans (if_pos hst)), sets_refl.indexed (RAIL.RAIL_STAT_STATE r) rlSOFT_START⟩
  case period =>
    have hfault : s.railState r ≠ rlFAULT_OFF := fun h => by simp [railSwitching, h] at hsw
    exact (if_neg (by simp [hlive])).trans ((if_neg hfault).trans (if_neg (by simp [hsw])))
  case faultOff => exact (if_neg (by simp [hlive])).trans ((if_pos hst).trans (if_pos hlow))

end Sys2Proof.Proofs
end

section
/-! SUPPORT. The shelf's protections (chapter 8): the status and the condition that each sets before its source is raised, and the spare that takes a fenced slot's role (R274). -/

namespace Sys2Proof.Sets

open Machine Machine.State Laws

variable {s t : State} {l : List (Fld × Nat)}

theorem updShelf (h : Sets s t l) (g : ShelfSt → ShelfSt) : Sets (s.updShelf g) (t.updShelf g) l :=
  ⟨h.reads, h.keeps, congrArg (State.updShelf · g) h.rest⟩

/-- The condition of an L source begins (R428). -/
theorem condition (h : Sets s t l) (src : Nat) (hl : ∀ x ∈ l, x.1.lo + x.1.w ≤ 32 ∧ Apart x.1 (condOf src).1 := by simp [Apart, condOf]) :
    Sets s (t.setCond src true) (l ++ [condOf src]) :=
  h.field (condOf src).1 1 (Nat.lt_succ_self 1) hl (Nat.mod_lt src (by decide : 32 > 0))

end Sys2Proof.Sets

namespace Sys2Proof.Proofs

open Machine Machine.State Laws

-- One proof after the other: side by side they take more threads than the check's memory has stacks for.
set_option Elab.async false

variable {s : State}

/-! ### Counts and times at their limit -/

section Counts

/-- An L source is raised after the fields set: its condition begins with them. -/
theorem goesRaise_of_raiseL {i : Instr} {u v : State} {l : List (Fld × Nat)} {src : Nat} {d : List Nat} (he : exec i s = .next (v.raiseL src d))
    (h : Sets u v l) (hl : ∀ x ∈ l, x.1.lo + x.1.w ≤ 32 ∧ Apart x.1 (condOf src).1 := by simp [Apart, condOf]) :
    GoesRaise i s u (l ++ [condOf src]) src d :=
  goesRaise_of_eq he (h.condition src hl)

theorem exec_shortfallCount (hdir : s.shelf.limDir ≠ 0) (hstr : s.shelf.limByStr) (hrun : s.getF ALLOC.ALLOC_CFG_SHORT_N ≤ s.shelf.limRun)
    (hnew : s.getCond 108 = false) (hl : s.dev.late = []) : exec .shortfallCount s =
      .next ((s.setF ALLOC.ALLOC_STAT_SHORTFALL 1).raiseL 108 (leBytes 4 s.shelf.limShort.toNat)) :=
  show execShortfallCount s = _ from (heldRun_of_late_nil hl).trans (if_pos ⟨hdir, hstr, hrun, hnew⟩)

theorem exec_capExceedTimer (hdir : s.shelf.capDir ≠ 0) (hus : 1000 * s.getF CREST.EXCEED_TIME ≤ s.shelf.capUs)
    (hnew : s.getB CREST.CREST_STAT_EXCEED = false) (hl : s.dev.late = []) : exec .capExceedTimer s =
      .next ((s.setF CREST.CREST_STAT_EXCEED 1).raiseL 107 (leBytes 4 s.pShelf.toNat ++ [s.shelf.capDir - 1])) :=
  show execCapExceedTimer s = _ from (heldRun_of_late_nil hl).trans (if_pos ⟨hdir, hus, hnew⟩)

theorem exec_busOvCount (ho : s.operating) (hpos : 0 < s.shelf.ovRun) (hrun : s.getF SHELF.BUS_N_OV_N ≤ s.shelf.ovRun)
    (hnew : s.getCond 104 = false) (hl : s.dev.late = []) : exec .busOvCount s = .next (s.raiseL 104 (leBytes 4 s.vBus.toNat)) :=
  show execBusOvCount s = _ from (heldRun_of_late_nil hl).trans (if_pos ⟨ho, hpos, hrun, hnew⟩)

theorem exec_busUvCount (ho : s.operating) (hpos : 0 < s.shelf.uvRun) (hrun : s.getF SHELF.BUS_N_UV_N ≤ s.shelf.uvRun)
    (hnew : s.getCond 105 = false) (hl : s.dev.late = []) : exec .busUvCount s = .next (s.raiseL 105 (leBytes 4 s.vBus.toNat)) :=
  show execBusUvCount s = _ from (heldRun_of_late_nil hl).trans (if_pos ⟨ho, hpos, hrun, hnew⟩)

/-- A string whose STATUS stays out is told once, with its gate and its part of a cornice at 0 (Table 8-3). -/
abbrev stringShut (s : State) (k : Nat) : State := s.updShelf (fun x => { x with gate := x.gate.set k 0, tmoSeen := x.tmoSeen.set k true })

theorem exec_statusTimeout {k : Fin 24} (ho : s.operating) (hrun : s.pgRunning (pYPORT k)) (hmon : s.getB (YPORT.PORT_CFG_MONITOR_ONLY k) = false)
    (hage : s.getF ALLOC.ALLOC_CFG_STATUS_TMO ≤ s.shelf.statAge.getD k 0) (hnew : s.shelf.tmoSeen.getD k false = false) (hl : s.dev.late = []) :
    exec (.statusTimeout k) s = .next (((stringShut s k).setReg (CORNICE.F k) 0).raise (64 + k) [2]) :=
  show execStatusTimeout k s = _ from (heldRun_of_late_nil hl).trans (if_pos ⟨ho, hrun, hmon, hage, hnew⟩)

end Counts

/-! ### The plant is lost (R272) -/

section Plant

/-- The plant timer has run out and the loss is not reported yet. -/
structure PlantOut (s : State) : Prop where
  operating : s.operating
  running : s.pgRunning pSHELF
  enabled : s.getB SHELF.SHELF_CFG_PLANT_EN
  timed : s.shelf.plantOn
  due : 10000 * s.getF SHELF.PLANT_TMO_T ≤ s.shelf.plantUs
  unreported : s.getCond 111 = false
  settled : s.dev.late = []

/-- The loss of the plant ends its caps, and acts by LOSS_ACT where `acts`. -/
abbrev plantLost (s : State) (acts : Bool) : State :=
  s.updShelf (fun x => { x with
    lossDis := true, lossChg := true
    cmdHold := x.cmdHold || (acts && s.getF SHELF.SHELF_CFG_LOSS_ACT == 0)
    toBusv := x.toBusv || (acts && s.getF SHELF.SHELF_CFG_LOSS_ACT == 2)
    cmdZero := x.cmdZero || (acts && (s.getF SHELF.SHELF_CFG_LOSS_ACT == 1 || s.getF SHELF.SHELF_CFG_LOSS_ACT == 3)) })

theorem exec_plantTimeout (h : PlantOut s) : exec .plantTimeout s =
    .next (((plantLost s (decide (s.getF SHELF.REG_STAT_MODE_ACT = 1 ∧ s.getB SHELF.SHELF_CFG_CMD_SRC = false))).setF
      SHELF.REG_STAT_PLANT_LOST 1).raiseL 111 []) :=
  show execPlantTimeout s = _ from
    (heldRun_of_late_nil h.settled).trans (if_pos ⟨h.operating, h.running, h.enabled, h.timed, h.due, h.unreported⟩)

theorem goesRaise_plantTimeout (h : PlantOut s) {acts : Bool}
    (ha : decide (s.getF SHELF.REG_STAT_MODE_ACT = 1 ∧ s.getB SHELF.SHELF_CFG_CMD_SRC = false) = acts) :
    GoesRaise .plantTimeout s (plantLost s acts) [(SHELF.REG_STAT_PLANT_LOST, 1), condOf 111] 111 [] :=
  goesRaise_of_raiseL (ha ▸ exec_plantTimeout h) (sets_refl.field SHELF.REG_STAT_PLANT_LOST 1)

/-- In BUSV, and in PCMD from the host, the loss takes no action of LOSS_ACT. -/
theorem plantLost_false : plantLost s false = s.updShelf (fun x => { x with lossDis := true, lossChg := true }) := by
  simp [plantLost]

end Plant

/-! ### A fenced slot with a role (R274) -/

section Fenced

variable {i : Fin 8} {r : Nat}

/-- Slot `i` is fenced, and `r` is the first role that it holds. -/
abbrev FencedRole (s : State) (i : Fin 8) (r : Nat) : Prop :=
  [roBUSV, roHOLD, roPCMD].find? (fun r => s.pgRunning pSHELF && s.roleSlot r = i && s.slotFenced i) = some r

/-- The spare may take role `r` of slot `i`: it is enabled and free, another slot, ready, and it regulates what the role does. -/
abbrev SpareFit (s : State) (i : Fin 8) (r : Nat) : Prop :=
  s.getB SHELF.ROLE_SPARE_EN ∧ s.shelf.spareRole = 0 ∧ s.getF SHELF.ROLE_SPARE ≠ i ∧ s.slotReady (s.getF SHELF.ROLE_SPARE)
    ∧ s.getF (VSLOT.SLOT_CFG_YSRC (s.getF SHELF.ROLE_SPARE)) = if r = roPCMD then 3 else 1

/-- The spare goes on from the output of slot `i` in role `r`. -/
abbrev spareTaken (s : State) (i : Fin 8) (r : Nat) : State :=
  (s.updVs (s.getF SHELF.ROLE_SPARE) (fun v => { v with needPreset := true, target := some (s.getReg (VSLOT.OUT i)) })).updShelf
    (fun x => { x with spareRole := r })

/-- The same with the registers that show it. -/
abbrev spareShown (s : State) (i : Fin 8) (r : Nat) : State :=
  ((spareTaken s i r).setF (VSLOT.SLOT_CTRL_MODE (s.getF SHELF.ROLE_SPARE)) 0).setF SHELF.REG_STAT_SPARE_IN_USE 1

/-- What the fence of a role's slot makes of the state. -/
def roleFenced (s : State) (i : Fin 8) (r : Nat) : State :=
  if SpareFit s i r then
    if i.val = s.actSlot then ((spareShown s i r).makeActive (s.getF SHELF.ROLE_SPARE)).setF SHELF.REG_STAT_MODE_ACT (s.getF SHELF.REG_STAT_MODE_ACT)
    else spareShown s i r
  else s.setF SHELF.REG_STAT_REG_LOST 1

theorem exec_regulationSlotFenced (h : FencedRole s i r) : exec (.regulationSlotFenced i) s = .next (roleFenced s i r) := by
  have hexec : exec (.regulationSlotFenced i) s = execRegulationSlotFenced i s := rfl
  rw [hexec, execRegulationSlotFenced, h, roleFenced]
  exact (apply_ite Host.Outcome.next _ _ _).symm

theorem sets_spareShown : Sets (spareTaken s i r) (spareShown s i r)
    [(SHELF.REG_STAT_SPARE_IN_USE, 1), (VSLOT.SLOT_CTRL_MODE (s.getF SHELF.ROLE_SPARE), 0)] := by
  have hspare : s.getF SHELF.ROLE_SPARE < 8 := getF_lt s SHELF.ROLE_SPARE
  exact sets_setF (sets_setF sets_refl (by decide : 0 + 2 ≤ 32) (by simp) (by decide : 0 < 2 ^ 2)) (by decide)
    (by simp only [List.mem_singleton, forall_eq, Apart, VSLOT.SLOT_CTRL, SHELF.REG_STAT]; omega) (by decide)

theorem not_spareFit (h : s.getB SHELF.ROLE_SPARE_EN = false ∨ s.shelf.spareRole ≠ 0 ∨ s.getF SHELF.ROLE_SPARE = i ∨
    s.slotReady (s.getF SHELF.ROLE_SPARE) = false ∨ s.getF (VSLOT.SLOT_CFG_YSRC (s.getF SHELF.ROLE_SPARE)) ≠ if r = roPCMD then 3 else 1) :
    ¬ SpareFit s i r := by
  rintro ⟨hen, hfree, hne, hready, hy⟩
  obtain h | h | h | h | h := h
  · exact Bool.false_ne_true (h.symm.trans hen)
  · exact h hfree
  · exact hne h
  · exact Bool.false_ne_true (h.symm.trans hready)
  · exact h hy

end Fenced

/-- Settles O5: each count and time by what its command answers at its limit, the plant's loss over one lemma on what it ends, a fenced slot by whether
the spare fits. -/
theorem shelfProtectionsRaise : Obligations.ShelfProtectionsRaise := by
  unfold Obligations.ShelfProtectionsRaise
  refine ⟨fun s hdir hstr hrun hnew hl => goesRaise_of_raiseL (exec_shortfallCount hdir hstr hrun hnew hl) (sets_refl.field ALLOC.ALLOC_STAT_SHORTFALL 1),
    fun s hdir hus hnew hl => goesRaise_of_raiseL (exec_capExceedTimer hdir hus hnew hl) (sets_refl.field CREST.CREST_STAT_EXCEED 1),
    fun k s ho hrun hmon hage hnew hl => goesRaise_of_eq (exec_statusTimeout ho hrun hmon hage hnew hl) (sets_setReg sets_refl (by simp)),
    fun k s ho hrun => goesRaise_of_eq (if_pos ⟨ho, hrun⟩) sets_refl,
    fun s ho hpos hrun hnew hl => goesRaise_of_raiseL (exec_busOvCount ho hpos hrun hnew hl) sets_refl,
    fun s ho hpos hrun hnew hl => goesRaise_of_raiseL (exec_busUvCount ho hpos hrun hnew hl) sets_refl,
    fun s ho hrun hen hon hdue hnew hmode hsrc hl => goesRaise_plantTimeout ⟨ho, hrun, hen, hon, hdue, hnew, hl⟩ (acts := true) (decide_eq_true ⟨hmode, hsrc⟩),
    fun s ho hrun hen hon hdue hnew hno hl => plantLost_false ▸ goesRaise_plantTimeout ⟨ho, hrun, hen, hon, hdue, hnew, hl⟩ (acts := false) ?lost,
    fun i r s h hen hfree hne hready hy hact _ => ?spare, fun i r p v s h hp hen hfree hne hready hy hact hv => ?active, fun i r s h hno => ?none⟩
  case lost => exact decide_eq_false fun ⟨hmode, hoff⟩ => hno.elim (· hmode) fun hsrc => Bool.false_ne_true (hoff.symm.trans hsrc)
  case spare => exact goesSet_of_eq (exec_regulationSlotFenced h) ((if_pos ⟨hen, hfree, hne, hready, hy⟩).trans (if_neg hact)) sets_spareShown
  case active =>
    subst hp hv
    exact (exec_regulationSlotFenced h).trans (congrArg Host.Outcome.next ((if_pos ⟨hen, hfree, hne, hready, hy⟩).trans (if_pos hact)))
  case none => exact goesSet_of_eq (exec_regulationSlotFenced h) (if_neg (not_spareFit hno)) (sets_refl.field SHELF.REG_STAT_REG_LOST 1)

end Sys2Proof.Proofs
end

section
/-! SUPPORT. Hold-up (chapter 8, Table 8-4): the announced entry, the release, the hand-back and its end, and the requests for a regulation mode (R247). -/

namespace Sys2Proof.Proofs

open Machine Machine.State Laws

-- One proof after the other: side by side they take more threads than the check's memory has stacks for.
set_option Elab.async false

variable {s : State}

/-! ### Release -/

section Release

variable {r : Requester}

/-- A write of a block register leaves every page's state. -/
theorem stored_pgRunning {a v : Nat} (hhome : s.homeOf (a / 0x1000) (a % 0x1000) = a) (ha : 0x20 ≤ a % 0x1000) (n : Nat) :
    (Stored s r a v).pgRunning n = s.pgRunning n := by
  rw [pgRunning, pgState, stored_getF hhome (by simp only [pgStat]; omega) (by simp only [pgStat, pgChg]; omega)]
  rfl

theorem huRelease_of_running (h : s.pgRunning pHOLDUP) : s.huRelease = s.setF HOLDUP.HU_STAT_REL_LATCHED 1 := if_pos h

theorem wordActs_release (old : Word) : s.wordActs r .holdup 0 0 HOLDUP.RELEASE 1#32 old = s.huRelease := rfl

theorem exec_holdupReleaseWrite (h : Accepts s r HOLDUP.RELEASE 1) (hrun : s.pgRunning pHOLDUP) :
    exec (.holdupReleaseWrite r) s = .next ((Stored s r HOLDUP.RELEASE 1).setF HOLDUP.HU_STAT_REL_LATCHED 1) := by
  have hacts : s.hostWrite r HOLDUP.RELEASE (BitVec.ofNat 32 1) = (Stored s r HOLDUP.RELEASE 1).huRelease :=
    (hostWrite_accepted h regAt_release).trans (wordActs_release _)
  have hrun' : (Stored s r HOLDUP.RELEASE 1).pgRunning pHOLDUP := by
    rwa [stored_pgRunning (homeOf_plain (by decide) (.inl (by decide))) (by decide)]
  exact congrArg Host.Outcome.next (hacts.trans (huRelease_of_running hrun'))

theorem exec_holdupAutoRelease (ho : s.operating) (hrun : s.pgRunning pHOLDUP) (hen : s.getB HOLDUP.HU_CFG_AUTO_REL)
    (hquiet : 1000 * s.getF HOLDUP.HU_CFG_AUTO_REL_MS ≤ s.shelf.huQuietUs) (hl : s.dev.late = []) :
    exec .holdupAutoRelease s = .next (s.setF HOLDUP.HU_STAT_REL_LATCHED 1) :=
  show execHoldupAutoRelease s = _ from
    (heldRun_of_late_nil hl).trans ((if_pos ⟨ho, hen, hquiet⟩).trans (congrArg Host.Outcome.next (huRelease_of_running hrun)))

end Release

/-! ### Hand-back -/

section HandBack

/-- The ramp of the hand-back starts from the hold reference, to V_BUS at the boundary of the release (R268). -/
abbrev handBackBegun (s : State) : State :=
  s.updShelf (fun x => { x with hbUs := 0, hbFrom := s.holdRef, hbTo := if x.hbSeen then x.hbTo else s.vBus })

theorem exec_holdupHandBackStart (hst : s.huState = 1) (hrel : s.getB HOLDUP.HU_STAT_REL_LATCHED) (hnone : s.huPresent = (false, false, false))
    (hv : F32.le (s.getReg HOLDUP.V_EXIT) s.vBus) (hl : s.dev.late = []) :
    exec .holdupHandBackStart s = .next ((handBackBegun s).setF HOLDUP.HU_STAT_STATE 2) :=
  show execHoldupHandBackStart s = _ from
    (heldRun_of_late_nil hl).trans (if_pos ⟨hst, hrel, by rw [hnone], by rw [hnone], by rw [hnone], hv⟩)

/-- The hand-back ramp has run. -/
structure RampOver (s : State) : Prop where
  state : s.huState = 2
  due : 1000 * s.getF HOLDUP.HB_RAMP_MS ≤ s.shelf.hbUs
  settled : s.dev.late = []

/-- The slot of the wanted mode has taken over from the slot in force, and hold-up is IDLE. -/
abbrev handedBack (s : State) : State :=
  ((s.handover s.actSlot (wantSlot s)).setF SHELF.REG_STAT_MODE_ACT s.wantMode).setF HOLDUP.HU_STAT_STATE 0

/-- A handover leaves a REG_MODE change waiting (R247). -/
theorem handover_regPend (a b : Nat) : (s.handover a b).shelf.regPend = s.shelf.regPend := by
  have hactive (u : State) : (u.makeActive b).shelf.regPend = u.shelf.regPend := by rw [makeActive_shelf]
  simp only [State.handover]
  split_ifs
  exacts [hactive _, rfl, hactive _, rfl]

theorem handedBack_regPend : (handedBack s).shelf.regPend = s.shelf.regPend := handover_regPend _ _

theorem exec_hbRampEnd_permitted (h : RampOver s) (hok : s.handoverOk s.actSlot (wantSlot s)) : exec .hbRampEnd s =
    .next ((modeChangeDone (handedBack s)).setMode (modeChangeDone (handedBack s)).runOrDegraded) :=
  show execHbRampEnd s = _ from (heldRun_of_late_nil h.settled).trans ((if_pos ⟨h.state, h.due⟩).trans (if_pos hok))

theorem exec_hbRampEnd_refused (h : RampOver s) (hno : s.handoverOk s.actSlot (wantSlot s) = false) : exec .hbRampEnd s =
    .next (s.raise 109 [2, s.huCauses]) :=
  show execHbRampEnd s = _ from
    (heldRun_of_late_nil h.settled).trans ((if_pos ⟨h.state, h.due⟩).trans (if_neg (Bool.eq_false_iff.1 hno)))

theorem modeChangeDone_of_none (h : s.shelf.regPend = false) : modeChangeDone s = s := if_neg (Bool.eq_false_iff.1 h)

theorem modeChangeDone_of_pending (h : s.shelf.regPend) :
    modeChangeDone s = (s.updShelf (fun x => { x with regPend := false })).setF SHELF.REG_STAT_MODE_CHG 2 := if_pos h

theorem exec_holdupTmaxExpiry (hst : s.huState = 1) (hen : s.getF HOLDUP.TMAX_S ≠ 0) (hdue : 1000000 * s.getF HOLDUP.TMAX_S < s.shelf.huUs)
    (hnew : s.shelf.huTmaxSeen = false) (hl : s.dev.late = []) : exec .holdupTmaxExpiry s =
      .next ((s.updShelf (fun x => { x with huTmaxSeen := true })).raise 109 [3, s.huCauses]) :=
  show execHoldupTmaxExpiry s = _ from (heldRun_of_late_nil hl).trans (if_pos ⟨hst, hen, hdue, hnew⟩)

end HandBack

/-! ### REG_MODE (R247) -/

section RegMode

variable {r : Requester} {p : Bool} {v : Nat}

/-- SHELF_CFG with another REG_MODE. -/
abbrev regModeWord (s : State) (p : Bool) : Nat := s.getN SHELF.SHELF_CFG / 2 * 2 + p.toNat

theorem homeOf_shelfCfg : s.homeOf (SHELF.SHELF_CFG / 0x1000) (SHELF.SHELF_CFG % 0x1000) = SHELF.SHELF_CFG :=
  homeOf_plain (by decide) (.inl (by decide))

theorem stored_shelfCfg_regMode : (Stored s r SHELF.SHELF_CFG v).getF SHELF.SHELF_CFG_REG_MODE = bitsOf (BitVec.ofNat 32 v) 0 1 := by
  have hlt : bitsOf (BitVec.ofNat 32 v) 0 1 < 2 ^ 1 := ((BitVec.ofNat 32 v).extractLsb' 0 1).isLt
  have hword := stored_getReg_self (s := s) (r := r) (v := v) (a := SHELF.SHELF_CFG) rfl rfl homeOf_shelfCfg (by decide)
  rw [getF, hword]
  simpa [writtenWord, mergeWord, clampField, bitsOf_withBits_self] using hlt

theorem stored_regMode : (Stored s r SHELF.SHELF_CFG (regModeWord s p)).getF SHELF.SHELF_CFG_REG_MODE = p.toNat := by
  have hp := p.toNat_le
  have hword : s.getN SHELF.SHELF_CFG < 2 ^ 32 := (s.getReg SHELF.SHELF_CFG).isLt
  have hlt : regModeWord s p < 2 ^ 32 := by simp only [regModeWord]; omega
  rw [stored_shelfCfg_regMode, bitsOf_ofNat hlt]
  simp only [regModeWord]
  omega

theorem stored_modeAct : (Stored s r SHELF.SHELF_CFG v).getF SHELF.REG_STAT_MODE_ACT = s.getF SHELF.REG_STAT_MODE_ACT :=
  stored_getF homeOf_shelfCfg (by decide) (by decide)

/-- The written word asks for the active mode. -/
theorem stored_regMode_eq (h : s.getF SHELF.REG_STAT_MODE_ACT = p.toNat) :
    (Stored s r SHELF.SHELF_CFG (regModeWord s p)).getF SHELF.SHELF_CFG_REG_MODE =
      (Stored s r SHELF.SHELF_CFG (regModeWord s p)).getF SHELF.REG_STAT_MODE_ACT :=
  stored_regMode.trans (h.symm.trans stored_modeAct.symm)

theorem stored_shelf {a : Nat} : (Stored s r a v).shelf = s.shelf := by rw [stored_rest]

theorem wordActs_shelfCfg (w old : Word) : s.wordActs r .shelf 0 0 SHELF.SHELF_CFG w old = s.regModeSet := rfl

theorem exec_regModeWrite (h : Accepts s r SHELF.SHELF_CFG (regModeWord s p)) :
    exec (.regModeWrite r p) s = .next (Stored s r SHELF.SHELF_CFG (regModeWord s p)).regModeSet :=
  congrArg Host.Outcome.next ((hostWrite_accepted h regAt_shelfCfg).trans (wordActs_shelfCfg _ _))

/-- The mode asked for is not the active one. -/
theorem regModeSet_of_ne (h : s.getF SHELF.SHELF_CFG_REG_MODE ≠ s.getF SHELF.REG_STAT_MODE_ACT) :
    s.regModeSet = (s.updShelf (fun x => { x with toBusv := false, regPend := true })).setF SHELF.REG_STAT_MODE_CHG 1 := if_pos h

theorem regModeSet_of_pending (h : s.getF SHELF.SHELF_CFG_REG_MODE = s.getF SHELF.REG_STAT_MODE_ACT) (hp : s.shelf.regPend) :
    s.regModeSet = (s.updShelf (fun x => { x with toBusv := false, regPend := false })).setF SHELF.REG_STAT_MODE_CHG 0 :=
  (if_neg (not_not.2 h)).trans (if_pos hp)

theorem regModeSet_of_none (h : s.getF SHELF.SHELF_CFG_REG_MODE = s.getF SHELF.REG_STAT_MODE_ACT) (hp : s.shelf.regPend = false) :
    s.regModeSet = s.updShelf (fun x => { x with toBusv := false }) :=
  (if_neg (not_not.2 h)).trans (if_neg (Bool.eq_false_iff.1 hp))

theorem goes_regModeWrite_other (h : Accepts s r SHELF.SHELF_CFG (regModeWord s p)) (hne : s.getF SHELF.REG_STAT_MODE_ACT ≠ p.toNat) :
    Goes (.regModeWrite r p) s (fun t => t.getF SHELF.SHELF_CFG_REG_MODE = p.toNat ∧ t.getF SHELF.REG_STAT_MODE_CHG = 1 ∧ t.shelf.regPend = true ∧
      Sets ((Stored s r SHELF.SHELF_CFG (regModeWord s p)).updShelf (fun x => { x with toBusv := false, regPend := true })) t
        [(SHELF.REG_STAT_MODE_CHG, 1)]) := by
  have hmode := stored_regMode (s := s) (r := r) (p := p)
  have hask : (Stored s r SHELF.SHELF_CFG (regModeWord s p)).getF SHELF.SHELF_CFG_REG_MODE ≠
      (Stored s r SHELF.SHELF_CFG (regModeWord s p)).getF SHELF.REG_STAT_MODE_ACT := by
    rw [hmode, stored_modeAct]
    exact hne.symm
  have hsets := (sets_refl (s := (Stored s r SHELF.SHELF_CFG (regModeWord s p)).updShelf (fun x => { x with toBusv := false, regPend := true }))).field
    SHELF.REG_STAT_MODE_CHG 1
  exact ⟨_, (exec_regModeWrite h).trans (congrArg Host.Outcome.next (regModeSet_of_ne hask)), (hsets.kept SHELF.SHELF_CFG_REG_MODE).trans hmode,
    hsets.reads (SHELF.REG_STAT_MODE_CHG, 1) (by simp), rfl, hsets⟩

end RegMode

/-- Settles O6: the entry's announcement and the release by what they set, the hand-back over what waits for its end, and a REG_MODE write by the mode
it asks for. That a REG_MODE write ends a TO_BUSV is the model's choice (log entry 110). -/
theorem holdupMoves : Obligations.HoldupMoves := by
  unfold Obligations.HoldupMoves
  refine ⟨fun s ho hv => ⟨_, if_pos ⟨ho, hv⟩, sets_refl⟩, fun s ho hpin => ⟨_, if_pos ⟨ho, hpin⟩, sets_refl⟩,
    fun r s h hrun => ⟨_, exec_holdupReleaseWrite h hrun, sets_refl.field HOLDUP.HU_STAT_REL_LATCHED 1⟩,
    fun s ho hrun hen hquiet hl => ⟨_, exec_holdupAutoRelease ho hrun hen hquiet hl, sets_refl.field HOLDUP.HU_STAT_REL_LATCHED 1⟩,
    fun s hst hrel hnone hv hl => ⟨_, exec_holdupHandBackStart hst hrel hnone hv hl, sets_refl.field HOLDUP.HU_STAT_STATE 2⟩,
    fun s hst hdue hok hpend hl => ?back, fun u v s hst hdue hok hpend hu hv hl => ?backChanged,
    fun s hst hdue hno hl => goesRaise_of_eq (exec_hbRampEnd_refused ⟨hst, hdue, hl⟩ hno) sets_refl,
    fun s hst hen hdue hnew hl => goesRaise_of_eq (exec_holdupTmaxExpiry hst hen hdue hnew hl) sets_refl,
    fun r p s h hne => goes_regModeWrite_other h hne, fun r p v s hv h heq hpend => ?same, fun r p v s hv h heq hpend => ?withdrawn⟩
  case back =>
    rw [exec_hbRampEnd_permitted ⟨hst, hdue, hl⟩ hok, modeChangeDone_of_none (handedBack_regPend.trans hpend)]
  case backChanged =>
    subst hu hv
    rw [exec_hbRampEnd_permitted ⟨hst, hdue, hl⟩ hok, modeChangeDone_of_pending (handedBack_regPend.trans hpend)]
  case same =>
    subst hv
    exact (exec_regModeWrite h).trans (congrArg Host.Outcome.next (regModeSet_of_none (stored_regMode_eq heq) (by rwa [stored_shelf])))
  case withdrawn =>
    subst hv
    exact goesSet_of_eq (exec_regModeWrite h) (regModeSet_of_pending (stored_regMode_eq heq) (by rwa [stored_shelf]))
      (sets_refl.field SHELF.REG_STAT_MODE_CHG 0)

end Sys2Proof.Proofs
end

section
/-! SUPPORT. Valid messages of the plant (chapter 17, R514): what every one of them makes of the loss of the plant (R272, R273), and what each type stages. -/

namespace Sys2Proof.Sets

open Machine Machine.State Laws

variable {s t : State} {l : List (Fld × Nat)}

theorem updCn (h : Sets s t l) (g : CorniceSt → CorniceSt) : Sets (s.updCn g) (t.updCn g) l :=
  ⟨h.reads, h.keeps, congrArg (State.updCn · g) h.rest⟩

end Sys2Proof.Sets

namespace Sys2Proof.Proofs

open Machine Machine.State Laws

-- One proof after the other: side by side they take more threads than the check's memory has stacks for.
set_option Elab.async false

variable {s t u : State} {h : MsgHead} {l : List (Fld × Nat)}

/-! ### The port's frame counter -/

section Counter

/-- The frame counters stand in the pages CAN and T1S, at offsets that hold no setting. -/
theorem cntRxFrames_place (m : MsgPort) : 0x90000 ≤ (cntRxFrames (portNo m)).addr ∧
    ((cntRxFrames (portNo m)).addr % 0x1000 = 0x2C ∨ (cntRxFrames (portNo m)).addr % 0x1000 = 0x3C) := by
  unfold cntRxFrames
  split
  · decide
  · simp only [CAN.CNT_RX]
    omega

theorem cntRxFrames_width (m : MsgPort) : (cntRxFrames (portNo m)).lo + (cntRxFrames (portNo m)).w = 32 := by
  unfold cntRxFrames
  split <;> rfl

/-- The message is counted (R509). -/
abbrev counted (s : State) (m : MsgPort) : State := s.incSat (cntRxFrames (portNo m))

theorem sets_counted (s : State) (m : MsgPort) : Sets s (counted s m) [oneMore s (cntRxFrames (portNo m))] :=
  sets_incSat sets_refl (cntRxFrames_width m).le (by simp)

/-- The registers below the ports' pages are kept. -/
theorem regsKept_counted (m : MsgPort) : RegsKept (0x90000 ≤ ·) s (counted s m) :=
  regsKept_setF regsKept_refl (cntRxFrames_place m).1 _

/-- A register at another offset of its page is none of the counters. -/
theorem counted_getF {m : MsgPort} {f : Fld} (hf : f.addr % 0x1000 ≠ 0x2C ∧ f.addr % 0x1000 ≠ 0x3C) : (counted s m).getF f = s.getF f :=
  getF_setF_addr (fun e => by have := (cntRxFrames_place m).2; omega) _

theorem counted_plantLink (m : MsgPort) : (counted s m).plantLink = s.plantLink :=
  congrArg (fun x => if decide (x = 1) then 0 else 4) (counted_getF (f := CAN.CAN_CFG_PLINK 0) (by decide))

theorem counted_shelfAddr (m : MsgPort) (p : Nat) : (counted s m).shelfAddr p = s.shelfAddr p := by
  unfold shelfAddr
  split
  exacts [counted_getF (by decide), counted_getF (by simp only [CAN.CAN_CFG]; omega)]

theorem counted_plantAddr (m : MsgPort) (p : Nat) : (counted s m).plantAddr p = s.plantAddr p := by
  unfold plantAddr
  split
  exacts [counted_getF (by decide), counted_getF (by simp only [CAN.CAN_CFG]; omega)]

end Counter

/-! ### A valid message -/

section Valid

variable {typ : Nat} {body : List Nat} {all : Bool} {k : State → State}

/-- The checks of R514 read settings, so that they come out alike once the message is counted. -/
theorem plantMsg_valid (hv : PlantHears s h typ body all) : s.plantMsg h typ body all k = (k (counted s h.port)).plantSeen := by
  obtain ⟨hport, hcrc, hlink, hdst, hsrc⟩ := hv
  refine (receive_passes hport hcrc).trans (if_pos ⟨hlink.trans (counted_plantLink h.port).symm, ?_, hsrc.trans (counted_plantAddr h.port _).symm⟩)
  rwa [addressed_, nodeAddr_counted, counted_shelfAddr]

/-- The plant timer starts anew (R272). -/
abbrev plantTimed (s : State) : State := s.updShelf (fun x => { x with plantOn := true, plantUs := 0 })

/-- The source of the plant's loss ends. -/
def lossEnded (s : State) : State := if s.getCond 111 then s.endL 111 else s

/-- A SHELF page that runs shows no loss. -/
def lossCleared (s : State) : State := if s.pgRunning pSHELF then s.setF SHELF.REG_STAT_PLANT_LOST 0 else s

theorem plantSeen_eq (s : State) : s.plantSeen = lossCleared (lossEnded (plantTimed s)) := rfl

/-- The field is one of a block register, and none that the end of a loss writes. -/
structure BesideLoss (f : Fld) : Prop where
  width : f.lo + f.w ≤ 32
  block : 0x20 ≤ f.addr % 0x1000
  shelf : f.addr ≠ SHELF.REG_STAT
  cond : f.addr ≠ FCOL.COND 3
  act : f.addr ≠ FCOL.ACT 3

theorem besideLoss_cntRxFrames (m : MsgPort) : BesideLoss (cntRxFrames (portNo m)) := by
  obtain ⟨hpage, hofs⟩ := cntRxFrames_place m
  exact ⟨(cntRxFrames_width m).le, by omega, by simp only [SHELF.REG_STAT]; omega, by simp only [FCOL.COND]; omega, by simp only [FCOL.ACT]; omega⟩

theorem sets_lossEnded (hs : Sets u t l) (hl : ∀ x ∈ l, BesideLoss x.1) :
    Sets u (lossEnded t) (l ++ if u.getCond 111 then condEnd 111 else []) := by
  have hcond : t.getCond 111 = u.getCond 111 := hs.bit (by decide) fun x hx => .inl (hl x hx).cond.symm
  simp only [lossEnded, hcond]
  split
  · exact sets_endL hs fun x hx => ⟨(hl x hx).width, by simp [condEnd, Apart, (hl x hx).cond, (hl x hx).act]⟩
  · simpa using hs

theorem sets_lossCleared (hs : Sets u t l) (hl : ∀ x ∈ l, x.1.lo + x.1.w ≤ 32 ∧ 0x20 ≤ x.1.addr % 0x1000 ∧ x.1.addr ≠ SHELF.REG_STAT) :
    Sets u (lossCleared t) (l ++ if u.pgRunning pSHELF then [(SHELF.REG_STAT_PLANT_LOST, 0)] else []) := by
  simp only [lossCleared, pgRunning_of_sets hs pSHELF fun x hx => (hl x hx).2.1]
  split
  · exact hs.field SHELF.REG_STAT_PLANT_LOST 0 (by decide) fun x hx => ⟨(hl x hx).1, .inl (hl x hx).2.2⟩
  · simpa using hs

/-- What a valid message leaves, whatever it says, beside what its own meaning `k` does to the message's count. -/
theorem sets_plantSeen (hs : Sets u t (l ++ [oneMore s (cntRxFrames (portNo h.port))])) (hl : ∀ x ∈ l, BesideLoss x.1) (hregs : u.regs = s.regs) :
    Sets (plantTimed u) t.plantSeen (l ++ plantFields s h) := by
  have hall : ∀ x ∈ l ++ [oneMore s (cntRxFrames (portNo h.port))], BesideLoss x.1 := fun x hx => by
    rcases List.mem_append.1 hx with hx | hx
    · exact hl x hx
    · obtain rfl := List.mem_singleton.1 hx
      exact besideLoss_cntRxFrames h.port
  have hcond : u.getCond 111 = s.getCond 111 := by simp only [getCond, getBit, getReg, hregs]
  have hrun : u.pgRunning pSHELF = s.pgRunning pSHELF :=
    congrArg (fun r => decide (bitsOf ((lookupKey (pgStat pSHELF) r).getD (resetWord (pgStat pSHELF))) 0 3 = 2)) hregs
  have hend := sets_lossEnded (hs.updShelf fun x => { x with plantOn := true, plantUs := 0 }) hall
  have hends : ∀ x ∈ condEnd 111, x.1.lo + x.1.w ≤ 32 ∧ 0x20 ≤ x.1.addr % 0x1000 ∧ x.1.addr ≠ SHELF.REG_STAT := by decide
  have hseen := sets_lossCleared hend fun x hx => by
    rcases List.mem_append.1 hx with hx | hx
    · exact ⟨(hall x hx).width, (hall x hx).block, (hall x hx).shelf⟩
    · split at hx
      exacts [hends x hx, absurd hx List.not_mem_nil]
  rw [plantSeen_eq]
  refine sets_of_mem_iff hseen fun x => ?_
  rw [plantFields, ← hcond, ← hrun]
  simp only [List.mem_append, List.mem_cons]
  tauto

/-- A valid message whose meaning writes the fields `l` over `u`. -/
theorem goesSet_plantMsg {i : Instr} (he : exec i s = .next (s.plantMsg h typ body all k)) (hv : PlantHears s h typ body all)
    (hk : Sets u (k (counted s h.port)) (l ++ [oneMore s (cntRxFrames (portNo h.port))])) (hl : ∀ x ∈ l, BesideLoss x.1) (hregs : u.regs = s.regs) :
    GoesSet i s (plantTimed u) (l ++ plantFields s h) :=
  goesSet_of_eq he (plantMsg_valid hv) (sets_plantSeen hk hl hregs)

/-- A valid message that writes the shelf's state alone. -/
theorem goesSet_shelfMsg {i : Instr} {g : ShelfSt → ShelfSt} (he : exec i s = .next (s.plantMsg h typ body all k)) (hv : PlantHears s h typ body all)
    (hk : ∀ t : State, k t = t.updShelf g) : GoesSet i s (plantTimed (s.updShelf g)) (plantFields s h) :=
  goesSet_plantMsg (l := []) he hv (by rw [hk]; exact (sets_counted s h.port).updShelf g) (by simp) rfl

end Valid

/-! ### CAP and PCMD -/

/-- The caps whose valid bits are set wait for the boundary, and their loss is over (R260, R273). -/
abbrev capStaged (d c : Word) (dis chg : Bool) (x : ShelfSt) : ShelfSt :=
  { x with
    lossDis := x.lossDis && !dis, lossChg := x.lossChg && !chg
    pendRegs := x.pendRegs ++ (if dis then [(CREST.CAP_PLANT_DIS, d)] else []) ++ if chg then [(CREST.CAP_PLANT_CHG, c)] else [] }

/-- The discharge cap, then the charge cap. -/
abbrev capTaken (d c : Word) (dis chg : Bool) (s : State) : State :=
  let s := if dis then (s.later [(CREST.CAP_PLANT_DIS, d)]).updShelf (fun x => { x with lossDis := false }) else s
  if chg then (s.later [(CREST.CAP_PLANT_CHG, c)]).updShelf (fun x => { x with lossChg := false }) else s

theorem capTaken_eq (d c : Word) (dis chg : Bool) (s : State) : capTaken d c dis chg s = s.updShelf (capStaged d c dis chg) := by
  cases dis <;> cases chg <;> simp [capTaken, capStaged, State.later, State.updShelf]

/-- A power command waits for the boundary, and what the loss of the plant made of the one before is over (R246, R273). -/
abbrev pcmdStaged (p : Word) (x : ShelfSt) : ShelfSt :=
  { x with cmdHold := false, cmdZero := false, toBusv := false, pendRegs := x.pendRegs ++ [(SHELF.P_CMD_PLANT, p)] }

/-! ### INTENT -/

section Intent

variable {amp lead : Word} {isn : Half} {hint arrival : Nat}

/-- The trigger is accepted for its arrival plus its lead (R281). -/
abbrev intentTaken (s : State) (amp lead : Word) (isn : Half) (hint arrival : Nat) (c : CorniceSt) : CorniceSt :=
  { c with hintSel := hint, lastIsn := some isn, intentAt := some arrival, tStep := arrival + lead.toNat, amp := amp, accUs := s.dev.nowUs }

/-- The ISN is the first one, or newer than the last. -/
abbrev FreshIsn (s : State) (isn : Half) : Prop := s.cn.lastIsn = none ∨ s.cn.lastIsn.map (isnNewer isn) = some true

theorem getB_of_regsKept {p : Nat → Prop} (hr : RegsKept p s t) {f : Fld} (hf : ¬ p f.addr) : t.getB f = s.getB f :=
  congrArg (fun x => decide (x = 1)) (getF_of_regsKept hr hf)

theorem cnModeBad_of_regsKept (hr : RegsKept (0x90000 ≤ ·) s t) : t.cnModeBad = s.cnModeBad := by
  have hmode : t.mode = s.mode := getF_of_regsKept hr (by decide)
  have hinhibit : t.inhibit = s.inhibit := getB_of_regsKept hr (by decide)
  have hhu : t.huState = s.huState := getF_of_regsKept hr (by decide)
  rw [cnModeBad, cnModeBad, hmode, hinhibit, hhu, getB_of_regsKept (f := DEV.MODE_STAT_DESCENT) hr (by decide),
    getB_of_regsKept (f := CORNICE.CN_CFG_HU_EN) hr (by decide), getB_of_regsKept (f := SHELF.REG_STAT_START_RAMP) hr (by decide),
    getB_of_regsKept (f := SHELF.REG_STAT_REG_LOST) hr (by decide)]

/-- What Table 9-1 asks is the same in two states whose registers below the ports' pages are. -/
theorem cnWhy_of_regsKept (hr : RegsKept (0x90000 ≤ ·) s t) (en step : Bool) : t.cnWhy en lead amp step = s.cnWhy en lead amp step := by
  have hen : t.getB CORNICE.CN_CFG_EN = s.getB CORNICE.CN_CFG_EN := getB_of_regsKept hr (by decide)
  have hrun : t.pgRunning pCORNICE = s.pgRunning pCORNICE :=
    congrArg (fun x => decide (x = 2)) (getF_of_regsKept (f := pgStatState pCORNICE) hr (by decide))
  have hlead : t.getReg CORNICE.LEAD_MAX = s.getReg CORNICE.LEAD_MAX := hr _ (by decide)
  have hstate : t.cnState = s.cnState := getF_of_regsKept hr (by decide)
  have hlive : t.cnLive = s.cnLive := getB_of_regsKept hr (by decide)
  rw [cnWhy, cnWhy, hen, hrun, cnModeBad_of_regsKept hr, hlead, hstate, hlive]

theorem cnIntent_pending (hfresh : FreshIsn s isn) (hmode : s.mode ≠ mWATCH) (hamp : F32.isZero amp = false)
    (hwhy : s.cnWhy (s.getB CORNICE.CN_CFG_INTENT_EN) lead amp false = 0) : s.cnIntent amp lead isn hint arrival =
      (((s.updCn (intentTaken s amp lead isn hint arrival)).setF CORNICE.CN_STAT_ISN isn.toNat).setF CORNICE.CN_STAT_SRC 0).setF CORNICE.CN_STAT_STATE
        cnPENDING := by
  have hold : s.cn.lastIsn = none ∨ ∃ l, s.cn.lastIsn = some l ∧ isnNewer isn l = true := hfresh.imp_right Option.map_eq_some_iff.1
  have hwhy' : (s.updCn (fun c => { c with hintSel := hint })).cnWhy
    ((s.updCn (fun c => { c with hintSel := hint })).getB CORNICE.CN_CFG_INTENT_EN) lead amp false = 0 := hwhy
  refine (if_neg ?_).trans ((if_neg hmode).trans ((if_neg (by simp [hamp])).trans ?_))
  · obtain hnone | ⟨l, hlast, hnew⟩ := hold
    · simp [hnone]
    · simp [hlast, hnew]
  · simp only [hwhy', ↓reduceIte]
    rfl

theorem besideLoss_cnStat {lo w : Nat} (hw : lo + w ≤ 32) : BesideLoss ⟨CORNICE.CN_STAT, lo, w⟩ :=
  ⟨hw, (by decide : 0x20 ≤ CORNICE.CN_STAT % 0x1000), (by decide : CORNICE.CN_STAT ≠ SHELF.REG_STAT), (by decide : CORNICE.CN_STAT ≠ FCOL.COND 3),
    (by decide : CORNICE.CN_STAT ≠ FCOL.ACT 3)⟩

theorem exec_intentMessage (at_ : Nat) (n : BitVec 3) (hl : s.dev.late = []) : exec (.intentMessage h amp lead isn n at_) s =
    .next (s.plantMsg h 0x02 (intentBody amp lead isn n.toNat) false (fun s => s.cnIntent amp lead isn n.toNat (s.dev.nowUs + at_))) :=
  show execIntentMessage h amp lead isn n at_ s = _ from heldRun_of_late_nil hl

theorem goesSet_intentMessage {at_ : Nat} {n : BitVec 3} (hv : PlantHears s h 0x02 (intentBody amp lead isn n.toNat) false) (hfresh : FreshIsn s isn)
    (hmode : s.mode ≠ mWATCH) (hamp : F32.isZero amp = false) (hwhy : s.cnWhy (s.getB CORNICE.CN_CFG_INTENT_EN) lead amp false = 0)
    (hl : s.dev.late = []) : GoesSet (.intentMessage h amp lead isn n at_) s
      (plantTimed (s.updCn (intentTaken s amp lead isn n.toNat (s.dev.nowUs + at_))))
      ([(CORNICE.CN_STAT_STATE, cnPENDING), (CORNICE.CN_STAT_SRC, 0), (CORNICE.CN_STAT_ISN, isn.toNat)] ++ plantFields s h) := by
  have hkept := regsKept_counted (s := s) h.port
  have hmode' : (counted s h.port).mode ≠ mWATCH := by rwa [State.mode, getF_of_regsKept hkept (by decide)]
  have hwhy' : (counted s h.port).cnWhy ((counted s h.port).getB CORNICE.CN_CFG_INTENT_EN) lead amp false = 0 := by
    rwa [cnWhy_of_regsKept hkept, getB_of_regsKept hkept (by decide)]
  have hcount : (cntRxFrames (portNo h.port)).addr ≠ CORNICE.CN_STAT := by
    have := (cntRxFrames_place h.port).1
    simp only [CORNICE.CN_STAT]
    omega
  have hwidth := (cntRxFrames_width h.port).le
  have hcounted := (sets_counted s h.port).updCn (intentTaken s amp lead isn n.toNat (s.dev.nowUs + at_))
  refine goesSet_plantMsg (exec_intentMessage at_ n hl) hv ?_ ?_ rfl
  · rw [cnIntent_pending (s := counted s h.port) hfresh hmode' hamp hwhy']
    exact sets_setF (sets_setF (sets_setF hcounted (by decide) (by simp [oneMore, Apart, hcount, hwidth]) isn.isLt) (by decide)
      (by simp [oneMore, Apart, hcount, hwidth]) (by decide)) (by decide) (by simp [oneMore, Apart, hcount, hwidth]) (by decide)
  · simp [besideLoss_cnStat]

end Intent

/-- Settles O8: every message over one lemma about what a valid one makes of the plant's loss and of its count; then what its type stages. -/
theorem plantMessagesAct : Obligations.PlantMessagesAct := by
  unfold Obligations.PlantMessagesAct
  refine ⟨fun h s hv => goesSet_shelfMsg (g := fun x => { x with huReqPlant := true, huReqRel := false }) rfl hv fun _ => rfl,
    fun h s hv => goesSet_shelfMsg (g := fun x => { x with huReqRel := true }) rfl hv fun _ => rfl,
    fun h d c v s hv => goesSet_shelfMsg rfl hv (capTaken_eq d c (v.getLsbD 0) (v.getLsbD 1)),
    fun h p s hv => goesSet_shelfMsg (g := pcmdStaged p) rfl hv fun _ => rfl,
    fun h a l n hint at_ s hv hfresh hmode ha hwhy hl => goesSet_intentMessage hv hfresh hmode ha hwhy hl⟩

end Sys2Proof.Proofs
end

section
/-! SUPPORT. A statement that a state refutes: MODULE_UID_CHANGED in a learning cycle, where FS_EST_LEARN reacts at SAFE (R327, R334, R424). -/

namespace Sys2Proof.Proofs

open Machine Machine.State Laws

/-- RUN with string 0 in a learning cycle, and FS_EST_LEARN set to SAFE. -/
def learnSafe : State :=
  [(DEV.MODE_STAT_MODE, mRUN), (pgStatState (pYPORT 0), psRUNNING), (pgStatState pEST, psRUNNING), (pgStatState (pESTSTR 0), psRUNNING),
    (ESTSTR.LRN_STAT_STATE 0, 1), (FCOL_SEV.SEV_SEV 198, 4)].foldl (fun (s : State) x => s.setF x.1 x.2) State.reset

/-- The cells that start again disqualify the cycle, and its raise makes the shelf safe (R327, R334, R424). -/
theorem learnSafe_uidChanged : ((learnSafe.setUid 0 1 7).resetCells 0 1).shelf.safeNow = true := by decide +kernel

/-- Refutes O14: a new UID in a learning cycle raises FS_EST_LEARN, which nothing in its clause keeps from reacting at SAFE; the shelf then changes. -/
theorem not_estimatorCommands : ¬ Obligations.EstimatorCommands := by
  unfold Obligations.EstimatorCommands
  rintro ⟨-, -, -, -, -, huid, -⟩
  obtain ⟨t, ht, -, -, -, hshelf⟩ := huid 0 1 7 learnSafe (by decide +kernel) (by decide +kernel) (by decide)
  obtain rfl : (learnSafe.setUid 0 1 7).resetCells 0 1 = t := Host.Outcome.next.inj ht
  have hsafe := congrArg (fun (x : ShelfSt) => x.safeNow) hshelf
  rw [learnSafe_uidChanged] at hsafe
  exact absurd hsafe (by decide +kernel)

end Sys2Proof.Proofs
end

section
/-! SUPPORT. The impedance survey of a string (chapter 10, Table 10-6): its pre-roll, the batches that a window takes, the window's end, and its states BLOCKED and GAP. -/

namespace Sys2Proof.Proofs

open Machine Machine.State Laws

-- One proof after the other: side by side they take more threads than the check's memory has stacks for.
set_option Elab.async false

variable {s t u : State}

/-! ### A string's state beside its registers -/

section Str

variable {k : Nat}

theorem estOf_updEst_self {f : EstStr → EstStr} (h : k < s.est.length) : (s.updEst k f).estOf k = f (s.estOf k) := by
  simp [estOf, List.getD_eq_getElem?_getD, h]

/-- What an update leaves of every string's state, it leaves of this one's, whether the string is there or not. -/
theorem estOf_updEst_keeps {β : Type} (g : EstStr → β) {f : EstStr → EstStr} (hg : ∀ e, g (f e) = g e) :
    g ((s.updEst k f).estOf k) = g (s.estOf k) := by
  by_cases h : k < s.est.length
  · rw [estOf_updEst_self h, hg]
  · rw [updEst, List.set_eq_of_length_le (Nat.le_of_not_lt h)]

theorem updEst_updEst (f g : EstStr → EstStr) : (s.updEst k f).updEst k g = s.updEst k (fun e => g (f e)) := by
  by_cases h : k < s.est.length
  · rw [updEst, estOf_updEst_self h, updEst_est, List.set_set]
    rfl
  · simp only [updEst, List.set_eq_of_length_le (Nat.le_of_not_lt h)]

theorem updEst_setF (f : Fld) (v : Nat) (g : EstStr → EstStr) : (s.setF f v).updEst k g = (s.updEst k g).setF f v := by
  unfold updEst
  rfl

end Str

/-! ### Pre-roll -/

section Preroll

variable {k m at_ o : Nat}

/-- The instant at which a pre-roll that starts now ends (Table 10-6). -/
def prerollUs (s : State) : Nat := s.dev.nowUs + 1000 * s.getF SURVEY.PREROLL_MS

/-- A string's pre-roll before its first module is armed: nothing of a window, from IDLE a new pass, on the active controller the excitation. -/
def prerollBegun (s : State) (k : Nat) : State :=
  let u := (s.setF (SURVEY.SV_STR_STATE k) svPREROLL).svReset k
  let u := if s.getF (SURVEY.SV_STR_STATE k) = svIDLE then u.updEst k (fun e => { e with passAt := 0, retry := [] }) else u
  if u.isActive then u.updShelf (fun x => { x with exc := x.exc.set k (some (u.dev.nowUs, none)) }) else u

/-- Module `m` is armed for the first set at or after `at_`, and its window planned for the instant `o`. -/
abbrev planned (s : State) (k m at_ o : Nat) : State := (s.svArm k m at_).svGoTo k m o

/-- The module that a pre-roll is for: from BLOCKED the one whose window was lost, else the first that surveys (R336). -/
def prerollModule (s : State) (k : Nat) : Option Nat :=
  if s.getF (SURVEY.SV_STR_STATE k) = svBLOCKED ∧ s.getF (SURVEY.SV_STR_MODULE k) ≠ 0 then some (s.getF (SURVEY.SV_STR_MODULE k)) else s.svNext k 0

theorem prerollBegun_rest : prerollBegun s k =
    { s.setF (SURVEY.SV_STR_STATE k) svPREROLL with est := (prerollBegun s k).est, shelf := (prerollBegun s k).shelf } := by
  unfold prerollBegun
  dsimp only
  split_ifs <;> rfl

theorem prerollBegun_getF (f : Fld) : (prerollBegun s k).getF f = (s.setF (SURVEY.SV_STR_STATE k) svPREROLL).getF f := by
  rw [prerollBegun_rest]
  rfl

/-- The survey's registers stand in page SURVEY; the mode and the role in their own. -/
theorem isActive_setState {k v : Nat} (hv : v < 2 ^ 3) : (s.setF (SURVEY.SV_STR_STATE k) v).isActive = s.isActive := by
  refine isActive_of_sets (sets_refl.field (SURVEY.SV_STR_STATE k) v hv (by simp) (by exact Nat.le_of_ble_eq_true rfl)) ?_ ?_ <;>
    simp only [List.nil_append, List.mem_singleton, forall_eq, Apart, DEV.MODE_STAT, RIDGE.PAIR_STAT, SURVEY.SV_STR] <;> omega

theorem isActive_updEst {k : Nat} (f : EstStr → EstStr) : (s.updEst k f).isActive = s.isActive := rfl

theorem prerollUs_begun : prerollUs (prerollBegun s k) = prerollUs s := by
  have haddr : SURVEY.PREROLL_MS.addr ≠ (SURVEY.SV_STR_STATE k).addr := by simp only [SURVEY.PREROLL, SURVEY.SV_STR]; omega
  rw [prerollUs, prerollBegun_getF, getF_setF_addr haddr, prerollBegun_rest]
  rfl

theorem tagAfter_begun (at_ : Nat) : (prerollBegun s k).tagAfter at_ = s.tagAfter at_ := by
  have haddr : SAMPLE.SET_CFG_PERIOD.addr ≠ (SURVEY.SV_STR_STATE k).addr := by simp only [SAMPLE.SET_CFG, SURVEY.SV_STR]; omega
  have hsample : (prerollBegun s k).sample = s.sample := by rw [prerollBegun_rest]; rfl
  simp only [tagAfter, prerollBegun_getF, getF_setF_addr haddr, hsample]

theorem exec_surveyPrerollStart {k : Fin 24} (hop : s.operating) (hst : s.getF (SURVEY.SV_STR_STATE k) = svIDLE ∨ s.getF (SURVEY.SV_STR_STATE k) = svBLOCKED)
    (hm : prerollModule s k = some m) (hfree : s.svBlocked k = false) (hl : s.dev.late = []) :
    exec (.surveyPrerollStart k) s = .next (planned (prerollBegun s k) k m (prerollUs s) (s.tagAfter (prerollUs s)).2) := by
  have hexec : exec (.surveyPrerollStart k) s = .next (planned (prerollBegun s k) k m (prerollUs (prerollBegun s k))
      ((prerollBegun s k).tagAfter (prerollUs (prerollBegun s k))).2) := by
    refine (show execSurveyPrerollStart k s = _ from heldRun_of_late_nil hl).trans ?_
    unfold prerollModule at hm
    simp only [hm]
    exact if_pos ⟨hop, hst, hfree⟩
  rw [hexec, prerollUs_begun, tagAfter_begun]

/-- A module is a node of the chain (R336). -/
theorem lt_of_svNext {a : Nat} (h : s.svNext k a = some m) : m < 32 := List.mem_range.1 (List.mem_of_find?_eq_some h)

/-- From IDLE the first module that surveys is the pre-roll's. -/
theorem prerollModule_idle (hst : s.getF (SURVEY.SV_STR_STATE k) = svIDLE) (hm : s.svNext k 0 = some m) : prerollModule s k = some m :=
  (if_neg fun h => absurd (hst.symm.trans h.1) (by decide)).trans hm

/-- A string's state as a pass starts with module `m` for the instant `o`: no window, no sample, none armed, none to retry. -/
def passStarted (m o : Nat) (e : EstStr) : EstStr :=
  { e with win := [], staged := [], opened := false, armed := none, batchDue := false, endDue := false, passAt := m, retry := [], openAt := o }

/-- A standby arms nothing and excites nothing: the state and the module are all that its registers show (R340). -/
theorem preroll_standby (hst : s.getF (SURVEY.SV_STR_STATE k) = svIDLE) (hact : s.isActive = false) :
    planned (prerollBegun s k) k m (prerollUs s) at_ =
      ((s.updEst k (passStarted m at_)).setF (SURVEY.SV_STR_STATE k) svPREROLL).setF (SURVEY.SV_STR_MODULE k) m := by
  have hquiet (f : EstStr → EstStr) : ((s.updEst k f).setF (SURVEY.SV_STR_STATE k) svPREROLL).isActive = false := by
    rw [isActive_setState (by decide), isActive_updEst, hact]
  simp only [planned, prerollBegun, svReset, svArm, svGoTo, hst, updEst_setF, updEst_updEst, hquiet, ↓reduceIte, Bool.false_eq_true, Nat.zero_max,
    List.filter_nil, ite_self]
  rfl

theorem goesSet_surveyPrerollStart_standby {k : Fin 24} (hop : s.operating) (hst : s.getF (SURVEY.SV_STR_STATE k) = svIDLE) (hm : s.svNext k 0 = some m)
    (hfree : s.svBlocked k = false) (hact : s.isActive = false) (hl : s.dev.late = []) :
    GoesSet (.surveyPrerollStart k) s (s.updEst k (passStarted m (s.tagAfter (prerollUs s)).2))
      [(SURVEY.SV_STR_MODULE k, m), (SURVEY.SV_STR_STATE k, svPREROLL)] :=
  goesSet_of_eq (exec_surveyPrerollStart hop (.inl hst) (prerollModule_idle hst hm) hfree hl) (preroll_standby hst hact)
    (sets_setF (sets_refl.indexed (SURVEY.SV_STR_STATE k) svPREROLL) (by exact Nat.le_of_ble_eq_true rfl) (by simp [Apart]) (lt_of_svNext hm))

/-- What arming a module touches beside the string's own state: the requests of its port (R114, R148). -/
theorem requested_svArm (hk : k < 24) : Requested (s.updEst k (fun e => { e with armed := some (m, (s.tagAfter at_).2) })) (s.svArm k m at_) := by
  unfold svArm
  dsimp only
  split
  exacts [(requested_ask hk _ _ _ _).trans (requested_ask hk _ _ _ _), .refl]

theorem Requested.getF (h : Requested s t) (f : Fld) : t.getF f = s.getF f := by rw [h.rest]; rfl
theorem Requested.estOf (h : Requested s t) (j : Nat) : t.estOf j = s.estOf j := by rw [h.rest]; rfl
theorem Requested.est (h : Requested s t) : t.est = s.est := by rw [h.rest]

theorem svArm_getF (hk : k < 24) (f : Fld) : (s.svArm k m at_).getF f = s.getF f := (requested_svArm hk).getF f
theorem svArm_shelf (hk : k < 24) : (s.svArm k m at_).shelf = s.shelf := (requested_svArm hk).shelf
theorem svArm_est_length (hk : k < 24) : (s.svArm k m at_).est.length = s.est.length := by rw [(requested_svArm hk).est, updEst_est, List.length_set]
theorem txKept_svArm (hk : k < 24) : TxKept s (s.svArm k m at_) := (requested_svArm hk).mem

/-- The armed module alone changes in the string's state. -/
theorem estOf_svArm {β : Type} (hk : k < 24) (g : EstStr → β) (hg : ∀ e x, g { e with armed := x } = g e) : g ((s.svArm k m at_).estOf k) = g (s.estOf k) := by
  rw [(requested_svArm hk).estOf]
  exact estOf_updEst_keeps g fun e => hg e _

-- The plan of a window leaves the string's state and its samples.
theorem planned_state (hk : k < 24) : (planned u k m at_ o).getF (SURVEY.SV_STR_STATE k) = u.getF (SURVEY.SV_STR_STATE k) :=
  (getF_setF_bits (by exact Nat.le_of_ble_eq_true rfl) (.inr (by exact Nat.le_of_ble_eq_true rfl)) m).trans (svArm_getF hk _)

theorem planned_module (hm : m < 32) : (planned u k m at_ o).getF (SURVEY.SV_STR_MODULE k) = m :=
  (getF_setF_self (by exact Nat.le_of_ble_eq_true rfl) m).trans (Nat.mod_eq_of_lt hm)

theorem planned_shelf (hk : k < 24) : (planned u k m at_ o).shelf = u.shelf := svArm_shelf hk

theorem planned_openAt (hk : k < 24) (hlen : k < u.est.length) : ((planned u k m at_ o).estOf k).openAt = o :=
  congrArg EstStr.openAt (estOf_updEst_self (s := (u.svArm k m at_).setF (SURVEY.SV_STR_MODULE k) m) (hlen.trans_eq (svArm_est_length hk).symm))

theorem planned_win (hk : k < 24) : ((planned u k m at_ o).estOf k).win = (u.estOf k).win := by
  refine Eq.trans ?_ (estOf_svArm (m := m) (at_ := at_) hk EstStr.win fun _ _ => rfl)
  exact estOf_updEst_keeps (s := (u.svArm k m at_).setF (SURVEY.SV_STR_MODULE k) m) EstStr.win fun _ => rfl

theorem txKept_planned (hk : k < 24) : TxKept u (planned u k m at_ o) := txKept_svArm hk

theorem prerollBegun_state : (prerollBegun s k).getF (SURVEY.SV_STR_STATE k) = svPREROLL :=
  (prerollBegun_getF _).trans ((getF_setF_self (by exact Nat.le_of_ble_eq_true rfl) _).trans rfl)

theorem prerollBegun_est_length : (prerollBegun s k).est.length = s.est.length := by
  unfold prerollBegun
  dsimp only
  split_ifs <;> simp only [svReset, updShelf_est, updEst_est, setF_est, List.length_set]

/-- A pre-roll begins without a sample. -/
theorem prerollBegun_win (h : k < s.est.length) : ((prerollBegun s k).estOf k).win = [] := by
  have hreset : (((s.setF (SURVEY.SV_STR_STATE k) svPREROLL).svReset k).estOf k).win = [] :=
    congrArg EstStr.win (estOf_updEst_self (s := s.setF (SURVEY.SV_STR_STATE k) svPREROLL) h)
  have hpass : ((((s.setF (SURVEY.SV_STR_STATE k) svPREROLL).svReset k).updEst k (fun e => { e with passAt := 0, retry := [] })).estOf k).win = [] := by
    refine Eq.trans ?_ hreset
    exact estOf_updEst_keeps EstStr.win fun _ => rfl
  unfold prerollBegun
  dsimp only
  split_ifs
  exacts [hpass, hpass, hreset, hreset]

/-- On the active controller the excitation starts with the pre-roll (R336). -/
theorem prerollBegun_exc (hact : s.isActive) (h : k < s.shelf.exc.length) : (prerollBegun s k).shelf.exc.getD k none = some (s.dev.nowUs, none) := by
  have hset : (s.shelf.exc.set k (some (s.dev.nowUs, none))).getD k none = some (s.dev.nowUs, none) := by simp [List.getD_eq_getElem?_getD, h]
  have hactive (f : EstStr → EstStr) : ((s.updEst k f).setF (SURVEY.SV_STR_STATE k) svPREROLL).isActive = true := by
    rw [isActive_setState (by decide), isActive_updEst, hact]
  unfold prerollBegun
  dsimp only
  split <;> simp only [svReset, updEst_setF, updEst_updEst, hactive, ↓reduceIte, updShelf_shelf] <;> exact hset

theorem txKept_prerollBegun : TxKept s (prerollBegun s k) := fun a _ => by
  rw [prerollBegun_rest]
  rfl

/-- The pre-roll of a string that is there: its state, its module, its instant, an empty window. -/
theorem goes_surveyPrerollStart {k : Fin 24} (hop : s.operating) (hst : s.getF (SURVEY.SV_STR_STATE k) = svIDLE ∨ s.getF (SURVEY.SV_STR_STATE k) = svBLOCKED)
    (hm : prerollModule s k = some m) (hlt : m < 32) (hfree : s.svBlocked k = false) (hlen : s.est.length = 24) (hl : s.dev.late = []) :
    Goes (.surveyPrerollStart k) s (fun t => t.getF (SURVEY.SV_STR_STATE k) = svPREROLL ∧ t.getF (SURVEY.SV_STR_MODULE k) = m ∧
      t.shelf = (prerollBegun s k).shelf ∧ (t.estOf k).openAt = (s.tagAfter (prerollUs s)).2 ∧ (t.estOf k).win = [] ∧ TxKept s t) := by
  have hthere : k.val < s.est.length := k.isLt.trans_eq hlen.symm
  exact ⟨_, exec_surveyPrerollStart hop hst hm hfree hl, (planned_state k.isLt).trans prerollBegun_state, planned_module hlt, planned_shelf k.isLt,
    planned_openAt k.isLt (hthere.trans_eq prerollBegun_est_length.symm), (planned_win k.isLt).trans (prerollBegun_win hthere),
    fun a ha => (txKept_planned k.isLt a ha).trans (txKept_prerollBegun a ha)⟩

/-- From BLOCKED the module comes again whose window was lost. -/
theorem prerollModule_blocked (hst : s.getF (SURVEY.SV_STR_STATE k) = svBLOCKED) (hm : s.getF (SURVEY.SV_STR_MODULE k) ≠ 0) :
    prerollModule s k = some (s.getF (SURVEY.SV_STR_MODULE k)) := if_pos ⟨hst, hm⟩

end Preroll

/-! ### Batches -/

section Batch

variable {k : Nat}

/-- A staged sample that a batch takes: of the string's module or of node 0, and not in the window yet (R337). -/
abbrev batchTakes (s : State) (k : Nat) (x : SurveySample) : Bool :=
  (x.node == s.getF (SURVEY.SV_STR_MODULE k) || x.node == 0) && !(s.estOf k).win.any (fun y => y.node == x.node && y.idx == x.idx)

/-- A window opens: what it watches starts anew (R338, Table 10-6). -/
def windowOpened (s : State) (k : Nat) : State :=
  (s.setF (SURVEY.SV_STR_STATE k) svWINDOW).updEst k (fun e => { e with
    opened := true, winBigI := false, clamped := false, disturbed := false
    steady := s.sensorsSteady k (s.getF (SURVEY.SV_STR_MODULE k)), winGate := s.gateOf k })

theorem windowOpened_state : (windowOpened s k).getF (SURVEY.SV_STR_STATE k) = svWINDOW := getF_setF_self (by exact Nat.le_of_ble_eq_true rfl) svWINDOW

theorem svOpen_cases : s.svOpen k = windowOpened s k ∨ ∃ a at_, s.svOpen k = (windowOpened s k).svArm k a at_ := by
  unfold svOpen
  dsimp only
  split
  exacts [.inr ⟨_, _, rfl⟩, .inl rfl]

theorem svOpen_state (hk : k < 24) : (s.svOpen k).getF (SURVEY.SV_STR_STATE k) = svWINDOW := by
  obtain h | ⟨a, at_, h⟩ := svOpen_cases (s := s) (k := k) <;> rw [h]
  exacts [windowOpened_state, (svArm_getF hk _).trans windowOpened_state]

/-- What arming a module leaves of the string's state is what the window opened with. -/
theorem estOf_svOpen {β : Type} (hk : k < 24) (g : EstStr → β) (hg : ∀ e x, g { e with armed := x } = g e) :
    g ((s.svOpen k).estOf k) = g ((windowOpened s k).estOf k) := by
  obtain h | ⟨a, at_, h⟩ := svOpen_cases (s := s) (k := k) <;> rw [h]
  exact estOf_svArm hk g hg

theorem svOpen_opened (hk : k < 24) (hlen : k < s.est.length) : ((s.svOpen k).estOf k).opened = true := by
  rw [estOf_svOpen hk EstStr.opened fun _ _ => rfl, windowOpened, estOf_updEst_self (by exact hlen)]

theorem svOpen_win (hk : k < 24) : ((s.svOpen k).estOf k).win = (s.estOf k).win := by
  rw [estOf_svOpen hk EstStr.win fun _ _ => rfl, windowOpened]
  exact estOf_updEst_keeps EstStr.win fun _ => rfl

theorem svOpen_endDue (hk : k < 24) : ((s.svOpen k).estOf k).endDue = (s.estOf k).endDue := by
  rw [estOf_svOpen hk EstStr.endDue fun _ _ => rfl, windowOpened]
  exact estOf_updEst_keeps EstStr.endDue fun _ => rfl

/-- The samples of a batch join the window. -/
def batchJoined (s : State) (k : Nat) : State :=
  let e := s.estOf k
  s.updEst k (fun x => { x with
    batchDue := false, win := x.win ++ e.staged.filter (batchTakes s k)
    staged := (e.staged.filter (fun x => !batchTakes s k x)).filter (fun x =>
      x.node == 0 || x.node == s.getF (SURVEY.SV_STR_MODULE k) || (e.armed.map (·.1)) == some x.node) })

/-- A batch that takes the first samples of a window opens it. -/
theorem svBatch_opens (hlen : k < s.est.length) (hopened : (s.estOf k).opened = false) (hsome : (s.estOf k).staged.filter (batchTakes s k) ≠ []) :
    s.svBatch k = (batchJoined s k).svOpen k := by
  have hest := estOf_updEst_self (f := fun (e : EstStr) => { e with batchDue := false }) hlen
  unfold svBatch
  simp only [hest, updEst_getF, List.partition_eq_filter_filter, updEst_updEst]
  refine (if_neg hsome).trans ((if_neg (by simp [hopened])).trans ?_)
  rfl

theorem svBatch_reads (hk : k < 24) (hlen : k < s.est.length) (hopened : (s.estOf k).opened = false)
    (hsome : (s.estOf k).staged.filter (batchTakes s k) ≠ []) :
    (s.svBatch k).getF (SURVEY.SV_STR_STATE k) = svWINDOW ∧ ((s.svBatch k).estOf k).opened = true ∧
      ((s.svBatch k).estOf k).win = (s.estOf k).win ++ (s.estOf k).staged.filter (batchTakes s k) ∧ ((s.svBatch k).estOf k).endDue = (s.estOf k).endDue := by
  have hjoined : k < (batchJoined s k).est.length := hlen.trans_eq (by simp [batchJoined])
  rw [svBatch_opens hlen hopened hsome]
  refine ⟨svOpen_state hk, svOpen_opened hk hjoined, ?_, ?_⟩
  · rw [svOpen_win hk, batchJoined, estOf_updEst_self hlen]
  · rw [svOpen_endDue hk, batchJoined]
    exact estOf_updEst_keeps EstStr.endDue fun _ => rfl

variable {k : Fin 24}

theorem goes_surveyBatch (hop : s.operating) (hest : s.pgRunning pEST) (hst : s.getF (SURVEY.SV_STR_STATE k) = svPREROLL) (hrun : s.pgRunning pSURVEY)
    (hfree : s.svFree) (hlen : s.est.length = 24) (hend : (s.estOf k).endDue = false) (hopened : (s.estOf k).opened = false)
    (hsome : (s.estOf k).staged.filter (batchTakes s k) ≠ []) (hl : s.dev.late = []) :
    Goes (.surveyBatch k) s (fun t => t = s.svBatch k ∧ t.getF (SURVEY.SV_STR_STATE k) = svWINDOW ∧ (t.estOf k).opened = true ∧
      (t.estOf k).win = (s.estOf k).win ++ (s.estOf k).staged.filter (batchTakes s k)) := by
  obtain ⟨hstate, hopen, hwin, hdue⟩ := svBatch_reads k.isLt (k.isLt.trans_eq hlen.symm) hopened hsome
  refine ⟨s.svBatch k, ?_, rfl, hstate, hopen, hwin⟩
  refine (show execSurveyBatch k s = _ from heldRun_of_late_nil hl).trans ((if_pos ⟨hop, hest, .inl ⟨hst, hrun⟩⟩).trans ((if_pos hfree).trans ?_))
  exact congrArg Host.Outcome.next (if_neg (by simp [hdue, hend]))

/-- While a set waits for the estimator the batch waits too (R23). -/
theorem goesSet_surveyBatch_waits (hop : s.operating) (hest : s.pgRunning pEST) (hst : s.getF (SURVEY.SV_STR_STATE k) = svWINDOW) (hfree : s.svFree = false)
    (hl : s.dev.late = []) : GoesSet (.surveyBatch k) s (s.updEst k (fun e => { e with batchDue := true })) [] :=
  ⟨_, (show execSurveyBatch k s = _ from heldRun_of_late_nil hl).trans ((if_pos ⟨hop, hest, .inr hst⟩).trans (if_neg (by simp [hfree]))), sets_refl⟩

end Batch

/-! ### The window's end -/

section WindowEnd

variable {k : Nat}

/-- A window at its end, which waits no more. -/
abbrev windowEnding (s : State) (k : Nat) : State := (s.setF (SURVEY.SV_STR_STATE k) svWINDOW).updEst k (fun e => { e with endDue := false })

/-- A register apart from the string's own reads as before. -/
theorem windowEnding_getF {f : Fld} (h : f.addr ≠ SURVEY.SV_STR k) : (windowEnding s k).getF f = s.getF f := getF_setF_addr h _

theorem windowEnding_freqs : (windowEnding s k).svFreqs = s.svFreqs := List.map_congr_left fun i hi => windowEnding_getF (by
  have := List.mem_range.1 hi
  simp only [SURVEY.FREQ, SURVEY.SV_STR]
  omega)

/-- The causes of R338 lie in the window and in settings, which its end does not touch. -/
theorem windowEnding_reason : (windowEnding s k).svReason k = s.svReason k := by
  have hwin : ((windowEnding s k).estOf k).win = (s.estOf k).win := estOf_updEst_keeps EstStr.win fun _ => rfl
  have hclamped : ((windowEnding s k).estOf k).clamped = (s.estOf k).clamped := estOf_updEst_keeps EstStr.clamped fun _ => rfl
  have hdisturbed : ((windowEnding s k).estOf k).disturbed = (s.estOf k).disturbed := estOf_updEst_keeps EstStr.disturbed fun _ => rfl
  have hcells : (windowEnding s k).getF (YPORT.PORT_CFG_CELLS k) = s.getF (YPORT.PORT_CFG_CELLS k) :=
    windowEnding_getF (by simp only [YPORT.PORT_CFG, SURVEY.SV_STR]; omega)
  have hmiss : (windowEnding s k).getF SURVEY.SV_CFG_MISS_MAX = s.getF SURVEY.SV_CFG_MISS_MAX :=
    windowEnding_getF (by simp only [SURVEY.SV_CFG, SURVEY.SV_STR]; omega)
  have hrated : (windowEnding s k).getReg SURVEY.I_RATED = s.getReg SURVEY.I_RATED := getReg_setF_ne _ (by simp only [SURVEY.I_RATED, SURVEY.SV_STR]; omega)
  have hamp (i : Nat) (hi : i < 4) : (windowEnding s k).getF (SURVEY.FREQ_AMP i) = s.getF (SURVEY.FREQ_AMP i) := windowEnding_getF (by
    simp only [SURVEY.FREQ, SURVEY.SV_STR]; omega)
  have hcurrent : (windowEnding s k).svCurrent k = s.svCurrent k := by simp only [svCurrent, hwin]
  have hcell : (windowEnding s k).svCell k = s.svCell k := funext fun c => by simp only [svCell, hwin]
  have hrange : List.range 4 = [0, 1, 2, 3] := rfl
  simp only [svReason, hwin, hclamped, hdisturbed, hcells, hmiss, hrated, hcurrent, hcell, windowEnding_freqs, hrange, List.any_cons, List.any_nil,
    hamp 0 (by decide), hamp 1 (by decide), hamp 2 (by decide), hamp 3 (by decide)]

theorem svEnd_stores (h : s.svReason k = 0) : s.svEnd k = ((windowEnding s k).svStore k).svAdvance k := if_pos (windowEnding_reason.trans h)

theorem svEnd_discards (h : s.svReason k ≠ 0) : s.svEnd k =
    (((windowEnding s k).svDiscard k (s.svReason k)).updEst k (fun e => { e with retry := e.retry ++ [s.getF (SURVEY.SV_STR_MODULE k)] })).svAdvance k := by
  have hmodule : (windowEnding s k).getF (SURVEY.SV_STR_MODULE k) = s.getF (SURVEY.SV_STR_MODULE k) :=
    getF_setF_bits (by exact Nat.le_of_ble_eq_true rfl) (.inl (by exact Nat.le_of_ble_eq_true rfl)) _
  refine (if_neg fun h0 => h (windowEnding_reason.symm.trans h0)).trans ?_
  rw [windowEnding_reason, hmodule]

variable {k : Fin 24} (hop : s.operating) (hest : s.pgRunning pEST)
  (hst : s.getF (SURVEY.SV_STR_STATE k) = svWINDOW ∨ s.getF (SURVEY.SV_STR_STATE k) = svPREROLL)
  (hover : (s.estOf k).openAt + 4000000 ≤ s.dev.nowUs) (hl : s.dev.late = [])
include hop hest hst hover hl

theorem exec_surveyWindowEnd (hfree : s.svFree) : exec (.surveyWindowEnd k) s = .next (s.svEnd k) :=
  (show execSurveyWindowEnd k s = _ from heldRun_of_late_nil hl).trans ((if_pos ⟨hop, hest, hst, hover⟩).trans (if_pos hfree))

/-- While a set waits for the estimator the end waits too (R23). -/
theorem goesSet_surveyWindowEnd_waits (hfree : s.svFree = false) :
    GoesSet (.surveyWindowEnd k) s (s.updEst k (fun e => { e with endDue := true })) [] :=
  ⟨_, (show execSurveyWindowEnd k s = _ from heldRun_of_late_nil hl).trans ((if_pos ⟨hop, hest, hst, hover⟩).trans (if_neg (by simp [hfree]))), sets_refl⟩

end WindowEnd

/-! ### BLOCKED and GAP -/

section Stands

variable {k : Fin 24}

theorem exec_surveyBlocked (hp : s.powered) (hst : s.getF (SURVEY.SV_STR_STATE k) = svPREROLL ∨ s.getF (SURVEY.SV_STR_STATE k) = svWINDOW)
    (hblocked : s.svBlocked k) (hl : s.dev.late = []) :
    exec (.surveyBlocked k) s = .next ((((s.setF (SURVEY.SV_STR_STATE k) svBLOCKED).svQuiet k).svDiscard k 6).svReset k) :=
  (show execSurveyBlocked k s = _ from heldRun_of_late_nil hl).trans (if_pos ⟨hp, hst, hblocked⟩)

theorem goesSet_surveyGapEnd (hp : s.powered) (hst : s.getF (SURVEY.SV_STR_STATE k) = svGAP) (hgap : (s.estOf k).gapUntil ≤ s.dev.nowUs) :
    GoesSet (.surveyGapEnd k) s s [(SURVEY.SV_STR_STATE k, svIDLE)] :=
  ⟨_, if_pos ⟨hp, hst, hgap⟩, sets_refl.indexed (SURVEY.SV_STR_STATE k) svIDLE⟩

end Stands

/-- Settles O15: a pre-roll by the controller's role and the state it starts from, a batch and a window's end by whether a set waits, an end by whether the
window has a cause of discard, then BLOCKED and GAP. -/
theorem surveyMoves : Obligations.SurveyMoves := by
  unfold Obligations.SurveyMoves
  refine ⟨fun k m s hop hst hm hfree hact hl => goesSet_surveyPrerollStart_standby hop hst hm hfree hact hl,
    fun k m s hop hst hm hfree hact hexc hlen hl => ?_,
    fun k s hop hst hm hfree _ hlen hl => ?_,
    fun k s hop hest hst hrun hfree hlen hend hopened hsome hl => goes_surveyBatch hop hest hst hrun hfree hlen hend hopened hsome hl,
    fun k s hop hest hst hfree hl => goesSet_surveyBatch_waits hop hest hst hfree hl, fun k s hop hest hst hover hfree hreason hl => ?_,
    fun k s hop hest hst hover hfree hreason hl => ?_, fun k s hop hest hst hover hfree hl => goesSet_surveyWindowEnd_waits hop hest (.inl hst) hover hl hfree,
    fun k s hp hst hblocked hl => exec_surveyBlocked hp hst hblocked hl, fun k s hp hst hgap => goesSet_surveyGapEnd hp hst hgap⟩
  · obtain ⟨t, ht, hstate, hmodule, hshelf, hopen, hwin, hmem⟩ :=
      goes_surveyPrerollStart hop (.inl hst) (prerollModule_idle hst hm) (lt_of_svNext hm) hfree hlen hl
    refine ⟨t, ht, hstate, hmodule, ?_, hopen, hwin, hmem⟩
    rw [hshelf, prerollBegun_exc hact (k.isLt.trans_eq hexc.symm)]
  · obtain ⟨t, ht, hstate, hmodule, -, hopen, hwin, hmem⟩ :=
      goes_surveyPrerollStart hop (.inr hst) (prerollModule_blocked hst hm) (getF_lt s (SURVEY.SV_STR_MODULE k)) hfree hlen hl
    exact ⟨t, ht, hstate, hmodule, hopen, hwin, hmem⟩
  · rw [exec_surveyWindowEnd hop hest hst hover hl hfree, svEnd_stores hreason]
  · rw [exec_surveyWindowEnd hop hest hst hover hl hfree, svEnd_discards hreason]

end Sys2Proof.Proofs
end

section
/-! SUPPORT. The protections of a local rail and of its phases (chapter 11): what a report shows, what FAULT_OFF leaves of the rail's settings, the sense
line, shedding, and the rail cornice. -/

namespace Sys2Proof.Proofs

open Machine Machine.State Laws

-- One proof after the other: side by side they take more threads than the check's memory has stacks for.
set_option Elab.async false

variable {s t : State} {r : Nat}

/-! ### A report with its reason (R376) -/

/-- A rail fault shows its reason in LAST_REASON, then its source is raised with the rail's current. -/
theorem goesRaise_of_railRaise {i : Instr} {u : State} {r : Fin 8} {reason : Nat} (he : exec i s = .next (u.railRaise r reason))
    (hreason : reason < 2 ^ 4 := by decide) :
    GoesRaise i s u [(RAIL.RAIL_STAT_LAST_REASON r, reason)] (128 + r) (u.railData r reason) :=
  goesRaise_of_eq he (sets_refl.indexed (RAIL.RAIL_STAT_LAST_REASON r) reason hreason)

/-! ### FAULT_OFF leaves the rail's settings -/

/-- The registers that a rail's way to FAULT_OFF writes: the logs' with the record of a resolution (R375), the status of the rail and its cornice, the
reference and feed-forward in effect, and those of PHASE. -/
def FaultReg (r a : Nat) : Prop :=
  LogReg a ∨ a = RAIL.RAIL_STAT r ∨ a = RAIL.VREF_EFF r ∨ a = RAIL.CN_STAT r ∨ a = RAIL.CN_FF r ∨ PHASE.PH_STAT 0 ≤ a

theorem faultReg_stat : FaultReg r (RAIL.RAIL_STAT r) := .inr (.inl rfl)

theorem faultReg_vrefEff : FaultReg r (RAIL.VREF_EFF r) := .inr (.inr (.inl rfl))

theorem faultReg_cnStat : FaultReg r (RAIL.CN_STAT r) := .inr (.inr (.inr (.inl rfl)))

theorem faultReg_cnFf : FaultReg r (RAIL.CN_FF r) := .inr (.inr (.inr (.inr (.inl rfl))))

theorem not_faultReg_cfg (r : Fin 8) : ¬ FaultReg r (RAIL.RAIL_CFG r) := by
  simp only [FaultReg, LogReg, RAIL.RAIL_CFG, RAIL.RAIL_STAT, RAIL.VREF_EFF, RAIL.CN_STAT, RAIL.CN_FF, PHASE.PH_STAT, FCOL.COND, FCOL.EVT, pFCOL, pCAIRN]
  omega

theorem regsKept_updPhase (h : RegsKept (FaultReg r) s t) {p : Nat} {f : PhaseSt → PhaseSt} : RegsKept (FaultReg r) s (t.updPhase p f) := h

theorem regsKept_setPhase (h : RegsKept (FaultReg r) s t) (p st : Nat) : RegsKept (FaultReg r) s (t.setPhase p st) := by
  have hstate : FaultReg r (PHASE.PH_STAT p) := by simp only [FaultReg, PHASE.PH_STAT]; omega
  unfold setPhase
  dsimp only
  exact regsKept_setF (f := PHASE.PH_STAT_STATE p) (regsKept_updPhase (regsKept_ite h (regsKept_ite (regsKept_updPhase h) h))) hstate st

theorem regsKept_railCounts (h : RegsKept (FaultReg r) s t) : RegsKept (FaultReg r) s (t.railCounts r) := by
  have hcounts (v w : Nat) : RegsKept (FaultReg r) s ((t.setF (RAIL.RAIL_STAT_N_PART r) v).setF (RAIL.RAIL_STAT_SHEDDING r) w) :=
    regsKept_setF (regsKept_setF h faultReg_stat v) faultReg_stat w
  exact regsKept_ite (regsKept_setF (hcounts _ _) faultReg_cnStat _)
    (regsKept_setF (regsKept_setF (hcounts _ _) faultReg_cnStat _) faultReg_stat _)

theorem regsKept_cnRecord (h : RegsKept (FaultReg r) s t) (src : Nat) (d : List Nat) : RegsKept (FaultReg r) s (t.cnRecord src d) := fun a ha =>
  ((logged_cnRecord src d).regs a fun hlog => ha (.inl hlog)).trans (h a ha)

theorem regsKept_railCnFault (h : RegsKept (FaultReg r) s t) : RegsKept (FaultReg r) s (t.railCnFault r) := by
  unfold railCnFault
  dsimp only
  refine regsKept_ite (regsKept_cnRecord (regsKept_railCounts ?_) _ _) (regsKept_setReg h faultReg_cnFf _)
  refine regsKept_setF (regsKept_setReg (regsKept_setF ?_ faultReg_stat _) faultReg_cnFf _) faultReg_cnStat _
  exact regsKept_ite h (regsKept_setF h faultReg_cnStat _)

theorem regsKept_railRest (h : RegsKept (FaultReg r) s t) : RegsKept (FaultReg r) s (t.railRest r) := by
  refine regsKept_setF (regsKept_setF (regsKept_setF ?_ faultReg_stat _) faultReg_stat _) faultReg_stat _
  exact List.foldlRecOn (motive := RegsKept (FaultReg r) s) _ _ h fun u hu p _ => regsKept_setPhase hu p _

theorem regsKept_railLevel (h : RegsKept (FaultReg r) s t) (l : Pwm) : RegsKept (FaultReg r) s (t.railLevel r l) :=
  List.foldlRecOn (motive := RegsKept (FaultReg r) s) _ _ h fun _ hu _ _ => hu

theorem regsKept_railFaultOff (l : Pwm) : RegsKept (FaultReg r) s (s.railFaultOff r l) := by
  have hlevel := regsKept_railLevel (regsKept_railRest (regsKept_railCnFault (regsKept_refl (p := FaultReg r) (s := s)))) l
  exact regsKept_setF (regsKept_railCounts (regsKept_ite (regsKept_setReg hlevel faultReg_vrefEff _) hlevel)) faultReg_stat _

theorem railFaultOff_vlocEn (r : Fin 8) (l : Pwm) : (s.railFaultOff r l).getB (RAIL.RAIL_CFG_VLOC_EN r) = s.getB (RAIL.RAIL_CFG_VLOC_EN r) :=
  congrArg (fun x => decide (x = 1)) (getF_of_regsKept (regsKept_railFaultOff l) (not_faultReg_cfg r))

/-! ### Over-voltage (R361) and an open sense line (R372) -/

section Sense

variable {r : Fin 8} {v : Nat} (hlive : s.railLive r)
include hlive

theorem exec_railOv_local (hsw : s.railSwitching r) (hloc : s.getB (RAIL.RAIL_CFG_VLOC_EN r)) :
    exec (.railOv r) s = .next ((s.railFaultOff r (s.ovLevel r)).railRaise r 1) :=
  (if_pos ⟨hlive, hsw⟩).trans (if_pos ((railFaultOff_vlocEn r _).trans hloc))

theorem exec_railOv_held (hsw : s.railSwitching r) (hloc : s.getB (RAIL.RAIL_CFG_VLOC_EN r) = false) :
    exec (.railOv r) s = .next ((s.railFaultOff r (s.ovLevel r)).updRail r (fun x => { x with ovHeld := true })) :=
  (if_pos ⟨hlive, hsw⟩).trans (if_neg (Bool.eq_false_iff.1 ((railFaultOff_vlocEn r _).trans hloc)))

/-- A rail that switches is not in FAULT_OFF: no report of it is held. -/
theorem exec_senseOpenDetect_switching (hsw : s.railSwitching r) : exec (.senseOpenDetect r v) s =
    if s.getB (RAIL.RAIL_CFG_VLOC_EN r) then
      if s.ovPv r (s.vrefEffPv r) < v * 10 ^ 8 then .next (((s.raise (136 + r) []).railFaultOff r (s.ovLevel r)).railRaise r 1)
      else .next ((s.raise (136 + r) []).setF (RAIL.RAIL_STAT_VLOC_IN_USE r) 1)
    else .next (((s.raise (136 + r) []).railFaultOff r .mid).railRaise r 6) := by
  have hfault : ¬ (s.railState r = rlFAULT_OFF ∧ (s.rail_ r).ovHeld) := fun ⟨h, _⟩ => by simp [railSwitching, h] at hsw
  exact (if_neg (by simp [hlive])).trans ((if_neg hfault).trans (if_pos hsw))

theorem exec_senseOpenDetect_local (hsw : s.railSwitching r) (hloc : s.getB (RAIL.RAIL_CFG_VLOC_EN r))
    (hov : v * 10 ^ 8 ≤ s.ovPv r (s.vrefEffPv r)) :
    exec (.senseOpenDetect r v) s = .next ((s.raise (136 + r) []).setF (RAIL.RAIL_STAT_VLOC_IN_USE r) 1) :=
  (exec_senseOpenDetect_switching hlive hsw).trans ((if_pos hloc).trans (if_neg (Nat.not_lt.2 hov)))

theorem exec_senseOpenDetect_lost (hsw : s.railSwitching r) (hloc : s.getB (RAIL.RAIL_CFG_VLOC_EN r) = false) :
    exec (.senseOpenDetect r v) s = .next (((s.raise (136 + r) []).railFaultOff r .mid).railRaise r 6) :=
  (exec_senseOpenDetect_switching hlive hsw).trans (if_neg (Bool.eq_false_iff.1 hloc))

theorem exec_senseOpenDetect_held (hst : s.railState r = rlFAULT_OFF) (hheld : (s.rail_ r).ovHeld) : exec (.senseOpenDetect r v) s =
    .next ((((s.raise (136 + r) []).updRail r (fun x => { x with ovHeld := false })).railLevel r .mid).railRaise r 6) :=
  (if_neg (by simp [hlive])).trans (if_pos ⟨hst, hheld⟩)

end Sense

/-! ### Phases (R366, R369, R370) -/

section Phases

variable {p : Nat}

theorem exec_phaseShedStart {r : Fin 8} (hsw : s.railSwitching r) (hnone : (s.rail_ r).shed = none) (hpos : 0 < (s.rail_ r).shedRun)
    (hlasts : s.railLasts r (s.rail_ r).shedRun (1000 * s.getF (RAIL.SHED_CFG_HOLDOFF_MS r))) (hlast : (s.phIn r phACTIVE).getLast? = some p) :
    exec (.phaseShedStart r) s = .next (((s.setPhase p phSHEDDING).updRail r (fun x => { x with shed := some (p, 0) })).railCounts r) :=
  (if_pos ⟨hsw, hnone, hpos, hlasts⟩).trans (by rw [hlast])

theorem exec_phaseShedComplete {r : Fin 8} {k : Nat} (hshed : (s.rail_ r).shed = some (p, k)) (hk : 8 ≤ k) : exec (.phaseShedComplete r) s =
    .next (((((s.setPhase p phSHED).updPhase p (fun z => { z with pwm := .mid, shadow := .mid })).updRail r
      (fun x => { x with shed := none, shedRun := 0 })).incSat (RAIL.CNT_SHEDS r)).railCounts r) := by
  have hexec : exec (.phaseShedComplete r) s = execPhaseShedComplete r s := rfl
  rw [hexec, execPhaseShedComplete, hshed]
  exact if_pos hk

variable {p : Fin 16}

/-- The fence of an open phase, with its report (R369). -/
def openFenced (s : State) (p : Nat) : State := ((s.fencePhase p).setF (PHASE.PH_STAT_REASON p) 1).raise (112 + p) (s.phaseData p 1)

theorem exec_phaseOpen (hst : s.phState p = phACTIVE) (hrun : 16 ≤ (s.phase_ p).openRun) : exec (.phaseOpen p) s =
    .next (if (openFenced s p).mode = mRUN then (openFenced s p).setMode mDEGRADED else openFenced s p) := if_pos ⟨hst, hrun⟩

variable (hst : s.phState p = phACTIVE ∨ s.phState p = phSHEDDING)
include hst

/-- A sense out of range needs no count (R370). -/
theorem exec_phaseSenseFail_alone (hnone : s.railOf p = none) : exec (.phaseSenseFail p .range) s =
    .next (((s.setPhase p phSENSE_FAILED).setF (PHASE.PH_STAT_REASON p) 3).raise (112 + p) (s.phaseData p 3)) := by
  have hexec : exec (.phaseSenseFail p .range) s = execPhaseSenseFail p .range s := rfl
  rw [hexec, execPhaseSenseFail, hnone]
  exact if_pos ⟨hst, rfl⟩

theorem exec_phaseSenseFail_owned (hrail : s.railOf p = some r) : exec (.phaseSenseFail p .range) s =
    .next (((((s.setPhase p phSENSE_FAILED).updRail r (fun z => { z with shed := if (z.shed.map Prod.fst) = some p.val then none else z.shed })).railCounts
      r).setF (PHASE.PH_STAT_REASON p) 3).raise (112 + p) (s.phaseData p 3)) := by
  have hexec : exec (.phaseSenseFail p .range) s = execPhaseSenseFail p .range s := rfl
  rw [hexec, execPhaseSenseFail, hrail]
  exact if_pos ⟨hst, rfl⟩

end Phases

/-! ### The rail cornice (R373, R374) -/

section Cornice

variable {q : Requester} {r : Fin 8} {n : BitVec 5} {w : Half}

/-- PREP with GO, the phases and the window asked for. -/
abbrev prepWord (n : BitVec 5) (w : Half) : Nat := 2 ^ 31 + n.toNat * 2 ^ 16 + w.toNat

theorem prepWord_go (n : BitVec 5) (w : Half) : (BitVec.ofNat 32 (prepWord n w)).getLsbD 31 = true := by
  have hn := n.isLt
  have hw := w.isLt
  have hword : prepWord n w = n.toNat * 2 ^ 16 + w.toNat + 8 * 2 ^ 28 := by simp only [prepWord]; omega
  rw [hword]
  exact getLsbD_command (x := n.toNat * 2 ^ 16 + w.toNat) (c := 8) (b := 3) (by omega) (by decide)

theorem exec_railPrepGo (h : Accepts s q (RAIL.PREP r) (prepWord n w)) :
    exec (.railPrepGo q r n w) s = .next (railPrepGo r (Stored s q (RAIL.PREP r) (prepWord n w))) :=
  congrArg Host.Outcome.next ((hostWrite_accepted h (regAt_prep r)).trans (if_pos ⟨rfl, prepWord_go n w⟩))

/-- The rail is ready for a cornice: it regulates with power good, none is open or waits, and the step and its feed-forward are numbers (R373). -/
structure PrepReady (s : State) (r : Nat) : Prop where
  state : s.railState r = rlREGULATING
  pg : s.getB (RAIL.RAIL_STAT_PG r)
  shut : s.getB (RAIL.RAIL_STAT_CN_OPEN r) = false
  free : (s.rail_ r).cnPend = false
  finite : F32.isFinite (s.getReg (RAIL.PREP_I r))
  positive : F32.lt 0 (s.getReg (RAIL.PREP_I r))
  fed : F32.isFinite (s.getReg (RAIL.PREP_FF r))

theorem railPrepGo_of_ready (h : PrepReady s r) :
    railPrepGo r s = (s.updRail r (fun x => { x with cnPend := true })).setF (RAIL.RAIL_STAT_CN_REFUSED r) 0 :=
  if_pos ⟨h.state, h.pg, h.shut, h.free, h.finite, h.positive, h.fed⟩

/-- A write of PREP leaves the rail's other registers. -/
theorem stored_prep_getReg {v a : Nat} (ha : a ≠ RAIL.PREP r) (hblock : 0x20 ≤ a % 0x1000) : (Stored s q (RAIL.PREP r) v).getReg a = s.getReg a :=
  stored_getReg (homeOf_plain (by simp only [RAIL.PREP, pESTPROF]; omega) (.inl (by simp only [RAIL.PREP, pPMBUS]; omega))) ha
    (by simp only [pgChg]; omega)

/-- A write of PREP leaves the rail as ready as it was. -/
theorem stored_prepReady {v : Nat} (h : PrepReady s r) : PrepReady (Stored s q (RAIL.PREP r) v) r := by
  have hstat : (Stored s q (RAIL.PREP r) v).getReg (RAIL.RAIL_STAT r) = s.getReg (RAIL.RAIL_STAT r) :=
    stored_prep_getReg (by simp) (by simp only [RAIL.RAIL_STAT]; omega)
  have hstep : (Stored s q (RAIL.PREP r) v).getReg (RAIL.PREP_I r) = s.getReg (RAIL.PREP_I r) :=
    stored_prep_getReg (by simp) (by simp only [RAIL.PREP_I]; omega)
  have hff : (Stored s q (RAIL.PREP r) v).getReg (RAIL.PREP_FF r) = s.getReg (RAIL.PREP_FF r) :=
    stored_prep_getReg (by simp) (by simp only [RAIL.PREP_FF]; omega)
  have hfield (lo w : Nat) : (Stored s q (RAIL.PREP r) v).getF ⟨RAIL.RAIL_STAT r, lo, w⟩ = s.getF ⟨RAIL.RAIL_STAT r, lo, w⟩ :=
    congrArg (bitsOf · lo w) hstat
  have hbit (lo : Nat) : (Stored s q (RAIL.PREP r) v).getB ⟨RAIL.RAIL_STAT r, lo, 1⟩ = s.getB ⟨RAIL.RAIL_STAT r, lo, 1⟩ :=
    congrArg (fun x => decide (x = 1)) (hfield lo 1)
  have hrail : (Stored s q (RAIL.PREP r) v).rail_ r = s.rail_ r := rail_of_rail_eq (by rw [stored_rest])
  exact ⟨(hfield 0 3).trans h.state, (hbit 16).trans h.pg, (hbit 21).trans h.shut, by rw [hrail]; exact h.free, hstep ▸ h.finite, hstep ▸ h.positive,
    hff ▸ h.fed⟩

theorem goes_railPrepGo (h : Accepts s q (RAIL.PREP r) (prepWord n w)) (hready : PrepReady s r) : Goes (.railPrepGo q r n w) s (fun t =>
    Sets ((Stored s q (RAIL.PREP r) (prepWord n w)).updRail r (fun x => { x with cnPend := true })) t [(RAIL.RAIL_STAT_CN_REFUSED r, 0)]) :=
  ⟨_, (exec_railPrepGo h).trans (congrArg Host.Outcome.next (railPrepGo_of_ready (stored_prepReady hready))),
    sets_refl.indexed (RAIL.RAIL_STAT_CN_REFUSED r) 0⟩

/-- The window ends without a confirm: the feed-forward falls over eight periods (R374). -/
theorem goesSet_railCorniceWindowEnd (hopen : s.getB (RAIL.RAIL_STAT_CN_OPEN r)) (hup : (s.rail_ r).cnDown = 0)
    (hlasts : s.railLasts r (s.rail_ r).cnAge (s.getF (RAIL.PREP_WIN_US r))) : GoesSet (.railCorniceWindowEnd r) s
      (s.updRail r (fun x => { x with cnDown := 8, cnFrom := s.getReg (RAIL.CN_FF r), shedRun := 0 }))
      [(RAIL.CN_STAT_OUTCOME r, ocMISS), oneMore s (RAIL.CN_STAT_MISS r)] :=
  ⟨_, if_pos ⟨hopen, hup, hlasts⟩, sets_setF (sets_incSat sets_refl (by decide : 16 + 8 ≤ 32) (by simp)) (by decide : 12 + 4 ≤ 32)
    (by simp [oneMore, Apart]) (by decide : ocMISS < 2 ^ 4)⟩

end Cornice

/-! ### The obligation -/

/-- Settles O17: the reports over one lemma about a report's reason, over-voltage and the sense line by the local sense, which FAULT_OFF leaves as it is set,
the phases by what their commands answer, and the cornice over a rail that stays ready when PREP is written. -/
theorem railProtections : Obligations.RailProtections := by
  unfold Obligations.RailProtections
  refine ⟨fun r s hst hpos hnew hlasts => goesRaise_of_railRaise (if_pos ⟨hst, hpos, hnew, hlasts⟩),
    fun r s hsw hpos hrun => goesRaise_of_railRaise (if_pos ⟨hsw, hpos, hrun⟩),
    fun r s hsw hpos hnew hlasts => goesRaise_of_railRaise (if_pos ⟨hsw, hpos, hnew, hlasts⟩),
    fun r s hlive hsw hloc => exec_railOv_local hlive hsw hloc, fun r s hlive hsw hloc => exec_railOv_held hlive hsw hloc,
    fun r s hheld => goesRaise_of_railRaise (if_pos hheld),
    fun r v s hlive hsw hloc hov => exec_senseOpenDetect_local hlive hsw hloc hov,
    fun r v s hlive hsw hloc => exec_senseOpenDetect_lost hlive hsw hloc,
    fun r v s hlive hst hheld => exec_senseOpenDetect_held hlive hst hheld,
    fun r p s hsw hnone hpos hlasts hlast => exec_phaseShedStart hsw hnone hpos hlasts hlast,
    fun r p k s hshed hk => exec_phaseShedComplete hshed hk,
    fun p s hst hrun => ⟨_, exec_phaseOpen hst hrun, _, rfl, fun hmode => if_pos hmode, fun hmode => if_neg hmode⟩,
    fun p s hst hnone => exec_phaseSenseFail_alone hst hnone, fun p r s hst hrail => exec_phaseSenseFail_owned hst hrail,
    fun q r n w s h hst hpg hshut hfree hi hpos hff => goes_railPrepGo h ⟨hst, hpg, hshut, hfree, hi, hpos, hff⟩,
    fun r s hopen hup hlasts => goesSet_railCorniceWindowEnd hopen hup hlasts⟩

end Sys2Proof.Proofs
end

section
/-! SUPPORT. The rails' timebase (R350, R351) and the NTC inputs (R562). -/

namespace Sys2Proof.Proofs

open Machine Machine.State Laws

-- One proof after the other: side by side they take more threads than the check's memory has stacks for.
set_option Elab.async false

variable {s : State}

/-! ### The timebase's input and its loss -/

section Edge

variable {per : Nat} {err : Int} (ho : s.operating) (hrun : s.pgRunning pRSYNC) (hen : s.getB RSYNC.TB_CFG_SYNC_EN)
include ho hrun hen

/-- An edge before the sixteenth of a permitted period in a row only counts (R350). -/
theorem exec_syncInEdge_counted (hlo : 500 ≤ per) (hhi : per ≤ 10000)
    (hdev : (max (10 ^ 6) (s.getF RSYNC.TB_CFG_TB_KHZ * per) - min (10 ^ 6) (s.getF RSYNC.TB_CFG_TB_KHZ * per)) * 10 ≤ s.getF RSYNC.TB_CFG_TB_KHZ * per)
    (hfew : s.tb.accepted < 15) : exec (.syncInEdge per err) s = .next { s with tb := { s.tb with accepted := s.tb.accepted + 1 } } := by
  have hcount : min (s.tb.accepted + 1) 16 = s.tb.accepted + 1 := by omega
  refine (if_pos ⟨ho, hrun, hen⟩).trans ((if_pos ⟨hlo, hhi, hdev⟩).trans ((if_pos (by omega)).trans ?_))
  rw [hcount]

theorem exec_syncInEdge_refused (hout : per < 500 ∨ 10000 < per) :
    exec (.syncInEdge per err) s = .next { s with tb := { s.tb with accepted := 0 } } :=
  (if_pos ⟨ho, hrun, hen⟩).trans (if_neg (by omega))

end Edge

theorem goesSet_syncInLoss (ho : s.operating) (hrun : s.pgRunning pRSYNC) (hst : s.getF RSYNC.TB_STAT_STATE = 1 ∨ s.getF RSYNC.TB_STAT_STATE = 2) :
    GoesSet .syncInLoss s { s with tb := { s.tb with accepted := 0, inLock := 0 } } [(RSYNC.TB_STAT_STATE, 3), oneMore s RSYNC.SYNC_CNT_LOSSES] :=
  ⟨_, if_pos ⟨ho, hrun, hst⟩, sets_setF (sets_incSat sets_refl (by decide) (by simp)) (by decide) (by simp [oneMore, Apart]) (by decide)⟩

/-- The timebase is at its configured frequency. -/
abbrev glided (s : State) : State := { s with tb := { s.tb with freqHz := 1000 * s.getF RSYNC.TB_CFG_TB_KHZ } }

theorem exec_glideEnd (hst : s.getF RSYNC.TB_STAT_STATE = 3)
    (hnear : max s.tb.freqHz (1000 * s.getF RSYNC.TB_CFG_TB_KHZ) - min s.tb.freqHz (1000 * s.getF RSYNC.TB_CFG_TB_KHZ) ≤ s.glideStep s.cycleUs) :
    exec .glideEnd s = .next (((glided s).setF RSYNC.TB_STAT_FREQ_KHZ (s.getF RSYNC.TB_CFG_TB_KHZ)).setF RSYNC.TB_STAT_STATE 0) :=
  if_pos ⟨hst, hnear⟩

theorem goesSet_glideEnd (hst : s.getF RSYNC.TB_STAT_STATE = 3)
    (hnear : max s.tb.freqHz (1000 * s.getF RSYNC.TB_CFG_TB_KHZ) - min s.tb.freqHz (1000 * s.getF RSYNC.TB_CFG_TB_KHZ) ≤ s.glideStep s.cycleUs) :
    GoesSet .glideEnd s (glided s) [(RSYNC.TB_STAT_STATE, 0), (RSYNC.TB_STAT_FREQ_KHZ, s.getF RSYNC.TB_CFG_TB_KHZ)] :=
  have hfreq : Sets (glided s) ((glided s).setF RSYNC.TB_STAT_FREQ_KHZ (s.getF RSYNC.TB_CFG_TB_KHZ)) [(RSYNC.TB_STAT_FREQ_KHZ, s.getF RSYNC.TB_CFG_TB_KHZ)] :=
    sets_refl.field RSYNC.TB_STAT_FREQ_KHZ _ (getF_lt s RSYNC.TB_CFG_TB_KHZ)
  ⟨_, exec_glideEnd hst hnear, sets_setF hfreq (by decide) (by simp [Apart]) (by decide)⟩

/-! ### The NTC inputs -/

section Ntc

variable {l : List (BitVec 12)}

/-- The eight NTC words as their codes give them (Table 19-16). -/
def ntcShown (s : State) (l : List (BitVec 12)) : State := forAll 8 (fun s n => s.setN (CLKPWR.NTC n) (ntcWord (l.getD n 0).toNat)) s

theorem exec_ntcMeasurement (hp : s.powered) (hup : s.dev.regionDown.contains .rail = false) :
    exec (.ntcMeasurement l) s = .next (ntcShown s l) := if_pos ⟨hp, by rw [hup]; rfl⟩

/-- What holds at a loop's start and is kept by each of its steps holds at its end. -/
theorem forAll_induct {m : Nat} {f : State → Nat → State} {motive : State → Prop} (h : motive s)
    (hstep : ∀ t, ∀ k < m, motive t → motive (f t k)) : motive (forAll m f s) :=
  List.foldlRecOn (List.range m) f h fun t ht k hk => hstep t k (List.mem_range.1 hk) ht

/-- The words of the eight inputs. -/
abbrev NtcReg (a : Nat) : Prop := ∃ n : Fin 8, a = CLKPWR.NTC n

theorem ntcShown_kept : RegsKept NtcReg s (ntcShown s l) ∧ ntcShown s l = { s with regs := (ntcShown s l).regs } :=
  forAll_induct (motive := fun t => RegsKept NtcReg s t ∧ t = { s with regs := t.regs }) ⟨regsKept_refl, rfl⟩ fun t n hn ht => by
    obtain ⟨hregs, hrest⟩ := ht
    have hreg : NtcReg (CLKPWR.NTC n) := ⟨⟨n, hn⟩, rfl⟩
    exact ⟨regsKept_setReg hregs hreg _, congrArg (setReg · (CLKPWR.NTC n) _) hrest⟩

theorem ntcWord_lt (c : BitVec 12) : ntcWord c.toNat < 2 ^ 32 := by
  have hc := c.isLt
  unfold ntcWord
  split_ifs <;> omega

theorem getN_setN_self {a v : Nat} (hv : v < 2 ^ 32) : (s.setN a v).getN a = v := by
  rw [getN, setN, getReg_setReg_self, BitVec.toNat_ofNat, Nat.mod_eq_of_lt hv]

theorem ntcShown_word (n : Fin 8) : (ntcShown s l).getN (CLKPWR.NTC n) = ntcWord (l.getD n 0).toNat :=
  forAll_reads (State.getN · (CLKPWR.NTC n)) n.isLt (fun _ => getN_setN_self (ntcWord_lt _)) fun _ j hj =>
    congrArg BitVec.toNat (getReg_setReg_ne _ (by simp only [CLKPWR.NTC]; omega))

end Ntc

/-- Settles O18: an edge by its period, the loss and the glide's end by what they set, the NTC words as registers that a loop writes one by one. -/
theorem timebaseAndTemperature : Obligations.TimebaseAndTemperature := by
  unfold Obligations.TimebaseAndTemperature
  refine ⟨fun per err s ho hrun hen hlo hhi hdev hfew => ⟨_, exec_syncInEdge_counted ho hrun hen hlo hhi hdev hfew, sets_refl⟩,
    fun per err s ho hrun hen hout => ⟨_, exec_syncInEdge_refused ho hrun hen hout, sets_refl⟩,
    fun s ho hrun hst => goesSet_syncInLoss ho hrun hst, fun s hst hnear => goesSet_glideEnd hst hnear, fun l s hp hup => ?_⟩
  obtain ⟨hkept, hrest⟩ := ntcShown_kept (s := s) (l := l)
  exact ⟨_, exec_ntcMeasurement hp hup, hrest, ntcShown_word, fun a ha => hkept a fun ⟨n, hn⟩ => ha n hn⟩

end Sys2Proof.Proofs
end

section
/-! SUPPORT. The moves of an e-fuse channel (chapter 12): a channel's state beside its registers, the fields that a change of its state sets, and a trip with its report. -/

namespace Sys2Proof.Sets

open Machine Machine.State Laws Proofs

-- One proof after the other: side by side they take more threads than the check's memory has stacks for.
set_option Elab.async false

variable {s t u : State} {l m : List (Fld × Nat)}

/-- Fields set one list after the other, the second apart from the first. -/
theorem append (h : Sets s t l) (h' : Sets t u m) (hw : ∀ x ∈ l, x.1.lo + x.1.w ≤ 32) (ha : ∀ x ∈ l, ∀ y ∈ m, Apart x.1 y.1) : Sets s u (l ++ m) where
  reads x hx := (List.mem_append.1 hx).elim (fun hx => (h'.keeps x.1 (hw x hx) (ha x hx)).trans (h.reads x hx)) (h'.reads x)
  keeps g hg happ := (h'.keeps g hg fun x hx => happ x (List.mem_append_right l hx)).trans (h.keeps g hg fun x hx => happ x (List.mem_append_left m hx))
  rest := by rw [h'.rest, h.rest]

theorem updEf (h : Sets s t l) (c : Nat) (f : EfuseSt → EfuseSt) : Sets (s.updEf c f) (t.updEf c f) l :=
  ⟨h.reads, h.keeps, congrArg (State.updEf · c f) h.rest⟩

end Sys2Proof.Sets

namespace Sys2Proof.Proofs

open Machine Machine.State Laws

-- One proof after the other: side by side they take more threads than the check's memory has stacks for.
set_option Elab.async false

variable {s t : State}

/-! ### A channel's state beside its registers -/

theorem efSt_updEf_self {c : Nat} {f : EfuseSt → EfuseSt} (h : c < s.ef.length) : (s.updEf c f).efSt c = f (s.efSt c) := by
  simp [efSt, updEf, List.getD_eq_getElem?_getD, h]

theorem efSt_updEf_ne {c d : Nat} {f : EfuseSt → EfuseSt} (h : d ≠ c) : (s.updEf c f).efSt d = s.efSt d := by
  simp [efSt, updEf, List.getD_eq_getElem?_getD, h.symm]

/-! ### A change of state (Table 12-4) -/

section Go

variable {c : Fin 8} {st : Nat} {p : Pull}

theorem sets_efFields (hst : st < 2 ^ 3 := by decide) : Sets (efQuiet s c p) (s.efGo c st p) (efFields c st) := by
  have hlim := (sets_refl (s := efQuiet s c p)).indexed (EFUSE.EF_STAT_LIMITING c) 0
  have hcond := hlim.field ⟨FCOL.COND ((144 + c) / 32), (144 + c) % 32, 1⟩ (decide (efTRIPPED ≤ st)).toNat (Bool.toNat_lt _)
    (by simp [Apart]; omega) (Nat.mod_lt _ (by decide : 32 > 0))
  have hpg := hcond.field (EFUSE.EF_STAT_PG c) (decide (st = efON)).toNat (Bool.toNat_lt _) (by simp [Apart]; omega) (by decide : 4 + 1 ≤ 32)
  have hshown : (if st = efON then 1 else 0) = (decide (st = efON)).toNat := Bool.cond_decide _ _ _ |>.symm
  rw [efGo, hshown]
  exact hpg.field (EFUSE.EF_STAT_STATE c) st hst (by simp [Apart]; omega) (by decide : 0 + 3 ≤ 32)

/-- A change of state after other fields of the channel, or of its counters. -/
theorem sets_efGo {l : List (Fld × Nat)} (h : Sets s t l) (hst : st < 2 ^ 3 := by decide)
    (hl : ∀ x ∈ l, x.1.lo + x.1.w ≤ 32 ∧ ∀ y ∈ efFields c st, Apart x.1 y.1 := by simp [efFields, Apart, oneMore, FCOL.COND, EFUSE.EF_CNT, EFUSE.EF_STAT]; omega) :
    Sets (efQuiet s c p) (t.efGo c st p) (l ++ efFields c st) :=
  (h.updEf c _).append (sets_efFields hst) (fun x hx => (hl x hx).1) fun x hx => (hl x hx).2

theorem sets_efToOff : Sets (efQuiet s c .normal) (s.efToOff c) ((EFUSE.EF_STAT_RETRIES c, 0) :: efFields c efOFF) :=
  sets_efGo (sets_refl.indexed (EFUSE.EF_STAT_RETRIES c) 0)

/-- The report of a change of state, after the fields set with it (R393). -/
theorem goesRaise_efGo {i : Instr} {l : List (Fld × Nat)} {d : List Nat} (he : exec i s = .next ((t.efGo c st p).raise (144 + c) d)) (h : Sets s t l)
    (hst : st < 2 ^ 3 := by decide)
    (hl : ∀ x ∈ l, x.1.lo + x.1.w ≤ 32 ∧ ∀ y ∈ efFields c st, Apart x.1 y.1 := by simp [efFields, Apart, oneMore, FCOL.COND, EFUSE.EF_CNT, EFUSE.EF_STAT]; omega) :
    GoesRaise i s (efQuiet s c p) (l ++ efFields c st) (144 + c) d := goesRaise_of_eq he (sets_efGo h hst hl)

/-- A trip counts and shows its reason before its report (R389). -/
theorem goesRaise_efTrip {i : Instr} {reason : Nat} (he : exec i s = .next (s.efTrip c reason p)) (hreason : reason < 2 ^ 4 := by decide) :
    GoesRaise i s (efQuiet s c p) ([oneMore s (EFUSE.EF_CNT_TRIPS c), (EFUSE.EF_STAT_LAST_REASON c, reason)] ++ efFields c efTRIPPED)
      (144 + c) (s.efData c reason) :=
  goesRaise_efGo he ((sets_refl.counted (EFUSE.EF_CNT_TRIPS c)).indexed (EFUSE.EF_STAT_LAST_REASON c) reason hreason)

end Go

end Sys2Proof.Proofs
end

section
/-! SUPPORT. An e-fuse channel's measurement, its way on and off, and its retries (chapter 12, Table 12-1). -/

namespace Sys2Proof.Proofs

open Machine Machine.State Laws

-- One proof after the other: side by side they take more threads than the check's memory has stacks for.
set_option Elab.async false

variable {s : State}

/-! ### A conversion (R382, R383) -/

section Conversion

variable {c : Fin 8} {x : EfuseSample}

/-- ENERGY in mJ, its upper and its lower word (Table 12-4). -/
abbrev efEnergy (s : State) (c : Nat) : Nat := s.getN (EFUSE.ENERGY_LO c) + 2 ^ 32 * s.getN (EFUSE.ENERGY_HI c)

/-- The mJ of ENERGY in both words. -/
def energyStored (s : State) (c e : Nat) : State := (s.setN (EFUSE.ENERGY_LO c) e).setN (EFUSE.ENERGY_HI c) (e / 2 ^ 32)

/-- The words that a conversion shows (R382), and LIMITING (R385). -/
def conversionShown (s : State) (c : Nat) (x : EfuseSample) (lim : Bool) (i p : Word) : State :=
  (((((s.setB (EFUSE.EF_STAT_LIMITING c) lim).setReg (EFUSE.V_IN c) (F32.ofQ false (x.vIn.toNat * 80) 4096)).setReg (EFUSE.V_OUT c)
    (F32.ofQ false (x.vOut.toNat * 80) 4096)).setReg (EFUSE.P_OUT c) p).setReg (EFUSE.V_GS c) x.vGs).setReg (EFUSE.I c) i

/-- The current through the sense resistor, and the output power. -/
def efCurrent (s : State) (c : Nat) (x : EfuseSample) : Word :=
  F32.div (F32.ofQ (signedOf 14 x.shunt.toNat < 0) ((signedOf 14 x.shunt.toNat).natAbs * 50) (8192 * 1000)) (s.getReg (EFUSE.R_SENSE c))

def efPower (x : EfuseSample) (i : Word) : Word := F32.mul (F32.ofQ false (x.vOut.toNat * 80) 4096) i

/-- 2^-149 W × 10 µs in a mJ (R383). -/
abbrev energyUnit : Nat := 100 * 2 ^ 149

/-- The energy that a conversion finds, with the fraction carried. -/
def energyFound (s : State) (c : Nat) (p : Word) : Nat := (s.efSt c).frac + if F32.isFinite p ∧ F32.lt 0 p then (F32.scaled p).toNat else 0

/-- The fields that a conversion sets: the words shown, LIMITING, and ENERGY. -/
def conversionFields (c : Nat) (x : EfuseSample) (lim : Bool) (i p : Word) (e : Nat) : List (Fld × Nat) :=
  [whole (EFUSE.I c) i, whole (EFUSE.V_GS c) x.vGs, whole (EFUSE.P_OUT c) p, whole (EFUSE.V_OUT c) (F32.ofQ false (x.vOut.toNat * 80) 4096),
    whole (EFUSE.V_IN c) (F32.ofQ false (x.vIn.toNat * 80) 4096), (EFUSE.EF_STAT_LIMITING c, lim.toNat),
    whole (EFUSE.ENERGY_HI c) (BitVec.ofNat 32 (e / 2 ^ 32)), whole (EFUSE.ENERGY_LO c) (BitVec.ofNat 32 e)]

theorem sets_conversion (lim : Bool) (i p : Word) (e : Nat) (f : EfuseSt → EfuseSt) :
    Sets (s.updEf c f) (conversionShown ((energyStored s c e).updEf c f) c x lim i p) (conversionFields c x lim i p e) := by
  have henergy : Sets s (energyStored s c e) [whole (EFUSE.ENERGY_HI c) (BitVec.ofNat 32 (e / 2 ^ 32)), whole (EFUSE.ENERGY_LO c) (BitVec.ofNat 32 e)] :=
    sets_setReg (sets_setReg sets_refl (by simp)) (by simp [whole])
  have hlim := sets_setF (henergy.updEf c f) (f := EFUSE.EF_STAT_LIMITING c) (by decide : 3 + 1 ≤ 32) (by simp [whole, Apart]) lim.toNat_lt
  exact sets_setReg (sets_setReg (sets_setReg (sets_setReg (sets_setReg hlim (by simp [whole])) (by simp [whole])) (by simp [whole])) (by simp [whole]))
    (by simp [whole])

/-- A conversion keeps the fraction below 1 mJ with the channel's counters, and shows the rest. -/
theorem exec_efuseConversion (h : s.efLive c) : ∃ (f : EfuseSt → EfuseSt) (t : State), exec (.efuseConversion c x) s = .next t ∧
    (∀ y, (f y).frac = energyFound s c (efPower x (efCurrent s c x)) % energyUnit) ∧
    Sets (s.updEf c f) t (conversionFields c x (s.efState c = efINRUSH ∧ x.limiting) (efCurrent s c x) (efPower x (efCurrent s c x))
      (efEnergy s c + energyFound s c (efPower x (efCurrent s c x)) / energyUnit)) :=
  ⟨_, _, if_pos h, fun _ => rfl, sets_conversion _ _ _ _ _⟩

/-- The fraction carried and the mJ counted are the energy that came in, up to the wrap of ENERGY (R383). -/
theorem energy_carried (m n e tot : Nat) : (tot % m + m * ((e + tot / m) % n)) % (m * n) = (tot + m * e) % (m * n) :=
  calc (tot % m + m * ((e + tot / m) % n)) % (m * n)
      _ = (tot % m + m * (e + tot / m)) % (m * n) := by rw [← Nat.mul_mod_mul_left, Nat.add_mod_mod]
      _ = (tot % m + m * (tot / m) + m * e) % (m * n) := by rw [Nat.mul_add, Nat.add_comm (m * e), Nat.add_assoc]
      _ = (tot + m * e) % (m * n) := by rw [Nat.mod_add_div]

theorem getReg_of_sets {t u : State} {l : List (Fld × Nat)} (h : Sets u t l) {a : Nat} (ha : ∀ y ∈ l, y.1.addr ≠ a) : t.getReg a = u.getReg a := by
  have hword := h.keeps ⟨a, 0, 32⟩ (by decide : 0 + 32 ≤ 32) fun y hy => .inl (ha y hy).symm
  simpa only [getF, bitsOf_full, BitVec.toNat_inj] using hword

variable {t : State} {lim : Bool} {i p : Word} {e : Nat} {f : EfuseSt → EfuseSt} (h : Sets (s.updEf c f) t (conversionFields c x lim i p e))
include h

theorem conversion_words : t.getReg (EFUSE.I c) = i ∧ t.getReg (EFUSE.P_OUT c) = p ∧ t.getReg (EFUSE.V_IN c) = F32.ofQ false (x.vIn.toNat * 80) 4096 ∧
    t.getReg (EFUSE.V_OUT c) = F32.ofQ false (x.vOut.toNat * 80) 4096 ∧ t.getReg (EFUSE.V_GS c) = x.vGs := by
  refine ⟨getReg_of_whole h ?_, getReg_of_whole h ?_, getReg_of_whole h ?_, getReg_of_whole h ?_, getReg_of_whole h ?_⟩
  all_goals simp [conversionFields]

theorem conversion_limiting : t.getB (EFUSE.EF_STAT_LIMITING c) = lim :=
  getB_of_getF_toNat (h.reads (EFUSE.EF_STAT_LIMITING c, lim.toNat) (by simp [conversionFields]))

theorem conversion_energy : efEnergy t c = e % 2 ^ 64 := by
  have hlo : t.getN (EFUSE.ENERGY_LO c) = e % 2 ^ 32 := by
    rw [getN, getReg_of_whole h (w := BitVec.ofNat 32 e) (by simp [conversionFields]), BitVec.toNat_ofNat]
  have hhi : t.getN (EFUSE.ENERGY_HI c) = e / 2 ^ 32 % 2 ^ 32 := by
    rw [getN, getReg_of_whole h (w := BitVec.ofNat 32 (e / 2 ^ 32)) (by simp [conversionFields]), BitVec.toNat_ofNat]
  rw [efEnergy, hlo, hhi]
  omega

theorem conversion_efSt (d : Nat) : t.efSt d = (s.updEf c f).efSt d := by rw [h.rest]; rfl

theorem conversion_rest : t = { s with regs := t.regs, ef := t.ef } := by rw [h.rest]; rfl

end Conversion

theorem goes_efuseConversion {c : Fin 8} {x : EfuseSample} (h : s.efLive c) (hlen : s.ef.length = 8) : Goes (.efuseConversion c x) s (fun t =>
    t.getReg (EFUSE.I c) = efCurrent s c x ∧ t.getReg (EFUSE.P_OUT c) = efPower x (efCurrent s c x) ∧
    t.getReg (EFUSE.V_IN c) = F32.ofQ false (x.vIn.toNat * 80) 4096 ∧ t.getReg (EFUSE.V_OUT c) = F32.ofQ false (x.vOut.toNat * 80) 4096 ∧
    t.getReg (EFUSE.V_GS c) = x.vGs ∧ t.getB (EFUSE.EF_STAT_LIMITING c) = (s.efState c == efINRUSH && x.limiting) ∧
    t = { s with regs := t.regs, ef := t.ef } ∧
    ((t.efSt c).frac + energyUnit * efEnergy t c) % (energyUnit * 2 ^ 64) =
      (energyFound s c (efPower x (efCurrent s c x)) + energyUnit * efEnergy s c) % (energyUnit * 2 ^ 64) ∧
    (∀ a, a ≠ EFUSE.I c → a ≠ EFUSE.P_OUT c → a ≠ EFUSE.V_IN c → a ≠ EFUSE.V_OUT c → a ≠ EFUSE.V_GS c → a ≠ EFUSE.ENERGY_LO c →
      a ≠ EFUSE.ENERGY_HI c → a ≠ EFUSE.EF_STAT c → t.getReg a = s.getReg a) ∧
    ∀ d : Fin 8, d ≠ c → t.efSt d = s.efSt d) := by
  obtain ⟨f, t, hexec, hfrac, hsets⟩ := exec_efuseConversion (x := x) h
  obtain ⟨hi, hp, hin, hout, hgs⟩ := conversion_words hsets
  have hlim := (conversion_limiting hsets).trans (Bool.decide_and _ _)
  refine ⟨t, hexec, hi, hp, hin, hout, hgs, hlim.trans (congrArg (s.efState c == efINRUSH && ·) Bool.decide_eq_true), conversion_rest hsets, ?_,
    fun a h1 h2 h3 h4 h5 h6 h7 h8 => ?_, fun d hd => ?_⟩
  · rw [conversion_efSt hsets, efSt_updEf_self (by omega), hfrac, conversion_energy hsets]
    exact energy_carried _ _ _ _
  · exact getReg_of_sets hsets (by simp [conversionFields, whole, Ne.symm, *])
  · exact (conversion_efSt hsets d).trans (efSt_updEf_ne fun hc => hd (Fin.ext hc))

/-! ### On and off (Table 12-1) -/

section Switching

variable {c : Fin 8}

theorem exec_efuseOnWithdrawn (hreq : s.efOnReq c = false) (hst : s.efState c = efINRUSH ∨ s.efState c = efON ∨ s.efState c = efRETRY_WAIT ∨
    s.efState c = efLATCHED ∨ (s.efState c = efTRIPPED ∧ F32.lt (s.getReg (EFUSE.V_GS c)) 0x3F800000)) :
    exec (.efuseOnWithdrawn c) s = .next (s.efToOff c) := by
  refine (if_neg (by simp [hreq])).trans ?_
  by_cases hdriven : s.efState c = efINRUSH ∨ s.efState c = efON ∨ s.efState c = efRETRY_WAIT ∨ s.efState c = efLATCHED
  · exact if_pos hdriven
  · exact (if_neg hdriven).trans (if_pos (by tauto))

variable (hlive : s.efLive c)
include hlive

theorem exec_efuseOnReached_on (hst : s.efState c = efINRUSH)
    (hds : F32.le (F32.sub (s.getReg (EFUSE.V_IN c)) (s.getReg (EFUSE.V_OUT c))) 0x3E800000 ∨ (s.efSt c).ig50)
    (hgs : F32.le 0x41200000 (s.getReg (EFUSE.V_GS c))) : exec (.efuseOnReached c) s = .next (s.efGo c efON .none) :=
  (if_pos ⟨hlive, hst⟩).trans (if_pos ⟨hds, hgs⟩)

theorem exec_efuseOnReached_raised (hst : s.efState c = efINRUSH) (hds : F32.le (F32.sub (s.getReg (EFUSE.V_IN c)) (s.getReg (EFUSE.V_OUT c))) 0x3E800000)
    (hgs : F32.le 0x41200000 (s.getReg (EFUSE.V_GS c)) = false) : exec (.efuseOnReached c) s = .next (s.updEf c (fun x => { x with ig50 := true })) :=
  (if_pos ⟨hlive, hst⟩).trans ((if_neg fun hon => Bool.eq_false_iff.1 hgs hon.2).trans (if_pos hds))

section Tripped

variable (hst : s.efState c = efTRIPPED)
include hst

theorem exec_efuseGateDischarged_off (hreq : s.efOnReq c = false) : exec (.efuseGateDischarged c) s = .next (s.efToOff c) :=
  (if_pos ⟨hlive, hst⟩).trans (if_pos (by simp [hreq]))

variable (hreq : s.efOnReq c)
include hreq

theorem exec_efuseGateDischarged_retry (hleft : s.getF (EFUSE.EF_STAT_RETRIES c) < s.getF (EFUSE.EF_CFG_RETRY_MAX c)) : exec (.efuseGateDischarged c) s =
    .next ((s.setF (EFUSE.EF_STAT_RETRIES c) (s.getF (EFUSE.EF_STAT_RETRIES c) + 1)).efGo c efRETRY_WAIT .hold) :=
  (if_pos ⟨hlive, hst⟩).trans ((if_neg (by simp [hreq])).trans (if_pos hleft))

theorem exec_efuseGateDischarged_latch (hnone : s.getF (EFUSE.EF_CFG_RETRY_MAX c) ≤ s.getF (EFUSE.EF_STAT_RETRIES c)) : exec (.efuseGateDischarged c) s =
    .next (((s.setF (EFUSE.EF_STAT_LAST_REASON c) 6).efGo c efLATCHED .hold).raise (144 + c) (s.efData c 6)) :=
  (if_pos ⟨hlive, hst⟩).trans ((if_neg (by simp [hreq])).trans (if_neg hnone.not_gt))

end Tripped

end Switching

/-! ### EF_CTRL (R390) -/

section Control

variable {r : Requester} {c : Fin 8}

/-- LATCH_CLR and GF_CLR beside ON as it stands. -/
theorem getLsbD_efCtrl (x : Nat) : (BitVec.ofNat 32 (x % 2 + 2)).getLsbD 1 = true ∧ (BitVec.ofNat 32 (x % 2 + 2)).getLsbD 2 = false ∧
    (BitVec.ofNat 32 (x % 2 + 4)).getLsbD 1 = false ∧ (BitVec.ofNat 32 (x % 2 + 4)).getLsbD 2 = true := by
  rcases Nat.mod_two_eq_zero_or_one x with h | h <;> rw [h] <;> decide

theorem exec_latchClr (h : Accepts s r (EFUSE.EF_CTRL c) (s.getN (EFUSE.EF_CTRL c) % 2 + 2)) :
    exec (.latchClr r c) s = .next (latchClr c (Stored s r (EFUSE.EF_CTRL c) (s.getN (EFUSE.EF_CTRL c) % 2 + 2))) := by
  obtain ⟨hlatch, hfault, -, -⟩ := getLsbD_efCtrl (s.getN (EFUSE.EF_CTRL c))
  refine congrArg Host.Outcome.next ((hostWrite_accepted h (regAt_efCtrl c)).trans ((if_pos rfl).trans ?_))
  simp only [hlatch, hfault, ↓reduceIte, Bool.false_eq_true]

theorem exec_gfClr (h : Accepts s r (EFUSE.EF_CTRL c) (s.getN (EFUSE.EF_CTRL c) % 2 + 4)) :
    exec (.gfClr r c) s = .next (gfClr c (Stored s r (EFUSE.EF_CTRL c) (s.getN (EFUSE.EF_CTRL c) % 2 + 4))) := by
  obtain ⟨-, -, hlatch, hfault⟩ := getLsbD_efCtrl (s.getN (EFUSE.EF_CTRL c))
  refine congrArg Host.Outcome.next ((hostWrite_accepted h (regAt_efCtrl c)).trans ((if_pos rfl).trans ?_))
  simp only [hlatch, hfault, ↓reduceIte, Bool.false_eq_true]

/-- A write of EF_CTRL leaves every field but its own and PG_CHG. -/
theorem stored_efCtrl_getF {v : Nat} {f : Fld} (ha : f.addr ≠ EFUSE.EF_CTRL c) (hc : f.addr % 0x1000 ≠ 0x10) :
    (Stored s r (EFUSE.EF_CTRL c) v).getF f = s.getF f :=
  stored_getF (homeOf_plain (by simp only [EFUSE.EF_CTRL, pESTPROF]; omega) (.inl (by simp only [EFUSE.EF_CTRL, pPMBUS]; omega))) ha
    (by simp only [pgChg]; omega)

theorem stored_efCtrl_efState {v : Nat} : (Stored s r (EFUSE.EF_CTRL c) v).efState c = s.efState c :=
  stored_efCtrl_getF (f := EFUSE.EF_STAT_STATE c) (by simp) (by simp only [EFUSE.EF_STAT]; omega)

theorem stored_efCtrl_mode {v : Nat} : (Stored s r (EFUSE.EF_CTRL c) v).mode = s.mode :=
  stored_efCtrl_getF (f := DEV.MODE_STAT_MODE) (by simp only [DEV.MODE_STAT, EFUSE.EF_CTRL]; omega) (by decide)

theorem goesSet_latchClr (h : Accepts s r (EFUSE.EF_CTRL c) (s.getN (EFUSE.EF_CTRL c) % 2 + 2)) (hst : s.efState c = efLATCHED) :
    GoesSet (.latchClr r c) s (efQuiet (Stored s r (EFUSE.EF_CTRL c) (s.getN (EFUSE.EF_CTRL c) % 2 + 2)) c .normal)
      ((EFUSE.EF_STAT_RETRIES c, 0) :: efFields c efOFF) :=
  ⟨_, (exec_latchClr h).trans (congrArg Host.Outcome.next (if_pos (stored_efCtrl_efState.trans hst))), sets_efToOff⟩

theorem goesSet_gfClr {u : State} (h : Accepts s r (EFUSE.EF_CTRL c) (s.getN (EFUSE.EF_CTRL c) % 2 + 4)) (hst : s.efState c = efGATE_FAULT)
    (hmode : s.mode = mSERVICE)
    (hu : u = (Stored s r (EFUSE.EF_CTRL c) (s.getN (EFUSE.EF_CTRL c) % 2 + 4)).updEf c (fun x => { x with gateFault := false })) :
    GoesSet (.gfClr r c) s (efQuiet (u.efCheckpoint c) c .hold) (efFields c efOFF) := by
  subst hu
  exact ⟨_, (exec_gfClr h).trans (congrArg Host.Outcome.next (if_pos ⟨stored_efCtrl_mode.trans hmode, stored_efCtrl_efState.trans hst⟩)), sets_efFields⟩

end Control

/-- Settles O19: a conversion as fields set over a channel that keeps its fraction of energy, every change of state over one lemma about its fields, the
requests as what an accepted write of EF_CTRL starts. That the timers count conversions is log entry 94. -/
theorem efuseSwitching : Obligations.EfuseSwitching := by
  unfold Obligations.EfuseSwitching
  refine ⟨fun c x i p s hlive hlen hi hp => ?_, fun c s hlive hst hreq => ⟨_, if_pos ⟨hlive, hst, hreq⟩, sets_efFields⟩,
    fun c s hreq hst => ⟨_, exec_efuseOnWithdrawn hreq hst, sets_efToOff⟩,
    fun c s hlive hst hds hgs => ⟨_, exec_efuseOnReached_on hlive hst hds hgs, sets_efFields⟩,
    fun c s hlive hst hds hgs => ⟨_, exec_efuseOnReached_raised hlive hst hds hgs, sets_refl⟩,
    fun c s hlive hst hticks => ⟨_, if_pos ⟨hlive, hst, hticks⟩, sets_refl.indexed (EFUSE.EF_STAT_RETRIES c) 0⟩,
    fun c s hlive hst hreq => ⟨_, exec_efuseGateDischarged_off hlive hst hreq, sets_efToOff⟩,
    fun c s hlive hst hreq hleft => ⟨_, exec_efuseGateDischarged_retry hlive hst hreq hleft, ?_⟩,
    fun c s hlive hst hreq hnone => goesRaise_efGo (exec_efuseGateDischarged_latch hlive hst hreq hnone)
      (sets_refl.indexed (EFUSE.EF_STAT_LAST_REASON c) 6),
    fun c s hlive hst hticks => ⟨_, if_pos ⟨hlive, hst, hticks⟩, sets_efFields⟩,
    fun r c v s hv h hst => ?_, fun r c v s u hv h hst hmode hu => ?_⟩
  · subst hi hp
    exact goes_efuseConversion hlive hlen
  · have hmax : s.getF (EFUSE.EF_CFG_RETRY_MAX c) < 8 := getF_lt s (EFUSE.EF_CFG_RETRY_MAX c)
    exact sets_efGo (sets_refl.indexed (EFUSE.EF_STAT_RETRIES c) _ (show _ < 8 by omega))
  · subst hv
    exact goesSet_latchClr h hst
  · subst hv
    exact goesSet_gfClr h hst hmode hu

end Sys2Proof.Proofs
end

section
/-! SUPPORT. No raise of a source drives an e-fuse channel (R424, R430): what a reaction does leaves every channel in its state, or in OFF. -/

namespace Sys2Proof.Proofs

open Machine Machine.State Laws

-- One proof after the other: side by side they take more threads than the check's memory has stacks for.
set_option Elab.async false

variable {s t u : State}

/-! ### Registers beside the channels' EF_STAT -/

abbrev BesideEfStat (a : Nat) : Prop := a % 0x1000 ≠ 0x74 ∨ a < 0x58000 ∨ 0x60000 ≤ a

/-- `t` reads as `s` at every channel's EF_STAT. -/
abbrev EfStatKept (s t : State) : Prop := RegsKept BesideEfStat s t

theorem EfStatKept.efState (h : EfStatKept s t) (d : Fin 8) : t.efState d = s.efState d :=
  getF_of_regsKept h (by simp only [EFUSE.EF_STAT]; omega)

theorem EfStatKept.of_regs_eq (h : EfStatKept s t) (hu : u.regs = t.regs := by rfl) : EfStatKept s u := fun a ha =>
  (congrArg (fun l => (lookupKey a l).getD (resetWord a)) hu).trans (h a ha)

theorem EfStatKept.logged (h : EfStatKept s t) (hlog : Logged t u) : EfStatKept s u := fun a ha =>
  (hlog.regs a fun hl => ha (by simp only [LogReg, pFCOL, pCAIRN] at hl; omega)).trans (h a ha)

/-! ### Fences (Table 14-3) -/

section Fences

variable (h : EfStatKept s t)
include h

theorem efStatKept_pgFence (p : Nat) : EfStatKept s (t.pgFence p) := by
  have hdown : EfStatKept s (if 0x010 ≤ p ∧ p ≤ 0x027 then t.markDown (p - 0x010) else t) := regsKept_ite h h
  refine regsKept_ite h (regsKept_setF (regsKept_setF (regsKept_setF hdown ?_ _) ?_ _) ?_ _)
  all_goals simp only [BesideEfStat, pgCtrl, pgStat]; omega

theorem efStatKept_setPhase {p : Nat} (hp : p < 16) (st : Nat) : EfStatKept s (t.setPhase p st) := by
  have hstate : BesideEfStat (PHASE.PH_STAT p) := by simp only [BesideEfStat, PHASE.PH_STAT]; omega
  unfold setPhase
  dsimp only
  split_ifs <;> exact regsKept_setF (f := PHASE.PH_STAT_STATE p) h.of_regs_eq hstate st

theorem efStatKept_railCounts {r : Nat} (hr : r < 8) : EfStatKept s (t.railCounts r) := by
  have hstat : BesideEfStat (RAIL.RAIL_STAT r) := by simp only [BesideEfStat, RAIL.RAIL_STAT]; omega
  have hcn : BesideEfStat (RAIL.CN_STAT r) := by simp only [BesideEfStat, RAIL.CN_STAT]; omega
  have hcounts (v w : Nat) : EfStatKept s ((t.setF (RAIL.RAIL_STAT_N_PART r) v).setF (RAIL.RAIL_STAT_SHEDDING r) w) :=
    regsKept_setF (regsKept_setF h hstat v) hstat w
  exact regsKept_ite (regsKept_setF (hcounts _ _) hcn _) (regsKept_setF (regsKept_setF (hcounts _ _) hcn _) hstat _)

theorem efStatKept_railCnFault {r : Nat} (hr : r < 8) : EfStatKept s (t.railCnFault r) := by
  have hstat : BesideEfStat (RAIL.RAIL_STAT r) := by simp only [BesideEfStat, RAIL.RAIL_STAT]; omega
  have hcn : BesideEfStat (RAIL.CN_STAT r) := by simp only [BesideEfStat, RAIL.CN_STAT]; omega
  have hff : BesideEfStat (RAIL.CN_FF r) := by simp only [BesideEfStat, RAIL.CN_FF]; omega
  unfold railCnFault
  dsimp only
  refine regsKept_ite ((efStatKept_railCounts ?_ hr).logged (logged_cnRecord _ _)) (regsKept_setReg h hff _)
  have hidle : EfStatKept s (t.updRail r (fun x => { x with cnPend := false, cnDown := 0 })) := h
  exact regsKept_setF (regsKept_setReg (regsKept_setF (regsKept_ite hidle (regsKept_setF hidle hcn _)) hstat _) hff _) hcn _

theorem efStatKept_railRest {r : Nat} : EfStatKept s (t.railRest r) := by
  have hstat : BesideEfStat (RAIL.RAIL_STAT r) := by simp only [BesideEfStat, RAIL.RAIL_STAT]; omega
  have hphase (u : State) : ∀ p ∈ u.phIn r phSHEDDING, p < 16 := fun p hp => of_decide_eq_true (List.mem_filter.1 (List.mem_filter.1 hp).1).2
  refine regsKept_setF (regsKept_setF (regsKept_setF ?_ hstat _) hstat _) hstat _
  exact List.foldlRecOn (motive := EfStatKept s) _ _ h fun u hu p hp => efStatKept_setPhase hu (hphase _ p hp) _

theorem efStatKept_railFaultOff {r : Nat} (hr : r < 8) (l : Pwm) : EfStatKept s (t.railFaultOff r l) := by
  have hstat : BesideEfStat (RAIL.RAIL_STAT r) := by simp only [BesideEfStat, RAIL.RAIL_STAT]; omega
  have hvref : BesideEfStat (RAIL.VREF_EFF r) := by simp only [BesideEfStat, RAIL.VREF_EFF]; omega
  have hlevel : EfStatKept s (((t.railCnFault r).railRest r).railLevel r l) :=
    List.foldlRecOn (motive := EfStatKept s) _ _ (efStatKept_railRest (efStatKept_railCnFault h hr)) fun _ hu _ _ => hu
  exact regsKept_setF (efStatKept_railCounts (regsKept_ite (regsKept_setReg hlevel hvref _) hlevel) hr) hstat _

theorem efStatKept_fenceRail {r : Nat} (hr : r < 8) : EfStatKept s (t.fenceRail r) :=
  regsKept_ite h (efStatKept_pgFence (efStatKept_railFaultOff h hr _) _)

theorem efStatKept_fencePhase {p : Nat} (hp : p < 16) : EfStatKept s (t.fencePhase p) := by
  have hmid : EfStatKept s ((t.setPhase p phFENCED).updPhase p (fun x => { x with pwm := .mid, shadow := .mid })) := efStatKept_setPhase h hp _
  refine regsKept_ite h ?_
  dsimp only
  split
  case h_1 r hrail => exact efStatKept_railCounts hmid.of_regs_eq (List.mem_range.1 (List.mem_of_find?_eq_some hrail))
  case h_2 => exact hmid

theorem efStatKept_cnCollapse (outcome : Nat) : EfStatKept s (t.cnCollapse outcome) := by
  have hramp (x : Word) (f : CorniceSt → CorniceSt) : EfStatKept s (((t.updCn f).setReg CORNICE.PHI_REQ x).incSat CORNICE.CNT_B_COLLAPSE) :=
    regsKept_setF (regsKept_setReg h (by decide) _) (by decide) _
  refine regsKept_ite (regsKept_setF h (by decide) _) (regsKept_ite (regsKept_setF (regsKept_setF ?_ (by decide) _) (by decide) _) h)
  exact regsKept_ite (regsKept_setF (hramp _ _) (by decide) _) (hramp _ _)

theorem efStatKept_fenceSlot (i : Nat) : EfStatKept s (t.fenceSlot i) := by
  have hstat : BesideEfStat (VSLOT.SLOT_STAT i) := by simp only [BesideEfStat, VSLOT.SLOT_STAT]; omega
  exact regsKept_setF (f := VSLOT.SLOT_STAT_FENCED i) (regsKept_setF (f := VSLOT.SLOT_STAT_SWAP_PEND i) h hstat _) hstat _

/-- A fenced VCE slot: its rail, its phase, or the slot with a cornice that it serves. -/
theorem efStatKept_fenceVceSlot (i : Nat) : EfStatKept s (t.fenceUnit (.slot i)) := by
  have hslot := efStatKept_fenceSlot h i
  unfold fenceUnit
  dsimp only
  split_ifs with hrail hphase
  · exact efStatKept_fenceRail (regsKept_setF h (by simp only [BesideEfStat, RAIL.RAIL_STAT]; omega) _) (by omega)
  · exact efStatKept_fencePhase (regsKept_setF h (by simp only [BesideEfStat, PHASE.PH_STAT]; omega) _) (by omega)
  · exact efStatKept_cnCollapse hslot _
  · exact hslot

theorem efStatKept_gateZero {k : Nat} (hk : k < 24) : EfStatKept s (t.gateZero k) :=
  regsKept_setReg h (by simp only [BesideEfStat, CORNICE.F]; omega) _

theorem efStatKept_fenceSdma (c : Nat) : EfStatKept s (t.fenceSdma c) := by
  have hnext : BesideEfStat (SDMA.CH_NEXT c) := by simp only [BesideEfStat, SDMA.CH_NEXT]; omega
  have hstat : BesideEfStat (SDMA.CH_STAT c) := by simp only [BesideEfStat, SDMA.CH_STAT]; omega
  have hend : EfStatKept s (match (t.sdmaCh c).desc with
      | some a => t.descEnd c a 2 (t.sdmaCh c).moved
      | none => t) := by
    split
    case h_1 => exact regsKept_setReg h hnext _
    case h_2 => exact h
  exact regsKept_ite h (regsKept_setF (regsKept_setF (f := SDMA.CH_STAT_STATE c) hend hstat _) (by decide) _)

end Fences

/-! ### Descents of the sequencer (R404, R405, R410) -/

section Descents

theorem grpStat_ge (g : Nat) : 0x60000 ≤ SEQGRP.GRP_STAT g := by simp only [SEQGRP.GRP_STAT]; omega

variable (h : EfStatKept s t)
include h

theorem efStatKept_setF_seq {f : Fld} (hf : 0x60000 ≤ f.addr) (v : Nat) : EfStatKept s (t.setF f v) := regsKept_setF h (.inr (.inr hf)) v

theorem efStatKept_withdraw (i : Nat) : EfStatKept s (t.withdraw i) := by
  have hstat : 0x60000 ≤ SEQSLOT.SL_STAT i := by simp only [SEQSLOT.SL_STAT]; omega
  exact efStatKept_setF_seq (f := SEQSLOT.SL_STAT_STATE i) (efStatKept_setF_seq (f := SEQSLOT.SL_STAT_PG i)
    (efStatKept_setF_seq (f := SEQSLOT.SL_STAT_EN_OUT i) h hstat _) hstat _) hstat _

theorem efStatKept_startOffDly (i : Nat) : EfStatKept s (t.startOffDly i) := by
  have hstat : 0x60000 ≤ SEQSLOT.SL_STAT i := by simp only [SEQSLOT.SL_STAT]; omega
  have hstate (u : State) (hu : EfStatKept s u) (v : Nat) : EfStatKept s (u.setF (SEQSLOT.SL_STAT_STATE i) v) := efStatKept_setF_seq hu hstat v
  exact regsKept_ite (hstate _ h _) (regsKept_ite (hstate _ h _) (regsKept_ite (hstate _ h _) h))

theorem efStatKept_descTurn (g p : Nat) : EfStatKept s (t.descTurn g p) :=
  efStatKept_setF_seq (f := SEQGRP.GRP_STAT_POS g)
    (List.foldlRecOn (motive := EfStatKept s) _ _ h fun _ hu i _ => efStatKept_startOffDly hu i) (grpStat_ge g) p

theorem efStatKept_descSteps (n g : Nat) : EfStatKept s (descSteps n g t) := by
  induction n generalizing t with
  | zero => exact h
  | succ n ih =>
    rw [descSteps]
    refine regsKept_ite h (regsKept_ite ?_ (regsKept_ite ?_ (regsKept_ite ?_ h)))
    · exact (efStatKept_setF_seq (f := SEQGRP.GRP_STAT_STATE g) h (grpStat_ge g) grREST).of_regs_eq
    · split
      case h_1 i _ => exact regsKept_ite (ih (efStatKept_startOffDly h i)) (efStatKept_startOffDly h i)
      case h_2 => exact h
    · split
      case h_1 p _ => exact ih (efStatKept_descTurn h g p)
      case h_2 => exact h

theorem efStatKept_fenceSeqSlot (i : Nat) : EfStatKept s (t.fenceSeqSlot i) := by
  have hstat : 0x60000 ≤ SEQSLOT.SL_STAT i := by simp only [SEQSLOT.SL_STAT]; omega
  have hout := efStatKept_withdraw h i
  have hblocked := efStatKept_setF_seq (f := SEQGRP.GRP_STAT_BLOCKED (t.slotGrp i)) hout (grpStat_ge _) 1
  exact efStatKept_descSteps (efStatKept_setF_seq (f := SEQSLOT.SL_STAT_STATE i) (regsKept_ite hblocked hout) hstat _) _ _

theorem efStatKept_enterDescend (g : Nat) : EfStatKept s (t.enterDescend g) := by
  have hgrp {u : State} {f : Fld} (hu : EfStatKept s u) (hf : f.addr = SEQGRP.GRP_STAT g) (v : Nat) : EfStatKept s (u.setF f v) :=
    efStatKept_setF_seq hu (hf ▸ grpStat_ge g) v
  have hslot {u : State} (hu : EfStatKept s u) (i : Nat) : EfStatKept s (if u.slotSt i = slON_WAIT then u.setF (SEQSLOT.SL_STAT_STATE i) slOFF
      else if u.slotSt i = slENABLED ∨ u.slotSt i = slRETRY_WAIT then u.withdraw i else u) :=
    regsKept_ite (efStatKept_setF_seq hu (by simp only [SEQSLOT.SL_STAT]; omega) _) (regsKept_ite (efStatKept_withdraw hu i) hu)
  unfold enterDescend
  dsimp only
  refine regsKept_ite (efStatKept_descSteps (hgrp (hgrp ?_ rfl _) rfl _) _ _) (regsKept_ite ?_ h)
  · exact List.foldlRecOn (motive := EfStatKept s) _ _ h.of_regs_eq fun _ hu i _ => hslot hu i
  · split
    case h_1 p _ => exact efStatKept_descSteps (efStatKept_descTurn (hgrp h.of_regs_eq rfl _) g p) _ _
    case h_2 => exact efStatKept_descSteps (hgrp h.of_regs_eq rfl _) _ _

theorem efStatKept_groupOff (g slot : Nat) : EfStatKept s (t.groupOff g slot) := by
  have hdown := efStatKept_enterDescend h g
  have hcount := efStatKept_setF_seq (f := SEQGRP.GRP_CNT_FAULT_OFFS g) hdown (by simp only [SEQGRP.GRP_CNT]; omega)
  exact efStatKept_setF_seq (f := SEQGRP.GRP_STAT_FAULTED g) (efStatKept_setF_seq (f := SEQGRP.GRP_STAT_FAULT_SLOT g)
    (regsKept_ite (hcount _) hdown) (grpStat_ge g) _) (grpStat_ge g) _

theorem efStatKept_safeReact : EfStatKept s t.safeReact := by
  refine List.foldlRecOn (motive := EfStatKept s) _ _ (efStatKept_cnCollapse (regsKept_setF h.of_regs_eq (by decide) _) _) fun u hu g _ => ?_
  exact regsKept_ite (efStatKept_groupOff hu g _) hu

end Descents

/-! ### A channel that is not driven -/

section Undriven

variable {d : Fin 8}

theorem EfStatKept.undriven (h : EfStatKept s t) (hs : s.efDriven d = false) : t.efDriven d = false := by
  rwa [efDriven, h.efState]

/-- What a change of a channel's state writes. -/
abbrev EfGoReg (c a : Nat) : Prop := a = EFUSE.EF_STAT c ∨ a = FCOL.COND ((144 + c) / 32)

theorem regsKept_efGo (c st : Nat) (p : Pull) : RegsKept (EfGoReg c) s (s.efGo c st p) := by
  have hcond : RegsKept (EfGoReg c) s (((efQuiet s c p).setF (EFUSE.EF_STAT_LIMITING c) 0).setCond (144 + c) (efTRIPPED ≤ st)) :=
    regsKept_setF (regsKept_setF (fun _ _ => rfl) (.inl rfl) _) (.inr rfl) _
  exact regsKept_setF (f := EFUSE.EF_STAT_STATE c) (regsKept_setF (f := EFUSE.EF_STAT_PG c) hcond (.inl rfl) _) (.inl rfl) _

theorem efDriven_of_efState (h : t.efState d = s.efState d) : t.efDriven d = s.efDriven d := by rw [efDriven, efDriven, h]

/-- A channel that goes to OFF drives nothing, and leaves the other channels. -/
theorem efToOff_undriven {c : Nat} (hc : c < 8) (hs : s.efDriven d = false) : (s.efToOff c).efDriven d = false := by
  by_cases hd : d.val = c
  · have hoff : (s.efToOff c).efState d = efOFF := by rw [hd]; exact getF_setF_self (by decide : 0 + 3 ≤ 32) _
    simp [efDriven, hoff]
  · have hother : (s.efToOff c).efState d = s.efState d := by
      have hgo := getF_of_regsKept (f := EFUSE.EF_STAT_STATE d) (regsKept_efGo (s := s.setF (EFUSE.EF_STAT_RETRIES c) 0) c efOFF .normal)
        (by simp only [EfGoReg, EFUSE.EF_STAT, FCOL.COND]; omega)
      exact hgo.trans (getF_setF_addr (by simp only [EFUSE.EF_STAT]; omega) _)
    rwa [efDriven_of_efState hother]

/-- A device reset leaves every channel in OFF (R57). -/
theorem deviceReset_undriven (bit : Nat) : (s.deviceReset bit).efDriven d = false := by
  have haon : ∀ d : Fin 8, EFUSE.EF_STAT d ≠ DEV.RST_CAUSE ∧ EFUSE.EF_STAT d ∉ aonRegs ∧ EFUSE.EF_STAT d ≠ CAIRN.CLR_CMD ∧
      bitsOf (resetWord (EFUSE.EF_STAT d)) 0 3 = efOFF := by decide +kernel
  obtain ⟨hcause, hregs, hclr, hoff⟩ := haon d
  have hstate : (s.deviceReset bit).efState d = efOFF := by
    rw [efState, getF, State.deviceReset, causeBit_getReg hcause, resetAll_getReg hregs (.inr hclr)]
    exact hoff
  simp [efDriven, hstate]

/-! ### Fences and reactions (R422 to R434) -/

/-- The strings, rails, phases and channels that the device has. -/
def UnitExists : FenceUnit → Prop
  | .string k => k < 24
  | .rail r => r < 8
  | .phase p => p < 16
  | .efuse c => c < 8
  | .estSlice k => k < 24
  | _ => True

theorem unitExists_unitOf (src : Nat) (data : List Nat) : UnitExists (unitOf src data) := by
  unfold unitOf
  dsimp only
  split_ifs <;> simp only [UnitExists] <;> omega

theorem fenceUnit_undriven {u : FenceUnit} (hu : UnitExists u) (hs : s.efDriven d = false) : (s.fenceUnit u).efDriven d = false := by
  have hself : EfStatKept s s := regsKept_refl
  cases u with
  | none => exact hs
  | string k => exact (efStatKept_gateZero hself.of_regs_eq hu).undriven hs
  | port n => exact (efStatKept_pgFence hself _).undriven hs
  | slot i => exact (efStatKept_fenceVceSlot hself i).undriven hs
  | rail r => exact (efStatKept_fenceRail hself hu).undriven hs
  | phase p => exact (efStatKept_fencePhase hself hu).undriven hs
  | efuse c => exact (efStatKept_pgFence regsKept_refl _).undriven (efToOff_undriven hu hs)
  | seqSlot i => exact (efStatKept_fenceSeqSlot hself i).undriven hs
  | estSlice k => exact (efStatKept_gateZero hself.of_regs_eq hu).undriven hs
  | estProfile p =>
    refine EfStatKept.undriven (s := s) ?_ hs
    exact forAll_induct (motive := EfStatKept s) hself.of_regs_eq fun t k hk ht => regsKept_ite (efStatKept_gateZero ht.of_regs_eq hk) ht
  | sdma c => exact (efStatKept_fenceSdma hself c).undriven hs
  | sram half => exact hs

theorem fenceRaises_lt {u : FenceUnit} {x : Nat × List Nat} (h : x ∈ s.fenceRaises u) : x.1 < 256 := by
  cases u with
  | slot i =>
    simp only [fenceRaises] at h
    split_ifs at h with hrail hphase
    · rw [List.mem_singleton.1 h]
      show 128 + (i - 32) < 256
      omega
    · rw [List.mem_singleton.1 h]
      show 112 + (i - 40) < 256
      omega
    · exact absurd h List.not_mem_nil
  | _ => simp [fenceRaises] at h

/-- The fence that a reaction includes: the unit's, with the raises that follow it, and DEGRADED in RUN (R422, R430). -/
def fenceReaction (n : Nat) (s : State) (u : FenceUnit) : State :=
  let t := if s.isFenced u then s else ((s.fenceUnit u).fenceRaises u).foldl (fun s x => raiseN n s x.1 x.2 .plain) (s.fenceUnit u)
  if t.mode = mRUN then raiseN n ((t.setF DEV.MODE_STAT_PREV_MODE mRUN).setF DEV.MODE_STAT_MODE mDEGRADED) 11 [mDEGRADED, mRUN, 0] .plain else t

/-- The safe reaction with its mode transition (R424). -/
def safeReaction (n : Nat) (s : State) : State :=
  let t := if s.mode = mHOLDUP then raiseN n (s.safeReact.setF HOLDUP.HU_STAT_STATE 0) 109 [5, s.safeReact.huCauses] .plain else s.safeReact
  if s.mode = mRUN ∨ s.mode = mHOLDUP then
    raiseN n ((t.setF DEV.MODE_STAT_PREV_MODE s.mode).setF DEV.MODE_STAT_MODE mDEGRADED) 11 [mDEGRADED, s.mode, 0] .plain
  else t

/-- The recorder's fill after a raise (R494). -/
def fillReaction (n : Nat) (s : State) : State :=
  let t := if 32704 ≤ s.cairnN ∧ s.getCond 227 = false then raiseN n (s.setCond 227 true) 227 (leBytes 4 (s.getN CAIRN.LOST)) .plain else s
  if 32768 ≤ t.cairnN ∧ t.getCond 228 = false then raiseN n (t.setCond 228 true) 228 (leBytes 4 (t.getN CAIRN.LOST)) .noRecord else t

/-- TAKEOVER, which an active controller with a partner that takes over yields to, and else SAFE (R424, R425, R434). -/
def severityReaction (n sev : Nat) (s : State) : State :=
  let t := if sev = 5 then { s with dev := { s.dev with takeoverHeld := true } } else s
  if sev = 5 ∧ s.dev.takeoverHeld then t
  else if sev = 5 ∧ t.isPair ∧ t.getB RIDGE.PAIR_STAT_ACTIVE = false then t.deviceReset rcSEVERITY
  else if sev = 5 ∧ t.partnerTakes then ({ t with pair := { t.pair with yielded := true } }).setF RIDGE.PAIR_STAT_BELAY_OWN 0
  else fillReaction n (if 4 ≤ sev then safeReaction n t else t)

/-- A raise is its log, the fence that its severity includes, and what the severity calls for beyond it. -/
theorem raiseN_succ (n src : Nat) (data : List Nat) (how : RaiseHow) : raiseN (n + 1) s src data how =
    let sev := effSev ((s.setAct src true).getF (FCOL_SEV.SEV_SEV src)) src data how
    let t := (s.setAct src true).logRaise src sev data how
    severityReaction n sev (if (3 ≤ sev ∧ unitOf src data ≠ .none) ∨ (how ≠ .injected ∧ 16 ≤ src ∧ src < 64 ∧ src % 2 = 0 ∧ data.getD 0 0 = 3) then
      fenceReaction n t (unitOf src data) else t) := rfl

/-- What the raises that a reaction makes itself are assumed to keep. -/
abbrev RaisesUndriven (d : Fin 8) (n : Nat) : Prop := ∀ {s src data how}, src < 256 → s.efDriven d = false → (raiseN n s src data how).efDriven d = false

section Reactions

variable {n : Nat} (ih : RaisesUndriven d n)
include ih

/-- A change of mode, with source 11. -/
theorem modeRaise_undriven {a b : Nat} {data : List Nat} (hs : s.efDriven d = false) :
    (raiseN n ((s.setF DEV.MODE_STAT_PREV_MODE a).setF DEV.MODE_STAT_MODE b) 11 data .plain).efDriven d = false :=
  ih (by decide) (EfStatKept.undriven (regsKept_setF (regsKept_setF regsKept_refl (by decide) _) (by decide) _) hs)

theorem fenceReaction_undriven {u : FenceUnit} (hu : UnitExists u) (hs : s.efDriven d = false) : (fenceReaction n s u).efDriven d = false := by
  have hraises : (((s.fenceUnit u).fenceRaises u).foldl (fun s x => raiseN n s x.1 x.2 .plain) (s.fenceUnit u)).efDriven d = false :=
    List.foldlRecOn (motive := fun t : State => t.efDriven d = false) _ _ (fenceUnit_undriven hu hs) fun _ ht _ hx => ih (fenceRaises_lt hx) ht
  unfold fenceReaction
  dsimp only
  split_ifs
  exacts [modeRaise_undriven ih hs, hs, modeRaise_undriven ih hraises, hraises]

theorem safeReaction_undriven (hs : s.efDriven d = false) : (safeReaction n s).efDriven d = false := by
  have hsafe : s.safeReact.efDriven d = false := (efStatKept_safeReact regsKept_refl).undriven hs
  have hheld {data : List Nat} : (raiseN n (s.safeReact.setF HOLDUP.HU_STAT_STATE 0) 109 data .plain).efDriven d = false :=
    ih (by decide) (EfStatKept.undriven (regsKept_setF regsKept_refl (by decide) _) hsafe)
  unfold safeReaction
  dsimp only
  split_ifs
  exacts [modeRaise_undriven ih hheld, modeRaise_undriven ih hsafe, hheld, hsafe]

theorem fillReaction_undriven (hs : s.efDriven d = false) : (fillReaction n s).efDriven d = false := by
  have hwarned {t : State} {k : Nat} {data : List Nat} {how : RaiseHow} (hk : k < 256) (hcond : BesideEfStat (FCOL.COND (k / 32)))
      (ht : t.efDriven d = false) : (raiseN n (t.setCond k true) k data how).efDriven d = false :=
    ih hk (EfStatKept.undriven (regsKept_setF regsKept_refl hcond _) ht)
  have hfirst := hwarned (k := 227) (data := leBytes 4 (s.getN CAIRN.LOST)) (how := .plain) (by decide) (by decide) hs
  unfold fillReaction
  dsimp only
  split_ifs
  exacts [hwarned (by decide) (by decide) hfirst, hfirst, hwarned (by decide) (by decide) hs, hs]

theorem severityReaction_undriven (sev : Nat) (hs : s.efDriven d = false) : (severityReaction n sev s).efDriven d = false := by
  have hyield {t : State} (ht : t.efDriven d = false) : (t.setF RIDGE.PAIR_STAT_BELAY_OWN 0).efDriven d = false :=
    EfStatKept.undriven (regsKept_setF regsKept_refl (by decide) _) ht
  have hheld : (if sev = 5 then { s with dev := { s.dev with takeoverHeld := true } } else s).efDriven d = false := by
    split <;> exact hs
  unfold severityReaction
  dsimp only
  generalize (if sev = 5 then { s with dev := { s.dev with takeoverHeld := true } } else s) = t at hheld ⊢
  split_ifs
  exacts [hheld, deviceReset_undriven _, hyield hheld, fillReaction_undriven ih (safeReaction_undriven ih hheld), fillReaction_undriven ih hheld]

end Reactions

theorem raiseN_undriven (n : Nat) : RaisesUndriven d n := by
  induction n with
  | zero => exact fun hsrc hs => (EfStatKept.logged regsKept_refl (logged_setAct logged_refl hsrc true)).undriven hs
  | succ n ih =>
    intro s src data how hsrc hs
    have hlog (sev : Nat) : ((s.setAct src true).logRaise src sev data how).efDriven d = false :=
      (EfStatKept.logged regsKept_refl (logged_logRaise (logged_setAct logged_refl hsrc true) src sev data how)).undriven hs
    rw [raiseN_succ]
    refine severityReaction_undriven ih _ ?_
    split_ifs
    exacts [fenceReaction_undriven ih (unitExists_unitOf _ _) (hlog _), hlog _]

theorem raise_undriven {src : Nat} (hsrc : src < 256) (data : List Nat) (hs : s.efDriven d = false) : (s.raise src data).efDriven d = false :=
  raiseN_undriven 8 hsrc hs

end Undriven

end Sys2Proof.Proofs
end

section
/-! SUPPORT. An e-fuse channel's protections (chapter 12, R386 to R393), and the checkpoint of the counter record with the channels' records (R486). -/

namespace Sys2Proof.Proofs

open Machine Machine.State Laws

-- One proof after the other: side by side they take more threads than the check's memory has stacks for.
set_option Elab.async false

variable {s t : State}

theorem forAll_succ {n : Nat} {f : State → Nat → State} : forAll (n + 1) f s = f (forAll n f s) n := by simp [forAll, List.range_succ]

/-- A loop of which one step alone does anything. -/
theorem forAll_single {c m : Nat} {f : State → Nat → State} (hc : c < m) (hbefore : ∀ d < m, d ≠ c → f s d = s)
    (hafter : ∀ d < m, d ≠ c → f (f s c) d = f s c) : forAll m f s = f s c := by
  induction m with
  | zero => omega
  | succ m ih =>
    rw [forAll_succ]
    rcases Nat.lt_succ_iff_lt_or_eq.1 hc with hlt | rfl
    · rw [ih hlt (fun d hd => hbefore d (by omega)) (fun d hd => hafter d (by omega)), hafter m (by omega) (by omega)]
    · rw [forAll_self fun d hd => hbefore d (by omega) (by omega)]

/-! ### Trips (R387, R388) -/

section Trips

variable {c : Fin 8}

/-- The data of a report are read from the channel's current, its output voltage and its EF_STAT (R393). -/
theorem efData_of_regsKept {p : Nat → Prop} {c reason : Nat} (h : RegsKept p s t) (hi : ¬ p (EFUSE.I c)) (hout : ¬ p (EFUSE.V_OUT c))
    (hstat : ¬ p (EFUSE.EF_STAT c)) : t.efData c reason = s.efData c reason := by
  rw [efData, efData, getN, getN, h _ hi, h _ hout, getF_of_regsKept h hstat]
  rfl

theorem goesRaise_efuseShortCircuit (hlive : s.efLive c) (hdriven : s.efDriven c) : GoesRaise (.efuseShortCircuit c) s (efQuiet s c .fast)
    ([oneMore s (EFUSE.EF_CNT_SC_TRIPS c), oneMore s (EFUSE.EF_CNT_TRIPS c), (EFUSE.EF_STAT_LAST_REASON c, 2)] ++ efFields c efTRIPPED)
    (144 + c) (s.efData c 2) := by
  have hkept : RegsKept (· = EFUSE.EF_CNT c) s (s.incSat (EFUSE.EF_CNT_SC_TRIPS c)) := regsKept_setF (p := (· = EFUSE.EF_CNT c)) regsKept_refl rfl _
  have hdata : (s.incSat (EFUSE.EF_CNT_SC_TRIPS c)).efData c 2 = s.efData c 2 := efData_of_regsKept hkept (by simp) (by simp) (by simp)
  rw [← hdata]
  exact goesRaise_efGo (if_pos ⟨hlive, hdriven⟩)
    (((sets_refl.counted (EFUSE.EF_CNT_SC_TRIPS c)).counted (EFUSE.EF_CNT_TRIPS c)).indexed (EFUSE.EF_STAT_LAST_REASON c) 2)

/-- A trip drives no other channel. -/
theorem efTrip_undriven {d : Fin 8} {reason : Nat} {p : Pull} (hd : d ≠ c) (hs : s.efDriven d = false) : (s.efTrip c reason p).efDriven d = false := by
  have hne : d.val ≠ c.val := fun h => hd (Fin.ext h)
  have hset : RegsKept (fun a => a = EFUSE.EF_CNT c ∨ EfGoReg c a) s ((s.incSat (EFUSE.EF_CNT_TRIPS c)).setF (EFUSE.EF_STAT_LAST_REASON c) reason) :=
    regsKept_setF (regsKept_setF regsKept_refl (.inl rfl) _) (.inr (.inl rfl)) _
  have hapart : ¬ (EFUSE.EF_STAT d = EFUSE.EF_CNT c ∨ EfGoReg c (EFUSE.EF_STAT d)) := by
    simp only [EfGoReg, EFUSE.EF_STAT, EFUSE.EF_CNT, FCOL.COND]; omega
  have hgo := (getF_of_regsKept (f := EFUSE.EF_STAT_STATE d) (regsKept_efGo c efTRIPPED p) fun h => hapart (.inr h)).trans (getF_of_regsKept hset hapart)
  exact raise_undriven (by omega) _ ((efDriven_of_efState hgo).trans hs)

/-- What the loss of HV_REF does to one channel. -/
def hvRefTrip (s : State) (c : Nat) : State := if s.efLive c ∧ s.efDriven c then s.efTrip c 7 .fast else s

theorem hvRefTrip_driven (hlive : s.efLive c) (hdriven : s.efDriven c) : hvRefTrip s c = s.efTrip c 7 .fast := if_pos ⟨hlive, hdriven⟩

theorem hvRefTrip_undriven {d : Nat} (h : s.efDriven d = false) : hvRefTrip s d = s := if_neg fun hd => Bool.eq_false_iff.1 h hd.2

theorem exec_efuseHvRefLost_single (hlive : s.efLive c) (hdriven : s.efDriven c) (hothers : ∀ d : Fin 8, d ≠ c → s.efDriven d = false) :
    exec .efuseHvRefLost s = .next (s.efTrip c 7 .fast) := by
  have hone : forAll 8 hvRefTrip s = hvRefTrip s c := by
    refine forAll_single c.isLt (fun d hd hne => ?_) (fun d hd hne => ?_)
    · exact hvRefTrip_undriven (hothers ⟨d, hd⟩ (Fin.ne_of_val_ne hne))
    · have hother : (⟨d, hd⟩ : Fin 8) ≠ c := Fin.ne_of_val_ne hne
      rw [hvRefTrip_driven hlive hdriven]
      exact hvRefTrip_undriven (efTrip_undriven (d := ⟨d, hd⟩) hother (hothers ⟨d, hd⟩ hother))
  exact congrArg Host.Outcome.next (hone.trans (hvRefTrip_driven hlive hdriven))

end Trips

/-! ### The checkpoint of the counters (R486) -/

section Checkpoint

/-- The ids of the records that wait to be written. -/
def queuedIds (s : State) : List Nat := s.ps.queue.map PsWrite.id

/-- A queued request adds its id; the others keep theirs (R481). -/
theorem mem_queuedIds_psQueue {j id : Nat} {payload : List Byte} : j ∈ queuedIds (s.psQueue id payload) ↔ j ∈ queuedIds s ∨ j = id := by
  rw [queuedIds, psQueue]
  dsimp only [setF, setReg]
  split
  case isTrue h =>
    have hids : (s.ps.queue.map fun x => if x.id = id then (⟨id, psForm id, payload, false⟩ : PsWrite) else x).map PsWrite.id = queuedIds s := by
      rw [List.map_map]
      refine List.map_congr_left fun x _ => ?_
      by_cases hx : x.id = id <;> simp [hx]
    have hqueued : id ∈ queuedIds s := by simpa [queuedIds] using h
    rw [hids]
    exact ⟨.inl, fun hj => hj.elim (fun hj => hj) fun hj => hj ▸ hqueued⟩
  case isFalse => simp [queuedIds]

theorem mem_queuedIds_efCheckpoints {j n : Nat} :
    j ∈ queuedIds (forAll n (fun s c => s.efCheckpoint c) s) ↔ j ∈ queuedIds s ∨ ∃ c < n, j = 0x0300 + c := by
  induction n with
  | zero => simp [forAll]
  | succ n ih => rw [forAll_succ, efCheckpoint, mem_queuedIds_psQueue, ih, Nat.exists_lt_succ_right, or_assoc]

/-- Queueing a record shows the queue's length, and changes nothing beside the persistence state. -/
abbrev QueueOnly (s t : State) : Prop := RegsKept (· = PSTORE.PS_STAT) s t ∧ t = { s with regs := t.regs, ps := t.ps }

theorem queueOnly_psQueue (h : QueueOnly s t) (id : Nat) (payload : List Byte) : QueueOnly s (t.psQueue id payload) := by
  obtain ⟨hregs, hrest⟩ := h
  refine ⟨regsKept_setF (t := { t with ps := _ }) hregs rfl _, ?_⟩
  rw [hrest]
  rfl

/-- The counter record and the eight channel records queued, and the next 15 minutes begun. -/
def checkpointed (s : State) : State :=
  forAll 8 (fun s c => s.efCheckpoint c) ({ s with dev := { s.dev with ckptLeftUs := 900000000 } } : State).checkpoint

theorem exec_counterCheckpoint (hp : s.powered) (h : s.dev.ckptLeftUs = 0) : exec .counterCheckpoint s = .next (checkpointed s) := if_pos ⟨hp, h⟩

theorem queueOnly_checkpointed : QueueOnly { s with dev := { s.dev with ckptLeftUs := 900000000 } } (checkpointed s) :=
  forAll_induct (motive := QueueOnly _) (queueOnly_psQueue ⟨regsKept_refl, rfl⟩ _ _) fun _ _ _ ht => queueOnly_psQueue ht _ _

theorem mem_queuedIds_checkpointed {j : Nat} : j ∈ queuedIds (checkpointed s) ↔ (j ∈ queuedIds s ∨ j = 0x0200) ∨ ∃ c < 8, j = 0x0300 + c :=
  mem_queuedIds_efCheckpoints.trans (or_congr_left mem_queuedIds_psQueue)

theorem goes_counterCheckpoint (hp : s.powered) (h : s.dev.ckptLeftUs = 0) : Goes .counterCheckpoint s (fun t => t.dev.ckptLeftUs = 900000000 ∧
    (∀ a, a ≠ PSTORE.PS_STAT_QUEUED.addr → t.getReg a = s.getReg a) ∧ t.mem = s.mem ∧ (∃ w ∈ t.ps.queue, w.id = 0x0200) ∧
    ∀ c : Fin 8, ∃ w ∈ t.ps.queue, w.id = 0x0300 + c.val) := by
  obtain ⟨hregs, hrest⟩ := queueOnly_checkpointed (s := s)
  refine ⟨checkpointed s, exec_counterCheckpoint hp h, ?_, hregs, ?_, List.mem_map.1 (mem_queuedIds_checkpointed.2 (.inl (.inr rfl))),
    fun c => List.mem_map.1 (mem_queuedIds_checkpointed.2 (.inr ⟨c, c.isLt, rfl⟩))⟩
  · rw [hrest]
  · rw [hrest]

end Checkpoint

/-- Settles O20: every trip over the one lemma about a trip's fields, the loss of HV_REF with a raise that drives no other channel, the checkpoint over the
ids that wait in the queue. That the timers count conversions is log entry 94. -/
theorem efuseProtections : Obligations.EfuseProtections := by
  unfold Obligations.EfuseProtections
  refine ⟨fun c s => goesRaise_efuseShortCircuit, fun s => rfl,
    fun c s hlive hdriven hothers => goesRaise_efTrip (exec_efuseHvRefLost_single hlive hdriven hothers),
    fun c s hlive hst hticks => goesRaise_efTrip (if_pos ⟨hlive, hst, hticks⟩), fun c s hlive hst hticks => goesRaise_efTrip (if_pos ⟨hlive, hst, hticks⟩),
    fun c s hlive hst hticks => goesRaise_efTrip (if_pos ⟨hlive, hst, hticks⟩), fun c s u hlive hst hcheck hticks hlow hu => ?_,
    fun c s hlive hst hcheck hticks hhigh => ⟨_, (if_pos ⟨hlive, hst, hcheck, hticks⟩).trans (if_neg (Bool.eq_false_iff.1 hhigh)), sets_refl⟩,
    fun c s u hlive hst hticks hu => ?_,
    fun c s hlive hst hseen hticks => goesRaise_of_eq (if_pos ⟨hlive, hst, hseen, hticks⟩) (sets_refl.indexed (EFUSE.EF_STAT_LAST_REASON c) 8),
    fun s => goes_counterCheckpoint⟩
  · subst hu
    exact (if_pos ⟨hlive, hst, hcheck, hticks⟩).trans (if_pos hlow)
  · subst hu
    exact if_pos ⟨hlive, hst, hticks⟩

end Sys2Proof.Proofs
end

section
/-! SUPPORT. The queue of commands (log entry 60), the test port (R567), the CRCs' check values, and the parameter store's records: their order and their bytes (Table 16-1, R475, R483). -/

namespace Sys2Proof.Proofs

open Machine Machine.State Laws

-- One proof after the other: side by side they take more threads than the check's memory has stacks for.
set_option Elab.async false

variable {s : State}

/-- Settles O40: both parts are what `step` says of its queue; the queue and its idling are log entry 60. -/
theorem stepRunsFront : Obligations.StepRunsFront := by
  unfold Obligations.StepRunsFront
  exact ⟨fun _ _ => rfl, fun s h => by rw [step, h]⟩

/-- Settles O41: every command's meaning keeps the queue and the straps (`okO_exec`). That no command stops is log entry 8, the queue log entry 60, and that the
straps outlast a reset log entry 2. -/
theorem commandsGoOn : Obligations.CommandsGoOn := by
  unfold Obligations.CommandsGoOn
  intro c s
  obtain ⟨t, hexec, -, hqueue, hstraps⟩ := okO_exec (ok_refl (s := s)) c
  obtain ⟨hform, hrest⟩ := Prod.mk.inj hstraps
  obtain ⟨hgrade, hrest⟩ := Prod.mk.inj hrest
  obtain ⟨hmac, hrest⟩ := Prod.mk.inj hrest
  obtain ⟨hinj, htap⟩ := Prod.mk.inj hrest
  exact ⟨t, hexec, hqueue, hform, hgrade, hmac, hinj, htap⟩

/-! ### The test port -/

/-- The part of IDCODE, above the manufacturer and bit 0 (R567). -/
theorem tapIdcode_part : tapIdcode.extractLsb' 12 16 = 0x2432 :=
  (BitVec.extractLsb'_append_eq_of_le (by decide)).trans ((BitVec.extractLsb'_append_eq_of_le (by decide)).trans BitVec.extractLsb'_append_eq_right)

/-- The version of IDCODE, its four uppermost bits (R567). -/
theorem tapIdcode_version : tapIdcode.extractLsb' 28 4 = 0x1 :=
  (BitVec.extractLsb'_append_eq_of_le (by decide)).trans ((BitVec.extractLsb'_append_eq_of_le (by decide)).trans BitVec.extractLsb'_append_eq_left)

theorem tapCapture_of_locked {i : TapInstr} (hi : i.guarded = true) (h : s.dev.tapOpen = false) : s.tapCapture i = some [] := by
  cases i with
  | bypass | idcode | samplePreload => cases hi
  | extest | debug => simp [tapCapture, tapPermits, TapInstr.guarded, h]

theorem tapUnlock_eq (right : Bool) : s.tapUnlock right = { s with dev := { s.dev with tapOpen := s.dev.tapOpen || (s.dev.tapEnable && right) } } := by
  unfold tapUnlock
  cases htaken : s.dev.tapEnable && right <;> simp

/-- Settles O49: IDCODE's fields, what the lock permits of each instruction, and the unlock. That BYPASS captures a 0 and that a device reset locks the port are
log entry 100. -/
theorem testPortLocked : Obligations.TestPortLocked := by
  unfold Obligations.TestPortLocked
  exact ⟨tapIdcode_part, tapIdcode_version, fun s => ⟨rfl, rfl, rfl, rfl, rfl⟩, fun s h => ⟨tapCapture_of_locked rfl h, tapCapture_of_locked rfl h⟩,
    fun s right => tapUnlock_eq right, rfl⟩

/-- Settles O55: both registers run over the nine bytes. -/
theorem checkValues : Obligations.CheckValues := by
  unfold Obligations.CheckValues
  exact ⟨by decide +kernel, by decide +kernel⟩

/-! ### The order of two SEQs (R483) -/

/-- How far `a` lies ahead of `b`, modulo 2^32. -/
theorem ahead_eq {a b : Nat} (hb : b < 2 ^ 32) : (((a + 2 ^ 32 - b) % 2 ^ 32 : Nat) : Int) = ((a : Int) - b) % 2 ^ 32 := by omega

theorem seqNewer_iff {a b : Nat} : seqNewer a b = true ↔ 1 ≤ (a + 2 ^ 32 - b) % 2 ^ 32 ∧ (a + 2 ^ 32 - b) % 2 ^ 32 < 2 ^ 31 := by simp [seqNewer]

/-- Settles O54: the distance of two SEQs modulo 2^32, taken either way round. -/
theorem seqOrder : Obligations.SeqOrder := by
  unfold Obligations.SeqOrder
  intro a b ha hb
  refine ⟨?_, Bool.eq_false_iff.2 fun h => ?_, fun ⟨hab, hba⟩ => ?_⟩
  · have hahead := ahead_eq (a := a) hb
    rw [seqNewer_iff]
    omega
  · have hnewer := seqNewer_iff.1 h
    omega
  · have h := seqNewer_iff.1 hab
    have h' := seqNewer_iff.1 hba
    omega

/-! ### The bytes of a record (Table 16-1) -/

section Encoding

theorem leNat_leBytes (n x : Nat) : leNat (leBytes n x) = x % 256 ^ n := by
  induction n generalizing x with
  | zero => simp [leBytes, leNat, Nat.mod_one]
  | succ n ih => rw [leBytes, leNat, ih, Nat.pow_succ', Nat.mod_mul]

theorem leBytes_lt {n x b : Nat} (h : b ∈ leBytes n x) : b < 256 := by
  induction n generalizing x with
  | zero => simp [leBytes] at h
  | succ n ih =>
    rcases List.mem_cons.1 h with rfl | h
    · exact Nat.mod_lt _ (by decide)
    · exact ih h

theorem bytesNat_ofNat {l : List Nat} (h : ∀ b ∈ l, b < 256) : bytesNat (l.map (BitVec.ofNat 8)) = l := by
  rw [bytesNat, List.map_map]
  exact (List.map_congr_left fun b hb => by simpa using h b hb).trans (List.map_id l)

theorem crc32Shift_lt {n c : Nat} (h : c < 2 ^ 32) : crc32Shift n c < 2 ^ 32 := by
  induction n generalizing c with
  | zero => exact h
  | succ n ih =>
    rw [crc32Shift]
    split
    · exact ih (Nat.xor_lt_two_pow (by omega) (by decide))
    · exact ih (by omega)

theorem crc32_lt {l : List Nat} (h : ∀ b ∈ l, b < 256) : crc32 l < 2 ^ 32 := by
  refine Nat.xor_lt_two_pow ?_ (by decide)
  refine List.foldlRecOn (motive := (· < 2 ^ 32)) l _ (by decide) fun c hc b hb => crc32Shift_lt (Nat.xor_lt_two_pow hc ?_)
  exact (h b hb).trans (by decide)

variable {id form sq schema : Nat} {p : List Byte}

/-- The first 12 bytes of a record: MAGIC, FORM, ID, SCHEMA, LEN, SEQ. -/
def storeHead (id form sq schema len : Nat) : List Nat := [0xC7, form] ++ leBytes 2 id ++ leBytes 2 schema ++ leBytes 2 len ++ leBytes 4 sq

theorem storeHead_lt {len b : Nat} (hform : form < 256) (h : b ∈ storeHead id form sq schema len) : b < 256 := by
  simp only [storeHead, List.mem_append, List.mem_cons, List.not_mem_nil, or_false] at h
  rcases h with (((((rfl | rfl) | h) | h) | h) | h)
  · decide
  · exact hform
  all_goals exact leBytes_lt h

theorem bytesNat_lt {b : Nat} (h : b ∈ bytesNat p) : b < 256 := by
  obtain ⟨x, -, rfl⟩ := List.mem_map.1 h
  exact x.isLt

/-- The checksum of a record: over its first 12 bytes and its payload. -/
def storeCrc (id form sq schema : Nat) (p : List Byte) : Nat := crc32 (storeHead id form sq schema p.length ++ bytesNat p)

theorem storeCrc_lt (hform : form < 256) : storeCrc id form sq schema p < 2 ^ 32 :=
  crc32_lt fun _ hb => (List.mem_append.1 hb).elim (storeHead_lt hform) bytesNat_lt

/-- The 16 bytes before the payload. -/
def storeHeader (id form sq schema : Nat) (p : List Byte) : List Nat :=
  storeHead id form sq schema p.length ++ leBytes 4 (storeCrc id form sq schema p)

/-- The copy that holds a record as encoded. -/
abbrev storedCopy (id form sq schema : Nat) (p : List Byte) : PsCopy := ⟨psEncodeS id form sq schema p, false⟩

theorem storedCopy_bytes : (storedCopy id form sq schema p).bytes = (storeHeader id form sq schema p).map (BitVec.ofNat 8) ++ p := rfl

theorem storeHeader_lt (hform : form < 256) : ∀ b ∈ storeHeader id form sq schema p, b < 256 := fun _ hb =>
  (List.mem_append.1 hb).elim (storeHead_lt hform) leBytes_lt

theorem length_storeHeader : (storeHeader id form sq schema p).length = 16 := rfl

/-- A field of the header reads its bytes. -/
theorem storedCopy_field (hform : form < 256) {ofs n : Nat} (h : ofs + n ≤ 16) :
    (storedCopy id form sq schema p).field ofs n = leNat (((storeHeader id form sq schema p).drop ofs).take n) := by
  rw [PsCopy.field, storedCopy_bytes, List.drop_append_of_le_length (by rw [List.length_map, length_storeHeader]; omega), List.take_append_of_le_length
    (by rw [List.length_drop, List.length_map, length_storeHeader]; omega), ← List.map_drop, ← List.map_take, bytesNat_ofNat]
  exact fun b hb => storeHeader_lt hform b (List.mem_of_mem_drop (List.mem_of_mem_take hb))

theorem storedCopy_magic (hform : form < 256) : (storedCopy id form sq schema p).field 0 1 = 0xC7 := storedCopy_field hform (by decide)

theorem storedCopy_id (hform : form < 256) (hid : id < 2 ^ 16) : (storedCopy id form sq schema p).field 2 2 = id :=
  (storedCopy_field hform (by decide)).trans ((leNat_leBytes 2 id).trans (Nat.mod_eq_of_lt hid))

theorem storedCopy_schema (hform : form < 256) (hschema : schema < 2 ^ 16) : (storedCopy id form sq schema p).schema = schema :=
  (storedCopy_field hform (by decide)).trans ((leNat_leBytes 2 schema).trans (Nat.mod_eq_of_lt hschema))

theorem storedCopy_len (hform : form < 256) (hlen : p.length < 2 ^ 16) : (storedCopy id form sq schema p).len = p.length :=
  (storedCopy_field hform (by decide)).trans ((leNat_leBytes 2 p.length).trans (Nat.mod_eq_of_lt hlen))

theorem storedCopy_seq (hform : form < 256) (hsq : sq < 2 ^ 32) : (storedCopy id form sq schema p).seq = sq :=
  (storedCopy_field hform (by decide)).trans ((leNat_leBytes 4 sq).trans (Nat.mod_eq_of_lt hsq))

theorem storedCopy_crc (hform : form < 256) : (storedCopy id form sq schema p).field 12 4 = storeCrc id form sq schema p :=
  (storedCopy_field hform (by decide)).trans ((leNat_leBytes 4 _).trans (Nat.mod_eq_of_lt (storeCrc_lt hform)))

theorem storedCopy_head (hform : form < 256) : bytesNat ((storedCopy id form sq schema p).bytes.take 12) = storeHead id form sq schema p.length := by
  rw [storedCopy_bytes, List.take_append_of_le_length (by rw [List.length_map, length_storeHeader]; decide), ← List.map_take]
  exact bytesNat_ofNat fun b hb => storeHeader_lt hform b (List.mem_of_mem_take hb)

theorem storedCopy_payload (hform : form < 256) (hlen : p.length < 2 ^ 16) : (storedCopy id form sq schema p).payload = p := by
  rw [PsCopy.payload, storedCopy_len hform hlen, storedCopy_bytes, List.drop_left' (by rw [List.length_map, length_storeHeader]), List.take_length]

/-- The slots of the store map: ids up to 0x1400, of at most 32 pages (Table 16-2). -/
theorem psPages_bounds (h : psPages id ≠ 0) : id < 2 ^ 16 ∧ psPages id ≤ 32 := by
  revert h
  unfold psPages
  repeat' split
  all_goals omega

/-- Settles O56: the 16 bytes of the header read field by field, the checksum over the bytes that it was taken of. -/
theorem storeRecordRoundTrip : Obligations.StoreRecordRoundTrip := by
  unfold Obligations.StoreRecordRoundTrip
  intro id form sq schema p hpages hform hseq hsq hschema hfits
  obtain ⟨hid, hmax⟩ := psPages_bounds hpages
  have hlen : p.length < 2 ^ 16 := by omega
  have hpayload := storedCopy_payload (id := id) (sq := sq) (schema := schema) hform hlen
  refine ⟨?_, hpayload, storedCopy_len hform hlen, storedCopy_seq hform hsq, storedCopy_schema hform hschema⟩
  rw [PsCopy.invalidCause, if_neg, if_neg (fun h => Bool.noConfusion h), if_neg, if_neg, if_neg]
  · rw [storedCopy_seq hform hsq]; omega
  · rw [storedCopy_len hform hlen]; omega
  · rw [storedCopy_crc hform, storedCopy_head hform, hpayload, storedCopy_len hform hlen]
    simp [storeCrc]
  · rw [storedCopy_magic hform, storedCopy_id hform hid]
    simp

end Encoding

end Sys2Proof.Proofs
end

section
/-! SUPPORT. A raise that reacts at NOTIFY or below (chapter 14, Table 14-1): its record, its host event, and the collector's status. -/

namespace Sys2Proof.Proofs

open Machine Machine.State Laws

-- One proof after the other: side by side they take more threads than the check's memory has stacks for.
set_option Elab.async false

variable {s t u : State}

/-! ### Entries of the recorder and host event bits -/

/-- The registers of CAIRN and the host event bits EVT0 to EVT3. -/
abbrev EntryReg (a : Nat) : Prop := a / 0x1000 = pCAIRN ∨ FCOL.EVT 0 ≤ a ∧ a < FCOL.EVT 4

/-- `t` is `s` with entries of the recorder, of the trace ring and of the host events. -/
structure Entered (s t : State) : Prop where
  regs : RegsKept EntryReg s t
  rest : t = { s with regs := t.regs, cairn := t.cairn }
  grows : s.cairnN ≤ t.cairnN

theorem Entered.refl : Entered s s := ⟨regsKept_refl, rfl, le_rfl⟩

theorem Entered.trans (h : Entered s t) (h' : Entered t u) : Entered s u :=
  ⟨fun a ha => (h'.regs a ha).trans (h.regs a ha), by rw [h'.rest, h.rest], h.grows.trans h'.grows⟩

theorem Entered.setReg (h : Entered s t) {a : Nat} (w : Word) (ha : EntryReg a := by decide) : Entered s (t.setReg a w) :=
  ⟨regsKept_setReg h.regs ha w, congrArg (State.setReg · a w) h.rest, h.grows⟩

theorem Entered.setF (h : Entered s t) {f : Fld} (v : Nat) (hf : EntryReg f.addr := by decide) : Entered s (t.setF f v) := h.setReg _ hf

theorem entered_ite {c : Prop} [Decidable c] (h : Entered s t) (h' : Entered s u) : Entered s (if c then t else u) := by
  split <;> assumption

/-- Records added, or one of them replaced. -/
theorem Entered.cairn (h : Entered s t) (x : CairnSt) (hx : t.cairnN ≤ x.nv.length + x.staged.length) : Entered s { t with cairn := x } :=
  ⟨h.regs, congrArg (fun (u : State) => { u with cairn := x }) h.rest, h.grows.trans hx⟩

theorem entered_traceAdd (src sev kind : Nat) (nested : Bool) (d : List Nat) : Entered s (s.traceAdd src sev kind nested d) :=
  Entered.setF (f := CAIRN.TRACE_HEAD_HEAD) (Entered.setF (f := CAIRN.TRACE_HEAD_SIZE) (Entered.refl.cairn _ (by exact le_rfl)) _) _

theorem Entered.shown (h : Entered s t) : Entered s t.cairnShow :=
  Entered.setF (Entered.setF (Entered.setReg (Entered.setF (Entered.setF h _) _) _) _) _

theorem entered_cairnAccept (src sev kind flags : Nat) (d : List Nat) : Entered s (s.cairnAccept src sev kind flags d) := by
  refine Entered.shown (Entered.setF (Entered.setReg (Entered.refl.cairn _ ?_) _) _)
  show s.cairn.nv.length + s.cairn.staged.length ≤ s.cairn.nv.length + (s.cairn.staged ++ [_]).length
  rw [List.length_append]
  omega

theorem entered_cairnStage (src sev kind : Nat) (nested : Bool) (d : List Nat) : Entered s (s.cairnStage src sev kind nested d) := by
  have hlose : Entered s s.cairnLose := Entered.refl.setReg _
  unfold cairnStage
  dsimp only
  refine entered_ite (Entered.setF (Entered.refl.cairn _ ?_) _) (entered_ite hlose (entered_ite (entered_cairnAccept _ _ _ _ _)
    (entered_ite (entered_cairnAccept _ _ _ _ _) hlose)))
  exact (congrArg (s.cairn.nv.length + ·)
    (length_repeatLast (fun (x : CairnRec) => { x with rep := min (s.getF CAIRN.LAST_REPEAT_REPEAT + 1) 65535 }))).ge

theorem entered_setEvt (src : Nat) : Entered s (s.setEvt src) := by
  have hevt : s.getF (FCOL_SEV.SEV_EVT src) < 2 ^ 7 := getF_lt s _
  refine entered_ite (Entered.setF (f := ⟨_, _, 1⟩) Entered.refl _ (.inr ?_)) Entered.refl
  simp only [FCOL.EVT]
  omega

theorem Entered.getF (h : Entered s t) {f : Fld} (hf : ¬ EntryReg f.addr := by decide) : t.getF f = s.getF f := getF_of_regsKept h.regs hf

/-! ### The collector's status -/

/-- A severity up to NOTIFY joins SEV_MAX, and counts while a fault is handled (R433, R434). -/
theorem collect_of_le_two {src sev : Nat} (h : sev ≤ 2) : s.collect src sev =
    let t := if s.getB FCOL.FCOL_STAT_HANDLING then s.incSat FCOL.FCOL_STAT_NEST_COUNT else s
    t.setF FCOL.FCOL_STAT_SEV_MAX (max (t.getF FCOL.FCOL_STAT_SEV_MAX) sev) := by
  simp only [collect, show ¬ 3 ≤ sev by omega, ↓reduceIte]

theorem regsKept_collect {src sev : Nat} (h : sev ≤ 2) : RegsKept (· = FCOL.FCOL_STAT) s (s.collect src sev) := by
  rw [collect_of_le_two h]
  have hcount : RegsKept (· = FCOL.FCOL_STAT) s (s.incSat FCOL.FCOL_STAT_NEST_COUNT) := regsKept_setF (p := (· = FCOL.FCOL_STAT)) regsKept_refl rfl _
  exact regsKept_setF (p := (· = FCOL.FCOL_STAT)) (regsKept_ite hcount regsKept_refl) rfl _

theorem collect_rest {src sev : Nat} (h : sev ≤ 2) : s.collect src sev = { s with regs := (s.collect src sev).regs } := by
  rw [collect_of_le_two h]
  dsimp only
  split <;> rfl

theorem collect_status {src sev : Nat} (h : sev ≤ 2) :
    (s.collect src sev).getF FCOL.FCOL_STAT_SEV_MAX = max (s.getF FCOL.FCOL_STAT_SEV_MAX) sev ∧
    (s.collect src sev).getF FCOL.FCOL_STAT_HANDLING = s.getF FCOL.FCOL_STAT_HANDLING := by
  have hcounted : ∃ l, Sets s (if s.getB FCOL.FCOL_STAT_HANDLING then s.incSat FCOL.FCOL_STAT_NEST_COUNT else s) l ∧
      ∀ x ∈ l, x.1 = FCOL.FCOL_STAT_NEST_COUNT := by
    split
    · exact ⟨_, sets_refl.counted FCOL.FCOL_STAT_NEST_COUNT, by simp [oneMore]⟩
    · exact ⟨[], sets_refl, by simp⟩
  obtain ⟨l, hsets, hl⟩ := hcounted
  have hmax := hsets.keeps FCOL.FCOL_STAT_SEV_MAX (by decide) fun x hx => by simp [hl x hx, Apart]
  have hhandling := hsets.keeps FCOL.FCOL_STAT_HANDLING (by decide) fun x hx => by simp [hl x hx, Apart]
  have hlt : s.getF FCOL.FCOL_STAT_SEV_MAX < 2 ^ 3 := getF_lt s _
  rw [collect_of_le_two h]
  dsimp only
  rw [getF_setF_self (by decide), getF_setF_apart (by decide) (by simp [Apart]), hmax, hhandling]
  exact ⟨Nat.mod_eq_of_lt (show _ < 8 by omega), rfl⟩

/-! ### The log of such a raise -/

section Log

variable {src sev : Nat} {d : List Nat}

/-- A raise without severity leaves a trace entry alone; any other is collected, recorded, and sets its host event (R422, R429, R499). -/
theorem logRaise_parts : ∃ v, Entered s v ∧ (sev = 0 ∧ s.logRaise src sev d .plain = v ∨ Entered (v.collect src sev) (s.logRaise src sev d .plain)) := by
  refine ⟨_, entered_traceAdd src sev kFAULT (s.getB FCOL.FCOL_STAT_HANDLING) d, ?_⟩
  by_cases h0 : sev = 0
  · exact .inl ⟨h0, if_pos h0⟩
  · have hstage {v : State} := entered_cairnStage (s := v) src sev kFAULT (s.getB FCOL.FCOL_STAT_HANDLING) d
    refine .inr ?_
    rw [logRaise, if_neg h0]
    exact entered_ite (hstage.trans (entered_setEvt src)) hstage

/-- The registers that the log writes. -/
abbrev NoteReg (a : Nat) : Prop := a = FCOL.FCOL_STAT ∨ EntryReg a

theorem logRaise_notes (hsev : sev ≤ 2) : let t := s.logRaise src sev d .plain
    RegsKept NoteReg s t ∧ t = { s with regs := t.regs, cairn := t.cairn } ∧ s.cairnN ≤ t.cairnN ∧
    t.getF FCOL.FCOL_STAT_SEV_MAX = max (s.getF FCOL.FCOL_STAT_SEV_MAX) sev ∧ t.getF FCOL.FCOL_STAT_HANDLING = s.getF FCOL.FCOL_STAT_HANDLING := by
  obtain ⟨v, hv, ⟨h0, htrace⟩ | hlog⟩ := logRaise_parts (s := s) (src := src) (sev := sev) (d := d)
  · simp only [htrace]
    refine ⟨fun a ha => hv.regs a fun h => ha (.inr h), hv.rest, hv.grows, ?_, hv.getF⟩
    rw [hv.getF, h0, Nat.max_zero]
  · obtain ⟨hmax, hhandling⟩ := collect_status (s := v) (src := src) hsev
    refine ⟨fun a ha => ?_, ?_, ?_, ?_, ?_⟩
    · exact (hlog.regs a fun h => ha (.inr h)).trans ((regsKept_collect hsev a fun h => ha (.inl h)).trans (hv.regs a fun h => ha (.inr h)))
    · rw [hlog.rest, collect_rest hsev, hv.rest]
    · exact hv.grows.trans ((cairnN_collect src sev).ge.trans hlog.grows)
    · rw [hlog.getF, hmax, hv.getF]
    · rw [hlog.getF, hhandling, hv.getF]

end Log

/-! ### The raise -/

section Raise

variable {src sev : Nat} {d : List Nat}

/-- A raise that reacts at NOTIFY or below, without the fence of R124 and with room in the recorder, is its ACT bit and its log (R422). -/
theorem raise_of_notify (hsrc : src < 256) (hsev : effSev (s.getF (FCOL_SEV.SEV_SEV src)) src d .plain = sev) (hle : sev ≤ 2)
    (hfree : ¬ (16 ≤ src ∧ src < 64 ∧ src % 2 = 0 ∧ d.getD 0 0 = 3)) (hfill : s.cairnN + 1 < 32704) :
    s.raise src d = (s.setAct src true).logRaise src sev d .plain := by
  have hcfg : (s.setAct src true).getF (FCOL_SEV.SEV_SEV src) = s.getF (FCOL_SEV.SEV_SEV src) :=
    getF_setF_addr (by simp only [FCOL_SEV.SEV, FCOL.ACT]; omega) _
  have hn : ((s.setAct src true).logRaise src sev d .plain).cairnN < 32704 := lt_of_le_of_lt (cairnN_logRaise _ _ _ _) hfill
  have hunfenced : ¬ ((3 ≤ sev ∧ unitOf src d ≠ .none) ∨ (RaiseHow.plain ≠ .injected ∧ 16 ≤ src ∧ src < 64 ∧ src % 2 = 0 ∧ d.getD 0 0 = 3)) := by
    rintro (h | h)
    · omega
    · exact hfree h.2
  rw [raise, raiseN_succ]
  dsimp only
  rw [hcfg, hsev, if_neg hunfenced, severityReaction]
  simp only [show ¬ 4 ≤ sev by omega, show ¬ sev = 5 by omega, false_and, ↓reduceIte, fillReaction,
    show ¬ 32704 ≤ ((s.setAct src true).logRaise src sev d .plain).cairnN by omega,
    show ¬ 32768 ≤ ((s.setAct src true).logRaise src sev d .plain).cairnN by omega]

theorem getAct_setAct_self (b : Bool) : (s.setAct src b).getAct src = b := getLsbD_putBit_self (Nat.mod_lt _ (by decide)) b

theorem getAct_setAct_ne {other : Nat} (h : other ≠ src) (b : Bool) : (s.setAct src b).getAct other = s.getAct other :=
  getBit_setF_apart (f := ⟨FCOL.ACT (src / 32), src % 32, 1⟩) (Nat.mod_lt _ (by decide)) (by simp only [Apart, FCOL.ACT]; omega) _

theorem getAct_of_regsKept {p : Nat → Prop} (h : RegsKept p s t) (hp : ¬ p (FCOL.ACT (src / 32))) : t.getAct src = s.getAct src :=
  congrArg (BitVec.getLsbD · (src % 32)) (h _ hp)

end Raise

/-- Settles O24: such a raise is its ACT bit and its log (`raise_of_notify`), and the log stays in the status, the event bits and the recorder
(`logRaise_notes`). -/
theorem raiseFrame : Obligations.RaiseFrame := by
  unfold Obligations.RaiseFrame
  intro src d s hsev hfree hfill
  have heq := raise_of_notify src.isLt rfl hsev hfree hfill
  obtain ⟨hregs, hrest, hgrows, hmax, hhandling⟩ := logRaise_notes (s := s.setAct src true) (src := src) (d := d) hsev
  have hact {x : Nat} (hx : x < 256) : (s.raise src d).getAct x = (s.setAct src true).getAct x := by
    rw [heq]
    exact getAct_of_regsKept hregs (by simp only [NoteReg, EntryReg, FCOL.ACT, FCOL.FCOL_STAT, FCOL.EVT, pCAIRN]; omega)
  have hstat (f : Fld) (hf : f.addr = FCOL.FCOL_STAT) : (s.setAct src true).getF f = s.getF f :=
    getF_setF_addr (by rw [hf]; simp only [FCOL.FCOL_STAT, FCOL.ACT]; omega) _
  refine ⟨?_, fun x hx => ?_, ?_, ?_, ?_, fun a hf hc => ?_, ?_, ?_⟩
  · rw [hact src.isLt, getAct_setAct_self]
  · rw [hact x.isLt, getAct_setAct_ne (Fin.val_ne_of_ne hx)]
  · rw [heq, hmax, hstat _ rfl]
  · rw [heq, State.getB, hhandling, hstat _ rfl, State.getB]
  · rw [heq, hrest]
    rfl
  · rw [heq, hregs a (by simp only [NoteReg, EntryReg, FCOL.FCOL_STAT, FCOL.EVT, pFCOL] at hf ⊢; omega)]
    exact getReg_setReg_ne _ (by simp only [FCOL.ACT, pFCOL] at hf ⊢; omega)
  · rw [heq]
    exact hgrows
  · rw [heq]
    exact cairnN_logRaise _ _ _ _

end Sys2Proof.Proofs
end

section
/-! SUPPORT. The window of 32 records behind CAIRN.RD_SEQ (R495). -/

namespace Sys2Proof.Proofs

open Machine Machine.State Laws

-- One proof after the other: side by side they take more threads than the check's memory has stacks for.
set_option Elab.async false

variable {s t : State} {r : Requester}

/-- A register of one RW field of 32 bits takes the word as it is written (R40). -/
theorem writtenWord_whole {k : PageKind} {d : RegDef} {n i a : Nat} (hk : k ≠ .fcol) (hd : d.fields = [.mkRW 0 32]) (old v : Word) :
    s.writtenWord r k d n i a old v = v := by
  have hv : v.toNat < 4294967296 := v.isLt
  simp [writtenWord, hk, hd, mergeWord, FieldDef.mkRW, clampField, withBits, bitsOf, Nat.mod_eq_of_lt hv]

/-- RD_SEQ is one RW field of 32 bits (Table 16-10). -/
def rdSeqReg : RegDef := ⟨0x60, 0, 1, [.mkRW 0 32]⟩

theorem findReg_rdSeq : findReg (CAIRN.RD_SEQ / 0x1000) (CAIRN.RD_SEQ % 0x1000) = some (rdSeqReg, 0, 0) := by rfl

theorem stored_rdSeq (q : Word) : Stored s r CAIRN.RD_SEQ q.toNat = ((s.ownerTouch pCAIRN r).setReg CAIRN.RD_SEQ q).countChg pCAIRN := by
  refine (stored_plain (k := .cairn) (n := 0) rfl findReg_rdSeq (homeOf_plain (by decide) (by decide)) rfl).trans ?_
  rw [writtenWord_whole (by decide) rfl, BitVec.ofNat_toNat, BitVec.setWidth_eq]
  rfl

theorem sets_countChg_touched {p : Nat} {l : List (Fld × Nat)} (h : Sets (s.ownerTouch p r) t l) (hl : ∀ x ∈ l, x.1.lo + x.1.w ≤ 32 ∧ x.1.addr ≠ pgChg p) :
    Sets (s.ownerTouch p r) (t.countChg p) (l ++ [pageChg s p]) := by
  have hsets := sets_countChg h hl
  rw [pageChg, ownerTouch_getF] at hsets
  exact sets_of_mem_iff hsets (by simp [pageChg]; tauto)

theorem exec_cairnRdSeq {q : Word} (h : Accepts s r CAIRN.RD_SEQ q.toNat) : exec (.cairnRdSeq r q) s = .next (Stored s r CAIRN.RD_SEQ q.toNat) :=
  congrArg Host.Outcome.next (hostWrite_accepted h regAt_rdSeq)

theorem sets_stored_rdSeq (q : Word) : Sets (s.ownerTouch pCAIRN r) (Stored s r CAIRN.RD_SEQ q.toNat) [whole CAIRN.RD_SEQ q, pageChg s pCAIRN] := by
  rw [stored_rdSeq]
  exact sets_countChg_touched (sets_setReg sets_refl (by simp)) (by simp only [List.forall_mem_singleton, whole]; decide)

/-- A page that takes a word of its block is not OFF (R37). -/
theorem pgState_of_accepts {a v : Nat} {k : PageKind} {n i : Nat} (h : Accepts s r a v) (hr : RegAt a k n i = true) : s.pgState (a / 0x1000) ≠ psOFF := by
  simp only [RegAt, Bool.and_eq_true, decide_eq_true_eq, ne_eq, Bool.not_eq_true', Option.map_eq_some_iff, Prod.exists] at hr
  obtain ⟨⟨⟨⟨⟨⟨k', x, hk, -⟩, ⟨d, n', i', hf, -⟩⟩, h4⟩, h8⟩, h14⟩, -⟩ := hr
  have ht := h.2.2.2.2.2.2
  simp only [wordTaken, h4, h8, h14, or_self, ↓reduceIte, hk, hf, Bool.and_eq_true, decide_eq_true_eq] at ht
  exact ht.1.1.1

theorem findReg_record : ∀ i : Fin 32, ∀ j : Fin 8, (findReg pCAIRN (0x400 + 32 * i + 4 * j)).isNone = false := by decide +kernel

/-- The record with a SEQ among the written and the staged ones. -/
abbrev heldRecord (s : State) (seq : Nat) : Option CairnRec := (s.cairn.nv ++ s.cairn.staged).find? (fun x => x.seq = seq)

/-- Word j of RECi is word j of the record with SEQ RD_SEQ + i, and 0 where there is none. -/
theorem viewWord_record (hon : s.pgState pCAIRN ≠ psOFF) (i : Fin 32) (j : Fin 8) : s.viewWord pCAIRN (0x400 + 32 * i + 4 * j) =
    ((heldRecord s ((s.getN CAIRN.RD_SEQ + i) % 2 ^ 32)).map (fun x => entryWord x.bytes j)).getD 0 := by
  have hkind : pageKind pCAIRN = some (.cairn, 0) := rfl
  have hseq : (0x400 + 32 * i.val + 4 * j.val - 0x400) / 32 = i := by omega
  have hword : (0x400 + 32 * i.val + 4 * j.val - 0x400) % 32 / 4 = j := by omega
  simp only [viewWord, hkind, findReg_record, hon, computed, cairnView, hseq, hword, heldRecord, show ¬ (0x400 + 32 * i.val + 4 * j.val = 8) by omega,
    show ¬ (0x400 + 32 * i.val + 4 * j.val = 12) by omega, show ¬ (0x400 + 32 * i.val + 4 * j.val < 32) by omega,
    show ¬ (0x400 + 32 * i.val + 4 * j.val = 100) by omega, show 0x400 ≤ 0x400 + 32 * i.val + 4 * j.val ∧ 0x400 + 32 * i.val + 4 * j.val < 0x800 by omega,
    false_and, Bool.false_eq_true, ↓reduceIte, Option.getD_some, and_self]
  cases (s.cairn.nv ++ s.cairn.staged).find? (fun x => x.seq = (s.getN CAIRN.RD_SEQ + i.val) % 2 ^ 32) <;> rfl

/-- Settles O29: the accepted write stores RD_SEQ alone (`sets_stored_rdSeq`), and the window reads the records as held (`viewWord_record`). -/
theorem cairnRecordWindow : Obligations.CairnRecordWindow := by
  unfold Obligations.CairnRecordWindow
  intro r q s h
  have hsets := sets_stored_rdSeq (s := s) (r := r) q
  have hseq : (Stored s r CAIRN.RD_SEQ q.toNat).getReg CAIRN.RD_SEQ = q := getReg_of_whole hsets (by simp)
  have hon : (Stored s r CAIRN.RD_SEQ q.toNat).pgState pCAIRN ≠ psOFF := by
    rw [pgState, stored_getF (homeOf_plain (by decide) (by decide)) (by decide) (by decide)]
    exact pgState_of_accepts h regAt_rdSeq
  refine ⟨_, exec_cairnRdSeq h, hseq, fun i j => ?_, hsets⟩
  have hheld (n : Nat) : heldRecord (Stored s r CAIRN.RD_SEQ q.toNat) n = heldRecord s n := by rw [heldRecord, stored_rest]
  rw [viewWord_record hon, hheld, getN, hseq, heldRecord]
  cases (s.cairn.nv ++ s.cairn.staged).find? (fun x => x.seq = (q.toNat + i.val) % 2 ^ 32) <;> rfl

end Sys2Proof.Proofs
end

section
/-! SUPPORT. PMBus polls, failures and alerts (chapter 17, R522, R524). -/

namespace Sys2Proof.Sets

open Machine Machine.State Laws Proofs

-- One proof after the other: side by side they take more threads than the check's memory has stacks for.
set_option Elab.async false

variable {s t : State} {l : List (Fld × Nat)}

/-- One field each of `n` entries, with the value of its entry. -/
theorem entries (h : Sets s t l) (f : Nat → Fld) (v : Nat → Nat) (n : Nat) (hv : ∀ k, v k < 2 ^ (f k).w) (hw : ∀ k, (f k).lo + (f k).w ≤ 32)
    (hl : ∀ k, ∀ x ∈ l, x.1.lo + x.1.w ≤ 32 ∧ Apart x.1 (f k)) (hf : ∀ j k, j < k → Apart (f j) (f k)) :
    Sets s (forAll n (fun s k => s.setF (f k) (v k)) t) (l ++ (List.range n).map (fun k => (f k, v k))) := by
  induction n with
  | zero => simpa [forAll] using h
  | succ n ih =>
    have hstep := ih.field (f n) (v n) (hv n) (fun x hx => ?_) (hw n)
    · simpa [forAll, List.range_succ] using hstep
    · rcases List.mem_append.1 hx with hx | hx
      · exact hl n x hx
      · obtain ⟨k, hk, rfl⟩ := List.mem_map.1 hx
        exact ⟨hw k, hf k n (List.mem_range.1 hk)⟩

end Sys2Proof.Sets

namespace Sys2Proof.Proofs

open Machine Machine.State Laws

-- One proof after the other: side by side they take more threads than the check's memory has stacks for.
set_option Elab.async false

variable {s t : State}

/-! ### A successful poll (R522) -/

section Poll

variable {d : Nat} {x : PmbData} {poll : Nat}

/-- STATUS_WORD shown where POLL has it. -/
def statusShown (s : State) (d : Nat) (x : PmbData) (poll : Nat) : State :=
  if poll.testBit 0 then s.setF (PMBUS.PMB_STAT_STATUS_WORD d) x.statusWord.toNat else s

/-- Value `k` shown where POLL has it. -/
def valueShown (d : Nat) (x : PmbData) (poll : Nat) (s : State) (k : Nat) : State :=
  if poll.testBit (k + 1) then (s.pmbValue d x k).2.setReg (PMBUS.PMB_VAL d k) (s.pmbValue d x k).1 else s

/-- The device answered: its VOUT_MODE is known, and no failure counts. -/
def deviceAnswered (s : State) (d : Nat) (x : PmbData) : State :=
  ((({ s with vout := s.vout.set d (some (s.voutMode d x)) }).setF (PMBUS.PMB_STAT_FAILS d) 0).setF (PMBUS.PMB_STAT_FAILED d) 0).setF
    (PMBUS.PMB_STAT_PRESENT d) 1

theorem pmbPolled_eq : s.pmbPolled d x = deviceAnswered
    (forAll 7 (valueShown d x (s.getF (PMBUS.DEV_A_POLL d))) (statusShown s d x (s.getF (PMBUS.DEV_A_POLL d)))) d x := rfl

/-- A value that the spec does not give takes a free word, and nothing else. -/
theorem pmbValue_state (k : Nat) : ∃ n, (s.pmbValue d x k).2 = { s with free := n } := by
  unfold pmbValue
  dsimp only
  split_ifs
  exacts [⟨s.free, rfl⟩, ⟨s.free + 1, rfl⟩, ⟨s.free, rfl⟩]

/-- What the values of a device write. -/
abbrev ValueReg (d a : Nat) : Prop := ∃ k < 7, a = PMBUS.PMB_VAL d k

/-- `t` is `s` with values of a device shown. -/
structure ValuesShown (d : Nat) (s t : State) : Prop where
  regs : RegsKept (ValueReg d) s t
  mem : t.mem = s.mem
  shelf : t.shelf = s.shelf

theorem valuesShown_step (h : ValuesShown d s t) {k : Nat} (hk : k < 7) : ValuesShown d s (valueShown d x poll t k) := by
  obtain ⟨n, hvalue⟩ := pmbValue_state (s := t) (d := d) (x := x) k
  unfold valueShown
  split
  · rw [hvalue]
    exact ⟨regsKept_setReg (t := { t with free := n }) h.regs ⟨k, hk, rfl⟩ _, h.mem, h.shelf⟩
  · exact h

theorem valuesShown_all : ValuesShown d s (forAll 7 (valueShown d x poll) s) :=
  forAll_induct (motive := ValuesShown d s) ⟨regsKept_refl, rfl, rfl⟩ fun _ _ hk h => valuesShown_step h hk

theorem ValuesShown.getF (h : ValuesShown d s t) {f : Fld} (hf : f.addr < 0x1100000) : t.getF f = s.getF f :=
  getF_of_regsKept h.regs (by rintro ⟨k, -, hk⟩; simp only [PMBUS.PMB_VAL] at hk; omega)

theorem sets_deviceAnswered : Sets { s with vout := s.vout.set d (some (s.voutMode d x)) } (deviceAnswered s d x)
    [(PMBUS.PMB_STAT_FAILS d, 0), (PMBUS.PMB_STAT_FAILED d, 0), (PMBUS.PMB_STAT_PRESENT d, 1)] :=
  ((sets_refl.indexed (PMBUS.PMB_STAT_FAILS d) 0).indexed (PMBUS.PMB_STAT_FAILED d) 0).indexed (PMBUS.PMB_STAT_PRESENT d) 1

theorem deviceAnswered_getReg {a : Nat} (ha : a ≠ PMBUS.PMB_STAT d) : (deviceAnswered s d x).getReg a = s.getReg a :=
  (getReg_of_sets sets_deviceAnswered (by simp [ha.symm])).trans rfl

theorem exec_pmbusPoll {d : Fin 32} (ho : s.operating) (hrun : s.pgRunning pPMBUS) (hen : s.getB (PMBUS.DEV_A_EN d)) :
    exec (.pmbusPoll d x) s = .next (s.pmbPolled d x) := if_pos ⟨ho, hrun, hen⟩

theorem pmbPolled_answered : let t := s.pmbPolled d x
    t.getF (PMBUS.PMB_STAT_FAILS d) = 0 ∧ t.getB (PMBUS.PMB_STAT_FAILED d) = false ∧ t.getB (PMBUS.PMB_STAT_PRESENT d) = true := by
  have hsets := sets_deviceAnswered (s := forAll 7 (valueShown d x (s.getF (PMBUS.DEV_A_POLL d))) (statusShown s d x (s.getF (PMBUS.DEV_A_POLL d))))
    (d := d) (x := x)
  exact ⟨hsets.reads (PMBUS.PMB_STAT_FAILS d, 0) (by simp), getB_of_getF_toNat (b := false) (hsets.reads (PMBUS.PMB_STAT_FAILED d, 0) (by simp)),
    getB_of_getF_toNat (b := true) (hsets.reads (PMBUS.PMB_STAT_PRESENT d, 1) (by simp))⟩

theorem pmbPolled_rest : (s.pmbPolled d x).mem = s.mem ∧ (s.pmbPolled d x).shelf = s.shelf := by
  have hstatus : (statusShown s d x (s.getF (PMBUS.DEV_A_POLL d))).mem = s.mem ∧ (statusShown s d x (s.getF (PMBUS.DEV_A_POLL d))).shelf = s.shelf := by
    unfold statusShown
    split <;> exact ⟨rfl, rfl⟩
  rw [pmbPolled_eq]
  exact ⟨valuesShown_all.mem.trans hstatus.1, valuesShown_all.shelf.trans hstatus.2⟩

/-- A poll writes the device's status and its values. -/
theorem pmbPolled_getReg {a : Nat} (ha : a ≠ PMBUS.PMB_STAT d) (hv : ¬ ValueReg d a) : (s.pmbPolled d x).getReg a = s.getReg a := by
  rw [pmbPolled_eq, deviceAnswered_getReg ha, valuesShown_all.regs a hv, statusShown]
  split
  · exact getReg_setReg_ne _ ha
  · rfl

theorem pmbPolled_statusWord (hpoll : s.getF (PMBUS.DEV_A_POLL d) % 2 = 1) (hd : d < 32) :
    (s.pmbPolled d x).getF (PMBUS.PMB_STAT_STATUS_WORD d) = x.statusWord.toNat := by
  have hbit : (s.getF (PMBUS.DEV_A_POLL d)).testBit 0 = true := by simpa [Nat.testBit_zero] using hpoll
  rw [pmbPolled_eq, sets_deviceAnswered.kept (PMBUS.PMB_STAT_STATUS_WORD d) (by simp [Apart]) (by exact Nat.le_of_ble_eq_true rfl)]
  refine (valuesShown_all.getF (f := PMBUS.PMB_STAT_STATUS_WORD d) (by simp only [PMBUS.PMB_STAT]; omega)).trans ?_
  rw [statusShown, if_pos hbit, getF_setF_self (by exact Nat.le_of_ble_eq_true rfl)]
  exact Nat.mod_eq_of_lt x.statusWord.isLt

/-- A POLL of one value shows that value alone. -/
theorem pmbPolled_single {k : Nat} (hk : k < 7) (hpoll : s.getF (PMBUS.DEV_A_POLL d) = 2 ^ (k + 1)) :
    s.pmbPolled d x = deviceAnswered ((s.pmbValue d x k).2.setReg (PMBUS.PMB_VAL d k) (s.pmbValue d x k).1) d x := by
  have hother (j : Nat) (hj : j ≠ k + 1) : (2 ^ (k + 1)).testBit j = false := Nat.testBit_two_pow_of_ne hj.symm
  have hstatus : statusShown s d x (2 ^ (k + 1)) = s := if_neg (by simp [hother 0 (by omega)])
  have hskip (t : State) (j : Nat) (hj : j ≠ k) : valueShown d x (2 ^ (k + 1)) t j = t := if_neg (by simp [hother (j + 1) (by omega)])
  rw [pmbPolled_eq, hpoll, hstatus, forAll_single hk (fun j _ hj => hskip _ j hj) fun j _ hj => hskip _ j hj, valueShown,
    if_pos (Nat.testBit_two_pow_self)]

theorem pmbPolled_value {d : Fin 32} {k : Fin 7} (hpoll : s.getF (PMBUS.DEV_A_POLL d) = 2 ^ (k.val + 1)) :
    (s.pmbPolled d x).getReg (PMBUS.PMB_VAL d k) = (s.pmbValue d x k).1 ∧
    ∀ j : Fin 7, j ≠ k → (s.pmbPolled d x).getReg (PMBUS.PMB_VAL d j) = s.getReg (PMBUS.PMB_VAL d j) := by
  have hplace (j : Fin 7) : PMBUS.PMB_VAL d j ≠ PMBUS.PMB_STAT d := by simp only [PMBUS.PMB_VAL, PMBUS.PMB_STAT]; omega
  obtain ⟨n, hvalue⟩ := pmbValue_state (s := s) (d := d) (x := x) k
  rw [pmbPolled_single k.isLt hpoll]
  refine ⟨?_, fun j hj => ?_⟩
  · rw [deviceAnswered_getReg (hplace k), getReg_setReg_self]
  · have hne : PMBUS.PMB_VAL d j ≠ PMBUS.PMB_VAL d k := by
      have hval := Fin.val_ne_of_ne hj
      simp only [PMBUS.PMB_VAL]
      omega
    rw [deviceAnswered_getReg (hplace j), getReg_setReg_ne _ hne, hvalue]
    rfl

end Poll

/-! ### A failed poll (R524) -/

section Fail

variable {d : Fin 32} {w : PmbFail}

theorem exec_pmbusPollFail (ho : s.operating) (hrun : s.pgRunning pPMBUS) (hen : s.getB (PMBUS.DEV_A_EN d)) (hpec : w = .pec → s.getB PMBUS.PMB_CFG_PEC) :
    exec (.pmbusPollFail d w) s = .next (s.pmbFailed d (pmbFailCode w)) := if_pos ⟨ho, hrun, hen, hpec⟩

theorem sets_failCounted : Sets s (s.incSat (PMBUS.PMB_STAT_FAILS d)) [oneMore s (PMBUS.PMB_STAT_FAILS d)] :=
  sets_refl.counted (PMBUS.PMB_STAT_FAILS d)

/-- The device fails once its failures reach FAIL_N, and only then is it marked. -/
theorem failReached_iff : ((s.incSat (PMBUS.PMB_STAT_FAILS d)).getF (PMBUS.DEV_B_FAIL_N d) ≤ (s.incSat (PMBUS.PMB_STAT_FAILS d)).getF (PMBUS.PMB_STAT_FAILS d) ∧
    (s.incSat (PMBUS.PMB_STAT_FAILS d)).getB (PMBUS.PMB_STAT_FAILED d) = false) ↔
    s.getF (PMBUS.DEV_B_FAIL_N d) ≤ (oneMore s (PMBUS.PMB_STAT_FAILS d)).2 ∧ s.getB (PMBUS.PMB_STAT_FAILED d) = false := by
  have hsets := sets_failCounted (s := s) (d := d)
  have hcount := hsets.reads _ (List.mem_singleton_self _)
  have hlimit := hsets.kept (PMBUS.DEV_B_FAIL_N d)
    (List.forall_mem_singleton.2 (.inl (by simp only [oneMore, PMBUS.DEV_B, PMBUS.PMB_STAT]; omega))) (by exact Nat.le_of_ble_eq_true rfl)
  have hmark := hsets.kept (PMBUS.PMB_STAT_FAILED d) (by simp [oneMore, Apart]) (by exact Nat.le_of_ble_eq_true rfl)
  rw [show (s.incSat (PMBUS.PMB_STAT_FAILS d)).getF (PMBUS.PMB_STAT_FAILS d) = _ from hcount, hlimit, State.getB, hmark, State.getB]

theorem pmbFailed_again {code : Nat} (h : (oneMore s (PMBUS.PMB_STAT_FAILS d)).2 < s.getF (PMBUS.DEV_B_FAIL_N d) ∨ s.getB (PMBUS.PMB_STAT_FAILED d)) :
    s.pmbFailed d code = s.incSat (PMBUS.PMB_STAT_FAILS d) := by
  refine if_neg fun hreached => ?_
  obtain ⟨hlimit, hmark⟩ := failReached_iff.1 hreached
  rcases h with h | h
  · omega
  · rw [hmark] at h
    cases h

theorem pmbFailed_reached {code : Nat} (h : s.getF (PMBUS.DEV_B_FAIL_N d) ≤ (oneMore s (PMBUS.PMB_STAT_FAILS d)).2) (hmark : s.getB (PMBUS.PMB_STAT_FAILED d) = false) :
    s.pmbFailed d code = ((s.incSat (PMBUS.PMB_STAT_FAILS d)).setF (PMBUS.PMB_STAT_FAILED d) 1).raise 247 [d, code] :=
  if_pos (failReached_iff.2 ⟨h, hmark⟩)

end Fail

/-! ### An alert (R524) -/

section Alert

variable {d : Fin 32} {sw : Half}

/-- ALERT marks one device. -/
def alertShown (s : State) (d : Nat) : State := forAll 32 (fun s i => s.setF (PMBUS.PMB_STAT_ALERT i) (decide (i = d)).toNat) s

theorem sets_alertShown : Sets s (alertShown s d) ((List.range 32).map (fun i => (PMBUS.PMB_STAT_ALERT i, (decide (i = d.val)).toNat))) :=
  sets_refl.entries PMBUS.PMB_STAT_ALERT (fun i => (decide (i = d.val)).toNat) 32 (fun _ => Bool.toNat_lt _) (fun _ => by exact Nat.le_of_ble_eq_true rfl)
    (fun _ _ hx => absurd hx List.not_mem_nil) fun j k hjk => .inl (by simp only [PMBUS.PMB_STAT]; omega)

/-- The alert goes to the first enabled device with the address (log entry 34). -/
theorem exec_pmbusAlert (ho : s.operating) (hrun : s.pgRunning pPMBUS) (hen : s.getB PMBUS.PMB_CFG_ALERT_EN) (hd : s.getB (PMBUS.DEV_A_EN d))
    (hfirst : ∀ e : Fin 32, e < d → s.getB (PMBUS.DEV_A_EN e) = false ∨ s.getF (PMBUS.DEV_A_ADDR e) ≠ s.getF (PMBUS.DEV_A_ADDR d)) :
    exec (.pmbusAlert (BitVec.ofNat 7 (s.getF (PMBUS.DEV_A_ADDR d))) sw) s =
      .next ((alertShown s d).setF (PMBUS.PMB_STAT_STATUS_WORD d) sw.toNat) := by
  have haddr : (BitVec.ofNat 7 (s.getF (PMBUS.DEV_A_ADDR d))).toNat = s.getF (PMBUS.DEV_A_ADDR d) := by
    rw [BitVec.toNat_ofNat]
    exact Nat.mod_eq_of_lt (getF_lt s (PMBUS.DEV_A_ADDR d))
  have hfind : (List.range 32).find? (fun e => s.getB (PMBUS.DEV_A_EN e) && s.getF (PMBUS.DEV_A_ADDR e) == s.getF (PMBUS.DEV_A_ADDR d)) = some d.val := by
    refine List.find?_range_eq_some.2 ⟨by simp [hd], List.mem_range.2 d.isLt, fun e he => ?_⟩
    rcases hfirst ⟨e, by omega⟩ he with h | h <;> simp_all
  refine (if_pos ⟨ho, hrun, hen⟩).trans ?_
  rw [haddr, hfind]
  rfl

end Alert

/-- Settles O39: a poll as its status, its values and the answer counted, a failure by whether it reaches FAIL_N, an alert to the first enabled device with the
address, which is log entry 34. -/
theorem pmbusPolling : Obligations.PmbusPolling := by
  unfold Obligations.PmbusPolling
  refine ⟨fun d x s ho hrun hen hpoll => ?_, fun d x k s ho hrun hen hpoll => ⟨_, exec_pmbusPoll ho hrun hen, pmbPolled_value hpoll⟩,
    fun d w s ho hrun hen hpec h => goesSet_of_eq (exec_pmbusPollFail ho hrun hen hpec) (pmbFailed_again h) sets_failCounted,
    fun d w s ho hrun hen hpec h hmark => ?_, fun d sw s ho hrun hen hd hfirst => ⟨_, exec_pmbusAlert ho hrun hen hd hfirst, ?_⟩⟩
  · obtain ⟨hfails, hfailed, hpresent⟩ := pmbPolled_answered (s := s) (d := d) (x := x)
    exact ⟨_, exec_pmbusPoll ho hrun hen, pmbPolled_statusWord hpoll d.isLt, hfails, hfailed, hpresent, pmbPolled_rest.1, pmbPolled_rest.2,
      fun a ha hv => pmbPolled_getReg ha fun ⟨k, hk, h⟩ => hv ⟨k, hk⟩ h⟩
  · exact goesRaise_of_eq ((exec_pmbusPollFail ho hrun hen hpec).trans (congrArg Host.Outcome.next (pmbFailed_reached h hmark)))
      (sets_failCounted.indexed (PMBUS.PMB_STAT_FAILED d) 1)
  · refine sets_alertShown.indexed (PMBUS.PMB_STAT_STATUS_WORD d) sw.toNat sw.isLt fun x hx => ?_
    obtain ⟨i, -, rfl⟩ := List.mem_map.1 hx
    exact ⟨by exact Nat.le_of_ble_eq_true rfl, by simp [Apart]⟩

end Sys2Proof.Proofs
end

section
/-! SUPPORT. The CAN and T1S ports (chapter 17): received messages, REPORT and RACK, the states of the bus, and messages that wait. -/

namespace Sys2Proof.Proofs

open Machine Machine.State Laws

-- One proof after the other: side by side they take more threads than the check's memory has stacks for.
set_option Elab.async false

variable {s t u : State}

/-! ### Received messages -/

section Received

variable {h : MsgHead} {p : MsgPort}

theorem exec_messageCrcFail (hears : s.portHears (portNo p)) : exec (.messageCrcFail p) s = .next ((counted s p).incSat (cntRxCrc (portNo p))) := if_pos hears

/-- The count of failed CRCs is the lower half of its register. -/
theorem cntRxCrc_bits (p : Nat) : (cntRxCrc p).lo + (cntRxCrc p).w = 16 ∧ (cntRxFrames p).lo = 16 ∧ (cntRxFrames p).w = 16 := by
  unfold cntRxCrc cntRxFrames
  split <;> exact ⟨rfl, rfl, rfl⟩

theorem cntIgnored_place (p : Nat) : (cntIgnored p).addr ≠ (cntRxFrames p).addr ∧ (cntIgnored p).lo + (cntIgnored p).w ≤ 32 := by
  unfold cntIgnored cntRxFrames
  split
  · decide
  · simp only [CAN.CNT_MISC, CAN.CNT_RX]
    omega

theorem sets_crcFailed : Sets s ((counted s p).incSat (cntRxCrc (portNo p))) [oneMore s (cntRxFrames (portNo p)), oneMore s (cntRxCrc (portNo p))] := by
  obtain ⟨hcrc, hlo, hw⟩ := cntRxCrc_bits (portNo p)
  exact (sets_counted s p).counted (cntRxCrc (portNo p))
    (List.forall_mem_singleton.2 ⟨by simp only [oneMore]; omega, .inr (.inr (by simp only [oneMore]; omega)), .inr (.inl (by simp only [oneMore]; omega))⟩) (by omega)

theorem sets_ignored : Sets s ((counted s p).incSat (cntIgnored (portNo p))) [oneMore s (cntRxFrames (portNo p)), oneMore s (cntIgnored (portNo p))] := by
  obtain ⟨haddr, hw⟩ := cntIgnored_place (portNo p)
  exact (sets_counted s p).counted (cntIgnored (portNo p))
    (List.forall_mem_singleton.2 ⟨(cntRxFrames_width p).le, .inl haddr.symm, .inl haddr⟩) hw

variable {flags mode : Byte}

/-- A RACK whose CRC passes is counted, then taken on CAN1 alone (Table 17-4). -/
theorem exec_rackMessageRx (hears : s.portHears (portNo h.port))
    (hcrc : crc16 (identBytes 0x0C h.dst.toNat h.src.toNat h.tag.toNat ++ [flags.toNat, mode.toNat]) = h.crc.toNat) :
    exec (.rackMessageRx h flags mode) s = .next (if portNo h.port ≠ 1 then (counted s h.port).incSat (cntIgnored (portNo h.port))
      else if (counted s h.port).addressed_ (portNo h.port) h.dst.toNat true then (counted s h.port).rackIn h.src.toNat flags.toNat else counted s h.port) :=
  congrArg Host.Outcome.next (receive_passes hears hcrc)

theorem addressed_counted (dst : Nat) (all : Bool) : (counted s p).addressed_ (portNo p) dst all = s.addressed_ (portNo p) dst all := by
  rw [addressed_, counted_shelfAddr, nodeAddr_counted, addressed_]

theorem peerSlot_counted (src : Nat) : (counted s p).peerSlot src = s.peerSlot src := by
  have hpeer (k : Nat) (hk : k ∈ List.range 24) : (counted s p).getF (CAN.PEER_ADDR 1 k) = s.getF (CAN.PEER_ADDR 1 k) := by
    have hlt := List.mem_range.1 hk
    exact counted_getF (f := CAN.PEER_ADDR 1 k) (by simp only [CAN.PEER]; omega)
  have hfind (n : Nat) : (List.range 24).find? (fun k => (counted s p).getF (CAN.PEER_ADDR 1 k) = n) =
      (List.range 24).find? (fun k => s.getF (CAN.PEER_ADDR 1 k) = n) := by
    refine List.find?_congr fun k hk => ?_
    rw [hpeer k hk]
  rw [peerSlot, hfind, hfind]
  rfl

theorem rackIn_of_slot {src k : Nat} (hsrc : src ≠ 0) (hslot : s.peerSlot src = some k) (fl : Nat) :
    s.rackIn src fl = s.setN (CAN.PEER 1 k) (src * 2 ^ 24 + fl % 8) := by
  rw [rackIn, if_neg hsrc, hslot]

theorem sets_rackTaken {k : Nat} (w : Word) (hport : portNo h.port = 1) :
    Sets s ((counted s h.port).setReg (CAN.PEER 1 k) w) [oneMore s (cntRxFrames 1), whole (CAN.PEER 1 k) w] := by
  have hplace : (cntRxFrames 1).addr ≠ CAN.PEER 1 k := by
    show (0x9002C + 0x1000 * 1) ≠ _
    simp only [CAN.PEER]
    omega
  have hcounted := sets_counted s h.port
  rw [hport] at hcounted
  exact sets_of_mem_iff (sets_setReg hcounted (List.forall_mem_singleton.2 hplace)) (by simp [or_comm])

theorem goesSet_rackMessageRx {k : Nat} (hport : portNo h.port = 1) (hears : s.portHears 1)
    (hcrc : crc16 (identBytes 0x0C h.dst.toNat h.src.toNat h.tag.toNat ++ [flags.toNat, mode.toNat]) = h.crc.toNat)
    (haddr : s.addressed_ 1 h.dst.toNat true) (hsrc : h.src ≠ 0) (hslot : s.peerSlot h.src.toNat = some k) :
    GoesSet (.rackMessageRx h flags mode) s s
      [oneMore s (cntRxFrames 1), whole (CAN.PEER 1 k) (BitVec.ofNat 32 (h.src.toNat * 2 ^ 24 + flags.toNat % 8))] := by
  have htaken : (counted s h.port).addressed_ (portNo h.port) h.dst.toNat true = true := by rw [addressed_counted, hport]; exact haddr
  have hfrom : h.src.toNat ≠ 0 := fun h0 => hsrc (BitVec.eq_of_toNat_eq h0)
  refine goesSet_of_eq (exec_rackMessageRx (by rw [hport]; exact hears) hcrc) ?_ (sets_rackTaken _ hport)
  rw [if_neg (by simp [hport]), if_pos htaken, rackIn_of_slot hfrom (by rw [peerSlot_counted]; exact hslot)]
  rfl

end Received

/-! ### REPORT -/

/-- A REPORT that its period alone makes due (R516). -/
theorem reportStep_periodic (hms : s.reportMs ≠ 0) (hdue : 1000 * s.reportMs ≤ s.dev.nowUs - (s.msgPort s.plantLink).repAt)
    (hsame : s.reportFlags = (s.msgPort s.plantLink).repFlags) : s.reportStep =
      (s.updMsg s.plantLink (fun x => { x with repAt := s.dev.nowUs, repFlags := s.reportFlags })).sendPlant 0x09 s.reportBody := by
  simp [reportStep, hms, hdue, hsame]

theorem exec_reportTimer (hop : s.operating) (hact : s.isActive) (hrun : s.pgRunning (msgPage s.plantLink)) (hl : s.dev.late = []) :
    exec .reportTimer s = .next s.reportStep :=
  show execReportTimer s = _ from (heldRun_of_late_nil hl).trans (if_pos ⟨hop, hact, hrun⟩)

/-! ### Owners freed -/

/-- Freeing pages writes their PG_OWNER alone (R48). -/
theorem regsKept_ownersOf (port : Nat) : RegsKept (· % 0x1000 = 0x14) s (s.ownersOf port) := by
  refine List.foldlRecOn (motive := RegsKept (· % 0x1000 = 0x14) s) _ _ regsKept_refl fun v hv p _ => ?_
  have howner : pgOwner p % 0x1000 = 0x14 := pgOwner_mod
  exact regsKept_ite (regsKept_setReg (p := (· % 0x1000 = 0x14)) hv howner 0) hv

theorem ownersOf_getCond {src : Nat} (hs : src < 256) (port : Nat) : (s.ownersOf port).getCond src = s.getCond src := by
  have hplace : ¬ FCOL.COND (src / 32) % 0x1000 = 0x14 := by simp only [FCOL.COND]; omega
  exact congrArg (BitVec.getLsbD · (src % 32)) (regsKept_ownersOf port _ hplace)

theorem getCond_setF {f : Fld} {src : Nat} (hf : f.addr ≠ FCOL.COND (src / 32)) (v : Nat) : (s.setF f v).getCond src = s.getCond src :=
  congrArg (BitVec.getLsbD · (src % 32)) (getReg_setReg_ne _ hf.symm)

/-- An L source raised in a state that the statement names. -/
theorem goesRaise_raiseL {i : Instr} {v : State} {src : Nat} {d : List Nat} (he : exec i s = .next (v.raiseL src d)) : GoesRaise i s v [condOf src] src d :=
  goesRaise_of_raiseL (u := v) (l := []) he sets_refl

/-! ### The state of a CAN port (R518) -/

section Can

variable {n : Fin 4} {tc rc : Byte}

/-- CAN_STAT with its counters and its STATE. -/
abbrev canStat (s : State) (n : Nat) (tc rc : Byte) (st : Nat) : State := s.setN (CAN.CAN_STAT n) (tc.toNat * 2 ^ 24 + rc.toNat * 2 ^ 16 + st)

theorem canStat_getCond {st : Nat} : (canStat s n tc rc st).getCond (242 + n) = s.getCond (242 + n) :=
  congrArg (BitVec.getLsbD · ((242 + n.val) % 32)) (getReg_setReg_ne _ (by simp only [FCOL.COND, CAN.CAN_STAT]; omega))

theorem exec_canErrorState_passive (hp : s.powered) (hrun : s.pgRunning (pCAN n)) (hst : s.getF (CAN.CAN_STAT_STATE n) ≠ 2)
    (hnew : s.getCond (242 + n) = false) : exec (.canErrorState n false tc rc) s = .next ((canStat s n tc rc 1).raiseL (242 + n) []) := by
  have hcond : (canStat s n tc rc 1).getCond (242 + n) = false := canStat_getCond.trans hnew
  refine (if_pos ⟨hp, hrun⟩).trans (congrArg Host.Outcome.next ?_)
  simp only [hst, Bool.false_eq_true, false_and, or_self, ↓reduceIte]
  exact if_neg (Bool.eq_false_iff.1 hcond)

theorem exec_canErrorState_busOff (hp : s.powered) (hrun : s.pgRunning (pCAN n)) (hst : s.getF (CAN.CAN_STAT_STATE n) ≠ 2)
    (hnew : s.getCond (242 + n) = false) : exec (.canErrorState n true tc rc) s =
      .next ((((canStat s n tc rc 2).incSat (CAN.CNT_MISC_BUS_OFF n)).ownersOf (2 + n)).raiseL (242 + n) []) := by
  have hcond : (((canStat s n tc rc 2).incSat (CAN.CNT_MISC_BUS_OFF n)).ownersOf (2 + n)).getCond (242 + n) = false := by
    rw [ownersOf_getCond (by omega), incSat, getCond_setF (by simp only [CAN.CNT_MISC, FCOL.COND]; omega), canStat_getCond, hnew]
  refine (if_pos ⟨hp, hrun⟩).trans (congrArg Host.Outcome.next ?_)
  simp only [hst, not_false_eq_true, and_self, true_or, ↓reduceIte]
  exact if_neg (Bool.eq_false_iff.1 hcond)

/-- CAN_STAT as a whole, and the end of the port's condition. -/
theorem sets_canStat_endL (w : Word) : Sets s ((s.setReg (CAN.CAN_STAT n) w).endL (242 + n)) (whole (CAN.CAN_STAT n) w :: condEnd (242 + n)) :=
  sets_endL (sets_setReg sets_refl (by simp)) (List.forall_mem_singleton.2 ⟨le_rfl,
    fun y hy => .inl (by simp only [condEnd, List.mem_cons, List.not_mem_nil, or_false] at hy; rcases hy with rfl | rfl <;> simp only [whole, CAN.CAN_STAT, FCOL.COND, FCOL.ACT] <;> omega)⟩)

theorem exec_canBusOffRecovery (hst : s.getF (CAN.CAN_STAT_STATE n) = 2) (hauto : s.getB (CAN.CAN_CFG_AUTO_RECOV n)) :
    exec (.canBusOffRecovery n) s = .next (((s.setReg (CAN.CAN_STAT n) 0).endL (242 + n)).flushWaiting n) := if_pos ⟨hst, hauto⟩

end Can

/-! ### Messages that wait (R517) -/

section Waiting

variable {p : Nat}

/-- A port's part of the state written as it stands changes nothing. -/
theorem updMsg_self {f : MsgSt → MsgSt} (hf : f (s.msgPort p) = s.msgPort p) (hp : p < s.msg.length) : s.updMsg p f = s := by
  have hset : s.msg.set p (s.msgPort p) = s.msg := by
    rw [msgPort, List.getD_eq_getElem?_getD, List.getElem?_eq_getElem hp]
    exact List.set_getElem_self hp
  rw [updMsg, hf, hset]

theorem flushWaiting_of_nil (hnone : (s.msgPort p).waiting = []) (hp : p < s.msg.length) : s.flushWaiting p = s := by
  have hempty : s.updMsg p (fun x => { x with waiting := [] }) = s := updMsg_self (by rw [← hnone]) hp
  simp only [flushWaiting, hnone, List.foldl_nil, hempty]

theorem msgPort_updMsg_self {f : MsgSt → MsgSt} (hp : p < s.msg.length) : (s.updMsg p f).msgPort p = f (s.msgPort p) := by
  simp [msgPort, updMsg, List.getD_eq_getElem?_getD, hp]

/-- A saturating counter that counts `m` times. -/
theorem incSat_times {f : Fld} (hf : f.lo + f.w ≤ 32) (m : Nat) : let t := (List.range m).foldl (fun (s : State) _ => s.incSat f) s
    RegsKept (· = f.addr) s t ∧ t = { s with regs := t.regs } ∧ t.getF f = min (s.getF f + m) (2 ^ f.w - 1) := by
  induction m with
  | zero =>
    have hlt := getF_lt s f
    exact ⟨regsKept_refl, rfl, (Nat.min_eq_left (show s.getF f ≤ 2 ^ f.w - 1 by omega)).symm⟩
  | succ m ih =>
    obtain ⟨hregs, hrest, hcount⟩ := ih
    simp only [List.range_succ, List.foldl_append, List.foldl_cons, List.foldl_nil]
    refine ⟨regsKept_setF (p := (· = f.addr)) hregs rfl _, congrArg (State.incSat · f) hrest, ?_⟩
    have hpos := Nat.two_pow_pos f.w
    rw [incSat, getF_setF_self hf, hcount, Nat.mod_eq_of_lt (by omega)]
    omega

theorem cntDropped_width (p : Nat) : (cntDropped p).lo + (cntDropped p).w ≤ 32 := by
  unfold cntDropped
  split <;> exact Nat.le_of_ble_eq_true rfl

/-- The messages of 10 ms and older are gone. -/
def staleDropped (s : State) (p : Nat) : State := s.updMsg p (fun x => { x with waiting := x.waiting.filter (fun m => !decide (10000 ≤ s.dev.nowUs - m.atUs)) })

/-- How many of those there are. -/
def staleCount (s : State) (p : Nat) : Nat := ((s.msgPort p).waiting.filter (fun m => decide (10000 ≤ s.dev.nowUs - m.atUs))).length

theorem dropOld_eq : s.dropOld p = (List.range (staleCount s p)).foldl (fun (s : State) _ => s.incSat (cntDropped p)) (staleDropped s p) := rfl

theorem goes_canTxDrop {n : Fin 4} (hlen : s.msg.length = 5) : Goes (.canTxDrop n) s (fun t =>
    (t.msgPort n).waiting = (s.msgPort n).waiting.filter (fun m => decide (s.dev.nowUs - m.atUs < 10000)) ∧ t = { s with regs := t.regs, msg := t.msg } ∧
    t.getF (cntDropped n) = min (s.getF (cntDropped n) + ((s.msgPort n).waiting.filter (fun m => decide (10000 ≤ s.dev.nowUs - m.atUs))).length)
      (2 ^ (cntDropped n).w - 1) ∧ ∀ a, a ≠ (cntDropped n).addr → t.getReg a = s.getReg a) := by
  obtain ⟨hregs, hrest, hcount⟩ := incSat_times (s := staleDropped s n) (cntDropped_width n) (staleCount s n)
  rw [← dropOld_eq] at hregs hrest hcount
  have hport : (s.dropOld n).msgPort n = (staleDropped s n).msgPort n := by rw [hrest]; rfl
  refine ⟨s.dropOld n, rfl, ?_, by rw [hrest]; rfl, hcount, hregs⟩
  rw [hport, staleDropped, msgPort_updMsg_self (by omega)]
  exact List.filter_congr fun m _ => by simp only [← decide_not, Nat.not_le]

end Waiting

/-! ### T1S (R521) -/

section T1s

theorem t1sFail_of_new (h : s.getCond 246 = false) : s.t1sFail = s.raiseL 246 [] := if_neg (by simp [h])

theorem exec_t1sLinkLoss_phy (hp : s.powered) (hrun : s.pgRunning pT1S) (hnew : s.getCond 246 = false) :
    exec (.t1sLinkLoss true) s = .next (((s.setF T1S.T1S_STAT_LINK 0).ownersOf 6).raiseL 246 []) := by
  have hcond : ((s.setF T1S.T1S_STAT_LINK 0).ownersOf 6).getCond 246 = false := by
    rw [ownersOf_getCond (by decide), getCond_setF (by decide), hnew]
  exact (if_pos ⟨hp, hrun⟩).trans ((if_pos rfl).trans (congrArg Host.Outcome.next (t1sFail_of_new hcond)))

theorem sets_beaconLost : Sets s ((s.setF T1S.T1S_STAT_BEACON 0).incSat T1S.CNT_MISC_BEACON_LOSS)
    [(T1S.T1S_STAT_BEACON, 0), oneMore s T1S.CNT_MISC_BEACON_LOSS] := (sets_refl.field T1S.T1S_STAT_BEACON 0).counted T1S.CNT_MISC_BEACON_LOSS

theorem exec_t1sLinkLoss_beacon (hp : s.powered) (hrun : s.pgRunning pT1S) (hplca : s.getF T1S.T1S_CFG_PLCA_ID = 255) :
    exec (.t1sLinkLoss false) s = .next ((s.setF T1S.T1S_STAT_BEACON 0).incSat T1S.CNT_MISC_BEACON_LOSS) :=
  (if_pos ⟨hp, hrun⟩).trans ((if_neg (by simp)).trans (congrArg Host.Outcome.next (if_pos ((sets_beaconLost.kept T1S.T1S_CFG_PLCA_ID (by simp [Apart, oneMore])).trans hplca))))

/-- Link and beacon shown. -/
abbrev linkShown (s : State) : State := (s.setF T1S.T1S_STAT_LINK 1).setF T1S.T1S_STAT_BEACON 1

theorem sets_linkShown : Sets s (linkShown s) [(T1S.T1S_STAT_LINK, 1), (T1S.T1S_STAT_BEACON, 1)] :=
  (sets_refl.field T1S.T1S_STAT_LINK 1).field T1S.T1S_STAT_BEACON 1

theorem sets_linkReturned : Sets s ((linkShown s).endL 246) ([(T1S.T1S_STAT_LINK, 1), (T1S.T1S_STAT_BEACON, 1)] ++ condEnd 246) :=
  sets_endL sets_linkShown (by simp [condEnd, Apart])

theorem exec_t1sLinkReturn (hp : s.powered) (hrun : s.pgRunning pT1S) (hnone : (s.msgPort 4).waiting = []) (hlen : s.msg.length = 5) :
    exec (.t1sLinkReturn true true) s = .next ((linkShown s).endL 246) := by
  have hlink : (linkShown s).getB T1S.T1S_STAT_LINK = true := getB_of_getF_toNat (b := true) (sets_linkShown.reads (T1S.T1S_STAT_LINK, 1) (by simp))
  have hbeacon : (linkShown s).getB T1S.T1S_STAT_BEACON = true := getB_of_getF_toNat (b := true) (sets_linkShown.reads (T1S.T1S_STAT_BEACON, 1) (by simp))
  have hwell : (linkShown s).t1sWell = true := by rw [t1sWell, hlink, hbeacon]; simp
  have hon : ((linkShown s).endL 246).msgOff 4 = false := by
    have hended : ((linkShown s).endL 246).getB T1S.T1S_STAT_LINK = true :=
      getB_of_getF_toNat (b := true) (sets_linkReturned.reads (T1S.T1S_STAT_LINK, 1) (by simp))
    rw [msgOff, if_pos rfl, hended]
    rfl
  refine (if_pos ⟨hp, hrun⟩).trans (congrArg Host.Outcome.next ?_)
  rw [if_pos rfl, if_pos rfl, if_pos hwell, hon]
  exact flushWaiting_of_nil hnone (by show 4 < s.msg.length; omega)

end T1s

/-- Settles O38: a received message over the port's counters, the bus states over CAN_STAT and the owners freed, the waiting messages as the queue that they
stand in. That a frame with a failed CRC counts in FRAMES too is log entry 28, that a peer is out at AGE 50 log entry 37. -/
theorem messagePorts : Obligations.MessagePorts := by
  unfold Obligations.MessagePorts
  refine ⟨fun p s hears => ⟨_, exec_messageCrcFail hears, sets_crcFailed⟩,
    fun s hop hact hrun hms hdue hsame hl => (exec_reportTimer hop hact hrun hl).trans (congrArg Host.Outcome.next (reportStep_periodic hms hdue hsame)),
    fun s hop hrun hdm hpub hl => show execT1sPublication s = _ from (heldRun_of_late_nil hl).trans (if_pos ⟨hop, hrun, hdm, hpub⟩),
    fun h flags mode k s hport hears hcrc haddr hsrc hslot => goesSet_rackMessageRx hport hears hcrc haddr hsrc hslot,
    fun h flags mode s hport hears hcrc => goesSet_of_eq (exec_rackMessageRx hears hcrc) (if_pos hport) sets_ignored,
    fun s hop hrun => if_pos ⟨hop, hrun⟩,
    fun k s haddr hage => ⟨_, if_pos ⟨haddr, hage⟩, sets_setReg sets_refl (by simp)⟩,
    fun n tc rc s hp hrun hst hnew => goesRaise_of_raiseL (exec_canErrorState_passive hp hrun hst hnew) (sets_setReg sets_refl (by simp)) ?_,
    fun n tc rc s v hp hrun hst hnew hv => ?_,
    fun n s hst hauto hnone hlen => goesSet_of_eq (exec_canBusOffRecovery hst hauto) (flushWaiting_of_nil hnone ?_) (sets_canStat_endL 0),
    fun n s hst hauto => exec_canBusOffRecovery hst hauto, fun n s hlen => goes_canTxDrop hlen,
    fun n tc rc s hst => ⟨_, if_pos hst, sets_canStat_endL _⟩, fun s v hp hrun hnew hv => ?_,
    fun s hp hrun hplca => ⟨_, exec_t1sLinkLoss_beacon hp hrun hplca, sets_beaconLost⟩,
    fun s hp hrun hnone hlen => ⟨_, exec_t1sLinkReturn hp hrun hnone hlen, sets_linkReturned⟩⟩
  · exact List.forall_mem_singleton.2 ⟨le_rfl, .inl (by simp only [whole, condOf, CAN.CAN_STAT, FCOL.COND]; omega)⟩
  · rw [hv]
    exact goesRaise_raiseL (exec_canErrorState_busOff hp hrun hst hnew)
  · show n.val < s.msg.length
    omega
  · rw [hv]
    exact goesRaise_raiseL (exec_t1sLinkLoss_phy hp hrun hnew)

end Sys2Proof.Proofs
end

section
/-! SUPPORT. Firmware update (chapter 18): the stream into the target bank, activation, confirm and the trial's expiry. -/

namespace Sys2Proof.Proofs

open Machine Machine.State Laws

-- One proof after the other: side by side they take more threads than the check's memory has stacks for.
set_option Elab.async false

variable {s t u v : State} {r : Requester}

/-! ### A command word with GO, OP and an operand -/

section CommandWord

/-- GO, and OP in bits 26:24 above an operand of `x`. -/
abbrev commandWord (op x : Nat) : Nat := 2 ^ 31 + op * 2 ^ 24 + x

theorem commandWord_fields {op x : Nat} (hop : op < 8) (hx : x < 2 ^ 16) : let w := BitVec.ofNat 32 (commandWord op x)
    w.getLsbD 31 = true ∧ bitsOf w 24 3 = op ∧ bitsOf w 8 8 = x / 2 ^ 8 ∧ bitsOf w 0 16 = x := by
  have hlt : commandWord op x < 2 ^ 32 := by simp only [commandWord]; omega
  refine ⟨?_, ?_, ?_, ?_⟩
  · have hgo : commandWord op x / 2 ^ 31 % 2 = 1 := by simp only [commandWord]; omega
    rw [BitVec.getLsbD_ofNat, Nat.testBit_eq_decide_div_mod_eq, hgo]
    rfl
  all_goals
    rw [bitsOf_ofNat hlt]
    simp only [commandWord]
    omega

end CommandWord

/-! ### Commands of IMG_CMD -/

section ImgCmd

theorem homeOf_imgCmd : s.homeOf (IMAGE.IMG_CMD / 0x1000) (IMAGE.IMG_CMD % 0x1000) = IMAGE.IMG_CMD := homeOf_plain (by decide) (by decide)

theorem hostWrite_imgCmd {op key : Nat} (hop : op < 8) (hkey : key < 2 ^ 8) (h : Accepts s r IMAGE.IMG_CMD (commandWord op (key * 2 ^ 8))) :
    s.hostWrite r IMAGE.IMG_CMD (BitVec.ofNat 32 (commandWord op (key * 2 ^ 8))) =
      (Stored s r IMAGE.IMG_CMD (commandWord op (key * 2 ^ 8))).imgCommand op key := by
  obtain ⟨hgo, hop', hkey', -⟩ := commandWord_fields hop (show key * 2 ^ 8 < 2 ^ 16 by omega)
  rw [hostWrite_accepted h regAt_imgCmd]
  simp only [wordActs, ↓reduceIte, hgo, hop', hkey', Nat.mul_div_cancel key (show 0 < 2 ^ 8 by decide)]

/-- What IMG_CMD's write leaves as it was: every register but its own and the page's change counter. -/
theorem stored_imgCmd_getF {w : Nat} {f : Fld} (ha : f.addr ≠ IMAGE.IMG_CMD) (hc : f.addr ≠ pgChg pIMAGE) :
    (Stored s r IMAGE.IMG_CMD w).getF f = s.getF f := stored_getF homeOf_imgCmd ha hc

theorem stored_imgCmd_getB {w : Nat} {f : Fld} (ha : f.addr ≠ IMAGE.IMG_CMD := by decide) (hc : f.addr ≠ pgChg pIMAGE := by decide) :
    (Stored s r IMAGE.IMG_CMD w).getB f = s.getB f := by rw [getB, stored_imgCmd_getF ha hc, getB]

theorem stored_imgCmd_imgState {w : Nat} : (Stored s r IMAGE.IMG_CMD w).imgState = s.imgState := stored_imgCmd_getF (by decide) (by decide)

theorem stored_imgCmd_imgStreams {w : Nat} : (Stored s r IMAGE.IMG_CMD w).imgStreams = s.imgStreams := by
  rw [imgStreams, stored_imgCmd_imgState, imgStreams]

theorem stored_imgCmd_nvOk {w : Nat} : (Stored s r IMAGE.IMG_CMD w).nvOk = s.nvOk := by
  rw [nvOk, stored_imgCmd_getB, stored_imgCmd_getB, nvOk]

theorem stored_imgCmd_runBank {w : Nat} : (Stored s r IMAGE.IMG_CMD w).runBank = s.runBank := stored_imgCmd_getB

theorem stored_imgCmd_target {w : Nat} : (Stored s r IMAGE.IMG_CMD w).target = s.target := by rw [target, stored_imgCmd_runBank, target]

theorem stored_imgCmd_mode {w : Nat} : (Stored s r IMAGE.IMG_CMD w).mode = s.mode := stored_imgCmd_getF (by decide) (by decide)

theorem sets_imgResult {result cause : Nat} {l : List (Fld × Nat)} (h : Sets s t l) (hresult : result < 4) (hcause : cause < 8)
    (hl : ∀ x ∈ l, x.1.lo + x.1.w ≤ 32 ∧ Apart x.1 IMAGE.IMG_STAT_RESULT ∧ Apart x.1 IMAGE.IMG_STAT_CMD_CAUSE) :
    Sets s (t.imgResult result cause) (l ++ [(IMAGE.IMG_STAT_RESULT, result), (IMAGE.IMG_STAT_CMD_CAUSE, cause)]) := by
  have hfirst := h.field IMAGE.IMG_STAT_RESULT result hresult fun x hx => ⟨(hl x hx).1, (hl x hx).2.1⟩
  have hboth := hfirst.field IMAGE.IMG_STAT_CMD_CAUSE cause hcause fun x hx => by
    rcases List.mem_append.1 hx with hx | hx
    · exact ⟨(hl x hx).1, (hl x hx).2.2⟩
    · rw [List.mem_singleton.1 hx]
      simp [Apart]
  rw [List.append_assoc] at hboth
  exact hboth

theorem sets_result {result cause : Nat} (hresult : result < 4) (hcause : cause < 8) :
    Sets s (s.imgResult result cause) [(IMAGE.IMG_STAT_RESULT, result), (IMAGE.IMG_STAT_CMD_CAUSE, cause)] :=
  sets_imgResult sets_refl hresult hcause (by simp)

/-- The stream's state and BUSY. -/
theorem sets_setImg {x : Nat} {l : List (Fld × Nat)} (h : Sets s t l) (hx : x < 8)
    (hl : ∀ y ∈ l, y.1.lo + y.1.w ≤ 32 ∧ Apart y.1 IMAGE.IMG_STAT_STATE ∧ Apart y.1 IMAGE.IMG_STAT_BUSY) :
    Sets s (t.setImg x) (l ++ [(IMAGE.IMG_STAT_STATE, x), (IMAGE.IMG_STAT_BUSY, (decide (x = imCHECKING ∨ x = imVERIFYING)).toNat)]) := by
  have hfirst := h.field IMAGE.IMG_STAT_STATE x hx fun y hy => ⟨(hl y hy).1, (hl y hy).2.1⟩
  have hboth := hfirst.field IMAGE.IMG_STAT_BUSY (decide (x = imCHECKING ∨ x = imVERIFYING)).toNat (Bool.toNat_lt _) fun y hy => by
    rcases List.mem_append.1 hy with hy | hy
    · exact ⟨(hl y hy).1, (hl y hy).2.2⟩
    · rw [List.mem_singleton.1 hy]
      simp [Apart]
  rw [List.append_assoc] at hboth
  exact hboth

end ImgCmd

/-! ### The stream (R530 to R533) -/

section Stream

theorem imgBegin_taken (htrial : s.getB IMAGE.RUN_STAT_TRIAL = false) (hstream : s.imgStreams = false) (hnv : s.nvOk) : s.imgBegin =
    ((((((s.putBank s.target ⟨[], false, true⟩).setReg IMAGE.WR_OFS 0).setReg IMAGE.FW_VER_TGT 0).setF IMAGE.IMG_STAT_REFUSE 0).setImg imRECEIVING).imgResult 1 0) := by
  simp [imgBegin, htrial, hstream, hnv]

theorem imgBegin_refused (h : s.getB IMAGE.RUN_STAT_TRIAL ∨ s.imgStreams ∨ s.nvOk = false) : s.imgBegin = s.imgResult 2 7 := if_pos h

theorem sets_imgBegin : Sets s (((((s.setReg IMAGE.WR_OFS 0).setReg IMAGE.FW_VER_TGT 0).setF IMAGE.IMG_STAT_REFUSE 0).setImg imRECEIVING).imgResult 1 0)
    [whole IMAGE.WR_OFS 0, whole IMAGE.FW_VER_TGT 0, (IMAGE.IMG_STAT_REFUSE, 0), (IMAGE.IMG_STAT_STATE, imRECEIVING), (IMAGE.IMG_STAT_BUSY, 0),
      (IMAGE.IMG_STAT_RESULT, 1), (IMAGE.IMG_STAT_CMD_CAUSE, 0)] := by
  have hofs : Sets s (s.setReg IMAGE.WR_OFS 0) [whole IMAGE.WR_OFS 0] := sets_setReg sets_refl (by simp)
  have hver := sets_setReg (a := IMAGE.FW_VER_TGT) (w := 0) hofs (by simp [whole])
  have hrefuse := hver.field IMAGE.IMG_STAT_REFUSE 0 (hl := by simp [whole, Apart])
  have hstate := sets_setImg hrefuse (x := imRECEIVING) (by decide) (by simp [whole, Apart])
  have hall := sets_imgResult hstate (result := 1) (cause := 0) (by decide) (by decide) (by simp [whole, Apart])
  exact sets_of_mem_iff hall (by simp; tauto)

theorem exec_imageBegin (h : Accepts s r IMAGE.IMG_CMD (commandWord 1 0)) :
    exec (.imageBegin r) s = .next (Stored s r IMAGE.IMG_CMD (commandWord 1 0)).imgBegin :=
  congrArg Host.Outcome.next (hostWrite_imgCmd (op := 1) (key := 0) (by decide) (by decide) h)

theorem exec_imageAbort (h : Accepts s r IMAGE.IMG_CMD (commandWord 2 0)) :
    exec (.imageAbort r) s = .next (Stored s r IMAGE.IMG_CMD (commandWord 2 0)).imgAbort :=
  congrArg Host.Outcome.next (hostWrite_imgCmd (op := 2) (key := 0) (by decide) (by decide) h)

theorem imgStop_of_streams (h : s.imgStreams) : s.imgStop = s.setImg imIDLE := if_pos h

theorem imgStop_of_rest (h : s.imgStreams = false) : s.imgStop = s := if_neg (Bool.eq_false_iff.1 h)

theorem sets_streamEnded {x : Nat} (hx : x < 8) (hbusy : x ≠ imCHECKING ∧ x ≠ imVERIFYING) :
    Sets s (s.setImg x) [(IMAGE.IMG_STAT_STATE, x), (IMAGE.IMG_STAT_BUSY, 0)] := by
  simpa [hbusy.1, hbusy.2] using sets_setImg (s := s) sets_refl hx (by simp)

theorem sets_imgAbort (h : s.imgStreams) : Sets s s.imgAbort
    [(IMAGE.IMG_STAT_STATE, imIDLE), (IMAGE.IMG_STAT_BUSY, 0), (IMAGE.IMG_STAT_RESULT, 1), (IMAGE.IMG_STAT_CMD_CAUSE, 0)] := by
  rw [imgAbort, imgStop_of_streams h]
  exact sets_imgResult (sets_streamEnded (by decide) (by decide)) (by decide) (by decide) (by simp [Apart])

end Stream

/-! ### The checks (Tables 18-2 and 18-3) -/

section Checks

theorem headerFail_lt (b : ImgBank) : s.headerFail b < 9 := by
  simp only [headerFail]
  split
  case isTrue => split_ifs <;> decide
  case isFalse =>
    repeat' split
    all_goals decide

theorem exec_headerChecked_failed {c : Nat} (hp : s.powered) (hst : s.imgState = imCHECKING) (hc : c = s.headerFail { s.bank s.target with bad := false })
    (hne : c ≠ 0) : exec .imageHeaderChecked s =
      .next (((s.setF IMAGE.IMG_STAT_REFUSE c).setImg imFAILED).raise 229 (c :: leBytes 4 (s.bank s.target).fwVer.toNat)) := by
  subst hc
  exact (if_pos ⟨hp, hst⟩).trans (if_neg hne)

theorem exec_headerChecked_passed (hp : s.powered) (hst : s.imgState = imCHECKING) (hc : s.headerFail { s.bank s.target with bad := false } = 0) :
    exec .imageHeaderChecked s = .next ((s.setReg IMAGE.FW_VER_TGT (s.bank s.target).fwVer).setImg imSTREAMING) :=
  (if_pos ⟨hp, hst⟩).trans (if_pos hc)

theorem sets_headerFailed {c : Nat} (hc : c < 9) : Sets s ((s.setF IMAGE.IMG_STAT_REFUSE c).setImg imFAILED)
    [(IMAGE.IMG_STAT_REFUSE, c), (IMAGE.IMG_STAT_STATE, imFAILED), (IMAGE.IMG_STAT_BUSY, 0)] :=
  sets_setImg (sets_refl.field IMAGE.IMG_STAT_REFUSE c (show c < 16 by omega)) (by decide) (by simp [Apart])

theorem sets_headerPassed (w : Word) : Sets s ((s.setReg IMAGE.FW_VER_TGT w).setImg imSTREAMING)
    [whole IMAGE.FW_VER_TGT w, (IMAGE.IMG_STAT_STATE, imSTREAMING), (IMAGE.IMG_STAT_BUSY, 0)] :=
  sets_setImg (sets_setReg sets_refl (by simp)) (by decide) (by simp [whole, Apart])

/-- A verified body by its digest (Table 18-3). -/
theorem exec_imageVerified (hp : s.powered) (hst : s.imgState = imVERIFYING) : exec (.imageVerified false) s =
    .next (if bodyOk (s.bank s.target) then (s.putBank s.target { s.bank s.target with bad := false }).setImg imREADY
      else (s.setImg imFAILED).raise 230 [1, s.target.toNat]) :=
  ((if_pos ⟨hp, hst⟩).trans (if_neg (by decide))).trans (apply_ite _ _ _ _).symm

theorem exec_imageVerified_uncorrectable (hp : s.powered) (hst : s.imgState = imVERIFYING) :
    exec (.imageVerified true) s = .next ((s.setImg imFAILED).raise 230 [2, s.target.toNat]) :=
  (if_pos ⟨hp, hst⟩).trans (if_pos rfl)

end Checks

/-! ### The image's words (R532) -/

section Data

variable {ws : List Word}

/-- The bytes of the words. -/
abbrev imageBytes (ws : List Word) : List Byte := ((ws.map (fun w => leBytes 4 w.toNat)).flatten).map (BitVec.ofNat 8)

theorem length_imageBytes (ws : List Word) : (imageBytes ws).length = 4 * ws.length := by
  induction ws with
  | nil => rfl
  | cons w ws ih =>
    simp only [imageBytes, List.map_cons, List.flatten_cons, List.map_append, List.length_append, List.length_cons, List.length_map, length_leBytes] at ih ⊢
    omega

/-- Words that leave the header incomplete. -/
theorem imgData_receiving (hst : s.imgState = imRECEIVING) (hnv : s.nvOk) (hroom : s.getN IMAGE.WR_OFS + 4 * ws.length < 512) :
    s.imgData 0x100 ws = (s.putBank s.target { s.bank s.target with bytes := (s.bank s.target).bytes ++ imageBytes ws }).setN IMAGE.WR_OFS
      (s.getN IMAGE.WR_OFS + 4 * ws.length) := by
  have htaken : (imageBytes ws).take (512 - s.getN IMAGE.WR_OFS) = imageBytes ws :=
    List.take_of_length_le (by rw [length_imageBytes]; omega)
  have hfits : decide (s.getN IMAGE.WR_OFS + 4 * ws.length ≤ 512) = true := decide_eq_true (by omega)
  simp only [imgData, hst, hnv, hfits, decide_true, Bool.and_self, Bool.true_or, Bool.not_true, Bool.false_eq_true, ↓reduceIte,
    htaken, length_imageBytes, hroom]

/-- PG_CHG counted once for each word. -/
def wordsCounted (s : State) (n : Nat) : State := (List.range n).foldl (fun s _ => s.countChg pIMAGE) s

theorem wordsCounted_kept (n : Nat) : RegsKept (· = pgChg pIMAGE) s (wordsCounted s n) ∧ wordsCounted s n = { s with regs := (wordsCounted s n).regs } := by
  refine List.foldlRecOn (motive := fun t => RegsKept (· = pgChg pIMAGE) s t ∧ t = { s with regs := t.regs }) _ _ ⟨regsKept_refl, rfl⟩ ?_
  rintro t ⟨hregs, hrest⟩ n -
  exact ⟨regsKept_setF (f := pgChgCount pIMAGE) hregs rfl _, congrArg (State.countChg · pIMAGE) hrest⟩

theorem imgWrite_data (hlen : ws.length ≤ 64) : s.imgWrite r 0x100 ws = (wordsCounted s ws.length).imgData 0x100 ws := by
  have hall : ws.take 64 = ws := List.take_of_length_le hlen
  have hnone : ws.drop 64 = [] := List.drop_eq_nil_of_le hlen
  show (writeWords r pIMAGE 0x200 (ws.drop 64) ((wordsCounted s (ws.take 64).length).imgData 0x100 (ws.take 64))).2.2 = _
  rw [hall, hnone]
  rfl

theorem exec_imgDataWrite (hopen : s.portOpen r) (hc : s.txCheck r (0x1000 * pIMAGE + 0x100) ws.length true = none) (hmay : s.mayWrite pIMAGE r)
    (hlen : ws.length ≤ 64) : exec (.imgDataWrite r (BitVec.ofNat 24 (0x1000 * pIMAGE + 0x100)) ws) s =
      .next ((wordsCounted (s.ownerTouch pIMAGE r) ws.length).imgData 0x100 ws) := by
  have hcheck : s.txCheck r 0x6100 ws.length true = none := hc
  have howner : s.ownerRefuses r pIMAGE 0x100 ws.length = none := ownerRefuses_eq_none hmay
  refine (if_pos hopen).trans (congrArg Host.Outcome.next ?_)
  show (s.writeTx r 0x6100 ws).2.2 = _
  rw [← imgWrite_data hlen]
  simp only [writeTx, hcheck, howner]
  rfl

theorem bank_putBank_self (b : Bool) (x : ImgBank) (hlen : s.img.banks.length = 2) : (s.putBank b x).bank b = x := by
  have hb : b.toNat < s.img.banks.length := by rw [hlen]; exact Bool.toNat_lt b
  simp [bank, putBank, List.getD_eq_getElem?_getD, hb]

/-- The state in which a write to IMG_DATA takes its words: the access and the counts of the page. -/
abbrev dataTaken (s : State) (r : Requester) (n : Nat) : State := wordsCounted (s.ownerTouch pIMAGE r) n

theorem dataTaken_getReg {n a : Nat} (ha : a ≠ pgChg pIMAGE) : (dataTaken s r n).getReg a = s.getReg a :=
  ((wordsCounted_kept n).1 a ha).trans (ownerTouch_getReg pIMAGE a)

theorem dataTaken_getF {n : Nat} {f : Fld} (ha : f.addr ≠ pgChg pIMAGE) : (dataTaken s r n).getF f = s.getF f := by
  rw [getF, dataTaken_getReg ha, getF]

theorem dataTaken_getB {n : Nat} {f : Fld} (ha : f.addr ≠ pgChg pIMAGE := by decide) : (dataTaken s r n).getB f = s.getB f := by
  rw [getB, dataTaken_getF ha, getB]

theorem dataTaken_rest {n : Nat} : (dataTaken s r n).img = s.img ∧ (dataTaken s r n).mem = s.mem := by
  obtain ⟨x, htouch⟩ := ownerTouch_eq (s := s) (r := r) pIMAGE
  rw [dataTaken, (wordsCounted_kept (s := s.ownerTouch pIMAGE r) n).2, htouch]
  exact ⟨rfl, rfl⟩

theorem goes_imgDataWrite (hopen : s.portOpen r) (hc : s.txCheck r (0x1000 * pIMAGE + 0x100) ws.length true = none) (hmay : s.mayWrite pIMAGE r)
    (hst : s.imgState = imRECEIVING) (hnv : s.nvOk) (hroom : s.getN IMAGE.WR_OFS + 4 * ws.length < 512) (hlen : ws.length ≤ 64)
    (hbanks : s.img.banks.length = 2) : Goes (.imgDataWrite r (BitVec.ofNat 24 (0x1000 * pIMAGE + 0x100)) ws) s (fun t =>
      t.getN IMAGE.WR_OFS = s.getN IMAGE.WR_OFS + 4 * ws.length ∧
      t.bank s.target = { s.bank s.target with bytes := (s.bank s.target).bytes ++ imageBytes ws } ∧ t.imgState = imRECEIVING ∧
      t.mem = s.mem ∧ ∀ a, a ≠ IMAGE.WR_OFS → a ≠ (pgChgCount pIMAGE).addr → t.getReg a = s.getReg a) := by
  obtain ⟨himg, hmem⟩ := dataTaken_rest (s := s) (r := r) (n := ws.length)
  have hofs : (dataTaken s r ws.length).getN IMAGE.WR_OFS = s.getN IMAGE.WR_OFS := by rw [getN, dataTaken_getReg (by decide), getN]
  have hst' : (dataTaken s r ws.length).imgState = imRECEIVING := (dataTaken_getF (by decide)).trans hst
  have hnv' : (dataTaken s r ws.length).nvOk := by rw [nvOk, dataTaken_getB, dataTaken_getB]; exact hnv
  have htarget : (dataTaken s r ws.length).target = s.target := congrArg Bool.not dataTaken_getB
  have hbank (b : Bool) : (dataTaken s r ws.length).bank b = s.bank b := by rw [bank, himg, bank]
  have hgo := exec_imgDataWrite hopen hc hmay hlen
  rw [imgData_receiving hst' hnv' (by rw [hofs]; exact hroom), htarget, hbank, hofs] at hgo
  refine ⟨_, hgo, ?_, ?_, ?_, hmem, fun a ha hchg => ?_⟩
  · rw [getN, State.setN, getReg_setReg_self, BitVec.toNat_ofNat, Nat.mod_eq_of_lt (by omega)]
  · exact bank_putBank_self (s := dataTaken s r ws.length) s.target _ (by rw [himg]; exact hbanks)
  · exact (getF_setReg_ne (f := IMAGE.IMG_STAT_STATE) (a := IMAGE.WR_OFS) (by decide) _).trans hst'
  · exact (getReg_setReg_ne _ ha).trans (dataTaken_getReg hchg)

end Data

/-- Settles O30: BEGIN and ABORT as the accepted command words, the image's words by `goes_imgDataWrite`, the checks by their codes. That BEGIN is refused for
want of supply is log entry 118. -/
theorem imageStream : Obligations.ImageStream := by
  unfold Obligations.ImageStream
  refine ⟨fun r s v h hv htrial hstream hnv => ?_, fun r s h hwhy => ?_, fun r s h hstream => ?_,
    fun r ws s hopen hc hmay hst hnv hroom hlen hbanks => goes_imgDataWrite hopen hc hmay hst hnv hroom hlen hbanks,
    fun s c hp hst hc hne => goesRaise_of_eq (exec_headerChecked_failed hp hst hc hne) (sets_headerFailed (hc ▸ headerFail_lt _)),
    fun s hp hst hc => ⟨_, exec_headerChecked_passed hp hst hc, sets_headerPassed _⟩,
    fun s hp hst => exec_imageVerified hp hst,
    fun s hp hst => goesRaise_of_eq (exec_imageVerified_uncorrectable hp hst) (sets_streamEnded (by decide) (by decide)),
    fun s hp hstream => goesSet_of_eq (if_pos hp) (imgStop_of_streams hstream) (sets_streamEnded (by decide) (by decide))⟩
  · have htarget : v.target = s.target := by rw [hv]; exact stored_imgCmd_target
    have htaken := imgBegin_taken (s := v) (by rw [hv, stored_imgCmd_getB]; exact htrial) (by rw [hv, stored_imgCmd_imgStreams]; exact hstream)
      (by rw [hv, stored_imgCmd_nvOk]; exact hnv)
    rw [htarget] at htaken
    exact goesSet_of_eq (hv ▸ exec_imageBegin h) htaken sets_imgBegin
  · have hwhy' : (Stored s r IMAGE.IMG_CMD (commandWord 1 0)).getB IMAGE.RUN_STAT_TRIAL ∨ (Stored s r IMAGE.IMG_CMD (commandWord 1 0)).imgStreams ∨
        (Stored s r IMAGE.IMG_CMD (commandWord 1 0)).nvOk = false := by
      rwa [stored_imgCmd_getB, stored_imgCmd_imgStreams, stored_imgCmd_nvOk]
    exact goesSet_of_eq (exec_imageBegin h) (imgBegin_refused hwhy') (sets_result (by decide) (by decide))
  · exact ⟨_, exec_imageAbort h, sets_imgAbort (by rw [stored_imgCmd_imgStreams]; exact hstream)⟩

/-! ### Activation (R536, R537) -/

section Activation

variable {key : Nat}

/-- The cause of the first condition that ACTIVATE fails; 0 where it starts. -/
def activateCause (s : State) (key : Nat) : Nat :=
  if (s.mode ≠ mWATCH ∧ s.mode ≠ mRUN ∧ s.mode ≠ mDEGRADED ∧ s.mode ≠ mSERVICE) ∨ s.getB DEV.MODE_STAT_DESCENT then 1
  else if s.imgState ≠ imREADY then 2
  else if key ≠ 0x5A then 3
  else if s.nvOk = false then 4
  else if s.getB IMAGE.RUN_STAT_TRIAL then 5
  else 0

theorem imgActivate_eq : s.imgActivate key =
    if activateCause s key = 0 then ((s.queueTrial true).pauseStart .activate).imgResult 1 0 else s.imgResult 2 (activateCause s key) := by
  simp only [imgActivate, activateCause]
  split_ifs <;> trivial

theorem stored_activateCause {w : Nat} : activateCause (Stored s r IMAGE.IMG_CMD w) key = activateCause s key := by
  simp only [activateCause, stored_imgCmd_mode, stored_imgCmd_getB (f := DEV.MODE_STAT_DESCENT), stored_imgCmd_imgState, stored_imgCmd_nvOk,
    stored_imgCmd_getB (f := IMAGE.RUN_STAT_TRIAL)]

theorem exec_activate {k : Byte} (h : Accepts s r IMAGE.IMG_CMD (commandWord 3 (k.toNat * 2 ^ 8))) :
    exec (.activate r k) s = .next ((Stored s r IMAGE.IMG_CMD (commandWord 3 (k.toNat * 2 ^ 8))).imgActivate k.toNat) :=
  congrArg Host.Outcome.next (hostWrite_imgCmd (by decide) k.isLt h)

theorem activateCause_mode (h : s.mode = mHOLDUP ∨ s.getB DEV.MODE_STAT_DESCENT) : activateCause s key = 1 := by
  refine if_pos (h.imp_left fun hmode => ?_)
  simp [hmode, mHOLDUP, mWATCH, mRUN, mDEGRADED, mSERVICE]

theorem activateCause_run (hmode : s.mode = mWATCH ∨ s.mode = mRUN ∨ s.mode = mDEGRADED ∨ s.mode = mSERVICE)
    (hdescent : s.getB DEV.MODE_STAT_DESCENT = false) : activateCause s key =
      if s.imgState ≠ imREADY then 2 else if key ≠ 0x5A then 3 else if s.nvOk = false then 4 else if s.getB IMAGE.RUN_STAT_TRIAL then 5 else 0 := by
  refine if_neg ?_
  rw [hdescent]
  rintro (⟨hw, hr, hd, hs⟩ | h)
  · rcases hmode with h | h | h | h <;> contradiction
  · cases h

theorem goesSet_activate_refused {k : Byte} {c : Nat} (h : Accepts s r IMAGE.IMG_CMD (commandWord 3 (k.toNat * 2 ^ 8)))
    (hcause : activateCause s k.toNat = c) (hne : c ≠ 0) (hc : c < 8) : GoesSet (.activate r k) s (Stored s r IMAGE.IMG_CMD (commandWord 3 (k.toNat * 2 ^ 8)))
      [(IMAGE.IMG_STAT_RESULT, 2), (IMAGE.IMG_STAT_CMD_CAUSE, c)] := by
  have hcause' : activateCause (Stored s r IMAGE.IMG_CMD (commandWord 3 (k.toNat * 2 ^ 8))) k.toNat = c := stored_activateCause.trans hcause
  refine goesSet_of_eq (exec_activate h) ?_ (sets_result (by decide) hc)
  rw [imgActivate_eq, hcause', if_neg hne]

/-- A pause that finds no stream. -/
theorem pauseStart_of_rest {p : ImgPause} (h : s.imgStreams = false) : s.pauseStart p =
    State.setF { s with img := { s.img with pause := p }, dev := { s.dev with updatePause := true } } EST.EST_STAT_HELD 1 := by
  show (State.imgStop { s with img := { s.img with pause := p }, dev := { s.dev with updatePause := true } }).setF EST.EST_STAT_HELD 1 = _
  rw [imgStop_of_rest (s := { s with img := { s.img with pause := p }, dev := { s.dev with updatePause := true } }) h]

theorem queueTrial_imgStreams (b : Bool) : (s.queueTrial b).imgStreams = s.imgStreams := by
  have hstate : (s.queueTrial b).imgState = s.imgState := getF_setF_addr (f := IMAGE.IMG_STAT_STATE) (g := PSTORE.PS_STAT_QUEUED) (by decide) _
  rw [imgStreams, hstate, imgStreams]

theorem goesSet_activate (h : Accepts s r IMAGE.IMG_CMD (commandWord 3 (0x5A * 2 ^ 8))) (hcause : activateCause s 0x5A = 0) (hready : s.imgState = imREADY)
    (hv : v = (Stored s r IMAGE.IMG_CMD (commandWord 3 (0x5A * 2 ^ 8))).queueTrial true) :
    GoesSet (.activate r 0x5A) s { v with img := { v.img with pause := .activate }, dev := { v.dev with updatePause := true } }
      [(EST.EST_STAT_HELD, 1), (IMAGE.IMG_STAT_RESULT, 1), (IMAGE.IMG_STAT_CMD_CAUSE, 0)] := by
  have hcause' : activateCause (Stored s r IMAGE.IMG_CMD (commandWord 3 (0x5A * 2 ^ 8))) 0x5A = 0 := stored_activateCause.trans hcause
  have hrest : v.imgStreams = false := by rw [hv, queueTrial_imgStreams, stored_imgCmd_imgStreams, imgStreams, hready]; rfl
  refine goesSet_of_eq (exec_activate (k := 0x5A) h) ?_ (sets_imgResult (sets_refl.field EST.EST_STAT_HELD 1) (result := 1) (cause := 0) (by decide) (by decide)
    (by simp [Apart]))
  show (Stored s r IMAGE.IMG_CMD (commandWord 3 (0x5A * 2 ^ 8))).imgActivate 0x5A = _
  rw [imgActivate_eq, if_pos hcause', ← hv, pauseStart_of_rest hrest]

end Activation

/-! ### The end of the pause (R542) -/

section Pause

/-- Management service goes on, and the quiet time runs. -/
abbrev pauseEnded (s : State) : State :=
  { s with img := { s.img with pause := .none, pauseEndUs := s.dev.nowUs, sevSeen := false }, dev := { s.dev with updatePause := false } }

theorem exec_pauseEnd_trial (hp : s.img.pause = .activate) (hok : s.bankFail (s.bank s.target) = 0) :
    exec .activationPauseEnd s = .next ((pauseEnded ((s.mpuStart s.target).setImg imIDLE)).setF IMAGE.RUN_STAT_TRIAL 1) := by
  show execActivationPauseEnd s = _
  simp only [execActivationPauseEnd, hp, hok, ↓reduceIte]

theorem exec_pauseEnd_refused (hp : s.img.pause = .activate) (hne : s.bankFail (s.bank s.target) ≠ 0) :
    exec .activationPauseEnd s = .next ((pauseEnded (((s.queueTrial false).mpuStart s.activeBank).setImg imIDLE)).raise 232
      [s.activeBank.toNat, s.bankFail (s.bank s.target)]) := by
  show execActivationPauseEnd s = _
  simp only [execActivationPauseEnd, hp, hne, ↓reduceIte]

theorem exec_pauseEnd_fallback (hp : s.img.pause = .fallback) :
    exec .activationPauseEnd s = .next (pauseEnded ((s.mpuStart s.activeBank).setImg imIDLE)) := by
  show execActivationPauseEnd s = _
  simp only [execActivationPauseEnd, hp]

end Pause

/-! ### CONFIRM (R541) -/

section Confirm

theorem exec_confirm {k : Byte} (h : Accepts s r IMAGE.IMG_CMD (commandWord 4 (k.toNat * 2 ^ 8))) :
    exec (.confirm r k) s = .next ((Stored s r IMAGE.IMG_CMD (commandWord 4 (k.toNat * 2 ^ 8))).imgConfirm k.toNat) :=
  congrArg Host.Outcome.next (hostWrite_imgCmd (by decide) k.isLt h)

theorem imgConfirmed_otpRollback : s.imgConfirmed.dev.otpRollback = max s.dev.otpRollback (s.bank s.runBank).rollback := rfl

/-- After CONFIRM the image is no longer on trial: what is written after TRIAL leaves it. -/
theorem imgConfirmed_trial : s.imgConfirmed.getB IMAGE.RUN_STAT_TRIAL = false := by
  have hkeep (u : State) (b : Bool) : (((u.setF IMAGE.RUN_STAT_TRIAL 0).setB IMAGE.RUN_STAT_ACTIVE_BANK b).psShow).getF IMAGE.RUN_STAT_TRIAL = 0 := by
    simp only [psShow, setB]
    rw [getF_setF_addr (by decide), getF_setF_addr (by decide), getF_setF_bits (by decide) (by decide), getF_setF_self (by decide)]
    rfl
  exact getB_of_getF_toNat (b := false) (hkeep _ _)

theorem stored_otpRollback {a w : Nat} : (Stored s r a w).dev.otpRollback = s.dev.otpRollback := by
  unfold Stored
  split
  · obtain ⟨x, hx⟩ := ownerTouch_eq (s := s) (r := r) (a / 0x1000)
    simp only [hx, noteLate]
    split <;> rfl
  · rfl

theorem stored_imgCmd_bank {w : Nat} (b : Bool) : (Stored s r IMAGE.IMG_CMD w).bank b = s.bank b := by rw [stored_rest]; rfl

end Confirm

/-- Settles O31: ACTIVATE by the cause of the first condition it fails, the pause's end by what it waits for, CONFIRM by its key and supply. The
stream is IDLE after an activation by log entry 45. -/
theorem imageActivation : Obligations.ImageActivation := by
  unfold Obligations.ImageActivation
  refine ⟨fun r k w c s hw h hasc hwhy => ?_, fun r w s v hw h hmode hdescent hready hnv htrial hv => ?_,
    fun s hp hok => ⟨_, exec_pauseEnd_trial hp hok, _, rfl, rfl⟩, fun c s hp hc hne => ?_, fun s hp => ⟨_, exec_pauseEnd_fallback hp, _, rfl, rfl⟩,
    fun r w s v hw h htrial hnv hv => ?_, fun r k w s hw h hwhy => ?_,
    fun s hp htrial hauto hpause hnv hsev hquiet => ⟨_, if_pos ⟨hp, htrial, hauto, hpause, hnv, hsev, hquiet⟩, sets_result (by decide) (by decide)⟩,
    fun s hp htrial hpause hage => if_pos ⟨hp, htrial, hpause, hage⟩⟩
  · subst hw
    obtain ⟨hcause, hne, hc⟩ : activateCause s k.toNat = c ∧ c ≠ 0 ∧ c < 8 := by
      rcases hwhy with ⟨hmode, rfl⟩ | ⟨hrun, hdescent, hwhy⟩
      · exact ⟨activateCause_mode hmode, by decide, by decide⟩
      · rw [activateCause_run (.inr (.inl hrun)) hdescent]
        rcases hwhy with ⟨hready, rfl⟩ | ⟨hready, hkey, rfl⟩ | ⟨hready, rfl, hnv, rfl⟩ | ⟨hready, rfl, hnv, htrial, rfl⟩
        · simp [hready]
        · have hne : k.toNat ≠ 0x5A := fun hk => hkey (BitVec.eq_of_toNat_eq hk)
          simp [hready, hne]
        · simp [hready, hnv]
        · simp [hready, hnv, htrial]
    exact goesSet_activate_refused h hcause hne hc
  · subst hw
    refine goesSet_activate h ?_ hready hv
    rw [activateCause_run hmode hdescent]
    simp [hready, hnv, htrial]
  · subst hc
    exact ⟨_, exec_pauseEnd_refused hp hne, _, rfl, rfl⟩
  · subst hw
    have hgo := exec_confirm (k := 0x5A) h
    have hyes : (Stored s r IMAGE.IMG_CMD (commandWord 4 (0x5A * 2 ^ 8))).getB IMAGE.RUN_STAT_TRIAL ∧ (0x5A : Nat) = 0x5A ∧
        (Stored s r IMAGE.IMG_CMD (commandWord 4 (0x5A * 2 ^ 8))).nvOk := by
      rw [stored_imgCmd_getB, stored_imgCmd_nvOk]
      exact ⟨htrial, rfl, hnv⟩
    refine ⟨goesSet_of_eq hgo (if_pos hyes) ?_, ?_, ?_⟩
    · rw [hv]
      exact sets_result (by decide) (by decide)
    · rw [hv, imgConfirmed_otpRollback, stored_otpRollback, stored_imgCmd_runBank, stored_imgCmd_bank]
    · rw [hv]
      exact imgConfirmed_trial
  · subst hw
    refine goesSet_of_eq (exec_confirm h) (if_neg ?_) (sets_result (by decide) (by decide))
    rw [stored_imgCmd_getB, stored_imgCmd_nvOk]
    rintro ⟨htrial, hkey, hnv⟩
    rcases hwhy with h | h | h
    · simp [h] at htrial
    · exact h (BitVec.eq_of_toNat_eq hkey)
    · simp [h] at hnv

end Sys2Proof.Proofs
end

section
/-! SUPPORT. The parameter store and the Cairn recorder (chapter 16): PS_CMD, record writes page by page, TC_CMD and CLR_CMD. -/

namespace Sys2Proof.Proofs

open Machine Machine.State Laws

-- One proof after the other: side by side they take more threads than the check's memory has stacks for.
set_option Elab.async false

variable {s t u v : State} {r : Requester}

/-! ### PS_CMD (R478, R482) -/

section PsCmd

variable {op id w : Nat} {p : List Byte}

theorem hostWrite_psCmd (hop : op < 8) (hid : id < 2 ^ 16) (h : Accepts s r PSTORE.PS_CMD (commandWord op id)) :
    s.hostWrite r PSTORE.PS_CMD (BitVec.ofNat 32 (commandWord op id)) = (Stored s r PSTORE.PS_CMD (commandWord op id)).psCommand op id := by
  obtain ⟨hgo, hop', -, hid'⟩ := commandWord_fields hop hid
  rw [hostWrite_accepted h regAt_psCmd]
  simp only [wordActs, hgo, hop', hid', and_self, ↓reduceIte]

theorem stored_psCmd_getF {f : Fld} (ha : f.addr ≠ PSTORE.PS_CMD) (hc : f.addr ≠ pgChg pPSTORE) : (Stored s r PSTORE.PS_CMD w).getF f = s.getF f :=
  stored_getF (homeOf_plain (by decide) (by decide)) ha hc

theorem stored_psBusy : (Stored s r PSTORE.PS_CMD w).getB PSTORE.PS_STAT_BUSY = s.getB PSTORE.PS_STAT_BUSY := by
  rw [getB, stored_psCmd_getF (by decide) (by decide), getB]

theorem stored_psCmd_mode : (Stored s r PSTORE.PS_CMD w).mode = s.mode := stored_psCmd_getF (by decide) (by decide)

theorem stored_ps {a : Nat} : (Stored s r a w).ps = s.ps := by rw [stored_rest]

theorem sets_psResult {result cause : Nat} {l : List (Fld × Nat)} (h : Sets s t l) (hresult : result < 4 := by decide) (hcause : cause < 16 := by decide)
    (hl : ∀ x ∈ l, x.1.lo + x.1.w ≤ 32 ∧ Apart x.1 PSTORE.PS_STAT_RESULT ∧ Apart x.1 PSTORE.PS_STAT_CAUSE := by simp [Apart]) :
    Sets s (t.psResult result cause) (l ++ [(PSTORE.PS_STAT_RESULT, result), (PSTORE.PS_STAT_CAUSE, cause)]) := by
  have hfirst := h.field PSTORE.PS_STAT_RESULT result hresult fun x hx => ⟨(hl x hx).1, (hl x hx).2.1⟩
  have hboth := hfirst.field PSTORE.PS_STAT_CAUSE cause hcause fun x hx => by
    rcases List.mem_append.1 hx with hx | hx
    · exact ⟨(hl x hx).1, (hl x hx).2.2⟩
    · rw [List.mem_singleton.1 hx]
      simp [Apart]
  rw [List.append_assoc] at hboth
  exact hboth

/-- A command answers BUSY's refusal while one runs. -/
theorem psCommand_busy (h : s.getB PSTORE.PS_STAT_BUSY) : s.psCommand op id = s.psResult prREFUSED 6 := if_pos h

section Free

variable (hfree : s.getB PSTORE.PS_STAT_BUSY = false)

include hfree

theorem psCommand_save_other (h : psIsConfig id = false) : s.psCommand 1 id = s.psResult prREFUSED 3 :=
  (if_neg (Bool.eq_false_iff.1 hfree)).trans (if_pos h)

theorem psCommand_save (h : psIsConfig id) (hp : s.cfgBuild id = some p) : s.psCommand 1 id = s.psStart [(id, p)] := by
  simp [psCommand, hfree, h, hp]

theorem psCommand_saveAll (h : psConfigIds.all (fun i => (s.cfgBuild i).isSome)) :
    s.psCommand 2 id = s.psStart (psConfigIds.map (fun i => (i, (s.cfgBuild i).getD []))) := by
  have hsome : ((psConfigIds.map (fun i => (i, s.cfgBuild i))).any (fun (e : Nat × Option (List Byte)) => e.2.isNone)) = false := by
    rw [List.any_eq_false]
    intro e he
    obtain ⟨i, hi, rfl⟩ := List.mem_map.1 he
    simpa [Option.isSome_iff_ne_none] using List.all_eq_true.1 h i hi
  rw [psCommand, hfree, if_neg Bool.false_ne_true]
  simp only [hsome, Bool.false_eq_true, ↓reduceIte, List.map_map]
  rfl

theorem psCommand_reset (hmode : s.mode = mSERVICE) (h : psIsConfig id) : s.psCommand 3 id = s.psStart [(id, [])] := by
  simp [psCommand, hfree, h, hmode]

theorem psCommand_reset_refused (hmode : s.mode ≠ mSERVICE) (h : psIsConfig id) : s.psCommand 3 id = s.psResult prREFUSED 5 := by
  simp [psCommand, hfree, h, hmode]

theorem psCommand_verify (hmode : s.mode = mSERVICE) :
    s.psCommand 4 id = (({ s with ps := { s.ps with scanning := true } }).setF PSTORE.PS_STAT_BUSY 1).psResult prNONE 0 := by
  simp [psCommand, hfree, hmode]

theorem psCommand_verify_refused (hmode : s.mode ≠ mSERVICE) : s.psCommand 4 id = s.psResult prREFUSED 5 := by
  simp [psCommand, hfree, hmode]

end Free

theorem psStart_unchanged (h : s.psUnchanged id p) : s.psStart [(id, p)] = s.psResult prUNCHANGED 0 := by
  simp [psStart, h]

/-- The one record that a command queues, and that it waits for. -/
abbrev recordQueued (s : State) (id : Nat) (p : List Byte) : State := { s with ps := { (s.psQueue id p).ps with cmd := [id] } }

theorem psStart_changed (h : s.psUnchanged id p = false) : s.psStart [(id, p)] =
    (((recordQueued s id p).setF PSTORE.PS_STAT_QUEUED (s.psQueue id p).ps.queue.length).setF PSTORE.PS_STAT_BUSY 1).psResult prNONE 0 := by
  have hone : ([(id, p)].filter fun (e : Nat × List Byte) => !s.psUnchanged e.1 e.2) = [(id, p)] := by simp [h]
  simp only [psStart, hone]
  rfl

theorem sets_recordQueued (n : Nat) : Sets u (((u.setF PSTORE.PS_STAT_QUEUED n).setF PSTORE.PS_STAT_BUSY 1).psResult prNONE 0)
    [(PSTORE.PS_STAT_QUEUED, n % 2 ^ PSTORE.PS_STAT_QUEUED.w), (PSTORE.PS_STAT_BUSY, 1), (PSTORE.PS_STAT_RESULT, prNONE), (PSTORE.PS_STAT_CAUSE, 0)] :=
  sets_psResult ((sets_setF_mod sets_refl (by decide) (by simp)).field PSTORE.PS_STAT_BUSY 1)

theorem exec_psSave {id : Half} (h : Accepts s r PSTORE.PS_CMD (commandWord 1 id.toNat)) :
    exec (.psSave r id) s = .next ((Stored s r PSTORE.PS_CMD (commandWord 1 id.toNat)).psCommand 1 id.toNat) :=
  congrArg Host.Outcome.next (hostWrite_psCmd (by decide) id.isLt h)

theorem exec_psSaveAll (h : Accepts s r PSTORE.PS_CMD (commandWord 2 0)) :
    exec (.psSaveAll r) s = .next ((Stored s r PSTORE.PS_CMD (commandWord 2 0)).psCommand 2 0) :=
  congrArg Host.Outcome.next (hostWrite_psCmd (op := 2) (id := 0) (by decide) (by decide) h)

theorem exec_psResetCfg {id : Half} (h : Accepts s r PSTORE.PS_CMD (commandWord 3 id.toNat)) :
    exec (.psResetCfg r id) s = .next ((Stored s r PSTORE.PS_CMD (commandWord 3 id.toNat)).psCommand 3 id.toNat) :=
  congrArg Host.Outcome.next (hostWrite_psCmd (by decide) id.isLt h)

theorem exec_psVerify (h : Accepts s r PSTORE.PS_CMD (commandWord 4 0)) :
    exec (.psVerify r) s = .next ((Stored s r PSTORE.PS_CMD (commandWord 4 0)).psCommand 4 0) :=
  congrArg Host.Outcome.next (hostWrite_psCmd (op := 4) (id := 0) (by decide) (by decide) h)

end PsCmd

/-! ### Record writes (R479 to R481) -/

section RecordWrite

/-- QUEUED and MIGRATE.HELD are all that shows the queue. -/
theorem psShow_kept : RegsKept (fun a => a = PSTORE.PS_STAT ∨ a = IMAGE.MIGRATE) s s.psShow ∧ s.psShow = { s with regs := s.psShow.regs } :=
  ⟨regsKept_setF (f := IMAGE.MIGRATE_HELD) (regsKept_setF (f := PSTORE.PS_STAT_QUEUED) regsKept_refl (.inl rfl) _) (.inr rfl) _, rfl⟩

/-- The write that is served next, in flight. -/
def writeStarted (s : State) (w : PsWrite) : State :=
  { s with ps := { s.ps with
    queue := s.ps.queue.filter (fun x => x.id ≠ w.id)
    flight := some ⟨w.id, (s.psNext w.id).1, w.form, s.psNow w, psEncodeS w.id w.form (s.psNext w.id).2 (s.bank s.runBank).schemaMax (s.psNow w), 0⟩ } }

theorem exec_recordWriteStart {w : PsWrite} (hw : s.psNextWrite = some w) (hp : s.powered) (hnv : s.nvOk) (hmpu : s.dev.mpuRestart = false)
    (hdm : s.dmMoves 7) (hscan : s.ps.scanning = false) (hfree : s.ps.flight = none) : exec .recordWriteStart s = .next (writeStarted s w).psShow := by
  show execRecordWriteStart s = _
  simp only [execRecordWriteStart, hw]
  exact if_pos ⟨hp, hnv, hmpu, hdm, hscan, hfree⟩

theorem goes_recordWriteStart {w : PsWrite} (hw : s.psNextWrite = some w) (hp : s.powered) (hnv : s.nvOk) (hmpu : s.dev.mpuRestart = false)
    (hdm : s.dmMoves 7) (hscan : s.ps.scanning = false) (hfree : s.ps.flight = none) : Goes .recordWriteStart s (fun t =>
      t.ps.flight = some ⟨w.id, (s.psNext w.id).1, w.form, s.psNow w, psEncodeS w.id w.form (s.psNext w.id).2 (s.bank s.runBank).schemaMax (s.psNow w), 0⟩ ∧
      t.ps.queue = s.ps.queue.filter (fun x => x.id ≠ w.id) ∧ t.ps.slots = s.ps.slots ∧ t = { s with regs := t.regs, ps := t.ps } ∧
      ∀ a, a ≠ PSTORE.PS_STAT_QUEUED.addr → a ≠ IMAGE.MIGRATE_HELD.addr → t.getReg a = s.getReg a) :=
  ⟨_, exec_recordWriteStart hw hp hnv hmpu hdm hscan hfree, rfl, rfl, rfl, rfl, fun a hq hm => psShow_kept.1 a (by rintro (h | h) <;> contradiction)⟩

theorem psPut_psCopy {id : Nat} {b : Bool} {c : PsCopy} : (s.psPut id b c).psCopy id b = c := by
  have hold : (s.ps.slots.filter (fun e => e.1 ≠ (id, b))).find? (fun e => e.1 = (id, b)) = none := by
    rw [List.find?_eq_none]
    intro e he
    simpa using (List.mem_filter.1 he).2
  simp only [psCopy, psPut, List.find?_append, hold]
  simp

/-- The copy of the write in flight with the page that completes. -/
abbrev pageProgrammed (s : State) (f : PsFlight) : State :=
  s.psPut f.id f.copyB ⟨f.bytes.take (64 * (f.pages + 1)) ++ (s.psCopy f.id f.copyB).bytes.drop (min (64 * (f.pages + 1)) f.bytes.length), false⟩

theorem psProgram_of_flight {f : PsFlight} (hf : s.ps.flight = some f) : s.psProgram =
    ({ pageProgrammed s f with ps := { (pageProgrammed s f).ps with flight := some { f with pages := f.pages + 1 } } } : State).setN PSTORE.PROGS
      (s.getN PSTORE.PROGS + 1) := by
  simp only [psProgram, hf]
  rfl

theorem exec_pageProgramDone_last {f : PsFlight} (hf : s.ps.flight = some f) (hp : s.powered) (hlast : f.bytes.length ≤ 64 * (f.pages + 1)) :
    exec .pageProgramDone s = .next ((({ s.psProgram with ps := { s.psProgram.ps with flight := none } }).psWritten f.id f.payload).psShow) := by
  show execPageProgramDone s = _
  simp only [execPageProgramDone, hf, hp, Bool.not_true, Bool.false_eq_true, ↓reduceIte, hlast]

theorem exec_pageProgramDone {f : PsFlight} (hf : s.ps.flight = some f) (hp : s.powered) (hmore : 64 * (f.pages + 1) < f.bytes.length)
    (hvin : s.getB CLKPWR.VIN_MV_WARN = false) : exec .pageProgramDone s = .next s.psProgram := by
  have hwarn : s.psProgram.getB CLKPWR.VIN_MV_WARN = false := by
    rw [psProgram_of_flight hf, getB, State.setN, getF_setReg_ne (by decide)]
    exact hvin
  show execPageProgramDone s = _
  simp only [execPageProgramDone, hf, hp, Bool.not_true, Bool.false_eq_true, ↓reduceIte, if_neg (show ¬ f.bytes.length ≤ 64 * (f.pages + 1) by omega), hwarn]

theorem goes_pageProgramDone {f : PsFlight} (hf : s.ps.flight = some f) (hp : s.powered) (hmore : 64 * (f.pages + 1) < f.bytes.length)
    (hvin : s.getB CLKPWR.VIN_MV_WARN = false) : Goes .pageProgramDone s (fun t => t.ps.flight = some { f with pages := f.pages + 1 } ∧
      (t.psCopy f.id f.copyB).bytes.take (64 * (f.pages + 1)) = f.bytes.take (64 * (f.pages + 1)) ∧ t.ps.queue = s.ps.queue ∧
      t = { s with regs := t.regs, ps := t.ps } ∧ (∀ a, a ≠ PSTORE.PROGS → t.getReg a = s.getReg a) ∧
      t.getN PSTORE.PROGS = (s.getN PSTORE.PROGS + 1) % 2 ^ 32) := by
  have hgo := exec_pageProgramDone hf hp hmore hvin
  rw [psProgram_of_flight hf] at hgo
  refine ⟨_, hgo, rfl, ?_, rfl, rfl, fun a ha => getReg_setReg_ne _ ha, ?_⟩
  · have hcopy : ((({ pageProgrammed s f with ps := { (pageProgrammed s f).ps with flight := some { f with pages := f.pages + 1 } } } : State).setN PSTORE.PROGS
        (s.getN PSTORE.PROGS + 1)).psCopy f.id f.copyB) = _ := psPut_psCopy (s := s)
    rw [hcopy, List.take_append_of_le_length (by rw [List.length_take]; omega), List.take_take, Nat.min_self]
  · rw [getN, State.setN, getReg_setReg_self, BitVec.toNat_ofNat]

end RecordWrite

/-- Settles O27: PS_CMD by its operation on the stored word, a write's start and its pages by what leaves the queue. That SDMA channel 7 stages the write is log
entry 119. -/
theorem parameterStore : Obligations.ParameterStore := by
  unfold Obligations.ParameterStore
  refine ⟨fun r id p v s h hv hfree hid hp hdiff => ?_, fun r id p v s h hv hfree hid hp hsame => ?_, fun r id s h hfree hid => ?_,
    fun r id s h hbusy => ?_, fun r v s h hv hfree hall => ?_, fun r id v s h hv hfree hmode hid hdiff => ?_, fun r id s h hfree hid hmode => ?_,
    fun r s h hfree hmode => ?_, fun r s h hfree hmode => ?_, fun f s hp hscan => if_pos ⟨hp, hscan⟩,
    fun w s hw hp hnv hmpu hdm hscan hfree => goes_recordWriteStart hw hp hnv hmpu hdm hscan hfree,
    fun f s hf hp hmore hvin => goes_pageProgramDone hf hp hmore hvin, fun f s hf hp hlast => exec_pageProgramDone_last hf hp hlast⟩
  · have hfree' : v.getB PSTORE.PS_STAT_BUSY = false := by rw [hv, stored_psBusy, hfree]
    exact goesSet_of_eq (hv ▸ exec_psSave h) ((psCommand_save hfree' hid hp).trans (psStart_changed hdiff)) (sets_recordQueued _)
  · have hfree' : v.getB PSTORE.PS_STAT_BUSY = false := by rw [hv, stored_psBusy, hfree]
    exact goesSet_of_eq (hv ▸ exec_psSave h) ((psCommand_save hfree' hid hp).trans (psStart_unchanged hsame)) (sets_psResult sets_refl)
  · exact goesSet_of_eq (exec_psSave h) (psCommand_save_other (stored_psBusy.trans hfree) hid) (sets_psResult sets_refl)
  · exact goesSet_of_eq (exec_psSave h) (psCommand_busy (stored_psBusy.trans hbusy)) (sets_psResult sets_refl)
  · have hfree' : v.getB PSTORE.PS_STAT_BUSY = false := by rw [hv, stored_psBusy, hfree]
    exact (hv ▸ exec_psSaveAll h).trans (congrArg Host.Outcome.next (psCommand_saveAll hfree' hall))
  · have hfree' : v.getB PSTORE.PS_STAT_BUSY = false := by rw [hv, stored_psBusy, hfree]
    have hmode' : v.mode = mSERVICE := by rw [hv, stored_psCmd_mode, hmode]
    exact goesSet_of_eq (hv ▸ exec_psResetCfg h) ((psCommand_reset hfree' hmode' hid).trans (psStart_changed hdiff)) (sets_recordQueued _)
  · exact goesSet_of_eq (exec_psResetCfg h) (psCommand_reset_refused (stored_psBusy.trans hfree) (by rwa [stored_psCmd_mode]) hid) (sets_psResult sets_refl)
  · have hgo := psCommand_verify (id := 0) ((stored_psBusy (r := r) (w := commandWord 4 0)).trans hfree) (stored_psCmd_mode.trans hmode)
    rw [stored_ps] at hgo
    exact goesSet_of_eq (exec_psVerify h) hgo (sets_psResult (sets_refl.field PSTORE.PS_STAT_BUSY 1))
  · exact goesSet_of_eq (exec_psVerify h) (psCommand_verify_refused (stored_psBusy.trans hfree) (by rwa [stored_psCmd_mode])) (sets_psResult sets_refl)

/-! ### The flush (R492) -/

section Flush

theorem exec_cairnFlush (hp : s.powered) (hnv : s.nvOk) (hmpu : s.mpuRuns) (hclear : s.cairn.clearSeq = none) : exec .cairnFlush s = .next s.cairnFlush :=
  if_pos ⟨hp, hnv, hmpu, hclear⟩

/-- A record's show leaves WRITTEN_SEQ, LAST_SEQ and the counters of the recorder. -/
theorem cairnShow_getReg {a : Nat} (ha : a < CAIRN.FIRST_SEQ ∨ CAIRN.CAIRN_STAT < a) : s.cairnShow.getReg a = s.getReg a := by
  have hshown : RegsKept (fun a => CAIRN.FIRST_SEQ ≤ a ∧ a ≤ CAIRN.CAIRN_STAT) s s.cairnShow := by
    unfold cairnShow
    refine regsKept_setF (regsKept_setF (regsKept_setReg (regsKept_setF (regsKept_setF regsKept_refl ?_ _) ?_ _) ?_ _) ?_ _) ?_ _
    all_goals decide
  exact hshown a fun h => by omega

theorem cairnShow_getF {f : Fld} (ha : f.addr < CAIRN.FIRST_SEQ ∨ CAIRN.CAIRN_STAT < f.addr) : s.cairnShow.getF f = s.getF f := by
  rw [getF, cairnShow_getReg ha, getF]

/-- CLEARING stands beside the bits that show the fill. -/
theorem cairnShow_clearing : s.cairnShow.getF CAIRN.CAIRN_STAT_CLEARING = s.getF CAIRN.CAIRN_STAT_CLEARING := by
  unfold cairnShow
  dsimp only [setB]
  rw [getF_setF_bits (by decide) (by decide), getF_setF_bits (by decide) (by decide), State.setN, getF_setReg_ne (by decide), getF_setF_addr (by decide),
    getF_setF_addr (by decide)]

/-- The staged records written (R492). -/
abbrev stagedWritten (s : State) : State := { s with cairn := { s.cairn with nv := s.cairn.nv ++ s.cairn.staged, staged := [], rewrite := none } }

theorem cairnFlush_of_last {l : CairnRec} (hl : s.cairn.staged.getLast? = some l) (hrw : s.cairn.rewrite = none) :
    s.cairnFlush = ((stagedWritten s).setN CAIRN.WRITTEN_SEQ l.seq).cairnShow := by
  simp only [cairnFlush, hl, hrw]

theorem goes_cairnFlush {l : CairnRec} (hp : s.powered) (hnv : s.nvOk) (hmpu : s.mpuRuns) (hclear : s.cairn.clearSeq = none)
    (hl : s.cairn.staged.getLast? = some l) (hrw : s.cairn.rewrite = none) : Goes .cairnFlush s (fun t =>
      t.cairn.nv = s.cairn.nv ++ s.cairn.staged ∧ t.cairn.staged = [] ∧ t.getN CAIRN.WRITTEN_SEQ = l.seq % 2 ^ 32 ∧ t.cairnN = s.cairnN ∧
      t = { s with regs := t.regs, cairn := t.cairn } ∧ ∀ a, a / 0x1000 ≠ pCAIRN → t.getReg a = s.getReg a) := by
  have hcairn : s.cairnFlush.cairn = (stagedWritten s).cairn := by
    rw [cairnFlush_of_last hl hrw, cairnShow_cairn]
    rfl
  refine ⟨_, exec_cairnFlush hp hnv hmpu hclear, by rw [hcairn], by rw [hcairn], ?_, ?_, cairnFlush_kept.2, cairnFlush_kept.1⟩
  · rw [cairnFlush_of_last hl hrw, getN, cairnShow_getReg (by decide), State.setN, getReg_setReg_self, BitVec.toNat_ofNat]
  · simp only [cairnN, hcairn, List.length_append, List.length_nil, Nat.add_zero]

end Flush

/-! ### TC_CMD (R497) -/

section TimeCorrection

variable {a w : Nat}

theorem stored_cairn : (Stored s r a w).cairn = s.cairn := by rw [stored_rest]

theorem stored_cairnN : (Stored s r a w).cairnN = s.cairnN := by rw [cairnN, stored_cairn, cairnN]

theorem stored_tcCmd_getReg {b : Nat} (hb : b ≠ CAIRN.TC_CMD) (hc : b ≠ pgChg pCAIRN) : (Stored s r CAIRN.TC_CMD w).getReg b = s.getReg b :=
  stored_getReg (homeOf_plain (by decide) (by decide)) hb hc

theorem exec_tcCmdGo (h : Accepts s r CAIRN.TC_CMD (2 ^ 31)) : exec (.tcCmdGo r) s = .next (Stored s r CAIRN.TC_CMD (2 ^ 31)).tcGo :=
  congrArg Host.Outcome.next (hostWrite_accepted h regAt_tcCmd)

theorem tcGo_refused (h : 32704 ≤ s.cairnN ∨ 256 ≤ s.cairn.staged.length) : s.tcGo = s.setF CAIRN.TC_CMD_RESULT prREFUSED := if_pos h

theorem tcGo_taken (h : ¬ (32704 ≤ s.cairnN ∨ 256 ≤ s.cairn.staged.length)) : s.tcGo =
    (((s.setF CAIRN.CAIRN_STAT_TIMECOR 1).setF CAIRN.TC_CMD_RESULT prDONE).cairnStage 255 1 5 false
      (leBytes 4 (s.getN CAIRN.TC_LO) ++ leBytes 4 (s.getN CAIRN.TC_HI) ++ leBytes 2 (s.getF CAIRN.TC_ERR_ERR))).checkFill := if_neg h

end TimeCorrection

/-! ### CLR_CMD (R498) -/

section Clear

variable {w key : Nat}

theorem stored_clrCmd_getReg {b : Nat} (hb : b ≠ CAIRN.CLR_CMD) (hc : b ≠ pgChg pCAIRN) : (Stored s r CAIRN.CLR_CMD w).getReg b = s.getReg b :=
  stored_getReg (homeOf_plain (by decide) (by decide)) hb hc

theorem stored_clrCmd_getN {b : Nat} (hb : b ≠ CAIRN.CLR_CMD) (hc : b ≠ pgChg pCAIRN) : (Stored s r CAIRN.CLR_CMD w).getN b = s.getN b := by
  rw [getN, stored_clrCmd_getReg hb hc, getN]

theorem stored_clrCmd_mode : (Stored s r CAIRN.CLR_CMD w).mode = s.mode := stored_getF (homeOf_plain (by decide) (by decide)) (by decide) (by decide)

theorem exec_cairnClear {k : Byte} (h : Accepts s r CAIRN.CLR_CMD (commandWord 0 (k.toNat * 2 ^ 8))) :
    exec (.cairnClear r k) s = .next ((Stored s r CAIRN.CLR_CMD (commandWord 0 (k.toNat * 2 ^ 8))).cairnClear k.toNat) := by
  have hk := k.isLt
  obtain ⟨hgo, -, hkey, -⟩ := commandWord_fields (op := 0) (by decide) (show k.toNat * 2 ^ 8 < 2 ^ 16 by omega)
  refine congrArg Host.Outcome.next ((hostWrite_accepted h regAt_clrCmd).trans ?_)
  simp only [wordActs, CAIRN.CLR_CMD, CAIRN.TC_CMD, Nat.reduceEqDiff, hgo, hkey, ↓reduceIte, Nat.mul_div_cancel k.toNat (show 0 < 2 ^ 8 by decide)]

theorem sets_clrResult {result cause : Nat} (hresult : result < 4) (hcause : cause < 16) :
    Sets s (s.clrResult result cause) [(CAIRN.CLR_CMD_RESULT, result), (CAIRN.CLR_CMD_CAUSE, cause)] :=
  (sets_refl.field CAIRN.CLR_CMD_RESULT result hresult).field CAIRN.CLR_CMD_CAUSE cause hcause

/-- The cause of the first condition that a clear fails (in the order of log entry 86); 0 where it begins. -/
def clearCause (s : State) (key : Nat) : Nat :=
  if s.mode ≠ mSERVICE then 1
  else if key ≠ 0xA7 then 2
  else if s.cairn.clearSeq.isSome then 5
  else if s.getReg CAIRN.ARCHIVE_ACK ≠ s.getReg CAIRN.LAST_SEQ then 3
  else 0

theorem stored_clearCause : clearCause (Stored s r CAIRN.CLR_CMD w) key = clearCause s key := by
  simp only [clearCause, stored_clrCmd_mode, stored_cairn, stored_clrCmd_getReg (b := CAIRN.ARCHIVE_ACK) (by decide) (by decide),
    stored_clrCmd_getReg (b := CAIRN.LAST_SEQ) (by decide) (by decide)]

/-- The clear counted, and the device counters queued with their new floor. -/
abbrev clearCounted (s : State) : State :=
  let t := s.setN CAIRN.CLEARS (s.getN CAIRN.CLEARS + 1)
  t.psQueue 0x0200 (t.counterRecord (s.getN CAIRN.LAST_SEQ + 1))

/-- The CLEARED record of a clear of everything up to `l`. -/
def clearedRecord (s : State) (l : Nat) : CairnRec := s.mkRec (l + 1) 255 1 6 (s.cairnFlags false) (leBytes 4 l ++ leBytes 4 (s.getN CAIRN.CLEARS))

/-- The recorder that holds nothing but the CLEARED record. -/
abbrev emptied (s : State) (l : Nat) : State :=
  { s with cairn := { s.cairn with
    nv := [clearedRecord s l], staged := [], clearSeq := some l, clearOld := s.cairn.nv, rewrite := none, nextSeq := (l + 2) % 2 ^ 32 } }

/-- What a clear that begins shows before the fill. -/
def clearBegun (s : State) : State :=
  (((((emptied (clearCounted s) (s.getN CAIRN.LAST_SEQ)).setN CAIRN.LAST_SEQ (s.getN CAIRN.LAST_SEQ + 1)).setF CAIRN.LAST_REPEAT_REPEAT 0).setF
    CAIRN.CAIRN_STAT_CLEARING 1).clrResult prNONE 0)

theorem cairnClear_eq : s.cairnClear key = if clearCause s key = 0 then (clearBegun s).cairnShow else s.clrResult prREFUSED (clearCause s key) := by
  simp only [State.cairnClear, clearCause]
  split_ifs <;> trivial

theorem sets_clearBegun : Sets (emptied (clearCounted s) (s.getN CAIRN.LAST_SEQ)) (clearBegun s)
    ([whole CAIRN.LAST_SEQ (BitVec.ofNat 32 (s.getN CAIRN.LAST_SEQ + 1)), (CAIRN.LAST_REPEAT_REPEAT, 0), (CAIRN.CAIRN_STAT_CLEARING, 1),
      (CAIRN.CLR_CMD_RESULT, prNONE), (CAIRN.CLR_CMD_CAUSE, 0)]) :=
  ((((sets_setReg sets_refl (by simp)).field CAIRN.LAST_REPEAT_REPEAT 0 (hl := by simp [whole, Apart])).field CAIRN.CAIRN_STAT_CLEARING 1
    (hl := by simp [whole, Apart])).field CAIRN.CLR_CMD_RESULT prNONE (hl := by simp [whole, Apart])).field CAIRN.CLR_CMD_CAUSE 0 (hl := by simp [whole, Apart])

theorem clearBegun_cairn : (clearBegun s).cairn = (emptied (clearCounted s) (s.getN CAIRN.LAST_SEQ)).cairn := by rw [sets_clearBegun.rest]

theorem clearCounted_clears : (clearCounted s).getN CAIRN.CLEARS = (s.getN CAIRN.CLEARS + 1) % 2 ^ 32 := by
  have hqueued := (queueOnly_psQueue (s := s.setN CAIRN.CLEARS (s.getN CAIRN.CLEARS + 1)) ⟨regsKept_refl, rfl⟩ 0x0200
    ((s.setN CAIRN.CLEARS (s.getN CAIRN.CLEARS + 1)).counterRecord (s.getN CAIRN.LAST_SEQ + 1))).1
  rw [getN, hqueued CAIRN.CLEARS (by decide), State.setN, getReg_setReg_self, BitVec.toNat_ofNat]

/-- What a clear that begins leaves in the recorder, its registers and the queue. -/
theorem clearBegun_shown : let t := (clearBegun s).cairnShow
    t.cairn.clearSeq = some (s.getN CAIRN.LAST_SEQ) ∧ t.cairn.staged = [] ∧ t.cairn.nv.length = 1 ∧ t.cairn.clearOld = s.cairn.nv ∧
    t.getN CAIRN.LAST_SEQ = (s.getN CAIRN.LAST_SEQ + 1) % 2 ^ 32 ∧ t.getN CAIRN.CLEARS = (s.getN CAIRN.CLEARS + 1) % 2 ^ 32 ∧
    t.getB CAIRN.CAIRN_STAT_CLEARING = true ∧ t.getF CAIRN.CLR_CMD_RESULT = prNONE ∧ t.mem = s.mem ∧ (∃ q ∈ t.ps.queue, q.id = 0x200) ∧
    ∀ q ∈ t.cairn.nv, q.kind = 6 ∧ q.seq = (s.getN CAIRN.LAST_SEQ + 1) % 2 ^ 32 := by
  have hsets := sets_clearBegun (s := s)
  have hcairn : (clearBegun s).cairnShow.cairn = (emptied (clearCounted s) (s.getN CAIRN.LAST_SEQ)).cairn := cairnShow_cairn.trans clearBegun_cairn
  have hqueue : (clearBegun s).cairnShow.ps.queue = (clearCounted s).ps.queue := by rw [cairnShow_rest, hsets.rest]
  refine ⟨by rw [hcairn], by rw [hcairn], by rw [hcairn]; rfl, by rw [hcairn]; rfl, ?_, ?_, ?_, ?_, ?_, ?_, fun q hq => ?_⟩
  · rw [getN, cairnShow_getReg (by decide), getReg_of_whole hsets List.mem_cons_self, BitVec.toNat_ofNat]
  · rw [getN, cairnShow_getReg (by decide), getReg_of_sets hsets (by simp [whole])]
    exact clearCounted_clears
  · exact getB_of_getF_toNat (b := true) (cairnShow_clearing.trans (hsets.reads (CAIRN.CAIRN_STAT_CLEARING, 1) (by simp)))
  · exact (cairnShow_getF (f := CAIRN.CLR_CMD_RESULT) (by decide)).trans (hsets.reads (CAIRN.CLR_CMD_RESULT, prNONE) (by simp))
  · rw [cairnShow_rest, hsets.rest]
    rfl
  · rw [hqueue]
    exact List.mem_map.1 (mem_queuedIds_psQueue.2 (.inr rfl))
  · rw [hcairn] at hq
    rw [List.mem_singleton.1 hq]
    exact ⟨rfl, rfl⟩

/-- The end of a clear: the CLEARED record written, and the fill shown. -/
def clearedWritten (s : State) (l : Nat) : State :=
  (({ s with cairn := { s.cairn with nv := [clearedRecord s l], clearSeq := none, clearOld := [] } } : State).setN CAIRN.WRITTEN_SEQ (l + 1)).cairnShow

theorem clearedWritten_kept {l : Nat} : RegsKept CairnReg s (clearedWritten s l) ∧ clearedWritten s l =
    { s with regs := (clearedWritten s l).regs, cairn := { s.cairn with nv := [clearedRecord s l], clearSeq := none, clearOld := [] } } := shown_kept _ _

theorem clearedWritten_writtenSeq {l : Nat} : (clearedWritten s l).getN CAIRN.WRITTEN_SEQ = (l + 1) % 2 ^ 32 := by
  rw [clearedWritten, getN, cairnShow_getReg (by decide), State.setN, getReg_setReg_self, BitVec.toNat_ofNat]

theorem exec_cairnClearComplete {l : Nat} (hp : s.powered) (hnv : s.nvOk) (hmpu : s.mpuRuns) (hl : s.cairn.clearSeq = some l) :
    exec .cairnClearComplete s = .next (((((clearedWritten s l).setF CAIRN.CAIRN_STAT_CLEARING 0).clrResult prDONE 0).endL 227).endL 228) := by
  show execCairnClearComplete s = _
  simp only [execCairnClearComplete, hl]
  exact if_pos ⟨hp, hnv, hmpu⟩

theorem sets_clearComplete : Sets s ((((s.setF CAIRN.CAIRN_STAT_CLEARING 0).clrResult prDONE 0).endL 227).endL 228)
    ([(CAIRN.CAIRN_STAT_CLEARING, 0), (CAIRN.CLR_CMD_RESULT, prDONE), (CAIRN.CLR_CMD_CAUSE, 0)] ++ condEnd 227 ++ condEnd 228) :=
  sets_endL (sets_endL (((sets_refl.field CAIRN.CAIRN_STAT_CLEARING 0).field CAIRN.CLR_CMD_RESULT prDONE).field CAIRN.CLR_CMD_CAUSE 0)
    (by simp [condEnd, Apart, CAIRN.CAIRN_STAT, FCOL.COND, FCOL.ACT])) (by simp [condEnd, Apart, CAIRN.CAIRN_STAT, FCOL.COND, FCOL.ACT])

/-- A bit of a mask register reads off its field. -/
theorem getBit_of_getF {a i : Nat} {b : Bool} (h : s.getF ⟨a, i, 1⟩ = b.toNat) : s.getBit a i = b := by
  have hbit : ((s.getReg a).extractLsb' i 1).getLsbD 0 = b := by
    have hword : (s.getReg a).extractLsb' i 1 = BitVec.ofNat 1 b.toNat := BitVec.eq_of_toNat_eq (by
      rw [BitVec.toNat_ofNat, Nat.mod_eq_of_lt (Bool.toNat_lt b)]
      exact h)
    rw [hword]
    cases b <;> rfl
  simpa [getBit] using hbit

/-- An L source whose condition ended is neither present nor active. -/
theorem condEnd_reads {l : List (Fld × Nat)} {src : Nat} (h : Sets s t l) (hl : ∀ x ∈ condEnd src, x ∈ l) :
    t.getCond src = false ∧ t.getAct src = false :=
  ⟨getBit_of_getF (b := false) (h.reads _ (hl _ List.mem_cons_self)),
    getBit_of_getF (b := false) (h.reads _ (hl _ (List.mem_cons_of_mem _ List.mem_cons_self)))⟩

theorem goes_cairnClearComplete {l : Nat} (hp : s.powered) (hnv : s.nvOk) (hmpu : s.mpuRuns) (hl : s.cairn.clearSeq = some l) :
    Goes .cairnClearComplete s (fun t => t.cairn.clearSeq = none ∧ t.cairn.clearOld = [] ∧ t.cairn.nv.length = 1 ∧
      t.getN CAIRN.WRITTEN_SEQ = (l + 1) % 2 ^ 32 ∧ t.getB CAIRN.CAIRN_STAT_CLEARING = false ∧ t.getF CAIRN.CLR_CMD_RESULT = prDONE ∧
      t.getF CAIRN.CLR_CMD_CAUSE = 0 ∧ t.getCond 227 = false ∧ t.getAct 227 = false ∧ t.getCond 228 = false ∧ t.getAct 228 = false ∧
      t.cairn.staged = s.cairn.staged ∧ t = { s with regs := t.regs, cairn := t.cairn } ∧
      ∀ a, a / 0x1000 ≠ pCAIRN → a / 0x1000 ≠ pFCOL → t.getReg a = s.getReg a) := by
  obtain ⟨hregs, hrest⟩ := clearedWritten_kept (s := s) (l := l)
  have hsets := sets_clearComplete (s := clearedWritten s l)
  obtain ⟨hc227, ha227⟩ := condEnd_reads (src := 227) hsets (by simp [condEnd])
  obtain ⟨hc228, ha228⟩ := condEnd_reads (src := 228) hsets (by simp [condEnd])
  refine ⟨_, exec_cairnClearComplete hp hnv hmpu hl, ?_⟩
  generalize htt : ((((clearedWritten s l).setF CAIRN.CAIRN_STAT_CLEARING 0).clrResult prDONE 0).endL 227).endL 228 = tt at hsets hc227 ha227 hc228 ha228 ⊢
  have hcairn : tt.cairn = { s.cairn with nv := [clearedRecord s l], clearSeq := none, clearOld := [] } := by rw [hsets.rest, hrest]
  refine ⟨by rw [hcairn], by rw [hcairn], by rw [hcairn]; rfl, ?_, getB_of_getF_toNat (b := false) (hsets.reads (CAIRN.CAIRN_STAT_CLEARING, 0) (by simp)),
    hsets.reads (CAIRN.CLR_CMD_RESULT, prDONE) (by simp), hsets.reads (CAIRN.CLR_CMD_CAUSE, 0) (by simp), hc227, ha227, hc228, ha228, by rw [hcairn], ?_,
    fun a ha hf => ?_⟩
  · rw [getN, getReg_of_sets hsets (by simp [condEnd, FCOL.COND, FCOL.ACT, CAIRN.WRITTEN_SEQ]), ← getN, clearedWritten_writtenSeq]
  · rw [hcairn, hsets.rest, hrest]
  · refine (getReg_of_sets hsets fun y hy hya => ?_).trans (hregs a ha)
    simp only [condEnd, List.cons_append, List.nil_append, List.mem_cons, List.not_mem_nil, or_false] at hy
    subst hya
    rcases hy with rfl | rfl | rfl | rfl | rfl | rfl | rfl
    exacts [ha rfl, ha rfl, ha rfl, hf rfl, hf rfl, hf rfl, hf rfl]

end Clear

/-- Settles O28: the flush and the time correction by their states, a clear by the first condition it fails, in the order of log entry 86. -/
theorem cairnCommands : Obligations.CairnCommands := by
  unfold Obligations.CairnCommands
  refine ⟨fun l s hp hnv hmpu hclear hl hrw => goes_cairnFlush hp hnv hmpu hclear hl hrw,
    fun s hp hnv hmpu hclear hempty => (exec_cairnFlush hp hnv hmpu hclear).trans (congrArg Host.Outcome.next (cairnFlush_of_empty hempty)),
    fun r s h hfull => ?_, fun r s v h hv hroom hstaged => ?_, fun r k w c s hw h hwhy => ?_, fun r w s hw h hmode hfree hack => ?_,
    fun l s hp hnv hmpu hl => goes_cairnClearComplete hp hnv hmpu hl⟩
  · refine goesSet_of_eq (exec_tcCmdGo h) (tcGo_refused ?_) (sets_refl.field CAIRN.TC_CMD_RESULT prREFUSED)
    rwa [stored_cairnN, stored_cairn]
  · have hlo : (Stored s r CAIRN.TC_CMD (2 ^ 31)).getN CAIRN.TC_LO = s.getN CAIRN.TC_LO := congrArg BitVec.toNat (stored_tcCmd_getReg (by decide) (by decide))
    have hhi : (Stored s r CAIRN.TC_CMD (2 ^ 31)).getN CAIRN.TC_HI = s.getN CAIRN.TC_HI := congrArg BitVec.toNat (stored_tcCmd_getReg (by decide) (by decide))
    have herr : (Stored s r CAIRN.TC_CMD (2 ^ 31)).getF CAIRN.TC_ERR_ERR = s.getF CAIRN.TC_ERR_ERR := by rw [getF, stored_tcCmd_getReg (by decide) (by decide), getF]
    refine (exec_tcCmdGo h).trans (congrArg Host.Outcome.next ?_)
    rw [tcGo_taken (by rw [stored_cairnN, stored_cairn]; omega), hlo, hhi, herr, ← hv]
  · subst hw
    obtain ⟨hcause, hne, hc⟩ : clearCause s k.toNat = c ∧ c ≠ 0 ∧ c < 16 := by
      rcases hwhy with ⟨hmode, rfl⟩ | ⟨hmode, hkey, rfl⟩ | ⟨hmode, rfl, hruns, rfl⟩ | ⟨hmode, rfl, hfree, hack, rfl⟩
      · simp [clearCause, hmode]
      · have hne : k.toNat ≠ 0xA7 := fun hk => hkey (BitVec.eq_of_toNat_eq hk)
        simp [clearCause, hmode, hne]
      · simp [clearCause, hmode, hruns]
      · simp [clearCause, hmode, hfree, hack]
    have hword : 2 ^ 31 + k.toNat * 2 ^ 8 = commandWord 0 (k.toNat * 2 ^ 8) := by simp only [commandWord]; omega
    rw [hword] at h ⊢
    refine goesSet_of_eq (exec_cairnClear h) ?_ (sets_clrResult (by decide) hc)
    rw [cairnClear_eq, stored_clearCause, hcause, if_neg hne]
  · subst hw
    have hcause : clearCause s 0xA7 = 0 := by simp [clearCause, hmode, hfree, hack]
    have hlast : (Stored s r CAIRN.CLR_CMD (commandWord 0 (0xA7 * 2 ^ 8))).getN CAIRN.LAST_SEQ = s.getN CAIRN.LAST_SEQ :=
      stored_clrCmd_getN (by decide) (by decide)
    have hclears : (Stored s r CAIRN.CLR_CMD (commandWord 0 (0xA7 * 2 ^ 8))).getN CAIRN.CLEARS = s.getN CAIRN.CLEARS :=
      stored_clrCmd_getN (by decide) (by decide)
    have hmem : (Stored s r CAIRN.CLR_CMD (commandWord 0 (0xA7 * 2 ^ 8))).mem = s.mem := by rw [stored_rest]
    have hshown := clearBegun_shown (s := Stored s r CAIRN.CLR_CMD (commandWord 0 (0xA7 * 2 ^ 8)))
    rw [hlast, hclears, hmem, stored_cairn] at hshown
    have hgo := exec_cairnClear (s := s) (r := r) (k := 0xA7) h
    rw [show (0xA7 : Byte).toNat = 0xA7 from rfl, cairnClear_eq, if_pos (stored_clearCause.trans hcause)] at hgo
    exact ⟨_, hgo, hshown⟩

end Sys2Proof.Proofs
end

section
/-! SUPPORT. A statement that a state refutes: INJ_CANCEL where INJ reads with GO set (R436). -/

namespace Sys2Proof.Proofs

open Machine Machine.State Laws

-- One proof after the other: side by side they take more threads than the check's memory has stacks for.
set_option Elab.async false

/-- SERVICE with an injection that runs, and a word of INJ whose GO reads 1. -/
def goStands : State :=
  ((State.reset.setF DEV.MODE_STAT_MODE mSERVICE).setF FCOL.INJ_STAT_BUSY 1).setF FCOL.INJ_GO 1

/-- The word that INJ_CANCEL writes there: GO above the fields as they stand, which is no word of 32 bits. -/
theorem goStands_word : 2 ^ 31 + goStands.getN FCOL.INJ / 2 ^ 8 * 2 ^ 8 = 2 ^ 32 := by decide +kernel

theorem goStands_accepts : Accepts goStands .firmware FCOL.INJ (2 ^ 32) := by decide +kernel

/-- Its low 32 bits carry no GO, so the injection goes on. -/
theorem goStands_cancelled :
    (goStands.hostWrite .firmware FCOL.INJ (BitVec.ofNat 32 (goWord + keep goStands FCOL.INJ / 2 ^ 8 * 2 ^ 8))).getF FCOL.INJ_STAT_BUSY = 1 := by
  decide +kernel

/-- Refutes O23: in its clause on INJ_CANCEL nothing keeps GO of INJ from reading 1. The word written is then 2^32 (`goStands_word`), its GO is lost, and the
injection that was to end goes on. -/
theorem not_collectorCommands : ¬ Obligations.CollectorCommands := by
  unfold Obligations.CollectorCommands
  rintro ⟨-, -, -, -, -, -, -, -, -, -, hcancel, -⟩
  obtain ⟨t, ht, hsets⟩ := hcancel .firmware (2 ^ 32) goStands goStands_word.symm goStands_accepts (by decide +kernel)
  obtain rfl : goStands.hostWrite .firmware FCOL.INJ (BitVec.ofNat 32 (goWord + keep goStands FCOL.INJ / 2 ^ 8 * 2 ^ 8)) = t := Host.Outcome.next.inj ht
  have hended := hsets.reads (FCOL.INJ_STAT_BUSY, 0) (by simp)
  rw [goStands_cancelled] at hended
  exact absurd hended (by decide)

end Sys2Proof.Proofs
end

section
/-! SUPPORT. Sequencer slots (chapter 13): the measured voltages, the timers, power good, faults and retries. -/

namespace Sys2Proof.Proofs

open Machine Machine.State Laws

-- One proof after the other: side by side they take more threads than the check's memory has stacks for.
set_option Elab.async false

variable {s t u : State}

/-! ### The measured voltages (R397) -/

section Measure

variable {x : SeqSample}

/-- The 32 slot voltages shown. -/
def measured (s : State) (x : SeqSample) : State := forAll 32 (fun s i => s.setReg (SEQSLOT.V i) (s.monVoltage i (x.mon.getD i 0).toNat)) s

/-- The registers of the slot voltages. -/
abbrev VoltageReg (a : Nat) : Prop := ∃ i < 32, a = SEQSLOT.V i

theorem monVoltage_of_kept (h : RegsKept VoltageReg s t) {i : Nat} (hi : i < 32) (code : Nat) : t.monVoltage i code = s.monVoltage i code := by
  have hgain : t.getReg (SEQSLOT.SL_GAIN i) = s.getReg (SEQSLOT.SL_GAIN i) :=
    h _ (by rintro ⟨j, hj, h⟩; simp only [SEQSLOT.SL_GAIN, SEQSLOT.V] at h; omega)
  have hrail : t.getReg (RAIL.V_OUT (i - 16)) = s.getReg (RAIL.V_OUT (i - 16)) :=
    h _ (by rintro ⟨j, hj, h⟩; simp only [RAIL.V_OUT, SEQSLOT.V] at h; omega)
  have hefuse : t.getReg (EFUSE.V_OUT (i - 24)) = s.getReg (EFUSE.V_OUT (i - 24)) :=
    h _ (by rintro ⟨j, hj, h⟩; simp only [EFUSE.V_OUT, SEQSLOT.V] at h; omega)
  rw [monVoltage, hgain, hrail, hefuse, monVoltage]

theorem measured_steps (n : Nat) (hn : n ≤ 32) : let t := forAll n (fun s i => s.setReg (SEQSLOT.V i) (s.monVoltage i (x.mon.getD i 0).toNat)) s
    RegsKept VoltageReg s t ∧ t = { s with regs := t.regs } ∧ ∀ i < n, t.getReg (SEQSLOT.V i) = s.monVoltage i (x.mon.getD i 0).toNat := by
  induction n with
  | zero => exact ⟨regsKept_refl, rfl, fun i hi => absurd hi (Nat.not_lt_zero i)⟩
  | succ n ih =>
    obtain ⟨hregs, hrest, hvolts⟩ := ih (by omega)
    simp only [forAll_succ]
    refine ⟨regsKept_setReg hregs ⟨n, by omega, rfl⟩ _, ?_, fun i hi => ?_⟩
    · rw [hrest]
      rfl
    · rcases Nat.lt_succ_iff_lt_or_eq.1 hi with hlt | rfl
      · rw [getReg_setReg_ne _ (by simp only [SEQSLOT.V]; omega), hvolts i hlt]
      · rw [getReg_setReg_self, monVoltage_of_kept hregs (by omega)]

theorem measured_kept : RegsKept VoltageReg s (measured s x) := (measured_steps 32 le_rfl).1

theorem measured_rest : measured s x = { s with regs := (measured s x).regs } := (measured_steps 32 le_rfl).2.1

theorem measured_voltage (i : Fin 32) : (measured s x).getReg (SEQSLOT.V i) = s.monVoltage i (x.mon.getD i 0).toNat :=
  (measured_steps 32 le_rfl).2.2 i i.isLt

theorem measured_slotEn (i : Fin 32) : (measured s x).slotEn i = s.slotEn i := by
  have hcfg := getF_of_regsKept (measured_kept (s := s) (x := x)) (f := SEQSLOT.SL_CFG_EN i)
    (by rintro ⟨j, hj, h⟩; simp only [SEQSLOT.SL_CFG, SEQSLOT.V] at h; omega)
  rw [slotEn, getB, hcfg, slotEn, getB]

theorem measured_grpSt (g : Fin 4) : (measured s x).grpSt g = s.grpSt g :=
  getF_of_regsKept (measured_kept (s := s) (x := x)) (f := SEQGRP.GRP_STAT_STATE g)
    (by rintro ⟨j, hj, h⟩; simp only [SEQGRP.GRP_STAT, SEQSLOT.V] at h; omega)

end Measure

/-! ### One evaluation (R397 to R401) -/

section Evaluation

variable {x : SeqSample}

theorem exec_seqEvaluation (hop : s.operating) (hseq : s.pgRunning pSEQ) (hslot : s.pgRunning pSEQSLOT) :
    exec (.seqEvaluation x) s = .next (measured s x).seqEval := if_pos (by simp [hop, hseq, hslot])

/-- The counters of the timers after one evaluation. -/
def restCounts (s : State) : List Nat :=
  (List.range 4).map (fun g => if s.grpSt g = grREST then s.seq.restTicks.getD g 0 + 1 else s.seq.restTicks.getD g 0)

def timersCounted (s : State) : State :=
  { s with seq := { s.seq with
    slots := (List.range 32).map s.slotCounts, restTicks := restCounts s, rstTicks := s.seq.rstTicks + 1, rackTicks := s.seq.rackTicks + 1 } }

theorem timersCounted_getReg (a : Nat) : (timersCounted s).getReg a = s.getReg a := rfl

theorem timersCounted_restTicks : (timersCounted s).seq.restTicks = restCounts s := rfl

theorem timersCounted_rest (h : u = { s with regs := u.regs }) : timersCounted u = { s with
    regs := (timersCounted u).regs
    seq := { s.seq with
      slots := (List.range 32).map u.slotCounts, restTicks := (timersCounted u).seq.restTicks, rstTicks := s.seq.rstTicks + 1,
      rackTicks := s.seq.rackTicks + 1 } } := by
  obtain ⟨r, rfl⟩ : ∃ r, u = { s with regs := r } := ⟨_, h⟩
  rfl

theorem slotFaults_nil : s.slotFaults [] = s := by simp [slotFaults]

/-- No slot enabled, no fault. -/
theorem seqEval_of_none (h : ∀ i : Fin 32, s.slotEn i = false) : s.seqEval = timersCounted s := by
  have hnone : ((List.range 32).filterMap fun i => (s.slotReason i).map fun r => (i, r)) = [] := by
    rw [List.filterMap_eq_nil_iff]
    intro i hi
    have hreason : s.slotReason i = none := by simp [slotReason, h ⟨i, List.mem_range.1 hi⟩]
    rw [hreason, Option.map_none]
  simp only [seqEval, hnone, slotFaults_nil]
  rfl

theorem restCounts_getD (g : Fin 4) : (restCounts s).getD g 0 = if s.grpSt g = grREST then s.seq.restTicks.getD g 0 + 1 else s.seq.restTicks.getD g 0 := by
  simp [restCounts, List.getD_eq_getElem?_getD, g.isLt]

theorem goes_seqEvaluation_none (hop : s.operating) (hseq : s.pgRunning pSEQ) (hslot : s.pgRunning pSEQSLOT) (hoff : ∀ i : Fin 32, s.slotEn i = false) :
    Goes (.seqEvaluation x) s (fun t => t = { s with regs := t.regs, seq := { s.seq with
        slots := (List.range 32).map (measured s x).slotCounts, restTicks := t.seq.restTicks, rstTicks := s.seq.rstTicks + 1,
        rackTicks := s.seq.rackTicks + 1 } } ∧
      (∀ g : Fin 4, t.seq.restTicks.getD g 0 = if s.grpSt g = grREST then s.seq.restTicks.getD g 0 + 1 else s.seq.restTicks.getD g 0) ∧
      (∀ i : Fin 32, t.getReg (SEQSLOT.V i) = s.monVoltage i (x.mon.getD i 0).toNat) ∧
      ∀ a, (∀ i : Fin 32, a ≠ SEQSLOT.V i) → t.getReg a = s.getReg a) := by
  have hgo := exec_seqEvaluation (x := x) hop hseq hslot
  rw [seqEval_of_none fun i => (measured_slotEn i).trans (hoff i)] at hgo
  have hseq : (measured s x).seq = s.seq := by rw [measured_rest]
  refine ⟨_, hgo, timersCounted_rest measured_rest, fun g => ?_, fun i => ?_, fun a ha => ?_⟩
  · rw [timersCounted_restTicks, restCounts_getD, measured_grpSt, hseq]
  · rw [timersCounted_getReg, measured_voltage]
  · rw [timersCounted_getReg, measured_kept a fun ⟨i, hi, h⟩ => ha ⟨i, hi⟩ h]

end Evaluation

/-! ### A slot's outputs and states (R399, R404, R407) -/

section Slots

variable {i : Fin 32}

/-- A slot joins the order of its group's ascent, and its counters rest (R404, R405). -/
abbrev joinsOrder (s : State) (i : Nat) : State :=
  { s with seq := { s.seq with
    order := s.seq.order.modify (s.slotGrp i) (fun l => l.filter (· ≠ i) ++ [i]), slots := s.seq.slots.modify i (fun _ => SeqSlotSt.rest) } }

theorem sets_enableSlot (i : Nat) : Sets (joinsOrder s i) (s.enableSlot i) [(SEQSLOT.SL_STAT_EN_OUT i, 1), (SEQSLOT.SL_STAT_STATE i, slENABLED)] :=
  (sets_refl.indexed (SEQSLOT.SL_STAT_EN_OUT i) 1).indexed (SEQSLOT.SL_STAT_STATE i) slENABLED

theorem sets_withdraw (i : Nat) : Sets (s.updSlot i (fun _ => SeqSlotSt.rest)) (s.withdraw i)
    [(SEQSLOT.SL_STAT_EN_OUT i, 0), (SEQSLOT.SL_STAT_PG i, 0), (SEQSLOT.SL_STAT_STATE i, slDISCHARGE)] :=
  ((sets_refl.indexed (SEQSLOT.SL_STAT_EN_OUT i) 0).indexed (SEQSLOT.SL_STAT_PG i) 0).indexed (SEQSLOT.SL_STAT_STATE i) slDISCHARGE

/-- Under VIN_WARN a slot of an ascending group waits (Table 13-6). -/
theorem enableNow_waits {i : Nat} (hwarn : s.vinWarn) (hgrp : s.grpSt (s.slotGrp i) = grASCENDING) : s.enableNow i =
    (s.updSlot i (fun _ => { SeqSlotSt.rest with onDlyHeld := true })).setF (SEQSLOT.SL_STAT_STATE i) slON_WAIT := if_pos ⟨hwarn, hgrp⟩

theorem enableNow_enables {i : Nat} (h : s.vinWarn = false ∨ s.grpSt (s.slotGrp i) ≠ grASCENDING) : s.enableNow i = s.enableSlot i :=
  if_neg fun ⟨hwarn, hgrp⟩ => h.elim (fun h => Bool.false_ne_true (h.symm.trans hwarn)) (absurd hgrp)

theorem exec_onDlyExpiry (hlive : s.grpLive (s.slotGrp i)) (hst : s.slotSt i = slON_WAIT) (hgrp : s.grpSt (s.slotGrp i) = grASCENDING)
    (hticks : 10 * s.getF (SEQSLOT.SL_TIME0_ON_DLY i) ≤ (s.seqSlot i).ticks) : exec (.onDlyExpiry i) s = .next (s.enableNow i) :=
  if_pos ⟨hlive, hst, hgrp, hticks⟩

theorem exec_offDlyExpiry (hst : s.slotSt i = slOFF_WAIT) (hticks : 10 * s.getF (SEQSLOT.SL_TIME0_OFF_DLY i) ≤ (s.seqSlot i).ticks) :
    exec (.offDlyExpiry i) s = .next (s.withdraw i) := if_pos ⟨hst, hticks⟩

theorem exec_slotRetryEnable (hst : s.slotSt i = slRETRY_WAIT) (hoff : (s.seqSlot i).offSeen)
    (hticks : 100 * s.getF (SEQGRP.GRP_CFG_T_REST (s.slotGrp i)) ≤ (s.seqSlot i).offTicks) : exec (.slotRetryEnable i) s = .next (s.enableNow i) :=
  if_pos ⟨hst, hoff, hticks⟩

/-- The slot is power good before its group goes on (R398). -/
def powerGood (s : State) (i : Nat) : State :=
  (s.updSlot i (fun c => { c with pgTmoDeferred := false, ticks := 0 })).setF (SEQSLOT.SL_STAT_STATE i) slPG

theorem exec_slotPowerGood (hst : s.slotSt i = slENABLED) (hticks : s.getF (SEQSLOT.SL_CFG_FLT i) ≤ (s.seqSlot i).okTicks) :
    exec (.slotPowerGood i) s = .next (((powerGood s i).ascAdvance (s.slotGrp i)).setF (SEQSLOT.SL_STAT_PG i) 1) := if_pos ⟨hst, hticks⟩

theorem ascAdvance_of_not_ascending {g : Nat} (h : s.grpSt g ≠ grASCENDING) : s.ascAdvance g = s := if_pos h

/-- A group's state stands apart from the slots' status. -/
theorem grpSt_setF_slot {f : Fld} {i g : Nat} (hf : f.addr = SEQSLOT.SL_STAT i) (v : Nat) : (s.setF f v).grpSt g = s.grpSt g :=
  getF_setF_addr (by rw [hf]; simp only [SEQGRP.GRP_STAT, SEQSLOT.SL_STAT]; omega) v

theorem goesSet_slotPowerGood (hst : s.slotSt i = slENABLED) (hticks : s.getF (SEQSLOT.SL_CFG_FLT i) ≤ (s.seqSlot i).okTicks)
    (hgrp : s.grpSt (s.slotGrp i) ≠ grASCENDING) : GoesSet (.slotPowerGood i) s
      (s.updSlot i (fun c => { c with pgTmoDeferred := false, ticks := 0 })) [(SEQSLOT.SL_STAT_STATE i, slPG), (SEQSLOT.SL_STAT_PG i, 1)] := by
  have hkept : (powerGood s i).grpSt (s.slotGrp i) ≠ grASCENDING := (grpSt_setF_slot rfl slPG).trans_ne hgrp
  refine goesSet_of_eq (exec_slotPowerGood hst hticks) (by rw [ascAdvance_of_not_ascending hkept, powerGood])
    ((sets_refl.indexed (SEQSLOT.SL_STAT_STATE i) slPG).indexed (SEQSLOT.SL_STAT_PG i) 1)

end Slots

/-! ### Power-good timeouts and slots that go off (R399 to R401, R407) -/

section Timers

variable {i : Fin 32}

/-- PG_TMO has run out, once per enabling (R400). -/
structure TmoOver (s : State) (i : Fin 32) : Prop where
  en : s.slotEn i
  enabled : s.slotSt i = slENABLED
  fresh : (s.seqSlot i).pgTmoDeferred = false
  ticks : 100 * s.getF (SEQSLOT.SL_TIME1_PG_TMO i) ≤ (s.seqSlot i).ticks

/-- The slot's PG_TMO is told. -/
abbrev tmoTold (s : State) (i : Nat) : State := s.updSlot i (fun c => { c with pgTmoDeferred := true })

theorem exec_pgTmoExpiry (h : TmoOver s i) : exec (.pgTmoExpiry i) s =
    if s.supplyRetrying i then .next (tmoTold s i) else .next ((tmoTold s i).slotFaults [(i.val, 1)]) :=
  if_pos ⟨h.en, h.enabled, h.fresh, h.ticks⟩

theorem goesSet_pgTmoExpiry_deferred (h : TmoOver s i) (hretry : s.supplyRetrying i) : GoesSet (.pgTmoExpiry i) s (tmoTold s i) [] :=
  goesSet_of_eq ((exec_pgTmoExpiry h).trans (if_pos hretry)) rfl sets_refl

theorem exec_pgTmoExpiry_faults (h : TmoOver s i) (hretry : s.supplyRetrying i = false) :
    exec (.pgTmoExpiry i) s = .next ((tmoTold s i).slotFaults [(i.val, 1)]) :=
  (exec_pgTmoExpiry h).trans (if_neg (by simp [hretry]))

/-- A single fault is in the list of its severity and in no other. -/
theorem bySeverity_single {f : Nat × Nat} (h : s.slotSev f.1 ≤ 5) :
    [5, 4, 3, 2, 1, 0].flatMap (fun v => [f].filter (fun f => s.slotSev f.1 == v)) = [f] := by
  interval_cases hsev : s.slotSev f.1 <;> simp [hsev]

/-- A fault of a group that does not descend, with no reaction: it is only told (Table 13-4). -/
theorem slotFaults_tells {j reason : Nat} (hgrp : s.grpSt (s.slotGrp j) ≠ grDESCENDING) (hreact : s.getF (SEQSLOT.SL_CFG_REACT j) = 0) :
    s.slotFaults [(j, reason)] = s.tellFault j reason := by
  have hsev : s.slotSev (j, reason).1 ≤ 5 := min_le_left 5 _
  have hnone : s.reaction j = 0 := by simp [reaction, hreact]
  simp [slotFaults, bySeverity_single hsev, hgrp, hnone]

theorem goesRaise_pgTmoExpiry (h : TmoOver s i) (hretry : s.supplyRetrying i = false) (hgrp : s.grpSt (s.slotGrp i) ≠ grDESCENDING)
    (hreact : s.getF (SEQSLOT.SL_CFG_REACT i) = 0) :
    GoesRaise (.pgTmoExpiry i) s (tmoTold s i) [(SEQSLOT.SL_STAT_LAST_REASON i, 1)] (152 + i) (s.seqData i 1) := by
  have htold : (tmoTold s i).slotFaults [(i.val, 1)] = (tmoTold s i).tellFault i 1 := slotFaults_tells hgrp hreact
  have hsets : Sets (tmoTold s i) ((tmoTold s i).setF (SEQSLOT.SL_STAT_LAST_REASON i) 1) [(SEQSLOT.SL_STAT_LAST_REASON i, 1)] :=
    sets_refl.indexed (SEQSLOT.SL_STAT_LAST_REASON i) 1
  exact goesRaise_of_eq ((exec_pgTmoExpiry_faults h hretry).trans (congrArg _ htold)) hsets

theorem exec_slotOff_discharged (hst : s.slotSt i = slDISCHARGE) (hlow : F32.lt (s.getReg (SEQSLOT.V i)) (s.getReg (SEQSLOT.SL_OFF i))) :
    exec (.slotOff i) s = .next ((s.setF (SEQSLOT.SL_STAT_STATE i) slOFF).descAdvance (s.slotGrp i)) :=
  (if_pos hlow : execSlotOff i s = _).trans (if_pos hst)

theorem exec_slotOff_retrying (hst : s.slotSt i = slRETRY_WAIT) (hlow : F32.lt (s.getReg (SEQSLOT.V i)) (s.getReg (SEQSLOT.SL_OFF i))) :
    exec (.slotOff i) s = .next (s.updSlot i (fun c => { c with offSeen := true })) :=
  (if_pos hlow : execSlotOff i s = _).trans ((if_neg (by rw [hst]; decide)).trans (if_pos hst))

theorem exec_tDisMaxExpiry_discharging (hst : s.slotSt i = slDISCHARGE) (hticks : 100 * s.getF (SEQSLOT.SL_TIME1_T_DIS_MAX i) ≤ (s.seqSlot i).ticks) :
    exec (.tDisMaxExpiry i) s =
      .next (((s.raise 186 [i, 3, 0]).setF (SEQSLOT.SL_STAT_STATE i) slOFF).descAdvance ((s.raise 186 [i, 3, 0]).slotGrp i)) :=
  (if_neg (Nat.not_lt.2 hticks) : execTDisMaxExpiry i s = _).trans (if_pos hst)

theorem exec_tDisMaxExpiry_retrying (hst : s.slotSt i = slRETRY_WAIT) (hseen : (s.seqSlot i).offSeen = false)
    (hticks : 100 * s.getF (SEQSLOT.SL_TIME1_T_DIS_MAX i) ≤ (s.seqSlot i).ticks) :
    exec (.tDisMaxExpiry i) s = .next ((s.raise 186 [i, 3, 0]).updSlot i (fun c => { c with offSeen := true })) :=
  (if_neg (Nat.not_lt.2 hticks) : execTDisMaxExpiry i s = _).trans ((if_neg (by rw [hst]; decide)).trans (if_pos ⟨hst, hseen⟩))

end Timers

/-- Settles O21: each command by what it waits for; with no slot enabled an evaluation finds no fault, and a fault without reaction is only told.
Asserted with it are the model's choices of log entry 94 (the timers count evaluations), entry 134 (a deferred PG_TMO stays deferred)
and entry 137 (the T_REST of RETRY runs from off). -/
theorem sequencerSlots : Obligations.SequencerSlots := by
  unfold Obligations.SequencerSlots
  refine ⟨fun x s => exec_seqEvaluation, fun x s => goes_seqEvaluation_none, fun i s hlive hst hgrp hticks hwarn => ?on,
    fun i s hlive hst hgrp hticks hwarn => ?waits, fun i s hst hticks => ?off, fun i s => exec_slotPowerGood, fun i s => goesSet_slotPowerGood,
    fun i s hen hst hnew hticks => goesSet_pgTmoExpiry_deferred ⟨hen, hst, hnew, hticks⟩,
    fun i s hen hst hnew hticks => exec_pgTmoExpiry_faults ⟨hen, hst, hnew, hticks⟩,
    fun i s hen hst hnew hticks => goesRaise_pgTmoExpiry ⟨hen, hst, hnew, hticks⟩, fun i s => exec_slotOff_discharged,
    fun i s hst hlow => ?seen, fun i s => exec_tDisMaxExpiry_discharging, fun i s => exec_tDisMaxExpiry_retrying,
    fun i s hst hticks => ?cleared, fun i s hst hoff hticks hfree => ?again⟩
  case on => exact goesSet_of_eq (exec_onDlyExpiry hlive hst hgrp hticks) (enableNow_enables (.inl hwarn)) (sets_enableSlot i)
  case waits =>
    exact goesSet_of_eq (exec_onDlyExpiry hlive hst hgrp hticks) (enableNow_waits hwarn hgrp) (sets_refl.indexed (SEQSLOT.SL_STAT_STATE i) slON_WAIT)
  case off => exact goesSet_of_eq (exec_offDlyExpiry hst hticks) rfl (sets_withdraw i)
  case seen => exact goesSet_of_eq (exec_slotOff_retrying hst hlow) rfl sets_refl
  case cleared => exact goesSet_of_eq (if_pos ⟨hst, hticks⟩) rfl (sets_refl.indexed (SEQSLOT.SL_STAT_RETRIES i) 0)
  case again => exact goesSet_of_eq (exec_slotRetryEnable hst hoff hticks) (enableNow_enables hfree) (sets_enableSlot i)

end Sys2Proof.Proofs
end

section
/-! SUPPORT. Sequencer groups (chapter 13): requests, ascents and descents, REST, RACKFLT_N and the supervised inputs. -/

namespace Sys2Proof.Proofs

open Machine Machine.State Laws

-- One proof after the other: side by side they take more threads than the check's memory has stacks for.
set_option Elab.async false

variable {s t u : State} {r : Requester}

/-! ### What a group's ascents and descents write -/

section Moves

/-- The registers of a group's status and of the slots' status. -/
abbrev GroupReg (g a : Nat) : Prop := a = SEQGRP.GRP_STAT g ∨ a = SEQGRP.GRP_CNT g ∨ 0x65040 ≤ a

/-- Nothing changes beside the registers of group `g` and of the slots, and the sequencer's own state. -/
structure GroupMoves (g : Nat) (s t : State) : Prop where
  regs : RegsKept (GroupReg g) s t
  rest : t = { s with regs := t.regs, seq := t.seq }

theorem groupReg_slot (g i : Nat) : GroupReg g (SEQSLOT.SL_STAT i) := .inr (.inr (by simp only [SEQSLOT.SL_STAT]; omega))

namespace GroupMoves

variable {g : Nat}

theorem refl : GroupMoves g s s := ⟨regsKept_refl, rfl⟩

theorem withSeq (h : GroupMoves g s t) (x : SeqSt) : GroupMoves g s { t with seq := x } := ⟨h.regs, congrArg (fun u : State => { u with seq := x }) h.rest⟩

theorem setF (h : GroupMoves g s t) {f : Fld} (hf : GroupReg g f.addr) (v : Nat) : GroupMoves g s (t.setF f v) :=
  ⟨regsKept_setF h.regs hf v, congrArg (State.setF · f v) h.rest⟩

theorem setStat (h : GroupMoves g s t) {f : Fld} (hf : f.addr = SEQGRP.GRP_STAT g) (v : Nat) : GroupMoves g s (t.setF f v) := h.setF (.inl hf) v

theorem setSlot (h : GroupMoves g s t) {f : Fld} {i : Nat} (hf : f.addr = SEQSLOT.SL_STAT i) (v : Nat) : GroupMoves g s (t.setF f v) :=
  h.setF (hf ▸ groupReg_slot g i) v

theorem ite {c : Prop} [Decidable c] {t' : State} (h : GroupMoves g s t) (h' : GroupMoves g s t') : GroupMoves g s (if c then t else t') := by
  split <;> assumption

theorem withdraw (h : GroupMoves g s t) (i : Nat) : GroupMoves g s (t.withdraw i) :=
  (((h.withSeq _).setSlot (f := SEQSLOT.SL_STAT_EN_OUT i) rfl _).setSlot (f := SEQSLOT.SL_STAT_PG i) rfl _).setSlot (f := SEQSLOT.SL_STAT_STATE i) rfl _

theorem startOffDly (h : GroupMoves g s t) (i : Nat) : GroupMoves g s (t.startOffDly i) := by
  have hstate {u : State} (hu : GroupMoves g s u) (v : Nat) := hu.setSlot (f := SEQSLOT.SL_STAT_STATE i) rfl v
  exact ite (hstate (h.withSeq _) _) (ite (hstate h _) (ite (hstate h _) h))

theorem descTurn (h : GroupMoves g s t) (p : Nat) : GroupMoves g s (t.descTurn g p) :=
  setStat (f := SEQGRP.GRP_STAT_POS g) (List.foldlRecOn (motive := GroupMoves g s) _ _ h fun _ hu i _ => hu.startOffDly i) rfl p

theorem descSteps (h : GroupMoves g s t) (n : Nat) : GroupMoves g s (descSteps n g t) := by
  induction n generalizing t with
  | zero => exact h
  | succ n ih =>
    rw [State.descSteps]
    refine ite h (ite ((h.setStat (f := SEQGRP.GRP_STAT_STATE g) rfl grREST).withSeq _) (ite ?_ (ite ?_ h)))
    · split
      case h_1 i _ => exact ite (ih (h.startOffDly i)) (h.startOffDly i)
      case h_2 => exact h
    · split
      case h_1 p _ => exact ih (h.descTurn p)
      case h_2 => exact h

theorem enterDescend (h : GroupMoves g s t) : GroupMoves g s (t.enterDescend g) := by
  have hstate {u : State} (hu : GroupMoves g s u) (v : Nat) := hu.setStat (f := SEQGRP.GRP_STAT_STATE g) rfl v
  have hslot {u : State} (hu : GroupMoves g s u) (i : Nat) : GroupMoves g s (if u.slotSt i = slON_WAIT then u.setF (SEQSLOT.SL_STAT_STATE i) slOFF
      else if u.slotSt i = slENABLED ∨ u.slotSt i = slRETRY_WAIT then u.withdraw i else u) :=
    ite (hu.setSlot (f := SEQSLOT.SL_STAT_STATE i) rfl _) (ite (hu.withdraw i) hu)
  unfold State.enterDescend
  dsimp only
  refine ite ((hstate (setStat (f := SEQGRP.GRP_STAT_BLOCKED g) ?_ rfl _) _).descSteps _) (ite ?_ h)
  · exact List.foldlRecOn (motive := GroupMoves g s) _ _ (h.withSeq _) fun _ hu i _ => hslot hu i
  · split
    case h_1 p _ => exact ((hstate (h.withSeq _) _).descTurn p).descSteps _
    case h_2 => exact (hstate (h.withSeq _) _).descSteps _

theorem downRequest (h : GroupMoves g s t) : GroupMoves g s (t.downRequest g) := by
  have hpend := h.setStat (f := SEQGRP.GRP_STAT_UP_PEND g) rfl 0
  exact ite hpend (ite ((hpend.setStat (f := SEQGRP.GRP_STAT_VIN_HELD g) rfl 0).setStat (f := SEQGRP.GRP_STAT_RACK_HELD g) rfl 0) h.enterDescend)

theorem startOnDly (h : GroupMoves g s t) (l : List Nat) : GroupMoves g s (t.startOnDly g l) :=
  List.foldlRecOn (motive := GroupMoves g s) _ _ h fun _ hu i _ =>
    ite (hu.setStat (f := SEQGRP.GRP_STAT_BLOCKED g) rfl 1) ((hu.withSeq _).setSlot (f := SEQSLOT.SL_STAT_STATE i) rfl _)

theorem enterAscend (h : GroupMoves g s t) : GroupMoves g s (t.enterAscend g) := by
  have hclear (x : SeqSt) := (((((h.withSeq x).setStat (f := SEQGRP.GRP_STAT_UP_PEND g) rfl 0).setStat (f := SEQGRP.GRP_STAT_VIN_HELD g) rfl 0).setStat
    (f := SEQGRP.GRP_STAT_RACK_HELD g) rfl 0).setStat (f := SEQGRP.GRP_STAT_BLOCKED g) rfl 0).setStat (f := SEQGRP.GRP_STAT_FAULTED g) rfl 0
  unfold State.enterAscend
  dsimp only
  split
  case h_1 => exact ((hclear _).setF (f := SEQGRP.GRP_CNT_ASCENTS g) (.inr (.inl rfl)) _).setStat (f := SEQGRP.GRP_STAT_STATE g) rfl _
  case h_2 p _ =>
    exact (((hclear _).startOnDly _).setStat (f := SEQGRP.GRP_STAT_POS g) rfl _).setStat (f := SEQGRP.GRP_STAT_STATE g) rfl _

theorem upRequest (h : GroupMoves g s t) : GroupMoves g s (t.upRequest g) := by
  have hclear := h.setStat (f := SEQGRP.GRP_STAT_FAULTED g) rfl 0
  have hpend {u : State} (hu : GroupMoves g s u) := hu.setStat (f := SEQGRP.GRP_STAT_UP_PEND g) rfl 1
  have hvin := hclear.setStat (f := SEQGRP.GRP_STAT_VIN_HELD g) rfl 1
  exact ite h (ite (hpend (ite hvin hclear)) (ite (hpend (hclear.setStat (f := SEQGRP.GRP_STAT_RACK_HELD g) rfl 1)) (ite (hpend hvin) hclear.enterAscend)))

theorem getF {f : Fld} (h : GroupMoves g s t) (hf : ¬ GroupReg g f.addr) : t.getF f = s.getF f := getF_of_regsKept h.regs hf

theorem pgRunning (h : GroupMoves g s t) {p : Nat} (hp : ¬ GroupReg g (pgStat p)) : t.pgRunning p = s.pgRunning p :=
  congrArg (fun x => decide (x = 2)) (h.getF (f := pgStatState p) hp)

end GroupMoves

end Moves

end Sys2Proof.Proofs

namespace Sys2Proof.Sets

open Machine Machine.State Laws Proofs

variable {s t : State} {l : List (Fld × Nat)}

theorem withBits_bitsOf_self {x : Word} {lo w : Nat} : withBits x lo w (bitsOf x lo w) = x := by
  refine BitVec.eq_of_getLsbD_eq fun i hi => ?_
  rw [getLsbD_withBits _ _ _ _ _ hi]
  split
  · simp only [bitsOf, BitVec.testBit_toNat, BitVec.getLsbD_extractLsb', show i - lo < w by omega, decide_true, Bool.true_and,
      show lo + (i - lo) = i by omega]
  · rfl

/-- A field set to the value that it has. -/
theorem same (h : Sets s t l) {f : Fld} {v : Nat} (hv : t.getF f = v) : Sets s (t.setF f v) l := by
  refine Proofs.Sets.of_getReg h (fun a => ?_) (congrArg (State.setF · f v) h.rest)
  rw [getReg_setF]
  split
  case isTrue ha => rw [ha, ← hv, getF, withBits_bitsOf_self]
  case isFalse => rfl

/-- A flag at the end of the list. -/
theorem flag (h : Sets s t l) (f : Fld) (b : Bool) (hw : 1 ≤ f.w := by exact Nat.le_of_ble_eq_true rfl)
    (hl : ∀ x ∈ l, x.1.lo + x.1.w ≤ 32 ∧ Apart x.1 f := by simp [Apart, oneMore]) (hf : f.lo + f.w ≤ 32 := by exact Nat.le_of_ble_eq_true rfl) :
    Sets s (t.setB f b) (l ++ [(f, b.toNat)]) :=
  h.field f b.toNat ((toNat_lt_two b).trans_le (Nat.pow_le_pow_right (show 0 < 2 by decide) hw)) hl hf

/-- RACK_EXT follows the line and this controller's pull. -/
theorem rackExt (h : Sets s t l) {low self : Bool} (hlow : t.getB SEQ.SEQ_STAT_RACK_LOW = low) (hself : t.getB SEQ.SEQ_STAT_RACK_SELF = self)
    (hl : ∀ x ∈ l, x.1.lo + x.1.w ≤ 32 ∧ Apart x.1 SEQ.SEQ_STAT_RACK_EXT := by simp [Apart]) :
    Sets s t.rackExt (l ++ [(SEQ.SEQ_STAT_RACK_EXT, (low && !self).toNat)]) := by
  rw [State.rackExt, hlow, hself]
  exact h.flag SEQ.SEQ_STAT_RACK_EXT _ (hl := hl)

end Sys2Proof.Sets

namespace Sys2Proof.Proofs

open Machine Machine.State Laws

variable {s t u : State} {r : Requester}

/-! ### Up and down requests (R403, R410, R412) -/

section Requests

variable {g : Fin 4} {w : Nat}

theorem vinWarn_setF_grp {f : Fld} {g : Nat} (hf : f.addr = SEQGRP.GRP_STAT g) (v : Nat) : (s.setF f v).vinWarn = s.vinWarn :=
  congrArg (fun x => decide (x = 1)) (getF_setF_addr (by rw [hf]; simp only [SEQGRP.GRP_STAT, CLKPWR.VIN_MV]; omega) v)

theorem rackHolds_setF_grp {f : Fld} {g : Nat} (hf : f.addr = SEQGRP.GRP_STAT g) (k v : Nat) : (s.setF f v).rackHolds k = s.rackHolds k := by
  have hact : (s.setF f v).getF (SEQGRP.GRP_CFG_RACK_ACT k) = s.getF (SEQGRP.GRP_CFG_RACK_ACT k) :=
    getF_setF_addr (by rw [hf]; simp only [SEQGRP.GRP_STAT, SEQGRP.GRP_CFG]; omega) v
  have hstat {b : Fld} (hb : b.addr = SEQ.SEQ_STAT) : (s.setF f v).getB b = s.getB b :=
    congrArg (fun x => decide (x = 1)) (getF_setF_addr (by rw [hf, hb]; simp only [SEQGRP.GRP_STAT, SEQ.SEQ_STAT]; omega) v)
  rw [rackHolds, hact, hstat rfl, hstat rfl, rackHolds]

theorem upRequest_of_up {g : Nat} (h : s.grpSt g = grASCENDING ∨ s.grpSt g = grON) : s.upRequest g = s := if_pos (.inr h)

/-- An up request of a group that is neither ascending nor on (Table 13-3). -/
theorem upRequest_eq {g : Nat} (hlive : s.grpLive g) (hasc : s.grpSt g ≠ grASCENDING) (hon : s.grpSt g ≠ grON) : s.upRequest g =
    if s.grpSt g = grDESCENDING ∨ s.grpSt g = grREST then
      (if s.grpSt g = grREST ∧ s.vinWarn then (s.setF (SEQGRP.GRP_STAT_FAULTED g) 0).setF (SEQGRP.GRP_STAT_VIN_HELD g) 1
        else s.setF (SEQGRP.GRP_STAT_FAULTED g) 0).setF (SEQGRP.GRP_STAT_UP_PEND g) 1
    else if s.rackHolds g then ((s.setF (SEQGRP.GRP_STAT_FAULTED g) 0).setF (SEQGRP.GRP_STAT_RACK_HELD g) 1).setF (SEQGRP.GRP_STAT_UP_PEND g) 1
    else if s.vinWarn then ((s.setF (SEQGRP.GRP_STAT_FAULTED g) 0).setF (SEQGRP.GRP_STAT_VIN_HELD g) 1).setF (SEQGRP.GRP_STAT_UP_PEND g) 1
    else (s.setF (SEQGRP.GRP_STAT_FAULTED g) 0).enterAscend g := by
  have hvin : (s.setF (SEQGRP.GRP_STAT_FAULTED g) 0).vinWarn = s.vinWarn := vinWarn_setF_grp rfl 0
  have hrack : (s.setF (SEQGRP.GRP_STAT_FAULTED g) 0).rackHolds g = s.rackHolds g := rackHolds_setF_grp rfl g 0
  simp only [upRequest, hlive, hasc, hon, Bool.not_true, Bool.false_eq_true, or_self, ↓reduceIte, hvin, hrack]

theorem upRequest_latched {g : Nat} (hlive : s.grpLive g) (hst : s.grpSt g = grDESCENDING ∨ (s.grpSt g = grREST ∧ s.vinWarn = false)) :
    s.upRequest g = (s.setF (SEQGRP.GRP_STAT_FAULTED g) 0).setF (SEQGRP.GRP_STAT_UP_PEND g) 1 := by
  rcases hst with hst | ⟨hst, hwarn⟩
  · rw [upRequest_eq hlive (by rw [hst]; decide) (by rw [hst]; decide), if_pos (.inl hst), if_neg (by rw [hst]; exact fun h => absurd h.1 (by decide))]
  · rw [upRequest_eq hlive (by rw [hst]; decide) (by rw [hst]; decide), if_pos (.inr hst), if_neg (by simp [hwarn])]

theorem upRequest_off {g : Nat} (hlive : s.grpLive g) (hst : s.grpSt g = grOFF) : s.upRequest g =
    if s.rackHolds g then ((s.setF (SEQGRP.GRP_STAT_FAULTED g) 0).setF (SEQGRP.GRP_STAT_RACK_HELD g) 1).setF (SEQGRP.GRP_STAT_UP_PEND g) 1
    else if s.vinWarn then ((s.setF (SEQGRP.GRP_STAT_FAULTED g) 0).setF (SEQGRP.GRP_STAT_VIN_HELD g) 1).setF (SEQGRP.GRP_STAT_UP_PEND g) 1
    else (s.setF (SEQGRP.GRP_STAT_FAULTED g) 0).enterAscend g := by
  rw [upRequest_eq hlive (by rw [hst]; decide) (by rw [hst]; decide), if_neg (by rw [hst]; decide)]

theorem downRequest_rest {g : Nat} (hst : s.grpSt g = grREST) : s.downRequest g = s.setF (SEQGRP.GRP_STAT_UP_PEND g) 0 := if_pos hst

theorem downRequest_off {g : Nat} (hst : s.grpSt g = grOFF) : s.downRequest g =
    ((s.setF (SEQGRP.GRP_STAT_UP_PEND g) 0).setF (SEQGRP.GRP_STAT_VIN_HELD g) 0).setF (SEQGRP.GRP_STAT_RACK_HELD g) 0 :=
  (if_neg (by rw [hst]; decide)).trans (if_pos hst)

theorem grpCmd_up {g : Nat} (hlive : s.grpLive g) : grpCmd g true false s = s.upRequest g := by
  simp only [grpCmd, hlive, Bool.not_true, Bool.false_eq_true, ↓reduceIte]

theorem grpCmd_down {g : Nat} (hlive : s.grpLive g) : grpCmd g false true s = s.downRequest g := by
  simp only [grpCmd, hlive, Bool.not_true, Bool.false_eq_true, false_and, ↓reduceIte]

/-! #### What GRP_CMD's write leaves as it was: every register but its own and the page's change counter -/

theorem homeOf_grpCmd : s.homeOf (SEQGRP.GRP_CMD g / 0x1000) (SEQGRP.GRP_CMD g % 0x1000) = SEQGRP.GRP_CMD g :=
  homeOf_plain (by simp only [SEQGRP.GRP_CMD, pESTPROF]; omega) (.inl (by simp only [SEQGRP.GRP_CMD, pPMBUS]; omega))

theorem stored_grpCmd_getF {f : Fld} (hf : f.addr ≠ SEQGRP.GRP_CMD g) (hc : f.addr ≠ pgChg (SEQGRP.GRP_CMD g / 0x1000)) :
    (Stored s r (SEQGRP.GRP_CMD g) w).getF f = s.getF f := stored_getF homeOf_grpCmd hf hc

theorem stored_grpCmd_grpLive : (Stored s r (SEQGRP.GRP_CMD g) w).grpLive g = s.grpLive g := by
  simp only [grpLive, stored_pgRunning (a := SEQGRP.GRP_CMD g) homeOf_grpCmd (by simp only [SEQGRP.GRP_CMD]; omega)]

theorem stored_grpCmd_grpSt : (Stored s r (SEQGRP.GRP_CMD g) w).grpSt g = s.grpSt g :=
  stored_grpCmd_getF (by simp only [SEQGRP.GRP_CMD, SEQGRP.GRP_STAT]; omega) (by simp only [SEQGRP.GRP_CMD, SEQGRP.GRP_STAT, pgChg]; omega)

theorem stored_grpCmd_vinWarn : (Stored s r (SEQGRP.GRP_CMD g) w).vinWarn = s.vinWarn :=
  congrArg (fun x => decide (x = 1)) (stored_grpCmd_getF (by simp only [SEQGRP.GRP_CMD, CLKPWR.VIN_MV]; omega)
    (by simp only [SEQGRP.GRP_CMD, CLKPWR.VIN_MV, pgChg]; omega))

theorem stored_grpCmd_rackHolds : (Stored s r (SEQGRP.GRP_CMD g) w).rackHolds g = s.rackHolds g := by
  have hact : (Stored s r (SEQGRP.GRP_CMD g) w).getF (SEQGRP.GRP_CFG_RACK_ACT g) = s.getF (SEQGRP.GRP_CFG_RACK_ACT g) :=
    stored_grpCmd_getF (by simp only [SEQGRP.GRP_CMD, SEQGRP.GRP_CFG]; omega) (by simp only [SEQGRP.GRP_CMD, SEQGRP.GRP_CFG, pgChg]; omega)
  have hstat {b : Fld} (hb : b.addr = SEQ.SEQ_STAT) : (Stored s r (SEQGRP.GRP_CMD g) w).getB b = s.getB b :=
    congrArg (fun x => decide (x = 1)) (stored_grpCmd_getF (by rw [hb]; simp only [SEQGRP.GRP_CMD, SEQ.SEQ_STAT]; omega)
      (by rw [hb]; simp only [SEQGRP.GRP_CMD, SEQ.SEQ_STAT, pgChg]; omega))
  rw [rackHolds, hact, hstat rfl, hstat rfl, rackHolds]

theorem exec_grpCmdUp (h : Accepts s r (SEQGRP.GRP_CMD g) 1) (hlive : s.grpLive g) :
    exec (.grpCmdUp r g) s = .next ((Stored s r (SEQGRP.GRP_CMD g) 1).upRequest g) :=
  congrArg Host.Outcome.next ((hostWrite_accepted h (regAt_grpCmd g)).trans
    ((if_pos rfl).trans (grpCmd_up (stored_grpCmd_grpLive.trans hlive))))

theorem exec_grpCmdDown (h : Accepts s r (SEQGRP.GRP_CMD g) 2) (hlive : s.grpLive g) :
    exec (.grpCmdDown r g) s = .next ((Stored s r (SEQGRP.GRP_CMD g) 2).downRequest g) :=
  congrArg Host.Outcome.next ((hostWrite_accepted h (regAt_grpCmd g)).trans
    ((if_pos rfl).trans (grpCmd_down (stored_grpCmd_grpLive.trans hlive))))

section Accepted

variable (hlive : s.grpLive g)

include hlive

theorem goesSet_grpCmdUp_up (h : Accepts s r (SEQGRP.GRP_CMD g) 1) (hst : s.grpSt g = grASCENDING ∨ s.grpSt g = grON) :
    GoesSet (.grpCmdUp r g) s (Stored s r (SEQGRP.GRP_CMD g) 1) [] :=
  goesSet_of_eq (exec_grpCmdUp h hlive) (upRequest_of_up (by rwa [stored_grpCmd_grpSt])) sets_refl

theorem goesSet_grpCmdUp_latched (h : Accepts s r (SEQGRP.GRP_CMD g) 1)
    (hst : s.grpSt g = grDESCENDING ∨ (s.grpSt g = grREST ∧ s.vinWarn = false)) : GoesSet (.grpCmdUp r g) s (Stored s r (SEQGRP.GRP_CMD g) 1)
      [(SEQGRP.GRP_STAT_FAULTED g, 0), (SEQGRP.GRP_STAT_UP_PEND g, 1)] :=
  goesSet_of_eq (exec_grpCmdUp h hlive)
    (upRequest_latched (stored_grpCmd_grpLive.trans hlive) (by rwa [stored_grpCmd_grpSt, stored_grpCmd_vinWarn]))
    ((sets_refl.indexed (SEQGRP.GRP_STAT_FAULTED g) 0).indexed (SEQGRP.GRP_STAT_UP_PEND g) 1)

theorem goesSet_grpCmdUp_rackHeld (h : Accepts s r (SEQGRP.GRP_CMD g) 1) (hst : s.grpSt g = grOFF) (hrack : s.rackHolds g) :
    GoesSet (.grpCmdUp r g) s (Stored s r (SEQGRP.GRP_CMD g) 1)
      [(SEQGRP.GRP_STAT_FAULTED g, 0), (SEQGRP.GRP_STAT_RACK_HELD g, 1), (SEQGRP.GRP_STAT_UP_PEND g, 1)] :=
  goesSet_of_eq (exec_grpCmdUp h hlive)
    ((upRequest_off (stored_grpCmd_grpLive.trans hlive) (stored_grpCmd_grpSt.trans hst)).trans (if_pos (stored_grpCmd_rackHolds.trans hrack)))
    (((sets_refl.indexed (SEQGRP.GRP_STAT_FAULTED g) 0).indexed (SEQGRP.GRP_STAT_RACK_HELD g) 1).indexed (SEQGRP.GRP_STAT_UP_PEND g) 1)

theorem goesSet_grpCmdUp_vinHeld (h : Accepts s r (SEQGRP.GRP_CMD g) 1) (hst : s.grpSt g = grOFF) (hrack : s.rackHolds g = false) (hwarn : s.vinWarn) :
    GoesSet (.grpCmdUp r g) s (Stored s r (SEQGRP.GRP_CMD g) 1)
      [(SEQGRP.GRP_STAT_FAULTED g, 0), (SEQGRP.GRP_STAT_VIN_HELD g, 1), (SEQGRP.GRP_STAT_UP_PEND g, 1)] := by
  have hfree : ¬ (Stored s r (SEQGRP.GRP_CMD g) 1).rackHolds g = true := by simp [stored_grpCmd_rackHolds, hrack]
  exact goesSet_of_eq (exec_grpCmdUp h hlive)
    ((upRequest_off (stored_grpCmd_grpLive.trans hlive) (stored_grpCmd_grpSt.trans hst)).trans
      ((if_neg hfree).trans (if_pos (stored_grpCmd_vinWarn.trans hwarn))))
    (((sets_refl.indexed (SEQGRP.GRP_STAT_FAULTED g) 0).indexed (SEQGRP.GRP_STAT_VIN_HELD g) 1).indexed (SEQGRP.GRP_STAT_UP_PEND g) 1)

theorem goesSet_grpCmdDown_rest (h : Accepts s r (SEQGRP.GRP_CMD g) 2) (hst : s.grpSt g = grREST) :
    GoesSet (.grpCmdDown r g) s (Stored s r (SEQGRP.GRP_CMD g) 2) [(SEQGRP.GRP_STAT_UP_PEND g, 0)] :=
  goesSet_of_eq (exec_grpCmdDown h hlive) (downRequest_rest (stored_grpCmd_grpSt.trans hst)) (sets_refl.indexed (SEQGRP.GRP_STAT_UP_PEND g) 0)

theorem goesSet_grpCmdDown_off (h : Accepts s r (SEQGRP.GRP_CMD g) 2) (hst : s.grpSt g = grOFF) :
    GoesSet (.grpCmdDown r g) s (Stored s r (SEQGRP.GRP_CMD g) 2)
      [(SEQGRP.GRP_STAT_UP_PEND g, 0), (SEQGRP.GRP_STAT_VIN_HELD g, 0), (SEQGRP.GRP_STAT_RACK_HELD g, 0)] :=
  goesSet_of_eq (exec_grpCmdDown h hlive) (downRequest_off (stored_grpCmd_grpSt.trans hst))
    (((sets_refl.indexed (SEQGRP.GRP_STAT_UP_PEND g) 0).indexed (SEQGRP.GRP_STAT_VIN_HELD g) 0).indexed (SEQGRP.GRP_STAT_RACK_HELD g) 0)

end Accepted

end Requests

/-! ### REST and the system reset (R408) -/

section Rest

variable {g : Fin 4}

theorem getF_of_clear {f : Fld} (h : s.getB f = false) (hw : f.w = 1) : s.getF f = 0 := by rw [← toNat_getB hw, h]; rfl

theorem sysReascend_of_no_reset (h : s.getB SEQ.SEQ_STAT_SYS_RESET = false) : s.sysReascend = s := if_neg (by simp [h])

theorem exec_tRestExpiry_latched (hst : s.grpSt g = grREST) (hticks : 100 * s.getF (SEQGRP.GRP_CFG_T_REST g) ≤ s.seq.restTicks.getD g 0)
    (hpend : s.getB (SEQGRP.GRP_STAT_UP_PEND g)) : exec (.tRestExpiry g) s =
      .next ((({ ((s.setF (SEQGRP.GRP_STAT_UP_PEND g) 0).setF (SEQGRP.GRP_STAT_STATE g) grOFF) with
        seq := { s.seq with sysGroups := s.seq.sysGroups.set g false } }).upRequest g).sysReascend) := by
  refine (if_pos ⟨hst, hticks⟩ : execTRestExpiry g s = _).trans ?_
  simp only [hpend, ↓reduceIte]
  rfl

theorem exec_tRestExpiry_free (hst : s.grpSt g = grREST) (hticks : 100 * s.getF (SEQGRP.GRP_CFG_T_REST g) ≤ s.seq.restTicks.getD g 0)
    (hpend : s.getB (SEQGRP.GRP_STAT_UP_PEND g) = false) :
    exec (.tRestExpiry g) s = .next ((s.setF (SEQGRP.GRP_STAT_UP_PEND g) 0).setF (SEQGRP.GRP_STAT_STATE g) grOFF).sysReascend := by
  have hsame (u : State) : ({ u with seq := { u.seq with sysGroups := u.seq.sysGroups } } : State) = u := rfl
  refine (if_pos ⟨hst, hticks⟩ : execTRestExpiry g s = _).trans ?_
  simp only [hpend, Bool.false_eq_true, if_false, hsame]

theorem goesSet_tRestExpiry (hst : s.grpSt g = grREST) (hticks : 100 * s.getF (SEQGRP.GRP_CFG_T_REST g) ≤ s.seq.restTicks.getD g 0)
    (hpend : s.getB (SEQGRP.GRP_STAT_UP_PEND g) = false) (hreset : s.getB SEQ.SEQ_STAT_SYS_RESET = false) :
    GoesSet (.tRestExpiry g) s s [(SEQGRP.GRP_STAT_STATE g, grOFF)] := by
  have hsets : Sets s ((s.setF (SEQGRP.GRP_STAT_UP_PEND g) 0).setF (SEQGRP.GRP_STAT_STATE g) grOFF) [(SEQGRP.GRP_STAT_STATE g, grOFF)] :=
    (sets_refl.same (getF_of_clear hpend rfl)).indexed (SEQGRP.GRP_STAT_STATE g) grOFF
  have hkept := getB_of_sets hsets SEQ.SEQ_STAT_SYS_RESET (by simp [Apart, SEQGRP.GRP_STAT])
  exact goesSet_of_eq (exec_tRestExpiry_free hst hticks hpend) (sysReascend_of_no_reset (hkept.trans hreset)) hsets

theorem goesSet_rstOutRelease (hreset : s.getB SEQ.SEQ_STAT_SYS_RESET)
    (hgroup : ∀ g : Fin 4, (s.seq.sysWait.getD g false = false ∨ s.grpSt g = grON) ∧ s.grpSt g ≠ grDESCENDING ∧ s.grpSt g ≠ grREST)
    (hticks : 100 * s.getF SEQ.SEQ_CFG_RST_MIN_MS ≤ s.seq.rstTicks) :
    GoesSet .rstOutRelease s s [(SEQ.SEQ_STAT_SYS_RESET, 0), (SEQ.SEQ_STAT_RST_OUT, 0)] := by
  have hwait : (List.range 4).all (fun g => !s.seq.sysWait.getD g false || s.grpSt g = grON) = true := List.all_eq_true.2 fun g hg => by
    simpa using (hgroup ⟨g, List.mem_range.1 hg⟩).1
  have hrest : (List.range 4).all (fun g => s.grpSt g ≠ grDESCENDING && s.grpSt g ≠ grREST) = true := List.all_eq_true.2 fun g hg => by
    simpa using (hgroup ⟨g, List.mem_range.1 hg⟩).2
  exact goesSet_of_eq (if_pos (by simp only [hreset, hwait, hrest, hticks, decide_true, Bool.and_self])) rfl
    ((sets_refl.field SEQ.SEQ_STAT_SYS_RESET 0).field SEQ.SEQ_STAT_RST_OUT 0)

end Rest

/-! ### RACKFLT_N low (R412) -/

section RackLow

variable {g : Fin 4} {p : Nat → Prop}

/-- The group descends, and ascends again with the line where RACK_ACT says so. -/
abbrev rackDown (s : State) (g : Nat) : State :=
  { s.enterDescend g with seq := { (s.enterDescend g).seq with
    rackAgain := (s.enterDescend g).seq.rackAgain.set g ((s.enterDescend g).getF (SEQGRP.GRP_CFG_RACK_ACT g) = 1) } }

/-- One group at a low line. -/
abbrev rackStep (s : State) (g : Nat) : State := if rackActs s g then rackDown s g else s

/-- The groups that the low line acts on, as a mask. -/
def rackMask (s : State) : Nat := (List.range 4).foldl (fun m g => if rackActs s g then m + 2 ^ g else m) 0

/-- The line shown low. -/
abbrev rackLow (s : State) : State := s.setF SEQ.SEQ_STAT_RACK_LOW 1

theorem sets_rackLow : Sets s (rackLow s) [(SEQ.SEQ_STAT_RACK_LOW, 1)] := sets_refl.field SEQ.SEQ_STAT_RACK_LOW 1

theorem rackLow_self : (rackLow s).getB SEQ.SEQ_STAT_RACK_SELF = s.getB SEQ.SEQ_STAT_RACK_SELF := getB_of_sets sets_rackLow SEQ.SEQ_STAT_RACK_SELF

theorem rackLow_stuck : (rackLow s).getB SEQ.SEQ_STAT_RACK_STUCK = s.getB SEQ.SEQ_STAT_RACK_STUCK := getB_of_sets sets_rackLow SEQ.SEQ_STAT_RACK_STUCK

theorem rackLow_low : (rackLow s).getB SEQ.SEQ_STAT_RACK_LOW = true :=
  getB_of_getF_toNat (b := true) (sets_rackLow.reads (SEQ.SEQ_STAT_RACK_LOW, 1) List.mem_cons_self)

theorem rackActs_of_kept {g : Nat} (h : RegsKept p s t)
    (hp : ∀ a ∈ [pgStat pSEQ, pgStat pSEQSLOT, pgStat (pSEQGRP g), SEQGRP.GRP_CFG g, SEQGRP.GRP_STAT g], ¬ p a) : rackActs t g = rackActs s g := by
  have hrun {n : Nat} (hn : ¬ p (pgStat n)) : t.pgRunning n = s.pgRunning n :=
    congrArg (fun x => decide (x = 2)) (getF_of_regsKept h (f := pgStatState n) hn)
  simp only [List.mem_cons, List.not_mem_nil, or_false, forall_eq_or_imp, forall_eq] at hp
  obtain ⟨hseq, hslot, hgrp, hcfg, hstat⟩ := hp
  have hact := getF_of_regsKept h (f := SEQGRP.GRP_CFG_RACK_ACT g) hcfg
  have hst : t.grpSt g = s.grpSt g := getF_of_regsKept h (f := SEQGRP.GRP_STAT_STATE g) hstat
  simp only [rackActs, grpLive, hrun hseq, hrun hslot, hrun hgrp, hact, hst]

theorem rackActs_rackLow {g : Nat} : rackActs (rackLow s) g = rackActs s g :=
  rackActs_of_kept (p := (· = SEQ.SEQ_STAT)) (regsKept_setF (p := (· = SEQ.SEQ_STAT)) (f := SEQ.SEQ_STAT_RACK_LOW) regsKept_refl rfl 1) (by
    simp only [List.mem_cons, List.not_mem_nil, or_false, forall_eq_or_imp, forall_eq, pgStat, pSEQ, pSEQSLOT, pSEQGRP, SEQGRP.GRP_CFG, SEQGRP.GRP_STAT,
      SEQ.SEQ_STAT]
    omega)

theorem rackActs_rackDown {g h : Nat} (hne : h ≠ g) (hh : h < 4) : rackActs (rackDown s g) h = rackActs s h :=
  rackActs_of_kept (p := GroupReg g) (GroupMoves.refl.enterDescend.withSeq _).regs (by
    simp only [List.mem_cons, List.not_mem_nil, or_false, forall_eq_or_imp, forall_eq, pgStat, pSEQ, pSEQSLOT, pSEQGRP, SEQGRP.GRP_CFG, SEQGRP.GRP_STAT,
      SEQGRP.GRP_CNT, GroupReg]
    omega)

theorem rackDown_cfg {g : Nat} (hg : g < 4) : (s.enterDescend g).getF (SEQGRP.GRP_CFG_RACK_ACT g) = s.getF (SEQGRP.GRP_CFG_RACK_ACT g) :=
  GroupMoves.refl.enterDescend.getF (by simp only [SEQGRP.GRP_CFG, SEQGRP.GRP_STAT, SEQGRP.GRP_CNT, GroupReg]; omega)

theorem rackMask_none (h : ∀ g : Fin 4, rackActs s g = false) : rackMask s = 0 :=
  List.foldlRecOn (motive := (· = 0)) _ _ rfl fun m hm g hg => by rw [hm, h ⟨g, List.mem_range.1 hg⟩]; rfl

theorem rackMask_single (hact : rackActs s g) (h : ∀ h : Fin 4, h ≠ g → rackActs s h = false) : rackMask s = 2 ^ g.val := by
  have hone : ∀ g : Fin 4, (List.range 4).foldl (fun m h => if h = g.val then m + 2 ^ h else m) 0 = 2 ^ g.val := by decide
  rw [← hone g]
  refine List.foldl_ext _ _ _ fun m k hk => ?_
  by_cases hk' : k = g.val
  · rw [hk', hact]
    simp
  · rw [h ⟨k, List.mem_range.1 hk⟩ (by simpa [Fin.ext_iff] using hk'), if_neg hk']
    rfl

theorem rackSteps_none (h : ∀ g : Fin 4, rackActs s g = false) : forAll 4 rackStep s = s :=
  forAll_self fun g hg => if_neg (Bool.eq_false_iff.1 (h ⟨g, hg⟩))

theorem rackSteps_single (hact : rackActs s g) (h : ∀ h : Fin 4, h ≠ g → rackActs s h = false) : forAll 4 rackStep s = rackDown s g := by
  have hother {k : Nat} (hk : k < 4) (hne : k ≠ g) : rackActs s k = false := h ⟨k, hk⟩ (by simpa [Fin.ext_iff] using hne)
  have hself : rackStep s g = rackDown s g := if_pos hact
  rw [forAll_single g.isLt (fun k hk hne => if_neg (Bool.eq_false_iff.1 (hother hk hne))) fun k hk hne => ?_, hself]
  rw [hself]
  exact if_neg (Bool.eq_false_iff.1 ((rackActs_rackDown hne hk).trans (hother hk hne)))

variable (hop : s.operating) (hrun : s.pgRunning pSEQ)

include hop hrun

theorem exec_rackfltLowSeen_stuck (hstuck : s.getB SEQ.SEQ_STAT_RACK_STUCK) : exec .rackfltLowSeen s = .next (rackLow s).rackExt :=
  (if_pos (by rw [hop, hrun]; rfl) : execRackfltLowSeen s = _).trans (if_pos (rackLow_stuck.trans hstuck))

theorem exec_rackfltLowSeen_free (hstuck : s.getB SEQ.SEQ_STAT_RACK_STUCK = false) : exec .rackfltLowSeen s =
    .next (((if s.getB SEQ.SEQ_STAT_RACK_SELF then forAll 4 rackStep (rackLow s) else (forAll 4 rackStep (rackLow s)).raise 184 [rackMask (rackLow s)]).setF
      SEQ.SEQ_STAT_RACK_LOW 1).rackExt) :=
  (if_pos (by rw [hop, hrun]; rfl) : execRackfltLowSeen s = _).trans (if_neg (by rw [rackLow_stuck, hstuck]; decide))

theorem goesSet_rackfltLowSeen_stuck (hstuck : s.getB SEQ.SEQ_STAT_RACK_STUCK) : GoesSet .rackfltLowSeen s s
    [(SEQ.SEQ_STAT_RACK_LOW, 1), (SEQ.SEQ_STAT_RACK_EXT, (!s.getB SEQ.SEQ_STAT_RACK_SELF).toNat)] :=
  goesSet_of_eq (exec_rackfltLowSeen_stuck hop hrun hstuck) rfl (sets_rackLow.rackExt rackLow_low rackLow_self)

theorem goesSet_rackfltLowSeen_own (hstuck : s.getB SEQ.SEQ_STAT_RACK_STUCK = false) (hself : s.getB SEQ.SEQ_STAT_RACK_SELF)
    (hnone : ∀ g : Fin 4, rackActs s g = false) :
    GoesSet .rackfltLowSeen s s [(SEQ.SEQ_STAT_RACK_LOW, 1), (SEQ.SEQ_STAT_RACK_EXT, 0)] := by
  have hagain : Sets s ((rackLow s).setF SEQ.SEQ_STAT_RACK_LOW 1) [(SEQ.SEQ_STAT_RACK_LOW, 1)] :=
    sets_rackLow.same (sets_rackLow.reads (SEQ.SEQ_STAT_RACK_LOW, 1) List.mem_cons_self)
  refine goesSet_of_eq (exec_rackfltLowSeen_free hop hrun hstuck) ?_
    (hagain.rackExt (low := true) (self := true) (getB_of_getF_toNat (b := true) (hagain.reads (SEQ.SEQ_STAT_RACK_LOW, 1) List.mem_cons_self))
      ((getB_of_sets hagain SEQ.SEQ_STAT_RACK_SELF).trans hself))
  rw [if_pos hself, rackSteps_none fun g => rackActs_rackLow.trans (hnone g)]

theorem exec_rackfltLowSeen_none (hstuck : s.getB SEQ.SEQ_STAT_RACK_STUCK = false) (hself : s.getB SEQ.SEQ_STAT_RACK_SELF = false)
    (hnone : ∀ g : Fin 4, rackActs s g = false) :
    exec .rackfltLowSeen s = .next ((((rackLow s).raise 184 [0]).setF SEQ.SEQ_STAT_RACK_LOW 1).rackExt) := by
  have hnone' : ∀ g : Fin 4, rackActs (rackLow s) g = false := fun g => rackActs_rackLow.trans (hnone g)
  rw [exec_rackfltLowSeen_free hop hrun hstuck, if_neg (Bool.eq_false_iff.1 hself), rackSteps_none hnone', rackMask_none hnone']

theorem exec_rackfltLowSeen_single (hstuck : s.getB SEQ.SEQ_STAT_RACK_STUCK = false) (hself : s.getB SEQ.SEQ_STAT_RACK_SELF = false)
    (hother : ∀ h : Fin 4, h ≠ g → rackActs s h = false) (hact : rackActs s g) (hu : u = (rackLow s).enterDescend g) :
    exec .rackfltLowSeen s =
      .next (((({ u with seq := { u.seq with rackAgain := u.seq.rackAgain.set g (s.getF (SEQGRP.GRP_CFG_RACK_ACT g) = 1) } }).raise 184
        [2 ^ g.val]).setF SEQ.SEQ_STAT_RACK_LOW 1).rackExt) := by
  have hact' : rackActs (rackLow s) g := rackActs_rackLow.trans hact
  have hother' : ∀ h : Fin 4, h ≠ g → rackActs (rackLow s) h = false := fun h hne => rackActs_rackLow.trans (hother h hne)
  have hcfg : (rackLow s).getF (SEQGRP.GRP_CFG_RACK_ACT g) = s.getF (SEQGRP.GRP_CFG_RACK_ACT g) :=
    sets_rackLow.kept (SEQGRP.GRP_CFG_RACK_ACT g) (by simp [Apart, SEQGRP.GRP_CFG, SEQ.SEQ_STAT]; omega) (by exact Nat.le_of_ble_eq_true rfl)
  rw [exec_rackfltLowSeen_free hop hrun hstuck, if_neg (Bool.eq_false_iff.1 hself), rackSteps_single hact' hother', rackMask_single hact' hother', rackDown,
    rackDown_cfg g.isLt, hcfg, hu]

end RackLow

/-! ### RACKFLT_N high again and the pull's release (R411, R412, R413) -/

section RackHigh

/-- The line high, no longer stuck, its condition ended. -/
abbrev rackClear (s : State) : State :=
  (((s.setF SEQ.SEQ_STAT_RACK_LOW 0).setF SEQ.SEQ_STAT_RACK_STUCK 0).endL 185).setF (SEQ.INP_STAT_STUCK 0) 0

theorem exec_rackfltHigh100ms (hop : s.operating) (hself : s.getB SEQ.SEQ_STAT_RACK_SELF = false) :
    exec .rackfltHigh100ms s = .next (((forAll 4 rackHigh (rackClear s)).setF SEQ.SEQ_STAT_RACK_LOW 0).rackExt) := if_pos ⟨hop, hself⟩

theorem sets_rackClear : Sets s (rackClear s) ([(SEQ.SEQ_STAT_RACK_LOW, 0), (SEQ.SEQ_STAT_RACK_STUCK, 0)] ++ condEnd 185 ++ [(SEQ.INP_STAT_STUCK 0, 0)]) :=
  (sets_endL ((sets_refl.field SEQ.SEQ_STAT_RACK_LOW 0).field SEQ.SEQ_STAT_RACK_STUCK 0)
    (by simp [condEnd, Apart, SEQ.SEQ_STAT, FCOL.COND, FCOL.ACT])).field (SEQ.INP_STAT_STUCK 0) 0
    (hl := by simp [condEnd, Apart, SEQ.INP_STAT, SEQ.SEQ_STAT, FCOL.COND, FCOL.ACT])

theorem set_false_of_getD {l : List Bool} {k : Nat} (h : l.getD k false = false) : l.set k false = l := by
  refine List.ext_getElem (List.length_set ..) fun n hn hn' => ?_
  by_cases hk : k = n
  · subst hk
    rw [List.getElem_set_self, ← h, List.getD_eq_getElem _ _ hn']
  · rw [List.getElem_set_ne hk]

/-- A group that nothing holds stays as it is when the line is high. -/
theorem sets_rackHigh {l : List (Fld × Nat)} {g : Nat} (h : Sets s t l) (hagain : s.seq.rackAgain.getD g false = false)
    (hheld : s.getB (SEQGRP.GRP_STAT_RACK_HELD g) = false) (hl : ∀ x ∈ l, Apart (SEQGRP.GRP_STAT_RACK_HELD g) x.1) : Sets s (rackHigh t g) l := by
  have hseq : t.seq = s.seq := by rw [h.rest]
  have hagain' : t.seq.rackAgain.getD g false = false := by rw [hseq, hagain]
  have hheld' : t.getB (SEQGRP.GRP_STAT_RACK_HELD g) = false := (getB_of_sets h _ hl).trans hheld
  have hstep : rackHigh t g = t.setF (SEQGRP.GRP_STAT_RACK_HELD g) 0 := by
    rw [rackHigh, hagain', hheld', set_false_of_getD hagain', if_neg (by decide)]
  exact hstep ▸ h.same (getF_of_clear hheld' rfl)

theorem goesSet_rackfltHigh100ms (hop : s.operating) (hself : s.getB SEQ.SEQ_STAT_RACK_SELF = false)
    (hfree : ∀ g : Fin 4, s.getB (SEQGRP.GRP_STAT_RACK_HELD g) = false ∧ s.seq.rackAgain.getD g false = false) :
    GoesSet .rackfltHigh100ms s s
      ([(SEQ.SEQ_STAT_RACK_LOW, 0), (SEQ.SEQ_STAT_RACK_STUCK, 0), (SEQ.SEQ_STAT_RACK_EXT, 0), (SEQ.INP_STAT_STUCK 0, 0)] ++ condEnd 185) := by
  have happ (g : Nat) : ∀ x ∈ [(SEQ.SEQ_STAT_RACK_LOW, 0), (SEQ.SEQ_STAT_RACK_STUCK, 0)] ++ condEnd 185 ++ [(SEQ.INP_STAT_STUCK 0, 0)],
      Apart (SEQGRP.GRP_STAT_RACK_HELD g) x.1 := by
    simp [condEnd, Apart, SEQGRP.GRP_STAT, SEQ.SEQ_STAT, SEQ.INP_STAT, FCOL.COND, FCOL.ACT]
    omega
  have hgroups : Sets s (forAll 4 rackHigh (rackClear s))
      ([(SEQ.SEQ_STAT_RACK_LOW, 0), (SEQ.SEQ_STAT_RACK_STUCK, 0)] ++ condEnd 185 ++ [(SEQ.INP_STAT_STUCK 0, 0)]) :=
    forAll_induct (motive := (Sets s · _)) sets_rackClear fun t g hg ht => sets_rackHigh ht (hfree ⟨g, hg⟩).2 (hfree ⟨g, hg⟩).1 (happ g)
  have hlow : Sets s ((forAll 4 rackHigh (rackClear s)).setF SEQ.SEQ_STAT_RACK_LOW 0) _ :=
    hgroups.same (hgroups.reads (SEQ.SEQ_STAT_RACK_LOW, 0) (by simp))
  have hzero := getB_of_getF_toNat (b := false) (hlow.reads (SEQ.SEQ_STAT_RACK_LOW, 0) (by simp))
  have hself' := getB_of_sets hlow SEQ.SEQ_STAT_RACK_SELF (by simp [condEnd, Apart, SEQ.SEQ_STAT, SEQ.INP_STAT, FCOL.COND, FCOL.ACT])
  have hext := hlow.rackExt hzero (hself'.trans hself) (by simp [condEnd, Apart, SEQ.SEQ_STAT, SEQ.INP_STAT, FCOL.COND, FCOL.ACT])
  refine goesSet_of_eq (exec_rackfltHigh100ms hop hself) rfl (sets_of_mem_iff hext fun x => ?_)
  simp only [List.mem_append, List.mem_cons, List.not_mem_nil, or_false, Bool.false_and, Bool.toNat_false]
  tauto

theorem goesSet_rackfltPullRelease (hself : s.getB SEQ.SEQ_STAT_RACK_SELF)
    (hgroup : ∀ g : Fin 4, s.seq.rackPull.getD g false → s.grpSt g ≠ grDESCENDING ∧ s.grpSt g < 5)
    (hticks : 100 * s.getF SEQ.SEQ_CFG_RACK_MIN_MS ≤ s.seq.rackTicks) :
    GoesSet .rackfltPullRelease s { s with seq := { s.seq with rackPull := List.replicate 4 false } }
      [(SEQ.SEQ_STAT_RACK_SELF, 0), (SEQ.SEQ_STAT_RACK_EXT, (s.getB SEQ.SEQ_STAT_RACK_LOW).toNat)] := by
  have hdone : (List.range 4).all (fun g => !s.seq.rackPull.getD g false ||
      s.grpSt g = grOFF || s.grpSt g = grREST || s.grpSt g = grASCENDING || s.grpSt g = grON) = true := List.all_eq_true.2 fun g hg => by
    have hst : s.seq.rackPull.getD g false → s.grpSt g ≠ grDESCENDING ∧ s.grpSt g < 5 := hgroup ⟨g, List.mem_range.1 hg⟩
    cases hpull : s.seq.rackPull.getD g false
    case false => rfl
    case true =>
      obtain ⟨hdesc, hlt⟩ := hst hpull
      simp only [grDESCENDING] at hdesc
      simp only [Bool.not_true, Bool.false_or, Bool.or_eq_true, decide_eq_true_eq, grOFF, grASCENDING, grON, grREST]
      omega
  have hsets : Sets { s with seq := { s.seq with rackPull := List.replicate 4 false } }
      (({ s with seq := { s.seq with rackPull := List.replicate 4 false } } : State).setF SEQ.SEQ_STAT_RACK_SELF 0) [(SEQ.SEQ_STAT_RACK_SELF, 0)] :=
    sets_refl.field SEQ.SEQ_STAT_RACK_SELF 0
  have hext := hsets.rackExt (getB_of_sets hsets SEQ.SEQ_STAT_RACK_LOW) (decide_eq_false (by rw [hsets.reads _ List.mem_cons_self]; decide))
  rw [Bool.not_false, Bool.and_true] at hext
  exact goesSet_of_eq (if_pos (by simp only [hself, hdone, hticks, decide_true, Bool.and_self])) rfl hext

end RackHigh

/-! ### Supervised inputs (R415, R416, R418) -/

section Inputs

variable {k : Nat} {active chatter : Bool} {i : SupInput} {l : List (Fld × Nat)}

/-- Activations and chatter counted. -/
def inputCounted (s : State) (k : Nat) (active chatter : Bool) : State :=
  let t := if s.pgRunning pSEQ ∧ active ∧ s.getB (SEQ.INP_STAT_FILT k) = false then s.incSat (SEQ.INP_STAT_ACT k) else s
  if t.pgRunning pSEQ ∧ chatter then t.incSat (SEQ.INP_STAT_CHAT k) else t

/-- The input's level shown. -/
abbrev inputShown (s : State) (k : Nat) (active chatter : Bool) : State :=
  (s.setB (SEQ.INP_STAT_RAW k) (active || chatter)).setB (SEQ.INP_STAT_FILT k) active

theorem supIndex_lt : supIndex i < 6 := by cases i <;> decide

theorem sets_activation (hrun : s.pgRunning pSEQ) :
    Sets s (if s.pgRunning pSEQ ∧ active ∧ s.getB (SEQ.INP_STAT_FILT k) = false then s.incSat (SEQ.INP_STAT_ACT k) else s)
      (if active && !s.getB (SEQ.INP_STAT_FILT k) then [oneMore s (SEQ.INP_STAT_ACT k)] else []) := by
  simp only [hrun, true_and, Bool.and_eq_true, Bool.not_eq_true']
  split
  case isTrue => exact sets_refl.counted (SEQ.INP_STAT_ACT k)
  case isFalse => exact sets_refl

/-- The counters that an input's change counts. -/
abbrev inputCounts (s : State) (k : Nat) (active chatter : Bool) : List (Fld × Nat) :=
  (if active && !s.getB (SEQ.INP_STAT_FILT k) then [oneMore s (SEQ.INP_STAT_ACT k)] else []) ++
    (if chatter then [oneMore s (SEQ.INP_STAT_CHAT k)] else [])

theorem inputCounts_bits : ∀ x ∈ inputCounts s k active chatter, x.1.addr = SEQ.INP_STAT k ∧ 8 ≤ x.1.lo ∧ x.1.lo + x.1.w ≤ 32 := by
  intro x hx
  rcases List.mem_append.1 hx with hx | hx <;> split at hx <;> simp_all [oneMore]

theorem inputCounts_apart {f : Fld} (hf : f.addr ≠ SEQ.INP_STAT k ∨ f.lo + f.w ≤ 8) :
    ∀ x ∈ inputCounts s k active chatter, x.1.lo + x.1.w ≤ 32 ∧ Apart x.1 f := fun x hx => by
  obtain ⟨haddr, hlo, hw⟩ := inputCounts_bits x hx
  exact ⟨hw, hf.elim (fun hf => .inl (haddr ▸ hf.symm)) fun hf => .inr (.inr (hf.trans hlo))⟩

theorem apart_inputCounts {f : Fld} (hf : f.addr ≠ SEQ.INP_STAT k ∨ f.lo + f.w ≤ 8) :
    ∀ x ∈ inputCounts s k active chatter, Apart f x.1 := fun x hx => by
  obtain ⟨haddr, hlo, -⟩ := inputCounts_bits x hx
  exact hf.elim (fun hf => .inl (haddr ▸ hf)) fun hf => .inr (.inl (hf.trans hlo))

theorem sets_inputCounted (hrun : s.pgRunning pSEQ) (hk : k < 6) : Sets s (inputCounted s k active chatter) (inputCounts s k active chatter) := by
  have hact := sets_activation (s := s) (k := k) (active := active) hrun
  have hrun' := (pgRunning_of_sets hact pSEQ (by split <;> simp [oneMore, SEQ.INP_STAT]; omega)).trans hrun
  rw [inputCounted]
  simp only [hrun', true_and]
  cases chatter
  case false => simpa only [inputCounts, Bool.false_eq_true, if_false, List.append_nil] using hact
  case true => exact hact.counted (SEQ.INP_STAT_CHAT k) (by split <;> simp [Apart, oneMore])

/-- A field stands apart from an input's level. -/
abbrev BesideLevel (k : Nat) (f : Fld) : Prop := f.lo + f.w ≤ 32 ∧ (f.addr ≠ SEQ.INP_STAT k ∨ 2 ≤ f.lo)

theorem besideLevel_inputCounts : ∀ x ∈ inputCounts s k active chatter, BesideLevel k x.1 := fun x hx => by
  obtain ⟨-, hlo, hw⟩ := inputCounts_bits x hx
  exact ⟨hw, .inr (by omega)⟩

theorem apart_of_besideLevel {f g : Fld} (h : BesideLevel k f) (hg : g.addr = SEQ.INP_STAT k) (hbits : g.lo + g.w ≤ 2) : Apart f g :=
  h.2.elim (fun h => .inl (hg ▸ h)) fun h => .inr (.inr (hbits.trans h))

/-- The level shown after fields beside it. -/
theorem sets_inputShown {k : Nat} (h : Sets s t l) (hl : ∀ x ∈ l, BesideLevel k x.1) :
    Sets s (inputShown t k active chatter) (l ++ [(SEQ.INP_STAT_RAW k, (active || chatter).toNat), (SEQ.INP_STAT_FILT k, active.toNat)]) := by
  have hraw := h.flag (SEQ.INP_STAT_RAW k) (active || chatter) (hl := fun x hx =>
    ⟨(hl x hx).1, apart_of_besideLevel (hl x hx) rfl (by exact Nat.le_of_ble_eq_true rfl)⟩)
  have hboth := hraw.flag (SEQ.INP_STAT_FILT k) active (hl := fun x hx => by
    rcases List.mem_append.1 hx with hx | hx
    · exact ⟨(hl x hx).1, apart_of_besideLevel (hl x hx) rfl (by exact Nat.le_of_ble_eq_true rfl)⟩
    · rw [List.mem_singleton.1 hx]
      simp [Apart])
  rwa [List.append_assoc] at hboth

/-- What an input's change acts on beside its own register. -/
def inputActs (i : SupInput) (active : Bool) (s : State) : State :=
  match i with
  | .rackflt => if active then s else rackLineHigh s
  | .wake => { s with dev := { s.dev with wakePin := active } }
  | .belayN =>
    if active then (s.setB RIDGE.PAIR_STAT_BELAY_LOW active).updPair fun x =>
      { x with partnerHeld := x.partnerHeld || !(s.setB RIDGE.PAIR_STAT_BELAY_LOW active).getB RIDGE.PAIR_STAT_BELAY_OWN }
    else if (s.setB RIDGE.PAIR_STAT_BELAY_LOW active).tokenGone then (s.setB RIDGE.PAIR_STAT_BELAY_LOW active).blockedRaise
    else s.setB RIDGE.PAIR_STAT_BELAY_LOW active
  | _ => s

theorem exec_inputFilterChange (hop : s.operating) : exec (.inputFilterChange i active chatter) s =
    .next (inputShown (inputActs i active (inputCounted s (supIndex i) active chatter)) (supIndex i) active chatter) :=
  (if_pos hop : execInputFilterChange i active chatter s = _).trans (by cases i <;> rfl)

theorem inputActs_self (hwake : i ≠ .wake) (hbelay : i ≠ .belayN) (hrack : i ≠ .rackflt ∨ active) : inputActs i active s = s := by
  cases i
  case rackflt => exact if_pos (hrack.resolve_left fun h => h rfl)
  case wake => exact absurd rfl hwake
  case belayN => exact absurd rfl hbelay
  case holdN | stepHint | syncIn => rfl

section Running

variable (hop : s.operating) (hrun : s.pgRunning pSEQ)

include hop hrun

theorem goesSet_inputFilterChange (hwake : i ≠ .wake) (hbelay : i ≠ .belayN) (hrack : i ≠ .rackflt ∨ active) :
    GoesSet (.inputFilterChange i active chatter) s s (inputCounts s (supIndex i) active chatter ++
      [(SEQ.INP_STAT_RAW (supIndex i), (active || chatter).toNat), (SEQ.INP_STAT_FILT (supIndex i), active.toNat)]) :=
  goesSet_of_eq (exec_inputFilterChange hop) (by rw [inputActs_self hwake hbelay hrack])
    (sets_inputShown (sets_inputCounted hrun supIndex_lt) besideLevel_inputCounts)

theorem goesSet_inputFilterChange_wake : GoesSet (.inputFilterChange .wake active chatter) s { s with dev := { s.dev with wakePin := active } }
    (inputCounts s 3 active chatter ++ [(SEQ.INP_STAT_RAW 3, (active || chatter).toNat), (SEQ.INP_STAT_FILT 3, active.toNat)]) := by
  have hcount : Sets s (inputCounted s 3 active chatter) _ := sets_inputCounted hrun (by decide)
  have hpin : Sets { s with dev := { s.dev with wakePin := active } } (inputActs .wake active (inputCounted s 3 active chatter)) _ :=
    ⟨hcount.reads, hcount.keeps, congrArg (fun u : State => { u with dev := { u.dev with wakePin := active } }) hcount.rest⟩
  exact goesSet_of_eq (exec_inputFilterChange hop) rfl (sets_inputShown hpin besideLevel_inputCounts)

omit hop

/-- BELAY_LOW shown after the counters. -/
theorem sets_belayLow : Sets s ((inputCounted s 4 active chatter).setB RIDGE.PAIR_STAT_BELAY_LOW active)
    (inputCounts s 4 active chatter ++ [(RIDGE.PAIR_STAT_BELAY_LOW, active.toNat)]) :=
  (sets_inputCounted hrun (by decide)).flag RIDGE.PAIR_STAT_BELAY_LOW active (hl := inputCounts_apart (.inl (show 0x0702C ≠ 0x60070 by decide)))

omit hrun

theorem besideLevel_belayLow : ∀ x ∈ inputCounts s 4 active chatter ++ [(RIDGE.PAIR_STAT_BELAY_LOW, active.toNat)], BesideLevel 4 x.1 := by
  intro x hx
  rcases List.mem_append.1 hx with hx | hx
  · exact besideLevel_inputCounts x hx
  · rw [List.mem_singleton.1 hx]
    exact ⟨show 9 + 1 ≤ 32 by decide, .inl (show 0x0702C ≠ 0x60070 by decide)⟩

/-- A field of the PAIR_STAT register but BELAY_LOW reads as before. -/
theorem belayLow_getB {f : Fld} (hrun : s.pgRunning pSEQ) (hf : f.addr ≠ SEQ.INP_STAT 4) (hlow : Apart f RIDGE.PAIR_STAT_BELAY_LOW) (hw : f.lo + f.w ≤ 32) :
    ((inputCounted s 4 active chatter).setB RIDGE.PAIR_STAT_BELAY_LOW active).getB f = s.getB f := by
  refine getB_of_sets (sets_belayLow hrun) f (fun x hx => ?_) hw
  rcases List.mem_append.1 hx with hx | hx
  · exact apart_inputCounts (.inl hf) x hx
  · rwa [List.mem_singleton.1 hx]

include hop hrun

theorem goesSet_inputFilterChange_belayLow :
    GoesSet (.inputFilterChange .belayN true chatter) s (s.updPair (fun x => { x with partnerHeld := x.partnerHeld || !s.getB RIDGE.PAIR_STAT_BELAY_OWN }))
      ((RIDGE.PAIR_STAT_BELAY_LOW, 1) :: (if s.getB (SEQ.INP_STAT_FILT 4) then [] else [oneMore s (SEQ.INP_STAT_ACT 4)]) ++
        (if chatter then [oneMore s (SEQ.INP_STAT_CHAT 4)] else []) ++ [(SEQ.INP_STAT_RAW 4, 1), (SEQ.INP_STAT_FILT 4, 1)]) := by
  have hown := belayLow_getB (active := true) (chatter := chatter) (f := RIDGE.PAIR_STAT_BELAY_OWN) hrun (by decide) (by simp [Apart]) (by decide)
  have hheld : inputActs .belayN true (inputCounted s 4 true chatter) = ((inputCounted s 4 true chatter).setB RIDGE.PAIR_STAT_BELAY_LOW true).updPair
      (fun x => { x with partnerHeld := x.partnerHeld || !s.getB RIDGE.PAIR_STAT_BELAY_OWN }) := by
    rw [← hown]
    rfl
  refine goesSet_of_eq (exec_inputFilterChange hop) rfl
    (sets_of_mem_iff (sets_inputShown (k := 4) (hheld ▸ (sets_belayLow hrun).updPair _) besideLevel_belayLow) fun x => ?_)
  cases hfilt : s.getB (SEQ.INP_STAT_FILT 4) <;> simp [hfilt] <;> tauto

theorem goesSet_inputFilterChange_belayHigh
    (hgone : s.getB RIDGE.PAIR_CFG_BELAY_EN = false ∨ s.pair.partnerHeld = false ∨ s.pair.yieldSeen ∨ s.pair.taking) :
    GoesSet (.inputFilterChange .belayN false chatter) s s
      ((RIDGE.PAIR_STAT_BELAY_LOW, 0) :: (if chatter then [oneMore s (SEQ.INP_STAT_CHAT 4)] else []) ++
        [(SEQ.INP_STAT_RAW 4, chatter.toNat), (SEQ.INP_STAT_FILT 4, 0)]) := by
  have hen := belayLow_getB (active := false) (chatter := chatter) (f := RIDGE.PAIR_CFG_BELAY_EN) hrun (by decide) (by simp [Apart]) (by decide)
  have hpair : ((inputCounted s 4 false chatter).setB RIDGE.PAIR_STAT_BELAY_LOW false).pair = s.pair := by rw [(sets_belayLow hrun).rest]
  have htoken : ((inputCounted s 4 false chatter).setB RIDGE.PAIR_STAT_BELAY_LOW false).tokenGone = false := by
    rw [tokenGone, hen, hpair]
    rcases hgone with h | h | h | h <;> simp [h]
  have hacts : inputActs .belayN false (inputCounted s 4 false chatter) = (inputCounted s 4 false chatter).setB RIDGE.PAIR_STAT_BELAY_LOW false := by
    rw [inputActs, if_neg Bool.false_ne_true, if_neg (Bool.eq_false_iff.1 htoken)]
  refine goesSet_of_eq (exec_inputFilterChange hop) rfl
    (sets_of_mem_iff (sets_inputShown (k := 4) (hacts ▸ sets_belayLow hrun) besideLevel_belayLow) fun x => ?_)
  simp
  tauto

omit hop

/-- The line shown high after the counters. -/
theorem sets_rackLineHigh (hstuck : s.getB SEQ.SEQ_STAT_RACK_STUCK = false) (hheld : ∀ g : Fin 4, s.getB (SEQGRP.GRP_STAT_RACK_HELD g) = false) :
    Sets s (rackLineHigh (inputCounted s 0 false chatter))
      (inputCounts s 0 false chatter ++ [(SEQ.SEQ_STAT_RACK_LOW, 0)] ++ [(SEQ.SEQ_STAT_RACK_EXT, 0)]) := by
  have hne : SEQ.SEQ_STAT ≠ SEQ.INP_STAT 0 := by decide
  have hlow : Sets s ((inputCounted s 0 false chatter).setF SEQ.SEQ_STAT_RACK_LOW 0) _ :=
    (sets_inputCounted hrun (by decide)).field SEQ.SEQ_STAT_RACK_LOW 0 (hl := inputCounts_apart (.inl hne))
  have hext := hlow.rackExt (getB_of_getF_toNat (b := false) (hlow.reads (SEQ.SEQ_STAT_RACK_LOW, 0) (by simp))) rfl fun x hx => by
    rcases List.mem_append.1 hx with hx | hx
    · exact inputCounts_apart (.inl hne) x hx
    · rw [List.mem_singleton.1 hx]
      simp [Apart]
  have hkept {f : Fld} (hf : f.addr ≠ SEQ.INP_STAT 0) (hlow : Apart f SEQ.SEQ_STAT_RACK_LOW) (hline : Apart f SEQ.SEQ_STAT_RACK_EXT)
      (hw : f.lo + f.w ≤ 32) :
      (((inputCounted s 0 false chatter).setF SEQ.SEQ_STAT_RACK_LOW 0).rackExt).getB f = s.getB f := by
    refine getB_of_sets hext f (fun x hx => ?_) hw
    simp only [List.mem_append, List.mem_singleton] at hx
    rcases hx with (hx | rfl) | rfl
    · exact apart_inputCounts (.inl hf) x (List.mem_append.2 hx)
    · exact hlow
    · exact hline
  have hstuck' := (hkept (f := SEQ.SEQ_STAT_RACK_STUCK) hne (by simp [Apart]) (by simp [Apart]) (by decide)).trans hstuck
  have hheld' (g : Fin 4) := (hkept (f := SEQGRP.GRP_STAT_RACK_HELD g) (by simp only [SEQGRP.GRP_STAT, SEQ.INP_STAT]; omega)
    (.inl (by simp only [SEQGRP.GRP_STAT, SEQ.SEQ_STAT]; omega)) (.inl (by simp only [SEQGRP.GRP_STAT, SEQ.SEQ_STAT]; omega))
    (by exact Nat.le_of_ble_eq_true rfl)).trans (hheld g)
  have hline : rackLineHigh (inputCounted s 0 false chatter) = ((inputCounted s 0 false chatter).setF SEQ.SEQ_STAT_RACK_LOW 0).rackExt := by
    rw [rackLineHigh, if_neg (Bool.eq_false_iff.1 hstuck')]
    exact forAll_self fun g hg => if_neg (Bool.eq_false_iff.1 (hheld' ⟨g, hg⟩))
  exact hline ▸ hext

include hop

theorem goesSet_inputFilterChange_rackHigh (hstuck : s.getB SEQ.SEQ_STAT_RACK_STUCK = false)
    (hheld : ∀ g : Fin 4, s.getB (SEQGRP.GRP_STAT_RACK_HELD g) = false) : GoesSet (.inputFilterChange .rackflt false chatter) s s
      ([(SEQ.SEQ_STAT_RACK_LOW, 0), (SEQ.SEQ_STAT_RACK_EXT, 0)] ++ (if chatter then [oneMore s (SEQ.INP_STAT_CHAT 0)] else []) ++
        [(SEQ.INP_STAT_RAW 0, chatter.toNat), (SEQ.INP_STAT_FILT 0, 0)]) := by
  have hacts : inputActs .rackflt false (inputCounted s 0 false chatter) = rackLineHigh (inputCounted s 0 false chatter) := by
    rw [inputActs, if_neg Bool.false_ne_true]
  have hbeside : ∀ x ∈ inputCounts s 0 false chatter ++ [(SEQ.SEQ_STAT_RACK_LOW, 0)] ++ [(SEQ.SEQ_STAT_RACK_EXT, 0)], BesideLevel 0 x.1 := by
    intro x hx
    rcases List.mem_append.1 hx with hx | hx
    · rcases List.mem_append.1 hx with hx | hx
      · exact besideLevel_inputCounts x hx
      · rw [List.mem_singleton.1 hx]
        exact ⟨show 2 + 1 ≤ 32 by decide, .inl (show 0x60024 ≠ 0x60060 by decide)⟩
    · rw [List.mem_singleton.1 hx]
      exact ⟨show 1 + 1 ≤ 32 by decide, .inl (show 0x60024 ≠ 0x60060 by decide)⟩
  refine goesSet_of_eq (exec_inputFilterChange hop) rfl
    (sets_of_mem_iff (sets_inputShown (k := 0) (hacts ▸ sets_rackLineHigh hrun hstuck hheld) hbeside) fun x => ?_)
  simp
  tauto

end Running

end Inputs

section Stuck

variable {i : SupInput}

theorem supIndex_ne_zero (h : i ≠ .rackflt) : supIndex i ≠ 0 := by
  cases i
  case rackflt => exact absurd rfl h
  all_goals decide

theorem supIndex_ne_four (h : i ≠ .belayN) : supIndex i ≠ 4 := by
  cases i
  case belayN => exact absurd rfl h
  all_goals decide

/-- An input active for longer than its stuck time, not yet stuck (R416). -/
structure Sticks (s : State) (k : Nat) : Prop where
  op : s.operating
  run : s.pgRunning pSEQ
  timed : s.getF (SEQ.INP_CFG_STUCK k) ≠ 0
  active : s.getB (SEQ.INP_STAT_FILT k)
  fresh : s.getB (SEQ.INP_STAT_STUCK k) = false
  runs : stuckTimerRuns k s

theorem exec_inputStuckTimer (h : Sticks s (supIndex i)) (hl : s.dev.late = []) (hrack : i ≠ .rackflt) (hbelay : i ≠ .belayN) :
    exec (.inputStuckTimer i) s = .next (((s.setCond 187 false).raiseL 187 [supIndex i]).setF (SEQ.INP_STAT_STUCK (supIndex i)) 1) := by
  refine (heldRun_of_late_nil hl : execInputStuckTimer i s = _).trans ((if_pos ⟨h.op, h.run, h.timed, h.active, h.fresh, h.runs⟩).trans ?_)
  simp only [supIndex_ne_zero hrack, supIndex_ne_four hbelay, if_false]

theorem exec_inputStuckTimer_rackflt (h : Sticks s 0) (hl : s.dev.late = []) :
    exec (.inputStuckTimer .rackflt) s = .next (((s.raiseL 185 [0]).setF SEQ.SEQ_STAT_RACK_STUCK 1).setF (SEQ.INP_STAT_STUCK 0) 1) :=
  (heldRun_of_late_nil hl : execInputStuckTimer .rackflt s = _).trans (if_pos ⟨h.op, h.run, h.timed, h.active, h.fresh, h.runs⟩)

theorem exec_inputStuckTimer_belayN (h : Sticks s 4) (hl : s.dev.late = []) :
    exec (.inputStuckTimer .belayN) s = .next ((((s.setCond 187 false).raiseL 187 [4]).raise 214 [1]).setF (SEQ.INP_STAT_STUCK 4) 1) := by
  refine (heldRun_of_late_nil hl : execInputStuckTimer .belayN s = _).trans ((if_pos ⟨h.op, h.run, h.timed, h.active, h.fresh, h.runs⟩).trans ?_)
  simp only [supIndex, show (4 : Nat) ≠ 0 by decide, if_false, if_true]

theorem exec_inputStuckRelease_rackflt (h : s.getB (SEQ.INP_STAT_STUCK 0)) : exec (.inputStuckRelease .rackflt) s =
    .next (((((forAll 4 rackHigh ((((s.setF (SEQ.INP_STAT_STUCK 0) 0).endL 185).setF SEQ.SEQ_STAT_RACK_LOW 0).setF SEQ.SEQ_STAT_RACK_STUCK 0)).rackExt).setF
      (SEQ.INP_STAT_FILT 0) 0).setF (SEQ.INP_STAT_RAW 0) 0).setF (SEQ.INP_STAT_STUCK 0) 0) := if_pos h

/-- No input is stuck but RACKFLT_N. -/
abbrev noneStuck (s : State) : Bool := (List.range 6).all fun j => j = 0 || !s.getB (SEQ.INP_STAT_STUCK j)

theorem exec_inputStuckRelease (h : s.getB (SEQ.INP_STAT_STUCK (supIndex i))) (hrack : i ≠ .rackflt)
    (hnone : noneStuck (s.setF (SEQ.INP_STAT_STUCK (supIndex i)) 0)) : exec (.inputStuckRelease i) s =
      .next (((((s.setF (SEQ.INP_STAT_STUCK (supIndex i)) 0).endL 187).setF (SEQ.INP_STAT_FILT (supIndex i)) 0).setF (SEQ.INP_STAT_RAW (supIndex i)) 0).setF
        (SEQ.INP_STAT_STUCK (supIndex i)) 0) := by
  refine (if_pos h : execInputStuckRelease i s = _).trans ?_
  simp only [supIndex_ne_zero hrack, if_false]
  rw [if_pos hnone]

/-- The last stuck input is released. -/
theorem noneStuck_released {k : Nat} (hother : ∀ j : Fin 6, j.val ≠ 0 → j.val ≠ k → s.getB (SEQ.INP_STAT_STUCK j) = false) :
    noneStuck (s.setF (SEQ.INP_STAT_STUCK k) 0) := by
  have hsets : Sets s (s.setF (SEQ.INP_STAT_STUCK k) 0) [(SEQ.INP_STAT_STUCK k, 0)] := sets_refl.indexed (SEQ.INP_STAT_STUCK k) 0
  refine List.all_eq_true.2 fun j hj => ?_
  rw [Bool.or_eq_true, decide_eq_true_eq, Bool.not_eq_true']
  by_cases hzero : j = 0
  · exact .inl hzero
  · by_cases hk : j = k
    · rw [hk]
      exact .inr (getB_of_getF_toNat (b := false) (hsets.reads (SEQ.INP_STAT_STUCK k, 0) List.mem_cons_self))
    · have hkept := getB_of_sets hsets (SEQ.INP_STAT_STUCK j) (by simp [Apart, SEQ.INP_STAT]; omega)
      exact .inr (hkept.trans (hother ⟨j, List.mem_range.1 hj⟩ hzero hk))

theorem goesSet_inputStuckRelease (hrack : i ≠ .rackflt) (h : s.getB (SEQ.INP_STAT_STUCK (supIndex i)))
    (hother : ∀ j : Fin 6, j.val ≠ 0 → j.val ≠ supIndex i → s.getB (SEQ.INP_STAT_STUCK j) = false) : GoesSet (.inputStuckRelease i) s s
      ([(SEQ.INP_STAT_STUCK (supIndex i), 0), (SEQ.INP_STAT_FILT (supIndex i), 0), (SEQ.INP_STAT_RAW (supIndex i), 0)] ++ condEnd 187) := by
  refine goesSet_of_eq (exec_inputStuckRelease h hrack (noneStuck_released hother)) rfl ?_
  generalize supIndex i = k
  have hend : Sets s ((s.setF (SEQ.INP_STAT_STUCK k) 0).endL 187) _ := sets_endL (sets_refl.indexed (SEQ.INP_STAT_STUCK k) 0)
    (by simp [condEnd, Apart, SEQ.INP_STAT, FCOL.COND, FCOL.ACT])
  have hfilt := hend.indexed (SEQ.INP_STAT_FILT k) 0 (hl := by simp [condEnd, Apart, SEQ.INP_STAT, FCOL.COND, FCOL.ACT])
  have hraw := hfilt.indexed (SEQ.INP_STAT_RAW k) 0 (hl := by simp [condEnd, Apart, SEQ.INP_STAT, FCOL.COND, FCOL.ACT])
  refine sets_of_mem_iff (hraw.same (hraw.reads (SEQ.INP_STAT_STUCK k, 0) (by simp))) fun x => ?_
  simp only [List.mem_append, List.mem_cons, List.not_mem_nil, or_false]
  tauto

end Stuck

section Clear

/-- The two counters of an input cleared (R418). -/
abbrev inputClr (s : State) (k : Nat) : State := (s.setF (SEQ.INP_STAT_ACT k) 0).setF (SEQ.INP_STAT_CHAT k) 0

/-- The counters of the first `n` inputs. -/
abbrev inputZeros (n : Nat) : List (Fld × Nat) :=
  (List.range n).map (fun k => (SEQ.INP_STAT_ACT k, 0)) ++ (List.range n).map (fun k => (SEQ.INP_STAT_CHAT k, 0))

theorem inputZeros_addr {n : Nat} : ∀ x ∈ inputZeros n, x.1.lo + x.1.w ≤ 32 ∧ ∃ k < n, x.1.addr = SEQ.INP_STAT k := by
  intro x hx
  simp only [inputZeros, List.mem_append, List.mem_map, List.mem_range] at hx
  rcases hx with ⟨k, hk, rfl⟩ | ⟨k, hk, rfl⟩
  · exact ⟨by exact Nat.le_of_ble_eq_true rfl, k, hk, rfl⟩
  · exact ⟨by exact Nat.le_of_ble_eq_true rfl, k, hk, rfl⟩

theorem sets_inputsClr (n : Nat) : Sets s (forAll n inputClr s) (inputZeros n) := by
  induction n with
  | zero => exact sets_refl
  | succ n ih =>
    have happ {f : Fld} (hf : f.addr = SEQ.INP_STAT n) : ∀ x ∈ inputZeros n, x.1.lo + x.1.w ≤ 32 ∧ Apart x.1 f := fun x hx => by
      obtain ⟨hw, k, hk, haddr⟩ := inputZeros_addr x hx
      exact ⟨hw, .inl (by rw [haddr, hf]; simp only [SEQ.INP_STAT]; omega)⟩
    have hact := ih.indexed (SEQ.INP_STAT_ACT n) 0 (hl := happ rfl)
    have hboth := hact.indexed (SEQ.INP_STAT_CHAT n) 0 (hl := fun x hx => by
      rcases List.mem_append.1 hx with hx | hx
      · exact happ rfl x hx
      · rw [List.mem_singleton.1 hx]
        simp [Apart])
    rw [forAll_succ]
    refine sets_of_mem_iff hboth fun x => ?_
    simp only [inputZeros, List.range_succ, List.map_append, List.map_cons, List.map_nil, List.mem_append, List.mem_singleton]
    tauto

theorem wordActs_seqCntClr (old : Word) : s.wordActs r .seq 0 0 SEQ.CNT_CTRL 1#32 old = seqCntClr s := rfl

theorem goesSet_seqCntClr (h : Accepts s r SEQ.CNT_CTRL 1) : GoesSet (.seqCntClr r) s (Stored s r SEQ.CNT_CTRL 1) (inputZeros 6) :=
  goesSet_of_eq (congrArg Host.Outcome.next ((hostWrite_accepted h regAt_seqCntCtrl).trans (wordActs_seqCntClr _))) rfl (sets_inputsClr 6)

end Clear

/-- Settles O22: requests by the group's state, the low line by the groups that it acts on (a descent leaves what the others are judged by), the inputs
by what each acts on. Asserted with it are the model's choices of log entry 135 and of log entry 94 (the timers count evaluations). -/
theorem sequencerGroups : Obligations.SequencerGroups := by
  unfold Obligations.SequencerGroups
  refine ⟨fun r g s => exec_grpCmdUp, fun r g s h hlive => goesSet_grpCmdUp_up hlive h, fun r g s h hlive => goesSet_grpCmdUp_latched hlive h,
    fun r g s h hlive => goesSet_grpCmdUp_rackHeld hlive h, fun r g s h hlive => goesSet_grpCmdUp_vinHeld hlive h, fun r g s => exec_grpCmdDown,
    fun r g s h hlive => goesSet_grpCmdDown_rest hlive h, fun r g s h hlive => goesSet_grpCmdDown_off hlive h, fun g s => goesSet_tRestExpiry,
    fun g s => exec_tRestExpiry_latched, fun s => goesSet_rstOutRelease, fun s => goesSet_rackfltLowSeen_stuck, fun s => goesSet_rackfltLowSeen_own,
    fun s => exec_rackfltLowSeen_none, fun g s u => exec_rackfltLowSeen_single, fun s => exec_rackfltHigh100ms,
    fun s hop hself hfree _ => goesSet_rackfltHigh100ms hop hself hfree, fun s => goesSet_rackfltPullRelease,
    fun i active chatter s => goesSet_inputFilterChange, fun active chatter s => goesSet_inputFilterChange_wake,
    fun chatter s => goesSet_inputFilterChange_belayLow, fun chatter s => goesSet_inputFilterChange_belayHigh,
    fun chatter s => goesSet_inputFilterChange_rackHigh, fun i s hop hrun hrack hbelay htimed hactive hnew hruns hl => ?timer,
    fun s hop hrun htimed hactive hnew hself hl => ?rackflt, fun s hop hrun htimed hactive hnew hruns hl => ?belay,
    fun i s => goesSet_inputStuckRelease, fun s => exec_inputStuckRelease_rackflt, fun r s => goesSet_seqCntClr⟩
  case timer => exact exec_inputStuckTimer ⟨hop, hrun, htimed, hactive, hnew, hruns⟩ hl hrack hbelay
  case rackflt => exact exec_inputStuckTimer_rackflt ⟨hop, hrun, htimed, hactive, hnew, by simp [stuckTimerRuns, hself]⟩ hl
  case belay => exact exec_inputStuckTimer_belayN ⟨hop, hrun, htimed, hactive, hnew, hruns⟩ hl

end Sys2Proof.Proofs
end

section
/-! SUPPORT. Roles of a redundant pair (chapter 15): takeover, handover and demotion, the proof test, BELAY_N and revert. -/

namespace Sys2Proof.Proofs

open Machine Machine.State Laws

-- One proof after the other: side by side they take more threads than the check's memory has stacks for.
set_option Elab.async false

variable {s t u : State} {r : Requester}

/-! ### The groups that follow the active role (R469) -/

section ActGroups

/-- Nothing changes beside the registers of the groups and the slots, and the sequencer's own state. -/
structure SequencerMoves (s t : State) : Prop where
  regs : RegsKept (0x61000 ≤ ·) s t
  rest : t = { s with regs := t.regs, seq := t.seq }

theorem SequencerMoves.refl : SequencerMoves s s := ⟨regsKept_refl, rfl⟩

theorem SequencerMoves.trans (h : SequencerMoves s t) (h' : SequencerMoves t u) : SequencerMoves s u where
  regs a ha := (h'.regs a ha).trans (h.regs a ha)
  rest := by rw [h'.rest, h.rest]

theorem GroupMoves.moves {g : Nat} (h : GroupMoves g s t) : SequencerMoves s t where
  regs a ha := h.regs a (by simp only [GroupReg, SEQGRP.GRP_STAT, SEQGRP.GRP_CNT]; omega)
  rest := h.rest

theorem actGroups_moves (up : Bool) : SequencerMoves s (s.actGroups up) :=
  forAll_induct (motive := SequencerMoves s) .refl fun t g _ ht => ht.trans <| by
    split
    case isTrue => split; exacts [GroupMoves.refl.upRequest.moves, GroupMoves.refl.downRequest.moves]
    case isFalse => exact .refl

theorem SequencerMoves.getF (h : SequencerMoves s t) {f : Fld} (hf : f.addr < 0x61000 := by decide) : t.getF f = s.getF f :=
  getF_of_regsKept h.regs (Nat.not_le.2 hf)

theorem SequencerMoves.pair (h : SequencerMoves s t) : t.pair = s.pair := by rw [h.rest]

end ActGroups

/-! ### The active role ends (R460, R461) -/

section LeaveRole

/-- The role given up, before the groups follow. -/
abbrev roleLeft (s : State) : State :=
  (((s.incSat RIDGE.TAKEOVERS_YIELDED).setF RIDGE.PAIR_STAT_ACTIVE 0).updPair fun x =>
    { x with yieldReq := false, handover := false, yielded := false, settled := true, missRun := 0, copy := none }).updSample fun x =>
    { x with nextUs := none }

/-- The groups follow, and regulation ends. -/
abbrev groupsLeft (s : State) : State :=
  ((roleLeft s).showNextSsn.actGroups false).updShelf fun x => { x with startReg := false, plantOn := false }

theorem leaveRole_of_watch (h : (groupsLeft s).mode = mWATCH) : s.leaveRole = groupsLeft s := if_pos (.inr (.inl h))

theorem groupsLeft_getF {f : Fld} (hf : f.addr < 0x28000 := by decide) : (groupsLeft s).getF f = (roleLeft s).getF f :=
  (actGroups_moves false).getF (hf.trans (by decide)) |>.trans (getF_setReg_ne (f := f) (a := SAMPLE.NEXT_SSN) (by rw [SAMPLE.NEXT_SSN]; omega) _)

theorem groupsLeft_pair : (groupsLeft s).pair = (roleLeft s).pair := (actGroups_moves (s := (roleLeft s).showNextSsn) false).pair

theorem sets_roleLeft : Sets s ((s.incSat RIDGE.TAKEOVERS_YIELDED).setF RIDGE.PAIR_STAT_ACTIVE 0)
    [oneMore s RIDGE.TAKEOVERS_YIELDED, (RIDGE.PAIR_STAT_ACTIVE, 0)] :=
  (sets_refl.counted RIDGE.TAKEOVERS_YIELDED).field RIDGE.PAIR_STAT_ACTIVE 0 (hl := by simp [Apart, oneMore])

theorem groupsLeft_active : (groupsLeft s).getB RIDGE.PAIR_STAT_ACTIVE = false :=
  getB_of_getF_toNat (b := false) ((groupsLeft_getF).trans (sets_roleLeft.reads (RIDGE.PAIR_STAT_ACTIVE, 0) (by simp)))

theorem groupsLeft_mode : (groupsLeft s).mode = s.mode :=
  (groupsLeft_getF).trans (sets_roleLeft.kept DEV.MODE_STAT_MODE (by simp [Apart, oneMore]))

theorem exec_plannedHandoverBoundary (hop : s.operating) (hpair : s.isPair) (hact : s.getB RIDGE.PAIR_STAT_ACTIVE) (hover : s.pair.handover) :
    exec .plannedHandoverBoundary s = .next s.leaveRole := if_pos ⟨hop, hpair, hact, hover⟩

theorem goes_plannedHandoverBoundary (hop : s.operating) (hpair : s.isPair) (hact : s.getB RIDGE.PAIR_STAT_ACTIVE) (hover : s.pair.handover)
    (hmode : s.mode = mWATCH) : Goes .plannedHandoverBoundary s (fun t => t.getB RIDGE.PAIR_STAT_ACTIVE = false ∧ t.pair.handover = false ∧
      t.pair.copy = none ∧ t.shelf.plantOn = false ∧ t.mode = mWATCH) := by
  have hwatch : (groupsLeft s).mode = mWATCH := groupsLeft_mode.trans hmode
  refine ⟨_, exec_plannedHandoverBoundary hop hpair hact hover, ?_⟩
  rw [leaveRole_of_watch hwatch]
  exact ⟨groupsLeft_active, by rw [groupsLeft_pair]; rfl, by rw [groupsLeft_pair]; rfl, rfl, hwatch⟩

end LeaveRole

/-! ### The active role begins without a copy (R447, R458) -/

section TakeRole

variable {e : Nat}

/-- The registers of the role: PAIR_STAT, EPOCH, and those from the ports on. -/
abbrev RoleReg (a : Nat) : Prop := a = RIDGE.PAIR_STAT ∨ a = RIDGE.EPOCH ∨ 0x10000 ≤ a

/-- The epoch in force in every port and shown, and the role shown. -/
abbrev epochTaken (s : State) (e : Nat) : State := (s.setEpoch e).setF RIDGE.PAIR_STAT_ACTIVE 1

/-- The epoch of one port. -/
theorem txEpoch_steps (h : RegsKept RoleReg s t ∧ t = { s with regs := t.regs }) (n : Nat) :
    RegsKept RoleReg s (t.txEpoch n e) ∧ t.txEpoch n e = { s with regs := (t.txEpoch n e).regs } := by
  obtain ⟨hregs, hrest⟩ := h
  have hport : RegsKept RoleReg s (t.setF (YPORT.EPOCH_TX_EPOCH n) e) := regsKept_setF hregs (.inr (.inr (by simp only [YPORT.EPOCH]; omega))) e
  have hportRest : t.setF (YPORT.EPOCH_TX_EPOCH n) e = { s with regs := (t.setF (YPORT.EPOCH_TX_EPOCH n) e).regs } :=
    congrArg (State.setF · (YPORT.EPOCH_TX_EPOCH n) e) hrest
  unfold txEpoch
  dsimp only
  split
  case isTrue => exact ⟨hport, hportRest⟩
  case isFalse =>
    exact ⟨regsKept_setF (f := pgChgCount (pYPORT n)) hport (.inr (.inr (by simp only [pgChg, pYPORT]; omega))) _,
      congrArg (fun u : State => u.countChg (pYPORT n)) hportRest⟩

theorem epochTaken_steps : RegsKept RoleReg s (epochTaken s e) ∧
    epochTaken s e = { s with regs := (epochTaken s e).regs, pair := { s.pair with epoch := e } } := by
  have hports := forAll_induct (m := 24) (f := fun s n => s.txEpoch n e) (s := { s with pair := { s.pair with epoch := e } })
    (motive := fun t => RegsKept RoleReg { s with pair := { s.pair with epoch := e } } t ∧
      t = { s with pair := { s.pair with epoch := e }, regs := t.regs })
    ⟨regsKept_refl, rfl⟩ fun t n _ ht => txEpoch_steps ht n
  obtain ⟨hregs, hrest⟩ := hports
  exact ⟨regsKept_setF (regsKept_setF hregs (f := RIDGE.EPOCH_EPOCH) (.inr (.inl rfl)) e) (f := RIDGE.PAIR_STAT_ACTIVE) (.inl rfl) 1,
    congrArg (fun u : State => (u.setF RIDGE.EPOCH_EPOCH e).setF RIDGE.PAIR_STAT_ACTIVE 1) hrest⟩

theorem epochTaken_active : (epochTaken s e).getF RIDGE.PAIR_STAT_ACTIVE = 1 := getF_setF_self (by decide) 1

theorem epochTaken_epoch (he : e < 2 ^ 16) : (epochTaken s e).getF RIDGE.EPOCH_EPOCH = e := by
  rw [getF_setF_addr (by decide), setEpoch, getF_setF_self (by decide)]
  exact Nat.mod_eq_of_lt he

theorem newEpoch_lt : s.newEpoch < 2 ^ 16 := Nat.mod_lt _ (by decide)

/-- What the active role begins with beside the registers, before the groups follow. -/
abbrev roleTaken (s : State) (e : Nat) : State :=
  (((epochTaken s e).updShelf fun x => { x with plantOn := true, plantUs := 0, startReg := true }).updSample fun x =>
    { x with nextUs := none }).updPair fun x =>
    { x with settled := true, missRun := 0, yieldSeen := false, taking := false, handover := false, partnerHeld := false, copy := none,
             yieldReq := false, yielded := false }

theorem takeRole_eq : s.takeRole false = (roleTaken s s.newEpoch).showNextSsn.actGroups true := rfl

theorem takeRole_getF {f : Fld} (hf : f.addr < 0x28000 := by decide) : (s.takeRole false).getF f = (epochTaken s s.newEpoch).getF f := by
  rw [takeRole_eq, (actGroups_moves true).getF (hf.trans (by decide))]
  exact getF_setReg_ne (f := f) (a := SAMPLE.NEXT_SSN) (by rw [SAMPLE.NEXT_SSN]; omega) _

/-- What the role does not write reads as before. -/
theorem takeRole_kept {f : Fld} (hf : ¬ RoleReg f.addr) : (s.takeRole false).getF f = s.getF f := by
  simp only [RoleReg, not_or, Nat.not_le] at hf
  rw [takeRole_getF (hf.2.2.trans (by decide))]
  exact getF_of_regsKept epochTaken_steps.1 (by simp only [RoleReg]; omega)

theorem takeRole_rest : s.takeRole false = { roleTaken s s.newEpoch with regs := (s.takeRole false).regs, seq := (s.takeRole false).seq } := by
  rw [takeRole_eq, (actGroups_moves true).rest]
  rfl

theorem epochTaken_pair : (epochTaken s e).pair = { s.pair with epoch := e } := by rw [epochTaken_steps.2]

theorem takeRole_pair : (s.takeRole false).pair = { s.pair with
    epoch := s.newEpoch, settled := true, missRun := 0, yieldSeen := false, taking := false, handover := false, partnerHeld := false, copy := none,
    yieldReq := false, yielded := false } := by
  have hpair : (s.takeRole false).pair = (roleTaken s s.newEpoch).pair := by rw [takeRole_rest]
  rw [hpair, updPair_pair, updSample_pair, updShelf_pair, epochTaken_pair]

theorem takeRole_cairn : (s.takeRole false).cairn = s.cairn := by
  have hcairn : (epochTaken s s.newEpoch).cairn = s.cairn := by rw [epochTaken_steps.2]
  rw [takeRole_rest]
  exact hcairn

end TakeRole


/-! ### The time through a raise: no reaction outside DORMANT moves it -/

section Time

variable {T : Nat}

/-- The operating time is `T`, and the controller is not in DORMANT, whose time a reset adds (Table 3-18). -/
structure TimeIs (T : Nat) (s : State) : Prop where
  now : s.dev.nowUs = T
  awake : s.mode ≠ mDORMANT

namespace TimeIs

theorem of_mode (h : TimeIs T s) (hdev : t.dev.nowUs = s.dev.nowUs) (hmode : t.mode = s.mode) : TimeIs T t := ⟨hdev.trans h.now, hmode.trans_ne h.awake⟩

theorem setF (h : TimeIs T s) {f : Fld} (v : Nat) (hf : Apart DEV.MODE_STAT_MODE f := by simp [Apart]) : TimeIs T (s.setF f v) :=
  h.of_mode rfl (getF_setF_apart (by decide) hf v)

theorem logged (h : TimeIs T s) (hlog : Logged s t) : TimeIs T t := h.of_mode (by rw [hlog.dev]) (hlog.getF (by decide))

theorem moves (h : TimeIs T s) (hm : SequencerMoves s t) : TimeIs T t := h.of_mode (by rw [hm.rest]) hm.getF

theorem ite {c : Prop} [Decidable c] (h : TimeIs T s) (h' : TimeIs T t) : TimeIs T (if c then s else t) := by
  split <;> assumption

/-- Another mode is shown. -/
theorem modeSet (h : s.dev.nowUs = T) {m old : Nat} (hm : m = mWATCH ∨ m = mDEGRADED) :
    TimeIs T ((s.setF DEV.MODE_STAT_PREV_MODE old).setF DEV.MODE_STAT_MODE m) where
  now := h
  awake := by
    have hmode : ((s.setF DEV.MODE_STAT_PREV_MODE old).setF DEV.MODE_STAT_MODE m).mode = m % 8 := getF_setF_self (by decide) m
    rw [hmode]
    rcases hm with rfl | rfl <;> decide

theorem cnCollapse (h : TimeIs T s) (outcome : Nat) : TimeIs T (s.cnCollapse outcome) := by
  have hphi (x : Word) (f : CorniceSt → CorniceSt) : TimeIs T ((s.updCn f).setReg CORNICE.PHI_REQ x) :=
    of_mode (t := (s.updCn f).setReg CORNICE.PHI_REQ x) h rfl (getF_setReg_ne (f := DEV.MODE_STAT_MODE) (a := CORNICE.PHI_REQ) (by decide) x)
  have hramp (x : Word) (f : CorniceSt → CorniceSt) : TimeIs T (((s.updCn f).setReg CORNICE.PHI_REQ x).incSat CORNICE.CNT_B_COLLAPSE) :=
    (hphi x f).setF (f := CORNICE.CNT_B_COLLAPSE) _
  have hend {u : State} (hu : TimeIs T u) : TimeIs T ((u.setF CORNICE.CN_STAT_OUTCOME outcome).setF CORNICE.CN_STAT_STATE cnCOLLAPSING) :=
    (hu.setF (f := CORNICE.CN_STAT_OUTCOME) outcome).setF (f := CORNICE.CN_STAT_STATE) cnCOLLAPSING
  unfold State.cnCollapse
  dsimp only
  refine ite (h.setF (f := CORNICE.CN_STAT_STATE) cnIDLE) (ite (hend ?_) h)
  exact ite ((hramp _ _).setF (f := CORNICE.CNT_C_MISS) _) (hramp _ _)

end TimeIs

theorem groupOff_moves (g slot : Nat) : SequencerMoves s (s.groupOff g slot) := by
  have hdown : GroupMoves g s (s.enterDescend g) := GroupMoves.refl.enterDescend
  have hcount := hdown.setF (f := SEQGRP.GRP_CNT_FAULT_OFFS g) (.inr (.inl rfl))
  exact (((GroupMoves.ite (hcount _) hdown).setStat (f := SEQGRP.GRP_STAT_FAULT_SLOT g) rfl slot).setStat (f := SEQGRP.GRP_STAT_FAULTED g) rfl 1).moves

theorem timeIs_safeReact (h : TimeIs T s) : TimeIs T s.safeReact := by
  have hinhibit : TimeIs T (({ s with dev := { s.dev with ackSinceSafe := false }, shelf := { s.shelf with safeNow := true } } : State).setF
      DEV.MODE_STAT_SHELF_INHIBIT 1) :=
    (TimeIs.of_mode (t := { s with dev := { s.dev with ackSinceSafe := false }, shelf := { s.shelf with safeNow := true } }) h rfl rfl).setF
      (f := DEV.MODE_STAT_SHELF_INHIBIT) 1
  refine forAll_induct (motive := TimeIs T) (hinhibit.cnCollapse ocFAULT) fun t g _ ht => ?_
  split
  exacts [ht.moves (groupOff_moves g 0xFF), ht]

theorem timeIs_deviceReset (h : TimeIs T s) (bit : Nat) : TimeIs T (s.deviceReset bit) := by
  have haged : s.aged = s := if_pos h.awake
  refine ⟨?_, ?_⟩
  · rw [State.deviceReset, haged, causeBit, setF_dev, setF_dev, resetAll_nowUs, h.now]
  · have hmode : (s.deviceReset bit).mode = s.resetAll.mode := by
      rw [State.deviceReset, haged, mode, causeBit, getF_setF_addr (by decide),
        getF_setF_addr (f := DEV.MODE_STAT_MODE) (show DEV.MODE_STAT ≠ DEV.RST_CAUSE by decide), mode]
    rw [hmode, resetAll_mode]
    decide

/-- The sources that the mode's change, hold-up's end and the recorder's fill raise: none has a unit. -/
abbrev Unitless (src : Nat) : Prop := src ∈ [11, 109, 227, 228]

theorem unitOf_of_unitless {src : Nat} (h : Unitless src) (d : List Nat) : unitOf src d = .none := by
  simp only [Unitless, List.mem_cons, List.not_mem_nil, or_false] at h
  rcases h with rfl | rfl | rfl | rfl <;> rfl

/-- What the raises that a reaction makes itself are assumed to keep. -/
abbrev RaisesInTime (T n : Nat) : Prop := ∀ {s src data how}, Unitless src → TimeIs T s → TimeIs T (raiseN n s src data how)

section Reactions

variable {n : Nat} (ih : RaisesInTime T n)

include ih

theorem timeIs_safeReaction (h : TimeIs T s) : TimeIs T (safeReaction n s) := by
  have hsafe := timeIs_safeReact h
  have hheld {data : List Nat} : TimeIs T (raiseN n (s.safeReact.setF HOLDUP.HU_STAT_STATE 0) 109 data .plain) :=
    ih (by decide) (hsafe.setF (f := HOLDUP.HU_STAT_STATE) 0)
  unfold safeReaction
  dsimp only
  split_ifs
  exacts [ih (by decide) (.modeSet hheld.now (.inr rfl)), ih (by decide) (.modeSet hsafe.now (.inr rfl)), hheld, hsafe]

theorem timeIs_fillReaction (h : TimeIs T s) : TimeIs T (fillReaction n s) := by
  have hwarned {t : State} {k : Nat} {data : List Nat} {how : RaiseHow} (hk : Unitless k) (hcond : FCOL.COND (k / 32) ≠ DEV.MODE_STAT) (ht : TimeIs T t) :
      TimeIs T (raiseN n (t.setCond k true) k data how) := ih hk (ht.setF (f := (condOf k).1) 1 (.inl hcond.symm))
  have hfirst := hwarned (k := 227) (data := leBytes 4 (s.getN CAIRN.LOST)) (how := .plain) (by decide) (by decide) h
  unfold fillReaction
  dsimp only
  split_ifs
  exacts [hwarned (by decide) (by decide) hfirst, hfirst, hwarned (by decide) (by decide) h, h]

theorem timeIs_severityReaction (sev : Nat) (h : TimeIs T s) : TimeIs T (severityReaction n sev s) := by
  have hheld : TimeIs T (if sev = 5 then { s with dev := { s.dev with takeoverHeld := true } } else s) := by
    split
    exacts [⟨h.now, h.awake⟩, h]
  unfold severityReaction
  dsimp only
  generalize (if sev = 5 then { s with dev := { s.dev with takeoverHeld := true } } else s) = t at hheld ⊢
  have hyielded : TimeIs T { t with pair := { t.pair with yielded := true } } := ⟨hheld.now, hheld.awake⟩
  split_ifs
  exacts [hheld, timeIs_deviceReset hheld _, hyielded.setF (f := RIDGE.PAIR_STAT_BELAY_OWN) 0,
    timeIs_fillReaction ih (timeIs_safeReaction ih hheld), timeIs_fillReaction ih hheld]

end Reactions

theorem timeIs_raiseN (n : Nat) : RaisesInTime T n := by
  have hbound {src : Nat} (hsrc : Unitless src) : src < 256 ∧ ¬ (16 ≤ src ∧ src < 64) := by
    simp only [Unitless, List.mem_cons, List.not_mem_nil, or_false] at hsrc
    omega
  induction n with
  | zero => exact fun hsrc h => h.logged (logged_setAct logged_refl (hbound hsrc).1 true)
  | succ n ih =>
    intro s src data how hsrc h
    have hnone : ¬ ((3 ≤ effSev ((s.setAct src true).getF (FCOL_SEV.SEV_SEV src)) src data how ∧ unitOf src data ≠ .none) ∨
        (how ≠ .injected ∧ 16 ≤ src ∧ src < 64 ∧ src % 2 = 0 ∧ data.getD 0 0 = 3)) := by
      rintro (⟨-, hunit⟩ | ⟨-, hlo, hhi, -⟩)
      exacts [hunit (unitOf_of_unitless hsrc data), (hbound hsrc).2 ⟨hlo, hhi⟩]
    rw [raiseN_succ]
    dsimp only
    rw [if_neg hnone]
    exact timeIs_severityReaction ih _ (h.logged (logged_logRaise (logged_setAct logged_refl (hbound hsrc).1 true) _ _ _ _))

theorem leaveRole_nowUs : s.leaveRole.dev.nowUs = s.dev.nowUs := by
  have hgroups : (groupsLeft s).dev = s.dev := by rw [groupsLeft, updShelf_dev, (actGroups_moves false).rest]; rfl
  have hleave : s.leaveRole = if (groupsLeft s).proofBusy ∨ (groupsLeft s).mode = mWATCH ∨ (groupsLeft s).getB DEV.MODE_STAT_DESCENT then groupsLeft s
      else (groupsLeft s).setMode mWATCH := rfl
  rw [hleave]
  split
  case isTrue => rw [hgroups]
  case isFalse =>
    have hwatch : (groupsLeft s).runEntry mWATCH = groupsLeft s := if_neg (by decide)
    rw [setMode, hwatch]
    exact (timeIs_raiseN 8 (by decide) (.modeSet (congrArg DevSt.nowUs hgroups) (.inl rfl))).now

end Time

/-! ### A takeover without a copy (R457, R458) -/

section TakeOver

variable {m code : Nat}

/-- The mode shown, before FS_DEV_MODE. -/
abbrev modeShown (s : State) (m : Nat) : State := ((s.runEntry m).setF DEV.MODE_STAT_PREV_MODE s.mode).setF DEV.MODE_STAT_MODE m

theorem runEntry_pair : (s.runEntry m).pair = s.pair := by
  unfold runEntry
  split <;> rfl

theorem runEntry_cairn : (s.runEntry m).cairn = s.cairn := by
  unfold runEntry
  split <;> rfl

theorem runEntry_getF {f : Fld} : (s.runEntry m).getF f = s.getF f := by
  unfold runEntry
  split <;> rfl

theorem modeShown_getF {f : Fld} (hf : f.addr ≠ DEV.MODE_STAT := by decide) : (modeShown s m).getF f = s.getF f :=
  (getF_setF_addr hf m).trans ((getF_setF_addr hf _).trans runEntry_getF)

theorem modeShown_mode (hm : m < 8) : (modeShown s m).mode = m := (getF_setF_self (by decide) m).trans (Nat.mod_eq_of_lt hm)

theorem modeShown_pair : (modeShown s m).pair = s.pair := runEntry_pair

theorem modeShown_cairn : (modeShown s m).cairn = s.cairn := runEntry_cairn

theorem runOrDegraded_cases (s : State) : s.runOrDegraded = mRUN ∨ s.runOrDegraded = mDEGRADED := by
  unfold runOrDegraded
  split
  · exact .inr rfl
  · exact .inl rfl

/-- The role taken, and the instant of it. -/
abbrev firstTaken (s : State) : State := (s.takeRole false).updPair fun x => { x with firstAt := some s.dev.nowUs }

theorem takeOver_of_no_copy (hcopy : s.pair.copy = none) : s.takeOver code = (forAll 24 resumeLearn (firstTaken s).takeMode).takeTell code := by
  simp only [takeOver, hcopy]
  rfl

/-- Without learning data nothing is resumed. -/
theorem resumeLearn_of_none (h : s.pair.rxLearn = []) (k : Nat) : s.resumeLearn k = s := if_pos (by rw [h]; rfl)

/-- The mode in force after the takeover. -/
abbrev modeTaken (s : State) : State := (firstTaken s).setMode (firstTaken s).runOrDegraded

theorem takeMode_of_rest (h : s.proofBusy = false) : (firstTaken s).takeMode = modeTaken s := by
  have hbusy : (firstTaken s).proofBusy = false := by
    rw [← h, proofBusy, proofBusy, updPair_getB, getB, takeRole_kept (by decide), getB]
  exact if_neg (by rw [hbusy]; decide)

section Quietly

variable (hsev : s.getF (FCOL_SEV.SEV_SEV 11) ≤ 2) (hfill : s.cairnN + 2 < 32704)

include hsev hfill

theorem quiet_modeTaken : Quiet (modeShown (firstTaken s) (firstTaken s).runOrDegraded) 11 where
  sev := by rwa [modeShown_getF, updPair_getF, takeRole_kept (by decide)]
  source := .inl (by decide)
  bound := by decide
  fill := by
    rw [cairnN, modeShown_cairn, updPair_cairn, takeRole_cairn]
    exact Nat.lt_of_succ_lt hfill

theorem logged_modeTaken : Logged (modeShown (firstTaken s) (firstTaken s).runOrDegraded) (modeTaken s) := logged_raise (quiet_modeTaken hsev hfill) _

theorem modeTaken_getF {f : Fld} (hf : f.addr ≠ DEV.MODE_STAT := by decide) (hlog : ¬ LogReg f.addr := by decide) :
    (modeTaken s).getF f = (s.takeRole false).getF f := by
  rw [(logged_modeTaken hsev hfill).getF hlog, modeShown_getF hf, updPair_getF]

theorem modeTaken_mode : (modeTaken s).mode = mRUN ∨ (modeTaken s).mode = mDEGRADED := by
  have hmode : (modeTaken s).mode = (firstTaken s).runOrDegraded :=
    ((logged_modeTaken hsev hfill).getF (by decide)).trans (modeShown_mode (by rcases runOrDegraded_cases (firstTaken s) with h | h <;> rw [h] <;> decide))
  rw [hmode]
  exact runOrDegraded_cases _

theorem modeTaken_pair : (modeTaken s).pair = (firstTaken s).pair := by
  have hpair : (modeTaken s).pair = (modeShown (firstTaken s) (firstTaken s).runOrDegraded).pair := by rw [(logged_modeTaken hsev hfill).rest]
  exact hpair.trans modeShown_pair

theorem modeTaken_cairnN : (modeTaken s).cairnN ≤ s.cairnN + 1 := by
  have hbefore : (modeShown (firstTaken s) (firstTaken s).runOrDegraded).cairnN = s.cairnN := by
    rw [cairnN, modeShown_cairn, updPair_cairn, takeRole_cairn, cairnN]
  exact hbefore ▸ cairnN_raise (quiet_modeTaken hsev hfill) _

end Quietly

/-- The takeover counted and its code shown. -/
theorem sets_taken (hcode : code < 16) : Sets s ((s.incSat RIDGE.TAKEOVERS_TAKEN).setF RIDGE.PAIR_STAT_LAST_TAKE code)
    [oneMore s RIDGE.TAKEOVERS_TAKEN, (RIDGE.PAIR_STAT_LAST_TAKE, code)] :=
  (sets_refl.counted RIDGE.TAKEOVERS_TAKEN).field RIDGE.PAIR_STAT_LAST_TAKE code hcode (hl := by simp [Apart, oneMore])

theorem logged_takeTell (hcode : code < 16) (hsev : s.getF (FCOL_SEV.SEV_SEV 211) ≤ 2) (hfill : s.cairnN + 1 < 32704) :
    Logged ((s.incSat RIDGE.TAKEOVERS_TAKEN).setF RIDGE.PAIR_STAT_LAST_TAKE code) (s.takeTell code) :=
  logged_raise (Quiet.of_sets ⟨hsev, .inr (by decide), by decide, hfill⟩ (sets_taken hcode) (by simp [Apart, oneMore])) _

/-- A field apart from the counter, the code and the logs reads as before. -/
theorem takeTell_getF (hcode : code < 16) (hsev : s.getF (FCOL_SEV.SEV_SEV 211) ≤ 2) (hfill : s.cairnN + 1 < 32704) {f : Fld}
    (hlog : ¬ LogReg f.addr := by decide) (ht : Apart f RIDGE.TAKEOVERS_TAKEN := by simp [Apart]) (hc : Apart f RIDGE.PAIR_STAT_LAST_TAKE := by simp [Apart])
    (hw : f.lo + f.w ≤ 32 := by decide) : (s.takeTell code).getF f = s.getF f :=
  ((logged_takeTell hcode hsev hfill).getF hlog).trans ((sets_taken hcode).keeps f hw (by simp [oneMore]; exact ⟨ht, hc⟩))

/-- A takeover's trigger that is ready and that nothing blocks (R457). -/
structure TakeReady (s : State) : Prop where
  op : s.operating
  standby : s.isStandby
  free : s.takeBlocked = false
  held : s.dev.late = []

theorem exec_takeover_missedCopies (h : TakeReady s) (hready : 3 ≤ s.pair.missRun) : exec (.takeover .missedCopies) s = .next (s.takeOver 1) :=
  (heldRun_of_late_nil h.held : execTakeover .missedCopies s = _).trans (if_pos ⟨h.op, h.standby, decide_eq_true hready, h.free⟩)

theorem exec_takeover_yield (h : TakeReady s) (hready : s.pair.yieldSeen) : exec (.takeover .yield) s = .next (s.takeOver 2) :=
  (heldRun_of_late_nil h.held : execTakeover .yield s = _).trans (if_pos ⟨h.op, h.standby, hready, h.free⟩)

theorem exec_takeover_tokenRelease (h : TakeReady s) (hready : s.tokenGone) : exec (.takeover .tokenRelease) s = .next (s.takeOver 3) :=
  (heldRun_of_late_nil h.held : execTakeover .tokenRelease s = _).trans (if_pos ⟨h.op, h.standby, hready, h.free⟩)

theorem goes_takeover_yield (h : TakeReady s) (hready : s.pair.yieldSeen) (hcopy : s.pair.copy = none) (hlearn : s.pair.rxLearn = [])
    (hproof : s.proofBusy = false) (hmode : s.getF (FCOL_SEV.SEV_SEV 11) ≤ 2) (htell : s.getF (FCOL_SEV.SEV_SEV 211) ≤ 2) (hfill : s.cairnN + 2 < 32704) :
    Goes (.takeover .yield) s (fun t => t.getB RIDGE.PAIR_STAT_ACTIVE = true ∧ t.getF RIDGE.PAIR_STAT_LAST_TAKE = 2 ∧
      t.getF RIDGE.EPOCH_EPOCH = s.newEpoch ∧
      t.pair.epoch = s.newEpoch ∧ t.pair.yieldSeen = false ∧ t.pair.firstAt = some s.dev.nowUs ∧ (t.mode = mRUN ∨ t.mode = mDEGRADED)) := by
  have hpair := modeTaken_pair hmode hfill
  have hrest : forAll 24 resumeLearn (modeTaken s) = modeTaken s := forAll_self fun k _ =>
    resumeLearn_of_none (by rw [hpair, updPair_pair, takeRole_pair]; exact hlearn) k
  have htell' : (modeTaken s).getF (FCOL_SEV.SEV_SEV 211) ≤ 2 := by
    rwa [modeTaken_getF hmode hfill, takeRole_kept (by decide)]
  have hfill' : (modeTaken s).cairnN + 1 < 32704 := (Nat.succ_le_succ (modeTaken_cairnN hmode hfill)).trans_lt hfill
  have hlogged := logged_takeTell (code := 2) (by decide) htell' hfill'
  have htold : ((modeTaken s).takeTell 2).pair = (firstTaken s).pair := by rw [hlogged.rest]; exact hpair
  refine ⟨_, (exec_takeover_yield h hready).trans (by rw [takeOver_of_no_copy hcopy, takeMode_of_rest hproof, hrest]), ?_, ?_, ?_, ?_, ?_, ?_, ?_⟩
  · refine getB_of_getF_toNat (b := true) ?_
    rw [takeTell_getF (by decide) htell' hfill', modeTaken_getF hmode hfill, takeRole_getF, epochTaken_active]
    rfl
  · exact (hlogged.getF (by decide)).trans ((sets_taken (code := 2) (by decide)).reads (RIDGE.PAIR_STAT_LAST_TAKE, 2) (by simp))
  · rw [takeTell_getF (by decide) htell' hfill', modeTaken_getF hmode hfill, takeRole_getF, epochTaken_epoch newEpoch_lt]
  · rw [htold, updPair_pair, takeRole_pair]
  · rw [htold, updPair_pair, takeRole_pair]
  · rw [htold, updPair_pair]
  · have hkept : ((modeTaken s).takeTell 2).mode = (modeTaken s).mode := takeTell_getF (by decide) htell' hfill'
    rw [hkept]
    exact modeTaken_mode hmode hfill

end TakeOver

/-! ### The words of PAIR_CMD and CNT_CTRL (R460, R471, R473) -/

section Commands

variable {w : Nat}

theorem wordActs_pairCmd (x old : Word) : s.wordActs r .ridge 0 0 RIDGE.PAIR_CMD x old = s.pairCmd (x.getLsbD 1) (x.getLsbD 0) := rfl

theorem hostWrite_pairCmd (h : Accepts s r RIDGE.PAIR_CMD w) : s.hostWrite r RIDGE.PAIR_CMD (BitVec.ofNat 32 w) =
    (Stored s r RIDGE.PAIR_CMD w).pairCmd ((BitVec.ofNat 32 w).getLsbD 1) ((BitVec.ofNat 32 w).getLsbD 0) :=
  (hostWrite_accepted h regAt_pairCmd).trans (wordActs_pairCmd _ _)

theorem stored_pairCmd_getF {f : Fld} (ha : f.addr ≠ RIDGE.PAIR_CMD := by decide) (hc : f.addr ≠ pgChg pRIDGE := by decide) :
    (Stored s r RIDGE.PAIR_CMD w).getF f = s.getF f := stored_getF (homeOf_plain (by decide) (.inl (by decide))) ha hc

theorem stored_pairCmd_getB {f : Fld} (ha : f.addr ≠ RIDGE.PAIR_CMD := by decide) (hc : f.addr ≠ pgChg pRIDGE := by decide) :
    (Stored s r RIDGE.PAIR_CMD w).getB f = s.getB f := by rw [getB, stored_pairCmd_getF ha hc, getB]

theorem stored_form {a : Nat} : (Stored s r a w).dev.form = s.dev.form := by
  unfold Stored
  split
  · obtain ⟨x, hx⟩ := ownerTouch_eq (s := s) (r := r) (a / 0x1000)
    simp only [hx, noteLate]
    split <;> rfl
  · rfl

theorem stored_isPair {a : Nat} : (Stored s r a w).isPair = s.isPair := by rw [isPair, stored_form, isPair]

theorem pairCmd_solo {yield_ proof : Bool} (h : s.isPair = false) : s.pairCmd yield_ proof = s := if_pos (by rw [h]; rfl)

/-- YIELD of the active controller with a healthy partner is remembered (R460). -/
theorem pairCmd_yield (hpair : s.isPair) : s.pairCmd true false =
    if s.getB RIDGE.PAIR_STAT_ACTIVE ∧ s.getB RIDGE.PAIR_STAT_PARTNER_HEALTHY then s.updPair (fun x => { x with yieldReq := true }) else s := by
  simp only [pairCmd, hpair, Bool.not_true, Bool.false_eq_true, if_false, Bool.not_false, if_true, true_and]

/-- The conditions of the proof test (R471). -/
abbrev ProofMay (s : State) : Prop :=
  s.getB RIDGE.PAIR_STAT_ACTIVE = false ∧ s.mode = mSERVICE ∧ s.getF RIDGE.PAIR_STAT_PARTNER_MODE = mSERVICE ∧ s.proofBusy = false

theorem pairCmd_proof (hpair : s.isPair) : s.pairCmd false true =
    if ProofMay s then (s.setN RIDGE.PROOF_STAT (2 ^ 31)).updPair (fun x => { x with proofActive := s.getB RIDGE.PAIR_STAT_ACTIVE })
    else s.setF RIDGE.PROOF_STAT_RESULT 3 := by
  simp only [pairCmd, hpair, Bool.not_true, Bool.false_eq_true, if_false, false_and, ProofMay, Bool.not_eq_true']

theorem exec_pairCmdYield (h : Accepts s r RIDGE.PAIR_CMD 2) : exec (.pairCmdYield r) s = .next ((Stored s r RIDGE.PAIR_CMD 2).pairCmd true false) :=
  congrArg Host.Outcome.next (hostWrite_pairCmd h)

theorem exec_pairCmdProof (h : Accepts s r RIDGE.PAIR_CMD 1) : exec (.pairCmdProof r) s = .next ((Stored s r RIDGE.PAIR_CMD 1).pairCmd false true) :=
  congrArg Host.Outcome.next (hostWrite_pairCmd h)

theorem goesSet_pairCmdYield (h : Accepts s r RIDGE.PAIR_CMD 2) (hpair : s.isPair) (hact : s.getB RIDGE.PAIR_STAT_ACTIVE)
    (hpartner : s.getB RIDGE.PAIR_STAT_PARTNER_HEALTHY) :
    GoesSet (.pairCmdYield r) s ((Stored s r RIDGE.PAIR_CMD 2).updPair (fun x => { x with yieldReq := true })) [] :=
  goesSet_of_eq (exec_pairCmdYield h) ((pairCmd_yield (stored_isPair.trans hpair)).trans
    (if_pos ⟨(stored_pairCmd_getB).trans hact, (stored_pairCmd_getB).trans hpartner⟩)) sets_refl

theorem goesSet_pairCmdYield_none (h : Accepts s r RIDGE.PAIR_CMD 2)
    (hnone : s.isPair = false ∨ s.getB RIDGE.PAIR_STAT_ACTIVE = false ∨ s.getB RIDGE.PAIR_STAT_PARTNER_HEALTHY = false) :
    GoesSet (.pairCmdYield r) s (Stored s r RIDGE.PAIR_CMD 2) [] := by
  refine goesSet_of_eq (exec_pairCmdYield h) ?_ sets_refl
  cases hpair : s.isPair
  case false => exact pairCmd_solo (stored_isPair.trans hpair)
  case true =>
    rw [pairCmd_yield (stored_isPair.trans hpair), stored_pairCmd_getB, stored_pairCmd_getB]
    refine if_neg fun ⟨hact, hpartner⟩ => ?_
    simp [hpair, hact, hpartner] at hnone

theorem stored_proofMay : ProofMay (Stored s r RIDGE.PAIR_CMD w) ↔ ProofMay s := by
  simp only [ProofMay, mode, proofBusy, stored_pairCmd_getB (f := RIDGE.PAIR_STAT_ACTIVE), stored_pairCmd_getF (f := DEV.MODE_STAT_MODE),
    stored_pairCmd_getF (f := RIDGE.PAIR_STAT_PARTNER_MODE), stored_pairCmd_getB (f := RIDGE.PROOF_STAT_BUSY)]

theorem goesSet_pairCmdProof (h : Accepts s r RIDGE.PAIR_CMD 1) (hpair : s.isPair) (hmay : ProofMay s) :
    GoesSet (.pairCmdProof r) s ((Stored s r RIDGE.PAIR_CMD 1).updPair (fun x => { x with proofActive := false })) [whole RIDGE.PROOF_STAT 0x80000000] := by
  have hsets : Sets (Stored s r RIDGE.PAIR_CMD 1) ((Stored s r RIDGE.PAIR_CMD 1).setN RIDGE.PROOF_STAT (2 ^ 31)) [whole RIDGE.PROOF_STAT 0x80000000] :=
    sets_setReg sets_refl (by simp)
  refine goesSet_of_eq (exec_pairCmdProof h) ?_ (hsets.updPair _)
  rw [pairCmd_proof (stored_isPair.trans hpair), if_pos (stored_proofMay.2 hmay), stored_pairCmd_getB, hmay.1]

theorem goesSet_pairCmdProof_refused (h : Accepts s r RIDGE.PAIR_CMD 1) (hpair : s.isPair) (hmay : ¬ ProofMay s) :
    GoesSet (.pairCmdProof r) s (Stored s r RIDGE.PAIR_CMD 1) [(RIDGE.PROOF_STAT_RESULT, 3)] :=
  goesSet_of_eq (exec_pairCmdProof h) ((pairCmd_proof (stored_isPair.trans hpair)).trans (if_neg (stored_proofMay.not.2 hmay)))
    (sets_refl.field RIDGE.PROOF_STAT_RESULT 3)

theorem wordActs_ridgeCntClr (old : Word) : s.wordActs r .ridge 0 0 RIDGE.CNT_CTRL 1#32 old = s.ridgeCntClr := rfl

theorem goesSet_ridgeCntClr (h : Accepts s r RIDGE.CNT_CTRL 1) : GoesSet (.ridgeCntClr r) s (Stored s r RIDGE.CNT_CTRL 1)
    [whole RIDGE.CNT_COPY 0, whole RIDGE.CNT_RELAY 0, whole RIDGE.CNT_SHADOW 0, whole RIDGE.CNT_BELAY 0] := by
  have hsets : Sets (Stored s r RIDGE.CNT_CTRL 1) (Stored s r RIDGE.CNT_CTRL 1).ridgeCntClr
      [whole RIDGE.CNT_BELAY 0, whole RIDGE.CNT_SHADOW 0, whole RIDGE.CNT_RELAY 0, whole RIDGE.CNT_COPY 0] :=
    sets_setReg (sets_setReg (sets_setReg (sets_setReg sets_refl (by simp)) (by simp [whole])) (by simp [whole])) (by simp [whole])
  refine goesSet_of_eq (congrArg Host.Outcome.next ((hostWrite_accepted h regAt_ridgeCntCtrl).trans (wordActs_ridgeCntClr _))) rfl
    (sets_of_mem_iff hsets fun x => ?_)
  simp only [List.mem_cons, List.not_mem_nil, or_false]
  tauto

end Commands

/-! ### The proof test's end, demotion, settling, BELAY_N and revert (R461 to R464, R467, R471) -/

section Rest

variable {step : BitVec 4} {index : Byte}

/-- The result that the proof test's end shows (R471). -/
abbrev proofShown (s : State) (result step index : Nat) : State :=
  (((s.setF RIDGE.PROOF_STAT_BUSY 0).setF RIDGE.PROOF_STAT_RESULT result).setF RIDGE.PROOF_STAT_FAIL_STEP step).setF RIDGE.PROOF_STAT_FAIL_INDEX index

theorem sets_proofShown {result step index : Nat} (hresult : result < 4) (hstep : step < 16) (hindex : index < 256) :
    Sets s (proofShown s result step index) [(RIDGE.PROOF_STAT_BUSY, 0), (RIDGE.PROOF_STAT_RESULT, result), (RIDGE.PROOF_STAT_FAIL_STEP, step),
      (RIDGE.PROOF_STAT_FAIL_INDEX, index)] :=
  (((sets_refl.field RIDGE.PROOF_STAT_BUSY 0).field RIDGE.PROOF_STAT_RESULT result hresult).field RIDGE.PROOF_STAT_FAIL_STEP step hstep).field
    RIDGE.PROOF_STAT_FAIL_INDEX index hindex

/-- The test's own controller keeps its role (R471). -/
theorem exec_proofTestEnd (hbusy : s.proofBusy) (hrole : s.getB RIDGE.PAIR_STAT_ACTIVE = false ∨ s.pair.proofActive) :
    exec (.proofTestEnd step index) s = .next (if step.toNat = 0 then proofShown s 1 step.toNat 0
      else (proofShown s 2 step.toNat index.toNat).raise 217 [step.toNat, index.toNat]) := by
  have hkeeps : ¬ (s.getB RIDGE.PAIR_STAT_ACTIVE ∧ s.pair.proofActive = false) := fun ⟨hact, hproof⟩ => by simp [hact, hproof] at hrole
  refine (if_pos hbusy : execProofTestEnd step index s = _).trans ?_
  simp only [if_neg hkeeps]
  split <;> rfl

theorem goesSet_proofTestEnd_passed (hbusy : s.proofBusy) (hrole : s.getB RIDGE.PAIR_STAT_ACTIVE = false ∨ s.pair.proofActive) :
    GoesSet (.proofTestEnd 0 index) s s [(RIDGE.PROOF_STAT_BUSY, 0), (RIDGE.PROOF_STAT_RESULT, 1), (RIDGE.PROOF_STAT_FAIL_STEP, 0),
      (RIDGE.PROOF_STAT_FAIL_INDEX, 0)] :=
  goesSet_of_eq (exec_proofTestEnd hbusy hrole) (if_pos rfl) (sets_proofShown (by decide) (by decide) (by decide))

theorem goesRaise_proofTestEnd_failed (hbusy : s.proofBusy) (hrole : s.getB RIDGE.PAIR_STAT_ACTIVE = false ∨ s.pair.proofActive) (hstep : step ≠ 0) :
    GoesRaise (.proofTestEnd step index) s s [(RIDGE.PROOF_STAT_BUSY, 0), (RIDGE.PROOF_STAT_RESULT, 2), (RIDGE.PROOF_STAT_FAIL_STEP, step.toNat),
      (RIDGE.PROOF_STAT_FAIL_INDEX, index.toNat)] 217 [step.toNat, index.toNat] := by
  have hne : ¬ step.toNat = 0 := fun h => hstep (BitVec.eq_of_toNat_eq h)
  exact goesRaise_of_eq ((exec_proofTestEnd hbusy hrole).trans (by rw [if_neg hne])) (sets_proofShown (by decide) step.isLt index.isLt)

/-- The role left and the token let go (R461). -/
abbrev demoted (s : State) : State := (s.leaveRole.setF RIDGE.PAIR_STAT_DEMOTED 1).setF RIDGE.PAIR_STAT_BELAY_OWN 0

theorem exec_epochDemote {n : NewerEpoch} (hop : s.operating) (hpair : s.isPair) (hact : s.isActive)
    (hnewer : epochNewer n.epoch.toNat (s.getF RIDGE.EPOCH_EPOCH)) : exec (.epochDemote n) s =
      .next (((demoted s).updPair (fun x => { x with demotedAt := s.dev.nowUs })).raise 213 (n.port.val :: leBytes 2 n.epoch.toNat)) := by
  have hexec : exec (.epochDemote n) s = .next (((demoted s).updPair (fun x => { x with demotedAt := (demoted s).dev.nowUs })).raise 213
      (n.port.val :: leBytes 2 n.epoch.toNat)) := if_pos ⟨hop, hpair, hact, hnewer⟩
  rw [hexec, demoted, setF_dev, setF_dev, leaveRole_nowUs]

theorem exec_partnerWaitExpiry (hpair : s.isPair) (hmode : s.mode = mWATCH) (hstandby : s.isStandby) (hnew : s.pair.settled = false)
    (hlink : s.getB RIDGE.PAIR_STAT_LINK = false) (hform : s.dev.form = 1)
    (htoken : s.getB RIDGE.PAIR_CFG_BELAY_EN = false ∨ s.getB RIDGE.PAIR_STAT_BELAY_OWN)
    (hwait : s.pair.watchAt + 1000 * s.getF RIDGE.PAIR_TMO_PARTNER_WAIT ≤ s.dev.nowUs) :
    exec .partnerWaitExpiry s = .next (s.settleActive.raise 212 [1]) := by
  refine if_pos ⟨hpair, hmode, hstandby, hnew, ?_, ?_, hwait⟩
  · simp [hlink, hform]
  · rcases htoken with h | h <;> simp [h]

theorem exec_roleSettle_home (hstandby : s.isStandby) (hmode : s.mode = mWATCH) (hnew : s.pair.settled = false)
    (hlink : s.getB RIDGE.PAIR_STAT_LINK) (hform : s.dev.form = 1) (hcopy : s.pair.copy = none)
    (htoken : s.getB RIDGE.PAIR_CFG_BELAY_EN = false ∨ s.getB RIDGE.PAIR_STAT_BELAY_OWN)
    (hpartner : s.getF RIDGE.PAIR_STAT_PARTNER_MODE = mWATCH) : exec .roleSettle s = .next s.settleActive := by
  refine (if_pos ⟨hstandby, hmode, hnew, hlink⟩ : execRoleSettle s = _).trans ((if_pos hform).trans (if_pos ⟨by rw [hcopy]; rfl, ?_, hpartner⟩))
  rcases htoken with h | h <;> simp [h]

theorem goesSet_roleSettle_partner (hstandby : s.isStandby) (hmode : s.mode = mWATCH) (hnew : s.pair.settled = false)
    (hlink : s.getB RIDGE.PAIR_STAT_LINK) (hform : s.dev.form = 2) : GoesSet .roleSettle s (s.updPair (fun x => { x with settled := true })) [] :=
  goesSet_of_eq ((if_pos ⟨hstandby, hmode, hnew, hlink⟩ : execRoleSettle s = _).trans (if_neg (by rw [hform]; decide))) rfl sets_refl

theorem exec_belayClaim {high : Bool} (hop : s.operating) (hpair : s.isPair) (hen : s.getB RIDGE.PAIR_CFG_BELAY_EN)
    (hown : s.getB RIDGE.PAIR_STAT_BELAY_OWN = false) (hlow : s.getB RIDGE.PAIR_STAT_BELAY_LOW = false)
    (hstuck : s.getB (SEQ.INP_STAT_STUCK 4) = false) : exec (.belayClaim high) s =
      if high then .next ((s.setF RIDGE.PAIR_STAT_BELAY_OWN 1).incSat RIDGE.CNT_BELAY_CLAIMS) else .next (s.incSat RIDGE.CNT_BELAY_ARB_LOST) :=
  if_pos ⟨hop, hpair, hen, hown, hlow, hstuck⟩

theorem goesSet_belayClaim (hop : s.operating) (hpair : s.isPair) (hen : s.getB RIDGE.PAIR_CFG_BELAY_EN)
    (hown : s.getB RIDGE.PAIR_STAT_BELAY_OWN = false) (hlow : s.getB RIDGE.PAIR_STAT_BELAY_LOW = false)
    (hstuck : s.getB (SEQ.INP_STAT_STUCK 4) = false) :
    GoesSet (.belayClaim true) s s [(RIDGE.PAIR_STAT_BELAY_OWN, 1), oneMore s RIDGE.CNT_BELAY_CLAIMS] ∧
      GoesSet (.belayClaim false) s s [oneMore s RIDGE.CNT_BELAY_ARB_LOST] :=
  ⟨goesSet_of_eq (exec_belayClaim hop hpair hen hown hlow hstuck) rfl
      ((sets_refl.field RIDGE.PAIR_STAT_BELAY_OWN 1).counted RIDGE.CNT_BELAY_CLAIMS),
    goesSet_of_eq (exec_belayClaim hop hpair hen hown hlow hstuck) rfl (sets_refl.counted RIDGE.CNT_BELAY_ARB_LOST)⟩

theorem goesSet_belayRelease (hpair : s.isPair) (hown : s.getB RIDGE.PAIR_STAT_BELAY_OWN)
    (hdue : s.pair.handover ∨ s.pair.yielded ∨ s.getB RIDGE.PAIR_STAT_DEMOTED ∨ s.getB RIDGE.PAIR_STAT_ACTIVE = false) :
    GoesSet .belayRelease s s [(RIDGE.PAIR_STAT_BELAY_OWN, 0)] := by
  refine goesSet_of_eq (if_pos ⟨hpair, hown, ?_⟩) rfl (sets_refl.field RIDGE.PAIR_STAT_BELAY_OWN 0)
  rcases hdue with h | h | h | h <;> simp [h]

theorem revertStep_of_ok (h : s.revertOk) : s.revertStep.getB RIDGE.PAIR_STAT_REVERT_PEND = true := by
  refine getB_of_getF_toNat (b := true) ?_
  rw [revertStep, if_pos h, getF_setF_addr (by decide), getF_setF_self (by decide)]
  rfl

theorem goes_revertHoldoffExpiry (hok : s.revertOk) (hleft : s.revertStep.getF RIDGE.REVERT_LEFT_S = 0) :
    Goes .revertHoldoffExpiry s (fun t => t.pair.revertSent = true ∧ t.getB RIDGE.PAIR_STAT_REVERT_PEND = true ∧ t.getF RIDGE.REVERT_LEFT_S = 0 ∧
      t.mem = s.mem) := by
  refine ⟨s.revertStep.updPair (fun x => { x with revertSent := true }), if_pos ⟨hok, hleft⟩, rfl, revertStep_of_ok hok, hleft, ?_⟩
  obtain ⟨from_, pend, left, he⟩ := revertStep_eq s
  rw [updPair_mem, he, setF_mem, setF_mem, updPair_mem]

end Rest

/-- Settles O33: a takeover without a copy by what the role, the mode and the quiet raises write; a demotion by the time that no reaction moves. Asserted
with it are the model's choices of log entries 77 and 76. -/
theorem pairRoles : Obligations.PairRoles := by
  unfold Obligations.PairRoles
  refine ⟨fun s hop hsb hfree hready hl => exec_takeover_missedCopies ⟨hop, hsb, hfree, hl⟩ hready,
    fun s hop hsb hfree hready hl => exec_takeover_yield ⟨hop, hsb, hfree, hl⟩ hready,
    fun s hop hsb hfree hready hl => exec_takeover_tokenRelease ⟨hop, hsb, hfree, hl⟩ hready,
    fun s hop hsb hfree hready hcopy hlearn hproof hmode htell hfill hl =>
      goes_takeover_yield ⟨hop, hsb, hfree, hl⟩ hready hcopy hlearn hproof hmode htell hfill,
    fun n s hfirst hlater hl => ?first, fun r s => goesSet_pairCmdYield, fun r s => goesSet_pairCmdYield_none,
    fun s => exec_plannedHandoverBoundary, fun s => goes_plannedHandoverBoundary,
    fun r s h hpair hact hmode hpartner hbusy => goesSet_pairCmdProof h hpair ⟨hact, hmode, hpartner, hbusy⟩,
    fun r s h hpair hnot => goesSet_pairCmdProof_refused h hpair fun ⟨hact, hmode, hpartner, hbusy⟩ => ?refused,
    fun index s => goesSet_proofTestEnd_passed, fun step index s => goesRaise_proofTestEnd_failed,
    fun n s => exec_epochDemote,
    fun s hheld => goesSet_of_eq (if_pos hheld) rfl (sets_refl.field RIDGE.PAIR_STAT_DEMOTED 0), fun s => exec_partnerWaitExpiry,
    fun s => exec_roleSettle_home, fun s => goesSet_roleSettle_partner, fun s => goesSet_belayClaim, fun s => goesSet_belayRelease,
    fun s => goes_revertHoldoffExpiry, fun s hop hform hact hsusp => goesSet_of_eq (if_pos ⟨hop, hform, hact, hsusp⟩) rfl sets_refl,
    fun r s => goesSet_ridgeCntClr⟩
  case first =>
    refine (heldRun_of_late_nil hl : execFirstSetpointAfterTakeover s = _).trans ?_
    simp only [hfirst]
    exact if_neg hlater
  case refused => simp [hact, hmode, hpartner, hbusy] at hnot

end Sys2Proof.Proofs
end
